-- ==== Sys2Proof/Word.lean ====
section
/-! DEFINITION. The words of the ZP9640's pins, buses and registers, and their plainest arithmetic.

A byte on a two-wire port and a raw converter code are bit vectors, as the manual treats them (R5, R357).
A register field is kept as its unsigned value; signed fields (s16, s32) are read and written through the two's
complement conversions below (R11). -/

namespace Sys2Proof

/-- One byte of a two-wire transaction or of the flash. -/
abbrev Byte := BitVec 8

/-- One raw 16-bit converter code (R357, R456). -/
abbrev Code := BitVec 16

/-- The 8 bay numbers and the 8 string numbers (R1). -/
abbrev Bay := Fin 8

/-- The 48 phase channels; channel `n` is in bay `n` div 6 with phase index `n` mod 6 (R1). -/
abbrev Chan := Fin 48

/-- A string number (R1). -/
abbrev Str := Fin 8

/-- A fuse channel F0-F15: F0-F7 bay output switches, F8-F15 string switches (R1). -/
abbrev Fuse := Fin 16

/-- An instant or a span of time, in PWM edge units of 156.25 ps (R1, R77). -/
abbrev Edges := Nat

/-- 1 microsecond in edge units. -/
def edgeUs : Nat := 6400
/-- 1 millisecond in edge units. -/
def edgeMs : Nat := 6400000
/-- 1 second in edge units. -/
def edgeSec : Nat := 6400000000
/-- 5 ns, one period of the supervisor core and the register fabric (R1). -/
def edge5ns : Nat := 32

/-- Two's complement reading of a `w`-bit field (R11, s16 and s32 fields). -/
def toInt (w v : Nat) : Int :=
  if v < 2 ^ (w - 1) then (v : Int) else (v : Int) - (2 ^ w : Nat)

/-- Two's complement writing of a `w`-bit field. -/
def ofInt (w : Nat) (i : Int) : Nat := (i % ((2 ^ w : Nat) : Int)).toNat

/-- An unsigned result held in a `w`-bit field saturates at the field's ends. -/
def satNat (w v : Nat) : Nat := min v (2 ^ w - 1)

/-- A signed result held in a `w`-bit field saturates at the field's ends. -/
def satInt (w : Nat) (i : Int) : Nat :=
  ofInt w (max (-((2 ^ (w - 1) : Nat) : Int)) (min i (((2 ^ (w - 1) : Nat) : Int) - 1)))

/-- Bit `k` of a field. -/
def bitOf (v k : Nat) : Bool := v.testBit k

/-- `v` with bit `k` written. -/
def setBit (v k : Nat) (b : Bool) : Nat :=
  if b then v ||| (1 <<< k) else v &&& ((2 ^ (max 64 (k + 1)) - 1) ^^^ (1 <<< k))

/-- Clamp an integer between two bounds. -/
def clampInt (lo hi i : Int) : Int := max lo (min hi i)

/-- Clamp a rational between two bounds. -/
def clampRat (lo hi q : Rat) : Rat := max lo (min hi q)

end Sys2Proof
end

