-- ==== Sys2Proof/Syntax.lean ====
section
/-! DEFINITION. The commands a ZP9640 takes: everything the outside world can do to it, and every event its clocks,
converters and engines bring about (spec/opcode_table.json), with their operands. -/

namespace Sys2Proof

/-- The two feeds (R30, R199). -/
inductive Feed where
  | a | b
deriving DecidableEq, Repr

/-- The supplies whose loss asserts the VDD power-on reset (R462). -/
inductive Supply where
  | vdd | vdda | vio | vio18
deriving DecidableEq, Repr

/-- A wake cause latched in SHIP (R69): WAKE held low 10 ms, AC presence, or a BI excursion of a string. -/
inductive WakeCause where
  | wake | ac | bi (s : Str)
deriving DecidableEq, Repr

/-- The kinds of crystal fault (R20, R21). -/
inductive XtalFault where
  | noEdge | pllLost
deriving DecidableEq, Repr

/-- How the wheel's reference is lost (R35); a frequency loss carries the measured frequency in 0.01 Hz. The command also
says whether feed B is valid by the same rule (R41). -/
inductive LossReason where
  | magnitude | frequency (f : Nat) | noCrossing
deriving DecidableEq, Repr

/-- The ports: H to the host, S to the sleds, and the debug port (R391, R433). -/
inductive PortId where
  | h | s | d
deriving DecidableEq, Repr

/-- The fault that cuts a transaction short, condition codes 1 to 5 of R400. -/
inductive AbortCond where
  | srInAddressAck | srInWriteAck | srForReadAck | withinByte | sclLow
deriving DecidableEq, Repr

/-- How a write the 9640 makes as a controller ends (R405-R407): every byte acknowledged, a byte not acknowledged,
or arbitration lost. -/
inductive BusResult where
  | acked | nack (byte : Nat) | lostArb
deriving DecidableEq, Repr

/-- How bus recovery ends (R408): SDA came free, SDA still low after nine clocks, or SCL held low for 35 ms. -/
inductive Recovery where
  | freed | sdaLow | sclLow
deriving DecidableEq, Repr

/-- How a string removal is found (R224): loss of BPRES, or the collapse comparator on BV. -/
inductive RemovalKind where
  | presence | collapse
deriving DecidableEq, Repr

/-- What start-up samples (R53): the ADDR pins, ACTIN in step 5, how long VDD was absent by the VKA timer, the flash
found by SFDP (`fclk` is the highest clock its table allows, in MHz), the key slots whose OTP words carry an uncorrectable error (R427), and the levels of the presence, ready
and handle inputs of the bays and strings, one bit each (R139, R222). -/
structure BootIn where
  addr : Fin 16
  actin : Bool
  vddAbsentMs : Nat
  flashUnmet : Option (Fin 16)
  jedec : BitVec 24
  dens : Byte
  fclk : Code
  keyFault : Fin 16
  bayPres : Byte
  bayOk : Byte
  bayEj : Byte
  bPres : Byte
  bOk : Byte
deriving DecidableEq, Repr

/-- What the wheel measures by a sharing-tick point: the rate the PLL sets and the reference frequency it measures
(0.01 Hz; 0 when not measured), the phase error in ticks, the running measurement of R41 when it updates, and at angle 0 the
crests of the feeds measured over the cycle just ended (R199), in microvolts at the pin. -/
structure WheelMeas where
  rate : Nat
  fmains : Nat
  perr : Int
  bofs : Option Int
  crestA : Nat
  crestB : Nat
deriving DecidableEq, Repr

/-- Five AC converter codes, the five samples of a crest check (R199). -/
structure Codes5 where
  c0 : Code
  c1 : Code
  c2 : Code
  c3 : Code
  c4 : Code
deriving DecidableEq, Repr

/-- The VTAP0-3 codes of one instant (R133). -/
structure Codes4 where
  c0 : Code
  c1 : Code
  c2 : Code
  c3 : Code
deriving DecidableEq, Repr

/-- One simultaneous sample of a string: BV, BI and BT0-BT3 (R18). -/
structure StrCodes where
  bv : Code
  bi : Code
  bt0 : Code
  bt1 : Code
  bt2 : Code
  bt3 : Code
deriving DecidableEq, Repr

/-- A sync record of a twin frame (R375); every record carries its sequence. -/
inductive SyncRec where
  | empty (seq : Byte)
  | reg (seq page off : Byte) (width : Fin 5) (boundary : Byte) (value : BitVec 32)
  | decision (seq kind unit : Byte) (value : BitVec 32) (cyc tick : Code)
  | contract (seq id : Byte) (half : Bool) (bytes : List Byte)
  | capsule (seq : Byte) (s : Str) (off : Byte) (bytes : List Byte)
  | state (seq : Byte) (off : Code) (bytes : List Byte)
  | health (seq : Byte) (word : BitVec 32) (eccCor padErr injFail : Code)
deriving DecidableEq, Repr

/-- A frame of the twin link (R373), with whether its CRC matched. -/
structure TwinFrame where
  crcOk : Bool
  seq : Code
  mode : Fin 8
  owner : Bool
  fit : Bool
  katReq : Bool
  katDone : Bool
  katPass : Bool
  rxLoss : Bool
  yield : Bool
  swReq : Bool
  xfer : Bool
  ack : Code
  health : BitVec 32
  angle : Code
  cyc : BitVec 32
  tags : List Byte
  duties : List Code
  digest : List Code
  recs : List SyncRec
deriving DecidableEq, Repr

/-- The bytes of SEC_CMD after the command byte, and the port they came by (R426). -/
structure SecCmd where
  port : PortId
  key : Byte
  arg : Byte
  duty : Code
deriving DecidableEq, Repr


/-- The 192 commands: one constructor per row of the command table. The first operand of every command is the instant
at which it happens (R77 edge units). -/
inductive Instr where
  /-- POWER_ON_RESET, R53: Release of the VDD power-on reset starts the start-up sequence that ends with the choice of the first mode. -/
  | powerOnReset (t : Edges) (b : BootIn)
  /-- RST_N_ASSERTED, R66: Asserting RST_N resets everything except the VKA domain and releases every output within 100 ns. -/
  | rstNAsserted (t : Edges)
  /-- SUPPLY_LOSS, R462: VDD, VDDA, VIO or VIO18 stays below its falling threshold for 10 us and asserts the VDD power-on reset. -/
  | supplyLoss (t : Edges) (sup : Supply)
  /-- VKA_LOST, R71: VKA falls below its threshold and the ship note, the wake causes and the GECKO latch are lost. -/
  | vkaLost (t : Edges)
  /-- POWER_FAIL_WARNING, R341: VIO falls below 3.05 V: erases are suspended, the journal records are written and the recorder queue is flushed. -/
  | powerFailWarning (t : Edges)
  /-- SHIP_WAKE, R69: In SHIP the VKA domain latches a wake cause: WAKE low, AC presence or a BI excursion. -/
  | shipWake (t : Edges) (c : WakeCause)
  /-- CRYSTAL_FAULT, R20: A missing crystal edge or a PLL lock loss moves the outputs to the core RC and causes failover or TADPOLE. -/
  | crystalFault (t : Edges) (kind : XtalFault)
  /-- CLOCK_HANDOVER, R56: After 100 ms of fault-free crystal, each bay's PWM generator moves to the PLL at its next period boundary. -/
  | clockHandover (t : Edges)
  /-- SUPERVISOR_RESTART, R65: The watchdog is not serviced for 10 ms and the supervisor alone restarts while the hardware paths keep running. -/
  | supervisorRestart (t : Edges)
  /-- SUPERVISOR_RESTART_END, R65: The restarted supervisor checks its configuration digest and applies the mode transition of R61. -/
  | supervisorRestartEnd (t : Edges) (digestOk : Bool)
  /-- OPERATING_SECOND, R12: Each second with VDD good advances the operating-seconds count used by timestamps, expiries and ageing. -/
  | operatingSecond (t : Edges)
  /-- WHEEL_POINT, R25: A sharing-tick wheel point runs its ordered work: window closes, estimator, tracker, capping, commits, sheds and trims. -/
  | wheelPoint (t : Edges) (m : WheelMeas)
  /-- CALENDAR_ENTRY, R46: A calendar entry fires at its angle and performs its action, or is dropped if it is still late when its angle returns. -/
  | calendarEntry (t : Edges) (e : Fin 256)
  /-- REFERENCE_VALID, R35: The wheel reference has been valid for 1/8 cycle and acquisition starts. -/
  | referenceValid (t : Edges) (freq : Nat)
  /-- REFERENCE_LOST, R35: The wheel reference is lost by magnitude, frequency or missing crossing, leading to feed B carry, FLYWHEEL or FREE. -/
  | referenceLost (t : Edges) (why : LossReason) (bValid : Bool)
  /-- WHEEL_LOCK, R38: The phase error has stayed below 2 degrees for 2 cycles and lock is declared. -/
  | wheelLock (t : Edges)
  /-- ACQUIRE_TIMEOUT, R37: Six reference cycles in ACQUIRE without lock return the wheel to FREE or FLYWHEEL. -/
  | acquireTimeout (t : Edges)
  /-- PHASE_ERROR_CYCLE, R37: A phase error above 10 degrees for a whole cycle takes a LOCKED wheel back to ACQUIRE. -/
  | phaseErrorCycle (t : Edges)
  /-- FEED_A_RETURN, R42: Feed A has been valid for 10 cycles during feed B carry and the PLL returns to feed A. -/
  | feedAReturn (t : Edges) (diff : Int)
  /-- CREST_CHECK, R199: At a crest-check angle the five-sample mean of a feed phase is compared with the predicted waveform. -/
  | crestCheck (t : Edges) (x : Feed) (p : Fin 3) (k : Fin 8) (codes : Codes5)
  /-- AC_ZERO_CROSSING, R200: A phase zero crossing closes its RMS window and ends a complete cycle for qualification counting. -/
  | acZeroCrossing (t : Edges) (x : Feed) (p : Fin 3) (rising : Bool) (rms : Nat) (leads : Bool)
  /-- RMS_WINDOW_DEADLINE, R200: No crossing has arrived 0.25 cycle after a predicted crossing, so the RMS window closes at the deadline. -/
  | rmsWindowDeadline (t : Edges) (x : Feed) (p : Fin 3) (rms : Nat)
  /-- FREQUENCY_DEADLINE, R200: No positive-going crossing of ACx1 has arrived within 22.22 ms and the frequency check fails. -/
  | frequencyDeadline (t : Edges) (x : Feed)
  /-- BAY_PERIOD_START, R78: At a bay period start the duty, the slot table, the region set and any loop engine commit take effect, and adds and releases are tested. -/
  | bayPeriodStart (t : Edges) (b : Bay)
  /-- LOOP_TRIGGER, R102: At the sample trigger the compensator computes the next duty from the output conversion. -/
  | loopTrigger (t : Edges) (b : Bay) (code vlink : Code)
  /-- BAY_OUTPUT_CONVERSION, R108: A bay output conversion on the 500 ns grid feeds error-band step detection and the other consumers. -/
  | bayOutputConversion (t : Edges) (b : Bay) (code : Code)
  /-- IMON_SAMPLE, R83: An IMON conversion gives the phase current and drives dI/dt detection, offset tracking and rail fault detection. -/
  | imonSample (t : Edges) (n : Chan) (code : Code)
  /-- SHED_DWELL_EXPIRY, R89: The dwell time PH_DWELL since the bay's last change of N ends, so a shed may be decided again. -/
  | shedDwellExpiry (t : Edges) (b : Bay)
  /-- PHASE_OFFSET_TAKEN, R94: A new phase completes 256 IMON samples, sets PH_OFFSET and enters WARM. -/
  | phaseOffsetTaken (t : Edges) (n : Chan)
  /-- PH_TRIMRST, R92: Writing 0xA5 discards a channel's trim and treats the phase as new. -/
  | phTrimrst (t : Edges) (n : Chan) (key : Byte)
  /-- LE_SHCTL, R117: Writing a bay's bit offers its loop engine shadow copy for commit at the next period start. -/
  | leShctl (t : Edges) (mask : Byte)
  /-- LE_FECLR, R123: Writing 0xA5 ends a FAULT following-error action and lets the bay rejoin. -/
  | leFeclr (t : Edges) (b : Bay) (key : Byte)
  /-- FOLLOWING_ERROR, R122: The following-error count reaches LE_FETIME/T and the configured DROP or FAULT action is taken. -/
  | followingError (t : Edges) (b : Bay)
  /-- FE_RECOVERED, R123: The error has stayed within LE_FELIM minus LE_FEHYS for LE_FETIME and a DROP action ends. -/
  | feRecovered (t : Edges) (b : Bay)
  /-- DUTY_SATURATED, R106: The duty has been clamped for 1 ms without a break and event 0x2102 is raised. -/
  | dutySaturated (t : Edges) (b : Bay)
  /-- REGION_DWELL_EXPIRY, R115: A downward region change takes effect after LE_RDWELL periods. -/
  | regionDwellExpiry (t : Edges) (b : Bay)
  /-- SETPOINT_COMMAND, R132: A write of SHR_SPCMD starts, supersedes, parks or is refused as a set-point command. -/
  | setpointCommand (t : Edges) (target rate : Code) (seq : Byte)
  /-- SETPOINT_SLEW_STEP, R131: Every 1 us Vs moves toward its target at the rate in force. -/
  | setpointSlewStep (t : Edges)
  /-- BAY_PRESENCE_CHANGE, R139: BAYPRESb changes level, starting the presence debounce or the removal timing. -/
  | bayPresenceChange (t : Edges) (b : Bay) (level : Bool)
  /-- PRESENCE_DEBOUNCE, R139: The presence debounce ends and BAYENb is driven high. -/
  | presenceDebounce (t : Edges) (b : Bay)
  /-- BAYOK_RISE, R139: BAYOKb rises and the bay fuse goes to RAMP, or a waking bay continues to join. -/
  | bayokRise (t : Edges) (b : Bay)
  /-- BAY_OK_TIMEOUT, R139: BAYOKb stays low beyond SHR_OKTIME and the bay enters FAULT. -/
  | bayOkTimeout (t : Edges) (b : Bay)
  /-- BAY_EJECT_CHANGE, R144: BAYEJb is asserted or released, starting or cancelling an announced removal. -/
  | bayEjectChange (t : Edges) (b : Bay) (level : Bool)
  /-- BAY_LOST, R142: BAYPRESb deasserted for 1 ms is an unannounced removal and the bay goes to ABSENT at once. -/
  | bayLost (t : Edges) (b : Bay)
  /-- BAY_PFC_LOST, R143: BAYOKb low for 1 ms in service is a loss of the PFC and the bay returns to PFCSTART. -/
  | bayPfcLost (t : Edges) (b : Bay)
  /-- BAY_LEAVE_FORCED, R140: SHR_LVTO passes after the ramp weight reaches 0 and the leave completes anyway. -/
  | bayLeaveForced (t : Edges) (b : Bay)
  /-- DEEP_TIMEOUT, R141: A bay has been in STANDBY for TRK_DEEPTIME and enters DEEP with BAYENb low. -/
  | deepTimeout (t : Edges) (b : Bay)
  /-- PRESENCE_LOSS_100MS, R92: Presence has been deasserted for 100 ms, so the trims are discarded and a latched fuse may be cleared on reassertion. -/
  | presenceLoss100ms (t : Edges) (x : Fin 16)
  /-- WARN_PULSE, R159: A filtered WARN pulse ends and is classified by its width. -/
  | warnPulse (t : Edges) (i : Fin 16) (fall rise : Edges)
  /-- WARN_STUCK, R161: A WARN input stays low beyond STP_STUCKT and is ignored. -/
  | warnStuck (t : Edges) (i : Fin 16) (fall : Edges)
  /-- WARN_RELEASED, R161: A stuck WARN input has been high for 1 ms and is released. -/
  | warnReleased (t : Edges) (i : Fin 16)
  /-- FF_INJECTION, R165: STP_FFDLY after acceptance the class envelope rises by 1 and its hold starts. -/
  | ffInjection (t : Edges) (c : Fin 4)
  /-- FF_HOLD_EXPIRY, R165: A class hold expires as a miss and the envelope begins to decay. -/
  | ffHoldExpiry (t : Edges) (c : Fin 4)
  /-- FF_DECAY_STEP, R165: Every 1 us after its hold each envelope decays with time constant STP_FFTAU. -/
  | ffDecayStep (t : Edges)
  /-- SAG_EPISODE_CLOSE, R170: STP_SAGHOLD after the last catching sample the sag episode closes and its charge is booked and handed over. -/
  | sagEpisodeClose (t : Edges) (s : Str)
  /-- REGULATION_POINT_SAMPLE, R171: A 1 us sample of the regulation point is tested against STP_VDEEP and tracked in STP_VMIN. -/
  | regulationPointSample (t : Edges) (codes : Codes4)
  /-- MAILBOX_RECORD, R178: A 16-byte contract record committed at port S byte 0x0F is checked and staged. -/
  | mailboxRecord (t : Edges) (r : List Byte)
  /-- CONTRACT_WRITE, R194: A host write of the contract window completed at byte 1F is checked and staged with origin HOST. -/
  | contractWrite (t : Edges) (r : List Byte)
  /-- GRANT_READBACK, R177: A one-byte write of a contract ID selects the grant record returned on read. -/
  | grantReadback (t : Edges) (id : Byte)
  /-- GRANT_WRITE, R184: One queued grant record is written by CROAK to the sled's address on port S. -/
  | grantWrite (t : Edges) (res : BusResult)
  /-- PACE_RETURN_ACCEPTANCE, R189: Before a PACE release an internal WARN acceptance of class CAP_RCLS is made for the group. -/
  | paceReturnAcceptance (t : Edges) (g : Fin 16)
  /-- RIDE_THROUGH_WINDOW_END, R209: HUP_RTW cycles after the declaration RTARM falls and the bays are released. -/
  | rideThroughWindowEnd (t : Edges)
  /-- RESTART_STAGGER, R210: At each HUP_STAG step of RESTART the next bay's BAYENb rises. -/
  | restartStagger (t : Edges)
  /-- RESTART_TIMEOUT, R210: HUP_RSTO passes in RESTART and WALKUP begins, or event 0x1107 is raised. -/
  | restartTimeout (t : Edges)
  /-- HANDBACK_QUIET, R211: Every string's discharge has stayed below STP_SAGI for HUP_HBT and RUN begins. -/
  | handbackQuiet (t : Edges)
  /-- HANDBACK_TIMEOUT, R211: HUP_HBTO passes in HANDBACK and RUN begins anyway. -/
  | handbackTimeout (t : Edges)
  /-- CHATTER_HOLD_END, R212: The chatter hold timer expires and the stage becomes RESTART or ON_BATTERY. -/
  | chatterHoldEnd (t : Edges)
  /-- CHARGE_ELIGIBLE, R231: A string's charging delay after insertion or RUN entry ends and start selection may run. -/
  | chargeEligible (t : Edges) (s : Str)
  /-- STRING_PRESENCE_CHANGE, R221: BPRESs is asserted and the string presence debounce starts. -/
  | stringPresenceChange (t : Edges) (s : Str)
  /-- STRING_PRESENCE_DEBOUNCE, R221: The string presence debounce ends and the 1 s voltage check begins. -/
  | stringPresenceDebounce (t : Edges) (s : Str)
  /-- STRING_INSERT_CHECK, R221: The 1 s mean of BV per cell is checked, and the string switch goes to RAMP or the string goes to HALT. -/
  | stringInsertCheck (t : Edges) (s : Str)
  /-- STRING_REMOVAL, R224: BPRESs loss or BV collapse clamps the charge stage, opens the switch and records the removal. -/
  | stringRemoval (t : Edges) (s : Str) (kind : RemovalKind)
  /-- BOK_CHANGE, R225: A debounced BOKs change stops LITHIUM charging, or allows it again after 1 s high. -/
  | bokChange (t : Edges) (s : Str) (level : Bool)
  /-- STRING_SAMPLE, R229: A simultaneous string sample runs the charge average loop and the coulomb accumulator. -/
  | stringSample (t : Edges) (s : Str) (q : StrCodes)
  /-- CHARGE_PERIOD_START, R227: A charge period starts and drives the CHGA and CHGB edges from the duties. -/
  | chargePeriodStart (t : Edges) (s : Str)
  /-- CHARGE_CURRENT_LIMIT, R227: The BI comparator trips and truncates the current charge pulse. -/
  | chargeCurrentLimit (t : Edges) (s : Str)
  /-- CHARGE_SECOND, R237: Each 1 s window in a charge state evaluates -dV, dT/dt, temperature and voltage rules. -/
  | chargeSecond (t : Edges) (s : Str)
  /-- CHARGE_PHASE_TIMEOUT, R234: A charge phase timer, TOPOFF duration or TERMINATE rest expires and the state changes. -/
  | chargePhaseTimeout (t : Edges) (s : Str)
  /-- START, R240: The BST_CMD START command ends a host STOP. -/
  | start (t : Edges) (s : Str) (key : Byte)
  /-- STOP, R240: The BST_CMD STOP command puts the string in OFF with reason 16. -/
  | stop (t : Edges) (s : Str) (key : Byte)
  /-- CLEAR, R240: The BST_CMD CLEAR command restarts insertion of a HALTed string from step 2. -/
  | clear (t : Edges) (s : Str) (key : Byte)
  /-- ESTIMATOR_NAIVE_TIMEOUT, R246: WAIT has lasted 30 s without a capsule and the string estimator becomes NAIVE. -/
  | estimatorNaiveTimeout (t : Edges) (s : Str)
  /-- REST_CORRECTION, R252: A rest has lasted EST_RESTT and the SoC interval is intersected with the OCV interval. -/
  | restCorrection (t : Edges) (s : Str)
  /-- ESTIMATOR_HIBERNATE, R256: Low current and no estimator page selection for 10 s put the estimator into hibernation. -/
  | estimatorHibernate (t : Edges)
  /-- ESTIMATOR_WAKE, R256: A BI wake or a PAGE write selecting page 1C-1E wakes the estimator and books the hibernation interval. -/
  | estimatorWake (t : Edges) (byPage : Bool)
  /-- CAPSULE_PERIODIC_EXPORT, R258: Every EST_EXPINT hours a KNOWN string exports a new capsule. -/
  | capsulePeriodicExport (t : Edges) (s : Str)
  /-- EST_RIDX, R259: Writing EST_RIDX selects the string and resets capsule staging. -/
  | estRidx (t : Edges) (v : Byte)
  /-- CAPSULE_COMMIT, R260: At the stop of the transaction carrying capsule byte 127 the capsule is checked and made pending or rejected. -/
  | capsuleCommit (t : Edges) (byte127 : Bool)
  /-- STAGING_TIMEOUT, R261: No staging write for 1 s with bytes staged resets capsule staging. -/
  | stagingTimeout (t : Edges)
  /-- FUSE_SAMPLE, R275: A 5 us FI, FV and FGS sample updates the breaker accumulator, power-good and sag catching. -/
  | fuseSample (t : Edges) (c : Fuse) (fi fv fgs : Code)
  /-- FUSE_RAMP_WINDOW, R273: Each 100 us inrush window measures the V_sw fall and trips on three windows outside the band. -/
  | fuseRampWindow (t : Edges) (c : Fuse)
  /-- FUSE_RAMP_TIMEOUT, R273: FUS_TRAMP elapses with V_sw still above FUS_VDSPG and the channel trips. -/
  | fuseRampTimeout (t : Edges) (c : Fuse)
  /-- FUSE_HARD_TRIP, R276: The comparator finds FI above FUS_HARD or a reverse current and opens the channel. -/
  | fuseHardTrip (t : Edges) (c : Fuse) (rev : Bool) (fi : Code)
  /-- FUSE_SETTLE_DONE, R274: The power-good conditions have held for FUS_SETTLE and the channel goes ON. -/
  | fuseSettleDone (t : Edges) (c : Fuse)
  /-- FUSE_GATE_RISE_TIMEOUT, R277: FUS_TRISE passes without full gate enhancement or within V_sw limit, giving GATE_STUCK or a PG timeout. -/
  | fuseGateRiseTimeout (t : Edges) (c : Fuse)
  /-- FUSE_GATE_OFF, R272: FGS falls below FUS_FGSOFF in OPENING and the channel goes to OFF, RETRYWAIT or LATCHED. -/
  | fuseGateOff (t : Edges) (c : Fuse)
  /-- FUSE_GATE_FALL_TIMEOUT, R277: FUS_TFALL passes with FGS still above FUS_FGSOFF and the channel latches as GATE_NO_OFF. -/
  | fuseGateFallTimeout (t : Edges) (c : Fuse)
  /-- FUSE_RETRY, R280: The retry delay and the cooling condition are met and a tripped channel re-enters RAMP. -/
  | fuseRetry (t : Edges) (c : Fuse)
  /-- FUS_CLR, R280: Writing 0xA5 to FUS_CLR clears a LATCHED channel. -/
  | fusClr (t : Edges) (c : Fuse) (key : Byte)
  /-- THERMAL_EVALUATION, R290: A sensor evaluation at 10 Hz or 200 Hz updates derating, throttling, broken-sensor tests and GECKO. -/
  | thermalEvaluation (t : Edges) (k : Fin 52) (code : Code) (die : Int)
  /-- DIE_COMPARATOR, R296: The fixed 150 C die comparator trips and sets the GECKO latch. -/
  | dieComparator (t : Edges)
  /-- RELOAD, R63: The GL_CMD RELOAD command loads the chosen slot through TADPOLE. -/
  | reload (t : Edges) (key : Byte)
  /-- REVERT, R315: The GL_CMD REVERT command marks the version FAILED and loads the lower slot through TADPOLE. -/
  | revert (t : Edges) (key : Byte)
  /-- LOCKOUT, R61: The GL_CMD LOCKOUT command enters LOCKOUT with cause 0x0C. -/
  | lockout (t : Edges) (key : Byte)
  /-- RESUME, R62: The GL_CMD RESUME command leaves a host or ship LOCKOUT for TADPOLE. -/
  | resume (t : Edges) (key : Byte)
  /-- SHIP, R68: The GL_CMD SHIP command starts the SHIP sequence with its flush and journal writes. -/
  | ship (t : Edges) (key : Byte)
  /-- SHIP_FLUSH_DONE, R68: The ship flush and journal header complete, and the outputs go off and the note is sealed at the next quadrant point. -/
  | shipFlushDone (t : Edges)
  /-- SHIP_NOT_ENTERED, R68: VDD is still good 2 s after the seal and the 9640 enters LOCKOUT with cause 0x11. -/
  | shipNotEntered (t : Edges)
  /-- UPLOAD_OPEN, R306: The IMG_UPCMD OPEN command marks the target slot not READY and erases it. -/
  | uploadOpen (t : Edges) (key : Byte)
  /-- UPLOAD_CLOSE, R306: The IMG_UPCMD CLOSE command checks the uploaded slot and marks it READY or failed. -/
  | uploadClose (t : Edges) (key : Byte)
  /-- UPLOAD_ABORT, R306: The IMG_UPCMD ABORT command ends an upload with the slot not READY. -/
  | uploadAbort (t : Edges) (key : Byte)
  /-- UPLOAD_ERASE_DONE, R306: The slot erase completes and the upload becomes open for chunks. -/
  | uploadEraseDone (t : Edges)
  /-- UPLOAD_CHUNK, R307: A 128-byte chunk completed at byte 0xBF is checked and programmed at IMG_UPADDR. -/
  | uploadChunk (t : Edges) (d : List Byte)
  /-- CHUNK_PROGRAMMED, R307: The programming of a chunk completes and IMG_UPADDR advances. -/
  | chunkProgrammed (t : Edges) (ok : Bool)
  /-- IMAGE_CHECK_DONE, R310: A staged image finishes its read and check and comes into force, or the outgoing image stays. -/
  | imageCheckDone (t : Edges)
  /-- PROBATION_PASSED, R312: The probation count reaches IMG_PROBT and the version is recorded as PASSED. -/
  | probationPassed (t : Edges)
  /-- PIN, R322: The IMG_PINCMD PIN command records a LIVE field's value in the pin table and journal. -/
  | pin (t : Edges) (key : Byte)
  /-- UNPIN, R322: The IMG_PINCMD UNPIN command removes the named pin. -/
  | unpin (t : Edges) (key : Byte)
  /-- UNPIN_ALL, R322: The IMG_PINCMD UNPIN ALL command removes every pin. -/
  | unpinAll (t : Edges) (key : Byte)
  /-- JOURNAL_SCAN_DONE, R336: The start-up journal scan completes, building the RAM mirror that image selection waits for. -/
  | journalScanDone (t : Edges)
  /-- JOURNAL_COUNTERS, R335: Every JRN_CNTINT operating seconds a COUNTERS record is appended. -/
  | journalCounters (t : Edges)
  /-- JOURNAL_HOURLY, R335: Every 3,600 operating seconds BAYSEC and WEAR records are appended. -/
  | journalHourly (t : Edges)
  /-- COMPACTION_DONE, R337: A journal compaction programs COMMIT and the new bank becomes active. -/
  | compactionDone (t : Edges) (eraseOk : Bool)
  /-- COMPACTION_RETRY, R341: 60 s after an erase failure the abandoned compaction is retried. -/
  | compactionRetry (t : Edges)
  /-- FLUSH_AGE, R347: The oldest queued record reaches REC_AGEMAX and a flush batch is started. -/
  | flushAge (t : Edges)
  /-- FLUSH, R347: The REC_CMD FLUSH command starts a flush batch. -/
  | flush (t : Edges) (key : Byte)
  /-- FLUSH_BATCH_DONE, R347: A flush batch has written its records to FIRST and ROLL and a LOGPTR record is appended. -/
  | flushBatchDone (t : Edges)
  /-- CLEAR_LOG, R353: The REC_CMD CLEAR_LOG command starts a log clear under a CLEAR_LOG token. -/
  | clearLog (t : Edges) (key : Byte)
  /-- CLEAR_ALL, R353: The REC_CMD CLEAR_ALL command starts a clear of the log and the snapshots. -/
  | clearAll (t : Edges) (key : Byte)
  /-- CLEAR_ERASE_DONE, R353: The clear erase completes and the new epoch starts with event 0x7050. -/
  | clearEraseDone (t : Edges)
  /-- SNAPSHOT, R354: The REC_CMD SNAPSHOT command triggers a capture on the manual channel set. -/
  | snapshot (t : Edges) (key : Byte)
  /-- SNAPSHOT_CAPTURE_DONE, R354: 6 ms after a trigger the capture is complete and awaits writing. -/
  | snapshotCaptureDone (t : Edges) (k : Fin 2) (samples : List Code)
  /-- SNAPSHOT_WRITTEN, R355: A captured snapshot is written to its slot with COMMIT last. -/
  | snapshotWritten (t : Edges) (k : Fin 2)
  /-- LOG_SCAN_DONE, R351: The scan of FIRST and ROLL after TADPOLE entry completes and the log index is rebuilt. -/
  | logScanDone (t : Edges)
  /-- LOG_CURSOR_CHANGE, R352: A change of REC_CURREG or REC_CURSEQ fetches the matching record into the window. -/
  | logCursorChange (t : Edges) (region : Fin 4) (auto : Bool) (seq : BitVec 32)
  /-- LOG_WINDOW_READ, R352: Reading byte 0x5F with AUTO set advances REC_CURSEQ at the stop. -/
  | logWindowRead (t : Edges)
  /-- SNAPSHOT_WINDOW_CHANGE, R365: A change of REC_SNSLOT or REC_SNOFS fetches 128 bytes of the slot. -/
  | snapshotWindowChange (t : Edges) (slot : Fin 32) (ofs : Code)
  /-- TWIN_FRAME_SLOT, R373: Every 8 us slot the chip sends its frame with duties, digest and sync records. -/
  | twinFrameSlot (t : Edges)
  /-- TWIN_FRAME_RECEIVE, R373: A partner frame is received whole, checked and applied. -/
  | twinFrameReceive (t : Edges) (f : TwinFrame)
  /-- TWIN_SLOT_MISSING, R383: No valid frame begins within 9 us and a missing slot is counted. -/
  | twinSlotMissing (t : Edges)
  /-- DEAD_MAN_RELEASE, R383: The active has sent no frame for three slots and the hardware releases the shared nets and ACTOUT. -/
  | deadManRelease (t : Edges)
  /-- ACTIN_CHANGE, R370: The filtered ACTIN level changes, starting a takeover gap or a dual-owner test. -/
  | actinChange (t : Edges) (level : Bool)
  /-- TAKEOVER_GAP_EXPIRY, R384: ACTIN has been low for TWN_GAP and the standby raises ACTOUT and drives the outputs. -/
  | takeoverGapExpiry (t : Edges)
  /-- OWNERSHIP_CONTEST_SAMPLE, R371: 50 us after claiming at start the chip samples ACTIN again and owns or withdraws. -/
  | ownershipContestSample (t : Edges) (level : Bool)
  /-- DUAL_OWNER, R372: ACTIN high for 1 us while owning makes the chip with ADDR[0] = 1 yield. -/
  | dualOwner (t : Edges)
  /-- KAT_DONE, R379: A requested known-answer test completes and its result is resolved by R380. -/
  | katDone (t : Edges) (failing : Byte) (injOk : Bool)
  /-- STATE_TRANSFER_DONE, R386: The state transfer to a standby completes and its SYNC bit is set. -/
  | stateTransferDone (t : Edges)
  /-- STANDBY_FIT, R382: All health bits have held for TWN_FITT and the standby becomes FIT. -/
  | standbyFit (t : Edges)
  /-- SWITCHOVER, R383: The TWN_CMD SWITCHOVER command makes the active yield to a FIT standby. -/
  | switchover (t : Edges) (key : Byte)
  /-- RESYNC, R386: The TWN_CMD RESYNC command repeats the state transfer. -/
  | resync (t : Edges) (key : Byte)
  /-- TAKEBACK, R385: 2 us after TWN_GAP with ACTIN still low, a chip that yielded takes ownership back. -/
  | takeback (t : Edges)
  /-- PERIODIC_KAT, R381: Every 1 ms a known-answer vector is passed through each lane. -/
  | periodicKat (t : Edges) (failing : Byte)
  /-- REFERENCE_INJECTION, R381: Every 4 us a reference injection checks one sense channel. -/
  | referenceInjection (t : Edges) (ch : Nat) (err : Int)
  /-- ECC_SCRUB, R381: Once per second all RAM is scrubbed for ECC errors. -/
  | eccScrub (t : Edges) (corrected : Nat) (uncorrectable : Bool)
  /-- HEALTH_RECORD, R381: Every 10 ms the standby sends a HEALTH sync record. -/
  | healthRecord (t : Edges)
  /-- TRANSACTION_STOP, R396: A P or Sr ends a transaction and the buffered shadow writes and stop actions take effect. -/
  | transactionStop (t : Edges) (p : PortId) (last : Option Byte)
  /-- TRANSACTION_ABORT, R400: A transaction cut short by an unexpected start or stop is aborted. -/
  | transactionAbort (t : Edges) (p : PortId) (cond : AbortCond) (idx : Nat) (addr : Byte)
  /-- SCL_TIMEOUT, R400: SCL low for 25-35 ms with TOUT set aborts the transaction. -/
  | sclTimeout (t : Edges) (p : PortId) (idx : Nat)
  /-- STRETCH_LIMIT, R399: A clock stretch reaches its limit and the byte is replaced or not acknowledged. -/
  | stretchLimit (t : Edges) (p : PortId) (read : Bool)
  /-- ARA_READ, R393: A read at 0x0C while HALERT_N is low returns the 9640's own address. -/
  | araRead (t : Edges) (won : Bool)
  /-- REGISTER_WRITE, R396: An acknowledged write to a register with no row of its own commits according to its class. -/
  | registerWrite (t : Edges) (p : PortId) (off : Byte) (d : List Byte)
  /-- HOST_NOTIFY, R405: A Host Notify write to 0x08 is croaked on port H for the top interrupt. -/
  | hostNotify (t : Edges) (res : BusResult)
  /-- BUS_RECOVERY, R408: A held SDA before a croak is cleared by up to nine recovery clocks. -/
  | busRecovery (t : Edges) (p : PortId) (r : Recovery)
  /-- BUS_STUCK_BACKOFF, R408: The 1 s back-off after a stuck bus ends and recovery is tried again. -/
  | busStuckBackoff (t : Edges) (p : PortId)
  /-- IC_CLAIM, R416: Reading IC_CLAIM returns the top claimable source and makes it ACTIVE. -/
  | icClaim (t : Edges)
  /-- IC_COMPLETE, R417: Writing an ID to IC_COMPLETE completes an ACTIVE source. -/
  | icComplete (t : Edges) (id : Byte)
  /-- HOLDOFF_EXPIRY, R417: A group hold-off timer expires and its HELD sources become PENDING or IDLE. -/
  | holdoffExpiry (t : Edges) (g : Fin 16)
  /-- RENOTIFY, R419: IC_TOP has held the same ID for IC_RENOTIFY ms and a Host Notify is requested again. -/
  | renotify (t : Edges)
  /-- IRQ_OVERDUE, R420: A source claimable for IC_AGEMAX without a claim raises event 0x6301. -/
  | irqOverdue (t : Edges) (id : Fin 128)
  /-- PROVISION, R426: The SEC_CMD PROVISION command moves BLANK to PROVISIONED from the next power-on. -/
  | provision (t : Edges) (c : SecCmd)
  /-- DEPLOY, R426: The SEC_CMD DEPLOY command moves PROVISIONED to DEPLOYED. -/
  | deploy (t : Edges) (c : SecCmd)
  /-- RMA, R426: The SEC_CMD RMA command moves the part to RMA from the next power-on. -/
  | rma (t : Edges) (c : SecCmd)
  /-- KEYPROG, R426: The SEC_CMD KEYPROG command programs SEC_KEYSTG into an empty key slot. -/
  | keyprog (t : Edges) (c : SecCmd)
  /-- REVOKE, R426: The SEC_CMD REVOKE command revokes a key slot permanently. -/
  | revoke (t : Edges) (c : SecCmd)
  /-- HALT, R442: The SEC_CMD HALT command halts the supervisor under a CONTROL session. -/
  | halt (t : Edges) (c : SecCmd)
  /-- DEBUG_RESUME, R442: The SEC_CMD RESUME command ends a supervisor halt. -/
  | debugResume (t : Edges) (c : SecCmd)
  /-- TP_ON, R442: The SEC_CMD TP_ON command drives a test pattern on one phase channel. -/
  | tpOn (t : Edges) (c : SecCmd)
  /-- TP_OFF, R442: The SEC_CMD TP_OFF command ends the test pattern. -/
  | tpOff (t : Edges) (c : SecCmd)
  /-- DROP_TOKEN, R432: The SEC_CMD DROP_TOKEN command ends the token in force. -/
  | dropToken (t : Edges) (c : SecCmd)
  /-- NONCE_DRAW, R430: Reading byte 20 of page 3E draws and latches a fresh nonce. -/
  | nonceDraw (t : Edges) (p : PortId) (v : BitVec 128)
  /-- NONCE_EXPIRY, R430: A nonce lapses 60 s after it was drawn. -/
  | nonceExpiry (t : Edges)
  /-- TOKEN_SUBMIT, R431: A 104-byte token written in one transaction starts verification at the stop. -/
  | tokenSubmit (t : Edges) (p : PortId) (d : List Byte)
  /-- TOKEN_VERIFIED, R431: Token verification completes and the token comes into force or is rejected. -/
  | tokenVerified (t : Edges)
  /-- TOKEN_EXPIRY, R432: JRN_OPSEC reaches the token's expiry and the token and its sessions end. -/
  | tokenExpiry (t : Edges)
  /-- DEBUG_REQUEST, R435: A write of SEC_DBGREQ on the debug port grants or refuses a debug level. -/
  | debugRequest (t : Edges) (level : Fin 4)
  /-- REGISTER_READ, R397: A read of a field whose read has side effects clears or restarts an RC field, or latches a multi-byte field, the page 01 block, the page 24 window block or the capsule export buffer. -/
  | registerRead (t : Edges) (p : PortId) (off : Option Byte) (n : Nat)
  /-- SHIP_SECOND, R69: In SHIP the VKA domain counts one second on the low-power RC into the ship note, and the PTAT cell updates the RC correction. -/
  | shipSecond (t : Edges)
  /-- PLL_LOCK, R56: The crystal oscillator has started and the PLL locks, which starts the 100 ms fault-free count for the clock hand-over. -/
  | pllLock (t : Edges)
  /-- DECISION_RECORD_TICK, R376: The standby applies a received DECISION record at the WHL_CYC and tick it names, counted on the active's angle. -/
  | decisionRecordTick (t : Edges)
  /-- LOG_FETCH_DONE, R352: The fetch of the log record selected by the region and cursor completes, REC_WST leaves 2 and any stretch ends. -/
  | logFetchDone (t : Edges)
  /-- SNAPSHOT_FETCH_DONE, R365: The fetch of the 128 snapshot bytes selected by REC_SNSLOT and REC_SNOFS completes and any stretch ends. -/
  | snapshotFetchDone (t : Edges)
  /-- BOUNDARY_SCAN, R437: A TCK edge on the live IEEE 1149.1 TAP advances the TAP and can, under EXTEST, drive the shared output nets. -/
  | boundaryScan (t : Edges) (tms tdi : Bool)
deriving DecidableEq, Repr

/-- The instant of a command. -/
def Instr.time : Instr → Edges
  | .powerOnReset t _ => t
  | .rstNAsserted t => t
  | .supplyLoss t _ => t
  | .vkaLost t => t
  | .powerFailWarning t => t
  | .shipWake t _ => t
  | .crystalFault t _ => t
  | .clockHandover t => t
  | .supervisorRestart t => t
  | .supervisorRestartEnd t _ => t
  | .operatingSecond t => t
  | .wheelPoint t _ => t
  | .calendarEntry t _ => t
  | .referenceValid t _ => t
  | .referenceLost t _ _ => t
  | .wheelLock t => t
  | .acquireTimeout t => t
  | .phaseErrorCycle t => t
  | .feedAReturn t _ => t
  | .crestCheck t _ _ _ _ => t
  | .acZeroCrossing t _ _ _ _ _ => t
  | .rmsWindowDeadline t _ _ _ => t
  | .frequencyDeadline t _ => t
  | .bayPeriodStart t _ => t
  | .loopTrigger t _ _ _ => t
  | .bayOutputConversion t _ _ => t
  | .imonSample t _ _ => t
  | .shedDwellExpiry t _ => t
  | .phaseOffsetTaken t _ => t
  | .phTrimrst t _ _ => t
  | .leShctl t _ => t
  | .leFeclr t _ _ => t
  | .followingError t _ => t
  | .feRecovered t _ => t
  | .dutySaturated t _ => t
  | .regionDwellExpiry t _ => t
  | .setpointCommand t _ _ _ => t
  | .setpointSlewStep t => t
  | .bayPresenceChange t _ _ => t
  | .presenceDebounce t _ => t
  | .bayokRise t _ => t
  | .bayOkTimeout t _ => t
  | .bayEjectChange t _ _ => t
  | .bayLost t _ => t
  | .bayPfcLost t _ => t
  | .bayLeaveForced t _ => t
  | .deepTimeout t _ => t
  | .presenceLoss100ms t _ => t
  | .warnPulse t _ _ _ => t
  | .warnStuck t _ _ => t
  | .warnReleased t _ => t
  | .ffInjection t _ => t
  | .ffHoldExpiry t _ => t
  | .ffDecayStep t => t
  | .sagEpisodeClose t _ => t
  | .regulationPointSample t _ => t
  | .mailboxRecord t _ => t
  | .contractWrite t _ => t
  | .grantReadback t _ => t
  | .grantWrite t _ => t
  | .paceReturnAcceptance t _ => t
  | .rideThroughWindowEnd t => t
  | .restartStagger t => t
  | .restartTimeout t => t
  | .handbackQuiet t => t
  | .handbackTimeout t => t
  | .chatterHoldEnd t => t
  | .chargeEligible t _ => t
  | .stringPresenceChange t _ => t
  | .stringPresenceDebounce t _ => t
  | .stringInsertCheck t _ => t
  | .stringRemoval t _ _ => t
  | .bokChange t _ _ => t
  | .stringSample t _ _ => t
  | .chargePeriodStart t _ => t
  | .chargeCurrentLimit t _ => t
  | .chargeSecond t _ => t
  | .chargePhaseTimeout t _ => t
  | .start t _ _ => t
  | .stop t _ _ => t
  | .clear t _ _ => t
  | .estimatorNaiveTimeout t _ => t
  | .restCorrection t _ => t
  | .estimatorHibernate t => t
  | .estimatorWake t _ => t
  | .capsulePeriodicExport t _ => t
  | .estRidx t _ => t
  | .capsuleCommit t _ => t
  | .stagingTimeout t => t
  | .fuseSample t _ _ _ _ => t
  | .fuseRampWindow t _ => t
  | .fuseRampTimeout t _ => t
  | .fuseHardTrip t _ _ _ => t
  | .fuseSettleDone t _ => t
  | .fuseGateRiseTimeout t _ => t
  | .fuseGateOff t _ => t
  | .fuseGateFallTimeout t _ => t
  | .fuseRetry t _ => t
  | .fusClr t _ _ => t
  | .thermalEvaluation t _ _ _ => t
  | .dieComparator t => t
  | .reload t _ => t
  | .revert t _ => t
  | .lockout t _ => t
  | .resume t _ => t
  | .ship t _ => t
  | .shipFlushDone t => t
  | .shipNotEntered t => t
  | .uploadOpen t _ => t
  | .uploadClose t _ => t
  | .uploadAbort t _ => t
  | .uploadEraseDone t => t
  | .uploadChunk t _ => t
  | .chunkProgrammed t _ => t
  | .imageCheckDone t => t
  | .probationPassed t => t
  | .pin t _ => t
  | .unpin t _ => t
  | .unpinAll t _ => t
  | .journalScanDone t => t
  | .journalCounters t => t
  | .journalHourly t => t
  | .compactionDone t _ => t
  | .compactionRetry t => t
  | .flushAge t => t
  | .flush t _ => t
  | .flushBatchDone t => t
  | .clearLog t _ => t
  | .clearAll t _ => t
  | .clearEraseDone t => t
  | .snapshot t _ => t
  | .snapshotCaptureDone t _ _ => t
  | .snapshotWritten t _ => t
  | .logScanDone t => t
  | .logCursorChange t _ _ _ => t
  | .logWindowRead t => t
  | .snapshotWindowChange t _ _ => t
  | .twinFrameSlot t => t
  | .twinFrameReceive t _ => t
  | .twinSlotMissing t => t
  | .deadManRelease t => t
  | .actinChange t _ => t
  | .takeoverGapExpiry t => t
  | .ownershipContestSample t _ => t
  | .dualOwner t => t
  | .katDone t _ _ => t
  | .stateTransferDone t => t
  | .standbyFit t => t
  | .switchover t _ => t
  | .resync t _ => t
  | .takeback t => t
  | .periodicKat t _ => t
  | .referenceInjection t _ _ => t
  | .eccScrub t _ _ => t
  | .healthRecord t => t
  | .transactionStop t _ _ => t
  | .transactionAbort t _ _ _ _ => t
  | .sclTimeout t _ _ => t
  | .stretchLimit t _ _ => t
  | .araRead t _ => t
  | .registerWrite t _ _ _ => t
  | .hostNotify t _ => t
  | .busRecovery t _ _ => t
  | .busStuckBackoff t _ => t
  | .icClaim t => t
  | .icComplete t _ => t
  | .holdoffExpiry t _ => t
  | .renotify t => t
  | .irqOverdue t _ => t
  | .provision t _ => t
  | .deploy t _ => t
  | .rma t _ => t
  | .keyprog t _ => t
  | .revoke t _ => t
  | .halt t _ => t
  | .debugResume t _ => t
  | .tpOn t _ => t
  | .tpOff t _ => t
  | .dropToken t _ => t
  | .nonceDraw t _ _ => t
  | .nonceExpiry t => t
  | .tokenSubmit t _ _ => t
  | .tokenVerified t => t
  | .tokenExpiry t => t
  | .debugRequest t _ => t
  | .registerRead t _ _ _ => t
  | .shipSecond t => t
  | .pllLock t => t
  | .decisionRecordTick t => t
  | .logFetchDone t => t
  | .snapshotFetchDone t => t
  | .boundaryScan t _ _ => t

end Sys2Proof
end

