-- ==== Sys2Proof/Config.lean ====
section
/-! DEFINITION. What the spec leaves open and a chip fixes: constants with no body, so that no proof can see a value.
Every one of them is a free value of the assumption log (notes/assumptions/10.md and 11.md). -/

namespace Sys2Proof.Config

/-- Which way a result whose rounding no rule states goes to a whole register unit. -/
opaque roundsUp : Rat → Bool
/-- A fresh free value: the `n`-th value the spec leaves undefined. -/
opaque freeValue : Nat → Nat
/-- The exponential of `-q` as evaluated by the chip (R165, R248, R255). -/
opaque expNeg : Rat → Rat
/-- 2 to the power `q` as evaluated by the chip (R250). -/
opaque exp2 : Rat → Rat
/-- The square root as evaluated by the chip. -/
opaque sqrt : Rat → Rat
/-- The tangent of `pi * q` as evaluated by the chip (R112). -/
opaque tanPi : Rat → Rat
/-- ECDSA P-256 verification of a signature over a message under a key slot's 64-byte key (R428). -/
opaque ecdsaVerify : List Byte → List Byte → List Byte → Bool
/-- Whether 64 bytes are a point on the P-256 curve (R426). -/
opaque onCurve : List Byte → Bool
/-- Byte `a` of the OTP words whose coding the spec does not give, for the content `v` (R445). -/
opaque otpByte : Nat → Nat → Nat
/-- The TADPOLE built-in compensator of R58 and R121: the set's 32 bytes, whose coefficients the spec does not give. -/
opaque builtinSet : List Byte
/-- The instruction codes of the boundary-scan TAP (R437), whose coding the spec leaves to the BSDL. -/
opaque tapOpcode : Nat → Nat
/-- The length of the boundary-scan register, and the IDCODE. -/
opaque tapLength : Nat
opaque tapIrLength : Nat
opaque tapIdcode : BitVec 32
/-- Supervisor firmware version (ROM), silicon revision and factory trim revision (R452). -/
opaque fwVersion : BitVec 32
opaque siliconRev : Byte
opaque trimRev : Byte
/-- The partner's IMG_VER, which no frame field of R373 carries (R381). -/
opaque partnerVersion : Nat
/-- The codes of the DECISION kinds of R375, in the order that rule lists them. -/
opaque decisionKind : Nat → Byte
/-- Which of several equals is taken where the spec names no order. -/
opaque pick : Nat → Nat
/-- The loss below the first point of a loss table, which R148 does not state, from the first value and the current in mA. -/
opaque lossBelow : Nat → Rat → Rat
/-- The information a gain-learning observation must carry (R95), which the spec does not put in numbers. -/
opaque learnInformative : Nat → Bool

/-- The temperature of a string whose BST_BTMASK selects no input, which no rule states. -/
opaque noSensor : Int
/-- The SoC an OCV table gives for a voltage, or the OCV for a SoC, outside its points (R252), which no rule states. -/
opaque ocvBeyond : Bool → Rat → Rat
/-- The size of one model step of R254 per unit of residual and gain, which no rule puts in numbers. -/
opaque modelStep : Nat → Rat
/-- The temperature a ratio outside the points of THM_NTCT converts to (R288), which no rule states. -/
opaque ntcBeyond : Nat → Int

end Sys2Proof.Config
end

