-- ==== Sys2Proof/WellFormed.lean ====
section
/-! DEFINITION. When a command's operands are ones the outside world can send: lengths of records the buses carry whole,
and edges in order. Ranges of single operands are in their types. -/

namespace Sys2Proof

/-- A twin frame's vectors have the lengths of R373. -/
def TwinFrame.wf (f : TwinFrame) : Bool :=
  decide (f.tags.length = 8) && decide (f.duties.length = 48) && decide (f.digest.length = 28) &&
  decide (f.recs.length = 4)

/-- The command's operands have the form the spec gives them. -/
def Instr.wf : Instr → Bool
  | .warnPulse t _ fall rise => decide (fall ≤ rise) && decide (rise ≤ t)
  | .warnStuck t _ fall => decide (fall ≤ t)
  | .mailboxRecord _ r => decide (r.length = 16)
  | .contractWrite _ r => decide (r.length = 16)
  | .uploadChunk _ d => decide (d.length = 128)
  | .twinFrameReceive _ f => f.wf
  | .wheelPoint _ m => decide (m.rate ≤ 65535) && decide (m.fmains ≤ 65535) && decide (-32768 ≤ m.perr) && decide (m.perr ≤ 32767)
  | .feedAReturn _ diff => decide (-32768 ≤ diff) && decide (diff ≤ 32767)
  | .registerWrite _ _ _ d => decide (d.length ≠ 0)
  | .registerRead _ _ _ n => decide (n ≠ 0)
  | .referenceInjection _ ch _ => decide (ch < 256)
  | _ => true

end Sys2Proof
end

