-- ==== Sys2Proof/Machine/Store.lean ====
section
/-! DEFINITION. Sparse stores in one canonical form: the register cells and the bytes of the flash image slots.

A store is a list of (address, value) pairs with strictly rising addresses and no entry equal to what an unlisted
address reads as, so that equal stores are equal data. -/

namespace Sys2Proof.Machine

/-- Register cells: a cell's value is the field's value XOR its reset value, so that an unlisted cell holds 0 and
reads as the reset value (R8). -/
abbrev Cells := List (Nat × Nat)

/-- The value of cell `k`; 0 where nothing is listed. -/
def cellGet : Cells → Nat → Nat
  | [], _ => 0
  | (a, v) :: c, k => if a = k then v else cellGet c k

/-- Every entry of cell `k` taken out, so that it reads 0. -/
def cellDrop : Cells → Nat → Cells
  | [], _ => []
  | (a, u) :: c, k => if a = k then cellDrop c k else (a, u) :: cellDrop c k

/-- The entry of cell `k` put in its place among the rising addresses. -/
def cellPlace : Cells → Nat → Nat → Cells
  | [], k, v => [(k, v)]
  | (a, u) :: c, k, v =>
    if a = k then (a, v) :: c else if k < a then (k, v) :: (a, u) :: c else (a, u) :: cellPlace c k v

/-- Store `v` in cell `k`, keeping the canonical form: 0 removes the entry. -/
def cellSet (c : Cells) (k v : Nat) : Cells := if v = 0 then cellDrop c k else cellPlace c k v

/-- Addresses strictly rising, every one above `lo`, and no entry 0. -/
def cellsFrom : Option Nat → Cells → Bool
  | _, [] => true
  | lo, (a, v) :: c => (match lo with | none => true | some l => decide (l < a)) && decide (v ≠ 0) && cellsFrom (some a) c

/-- The canonical form of the register cells. -/
def cellsWf (c : Cells) : Bool := cellsFrom none c

/-- The addressed bytes of one flash image slot (R328). -/
abbrev Memory := List Host.Cell

/-- What a flash byte that nothing has programmed since its erase reads as: erased NOR flash reads ones. -/
def erasedByte : Byte := 0xFF

/-- Read one byte. -/
def memRead : Memory → Nat → Byte
  | [], _ => erasedByte
  | (a, v) :: m, k => if a = k then v else memRead m k

/-- Every entry of byte `k` taken out, so that it reads as erased. -/
def memDrop : Memory → Nat → Memory
  | [], _ => []
  | (a, u) :: m, k => if a = k then memDrop m k else (a, u) :: memDrop m k

/-- The entry of byte `k` put in its place among the rising addresses. -/
def memPlace : Memory → Nat → Byte → Memory
  | [], k, v => [(k, v)]
  | (a, u) :: m, k, v =>
    if a = k then (a, v) :: m else if k < a then (k, v) :: (a, u) :: m else (a, u) :: memPlace m k v

/-- Write one byte, keeping the canonical form: writing the erased value removes the entry. -/
def memWrite (m : Memory) (k : Nat) (v : Byte) : Memory := if v = erasedByte then memDrop m k else memPlace m k v

/-- Write bytes at ascending addresses from `k`. -/
def memWriteBytes (m : Memory) (k : Nat) : List Byte → Memory
  | [] => m
  | b :: bs => memWriteBytes (memWrite m k b) (k + 1) bs

/-- Read `n` bytes from `k`. -/
def memReadBytes (m : Memory) (k : Nat) : Nat → List Byte
  | 0 => []
  | n + 1 => memRead m k :: memReadBytes m (k + 1) n

/-- Addresses strictly rising, every one above `lo`, and no entry equal to the erased value. -/
def memFrom : Option Nat → Memory → Bool
  | _, [] => true
  | lo, (a, v) :: m => (match lo with | none => true | some l => decide (l < a)) && decide (v ≠ erasedByte) && memFrom (some a) m

/-- The canonical form of a slot's bytes. -/
def Memory.wf (m : Memory) : Bool := memFrom none m

/-- Unsigned little-endian value of bytes, the lowest address least significant (R5). -/
def leValue : List Byte → Nat
  | [] => 0
  | b :: bs => b.toNat + 256 * leValue bs

/-- The `n` little-endian bytes of a value (R5). -/
def leBytes : Nat → Nat → List Byte
  | 0, _ => []
  | n + 1, v => BitVec.ofNat 8 v :: leBytes n (v / 256)

end Sys2Proof.Machine
end

