-- ==== Sys2Proof/Machine/Field.lean ====
section
/-! DEFINITION. What a register field is: its place in the pages, its width, its access type (R9), its class (R10),
its reset value (R8), and the cell that holds each of its instances.

Registers are the one home of every value the manual's register tables name; hidden state stands in Machine/State.lean. -/

namespace Sys2Proof.Machine

/-- Access types, R9. -/
inductive Acc where
  | ro | rw | w1c | rc | wo
deriving DecidableEq, Repr

/-- Classes of configuration fields, R10; `status` for a field with no class. -/
inductive Cls where
  | status | static | shadow | live
deriving DecidableEq, Repr

/-- The windows of the register pages, each selected by its selector register (R451): `none` for a plain field. -/
inductive Win where
  | none | cal | phBay | phCh | leBay | leSet | leTab | trkBay | capCt | bstStr | estStr | estExp | fusCh | thmSen | tlmWin
deriving DecidableEq, Repr

/-- How many instances a window selects from (R451 and the block's own register table). -/
def Win.banks : Win → Nat
  | .none => 1
  | .cal => 256
  | .phBay => 8
  | .phCh => 48
  | .leBay => 8
  | .leSet => 128
  | .leTab => 8
  | .trkBay => 8
  | .capCt => 128
  | .bstStr => 8
  | .estStr => 8
  | .estExp => 8
  | .fusCh => 16
  | .thmSen => 20
  | .tlmWin => 4

/-- A register field. `stride` is 0 for a single field; an array field has `count` elements `stride` bytes apart. -/
structure Field where
  page : Nat
  off : Nat
  lsb : Nat
  width : Nat
  stride : Nat
  count : Nat
  win : Win
  acc : Acc
  cls : Cls
  rst : Nat
  rsts : List Nat
deriving DecidableEq, Repr

/-- The number of instances of a field over its window and its array. -/
def Field.insts (f : Field) : Nat := f.win.banks * f.count

/-- The place of a field, which tells it from every other field. -/
def Field.place (f : Field) : Nat := (f.page * 256 + f.off) * 8 + f.lsb

/-- The page a field's place is on. -/
def Field.onPage (f : Field) : Nat := f.place / 2048 % 64

/-- The cell that holds instance `i` of a field. -/
def Field.key (f : Field) (i : Nat) : Nat := f.place * 65536 + i % 65536

/-- The instance of element `e` in bank `b`. -/
def Field.ix (f : Field) (b e : Nat) : Nat := b * f.count + e

/-- The reset value of instance `i` (R8): one value for all, or one per array element or bank. -/
def Field.reset (f : Field) (i : Nat) : Nat :=
  match f.rsts with
  | [] => f.rst
  | r => (r[i]?).getD f.rst

/-- Read instance `i` of field `f` from a cell store. -/
def fieldGet (c : Cells) (f : Field) (i : Nat) : Nat := cellGet c (f.key i) ^^^ f.reset i

/-- Write instance `i` of field `f`, keeping the bits of its width. -/
def fieldPut (c : Cells) (f : Field) (i v : Nat) : Cells :=
  cellSet c (f.key i) ((v % 2 ^ f.width) ^^^ f.reset i)

/-- A single plain field. -/
def fld (page off lsb width : Nat) (acc : Acc) (cls : Cls) (rst : Nat) : Field :=
  ⟨page, off, lsb, width, 0, 1, .none, acc, cls, rst, []⟩

/-- A single field of a window. -/
def wfl (win : Win) (page off lsb width : Nat) (acc : Acc) (cls : Cls) (rst : Nat) : Field :=
  ⟨page, off, lsb, width, 0, 1, win, acc, cls, rst, []⟩

/-- An array field. -/
def arr (win : Win) (page off lsb width stride count : Nat) (acc : Acc) (cls : Cls) (rst : Nat) : Field :=
  ⟨page, off, lsb, width, stride, count, win, acc, cls, rst, []⟩

end Sys2Proof.Machine
end

