-- ==== Sys2Proof/Machine/RegsGlobal.lean ====
section
/-! DEFINITION. The register fields of the global, mode, identity, scratch, event summary and raw sense pages, each from its row of the manual's register tables:
page, offset, lowest bit, width, access (R9), class (R10), reset value (R8). The docstring gives the rule and the description. -/

namespace Sys2Proof.Machine.Reg

/-- R452. Part number -/
def GL_PARTID : Field := fld 0x00 0x00 0 16 .ro .status 38464
/-- R452. Silicon revision letter, 0xA = A -/
def GL_SILREV_MAJOR : Field := fld 0x00 0x02 4 4 .ro .status 0
/-- R452. Silicon revision number -/
def GL_SILREV_MINOR : Field := fld 0x00 0x02 0 4 .ro .status 0
/-- R452. Register map version of this manual -/
def GL_MAPVER : Field := fld 0x00 0x03 0 8 .ro .status 1
/-- R452. Supervisor firmware: byte 07 major, 06 minor, 05–04 build -/
def GL_FWVER : Field := fld 0x00 0x04 0 32 .ro .status 0
/-- R452. Ball count of the package -/
def GL_PKG : Field := fld 0x00 0x08 0 16 .ro .status 676
/-- R452. Factory trim table revision -/
def GL_TRIMREV : Field := fld 0x00 0x0A 0 8 .ro .status 0
/-- R452. Phase channels -/
def GL_NPH : Field := fld 0x00 0x0C 0 8 .ro .status 48
/-- R452. Bays -/
def GL_NBAY : Field := fld 0x00 0x0D 0 8 .ro .status 8
/-- R452. Strings -/
def GL_NSTR : Field := fld 0x00 0x0E 0 8 .ro .status 8
/-- R452. Fuse channels -/
def GL_NFUSE : Field := fld 0x00 0x0F 0 8 .ro .status 16
/-- R452. Contracts -/
def GL_NCT : Field := fld 0x00 0x10 0 8 .ro .status 128
/-- R452. Pace groups -/
def GL_NGRP : Field := fld 0x00 0x11 0 8 .ro .status 16
/-- R452. Interrupt sources -/
def GL_NIRQ : Field := fld 0x00 0x12 0 8 .ro .status 128
/-- R452. Populated pages -/
def GL_NPAGE : Field := fld 0x00 0x13 0 8 .ro .status 54
/-- R452. Device ID; equals SEC_DEVID -/
def GL_DEVID : Field := fld 0x00 0x20 0 128 .ro .status 0
/-- R452. Bit *p*: page *p* populated -/
def GL_PAGEMAP : Field := fld 0x00 0x30 0 256 .ro .status 0

/-- Every field of page 00. -/
def page00 : List Field :=
  [GL_PARTID, GL_SILREV_MAJOR, GL_SILREV_MINOR, GL_MAPVER, GL_FWVER, GL_PKG, GL_TRIMREV, GL_NPH, GL_NBAY, GL_NSTR, GL_NFUSE, GL_NCT, GL_NGRP, GL_NIRQ, GL_NPAGE, GL_DEVID, GL_PAGEMAP]

/-- R453. GL_MODE -/
def GL_SUM_MODE : Field := fld 0x01 0x00 0 3 .ro .status 1
/-- R453. GL_STAT.OWNER -/
def GL_SUM_OWNER : Field := fld 0x01 0x00 3 1 .ro .status 0
/-- R453. GL_STAT.IMGVALID -/
def GL_SUM_IMGVALID : Field := fld 0x01 0x00 4 1 .ro .status 0
/-- R453. GL_STAT.PROBATION -/
def GL_SUM_PROBATION : Field := fld 0x01 0x00 5 1 .ro .status 0
/-- R453. GL_STAT.GECKO -/
def GL_SUM_GECKO : Field := fld 0x01 0x00 6 1 .ro .status 0
/-- R453. 1 while HALERT_N is driven low -/
def GL_SUM_ALERT : Field := fld 0x01 0x00 7 1 .ro .status 0
/-- R453. HUP_STAT.STAGE -/
def GL_SUM_STAGE : Field := fld 0x01 0x01 0 3 .ro .status 0
/-- R453. WHL_STAT.STATE -/
def GL_SUM_WHEEL : Field := fld 0x01 0x01 3 2 .ro .status 0
/-- R453. IC_TOP; reading claims nothing -/
def GL_IRQTOP : Field := fld 0x01 0x02 0 8 .ro .status 0
/-- R453. IC_TOPPRI -/
def GL_IRQPRI : Field := fld 0x01 0x03 0 3 .ro .status 0
/-- R453. Bit *g*: a source of group *g* has its level high -/
def GL_LVLGRP : Field := fld 0x01 0x04 0 16 .ro .status 0
/-- R453. JRN_OPSEC -/
def GL_OPSEC : Field := fld 0x01 0x08 0 32 .ro .status 0
/-- R453. Milliseconds since VDD power-on -/
def GL_MS : Field := fld 0x01 0x0C 0 32 .ro .status 0
/-- R453. WHL_ANGLE -/
def GL_ANGLE : Field := fld 0x01 0x10 0 16 .ro .status 0
/-- R453. WHL_CYC -/
def GL_CYC : Field := fld 0x01 0x12 0 32 .ro .status 0
/-- R453. Tick-average bus voltage, in mV -/
def GL_VBUS : Field := fld 0x01 0x16 0 16 .ro .status 0
/-- R453. Tick-average shelf current, in 100 mA -/
def GL_ISHELF : Field := fld 0x01 0x18 0 16 .ro .status 0
/-- R453. Tick-average shelf power, in W -/
def GL_PSHELF : Field := fld 0x01 0x1A 0 32 .ro .status 0
/-- R453. s16. THM_DIE -/
def GL_TDIE : Field := fld 0x01 0x1E 0 16 .ro .status 0
/-- R453. Bit *b*: bay in JOIN, ACTIVE or LEAVE -/
def GL_BAYACT : Field := fld 0x01 0x20 0 8 .ro .status 0
/-- R453. Bit *b*: F*b* power-good -/
def GL_BAYPG : Field := fld 0x01 0x21 0 8 .ro .status 0
/-- R453. Bit *s*: F(8+*s*) power-good -/
def GL_STRPG : Field := fld 0x01 0x22 0 8 .ro .status 0
/-- R453. BST_CHARGING -/
def GL_STRCHG : Field := fld 0x01 0x23 0 8 .ro .status 0
/-- R453. Bit *g*: PACEg held low now -/
def GL_PACE : Field := fld 0x01 0x24 0 16 .ro .status 0
/-- R453. FUS_LATCHED -/
def GL_LATCH : Field := fld 0x01 0x26 0 16 .ro .status 0
/-- R453. The last allocation was short (R182) -/
def GL_ALARM_SHORT : Field := fld 0x01 0x28 0 1 .ro .status 0
/-- R453. An exhaustion episode is open (R186) -/
def GL_ALARM_EXHAUST : Field := fld 0x01 0x28 1 1 .ro .status 0
/-- R453. Summed E_low is below HUP_ELOW in HOLDUP -/
def GL_ALARM_ELOW : Field := fld 0x01 0x28 2 1 .ro .status 0
/-- R453. A chatter hold is running -/
def GL_ALARM_HELD : Field := fld 0x01 0x28 3 1 .ro .status 0
/-- R453. CAP_THDER below 256 -/
def GL_ALARM_DERATE : Field := fld 0x01 0x28 4 1 .ro .status 0
/-- R453. THM_STAT.DIETHR -/
def GL_ALARM_DIETHR : Field := fld 0x01 0x28 5 1 .ro .status 0
/-- R453. TWN_CFG.EN = 1 and the partner is not FIT -/
def GL_ALARM_PUNFIT : Field := fld 0x01 0x28 6 1 .ro .status 0
/-- R453. JRN_STAT.NOFLASH -/
def GL_ALARM_NOFLASH : Field := fld 0x01 0x28 7 1 .ro .status 0

/-- Every field of page 01. -/
def page01 : List Field :=
  [GL_SUM_MODE, GL_SUM_OWNER, GL_SUM_IMGVALID, GL_SUM_PROBATION, GL_SUM_GECKO, GL_SUM_ALERT, GL_SUM_STAGE, GL_SUM_WHEEL, GL_IRQTOP, GL_IRQPRI, GL_LVLGRP, GL_OPSEC, GL_MS, GL_ANGLE, GL_CYC, GL_VBUS, GL_ISHELF, GL_PSHELF, GL_TDIE, GL_BAYACT, GL_BAYPG, GL_STRPG, GL_STRCHG, GL_PACE, GL_LATCH, GL_ALARM_SHORT, GL_ALARM_EXHAUST, GL_ALARM_ELOW, GL_ALARM_HELD, GL_ALARM_DERATE] ++
  [GL_ALARM_DIETHR, GL_ALARM_PUNFIT, GL_ALARM_NOFLASH]

/-- R74. Mode code, 0–5; reads 1 from reset until step 6 of R53 (R52) -/
def GL_MODE : Field := fld 0x02 0x00 0 3 .ro .status 1
/-- R74. Previous mode -/
def GL_MODE_PREV : Field := fld 0x02 0x01 0 3 .ro .status 0
/-- R74. Cause code (R75) -/
def GL_MODE_CAUSE : Field := fld 0x02 0x02 0 8 .ro .status 0
/-- R74. 1: this 9640 owns the outputs -/
def GL_STAT_OWNER : Field := fld 0x02 0x03 0 1 .ro .status 0
/-- R74. 1: an image has come into force since VDD power-on -/
def GL_STAT_IMGVALID : Field := fld 0x02 0x03 1 1 .ro .status 0
/-- R74. 1: the image in force is on PROBATION -/
def GL_STAT_PROBATION : Field := fld 0x02 0x03 2 1 .ro .status 0
/-- R74. 1: a RELOAD or REVERT waits for RUN -/
def GL_STAT_RLDPEND : Field := fld 0x02 0x03 3 1 .ro .status 0
/-- R74. 1: running on the PLL -/
def GL_STAT_XTALOK : Field := fld 0x02 0x03 4 1 .ro .status 0
/-- R74. GECKO latch state -/
def GL_STAT_GECKO : Field := fld 0x02 0x03 5 1 .ro .status 0
/-- R74. Time in the present mode, in ms; saturates -/
def GL_MODE_TIME : Field := fld 0x02 0x04 0 32 .ro .status 0
/-- R74. 0 reset, 1 trims, 2 flash, 3 ownership, 4 TADPOLE, 5 image loading, 6 exited, 7 no valid image -/
def GL_BOOT_STEP : Field := fld 0x02 0x08 0 3 .ro .status 0
/-- R74. VDD good to the first exit from TADPOLE, in ms -/
def GL_BOOT_TIME : Field := fld 0x02 0x0C 0 32 .ro .status 0
/-- R74. WAKE held low in SHIP -/
def GL_WAKE_SRC_WAKE : Field := fld 0x02 0x10 0 1 .ro .status 0
/-- R74. AC presence in SHIP -/
def GL_WAKE_SRC_AC : Field := fld 0x02 0x10 1 1 .ro .status 0
/-- R74. BI excursion in SHIP -/
def GL_WAKE_SRC_BI : Field := fld 0x02 0x10 2 1 .ro .status 0
/-- R74. VKA was lost (R71) -/
def GL_WAKE_SRC_VKALOST : Field := fld 0x02 0x10 3 1 .ro .status 0
/-- R74. Byte 20 key 0xA5, byte 21 command: 0x01 RELOAD, 0x02 REVERT, 0x03 LOCKOUT, 0x04 RESUME, 0x05 SHIP. Acts whe... -/
def GL_CMD : Field := fld 0x02 0x20 0 16 .wo .live 0
/-- R74. 0 none, 1 accepted, 2 refused in this mode, 3 bad key, 4 deferred, 5 busy -/
def GL_CMD_RES : Field := fld 0x02 0x22 0 8 .ro .status 0
/-- R74. Supervisor restarts; saturates at 255 -/
def GL_SUPRST : Field := fld 0x02 0x23 0 8 .rc .status 0
/-- R74. Ship note bytes 0–47 -/
def GL_SHIPNOTE : Field := arr .none 0x02 0x40 0 8 1 48 .rw .live 0
/-- R74. Ship note bytes 48–63 -/
def GL_SHIPNOTE_RO : Field := arr .none 0x02 0x70 0 8 1 16 .ro .status 0

/-- Every field of page 02. -/
def page02 : List Field :=
  [GL_MODE, GL_MODE_PREV, GL_MODE_CAUSE, GL_STAT_OWNER, GL_STAT_IMGVALID, GL_STAT_PROBATION, GL_STAT_RLDPEND, GL_STAT_XTALOK, GL_STAT_GECKO, GL_MODE_TIME, GL_BOOT_STEP, GL_BOOT_TIME, GL_WAKE_SRC_WAKE, GL_WAKE_SRC_AC, GL_WAKE_SRC_BI, GL_WAKE_SRC_VKALOST, GL_CMD, GL_CMD_RES, GL_SUPRST, GL_SHIPNOTE, GL_SHIPNOTE_RO]

/-- R454. Host scratch bytes -/
def GL_SCRATCH : Field := arr .none 0x03 0x00 0 8 1 64 .rw .live 0

/-- Every field of page 03. -/
def page03 : List Field :=
  [GL_SCRATCH]

/-- R455. Last record raised (R345) -/
def REC_LASTREC : Field := arr .none 0x05 0x00 0 8 1 32 .ro .status 0
/-- R455. Last record raised with severity 5 or more -/
def REC_LASTHI : Field := arr .none 0x05 0x20 0 8 1 32 .ro .status 0
/-- R455. Highest severity raised since the last read -/
def REC_MAXSEV_SEV : Field := fld 0x05 0x40 0 3 .rc .status 0
/-- R455. 1: a record was raised since the last read -/
def REC_MAXSEV_ANY : Field := fld 0x05 0x40 7 1 .rc .status 0
/-- R455. Records raised per severity; saturates -/
def REC_SEVCNT : Field := arr .none 0x05 0x44 0 32 4 8 .rc .status 0

/-- Every field of page 05. -/
def page05 : List Field :=
  [REC_LASTREC, REC_LASTHI, REC_MAXSEV_SEV, REC_MAXSEV_ANY, REC_SEVCNT]

/-- R456. Raw sense codes (name is the model's own) -/
def TLM_RAW_VSB : Field := arr .none 0x06 0x00 0 16 2 8 .ro .status 0
/-- R456. Raw sense codes (name is the model's own) -/
def TLM_RAW_VTAP : Field := arr .none 0x06 0x10 0 16 2 4 .ro .status 0
/-- R456. Raw sense codes (name is the model's own) -/
def TLM_RAW_IMON : Field := arr .none 0x06 0x18 0 16 2 48 .ro .status 0
/-- R456. Raw sense codes (name is the model's own) -/
def TLM_RAW_VLINK : Field := arr .none 0x06 0x78 0 16 2 8 .ro .status 0
/-- R456. Raw sense codes (name is the model's own) -/
def TLM_RAW_AC : Field := arr .none 0x06 0x88 0 16 2 6 .ro .status 0

/-- Every field of page 06. -/
def page06 : List Field :=
  [TLM_RAW_VSB, TLM_RAW_VTAP, TLM_RAW_IMON, TLM_RAW_VLINK, TLM_RAW_AC]

/-- R456. Raw sense codes (name is the model's own) -/
def TLM_RAW_FI : Field := arr .none 0x07 0x00 0 16 2 16 .ro .status 0
/-- R456. Raw sense codes (name is the model's own) -/
def TLM_RAW_FV : Field := arr .none 0x07 0x20 0 16 2 16 .ro .status 0
/-- R456. Raw sense codes (name is the model's own) -/
def TLM_RAW_FGS : Field := arr .none 0x07 0x40 0 16 2 16 .ro .status 0

/-- Every field of page 07. -/
def page07 : List Field :=
  [TLM_RAW_FI, TLM_RAW_FV, TLM_RAW_FGS]

/-- R456. Raw sense codes (name is the model's own) -/
def TLM_RAW_STR : Field := arr .none 0x08 0x00 0 16 2 48 .ro .status 0
/-- R456. Raw sense codes (name is the model's own) -/
def TLM_RAW_TX : Field := arr .none 0x08 0x60 0 16 2 16 .ro .status 0
/-- R456. Raw sense codes (name is the model's own) -/
def TLM_RAW_DIE : Field := arr .none 0x08 0x80 0 16 2 4 .ro .status 0

/-- Every field of page 08. -/
def page08 : List Field :=
  [TLM_RAW_STR, TLM_RAW_TX, TLM_RAW_DIE]

end Sys2Proof.Machine.Reg
end

