-- ==== Sys2Proof/Machine/RegsPower.lean ====
section
/-! DEFINITION. The register fields of the wheel, phase engine, loop engine, regulation, tracker and step handling pages, each from its row of the manual's register tables:
page, offset, lowest bit, width, access (R9), class (R10), reset value (R8). The docstring gives the rule and the description. -/

namespace Sys2Proof.Machine.Reg

/-- R49. 0 FREE, 1 ACQUIRE, 2 LOCKED, 3 FLYWHEEL -/
def WHL_STAT_STATE : Field := fld 0x04 0x00 0 2 .ro .status 0
/-- R49. 0 feed A, 1 feed B carry -/
def WHL_STAT_REF : Field := fld 0x04 0x00 2 1 .ro .status 0
/-- R49. 1 once LOCKED since VDD power-on -/
def WHL_STAT_EVERLOCK : Field := fld 0x04 0x00 3 1 .ro .status 0
/-- R49. 0 crystal, 1 core RC -/
def WHL_STAT_CLKSRC : Field := fld 0x04 0x00 4 1 .ro .status 1
/-- R49. Lock was lost -/
def WHL_FLAGS_LOCKLOST : Field := fld 0x04 0x01 0 1 .w1c .status 0
/-- R49. Reference frequency was out of range -/
def WHL_FLAGS_FRANGE : Field := fld 0x04 0x01 1 1 .w1c .status 0
/-- R49. A calendar entry was dropped -/
def WHL_FLAGS_CALDROP : Field := fld 0x04 0x01 2 1 .w1c .status 0
/-- R49. A calendar entry was rejected at commit -/
def WHL_FLAGS_CALBAD : Field := fld 0x04 0x01 3 1 .w1c .status 0
/-- R49. A wheel cycle ran off the reference rate -/
def WHL_FLAGS_SKEW : Field := fld 0x04 0x01 4 1 .w1c .status 0
/-- R49. Current angle, in ticks -/
def WHL_ANGLE : Field := fld 0x04 0x02 0 16 .ro .status 0
/-- R49. Wheel rate, in 0.01 Hz -/
def WHL_FREQ : Field := fld 0x04 0x04 0 16 .ro .status 5000
/-- R49. Measured reference frequency, in 0.01 Hz; 0 when not measured -/
def WHL_FMAINS : Field := fld 0x04 0x06 0 16 .ro .status 0
/-- R49. s16. Wheel angle minus the sum of the reference angle and WHL_OFSNOW, in ticks (R31) -/
def WHL_PERR : Field := fld 0x04 0x08 0 16 .ro .status 0
/-- R49. s16. Feed B angle relative to feed A, in ticks -/
def WHL_BOFS : Field := fld 0x04 0x0A 0 16 .ro .status 0
/-- R49. Angle-0 passings since VDD power-on -/
def WHL_CYC : Field := fld 0x04 0x0C 0 32 .ro .status 0
/-- R49. Duration of the current or last FLYWHEEL episode, in ms -/
def WHL_FLYTIME : Field := fld 0x04 0x10 0 32 .ro .status 0
/-- R49. Nominal frequency, 4500–6600, in 0.01 Hz. A new value from the image takes effect at the next angle 0 -/
def WHL_FNOM : Field := fld 0x04 0x14 0 16 .rw .static 5000
/-- R49. s16. Angle offset, in ticks (R31). Commits at angle 0 and is then reached by the closing of R31 -/
def WHL_OFS : Field := fld 0x04 0x16 0 16 .rw .shadow 0
/-- R49. 1: single-phase reference on ACA1 -/
def WHL_CFG_SINGLE : Field := fld 0x04 0x18 0 1 .rw .static 0
/-- R49. 1: feed B carry enabled; Kyernpack default 1 -/
def WHL_CFG_BCARRY : Field := fld 0x04 0x18 1 1 .rw .static 0
/-- R49. Validity threshold, 20–90, in % of nominal feed voltage -/
def WHL_AMIN : Field := fld 0x04 0x19 0 8 .rw .static 60
/-- R49. Lock losses -/
def WHL_LOSSCNT : Field := fld 0x04 0x1A 0 16 .rc .status 0
/-- R49. Largest calendar lateness, in µs -/
def WHL_CAL_LATE : Field := fld 0x04 0x1C 0 16 .rc .status 0
/-- R49. Dropped entries; saturates at 255 -/
def WHL_CAL_DROP : Field := fld 0x04 0x1E 0 8 .rc .status 0
/-- R49. Entry selected in the window, 0–255 -/
def WHL_CAL_IDX : Field := fld 0x04 0x20 0 8 .rw .live 0
/-- R49. The window reads 0 the shadow copy, 1 the active copy -/
def WHL_CAL_CTL_VIEW : Field := fld 0x04 0x21 0 1 .rw .live 0
/-- R49. s16. Offset in force, in ticks (R31) -/
def WHL_OFSNOW : Field := fld 0x04 0x22 0 16 .ro .status 0
/-- R49. Selected entry (R44). Writes go to the shadow copy -/
def WHL_CAL_ENT : Field := wfl .cal 0x04 0x28 0 64 .rw .shadow 0
/-- R49. Bits set by IRQ entries -/
def WHL_CAL_FLAG : Field := fld 0x04 0x30 0 8 .w1c .status 0

/-- Every field of page 04. -/
def page04 : List Field :=
  [WHL_STAT_STATE, WHL_STAT_REF, WHL_STAT_EVERLOCK, WHL_STAT_CLKSRC, WHL_FLAGS_LOCKLOST, WHL_FLAGS_FRANGE, WHL_FLAGS_CALDROP, WHL_FLAGS_CALBAD, WHL_FLAGS_SKEW, WHL_ANGLE, WHL_FREQ, WHL_FMAINS, WHL_PERR, WHL_BOFS, WHL_CYC, WHL_FLYTIME, WHL_FNOM, WHL_OFS, WHL_CFG_SINGLE, WHL_CFG_BCARRY, WHL_AMIN, WHL_LOSSCNT, WHL_CAL_LATE, WHL_CAL_DROP, WHL_CAL_IDX, WHL_CAL_CTL_VIEW, WHL_OFSNOW, WHL_CAL_ENT, WHL_CAL_FLAG]

/-- R96. 0 FIXED, 1 THRESHOLD, 2 TRACKER -/
def PH_CTL_MODE : Field := fld 0x10 0x00 0 2 .rw .static 0
/-- R96. Bay shown in the window, 0–7 -/
def PH_BAY_IDX : Field := fld 0x10 0x01 0 3 .rw .live 0
/-- R96. A shed was abandoned -/
def PH_EVT_FLAGS_ABANDON : Field := fld 0x10 0x02 0 1 .w1c .status 0
/-- R96. A gain reached a limit -/
def PH_EVT_FLAGS_TRIMLIM : Field := fld 0x10 0x02 1 1 .w1c .status 0
/-- R96. A phase entered FAULT -/
def PH_EVT_FLAGS_PHFAULT : Field := fld 0x10 0x02 2 1 .w1c .status 0
/-- R96. A PWMA pulse was omitted -/
def PH_EVT_FLAGS_MINPULSE : Field := fld 0x10 0x02 3 1 .w1c .status 0
/-- R96. A new phase took its offset -/
def PH_EVT_FLAGS_NEWPH : Field := fld 0x10 0x02 4 1 .w1c .status 0
/-- R96. A shadow set was rejected -/
def PH_EVT_FLAGS_REJECT : Field := fld 0x10 0x02 5 1 .w1c .status 0
/-- R96. dI/dt trigger, in 0.1 A/µs, 1–5,000; 0xFFFF disables -/
def PH_DIDT : Field := fld 0x10 0x04 0 16 .rw .shadow 65535
/-- R96. Error band at bus scale, in mV, 10–2,000; 0xFFFF disables -/
def PH_EBAND : Field := fld 0x10 0x06 0 16 .rw .shadow 65535
/-- R96. Lowest WARN class that abandons a shed, 1–4; 0 disables -/
def PH_WARNMIN : Field := fld 0x10 0x08 0 3 .rw .shadow 0
/-- R96. Phases LEAPed on a step, 1–5; 0 means all warm phases -/
def PH_LEAPSTEP : Field := fld 0x10 0x09 0 3 .rw .shadow 0
/-- R96. Ramp length, in periods, 8–4,096 -/
def PH_SHEDRAMP : Field := fld 0x10 0x0A 0 16 .rw .shadow 250
/-- R96. Dwell time, in ms, 10–60,000 -/
def PH_DWELL : Field := fld 0x10 0x0C 0 16 .rw .shadow 200
/-- R96. Minimum PWMA on-time, in 156.25 ps, 64–1,280 -/
def PH_TMIN : Field := fld 0x10 0x0E 0 16 .rw .static 128
/-- R96. Minimum off-time, in 156.25 ps, 64–1,280 -/
def PH_TOFFMIN : Field := fld 0x10 0x10 0 16 .rw .static 640
/-- R96. Balance authority, in 1/65,536 of the period, 0–3,277 -/
def PH_BALMAX : Field := fld 0x10 0x12 0 16 .rw .shadow 1311
/-- R96. Balance integrator gain, in duty LSB per A, Q8.8 -/
def PH_BALKI : Field := fld 0x10 0x14 0 16 .rw .shadow 64
/-- R96. Zero-current threshold, in 100 mA -/
def PH_IZERO : Field := fld 0x10 0x16 0 16 .rw .shadow 20
/-- R96. Expected zero-current pin voltage, in 0.1 mV -/
def PH_IZNOM : Field := fld 0x10 0x18 0 16 .rw .static 6000
/-- R96. Accepted offset deviation, in 0.1 mV -/
def PH_IZWIN : Field := fld 0x10 0x1A 0 16 .rw .static 1000
/-- R96. Bay PWM frequency, in kHz, 100–500 -/
def PH_FREQ : Field := wfl .phBay 0x10 0x20 0 16 .rw .static 200
/-- R96. Duty clamp, in 1/65,536, at most 58,982 -/
def PH_DMAX : Field := wfl .phBay 0x10 0x22 0 16 .rw .static 52429
/-- R96. Bay base offset, in 1/65,536 of the period -/
def PH_BOFS : Field := ⟨0x10, 0x24, 0, 16, 0, 1, .phBay, .rw, .static, 0, [0, 1365, 2730, 4095, 5460, 6825, 8190, 9555]⟩
/-- R96. PWMB off to PWMA on, in 156.25 ps, 0–1,280 -/
def PH_DTR : Field := wfl .phBay 0x10 0x26 0 16 .rw .static 256
/-- R96. PWMA off to PWMB on, in 156.25 ps, 0–1,280 -/
def PH_DTF : Field := wfl .phBay 0x10 0x28 0 16 .rw .static 256
/-- R96. Phases fitted -/
def PH_PRESENT : Field := wfl .phBay 0x10 0x2A 0 6 .rw .static 63
/-- R96. Conducting phases -/
def PH_COND : Field := wfl .phBay 0x10 0x2B 0 6 .ro .status 0
/-- R96. Warm phases -/
def PH_WARM : Field := wfl .phBay 0x10 0x2C 0 6 .ro .status 0
/-- R96. Conducting count *N* -/
def PH_N : Field := wfl .phBay 0x10 0x2D 0 3 .ro .status 0
/-- R96. Tracker target -/
def PH_NT : Field := wfl .phBay 0x10 0x2D 3 3 .ro .status 0
/-- R96. 0 IDLE, 1 PEND, 2 RAMP, 3 RESPREAD -/
def PH_SHEDST : Field := wfl .phBay 0x10 0x2E 0 2 .ro .status 0
/-- R96. Phase index of the victim -/
def PH_SHEDPH : Field := wfl .phBay 0x10 0x2E 2 3 .ro .status 0
/-- R96. Next victim (R88) -/
def PH_NEXTSHED : Field := wfl .phBay 0x10 0x2F 0 3 .ro .status 0
/-- R96. Bay type code, 0–31 -/
def PH_BAYTYPE : Field := wfl .phBay 0x10 0x2F 3 5 .rw .static 0
/-- R96. Add thresholds, in 100 mA -/
def PH_ADD : Field := arr .phBay 0x10 0x30 0 16 2 5 .rw .shadow 65535
/-- R96. Shed thresholds, in 100 mA -/
def PH_SHED : Field := arr .phBay 0x10 0x3A 0 16 2 5 .rw .shadow 0
/-- R96. Remaining dwell time, in ms -/
def PH_DWELL_LEFT : Field := wfl .phBay 0x10 0x44 0 16 .ro .status 0
/-- R96. Abandoned sheds; saturates -/
def PH_ABANDONS : Field := wfl .phBay 0x10 0x46 0 16 .rc .status 0
/-- R96. Completed sheds; saturates -/
def PH_SHEDCNT : Field := wfl .phBay 0x10 0x48 0 16 .rc .status 0
/-- R96. Adds; saturates -/
def PH_ADDCNT : Field := wfl .phBay 0x10 0x4A 0 16 .rc .status 0
/-- R96. LEAPs; saturates -/
def PH_LEAPCNT : Field := wfl .phBay 0x10 0x4C 0 16 .rc .status 0
/-- R96. Omitted pulses; saturates -/
def PH_MINPULSE : Field := wfl .phBay 0x10 0x4E 0 16 .rc .status 0
/-- R96. IMON scale, in mA per mV -/
def PH_ISCALE : Field := wfl .phBay 0x10 0x50 0 16 .rw .static 100

/-- Every field of page 10. -/
def page10 : List Field :=
  [PH_CTL_MODE, PH_BAY_IDX, PH_EVT_FLAGS_ABANDON, PH_EVT_FLAGS_TRIMLIM, PH_EVT_FLAGS_PHFAULT, PH_EVT_FLAGS_MINPULSE, PH_EVT_FLAGS_NEWPH, PH_EVT_FLAGS_REJECT, PH_DIDT, PH_EBAND, PH_WARNMIN, PH_LEAPSTEP, PH_SHEDRAMP, PH_DWELL, PH_TMIN, PH_TOFFMIN, PH_BALMAX, PH_BALKI, PH_IZERO, PH_IZNOM, PH_IZWIN, PH_FREQ, PH_DMAX, PH_BOFS, PH_DTR, PH_DTF, PH_PRESENT, PH_COND, PH_WARM, PH_N] ++
  [PH_NT, PH_SHEDST, PH_SHEDPH, PH_NEXTSHED, PH_BAYTYPE, PH_ADD, PH_SHED, PH_DWELL_LEFT, PH_ABANDONS, PH_SHEDCNT, PH_ADDCNT, PH_LEAPCNT, PH_MINPULSE, PH_ISCALE]

/-- R97. State of channel 0–47 (R85) -/
def PH_PSTAT_STATE : Field := arr .none 0x11 0x00 0 3 1 48 .ro .status 0
/-- R97. 1: a journalled trim exists -/
def PH_PSTAT_TRIMVALID : Field := arr .none 0x11 0x00 3 1 1 48 .ro .status 0
/-- R97. The duty clamp was hit -/
def PH_PSTAT_CLAMP : Field := arr .none 0x11 0x00 4 1 1 48 .w1c .status 0
/-- R97. Channel shown in the window, 0–47. A value of 48–63 is held and selects no channel (R451) -/
def PH_PH_IDX : Field := fld 0x11 0x30 0 6 .rw .live 0
/-- R97. Gain trim, Q1.15 -/
def PH_GAIN : Field := wfl .phCh 0x11 0x40 0 16 .ro .status 32768
/-- R97. Zero-current pin voltage, in 0.1 mV -/
def PH_OFFSET : Field := wfl .phCh 0x11 0x42 0 16 .ro .status 0
/-- R97. s16. Phase current, in 10 mA -/
def PH_IPH : Field := wfl .phCh 0x11 0x44 0 16 .ro .status 0
/-- R97. Duty of the last pulse, in 1/65,536 -/
def PH_DUTY : Field := wfl .phCh 0x11 0x46 0 16 .ro .status 0
/-- R97. s16. Balance trim, in 1/65,536 -/
def PH_BAL : Field := wfl .phCh 0x11 0x48 0 16 .ro .status 0
/-- R97. Conduction seconds since VDD power-on -/
def PH_CONDSEC : Field := wfl .phCh 0x11 0x4A 0 32 .ro .status 0
/-- R97. 0xA5 discards the channel's trim (R92) -/
def PH_TRIMRST : Field := wfl .phCh 0x11 0x4E 0 8 .wo .live 0

/-- Every field of page 11. -/
def page11 : List Field :=
  [PH_PSTAT_STATE, PH_PSTAT_TRIMVALID, PH_PSTAT_CLAMP, PH_PH_IDX, PH_GAIN, PH_OFFSET, PH_IPH, PH_DUTY, PH_BAL, PH_CONDSEC, PH_TRIMRST]

/-- R125. Bay shown in the window, 0–7 -/
def LE_BAY_IDX : Field := fld 0x12 0x00 0 3 .rw .live 0
/-- R125. A following-error action was taken -/
def LE_EVT_FLAGS_FE : Field := fld 0x12 0x01 0 1 .w1c .status 0
/-- R125. A shadow copy was rejected -/
def LE_EVT_FLAGS_REJECT : Field := fld 0x12 0x01 1 1 .w1c .status 0
/-- R125. VLINK was invalid -/
def LE_EVT_FLAGS_VLINKBAD : Field := fld 0x12 0x01 2 1 .w1c .status 0
/-- R125. A trigger was limited -/
def LE_EVT_FLAGS_TRIGCLAMP : Field := fld 0x12 0x01 3 1 .w1c .status 0
/-- R125. The duty was clamped for 1 ms -/
def LE_EVT_FLAGS_DUTYSAT : Field := fld 0x12 0x01 4 1 .w1c .status 0
/-- R125. A following-error action ended -/
def LE_EVT_FLAGS_FEREC : Field := fld 0x12 0x01 5 1 .w1c .status 0
/-- R125. Bit *b*: commit bay *b*'s shadow copy at its next period start -/
def LE_SHCTL : Field := fld 0x12 0x02 0 8 .wo .live 0
/-- R125. Bit *b*: a commit is pending -/
def LE_SHPEND : Field := fld 0x12 0x03 0 8 .ro .status 0
/-- R125. String discharge threshold, in 100 mA; 0xFFFF disables the sum term -/
def LE_BENG : Field := fld 0x12 0x04 0 16 .rw .static 65535
/-- R125. DC-link volts per VLINK pin volt, in 0.1, 1,000–10,000, one value for every bay (R476) -/
def LE_VLSCAL : Field := fld 0x12 0x06 0 16 .rw .static 3000
/-- R125. Set in force -/
def LE_STAT_SETACT : Field := wfl .leBay 0x12 0x20 0 4 .ro .status 0
/-- R125. Load band -/
def LE_STAT_BAND : Field := wfl .leBay 0x12 0x20 4 2 .ro .status 0
/-- R125. Battery engaged -/
def LE_STAT_BATT : Field := wfl .leBay 0x12 0x20 6 1 .ro .status 0
/-- R125. Mains present -/
def LE_STAT_MAINS : Field := wfl .leBay 0x12 0x20 7 1 .ro .status 0
/-- R125. Phase-count class -/
def LE_STAT_CLASS : Field := wfl .leBay 0x12 0x21 0 2 .ro .status 0
/-- R125. Duty overridden -/
def LE_STAT_OVR : Field := wfl .leBay 0x12 0x21 2 1 .ro .status 1
/-- R125. A following-error action is in force -/
def LE_STAT_FEACT : Field := wfl .leBay 0x12 0x21 3 1 .ro .status 0
/-- R125. Integrator frozen upwards -/
def LE_STAT_FRZHI : Field := wfl .leBay 0x12 0x21 4 1 .ro .status 0
/-- R125. Integrator frozen downwards -/
def LE_STAT_FRZLO : Field := wfl .leBay 0x12 0x21 5 1 .ro .status 0
/-- R125. Region index in force -/
def LE_REGION : Field := wfl .leBay 0x12 0x22 0 6 .ro .status 0
/-- R125. Error saturated -/
def LE_SAT_SAT_ERR : Field := wfl .leBay 0x12 0x23 0 1 .w1c .status 0
/-- R125. Integrator or PID sum saturated -/
def LE_SAT_SAT_INT : Field := wfl .leBay 0x12 0x23 1 1 .w1c .status 0
/-- R125. A lead-lag saturated -/
def LE_SAT_SAT_LL : Field := wfl .leBay 0x12 0x23 2 1 .w1c .status 0
/-- R125. Notch saturated -/
def LE_SAT_SAT_NOTCH : Field := wfl .leBay 0x12 0x23 3 1 .w1c .status 0
/-- R125. Feed-forward sum or ratio saturated -/
def LE_SAT_SAT_FF : Field := wfl .leBay 0x12 0x23 4 1 .w1c .status 0
/-- R125. Duty clamped -/
def LE_SAT_SAT_DUTY : Field := wfl .leBay 0x12 0x23 5 1 .w1c .status 0
/-- R125. Bay reference, in mV -/
def LE_VREF : Field := wfl .leBay 0x12 0x24 0 16 .ro .status 0
/-- R125. Bay output, in mV -/
def LE_VOUT : Field := wfl .leBay 0x12 0x26 0 16 .ro .status 0
/-- R125. s16. Error after EMAX, in mV -/
def LE_ERR : Field := wfl .leBay 0x12 0x28 0 16 .ro .status 0
/-- R125. Duty, in 1/65,536 -/
def LE_DUTY : Field := wfl .leBay 0x12 0x2A 0 16 .ro .status 0
/-- R125. s32. Integrator, in 2⁻²⁹ duty -/
def LE_INTEG : Field := wfl .leBay 0x12 0x2C 0 32 .ro .status 0
/-- R125. DC-link ratio in force, 14 fraction bits -/
def LE_RATIO : Field := wfl .leBay 0x12 0x30 0 16 .ro .status 16384
/-- R125. DC link, in mV -/
def LE_VLINK : Field := wfl .leBay 0x12 0x32 0 32 .ro .status 0
/-- R125. Following-error count, in periods -/
def LE_FECNT : Field := wfl .leBay 0x12 0x36 0 16 .ro .status 0
/-- R125. Set switches; saturates -/
def LE_SWCNT : Field := wfl .leBay 0x12 0x38 0 16 .rc .status 0
/-- R125. Periods with the duty clamped; saturates -/
def LE_SATCNT : Field := wfl .leBay 0x12 0x3A 0 16 .rc .status 0
/-- R125. Largest |e_raw|, in mV -/
def LE_PEAKERR : Field := wfl .leBay 0x12 0x3C 0 16 .rc .status 0
/-- R125. Trigger in force, in 156.25 ps from the period start -/
def LE_TRIGNOW : Field := wfl .leBay 0x12 0x3E 0 16 .ro .status 0
/-- R125. 0 FIXED, 1 MIDOFF -/
def LE_TRIG_MODE : Field := wfl .leBay 0x12 0x40 0 1 .rw .shadow 1
/-- R125. FIXED trigger, in 1/65,536 of the period -/
def LE_TRIGPOS : Field := wfl .leBay 0x12 0x42 0 16 .rw .shadow 49152
/-- R125. s16. Trigger adjustment, in 156.25 ps -/
def LE_TRIGADJ : Field := wfl .leBay 0x12 0x44 0 16 .rw .shadow 0
/-- R125. Sense gain, Q1.15; 0x8000 is exactly 40:1 -/
def LE_VSCAL : Field := wfl .leBay 0x12 0x46 0 16 .rw .static 32768
/-- R125. VLINK_nom, in 0.1 V -/
def LE_VLNOM : Field := wfl .leBay 0x12 0x48 0 16 .rw .static 4000
/-- R125. Lowest valid VLINK, in 0.1 V -/
def LE_VLMIN : Field := wfl .leBay 0x12 0x4A 0 16 .rw .static 2000
/-- R125. Highest valid VLINK, in 0.1 V -/
def LE_VLMAX : Field := wfl .leBay 0x12 0x4C 0 16 .rw .static 5000
/-- R125. Plant factor, in 1/65,536 (R120) -/
def LE_KPL : Field := wfl .leBay 0x12 0x4E 0 16 .rw .static 0
/-- R125. Following-error limit, in mV -/
def LE_FELIM : Field := wfl .leBay 0x12 0x50 0 16 .rw .shadow 2000
/-- R125. Following-error hysteresis, in mV -/
def LE_FEHYS : Field := wfl .leBay 0x12 0x52 0 16 .rw .shadow 200
/-- R125. Following-error time, in 0.1 ms, 1–65,535 -/
def LE_FETIME : Field := wfl .leBay 0x12 0x54 0 16 .rw .shadow 20
/-- R125. 1: supervision on -/
def LE_FECTL_EN : Field := wfl .leBay 0x12 0x56 0 1 .rw .shadow 0
/-- R125. 0 DROP, 1 FAULT -/
def LE_FECTL_ACTION : Field := wfl .leBay 0x12 0x56 1 1 .rw .shadow 0
/-- R125. Downward region dwell, in periods, 1–255 -/
def LE_RDWELL : Field := wfl .leBay 0x12 0x57 0 8 .rw .shadow 16
/-- R125. Load band thresholds, in 100 mA -/
def LE_BAND : Field := arr .leBay 0x12 0x58 0 16 2 3 .rw .shadow 65535
/-- R125. Band hysteresis, in 100 mA -/
def LE_BANDHYS : Field := wfl .leBay 0x12 0x5E 0 16 .rw .shadow 0
/-- R125. 2-bit class for *N* = 1–6, *N* = 1 in [1:0] -/
def LE_NCLASS : Field := wfl .leBay 0x12 0x60 0 12 .rw .shadow 3732
/-- R125. Blanking after a join, in ms -/
def LE_FEBLANK : Field := wfl .leBay 0x12 0x62 0 16 .rw .shadow 100
/-- R125. 0xA5 ends a FAULT action (R123) -/
def LE_FECLR : Field := wfl .leBay 0x12 0x64 0 8 .wo .live 0

/-- Every field of page 12. -/
def page12 : List Field :=
  [LE_BAY_IDX, LE_EVT_FLAGS_FE, LE_EVT_FLAGS_REJECT, LE_EVT_FLAGS_VLINKBAD, LE_EVT_FLAGS_TRIGCLAMP, LE_EVT_FLAGS_DUTYSAT, LE_EVT_FLAGS_FEREC, LE_SHCTL, LE_SHPEND, LE_BENG, LE_VLSCAL, LE_STAT_SETACT, LE_STAT_BAND, LE_STAT_BATT, LE_STAT_MAINS, LE_STAT_CLASS, LE_STAT_OVR, LE_STAT_FEACT, LE_STAT_FRZHI, LE_STAT_FRZLO, LE_REGION, LE_SAT_SAT_ERR, LE_SAT_SAT_INT, LE_SAT_SAT_LL, LE_SAT_SAT_NOTCH, LE_SAT_SAT_FF, LE_SAT_SAT_DUTY, LE_VREF, LE_VOUT, LE_ERR] ++
  [LE_DUTY, LE_INTEG, LE_RATIO, LE_VLINK, LE_FECNT, LE_SWCNT, LE_SATCNT, LE_PEAKERR, LE_TRIGNOW, LE_TRIG_MODE, LE_TRIGPOS, LE_TRIGADJ, LE_VSCAL, LE_VLNOM, LE_VLMIN, LE_VLMAX, LE_KPL, LE_FELIM, LE_FEHYS, LE_FETIME, LE_FECTL_EN, LE_FECTL_ACTION, LE_RDWELL, LE_BAND, LE_BANDHYS, LE_NCLASS, LE_FEBLANK, LE_FECLR]

/-- R126. Bay selected, 0–7 -/
def LE_CS_BAY : Field := fld 0x13 0x00 0 3 .rw .live 0
/-- R126. Set selected, 0–15 -/
def LE_CS_SET : Field := fld 0x13 0x01 0 4 .rw .live 0
/-- R126. 0 shadow copy, 1 active copy -/
def LE_CS_VIEW : Field := fld 0x13 0x02 0 1 .rw .live 0
/-- R126. Region table of LE_CS_BAY; byte *j* holds entry 2*j* in [3:0] and entry 2*j* + 1 in [7:4] -/
def LE_RTAB : Field := arr .leTab 0x13 0x60 0 8 1 32 .rw .shadow 0
/-- R126. G of the selected set in the viewed copy, 29 fraction bits -/
def LE_GDC : Field := wfl .leSet 0x13 0x80 0 32 .ro .status 0
/-- R126. Derived notch coefficients of the selected set, active copy; 0 while NEN = 0 -/
def LE_NCOEF : Field := arr .leSet 0x13 0x84 0 32 4 5 .ro .status 0
/-- R111. Proportional gain, duty per mV -/
def CS_KP : Field := wfl .leSet 0x13 0x10 0 32 .rw .shadow 0
/-- R111. Integral gain per period, duty per mV -/
def CS_KI : Field := wfl .leSet 0x13 0x14 0 32 .rw .shadow 0
/-- R111. Derivative gain, duty per mV -/
def CS_KD : Field := wfl .leSet 0x13 0x18 0 32 .rw .shadow 0
/-- R111. Derivative filter pole, 0 to below 1.0 -/
def CS_DPOLE : Field := wfl .leSet 0x13 0x1C 0 32 .rw .shadow 0
/-- R111. Lead-lag 1 coefficient -/
def CS_LL1_B0 : Field := wfl .leSet 0x13 0x20 0 32 .rw .shadow 0
/-- R111. Lead-lag 1 coefficient -/
def CS_LL1_B1 : Field := wfl .leSet 0x13 0x24 0 32 .rw .shadow 0
/-- R111. Lead-lag 1 coefficient, \|A1\| < 1.0 -/
def CS_LL1_A1 : Field := wfl .leSet 0x13 0x28 0 32 .rw .shadow 0
/-- R111. Lead-lag 2 coefficient -/
def CS_LL2_B0 : Field := wfl .leSet 0x13 0x2C 0 32 .rw .shadow 0
/-- R111. Lead-lag 2 coefficient -/
def CS_LL2_B1 : Field := wfl .leSet 0x13 0x30 0 32 .rw .shadow 0
/-- R111. Lead-lag 2 coefficient, \|A1\| < 1.0 -/
def CS_LL2_A1 : Field := wfl .leSet 0x13 0x34 0 32 .rw .shadow 0
/-- R111. Notch centre, in Hz, 1,000–50,000 -/
def CS_NF : Field := wfl .leSet 0x13 0x38 0 16 .rw .shadow 0
/-- R111. Notch Q, in 0.01, 50–2,000 -/
def CS_NQ : Field := wfl .leSet 0x13 0x3A 0 16 .rw .shadow 0
/-- R111. Gain at the centre, in 1/256; 0 gives a full notch -/
def CS_NDEPTH : Field := wfl .leSet 0x13 0x3C 0 8 .rw .shadow 0
/-- R111. 1: notch in use -/
def CS_NEN : Field := wfl .leSet 0x13 0x3D 0 1 .rw .shadow 0
/-- R111. Duty clamp maximum -/
def CS_DMAX : Field := wfl .leSet 0x13 0x3E 0 16 .rw .shadow 0
/-- R111. Duty clamp minimum -/
def CS_DMIN : Field := wfl .leSet 0x13 0x40 0 16 .rw .shadow 0
/-- R111. Integrator limit, magnitude -/
def CS_IMAX : Field := wfl .leSet 0x13 0x42 0 16 .rw .shadow 0
/-- R111. Lead-lag output limit, magnitude -/
def CS_LLMAX : Field := wfl .leSet 0x13 0x44 0 16 .rw .shadow 0
/-- R111. Notch output limit, magnitude -/
def CS_NMAX : Field := wfl .leSet 0x13 0x46 0 16 .rw .shadow 0
/-- R111. Limit after step feed-forward, magnitude -/
def CS_FFMAX : Field := wfl .leSet 0x13 0x48 0 16 .rw .shadow 0
/-- R111. Error limit, in mV, 1–32,767 -/
def CS_EMAX : Field := wfl .leSet 0x13 0x4A 0 16 .rw .shadow 0

/-- Every field of page 13. -/
def page13 : List Field :=
  [LE_CS_BAY, LE_CS_SET, LE_CS_VIEW, LE_RTAB, LE_GDC, LE_NCOEF, CS_KP, CS_KI, CS_KD, CS_DPOLE, CS_LL1_B0, CS_LL1_B1, CS_LL1_A1, CS_LL2_B0, CS_LL2_B1, CS_LL2_A1, CS_NF, CS_NQ, CS_NDEPTH, CS_NEN, CS_DMAX, CS_DMIN, CS_IMAX, CS_LLMAX, CS_NMAX, CS_FFMAX, CS_EMAX]

/-- R153. A host command completed -/
def SHR_FLAGS_SPDONE : Field := fld 0x14 0x00 0 1 .w1c .status 0
/-- R153. A command was superseded -/
def SHR_FLAGS_SPSUP : Field := fld 0x14 0x00 1 1 .w1c .status 0
/-- R153. A command was refused -/
def SHR_FLAGS_SPREJ : Field := fld 0x14 0x00 2 1 .w1c .status 0
/-- R153. A trim was held at its limit for a cycle -/
def SHR_FLAGS_TRIMSAT : Field := fld 0x14 0x00 3 1 .w1c .status 0
/-- R153. A drop measurement was discarded -/
def SHR_FLAGS_DROPRNG : Field := fld 0x14 0x00 4 1 .w1c .status 0
/-- R153. A bay changed state -/
def SHR_FLAGS_BAYCHG : Field := fld 0x14 0x00 5 1 .w1c .status 0
/-- R153. Vs, in mV -/
def SHR_SPREF : Field := fld 0x14 0x02 0 16 .ro .status 0
/-- R153. Target in force, in 10 mV -/
def SHR_SPTGT : Field := fld 0x14 0x04 0 16 .ro .status 0
/-- R153. Rate in force, in 0.01 V/ms -/
def SHR_SPRATE : Field := fld 0x14 0x06 0 16 .ro .status 0
/-- R153. Sequence number in force -/
def SHR_SPSEQ : Field := fld 0x14 0x08 0 8 .ro .status 0
/-- R153. 0 DONE, 1 SLEWING, 2 PARKED -/
def SHR_SPSTAT : Field := fld 0x14 0x09 0 2 .ro .status 0
/-- R153. Last completed sequence number -/
def SHR_SPDONE : Field := fld 0x14 0x0A 0 8 .ro .status 0
/-- R153. Last superseded sequence number -/
def SHR_SPSUP : Field := fld 0x14 0x0B 0 8 .ro .status 0
/-- R153. Last refused sequence number -/
def SHR_SPREJ : Field := fld 0x14 0x0C 0 8 .ro .status 0
/-- R153. Reason (R132) -/
def SHR_SPREJR : Field := fld 0x14 0x0D 0 3 .ro .status 0
/-- R153. Repeated commands; saturates -/
def SHR_SPDUP : Field := fld 0x14 0x0E 0 8 .rc .status 0
/-- R153. Set-point command (R130) -/
def SHR_SPCMD : Field := fld 0x14 0x10 0 40 .wo .live 0
/-- R153. Image set point, in 10 mV -/
def SHR_SPINIT : Field := fld 0x14 0x16 0 16 .rw .static 5400
/-- R153. Image slew rate, in 0.01 V/ms -/
def SHR_SPRINIT : Field := fld 0x14 0x18 0 16 .rw .static 100
/-- R153. 1: regulate at the taps -/
def SHR_CTL_RPT : Field := fld 0x14 0x1A 0 1 .rw .static 1
/-- R153. Taps in the regulation point; 0 is treated as 0xF -/
def SHR_CTL_TAPSEL : Field := fld 0x14 0x1A 1 4 .rw .static 15
/-- R153. Trim authority, in 0.01 % of Vs, 0–150 -/
def SHR_TAUTH : Field := fld 0x14 0x1B 0 8 .rw .shadow 150
/-- R153. Sharing gain, in mV per A, Q8.8 -/
def SHR_KS : Field := fld 0x14 0x1C 0 16 .rw .shadow 64
/-- R153. Drop compensation limit, in mV -/
def SHR_DROPMAX : Field := fld 0x14 0x1E 0 16 .rw .shadow 500
/-- R153. Largest accepted drop, in µΩ -/
def SHR_RMAX : Field := fld 0x14 0x20 0 16 .rw .static 5000
/-- R153. Starting drop, in µΩ -/
def SHR_RINIT : Field := fld 0x14 0x22 0 16 .rw .static 250
/-- R153. Join ramp, in cycles, 1–255 -/
def SHR_JOINCYC : Field := fld 0x14 0x24 0 8 .rw .shadow 25
/-- R153. Leave ramp, in sharing ticks, 1–255 -/
def SHR_LVTICKS : Field := fld 0x14 0x25 0 8 .rw .shadow 16
/-- R153. Leave current threshold, in 100 mA -/
def SHR_IOFF : Field := fld 0x14 0x26 0 16 .rw .shadow 50
/-- R153. Leave timeout, in ms -/
def SHR_LVTO : Field := fld 0x14 0x28 0 16 .rw .shadow 100
/-- R153. BAYOK timeout, in ms -/
def SHR_OKTIME : Field := fld 0x14 0x2A 0 16 .rw .static 2000
/-- R153. Presence debounce, in ms -/
def SHR_PRESDB : Field := fld 0x14 0x2C 0 16 .rw .static 100
/-- R153. State of bays 0–7 (R138); [7:4] reserved, read 0 -/
def SHR_BAYST : Field := arr .none 0x14 0x30 0 4 1 8 .ro .status 0
/-- R153. w_b of bays 0–7, in 1/255 -/
def SHR_W : Field := arr .none 0x14 0x38 0 8 1 8 .ro .status 0
/-- R153. s16. t_b of bays 0–7, in mV -/
def SHR_TRIM : Field := arr .none 0x14 0x40 0 16 2 8 .ro .status 0
/-- R153. Drop resistance of bays 0–7, in µΩ -/
def SHR_RDROP : Field := arr .none 0x14 0x50 0 16 2 8 .ro .status 0
/-- R153. Share weight of bays 0–7, in 1/256, 64–512 -/
def SHR_SHW : Field := arr .none 0x14 0x60 0 16 2 8 .rw .static 256
/-- R153. Insertions; saturates -/
def SHR_INSCNT : Field := fld 0x14 0x70 0 16 .rc .status 0
/-- R153. Unannounced removals; saturates -/
def SHR_LOSTCNT : Field := fld 0x14 0x72 0 16 .rc .status 0
/-- R153. Ejections; saturates -/
def SHR_EJCNT : Field := fld 0x14 0x74 0 16 .rc .status 0

/-- Every field of page 14. -/
def page14 : List Field :=
  [SHR_FLAGS_SPDONE, SHR_FLAGS_SPSUP, SHR_FLAGS_SPREJ, SHR_FLAGS_TRIMSAT, SHR_FLAGS_DROPRNG, SHR_FLAGS_BAYCHG, SHR_SPREF, SHR_SPTGT, SHR_SPRATE, SHR_SPSEQ, SHR_SPSTAT, SHR_SPDONE, SHR_SPSUP, SHR_SPREJ, SHR_SPREJR, SHR_SPDUP, SHR_SPCMD, SHR_SPINIT, SHR_SPRINIT, SHR_CTL_RPT, SHR_CTL_TAPSEL, SHR_TAUTH, SHR_KS, SHR_DROPMAX, SHR_RMAX, SHR_RINIT, SHR_JOINCYC, SHR_LVTICKS, SHR_IOFF, SHR_LVTO] ++
  [SHR_OKTIME, SHR_PRESDB, SHR_BAYST, SHR_W, SHR_TRIM, SHR_RDROP, SHR_SHW, SHR_INSCNT, SHR_LOSTCNT, SHR_EJCNT]

/-- R154. 1: tracker on -/
def TRK_CTL_EN : Field := fld 0x15 0x00 0 1 .rw .static 0
/-- R154. 1: tracker chooses the bus voltage -/
def TRK_CTL_VPOL : Field := fld 0x15 0x00 1 1 .rw .static 0
/-- R154. 1: DEEP allowed -/
def TRK_CTL_DEEP : Field := fld 0x15 0x00 2 1 .rw .static 0
/-- R154. A new configuration was adopted -/
def TRK_FLAGS_CHANGE : Field := fld 0x15 0x01 0 1 .w1c .status 0
/-- R154. The reserves could not be met -/
def TRK_FLAGS_RESHORT : Field := fld 0x15 0x01 1 1 .w1c .status 0
/-- R154. A shadow set was rejected -/
def TRK_FLAGS_REJECT : Field := fld 0x15 0x01 2 1 .w1c .status 0
/-- R154. Redundant bays, 0–2 -/
def TRK_RED : Field := fld 0x15 0x02 0 2 .rw .shadow 1
/-- R154. Armed WARN class, 0–4 -/
def TRK_ARMCLS : Field := fld 0x15 0x03 0 3 .ro .status 0
/-- R154. Arming window, in cycles -/
def TRK_ARMWIN : Field := fld 0x15 0x04 0 16 .rw .shadow 3000
/-- R154. Transient reserve per class, in 100 mA -/
def TRK_TRES : Field := arr .none 0x15 0x06 0 16 2 4 .rw .shadow 0
/-- R154. Load headroom, in 0.1 % -/
def TRK_HEAD : Field := fld 0x15 0x0E 0 16 .rw .shadow 50
/-- R154. Least saving to adopt, in 0.1 W -/
def TRK_MINSAVE : Field := fld 0x15 0x10 0 16 .rw .shadow 200
/-- R154. Least time before STANDBY, in s -/
def TRK_BAYDWELL : Field := fld 0x15 0x12 0 16 .rw .shadow 60
/-- R154. STANDBY time before DEEP, in s -/
def TRK_DEEPTIME : Field := fld 0x15 0x14 0 16 .rw .shadow 600
/-- R154. STANDBY loss per bay, in 0.1 W -/
def TRK_SBYLOSS : Field := fld 0x15 0x16 0 16 .rw .shadow 250
/-- R154. Slew for a chosen voltage, in 0.01 V/ms -/
def TRK_VSLEW : Field := fld 0x15 0x18 0 16 .rw .shadow 50
/-- R154. Per entry: set point in 10 mV, then loss multiplier with 14 fraction bits -/
def TRK_VTAB_SP : Field := arr .none 0x15 0x1C 0 16 4 4 .rw .shadow 5400
/-- R154. Per entry: set point in 10 mV, then loss multiplier with 14 fraction bits -/
def TRK_VTAB_MUL : Field := arr .none 0x15 0x1E 0 16 4 4 .rw .shadow 16384
/-- R154. Entry in force -/
def TRK_VSEL : Field := fld 0x15 0x2C 0 2 .ro .status 0
/-- R154. Bays chosen active -/
def TRK_ACTMASK : Field := fld 0x15 0x2D 0 8 .ro .status 0
/-- R154. Modelled loss of the choice, in 0.1 W -/
def TRK_LOSS : Field := fld 0x15 0x30 0 32 .ro .status 0
/-- R154. Modelled loss of the previous configuration, in 0.1 W -/
def TRK_ALTLOSS : Field := fld 0x15 0x34 0 32 .ro .status 0
/-- R154. I_L, in 100 mA -/
def TRK_ILOAD : Field := fld 0x15 0x38 0 16 .ro .status 0
/-- R154. Capacity for capping (R151), in 100 mA -/
def TRK_CAPI : Field := fld 0x15 0x3A 0 16 .ro .status 0
/-- R154. Adopted changes; saturates -/
def TRK_CHGCNT : Field := fld 0x15 0x3C 0 16 .rc .status 0
/-- R154. PH_NT of bays 0–7; [7:3] reserved, read 0 -/
def TRK_NT : Field := arr .none 0x15 0x40 0 3 1 8 .ro .status 0
/-- R154. Seconds in JOIN or ACTIVE, bays 0–7, from the journal -/
def TRK_BAYSEC : Field := arr .none 0x15 0x48 0 32 4 8 .ro .status 0

/-- Every field of page 15. -/
def page15 : List Field :=
  [TRK_CTL_EN, TRK_CTL_VPOL, TRK_CTL_DEEP, TRK_FLAGS_CHANGE, TRK_FLAGS_RESHORT, TRK_FLAGS_REJECT, TRK_RED, TRK_ARMCLS, TRK_ARMWIN, TRK_TRES, TRK_HEAD, TRK_MINSAVE, TRK_BAYDWELL, TRK_DEEPTIME, TRK_SBYLOSS, TRK_VSLEW, TRK_VTAB_SP, TRK_VTAB_MUL, TRK_VSEL, TRK_ACTMASK, TRK_LOSS, TRK_ALTLOSS, TRK_ILOAD, TRK_CAPI, TRK_CHGCNT, TRK_NT, TRK_BAYSEC]

/-- R155. Bay selected, 0–7 -/
def TRK_LT_BAY : Field := fld 0x16 0x00 0 3 .rw .live 0
/-- R155. 0 shadow copy, 1 active copy -/
def TRK_LT_VIEW : Field := fld 0x16 0x01 0 1 .rw .live 0
/-- R155. Rating of the selected bay, in 100 mA. Each bay has its own, and R134, R147, R151 and R210 use each bay's v... -/
def TRK_IRATE : Field := wfl .trkBay 0x16 0x02 0 16 .rw .shadow 4000
/-- R155. Current points, in 100 mA -/
def TRK_IPT : Field := arr .trkBay 0x16 0x10 0 16 2 16 .rw .shadow 0
/-- R155. Loss for *N* = 1–6, 16 values per *N*, *N* = 1 first, in 0.1 W -/
def TRK_LT : Field := arr .trkBay 0x16 0x30 0 16 2 96 .rw .shadow 65535

/-- Every field of page 16. -/
def page16 : List Field :=
  [TRK_LT_BAY, TRK_LT_VIEW, TRK_IRATE, TRK_IPT, TRK_LT]

/-- R173. 1: feed-forward on -/
def STP_CTL_FFEN : Field := fld 0x17 0x00 0 1 .rw .static 0
/-- R173. A malformed pulse was seen -/
def STP_FLAGS_MALFORMED : Field := fld 0x17 0x01 0 1 .w1c .status 0
/-- R173. A pulse broke the 20 µs rate -/
def STP_FLAGS_RATE : Field := fld 0x17 0x01 1 1 .w1c .status 0
/-- R173. An input became stuck -/
def STP_FLAGS_STUCK : Field := fld 0x17 0x01 2 1 .w1c .status 0
/-- R173. A stuck input was released -/
def STP_FLAGS_RELEASED : Field := fld 0x17 0x01 3 1 .w1c .status 0
/-- R173. A sag episode closed -/
def STP_FLAGS_SAGEND : Field := fld 0x17 0x01 4 1 .w1c .status 0
/-- R173. The regulation point fell below STP_VDEEP -/
def STP_FLAGS_DEEP : Field := fld 0x17 0x01 5 1 .w1c .status 0
/-- R173. A shadow set was rejected -/
def STP_FLAGS_REJECT : Field := fld 0x17 0x01 6 1 .w1c .status 0
/-- R173. Sag indication (R169) -/
def STP_STAT_SAG : Field := fld 0x17 0x02 0 1 .ro .status 0
/-- R173. Bit *c* − 1: class *c* held -/
def STP_STAT_HOLD : Field := fld 0x17 0x02 1 4 .ro .status 0
/-- R173. Bit *g*: WARNg in use -/
def STP_WEN : Field := fld 0x17 0x04 0 16 .rw .static 0
/-- R173. Bit *g*: WARNg low now -/
def STP_WLEVEL : Field := fld 0x17 0x06 0 16 .ro .status 0
/-- R173. Bit *g*: WARNg stuck -/
def STP_WSTUCK : Field := fld 0x17 0x08 0 16 .ro .status 0
/-- R173. Hold time, in µs, 5–1,000 -/
def STP_HOLDT : Field := fld 0x17 0x0E 0 16 .rw .shadow 200
/-- R173. Decay time constant, in µs, 10–10,000 -/
def STP_FFTAU : Field := fld 0x17 0x10 0 16 .rw .shadow 100
/-- R173. Injection delay, in µs, 0–195 -/
def STP_FFDLY : Field := arr .none 0x17 0x12 0 16 2 4 .rw .shadow 0
/-- R173. Reference bay count, 1–8 -/
def STP_KREF : Field := fld 0x17 0x1A 0 4 .rw .shadow 8
/-- R173. Stuck threshold, in µs, 10–250 -/
def STP_STUCKT : Field := fld 0x17 0x1B 0 8 .rw .static 100
/-- R173. Catching threshold, in 100 mA -/
def STP_SAGI : Field := fld 0x17 0x1C 0 16 .rw .shadow 20
/-- R173. Sag hold, in µs, 50–10,000 -/
def STP_SAGHOLD : Field := fld 0x17 0x1E 0 16 .rw .shadow 500
/-- R173. Deep-sag threshold, in 10 mV -/
def STP_VDEEP : Field := fld 0x17 0x20 0 16 .rw .shadow 4600
/-- R173. Sag episodes per string; saturates -/
def STP_SAGN : Field := arr .none 0x17 0x22 0 8 1 8 .rc .status 0
/-- R173. Runts, all inputs; saturates -/
def STP_WRUNT : Field := fld 0x17 0x2A 0 16 .rc .status 0
/-- R173. Lowest regulation point since the last read, in mV -/
def STP_VMIN : Field := fld 0x17 0x2C 0 16 .rc .status 65535
/-- R173. Duration of the last closed episode, in µs -/
def STP_SAGLAST : Field := fld 0x17 0x2E 0 16 .ro .status 0
/-- R173. Envelope of each class, in 1/64, 0–256 -/
def STP_ENV : Field := arr .none 0x17 0x30 0 16 2 4 .ro .status 0
/-- R173. Sag-catch charge per string, in µA·s; saturates -/
def STP_SAGQ : Field := arr .none 0x17 0x40 0 32 4 8 .rc .status 0
/-- R173. Increment for bay *b*, class *c* at 60 + 8*b* + 2(*c* − 1), in 1/65,536 of duty -/
def STP_FFINC : Field := arr .none 0x17 0x60 0 16 2 32 .rw .shadow 0
/-- R173. Accepted pulses per input; saturates -/
def STP_WACC : Field := arr .none 0x17 0xA0 0 16 2 16 .rc .status 0
/-- R173. Malformed and stuck per input; saturates -/
def STP_WBAD : Field := arr .none 0x17 0xC0 0 8 1 16 .rc .status 0
/-- R173. Pulses ignored by the rate window; saturates -/
def STP_WRATE : Field := arr .none 0x17 0xD0 0 8 1 16 .rc .status 0
/-- R173. Byte *j*: input 2*j* in [3:0], 2*j* + 1 in [7:4]; class 1–4, 0 none -/
def STP_WLAST : Field := arr .none 0x17 0xE0 0 8 1 8 .ro .status 0
/-- R173. Holds ended by a step; saturates -/
def STP_HIT : Field := arr .none 0x17 0xE8 0 16 2 4 .rc .status 0
/-- R173. Holds that expired; saturates -/
def STP_MISS : Field := arr .none 0x17 0xF0 0 16 2 4 .rc .status 0

/-- Every field of page 17. -/
def page17 : List Field :=
  [STP_CTL_FFEN, STP_FLAGS_MALFORMED, STP_FLAGS_RATE, STP_FLAGS_STUCK, STP_FLAGS_RELEASED, STP_FLAGS_SAGEND, STP_FLAGS_DEEP, STP_FLAGS_REJECT, STP_STAT_SAG, STP_STAT_HOLD, STP_WEN, STP_WLEVEL, STP_WSTUCK, STP_HOLDT, STP_FFTAU, STP_FFDLY, STP_KREF, STP_STUCKT, STP_SAGI, STP_SAGHOLD, STP_VDEEP, STP_SAGN, STP_WRUNT, STP_VMIN, STP_SAGLAST, STP_ENV, STP_SAGQ, STP_FFINC, STP_WACC, STP_WBAD] ++
  [STP_WRATE, STP_WLAST, STP_HIT, STP_MISS]

end Sys2Proof.Machine.Reg
end

