-- ==== Sys2Proof/Machine/RegsShelf.lean ====
section
/-! DEFINITION. The register fields of the capping, hold-up, string, estimator, fuse and thermal pages, each from its row of the manual's register tables:
page, offset, lowest bit, width, access (R9), class (R10), reset value (R8). The docstring gives the rule and the description. -/

namespace Sys2Proof.Machine.Reg

/-- R193. 1: capping on -/
def CAP_CTL_EN : Field := fld 0x18 0x00 0 1 .rw .static 0
/-- R193. 1: each feed must carry the shelf -/
def CAP_CTL_FEED2N : Field := fld 0x18 0x00 1 1 .rw .static 1
/-- R193. 1: IMAGE and HOST contracts refuse port S -/
def CAP_CTL_LOCK : Field := fld 0x18 0x00 2 1 .rw .static 1
/-- R193. Pool below the minimums -/
def CAP_FLAGS_SHORT : Field := fld 0x18 0x01 0 1 .w1c .status 0
/-- R193. Pacing began -/
def CAP_FLAGS_PACING : Field := fld 0x18 0x01 1 1 .w1c .status 0
/-- R193. Excess with every group at CAP_PMAX -/
def CAP_FLAGS_EXHAUST : Field := fld 0x18 0x01 2 1 .w1c .status 0
/-- R193. A mailbox record was refused -/
def CAP_FLAGS_MBREF : Field := fld 0x18 0x01 3 1 .w1c .status 0
/-- R193. A contract became UNREACH -/
def CAP_FLAGS_UNREACH : Field := fld 0x18 0x01 4 1 .w1c .status 0
/-- R193. Shadow set rejected -/
def CAP_FLAGS_REJECT : Field := fld 0x18 0x01 5 1 .w1c .status 0
/-- R193. Binding source changed -/
def CAP_FLAGS_LIMIT : Field := fld 0x18 0x01 6 1 .w1c .status 0
/-- R193. 0 bays, 1 feeds, 2 strings, 3 none -/
def CAP_SRC_SOURCE : Field := fld 0x18 0x02 0 2 .ro .status 3
/-- R193. Derating in force -/
def CAP_SRC_THERM : Field := fld 0x18 0x02 2 1 .ro .status 0
/-- R193. Port S base, multiple of 4, 0x08–0x74 -/
def CAP_SBASE : Field := fld 0x18 0x03 0 7 .rw .static 64
/-- R193. P_avail, in W -/
def CAP_PAVAIL : Field := fld 0x18 0x04 0 32 .ro .status 0
/-- R193. P_bay, in W -/
def CAP_PBAY : Field := fld 0x18 0x08 0 32 .ro .status 0
/-- R193. P_feed, in W -/
def CAP_PFEED : Field := fld 0x18 0x0C 0 32 .ro .status 0
/-- R193. P_batt, in W -/
def CAP_PBATT : Field := fld 0x18 0x10 0 32 .ro .status 0
/-- R193. P_str, in W -/
def CAP_PSTR : Field := fld 0x18 0x14 0 32 .ro .status 0
/-- R193. P_chg, in W -/
def CAP_PCHG : Field := fld 0x18 0x18 0 32 .ro .status 0
/-- R193. P_cyc, in W -/
def CAP_POUT : Field := fld 0x18 0x1C 0 32 .ro .status 0
/-- R193. Sum of grants, in W -/
def CAP_GSUM : Field := fld 0x18 0x20 0 32 .ro .status 0
/-- R193. Feed A input limit, in W -/
def CAP_FEEDW_A : Field := fld 0x18 0x24 0 32 .rw .shadow 0
/-- R193. Feed B input limit, in W -/
def CAP_FEEDW_B : Field := fld 0x18 0x28 0 32 .rw .shadow 0
/-- R193. Feed-to-bus efficiency, in 0.1 %, 500–1,000 -/
def CAP_EFF : Field := fld 0x18 0x2C 0 16 .rw .shadow 960
/-- R193. Uncontracted load, in W -/
def CAP_BASE : Field := fld 0x18 0x2E 0 16 .rw .shadow 0
/-- R193. Hold-up duration target, in s, 10–3,600 -/
def CAP_HUPT : Field := fld 0x18 0x30 0 16 .rw .shadow 300
/-- R193. Escalation margin, in 0.1 %, 0–200 -/
def CAP_ENFMARG : Field := fld 0x18 0x32 0 16 .rw .shadow 10
/-- R193. Immediate escalation margin, in 0.1 %, 0–500 -/
def CAP_FASTMARG : Field := fld 0x18 0x34 0 16 .rw .shadow 100
/-- R193. Relief margin, in 0.1 %, 0–500 -/
def CAP_RELHYS : Field := fld 0x18 0x36 0 16 .rw .shadow 30
/-- R193. Ticks over margin, 1–64 -/
def CAP_ENFTICKS : Field := fld 0x18 0x38 0 8 .rw .shadow 2
/-- R193. Ticks under margin, 1–64 -/
def CAP_RELTICKS : Field := fld 0x18 0x39 0 8 .rw .shadow 8
/-- R193. Most pause quanta, 0–56 -/
def CAP_PMAX : Field := fld 0x18 0x3A 0 6 .rw .shadow 56
/-- R193. Refresh interval, in cycles, 1–255 -/
def CAP_REFRESH : Field := fld 0x18 0x3B 0 8 .rw .shadow 50
/-- R193. Failed cycles before UNREACH, 1–255 -/
def CAP_NACKMAX : Field := fld 0x18 0x3C 0 8 .rw .shadow 5
/-- R193. First byte of a grant write -/
def CAP_GCMD : Field := fld 0x18 0x3D 0 8 .rw .static 90
/-- R193. Bit *g*: group fitted; PACE of others released -/
def CAP_GMASK : Field := fld 0x18 0x3E 0 16 .rw .static 65535
/-- R193. Thermal derating d, in 1/256 -/
def CAP_THDER : Field := fld 0x18 0x40 0 16 .ro .status 256
/-- R193. ID of the last mailbox record -/
def CAP_MBID : Field := fld 0x18 0x42 0 7 .ro .status 0
/-- R193. Its result (R178) -/
def CAP_MBRES : Field := fld 0x18 0x43 0 3 .ro .status 0
/-- R193. Its SEQ -/
def CAP_MBSEQ : Field := fld 0x18 0x44 0 8 .ro .status 0
/-- R193. Byte *j*: group 2*j* in [2:0], group 2*j* + 1 in [6:4]; [3] and [7] reserved, read 0 -/
def CAP_RCLS : Field := arr .none 0x18 0x48 0 8 1 8 .rw .shadow 0
/-- R193. p_g; [7:6] reserved, read 0 -/
def CAP_PQ : Field := arr .none 0x18 0x50 0 6 1 16 .ro .status 0
/-- R193. [1:0] class, [2] has open contracts; [7:3] reserved, read 0 -/
def CAP_GCLS : Field := arr .none 0x18 0x60 0 3 1 16 .ro .status 0
/-- R193. String discharge limit, in 100 mA -/
def CAP_ISTR : Field := arr .none 0x18 0x70 0 16 2 8 .rw .static 0
/-- R193. Escalations; saturates -/
def CAP_ESCCNT : Field := fld 0x18 0x80 0 16 .rc .status 0
/-- R193. Reliefs; saturates -/
def CAP_RELCNT : Field := fld 0x18 0x82 0 16 .rc .status 0
/-- R193. Failed grant writes; saturates -/
def CAP_NACKCNT : Field := fld 0x18 0x84 0 16 .rc .status 0
/-- R193. Longest queue, in 0.1 ms -/
def CAP_PUBLAG : Field := fld 0x18 0x86 0 16 .rc .status 0
/-- R193. Unallocated pool, in W -/
def CAP_UNALLOC : Field := fld 0x18 0x88 0 32 .ro .status 0

/-- Every field of page 18. -/
def page18 : List Field :=
  [CAP_CTL_EN, CAP_CTL_FEED2N, CAP_CTL_LOCK, CAP_FLAGS_SHORT, CAP_FLAGS_PACING, CAP_FLAGS_EXHAUST, CAP_FLAGS_MBREF, CAP_FLAGS_UNREACH, CAP_FLAGS_REJECT, CAP_FLAGS_LIMIT, CAP_SRC_SOURCE, CAP_SRC_THERM, CAP_SBASE, CAP_PAVAIL, CAP_PBAY, CAP_PFEED, CAP_PBATT, CAP_PSTR, CAP_PCHG, CAP_POUT, CAP_GSUM, CAP_FEEDW_A, CAP_FEEDW_B, CAP_EFF, CAP_BASE, CAP_HUPT, CAP_ENFMARG, CAP_FASTMARG, CAP_RELHYS, CAP_ENFTICKS] ++
  [CAP_RELTICKS, CAP_PMAX, CAP_REFRESH, CAP_NACKMAX, CAP_GCMD, CAP_GMASK, CAP_THDER, CAP_MBID, CAP_MBRES, CAP_MBSEQ, CAP_RCLS, CAP_PQ, CAP_GCLS, CAP_ISTR, CAP_ESCCNT, CAP_RELCNT, CAP_NACKCNT, CAP_PUBLAG, CAP_UNALLOC]

/-- R194. Contract selected, 0–127 -/
def CAP_CT_IDX : Field := fld 0x19 0x00 0 7 .rw .live 0
/-- R194. 0 shadow copy, 1 active copy -/
def CAP_CT_VIEW : Field := fld 0x19 0x01 0 1 .rw .live 0
/-- R194. Result of the last host write (R178) -/
def CAP_CT_RES : Field := fld 0x19 0x02 0 3 .ro .status 0
/-- R194. Record of R176 -/
def CAP_CT_REC : Field := arr .capCt 0x19 0x10 0 8 1 16 .rw .shadow 0
/-- R194. Grant record of R183 -/
def CAP_CT_GRANT : Field := arr .capCt 0x19 0x20 0 8 1 12 .ro .status 0
/-- R194. 0 none, 1 IMAGE, 2 HOST, 3 SLED -/
def CAP_CT_ORIGIN : Field := wfl .capCt 0x19 0x2C 0 2 .ro .status 0
/-- R194. Consecutive failed cycles -/
def CAP_CT_NACKS : Field := wfl .capCt 0x19 0x2D 0 8 .ro .status 0
/-- R194. Bit *i*: contract *i* open -/
def CAP_CT_OPEN : Field := fld 0x19 0x30 0 128 .ro .status 0
/-- R194. Bit *i*: contract *i* UNREACH -/
def CAP_CT_UNREACH : Field := fld 0x19 0x40 0 128 .ro .status 0

/-- Every field of page 19. -/
def page19 : List Field :=
  [CAP_CT_IDX, CAP_CT_VIEW, CAP_CT_RES, CAP_CT_REC, CAP_CT_GRANT, CAP_CT_ORIGIN, CAP_CT_NACKS, CAP_CT_OPEN, CAP_CT_UNREACH]

/-- R215. 0 MAINS, 1 WALKDOWN, 2 ON_BATTERY, 3 RESTART, 4 WALKUP, 5 HANDBACK, 6 HELD -/
def HUP_STAT_STAGE : Field := fld 0x1A 0x00 0 3 .ro .status 0
/-- R215. Mains present (R201) -/
def HUP_STAT_MAINS : Field := fld 0x1A 0x00 3 1 .ro .status 0
/-- R215. Ride-through armed -/
def HUP_STAT_RTARM : Field := fld 0x1A 0x00 4 1 .ro .status 0
/-- R215. Outage declared -/
def HUP_FLAGS_OUTAGE : Field := fld 0x1A 0x01 0 1 .w1c .status 0
/-- R215. RUN reached from HOLDUP -/
def HUP_FLAGS_RETURN : Field := fld 0x1A 0x01 1 1 .w1c .status 0
/-- R215. A feed changed state -/
def HUP_FLAGS_FEED : Field := fld 0x1A 0x01 2 1 .w1c .status 0
/-- R215. Chatter hold began -/
def HUP_FLAGS_CHATTER : Field := fld 0x1A 0x01 3 1 .w1c .status 0
/-- R215. Energy below HUP_ELOW -/
def HUP_FLAGS_ELOW : Field := fld 0x1A 0x01 4 1 .w1c .status 0
/-- R215. Shadow set rejected -/
def HUP_FLAGS_REJECT : Field := fld 0x1A 0x01 5 1 .w1c .status 0
/-- R215. Event 0x1107 or 0x1108 raised -/
def HUP_FLAGS_FORCED : Field := fld 0x1A 0x01 6 1 .w1c .status 0
/-- R215. State of feed A (R201) -/
def HUP_FEEDST_A : Field := fld 0x1A 0x02 0 2 .ro .status 0
/-- R215. State of feed B -/
def HUP_FEEDST_B : Field := fld 0x1A 0x02 2 2 .ro .status 0
/-- R215. Last loss: 0 crest, 1 RMS low, 2 RMS high, 3 frequency, 4 sequence -/
def HUP_REASON_CODE : Field := fld 0x1A 0x03 0 3 .ro .status 0
/-- R215. 0 A, 1 B -/
def HUP_REASON_FEED : Field := fld 0x1A 0x03 3 1 .ro .status 0
/-- R215. Phase 1–3 -/
def HUP_REASON_PHASE : Field := fld 0x1A 0x03 4 2 .ro .status 0
/-- R215. Feed A judged -/
def HUP_CFG_FEEDA : Field := fld 0x1A 0x04 0 1 .rw .static 1
/-- R215. Feed B judged -/
def HUP_CFG_FEEDB : Field := fld 0x1A 0x04 1 1 .rw .static 1
/-- R215. Good cycles of feed A -/
def HUP_QCNT_A : Field := fld 0x1A 0x05 0 8 .ro .status 0
/-- R215. Good cycles of feed B -/
def HUP_QCNT_B : Field := fld 0x1A 0x06 0 8 .ro .status 0
/-- R215. Transitions in the window -/
def HUP_CHATNOW : Field := fld 0x1A 0x07 0 4 .ro .status 0
/-- R215. Nominal feed voltage, in 0.1 V RMS, line-to-line for three-phase, 1,000–6,000 -/
def HUP_VNOM : Field := fld 0x1A 0x08 0 16 .rw .static 4000
/-- R215. Feed volts per pin volt, in 0.1 -/
def HUP_ACSCAL : Field := fld 0x1A 0x0A 0 16 .rw .static 4000
/-- R215. Crest limit, in %, 30–95 -/
def HUP_CRLO : Field := fld 0x1A 0x0C 0 8 .rw .shadow 70
/-- R215. Consecutive failed checks, 1–4 -/
def HUP_CRN : Field := fld 0x1A 0x0D 0 3 .rw .shadow 1
/-- R215. RMS low limit, in %, 50–95 -/
def HUP_RMSLO : Field := fld 0x1A 0x0E 0 8 .rw .shadow 80
/-- R215. RMS high limit, in %, 105–130 -/
def HUP_RMSHI : Field := fld 0x1A 0x0F 0 8 .rw .shadow 115
/-- R215. Qualification, in cycles, 2–255 -/
def HUP_QCYC : Field := fld 0x1A 0x10 0 8 .rw .shadow 10
/-- R215. Ride-through window, in cycles, 0–4 -/
def HUP_RTW : Field := fld 0x1A 0x11 0 3 .rw .shadow 2
/-- R215. Ride-through checks, 8–96 -/
def HUP_RTCHK : Field := fld 0x1A 0x12 0 8 .rw .shadow 24
/-- R215. Chatter limit, 2–15 -/
def HUP_CHATN : Field := fld 0x1A 0x13 0 4 .rw .shadow 5
/-- R215. Chatter window, in s, 1–600 -/
def HUP_CHATW : Field := fld 0x1A 0x14 0 16 .rw .shadow 10
/-- R215. Hold, in s, 1–3,600 -/
def HUP_CHATLOCK : Field := fld 0x1A 0x16 0 16 .rw .shadow 60
/-- R215. Walk-down rate, in 0.01 V/ms, 10–2,000 -/
def HUP_WALKRATE : Field := fld 0x1A 0x18 0 16 .rw .shadow 200
/-- R215. Walk-up rate, in 0.01 V/ms, 10–2,000 -/
def HUP_RETRATE : Field := fld 0x1A 0x1A 0 16 .rw .shadow 50
/-- R215. Walk margin, in mV, 0–2,000 -/
def HUP_WALKMARG : Field := fld 0x1A 0x1C 0 16 .rw .shadow 500
/-- R215. Lowest walk target, in 10 mV, 4,400–5,800 -/
def HUP_VFLOOR : Field := fld 0x1A 0x1E 0 16 .rw .shadow 4400
/-- R215. Release DC link, in 0.1 V -/
def HUP_VLREL : Field := fld 0x1A 0x20 0 16 .rw .shadow 3000
/-- R215. BAYEN stagger, in ms, 0–100 -/
def HUP_STAG : Field := fld 0x1A 0x22 0 16 .rw .shadow 10
/-- R215. Restart timeout, in ms, 100–60,000 -/
def HUP_RSTO : Field := fld 0x1A 0x24 0 16 .rw .shadow 2000
/-- R215. Handback quiet time, in ms, 1–1,000 -/
def HUP_HBT : Field := fld 0x1A 0x26 0 16 .rw .shadow 20
/-- R215. Handback timeout, in ms, 10–10,000 -/
def HUP_HBTO : Field := fld 0x1A 0x28 0 16 .rw .shadow 1000
/-- R215. Recharge delay, in s, 0–3,600 -/
def HUP_CHGDLY : Field := fld 0x1A 0x2A 0 16 .rw .shadow 30
/-- R215. Recharge stagger, in s -/
def HUP_CHGSTAG : Field := fld 0x1A 0x2C 0 8 .rw .shadow 5
/-- R215. Low-energy warning, in Wh; 0 disables -/
def HUP_ELOW : Field := fld 0x1A 0x2E 0 16 .rw .shadow 0
/-- R215. Hold cut-off, in Wh; 0 disables -/
def HUP_EHELD : Field := fld 0x1A 0x30 0 16 .rw .shadow 0
/-- R215. Learned crest of feed A, in 0.1 V -/
def HUP_APK_A : Field := fld 0x1A 0x32 0 16 .ro .status 0
/-- R215. Learned crest of feed B, in 0.1 V -/
def HUP_APK_B : Field := fld 0x1A 0x34 0 16 .ro .status 0
/-- R215. Target at the declaration, in 10 mV -/
def HUP_VPRE : Field := fld 0x1A 0x36 0 16 .ro .status 0
/-- R215. V_w, in 10 mV -/
def HUP_VWALK : Field := fld 0x1A 0x38 0 16 .ro .status 0
/-- R215. Detection time (R202), in µs -/
def HUP_DETLAST : Field := fld 0x1A 0x3A 0 16 .ro .status 0
/-- R215. Hold remaining, in s -/
def HUP_HOLDLEFT : Field := fld 0x1A 0x3C 0 16 .ro .status 0
/-- R215. Duration of the present or last HOLDUP, in ms -/
def HUP_HUPTIME : Field := fld 0x1A 0x40 0 32 .ro .status 0
/-- R215. String energy in that HOLDUP, in 0.1 Wh -/
def HUP_HUPWH : Field := fld 0x1A 0x44 0 32 .ro .status 0
/-- R215. Outages; saturates -/
def HUP_OUTCNT : Field := fld 0x1A 0x48 0 16 .rc .status 0
/-- R215. Ride-through returns; saturates -/
def HUP_RTCNT : Field := fld 0x1A 0x4A 0 16 .rc .status 0
/-- R215. Holds; saturates -/
def HUP_CHATCNT : Field := fld 0x1A 0x4C 0 16 .rc .status 0
/-- R215. Bit *b*: bay released in this HOLDUP -/
def HUP_RELMASK : Field := fld 0x1A 0x4E 0 8 .ro .status 0
/-- R215. Last half-cycle RMS of ACA1–3 and ACB1–3, in 0.1 V -/
def HUP_VRMS : Field := arr .none 0x1A 0x50 0 16 2 6 .ro .status 0

/-- Every field of page 1A. -/
def page1A : List Field :=
  [HUP_STAT_STAGE, HUP_STAT_MAINS, HUP_STAT_RTARM, HUP_FLAGS_OUTAGE, HUP_FLAGS_RETURN, HUP_FLAGS_FEED, HUP_FLAGS_CHATTER, HUP_FLAGS_ELOW, HUP_FLAGS_REJECT, HUP_FLAGS_FORCED, HUP_FEEDST_A, HUP_FEEDST_B, HUP_REASON_CODE, HUP_REASON_FEED, HUP_REASON_PHASE, HUP_CFG_FEEDA, HUP_CFG_FEEDB, HUP_QCNT_A, HUP_QCNT_B, HUP_CHATNOW, HUP_VNOM, HUP_ACSCAL, HUP_CRLO, HUP_CRN, HUP_RMSLO, HUP_RMSHI, HUP_QCYC, HUP_RTW, HUP_RTCHK, HUP_CHATN] ++
  [HUP_CHATW, HUP_CHATLOCK, HUP_WALKRATE, HUP_RETRATE, HUP_WALKMARG, HUP_VFLOOR, HUP_VLREL, HUP_STAG, HUP_RSTO, HUP_HBT, HUP_HBTO, HUP_CHGDLY, HUP_CHGSTAG, HUP_ELOW, HUP_EHELD, HUP_APK_A, HUP_APK_B, HUP_VPRE, HUP_VWALK, HUP_DETLAST, HUP_HOLDLEFT, HUP_HUPTIME, HUP_HUPWH, HUP_OUTCNT, HUP_RTCNT, HUP_CHATCNT, HUP_RELMASK, HUP_VRMS]

/-- R242. String shown in the window, 0–7 -/
def BST_IDX : Field := fld 0x1B 0x00 0 3 .rw .live 0
/-- R242. A charge terminated -/
def BST_FLAGS_TERM : Field := fld 0x1B 0x01 0 1 .w1c .status 0
/-- R242. A string entered HALT -/
def BST_FLAGS_HALT : Field := fld 0x1B 0x01 1 1 .w1c .status 0
/-- R242. A string was removed (R224) -/
def BST_FLAGS_REMOVED : Field := fld 0x1B 0x01 2 1 .w1c .status 0
/-- R242. A string was inserted -/
def BST_FLAGS_INSERTED : Field := fld 0x1B 0x01 3 1 .w1c .status 0
/-- R242. A shadow set was rejected -/
def BST_FLAGS_REJECT : Field := fld 0x1B 0x01 4 1 .w1c .status 0
/-- R242. BOK stopped a charge -/
def BST_FLAGS_BOK : Field := fld 0x1B 0x01 5 1 .w1c .status 0
/-- R242. A temperature rule acted -/
def BST_FLAGS_TEMP : Field := fld 0x1B 0x01 6 1 .w1c .status 0
/-- R242. Shelf charge budget, in W -/
def BST_PSHELF : Field := fld 0x1B 0x02 0 16 .rw .shadow 12000
/-- R242. Iset ramp, in 0.01 A/s, 1–5,000 -/
def BST_IRAMP : Field := fld 0x1B 0x04 0 16 .rw .shadow 100
/-- R242. Delay before charging, in s, 0–3,600 -/
def BST_INSDLY : Field := fld 0x1B 0x06 0 16 .rw .shadow 30
/-- R242. Presence debounce, in ms, 10–1,000 -/
def BST_PRESDB : Field := fld 0x1B 0x08 0 16 .rw .static 100
/-- R242. BV collapse rate, in 0.1 V/ms, 10–500 -/
def BST_COLLAPSE : Field := fld 0x1B 0x0A 0 16 .rw .static 50
/-- R242. State (R232); [7:4] reserved, read 0 -/
def BST_CST : Field := arr .none 0x1B 0x10 0 4 1 8 .ro .status 0
/-- R242. Bit *s*: BPRESs debounced -/
def BST_PRESENT : Field := fld 0x1B 0x18 0 8 .ro .status 0
/-- R242. Bit *s*: BOKs high -/
def BST_BOKLVL : Field := fld 0x1B 0x19 0 8 .ro .status 0
/-- R242. Bit *s*: state 2–5 -/
def BST_CHARGING : Field := fld 0x1B 0x1A 0 8 .ro .status 0
/-- R242. 0 NICKEL, 1 LITHIUM -/
def BST_CFG_CHEM : Field := wfl .bstStr 0x1B 0x20 0 1 .rw .static 0
/-- R242. 1: charging enabled -/
def BST_CFG_EN : Field := wfl .bstStr 0x1B 0x20 1 1 .rw .static 0
/-- R242. Cells in series, 1–48; 0 marks the string as not fitted (R242) -/
def BST_CELLS : Field := wfl .bstStr 0x1B 0x21 0 8 .rw .static 0
/-- R242. State (R232) -/
def BST_WST_STATE : Field := wfl .bstStr 0x1B 0x22 0 4 .ro .status 0
/-- R242. Reason of the last change, 0–22 -/
def BST_WST_REASON : Field := wfl .bstStr 0x1B 0x23 0 8 .ro .status 0
/-- R242. Nameplate C, in 0.1 Ah, 10–10,000 -/
def BST_CAP : Field := wfl .bstStr 0x1B 0x24 0 16 .rw .static 0
/-- R242. FAST current, in C/100, 10–50 -/
def BST_FASTC : Field := wfl .bstStr 0x1B 0x26 0 8 .rw .shadow 50
/-- R242. Stage current limit, in 10 mA, 100–5,000 -/
def BST_IMAX : Field := wfl .bstStr 0x1B 0x28 0 16 .rw .static 5000
/-- R242. Vset per cell, in 0.1 mV -/
def BST_VCV : Field := wfl .bstStr 0x1B 0x2A 0 16 .rw .shadow 15800
/-- R242. Over-voltage margin, in mV/cell, 10–200 -/
def BST_VOVM : Field := wfl .bstStr 0x1B 0x2C 0 8 .rw .shadow 50
/-- R242. −ΔV, in mV/cell, 2–20 -/
def BST_DV : Field := wfl .bstStr 0x1B 0x2D 0 8 .rw .shadow 6
/-- R242. Consecutive windows, 1–10 -/
def BST_DVN : Field := wfl .bstStr 0x1B 0x2E 0 8 .rw .shadow 3
/-- R242. dT/dt, in 0.1 °C/min, 5–30 -/
def BST_DTDT : Field := wfl .bstStr 0x1B 0x2F 0 8 .rw .shadow 10
/-- R242. FAST blanking, in s, 0–3,600 -/
def BST_DVBLANK : Field := wfl .bstStr 0x1B 0x30 0 16 .rw .shadow 300
/-- R242. s16. Lowest charge temperature, in 0.0625 °C -/
def BST_TMINC : Field := wfl .bstStr 0x1B 0x32 0 16 .rw .shadow 0
/-- R242. s16. Highest start temperature -/
def BST_TMAXC : Field := wfl .bstStr 0x1B 0x34 0 16 .rw .shadow 640
/-- R242. s16. Termination temperature -/
def BST_TTERM : Field := wfl .bstStr 0x1B 0x36 0 16 .rw .shadow 800
/-- R242. s16. HALT temperature -/
def BST_TCUT : Field := wfl .bstStr 0x1B 0x38 0 16 .rw .shadow 960
/-- R242. Hysteresis, in 0.1 °C, 10–100 -/
def BST_THYS : Field := wfl .bstStr 0x1B 0x3A 0 8 .rw .shadow 30
/-- R242. BT inputs used -/
def BST_BTMASK : Field := wfl .bstStr 0x1B 0x3B 0 4 .rw .static 15
/-- R242. TRICKLE limit, in min, 1–1,440 -/
def BST_TTRK : Field := wfl .bstStr 0x1B 0x3C 0 16 .rw .shadow 60
/-- R242. PRECHARGE limit, in min, 1–1,440 -/
def BST_TPRE : Field := wfl .bstStr 0x1B 0x3E 0 16 .rw .shadow 60
/-- R242. FAST limit, in min, 10–1,440 -/
def BST_TFAST : Field := wfl .bstStr 0x1B 0x40 0 16 .rw .shadow 240
/-- R242. NICKEL TOPOFF time, in min, 1–240 -/
def BST_TOPT : Field := wfl .bstStr 0x1B 0x42 0 16 .rw .shadow 45
/-- R242. LITHIUM TOPOFF limit, in min, 10–600 -/
def BST_TCV : Field := wfl .bstStr 0x1B 0x44 0 16 .rw .shadow 120
/-- R242. FAST charge limit, in % of C, 100–200 -/
def BST_QMAX : Field := wfl .bstStr 0x1B 0x46 0 8 .rw .shadow 120
/-- R242. Re-top deficit, in 0.1 % of C, 10–200 -/
def BST_RETOP : Field := wfl .bstStr 0x1B 0x47 0 8 .rw .shadow 30
/-- R242. Restart deficit, in % of C, 5–80 -/
def BST_REFAST : Field := wfl .bstStr 0x1B 0x48 0 8 .rw .shadow 20
/-- R242. Re-top factor, in %, 100–200 -/
def BST_RTFAC : Field := wfl .bstStr 0x1B 0x49 0 8 .rw .shadow 120
/-- R242. TERMINATE rest, in s, 0–3,600 -/
def BST_TRST : Field := wfl .bstStr 0x1B 0x4A 0 16 .rw .shadow 60
/-- R242. LITHIUM recharge, in 0.1 mV/cell -/
def BST_LIRECH : Field := wfl .bstStr 0x1B 0x4C 0 16 .rw .shadow 40000
/-- R242. Stage frequency, in kHz, 100–300 -/
def BST_FREQ : Field := wfl .bstStr 0x1B 0x4E 0 16 .rw .static 200
/-- R242. Largest *D*a, in 1/65,536 -/
def BST_DAMAX : Field := wfl .bstStr 0x1B 0x50 0 16 .rw .static 61604
/-- R242. Largest *D*b, in 1/65,536, at most 32,768 -/
def BST_DBMAX : Field := wfl .bstStr 0x1B 0x52 0 16 .rw .static 32768
/-- R242. Current proportional gain, in 2⁻¹⁶ *M* per 10 mA -/
def BST_KPI : Field := wfl .bstStr 0x1B 0x54 0 16 .rw .shadow 64
/-- R242. Current integral gain per sample -/
def BST_KII : Field := wfl .bstStr 0x1B 0x56 0 16 .rw .shadow 16
/-- R242. Voltage proportional gain, in 2⁻¹⁶ *M* per mV -/
def BST_KPV : Field := wfl .bstStr 0x1B 0x58 0 16 .rw .shadow 32
/-- R242. Voltage integral gain per sample -/
def BST_KIV : Field := wfl .bstStr 0x1B 0x5A 0 16 .rw .shadow 8
/-- R242. BI scale, in mA per mV, measured from the 0.900 V zero (R219) -/
def BST_BISCAL : Field := wfl .bstStr 0x1B 0x5C 0 16 .rw .static 25
/-- R242. BV divider, in 0.01 -/
def BST_BVSCAL : Field := wfl .bstStr 0x1B 0x5E 0 16 .rw .static 4000
/-- R242. Iset in force, in 10 mA -/
def BST_ISET : Field := wfl .bstStr 0x1B 0x60 0 16 .ro .status 0
/-- R242. s16. 1 s mean BI, in 10 mA -/
def BST_BIAVG : Field := wfl .bstStr 0x1B 0x62 0 16 .ro .status 0
/-- R242. 1 s mean BV, in mV -/
def BST_BVAVG : Field := wfl .bstStr 0x1B 0x64 0 16 .ro .status 0
/-- R242. *v*pk × BST_CELLS, in mV -/
def BST_VPK : Field := wfl .bstStr 0x1B 0x66 0 16 .ro .status 0
/-- R242. s16. String temperature, in 0.0625 °C -/
def BST_TSTR : Field := wfl .bstStr 0x1B 0x68 0 16 .ro .status 0
/-- R242. s16. Slope, in 0.1 °C/min -/
def BST_DTNOW : Field := wfl .bstStr 0x1B 0x6A 0 16 .ro .status 0
/-- R242. *M*, Q2.14 -/
def BST_M : Field := wfl .bstStr 0x1B 0x6C 0 16 .ro .status 0
/-- R242. Deficit, in 0.01 Ah -/
def BST_DEFICIT : Field := wfl .bstStr 0x1B 0x6E 0 16 .ro .status 0
/-- R242. Time in the present phase, in s -/
def BST_PHTIME : Field := wfl .bstStr 0x1B 0x70 0 32 .ro .status 0
/-- R242. Charge in FAST, in 0.001 Ah -/
def BST_QFAST : Field := wfl .bstStr 0x1B 0x74 0 32 .ro .status 0
/-- R242. −ΔV count (R237) -/
def BST_DVCNT : Field := wfl .bstStr 0x1B 0x78 0 8 .ro .status 0
/-- R242. Normal termination since presence -/
def BST_HIST_NORMAL : Field := wfl .bstStr 0x1B 0x79 0 1 .ro .status 0
/-- R242. Key and command (R240) -/
def BST_CMD : Field := wfl .bstStr 0x1B 0x7A 0 16 .wo .live 0
/-- R242. 0 none, 1 accepted, 2 refused, 3 bad key -/
def BST_CMDRES : Field := wfl .bstStr 0x1B 0x7C 0 8 .ro .status 0

/-- Every field of page 1B. -/
def page1B : List Field :=
  [BST_IDX, BST_FLAGS_TERM, BST_FLAGS_HALT, BST_FLAGS_REMOVED, BST_FLAGS_INSERTED, BST_FLAGS_REJECT, BST_FLAGS_BOK, BST_FLAGS_TEMP, BST_PSHELF, BST_IRAMP, BST_INSDLY, BST_PRESDB, BST_COLLAPSE, BST_CST, BST_PRESENT, BST_BOKLVL, BST_CHARGING, BST_CFG_CHEM, BST_CFG_EN, BST_CELLS, BST_WST_STATE, BST_WST_REASON, BST_CAP, BST_FASTC, BST_IMAX, BST_VCV, BST_VOVM, BST_DV, BST_DVN, BST_DTDT] ++
  [BST_DVBLANK, BST_TMINC, BST_TMAXC, BST_TTERM, BST_TCUT, BST_THYS, BST_BTMASK, BST_TTRK, BST_TPRE, BST_TFAST, BST_TOPT, BST_TCV, BST_QMAX, BST_RETOP, BST_REFAST, BST_RTFAC, BST_TRST, BST_LIRECH, BST_FREQ, BST_DAMAX, BST_DBMAX, BST_KPI, BST_KII, BST_KPV, BST_KIV, BST_BISCAL, BST_BVSCAL, BST_ISET, BST_BIAVG, BST_BVAVG] ++
  [BST_VPK, BST_TSTR, BST_DTNOW, BST_M, BST_DEFICIT, BST_PHTIME, BST_QFAST, BST_DVCNT, BST_HIST_NORMAL, BST_CMD, BST_CMDRES]

/-- R264. String in the window, 0–7 -/
def EST_IDX : Field := fld 0x1C 0x00 0 3 .rw .live 0
/-- R264. A string entered NAIVE -/
def EST_FLAGS_NAIVE : Field := fld 0x1C 0x01 0 1 .w1c .status 0
/-- R264. A capsule was applied -/
def EST_FLAGS_RESTORED : Field := fld 0x1C 0x01 1 1 .w1c .status 0
/-- R264. A restore was rejected -/
def EST_FLAGS_REJECT : Field := fld 0x1C 0x01 2 1 .w1c .status 0
/-- R264. Inconsistency (R252, R253) -/
def EST_FLAGS_INCONS : Field := fld 0x1C 0x01 3 1 .w1c .status 0
/-- R264. A model parameter at a limit -/
def EST_FLAGS_LIMIT : Field := fld 0x1C 0x01 4 1 .w1c .status 0
/-- R264. Shadow set rejected -/
def EST_FLAGS_SHREJ : Field := fld 0x1C 0x01 5 1 .w1c .status 0
/-- R264. Hibernating -/
def EST_STAT_HIB : Field := fld 0x1C 0x02 0 1 .ro .status 0
/-- R264. *u*s growth, in 0.01 %/day, 0–1,000 -/
def EST_UGROW : Field := fld 0x1C 0x04 0 16 .rw .shadow 50
/-- R264. Counting uncertainty, in 0.01 % of charge, 0–500 -/
def EST_UGAIN : Field := fld 0x1C 0x06 0 16 .rw .shadow 20
/-- R264. *u*s at an anchor, in 0.01 % -/
def EST_UANCH : Field := fld 0x1C 0x08 0 16 .rw .shadow 200
/-- R264. Largest *u*s, in 0.01 % -/
def EST_UMAX : Field := fld 0x1C 0x0A 0 16 .rw .shadow 5000
/-- R264. *u*c when NAIVE and largest *u*c, in 0.01 % -/
def EST_UCNAIVE : Field := fld 0x1C 0x0C 0 16 .rw .shadow 2000
/-- R264. Smallest *u*c, in 0.01 % -/
def EST_UCMIN : Field := fld 0x1C 0x0E 0 16 .rw .shadow 100
/-- R264. Least SoC span for learning, in 0.01 % -/
def EST_DSMIN : Field := fld 0x1C 0x10 0 16 .rw .shadow 5000
/-- R264. Capacity learning gain, in 1/256, 1–255 -/
def EST_CGAIN : Field := fld 0x1C 0x12 0 8 .rw .shadow 64
/-- R264. Model gain, in 1/65,536 -/
def EST_MGAIN : Field := fld 0x1C 0x13 0 8 .rw .shadow 16
/-- R264. Rest time, in s, 60–65,535 -/
def EST_RESTT : Field := fld 0x1C 0x14 0 16 .rw .shadow 1800
/-- R264. Wake threshold, in 10 mA -/
def EST_WAKEI : Field := fld 0x1C 0x16 0 16 .rw .static 50
/-- R264. Periodic export, in h; 0 disables -/
def EST_EXPINT : Field := fld 0x1C 0x18 0 16 .rw .shadow 24
/-- R264. Discharge energy factor, in 0.1 %, 500–1,000 -/
def EST_EEFF : Field := fld 0x1C 0x1A 0 16 .rw .shadow 980
/-- R264. SoC at the PRECHARGE threshold, in 0.01 % -/
def EST_LOWREF : Field := fld 0x1C 0x1C 0 16 .rw .shadow 300
/-- R264. Overwritten exports; saturates -/
def EST_EXPLOST : Field := fld 0x1C 0x1E 0 16 .rc .status 0
/-- R264. [1:0] state (R246), [2] UNTRUSTED; [7:3] reserved, read 0 -/
def EST_STATE : Field := arr .none 0x1C 0x20 0 3 1 8 .ro .status 0
/-- R264. *s*, in 0.01 % -/
def EST_SOC : Field := wfl .estStr 0x1C 0x40 0 16 .ro .status 0
/-- R264. *u*s, in 0.01 % -/
def EST_SOCU : Field := wfl .estStr 0x1C 0x42 0 16 .ro .status 0
/-- R264. SoC_lo, in 0.01 % -/
def EST_SOCLO : Field := wfl .estStr 0x1C 0x44 0 16 .ro .status 0
/-- R264. *C*e, in 0.01 Ah -/
def EST_CAP : Field := wfl .estStr 0x1C 0x46 0 32 .ro .status 0
/-- R264. *u*c, in 0.01 % -/
def EST_CAPU : Field := wfl .estStr 0x1C 0x4A 0 16 .ro .status 0
/-- R264. SoH, in 0.01 % -/
def EST_SOH : Field := wfl .estStr 0x1C 0x4C 0 16 .ro .status 0
/-- R264. E_low, in 0.1 Wh -/
def EST_ELOW : Field := wfl .estStr 0x1C 0x4E 0 32 .ro .status 0
/-- R264. Series resistance, in µΩ -/
def EST_RSER : Field := wfl .estStr 0x1C 0x52 0 32 .ro .status 0
/-- R264. Fast pair resistance, in µΩ -/
def EST_RFAST : Field := wfl .estStr 0x1C 0x56 0 32 .ro .status 0
/-- R264. Slow pair resistance, in µΩ -/
def EST_RSLOW : Field := wfl .estStr 0x1C 0x5A 0 32 .ro .status 0
/-- R264. Resistance growth, in 0.1 % -/
def EST_RGROW : Field := wfl .estStr 0x1C 0x5E 0 16 .ro .status 0
/-- R264. Equivalent full cycles, in 0.01 -/
def EST_CYC : Field := wfl .estStr 0x1C 0x60 0 32 .ro .status 0
/-- R264. Operating seconds since the last anchor -/
def EST_AGE : Field := wfl .estStr 0x1C 0x64 0 32 .ro .status 0
/-- R264. Generation -/
def EST_GEN : Field := wfl .estStr 0x1C 0x68 0 32 .ro .status 0
/-- R264. End-point current, in 100 mA -/
def EST_IEND : Field := wfl .estStr 0x1C 0x6C 0 16 .rw .static 300
/-- R264. End-point voltage, in 0.1 mV/cell -/
def EST_VEND : Field := wfl .estStr 0x1C 0x6E 0 16 .rw .static 11000
/-- R264. Self-discharge at 25 °C, in 0.01 %/day -/
def EST_SDR : Field := wfl .estStr 0x1C 0x70 0 16 .rw .shadow 100
/-- R264. Charge efficiency, in 0.1 %, 500–1,000 -/
def EST_CEFF : Field := wfl .estStr 0x1C 0x72 0 16 .rw .shadow 950
/-- R264. SoC at an anchor, in 0.01 % -/
def EST_ANCH : Field := wfl .estStr 0x1C 0x74 0 16 .rw .shadow 9500
/-- R264. Fast time constant, in ms -/
def EST_TFAST : Field := wfl .estStr 0x1C 0x76 0 16 .rw .static 50
/-- R264. Slow time constant, in 0.1 s -/
def EST_TSLOW : Field := wfl .estStr 0x1C 0x78 0 16 .rw .static 600
/-- R264. Initial series resistance, in 10 µΩ -/
def EST_RSER0 : Field := wfl .estStr 0x1C 0x7A 0 16 .rw .static 0
/-- R264. Initial fast resistance, in 10 µΩ -/
def EST_RFAST0 : Field := wfl .estStr 0x1C 0x7C 0 16 .rw .static 0
/-- R264. Initial slow resistance, in 10 µΩ -/
def EST_RSLOW0 : Field := wfl .estStr 0x1C 0x7E 0 16 .rw .static 0
/-- R264. NICKEL table, 12 points: [15:0] SoC in 0.01 %, [31:16] OCV in 0.1 mV/cell -/
def EST_OCVN : Field := arr .none 0x1C 0x80 0 32 4 12 .rw .shadow 0
/-- R264. LITHIUM table, as EST_OCVN -/
def EST_OCVL : Field := arr .none 0x1C 0xB0 0 32 4 12 .rw .shadow 0
/-- R264. s16. NICKEL coefficient, in µV/°C/cell -/
def EST_OCVTC_N : Field := fld 0x1C 0xE0 0 16 .rw .shadow 0
/-- R264. s16. LITHIUM coefficient, in µV/°C/cell -/
def EST_OCVTC_L : Field := fld 0x1C 0xE2 0 16 .rw .shadow 0
/-- R264. NICKEL *u*ocv, in 0.01 % -/
def EST_OCVU_N : Field := fld 0x1C 0xE4 0 16 .rw .shadow 1500
/-- R264. LITHIUM *u*ocv, in 0.01 % -/
def EST_OCVU_L : Field := fld 0x1C 0xE6 0 16 .rw .shadow 300

/-- Every field of page 1C. -/
def page1C : List Field :=
  [EST_IDX, EST_FLAGS_NAIVE, EST_FLAGS_RESTORED, EST_FLAGS_REJECT, EST_FLAGS_INCONS, EST_FLAGS_LIMIT, EST_FLAGS_SHREJ, EST_STAT_HIB, EST_UGROW, EST_UGAIN, EST_UANCH, EST_UMAX, EST_UCNAIVE, EST_UCMIN, EST_DSMIN, EST_CGAIN, EST_MGAIN, EST_RESTT, EST_WAKEI, EST_EXPINT, EST_EEFF, EST_LOWREF, EST_EXPLOST, EST_STATE, EST_SOC, EST_SOCU, EST_SOCLO, EST_CAP, EST_CAPU, EST_SOH] ++
  [EST_ELOW, EST_RSER, EST_RFAST, EST_RSLOW, EST_RGROW, EST_CYC, EST_AGE, EST_GEN, EST_IEND, EST_VEND, EST_SDR, EST_CEFF, EST_ANCH, EST_TFAST, EST_TSLOW, EST_RSER0, EST_RFAST0, EST_RSLOW0, EST_OCVN, EST_OCVL, EST_OCVTC_N, EST_OCVTC_L, EST_OCVU_N, EST_OCVU_L]

/-- R265. Export buffer of string EST_XIDX (R257) -/
def EST_XCAP : Field := arr .estExp 0x1D 0x00 0 8 1 128 .ro .status 0
/-- R265. String selected, 0–7 -/
def EST_XIDX : Field := fld 0x1D 0x80 0 3 .rw .live 0
/-- R265. Bit *s*: capsule waiting -/
def EST_XPEND : Field := fld 0x1D 0x81 0 8 .w1c .status 0
/-- R265. Bit *s*: state discarded at removal -/
def EST_DISCMASK : Field := fld 0x1D 0x82 0 8 .w1c .status 0
/-- R265. Serial of string EST_XIDX; all 0 is unknown -/
def EST_SERIAL : Field := arr .estExp 0x1D 0x88 0 8 1 16 .rw .live 0

/-- Every field of page 1D. -/
def page1D : List Field :=
  [EST_XCAP, EST_XIDX, EST_XPEND, EST_DISCMASK, EST_SERIAL]

/-- R266. Staging (R259) -/
def EST_RSTG : Field := arr .none 0x1E 0x00 0 8 1 128 .wo .live 0
/-- R266. String for staging; a write resets staging -/
def EST_RIDX : Field := fld 0x1E 0x80 0 3 .rw .live 0
/-- R266. Outcome (R260) -/
def EST_RRES : Field := fld 0x1E 0x81 0 4 .ro .status 0
/-- R266. Seconds the string spent outside any shelf; reset with staging -/
def EST_ROFFLINE : Field := fld 0x1E 0x82 0 32 .rw .live 4294967295
/-- R266. Bytes 0–126 written since the last reset -/
def EST_RFILL : Field := fld 0x1E 0x86 0 8 .ro .status 0

/-- Every field of page 1E. -/
def page1E : List Field :=
  [EST_RSTG, EST_RIDX, EST_RRES, EST_ROFFLINE, EST_RFILL]

/-- R284. Channel in the window, 0–15 -/
def FUS_IDX : Field := fld 0x20 0x00 0 4 .rw .live 0
/-- R284. A channel tripped -/
def FUS_FLAGS_TRIP : Field := fld 0x20 0x01 0 1 .w1c .status 0
/-- R284. A channel latched -/
def FUS_FLAGS_LATCH : Field := fld 0x20 0x01 1 1 .w1c .status 0
/-- R284. GATE_STUCK or GATE_NO_OFF -/
def FUS_FLAGS_GATE : Field := fld 0x20 0x01 2 1 .w1c .status 0
/-- R284. Shadow set rejected -/
def FUS_FLAGS_REJECT : Field := fld 0x20 0x01 3 1 .w1c .status 0
/-- R284. Bit *n*: channel *n* power-good -/
def FUS_PG : Field := fld 0x20 0x02 0 16 .ro .status 0
/-- R284. Bit *n*: channel *n* LATCHED -/
def FUS_LATCHED : Field := fld 0x20 0x04 0 16 .ro .status 0
/-- R284. State (R272); [7:3] reserved, read 0 -/
def FUS_ST : Field := arr .none 0x20 0x10 0 3 1 16 .ro .status 1
/-- R284. 1: channel fitted -/
def FUS_CTL_EN : Field := wfl .fusCh 0x20 0x20 0 1 .rw .static 1
/-- R284. [0] breaker, [1] hard and reverse, [2] inrush, [3] Vds, [4] PG timeout -/
def FUS_RETRYMASK : Field := wfl .fusCh 0x20 0x21 0 5 .rw .shadow 29
/-- R284. Rating, in 100 mA; 0 selects the built-in settings (R281) -/
def FUS_IRATE : Field := wfl .fusCh 0x20 0x22 0 16 .rw .static 0
/-- R284. FI scale, in mA per mV -/
def FUS_ISCAL : Field := wfl .fusCh 0x20 0x24 0 16 .rw .static 0
/-- R284. Forward hard trip, in 100 mA -/
def FUS_HARD : Field := wfl .fusCh 0x20 0x26 0 16 .rw .shadow 0
/-- R284. Per point: [15:0] P*k* in 0.1 %, [47:16] *t*k in µs -/
def FUS_CURVE : Field := arr .fusCh 0x20 0x28 0 48 6 8 .rw .shadow 0
/-- R284. Cooling time constant, in ms, 10–60,000 -/
def FUS_COOL : Field := wfl .fusCh 0x20 0x58 0 16 .rw .shadow 2000
/-- R284. Rearm level, in %, 10–90 -/
def FUS_REARM : Field := wfl .fusCh 0x20 0x5A 0 8 .rw .shadow 50
/-- R284. Least inrush fall, in 0.1 V/ms -/
def FUS_DVMIN : Field := wfl .fusCh 0x20 0x5C 0 16 .rw .shadow 10
/-- R284. Greatest inrush fall, in 0.1 V/ms -/
def FUS_DVMAX : Field := wfl .fusCh 0x20 0x5E 0 16 .rw .shadow 200
/-- R284. Ramp limit, in ms, 1–2,000 -/
def FUS_TRAMP : Field := wfl .fusCh 0x20 0x60 0 16 .rw .shadow 100
/-- R284. Ramp blanking, in µs, 0–10,000 -/
def FUS_RBLANK : Field := wfl .fusCh 0x20 0x62 0 16 .rw .shadow 500
/-- R284. Power-good limit on V_sw, in mV -/
def FUS_VDSPG : Field := wfl .fusCh 0x20 0x64 0 16 .rw .shadow 300
/-- R284. V_sw trip limit in ON, in mV -/
def FUS_VDSMAX : Field := wfl .fusCh 0x20 0x66 0 16 .rw .shadow 2000
/-- R284. Full-enhancement threshold, in mV at FGS -/
def FUS_FGSON : Field := wfl .fusCh 0x20 0x68 0 16 .rw .static 1200
/-- R284. Off threshold, in mV at FGS -/
def FUS_FGSOFF : Field := wfl .fusCh 0x20 0x6A 0 16 .rw .static 300
/-- R284. Gate rise limit, in µs, 10–50,000 -/
def FUS_TRISE : Field := wfl .fusCh 0x20 0x6C 0 16 .rw .shadow 2000
/-- R284. Gate fall limit, in µs, 10–50,000 -/
def FUS_TFALL : Field := wfl .fusCh 0x20 0x6E 0 16 .rw .shadow 500
/-- R284. Low-current limit for R277, in 100 mA -/
def FUS_ISTK : Field := wfl .fusCh 0x20 0x70 0 16 .rw .shadow 50
/-- R284. Settle time, in 0.1 ms, 1–1,000 -/
def FUS_SETTLE : Field := wfl .fusCh 0x20 0x72 0 16 .rw .shadow 50
/-- R284. Retry delay, in ms, 10–60,000 -/
def FUS_RETRYT : Field := wfl .fusCh 0x20 0x74 0 16 .rw .shadow 1000
/-- R284. Retries per window, 0–15 -/
def FUS_RETRYN : Field := wfl .fusCh 0x20 0x76 0 4 .rw .shadow 3
/-- R284. Retry window, in s, 1–255 -/
def FUS_RETRYWIN : Field := wfl .fusCh 0x20 0x77 0 8 .rw .shadow 60
/-- R284. FV divider, 10–1,000 -/
def FUS_FVSCAL : Field := wfl .fusCh 0x20 0x78 0 16 .rw .static 100
/-- R284. A, in 0.01 % -/
def FUS_ACC : Field := wfl .fusCh 0x20 0x7C 0 16 .ro .status 0
/-- R284. s16. Current, in 100 mA -/
def FUS_FI : Field := wfl .fusCh 0x20 0x7E 0 16 .ro .status 0
/-- R284. s16. V_sw, in mV -/
def FUS_FV : Field := wfl .fusCh 0x20 0x80 0 16 .ro .status 0
/-- R284. FGS, in mV at the pin -/
def FUS_FGS : Field := wfl .fusCh 0x20 0x82 0 16 .ro .status 0
/-- R284. Last trip kind, 0–10 (R273–R277) -/
def FUS_LASTTRIP : Field := wfl .fusCh 0x20 0x84 0 4 .ro .status 0
/-- R284. Retries in the present window -/
def FUS_RETRIES : Field := wfl .fusCh 0x20 0x85 0 4 .ro .status 0
/-- R284. Trips; saturates -/
def FUS_TRIPCNT : Field := wfl .fusCh 0x20 0x86 0 16 .rc .status 0
/-- R284. Largest |FI| since the last read, in 100 mA -/
def FUS_PEAKI : Field := wfl .fusCh 0x20 0x88 0 16 .rc .status 0
/-- R284. 0xA5 clears LATCHED (R280) -/
def FUS_CLR : Field := wfl .fusCh 0x20 0x8A 0 8 .wo .live 0

/-- Every field of page 20. -/
def page20 : List Field :=
  [FUS_IDX, FUS_FLAGS_TRIP, FUS_FLAGS_LATCH, FUS_FLAGS_GATE, FUS_FLAGS_REJECT, FUS_PG, FUS_LATCHED, FUS_ST, FUS_CTL_EN, FUS_RETRYMASK, FUS_IRATE, FUS_ISCAL, FUS_HARD, FUS_CURVE, FUS_COOL, FUS_REARM, FUS_DVMIN, FUS_DVMAX, FUS_TRAMP, FUS_RBLANK, FUS_VDSPG, FUS_VDSMAX, FUS_FGSON, FUS_FGSOFF, FUS_TRISE, FUS_TFALL, FUS_ISTK, FUS_SETTLE, FUS_RETRYT, FUS_RETRYN] ++
  [FUS_RETRYWIN, FUS_FVSCAL, FUS_ACC, FUS_FI, FUS_FV, FUS_FGS, FUS_LASTTRIP, FUS_RETRIES, FUS_TRIPCNT, FUS_PEAKI, FUS_CLR]

/-- R299. Sensor in the window, 0–19. A value of 20–31 is held and selects no sensor (R451) -/
def THM_IDX : Field := fld 0x22 0x00 0 5 .rw .live 0
/-- R299. A sensor crossed WARN -/
def THM_FLAGS_WARN : Field := fld 0x22 0x01 0 1 .w1c .status 0
/-- R299. A sensor crossed HOT -/
def THM_FLAGS_HOT : Field := fld 0x22 0x01 1 1 .w1c .status 0
/-- R299. A sensor was declared broken -/
def THM_FLAGS_BROKEN : Field := fld 0x22 0x01 2 1 .w1c .status 0
/-- R299. Die throttling began -/
def THM_FLAGS_DIETHR : Field := fld 0x22 0x01 3 1 .w1c .status 0
/-- R299. Compensation degraded -/
def THM_FLAGS_COMP : Field := fld 0x22 0x01 4 1 .w1c .status 0
/-- R299. Shadow set rejected -/
def THM_FLAGS_REJECT : Field := fld 0x22 0x01 5 1 .w1c .status 0
/-- R299. Latch state, mirrored from the VKA domain -/
def THM_STAT_GECKO : Field := fld 0x22 0x02 0 1 .ro .status 0
/-- R299. Pauses in force -/
def THM_STAT_DIETHR : Field := fld 0x22 0x02 1 1 .ro .status 0
/-- R299. Fewer than two valid die sensors -/
def THM_STAT_COMPDEG : Field := fld 0x22 0x02 2 1 .ro .status 0
/-- R299. s16. T_die -/
def THM_DIE : Field := fld 0x22 0x04 0 16 .ro .status 0
/-- R299. Bit *i*: sensor *i* broken; [23:20] reserved, read 0 -/
def THM_BROKEN : Field := fld 0x22 0x08 0 20 .ro .status 0
/-- R299. Bit *i*: sensor *i* at 200 Hz; [23:20] reserved, read 0 -/
def THM_FAST : Field := fld 0x22 0x0C 0 20 .ro .status 0
/-- R299. Bit 4*s* + *k*: BT*s*_*k* broken -/
def THM_BTBROKEN : Field := fld 0x22 0x10 0 32 .ro .status 0
/-- R299. Largest die pause, in ms, 0–1,000 -/
def THM_DPMAX : Field := fld 0x22 0x14 0 16 .rw .shadow 100
/-- R299. Derating at HOT, in 1/256, 0–256 -/
def THM_DMIN : Field := fld 0x22 0x16 0 16 .rw .shadow 128
/-- R299. s16. BT shutdown limit -/
def THM_BTSHUT : Field := fld 0x22 0x18 0 16 .rw .shadow 1120
/-- R299. Stuck test, in evaluations, 50–65,535 -/
def THM_STUCKN : Field := fld 0x22 0x1A 0 16 .rw .static 600
/-- R299. 16 points: [15:0] ratio in 1/65,536, [31:16] s16 temperature -/
def THM_NTCT : Field := arr .none 0x22 0x20 0 32 4 16 .rw .shadow 0
/-- R299. Source of the last GECKO (R296), from the VKA domain -/
def THM_GSRC : Field := fld 0x22 0x60 0 8 .ro .status 0
/-- R299. s16. Temperature at the last GECKO -/
def THM_GTEMP : Field := fld 0x22 0x62 0 16 .ro .status 0
/-- R299. s16. Temperature of the sensor -/
def THM_T : Field := wfl .thmSen 0x22 0x80 0 16 .ro .status 0
/-- R299. s16. WARN limit; 0x7FFF disables -/
def THM_WARN : Field := ⟨0x22, 0x82, 0, 16, 0, 1, .thmSen, .rw, .shadow, 32767, [1600, 1600, 1600, 1600]⟩
/-- R299. s16. HOT limit -/
def THM_HOT : Field := ⟨0x22, 0x84, 0, 16, 0, 1, .thmSen, .rw, .shadow, 32767, [1840, 1840, 1840, 1840]⟩
/-- R299. s16. SHUT limit -/
def THM_SHUT : Field := ⟨0x22, 0x86, 0, 16, 0, 1, .thmSen, .rw, .shadow, 32767, [2160, 2160, 2160, 2160]⟩
/-- R299. 1: sensor in use; reads 1 for die sensors -/
def THM_CFG_EN : Field := ⟨0x22, 0x88, 0, 1, 0, 1, .thmSen, .rw, .static, 0, [1, 1, 1, 1]⟩
/-- R299. 1: feeds CAP_THDER (TX only) -/
def THM_CFG_DER : Field := wfl .thmSen 0x22 0x88 1 1 .rw .static 0
/-- R299. 1: may set GECKO (TX only) -/
def THM_CFG_GK : Field := wfl .thmSen 0x22 0x88 2 1 .rw .static 0
/-- R299. s16. Highest value since the last read -/
def THM_PEAK : Field := wfl .thmSen 0x22 0x8A 0 16 .rc .status 32768
/-- R299. Ratio, or die code -/
def THM_RAW : Field := wfl .thmSen 0x22 0x8C 0 16 .ro .status 0

/-- Every field of page 22. -/
def page22 : List Field :=
  [THM_IDX, THM_FLAGS_WARN, THM_FLAGS_HOT, THM_FLAGS_BROKEN, THM_FLAGS_DIETHR, THM_FLAGS_COMP, THM_FLAGS_REJECT, THM_STAT_GECKO, THM_STAT_DIETHR, THM_STAT_COMPDEG, THM_DIE, THM_BROKEN, THM_FAST, THM_BTBROKEN, THM_DPMAX, THM_DMIN, THM_BTSHUT, THM_STUCKN, THM_NTCT, THM_GSRC, THM_GTEMP, THM_T, THM_WARN, THM_HOT, THM_SHUT, THM_CFG_EN, THM_CFG_DER, THM_CFG_GK, THM_PEAK, THM_RAW]

end Sys2Proof.Machine.Reg
end

