-- ==== Sys2Proof/Machine/RegsSystem.lean ====
section
/-! DEFINITION. The register fields of the telemetry, recorder, image, journal, twin, port, interrupt and security pages, each from its row of the manual's register tables:
page, offset, lowest bit, width, access (R9), class (R10), reset value (R8). The docstring gives the rule and the description. -/

namespace Sys2Proof.Machine.Reg

/-- R363. 0 tick, 1 cycle, 2 1 s, 3 60 s -/
def TLM_WSEL : Field := fld 0x24 0x00 0 2 .rw .live 1
/-- R363. R359 -/
def TLM_Q_INCOMPLETE : Field := wfl .tlmWin 0x24 0x01 0 1 .ro .status 1
/-- R363. R359 -/
def TLM_Q_SKEW : Field := wfl .tlmWin 0x24 0x01 1 1 .ro .status 0
/-- R363. R359 -/
def TLM_Q_MODE : Field := wfl .tlmWin 0x24 0x01 2 1 .ro .status 0
/-- R363. R359 -/
def TLM_Q_TADPOLE : Field := wfl .tlmWin 0x24 0x01 3 1 .ro .status 0
/-- R363. Closes of the window since VDD power-on; byte 04 latches 04–81 (R360) -/
def TLM_WCNT : Field := wfl .tlmWin 0x24 0x04 0 32 .ro .status 0
/-- R363. Bus voltage, in mV -/
def TLM_VBUS : Field := wfl .tlmWin 0x24 0x08 0 16 .ro .status 0
/-- R363. Shelf current, in 100 mA -/
def TLM_ISHELF : Field := wfl .tlmWin 0x24 0x0A 0 16 .ro .status 0
/-- R363. Shelf power, in W -/
def TLM_PSHELF : Field := wfl .tlmWin 0x24 0x0C 0 32 .ro .status 0
/-- R363. Bays 0–7, in mV -/
def TLM_VBAY : Field := arr .tlmWin 0x24 0x10 0 16 2 8 .ro .status 0
/-- R363. s16. Bays 0–7, in 10 mA -/
def TLM_IBAY : Field := arr .tlmWin 0x24 0x20 0 16 2 8 .ro .status 0
/-- R363. Bays 0–7, in W -/
def TLM_PBAY : Field := arr .tlmWin 0x24 0x30 0 32 4 8 .ro .status 0
/-- R363. Strings 0–7, in mV -/
def TLM_VSTR : Field := arr .tlmWin 0x24 0x50 0 16 2 8 .ro .status 0
/-- R363. s16. Strings 0–7, in 10 mA -/
def TLM_ISTR : Field := arr .tlmWin 0x24 0x60 0 16 2 8 .ro .status 0
/-- R363. s16. Strings 0–7, in 0.0625 °C -/
def TLM_TSTR : Field := arr .tlmWin 0x24 0x70 0 16 2 8 .ro .status 0
/-- R363. s16. T_die -/
def TLM_TDIE : Field := wfl .tlmWin 0x24 0x80 0 16 .ro .status 0
/-- R363. Highest bus voltage, in mV -/
def TLM_PK_VMAX : Field := fld 0x24 0x90 0 16 .rc .status 0
/-- R363. Lowest bus voltage, in mV -/
def TLM_PK_VMIN : Field := fld 0x24 0x92 0 16 .rc .status 65535
/-- R363. Highest shelf current, in 100 mA -/
def TLM_PK_IMAX : Field := fld 0x24 0x94 0 16 .rc .status 0
/-- R363. Highest shelf power, in W -/
def TLM_PK_PMAX : Field := fld 0x24 0x96 0 32 .rc .status 0
/-- R363. s16. Highest current of bays 0–7, in 10 mA -/
def TLM_PK_IBAY : Field := arr .none 0x24 0x9A 0 16 2 8 .rc .status 0
/-- R363. s16. Largest discharge of strings 0–7, positive, in 10 mA -/
def TLM_PK_IDIS : Field := arr .none 0x24 0xAA 0 16 2 8 .rc .status 0

/-- Every field of page 24. -/
def page24 : List Field :=
  [TLM_WSEL, TLM_Q_INCOMPLETE, TLM_Q_SKEW, TLM_Q_MODE, TLM_Q_TADPOLE, TLM_WCNT, TLM_VBUS, TLM_ISHELF, TLM_PSHELF, TLM_VBAY, TLM_IBAY, TLM_PBAY, TLM_VSTR, TLM_ISTR, TLM_TSTR, TLM_TDIE, TLM_PK_VMAX, TLM_PK_VMIN, TLM_PK_IMAX, TLM_PK_PMAX, TLM_PK_IBAY, TLM_PK_IDIS]

/-- R364. A batch is being written -/
def REC_STAT_FLUSHING : Field := fld 0x26 0x00 0 1 .ro .status 0
/-- R364. R353 -/
def REC_STAT_CLEARING : Field := fld 0x26 0x00 1 1 .ro .status 0
/-- R364. FIRST full -/
def REC_STAT_FIRSTFULL : Field := fld 0x26 0x00 2 1 .ro .status 0
/-- R364. A snapshot is being captured or written -/
def REC_STAT_SNBUSY : Field := fld 0x26 0x00 3 1 .ro .status 0
/-- R364. R348 -/
def REC_FLAGS_QDROP : Field := fld 0x26 0x01 0 1 .w1c .status 0
/-- R364. R350 -/
def REC_FLAGS_ROLLDROP : Field := fld 0x26 0x01 1 1 .w1c .status 0
/-- R364. R350 -/
def REC_FLAGS_FIRSTFULL : Field := fld 0x26 0x01 2 1 .w1c .status 0
/-- R364. A snapshot was written -/
def REC_FLAGS_SNAP : Field := fld 0x26 0x01 3 1 .w1c .status 0
/-- R364. A snapshot was dropped -/
def REC_FLAGS_SNDROP : Field := fld 0x26 0x01 4 1 .w1c .status 0
/-- R364. A clear completed -/
def REC_FLAGS_CLEARED : Field := fld 0x26 0x01 5 1 .w1c .status 0
/-- R364. Shadow set rejected -/
def REC_FLAGS_REJECT : Field := fld 0x26 0x01 6 1 .w1c .status 0
/-- R364. Records queued, 0–64 -/
def REC_QLEN : Field := fld 0x26 0x02 0 7 .ro .status 0
/-- R364. Fill threshold, 1–64 -/
def REC_FILLTH : Field := fld 0x26 0x03 0 8 .rw .shadow 16
/-- R364. Largest queue age, in s, 1–3,600 -/
def REC_AGEMAX : Field := fld 0x26 0x04 0 16 .rw .shadow 600
/-- R364. Lowest severity for FIRST, 0–7 -/
def REC_FIRSTSEV : Field := fld 0x26 0x06 0 3 .rw .shadow 3
/-- R364. Lowest severity for a snapshot, 1–7; 0 disables -/
def REC_SNSEV : Field := fld 0x26 0x06 4 3 .rw .shadow 5
/-- R364. 1: event 0x705B (R361) -/
def REC_CFG_TLMLOG : Field := fld 0x26 0x07 0 1 .rw .static 0
/-- R364. Log epoch -/
def REC_EPOCH : Field := fld 0x26 0x08 0 32 .ro .status 0
/-- R364. Last log sequence raised -/
def REC_LASTSEQ : Field := fld 0x26 0x0C 0 32 .ro .status 0
/-- R364. Records in FIRST -/
def REC_FIRSTCNT : Field := fld 0x26 0x10 0 16 .ro .status 0
/-- R364. Live records in ROLL -/
def REC_ROLLCNT : Field := fld 0x26 0x12 0 16 .ro .status 0
/-- R364. Records not written to ROLL, this epoch -/
def REC_ROLLDROP : Field := fld 0x26 0x14 0 32 .ro .status 0
/-- R364. Records dropped from the queue; saturates -/
def REC_QDROP : Field := fld 0x26 0x18 0 16 .rc .status 0
/-- R364. Records lost in reclamation; saturates -/
def REC_ROLLLOST : Field := fld 0x26 0x1A 0 16 .rc .status 0
/-- R364. Byte 1C key 0xA5; byte 1D command: 0x01 CLEAR_LOG, 0x02 CLEAR_ALL, 0x03 SNAPSHOT, 0x04 FLUSH -/
def REC_CMD : Field := fld 0x26 0x1C 0 16 .wo .live 0
/-- R364. 0 none, 1 accepted, 2 busy, 3 bad key, 4 no token -/
def REC_CMDRES : Field := fld 0x26 0x1E 0 3 .ro .status 0
/-- R364. 0 FIRST, 1 ROLL, 2 QUEUE -/
def REC_CURREG_REGION : Field := fld 0x26 0x20 0 2 .rw .live 1
/-- R364. 1: advance after byte 5F (R352) -/
def REC_CURREG_AUTO : Field := fld 0x26 0x20 2 1 .rw .live 0
/-- R364. Cursor, as a log sequence -/
def REC_CURSEQ : Field := fld 0x26 0x24 0 32 .rw .live 0
/-- R364. Log sequence of the record shown -/
def REC_WSEQ : Field := fld 0x26 0x28 0 32 .ro .status 0
/-- R364. 0 record shown, 1 none at or after the cursor, 2 fetching -/
def REC_WST : Field := fld 0x26 0x2C 0 2 .ro .status 1
/-- R364. Record shown (R345) -/
def REC_WREC : Field := arr .none 0x26 0x40 0 8 1 32 .ro .status 0

/-- Every field of page 26. -/
def page26 : List Field :=
  [REC_STAT_FLUSHING, REC_STAT_CLEARING, REC_STAT_FIRSTFULL, REC_STAT_SNBUSY, REC_FLAGS_QDROP, REC_FLAGS_ROLLDROP, REC_FLAGS_FIRSTFULL, REC_FLAGS_SNAP, REC_FLAGS_SNDROP, REC_FLAGS_CLEARED, REC_FLAGS_REJECT, REC_QLEN, REC_FILLTH, REC_AGEMAX, REC_FIRSTSEV, REC_SNSEV, REC_CFG_TLMLOG, REC_EPOCH, REC_LASTSEQ, REC_FIRSTCNT, REC_ROLLCNT, REC_ROLLDROP, REC_QDROP, REC_ROLLLOST, REC_CMD, REC_CMDRES, REC_CURREG_REGION, REC_CURREG_AUTO, REC_CURSEQ, REC_WSEQ] ++
  [REC_WST, REC_WREC]

/-- R365. Slot in the window, 0–31 -/
def REC_SNSLOT : Field := fld 0x27 0x00 0 5 .rw .live 0
/-- R365. Slot after which the next search starts (R355) -/
def REC_SNNEXT : Field := fld 0x27 0x01 0 8 .ro .status 0
/-- R365. Window offset in the slot, multiple of 128, 0–16,256 -/
def REC_SNOFS : Field := fld 0x27 0x02 0 16 .rw .live 0
/-- R365. Bit *i*: slot *i* committed -/
def REC_SNVALID : Field := fld 0x27 0x04 0 32 .ro .status 0
/-- R365. Dropped snapshots; saturates -/
def REC_SNDROP : Field := fld 0x27 0x08 0 16 .rc .status 0
/-- R365. Sample period, in µs, 4–100, a divisor of 2,000 -/
def REC_SNPER : Field := fld 0x27 0x0A 0 8 .rw .shadow 10
/-- R365. Fault channel set (R357) -/
def REC_SNCH_F : Field := ⟨0x27, 0x10, 0, 8, 1, 8, .none, .rw, .shadow, 0, [8, 0, 1, 2, 3, 72, 75, 255]⟩
/-- R365. Manual channel set -/
def REC_SNCH_M : Field := arr .none 0x27 0x18 0 8 1 8 .rw .shadow 255
/-- R365. 128 bytes of the slot from REC_SNOFS -/
def REC_SNWIN : Field := arr .none 0x27 0x40 0 8 1 128 .ro .status 255

/-- Every field of page 27. -/
def page27 : List Field :=
  [REC_SNSLOT, REC_SNNEXT, REC_SNOFS, REC_SNVALID, REC_SNDROP, REC_SNPER, REC_SNCH_F, REC_SNCH_M, REC_SNWIN]

/-- R324. Slot in force: 0 A, 1 B, 3 none -/
def IMG_STAT_SLOT : Field := fld 0x30 0x00 0 2 .ro .status 3
/-- R324. 0 none, 1 running, 2 passed, 3 failed -/
def IMG_STAT_PROB : Field := fld 0x30 0x00 2 2 .ro .status 0
/-- R324. 1: a load is in progress -/
def IMG_STAT_LOADING : Field := fld 0x30 0x00 4 1 .ro .status 0
/-- R324. 1: an upload is open -/
def IMG_STAT_UPOPEN : Field := fld 0x30 0x00 5 1 .ro .status 0
/-- R324. A write was refused (R320) -/
def IMG_FLAGS_STATICW : Field := fld 0x30 0x01 0 1 .w1c .status 0
/-- R324. Probation passed or failed -/
def IMG_FLAGS_PROBEND : Field := fld 0x30 0x01 1 1 .w1c .status 0
/-- R324. A revert completed or was refused -/
def IMG_FLAGS_REVERT : Field := fld 0x30 0x01 2 1 .w1c .status 0
/-- R324. A slot failed R309 -/
def IMG_FLAGS_INVALID : Field := fld 0x30 0x01 3 1 .w1c .status 0
/-- R324. An upload ended -/
def IMG_FLAGS_UPLOAD : Field := fld 0x30 0x01 4 1 .w1c .status 0
/-- R324. Pins were dropped or a pin was refused -/
def IMG_FLAGS_PIN : Field := fld 0x30 0x01 5 1 .w1c .status 0
/-- R324. The floor was raised or could not be raised -/
def IMG_FLAGS_FLOOR : Field := fld 0x30 0x01 6 1 .w1c .status 0
/-- R324. Version in force -/
def IMG_VER : Field := fld 0x30 0x04 0 32 .ro .status 0
/-- R324. Floor in force (R316) -/
def IMG_FLOOR : Field := fld 0x30 0x08 0 32 .ro .status 0
/-- R324. Security floor of the image in force -/
def IMG_IFLOOR : Field := fld 0x30 0x0C 0 32 .ro .status 0
/-- R324. Version in the other slot; 0 if unreadable -/
def IMG_OTHVER : Field := fld 0x30 0x10 0 32 .ro .status 0
/-- R324. Reason of the other slot, or of the last CLOSE (R309); 0 valid -/
def IMG_OTHRES : Field := fld 0x30 0x14 0 4 .ro .status 0
/-- R324. Free floor words, 0–16 -/
def IMG_FLOORLEFT : Field := fld 0x30 0x15 0 5 .ro .status 0
/-- R324. Key slot of the image in force -/
def IMG_KEYSLOT : Field := fld 0x30 0x16 0 2 .ro .status 0
/-- R324. Probation length, in s, 60–65,535 -/
def IMG_PROBT : Field := fld 0x30 0x18 0 16 .rw .static 600
/-- R324. Probation remaining, in s -/
def IMG_PROBLEFT : Field := fld 0x30 0x1C 0 32 .ro .status 0
/-- R324. Length of the image in force, in bytes -/
def IMG_LENGTH : Field := fld 0x30 0x20 0 32 .ro .status 0
/-- R324. [7:0] offset, [15:8] page of the last refused write -/
def IMG_STATICW_AT : Field := fld 0x30 0x24 0 16 .ro .status 0
/-- R324. Refused writes; saturates -/
def IMG_STATICW_CNT : Field := fld 0x30 0x26 0 16 .rc .status 0
/-- R324. Code of the event that failed probation -/
def IMG_FAILEV : Field := fld 0x30 0x28 0 16 .ro .status 0
/-- R324. Byte 2C key 0xA5, byte 2D command (R306); a wrong key sets IMG_UPRES = 3 -/
def IMG_UPCMD : Field := fld 0x30 0x2C 0 16 .wo .live 0
/-- R324. 0 idle, 1 erasing, 2 open, 3 verifying, 4 done, 5 failed -/
def IMG_UPST : Field := fld 0x30 0x2E 0 3 .ro .status 0
/-- R324. 0 none, 1 accepted, 2 refused, 3 bad key, 4 address, 5 check failed, 6 flash error -/
def IMG_UPRES : Field := fld 0x30 0x2F 0 3 .ro .status 0
/-- R324. Chunk offset in the slot, multiple of 128, 0–262,016 -/
def IMG_UPADDR : Field := fld 0x30 0x30 0 32 .rw .live 0
/-- R324. Page of the field to pin -/
def IMG_PINPAGE : Field := fld 0x30 0x34 0 8 .rw .live 0
/-- R324. Lowest offset of the field -/
def IMG_PINOFS : Field := fld 0x30 0x35 0 8 .rw .live 0
/-- R324. Byte 36 key 0xA5, byte 37 command: 0x01 PIN, 0x02 UNPIN, 0x03 UNPIN ALL -/
def IMG_PINCMD : Field := fld 0x30 0x36 0 16 .wo .live 0
/-- R324. 0 none, 1 done, 2 not pinnable, 3 table full, 4 not pinned, 5 bad key -/
def IMG_PINRES : Field := fld 0x30 0x38 0 3 .ro .status 0
/-- R324. Pins in use, 0–24 -/
def IMG_PINCNT : Field := fld 0x30 0x39 0 5 .ro .status 0
/-- R324. Chunk; programmed when byte BF arrives in the same transaction (R307) -/
def IMG_UPDATA : Field := arr .none 0x30 0x40 0 8 1 128 .wo .live 0

/-- Every field of page 30. -/
def page30 : List Field :=
  [IMG_STAT_SLOT, IMG_STAT_PROB, IMG_STAT_LOADING, IMG_STAT_UPOPEN, IMG_FLAGS_STATICW, IMG_FLAGS_PROBEND, IMG_FLAGS_REVERT, IMG_FLAGS_INVALID, IMG_FLAGS_UPLOAD, IMG_FLAGS_PIN, IMG_FLAGS_FLOOR, IMG_VER, IMG_FLOOR, IMG_IFLOOR, IMG_OTHVER, IMG_OTHRES, IMG_FLOORLEFT, IMG_KEYSLOT, IMG_PROBT, IMG_PROBLEFT, IMG_LENGTH, IMG_STATICW_AT, IMG_STATICW_CNT, IMG_FAILEV, IMG_UPCMD, IMG_UPST, IMG_UPRES, IMG_UPADDR, IMG_PINPAGE, IMG_PINOFS] ++
  [IMG_PINCMD, IMG_PINRES, IMG_PINCNT, IMG_UPDATA]

/-- R325. 24 entries of 8 bytes. Byte 0 page; byte 1 offset; byte 2 [2:0] width 1–4, [6:3] reserved, read 0, [7] vali... -/
def IMG_PINTAB : Field := arr .none 0x31 0x00 0 64 8 24 .ro .status 0

/-- Every field of page 31. -/
def page31 : List Field :=
  [IMG_PINTAB]

/-- R342. Active bank -/
def JRN_STAT_BANK : Field := fld 0x32 0x00 0 1 .ro .status 0
/-- R342. Compaction in progress -/
def JRN_STAT_COMPACT : Field := fld 0x32 0x00 1 1 .ro .status 0
/-- R342. Active bank full -/
def JRN_STAT_FULL : Field := fld 0x32 0x00 2 1 .ro .status 0
/-- R342. Flash missing or unsupported -/
def JRN_STAT_NOFLASH : Field := fld 0x32 0x00 3 1 .ro .status 0
/-- R342. Journal created at this start -/
def JRN_STAT_NEW : Field := fld 0x32 0x00 4 1 .ro .status 0
/-- R342. A compaction completed -/
def JRN_FLAGS_COMPACTED : Field := fld 0x32 0x01 0 1 .w1c .status 0
/-- R342. The active bank filled -/
def JRN_FLAGS_FULL : Field := fld 0x32 0x01 1 1 .w1c .status 0
/-- R342. A program or erase failed -/
def JRN_FLAGS_FLASHERR : Field := fld 0x32 0x01 2 1 .w1c .status 0
/-- R342. A torn record was found -/
def JRN_FLAGS_TORN : Field := fld 0x32 0x01 3 1 .w1c .status 0
/-- R342. Wear reached 80 % -/
def JRN_FLAGS_WEAR : Field := fld 0x32 0x01 4 1 .w1c .status 0
/-- R342. A descriptor copy was repaired -/
def JRN_FLAGS_DESC : Field := fld 0x32 0x01 5 1 .w1c .status 0
/-- R342. A new journal was created -/
def JRN_FLAGS_NEW : Field := fld 0x32 0x01 6 1 .w1c .status 0
/-- R342. Operating seconds -/
def JRN_OPSEC : Field := fld 0x32 0x04 0 32 .ro .status 0
/-- R342. Power-cycle count -/
def JRN_PCC : Field := fld 0x32 0x08 0 32 .ro .status 0
/-- R342. Energy delivered to the bus, in Wh -/
def JRN_EOUT : Field := fld 0x32 0x0C 0 64 .ro .status 0
/-- R342. String discharge energy, in Wh -/
def JRN_ESTR : Field := fld 0x32 0x14 0 64 .ro .status 0
/-- R342. Generation of the active bank -/
def JRN_GEN : Field := fld 0x32 0x1C 0 32 .ro .status 0
/-- R342. Next append offset in the active bank, in bytes -/
def JRN_USED : Field := fld 0x32 0x20 0 32 .ro .status 0
/-- R342. Compactions since VDD power-on -/
def JRN_COMPCNT : Field := fld 0x32 0x24 0 32 .ro .status 0
/-- R342. COUNTERS interval, in s, 10–600 -/
def JRN_CNTINT : Field := fld 0x32 0x28 0 16 .rw .static 60
/-- R342. Rated erase cycles, in 100, 100–10,000 -/
def JRN_ENDUR : Field := fld 0x32 0x2A 0 16 .rw .static 1000
/-- R342. Highest erase count, journal banks -/
def JRN_ERS_J : Field := fld 0x32 0x2C 0 32 .ro .status 0
/-- R342. Highest erase count, FIRST and ROLL -/
def JRN_ERS_LOG : Field := fld 0x32 0x30 0 32 .ro .status 0
/-- R342. Highest erase count, snapshots -/
def JRN_ERS_SNAP : Field := fld 0x32 0x34 0 32 .ro .status 0
/-- R342. Highest wear, in %; saturates at 255 -/
def JRN_WEAR : Field := fld 0x32 0x38 0 8 .ro .status 0
/-- R342. Torn records found; saturates -/
def JRN_TORN : Field := fld 0x32 0x3A 0 16 .rc .status 0
/-- R342. Program and erase failures; saturates -/
def JRN_FLERR : Field := fld 0x32 0x3C 0 16 .rc .status 0
/-- R342. JEDEC manufacturer and device ID -/
def JRN_JEDEC : Field := fld 0x32 0x40 0 24 .ro .status 0
/-- R342. log2 of the density in bytes -/
def JRN_DENS : Field := fld 0x32 0x43 0 8 .ro .status 0
/-- R342. FSCK in use, in MHz -/
def JRN_FCLK : Field := fld 0x32 0x44 0 16 .ro .status 0
/-- R342. Descriptor copy 0 valid -/
def JRN_BDCOPY_C0 : Field := fld 0x32 0x46 0 1 .ro .status 0
/-- R342. Descriptor copy 1 valid -/
def JRN_BDCOPY_C1 : Field := fld 0x32 0x46 1 1 .ro .status 0
/-- R342. Sequence of the governing descriptor -/
def JRN_BDSEQ : Field := fld 0x32 0x48 0 32 .ro .status 0

/-- Every field of page 32. -/
def page32 : List Field :=
  [JRN_STAT_BANK, JRN_STAT_COMPACT, JRN_STAT_FULL, JRN_STAT_NOFLASH, JRN_STAT_NEW, JRN_FLAGS_COMPACTED, JRN_FLAGS_FULL, JRN_FLAGS_FLASHERR, JRN_FLAGS_TORN, JRN_FLAGS_WEAR, JRN_FLAGS_DESC, JRN_FLAGS_NEW, JRN_OPSEC, JRN_PCC, JRN_EOUT, JRN_ESTR, JRN_GEN, JRN_USED, JRN_COMPCNT, JRN_CNTINT, JRN_ENDUR, JRN_ERS_J, JRN_ERS_LOG, JRN_ERS_SNAP, JRN_WEAR, JRN_TORN, JRN_FLERR, JRN_JEDEC, JRN_DENS, JRN_FCLK] ++
  [JRN_BDCOPY_C0, JRN_BDCOPY_C1, JRN_BDSEQ]

/-- R387. 0 single, 1 active, 2 standby, 3 contest -/
def TWN_STAT_ROLE : Field := fld 0x34 0x00 0 2 .ro .status 0
/-- R387. This chip is FIT as a standby -/
def TWN_STAT_FIT : Field := fld 0x34 0x00 2 1 .ro .status 0
/-- R387. The partner is FIT -/
def TWN_STAT_PFIT : Field := fld 0x34 0x00 3 1 .ro .status 0
/-- R387. Frames are arriving -/
def TWN_STAT_LINKUP : Field := fld 0x34 0x00 4 1 .ro .status 0
/-- R387. State transfer in progress -/
def TWN_STAT_XFER : Field := fld 0x34 0x00 5 1 .ro .status 0
/-- R387. This chip took ownership -/
def TWN_FLAGS_TAKEOVER : Field := fld 0x34 0x01 0 1 .w1c .status 0
/-- R387. This chip yielded -/
def TWN_FLAGS_YIELD : Field := fld 0x34 0x01 1 1 .w1c .status 0
/-- R387. R378 -/
def TWN_FLAGS_MISMATCH : Field := fld 0x34 0x01 2 1 .w1c .status 0
/-- R387. A resolution of R380 -/
def TWN_FLAGS_ATTRIB : Field := fld 0x34 0x01 3 1 .w1c .status 0
/-- R387. A link fault (R383) -/
def TWN_FLAGS_LINK : Field := fld 0x34 0x01 4 1 .w1c .status 0
/-- R387. FIT changed -/
def TWN_FLAGS_FITCHG : Field := fld 0x34 0x01 5 1 .w1c .status 0
/-- R387. A command or write was refused -/
def TWN_FLAGS_REFUSED : Field := fld 0x34 0x01 6 1 .w1c .status 0
/-- R387. 1: twin pair fitted -/
def TWN_CFG_EN : Field := fld 0x34 0x02 0 1 .rw .static 0
/-- R387. This chip's health word -/
def TWN_HEALTH : Field := fld 0x34 0x04 0 32 .ro .status 0
/-- R387. The partner's last health word -/
def TWN_PHEALTH : Field := fld 0x34 0x08 0 32 .ro .status 0
/-- R387. Duty tolerance, in LSB, 1–255 -/
def TWN_DTOL : Field := fld 0x34 0x0C 0 16 .rw .shadow 4
/-- R387. Persistence, in frames, 1–64 -/
def TWN_PERS : Field := fld 0x34 0x0E 0 8 .rw .shadow 4
/-- R387. Digest tolerance, in code LSB, 1–4,096 -/
def TWN_ITOL : Field := fld 0x34 0x10 0 16 .rw .shadow 64
/-- R387. Injection tolerance, in 0.01 % of full scale, 2–100 -/
def TWN_RTOL : Field := fld 0x34 0x12 0 16 .rw .shadow 10
/-- R387. Takeover gap, in ns, 200–1,000 -/
def TWN_GAP : Field := fld 0x34 0x14 0 16 .rw .static 400
/-- R387. Fitness time, in s, 1–600 -/
def TWN_FITT : Field := fld 0x34 0x16 0 16 .rw .shadow 10
/-- R387. 0 none, 1 own fault, 2 LOCKOUT, 3 missing slots, 4 host, 5 contest -/
def TWN_LASTTRIG : Field := fld 0x34 0x18 0 3 .ro .status 0
/-- R387. Row of R380, 1–8; 0 none -/
def TWN_LASTATT : Field := fld 0x34 0x19 0 4 .ro .status 0
/-- R387. First differing channel -/
def TWN_MMCH : Field := fld 0x34 0x1A 0 6 .ro .status 0
/-- R387. Takeovers; saturates -/
def TWN_TOCNT : Field := fld 0x34 0x1C 0 16 .rc .status 0
/-- R387. Mismatches; saturates -/
def TWN_MMCNT : Field := fld 0x34 0x1E 0 16 .rc .status 0
/-- R387. Measured gap, in ns -/
def TWN_LASTGAP : Field := fld 0x34 0x20 0 16 .ro .status 0
/-- R387. t₀ to the last output resumed, in 10 ns -/
def TWN_LASTTO : Field := fld 0x34 0x22 0 16 .ro .status 0
/-- R387. Byte 24 key 0xA5; byte 25 command: 0x01 SWITCHOVER, 0x02 RESYNC -/
def TWN_CMD : Field := fld 0x34 0x24 0 16 .wo .live 0
/-- R387. 0 none, 1 accepted, 2 refused, 3 bad key -/
def TWN_CMDRES : Field := fld 0x34 0x26 0 2 .ro .status 0

/-- Every field of page 34. -/
def page34 : List Field :=
  [TWN_STAT_ROLE, TWN_STAT_FIT, TWN_STAT_PFIT, TWN_STAT_LINKUP, TWN_STAT_XFER, TWN_FLAGS_TAKEOVER, TWN_FLAGS_YIELD, TWN_FLAGS_MISMATCH, TWN_FLAGS_ATTRIB, TWN_FLAGS_LINK, TWN_FLAGS_FITCHG, TWN_FLAGS_REFUSED, TWN_CFG_EN, TWN_HEALTH, TWN_PHEALTH, TWN_DTOL, TWN_PERS, TWN_ITOL, TWN_RTOL, TWN_GAP, TWN_FITT, TWN_LASTTRIG, TWN_LASTATT, TWN_MMCH, TWN_TOCNT, TWN_MMCNT, TWN_LASTGAP, TWN_LASTTO, TWN_CMD, TWN_CMDRES]

/-- R388. Valid frames received -/
def TW_RXOK : Field := fld 0x35 0x00 0 32 .rc .status 0
/-- R388. CRC failures; saturates -/
def TW_RXCRC : Field := fld 0x35 0x04 0 16 .rc .status 0
/-- R388. Missing slots; saturates -/
def TW_RXMISS : Field := fld 0x35 0x06 0 16 .rc .status 0
/-- R388. Late DECISION records; saturates -/
def TW_LATE : Field := fld 0x35 0x08 0 16 .rc .status 0
/-- R388. Largest period misalignment, in 156.25 ps -/
def TW_ALIGN : Field := fld 0x35 0x0A 0 8 .rc .status 0
/-- R388. Corrected ECC errors; saturates -/
def TW_ECCCOR : Field := fld 0x35 0x0C 0 16 .rc .status 0
/-- R388. Readback disagreements; saturates -/
def TW_PADERR : Field := fld 0x35 0x0E 0 16 .rc .status 0
/-- R388. Injections outside TWN_RTOL; saturates -/
def TW_INJFAIL : Field := fld 0x35 0x10 0 16 .rc .status 0

/-- Every field of page 35. -/
def page35 : List Field :=
  [TW_RXOK, TW_RXCRC, TW_RXMISS, TW_LATE, TW_ALIGN, TW_ECCCOR, TW_PADERR, TW_INJFAIL]

/-- R410. 1: PEC on writes and on Host Notify -/
def H_CFG_PECWR : Field := fld 0x38 0x00 0 1 .rw .live 0
/-- R410. 1: PEC on reads -/
def H_CFG_PECRD : Field := fld 0x38 0x00 1 1 .rw .live 0
/-- R410. 1: SMBus timeout -/
def H_CFG_TOUT : Field := fld 0x38 0x00 2 1 .rw .static 1
/-- R410. 1: Host Notify croaks -/
def H_CFG_HNEN : Field := fld 0x38 0x00 3 1 .rw .static 1
/-- R410. 1: answer at 0x0C -/
def H_CFG_ARA : Field := fld 0x38 0x00 4 1 .rw .static 1
/-- R410. 0 100 kHz, 1 400 kHz, 2 1 MHz -/
def H_CRKCLK : Field := fld 0x38 0x01 0 2 .rw .static 2
/-- R410. Stretch limit, in 100 µs, 0–200 -/
def H_STRMAX : Field := fld 0x38 0x02 0 8 .rw .static 20
/-- R410. Data bytes per read PEC, 1–32 -/
def H_PECLEN : Field := fld 0x38 0x03 0 6 .rw .live 1
/-- R410. Pointer at the start of this transaction -/
def H_PTR : Field := fld 0x38 0x04 0 8 .ro .status 0
/-- R410. R400 -/
def H_FLAGS_ABORT : Field := fld 0x38 0x05 0 1 .w1c .status 0
/-- R410. R402 -/
def H_FLAGS_PECERR : Field := fld 0x38 0x05 1 1 .w1c .status 0
/-- R410. R399 -/
def H_FLAGS_STRLIM : Field := fld 0x38 0x05 2 1 .w1c .status 0
/-- R410. Clock-low timeout -/
def H_FLAGS_TIMEOUT : Field := fld 0x38 0x05 3 1 .w1c .status 0
/-- R410. R405 -/
def H_FLAGS_CRKFAIL : Field := fld 0x38 0x05 4 1 .w1c .status 0
/-- R410. R408 -/
def H_FLAGS_STUCK : Field := fld 0x38 0x05 5 1 .w1c .status 0
/-- R410. Aborts; saturates -/
def H_ABORTCNT : Field := fld 0x38 0x06 0 16 .rc .status 0
/-- R410. PEC mismatches; saturates -/
def H_PECCNT : Field := fld 0x38 0x08 0 16 .rc .status 0
/-- R410. Stretch limits; saturates -/
def H_STRCNT : Field := fld 0x38 0x0A 0 16 .rc .status 0
/-- R410. Timeouts; saturates -/
def H_TOCNT : Field := fld 0x38 0x0C 0 16 .rc .status 0
/-- R410. Completed Host Notifies; saturates -/
def H_HNCNT : Field := fld 0x38 0x0E 0 16 .rc .status 0
/-- R410. Arbitration losses; saturates -/
def H_ARBCNT : Field := fld 0x38 0x10 0 8 .rc .status 0
/-- R410. Condition of R400, 1–6 -/
def H_LASTAB_COND : Field := fld 0x38 0x11 0 4 .ro .status 0
/-- R410. Byte index in the transaction, address byte 0; saturates -/
def H_LASTAB_BYTE : Field := fld 0x38 0x12 0 8 .ro .status 0
/-- R410. Port H address (R392) -/
def H_ADDR : Field := fld 0x38 0x13 0 7 .ro .status 0
/-- R410. 1: PEC on writes received and on grant writes -/
def S_CFG_PECWR : Field := fld 0x38 0x20 0 1 .rw .static 0
/-- R410. 1: PEC on reads -/
def S_CFG_PECRD : Field := fld 0x38 0x20 1 1 .rw .static 0
/-- R410. 1: SMBus timeout -/
def S_CFG_TOUT : Field := fld 0x38 0x20 2 1 .rw .static 1
/-- R410. As H_CRKCLK -/
def S_CRKCLK : Field := fld 0x38 0x21 0 2 .rw .static 2
/-- R410. Stretch limit, in 100 µs, 0–200 -/
def S_STRMAX : Field := fld 0x38 0x22 0 8 .rw .static 20
/-- R410. Data bytes per read PEC, 1–32 -/
def S_PECLEN : Field := fld 0x38 0x23 0 6 .rw .static 1
/-- R410. Mailbox pointer -/
def S_PTR : Field := fld 0x38 0x24 0 8 .ro .status 0
/-- R410. Bits as H_FLAGS, with [4] a failed grant write -/
def S_FLAGS : Field := fld 0x38 0x25 0 6 .w1c .status 0
/-- R410. Aborts; saturates -/
def S_ABORTCNT : Field := fld 0x38 0x26 0 16 .rc .status 0
/-- R410. PEC mismatches; saturates -/
def S_PECCNT : Field := fld 0x38 0x28 0 16 .rc .status 0
/-- R410. Stretch limits; saturates -/
def S_STRCNT : Field := fld 0x38 0x2A 0 16 .rc .status 0
/-- R410. Timeouts; saturates -/
def S_TOCNT : Field := fld 0x38 0x2C 0 16 .rc .status 0
/-- R410. Completed grant writes; saturates -/
def S_GWCNT : Field := fld 0x38 0x2E 0 16 .rc .status 0
/-- R410. Arbitration losses; saturates -/
def S_ARBCNT : Field := fld 0x38 0x30 0 8 .rc .status 0
/-- R410. As H_LASTAB.COND -/
def S_LASTAB_COND : Field := fld 0x38 0x31 0 4 .ro .status 0
/-- R410. As H_LASTAB.BYTE -/
def S_LASTAB_BYTE : Field := fld 0x38 0x32 0 8 .ro .status 0

/-- Every field of page 38. -/
def page38 : List Field :=
  [H_CFG_PECWR, H_CFG_PECRD, H_CFG_TOUT, H_CFG_HNEN, H_CFG_ARA, H_CRKCLK, H_STRMAX, H_PECLEN, H_PTR, H_FLAGS_ABORT, H_FLAGS_PECERR, H_FLAGS_STRLIM, H_FLAGS_TIMEOUT, H_FLAGS_CRKFAIL, H_FLAGS_STUCK, H_ABORTCNT, H_PECCNT, H_STRCNT, H_TOCNT, H_HNCNT, H_ARBCNT, H_LASTAB_COND, H_LASTAB_BYTE, H_ADDR, S_CFG_PECWR, S_CFG_PECRD, S_CFG_TOUT, S_CRKCLK, S_STRMAX, S_PECLEN] ++
  [S_PTR, S_FLAGS, S_ABORTCNT, S_PECCNT, S_STRCNT, S_TOCNT, S_GWCNT, S_ARBCNT, S_LASTAB_COND, S_LASTAB_BYTE]

/-- R423. Reading claims (R416); 0 when nothing is claimable -/
def IC_CLAIM : Field := fld 0x3C 0x00 0 8 .ro .status 0
/-- R423. ID to complete (R417) -/
def IC_COMPLETE : Field := fld 0x3C 0x01 0 8 .wo .live 0
/-- R423. Threshold, 0–7 -/
def IC_THRESH : Field := fld 0x3C 0x02 0 3 .rw .live 0
/-- R423. Highest claimable ID; reading it claims nothing -/
def IC_TOP : Field := fld 0x3C 0x03 0 8 .ro .status 0
/-- R423. Priority of IC_TOP -/
def IC_TOPPRI : Field := fld 0x3C 0x04 0 3 .ro .status 0
/-- R423. Repeat Host Notify, in ms, 0–60,000; 0 disables -/
def IC_RENOTIFY : Field := fld 0x3C 0x08 0 16 .rw .static 0
/-- R423. Overdue limit, in ms, 10–60,000 -/
def IC_AGEMAX : Field := fld 0x3C 0x0A 0 16 .rw .static 1000
/-- R423. Bad completions; saturates -/
def IC_BADCNT : Field := fld 0x3C 0x0C 0 16 .rc .status 0
/-- R423. Bit *g*: group timer running -/
def IC_HOLDRUN : Field := fld 0x3C 0x0E 0 16 .ro .status 0
/-- R423. Byte *g*, bit *k*: source 8*g* + *k* + 1 enabled -/
def IC_EN : Field := arr .none 0x3C 0x10 0 8 1 16 .rw .live 0
/-- R423. Levels, laid out as IC_EN -/
def IC_LEVEL : Field := arr .none 0x3C 0x20 0 8 1 16 .ro .status 0
/-- R423. PENDING, whatever the enable -/
def IC_PEND : Field := arr .none 0x3C 0x30 0 8 1 16 .ro .status 0
/-- R423. ACTIVE -/
def IC_ACTIVE : Field := arr .none 0x3C 0x40 0 8 1 16 .ro .status 0
/-- R423. HELD -/
def IC_HELD : Field := arr .none 0x3C 0x50 0 8 1 16 .ro .status 0
/-- R423. Byte *j*: [2:0] source 2*j* + 1, [6:4] source 2*j* + 2; [3] and [7] reserved, read 0 -/
def IC_PRIO : Field := arr .none 0x3C 0x60 0 8 1 64 .rw .live 0
/-- R423. Group hold-off, in µs, 0–65,535 -/
def IC_HOLDOFF : Field := arr .none 0x3C 0xA0 0 16 2 16 .rw .live 0

/-- Every field of page 3C. -/
def page3C : List Field :=
  [IC_CLAIM, IC_COMPLETE, IC_THRESH, IC_TOP, IC_TOPPRI, IC_RENOTIFY, IC_AGEMAX, IC_BADCNT, IC_HOLDRUN, IC_EN, IC_LEVEL, IC_PEND, IC_ACTIVE, IC_HELD, IC_PRIO, IC_HOLDOFF]

/-- R444. 0 BLANK, 1 PROVISIONED, 2 DEPLOYED, 3 RMA -/
def SEC_LC : Field := fld 0x3E 0x00 0 2 .ro .status 0
/-- R444. A token was accepted, rejected or ended -/
def SEC_FLAGS_TOKEN : Field := fld 0x3E 0x01 0 1 .w1c .status 0
/-- R444. A session opened, ended or was refused -/
def SEC_FLAGS_SESSION : Field := fld 0x3E 0x01 1 1 .w1c .status 0
/-- R444. A slot was programmed or revoked -/
def SEC_FLAGS_KEY : Field := fld 0x3E 0x01 2 1 .w1c .status 0
/-- R444. The lifecycle changed -/
def SEC_FLAGS_LIFECYCLE : Field := fld 0x3E 0x01 3 1 .w1c .status 0
/-- R444. A halt began or ended -/
def SEC_FLAGS_HALT : Field := fld 0x3E 0x01 4 1 .w1c .status 0
/-- R444. A slot read FAULT -/
def SEC_FLAGS_OTP : Field := fld 0x3E 0x01 5 1 .w1c .status 0
/-- R444. Bits [2*k* + 1:2*k*] for slot *k*: 0 EMPTY, 1 ACTIVE, 2 REVOKED, 3 FAULT -/
def SEC_KEYST : Field := fld 0x3E 0x02 0 8 .ro .status 0
/-- R444. 0 NONE, 1 OBSERVE, 2 CONTROL -/
def SEC_DBGLVL_LEVEL : Field := fld 0x3E 0x03 0 2 .ro .status 0
/-- R444. Supervisor halted -/
def SEC_DBGLVL_HALT : Field := fld 0x3E 0x03 2 1 .ro .status 0
/-- R444. Test pattern running -/
def SEC_DBGLVL_TP : Field := fld 0x3E 0x03 3 1 .ro .status 0
/-- R444. Scope in force, as byte 1 of R430 -/
def SEC_SCOPE : Field := fld 0x3E 0x04 0 6 .ro .status 0
/-- R444. 0 none, 1 verifying, 2–9 as R431 -/
def SEC_TOKRES : Field := fld 0x3E 0x05 0 4 .ro .status 0
/-- R444. Level requested; debug port only -/
def SEC_DBGREQ : Field := fld 0x3E 0x06 0 2 .wo .live 0
/-- R444. 0 none, 1 accepted, 2 refused, 3 bad key, 4 no scope, 5 slot, 6 OTP error -/
def SEC_CMDRES : Field := fld 0x3E 0x07 0 3 .ro .status 0
/-- R444. Expiry of the token in force, in operating seconds -/
def SEC_EXPIRY : Field := fld 0x3E 0x08 0 32 .ro .status 0
/-- R444. Command (R426) -/
def SEC_CMD : Field := fld 0x3E 0x0C 0 40 .wo .live 0
/-- R444. Nonce; reading byte 20 draws a new one (R430) -/
def SEC_NONCE : Field := fld 0x3E 0x20 0 128 .ro .status 0
/-- R444. Device ID -/
def SEC_DEVID : Field := fld 0x3E 0x30 0 128 .ro .status 0
/-- R444. Token (R430) -/
def SEC_TOKEN : Field := arr .none 0x3E 0x40 0 8 1 104 .wo .live 0
/-- R444. Key for KEYPROG, *x* then *y*, big-endian -/
def SEC_KEYSTG : Field := arr .none 0x3E 0xA8 0 8 1 64 .wo .live 0

/-- Every field of page 3E. -/
def page3E : List Field :=
  [SEC_LC, SEC_FLAGS_TOKEN, SEC_FLAGS_SESSION, SEC_FLAGS_KEY, SEC_FLAGS_LIFECYCLE, SEC_FLAGS_HALT, SEC_FLAGS_OTP, SEC_KEYST, SEC_DBGLVL_LEVEL, SEC_DBGLVL_HALT, SEC_DBGLVL_TP, SEC_SCOPE, SEC_TOKRES, SEC_DBGREQ, SEC_CMDRES, SEC_EXPIRY, SEC_CMD, SEC_NONCE, SEC_DEVID, SEC_TOKEN, SEC_KEYSTG]

/-- R445. OTP offset, multiple of 32, 0–4,064 -/
def SEC_OTPADDR : Field := fld 0x3F 0x00 0 16 .wo .live 0
/-- R445. 32 OTP bytes from SEC_OTPADDR -/
def SEC_OTPWIN : Field := arr .none 0x3F 0x20 0 8 1 32 .ro .status 0

/-- Every field of page 3F. -/
def page3F : List Field :=
  [SEC_OTPADDR, SEC_OTPWIN]

end Sys2Proof.Machine.Reg
end

