-- ==== Sys2Proof/Machine/Pages.lean ====
section
/-! DEFINITION. The page directory: which fields a populated page holds (R448). The mirror pages 40-4F hold no field
of their own (R457). -/

namespace Sys2Proof.Machine

/-- The fields of a page; none for an unpopulated page (R449). -/
def pageFields (p : Nat) : List Field :=
  match p with
  | 0x00 => Reg.page00
  | 0x01 => Reg.page01
  | 0x02 => Reg.page02
  | 0x03 => Reg.page03
  | 0x05 => Reg.page05
  | 0x06 => Reg.page06
  | 0x07 => Reg.page07
  | 0x08 => Reg.page08
  | 0x04 => Reg.page04
  | 0x10 => Reg.page10
  | 0x11 => Reg.page11
  | 0x12 => Reg.page12
  | 0x13 => Reg.page13
  | 0x14 => Reg.page14
  | 0x15 => Reg.page15
  | 0x16 => Reg.page16
  | 0x17 => Reg.page17
  | 0x18 => Reg.page18
  | 0x19 => Reg.page19
  | 0x1A => Reg.page1A
  | 0x1B => Reg.page1B
  | 0x1C => Reg.page1C
  | 0x1D => Reg.page1D
  | 0x1E => Reg.page1E
  | 0x20 => Reg.page20
  | 0x22 => Reg.page22
  | 0x24 => Reg.page24
  | 0x26 => Reg.page26
  | 0x27 => Reg.page27
  | 0x30 => Reg.page30
  | 0x31 => Reg.page31
  | 0x32 => Reg.page32
  | 0x34 => Reg.page34
  | 0x35 => Reg.page35
  | 0x38 => Reg.page38
  | 0x3C => Reg.page3C
  | 0x3E => Reg.page3E
  | 0x3F => Reg.page3F
  | _ => []

/-- The populated pages (R448). -/
def populated (p : Nat) : Bool :=
  !(pageFields p).isEmpty || (0x40 ≤ p && p ≤ 0x4F)

end Sys2Proof.Machine
end

