-- ==== Sys2Proof/Machine/State.lean ====
section
/-! DEFINITION. The state of one ZP9640: the register cells, and everything the spec names that no register shows.

Plain data throughout. A register's value has its home in `regs` (Machine/Regs*.lean name the fields); a structure below
holds what stands behind the registers. The docstring of every field names the rule and the reset value. -/

namespace Sys2Proof.Machine

/-- The model stops nowhere: every command of the spec has an effect, or none, in a next state. The one constructor is
raised by nobody (safe); it keeps the type the interface asks for inhabited. -/
inductive Fault where
  /-- Raised by no meaning: the spec gives the block no stop (safe). -/
  | unreachable
deriving DecidableEq, Repr

/-- Why a command is refused. -/
inductive Refusal where
  /-- Raised by an arm of exec whose command has no meaning yet (safe). -/
  | notModelled (mnemonic : String)
deriving DecidableEq, Repr

/-- One event record (R345). `tm` is the instant of the raise, for the queue age of R347. -/
structure EventRec where
  code : Nat
  sev : Nat
  unit : Nat
  epoch : Bool
  lost : Bool
  held : Bool
  standby : Bool
  opsec : Nat
  pcc : Nat
  p0 : Nat
  p1 : Nat
  p2 : Nat
  p3 : Nat
  seq : Nat
  tm : Nat
deriving DecidableEq, Repr

/-- An event found while the supervisor was down, raised at the end of the restart or halt (R65, R442). -/
structure HeldEvent where
  code : Nat
  sev : Nat
  unit : Nat
  p0 : Nat
  p1 : Nat
  p2 : Nat
  p3 : Nat
deriving DecidableEq, Repr

/-- The supervisor core: running, restarting since an instant (R65), or halted since one (R442). -/
inductive Supervisor where
  | running | restarting (since : Nat) | halted (since : Nat)
deriving DecidableEq, Repr

/-- Why a load runs (R311): at start, RELOAD, REVERT, a failed probation (R315), or a digest mismatch (R65). -/
inductive LoadKind where
  | start | reload | revert | probation | digest
deriving DecidableEq, Repr

/-- A load of an image (R310). `staged` is set once the new image has come into force for the period-class blocks and the
load waits for its angle 0. -/
structure Load where
  kind : LoadKind
  tm : Nat
  staged : Bool
  left : Nat
deriving DecidableEq, Repr

/-- Modes, start-up, SHIP (R52-R73): what stands behind page 02. -/
structure CoreSt where
  /-- R22, R462: VDD, VDDA, VIO and VIO18 good and the VDD power-on reset released. Reset: false -/
  powered : Bool
  /-- R453: instant of the last release of the VDD power-on reset (GL_MS counts from it). Reset: 0 -/
  porAt : Nat
  /-- R74: instant of the last mode change (GL_MODE_TIME counts from it). Reset: 0 -/
  modeAt : Nat
  /-- R65, R442: the supervisor core. Reset: running -/
  sup : Supervisor
  /-- R65: events found while the supervisor was down. Reset: none -/
  heldEvents : List HeldEvent
  /-- R57: instant at which GL_STAT.IMGVALID became 1. Reset: none -/
  imgValidAt : Option Nat
  /-- R56: instant since which the crystal has run without a fault. Reset: none -/
  xtalSince : Option Nat
  /-- R58: the TADPOLE service in force is the reload column. Reset: false -/
  tadReload : Bool
  /-- R63, R65: a change to TADPOLE that waits for the next quadrant point, with its cause. Reset: none -/
  toTadpole : Option Nat
  /-- R61: the RELOAD, REVERT or failed probation that waits for RUN (GL_STAT.RLDPEND). Reset: none -/
  deferred : Option LoadKind
  /-- R63: the load the next entry to TADPOLE starts. Reset: none -/
  loadNext : Option LoadKind
  /-- R63, R310: the load in progress. Reset: none -/
  load : Option Load
  /-- R68: step of the SHIP sequence, 0 none, 2 flushing, 3 waiting for the quadrant point, 5 sealed and waiting. Reset: 0 -/
  shipStep : Nat
  /-- R68: instant of the seal. Reset: 0 -/
  sealAt : Nat
  /-- R57: an exit from TADPOLE has happened since VDD power-on (GL_BOOT_TIME is set once). Reset: false -/
  exited : Bool
  /-- R12: instant of the last operating second. Reset: 0 -/
  secAt : Nat
  /-- R392: the four address straps sampled at step 1 of R53. Reset: 0 -/
  addr : Nat
  /-- R57, R73: instants of the first RUN or HOLDUP entry since VDD power-on. Reset: none -/
  firstRunAt : Option Nat
deriving DecidableEq, Repr

/-- The VKA domain (R22, R68-R71): it outlives VDD. -/
structure Vka where
  /-- R70: the 64 bytes of the ship note. Reset: zeros (DESIGN CHOICE, assumption 12) -/
  note : List Nat
  /-- R68: the ship wake is armed. Reset: false -/
  armed : Bool
  /-- R69: wake causes latched, bits WAKE, AC, BI. Reset: 0 -/
  causes : Nat
  /-- R294, R297: the GECKO latch. Reset: false -/
  gecko : Bool
  /-- R296: the sensor that set the GECKO latch, and its temperature. Reset: 0 -/
  geckoSrc : Nat
  geckoTemp : Nat
  /-- R71: the VKA domain lost its content since the last VDD good. Reset: false -/
  lost : Bool
  /-- R293: the correction the PTAT cell updates in SHIP has run (its value is the low-power RC's own). Reset: 0 -/
  rcUpdates : Nat
deriving DecidableEq, Repr

/-- The state of a key slot (R427). -/
inductive KeyState where
  | empty | active | revoked | fault
deriving DecidableEq, Repr

/-- A key slot: its state and its 64 key bytes (R427). -/
structure KeySlot where
  st : KeyState
  key : List Byte
deriving DecidableEq, Repr

/-- The OTP block (R425, R427, R316, R445): it outlives every reset. -/
structure Otp where
  /-- R425: the lifecycle words as programmed: 0 BLANK, 1 PROVISIONED, 2 DEPLOYED, 3 RMA; SEC_LC shows the state in force.
  Reset: 0 as shipped (DESIGN CHOICE, assumption 12) -/
  lifecycle : Nat
  /-- R427: the four key slots. Reset: empty (DESIGN CHOICE, assumption 12) -/
  keys : Vector KeySlot 4
  /-- R316: the floor words programmed so far, the last one in force; at most 16. Reset: none (DESIGN CHOICE, assumption 12) -/
  floors : List Nat
  /-- R430: the device ID. Reset: 0 (DESIGN CHOICE, assumption 12) -/
  devId : BitVec 128
deriving DecidableEq, Repr

/-- One copy of the boot descriptor (R331). -/
structure BootDesc where
  seq : Nat
  readyA : Bool
  readyB : Bool
  verA : Nat
  verB : Nat
deriving DecidableEq, Repr

/-- The journal record of a LOGPTR (R335). -/
structure LogPtr where
  epoch : Nat
  firstNext : Nat
  rollNext : Nat
  rollDropped : Nat
  snNext : Nat
  lastSeq : Nat
deriving DecidableEq, Repr

/-- A pinned field (R322, R325). -/
structure Pinned where
  ver : Nat
  page : Nat
  off : Nat
  width : Nat
  value : Nat
deriving DecidableEq, Repr

/-- A channel's journalled trim (R335). -/
structure Trim where
  ch : Nat
  bayType : Nat
  gain : Nat
  offset : Nat
deriving DecidableEq, Repr

/-- What the journal says of an image version (R312-R314): 1 running, 2 PASSED, 3 FAILED, and the count in s. -/
structure Verdict where
  ver : Nat
  st : Nat
  count : Nat
deriving DecidableEq, Repr

/-- The payloads of journal records (R335). -/
inductive JPayload where
  | counters (opsec pcc eOut eStr : Nat)
  | trim (t : Trim)
  | probation (v : Verdict)
  | pin (p : Pinned)
  | unpin (page off : Nat)
  | logptr (l : LogPtr)
  | baysec (v : List Nat)
  | wear (jrn first roll snap : Nat)
deriving DecidableEq, Repr

/-- A journal record in a bank: its offset, its sequence, its payload, and whether its CRC matches (R334, R336). -/
structure JRec where
  off : Nat
  seq : Nat
  good : Bool
  body : JPayload
deriving DecidableEq, Repr

/-- A journal bank (R333). -/
structure Bank where
  committed : Bool
  gen : Nat
  blank : Bool
  next : Nat
  recs : List JRec
deriving DecidableEq, Repr

/-- A programmed slot of ROLL (R350): live, or superseded with its code bytes at 0. -/
structure RollSlot where
  ix : Nat
  live : Bool
  ev : EventRec
deriving DecidableEq, Repr

/-- The header of a snapshot and its data (R356). -/
structure Snap where
  seq : Nat
  code : Nat
  sev : Nat
  kind : Nat
  opsec : Nat
  pcc : Nat
  angle : Nat
  cyc : Nat
  per : Nat
  chans : List Nat
  ver : Nat
  folded : Nat
  param0 : Nat
  pages : List (List Nat)
  samples : List Code
deriving DecidableEq, Repr

/-- A snapshot slot of the flash (R355): the slot, whether COMMIT is in place, and what it holds. -/
structure SnapSlot where
  ix : Nat
  committed : Bool
  snap : Snap
deriving DecidableEq, Repr

/-- The attached flash (R328): it outlives every reset. -/
structure Flash where
  /-- R331: the two copies of the boot descriptor; none where a copy is not valid. Reset: none (DESIGN CHOICE, assumption 12) -/
  bd0 : Option BootDesc
  bd1 : Option BootDesc
  /-- R328: the bytes of slots A and B. Reset: erased (DESIGN CHOICE, assumption 12) -/
  slotA : Memory
  slotB : Memory
  /-- R333: the two journal banks. Reset: erased (DESIGN CHOICE, assumption 12) -/
  bank0 : Bank
  bank1 : Bank
  /-- R350: FIRST, oldest first, at most 4,096 records. Reset: none -/
  first : List EventRec
  /-- R350: the programmed slots of ROLL, by slot. Reset: none -/
  roll : List RollSlot
  /-- R355: the snapshot slots written. Reset: none -/
  snaps : List SnapSlot
  /-- R340: erases of each 4 KiB sector, by sector number. Reset: 0 -/
  erases : Cells
deriving DecidableEq, Repr

/-- The journal's RAM (R336). -/
structure JrnSt where
  /-- R336: the start scan is complete and the mirror is in force. Reset: false -/
  scanned : Bool
  /-- R335: counters in force. Reset: none -/
  counters : Option (Nat × Nat × Nat × Nat)
  /-- R335: trims in force by channel. Reset: none -/
  trims : List Trim
  /-- R335: verdicts in force by version. Reset: none -/
  verdicts : List Verdict
  /-- R335: pins in force. Reset: none -/
  pins : List Pinned
  /-- R335: LOGPTR in force. Reset: none -/
  logptr : Option LogPtr
  /-- R335: BAYSEC in force. Reset: none -/
  baysec : Option (List Nat)
  /-- R335: WEAR in force. Reset: none -/
  wear : Option (Nat × Nat × Nat × Nat)
  /-- R334: the sequence of the last record in either bank. Reset: 0 -/
  seq : Nat
  /-- R341: records due while an upload erase, a halt or a restart holds the flash. Reset: none -/
  due : List JPayload
  /-- R337: sequences above this one were appended since the compaction in progress began; none when none runs. Reset: none -/
  compacting : Option Nat
  /-- R341: instant at which an abandoned compaction is retried. Reset: none -/
  retryAt : Option Nat
  /-- R340: the wear event has been raised since VDD power-on. Reset: false -/
  worn : Bool
  /-- R335: operating second of the last COUNTERS record, and of the last BAYSEC and WEAR records. Reset: 0 -/
  cntSec : Nat
  hourSec : Nat
  /-- R335: energy delivered and discharged that is not yet a whole Wh, in J. Reset: 0 -/
  eOutRem : Rat
  eStrRem : Rat
  /-- R341: the power-fail warning has been given; no erase resumes. Reset: false -/
  powerFail : Bool
  /-- R330: the highest clock the flash's table allows, in MHz. Reset: 0 -/
  fclk : Nat
deriving DecidableEq, Repr

/-- A capture buffer (R354): the set (false fault, true manual), the header, the trigger instant, and whether the 6 ms are
complete. -/
structure Capture where
  manual : Bool
  tm : Nat
  done : Bool
  snap : Snap
deriving DecidableEq, Repr

/-- A clear of the log in progress (R353). -/
structure ClearSt where
  all : Bool
  oldEpoch : Nat
  firstCount : Nat
  rollCount : Nat
deriving DecidableEq, Repr

/-- The recorder's RAM (R345-R355). -/
structure LogSt where
  /-- R347: the RAM queue, oldest first, at most 64. Reset: empty -/
  queue : List EventRec
  /-- R455: the last record raised, and the last with severity 5 or more. Reset: none -/
  last : Option EventRec
  lastHi : Option EventRec
  /-- R348: the next record to enter the queue carries LOST. Reset: false -/
  lostNext : Bool
  /-- R348: records dropped since the last event 0x7053, and the highest severity among them. Reset: 0 -/
  dropped : Nat
  droppedSev : Nat
  /-- R351: the scan of FIRST and ROLL is complete. Reset: false -/
  scanned : Bool
  /-- R347: the batch in progress writes the records up to this sequence. Reset: none -/
  batch : Option Nat
  /-- R347: a flush is asked for and has not begun. Reset: false -/
  flushReq : Bool
  /-- R353: the clear in progress. Reset: none -/
  clear : Option ClearSt
  /-- R350: event 0x7052 has been raised in this epoch. Reset: false -/
  firstFullRaised : Bool
  /-- R350: instant of the last event 0x7054. Reset: none -/
  rollDropAt : Option Nat
  /-- R354: the two capture buffers. Reset: none -/
  cap0 : Option Capture
  cap1 : Option Capture
  /-- R352: the record the log window shows; none where none stands at or after the cursor. Reset: none -/
  winRec : Option EventRec
  /-- R352: instant since which the log window is being fetched. Reset: none -/
  fetchAt : Option Nat
  /-- R352: the cursor advances at the transaction's stop. Reset: false -/
  advance : Bool
  /-- R365: the snapshot window's 128 bytes, and the instant since which it is being fetched. Reset: 0xFF, none -/
  snWin : List Nat
  snFetchAt : Option Nat
deriving DecidableEq, Repr

/-- The states of an interrupt source (R415). -/
inductive SrcState where
  | idle | pending | active | held
deriving DecidableEq, Repr

/-- The interrupt controller (R413-R421). -/
structure IcSt where
  /-- R415: the state of each of the 128 sources. Reset: IDLE -/
  src : Vector SrcState 128
  /-- R417: instant at which each group's hold-off timer expires; none where it is not running. Reset: none -/
  timer : Vector (Option Nat) 16
  /-- R420: instant since which each source has been claimable. Reset: none -/
  since : Vector (Option Nat) 128
  /-- R420: event 0x6301 has been raised for the source. Reset: false -/
  overdue : Vector Bool 128
  /-- R419: the claimable ID last seen, and the instant since which it has been the same. Reset: 0 -/
  top : Nat
  topAt : Nat
  /-- R405, R419: a Host Notify is asked for. Reset: false -/
  notify : Bool
  /-- R405: attempts of the Host Notify not acknowledged so far. Reset: 0 -/
  attempts : Nat
  /-- R407: arbitration losses of the write in progress. Reset: 0 -/
  arb : Nat
deriving DecidableEq, Repr

/-- Bytes of a multi-byte field gathered in one transaction (R396): the page, the field's offset, the instance of its window
and array, and the bytes so far from the lowest. -/
structure Partial where
  page : Nat
  off : Nat
  inst : Nat
  bytes : List Nat
deriving DecidableEq, Repr

/-- A latched run of bytes (R397): the page, its first offset, and the bytes. -/
structure Latch where
  page : Nat
  off : Nat
  bytes : List Nat
deriving DecidableEq, Repr

/-- A buffered write (R318): the page, the offset, the selectors' instances are those in force at the acknowledge, given
as the field's place and instance; or a LIVE byte that acts after it. -/
structure Buffered where
  place : Nat
  inst : Nat
  value : Nat
deriving DecidableEq, Repr

/-- A two-wire port (R391-R408). -/
structure Port where
  /-- R395, R433: the port's PAGE register. Reset: 0 -/
  page : Nat
  /-- R395: the pointer. Reset: 0 -/
  ptr : Nat
  /-- R396: a transaction is under way. Reset: false -/
  open_ : Bool
  /-- R394: the transaction under way is a write. Reset: false -/
  writing : Bool
  /-- R259, R260: byte 127 of EST_RSTG has been written in this transaction, and no byte after it. Reset: none -/
  commit127 : Option Bool
  /-- R396: bytes of a multi-byte field gathered so far. Reset: none -/
  part : Option Partial
  /-- R318: buffered writes in order. Reset: none -/
  buf : List Buffered
  /-- R318: data bytes buffered. Reset: 0 -/
  bufBytes : Nat
  /-- R318: LIVE writes of a block that act at the stop, after its buffered writes. Reset: none -/
  late : List Buffered
  /-- R402: with PECWR, the bytes of the write held until the stop, as (offset, byte) from the pointer. Reset: none -/
  heldWrites : List (Nat × Nat)
  /-- R402: the bytes of the transaction so far, address byte first, newest first. Reset: none -/
  bytes : List Nat
  /-- R397: the latches of this transaction. Reset: none -/
  latches : List Latch
  /-- R394: the bytes the 9640 has sent in this read, in order. Reset: none -/
  sent : List Nat
  /-- R402: data bytes sent in this read since the last PEC. Reset: 0 -/
  sincePec : Nat
  /-- R399, R400: instants of the last events 0x6210, 0x6212 on this port. Reset: none -/
  abortAt : Option Nat
  strAt : Option Nat
  /-- R408: instant since which the bus has been stuck; none where it is not. Reset: none -/
  stuckAt : Option Nat
  /-- R408: the instant at which the back-off ends. Reset: none -/
  backoff : Option Nat
  /-- R177, R194, R307, R431: the run of bytes written to an area that is taken whole (IMG_UPDATA, SEC_TOKEN, CAP_CT_REC, the
  mailbox of port S), as the page and the bytes from the area's start; a broken run holds none. Reset: none -/
  area : Option Partial
deriving DecidableEq, Repr

/-- A token in force (R431, R432). -/
structure Token where
  scope : Nat
  slot : Nat
  expiry : Nat
deriving DecidableEq, Repr

/-- A token being verified (R431). -/
structure Verifying where
  debug : Bool
  bytes : List Byte
  tm : Nat
  nonceOk : Bool
deriving DecidableEq, Repr

/-- The states of the IEEE 1149.1 TAP (R437). -/
inductive TapState where
  | reset | idle | selDr | capDr | shDr | ex1Dr | pauDr | ex2Dr | updDr | selIr | capIr | shIr | ex1Ir | pauIr | ex2Ir | updIr
deriving DecidableEq, Repr

/-- The TAP (R437): its state, the instruction in force, and the shift registers. -/
structure Tap where
  st : TapState
  ir : Nat
  irShift : Nat
  dr : List Bool
  bsr : List Bool
deriving DecidableEq, Repr

/-- The security block (R425-R442). -/
structure SecSt where
  /-- R430: the live nonce and the instant it was drawn. Reset: none -/
  nonce : Option (BitVec 128 × Nat)
  /-- R432: the token in force. Reset: none -/
  token : Option Token
  /-- R431: the submission being verified. Reset: none -/
  verifying : Option Verifying
  /-- R442: the channel and duty of the test pattern. Reset: none -/
  pattern : Option (Nat × Nat)
  /-- R437: the boundary-scan TAP. Reset: Test-Logic-Reset -/
  tap : Tap
  /-- R433: the debug port's own copies of the window selectors and VIEW fields. Reset: 0 -/
  sel : Cells
deriving DecidableEq, Repr

/-- The image block's RAM (R302-R323). -/
structure ImgSt where
  /-- R321: the register cells as the image in force set them. Reset: empty -/
  cfg : Cells
  /-- R308, R315: the image in force's slot, version, floor, key slot, length. Reset: none -/
  inForce : Option (Nat × Nat × Nat × Nat × Nat)
  /-- R306: the upload's target slot (false A, true B). Reset: A -/
  upSlot : Bool
  /-- R307: chunk offsets programmed since OPEN. Reset: none -/
  chunks : List Nat
  /-- R307: the chunk being programmed. Reset: none -/
  chunkNow : Option (Nat × List Byte)
  /-- R310: the image read and checked by the load in progress: its slot and register cells. Reset: none -/
  staged : Option (Nat × Cells)
  /-- R312: the probation count in s of operation. Reset: 0 -/
  probCount : Nat
  /-- R320: instant of the last event 0x7310 or 0x7311, and the instants of the refusals of the last second. Reset: none -/
  staticAt : Option Nat
  staticLast : List Nat
  /-- R315: the version left by the revert in progress. Reset: none -/
  revertFrom : Option Nat
deriving DecidableEq, Repr

/-- The angle wheel (R30-R47): what stands behind page 04. -/
structure WheelSt where
  /-- R33: the last sharing-tick point passed, 0 to 63; the angle there is 1,024 times it. Reset: 0 -/
  idx : Nat
  /-- R33: the instant of that point. Reset: 0 -/
  ptAt : Nat
  /-- R34: the wheel has started, at TADPOLE entry. Reset: false -/
  running : Bool
  /-- R38: instant at which ACQUIRE began, and the reference frequency measured then, in 0.01 Hz. Reset: 0 -/
  acqAt : Nat
  acqFreq : Nat
  /-- R36: mean measured frequencies of the whole LOCKED cycles, newest first, at most 6. Reset: none -/
  locked : List Nat
  /-- R36: points and frequency sum of the LOCKED cycle under way. Reset: 0 -/
  cycN : Nat
  cycSum : Nat
  /-- R40: the last locked frequency, in 0.01 Hz. Reset: 5000 with no lock yet (DESIGN CHOICE, assumption 13; never used before a lock) -/
  lastLocked : Nat
  /-- R40: instant at which the FLYWHEEL episode began. Reset: 0 -/
  flyAt : Nat
  /-- R41: instant of the last update of WHL_BOFS. Reset: none -/
  bofsAt : Option Nat
  /-- R39: the wheel cycle under way runs off the reference rate. Reset: false -/
  skewed : Bool
  /-- R31: fraction of a tick by which the closing of WHL_OFSNOW is behind. Reset: 0 -/
  ofsRem : Rat
  /-- R46: WHL_CYC at the angle 0 that committed each calendar entry. Reset: 0 -/
  c0 : Nat
  /-- R46: calendar entries due and not yet run: the entry, and the instant of its tick. Reset: none -/
  due : List (Nat × Nat)
  /-- R46: the tick position up to which due entries have been gathered (cycle, angle). Reset: 0 -/
  gathered : Nat
deriving DecidableEq, Repr

/-- What a chip remembers of the twin pair (R367-R386). -/
structure TwinSt where
  /-- R370: this chip's ACTOUT, and its filtered ACTIN. Reset: low -/
  actOut : Bool
  actIn : Bool
  /-- R371: the contest after claiming at start, and the instant of the claim. Reset: none -/
  contest : Option Nat
  /-- R370, R384: instant since which ACTIN has been low while this chip waits to take ownership. Reset: none -/
  gapSince : Option Nat
  /-- R385: instant at which this chip yielded on a host command or a comparison. Reset: none -/
  yieldAt : Option Nat
  /-- R372: instant at which ACTIN rose while this chip owned the outputs. Reset: none -/
  dualAt : Option Nat
  /-- R373: this chip's frame sequence, and the sequence and instant of the last valid frame received. Reset: 0, none -/
  txSeq : Nat
  rxSeq : Nat
  rxAt : Option Nat
  /-- R373: the partner's last valid frame. Reset: none -/
  partner : Option TwinFrame
  /-- R373, R383: consecutive missing slots, and the instant of the last one. Reset: 0, none -/
  missing : Nat
  missAt : Option Nat
  /-- R383: instant of the last frame this chip sent, and of the frame sent in this slot. Reset: none -/
  sentAt : Option Nat
  /-- R378: this chip's recent frames, newest first, for the comparison by period tag. Reset: none -/
  own : List TwinFrame
  /-- R378: consecutive mismatching standby frames. Reset: 0 -/
  mism : Nat
  /-- R378: comparison has stopped until the standby is FIT again. Reset: false -/
  held : Bool
  /-- R378: the largest difference and the digest channel of the mismatch under test. Reset: 0 -/
  maxDiff : Nat
  digCh : Option Nat
  /-- R379: a known-answer test is asked for; this chip's result and the partner's. Reset: none -/
  katAsked : Bool
  katOwn : Option (Nat × Bool)
  katPartner : Option Bool
  /-- R381: failing lanes of the last periodic vector; channels whose last injection failed; instants of the last
  uncorrectable ECC error and pad disagreement. Reset: 0, none -/
  katFail : Nat
  injBad : List Nat
  eccAt : Option Nat
  padAt : Option Nat
  /-- R382: instant since which every health bit has been 1; the standby is UNFIT by R380. Reset: none, false -/
  fitSince : Option Nat
  unfit : Bool
  /-- R386: the state transfer is complete; a transfer is under way. Reset: false -/
  synced : Bool
  /-- R375, R376: DECISION records waiting for their tick, oldest first; records waiting to be sent. Reset: none -/
  decisions : List SyncRec
  sendQ : List SyncRec
  recSeq : Nat
  /-- R384: the trigger of the takeover under way: the instant t0. Reset: none -/
  t0 : Option Nat
  /-- R383: the link fault has been reported for this outage of frames. Reset: false -/
  linkFault : Bool
  /-- R386: instant of the last HEALTH record sent. Reset: none -/
  healthAt : Option Nat
  /-- R385: the yield was on a host command or a comparison: the chip may take ownership back. Reset: false -/
  back : Bool
  /-- R373: a switchover is asked of the active. Reset: false -/
  swReq : Bool
  /-- R379: the sequence of the frame that carries this chip's request. Reset: 0 -/
  reqSeq : Nat
  /-- R381: the two LOCKED angles agreed at the last frame. Reset: false -/
  near : Bool
  /-- R384: the outputs of a takeover still to resume: bays 0-7, charge stages of strings 0-7 as 8-15. Reset: none -/
  resume : List Nat
  /-- R375: bytes of capsules received so far: the string, the offset, the byte. Reset: none -/
  capBuf : List (Nat × Nat × Nat)
deriving DecidableEq, Repr

/-- A phase channel (R77-R95): what stands behind pages 10 and 11. -/
structure PhaseSt where
  /-- R83: the current of the latest sample, in mA. Reset: 0 -/
  cur : Rat
  /-- R87, R88: order in which the phase entered its present state (warm longest, conducting longest). Reset: 0 -/
  rank : Nat
  /-- R94: samples taken towards the offset of a new phase, and their sum in 0.1 mV. Reset: 0 -/
  newN : Nat
  newSum : Rat
  /-- R93: the tracked zero-current offset, in 0.1 mV. Reset: 0 -/
  avg : Rat
  /-- R93: consecutive samples at a rail. Reset: 0 -/
  rail : Nat
  /-- R80: the balance trim, in 1/65,536 of the period. Reset: 0 -/
  bal : Rat
  /-- R81, R82: the slot offset in force and the one the phase moves to, in edge units from the bay's period start. Reset: 0 -/
  ofs : Nat
  want : Nat
  /-- R78, R79: on-time of the pulse of this period, in edge units; 0 where it is omitted. Reset: 0 -/
  ton : Nat
  /-- R78: the clamp of PH_DMAX was hit in the last period. Reset: false -/
  clamp : Bool
  /-- R97: conduction time not yet a whole second of PH_CONDSEC. Reset: 0 -/
  condAcc : Nat
  /-- R92: the phase becomes NEW at its next entry to WARM. Reset: false -/
  discard : Bool
  /-- R95: instant of the last trim journalled for the channel. Reset: none -/
  trimAt : Option Nat
  /-- R82: the first pulse after a LEAP is still to come. Reset: false -/
  first : Bool
deriving DecidableEq, Repr

/-- One lane of the loop engine (R100-R121): its state in 2^-29 of duty. -/
structure Lane where
  /-- R102: the integrator. Reset: 0 -/
  integ : Int
  /-- R102: the filtered derivative, and the last error in mV. Reset: 0 -/
  d : Int
  ePrev : Int
  /-- R102: the states of the lead-lags and the notch. Reset: 0 -/
  x1 : Int
  y1 : Int
  x2 : Int
  y2 : Int
  nx1 : Int
  nx2 : Int
  ny1 : Int
  ny2 : Int
  /-- R78: the duty computed for the next period; none while none has been computed. Reset: none -/
  next : Option Nat
  /-- R121: the built-in compensator is in force. Reset: true (TADPOLE is the first service) -/
  builtin : Bool
  /-- R115: a downward region change counted: the index, and the period starts that showed it. Reset: none -/
  down : Option (Nat × Nat)
  /-- R106: instant since which the duty has been clamped without a break, at DMAX or not. Reset: none -/
  satAt : Option (Nat × Bool)
  /-- R106: event 0x2102 has been raised in this episode. Reset: false -/
  satTold : Bool
  /-- R105: VLINK has been reported invalid in this episode. Reset: false -/
  vlTold : Bool
  /-- R107: instant of the last event 0x2104. Reset: none -/
  trigAt : Option Nat
  /-- R122: instant of the bay's last join or rejoin. Reset: 0 -/
  joinAt : Nat
  /-- R123: instant since which the error has been within the limit less its hysteresis. Reset: none -/
  feOk : Option Nat
  /-- R78: the duty in force, in 1/65,536. Reset: 0 -/
  now : Nat
  /-- R122: the last |e_raw|, in mV. Reset: 0 -/
  eRaw : Nat
deriving DecidableEq, Repr

/-- A bay (R77-R145). -/
structure BaySt where
  /-- R139: levels of BAYPRESb, BAYOKb and BAYEJb. Reset: low -/
  pres : Bool
  ok : Bool
  ej : Bool
  /-- R139: presence has been accepted. Reset: false -/
  accepted : Bool
  /-- R139: instant at which the presence debounce began. Reset: none -/
  debAt : Option Nat
  /-- R142, R92: instant at which presence was lost. Reset: none -/
  lostAt : Option Nat
  /-- R139: instant from which SHR_OKTIME counts; none while it does not. Reset: none -/
  okFrom : Option Nat
  /-- R144, R205: BAYENb is held low in PFCSTART before RESTART. Reset: false -/
  enLow : Bool
  /-- R139: instant at which the insertion began. Reset: 0 -/
  insAt : Nat
  /-- R140: a leave that waits for its quadrant point: of the tracker, or by the handle. Reset: false -/
  pendTrk : Bool
  pendEj : Bool
  /-- R140: the leave under way ends in EJECTED. Reset: false -/
  leaveEj : Bool
  /-- R136: the ramp weight w_b, 0 to 1. Reset: 0 -/
  w : Rat
  /-- R140: w_b at the start of the leave, and the instant at which it reached 0. Reset: 0, none -/
  w0 : Rat
  zeroAt : Option Nat
  /-- R135, R137: the drop compensation and the sharing trim, in mV. Reset: 0 -/
  c : Rat
  t : Rat
  /-- R134: the learned drop resistance, in microohm. Reset: 0 -/
  rdrop : Rat
  /-- R87: the bay's IMON sum at its last 8 period starts, newest first, in mA. Reset: none -/
  hist : List Rat
  /-- R90: instants and sums of the last two samples of the bay's IMON sum. Reset: 0 -/
  sumAt : Nat
  sum : Rat
  sumAt0 : Nat
  sum0 : Rat
  /-- R89, R134: sums and counts of the sharing tick under way: IMON sum in mA, bay output in mV. Reset: 0 -/
  iAcc : Rat
  iN : Nat
  vAcc : Nat
  vN : Nat
  /-- R358: sum of the products of bay output and current of the tick under way, in microwatts. Reset: 0 -/
  pAcc : Rat
  /-- R89: the last sharing-tick averages, in mA and mV. Reset: 0 -/
  iTick : Rat
  vTick : Rat
  /-- R146: sum and count of the ticks of the cycle under way, and the last cycle average in mA. Reset: 0 -/
  cAcc : Rat
  cN : Nat
  iCyc : Rat
  /-- R95: N has changed during the cycle. Reset: false -/
  nMoved : Bool
  /-- R77: instant, length and fraction of the period under way, in edge units. Reset: 0 -/
  perAt : Nat
  perLen : Nat
  frac : Nat
  /-- R373: periods begun; the low 8 bits are the period tag. Reset: 0 -/
  perCnt : Nat
  /-- R373: the trigger conversion of the bay output. Reset: 0 -/
  trigCode : Nat
  /-- R89: the ramp of the victim: its share at commit in mA, and the periods done. Reset: none -/
  ramp : Option (Rat × Nat)
  /-- R91: an abandon that takes effect at the next period start: stage, trigger mask, target in mA. Reset: none -/
  abandon : Option (Nat × Nat × Rat)
  /-- R89: instant of the last change of N or abandon; none once PH_DWELL has elapsed. Reset: none -/
  dwellAt : Option Nat
  /-- R90: the error-band trigger is armed; the band has been left in this period. Reset: true, false -/
  ebArm : Bool
  ebBad : Bool
  /-- R137: consecutive ticks with the trim at its limit. Reset: 0 -/
  trimN : Nat
  /-- R134: event 0x2124 has been raised in this cycle. Reset: false -/
  dropTold : Bool
  /-- R141: instant of the entry to STANDBY. Reset: 0 -/
  sbyAt : Nat
  /-- R150: instant of the entry to service (JOIN or ACTIVE). Reset: 0 -/
  svcAt : Nat
  /-- R154: time in JOIN or ACTIVE not yet a whole second of TRK_BAYSEC, as the operating seconds passed. Reset: 0 -/
  secAcc : Nat
  /-- R58: the phases other than the lead phase go to WARM after its first pulse. Reset: false -/
  strip : Bool
  /-- R123: the bay is out by a FAULT action. Reset: false -/
  feFault : Bool
  /-- R205: the bay was released in HOLDUP. Reset: false -/
  released : Bool
  lane : Lane
deriving DecidableEq, Repr

/-- Why a fuse channel opens (R272): its owner's request, a trip of a kind, or an image that disables it. -/
inductive OpenWhy where
  | owner | trip (kind : Nat) | disable
deriving DecidableEq, Repr

/-- A fuse channel (R272-R282). -/
structure FuseSt where
  /-- R272: the owner asks for close, since the instant. Reset: false, 0 -/
  want : Bool
  reqAt : Nat
  /-- R272: instant of the entry to the present state. Reset: 0 -/
  stAt : Nat
  /-- R275: the breaker accumulator, in 2^-30 of the trip level. Reset: 0 -/
  acc : Nat
  /-- R272: why the channel opens. Reset: owner -/
  why : OpenWhy
  /-- R272: EN has fallen while the channel was not OFF or LATCHED: it ends in UNUSED. Reset: false -/
  disable : Bool
  /-- R273: windows outside the band in a row, V_sw in mV at the start of the window under way, and its instant. Reset: 0 -/
  winBad : Nat
  winV : Rat
  winAt : Nat
  /-- R274: instants since which the power-good conditions hold; since which they lapse in ON; since which FGS is low, V_sw
  is above FUS_VDSPG, and above FUS_VDSMAX under load. Reset: none -/
  goodAt : Option Nat
  lapseAt : Option Nat
  fgsAt : Option Nat
  vswAt : Option Nat
  vdsAt : Option Nat
  /-- R280: instants at which retries started. Reset: none -/
  retries : List Nat
  /-- R280: instant at which OPENING ended, and the trip was a breaker trip. Reset: 0, false -/
  openAt : Nat
  breaker : Bool
  /-- R275: the last P, in 0.1 % of the reference. Reset: 0 -/
  pLast : Rat
  /-- R280: the presence behind the channel was deasserted for 100 ms. Reset: false -/
  gone : Bool
deriving DecidableEq, Repr

/-- What moves Vs (R131, R204): nothing, a host command, a move of the 9640's own, or a walk of hold-up. -/
inductive Mover where
  | none | host | own | walk
deriving DecidableEq, Repr

/-- Regulation, sharing and the tracker over the shelf (R129-R152). -/
structure RegSt where
  /-- R131: Vs, in microvolts. Reset: 0 -/
  vs : Nat
  /-- R131: what moves Vs, its target in microvolts and its rate in 0.01 V/ms. Reset: none, 0 -/
  mover : Mover
  target : Nat
  rate : Nat
  /-- R132: the command parked in HOLDUP: target in 10 mV, rate, sequence. Reset: none -/
  parked : Option (Nat × Nat × Nat)
  /-- R58: the TADPOLE reference has been set. Reset: false -/
  refSet : Bool
  /-- R134: sum and count of the tick's samples of the regulation point, and its last tick average, in mV. Reset: 0 -/
  rpAcc : Rat
  rpN : Nat
  rpTick : Rat
  /-- R134: RUN has been entered since VDD power-on. Reset: false -/
  runSeen : Bool
  /-- R146: the tracker has had its first result since RUN entry; RUN was entered within this cycle. Reset: false -/
  trkDone : Bool
  cycIn : Bool
  /-- R147: WHL_CYC at the last acceptance of each WARN class. Reset: none -/
  arm : Vector (Option Nat) 4
  /-- R147: I_L, in mA. Reset: 0 -/
  iLoad : Rat
  /-- R147: sums of the cycle under way: string discharge in mA over ticks. Reset: 0 -/
  dAcc : Rat
  dN : Nat
  /-- R150: a chosen voltage that begins its slew at the quadrant point. Reset: none -/
  vPend : Option Nat
  /-- R87: counts entries of phases to states, for the order of joining. Reset: 0 -/
  rank : Nat
deriving DecidableEq, Repr

/-- A WARN input (R158-R161). -/
structure WarnSt where
  /-- R160: falling edge of the last accepted pulse. Reset: none -/
  fall : Option Nat
  /-- R159, R160: instants of the last events 0x2140 and 0x2142. Reset: none -/
  badAt : Option Nat
  rateAt : Option Nat
  /-- R161: falling edge that began the stuck interval. Reset: 0 -/
  stuckAt : Nat
deriving DecidableEq, Repr

/-- A WARN class's feed-forward (R165). -/
structure FfSt where
  /-- R165: the envelope e_c, 0 to 4. Reset: 0 -/
  env : Rat
  /-- R165: instant at which the hold started; none where none runs. Reset: none -/
  hold : Option Nat
  /-- R165: acceptances whose injection waits out STP_FFDLY. Reset: none -/
  wait : List Nat
deriving DecidableEq, Repr

/-- A sag episode of a string (R170): its first and last catching samples, its sum in microamp-seconds, its peak in mA. -/
structure SagEp where
  first : Nat
  last : Nat
  sum : Rat
  peak : Rat
deriving DecidableEq, Repr

/-- Step handling (R158-R171). -/
structure StepSt where
  /-- R158: the 16 inputs. Reset: idle -/
  warn : Vector WarnSt 16
  /-- R165: the 4 classes. Reset: envelope 0 -/
  ff : Vector FfSt 4
  /-- R170: the open episode of each string. Reset: none -/
  sag : Vector (Option SagEp) 8
  /-- R169: instant of the last catching sample on any string; strings catching at their last sample. Reset: none, 0 -/
  sagAt : Option Nat
  catching : Nat
  /-- R171: instant of the last event 0x1161, and whether it was raised in the sag episode under way. Reset: none, false -/
  deepAt : Option Nat
  deepTold : Bool
deriving DecidableEq, Repr

/-- A temperature sensor (R287-R291). Index 0-3 die, 4-19 TX, 20-51 BT. -/
structure SenSt where
  /-- R288: the value of the last evaluation, in 0.0625 degC, and its raw code. Reset: 0 -/
  temp : Int
  raw : Nat
  /-- R73: the sensor has been evaluated since VDD power-on. Reset: false -/
  seen : Bool
  /-- R291: consecutive evaluations open, short, with an unchanged code. Reset: 0 -/
  openN : Nat
  shortN : Nat
  stuckN : Nat
  /-- R291: instant since which a die sensor has been more than 10 degC from the median of the others. Reset: none -/
  disAt : Option Nat
  /-- R291: instant since which a broken sensor has passed every test. Reset: none -/
  okAt : Option Nat
  /-- R290: instant since which the value has been more than 6 degC from every limit. Reset: none -/
  farAt : Option Nat
  /-- R296: consecutive evaluations at or above SHUT. Reset: 0 -/
  shutN : Nat
  /-- R294: the value is above WARN, above HOT. Reset: false -/
  warm : Bool
  hot : Bool
  /-- R287: sum and count of the string samples since the last evaluation (BT). Reset: 0 -/
  sum : Nat
  cnt : Nat
deriving DecidableEq, Repr

/-- Thermal management over the chip (R292-R295). -/
structure ThmSt where
  /-- R292: the median of the valid die sensors, the last value that had at least two. Reset: 0 -/
  comp : Int
  /-- R295: event 0x4121 has been raised in this episode. Reset: false -/
  throttled : Bool
  /-- R294: a sensor with DER = 1 has been above WARN and event 0x4102 is owed. Reset: false -/
  warmed : Bool
deriving DecidableEq, Repr

/-- A battery string and its charge stage (R221-R239). -/
structure StrSt where
  /-- R221: the level of BPRESs, and the instant the debounce began. Reset: low, none -/
  pres : Bool
  debAt : Option Nat
  /-- R221: instant at which step 2 began; its sum and count of BV in mV. Reset: none, 0 -/
  chkAt : Option Nat
  chkSum : Rat
  chkN : Nat
  /-- R358: sums of the samples of the sharing tick under way, BV in mV and BI in mA. Reset: 0 -/
  tvAcc : Rat
  tiAcc : Rat
  tN : Nat
  /-- R221: the string waits for its switch in step 3. Reset: false -/
  ramping : Bool
  /-- R222: admitted by the built-in form and not yet checked against an image. Reset: false -/
  builtin : Bool
  /-- R240: a host STOP is in force. Reset: false -/
  stopped : Bool
  /-- R225: instant since which BOKs has been high; none while it is low. Reset: none -/
  bokAt : Option Nat
  /-- R231: instant from which charging is eligible; none while nothing makes it so. Reset: none -/
  eligAt : Option Nat
  /-- R236: the string's switch tripped and power-good has not returned. Reset: false -/
  tripped : Bool
  /-- R229: the ratio M and the integrators of its current and voltage loops. Reset: 0 -/
  m : Rat
  intI : Rat
  intV : Rat
  /-- R229: Vs at the last sample, in microvolts. Reset: 0 -/
  vsPrev : Nat
  /-- R229, R230: Iset in force and its target, in mA. Reset: 0 -/
  iset : Rat
  target : Rat
  /-- R235: instant since which the voltage loop has been selected. Reset: none -/
  cvAt : Option Nat
  /-- R232, R236: the phase remembered by TEMPWAIT. Reset: none -/
  phase : Option Nat
  /-- R232: instant of entry to the phase, and its time already run before that, in edge units. Reset: 0 -/
  phAt : Nat
  phRun : Nat
  /-- R234, R239: the duration of this TOPOFF, in edge units. Reset: 0 -/
  topoff : Nat
  /-- R236: instant since which the temperature has been inside the window in TEMPWAIT. Reset: none -/
  coolAt : Option Nat
  /-- R237: instant of the 1 s window under way, its sums and count, Iset at its start, and whether it is clean so far. Reset: 0 -/
  winAt : Nat
  bvSum : Rat
  biSum : Rat
  tSum : Int
  winN : Nat
  winIset : Rat
  winClean : Bool
  /-- R236: 1 s means: BI in mA, BV in mV. Reset: 0 -/
  biAvg : Rat
  bvAvg : Rat
  /-- R237: the peak per cell in mV. Reset: none -/
  vpk : Option Rat
  /-- R238: the 1 s mean temperatures of the last 60 s, newest first, and slopes in a row that met BST_DTDT. Reset: none, 0 -/
  temps : List Rat
  dtN : Nat
  /-- R235: seconds in a row with BI at most C/20 in TOPOFF. Reset: 0 -/
  taperN : Nat
  /-- R233: the deficit, in mA s; what an open sag episode holds aside. Reset: 0 -/
  deficit : Rat
  defSide : Rat
  /-- R234: charge in FAST, in mA s. Reset: 0 -/
  qfast : Rat
  /-- R227: instant of the charge period under way, its length and fraction, in edge units. Reset: 0 -/
  perAt : Nat
  perLen : Nat
  frac : Nat
  /-- R227, R228: the instants of the period at which CHGAs falls and CHGBs rises, in edge units from its start. Reset: 0 -/
  aFall : Nat
  bRise : Nat
  /-- R218: the stage switches; false is the clamp state. Reset: false -/
  driving : Bool
  /-- R227: the current limit has truncated this period. Reset: false -/
  limited : Bool
deriving DecidableEq, Repr

/-- The estimator of a string (R245-R258). -/
structure EstSt where
  /-- R245: s and its half-width, fractions of the capacity. Reset: 0 -/
  soc : Rat
  u : Rat
  /-- R245: the capacity in mA s and its relative half-width. Reset: 0 -/
  ce : Rat
  uc : Rat
  /-- R248: charge booked and not yet taken by a run, and the side accumulator, in mA s. Reset: 0 -/
  acc : Rat
  side : Rat
  /-- R254: sum and count of BI since the last run, in mA. Reset: 0 -/
  biSum : Rat
  biN : Nat
  /-- R254: the last sample, BI in mA and BV in mV. Reset: none -/
  last : Option (Rat × Rat)
  /-- R254: voltages of the RC pairs, in mV. Reset: 0 -/
  vf : Rat
  vl : Rat
  /-- R254: the parameters in microohm, the reference resistance, and which limit episodes have been told. Reset: 0 -/
  rser : Rat
  rfast : Rat
  rslow : Rat
  rref : Rat
  told : Nat
  /-- R253: s and half-width of the last reference point; charge booked since, less self-discharge, in mA s. Reset: none, 0 -/
  ref : Option (Rat × Rat)
  refQ : Rat
  /-- R251, R253: an anchor, a PRECHARGE threshold crossing waits for the next run. Reset: false -/
  anchor : Bool
  lowRef : Bool
  /-- R251: the operating second and the temperature of the last anchor. Reset: none, 0 -/
  anchSec : Option Nat
  anchTemp : Int
  /-- R257: anchors taken and capacity learnings. Reset: 0 -/
  anchors : Nat
  learned : Nat
  /-- R257: lifetime discharged charge in mA s, and equivalent full cycles. Reset: 0 -/
  life : Rat
  cycles : Rat
  /-- R249: operating second and instant of the last run. Reset: 0 -/
  runSec : Nat
  runAt : Nat
  /-- R246: instant of the entry to WAIT. Reset: 0 -/
  waitAt : Nat
  /-- R252: instants since which |BI| has been below C/200, and of the last correction of the rest under way. Reset: none -/
  lowAt : Option Nat
  restAt : Option Nat
  /-- R255: E_low in Wh. Reset: 0 -/
  elow : Rat
  /-- R258: a learning event waits for its export at the end of the run; operating second of the last export. Reset: false, 0 -/
  export_ : Bool
  expSec : Nat
  /-- R259: the capsule that applies at the next run. Reset: none -/
  capsule : Option (List Nat)
deriving DecidableEq, Repr

/-- The estimator over the shelf (R256, R259-R261). -/
structure EstShelf where
  /-- R259: the staged bytes by offset. Reset: none -/
  staged : List (Nat × Nat)
  /-- R261: instant of the last staging write. Reset: none -/
  stagedAt : Option Nat
  /-- R256: instant since which every present string's |BI| has been below EST_WAKEI, and of the last PAGE write to 1C-1E. Reset: none, 0 -/
  quietAt : Option Nat
  pageAt : Nat
  /-- R73: RUN or HOLDUP has been entered since VDD power-on. Reset: false -/
  begun : Bool
deriving DecidableEq, Repr

/-- A feed (R199-R201). -/
structure FeedSt where
  /-- R201: consecutive failed crest checks. Reset: 0 -/
  crest : Nat
  /-- R202: instant of the last passing check. Reset: 0 -/
  passAt : Nat
  /-- R200: instant of the last positive-going crossing of ACx1, and whether the cycle it began counts (R201). Reset: none, false -/
  posAt : Option Nat
  counts : Bool
  /-- R201: every check of the cycle under way has passed. Reset: true -/
  cycOk : Bool
  /-- R199: measured crests of the last 4 counted wheel cycles, newest first, in microvolts at the pin; the cycle under way counts so far. Reset: none, false -/
  apk : List Nat
  apkOk : Bool
  /-- R209: consecutive crest checks passed in the ride-through window. Reset: 0 -/
  rt : Nat
  /-- R217: reason of the last loss. Reset: 0 -/
  why : Nat
deriving DecidableEq, Repr

/-- Hold-up (R202-R214). -/
structure HupSt where
  feedA : FeedSt
  feedB : FeedSt
  /-- R209: the wheel position (cycles times 65,536 plus angle) of the last declaration. Reset: none -/
  outTick : Option Nat
  /-- R215: instant of the entry to the present or last HOLDUP. Reset: 0 -/
  outAt : Nat
  /-- R212: instants of the transitions, newest first. Reset: none -/
  trans : List Nat
  /-- R212: instant at which the hold ends; none while no hold runs. Reset: none -/
  holdEnd : Option Nat
  /-- R207: event 0x1106 has been raised in this HOLDUP. Reset: false -/
  lowTold : Bool
  /-- R210: bays whose BAYEN is still to rise, and the instant of the next rise; the instant RESTART began. Reset: none, 0 -/
  waiting : List Nat
  nextAt : Nat
  rstAt : Nat
  rstTold : Bool
  /-- R211: instant HANDBACK began, and since which every string has been quiet. Reset: 0, none -/
  hbAt : Nat
  quietAt : Option Nat
  /-- R215: string energy of the HOLDUP, in mW s. Reset: 0 -/
  energy : Rat
  /-- R210: the last tick average of I_L, in mA. Reset: 0 -/
  iTick : Rat
deriving DecidableEq, Repr

/-- One telemetry window (R358, R359): the sums of the tick values so far, the ticks, the cycles, whether a cycle was skewed,
and the instant it began. -/
structure TlmWin where
  sums : List Rat
  ticks : Nat
  cycles : Nat
  skew : Bool
  since : Nat
deriving DecidableEq, Repr

/-- Telemetry (R358-R361). -/
structure TlmSt where
  /-- R358: sums of the samples of the tick under way: shelf current in mA, shelf power, P_out of R185 and charge power in
  microwatts, and their number. Reset: 0 -/
  iAcc : Rat
  pAcc : Rat
  oAcc : Rat
  cAcc : Rat
  n : Nat
  /-- R358: the tick, cycle, 1 s and 60 s windows. Reset: empty -/
  win : Vector TlmWin 4
deriving DecidableEq, Repr

/-- A contract (R176-R184): what stands behind page 19. -/
structure CtSt where
  /-- R179: the origin a staged record brings: 1 IMAGE, 2 HOST, 3 SLED; none where nothing is staged. Reset: none -/
  staged : Option Nat
  /-- R182, R183: the grant in W, SHORT, HOLDUP, and WHL_CYC of the allocation. Reset: 0, false -/
  grant : Nat
  short : Bool
  hold : Bool
  cyc : Nat
  /-- R179: the contract has been allocated since it opened. Reset: false -/
  allocated : Bool
  /-- R184: the grant and state last acknowledged, and the cycles since. Reset: none, 0 -/
  said : Option (Nat × Nat)
  age : Nat
  /-- R180: the record of a close is still to be published. Reset: false -/
  closing : Bool
  /-- R184: a write has failed in this cycle. Reset: false -/
  failed : Bool
deriving DecidableEq, Repr

/-- Capping and pacing (R176-R192). -/
structure CapSt where
  /-- R176: the 128 contracts. Reset: FREE -/
  cts : Vector CtSt 128
  /-- R177: the contract whose grant is read back on port S. Reset: 0 -/
  readId : Nat
  /-- R184: the publication queue, and the instant of its step 7. Reset: empty, 0 -/
  queue : List Nat
  queueAt : Nat
  /-- R406: failed attempts at the queue's front in this pass; R407: arbitration losses of the write. Reset: 0 -/
  tries : Nat
  arb : Nat
  /-- R182: event 0x2160 has been raised in this episode. Reset: false -/
  shortTold : Bool
  /-- R185: averages of the last 64 ticks, newest first, in W; ticks in RUN or HOLDUP, at most 64. Reset: none, 0 -/
  ticks : List Rat
  run : Nat
  /-- R186, R187: consecutive ticks over the margin, below the relief threshold; ticks since a p_g changed, at most 64. Reset: 0 -/
  high : Nat
  low : Nat
  still : Nat
  /-- R186: event 0x2163 has been raised in this episode. Reset: false -/
  exhausted : Bool
  /-- R196: ticks since pacing began. Reset: 0 -/
  paced : Nat
  /-- R188: the groups whose PACE is asserted in the quantum under way. Reset: 0 -/
  pace : Nat
  /-- R181: P_chg in W, and its sum over the ticks of the cycle under way. Reset: 0 -/
  chg : Rat
  chgAcc : Rat
  chgN : Nat
  /-- R192: the mode of the last tick. Reset: 1 -/
  mode : Nat
  /-- R181: the bays counted in TRK_CAPI at its last publication. Reset: 0 -/
  counted : Nat
deriving DecidableEq, Repr

/-- The whole machine. -/
structure State where
  /-- Commands waiting, first in first out. Reset: empty -/
  pending : List Instr
  /-- The greatest instant seen, in edge units. Reset: 0 -/
  now : Nat
  /-- The model's own: how many free values have been taken. Reset: 0 (DESIGN CHOICE, assumption 10) -/
  free : Nat
  /-- Register cells: every field of the 54 pages (R448), the active copy. Reset: every field at its reset value -/
  regs : Cells
  /-- Shadow copies of the SHADOW fields (R10). Reset: every field at its reset value -/
  shad : Cells
  /-- R317: bit p: a write has reached the shadow copy of page p since its block's last commit. Reset: 0 -/
  touched : Nat
  core : CoreSt
  vka : Vka
  otp : Otp
  flash : Flash
  jrn : JrnSt
  log : LogSt
  ic : IcSt
  portH : Port
  portS : Port
  portD : Port
  sec : SecSt
  img : ImgSt
  wheel : WheelSt
  twin : TwinSt
  /-- R85: the 48 phase channels. Reset: all as at no history (R73) -/
  phases : Vector PhaseSt 48
  /-- R138: the 8 bays. Reset: ABSENT -/
  bays : Vector BaySt 8
  /-- R272: the 16 fuse channels. Reset: OFF -/
  fuses : Vector FuseSt 16
  sup : RegSt
  step : StepSt
  /-- R287: the 52 sensors. Reset: none evaluated -/
  sensors : Vector SenSt 52
  thm : ThmSt
  /-- R232: the 8 strings. Reset: ABSENT -/
  strs : Vector StrSt 8
  /-- R246: the 8 estimators. Reset: ABSENT -/
  ests : Vector EstSt 8
  est : EstShelf
  hup : HupSt
  tlm : TlmSt
  cap : CapSt
deriving DecidableEq, Repr

/-- Modes and start-up at reset. -/
def CoreSt.reset : CoreSt where
  powered := false
  porAt := 0
  modeAt := 0
  sup := .running
  heldEvents := []
  imgValidAt := none
  xtalSince := none
  tadReload := false
  toTadpole := none
  deferred := none
  loadNext := none
  load := none
  shipStep := 0
  sealAt := 0
  exited := false
  secAt := 0
  addr := 0
  firstRunAt := none

/-- The VKA domain after it lost its supply (R71). -/
def Vka.reset : Vka where
  note := List.replicate 64 0
  armed := false
  causes := 0
  gecko := false
  geckoSrc := 0
  geckoTemp := 0
  lost := false
  rcUpdates := 0

/-- The OTP as shipped. -/
def Otp.reset : Otp where
  lifecycle := 0
  keys := Vector.replicate 4 ⟨.empty, []⟩
  floors := []
  devId := 0

/-- An erased journal bank. -/
def Bank.erased : Bank where
  committed := false
  gen := 0
  blank := true
  next := 0x100
  recs := []

/-- An erased flash. -/
def Flash.reset : Flash where
  bd0 := none
  bd1 := none
  slotA := []
  slotB := []
  bank0 := Bank.erased
  bank1 := Bank.erased
  first := []
  roll := []
  snaps := []
  erases := []

/-- The journal's RAM at reset. -/
def JrnSt.reset : JrnSt where
  scanned := false
  counters := none
  trims := []
  verdicts := []
  pins := []
  logptr := none
  baysec := none
  wear := none
  seq := 0
  due := []
  compacting := none
  retryAt := none
  worn := false
  cntSec := 0
  hourSec := 0
  eOutRem := 0
  eStrRem := 0
  powerFail := false
  fclk := 0

/-- The recorder's RAM at reset. -/
def LogSt.reset : LogSt where
  queue := []
  last := none
  lastHi := none
  lostNext := false
  dropped := 0
  droppedSev := 0
  scanned := false
  batch := none
  flushReq := false
  clear := none
  firstFullRaised := false
  rollDropAt := none
  cap0 := none
  cap1 := none
  winRec := none
  fetchAt := none
  advance := false
  snWin := List.replicate 128 0xFF
  snFetchAt := none

/-- The interrupt controller at reset (R421). -/
def IcSt.reset : IcSt where
  src := Vector.replicate 128 .idle
  timer := Vector.replicate 16 none
  since := Vector.replicate 128 none
  overdue := Vector.replicate 128 false
  top := 0
  topAt := 0
  notify := false
  attempts := 0
  arb := 0

/-- A port at reset (R395). -/
def Port.reset : Port where
  page := 0
  ptr := 0
  open_ := false
  writing := false
  commit127 := none
  part := none
  buf := []
  bufBytes := 0
  late := []
  heldWrites := []
  bytes := []
  latches := []
  sent := []
  sincePec := 0
  abortAt := none
  strAt := none
  stuckAt := none
  backoff := none
  area := none

/-- The security block at reset. -/
def SecSt.reset : SecSt where
  nonce := none
  token := none
  verifying := none
  pattern := none
  tap := ⟨.reset, 0, 0, [], []⟩
  sel := []

/-- The image block's RAM at reset. -/
def ImgSt.reset : ImgSt where
  cfg := []
  inForce := none
  upSlot := false
  chunks := []
  chunkNow := none
  staged := none
  probCount := 0
  staticAt := none
  staticLast := []
  revertFrom := none

/-- The wheel at reset (R34). -/
def WheelSt.reset : WheelSt where
  idx := 0
  ptAt := 0
  running := false
  acqAt := 0
  acqFreq := 0
  locked := []
  cycN := 0
  cycSum := 0
  lastLocked := 5000
  flyAt := 0
  bofsAt := none
  skewed := false
  ofsRem := 0
  c0 := 0
  due := []
  gathered := 0

/-- The twin block at reset. -/
def TwinSt.reset : TwinSt where
  actOut := false
  actIn := false
  contest := none
  gapSince := none
  yieldAt := none
  dualAt := none
  txSeq := 0
  rxSeq := 0
  rxAt := none
  partner := none
  missing := 0
  missAt := none
  sentAt := none
  own := []
  mism := 0
  held := false
  maxDiff := 0
  digCh := none
  katAsked := false
  katOwn := none
  katPartner := none
  katFail := 0
  injBad := []
  eccAt := none
  padAt := none
  fitSince := none
  unfit := false
  synced := false
  decisions := []
  sendQ := []
  recSeq := 0
  t0 := none
  linkFault := false
  healthAt := none
  back := false
  swReq := false
  reqSeq := 0
  near := false
  resume := []
  capBuf := []

/-- A phase at reset. -/
def PhaseSt.reset : PhaseSt where
  cur := 0
  rank := 0
  newN := 0
  newSum := 0
  avg := 0
  rail := 0
  bal := 0
  ofs := 0
  want := 0
  ton := 0
  clamp := false
  condAcc := 0
  discard := false
  trimAt := none
  first := false

/-- A lane at reset. -/
def Lane.reset : Lane where
  integ := 0
  d := 0
  ePrev := 0
  x1 := 0
  y1 := 0
  x2 := 0
  y2 := 0
  nx1 := 0
  nx2 := 0
  ny1 := 0
  ny2 := 0
  next := none
  builtin := true
  down := none
  satAt := none
  satTold := false
  vlTold := false
  trigAt := none
  joinAt := 0
  feOk := none
  now := 0
  eRaw := 0

/-- A bay at reset. -/
def BaySt.reset : BaySt where
  pres := false
  ok := false
  ej := false
  accepted := false
  debAt := none
  lostAt := none
  okFrom := none
  enLow := false
  insAt := 0
  pendTrk := false
  pendEj := false
  leaveEj := false
  w := 0
  w0 := 0
  zeroAt := none
  c := 0
  t := 0
  rdrop := 0
  hist := []
  sumAt := 0
  sum := 0
  sumAt0 := 0
  sum0 := 0
  iAcc := 0
  iN := 0
  vAcc := 0
  vN := 0
  pAcc := 0
  iTick := 0
  vTick := 0
  cAcc := 0
  cN := 0
  iCyc := 0
  nMoved := false
  perAt := 0
  perLen := 0
  frac := 0
  perCnt := 0
  trigCode := 0
  ramp := none
  abandon := none
  dwellAt := none
  ebArm := true
  ebBad := false
  trimN := 0
  dropTold := false
  sbyAt := 0
  svcAt := 0
  secAcc := 0
  strip := false
  feFault := false
  released := false
  lane := Lane.reset

/-- A fuse channel at reset. -/
def FuseSt.reset : FuseSt where
  want := false
  reqAt := 0
  stAt := 0
  acc := 0
  why := .owner
  disable := false
  winBad := 0
  winV := 0
  winAt := 0
  goodAt := none
  lapseAt := none
  fgsAt := none
  vswAt := none
  vdsAt := none
  retries := []
  openAt := 0
  breaker := false
  pLast := 0
  gone := false

/-- Regulation over the shelf at reset. -/
def RegSt.reset : RegSt where
  vs := 0
  mover := .none
  target := 0
  rate := 0
  parked := none
  refSet := false
  rpAcc := 0
  rpN := 0
  rpTick := 0
  runSeen := false
  trkDone := false
  cycIn := false
  arm := Vector.replicate 4 none
  iLoad := 0
  dAcc := 0
  dN := 0
  vPend := none
  rank := 0

/-- Step handling at reset. -/
def StepSt.reset : StepSt where
  warn := Vector.replicate 16 ⟨none, none, none, 0⟩
  ff := Vector.replicate 4 ⟨0, none, []⟩
  sag := Vector.replicate 8 none
  sagAt := none
  catching := 0
  deepAt := none
  deepTold := false

/-- A sensor that has not been evaluated. -/
def SenSt.reset : SenSt where
  temp := 0
  raw := 0
  seen := false
  openN := 0
  shortN := 0
  stuckN := 0
  disAt := none
  okAt := none
  farAt := none
  shutN := 0
  warm := false
  hot := false
  sum := 0
  cnt := 0

/-- Thermal management at reset. -/
def ThmSt.reset : ThmSt where
  comp := 0
  throttled := false
  warmed := false

/-- A string at reset. -/
def StrSt.reset : StrSt where
  pres := false
  debAt := none
  chkAt := none
  chkSum := 0
  chkN := 0
  tvAcc := 0
  tiAcc := 0
  tN := 0
  ramping := false
  builtin := false
  stopped := false
  bokAt := none
  eligAt := none
  tripped := false
  m := 0
  intI := 0
  intV := 0
  vsPrev := 0
  iset := 0
  target := 0
  cvAt := none
  phase := none
  phAt := 0
  phRun := 0
  topoff := 0
  coolAt := none
  winAt := 0
  bvSum := 0
  biSum := 0
  tSum := 0
  winN := 0
  winIset := 0
  winClean := true
  biAvg := 0
  bvAvg := 0
  vpk := none
  temps := []
  dtN := 0
  taperN := 0
  deficit := 0
  defSide := 0
  qfast := 0
  perAt := 0
  perLen := 0
  frac := 0
  aFall := 0
  bRise := 0
  driving := false
  limited := false

/-- An estimator with no history (R73). -/
def EstSt.reset : EstSt where
  soc := 0
  u := 0
  ce := 0
  uc := 0
  acc := 0
  side := 0
  biSum := 0
  biN := 0
  last := none
  vf := 0
  vl := 0
  rser := 0
  rfast := 0
  rslow := 0
  rref := 0
  told := 0
  ref := none
  refQ := 0
  anchor := false
  lowRef := false
  anchSec := none
  anchTemp := 0
  anchors := 0
  learned := 0
  life := 0
  cycles := 0
  runSec := 0
  runAt := 0
  waitAt := 0
  lowAt := none
  restAt := none
  elow := 0
  export_ := false
  expSec := 0
  capsule := none

/-- The estimator over the shelf at reset. -/
def EstShelf.reset : EstShelf where
  staged := []
  stagedAt := none
  quietAt := none
  pageAt := 0
  begun := false

/-- A feed at reset. -/
def FeedSt.reset : FeedSt where
  crest := 0
  passAt := 0
  posAt := none
  counts := false
  cycOk := true
  apk := []
  apkOk := false
  rt := 0
  why := 0

/-- Hold-up at reset. -/
def HupSt.reset : HupSt where
  feedA := FeedSt.reset
  feedB := FeedSt.reset
  outTick := none
  outAt := 0
  trans := []
  holdEnd := none
  lowTold := false
  waiting := []
  nextAt := 0
  rstAt := 0
  rstTold := false
  hbAt := 0
  quietAt := none
  energy := 0
  iTick := 0

/-- A telemetry window at reset. -/
def TlmWin.reset : TlmWin where
  sums := []
  ticks := 0
  cycles := 0
  skew := false
  since := 0

/-- Telemetry at reset. -/
def TlmSt.reset : TlmSt where
  iAcc := 0
  pAcc := 0
  oAcc := 0
  cAcc := 0
  n := 0
  win := Vector.replicate 4 TlmWin.reset

/-- A FREE contract. -/
def CtSt.reset : CtSt where
  staged := none
  grant := 0
  short := false
  hold := false
  cyc := 0
  allocated := false
  said := none
  age := 0
  closing := false
  failed := false

/-- Capping at reset. -/
def CapSt.reset : CapSt where
  cts := Vector.replicate 128 CtSt.reset
  readId := 0
  queue := []
  queueAt := 0
  tries := 0
  arb := 0
  shortTold := false
  ticks := []
  run := 0
  high := 0
  low := 0
  still := 64
  exhausted := false
  paced := 0
  pace := 0
  chg := 0
  chgAcc := 0
  chgN := 0
  mode := 1
  counted := 0


/-- The machine with the VDD power-on reset asserted: every register at the value of its Reset column (R8). -/
def State.reset : State where
  pending := []
  now := 0
  free := 0
  regs := []
  shad := []
  touched := 0
  core := CoreSt.reset
  vka := Vka.reset
  otp := Otp.reset
  flash := Flash.reset
  jrn := JrnSt.reset
  log := LogSt.reset
  ic := IcSt.reset
  portH := Port.reset
  portS := Port.reset
  portD := Port.reset
  sec := SecSt.reset
  img := ImgSt.reset
  wheel := WheelSt.reset
  twin := TwinSt.reset
  phases := Vector.replicate 48 PhaseSt.reset
  bays := Vector.replicate 8 BaySt.reset
  fuses := Vector.replicate 16 FuseSt.reset
  sup := RegSt.reset
  step := StepSt.reset
  sensors := Vector.replicate 52 SenSt.reset
  thm := ThmSt.reset
  strs := Vector.replicate 8 StrSt.reset
  ests := Vector.replicate 8 EstSt.reset
  est := EstShelf.reset
  hup := HupSt.reset
  tlm := TlmSt.reset
  cap := CapSt.reset

end Sys2Proof.Machine
end

