-- ==== Sys2Proof/Machine/Ops.lean ====
section
/-! DEFINITION. The named operations every meaning uses: reading and writing registers, raising flags, counters that
saturate, the clock, the wheel angle of this instant, and the result of a command. -/

namespace Sys2Proof.Machine

/-- The register `f` (instance 0). -/
def State.reg (s : State) (f : Field) : Nat := fieldGet s.regs f 0

/-- Instance `i` of the register `f`. -/
def State.regAt (s : State) (f : Field) (i : Nat) : Nat := fieldGet s.regs f i

/-- A signed register. -/
def State.sreg (s : State) (f : Field) : Int := toInt f.width (s.reg f)

/-- Instance `i` of a signed register. -/
def State.sregAt (s : State) (f : Field) (i : Nat) : Int := toInt f.width (s.regAt f i)

/-- A register that is not 0. -/
def State.isSet (s : State) (f : Field) : Bool := s.reg f != 0

/-- Write a register; bits beyond its width are dropped. -/
def State.put (s : State) (f : Field) (v : Nat) : State := { s with regs := fieldPut s.regs f 0 v }

/-- Write instance `i` of a register. -/
def State.putAt (s : State) (f : Field) (i v : Nat) : State := { s with regs := fieldPut s.regs f i v }

/-- Write a register from a condition. -/
def State.putB (s : State) (f : Field) (b : Bool) : State := s.put f (if b then 1 else 0)

/-- Write instance `i` of a register from a condition. -/
def State.putAtB (s : State) (f : Field) (i : Nat) (b : Bool) : State := s.putAt f i (if b then 1 else 0)

/-- Write a signed register, saturating at its range. -/
def State.sput (s : State) (f : Field) (v : Int) : State := s.put f (satInt f.width v)

/-- Write instance `i` of a signed register, saturating at its range. -/
def State.sputAt (s : State) (f : Field) (i : Nat) (v : Int) : State := s.putAt f i (satInt f.width v)

/-- Write an unsigned result, saturating at the field's range. -/
def State.putSat (s : State) (f : Field) (v : Nat) : State := s.put f (satNat f.width v)

/-- Write an unsigned result to instance `i`, saturating at the field's range. -/
def State.putAtSat (s : State) (f : Field) (i v : Nat) : State := s.putAt f i (satNat f.width v)

/-- Set a one-bit flag. -/
def State.flag (s : State) (f : Field) : State := s.put f 1

/-- Set or clear bit `k` of a register. -/
def State.putBit (s : State) (f : Field) (k : Nat) (b : Bool) : State := s.put f (setBit (s.reg f) k b)

/-- Count one in a counter that saturates. -/
def State.bump (s : State) (f : Field) : State := s.put f (satNat f.width (s.reg f + 1))

/-- Count one in instance `i` of a counter that saturates. -/
def State.bumpAt (s : State) (f : Field) (i : Nat) : State := s.putAt f i (satNat f.width (s.regAt f i + 1))

/-- Add to a counter that saturates. -/
def State.addTo (s : State) (f : Field) (n : Nat) : State := s.put f (satNat f.width (s.reg f + n))

/-- The shadow copy of instance `i` of a SHADOW field (R10). -/
def State.shadAt (s : State) (f : Field) (i : Nat) : Nat := fieldGet s.shad f i

/-- Write the shadow copy of instance `i` of a SHADOW field. -/
def State.putShad (s : State) (f : Field) (i v : Nat) : State := { s with shad := fieldPut s.shad f i v }

/-- R317: a write has reached the shadow copy of a page. -/
def State.touch (s : State) (page : Nat) : State := { s with touched := setBit s.touched page true }

/-- R317: a block's commit boundary: `f` commits it where a write has reached one of its pages since the last one. -/
def State.boundary (s : State) (pages : List Nat) (f : State → State) : State :=
  if pages.any (fun p => bitOf s.touched p) then
    f { s with touched := pages.foldl (fun v p => setBit v p false) s.touched }
  else s

/-- Write both copies. -/
def State.putBoth (s : State) (f : Field) (i v : Nat) : State := (s.putAt f i v).putShad f i v

/-- Every instance of `f` copied from one store to another. -/
def copyInsts (f : Field) (src dst : Cells) : Nat → Cells
  | 0 => dst
  | n + 1 => fieldPut (copyInsts f src dst n) f n (fieldGet src f n)

/-- The SHADOW fields of the given fields copied from one store to another. -/
def copyFields (src dst : Cells) : List Field → Cells
  | [] => dst
  | f :: fs =>
    copyFields src (if f.cls = .shadow then copyInsts f src dst f.insts else dst) fs

/-- The instant of a command: time never runs backwards. -/
def State.at (s : State) (t : Edges) : State := { s with now := max s.now t }

/-- A fresh free value, and the state in which it is taken. -/
def State.takeFree (s : State) : Nat × State := (Config.freeValue s.free, { s with free := s.free + 1 })

/-- A rational result as a whole number of units; the direction of a rounding no rule states is a free value. -/
def toUnit (q : Rat) : Int :=
  if q.den = 1 then q.num else if Config.roundsUp q then q.ceil else q.floor

/-- As `toUnit`, for a quantity that is never negative. -/
def toUnitNat (q : Rat) : Nat := (toUnit q).toNat

/-- Ticks the wheel has advanced since its last sharing-tick point; it stays below the next one (R33). -/
def State.ticksSince (s : State) : Nat :=
  min 1023 ((s.now - s.wheel.ptAt) * s.reg Reg.WHL_FREQ * 65536 / (100 * edgeSec))

/-- The wheel angle now (R31). -/
def State.angle (s : State) : Nat := if s.wheel.running then 1024 * s.wheel.idx + s.ticksSince else 0

/-- Milliseconds since an instant. -/
def State.msSince (s : State) (t : Nat) : Nat := (s.now - t) / edgeMs

/-- GL_MODE codes (R74). -/
def modeShip : Nat := 0
def modeTadpole : Nat := 1
def modeRun : Nat := 2
def modeHoldup : Nat := 3
def modeShadow : Nat := 4
def modeLockout : Nat := 5

/-- The mode. -/
def State.mode (s : State) : Nat := s.reg Reg.GL_MODE

/-- This chip owns the outputs. -/
def State.owner (s : State) : Bool := s.isSet Reg.GL_STAT_OWNER

/-- An image has come into force since VDD power-on. -/
def State.imgValid (s : State) : Bool := s.isSet Reg.GL_STAT_IMGVALID

/-- The first mode has been chosen (step 6 of R53). -/
def State.booted (s : State) : Bool := s.core.powered && decide (3 ≤ s.reg Reg.GL_BOOT_STEP)

/-- The supervisor is running (R65, R442). -/
def State.supUp (s : State) : Bool := decide (s.core.sup = .running)

/-- Nominal frequency in whole hertz, N1 of R358. -/
def State.n1 (s : State) : Nat := (s.reg Reg.WHL_FNOM + 50) / 100

/-- Whether any of the flag fields is set. -/
def State.anyFlag (s : State) (fs : List Field) : Bool := fs.any (fun f => s.isSet f)

/-- CRC-16/CCITT of R345 over one byte. -/
def crc16Byte (crc b : Nat) : Nat :=
  let step := fun c => if bitOf c 15 then ((c * 2) % 65536) ^^^ 0x1021 else (c * 2) % 65536
  step (step (step (step (step (step (step (step (crc ^^^ (b * 256)))))))))

/-- CRC-16/CCITT: polynomial 0x1021, initial value 0xFFFF, no reflection, no final XOR (R345). -/
def crc16 (bs : List Nat) : Nat := bs.foldl crc16Byte 0xFFFF

/-- CRC-32 over one byte: the reflected polynomial 0xEDB88320 (R257). -/
def crc32Byte (crc b : Nat) : Nat :=
  let step := fun c => if bitOf c 0 then (c / 2) ^^^ 0xEDB88320 else c / 2
  step (step (step (step (step (step (step (step (crc ^^^ b))))))))

/-- CRC-32 with initial value and final XOR 0xFFFFFFFF (R257). -/
def crc32 (bs : List Nat) : Nat := (bs.foldl crc32Byte 0xFFFFFFFF) ^^^ 0xFFFFFFFF

/-- CRC-8 over one byte: polynomial 0x07 (R402). -/
def crc8Byte (crc b : Nat) : Nat :=
  let step := fun c => if bitOf c 7 then ((c * 2) % 256) ^^^ 0x07 else (c * 2) % 256
  step (step (step (step (step (step (step (step (crc ^^^ b))))))))

/-- The PEC: CRC-8, polynomial 0x07, initial value 0, unreflected (R402). -/
def crc8 (bs : List Nat) : Nat := bs.foldl crc8Byte 0

/-- The `n` little-endian bytes of a value, as numbers (R5). -/
def natBytes : Nat → Nat → List Nat
  | 0, _ => []
  | n + 1, v => v % 256 :: natBytes n (v / 256)

/-- The value of little-endian bytes given as numbers (R5). -/
def natOfBytes : List Nat → Nat
  | [] => 0
  | b :: bs => b + 256 * natOfBytes bs

end Sys2Proof.Machine
end

