-- ==== Sys2Proof/Machine/Recorder.lean ====
section
/-! DEFINITION. The event recorder's hardware: the record, the RAM queue, the triggers of flushes and snapshots
(R345-R348, R354). Raising an event with all its consequences is in Machine/Raise.lean. -/

namespace Sys2Proof.Machine

/-- The 30 bytes of a record before its CRC (R345). -/
def EventRec.body (r : EventRec) : List Nat :=
  natBytes 2 r.code ++
  [r.sev + (if r.epoch then 8 else 0) + (if r.lost then 16 else 0) + (if r.held then 32 else 0) +
    (if r.standby then 64 else 0), r.unit] ++
  natBytes 4 r.opsec ++ natBytes 4 r.pcc ++ natBytes 4 r.p0 ++ natBytes 4 r.p1 ++ natBytes 4 r.p2 ++
  natBytes 4 r.p3 ++ natBytes 2 r.seq

/-- The 32 bytes of a record (R345). -/
def EventRec.bytes (r : EventRec) : List Nat := r.body ++ natBytes 2 (crc16 r.body)

/-- The oldest queued record whose severity is no higher than `sev` is taken out; none where there is none (R348). -/
def displace (sev : Nat) : List EventRec → Option (EventRec × List EventRec)
  | [] => none
  | r :: q =>
    if r.sev ≤ sev then some (r, q)
    else match displace sev q with
      | none => none
      | some (d, q') => some (d, r :: q')

/-- A record was dropped or displaced (R348). -/
def State.noteDrop (s : State) (sev : Nat) : State :=
  let s := (s.bump Reg.REC_QDROP).flag Reg.REC_FLAGS_QDROP
  { s with log.lostNext := true, log.dropped := s.log.dropped + 1, log.droppedSev := max s.log.droppedSev sev }

/-- The record enters the queue, carrying LOST where records were dropped before it (R348). -/
def State.pushRec (s : State) (r : EventRec) : State :=
  { s with log.queue := s.log.queue ++ [{ r with lost := s.log.lostNext }], log.lostNext := false }

/-- R348: a record raised into a full queue displaces the oldest record whose severity is no higher, or is dropped. -/
def State.enqueue (s : State) (r : EventRec) : State :=
  if s.log.queue.length < 64 then s.pushRec r
  else match displace r.sev s.log.queue with
    | none => s.noteDrop r.sev
    | some (d, q) => ({ s with log.queue := q }.noteDrop d.sev).pushRec r

/-- R347: a batch begins when one is asked for and the flash can take it: discovered, scanned, no clear running and no
supervisor stop. The batch writes the records queued so far. -/
def State.flushKick (s : State) : State :=
  if s.log.flushReq && s.log.scanned && s.log.batch.isNone && s.log.clear.isNone && s.supUp
      && !s.isSet Reg.JRN_STAT_NOFLASH && !s.log.queue.isEmpty then
    { s with log.flushReq := false, log.batch := some (s.reg Reg.REC_LASTSEQ) }.put Reg.REC_STAT_FLUSHING 1
  else s

/-- R347: the triggers of a flush a raise can meet. -/
def State.flushTrigger (s : State) (sev : Nat) : State :=
  if 5 ≤ sev || s.reg Reg.REC_FILLTH ≤ s.log.queue.length then { s with log.flushReq := true }.flushKick else s

/-- R345, R348, R455: one record is raised with its sequence, its counts and its place in the queue. -/
def State.record (s : State) (code sev unit p0 p1 p2 p3 : Nat) : State :=
  let seq := s.reg Reg.REC_LASTSEQ + 1
  let r : EventRec :=
    { code := code, sev := sev, unit := unit, epoch := seq == 1, lost := false, held := false, standby := !s.owner,
      opsec := s.reg Reg.JRN_OPSEC, pcc := s.reg Reg.JRN_PCC, p0 := p0 % 2 ^ 32, p1 := p1 % 2 ^ 32, p2 := p2 % 2 ^ 32,
      p3 := p3 % 2 ^ 32, seq := seq, tm := s.now }
  let s := (s.put Reg.REC_LASTSEQ seq).bumpAt Reg.REC_SEVCNT sev
  let s := (s.put Reg.REC_MAXSEV_SEV (max (s.reg Reg.REC_MAXSEV_SEV) sev)).put Reg.REC_MAXSEV_ANY 1
  let s := { s with log.last := some r, log.lastHi := if 5 ≤ sev then some r else s.log.lastHi }
  (s.enqueue r).flushTrigger sev

/-- The channel codes of a capture set: the fault set, or the manual set (R354, R357); 0xFF is unused. -/
def State.snapChannels (s : State) (manual : Bool) : List Nat :=
  (List.range 8).map (fun i => s.regAt (if manual then Reg.REC_SNCH_M else Reg.REC_SNCH_F) i)

/-- A capture of the given set is under way (R354). -/
def capturing (c : Option Capture) (manual : Bool) : Bool :=
  match c with
  | none => false
  | some c => !c.done && c.manual == manual

/-- R354: one more trigger folded into a capture. -/
def Capture.fold (c : Capture) : Capture := { c with snap := { c.snap with folded := c.snap.folded + 1 } }

/-- R354, R356: the header a trigger makes. -/
def State.snapHeader (s : State) (manual : Bool) (seq code sev kind p0 : Nat) : Snap :=
  { seq := seq, code := code, sev := sev, kind := kind, opsec := s.reg Reg.JRN_OPSEC, pcc := s.reg Reg.JRN_PCC,
    angle := s.angle, cyc := s.reg Reg.WHL_CYC, per := s.reg Reg.REC_SNPER, chans := s.snapChannels manual,
    ver := s.reg Reg.IMG_VER, folded := 0, param0 := p0, pages := [], samples := [] }

/-- R354: a dropped snapshot. Its own event triggers no further snapshot. -/
def State.snapDropped (s : State) (code : Nat) : State :=
  let s := (s.bump Reg.REC_SNDROP).flag Reg.REC_FLAGS_SNDROP
  s.record 0x7056 3 0x10 code (s.reg Reg.REC_SNDROP) s.angle (s.reg Reg.WHL_CYC)

/-- R354: a trigger begins a capture, is folded into the capture of its set that is under way, or is dropped when both
buffers hold captures. A set with no channel in use takes none. -/
def State.snapTrigger (s : State) (manual : Bool) (seq code sev kind p0 : Nat) : State :=
  if (s.snapChannels manual).all (fun c => c == 0xFF) then s
  else if capturing s.log.cap0 manual then { s with log.cap0 := s.log.cap0.map Capture.fold }
  else if capturing s.log.cap1 manual then { s with log.cap1 := s.log.cap1.map Capture.fold }
  else
    let c : Capture := ⟨manual, s.now, false, s.snapHeader manual seq code sev kind p0⟩
    if s.log.cap0.isNone then { s with log.cap0 := some c }.put Reg.REC_STAT_SNBUSY 1
    else if s.log.cap1.isNone then { s with log.cap1 := some c }.put Reg.REC_STAT_SNBUSY 1
    else s.snapDropped code

/-- R345, R354: a record, and the snapshot its severity triggers. -/
def State.recordEvent (s : State) (code sev unit p0 p1 p2 p3 : Nat) : State :=
  let s := s.record code sev unit p0 p1 p2 p3
  if s.reg Reg.REC_SNSEV ≠ 0 ∧ s.reg Reg.REC_SNSEV ≤ sev then s.snapTrigger false (s.reg Reg.REC_LASTSEQ) code sev 0 p0
  else s

end Sys2Proof.Machine
end

