-- ==== Sys2Proof/Machine/JournalOps.lean ====
section
/-! DEFINITION. The journal: appending a record, its RAM mirror, compaction's start, and the count of erases (R333-R341). -/

namespace Sys2Proof.Machine

/-- Length of a record in bytes (R335). -/
def JPayload.len : JPayload → Nat
  | .counters .. => 36
  | .trim _ => 20
  | .probation _ => 24
  | .pin _ => 24
  | .unpin .. => 16
  | .logptr _ => 32
  | .baysec _ => 44
  | .wear .. => 28

/-- The value in force after one more record (R335, R336): trims per channel, verdicts per version, pins per field. -/
def JrnSt.absorb (j : JrnSt) : JPayload → JrnSt
  | .counters a b c d => { j with counters := some (a, b, c, d) }
  | .trim t => { j with trims := t :: j.trims.filter (fun u => u.ch ≠ t.ch) }
  | .probation v => { j with verdicts := v :: j.verdicts.filter (fun u => u.ver ≠ v.ver) }
  | .pin p => { j with pins := j.pins.filter (fun u => ¬(u.page = p.page ∧ u.off = p.off)) ++ [p] }
  | .unpin page off =>
    if page = 0xFF ∧ off = 0xFF then { j with pins := [] }
    else { j with pins := j.pins.filter (fun u => ¬(u.page = page ∧ u.off = off)) }
  | .logptr l => { j with logptr := some l }
  | .baysec v => { j with baysec := some v }
  | .wear a b c d => { j with wear := some (a, b, c, d) }

/-- One record per value in force, in the order of R335's table (step 3 of R337). -/
def JrnSt.values (j : JrnSt) : List JPayload :=
  (match j.counters with | none => [] | some (a, b, c, d) => [.counters a b c d]) ++
  j.trims.map .trim ++ j.verdicts.map .probation ++ j.pins.map .pin ++
  (match j.logptr with | none => [] | some l => [.logptr l]) ++
  (match j.baysec with | none => [] | some v => [.baysec v]) ++
  (match j.wear with | none => [] | some (a, b, c, d) => [.wear a b c d])

/-- Where a record of `len` bytes goes: a record never crosses a 256-byte page (R334). -/
def placeRec (next len : Nat) : Nat := if next % 256 + len ≤ 256 then next else (next / 256 + 1) * 256

/-- A record appended to a bank (R334). -/
def Bank.append (b : Bank) (seq : Nat) (p : JPayload) : Bank :=
  let o := placeRec b.next p.len
  { b with blank := false, next := o + p.len, recs := b.recs ++ [⟨o, seq, true, p⟩] }

/-- A record still fits in the bank's 256 KiB (R328). -/
def Bank.fits (b : Bank) (p : JPayload) : Bool := decide (placeRec b.next p.len + p.len ≤ 262144)

/-- The journal bank `b`. -/
def State.bank (s : State) (b : Nat) : Bank := if b = 0 then s.flash.bank0 else s.flash.bank1

/-- Replace journal bank `b`. -/
def State.setBank (s : State) (b : Nat) (v : Bank) : State :=
  if b = 0 then { s with flash.bank0 := v } else { s with flash.bank1 := v }

/-- The highest erase count among sectors `lo` to `hi` (R340). -/
def maxErase (c : Cells) (lo hi : Nat) : Nat :=
  c.foldl (fun m p => if lo ≤ p.1 ∧ p.1 ≤ hi then max m p.2 else m) 0

/-- `n` sectors from `k` erased once more. -/
def countErases (c : Cells) (k : Nat) : Nat → Cells
  | 0 => c
  | n + 1 => countErases (cellSet c k (cellGet c k + 1)) (k + 1) n

/-- R340: the registers of wear follow the erase counts; the first time JRN_WEAR reaches 80 it is reported. -/
def State.wearRefresh (s : State) : State :=
  let j := max (s.reg Reg.JRN_ERS_J) (maxErase s.flash.erases 0x90 0x10F)
  let l := max (s.reg Reg.JRN_ERS_LOG) (maxErase s.flash.erases 0x110 0x1AF)
  let n := max (s.reg Reg.JRN_ERS_SNAP) (maxErase s.flash.erases 0x1B0 0x22F)
  let top := max j (max l n)
  let pct : Nat := toUnitNat ((top : Rat) / (max 1 (s.reg Reg.JRN_ENDUR) : Nat))
  let s := (((s.put Reg.JRN_ERS_J j).put Reg.JRN_ERS_LOG l).put Reg.JRN_ERS_SNAP n).putSat Reg.JRN_WEAR pct
  if 80 ≤ pct ∧ s.jrn.worn = false then
    let region := if j = top then 0 else if l = top then 1 else 2
    { s with jrn.worn := true }.flag Reg.JRN_FLAGS_WEAR |>.recordEvent 0x7046 3 0x0F region top s.angle (s.reg Reg.WHL_CYC)
  else s

/-- Erase `n` sectors from sector `k` (R340). -/
def State.eraseSectors (s : State) (k n : Nat) : State :=
  { s with flash.erases := countErases s.flash.erases k n }.wearRefresh

/-- Step 1 and 2 of R337: the other bank is erased and its header begun. -/
def State.compactStart (s : State) : State :=
  let b := 1 - s.reg Reg.JRN_STAT_BANK
  let s := s.setBank b Bank.erased
  ({ s with jrn.compacting := some s.jrn.seq, jrn.retryAt := none }.put Reg.JRN_STAT_COMPACT 1).eraseSectors (0x90 + 64 * b) 64

/-- A journal record written to the active bank: the mirror takes its value, the bank its bytes (R334-R337, R341). -/
def State.jWrite (s : State) (p : JPayload) : State :=
  let b := s.reg Reg.JRN_STAT_BANK
  let bank := s.bank b
  if bank.fits p then
    let bank := bank.append (s.jrn.seq + 1) p
    let s := { s with jrn := { s.jrn.absorb p with seq := s.jrn.seq + 1 } }.setBank b bank |>.put Reg.JRN_USED bank.next
    if 196608 ≤ bank.next ∧ s.jrn.compacting = none ∧ s.jrn.retryAt = none then s.compactStart else s
  else
    let s := { s with jrn := s.jrn.absorb p }
    if s.isSet Reg.JRN_STAT_FULL then s
    else ((s.put Reg.JRN_STAT_FULL 1).flag Reg.JRN_FLAGS_FULL).recordEvent 0x7044 4 0x0F b (s.reg Reg.JRN_OPSEC) s.angle
      (s.reg Reg.WHL_CYC)

/-- The flash cannot take a journal record now: the scan is not complete, the supervisor is down, or an upload erases its
slot (R341). -/
def State.jBusy (s : State) : Bool :=
  !s.jrn.scanned || !s.supUp || s.reg Reg.IMG_UPST == 1 && !s.jrn.powerFail

/-- A journal record is due (R335): without a flash only the mirror takes it (R330); while the flash is held it waits. -/
def State.jAppend (s : State) (p : JPayload) : State :=
  if s.isSet Reg.JRN_STAT_NOFLASH then { s with jrn := s.jrn.absorb p }
  else if s.jBusy then
    { s with jrn := { (if s.jrn.scanned then s.jrn.absorb p else s.jrn) with due := s.jrn.due ++ [p] } }
  else s.jWrite p

/-- The records that waited are written in order (R341). -/
def State.jDrain (s : State) : State :=
  if s.jBusy then s
  else s.jrn.due.foldl (fun s p => s.jWrite p) { s with jrn.due := [] }

/-- The COUNTERS payload now (R335). -/
def State.countersNow (s : State) : JPayload :=
  .counters (s.reg Reg.JRN_OPSEC) (s.reg Reg.JRN_PCC) (s.reg Reg.JRN_EOUT) (s.reg Reg.JRN_ESTR)

/-- The LOGPTR payload now (R335). -/
def State.logptrNow (s : State) : JPayload :=
  .logptr ⟨s.reg Reg.REC_EPOCH, s.flash.first.length, (match s.flash.roll.getLast? with | none => 0 | some r => r.ix + 1),
    s.reg Reg.REC_ROLLDROP, s.reg Reg.REC_SNNEXT, s.reg Reg.REC_LASTSEQ⟩

/-- The journal's verdict on a version: 0 none, 1 running, 2 PASSED, 3 FAILED (R312-R314). -/
def State.verdict (s : State) (ver : Nat) : Nat :=
  match s.jrn.verdicts.find? (fun v => v.ver = ver) with
  | none => 0
  | some v => v.st

/-- The journalled probation count of a version, in s (R312). -/
def State.verdictCount (s : State) (ver : Nat) : Nat :=
  match s.jrn.verdicts.find? (fun v => v.ver = ver) with
  | none => 0
  | some v => v.count

end Sys2Proof.Machine
end

