-- ==== Sys2Proof/Machine/Access.lean ====
section
/-! DEFINITION. Fields as the bytes of a page show them: which field stands at an offset, which instance a window's selector
shows, and reading and writing one byte of a field (R5, R396, R450, R451). -/

namespace Sys2Proof.Machine

/-- Bytes a field's element covers. -/
def Field.nbytes (f : Field) : Nat := (f.lsb + f.width + 7) / 8

/-- The array element at offset `off`, and the byte of it, where the field covers the offset. -/
def Field.at? (f : Field) (off : Nat) : Option (Nat × Nat) :=
  if off < f.off then none
  else
    let d := off - f.off
    if f.stride = 0 then (if d < f.nbytes then some (0, d) else none)
    else
      let e := d / f.stride
      let k := d % f.stride
      if e < f.count ∧ k < f.nbytes then some (e, k) else none

/-- Byte `k` of a field whose value is `v`, at its place in the byte. -/
def Field.byteOf (f : Field) (v k : Nat) : Nat := ((v % 2 ^ f.width) <<< f.lsb) / 256 ^ k % 256

/-- The value of a field after byte `k` is written. -/
def Field.setByte (f : Field) (v k byte : Nat) : Nat :=
  let w := (v % 2 ^ f.width) <<< f.lsb
  let old := w / 256 ^ k % 256
  ((w - old * 256 ^ k + (byte % 256) * 256 ^ k) >>> f.lsb) % 2 ^ f.width

/-- The selector values of each window, from one reading of the selectors. -/
def winBank (sel : Field → Nat) : Win → Nat
  | .none => 0
  | .cal => sel Reg.WHL_CAL_IDX
  | .phBay => sel Reg.PH_BAY_IDX
  | .phCh => sel Reg.PH_PH_IDX
  | .leBay => sel Reg.LE_BAY_IDX
  | .leSet => sel Reg.LE_CS_BAY * 16 + sel Reg.LE_CS_SET
  | .leTab => sel Reg.LE_CS_BAY
  | .trkBay => sel Reg.TRK_LT_BAY
  | .capCt => sel Reg.CAP_CT_IDX
  | .bstStr => sel Reg.BST_IDX
  | .estStr => sel Reg.EST_IDX
  | .estExp => sel Reg.EST_XIDX
  | .fusCh => sel Reg.FUS_IDX
  | .thmSen => sel Reg.THM_IDX
  | .tlmWin => sel Reg.TLM_WSEL

/-- The bank a window shows; none while its selector is above the highest index (R451). -/
def bankOf (sel : Field → Nat) (w : Win) : Option Nat :=
  if winBank sel w < w.banks then some (winBank sel w) else none

/-- The instance and byte of field `f` that offset `off` shows; none where the field is not there, or its window shows no
index. -/
def Field.locate (f : Field) (sel : Field → Nat) (off : Nat) : Option (Nat × Nat) :=
  match f.at? off, bankOf sel f.win with
  | some (e, k), some b => some (f.ix b e, k)
  | _, _ => none

/-- The fields of a page that an offset shows. -/
def fieldsAt (page off : Nat) : List Field := (pageFields page).filter (fun f => (f.at? off).isSome)

/-- The window selectors and VIEW fields: the debug port has its own copy of each (R433). -/
def isSelector (f : Field) : Bool :=
  [Reg.WHL_CAL_IDX, Reg.WHL_CAL_CTL_VIEW, Reg.PH_BAY_IDX, Reg.PH_PH_IDX, Reg.LE_BAY_IDX, Reg.LE_CS_BAY, Reg.LE_CS_SET,
   Reg.LE_CS_VIEW, Reg.TRK_LT_BAY, Reg.TRK_LT_VIEW, Reg.CAP_CT_IDX, Reg.CAP_CT_VIEW, Reg.BST_IDX, Reg.EST_IDX,
   Reg.EST_XIDX, Reg.FUS_IDX, Reg.THM_IDX, Reg.TLM_WSEL].any (fun g => g.place == f.place)

/-- Whether a window instance belongs to bay `b`: the period-class fields an image brings to a bay at its next period start
(R310). -/
def bayOwns (w : Win) (b n : Nat) : Bool :=
  match w with
  | .phBay => n == b
  | .leBay => n == b
  | .leTab => n == b
  | .leSet => n / 16 == b
  | .phCh => n / 6 == b
  | _ => false

/-- One field's instances of bay `b` copied. -/
def copyBay (f : Field) (b : Nat) (src dst : Cells) : Cells :=
  (List.range f.insts).foldl (fun d i => if bayOwns f.win b (i / f.count) then fieldPut d f i (fieldGet src f i) else d) dst

end Sys2Proof.Machine
end

