-- ==== Sys2Proof/Machine/Checks.lean ====
section
/-! DEFINITION. What the blocks check of their configuration, over a store of register cells: a shadow set at its commit, or a
whole image's data at its load. -/

namespace Sys2Proof.Machine

/-- The bays, the channels of a bay, and the fuse channels (R1). -/
def bayIds : List Nat := List.range 8
def phaseIds (b : Nat) : List Nat := (List.range 6).map (fun k => 6 * b + k)
def fuseIds : List Nat := List.range 16

/-- R89: the thresholds of a bay, checked while PH_CTL.MODE uses them: the first N that breaks a rule. -/
def checkThresholds (c : Cells) (b : Nat) : Option Nat :=
  let add := fun n => fieldGet c Reg.PH_ADD (5 * b + (n - 1))
  let shed := fun n => fieldGet c Reg.PH_SHED (5 * b + (n - 2))
  [1, 2, 3, 4, 5].find? (fun n => !(decide (shed (n + 1) < add n) && add n != 0 && shed (n + 1) != 0))

/-- R89: the phase engine's shadow set: the first bay that breaks a rule, with its N. -/
def checkPhaseSet (c : Cells) : Option (Nat × Nat) :=
  if fieldGet c Reg.PH_CTL_MODE 0 = 0 then none
  else bayIds.findSome? (fun b => (checkThresholds c b).map (fun n => (b, n)))

/-- R114: the set of an index in bay `b`'s region table. -/
def setOfRegion (c : Cells) (b idx : Nat) : Nat := fieldGet c Reg.LE_RTAB (32 * b + idx / 2) / (if idx % 2 = 0 then 1 else 16) % 16

/-- A coefficient set ready for use (R111): coefficients with 29 fraction bits, limits in 1/65,536, and G. -/
structure Coef where
  kp : Int
  ki : Int
  kd : Int
  dpole : Int
  b0a : Int
  b1a : Int
  a1a : Int
  b0b : Int
  b1b : Int
  a1b : Int
  nen : Bool
  nb0 : Int
  nb1 : Int
  nb2 : Int
  na1 : Int
  na2 : Int
  dmax : Nat
  dmin : Nat
  imax : Nat
  llmax : Nat
  nmax : Nat
  ffmax : Nat
  emax : Nat
  g : Rat
deriving DecidableEq, Repr

/-- 2^29, the unit of the coefficients (R101). -/
def one29 : Int := 536870912

/-- R113: the DC gain of two lead-lags. -/
def gainOf (b0 b1 a1 c0 c1 d1 : Int) : Rat := ((b0 + b1 : Int) : Rat) / (one29 + a1 : Int) * (((c0 + c1 : Int) : Rat) / (one29 + d1 : Int))

/-- Set `k` of bay `b` from a store of cells (R111); the notch's derived values are those of the active copy. -/
def coefOf (c : Cells) (b k : Nat) : Coef :=
  let i := b * 16 + k
  let q := fun f => toInt 32 (fieldGet c f i)
  let u := fun f => fieldGet c f i
  let n := fun j => toInt 32 (fieldGet c Reg.LE_NCOEF (i * 5 + j))
  { kp := q Reg.CS_KP, ki := q Reg.CS_KI, kd := q Reg.CS_KD, dpole := q Reg.CS_DPOLE,
    b0a := q Reg.CS_LL1_B0, b1a := q Reg.CS_LL1_B1, a1a := q Reg.CS_LL1_A1,
    b0b := q Reg.CS_LL2_B0, b1b := q Reg.CS_LL2_B1, a1b := q Reg.CS_LL2_A1,
    nen := u Reg.CS_NEN == 1, nb0 := n 0, nb1 := n 1, nb2 := n 2, na1 := n 3, na2 := n 4,
    dmax := u Reg.CS_DMAX, dmin := u Reg.CS_DMIN, imax := u Reg.CS_IMAX, llmax := u Reg.CS_LLMAX, nmax := u Reg.CS_NMAX,
    ffmax := u Reg.CS_FFMAX, emax := u Reg.CS_EMAX,
    g := gainOf (q Reg.CS_LL1_B0) (q Reg.CS_LL1_B1) (q Reg.CS_LL1_A1) (q Reg.CS_LL2_B0) (q Reg.CS_LL2_B1) (q Reg.CS_LL2_A1) }

/-- R118 reasons 1 to 6 for one set. -/
def checkSet (c : Cells) (b k : Nat) (reason : Nat) : Bool :=
  let q := coefOf c b k
  let fs := fieldGet c Reg.PH_FREQ b
  let i := b * 16 + k
  let nf := fieldGet c Reg.CS_NF i
  let nq := fieldGet c Reg.CS_NQ i
  match reason with
  | 1 => decide (q.dmax ≤ fieldGet c Reg.PH_DMAX b)
  | 2 => decide (q.dmin < q.dmax)
  | 3 => decide (-one29 < q.a1a) && decide (q.a1a < one29) && decide (-one29 < q.a1b) && decide (q.a1b < one29) &&
      decide (0 ≤ q.dpole) && decide (q.dpole < one29)
  | 4 => !q.nen || (decide (1000 ≤ nf) && decide (nf ≤ 50000) && decide (nf ≤ 400 * fs))
  | 5 => !q.nen || (decide (50 ≤ nq) && decide (nq ≤ 2000))
  | 6 => decide (0 < q.g) && decide (q.g < 4)
  | _ => true

/-- R118 reasons 7 and 8: the bands and the following-error limits. -/
def checkBands (c : Cells) (b : Nat) (reason : Nat) : Bool :=
  let band := fun k => fieldGet c Reg.LE_BAND (3 * b + k)
  let ok := fun (x y : Nat) => decide (x < y) || (x == 0xFFFF && y == 0xFFFF)
  match reason with
  | 7 => ok (band 0) (band 1) && ok (band 1) (band 2) && decide (fieldGet c Reg.LE_BANDHYS b < band 0)
  | 8 => decide (fieldGet c Reg.LE_FEHYS b < fieldGet c Reg.LE_FELIM b)
  | _ => true

/-- The sets that bay `b`'s region table selects. -/
def setsUsed (c : Cells) (b : Nat) : List Nat :=
  (List.range 16).filter (fun k => (List.range 64).any (fun e => setOfRegion c b e == k))

/-- R118: the first reason a shadow copy breaks, with the set; a bay with no phase fitted is not checked. -/
def checkLoopBay (c : Cells) (b : Nat) : Option (Nat × Option Nat) :=
  if fieldGet c Reg.PH_PRESENT b = 0 then none
  else
    match [1, 2, 3, 4, 5, 6].findSome? (fun r => ((setsUsed c b).find? (fun k => !checkSet c b k r)).map (fun k => (r, some k))) with
    | some x => some x
    | none => ([7, 8].find? (fun r => !checkBands c b r)).map (fun r => (r, none))

/-- R152: the first reason to reject pages 14-16: 0 points, 1 voltage, 2 multiplier, with its bay. -/
def checkTracker (c : Cells) : Option (Nat × Nat) :=
  let rises := fun b => (List.range 15).all (fun k =>
    decide (fieldGet c Reg.TRK_IPT (16 * b + k) < fieldGet c Reg.TRK_IPT (16 * b + k + 1)))
  match bayIds.find? (fun b => !rises b) with
  | some b => some (b, 0)
  | none =>
    let vs := (List.range 4).map (fun k => fieldGet c Reg.TRK_VTAB_SP k)
    if vs.any (fun v => decide (v < 4400 ∨ 5800 < v)) then some (0, 1)
    else if (List.range 4).any (fun k => fieldGet c Reg.TRK_VTAB_MUL k == 0) then some (0, 2)
    else none

/-- R193: the first field of page 18's shadow set that breaks a rule: its offset and value. -/
def checkCapping (c : Cells) : Option (Nat × Nat) :=
  let v := fun f => fieldGet c f 0
  let bad := fun (f : Field) (b : Bool) => if b then [(f.off, v f)] else []
  let rcls := (List.range 16).filterMap (fun g =>
    let x := fieldGet c Reg.CAP_RCLS (g / 2) / (if g % 2 = 0 then 1 else 16) % 8
    if 4 < x then some (0x48 + g / 2, x) else none)
  (bad Reg.CAP_EFF (v Reg.CAP_EFF < 500 || 1000 < v Reg.CAP_EFF) ++ bad Reg.CAP_HUPT (v Reg.CAP_HUPT < 10 || 3600 < v Reg.CAP_HUPT) ++
    bad Reg.CAP_ENFTICKS (v Reg.CAP_ENFTICKS == 0) ++ bad Reg.CAP_RELTICKS (v Reg.CAP_RELTICKS == 0) ++
    bad Reg.CAP_PMAX (56 < v Reg.CAP_PMAX) ++ rcls).head?

/-- R215: the hold-up shadow set. -/
def checkHoldup (c : Cells) : Option (Nat × Nat) :=
  let bad := fun (f : Field) (lo hi : Nat) => if fieldGet c f 0 < lo ∨ hi < fieldGet c f 0 then some (f.off, fieldGet c f 0) else none
  let l := [bad Reg.HUP_VNOM 1000 6000, bad Reg.HUP_CRLO 30 95, bad Reg.HUP_CRN 1 4, bad Reg.HUP_RMSLO 50 95, bad Reg.HUP_RMSHI 105 130, bad Reg.HUP_QCYC 2 255,
    bad Reg.HUP_RTW 0 4, bad Reg.HUP_RTCHK 8 96, bad Reg.HUP_CHATN 2 15, bad Reg.HUP_CHATW 1 600, bad Reg.HUP_CHATLOCK 1 3600,
    bad Reg.HUP_WALKRATE 10 2000, bad Reg.HUP_RETRATE 10 2000, bad Reg.HUP_WALKMARG 0 2000, bad Reg.HUP_VFLOOR 4400 5800,
    bad Reg.HUP_STAG 0 100, bad Reg.HUP_RSTO 100 60000, bad Reg.HUP_HBT 1 1000, bad Reg.HUP_HBTO 10 10000, bad Reg.HUP_CHGDLY 0 3600,
    if fieldGet c Reg.SHR_SPINIT 0 < fieldGet c Reg.HUP_VFLOOR 0 then some (Reg.HUP_VFLOOR.off, fieldGet c Reg.HUP_VFLOOR 0) else none]
  (l.filterMap id).head?

/-- R264: the estimator's shadow set. -/
def checkEstimator (c : Cells) : Option Nat :=
  let asc := fun (f : Field) =>
    let p := (List.range 12).map (fun i => fieldGet c f i)
    let up := fun (g : Nat → Nat) => (List.range 11).all (fun i => decide (g (p.getD i 0) < g (p.getD (i + 1) 0)))
    up (fun v => v % 65536) && up (fun v => v / 65536) && decide (p.getD 0 0 % 65536 = 0) && decide (p.getD 11 0 % 65536 = 10000)
  if !asc Reg.EST_OCVN then some 0x80
  else if !asc Reg.EST_OCVL then some 0xB0
  else if fieldGet c Reg.EST_UMAX 0 < fieldGet c Reg.EST_UANCH 0 then some 0x08
  else none

/-- R283: the first channel whose shadow set fails, with the offset of its first offending field. -/
def checkFuse (c : Cells) : Option (Nat × Nat) :=
  let bad := fun (k : Nat) (f : Field) (lo hi : Nat) => if fieldGet c f k < lo ∨ hi < fieldGet c f k then some f.off else none
  let one := fun (k : Nat) =>
    let pt := fun (i : Nat) => fieldGet c Reg.FUS_CURVE (8 * k + i)
    let curve := (List.range 7).all (fun i => decide (pt i % 65536 < pt (i + 1) % 65536 ∧ pt (i + 1) / 65536 < pt i / 65536)) &&
      decide (1000 ≤ pt 0 % 65536)
    let rated := fieldGet c Reg.FUS_IRATE k ≠ 0
    let top := pt 7 % 65536 * fieldGet c Reg.FUS_IRATE k
    [if rated ∧ !curve then some Reg.FUS_CURVE.off else none,
     if rated ∧ fieldGet c Reg.FUS_HARD k * 1000 ≤ top then some Reg.FUS_HARD.off else none,
     if fieldGet c Reg.FUS_DVMAX k ≤ fieldGet c Reg.FUS_DVMIN k then some Reg.FUS_DVMIN.off else none,
     if fieldGet c Reg.FUS_FGSON k ≤ fieldGet c Reg.FUS_FGSOFF k then some Reg.FUS_FGSOFF.off else none,
     bad k Reg.FUS_COOL 10 60000, bad k Reg.FUS_REARM 10 90, bad k Reg.FUS_TRAMP 1 2000, bad k Reg.FUS_RBLANK 0 10000,
     bad k Reg.FUS_TRISE 10 50000, bad k Reg.FUS_TFALL 10 50000, bad k Reg.FUS_SETTLE 1 1000, bad k Reg.FUS_RETRYT 10 60000,
     bad k Reg.FUS_RETRYN 0 15, bad k Reg.FUS_RETRYWIN 1 255, bad k Reg.FUS_FVSCAL 10 1000].filterMap id
  (fuseIds.flatMap (fun k => (one k).map (fun off => (k, off)))).head?

/-- R167: the reason to reject page 17, with the offending value. -/
def checkSteps (c : Cells) : Option (Nat × Nat) :=
  let v := fun f => fieldGet c f 0
  if v Reg.STP_KREF < 1 ∨ 8 < v Reg.STP_KREF then some (0, v Reg.STP_KREF)
  else if v Reg.STP_HOLDT < 5 ∨ 1000 < v Reg.STP_HOLDT then some (1, v Reg.STP_HOLDT)
  else if v Reg.STP_FFTAU < 10 ∨ 10000 < v Reg.STP_FFTAU then some (2, v Reg.STP_FFTAU)
  else (((List.range 4).map (fun k => fieldGet c Reg.STP_FFDLY k)).find? (fun d => decide (195 < d))).map (fun d => (3, d))

/-- The stated ranges of page 1B over the shelf (R242). -/
def shelfRanges : List (Field × Nat × Nat) :=
  [(Reg.BST_IRAMP, 1, 5000), (Reg.BST_INSDLY, 0, 3600), (Reg.BST_PRESDB, 10, 1000), (Reg.BST_COLLAPSE, 10, 500)]

/-- The stated ranges of a string's fields, in the order of page 1B (R242). -/
def stringRanges : List (Field × Nat × Nat) :=
  [(Reg.BST_CELLS, 0, 48), (Reg.BST_CAP, 10, 10000), (Reg.BST_FASTC, 10, 50), (Reg.BST_IMAX, 100, 5000), (Reg.BST_VOVM, 10, 200),
   (Reg.BST_DV, 2, 20), (Reg.BST_DVN, 1, 10), (Reg.BST_DTDT, 5, 30), (Reg.BST_DVBLANK, 0, 3600), (Reg.BST_THYS, 10, 100),
   (Reg.BST_TTRK, 1, 1440), (Reg.BST_TPRE, 1, 1440), (Reg.BST_TFAST, 10, 1440), (Reg.BST_TOPT, 1, 240), (Reg.BST_TCV, 10, 600),
   (Reg.BST_QMAX, 100, 200), (Reg.BST_RETOP, 10, 200), (Reg.BST_REFAST, 5, 80), (Reg.BST_RTFAC, 100, 200), (Reg.BST_TRST, 0, 3600),
   (Reg.BST_FREQ, 100, 300), (Reg.BST_DBMAX, 0, 32768)]

/-- The first of some fields outside its range, by its offset. -/
def outside (c : Cells) (i : Nat) (l : List (Field × Nat × Nat)) : Option Nat :=
  (l.find? (fun p => decide (fieldGet c p.1 i < p.2.1 ∨ p.2.2 < fieldGet c p.1 i))).map (fun p => p.1.off)

/-- R242: the offset of the offending field of lowest offset of string `k`; a string with no cells is not checked. -/
def checkString (c : Cells) (k : Nat) : Option Nat :=
  let v := fun f => fieldGet c f k
  let t := fun f => toInt 16 (fieldGet c f k)
  if v Reg.BST_CELLS = 0 then none
  else
    let li := v Reg.BST_CFG_CHEM = 1
    let vcv := v Reg.BST_VCV
    let bad := fun (b : Bool) (f : Field) => if b then [f.off] else []
    let l := (outside c k stringRanges).toList ++
      bad (if li then vcv < 41000 || 42000 < vcv else vcv < 14500 || 16500 < vcv) Reg.BST_VCV ++
      bad (!(decide (t Reg.BST_TMINC < t Reg.BST_TMAXC) && decide (t Reg.BST_TMAXC ≤ t Reg.BST_TTERM) &&
        decide (t Reg.BST_TTERM < t Reg.BST_TCUT))) Reg.BST_TMINC ++
      bad (decide li && decide (vcv < v Reg.BST_LIRECH + 500)) Reg.BST_LIRECH
    l.min?

/-- R242: the first string that breaks a rule of page 1B, with the offset of its first offending field; a field of the whole
shelf counts as string 0's. -/
def checkStrings (c : Cells) : Option (Nat × Nat) :=
  match outside c 0 shelfRanges with
  | some off => some (0, off)
  | none => (List.range 8).findSome? (fun k => (checkString c k).map (fun off => (k, off)))

/-- R299: a sensor's limits do not ascend; 0x7FFF as WARN disables the sensor's limits. -/
def limitsBad (c : Cells) (i : Nat) : Bool :=
  let t := fun f => toInt 16 (fieldGet c f i)
  fieldGet c Reg.THM_CFG_EN i != 0 && t Reg.THM_WARN != 0x7FFF &&
    !(decide (t Reg.THM_WARN < t Reg.THM_HOT) && decide (t Reg.THM_HOT < t Reg.THM_SHUT))

/-- The ratio and the temperature of point `j` of THM_NTCT. -/
def ntcRatio (c : Cells) (j : Nat) : Nat := fieldGet c Reg.THM_NTCT j % 65536
def ntcTemp (c : Cells) (j : Nat) : Int := toInt 16 (fieldGet c Reg.THM_NTCT j / 65536)

/-- R299: the temperatures of THM_NTCT ascend and its ratios are strictly monotonic. -/
def ntcOk (c : Cells) : Bool :=
  let all := fun (p : Nat → Bool) => (List.range 15).all p
  all (fun j => decide (ntcTemp c j < ntcTemp c (j + 1))) &&
    (all (fun j => decide (ntcRatio c j < ntcRatio c (j + 1))) || all (fun j => decide (ntcRatio c (j + 1) < ntcRatio c j)))

/-- R299: the first sensor and offset that break a rule of page 22. -/
def checkThermal (c : Cells) : Option (Nat × Nat) :=
  let t := fun f i => toInt 16 (fieldGet c f i)
  if (List.range 8).any (fun k => decide (t Reg.THM_BTSHUT 0 ≤ t Reg.BST_TCUT k)) then
    some (0, Reg.THM_BTSHUT.off)
  else if !ntcOk c then some (0, Reg.THM_NTCT.off)
  else match (List.range 20).find? (limitsBad c) with
    | some i => some (i, Reg.THM_WARN.off)
    | none => if t Reg.THM_SHUT 0 < 1760 ∨ 2240 < t Reg.THM_SHUT 0 then some (0, Reg.THM_SHUT.off) else none

end Sys2Proof.Machine
end

