-- ==== Sys2Proof/Machine/Validate.lean ====
section
/-! DEFINITION. The block validations of the manual, over a store of register cells: the shadow set of a block at its commit,
or a whole image's data at its load (reason 13 of R309). Each answers the offset and value of the first offending field. -/

namespace Sys2Proof.Machine

/-- The outcome of one check: none when it holds, else the offending offset and value. -/
abbrev Check := Option (Nat × Nat)

/-- The first of some checks that fails. -/
def firstBad : List Check → Check
  | [] => none
  | none :: cs => firstBad cs
  | some x :: _ => some x

/-- Instance `i` of a field lies in its stated range. -/
def rangeAt (c : Cells) (f : Field) (i lo hi : Nat) : Check :=
  let v := fieldGet c f i
  if lo ≤ v ∧ v ≤ hi then none else some (f.off, v)

/-- A field lies in its stated range. -/
def range (c : Cells) (f : Field) (lo hi : Nat) : Check := rangeAt c f 0 lo hi

/-- A signed field lies in its stated range. -/
def srange (c : Cells) (f : Field) (lo hi : Int) : Check :=
  let v := toInt f.width (fieldGet c f 0)
  if lo ≤ v ∧ v ≤ hi then none else some (f.off, fieldGet c f 0)

/-- Every instance of a field lies in its stated range. -/
def ranges (c : Cells) (f : Field) (lo hi : Nat) : Check :=
  firstBad ((List.range f.insts).map (fun i => rangeAt c f i lo hi))

/-- A condition on a field that the manual states in words. -/
def must (c : Cells) (f : Field) (i : Nat) (b : Bool) : Check := if b then none else some (f.off, fieldGet c f i)

/-- A snapshot channel code is valid (R357). -/
def snapCodeOk (v : Nat) : Bool :=
  v ≤ 0x07 || (0x08 ≤ v && v ≤ 0x0B) || (0x10 ≤ v && v ≤ 0x3F) || (0x40 ≤ v && v ≤ 0x47) || (0x48 ≤ v && v ≤ 0x4D) ||
  (0x50 ≤ v && v ≤ 0x5F) || (0x60 ≤ v && v ≤ 0x6F) || (0x70 ≤ v && v ≤ 0x7F) || (0x80 ≤ v && v ≤ 0x87) ||
  (0x88 ≤ v && v ≤ 0x8F) || (0x90 ≤ v && v ≤ 0x97) || v == 0xFF

/-- Channels in use of a capture set. -/
def snapUsed (c : Cells) (f : Field) : Nat := ((List.range 8).filter (fun i => fieldGet c f i ≠ 0xFF)).length

/-- R364: the recorder's set of pages 26 and 27. -/
def checkRecorder (c : Cells) : Check :=
  let per := fieldGet c Reg.REC_SNPER 0
  let fits := fun (f : Field) => decide (per ≠ 0 ∧ snapUsed c f * (8000 / per) ≤ 6400)
  firstBad
    [range c Reg.REC_FILLTH 1 64, range c Reg.REC_AGEMAX 1 3600, range c Reg.REC_SNPER 4 100,
     must c Reg.REC_SNPER 0 (decide (per ≠ 0 ∧ 2000 % per = 0)),
     firstBad ((List.range 8).map (fun i => must c Reg.REC_SNCH_F i (snapCodeOk (fieldGet c Reg.REC_SNCH_F i)))),
     firstBad ((List.range 8).map (fun i => must c Reg.REC_SNCH_M i (snapCodeOk (fieldGet c Reg.REC_SNCH_M i)))),
     must c Reg.REC_SNCH_F 0 (fits Reg.REC_SNCH_F), must c Reg.REC_SNCH_M 0 (fits Reg.REC_SNCH_M)]

/-- R410: a CRKCLK value of 3 is rejected. -/
def checkPorts (c : Cells) : Check := firstBad [range c Reg.H_CRKCLK 0 2, range c Reg.S_CRKCLK 0 2]

/-- The validations an image's data must pass, by page (reason 13 of R309): those the manual calls part of the image load: the phase
engine's (R89), the loop engine's (R118), the strings' (R242) and the ports' (R410). -/
def pageChecks (c : Cells) : List (Nat × Check) :=
  let some? := fun (b : Bool) => if b then some (0, 0) else none
  [(0x10, some? (checkPhaseSet c).isSome), (0x12, some? (bayIds.any (fun b => (checkLoopBay c b).isSome))),
   (0x1B, some? (checkStrings c).isSome), (0x38, checkPorts c)]

/-- The first page whose validation fails. -/
def badPage (c : Cells) : Option Nat :=
  match (pageChecks c).find? (fun p => p.2.isSome) with
  | none => none
  | some p => some p.1

end Sys2Proof.Machine
end

