-- ==== Sys2Proof/Machine/ImageCheck.lean ====
section
/-! DEFINITION. A Kyern image as the bytes of a slot: its header, its sections, its trailer, and the checks of R309
(R302-R305). -/

namespace Sys2Proof.Machine

/-- The n-bit little-endian values of a slot's bytes (R302). -/
def u16At (m : Memory) (a : Nat) : Nat := leValue (memReadBytes m a 2)
def u32At (m : Memory) (a : Nat) : Nat := leValue (memReadBytes m a 4)

/-- The version in a slot's header (R302). -/
def imgVersion (m : Memory) : Nat := u32At m 8

/-- The total length in a slot's header. -/
def imgLength (m : Memory) : Nat := u32At m 16

/-- What an image passing every check holds. -/
structure ImgData where
  ver : Nat
  floor : Nat
  key : Nat
  len : Nat
  cells : Cells
deriving DecidableEq, Repr

/-- The outcome of R309: the reason of the first check that fails, with the page for reason 13; or the image. -/
inductive ImgCheck where
  | bad (reason page : Nat)
  | ok (d : ImgData)
deriving DecidableEq, Repr

/-- One byte of an image write (R304): none where the byte belongs to a RO or WO field or is a PAGE register. -/
def imgByte (c : Cells) (page off byte : Nat) : Option Cells :=
  if off = 0xFF then none
  else
    let fs := fieldsAt page off
    if fs.any (fun f => f.acc == .ro || f.acc == .wo) then none
    else
      some (fs.foldl (fun c f =>
        if f.acc == .rw then
          match f.locate (fun g => fieldGet c g 0) off with
          | none => c
          | some (i, k) => fieldPut c f i (f.setByte (fieldGet c f i) k byte)
        else c) c)

/-- Bytes at ascending offsets (R303); none where a byte may not be written, or an offset runs past the page. -/
def imgBytes (c : Cells) (page off : Nat) : List Byte → Option Cells
  | [] => some c
  | b :: bs =>
    if 0xFF ≤ off then none
    else match imgByte c page off b.toNat with
      | none => none
      | some c => imgBytes c page (off + 1) bs

/-- The selector pairs of a WINDOW_DATA section (R303): they select for this section. -/
def imgSelect (c : Cells) (page : Nat) : List Byte → Option Cells
  | o :: v :: r =>
    match imgByte c page o.toNat v.toNat with
    | none => none
    | some c => imgSelect c page r
  | _ => some c

/-- The selectors of a page as they were (the pairs of a WINDOW_DATA section are the section's own). -/
def restoreSel (page : Nat) (old c : Cells) : Cells :=
  (pageFields page).foldl (fun c f => if isSelector f then fieldPut c f 0 (fieldGet old f 0) else c) c

/-- One section applied (R303, R304): 11 for a type that is not allowed, 12 for a write that is not. -/
def imgSection (c : Cells) (type : Nat) (v : List Byte) : Except Nat Cells :=
  if 0x8000 ≤ type then .ok c
  else if type = 0x0001 then (if v.length ≤ 64 then .ok c else .error 12)
  else if type = 0x0010 then
    match v with
    | p :: o :: bs => (match imgBytes c p.toNat o.toNat bs with | none => .error 12 | some c => .ok c)
    | _ => .error 12
  else if type = 0x0011 then
    match v with
    | p :: k :: r =>
      if k.toNat = 1 ∨ k.toNat = 2 then
        match imgSelect c p.toNat (r.take (2 * k.toNat)), r.drop (2 * k.toNat) with
        | some c', o :: bs =>
          (match imgBytes c' p.toNat o.toNat bs with
            | none => .error 12
            | some c'' => .ok (restoreSel p.toNat c c''))
        | _, _ => .error 12
      else .error 12
    | _ => .error 12
  else .error 11

/-- The sections from `a` up to the trailer at `fin`; each is a type, a length, a value and zero padding to a multiple of
4 bytes (R303). -/
def imgSections (m : Memory) (fin : Nat) : Nat → Nat → Cells → Except Nat Cells
  | 0, _, _ => .error 12
  | fuel + 1, a, c =>
    if a = fin then .ok c
    else if fin < a + 6 then .error 12
    else
      let n := u32At m (a + 2)
      let next := a + (6 + n + 3) / 4 * 4
      if fin < next then .error 12
      else match imgSection c (u16At m a) (memReadBytes m (a + 6) n) with
        | .error e => .error e
        | .ok c => imgSections m fin fuel next c

/-- The order of the P-256 group (R428); the number is the curve's, not the spec's (PRESUMED, assumption 14). -/
def p256Order : Nat := 0xffffffff00000000ffffffffffffffffbce6faada7179e84f3b9cac2fc632551

/-- Big-endian value of bytes (R305, R427). -/
def beValue (bs : List Byte) : Nat := bs.foldl (fun v b => v * 256 + b.toNat) 0

/-- R428: the range of r and s, then ECDSA over the signed bytes' digest. -/
def sigOk (signed sig key : List Byte) : Bool :=
  let r := beValue (sig.take 32)
  let t := beValue (sig.drop 32)
  decide (1 ≤ r ∧ r < p256Order) && decide (1 ≤ t ∧ t < p256Order) && Config.ecdsaVerify signed sig key

/-- The floor in force (R316): the last OTP word programmed, 0 where there is none. -/
def Otp.floor (o : Otp) : Nat := (o.floors.getLast?).getD 0

/-- Key slot `k` where it is one of the four and ACTIVE (R427). -/
def Otp.activeKey (o : Otp) (k : Nat) : Option (List Byte) :=
  match o.keys.toList[k]? with
  | none => none
  | some s => if s.st = .active then some s.key else none

/-- The slot's bytes (R328): slot A is false. -/
def Flash.slot (f : Flash) (b : Bool) : Memory := if b then f.slotB else f.slotA

/-- The governing boot descriptor (R331): the higher sequence, copy 0 on equal ones. -/
def Flash.bootDesc (f : Flash) : Option BootDesc :=
  match f.bd0, f.bd1 with
  | some a, some b => if a.seq < b.seq then some b else some a
  | some a, none => some a
  | none, b => b

/-- The descriptor marks the slot READY (R331). -/
def Flash.ready (f : Flash) (b : Bool) : Bool :=
  match f.bootDesc with
  | none => false
  | some d => if b then d.readyB else d.readyA

/-- R309: the checks in order; reason 14 stands last, and a CLOSE does not apply it (R306). -/
def State.checkSlot (s : State) (b : Bool) (needReady : Bool) : ImgCheck :=
  let m := s.flash.slot b
  let ver := imgVersion m
  let len := imgLength m
  let body := memReadBytes m 32 (len - 104)
  let key := (memRead m (len - 8)).toNat
  if memReadBytes m 0 4 ≠ [0x4B, 0x59, 0x52, 0x4E] then .bad 1 0
  else if u16At m 4 ≠ 1 ∨ u16At m 6 ≠ 32 then .bad 2 0
  else if u32At m 24 ≠ 0x9640 then .bad 3 0
  else if len < 104 ∨ 262144 < len then .bad 4 0
  else if ver < s.otp.floor then .bad 5 0
  else if ver < u32At m 12 then .bad 6 0
  else if s.verdict ver = 3 then .bad 7 0
  else if u32At m 20 ≠ crc32 (body.map BitVec.toNat) then .bad 8 0
  else match s.otp.activeKey key with
    | none => .bad 9 0
    | some pk =>
      if !sigOk (memReadBytes m 0 (len - 72)) (memReadBytes m (len - 72) 64) pk then .bad 10 0
      else match imgSections m (len - 72) (len + 1) 32 [] with
        | .error e => .bad e 0
        | .ok c =>
          match badPage c with
          | some p => .bad 13 p
          | none =>
            if needReady && !s.flash.ready b then .bad 14 0
            else .ok ⟨ver, u32At m 12, key, len, c⟩

/-- The slot not in force, slot A when none is (R306). -/
def State.otherSlot (s : State) : Bool := s.reg Reg.IMG_STAT_SLOT == 0

/-- R315: the revert target: the other slot, READY, passing R309, with a lower version than the image in force. -/
def State.revertTarget (s : State) : Option (Bool × ImgData) :=
  if s.reg Reg.IMG_STAT_SLOT = 3 then none
  else match s.checkSlot s.otherSlot true with
    | .bad _ _ => none
    | .ok d => if d.ver < s.reg Reg.IMG_VER then some (s.otherSlot, d) else none

end Sys2Proof.Machine
end

