-- ==== Sys2Proof/Machine/Raise.lean ====
section
/-! DEFINITION. Raising an event with every consequence of its severity (R13, R313, R347, R354), and the loads that follow a
failed probation or a revert (R61, R63, R315). -/

namespace Sys2Proof.Machine

/-- R320: every uncommitted shadow copy is discarded. -/
def State.discardShadow (s : State) : State :=
  { s with shad := s.regs, touched := 0, cap.cts := s.cap.cts.map (fun c => { c with staged := none }) }

/-- R63, R310: a load begins. -/
def State.loadStart (s : State) (k : LoadKind) : State :=
  { s.discardShadow with core.load := some ⟨k, s.now, false, s.reg Reg.IMG_VER⟩, core.loadNext := none, img.staged := none }
    |>.put Reg.IMG_STAT_LOADING 1

/-- R61: a RELOAD, REVERT or failed probation by mode: in RUN through TADPOLE at the next quadrant point; in HOLDUP
deferred; in SHADOW and TADPOLE the load runs at once. -/
def State.scheduleLoad (s : State) (k : LoadKind) (cause : Nat) : State :=
  if s.mode = modeRun then { s with core.toTadpole := some cause, core.loadNext := some k }
  else if s.mode = modeHoldup then { s with core.deferred := some k }.put Reg.GL_STAT_RLDPEND 1
  else if s.mode = modeShadow ∨ s.mode = modeTadpole then s.loadStart k
  else s

/-- The reason of the other slot in IMG_OTHRES, 0 where it passes (R309). -/
def State.otherReason (s : State) : Nat :=
  match s.checkSlot s.otherSlot true with
  | .bad r _ => r
  | .ok _ => 0

/-- R315: a refused revert: 0x7007 with IMG_OTHRES, or 15 where the other slot is not lower. -/
def State.revertRefused (s : State) : State :=
  let r := s.otherReason
  let s := (s.put Reg.IMG_OTHRES r).flag Reg.IMG_FLAGS_REVERT
  s.recordEvent 0x7007 2 0x0E (s.reg Reg.IMG_VER) (if r = 0 then 15 else r) s.angle (s.reg Reg.WHL_CYC)

/-- R313, R315: the version in force is marked FAILED, and the revert follows where there is a target. -/
def State.failProbation (s : State) (code : Nat) : State :=
  let ver := s.reg Reg.IMG_VER
  let s := s.jAppend (.probation ⟨ver, 3, s.img.probCount⟩)
  let s := (((s.put Reg.IMG_STAT_PROB 3).put Reg.GL_STAT_PROBATION 0).flag Reg.IMG_FLAGS_PROBEND).put Reg.IMG_FAILEV code
  let s := s.recordEvent 0x7005 4 0x0E ver code s.angle (s.reg Reg.WHL_CYC)
  match s.revertTarget with
  | none => s.revertRefused
  | some _ => { s with img.revertFrom := some ver }.scheduleLoad .probation 0x07

/-- R13, R345: an event is raised. While the supervisor is down it is held and raised when the restart ends (R65, R458). -/
def State.raise4 (s : State) (code sev unit p0 p1 p2 p3 : Nat) : State :=
  if s.supUp then
    let s := s.recordEvent code sev unit p0 p1 p2 p3
    if 6 ≤ sev ∧ s.reg Reg.IMG_STAT_PROB = 1 ∧ (s.mode = modeRun ∨ s.mode = modeHoldup ∨ s.mode = modeShadow) then
      s.failProbation code
    else s
  else { s with core.heldEvents := s.core.heldEvents ++ [⟨code, sev, unit, p0, p1, p2, p3⟩] }

/-- An event whose parameters 2 and 3 hold WHL_ANGLE and WHL_CYC. -/
def State.raise (s : State) (code sev unit p0 p1 : Nat) : State :=
  s.raise4 code sev unit p0 p1 s.angle (s.reg Reg.WHL_CYC)

/-- A signed parameter as the 32 bits of a record hold it. -/
def par (i : Int) : Nat := ofInt 32 i

/-- The supervisor is back: what waited for it is raised, written and flushed (R65, R341, R403). -/
def State.supResume (s : State) : State :=
  let held := s.core.heldEvents
  let s := { s with core.sup := .running, core.heldEvents := [] }
  let s := held.foldl (fun s e => s.raise4 e.code e.sev e.unit e.p0 e.p1 e.p2 e.p3) s
  s.jDrain.flushKick

end Sys2Proof.Machine
end

