-- ==== Sys2Proof/Machine/Sessions.lean ====
section
/-! DEFINITION. Tokens, debug sessions, halts and test patterns as every block sees them: what R436 allows, and how a token,
a session, a halt and a pattern end (R432, R436, R439-R442). -/

namespace Sys2Proof.Machine

/-- The lifecycle in force (R425). -/
def State.lifecycle (s : State) : Nat := s.reg Reg.SEC_LC

/-- A token in force whose scope holds bit `k` (R430). -/
def State.tokenScope (s : State) (k : Nat) : Bool :=
  match s.sec.token with
  | none => false
  | some t => bitOf t.scope k

/-- R436: every FUS_ST of channels 0-7 is UNUSED, OFF, RETRYWAIT or LATCHED. -/
def State.fusesOpen (s : State) : Bool :=
  (List.range 8).all (fun c => let v := s.regAt Reg.FUS_ST c; v == 0 || v == 1 || v == 5 || v == 6)

/-- R436: the debug levels allowed by lifecycle, token and mode. -/
def State.debugAllowed (s : State) (level mode : Nat) : Bool :=
  if level = 0 then true
  else if mode = modeShip ∨ mode = modeHoldup ∨ 3 ≤ level then false
  else if s.lifecycle = 0 then mode == modeLockout
  else if s.lifecycle = 3 then mode == modeLockout && (level == 1 || s.tokenScope 3)
  else if level = 1 then s.lifecycle == 1 || s.tokenScope 0 || s.tokenScope 1 || s.tokenScope 3
  else if mode = modeTadpole then s.tokenScope 1 && s.fusesOpen
  else if mode = modeShadow then s.tokenScope 1
  else false

/-- R441: the halt of a session ends (reason 0 RESUME, 1 session ended). -/
def State.endHalt (s : State) (why : Nat) : State :=
  match s.core.sup with
  | .halted since =>
    let s := (s.put Reg.SEC_DBGLVL_HALT 0).supResume
    (s.flag Reg.SEC_FLAGS_HALT).raise 0x8141 1 0x13 (s.msSince since) why
  | _ => s

/-- R441: the test pattern stops at the channel's next period start; its register reads the end at once. -/
def State.endPattern (s : State) : State := { s with sec.pattern := none }.put Reg.SEC_DBGLVL_TP 0

/-- R439, R441: a session ends: its halt, its pattern, then its level (reason 0 request, 1 token, 2 mode, 3 lifecycle,
4 reset of the supervisor). -/
def State.endSession (s : State) (why : Nat) : State :=
  let old := s.reg Reg.SEC_DBGLVL_LEVEL
  if old = 0 then s
  else
    let s := if old = 2 then (s.endHalt 1).endPattern else s
    ((s.put Reg.SEC_DBGLVL_LEVEL 0).flag Reg.SEC_FLAGS_SESSION).raise 0x8111 1 0x13 old why

/-- R439: the session in force is judged again. -/
def State.judgeSession (s : State) (mode why : Nat) : State :=
  let lvl := s.reg Reg.SEC_DBGLVL_LEVEL
  if s.debugAllowed lvl mode || (lvl == 2 && mode == modeTadpole && s.mode == modeTadpole && s.tokenScope 1) then s
  else s.endSession why

/-- R432: the token in force ends (reason 0 expiry, 1 dropped, 2 replaced, 3 HOLDUP, 4 supervisor restart, 5 slot
revoked), and the session is judged again. -/
def State.endToken (s : State) (why : Nat) : State :=
  match s.sec.token with
  | none => s
  | some t =>
    let s := { s with sec.token := none }
    let s := (((s.put Reg.SEC_SCOPE 0).put Reg.SEC_EXPIRY 0).flag Reg.SEC_FLAGS_TOKEN).raise 0x8102 1 0x13 why t.scope
    s.judgeSession s.mode (if why = 4 then 4 else 1)

/-- R443: a verification under way is abandoned with result 9. -/
def State.abandonToken (s : State) : State :=
  match s.sec.verifying with
  | none => s
  | some v =>
    (({ s with sec.verifying := none }.put Reg.SEC_TOKRES 9).flag Reg.SEC_FLAGS_TOKEN).raise 0x8101 3 0x13 9
      (if v.debug then 1 else 0)

/-- R52: a mode change updates GL_MODE, GL_MODE_PREV and GL_MODE_CAUSE together and raises event 0x2010. Sessions are judged
first (R439); HOLDUP entry ends the token and abandons a verification (R432, R443). -/
def State.changeMode (s : State) (new cause : Nat) : State :=
  let s := if new = modeHoldup then s.abandonToken.endToken 3 else s
  let s := s.judgeSession new 2
  let old := s.mode
  let s := ((s.put Reg.GL_MODE_PREV old).put Reg.GL_MODE new).put Reg.GL_MODE_CAUSE cause
  { s with core.modeAt := s.now }.raise4 0x2010 1 0x02 old new cause s.angle

end Sys2Proof.Machine
end

