-- ==== Sys2Proof/Machine/Decisions.lean ====
section
/-! DEFINITION. The sync records the active chip sends (R375, R376): a DECISION for each decision a command has brought about, and
the pieces of a configuration write, a contract and a capsule. -/

namespace Sys2Proof.Machine

/-- This chip is the active one of a pair. -/
def State.active (s : State) : Bool := s.isSet Reg.TWN_CFG_EN && s.owner

/-- A record joins the queue of those to be sent, with its sequence. -/
def State.sendRec (s : State) (mk : Byte → SyncRec) : State :=
  if s.active then
    { s with twin.sendQ := s.twin.sendQ ++ [mk (BitVec.ofNat 8 s.twin.recSeq)], twin.recSeq := (s.twin.recSeq + 1) % 256 }
  else s

/-- A decision that acts now. -/
def State.sendDecision (s : State) (kind unit value : Nat) : State :=
  s.sendRec (fun q => .decision q (Config.decisionKind kind) (BitVec.ofNat 8 unit) (BitVec.ofNat 32 value)
    (BitVec.ofNat 16 (s.reg Reg.WHL_CYC)) (BitVec.ofNat 16 s.angle))

/-- One decision where instance `i` of a field has changed. -/
def sendChange (old : State) (f : Field) (kind unit i : Nat) (s : State) : State :=
  if s.regAt f i = old.regAt f i then s else s.sendDecision kind unit (s.regAt f i)

/-- R375: the decision kinds: 0 the tracker result, 1 a shed decision, 2 a shed commit, 3 a bay state change, 4 the capping
allocation with the p_g values, 5 a hold-up stage change, 6 a charge state change, 7 a fuse latch or clear. -/
def State.decided (old s : State) : State :=
  if !s.active then s
  else
    let s := (List.range 8).foldl (fun s b => sendChange old Reg.TRK_NT 0 b b s) s
    let s := (List.range 8).foldl (fun s b =>
      let st := s.regAt Reg.PH_SHEDST b
      if st = old.regAt Reg.PH_SHEDST b ∨ ¬(st = 1 ∨ st = 2) then s else s.sendDecision st b (s.regAt Reg.PH_SHEDPH b)) s
    let s := (List.range 8).foldl (fun s b => sendChange old Reg.SHR_BAYST 3 b b s) s
    let s := (List.range 16).foldl (fun s g => sendChange old Reg.CAP_PQ 4 (128 + g) g s) s
    let s := (List.range 128).foldl (fun s i =>
      let g := (s.cap.cts.toList.getD i CtSt.reset).grant
      if g = (old.cap.cts.toList.getD i CtSt.reset).grant then s else s.sendDecision 4 i g) s
    let s := sendChange old Reg.HUP_STAT_STAGE 5 0 0 s
    let s := (List.range 8).foldl (fun s k => sendChange old Reg.BST_CST 6 k k s) s
    (List.range 16).foldl (fun s c =>
      let now := bitOf (s.reg Reg.FUS_LATCHED) c
      if now = bitOf (old.reg Reg.FUS_LATCHED) c then s else s.sendDecision 7 c (if now then 1 else 0)) s

/-- R377: a committed contract, in two halves of 8 bytes. -/
def State.sendContract (s : State) (i : Nat) (r : List Nat) : State :=
  let b := r.map (BitVec.ofNat 8)
  let id := BitVec.ofNat 8 i
  (s.sendRec (fun q => .contract q id false (b.take 8))).sendRec (fun q => .contract q id true (b.drop 8))

/-- R377: a capsule applied, ten bytes a record. -/
def State.sendCapsule (s : State) (k : Nat) (c : List Nat) : State :=
  if h : k < 8 then
    (List.range 13).foldl (fun s j =>
      s.sendRec (fun q => .capsule q ⟨k, h⟩ (BitVec.ofNat 8 (10 * j)) (((c.drop (10 * j)).take 10).map (BitVec.ofNat 8)))) s
  else s

/-- R377: a configuration change; the code of its commit boundary is not given by any rule. -/
def State.sendReg (s : State) (page off width value : Nat) : State :=
  if s.active then
    let (v, s) := s.takeFree
    s.sendRec (fun q => .reg q (BitVec.ofNat 8 page) (BitVec.ofNat 8 off) ⟨width % 5, Nat.mod_lt _ (by decide)⟩ (BitVec.ofNat 8 v)
      (BitVec.ofNat 32 value))
  else s

end Sys2Proof.Machine
end

