-- ==== Sys2Proof/Machine/Interrupts.lean ====
section
/-! DEFINITION. The interrupt controller (R413-R421), and how a command ends: every level is read again, states move, and
the host's notice follows. -/

namespace Sys2Proof.Machine

/-- R414: the sources in use, numbered from 0 (ID - 1). -/
def icIds : List (Fin 128) :=
  [0, 8, 16, 24, 32, 40, 48, 49, 56, 64, 72, 80, 88, 89, 96, 104, 112, 120, 121]

/-- The flags whose being set asserts a source (R414). -/
def icFlags (i : Nat) : List Field :=
  match i + 1 with
  | 1 => [Reg.FUS_FLAGS_TRIP, Reg.FUS_FLAGS_LATCH, Reg.FUS_FLAGS_GATE, Reg.FUS_FLAGS_REJECT]
  | 9 => [Reg.THM_FLAGS_WARN, Reg.THM_FLAGS_HOT, Reg.THM_FLAGS_BROKEN, Reg.THM_FLAGS_DIETHR, Reg.THM_FLAGS_COMP,
      Reg.THM_FLAGS_REJECT]
  | 17 => [Reg.HUP_FLAGS_OUTAGE, Reg.HUP_FLAGS_RETURN, Reg.HUP_FLAGS_FEED, Reg.HUP_FLAGS_CHATTER, Reg.HUP_FLAGS_ELOW,
      Reg.HUP_FLAGS_REJECT, Reg.HUP_FLAGS_FORCED]
  | 25 => [Reg.TWN_FLAGS_TAKEOVER, Reg.TWN_FLAGS_YIELD, Reg.TWN_FLAGS_MISMATCH, Reg.TWN_FLAGS_ATTRIB, Reg.TWN_FLAGS_LINK,
      Reg.TWN_FLAGS_FITCHG, Reg.TWN_FLAGS_REFUSED]
  | 33 => [Reg.LE_EVT_FLAGS_FE, Reg.LE_EVT_FLAGS_REJECT, Reg.LE_EVT_FLAGS_VLINKBAD, Reg.LE_EVT_FLAGS_TRIGCLAMP,
      Reg.LE_EVT_FLAGS_DUTYSAT, Reg.LE_EVT_FLAGS_FEREC]
  | 41 => [Reg.PH_EVT_FLAGS_ABANDON, Reg.PH_EVT_FLAGS_TRIMLIM, Reg.PH_EVT_FLAGS_PHFAULT, Reg.PH_EVT_FLAGS_MINPULSE,
      Reg.PH_EVT_FLAGS_NEWPH, Reg.PH_EVT_FLAGS_REJECT]
  | 49 => [Reg.SHR_FLAGS_SPDONE, Reg.SHR_FLAGS_SPSUP, Reg.SHR_FLAGS_SPREJ, Reg.SHR_FLAGS_TRIMSAT, Reg.SHR_FLAGS_DROPRNG,
      Reg.SHR_FLAGS_BAYCHG]
  | 50 => [Reg.TRK_FLAGS_CHANGE, Reg.TRK_FLAGS_RESHORT, Reg.TRK_FLAGS_REJECT]
  | 57 => [Reg.STP_FLAGS_MALFORMED, Reg.STP_FLAGS_RATE, Reg.STP_FLAGS_STUCK, Reg.STP_FLAGS_RELEASED, Reg.STP_FLAGS_SAGEND,
      Reg.STP_FLAGS_DEEP, Reg.STP_FLAGS_REJECT]
  | 65 => [Reg.CAP_FLAGS_SHORT, Reg.CAP_FLAGS_PACING, Reg.CAP_FLAGS_EXHAUST, Reg.CAP_FLAGS_MBREF, Reg.CAP_FLAGS_UNREACH,
      Reg.CAP_FLAGS_REJECT, Reg.CAP_FLAGS_LIMIT]
  | 73 => [Reg.BST_FLAGS_TERM, Reg.BST_FLAGS_HALT, Reg.BST_FLAGS_REMOVED, Reg.BST_FLAGS_INSERTED, Reg.BST_FLAGS_REJECT,
      Reg.BST_FLAGS_BOK, Reg.BST_FLAGS_TEMP]
  | 81 => [Reg.EST_FLAGS_NAIVE, Reg.EST_FLAGS_RESTORED, Reg.EST_FLAGS_REJECT, Reg.EST_FLAGS_INCONS, Reg.EST_FLAGS_LIMIT,
      Reg.EST_FLAGS_SHREJ, Reg.EST_XPEND, Reg.EST_DISCMASK]
  | 89 => [Reg.WHL_FLAGS_LOCKLOST, Reg.WHL_FLAGS_FRANGE, Reg.WHL_FLAGS_CALDROP, Reg.WHL_FLAGS_CALBAD, Reg.WHL_FLAGS_SKEW]
  | 90 => [Reg.WHL_CAL_FLAG]
  | 97 => [Reg.IMG_FLAGS_STATICW, Reg.IMG_FLAGS_PROBEND, Reg.IMG_FLAGS_REVERT, Reg.IMG_FLAGS_INVALID, Reg.IMG_FLAGS_UPLOAD,
      Reg.IMG_FLAGS_PIN, Reg.IMG_FLAGS_FLOOR]
  | 105 => [Reg.JRN_FLAGS_COMPACTED, Reg.JRN_FLAGS_FULL, Reg.JRN_FLAGS_FLASHERR, Reg.JRN_FLAGS_TORN, Reg.JRN_FLAGS_WEAR,
      Reg.JRN_FLAGS_DESC, Reg.JRN_FLAGS_NEW]
  | 113 => [Reg.REC_FLAGS_QDROP, Reg.REC_FLAGS_ROLLDROP, Reg.REC_FLAGS_FIRSTFULL, Reg.REC_FLAGS_SNAP, Reg.REC_FLAGS_SNDROP,
      Reg.REC_FLAGS_CLEARED, Reg.REC_FLAGS_REJECT]
  | 121 => [Reg.H_FLAGS_ABORT, Reg.H_FLAGS_PECERR, Reg.H_FLAGS_STRLIM, Reg.H_FLAGS_TIMEOUT, Reg.H_FLAGS_CRKFAIL,
      Reg.H_FLAGS_STUCK, Reg.S_FLAGS]
  | 122 => [Reg.SEC_FLAGS_TOKEN, Reg.SEC_FLAGS_SESSION, Reg.SEC_FLAGS_KEY, Reg.SEC_FLAGS_LIFECYCLE, Reg.SEC_FLAGS_HALT,
      Reg.SEC_FLAGS_OTP]
  | _ => []

/-- The level of source `i` (R413). -/
def State.icLevel (s : State) (i : Fin 128) : Bool := s.anyFlag (icFlags i.val)

/-- The hold-off group of a source (R413). -/
def icGroup (i : Fin 128) : Fin 16 := ⟨i.val / 8, by omega⟩

/-- The enable bit of a source (R423). -/
def State.icEnabled (s : State) (i : Fin 128) : Bool := bitOf (s.regAt Reg.IC_EN (i.val / 8)) (i.val % 8)

/-- The priority of a source (R423). -/
def State.icPrio (s : State) (i : Fin 128) : Nat :=
  (s.regAt Reg.IC_PRIO (i.val / 2) >>> (if i.val % 2 = 0 then 0 else 4)) % 8

/-- R415: PENDING, enabled, and with a priority above the threshold. -/
def State.claimable (s : State) (i : Fin 128) : Bool :=
  s.ic.src[i] == .pending && s.icEnabled i && decide (s.reg Reg.IC_THRESH < s.icPrio i)

/-- R415: the claimable source of the highest priority, the lower ID on a tie; 0 where there is none. -/
def State.icTop (s : State) : Nat :=
  icIds.foldl (fun (best : Nat) i =>
    if s.claimable i then
      if best = 0 then i.val + 1
      else if h : best - 1 < 128 then (if s.icPrio ⟨best - 1, h⟩ < s.icPrio i then i.val + 1 else best) else best
    else best) 0

/-- R415, R417: one source's state follows its level. -/
def State.icMove (s : State) (i : Fin 128) : State :=
  let st := s.ic.src[i]
  let lvl := s.icLevel i
  let st' := match st with
    | .idle => if lvl then (if (s.ic.timer[icGroup i]).isSome then .held else .pending) else .idle
    | .pending => if lvl then .pending else .idle
    | .active => .active
    | .held => if lvl then .held else .idle
  { s with ic.src := s.ic.src.set i st', ic.overdue := if st' = .pending then s.ic.overdue else s.ic.overdue.set i false }

/-- R420: since when a source has been claimable. -/
def State.icAge (s : State) (i : Fin 128) : State :=
  let since := match s.ic.since[i] with
    | none => some s.now
    | some t => some t
  { s with ic.since := s.ic.since.set i (if s.claimable i then since else none) }

/-- R419: the notice to the host: asked for when IC_TOP changes to a non-zero ID, withdrawn when it falls to 0. -/
def State.icNotice (s : State) : State :=
  let top := s.icTop
  if top = s.ic.top then s
  else { s with ic.top := top, ic.topAt := s.now, ic.notify := top != 0 && s.isSet Reg.H_CFG_HNEN }

/-- Every source follows its level, and the notice to the host follows the sources. -/
def State.icRefresh (s : State) : State :=
  let s := icIds.foldl State.icMove s
  let s := icIds.foldl State.icAge s
  s.icNotice

/-- How a command on a powered chip ends. -/
def State.finish (s : State) : State := s.icRefresh

/-- The form of every meaning: at instant `t`, on a powered chip the effect `f`, then what the partner is told of it (R376) and
the interrupt controller; without VDD a command finds nothing to act on. -/
def live (t : Edges) (s : State) (f : State → State) : Host.Outcome State Fault Refusal :=
  .next (if s.core.powered then ((s.at t).decided (f (s.at t))).finish else s.at t)

/-- The form of a write on a port: while the supervisor is down no data byte is acknowledged, so nothing is taken (R403, R442). -/
def hostWrite (t : Edges) (s : State) (f : State → State) : Host.Outcome State Fault Refusal :=
  live t s fun s => if s.supUp then f s else s

end Sys2Proof.Machine
end

