-- ==== Sys2Proof/Machine/Analog.lean ====
section
/-! DEFINITION. Converter codes as quantities (R467, R59, R83, R271), the roundings of results, and access to the bays, the
phase channels and the fuse channels. -/

namespace Sys2Proof.Machine

/-- A pin voltage in mV: 1.80 V over 65,536 codes (R467). -/
def pinMv (code : Nat) : Rat := (code : Rat) * 1800 / 65536

/-- To the nearest whole number; which way a tie goes is a free value. -/
def nearest (q : Rat) : Int :=
  let f := q.floor
  let r := q - f
  if r < 1 / 2 then f else if 1 / 2 < r then f + 1 else if Config.roundsUp q then f + 1 else f

/-- To the nearest whole number, never below 0. -/
def nearestNat (q : Rat) : Nat := (nearest q).toNat

/-- To the nearest whole number, ties away from zero (R101). -/
def nearestAway (q : Rat) : Int := if 0 ≤ q then (q + 1 / 2).floor else -((-q + 1 / 2).floor)

/-- Divide by 2^k, to the nearest, ties away from zero (R101). -/
def roundShift (x : Int) (k : Nat) : Int :=
  let h : Int := (2 ^ (k - 1) : Nat)
  let m : Int := (2 ^ k : Nat)
  if k = 0 then x else if 0 ≤ x then (x + h) / m else -((-x + h) / m)

/-- The phase channel `n`. -/
def State.ph (s : State) (n : Nat) : PhaseSt := if h : n < 48 then s.phases[n] else PhaseSt.reset

/-- Replace phase channel `n`. -/
def State.setPh (s : State) (n : Nat) (v : PhaseSt) : State := { s with phases := s.phases.setIfInBounds n v }

/-- The bay `b`. -/
def State.bay (s : State) (b : Nat) : BaySt := if h : b < 8 then s.bays[b] else BaySt.reset

/-- Replace bay `b`. -/
def State.setBay (s : State) (b : Nat) (v : BaySt) : State := { s with bays := s.bays.setIfInBounds b v }

/-- The fuse channel `c`. -/
def State.fuse (s : State) (c : Nat) : FuseSt := if h : c < 16 then s.fuses[c] else FuseSt.reset

/-- Replace fuse channel `c`. -/
def State.setFuse (s : State) (c : Nat) (v : FuseSt) : State := { s with fuses := s.fuses.setIfInBounds c v }

/-- R384: an output resumes after a takeover; the last one gives TWN_LASTTO, in 10 ns. -/
def State.outResumed (s : State) (k : Nat) : State :=
  match s.twin.t0 with
  | none => s
  | some t =>
    let left := s.twin.resume.filter (fun j => j != k)
    if left.isEmpty then { s with twin.t0 := none, twin.resume := [] }.putSat Reg.TWN_LASTTO ((s.now - t) / 64)
    else { s with twin.resume := left }

/-- Time since an instant is at least `d` edge units. -/
def State.elapsed (s : State) (t d : Nat) : Bool := decide (t + d ≤ s.now)

/-- A timer that may run has reached `d` edge units. -/
def State.ran (s : State) (t : Option Nat) (d : Nat) : Bool :=
  match t with
  | none => false
  | some t => s.elapsed t d

/-- Vs in mV (R129). -/
def State.vsMv (s : State) : Rat := (s.sup.vs : Rat) / 1000

/-- The mean of VTAP0-3, in mV at bus scale (R120, R59). -/
def State.busMv (s : State) : Rat :=
  (s.regAt Reg.TLM_RAW_VTAP 0 + s.regAt Reg.TLM_RAW_VTAP 1 + s.regAt Reg.TLM_RAW_VTAP 2 + s.regAt Reg.TLM_RAW_VTAP 3 : Nat) / 4

/-- The taps in the regulation point; no tap selected counts as all four (R133). -/
def State.taps (s : State) : List Nat :=
  let sel := s.reg Reg.SHR_CTL_TAPSEL
  (List.range 4).filter (fun k => sel = 0 || bitOf sel k)

/-- The regulation point in mV: the mean of the selected taps (R133). -/
def State.rpMv (s : State) : Rat :=
  let ts := s.taps
  (ts.foldl (fun n k => n + s.regAt Reg.TLM_RAW_VTAP k) 0 : Nat) / (max 1 ts.length : Nat)

/-- The output of bay `b` in mV at bus scale (R102). -/
def State.voutMv (s : State) (b code : Nat) : Int := nearestAway ((code * s.regAt Reg.LE_VSCAL b : Nat) / 32768)

/-- V_sw of a fuse channel in mV (R271). -/
def State.vsw (s : State) (c : Nat) : Rat := (pinMv (s.regAt Reg.TLM_RAW_FV c) - 900) * s.regAt Reg.FUS_FVSCAL c

/-- FI of a fuse channel in mV at the pin from its zero (R271). -/
def State.fiPin (s : State) (c : Nat) : Rat := pinMv (s.regAt Reg.TLM_RAW_FI c) - 200

/-- The current of a fuse channel in mA, 0 while it has no scale (R271, R475). -/
def State.fiMa (s : State) (c : Nat) : Rat := s.fiPin c * s.regAt Reg.FUS_ISCAL c

/-- FGS in mV at the pin. -/
def State.fgsMv (s : State) (c : Nat) : Rat := pinMv (s.regAt Reg.TLM_RAW_FGS c)

/-- Power-good of fuse channel `c` (R272). -/
def State.pg (s : State) (c : Nat) : Bool := bitOf (s.reg Reg.FUS_PG) c

/-- Absolute value of a rational. -/
def absQ (q : Rat) : Rat := if q < 0 then -q else q

/-- Sum of rationals. -/
def sumQ (l : List Rat) : Rat := l.foldl (· + ·) 0

/-- Mean of rationals; 0 of none. -/
def meanQ (l : List Rat) : Rat := if l.isEmpty then 0 else sumQ l / (l.length : Nat)

/-- An event whose parameter 0 no rule states: a free value. -/
def State.raiseP1 (s : State) (code sev unit p1 : Nat) : State :=
  let (v, s) := s.takeFree
  s.raise code sev unit (v % 2 ^ 32) p1

end Sys2Proof.Machine
end

