-- ==== Sys2Proof/Machine/FuseCmd.lean ====
section
/-! DEFINITION. What the owner of a fuse channel asks of it, and the channel's way from state to state (R272). -/

namespace Sys2Proof.Machine

/-- FUS_ST codes (R272). -/
def fusUnused : Nat := 0
def fusOff : Nat := 1
def fusRamp : Nat := 2
def fusSettle : Nat := 3
def fusOn : Nat := 4
def fusRetryWait : Nat := 5
def fusLatched : Nat := 6
def fusOpening : Nat := 7

/-- The state of channel `c`. -/
def State.fst (s : State) (c : Nat) : Nat := s.regAt Reg.FUS_ST c

/-- The pass element is driven (FULL). -/
def State.fusFull (s : State) (c : Nat) : Bool := s.fst c == fusSettle || s.fst c == fusOn

/-- Channel `c` enters a state: its timers start again, and a departure from ON clears its bit of FUS_PG (R272). -/
def State.fusEnter (s : State) (c st : Nat) : State :=
  let f := s.fuse c
  let s := s.setFuse c { f with stAt := s.now, goodAt := none, lapseAt := none, fgsAt := none, vswAt := none, vdsAt := none }
  let s := if st = fusOn then s else s.putBit Reg.FUS_PG c false
  (s.putAt Reg.FUS_ST c st).putBit Reg.FUS_LATCHED c (st == fusLatched)

/-- R272: from OFF a close asked for begins: RAMP, or FULL at once where V_sw is within FUS_VDSPG already. -/
def State.fusClose (s : State) (c : Nat) : State :=
  let f := s.fuse c
  let s := s.setFuse c { f with winBad := 0, winV := s.vsw c, winAt := s.now }
  if s.vsw c ≤ s.regAt Reg.FUS_VDSPG c then s.fusEnter c fusSettle else s.fusEnter c fusRamp

/-- R272: the owner asks for close. In LOCKOUT states freeze (R282). -/
def State.closeReq (s : State) (c : Nat) : State :=
  let f := s.fuse c
  let s := s.setFuse c { f with want := true, reqAt := if f.want then f.reqAt else s.now }
  if s.fst c = fusOff ∧ s.mode ≠ modeLockout then s.fusClose c else s

/-- R272: the channel begins to open. -/
def State.fusOpen (s : State) (c : Nat) (why : OpenWhy) : State :=
  let f := s.fuse c
  (s.setFuse c { f with why := why }).fusEnter c fusOpening

/-- R272, R282: the owner asks for open: through OPENING from a driven state, to OFF from RETRYWAIT. -/
def State.openReq (s : State) (c : Nat) : State :=
  let f := s.fuse c
  let s := s.setFuse c { f with want := false }
  if s.mode = modeLockout then s
  else if s.fst c = fusRamp ∨ s.fst c = fusSettle ∨ s.fst c = fusOn then s.fusOpen c .owner
  else if s.fst c = fusRetryWait then s.fusEnter c fusOff
  else s

/-- The bit of FUS_RETRYMASK that governs a trip kind (R284); none where the kind is never retried (R277). -/
def retryBit (kind : Nat) : Option Nat :=
  if kind = 3 then some 0
  else if kind = 1 ∨ kind = 2 then some 1
  else if 4 ≤ kind ∧ kind ≤ 6 then some 2
  else if kind = 7 then some 3
  else if kind = 8 then some 4
  else none

/-- Retries started within the last FUS_RETRYWIN seconds (R280). -/
def State.retriesNow (s : State) (c : Nat) : List Nat :=
  (s.fuse c).retries.filter (fun t => s.now < t + s.regAt Reg.FUS_RETRYWIN c * edgeSec)

/-- R280: a trip of this kind may still be retried. -/
def State.mayRetry (s : State) (c kind : Nat) : Bool :=
  match retryBit kind with
  | none => false
  | some k => bitOf (s.regAt Reg.FUS_RETRYMASK c) k && decide ((s.retriesNow c).length < s.regAt Reg.FUS_RETRYN c)

/-- R280: a LATCHED channel is cleared (0 by FUS_CLR, 1 by presence). -/
def State.fusCleared (s : State) (c how : Nat) : State :=
  let f := s.fuse c
  let s := s.setFuse c { f with acc := 0, retries := [], breaker := false }
  let s := (s.putAt Reg.FUS_RETRIES c 0).putAt Reg.FUS_ACC c 0
  let s := s.raise 0x5113 1 0x0C c how
  let s := s.fusEnter c (if (s.fuse c).disable then fusUnused else fusOff)
  let f := s.fuse c
  let s := s.setFuse c { f with disable := false }
  if s.fst c = fusOff ∧ f.want ∧ s.mode ≠ modeLockout then s.fusClose c else s

end Sys2Proof.Machine
end

