-- ==== Sys2Proof/Machine/BayOps.lean ====
section
/-! DEFINITION. The phases of a bay and the bay's own states: what adding, shedding, joining and leaving do
(R82-R94, R138-R144, R477). -/

namespace Sys2Proof.Machine

/-- PH_PSTAT.STATE codes (R85). -/
def phAbsent : Nat := 0
def phWarm : Nat := 1
def phCond : Nat := 2
def phPend : Nat := 3
def phRamp : Nat := 4
def phFault : Nat := 5
def phNew : Nat := 6

/-- SHR_BAYST codes (R138). -/
def bayAbsent : Nat := 0
def bayPfc : Nat := 1
def bayInrush : Nat := 2
def bayJoin : Nat := 3
def bayActive : Nat := 4
def bayLeave : Nat := 5
def bayStandby : Nat := 6
def bayDeep : Nat := 7
def bayEjected : Nat := 8
def bayFault : Nat := 9

/-- The state of channel `n`. -/
def State.pst (s : State) (n : Nat) : Nat := s.regAt Reg.PH_PSTAT_STATE n

/-- The channel conducts: COND, PEND or RAMP (R85). -/
def State.conducts (s : State) (n : Nat) : Bool := s.pst n == phCond || s.pst n == phPend || s.pst n == phRamp

/-- The conducting channels of a bay, by phase index. -/
def State.conds (s : State) (b : Nat) : List Nat := (phaseIds b).filter s.conducts

/-- The warm channels of a bay. -/
def State.warms (s : State) (b : Nat) : List Nat := (phaseIds b).filter (fun n => s.pst n == phWarm)

/-- The channel is fitted (PH_PRESENT). -/
def State.fitted (s : State) (n : Nat) : Bool := bitOf (s.regAt Reg.PH_PRESENT (n / 6)) (n % 6)

/-- R477: the lead phase. -/
def State.lead (s : State) (b : Nat) : Option Nat :=
  (phaseIds b).find? (fun n => s.fitted n && s.pst n != phFault && s.pst n != phNew && s.pst n != phAbsent)

/-- Of some channels, the one longest in its state; a tie is broken by a free choice, then by index. -/
def State.longest (s : State) : List Nat → Option Nat
  | [] => none
  | n :: ns =>
    match s.longest ns with
    | none => some n
    | some m =>
      let a := (s.ph n).rank
      let c := (s.ph m).rank
      if a < c then some n else if c < a then some m
      else if Config.pick m < Config.pick n then some m else some n

/-- The state of bay `b`. -/
def State.bst (s : State) (b : Nat) : Nat := s.regAt Reg.SHR_BAYST b

/-- Bits of the channels of a bay. -/
def phaseMask (b : Nat) (p : Nat → Bool) : Nat :=
  (List.range 6).foldl (fun v k => if p (6 * b + k) then v + 2 ^ k else v) 0

/-- The registers that show a bay's phases follow them; a change of N restarts the dwell time (R89), and a bay that goes on
conducting re-spreads (R82). -/
def State.phRefresh (s : State) (b : Nat) : State :=
  let n := (s.conds b).length
  let old := s.regAt Reg.PH_N b
  let s := if n = old then s
    else
      let y := s.bay b
      let s := s.setBay b { y with dwellAt := some s.now, nMoved := true }
      if s.regAt Reg.PH_SHEDST b = 0 ∧ 1 ≤ n ∧ 1 ≤ old then s.putAt Reg.PH_SHEDST b 3 else s
  let s := (s.putAt Reg.PH_N b n).putAt Reg.PH_COND b (phaseMask b s.conducts)
  let s := s.putAt Reg.PH_WARM b (phaseMask b (fun m => s.pst m == phWarm))
  s.putAt Reg.PH_NEXTSHED b (match s.longest (s.conds b) with | none => 0 | some m => m % 6)

/-- A channel enters a state. -/
def State.setPst (s : State) (n st : Nat) : State :=
  let p := s.ph n
  let s := s.setPh n { p with rank := s.sup.rank }
  { s.putAt Reg.PH_PSTAT_STATE n st with sup.rank := s.sup.rank + 1 }

/-- R94, R92: the channel is new: unity gain, its offset to be taken. -/
def State.toNew (s : State) (n : Nat) : State :=
  let p := s.ph n
  let s := s.setPh n { p with newN := 0, newSum := 0, bal := 0, discard := false, ton := 0, first := false, cur := 0 }
  (((s.putAt Reg.PH_GAIN n 0x8000).putAt Reg.PH_PSTAT_TRIMVALID n 0).putAt Reg.PH_BAL n 0).setPst n phNew

/-- R89: the channel stops switching and is WARM, or NEW where its trim was discarded meanwhile (R92). -/
def State.toWarm (s : State) (n : Nat) : State :=
  if (s.ph n).discard then s.toNew n
  else
    let p := s.ph n
    let s := s.setPh n { p with bal := 0, ton := 0, first := false, cur := 0, rail := 0, clamp := false }
    ((s.putAt Reg.PH_BAL n 0).putAt Reg.PH_IPH n 0).setPst n phWarm

/-- R91: a shed in progress is cleared. -/
def State.clearShed (s : State) (b : Nat) : State :=
  let y := s.bay b
  let s := s.setBay b { y with ramp := none, abandon := none }
  let s := (phaseIds b).foldl (fun s n => if s.pst n = phPend ∨ s.pst n = phRamp then s.putAt Reg.PH_PSTAT_STATE n phCond else s) s
  s.putAt Reg.PH_SHEDST b 0

/-- Every conducting phase of the bay goes to WARM. -/
def State.allWarm (s : State) (b : Nat) : State :=
  let s := s.clearShed b
  ((s.conds b).foldl State.toWarm s).phRefresh b

/-- R85: every phase of the bay is ABSENT. -/
def State.allAbsent (s : State) (b : Nat) : State :=
  ((phaseIds b).foldl (fun s n => s.putAt Reg.PH_PSTAT_STATE n phAbsent) ((s.allWarm b))).phRefresh b

/-- R85, R94: presence is accepted: each fitted phase is WARM with its trim, or NEW. -/
def State.phasesFitted (s : State) (b : Nat) : State :=
  ((phaseIds b).foldl (fun s n =>
    if !s.fitted n then s.putAt Reg.PH_PSTAT_STATE n phAbsent
    else if s.regAt Reg.PH_PSTAT_TRIMVALID n = 1 then s.toWarm n
    else s.toNew n) s).phRefresh b

/-- R86, R87: a LEAP takes a warm phase to COND; `mask` is the trigger mask of event 0x2081. -/
def State.leap (s : State) (n mask : Nat) : State :=
  let b := n / 6
  let p := s.ph n
  let s := s.setPh n { p with bal := 0, first := true, ton := 0, rail := 0 }
  let s := ((s.putAt Reg.PH_BAL n 0).setPst n phCond).phRefresh b
  let s := (s.bumpAt Reg.PH_LEAPCNT b).bumpAt Reg.PH_ADDCNT b
  s.raise 0x2081 0 0x03 n mask

/-- R87: the phase warm longest is added; nothing where none is warm. -/
def State.addOne (s : State) (b mask : Nat) : State :=
  match s.longest (s.warms b) with
  | none => s
  | some n => s.leap n mask

/-- Several phases added, each the one warm longest. -/
def State.addMany (s : State) (b mask : Nat) : Nat → State
  | 0 => s
  | k + 1 => (s.addOne b mask).addMany b mask k

/-- The current target of the victim, in mA (R89, R91). -/
def State.victimTarget (s : State) (b : Nat) : Rat :=
  let y := s.bay b
  match y.ramp with
  | none => y.sum / (max 1 (s.regAt Reg.PH_N b) : Nat)
  | some (share, done) =>
    let len := max 1 (s.reg Reg.PH_SHEDRAMP)
    share * (len - min done len : Nat) / (len : Nat)

/-- R91: a trigger meets a shed in progress: the abandon takes effect at the bay's next period start, with every trigger of
the period. -/
def State.noteAbandon (s : State) (b bit : Nat) : State :=
  let y := s.bay b
  match y.abandon with
  | some (st, m, q) => s.setBay b { y with abandon := some (st, m ||| 2 ^ bit, q) }
  | none => s.setBay b { y with abandon := some (s.regAt Reg.PH_SHEDST b, 2 ^ bit, s.victimTarget b) }

/-- R91: the abandon: the victim returns to COND and the dwell time restarts. -/
def State.doAbandon (s : State) (b : Nat) : State :=
  let y := s.bay b
  match y.abandon with
  | none => s
  | some (st, m, q) =>
    let v := 6 * b + s.regAt Reg.PH_SHEDPH b
    let s := s.clearShed b
    let y := s.bay b
    let s := s.setBay b { y with dwellAt := some s.now }
    let s := (s.bumpAt Reg.PH_ABANDONS b).flag Reg.PH_EVT_FLAGS_ABANDON
    s.raise 0x2082 1 0x03 v (st + 256 * m + 65536 * satNat 16 (toUnitNat (q / 10)))

/-- The modes in which phases are added and shed (R58, R24). -/
def State.phasesManaged (s : State) : Bool :=
  s.mode == modeRun || s.mode == modeHoldup || s.mode == modeShadow

/-- R90, R91: a step seen in a bay, by its trigger bit. -/
def State.phaseStep (s : State) (b bit : Nat) : State :=
  if !s.phasesManaged || s.regAt Reg.PH_N b == 0 then s
  else if s.regAt Reg.PH_SHEDST b = 1 ∨ s.regAt Reg.PH_SHEDST b = 2 then s.noteAbandon b bit
  else if s.regAt Reg.PH_SHEDST b = 3 then s.addOne b (2 ^ bit)
  else
    let k := s.reg Reg.PH_LEAPSTEP
    s.addMany b (2 ^ bit) (if k = 0 then 6 else k)

/-- R93: a phase enters FAULT (reason 0 offset, 1 rail), with the offending pin voltage in 0.1 mV. A victim in PEND or RAMP
ends its shed without a count (R91). -/
def State.phFaulted (s : State) (n reason : Nat) (v : Rat) : State :=
  let b := n / 6
  let s := if s.pst n = phPend ∨ s.pst n = phRamp then s.clearShed b else s
  let p := s.ph n
  let s := s.setPh n { p with bal := 0, ton := 0, first := false, cur := 0, rail := 0, clamp := false }
  let s := (((s.putAt Reg.PH_IPH n 0).putAt Reg.PH_BAL n 0).setPst n phFault).phRefresh b
  (s.flag Reg.PH_EVT_FLAGS_PHFAULT).raise 0x2084 4 0x03 n (satNat 16 (toUnitNat v) + 65536 * reason)

/-- R138: a bay changes state. -/
def State.setBst (s : State) (b st : Nat) : State :=
  let old := s.bst b
  let y := s.bay b
  let y := if (st = bayJoin ∨ st = bayActive) ∧ ¬(old = bayJoin ∨ old = bayActive) then { y with svcAt := s.now } else y
  let y := if st = bayStandby then { y with sbyAt := s.now } else y
  ((s.setBay b y).putAt Reg.SHR_BAYST b st).flag Reg.SHR_FLAGS_BAYCHG

/-- The authority of the trims in mV: 0.01 % of Vs, 1.5 % in TADPOLE (R137, R58). -/
def State.trimAuth (s : State) : Rat :=
  let a := if s.mode = modeTadpole then 150 else min 150 (s.reg Reg.SHR_TAUTH)
  (a : Nat) * s.vsMv / 10000

/-- SHR_W and SHR_TRIM show w_b and t_b (R153). -/
def State.shareRefresh (s : State) (b : Nat) : State :=
  let y := s.bay b
  (s.putAtSat Reg.SHR_W b (toUnitNat (y.w * 255))).sputAt Reg.SHR_TRIM b (toUnit y.t)

/-- The weight, trim and drop compensation of a bay that leaves sharing become 0. -/
def State.outOfShare (s : State) (b : Nat) : State :=
  let y := s.bay b
  (s.setBay b { y with w := 0, t := 0, c := 0, trimN := 0, zeroAt := none, pendTrk := false }).shareRefresh b

/-- R139 step 7: the bay is ACTIVE with w_b = 1. -/
def State.bayActivate (s : State) (b : Nat) : State :=
  let y := s.bay b
  ((s.setBay b { y with w := 1, zeroAt := none, leaveEj := false }).setBst b bayActive).shareRefresh b

/-- Event 0x1144 with the join time in ms (R157). -/
def State.joined (s : State) (b : Nat) : State :=
  (s.bayActivate b).raise 0x1144 1 0x05 b (s.msSince (s.bay b).insAt)

/-- R139 step 5: the lead phase starts by LEAP; t_b makes Vref_b the bay's own output, within the authority. -/
def State.bayStart (s : State) (b n : Nat) (full : Bool) : State :=
  let y := s.bay b
  let t := clampRat (-s.trimAuth) s.trimAuth ((s.voutMv b (s.regAt Reg.TLM_RAW_VSB b) : Rat) - s.vsMv)
  let s := s.setBay b { y with w := 0, t := t, c := 0, zeroAt := none, leaveEj := false, okFrom := none, released := false,
                               lane := { y.lane with joinAt := s.now } }
  let s := ((s.setBst b bayJoin).leap n 32).shareRefresh b
  if full then s.joined b else s

/-- R139 step 5, R141, R477: a bay whose switch shows power-good, whose offsets are taken and that has a lead phase begins. A
bay that wakes from STANDBY or DEEP begins with w_b = 1. A chip in TADPOLE that is not owner begins none (R54). -/
def State.tryJoin (s : State) (b : Nat) : State :=
  let st := s.bst b
  let offsets := (phaseIds b).all (fun n => s.pst n != phNew)
  if (st = bayInrush ∨ (st = bayPfc ∧ (s.bay b).ok)) ∧ s.pg b ∧ offsets ∧ s.mode ≠ modeLockout
      ∧ ¬(s.mode = modeTadpole ∧ s.owner = false) then
    match s.lead b with
    | none => s
    | some n => s.bayStart b n (st == bayPfc)
  else s

/-- R139 step 3: BAYOKb is high: the fuse goes to RAMP, or a bay whose switch stayed FULL continues to join (R141). -/
def State.bayReady (s : State) (b : Nat) : State :=
  let y := s.bay b
  if s.bst b = bayPfc ∧ y.ok ∧ y.enLow = false ∧ s.mode ≠ modeLockout then
    let s := s.setBay b { y with okFrom := none }
    if s.fusFull b then (s.tryJoin b)
    else ((s.setBst b bayInrush).closeReq b).tryJoin b
  else s

/-- R144, R210: HOLDUP before RESTART: WALKDOWN, ON_BATTERY or HELD. -/
def State.beforeRestart (s : State) : Bool :=
  s.mode == modeHoldup && (s.reg Reg.HUP_STAT_STAGE == 1 || s.reg Reg.HUP_STAT_STAGE == 2 || s.reg Reg.HUP_STAT_STAGE == 6)

/-- R139 step 2: BAYENb high. In HOLDUP before RESTART it waits low (R144); SHR_OKTIME counts in RUN and TADPOLE. -/
def State.toPfc (s : State) (b : Nat) : State :=
  let y := s.bay b
  let wait := s.beforeRestart
  let timed := s.mode = modeRun ∨ s.mode = modeTadpole
  let s := s.setBay b { y with enLow := wait, okFrom := if timed then some s.now else none, insAt := s.now }
  (s.setBst b bayPfc).bayReady b

/-- R139 step 2: presence is accepted outside LOCKOUT. -/
def State.bayInserted (s : State) (b : Nat) : State :=
  let s := ((s.bump Reg.SHR_INSCNT).phasesFitted b).raise 0x1146 1 0x05 b s.mode
  s.toPfc b

/-- The phases of the bay go low at once and the bay leaves sharing. -/
def State.bayStop (s : State) (b : Nat) : State :=
  let y := s.bay b
  let s := s.setBay b { y with strip := false, okFrom := none, pendTrk := false, pendEj := false, leaveEj := false }
  (s.allWarm b).outOfShare b

/-- R144, R123: the bay enters FAULT; its switch is the caller's. -/
def State.bayToFault (s : State) (b : Nat) : State := (s.bayStop b).setBst b bayFault

/-- R140, R144: the bay is EJECTED: its switch OFF and BAYENb low. -/
def State.bayToEjected (s : State) (b : Nat) : State :=
  (((s.bayStop b).openReq b).setBst b bayEjected).bump Reg.SHR_EJCNT

/-- R140: the leave completes: STANDBY, or EJECTED. -/
def State.leaveDone (s : State) (b : Nat) : State :=
  if (s.bay b).leaveEj then s.bayToEjected b
  else (((s.allWarm b).outOfShare b)).setBst b bayStandby

/-- R140: LEAVE begins. -/
def State.leaveStart (s : State) (b : Nat) (ej : Bool) : State :=
  let y := s.bay b
  (s.setBay b { y with leaveEj := ej, w0 := y.w, zeroAt := none, pendTrk := false, pendEj := false }).setBst b bayLeave

/-- R141: a bay is brought into service: from STANDBY or DEEP, or out of a tracker's LEAVE. -/
def State.bringIn (s : State) (b : Nat) : State :=
  let y := s.bay b
  let s := s.setBay b { y with pendTrk := false, insAt := s.now }
  if s.bst b = bayStandby then
    match s.lead b with
    | none => s
    | some n => if s.pg b then s.bayStart b n true else s
  else if s.bst b = bayDeep then s.toPfc b
  else if s.bst b = bayLeave ∧ y.leaveEj = false then s.bayActivate b
  else s

end Sys2Proof.Machine
end

