-- ==== Sys2Proof/Machine/Sensors.lean ====
section
/-! DEFINITION. Temperatures as the blocks use them (R288, R291), and access to the strings, the estimators and the sensors. -/

namespace Sys2Proof.Machine

/-- String `k`, its estimator, and sensor `i` of R287. -/
def State.str (s : State) (k : Nat) : StrSt := if h : k < 8 then s.strs[k] else StrSt.reset
def State.setStr (s : State) (k : Nat) (v : StrSt) : State := { s with strs := s.strs.setIfInBounds k v }
def State.esti (s : State) (k : Nat) : EstSt := if h : k < 8 then s.ests[k] else EstSt.reset
def State.setEsti (s : State) (k : Nat) (v : EstSt) : State := { s with ests := s.ests.setIfInBounds k v }
def State.sensor (s : State) (i : Nat) : SenSt := if h : i < 52 then s.sensors[i] else SenSt.reset
def State.setSensor (s : State) (i : Nat) (v : SenSt) : State := { s with sensors := s.sensors.setIfInBounds i v }

/-- The strings. -/
def strIds : List Nat := List.range 8

/-- The sensor is broken (R291). -/
def State.broken (s : State) (i : Nat) : Bool :=
  if i < 20 then bitOf (s.reg Reg.THM_BROKEN) i else bitOf (s.reg Reg.THM_BTBROKEN) (i - 20)

/-- R291: the value of a sensor as it is used: a broken sensor reads its SHUT limit, or THM_BTSHUT. -/
def State.tempOf (s : State) (i : Nat) : Int :=
  if s.broken i then (if i < 20 then s.sregAt Reg.THM_SHUT i else s.sreg Reg.THM_BTSHUT) else (s.sensor i).temp

/-- The largest of some temperatures; a free value where there is none. -/
def maxTemp : List Int → Int
  | [] => Config.noSensor
  | [t] => t
  | t :: ts => max t (maxTemp ts)

/-- R236: the string temperature: the largest of the BT inputs selected by BST_BTMASK. -/
def State.strTemp (s : State) (k : Nat) : Int :=
  maxTemp (((List.range 4).filter (fun j => bitOf (s.regAt Reg.BST_BTMASK k) j)).map (fun j => s.tempOf (20 + 4 * k + j)))

/-- BV of a string code in mV (R242), and BI in mA, positive into the string (R219). -/
def State.bvMv (s : State) (k code : Nat) : Rat := pinMv code * s.regAt Reg.BST_BVSCAL k / 100
def State.biMa (s : State) (k code : Nat) : Rat := (pinMv code - 900) * s.regAt Reg.BST_BISCAL k

/-- The latest BV of string `k`, in mV, and the latest BI, in mA. -/
def State.bv (s : State) (k : Nat) : Rat := s.bvMv k (s.regAt Reg.TLM_RAW_STR (6 * k))
def State.bi (s : State) (k : Nat) : Rat := s.biMa k (s.regAt Reg.TLM_RAW_STR (6 * k + 1))

/-- Nameplate capacity in mA s (R242), the cells, and the chemistry. -/
def State.capMas (s : State) (k : Nat) : Nat := s.regAt Reg.BST_CAP k * 360000
def State.cells (s : State) (k : Nat) : Nat := s.regAt Reg.BST_CELLS k
def State.lithium (s : State) (k : Nat) : Bool := s.regAt Reg.BST_CFG_CHEM k == 1

/-- BV per cell in mV, from the 1 s mean. -/
def State.vCell (s : State) (k : Nat) : Rat := (s.str k).bvAvg / (s.cells k : Nat)

/-- The state of string `k` (R232). -/
def State.cst (s : State) (k : Nat) : Nat := s.regAt Reg.BST_CST k

/-- BST_CST codes (R232). -/
def strAbsent : Nat := 0
def strOff : Nat := 1
def strTrickle : Nat := 2
def strPrecharge : Nat := 3
def strFast : Nat := 4
def strTopoff : Nat := 5
def strTerminate : Nat := 6
def strMaintain : Nat := 7
def strTempwait : Nat := 8
def strHalt : Nat := 9

/-- A state that switches the stage (R232). -/
def chargingSt (st : Nat) : Bool := 2 ≤ st && st ≤ 5

/-- The mode the charger works by: a standby tracks its owner (R231); while the last frame heard still shows the partner as a
standby, the mode this chip left. -/
def State.workMode (s : State) : Nat :=
  if s.mode = modeShadow then
    match s.twin.partner with
    | none => modeShadow
    | some f => if f.mode.val = modeShadow then s.reg Reg.GL_MODE_PREV else f.mode.val
  else s.mode

end Sys2Proof.Machine
end

