-- ==== Sys2Proof/Machine/Samples.lean ====
section
/-! DEFINITION. What one sample adds to the windows of telemetry and to the measures of capping (R185, R358, R360). -/

namespace Sys2Proof.Machine

/-- The bay's IMON sum in mA: its conducting phases (R83, R85). -/
def State.imonSum (s : State) (b : Nat) : Rat := sumQ ((s.conds b).map (fun n => (s.ph n).cur))

/-- R58: TADPOLE before an image keeps only the bus voltage. -/
def State.coldTadpole (s : State) : Bool := s.mode == modeTadpole && !s.imgValid

/-- R360: the peak of a bay's current. -/
def State.bayPeak (s : State) (b : Nat) (q : Rat) : State :=
  let v := toUnit (q / 10)
  if s.sregAt Reg.TLM_PK_IBAY b < v then s.sputAt Reg.TLM_PK_IBAY b v else s

/-- ΣI_b - ΣBI in mA (R185, R358). -/
def State.shelfMa (s : State) : Rat := sumQ (bayIds.map s.imonSum) - sumQ (strIds.map s.bi)

/-- R360: the peaks of the shelf. -/
def State.shelfPeaks (s : State) (rp i : Rat) : State :=
  let v := toUnitNat rp
  let s := (s.putSat Reg.TLM_PK_VMAX (max (s.reg Reg.TLM_PK_VMAX) v)).put Reg.TLM_PK_VMIN (min (s.reg Reg.TLM_PK_VMIN) v)
  if s.coldTadpole then s
  else
    let s := s.putSat Reg.TLM_PK_IMAX (max (s.reg Reg.TLM_PK_IMAX) (toUnitNat (i / 100)))
    s.putSat Reg.TLM_PK_PMAX (max (s.reg Reg.TLM_PK_PMAX) (toUnitNat (rp * i / 1000000)))

/-- R185, R181: the charge power of the strings now, in microwatts. -/
def State.chargeUw (s : State) : Rat :=
  sumQ (strIds.map (fun k => if 0 < s.bi k then s.bi k * s.bv k else 0))

/-- R185, R358: one sample of the shelf at the regulation point `rp` in mV. -/
def State.shelfSample (s : State) (rp : Rat) : State :=
  let i := s.shelfMa
  let il := if i < 0 then 0 else i
  let w := s.tlm
  { s with tlm := { w with iAcc := w.iAcc + il, pAcc := w.pAcc + rp * il, oAcc := w.oAcc + rp * i, cAcc := w.cAcc + s.chargeUw,
                           n := w.n + 1 } }.shelfPeaks rp il

/-- R358, R360: one sample of a string. -/
def State.strTlm (s : State) (k : Nat) : State :=
  let y := s.str k
  let s := s.setStr k { y with tvAcc := y.tvAcc + s.bv k, tiAcc := y.tiAcc + s.bi k, tN := y.tN + 1 }
  let v := toUnit (-(s.bi k) / 10)
  if s.sregAt Reg.TLM_PK_IDIS k < v then s.sputAt Reg.TLM_PK_IDIS k v else s

end Sys2Proof.Machine
end

