-- ==== Sys2Proof/Machine/Tracker.lean ====
section
/-! DEFINITION. The efficiency tracker: loads, reserves, modelled loss, the choice, and reserve restoration (R146-R151). -/

namespace Sys2Proof.Machine

/-- TRK_IRATE in mA (R155). -/
def State.irate (s : State) (b : Nat) : Nat := 100 * s.regAt Reg.TRK_IRATE b

/-- The bay is in service: JOIN, ACTIVE or LEAVE (R147). -/
def State.inService (s : State) (b : Nat) : Bool := s.bst b == bayJoin || s.bst b == bayActive || s.bst b == bayLeave

/-- Available bays (R149). -/
def State.avail (s : State) (b : Nat) : Bool := s.inService b || s.bst b == bayStandby || s.bst b == bayDeep

/-- R147: the armed class: the largest accepted within the last TRK_ARMWIN cycles. -/
def State.armedClass (s : State) : Nat :=
  (List.range 4).foldl (fun m k =>
    match s.sup.arm.toList[k]? with
    | some (some c) => if s.reg Reg.WHL_CYC ≤ c + s.reg Reg.TRK_ARMWIN then k + 1 else m
    | _ => m) 0

/-- R147: the transient reserve I_T in mA. -/
def State.transient (s : State) : Nat :=
  let k := s.armedClass
  if k = 0 then 0 else 100 * s.regAt Reg.TRK_TRES (k - 1)

/-- The summed ratings of the `r` highest-rated of some bays. -/
def topRated (rates : List Nat) (r : Nat) : Nat := ((rates.mergeSort (fun a b => b ≤ a)).take r).foldl (· + ·) 0

/-- R147: both reserves hold for a set of bays at a load in mA. -/
def State.reserves (s : State) (bays : List Nat) (iv : Rat) : Bool :=
  let rates := bays.map s.irate
  let total := rates.foldl (· + ·) 0
  let red := topRated rates (s.reg Reg.TRK_RED)
  decide (iv * (1 + (s.reg Reg.TRK_HEAD : Rat) / 1000) ≤ ((total : Nat) : Rat) - (red : Nat)) && decide (iv + s.transient ≤ total)

/-- R148: the loss of bay `b` with `n` phases at a current in mA, in 0.1 W; none where infeasible. -/
def State.lossN (s : State) (b n : Nat) (i : Rat) : Option Rat :=
  let pt := fun k => (100 * s.regAt Reg.TRK_IPT (b * 16 + k) : Nat)
  let v := fun k => s.regAt Reg.TRK_LT (b * 96 + (n - 1) * 16 + k)
  if i < pt 0 then (if v 0 = 0xFFFF then none else some (Config.lossBelow (v 0) i))
  else match (List.range 15).find? (fun k => decide (i ≤ pt (k + 1))) with
    | none => none
    | some k =>
      if v k = 0xFFFF ∨ v (k + 1) = 0xFFFF then none
      else
        let span : Rat := (pt (k + 1) : Rat) - pt k
        some (if span = 0 then v k else (v k : Rat) + (i - pt k) / span * ((v (k + 1) : Rat) - v k))

/-- R148: the least feasible loss over N, with its N. -/
def State.lossBest (s : State) (b : Nat) (i : Rat) : Option (Rat × Nat) :=
  [1, 2, 3, 4, 5, 6].foldl (fun best n =>
    match s.lossN b n i, best with
    | none, r => r
    | some q, none => some (q, n)
    | some q, some (p, m) => if q < p then some (q, n) else some (p, m)) none

/-- The share of bay `b` in a set, in mA (R148). -/
def State.shareOf (s : State) (bays : List Nat) (b : Nat) (iv : Rat) : Rat :=
  let w := (bays.map (fun c => s.regAt Reg.SHR_SHW c)).foldl (· + ·) 0
  (s.regAt Reg.SHR_SHW b : Rat) * iv / (max 1 w : Nat)

/-- R148: the modelled loss of a set of bays in 0.1 W, with each bay's N: the cheapest, or the N given. -/
def State.setLoss (s : State) (bays : List Nat) (iv : Rat) (mul : Nat) (nOf : Option (Nat → Nat)) : Option Rat :=
  let per := bays.foldl (fun (acc : Option Rat) b =>
    let i := s.shareOf bays b iv
    let q := match nOf with
      | none => (s.lossBest b i).map (fun p => p.1)
      | some f => if 1 ≤ f b ∧ f b ≤ 6 then s.lossN b (f b) i else none
    match acc, q with
    | some a, some q => some (a + q * mul / 16384 + i * i * (s.bay b).rdrop / 100000000000)
    | _, _ => none) (some 0)
  let idle := (bayIds.filter (fun b => s.avail b && s.bst b != bayDeep && !bays.contains b)).length
  per.map (fun q => q + (idle * s.reg Reg.TRK_SBYLOSS : Nat))

/-- R149: group of the rank order. -/
def State.rankGroup (s : State) (b : Nat) : Nat := if s.inService b then 0 else if s.bst b = bayStandby then 1 else 2

/-- R149: bay `a` ranks before bay `b` at a share in mA. -/
def State.ranksBefore (s : State) (i : Rat) (a b : Nat) : Bool :=
  let key := fun c => (s.lossBest c i).map (fun p => p.1)
  if s.rankGroup a ≠ s.rankGroup b then decide (s.rankGroup a < s.rankGroup b)
  else
    let la := key a
    let lb := key b
    if la ≠ lb then (match la, lb with | some x, some y => decide (x < y) | some _, none => true | none, _ => false)
    else if s.regAt Reg.TRK_BAYSEC a ≠ s.regAt Reg.TRK_BAYSEC b then
      decide (s.regAt Reg.TRK_BAYSEC a < s.regAt Reg.TRK_BAYSEC b)
    else decide (a ≤ b)

/-- Available bays in rank order at a share. -/
def State.ranked (s : State) (i : Rat) : List Nat := (bayIds.filter s.avail).mergeSort (s.ranksBefore i)

/-- A configuration: bays, entry of TRK_VTAB, modelled loss. -/
structure Choice where
  bays : List Nat
  vsel : Nat
  loss : Rat
deriving DecidableEq, Repr

/-- The candidate voltages: entry, voltage in mV, multiplier (R149). -/
def State.voltages (s : State) : List (Nat × Rat × Nat) :=
  if s.isSet Reg.TRK_CTL_VPOL then
    (List.range 4).map (fun k => (k, ((10 * s.regAt Reg.TRK_VTAB_SP k : Nat) : Rat), s.regAt Reg.TRK_VTAB_MUL k))
  else [(s.reg Reg.TRK_VSEL, s.vsMv, 16384)]

/-- R147: I_V at a voltage in mV. -/
def State.loadAt (s : State) (v : Rat) : Rat := if v = 0 then s.sup.iLoad else s.sup.iLoad * s.vsMv / v

/-- R149: the cheapest feasible candidate. -/
def State.cheapest (s : State) : Option Choice :=
  s.voltages.foldl (fun best v =>
    let iv := s.loadAt v.2.1
    let n := (bayIds.filter s.avail).length
    (List.range n).foldl (fun best k =>
      let bays := (s.ranked (iv / (k + 1 : Nat))).take (k + 1)
      if s.reserves bays iv then
        match s.setLoss bays iv v.2.2 none, best with
        | none, r => r
        | some q, none => some ⟨bays, v.1, q⟩
        | some q, some c => if q < c.loss then some ⟨bays, v.1, q⟩ else some c
      else best) best) none

/-- R150: the modelled loss of the configuration in force; none where it is infeasible. -/
def State.lossInForce (s : State) : Option Rat :=
  let bays := bayIds.filter s.inService
  let v := if s.isSet Reg.TRK_CTL_VPOL then
      (((10 * s.regAt Reg.TRK_VTAB_SP (s.reg Reg.TRK_VSEL) : Nat) : Rat), s.regAt Reg.TRK_VTAB_MUL (s.reg Reg.TRK_VSEL))
    else (s.vsMv, 16384)
  let iv := s.loadAt v.1
  if s.reserves bays iv then s.setLoss bays iv v.2 (some (fun b => s.regAt Reg.PH_NT b)) else none

/-- PH_NT of a bay (R150, R154). -/
def State.setNt (s : State) (b n : Nat) : State := (s.putAt Reg.PH_NT b n).putAt Reg.TRK_NT b n

/-- R150: reserves that cannot be met. -/
def State.reserveShort (s : State) : State :=
  let mask := bayIds.foldl (fun m b => if s.avail b then m + 2 ^ b else m) 0
  (s.flag Reg.TRK_FLAGS_RESHORT).raiseP1 0x2126 4 0x06 mask

/-- R150: the choice is adopted. -/
def State.adopt (s : State) (c : Choice) (old : Option Rat) : State :=
  let keep := bayIds.filter (fun b => !c.bays.contains b && s.inService b &&
    (s.bst b == bayJoin || !s.elapsed (s.bay b).svcAt (s.reg Reg.TRK_BAYDWELL * edgeSec)))
  let bays := bayIds.filter (fun b => c.bays.contains b || keep.contains b)
  let v := (s.voltages.find? (fun v => v.1 == c.vsel)).getD (0, s.vsMv, 16384)
  let iv := s.loadAt v.2.1
  let loss := (s.setLoss bays iv v.2.2 none).getD c.loss
  let nOf := fun b => ((s.lossBest b (s.shareOf bays b iv)).map (fun p => p.2)).getD 6
  let mask := bays.foldl (fun m b => m + 2 ^ b) 0
  let s := bays.foldl (fun s b => (s.setNt b (nOf b)).bringIn b) s
  let s := bayIds.foldl (fun s b =>
    if !bays.contains b && s.inService b then
      let y := s.bay b
      (s.setBay b { y with pendTrk := true }).setNt b 0
    else s) s
  let s := if s.isSet Reg.TRK_CTL_VPOL ∧ c.vsel ≠ s.reg Reg.TRK_VSEL then
      { s with sup.vPend := some (10000 * s.regAt Reg.TRK_VTAB_SP c.vsel) }.put Reg.TRK_VSEL c.vsel else s
  let s := (s.put Reg.TRK_ACTMASK mask).putSat Reg.TRK_LOSS (toUnitNat loss)
  let s := s.putSat Reg.TRK_ALTLOSS (match old with | none => 0 | some q => toUnitNat q)
  ((s.bump Reg.TRK_CHGCNT).flag Reg.TRK_FLAGS_CHANGE).raiseP1 0x2125 0 0x06 (mask + 256 * c.vsel)

/-- R149, R150: one run of the tracker. -/
def State.trackerChoose (s : State) : State :=
  match s.cheapest with
  | none =>
    let s := bayIds.foldl (fun s b => if s.avail b then (s.setNt b 6).bringIn b else s) s
    s.reserveShort
  | some c =>
    let old := s.lossInForce
    match old with
    | none => s.adopt c old
    | some q => if c.loss + s.reg Reg.TRK_MINSAVE ≤ q then s.adopt c old else s

/-- R151: TRK_CAPI, in 100 mA. -/
def State.publishCapi (s : State) : State :=
  let rates := (bayIds.filter s.avail).map s.irate
  let v := rates.foldl (· + ·) 0 - topRated rates (s.reg Reg.TRK_RED) - s.transient
  s.putSat Reg.TRK_CAPI (v / 100)

/-- R146, R147: I_L of the cycle that closed. -/
def State.loadOfCycle (s : State) : Rat :=
  sumQ (bayIds.map (fun b => (s.bay b).iCyc)) + (if s.sup.dN = 0 then 0 else s.sup.dAcc / s.sup.dN)

/-- Step 3 of R25: the tracker at angle 0, from the first that closes a complete cycle in RUN. -/
def State.trackerRun (s : State) : State :=
  let s := s.put Reg.TRK_ARMCLS s.armedClass
  if s.mode = modeRun ∧ s.sup.cycIn = false then
    let il := s.loadOfCycle
    let s := { s with sup.iLoad := il }.putSat Reg.TRK_ILOAD (toUnitNat (il / 100))
    let s := if s.isSet Reg.TRK_CTL_EN then s.trackerChoose else s
    { s with sup.trkDone := s.isSet Reg.TRK_CTL_EN }.publishCapi
  else { s with sup.cycIn := false }.publishCapi

/-- R150: bays are brought in by rank until the reserves hold, or none remain. -/
def State.bringUntil (s : State) : Nat → State
  | 0 => s
  | k + 1 =>
    let bays := bayIds.filter s.inService
    let iv := s.sup.iLoad
    if s.reserves bays iv then s
    else
      match (s.ranked (iv / (bays.length + 1 : Nat))).find? (fun b => s.bst b == bayStandby || s.bst b == bayDeep) with
      | none => s.reserveShort
      | some b => (s.bringIn b).bringUntil k

/-- R150: reserve restoration, at once, when a bay leaves between the tracker's runs. -/
def State.restoreReserves (s : State) : State :=
  if s.mode = modeRun ∧ s.isSet Reg.TRK_CTL_EN ∧ s.sup.trkDone then s.bringUntil 9 else s

end Sys2Proof.Machine
end

