-- ==== Sys2Proof/Machine/Steps.lean ====
section
/-! DEFINITION. Load steps: WARN pulses, feed-forward, and the step signals of R90 (R158-R167, R171). -/

namespace Sys2Proof.Machine

/-- R136: the bay is in sharing: in service, not overridden (R119), not dropped by a following error (R123). -/
def State.inShare (s : State) (b : Nat) : Bool :=
  s.inService b && s.regAt Reg.LE_STAT_OVR b == 0 && s.regAt Reg.LE_STAT_FEACT b == 0

/-- R136: the weight W_b; equal weights before an image is in force (R58). -/
def State.weight (s : State) (b : Nat) : Rat :=
  if s.mode = modeTadpole ∧ s.imgValid = false then (s.bay b).w else (s.bay b).w * s.regAt Reg.SHR_SHW b / 256

/-- R136: the sum of the weights of the bays in sharing. -/
def State.weightSum (s : State) : Rat := sumQ ((bayIds.filter s.inShare).map s.weight)

/-- WARN input `i`. -/
def State.warnIn (s : State) (i : Nat) : WarnSt := if h : i < 16 then s.step.warn[i] else ⟨none, none, none, 0⟩
def State.setWarn (s : State) (i : Nat) (v : WarnSt) : State := { s with step.warn := s.step.warn.setIfInBounds i v }

/-- Feed-forward of class `k + 1`. -/
def State.ffOf (s : State) (k : Nat) : FfSt := if h : k < 4 then s.step.ff[k] else ⟨0, none, []⟩
def State.setFf (s : State) (k : Nat) (v : FfSt) : State := { s with step.ff := s.step.ff.setIfInBounds k v }

/-- STP_ENV and STP_STAT.HOLD show a class's envelope and hold. -/
def State.ffShow (s : State) (k : Nat) : State :=
  let f := s.ffOf k
  (s.putAt Reg.STP_ENV k (toUnitNat (f.env * 64))).putBit Reg.STP_STAT_HOLD k f.hold.isSome

/-- R165: one injection: the envelope rises by 1, saturating at 4, and the hold starts. -/
def State.inject (s : State) (k : Nat) : State :=
  let f := s.ffOf k
  (s.setFf k { f with env := min 4 (f.env + 1), hold := some s.now }).ffShow k

/-- R165: a step ends the hold of a class as a hit, after the injections still waiting have taken effect. -/
def State.ffHitClass (s : State) (k : Nat) : State :=
  let f := s.ffOf k
  if f.hold.isNone ∧ f.wait.isEmpty then s
  else
    let s := s.setFf k { f with env := min 4 (f.env + (f.wait.length : Nat)), hold := none, wait := [] }
    (s.ffShow k).bumpAt Reg.STP_HIT k

/-- R90, R165: a step seen in bay `b` by trigger bit 0 or 1. -/
def State.stepSeen (s : State) (b bit : Nat) : State :=
  let hit := s.inShare b
  let s := s.phaseStep b bit
  if hit && s.phasesManaged then (List.range 4).foldl State.ffHitClass s else s

/-- R172, R58: envelopes and holds become 0 at the change to TADPOLE. -/
def State.ffClear (s : State) : State :=
  (List.range 4).foldl (fun s k => (s.setFf k ⟨0, none, []⟩).ffShow k) s

/-- R166: the step term of bay `b` in 1/65,536 of duty. -/
def State.sff (s : State) (b : Nat) : Int :=
  let total := s.weightSum
  if s.inShare b && total != 0 && s.phasesManaged then
    let q := sumQ ((List.range 4).map (fun k => (s.ffOf k).env * s.regAt Reg.STP_FFINC (4 * b + k)))
    nearestAway (q * s.reg Reg.STP_KREF * s.weight b / total)
  else 0

/-- R164: what an accepted pulse of class `c` does. -/
def State.warnActs (s : State) (c : Nat) : State :=
  if s.phasesManaged then
    let s := { s with sup.arm := s.sup.arm.setIfInBounds (c - 1) (some (s.reg Reg.WHL_CYC)) }
    let m := s.reg Reg.PH_WARNMIN
    let s := if m ≠ 0 ∧ m ≤ c then bayIds.foldl (fun s b => s.phaseStep b 2) s else s
    if s.isSet Reg.STP_CTL_FFEN then
      let f := s.ffOf (c - 1)
      s.setFf (c - 1) { f with wait := f.wait ++ [s.now] }
    else s
  else s

/-- R159: the class of a width in edge units: 1 to 4, 0 malformed, 5 runt. -/
def warnClass (w : Nat) : Nat :=
  if w < 3200 then 5
  else if 4800 ≤ w ∧ w ≤ 8000 then 1
  else if 11200 ≤ w ∧ w ≤ 14400 then 2
  else if 17600 ≤ w ∧ w ≤ 20800 then 3
  else if 24000 ≤ w ∧ w ≤ 27200 then 4
  else 0

/-- At most one event per second from an input (R159, R160). -/
def State.secondPassed (s : State) (t : Option Nat) : Bool :=
  match t with
  | none => true
  | some t => s.elapsed t edgeSec

/-- R160: STP_WLAST of input `i`. -/
def State.setWlast (s : State) (i c : Nat) : State :=
  let v := s.regAt Reg.STP_WLAST (i / 2)
  s.putAt Reg.STP_WLAST (i / 2) (if i % 2 = 0 then v / 16 * 16 + c else v % 16 + 16 * c)

/-- R159, R160: a pulse of input `i` classified. -/
def State.warnPulse (s : State) (i fall rise : Nat) : State :=
  let w := rise - fall
  let c := warnClass w
  let x := s.warnIn i
  if c = 5 then s.bump Reg.STP_WRUNT
  else if c = 0 then
    let s := (s.bumpAt Reg.STP_WBAD i).flag Reg.STP_FLAGS_MALFORMED
    if s.secondPassed x.badAt then (s.setWarn i { x with badAt := some s.now }).raise 0x2140 2 0x07 i (w / 16) else s
  else
    let close := match x.fall with
      | none => none
      | some f => if fall < f + 20 * edgeUs then some (fall - f) else none
    match close with
    | some gap =>
      let s := (s.bumpAt Reg.STP_WRATE i).flag Reg.STP_FLAGS_RATE
      if s.secondPassed x.rateAt then (s.setWarn i { x with rateAt := some s.now }).raise 0x2142 2 0x07 i (gap / 16) else s
    | none =>
      let s := s.setWarn i { x with fall := some fall }
      ((s.bumpAt Reg.STP_WACC i).setWlast i c).warnActs c

/-- The input is in use and not stuck (R158, R161). -/
def State.warnHeard (s : State) (i : Nat) : Bool := bitOf (s.reg Reg.STP_WEN) i && !bitOf (s.reg Reg.STP_WSTUCK) i

/-- WARN_PULSE (R159): a width beyond STP_STUCKT is no pulse. -/
def execWarnPulse (t : Edges) (i : Fin 16) (fall rise : Edges) (s : State) : Host.Outcome State Fault Refusal :=
  live t s fun s =>
    let s := s.putBit Reg.STP_WLEVEL i.val false
    if s.warnHeard i.val ∧ rise - fall ≤ s.reg Reg.STP_STUCKT * edgeUs then s.warnPulse i.val fall rise else s

/-- WARN_STUCK (R161). -/
def execWarnStuck (t : Edges) (i : Fin 16) (fall : Edges) (s : State) : Host.Outcome State Fault Refusal :=
  live t s fun s =>
    let s := s.putBit Reg.STP_WLEVEL i.val true
    if s.warnHeard i.val ∧ fall + s.reg Reg.STP_STUCKT * edgeUs < s.now then
      let x := s.warnIn i.val
      let s := s.setWarn i.val { x with stuckAt := fall }
      let s := (s.putBit Reg.STP_WSTUCK i.val true).bumpAt Reg.STP_WBAD i.val
      (s.flag Reg.STP_FLAGS_STUCK).raise 0x2141 4 0x07 i.val s.mode
    else s

/-- WARN_RELEASED (R161): high for 1 ms without a break. -/
def execWarnReleased (t : Edges) (i : Fin 16) (s : State) : Host.Outcome State Fault Refusal :=
  live t s fun s =>
    if bitOf (s.reg Reg.STP_WSTUCK) i.val then
      let s := (s.putBit Reg.STP_WSTUCK i.val false).putBit Reg.STP_WLEVEL i.val false
      (s.flag Reg.STP_FLAGS_RELEASED).raise 0x2143 1 0x07 i.val ((s.now - edgeMs - (s.warnIn i.val).stuckAt) / edgeMs)
    else s

/-- FF_INJECTION (R165): the oldest waiting injection of the class has waited out STP_FFDLY. -/
def execFfInjection (t : Edges) (c : Fin 4) (s : State) : Host.Outcome State Fault Refusal :=
  live t s fun s =>
    let f := s.ffOf c.val
    match f.wait with
    | [] => s
    | a :: rest =>
      if s.elapsed a (s.regAt Reg.STP_FFDLY c.val * edgeUs) then (s.setFf c.val { f with wait := rest }).inject c.val else s

/-- FF_HOLD_EXPIRY (R165): the hold ends as a miss. -/
def execFfHoldExpiry (t : Edges) (c : Fin 4) (s : State) : Host.Outcome State Fault Refusal :=
  live t s fun s =>
    let f := s.ffOf c.val
    if s.ran f.hold (s.reg Reg.STP_HOLDT * edgeUs) then
      ((s.setFf c.val { f with hold := none }).ffShow c.val).bumpAt Reg.STP_MISS c.val
    else s

/-- R165: 1 us of decay of one envelope. -/
def State.ffDecay (s : State) (k : Nat) : State :=
  let f := s.ffOf k
  if f.hold.isSome then s
  else
    let e := f.env * (1 - 1 / (max 1 (s.reg Reg.STP_FFTAU) : Nat))
    (s.setFf k { f with env := if e < 1 / 256 then 0 else e }).ffShow k

/-- FF_DECAY_STEP (R165). -/
def execFfDecayStep (t : Edges) (s : State) : Host.Outcome State Fault Refusal :=
  live t s fun s => (List.range 4).foldl State.ffDecay s

/-- R171: the regulation point is below STP_VDEEP: told once per sag episode, or once per 10 ms when no string catches. -/
def State.deepSag (s : State) : State :=
  let due := if s.step.catching ≠ 0 then !s.step.deepTold
    else (match s.step.deepAt with | none => true | some t => s.elapsed t (10 * edgeMs))
  if due then
    let s := { s with step.deepAt := some s.now, step.deepTold := s.step.catching != 0 }.flag Reg.STP_FLAGS_DEEP
    s.raise 0x1161 4 0x07 (s.reg Reg.STP_VMIN) s.step.catching
  else s

/-- REGULATION_POINT_SAMPLE (R171, R133, R358): the taps are sampled, and the regulation point with them. -/
def execRegulationPointSample (t : Edges) (codes : Codes4) (s : State) : Host.Outcome State Fault Refusal :=
  live t s fun s =>
    let s := ((s.putAt Reg.TLM_RAW_VTAP 0 codes.c0.toNat).putAt Reg.TLM_RAW_VTAP 1 codes.c1.toNat)
    let s := ((s.putAt Reg.TLM_RAW_VTAP 2 codes.c2.toNat).putAt Reg.TLM_RAW_VTAP 3 codes.c3.toNat)
    let rp := s.rpMv
    let s := { s with sup.rpAcc := s.sup.rpAcc + rp, sup.rpN := s.sup.rpN + 1 }.shelfSample rp
    let s := s.put Reg.STP_VMIN (min (s.reg Reg.STP_VMIN) (toUnitNat rp))
    if rp < 10 * s.reg Reg.STP_VDEEP then s.deepSag else s

end Sys2Proof.Machine
end

