-- ==== Sys2Proof/Machine/Phase.lean ====
section
/-! DEFINITION. The phase engine's samples, sheds and trims (R83, R88-R95). -/

namespace Sys2Proof.Machine

/-- R83: the current of a channel from its pin voltage, in mA. -/
def State.phaseCurrent (s : State) (n code : Nat) : Rat :=
  let off : Rat := (s.regAt Reg.PH_OFFSET n : Rat) / 10
  (s.regAt Reg.PH_GAIN n : Rat) / 32768 * (pinMv code - off) * s.regAt Reg.PH_ISCALE (n / 6)

/-- R90: the dI/dt trigger, judged between two consecutive samples of the bay's sum. -/
def State.didtSeen (s : State) (b : Nat) : Bool :=
  let y := s.bay b
  let lim := s.reg Reg.PH_DIDT
  let us : Rat := (y.sumAt - y.sumAt0 : Nat) / (edgeUs : Nat)
  lim != 0xFFFF && decide (lim * 100 * us < y.sum - y.sum0)

/-- The bay's sum takes a new sample: samples of one instant count as one. -/
def State.sumSample (s : State) (b : Nat) : State :=
  let y := s.bay b
  let q := s.imonSum b
  let y := if y.sumAt < s.now then { y with sumAt0 := y.sumAt, sum0 := y.sum, sumAt := s.now } else y
  (s.setBay b { y with sum := q, iAcc := y.iAcc + q, iN := y.iN + 1 }).bayPeak b q

/-- A converter code at the 0 V or 1.8 V rail (R93). -/
def atRail (code : Nat) : Bool := code == 0 || code == 0xFFFF

/-- R83, R93: a sample of a conducting phase. -/
def State.imonCurrent (s : State) (n code : Nat) : State :=
  let b := n / 6
  let p := s.ph n
  let q := s.phaseCurrent n code
  let rail := if atRail code then p.rail + 1 else 0
  let s := s.setPh n { p with cur := q, rail := rail }
  let s := s.sputAt Reg.PH_IPH n (toUnit (q / 10))
  if 8 ≤ rail then (s.phFaulted n 1 (pinMv code * 10)).sumSample b
  else
    let s := s.sumSample b
    if s.didtSeen b then s.stepSeen b 1 else s

/-- R93: the tracked offset has left its window. -/
def State.offsetBad (s : State) (v : Rat) : Bool :=
  decide (v < (s.reg Reg.PH_IZNOM : Rat) - s.reg Reg.PH_IZWIN) || decide ((s.reg Reg.PH_IZNOM : Rat) + s.reg Reg.PH_IZWIN < v)

/-- R93: a warm phase tracks its offset, a first-order average with a 10 ms time constant over samples 4 us apart. -/
def State.imonOffset (s : State) (n code : Nat) : State :=
  let p := s.ph n
  let v := pinMv code * 10
  let a := p.avg + (v - p.avg) * (1 - Config.expNeg (1 / 2500))
  let s := (s.setPh n { p with avg := a }).putAtSat Reg.PH_OFFSET n (toUnitNat a)
  if s.offsetBad a then s.phFaulted n 0 a else s

/-- IMON_SAMPLE (R83): the use of a sample is the state's (R85). -/
def execImonSample (t : Edges) (n : Chan) (code : Code) (s : State) : Host.Outcome State Fault Refusal :=
  live t s fun s =>
    let n := n.val
    let c := code.toNat
    let s := s.putAt Reg.TLM_RAW_IMON n c
    if s.conducts n then s.imonCurrent n c
    else if s.pst n = phWarm then s.imonOffset n c
    else if s.pst n = phNew ∧ s.pg (n / 6) then
      let p := s.ph n
      if p.newN < 256 then s.setPh n { p with newN := p.newN + 1, newSum := p.newSum + pinMv c * 10 } else s
    else s

/-- PHASE_OFFSET_TAKEN (R94): PH_OFFSET is the mean of 256 samples; then WARM, or FAULT. -/
def State.offsetTaken (s : State) (n : Nat) : State :=
  let p := s.ph n
  let v := p.newSum / 256
  let s := (s.setPh n { p with avg := v }).putAtSat Reg.PH_OFFSET n (toUnitNat v)
  if s.offsetBad v then (s.phFaulted n 0 v).tryJoin (n / 6)
  else
    let s := (s.toWarm n).phRefresh (n / 6)
    ((s.flag Reg.PH_EVT_FLAGS_NEWPH).raise 0x2085 1 0x03 n (s.regAt Reg.PH_OFFSET n)).tryJoin (n / 6)

def execPhaseOffsetTaken (t : Edges) (n : Chan) (s : State) : Host.Outcome State Fault Refusal :=
  live t s fun s => if s.pst n.val = phNew ∧ 256 ≤ (s.ph n.val).newN then s.offsetTaken n.val else s

/-- The trim the journal holds for a channel; a record of gain 0 says that it was discarded (R335). -/
def State.trimOf (s : State) (n : Nat) : Option Trim := s.jrn.trims.find? (fun u => u.ch = n && u.gain != 0)

/-- R92: a channel's trim is discarded: a conducting phase becomes NEW at its next entry to WARM, a warm or faulted one now. -/
def State.discardTrim (s : State) (n : Nat) : State :=
  let s := if (s.trimOf n).isSome then s.jAppend (.trim ⟨n, s.regAt Reg.PH_BAYTYPE (n / 6), 0, 0⟩) else s
  let s := s.putAt Reg.PH_PSTAT_TRIMVALID n 0
  if s.conducts n then
    let p := s.ph n
    s.setPh n { p with discard := true }
  else if s.pst n = phWarm ∨ s.pst n = phFault then (s.toNew n).phRefresh (n / 6)
  else s

/-- PH_TRIMRST (R92). -/
def State.trimReset (s : State) (n : Nat) (key : Byte) : State := if key = 0xA5 then s.discardTrim n else s

def execPhTrimrst (t : Edges) (n : Chan) (key : Byte) (s : State) : Host.Outcome State Fault Refusal :=
  hostWrite t s fun s => s.trimReset n.val key

/-- R92: the trims that the image in force admits: of the channel, under the bay's type; a trim of another type is
discarded. A phase still NEW takes the trim's offset and is WARM. -/
def State.trimsInForce (s : State) : State :=
  (List.range 48).foldl (fun s n =>
    match s.trimOf n with
    | none => s
    | some u =>
      if u.bayType ≠ s.regAt Reg.PH_BAYTYPE (n / 6) then s.discardTrim n
      else
        let s := (s.putAt Reg.PH_GAIN n u.gain).putAt Reg.PH_PSTAT_TRIMVALID n 1
        if s.pst n = phNew then
          let p := s.ph n
          let s := (s.setPh n { p with avg := u.offset }).putAt Reg.PH_OFFSET n u.offset
          ((s.toWarm n).phRefresh (n / 6)).tryJoin (n / 6)
        else s) s

/-- SHED_DWELL_EXPIRY (R89): the dwell time has elapsed. -/
def execShedDwellExpiry (t : Edges) (b : Bay) (s : State) : Host.Outcome State Fault Refusal :=
  live t s fun s =>
    let y := s.bay b.val
    if s.ran y.dwellAt (s.reg Reg.PH_DWELL * edgeMs) then s.setBay b.val { y with dwellAt := none } else s

/-- R89: the dwell time has elapsed since the last change of N or abandon. -/
def State.dwellOver (s : State) (b : Nat) : Bool :=
  match (s.bay b).dwellAt with
  | none => true
  | some t => s.elapsed t (s.reg Reg.PH_DWELL * edgeMs)

/-- PH_SHED[N] in mA. -/
def State.shedLimit (s : State) (b n : Nat) : Nat := 100 * s.regAt Reg.PH_SHED (5 * b + (n - 2))

/-- PH_ADD[N] in mA. -/
def State.addLimit (s : State) (b n : Nat) : Nat := 100 * s.regAt Reg.PH_ADD (5 * b + (n - 1))

/-- R87, R146: TRACKER mode with a tracker's result since RUN entry. -/
def State.tracked (s : State) : Bool := s.reg Reg.PH_CTL_MODE == 2 && s.sup.trkDone

/-- R87: every present phase conducts: FIXED, or TRACKER before the tracker's first result. -/
def State.fixedMode (s : State) : Bool := s.reg Reg.PH_CTL_MODE == 0 || (s.reg Reg.PH_CTL_MODE == 2 && !s.sup.trkDone)

/-- R89 step 1: a shed is decided at a sharing tick. -/
def State.shedDecide (s : State) (b : Nat) : State :=
  let n := s.regAt Reg.PH_N b
  let mode := s.reg Reg.PH_CTL_MODE
  if s.phasesManaged && s.supUp && s.regAt Reg.PH_SHEDST b == 0 && s.dwellOver b && decide (2 ≤ n)
      && decide ((s.bay b).iTick < s.shedLimit b n)
      && (mode == 1 || (s.tracked && decide (s.regAt Reg.PH_NT b < n))) then
    match s.longest (s.conds b) with
    | none => s
    | some v => ((s.putAt Reg.PH_PSTAT_STATE v phPend).putAt Reg.PH_SHEDPH b (v % 6)).putAt Reg.PH_SHEDST b 1
  else s

/-- R89 step 2: a shed due at a quadrant point commits to RAMP, or is dropped. One that a trigger has met is left to its
abandon (R91). -/
def State.shedCommit (s : State) (b : Nat) : State :=
  if s.regAt Reg.PH_SHEDST b ≠ 1 ∨ (s.bay b).abandon.isSome then s
  else
    let n := s.regAt Reg.PH_N b
    let v := 6 * b + s.regAt Reg.PH_SHEDPH b
    if (s.bay b).iTick < s.shedLimit b n then
      let y := s.bay b
      let s := s.setBay b { y with ramp := some (y.sum / (max 1 n : Nat), 0) }
      let s := (s.putAt Reg.PH_PSTAT_STATE v phRamp).putAt Reg.PH_SHEDST b 2
      s.raise 0x2080 0 0x03 v n
    else s.clearShed b

/-- R95: a gain learns at angle 0. The fit's solution and its information threshold have no figures: whether a channel moves,
which way and how far, within 0.1 %, are free values. -/
def State.gainLearn (s : State) (n : Nat) : State :=
  let (v, s) := s.takeFree
  if Config.learnInformative v then
    let g := s.regAt Reg.PH_GAIN n
    let (d, s) := s.takeFree
    let step : Nat := g / 1000
    let g' := ((g : Int) - step + (d % (2 * step + 1) : Nat)).toNat
    let g' := max 0x6000 (min 0xA000 g')
    let s := s.putAt Reg.PH_GAIN n g'
    if (g' = 0x6000 ∨ g' = 0xA000) ∧ g ≠ g' then (s.flag Reg.PH_EVT_FLAGS_TRIMLIM).raise 0x2083 3 0x03 n g' else s
  else s

/-- R95: a trim is journalled when it has moved by 0.5 % of gain or 1.0 mV of offset, at most once per 60 s per channel. -/
def State.trimJournal (s : State) (n : Nat) : State :=
  let g := s.regAt Reg.PH_GAIN n
  let o := s.regAt Reg.PH_OFFSET n
  let moved := match s.trimOf n with
    | none => true
    | some u => decide (u.gain ≤ 200 * ((g : Int) - u.gain).natAbs) || decide (10 ≤ ((o : Int) - u.offset).natAbs)
  let due := match (s.ph n).trimAt with
    | none => true
    | some t => s.elapsed t (60 * edgeSec)
  if moved && due && s.pst n != phNew && s.pst n != phAbsent && s.pst n != phFault then
    let p := s.ph n
    let s := s.setPh n { p with trimAt := some s.now }
    let s := (s.jAppend (.trim ⟨n, s.regAt Reg.PH_BAYTYPE (n / 6), g, o⟩)).putAt Reg.PH_PSTAT_TRIMVALID n 1
    s.raise 0x2086 0 0x03 n (g + 65536 * o)
  else s

/-- R95: gains of bay `b` at the angle 0 that closes a cycle. -/
def State.bayLearn (s : State) (b : Nat) : State :=
  let y := s.bay b
  let s :=
    if s.mode = modeRun ∧ s.pg b ∧ y.nMoved = false ∧ (s.irate b : Rat) ≤ 10 * y.iCyc ∧ s.supUp then
      (s.conds b).foldl (fun s n => (s.gainLearn n)) s
    else s
  let s := if s.mode = modeRun ∧ s.supUp then (phaseIds b).foldl State.trimJournal s else s
  let y := s.bay b
  s.setBay b { y with nMoved := false }

/-- The SHADOW fields of the phase engine. -/
def phaseShadow : List Field := Reg.page10.filter (fun f => f.cls == .shadow)

/-- Step 5 of R25: the phase engine's shadow set commits, or is rejected whole (R89). -/
def State.phaseCommit (s : State) : State :=
  let c := copyFields s.shad s.regs phaseShadow
  match checkPhaseSet c with
  | none => { s with regs := c }
  | some (b, n) => ({ s with shad := copyFields s.regs s.shad phaseShadow }.flag Reg.PH_EVT_FLAGS_REJECT).raise 0x2087 2 0x03 (6 * b) (b + 256 * n)

end Sys2Proof.Machine
end

