-- ==== Sys2Proof/Machine/Loop.lean ====
section
/-! DEFINITION. The loop engine: the compensator, the region table, shadow commits, override and following-error supervision
(R100-R124, R476). -/

namespace Sys2Proof.Machine

/-- R121, R58: the built-in set: no notch, G of 1.0, the duty clamp of TADPOLE; its other values are the chip's own. -/
def builtinCoef : Coef :=
  let w := fun o n => leValue ((Config.builtinSet.drop o).take n)
  let q := fun o => toInt 32 (w o 4)
  { kp := q 0, ki := q 4, kd := 0, dpole := 0, b0a := q 8, b1a := q 12, a1a := q 16, b0b := one29, b1b := 0, a1b := 0,
    nen := false, nb0 := 0, nb1 := 0, nb2 := 0, na1 := 0, na2 := 0, dmax := 52429, dmin := w 20 2, imax := w 22 2,
    llmax := w 24 2, nmax := 0, ffmax := w 26 2, emax := w 28 2, g := 1 }

/-- The coefficients in force in bay `b`'s lane. -/
def State.coef (s : State) (b : Nat) : Coef :=
  if (s.bay b).lane.builtin then builtinCoef else coefOf s.regs b (s.regAt Reg.LE_STAT_SETACT b)

/-- Limit a magnitude, and say whether it was limited. -/
def limit (x lim : Int) : Int × Bool :=
  let y := clampInt (-lim) lim x
  (y, y != x)

/-- The 40-bit bound of R101, and whether it was reached. -/
def sat40 (x : Int) : Int × Bool :=
  let y := clampInt (-549755813888) 549755813887 x
  (y, y != x)

/-- A limit in 1/65,536 as an accumulator value. -/
def acc29 (v : Nat) : Int := (v * 8192 : Nat)

/-- A lead-lag section (R102): its output, its new states, and its flag. -/
def leadLag (b0 b1 a1 x x1 y1 : Int) (lim : Nat) : Int × Bool :=
  let (y, f) := sat40 (roundShift (b0 * x + b1 * x1 - a1 * y1) 29)
  let (y, g) := limit y (acc29 lim)
  (y, f || g)

/-- What one evaluation of the compensator gives (R102). -/
structure LaneOut where
  lane : Lane
  e : Int
  duty : Nat
  hi : Bool
  lo : Bool
  sat : Nat
deriving DecidableEq, Repr

/-- Bit weights of the sticky flags, from conditions (R100). -/
def satBits (err int ll notch ff duty : Bool) : Nat :=
  (if err then 1 else 0) + (if int then 2 else 0) + (if ll then 4 else 0) + (if notch then 8 else 0) + (if ff then 16 else 0) +
  (if duty then 32 else 0)

/-- R102: one evaluation, from the error, the step term, the ratio with its clamp, and the freezes in force. -/
def laneStep (l : Lane) (k : Coef) (eRaw sff : Int) (ratio : Nat) (ratioSat frzHi frzLo : Bool) : LaneOut :=
  let (e, fErr) := limit eRaw k.emax
  let hold := (frzHi && decide (0 < k.ki * e)) || (frzLo && decide (k.ki * e < 0))
  let (i1, fI) := if hold then (l.integ, false) else
    let (a, f) := sat40 (l.integ + k.ki * e)
    let (b, g) := limit a (acc29 k.imax)
    (b, f || g)
  let (d, fD) := sat40 (roundShift (k.dpole * l.d + k.kd * (e - l.ePrev) * one29) 29)
  let (u, fU) := sat40 (k.kp * e + i1 + d)
  let (u1, f1) := leadLag k.b0a k.b1a k.a1a u l.x1 l.y1 k.llmax
  let (u2, f2) := leadLag k.b0b k.b1b k.a1b u1 l.x2 l.y2 k.llmax
  let (u3, f3) := if k.nen then
      let (a, f) := sat40 (roundShift (k.nb0 * u2 + k.nb1 * l.nx1 + k.nb2 * l.nx2 - k.na1 * l.ny1 - k.na2 * l.ny2) 29)
      let (b, g) := limit a (acc29 k.nmax)
      (b, f || g)
    else (u2, false)
  let (u4, f4) := limit (u3 + sff * 8192) (acc29 k.ffmax)
  let (w, f7) := sat40 (roundShift (u4 * ratio) 14)
  let hi := decide (acc29 k.dmax < w)
  let lo := decide (w < acc29 k.dmin)
  let duty := (roundShift (clampInt (acc29 k.dmin) (acc29 k.dmax) w) 13).toNat
  { lane := { l with integ := i1, d := d, ePrev := e, x1 := u, y1 := u1, x2 := u1, y2 := u2,
                     nx1 := if k.nen then u2 else l.nx1, nx2 := if k.nen then l.nx1 else l.nx2,
                     ny1 := if k.nen then u3 else l.ny1, ny2 := if k.nen then l.ny1 else l.ny2, next := some duty },
    e := e, duty := duty, hi := hi, lo := lo,
    sat := satBits fErr (fI || fD || fU) (f1 || f2) f3 (f4 || f7 || ratioSat) (hi || lo) }

/-- R476: the DC link of bay `b`, in mV. -/
def State.vlinkMv (s : State) (b : Nat) : Rat := pinMv (s.regAt Reg.TLM_RAW_VLINK b) * s.reg Reg.LE_VLSCAL / 10

/-- R105: VLINK is invalid. -/
def State.vlinkBad (s : State) (b : Nat) : Bool :=
  decide (s.vlinkMv b < (100 * s.regAt Reg.LE_VLMIN b : Nat)) || decide (((100 * s.regAt Reg.LE_VLMAX b : Nat) : Rat) < s.vlinkMv b) ||
  atRail (s.regAt Reg.TLM_RAW_VLINK b) || !(s.bay b).ok

/-- R102 stage 7: the ratio with 14 fraction bits, and whether it was clamped. In a cold TADPOLE the stage is off (R58). -/
def State.linkRatio (s : State) (b : Nat) : Nat × Bool :=
  if s.vlinkBad b || (s.mode == modeTadpole && !s.imgValid) then (16384, false)
  else
    let r := (nearestAway ((100 * s.regAt Reg.LE_VLNOM b : Nat) / s.vlinkMv b * 16384)).toNat
    (max 8192 (min 32768 r), decide (r < 8192) || decide (32768 < r))

/-- BAYENb, before precedence levels 1 and 2 of R26 (R138). -/
def State.bayEn (s : State) (b : Nat) : Bool :=
  let st := s.bst b
  if st = bayPfc then !(s.bay b).enLow
  else if st = bayInrush ∨ st = bayJoin ∨ st = bayActive ∨ st = bayLeave then !(s.bay b).released
  else if st = bayStandby then !(s.bay b).released
  else if st = bayFault then
    match s.fst b, (s.fuse b).why with
    | 7, .trip k => s.mayRetry b k
    | 5, _ => true
    | _, _ => false
  else false

/-- A trip holds the channel (R26 level 3): tripped and opening, waiting to retry, or latched. -/
def State.tripped (s : State) (c : Nat) : Bool :=
  match s.fst c, (s.fuse c).why with
  | 7, .trip _ => true
  | 5, _ => true
  | 6, _ => true
  | _, _ => false

/-- R119: bay `b`'s duty is overridden. -/
def State.overridden (s : State) (b : Nat) : Bool :=
  s.mode == modeLockout || s.isSet Reg.GL_STAT_GECKO || s.tripped b || (s.conds b).isEmpty || !s.bayEn b

/-- The discharge of a string in mA, from its latest sample: minus BI, never below 0 (R219). -/
def State.strDischarge (s : State) (k : Nat) : Rat :=
  let q := (900 - pinMv (s.regAt Reg.TLM_RAW_STR (6 * k + 1))) * s.regAt Reg.BST_BISCAL k
  if q < 0 then 0 else q

/-- R114: battery engaged. -/
def State.battEngaged (s : State) : Bool :=
  s.isSet Reg.STP_STAT_SAG ||
  (s.reg Reg.LE_BENG != 0xFFFF && decide (((100 * s.reg Reg.LE_BENG : Nat) : Rat) < sumQ (bayIds.map s.strDischarge)))

/-- R114: the load band, with its hysteresis. -/
def State.loadBand (s : State) (b : Nat) : Nat :=
  let i := meanQ (s.bay b).hist
  let old := s.regAt Reg.LE_STAT_BAND b
  let hys := s.regAt Reg.LE_BANDHYS b
  ([1, 2, 3].filter (fun k =>
    let th := s.regAt Reg.LE_BAND (3 * b + (k - 1))
    th != 0xFFFF && (decide (((100 * th : Nat) : Rat) < i) || (decide (k ≤ old) && decide (((100 * (th - hys) : Nat) : Rat) ≤ i))))).length

/-- R114: the phase-count class of N. -/
def State.nClass (s : State) (b : Nat) : Nat :=
  let n := s.regAt Reg.PH_N b
  if n = 0 then 0 else s.regAt Reg.LE_NCLASS b / 4 ^ (n - 1) % 4

/-- R114: the region index that the inputs show. -/
def State.regionNow (s : State) (b : Nat) : Nat :=
  16 * s.loadBand b + (if s.battEngaged then 8 else 0) + (if s.isSet Reg.HUP_STAT_MAINS then 4 else 0) + s.nClass b

/-- R115: a change of the index is upward. -/
def upward (old new : Nat) : Bool :=
  decide (old / 16 < new / 16) || (bitOf new 3 && !bitOf old 3) || (!bitOf new 2 && bitOf old 2) || decide (old % 4 < new % 4)

/-- The registers that show the index in force (R125). -/
def State.showRegion (s : State) (b idx : Nat) : State :=
  let s := (s.putAt Reg.LE_REGION b idx).putAt Reg.LE_STAT_BAND b (idx / 16)
  let s := (s.putAt Reg.LE_STAT_BATT b (idx / 8 % 2)).putAt Reg.LE_STAT_MAINS b (idx / 4 % 2)
  s.putAt Reg.LE_STAT_CLASS b (idx % 4)

/-- Replace bay `b`'s lane. -/
def State.setLane (s : State) (b : Nat) (l : Lane) : State :=
  let y := s.bay b
  s.setBay b { y with lane := l }

/-- R115: the index that comes into force at this period start, counting a downward change. -/
def State.regionStep (s : State) (b : Nat) : State :=
  let old := s.regAt Reg.LE_REGION b
  let new := s.regionNow b
  let l := (s.bay b).lane
  if new = old then s.setLane b { l with down := none }
  else if upward old new then (s.setLane b { l with down := none }).showRegion b new
  else
    match l.down with
    | none => s.setLane b { l with down := some (new, 0) }
    | some (idx, n) =>
      if idx ≠ new then s.setLane b { l with down := some (new, 0) }
      else s.setLane b { l with down := some (new, n + 1) }

/-- R115: the downward change has waited LE_RDWELL periods. -/
def State.regionDue (s : State) (b : Nat) : Bool :=
  match (s.bay b).lane.down with
  | none => false
  | some (_, n) => decide (s.regAt Reg.LE_RDWELL b ≤ n)

/-- R115: a downward change that has waited takes effect. -/
def State.regionDrop (s : State) (b : Nat) : State :=
  match (s.bay b).lane.down with
  | none => s
  | some (idx, n) =>
    if s.regAt Reg.LE_RDWELL b ≤ n then
      let l := (s.bay b).lane
      (s.setLane b { l with down := none }).showRegion b idx
    else s

/-- R116: the change to coefficients `new` from gain `gOld`: the integrator is rescaled unless the lane is overridden. -/
def State.switchSet (s : State) (b : Nat) (gOld : Rat) (new : Coef) : State :=
  let s := s.bumpAt Reg.LE_SWCNT b
  if s.regAt Reg.LE_STAT_OVR b = 1 then s
  else
    let l := (s.bay b).lane
    let q := if new.g = 0 then (l.integ : Rat) else (l.integ : Rat) * gOld / new.g
    let (i, f) := limit (nearestAway q) (acc29 new.imax)
    let s := s.setLane b { l with integ := i }
    if f then s.putAt Reg.LE_SAT_SAT_INT b 1 else s

/-- R114, R121: the set for the index in force is selected. -/
def State.selectSet (s : State) (b : Nat) (before : Coef) : State :=
  let k := setOfRegion s.regs b (s.regAt Reg.LE_REGION b)
  let s := s.putAt Reg.LE_STAT_SETACT b k
  let new := coefOf s.regs b k
  if new = before then s else s.switchSet b before.g new

/-- A set was switched at this period start where its number differs (R116). -/
def State.selectIndex (s : State) (b : Nat) (before : Coef) : State :=
  let k0 := s.regAt Reg.LE_STAT_SETACT b
  let k := setOfRegion s.regs b (s.regAt Reg.LE_REGION b)
  if k0 = k then s.selectSet b before
  else (s.putAt Reg.LE_STAT_SETACT b k).switchSet b before.g (coefOf s.regs b k)

/-- R112: the notch of one set in the active copy is derived. -/
def State.deriveNotch (s : State) (b k : Nat) : State :=
  let i := b * 16 + k
  let store := fun (s : State) (vs : List Int) => (List.range 5).foldl (fun s j => s.sputAt Reg.LE_NCOEF (i * 5 + j) ((vs[j]?).getD 0)) s
  if s.regAt Reg.CS_NEN i = 1 then
    let kk := Config.tanPi ((s.regAt Reg.CS_NF i : Rat) / (1000 * max 1 (s.regAt Reg.PH_FREQ b) : Nat))
    let q : Rat := (max 1 (s.regAt Reg.CS_NQ i) : Nat) / 100
    let g : Rat := (s.regAt Reg.CS_NDEPTH i : Nat) / 256
    let n := 1 + kk / q + kk * kk
    let f := fun (x : Rat) => if n = 0 then 0 else toUnit (x / n * one29)
    store s [f (1 + g * kk / q + kk * kk), f (2 * (kk * kk - 1)), f (1 - g * kk / q + kk * kk), f (2 * (kk * kk - 1)),
      f (1 - kk / q + kk * kk)]
  else store s [0, 0, 0, 0, 0]

/-- R112: every notch of bay `b`. -/
def State.deriveBay (s : State) (b : Nat) : State := (List.range 16).foldl (fun s k => s.deriveNotch b k) s

/-- The SHADOW fields of the loop engine. -/
def loopShadow : List Field := (Reg.page12 ++ Reg.page13).filter (fun f => f.cls == .shadow)

/-- R117, R118: the commit of bay `b`'s shadow copy at its period start. -/
def State.loopCommit (s : State) (b : Nat) : State :=
  if !bitOf (s.reg Reg.LE_SHPEND) b then s
  else
    let s := s.putBit Reg.LE_SHPEND b false
    let c := loopShadow.foldl (fun d f => copyBay f b s.shad d) s.regs
    match checkLoopBay c b with
    | none => { s with regs := c }.deriveBay b
    | some (r, k) =>
      let (v, s) := s.takeFree
      (s.flag Reg.LE_EVT_FLAGS_REJECT).raise 0x2107 2 0x04 b (r + 256 * (match k with | some k => k | none => v % 16))

/-- LE_SHCTL (R117). -/
def State.leShctl (s : State) (mask : Nat) : State := s.put Reg.LE_SHPEND (s.reg Reg.LE_SHPEND ||| mask)

def execLeShctl (t : Edges) (mask : Byte) (s : State) : Host.Outcome State Fault Refusal :=
  hostWrite t s fun s => s.leShctl mask.toNat

/-- R120: the lane starts again from a preset. -/
def State.lanePreset (s : State) (b : Nat) (k : Coef) : State :=
  let l := (s.bay b).lane
  let link := if s.vlinkBad b then ((100 * s.regAt Reg.LE_VLNOM b : Nat) : Rat) else s.vlinkMv b
  let kpl := s.regAt Reg.LE_KPL b
  let d := if kpl = 0 ∨ link = 0 then acc29 k.dmin
    else clampInt (acc29 k.dmin) (acc29 k.dmax) (nearestAway (s.busMv / (link * kpl / 65536) * one29))
  let i := if kpl = 0 ∨ k.g = 0 then 0 else (sat40 (nearestAway ((d : Rat) / k.g))).1
  let dc := fun (b0 b1 a1 x : Int) => if one29 + a1 = 0 then x else nearestAway (((b0 + b1) * x : Int) / ((one29 + a1 : Int) : Rat))
  let y1 := dc k.b0a k.b1a k.a1a i
  let y2 := dc k.b0b k.b1b k.a1b y1
  s.setLane b { l with integ := i, d := 0, ePrev := 0, x1 := i, y1 := y1, x2 := y1, y2 := y2, nx1 := y2, nx2 := y2, ny1 := y2,
                       ny2 := y2, next := none, now := (roundShift d 13).toNat }

/-- R107: the trigger of the period, in edge units from its start. -/
def State.placeTrigger (s : State) (b : Nat) : State :=
  let y := s.bay b
  let T := y.perLen
  let base : Int :=
    if s.regAt Reg.LE_TRIG_MODE b = 0 then nearest ((s.regAt Reg.LE_TRIGPOS b * T : Nat) / 65536)
    else
      match s.conds b with
      | [] => nearest ((s.regAt Reg.LE_TRIGPOS b * T : Nat) / 65536)
      | n :: _ =>
        let d := min y.lane.now (min (s.regAt Reg.PH_DMAX b) 58982)
        nearest (((s.ph n).ofs : Rat) + ((d * T : Nat) / 65536 + (T : Rat)) / 2) % (max 1 T : Nat)
  let want := base + s.sregAt Reg.LE_TRIGADJ b
  let top : Int := (T : Int) - 2880
  let pos := clampInt 0 top want
  let s := s.putAt Reg.LE_TRIGNOW b pos.toNat
  if pos = want then s
  else
    let s := s.flag Reg.LE_EVT_FLAGS_TRIGCLAMP
    if s.secondPassed y.lane.trigAt then
      (s.setLane b { y.lane with trigAt := some s.now }).raise 0x2104 2 0x04 b (par want)
    else s

/-- The loop engine's work at bay `b`'s period start (R114-R121, R124, R129). -/
def State.lanePeriod (s : State) (b : Nat) : State :=
  let before := s.coef b
  let s := s.loopCommit b
  let was := s.regAt Reg.LE_STAT_OVR b = 1
  let ovr := s.overridden b
  let s := s.putAtB Reg.LE_STAT_OVR b ovr
  let tad := s.mode = modeTadpole
  let l := (s.bay b).lane
  let s :=
    if tad then
      if l.builtin then s
      else (s.setLane b { l with builtin := true, down := none }).switchSet b before.g builtinCoef
    else if l.builtin then
      let s := (s.setLane b { l with builtin := false, down := none }).showRegion b (s.regionNow b)
      let k := setOfRegion s.regs b (s.regAt Reg.LE_REGION b)
      (s.putAt Reg.LE_STAT_SETACT b k).switchSet b before.g (coefOf s.regs b k)
    else (s.regionStep b).selectIndex b before
  let y := s.bay b
  let s := s.putAtSat Reg.LE_VREF b (toUnitNat (s.vsMv + y.c + y.t))
  if ovr then
    let l := (s.bay b).lane
    s.setLane b { l with next := none, satAt := none, satTold := false }
  else if was then s.lanePreset b (s.coef b)
  else
    let l := (s.bay b).lane
    match l.next with
    | none => s
    | some d => s.setLane b { l with now := d, next := none }

/-- REGION_DWELL_EXPIRY (R115): the downward change takes effect at the period start that ends its dwell. -/
def execRegionDwellExpiry (t : Edges) (b : Bay) (s : State) : Host.Outcome State Fault Refusal :=
  live t s fun s =>
    if s.mode ≠ modeTadpole ∧ s.regionDue b.val then
      let before := s.coef b.val
      (s.regionDrop b.val).selectIndex b.val before
    else s

/-- R105: VLINK found invalid at a trigger, told once per episode. -/
def State.vlinkWatch (s : State) (b : Nat) : State :=
  let l := (s.bay b).lane
  if s.vlinkBad b then
    if l.vlTold then s
    else ((s.setLane b { l with vlTold := true }).flag Reg.LE_EVT_FLAGS_VLINKBAD).raise 0x2103 4 0x04 b (toUnitNat (s.vlinkMv b / 100))
  else s.setLane b { l with vlTold := false }

/-- R106: the sticky flags, the count of clamped periods and the saturation episode. -/
def State.noteSat (s : State) (b : Nat) (o : LaneOut) : State :=
  let fs := [Reg.LE_SAT_SAT_ERR, Reg.LE_SAT_SAT_INT, Reg.LE_SAT_SAT_LL, Reg.LE_SAT_SAT_NOTCH, Reg.LE_SAT_SAT_FF, Reg.LE_SAT_SAT_DUTY]
  let s := (List.range 6).foldl (fun s k =>
    match fs[k]? with
    | none => s
    | some f => if bitOf o.sat k then s.putAt f b 1 else s) s
  let l := (s.bay b).lane
  if o.hi || o.lo then
    let at' := match l.satAt with
      | none => some (s.now, o.hi)
      | some (t, _) => some (t, o.hi)
    (s.setLane b { l with satAt := at' }).bumpAt Reg.LE_SATCNT b
  else s.setLane b { l with satAt := none, satTold := false }

/-- R122: the following-error count of a period. -/
def State.feCount (s : State) (b : Nat) (eRaw : Int) : State :=
  let l := (s.bay b).lane
  let m := eRaw.natAbs
  let lim := s.regAt Reg.LE_FELIM b
  let hys := s.regAt Reg.LE_FEHYS b
  let s := s.setLane b { l with eRaw := m, feOk := if m ≤ lim - hys then (if l.feOk.isNone then some s.now else l.feOk) else none }
  if s.regAt Reg.LE_FECTL_EN b = 0 ∨ s.now < l.joinAt + s.regAt Reg.LE_FEBLANK b * edgeMs then s
  else if lim < m then s.bumpAt Reg.LE_FECNT b
  else if m ≤ lim - hys then s.putAt Reg.LE_FECNT b 0
  else s

/-- LOOP_TRIGGER (R102): the compensator computes the next duty; an overridden lane is frozen (R119). -/
def State.loopTrigger (s : State) (b code : Nat) : State :=
  let y := s.bay b
  let s := (s.setBay b { y with trigCode := code }).putAt Reg.TLM_RAW_VSB b code
  let s := s.putAtSat Reg.LE_VLINK b (toUnitNat (s.vlinkMv b))
  let vout := s.voutMv b code
  let s := s.putAtSat Reg.LE_VOUT b vout.toNat
  if s.regAt Reg.LE_STAT_OVR b = 1 ∨ s.overridden b then s
  else
    let s := s.vlinkWatch b
    let eRaw : Int := (s.regAt Reg.LE_VREF b : Int) - vout
    let (r, rs) := s.linkRatio b
    let sff := if (s.bay b).lane.builtin then 0 else s.sff b
    let o := laneStep (s.bay b).lane (s.coef b) eRaw sff r rs (s.regAt Reg.LE_STAT_FRZHI b == 1) (s.regAt Reg.LE_STAT_FRZLO b == 1)
    let all := !(s.conds b).isEmpty && (s.conds b).all (fun n => (s.ph n).clamp)
    let s := s.setLane b o.lane
    let s := ((s.putAtB Reg.LE_STAT_FRZHI b (o.hi || all)).putAtB Reg.LE_STAT_FRZLO b o.lo).putAt Reg.LE_RATIO b r
    let s := (s.sputAt Reg.LE_ERR b o.e).putAt Reg.LE_DUTY b o.duty
    let s := s.sputAt Reg.LE_INTEG b o.lane.integ
    let s := s.putAtSat Reg.LE_PEAKERR b (max (s.regAt Reg.LE_PEAKERR b) eRaw.natAbs)
    (s.noteSat b o).feCount b eRaw

def execLoopTrigger (t : Edges) (b : Bay) (code vlink : Code) (s : State) : Host.Outcome State Fault Refusal :=
  live t s fun s => (s.putAt Reg.TLM_RAW_VLINK b.val vlink.toNat).loopTrigger b.val code.toNat

/-- BAY_OUTPUT_CONVERSION (R108, R90): the error band, once per excursion, and the tick average. -/
def State.outputConversion (s : State) (b code : Nat) : State :=
  let s := s.putAt Reg.TLM_RAW_VSB b code
  let v := s.voutMv b code
  let y := s.bay b
  let s := s.setBay b { y with vAcc := y.vAcc + v.toNat, vN := y.vN + 1, pAcc := y.pAcc + v.toNat * s.imonSum b }
  let band := s.reg Reg.PH_EBAND
  let out := band ≠ 0xFFFF ∧ s.regAt Reg.LE_STAT_OVR b = 0 ∧ band < ((s.regAt Reg.LE_VREF b : Int) - v).natAbs
  if out then
    let y := s.bay b
    let s := s.setBay b { y with ebArm := false, ebBad := true }
    if y.ebArm then s.stepSeen b 0 else s
  else s

def execBayOutputConversion (t : Edges) (b : Bay) (code : Code) (s : State) : Host.Outcome State Fault Refusal :=
  live t s fun s => s.outputConversion b.val code.toNat

/-- DUTY_SATURATED (R106): the duty has been clamped for 1 ms without a break. -/
def execDutySaturated (t : Edges) (b : Bay) (s : State) : Host.Outcome State Fault Refusal :=
  live t s fun s =>
    let l := (s.bay b.val).lane
    match l.satAt with
    | none => s
    | some (since, hi) =>
      if l.satTold = false ∧ s.elapsed since edgeMs then
        ((s.setLane b.val { l with satTold := true }).flag Reg.LE_EVT_FLAGS_DUTYSAT).raise 0x2102 3 0x04 b.val (if hi then 1 else 0)
      else s

/-- R122: the count that takes the action: the ceiling of LE_FETIME / T. -/
def State.feLimit (s : State) (b : Nat) : Nat :=
  let T := max 1 (s.bay b).perLen
  (s.regAt Reg.LE_FETIME b * 640000 + T - 1) / T

/-- FOLLOWING_ERROR (R122, R123): DROP leaves sharing; FAULT takes the bay out of service. -/
def State.followingError (s : State) (b : Nat) : State :=
  let act := s.regAt Reg.LE_FECTL_ACTION b
  let s := (s.flag Reg.LE_EVT_FLAGS_FE).putAt Reg.LE_STAT_FEACT b 1
  let l := (s.bay b).lane
  let s := s.setLane b { l with feOk := none }
  let s := s.raise 0x2100 5 0x04 b (satNat 16 l.eRaw + 65536 * act + 16777216 * s.regAt Reg.LE_STAT_SETACT b)
  if act = 1 then
    let y := s.bay b
    let s := ((s.setBay b { y with feFault := true }).openReq b).bayToFault b
    s.restoreReserves
  else
    let y := s.bay b
    (s.setBay b { y with t := 0, c := 0 }).shareRefresh b

def execFollowingError (t : Edges) (b : Bay) (s : State) : Host.Outcome State Fault Refusal :=
  live t s fun s =>
    if s.regAt Reg.LE_STAT_FEACT b.val = 0 ∧ s.regAt Reg.LE_STAT_OVR b.val = 0 ∧ s.regAt Reg.LE_FECTL_EN b.val = 1
        ∧ s.feLimit b.val ≤ s.regAt Reg.LE_FECNT b.val ∧ 0 < s.regAt Reg.LE_FECNT b.val then s.followingError b.val else s

/-- R123: a following-error action ends. -/
def State.feEnd (s : State) (b act : Nat) : State :=
  let y := s.bay b
  let s := s.setBay b { y with feFault := false }
  let s := ((s.putAt Reg.LE_STAT_FEACT b 0).putAt Reg.LE_FECNT b 0).flag Reg.LE_EVT_FLAGS_FEREC
  s.raise 0x2106 1 0x04 b act

/-- FE_RECOVERED (R123): the error has stayed within its limit less hysteresis for LE_FETIME. -/
def execFeRecovered (t : Edges) (b : Bay) (s : State) : Host.Outcome State Fault Refusal :=
  live t s fun s =>
    let y := s.bay b.val
    if s.regAt Reg.LE_STAT_FEACT b.val = 1 ∧ y.feFault = false ∧ s.ran y.lane.feOk (s.regAt Reg.LE_FETIME b.val * 640000) then
      s.feEnd b.val 0
    else s

/-- LE_FECLR (R123): a FAULT action ends, and the bay rejoins by insertion. -/
def State.feClear (s : State) (b : Nat) (key : Byte) : State :=
  if key = 0xA5 ∧ (s.bay b).feFault then
    let s := s.feEnd b 1
    if s.bst b = bayFault ∧ s.mode ≠ modeLockout then s.toPfc b else s
  else s

def execLeFeclr (t : Edges) (b : Bay) (key : Byte) (s : State) : Host.Outcome State Fault Refusal :=
  hostWrite t s fun s => s.feClear b.val key

end Sys2Proof.Machine
end

