-- ==== Sys2Proof/Machine/RunEntry.lean ====
section
/-! DEFINITION. What an entry to RUN brings: the drop model's first values, and the load that waited for RUN (R61, R134, R315). -/

namespace Sys2Proof.Machine

/-- R315: a REVERT marks the version in force FAILED and goes to its target; `k` is how the load is scheduled. -/
def State.revertGo (s : State) (k : State → State) : State :=
  let ver := s.reg Reg.IMG_VER
  match s.revertTarget with
  | none => s.revertRefused
  | some _ =>
    let s := s.jAppend (.probation ⟨ver, 3, s.img.probCount⟩)
    let s := (s.put Reg.IMG_STAT_PROB 3).put Reg.GL_STAT_PROBATION 0
    k { s with img.revertFrom := some ver }

/-- R134: at the first RUN entry since VDD power-on the drop model starts from SHR_RINIT. -/
def State.firstRun (s : State) : State :=
  let s := { s with core.firstRunAt := if s.core.firstRunAt.isNone then some s.now else s.core.firstRunAt }
  if s.sup.runSeen then s
  else (List.range 8).foldl (fun s b =>
    let y := s.bay b
    let r := s.regAt Reg.SHR_RINIT b
    (s.setBay b { y with rdrop := (r : Nat) }).putAt Reg.SHR_RDROP b r) { s with sup.runSeen := true }

/-- R61: a load waits for the next quadrant point, through TADPOLE. -/
def State.loadAtQuadrant (s : State) (k : LoadKind) (cause : Nat) : State :=
  { s with core.toTadpole := some cause, core.loadNext := some k }

/-- R61: a RELOAD, REVERT or failed probation that waited for RUN goes on at this entry. -/
def State.deferredNow (s : State) : State :=
  match s.core.deferred with
  | none => s
  | some k =>
    let s := { s with core.deferred := none }.put Reg.GL_STAT_RLDPEND 0
    match k with
    | .revert => s.revertGo (fun s => s.loadAtQuadrant .revert 0x06)
    | .probation => s.loadAtQuadrant .probation 0x07
    | _ => s.loadAtQuadrant .reload 0x05

/-- What every entry to RUN brings. -/
def State.runEntered (s : State) : State := s.firstRun.deferredNow

end Sys2Proof.Machine
end

