-- ==== Sys2Proof/Machine/Estimator.lean ====
section
/-! DEFINITION. The battery state estimator: counting, anchors, rests, capacity learning, the model, usable energy, capsules
(R245-R263). -/

namespace Sys2Proof.Machine

/-- EST_STATE codes (R246). -/
def estAbsent : Nat := 0
def estWait : Nat := 1
def estNaive : Nat := 2
def estKnown : Nat := 3

/-- The estimator state of string `k`. -/
def State.est0 (s : State) (k : Nat) : Nat := s.regAt Reg.EST_STATE k % 4

/-- R246: a state, with UNTRUSTED. -/
def State.setEst0 (s : State) (k st : Nat) : State :=
  s.putAt Reg.EST_STATE k (st + (if st = estWait ∨ st = estNaive then 4 else 0))

/-- The points of the string's OCV table: SoC as a fraction, OCV in mV per cell (R264). -/
def State.ocvPoints (s : State) (k : Nat) : List (Rat × Rat) :=
  (List.range 12).map (fun i =>
    let v := if s.lithium k then s.regAt Reg.EST_OCVL i else s.regAt Reg.EST_OCVN i
    (((v % 65536 : Nat) : Rat) / 10000, ((v / 65536 : Nat) : Rat) / 10))

/-- Linear interpolation between the two points that bracket `x`; none outside the points. -/
def interp : List (Rat × Rat) → Rat → Option Rat
  | (x0, y0) :: (x1, y1) :: ps, x =>
    if x0 ≤ x ∧ x ≤ x1 ∧ x0 < x1 then some (y0 + (y1 - y0) * (x - x0) / (x1 - x0)) else interp ((x1, y1) :: ps) x
  | _, _ => none

/-- OCV at 25 degC of a SoC, in mV per cell. -/
def State.ocvAt (s : State) (k : Nat) (x : Rat) : Rat := (interp (s.ocvPoints k) x).getD (Config.ocvBeyond false x)

/-- The SoC of an OCV at 25 degC, within 0 to 1 (R252, R245). -/
def State.socAt (s : State) (k : Nat) (v : Rat) : Rat :=
  (interp ((s.ocvPoints k).map (fun p => (p.2, p.1))) v).getD (clampRat 0 1 (Config.ocvBeyond true v))

/-- The table's temperature coefficient times the distance from 25 degC, in mV per cell (R252). -/
def State.ocvTemp (s : State) (k : Nat) : Rat :=
  ((if s.lithium k then s.sreg Reg.EST_OCVTC_L else s.sreg Reg.EST_OCVTC_N : Int) : Rat) * ((s.strTemp k - 400 : Int) : Rat) / 16000

/-- R252: the SoC the string's 1 s mean BV stands for. -/
def State.socOcv (s : State) (k : Nat) : Rat := s.socAt k (s.vCell k - s.ocvTemp k)

/-- Limits of u_s and u_c (R250). -/
def State.uMax (s : State) : Rat := (s.reg Reg.EST_UMAX : Rat) / 10000
def State.ucMax (s : State) : Rat := (s.reg Reg.EST_UCNAIVE : Rat) / 10000

/-- SoC_lo and C_lo (R245). -/
def EstSt.socLo (e : EstSt) : Rat := max 0 (e.soc - e.u)
def EstSt.ceLo (e : EstSt) : Rat := e.ce * (1 - e.uc)

/-- R247: what a string takes from no history. -/
def State.estInit (s : State) (k : Nat) : EstSt :=
  let e := EstSt.reset
  let r := ((s.regAt Reg.EST_RSER0 k * 10 : Nat) : Rat)
  { e with ce := s.capMas k, uc := s.ucMax, soc := s.socOcv k, u := s.uMax, rser := r, rref := r
           rfast := ((s.regAt Reg.EST_RFAST0 k * 10 : Nat) : Rat), rslow := ((s.regAt Reg.EST_RSLOW0 k * 10 : Nat) : Rat)
           runSec := s.reg Reg.JRN_OPSEC, runAt := s.now, waitAt := s.now, expSec := s.reg Reg.JRN_OPSEC }

/-- R255: the area under the table's OCV between two SoCs, by the trapezoidal rule, in mV times a fraction. -/
def ocvArea : List (Rat × Rat) → Rat → Rat → Rat
  | (x0, y0) :: (x1, y1) :: ps, lo, hi =>
    let a := max x0 lo
    let b := min x1 hi
    let y := fun x => y0 + (y1 - y0) * (x - x0) / (x1 - x0)
    (if a < b ∧ x0 < x1 then (y a + y b) * (b - a) / 2 else 0) + ocvArea ((x1, y1) :: ps) lo hi
  | _, _, _ => 0

/-- R255: E_low in Wh. -/
def State.eLow (s : State) (k : Nat) (e : EstSt) : Rat :=
  let cells := s.cells k
  let drop := (s.regAt Reg.EST_IEND k * 100 : Nat) * (e.rser + e.rfast + e.rslow) / 1000000 / (cells : Nat)
  let pts := s.ocvPoints k
  match pts.find? (fun p => (s.regAt Reg.EST_VEND k : Rat) / 10 ≤ p.2 - drop) with
  | none => 0
  | some p =>
    if e.socLo ≤ p.1 then 0
    else e.ceLo / 3600000 * (cells : Nat) * (ocvArea pts p.1 e.socLo / 1000) * (s.reg Reg.EST_EEFF : Nat) / 1000

/-- The registers of page 1C show the estimator (R264). -/
def State.estShow (s : State) (k : Nat) : State :=
  let e := s.esti k
  let pc := fun (q : Rat) => toUnitNat (q * 10000)
  let s := ((s.putAtSat Reg.EST_SOC k (pc e.soc)).putAtSat Reg.EST_SOCU k (pc e.u)).putAtSat Reg.EST_SOCLO k (pc e.socLo)
  let s := (s.putAtSat Reg.EST_CAP k (toUnitNat (e.ce / 36000))).putAtSat Reg.EST_CAPU k (pc e.uc)
  let s := (s.putAtSat Reg.EST_SOH k (pc (e.ce / (s.capMas k : Nat)))).putAtSat Reg.EST_ELOW k (toUnitNat (e.elow * 10))
  let s := ((s.putAtSat Reg.EST_RSER k (toUnitNat e.rser)).putAtSat Reg.EST_RFAST k (toUnitNat e.rfast)).putAtSat Reg.EST_RSLOW k (toUnitNat e.rslow)
  let s := (s.putAtSat Reg.EST_RGROW k (toUnitNat (e.rser / e.rref * 1000))).putAtSat Reg.EST_CYC k (toUnitNat (e.cycles * 100))
  s.putAtSat Reg.EST_AGE k (match e.anchSec with | none => 0xFFFFFFFF | some t => s.reg Reg.JRN_OPSEC - t)

/-- Keep E_low and the registers in step with the estimator. -/
def State.estPublish (s : State) (k : Nat) : State :=
  let e := s.esti k
  (s.setEsti k { e with elow := s.eLow k e }).estShow k

/-- R246, R73: the first presence of a string. -/
def State.estBegin (s : State) (k : Nat) : State :=
  ((((s.setEsti k (s.estInit k)).setEst0 k estWait).putAt Reg.EST_GEN k 0).estPublish k)

/-- R263: the state and the export buffer are discarded at removal; staged bytes of the string with them (R261). -/
def State.estDiscard (s : State) (k : Nat) : State :=
  let s := if s.reg Reg.EST_RIDX = k ∧ s.est.staged ≠ [] then
      ({ s with est.staged := [], est.stagedAt := none }.put Reg.EST_ROFFLINE 0xFFFFFFFF |>.put Reg.EST_RFILL 0).put Reg.EST_RRES 8
    else s
  if s.est0 k = estAbsent then s
  else
    let gen := s.regAt Reg.EST_GEN k
    let s := (s.setEsti k EstSt.reset).setEst0 k estAbsent
    let s := (List.range 128).foldl (fun s i => s.putAt Reg.EST_XCAP (128 * k + i) 0) s
    let s := ((s.putBit Reg.EST_XPEND k false).putBit Reg.EST_DISCMASK k true).putAt Reg.EST_GEN k 0
    (s.estShow k).raise 0x3150 3 0x0B k gen

/-- Charge books: s is not touched before the next run (R248). -/
def State.bookCharge (s : State) (k : Nat) (q : Rat) : State :=
  let e := s.esti k
  let given := if q < 0 then -q else 0
  s.setEsti k { e with acc := e.acc + q, life := e.life + given, cycles := if e.ce = 0 then e.cycles else e.cycles + given / e.ce }

/-- A sag episode of the string is open (R170). -/
def State.sagOpen (s : State) (k : Nat) : Bool :=
  match s.step.sag.toList[k]? with
  | some (some _) => true
  | _ => false

/-- R248: one BI sample of 125 us is booked, or held aside while a sag episode is open. -/
def State.bookSample (s : State) (k : Nat) (bi : Rat) : State :=
  let q := if 0 < bi then bi / 8000 * s.regAt Reg.EST_CEFF k / 1000 else bi / 8000
  if s.sagOpen k then
    let e := s.esti k
    s.setEsti k { e with side := e.side + q }
  else s.bookCharge k q

/-- R254: two consecutive samples whose BI differ by C/10 or more move EST_RSER. -/
def State.stepResistance (s : State) (k : Nat) (bi bv : Rat) : State :=
  let e := s.esti k
  let rser := match e.last with
    | none => e.rser
    | some (bi0, bv0) =>
      if e.ce / 36000 ≤ absQ (bi - bi0) ∧ bi ≠ bi0 then e.rser + ((bv - bv0) / (bi - bi0) * 1000000 - e.rser) / 64 else e.rser
  s.setEsti k { e with rser := rser, last := some (bi, bv), biSum := e.biSum + bi, biN := e.biN + 1
                       lowAt := if absQ bi < e.ce / 720000 then (match e.lowAt with | none => some s.now | t => t) else none
                       restAt := if absQ bi < e.ce / 720000 then e.restAt else none }

/-- R250: u_s with an amount added, limited to EST_UMAX. -/
def State.widen (s : State) (e : EstSt) (q : Rat) : EstSt := { e with u := min s.uMax (e.u + q) }

/-- R249, R250: self-discharge, and the growth of both intervals, over some operating seconds at a temperature. -/
def State.aged (s : State) (k : Nat) (e : EstSt) (sec : Nat) (temp : Rat) : EstSt × Rat :=
  let days : Rat := (sec : Rat) / 86400
  let sd := (s.regAt Reg.EST_SDR k : Rat) / 10000 * Config.exp2 ((temp - 25) / 10) * days
  let e := s.widen e ((s.reg Reg.EST_UGROW : Rat) / 10000 * days)
  ({ e with soc := clampRat 0 1 (e.soc - sd), refQ := e.refQ - sd * e.ce, uc := min s.ucMax (e.uc + days / 10000) }, sd * e.ce)

/-- The deficit of a string grows (R233, R249). -/
def State.addDeficit (s : State) (k : Nat) (q : Rat) : State :=
  let y := s.str k
  let y := { y with deficit := y.deficit + q }
  (s.setStr k y).putAtSat Reg.BST_DEFICIT k (toUnitNat (y.deficit / 36000))

/-- A learning event waits for the end of the run (R258). -/
def State.learning (s : State) (k : Nat) : State :=
  let e := s.esti k
  s.setEsti k { e with export_ := true }

/-- R253: capacity learning accepted with the measured capacity and its relative half-width. -/
def State.learnCapacity (s : State) (k : Nat) (qm q : Rat) : State :=
  let e := s.esti k
  let floor := (s.reg Reg.EST_UCMIN : Rat) / 10000
  let g := (s.reg Reg.EST_CGAIN : Rat) / 256
  let first := s.est0 k ≠ estKnown
  let e := if first then { e with ce := qm, uc := min s.ucMax (max floor q) }
    else { e with ce := e.ce + (qm - e.ce) * g, uc := min s.ucMax (max floor (e.uc + (q - e.uc) * g)) }
  let s := (s.setEsti k { e with learned := min 65535 (e.learned + 1) }).setEst0 k estKnown
  (s.raise 0x3156 1 0x0B k (satNat 32 (toUnitNat (qm / 36000)))).learning k

/-- EST_FLAGS.INCONS and event 0x3155 (R252, R253). -/
def State.inconsistent (s : State) (k why : Nat) : State := (s.flag Reg.EST_FLAGS_INCONS).raise 0x3155 3 0x0B k why

/-- R253: a reference point: capacity learning from the one before. -/
def State.reference (s : State) (k : Nat) (sb ub : Rat) : State :=
  let e := s.esti k
  let s' := s.setEsti k { e with ref := some (sb, ub), refQ := 0 }
  match e.ref with
  | none => s'
  | some (sa, ua) =>
    let d := sb - sa
    if absQ d < (s.reg Reg.EST_DSMIN : Rat) / 10000 ∨ d = 0 then s'
    else
      let qm := e.refQ / d
      let c : Rat := (s.capMas k : Nat)
      if c / 2 ≤ qm ∧ qm ≤ c * 6 / 5 then s'.learnCapacity k qm ((ua + ub) / absQ d) else s'.inconsistent k 1

/-- R251: an anchor. -/
def State.anchorRun (s : State) (k : Nat) : State :=
  let e := s.esti k
  if e.anchor then
    let sa := (s.regAt Reg.EST_ANCH k : Rat) / 10000
    let ua := (s.reg Reg.EST_UANCH : Rat) / 10000
    let s := s.setEsti k { e with soc := clampRat 0 1 sa, u := min s.uMax ua, anchor := false, anchSec := some (s.reg Reg.JRN_OPSEC)
                                  anchTemp := s.strTemp k, anchors := min 65535 (e.anchors + 1) }
    (s.reference k sa ua).learning k
  else s

/-- R253: the PRECHARGE-to-FAST crossing as a reference point. -/
def State.lowRefRun (s : State) (k : Nat) : State :=
  let e := s.esti k
  if e.lowRef then (s.setEsti k { e with lowRef := false }).reference k ((s.reg Reg.EST_LOWREF : Rat) / 10000) (3 / 100) else s

/-- R254: a parameter within 0.25 to 4.0 of its initial value, and whether it stands at a limit. -/
def held (v init : Rat) : Rat × Bool := (clampRat (init / 4) (init * 4) v, decide (v ≤ init / 4 ∨ init * 4 ≤ v) && decide (init ≠ 0))

/-- R254: limit episodes of the three parameters. -/
def State.paramLimit (s : State) (k j : Nat) (lim : Bool) : State :=
  let e := s.esti k
  let told := bitOf e.told j
  let s := s.setEsti k { e with told := setBit e.told j lim }
  if lim && !told then (s.flag Reg.EST_FLAGS_LIMIT).raise 0x3157 3 0x0B k j else s

/-- R254: the RC pairs and the parameters follow a run of `dt` seconds. -/
def State.modelRun (s : State) (k : Nat) (dt : Rat) : State :=
  let e := s.esti k
  let bi : Rat := if e.biN = 0 then 0 else e.biSum / (e.biN : Nat)
  let kf := Config.expNeg (dt * 1000 / (s.regAt Reg.EST_TFAST k : Nat))
  let kl := Config.expNeg (dt * 10 / (s.regAt Reg.EST_TSLOW k : Nat))
  let vf := e.vf * kf + bi * e.rfast / 1000000 * (1 - kf)
  let vl := e.vl * kl + bi * e.rslow / 1000000 * (1 - kl)
  let model := (s.cells k : Nat) * (s.ocvAt k e.soc + s.ocvTemp k) + bi * e.rser / 1000000 + vf + vl
  let err := (match e.last with | none => model | some (_, bv) => bv) - model
  let g := if e.ce / 72000 ≤ absQ bi then err * (s.reg Reg.EST_MGAIN : Nat) / 65536 else 0
  let (n, s) := s.takeFree
  let (m, s) := s.takeFree
  let dir := fun (v : Rat) => if v < 0 then (-1 : Rat) else if v = 0 then 0 else 1
  let (rser, l0) := held e.rser ((s.regAt Reg.EST_RSER0 k * 10 : Nat) : Rat)
  let (rfast, l1) := held (e.rfast + g * dir vf * absQ (Config.modelStep n)) ((s.regAt Reg.EST_RFAST0 k * 10 : Nat) : Rat)
  let (rslow, l2) := held (e.rslow + g * dir vl * absQ (Config.modelStep m)) ((s.regAt Reg.EST_RSLOW0 k * 10 : Nat) : Rat)
  let s := s.setEsti k { e with vf := vf, vl := vl, rser := rser, rfast := rfast, rslow := rslow, biSum := 0, biN := 0 }
  ((s.paramLimit k 0 l0).paramLimit k 1 l1).paramLimit k 2 l2

/-- R257: the capsule of string `k`. -/
def State.capsuleBytes (s : State) (k : Nat) : List Nat :=
  let e := s.esti k
  let pc := fun (q : Rat) => toUnitNat (q * 10000)
  let untrusted := s.regAt Reg.EST_STATE k / 4
  let b := [1, (if s.lithium k then 1 else 0) + 2 * untrusted + 4 * s.regAt Reg.BST_HIST_NORMAL k, s.cells k, 0] ++
    (List.range 16).map (fun i => s.regAt Reg.EST_SERIAL (16 * k + i)) ++
    natBytes 4 (s.regAt Reg.EST_GEN k) ++ natBytes 4 (satNat 32 (toUnitNat (e.ce / 36000))) ++ natBytes 2 (satNat 16 (pc e.uc)) ++
    natBytes 2 (satNat 16 (pc (e.ce / (s.capMas k : Nat)))) ++ natBytes 2 (satNat 16 (pc e.soc)) ++ natBytes 2 (satNat 16 (pc e.u)) ++
    natBytes 4 (satNat 32 (toUnitNat (e.cycles * 100))) ++ natBytes 4 (satNat 32 (toUnitNat (e.life / 360000))) ++
    natBytes 4 (satNat 32 (toUnitNat e.rser)) ++ natBytes 4 (satNat 32 (toUnitNat e.rfast)) ++ natBytes 4 (satNat 32 (toUnitNat e.rslow)) ++
    natBytes 4 (satNat 32 (toUnitNat e.rref)) ++ natBytes 2 (s.regAt Reg.BST_DEFICIT k) ++ natBytes 2 (ofInt 16 e.anchTemp) ++
    natBytes 4 (match e.anchSec with | none => 0xFFFFFFFF | some t => s.reg Reg.JRN_OPSEC - t) ++ natBytes 2 e.anchors ++
    natBytes 2 e.learned ++ List.replicate 51 0
  b ++ natBytes 4 (crc32 b) ++ [0xC3]

/-- R258: the export of a capsule by the owner. -/
def State.exportCapsule (s : State) (k : Nat) : State :=
  let e := s.esti k
  let s := s.setEsti k { e with export_ := false }
  if s.owner && s.est0 k == estKnown then
    let s := s.putAt Reg.EST_GEN k (s.regAt Reg.EST_GEN k + 1)
    let e := s.esti k
    let s := s.setEsti k { e with expSec := s.reg Reg.JRN_OPSEC }
    let s := if bitOf (s.reg Reg.EST_XPEND) k then s.bump Reg.EST_EXPLOST else s
    let bytes := s.capsuleBytes k
    let s := (List.range 128).foldl (fun s i => s.putAt Reg.EST_XCAP (128 * k + i) ((bytes[i]?).getD 0)) s
    (s.putBit Reg.EST_XPEND k true).raise 0x3152 0 0x0B k (s.regAt Reg.EST_GEN k)
  else s

/-- R261: staging is reset; bytes staged are told by EST_RRES = 10 where a rule says so. -/
def State.stagingReset (s : State) (why : Nat) : State :=
  if s.est.staged = [] then s
  else
    let s := ({ s with est.staged := [], est.stagedAt := none }.put Reg.EST_ROFFLINE 0xFFFFFFFF).put Reg.EST_RFILL 0
    if why = 10 then ((s.put Reg.EST_RRES 10).flag Reg.EST_FLAGS_REJECT).raise 0x3154 2 0x0B (s.reg Reg.EST_RIDX) 10 else s

/-- R259: a capsule that passed is applied. -/
def State.applyCapsule (s : State) (k : Nat) (c : List Nat) : State :=
  let u := fun (a n : Nat) => natOfBytes ((c.drop a).take n)
  let q := fun (a n : Nat) => ((u a n : Nat) : Rat)
  let e := s.esti k
  let age := u 64 4
  let e := { e with ce := q 24 4 * 36000, uc := min s.ucMax (q 28 2 / 10000), soc := clampRat 0 1 (q 32 2 / 10000), u := min s.uMax (q 34 2 / 10000)
                    cycles := q 36 4 / 100, life := q 40 4 * 360000, rser := q 44 4, rfast := q 48 4, rslow := q 52 4, rref := q 56 4
                    anchTemp := toInt 16 (u 62 2), anchSec := if age = 0xFFFFFFFF then none else some (s.reg Reg.JRN_OPSEC - age)
                    anchors := u 68 2, learned := u 70 2, capsule := none, ref := none, refQ := 0, export_ := false }
  let off := s.reg Reg.EST_ROFFLINE
  let naive := s.estInit k
  let (e, lost) := if off = 0xFFFFFFFF then ({ e with soc := naive.soc, u := naive.u }, 0) else s.aged k e off 25
  let y := s.str k
  let s := s.setStr k { y with deficit := q 60 2 * 36000 }
  let s := ((s.setEsti k e).addDeficit k lost).putAt Reg.BST_HIST_NORMAL k (u 1 1 / 4 % 2)
  let s := (List.range 16).foldl (fun s i => s.putAt Reg.EST_SERIAL (16 * k + i) (u (4 + i) 1)) s
  let s := ((s.putAt Reg.EST_GEN k (u 20 4)).setEst0 k estKnown).putBit Reg.EST_XPEND k false
  let s := ((s.flag Reg.EST_FLAGS_RESTORED).put Reg.EST_RRES 2).raise 0x3153 1 0x0B k (s.regAt Reg.EST_GEN k)
  let s := s.sendCapsule k c
  if s.reg Reg.EST_RIDX = k then s.stagingReset 0 else s

/-- R259: a capsule waiting for this run. -/
def State.capsuleRun (s : State) (k : Nat) : State :=
  match (s.esti k).capsule with
  | none => s
  | some c => s.applyCapsule k c

/-- R258, R248: a periodic export is due. -/
def State.exportDue (s : State) (k : Nat) : Bool :=
  let n := s.reg Reg.EST_EXPINT
  s.est0 k == estKnown && n != 0 && decide ((s.esti k).expSec + 3600 * n ≤ s.reg Reg.JRN_OPSEC)

/-- One run of one estimator: step 2 of R25 (R248-R255). -/
def State.estRunOne (s : State) (k : Nat) : State :=
  if s.est0 k = estAbsent then s
  else
    let e := s.esti k
    let dq := e.acc
    let sec := s.reg Reg.JRN_OPSEC - e.runSec
    let dt : Rat := ((s.now - e.runAt : Nat) : Rat) / (edgeSec : Nat)
    let e := { e with acc := 0, refQ := e.refQ + dq, soc := if e.ce = 0 then e.soc else clampRat 0 1 (e.soc + dq / e.ce)
                      runSec := s.reg Reg.JRN_OPSEC, runAt := s.now }
    let e := if e.ce = 0 then e else s.widen e (absQ dq * (s.reg Reg.EST_UGAIN : Nat) / 10000 / e.ce)
    let (e, sd) := s.aged k e sec ((s.strTemp k : Rat) / 16)
    let s := (s.setEsti k e).addDeficit k sd
    let s := ((((s.capsuleRun k).anchorRun k).lowRefRun k).modelRun k dt)
    let s := s.estPublish k
    if (s.esti k).export_ then s.exportCapsule k else s

/-- The estimator runs: not in hibernation, in LOCKOUT, in a cold TADPOLE or while the supervisor is down (R256, R263). -/
def State.estRuns (s : State) : Bool :=
  !s.isSet Reg.EST_STAT_HIB && s.mode != modeLockout && !(s.mode == modeTadpole && !s.core.tadReload) && s.supUp

/-- Step 2 of R25. -/
def State.estimatorRun (s : State) : State := if s.estRuns then strIds.foldl State.estRunOne s else s

/-- ESTIMATOR_NAIVE_TIMEOUT (R246). -/
def execEstimatorNaiveTimeout (t : Edges) (k : Str) (s : State) : Host.Outcome State Fault Refusal :=
  live t s fun s =>
    if s.est0 k.val = estWait ∧ s.elapsed (s.esti k.val).waitAt (30 * edgeSec) then
      ((s.setEst0 k.val estNaive).flag Reg.EST_FLAGS_NAIVE).raise 0x3151 3 0x0B k.val (s.regAt Reg.EST_SOC k.val)
    else s

/-- R252: the conditions of a rest hold. -/
def State.resting (s : State) (k : Nat) : Bool :=
  let e := s.esti k
  let since := match e.restAt with | none => e.lowAt | some t => some t
  s.est0 k != estAbsent && s.ran e.lowAt (s.reg Reg.EST_RESTT * edgeSec) && s.ran since (s.reg Reg.EST_RESTT * edgeSec) &&
    decide (e.vf + e.vl < (s.cells k : Nat)) && !s.sagOpen k && !chargingSt (s.cst k)

/-- R252: the correction of a rest. -/
def State.restCorrect (s : State) (k : Nat) : State :=
  let e := s.esti k
  let so := s.socOcv k
  let uo : Rat := ((if s.lithium k then s.reg Reg.EST_OCVU_L else s.reg Reg.EST_OCVU_N : Nat) : Rat) / 10000
  let lo := max (e.soc - e.u) (so - uo)
  let hi := min (e.soc + e.u) (so + uo)
  let (s', e') := if lo ≤ hi then (s, { e with soc := clampRat 0 1 ((lo + hi) / 2), u := min s.uMax ((hi - lo) / 2) })
    else (s.inconsistent k 0, { e with soc := clampRat 0 1 so, u := min s.uMax uo })
  let s' := s'.setEsti k { e' with restAt := some s.now }
  let s' := if 1 / 100 ≤ e.u - e'.u then s'.learning k else s'
  (if uo ≤ 5 / 100 then s'.reference k e'.soc e'.u else s').estPublish k

/-- REST_CORRECTION (R252). -/
def execRestCorrection (t : Edges) (k : Str) (s : State) : Host.Outcome State Fault Refusal :=
  live t s fun s => if s.resting k.val ∧ s.estRuns then s.restCorrect k.val else s

/-- ESTIMATOR_HIBERNATE (R256). -/
def execEstimatorHibernate (t : Edges) (s : State) : Host.Outcome State Fault Refusal :=
  live t s fun s =>
    if s.ran s.est.quietAt (10 * edgeSec) ∧ s.elapsed s.est.pageAt (10 * edgeSec) then s.put Reg.EST_STAT_HIB 1 else s

/-- R256: the estimator wakes, and books the interval as one run. -/
def State.estWake (s : State) : State :=
  if s.isSet Reg.EST_STAT_HIB then { s.put Reg.EST_STAT_HIB 0 with est.quietAt := none }.estimatorRun else s

/-- R256: a PAGE write on port H selects an estimator page. -/
def State.estPage (s : State) : State := { s with est.pageAt := s.now }.estWake

/-- ESTIMATOR_WAKE (R256). -/
def execEstimatorWake (t : Edges) (byPage : Bool) (s : State) : Host.Outcome State Fault Refusal :=
  live t s fun s => if byPage then s.estPage else s.estWake

/-- CAPSULE_PERIODIC_EXPORT (R258): the export follows at the end of the next run. -/
def execCapsulePeriodicExport (t : Edges) (k : Str) (s : State) : Host.Outcome State Fault Refusal :=
  live t s fun s => if s.exportDue k.val then s.learning k.val else s

/-- R259, R266: a write of EST_RIDX resets staging. -/
def State.ridxWrite (s : State) (v : Nat) : State :=
  let s := s.stagingReset 0
  ((s.put Reg.EST_RIDX v).put Reg.EST_ROFFLINE 0xFFFFFFFF).put Reg.EST_RFILL 0

/-- EST_RIDX (R259). -/
def execEstRidx (t : Edges) (v : Byte) (s : State) : Host.Outcome State Fault Refusal :=
  hostWrite t s fun s => s.ridxWrite v.toNat

/-- R259: a byte is staged. -/
def State.stageByte (s : State) (off v : Nat) : State :=
  let l : List (Nat × Nat) := (off, v) :: s.est.staged.filter (fun p => p.1 != off)
  { s with est.staged := l, est.stagedAt := some s.now }.put Reg.EST_RFILL (l.filter (fun (p : Nat × Nat) => decide (p.1 < 127))).length

/-- The staged byte at an offset. -/
def State.stagedByte (s : State) (off : Nat) : Nat :=
  match s.est.staged.find? (fun p => p.1 == off) with
  | none => 0
  | some p => p.2

/-- R260: the conditions a capsule fails, by code. -/
def State.capsuleFaults (s : State) (c : List Nat) (last : Bool) : List Nat :=
  let k := s.reg Reg.EST_RIDX
  let cb := fun (i : Nat) => c.getD i 0
  let cap := natOfBytes ((c.drop 24).take 4) * 36000
  let code := fun (b : Bool) (n : Nat) => if b then [n] else []
  code (decide (natOfBytes ((c.drop 123).take 4) ≠ crc32 (c.take 123))) 3 ++ code (s.reg Reg.EST_RFILL < 127) 4 ++ code (!last) 5 ++
    code (cb 127 != 0xC3) 6 ++
    code (cb 0 != 1 || cb 1 % 2 != (if s.lithium k then 1 else 0) || cb 2 != s.cells k) 7 ++
    code (s.est0 k == estAbsent) 8 ++ code (decide (2 * cap < s.capMas k ∨ 6 * s.capMas k < 5 * cap)) 9 ++ code (!s.owner) 11

/-- R260: a refused restore; where several conditions fail, which one EST_RRES names is a free choice. -/
def State.restoreRefused (s : State) (fs : List Nat) : State :=
  let (n, s) := if fs.length ≤ 1 then (0, s) else s.takeFree
  let code := (fs[n % (max 1 fs.length)]?).getD 0
  ((s.put Reg.EST_RRES code).flag Reg.EST_FLAGS_REJECT).raise 0x3154 2 0x0B (s.reg Reg.EST_RIDX) code

/-- R259, R260: the write of byte 127 is acted upon at the stop of its transaction. -/
def State.capsuleCommit (s : State) (last : Bool) : State :=
  if s.est.staged.any (fun p => p.1 == 127) then
    let c := (List.range 128).map s.stagedByte
    match s.capsuleFaults c last with
    | [] =>
      let k := s.reg Reg.EST_RIDX
      let e := s.esti k
      (s.setEsti k { e with capsule := some c }).put Reg.EST_RRES 1
    | fs => s.restoreRefused fs
  else s

/-- CAPSULE_COMMIT (R259): during a supervisor restart byte 127 is not acknowledged (R261). -/
def execCapsuleCommit (t : Edges) (byte127 : Bool) (s : State) : Host.Outcome State Fault Refusal :=
  live t s fun s => if s.supUp then s.capsuleCommit byte127 else s

/-- STAGING_TIMEOUT (R261). -/
def execStagingTimeout (t : Edges) (s : State) : Host.Outcome State Fault Refusal :=
  live t s fun s => if s.ran s.est.stagedAt edgeSec then s.stagingReset 10 else s

/-- R73: the first RUN, HOLDUP or SHADOW entry is the first presence of the strings already present. -/
def State.estFirst (s : State) : State :=
  if s.est.begun then s
  else strIds.foldl (fun s k => if s.pg (8 + k) && s.est0 k == estAbsent then s.estBegin k else s) { s with est.begun := true }

end Sys2Proof.Machine
end

