-- ==== Sys2Proof/Machine/Sag.lean ====
section
/-! DEFINITION. Sag episodes of the strings (R169, R170, R475). -/

namespace Sys2Proof.Machine

/-- The open sag episode of string `k`. -/
def State.sagEp (s : State) (k : Nat) : Option SagEp := (s.step.sag.toList[k]?).getD none
def State.setSag (s : State) (k : Nat) (e : Option SagEp) : State := { s with step.sag := s.step.sag.setIfInBounds k e }

/-- R169, R475: the discharge sample catches. -/
def State.catches (s : State) (k : Nat) : Bool :=
  if s.regAt Reg.FUS_ISCAL (8 + k) = 0 then decide (25 ≤ s.fiPin (8 + k))
  else decide ((s.reg Reg.STP_SAGI * 100 : Nat) ≤ s.fiMa (8 + k))

/-- R170: what an episode books when it closes; with no current scale it books nothing (R475). -/
def State.sagBook (s : State) (k : Nat) (e : SagEp) : State :=
  if s.regAt Reg.FUS_ISCAL (8 + k) = 0 then s
  else
    let q := toUnitNat e.sum
    let s := s.putAtSat Reg.STP_SAGQ k (s.regAt Reg.STP_SAGQ k + q)
    let s := (s.bumpAt Reg.STP_SAGN k).putSat Reg.STP_SAGLAST (toUnitNat (((e.last - e.first : Nat) : Rat) / 6400) + 5)
    (s.flag Reg.STP_FLAGS_SAGEND).raise 0x1160 1 0x07 (k + 65536 * satNat 16 (toUnitNat (e.peak / 100))) (satNat 32 q)

/-- R248: the side accumulator goes, and the hand-over sum in mA s takes its place. -/
def State.sagHand (s : State) (k : Nat) (q : Rat) : State :=
  let e := s.esti k
  let y := s.str k
  let s := (s.setEsti k { e with side := 0 }).setStr k { y with defSide := 0 }
  let s := if s.est0 k = estAbsent then s else s.bookCharge k (-q)
  s.addDeficit k q

/-- R170: the open episode of string `k` closes; at a removal its charge is not handed over. -/
def State.sagClose (s : State) (k : Nat) (hand : Bool) : State :=
  match s.sagEp k with
  | none => s
  | some e =>
    let s := (s.setSag k none).sagBook k e
    s.sagHand k (if hand && s.regAt Reg.FUS_ISCAL (8 + k) != 0 then e.sum / 1000 else 0)

/-- R170: every open episode closes. -/
def State.sagCloseAll (s : State) : State := strIds.foldl (fun s k => s.sagClose k true) s

/-- R169, R170: one sample of FI of string `k` every 5 us: catching opens or holds an episode, and each discharge sample is
summed over it. -/
def State.sagSample (s : State) (k : Nat) : State :=
  let i := max 0 (s.fiMa (8 + k))
  let c := s.catches k
  let was := s.step.catching
  let s := { s with step.catching := setBit was k c }
  let s := if setBit was k c = 0 then { s with step.deepTold := false } else s
  let s := if c then { s with step.sagAt := some s.now }.put Reg.STP_STAT_SAG 1 else s
  match s.sagEp k with
  | some e =>
    s.setSag k (some { e with last := if c then s.now else e.last, sum := e.sum + i * 5 / 1000, peak := max e.peak i })
  | none =>
    if c && (s.mode == modeRun || s.mode == modeTadpole || s.mode == modeShadow) then s.setSag k (some ⟨s.now, s.now, i * 5 / 1000, i⟩) else s

/-- SAG_EPISODE_CLOSE (R169, R170): STP_SAGHOLD after the last catching sample. -/
def execSagEpisodeClose (t : Edges) (k : Str) (s : State) : Host.Outcome State Fault Refusal :=
  live t s fun s =>
    let hold := s.reg Reg.STP_SAGHOLD * edgeUs
    let s := match s.sagEp k.val with
      | none => s
      | some e => if s.elapsed e.last hold then s.sagClose k.val true else s
    if s.ran s.step.sagAt hold then { s with step.sagAt := none }.put Reg.STP_STAT_SAG 0 else s

end Sys2Proof.Machine
end

