-- ==== Sys2Proof/Machine/Strings.lean ====
section
/-! DEFINITION. Battery strings and their charge stages (R218-R242). -/

namespace Sys2Proof.Machine

/-- Time in the present phase, in edge units (R232). -/
def State.phTime (s : State) (k : Nat) : Nat :=
  let y := s.str k
  y.phRun + (if s.cst k = strTempwait then 0 else s.now - y.phAt)

/-- BST_PHTIME, BST_ISET, BST_QFAST and BST_DVCNT follow the string. -/
def State.strShow (s : State) (k : Nat) : State :=
  let y := s.str k
  let s := (s.putAt Reg.BST_PHTIME k (s.phTime k / edgeSec)).putAtSat Reg.BST_ISET k (toUnitNat (y.iset / 10))
  let s := (s.putAtSat Reg.BST_QFAST k (toUnitNat (y.qfast / 3600))).putAtSat Reg.BST_M k (toUnitNat (y.m * 16384))
  s.putAtSat Reg.BST_VPK k (match y.vpk with | none => 0 | some v => toUnitNat (v * (s.cells k : Nat)))

/-- A new 1 s window (R237). -/
def State.newWindow (s : State) (k : Nat) : State :=
  let y := s.str k
  s.setStr k { y with winAt := s.now, bvSum := 0, biSum := 0, tSum := 0, winN := 0, winIset := y.iset, winClean := !s.sagOpen k }

/-- R229: at each entry to a charging state M is preset and the integrators are 0; a string not charging before has Iset 0. -/
def State.stagePreset (s : State) (k : Nat) (was : Bool) : State :=
  let y := s.str k
  let i := if was then y.iset else 0
  s.setStr k { y with m := s.bv k / s.vsMv, intI := 0, intV := 0, vsPrev := s.sup.vs, iset := i, target := if was then y.target else 0 }

/-- R232: a change of state of a string. -/
def State.strTo (s : State) (k new reason : Nat) : State :=
  let old := s.cst k
  let y := s.str k
  let y := { y with phRun := s.phTime k, phase := if new = strTempwait ∧ chargingSt old then some old else if new = strTempwait then none else y.phase }
  let y := if new = strTempwait then { y with coolAt := none } else { y with phRun := 0, phAt := s.now, phase := none }
  let y := { y with cvAt := none, taperN := 0 }
  let y := if new = strFast then { y with qfast := 0, vpk := none, temps := [], dtN := 0 } else y
  let y := if chargingSt new then y else { y with iset := 0, target := 0 }
  let s := ((s.setStr k y).putAt Reg.BST_CST k new).putAt Reg.BST_WST_STATE k new
  let s := (s.putAt Reg.BST_WST_REASON k reason).putBit Reg.BST_CHARGING k (chargingSt new)
  let s := if chargingSt new then (s.stagePreset k (chargingSt old)).newWindow k else s
  let s := if new = strFast then s.putAt Reg.BST_DVCNT k 0 else s
  let s := if new = strHalt then s.flag Reg.BST_FLAGS_HALT else s
  (s.strShow k).raise 0x3100 0 0x0A k (old + 256 * new + 65536 * reason)

/-- R236: out of TEMPWAIT to the remembered phase, whose timer goes on. -/
def State.strResume (s : State) (k ph : Nat) : State :=
  let y := s.str k
  let s := s.strTo k ph 1
  let z := s.str k
  (s.setStr k { z with phRun := y.phRun, qfast := y.qfast, vpk := y.vpk, topoff := y.topoff }).strShow k

/-- R225: BOKs does not stop a charge. -/
def State.bokOk (s : State) (k : Nat) : Bool := !s.lithium k || bitOf (s.reg Reg.BST_BOKLVL) k

/-- R231: why charging is not allowed, by reason code; none where it is. -/
def State.chargeBar (s : State) (k : Nat) : Option Nat :=
  if (s.str k).stopped then some 16
  else if s.workMode = modeHoldup then some 15
  else if s.workMode ≠ modeRun ∨ s.regAt Reg.BST_CFG_EN k = 0 ∨ s.cells k = 0 then some 14
  else if !s.bokOk k then some 13
  else none

/-- R236: charging stops being allowed. -/
def State.chargeStop (s : State) (k : Nat) : State :=
  match s.chargeBar k with
  | none => s
  | some r =>
    let st := s.cst k
    if strTrickle ≤ st ∧ st ≤ strTempwait then
      let s := s.strTo k strOff r
      let y := s.str k
      (s.setStr k { y with vpk := none, temps := [], dtN := 0, phRun := 0 }).putAt Reg.BST_DVCNT k 0
    else s

/-- Every string looks again at whether it may charge. -/
def State.chargeStops (s : State) : State := strIds.foldl State.chargeStop s

/-- A share of C, in mA s: `n` parts in `d`. -/
def State.capPart (s : State) (k n d : Nat) : Rat := (s.capMas k * n : Nat) / (d : Nat)

/-- R233: start selection, with the reason it was called for. -/
def State.startSelect (s : State) (k reason : Nat) : State :=
  let temp := s.strTemp k
  let v := s.vCell k
  let li := s.lithium k
  if temp < s.sregAt Reg.BST_TMINC k ∨ s.sregAt Reg.BST_TMAXC k < temp then s.strTo k strTempwait 11
  else if s.regAt Reg.BST_HIST_NORMAL k = 1 ∧ (s.str k).deficit < s.capPart k (s.regAt Reg.BST_REFAST k) 100 then s.strTo k strMaintain 21
  else if v < (if li then 2500 else 900) then s.strTo k strTrickle reason
  else if v < (if li then 3000 else 1050) then s.strTo k strPrecharge reason
  else if li ∧ (s.regAt Reg.BST_LIRECH k : Rat) / 10 ≤ v then s.strTo k strMaintain 22
  else s.strTo k strFast reason

/-- R231: charging is eligible; for LITHIUM BOKs has been high for 1 s (R225). -/
def State.eligible (s : State) (k : Nat) : Bool :=
  let y := s.str k
  (match y.eligAt with | none => false | some t => decide (t ≤ s.now)) && !y.tripped && (!s.lithium k || s.ran y.bokAt edgeSec)

/-- R233: start selection from OFF when charging is allowed and eligible. -/
def State.tryStart (s : State) (k : Nat) : State :=
  if s.cst k = strOff ∧ s.chargeBar k = none ∧ s.eligible k then s.startSelect k 1 else s

/-- R231: charging is eligible `sec` seconds from now, and not before what stands already. -/
def State.eligIn (s : State) (k sec : Nat) : State :=
  let y := s.str k
  let t := s.now + sec * edgeSec
  s.setStr k { y with eligAt := some (match y.eligAt with | none => t | some u => max t u) }

/-- R211, R231: the recharge delays at RUN entry. -/
def State.eligRun (s : State) (fromHoldup : Bool) : State :=
  strIds.foldl (fun s k => s.eligIn k ((if fromHoldup then s.reg Reg.HUP_CHGDLY else 0) + k * s.reg Reg.HUP_CHGSTAG)) s

/-- R234, R235: a charge terminates: event 0x3101, and for a limit its own event. -/
def State.terminated (s : State) (k reason : Nat) : State :=
  (s.flag Reg.BST_FLAGS_TERM).raise 0x3101 1 0x0A k (reason + 65536 * satNat 16 (toUnitNat ((s.str k).qfast / 360000)))

/-- R234: event 0x3102. -/
def State.chargeLimit (s : State) (k reason : Nat) : State := s.raise 0x3102 3 0x0A k (s.cst k + 256 * reason)

/-- R234, R235: to TERMINATE; a normal one sets BST_HIST.NORMAL and starts the deficit again (R233). -/
def State.toTerminate (s : State) (k reason : Nat) (normal : Bool) : State :=
  let s := s.terminated k reason
  let s := if normal then
      let y := s.str k
      ((s.setStr k { y with deficit := 0, defSide := 0 }).putAt Reg.BST_HIST_NORMAL k 1).putAt Reg.BST_DEFICIT k 0
    else s
  s.strTo k strTerminate reason

/-- An anchor goes to the estimator (R234, R235, R251). -/
def State.anchorGiven (s : State) (k : Nat) : State :=
  let e := s.esti k
  if s.est0 k = estAbsent then s else s.setEsti k { e with anchor := true }

/-- R234, R237, R238: NICKEL detection in FAST: TOPOFF for BST_TOPT with an anchor. -/
def State.toTopoff (s : State) (k reason dur : Nat) : State :=
  let s := s.strTo k strTopoff reason
  let y := s.str k
  s.setStr k { y with topoff := dur }

/-- R236: HALT on a temperature or voltage. -/
def State.strHaltEvent (s : State) (k reason : Nat) : State :=
  (s.strTo k strHalt reason).raise 0x3104 4 0x0A k (reason + 65536 * satNat 16 (toUnitNat ((s.str k).bvAvg / 10)))

/-- R234-R236: event 0x3103 with BST_TSTR. -/
def State.strTempEvent (s : State) (k : Nat) : State :=
  (s.flag Reg.BST_FLAGS_TEMP).raise 0x3103 3 0x0A k (s.regAt Reg.BST_TSTR k)

/-- R237: the window that closed: a clean one moves the peak or the count; a change of Iset of 5 % or more re-bases. -/
def State.dvWindow (s : State) (k : Nat) : State :=
  let y := s.str k
  let v := s.vCell k
  let clean := y.winClean && decide (y.iset = y.winIset) && decide (s.regAt Reg.BST_DVBLANK k * edgeSec ≤ s.phTime k)
  if y.winIset ≠ 0 ∧ absQ y.winIset / 20 ≤ absQ (y.iset - y.winIset) then (s.setStr k { y with vpk := none }).strShow k
  else if !clean then s
  else
    let pk := match y.vpk with
      | none => v
      | some p => max p v
    let s := (s.setStr k { y with vpk := some pk }).strShow k
    let hit := decide ((s.regAt Reg.BST_DV k : Rat) ≤ pk - v)
    s.putAtSat Reg.BST_DVCNT k (if hit then s.regAt Reg.BST_DVCNT k + 1 else 0)

/-- R238: the slope over 60 s, in degC per minute; none before 60 s of history. -/
def State.slope (s : State) (k : Nat) : Option Rat :=
  match (s.str k).temps with
  | [] => none
  | now :: rest => (rest[59]?).map (fun old => (now - old) / 16)

/-- R238: the second's temperature joins the history, and the slope is judged. -/
def State.dtSecond (s : State) (k : Nat) (temp : Rat) : State :=
  let y := s.str k
  let s := s.setStr k { y with temps := (temp :: y.temps).take 61 }
  match s.slope k with
  | none => s
  | some r =>
    let y := s.str k
    let s := s.sputAt Reg.BST_DTNOW k (toUnit (r * 10))
    if s.regAt Reg.BST_DVBLANK k * edgeSec ≤ s.phTime k then
      s.setStr k { y with dtN := if (s.regAt Reg.BST_DTDT k : Rat) / 10 ≤ r then y.dtN + 1 else 0 }
    else s

/-- R234: the rules of a NICKEL string each second. -/
def State.nickelSecond (s : State) (k : Nat) : State :=
  let st := s.cst k
  let v := s.vCell k
  let hot := s.sregAt Reg.BST_TTERM k ≤ s.strTemp k
  if st = strTrickle ∧ 900 ≤ v then s.strTo k strPrecharge 2
  else if st = strPrecharge ∧ 1050 ≤ v then
    let e := s.esti k
    (s.setEsti k { e with lowRef := s.est0 k != estAbsent }).strTo k strFast 2
  else if (st = strFast ∨ st = strTopoff) ∧ hot then (s.toTerminate k 9 false).strTempEvent k
  else if st = strFast ∧ 0 < s.regAt Reg.BST_DVCNT k ∧ s.regAt Reg.BST_DVN k ≤ s.regAt Reg.BST_DVCNT k then
    ((s.terminated k 3).anchorGiven k).toTopoff k 3 (s.regAt Reg.BST_TOPT k * 60 * edgeSec)
  else if st = strFast ∧ 2 ≤ (s.str k).dtN then
    ((s.terminated k 4).anchorGiven k).toTopoff k 4 (s.regAt Reg.BST_TOPT k * 60 * edgeSec)
  else if st = strFast ∧ s.capPart k (s.regAt Reg.BST_QMAX k) 100 ≤ (s.str k).qfast then (s.chargeLimit k 8).toTerminate k 8 false
  else s

/-- R235: the rules of a LITHIUM string each second. -/
def State.lithiumSecond (s : State) (k : Nat) : State :=
  let st := s.cst k
  let v := s.vCell k
  let y := s.str k
  let hot := s.sregAt Reg.BST_TTERM k ≤ s.strTemp k
  if st = strTrickle ∧ 2500 ≤ v then s.strTo k strPrecharge 2
  else if st = strPrecharge ∧ 3000 ≤ v then
    let e := s.esti k
    (s.setEsti k { e with lowRef := s.est0 k != estAbsent }).strTo k strFast 2
  else if (st = strFast ∨ st = strTopoff) ∧ hot then (s.toTerminate k 9 false).strTempEvent k
  else if st = strFast ∧ s.capPart k (s.regAt Reg.BST_QMAX k) 100 ≤ y.qfast then (s.chargeLimit k 8).toTerminate k 8 false
  else if st = strTopoff then
    let n := if y.biAvg ≤ s.capPart k 1 72000 then y.taperN + 1 else 0
    let s := s.setStr k { y with taperN := n }
    if 10 ≤ n then (s.anchorGiven k).toTerminate k 5 true else s
  else s

/-- R239: MAINTAIN each second. -/
def State.maintainSecond (s : State) (k : Nat) : State :=
  let d := (s.str k).deficit
  if s.capPart k (s.regAt Reg.BST_REFAST k) 100 ≤ d then s.startSelect k 21
  else if !s.lithium k && decide (s.capPart k (s.regAt Reg.BST_RETOP k) 1000 ≤ d) then
    s.toTopoff k 21 (toUnitNat (d * (s.regAt Reg.BST_RTFAC k : Nat) / 100 / s.capPart k 1 72000 * (edgeSec : Nat)))
  else if s.lithium k && decide (s.vCell k < (s.regAt Reg.BST_LIRECH k : Rat) / 10) && decide (absQ (s.str k).biAvg < s.capPart k 1 360000) then
    s.strTo k strFast 22
  else s

/-- R236: TEMPWAIT each second: 10 s inside the window. -/
def State.tempwaitSecond (s : State) (k : Nat) : State :=
  let y := s.str k
  let h : Rat := (s.regAt Reg.BST_THYS k : Rat) * 16 / 10
  let t : Rat := s.strTemp k
  if (s.sregAt Reg.BST_TMINC k : Rat) + h ≤ t ∧ t ≤ (s.sregAt Reg.BST_TMAXC k : Rat) - h then
    match y.coolAt with
    | none => s.setStr k { y with coolAt := some s.now }
    | some c =>
      if s.elapsed c (10 * edgeSec) then
        (match y.phase with
         | none => s.startSelect k 1
         | some p => s.strResume k p)
      else s
  else s.setStr k { y with coolAt := none }

/-- R236: the rows that come before R234 and R235: cut-off temperature, over-voltage, cold. -/
def State.guardSecond (s : State) (k : Nat) : Option State :=
  let st := s.cst k
  let t := s.strTemp k
  if st ≠ strAbsent ∧ st ≠ strHalt ∧ s.sregAt Reg.BST_TCUT k ≤ t ∧ s.cells k ≠ 0 then some ((s.strHaltEvent k 10).flag Reg.BST_FLAGS_TEMP)
  else if chargingSt st ∧ (s.regAt Reg.BST_VCV k : Rat) / 10 + (s.regAt Reg.BST_VOVM k : Rat) < s.vCell k then some (s.strHaltEvent k 12)
  else if chargingSt st ∧ t < s.sregAt Reg.BST_TMINC k then some ((s.strTo k strTempwait 11).strTempEvent k)
  else none

/-- The rules of the second, by state (R234-R239). -/
def State.strRules (s : State) (k : Nat) : State :=
  match s.guardSecond k with
  | some s' => s'
  | none =>
    let st := s.cst k
    if chargingSt st then (if s.lithium k then s.lithiumSecond k else s.nickelSecond k)
    else if st = strMaintain then s.maintainSecond k
    else if st = strTempwait then s.tempwaitSecond k
    else s.tryStart k

/-- R237: the 1 s window of string `k` closes: its means show, and in FAST the window and the slope are judged. -/
def State.closeWindow (s : State) (k : Nat) : State :=
  let y := s.str k
  let n : Rat := (max 1 y.winN : Nat)
  let y := if y.winN = 0 then y else { y with bvAvg := y.bvSum / n, biAvg := y.biSum / n }
  let temp : Rat := if y.winN = 0 then s.strTemp k else y.tSum / n
  let s := ((s.setStr k y).putAtSat Reg.BST_BVAVG k (toUnitNat y.bvAvg)).sputAt Reg.BST_BIAVG k (toUnit (y.biAvg / 10))
  let s := s.sputAt Reg.BST_TSTR k (s.strTemp k)
  let s := if s.cst k = strFast then (s.dvWindow k).dtSecond k temp else s
  (s.newWindow k).strShow k

/-- CHARGE_SECOND (R237): a supervisor that is down judges nothing until it is back (R241). -/
def execChargeSecond (t : Edges) (k : Str) (s : State) : Host.Outcome State Fault Refusal :=
  live t s fun s =>
    if s.elapsed (s.str k.val).winAt edgeSec then
      let s := s.closeWindow k.val
      if s.supUp then s.strRules k.val else s
    else s

/-- R234, R235: a timer of string `k` has run. -/
def State.phaseTimeout (s : State) (k : Nat) : State :=
  let st := s.cst k
  let past := fun (f : Field) => decide (s.regAt f k * 60 * edgeSec ≤ s.phTime k)
  if st = strTrickle ∧ past Reg.BST_TTRK then (s.chargeLimit k 7).strTo k strHalt 7
  else if st = strPrecharge ∧ past Reg.BST_TPRE then (s.chargeLimit k 7).strTo k strHalt 7
  else if st = strFast ∧ past Reg.BST_TFAST then (s.chargeLimit k 7).toTerminate k 7 false
  else if st = strTopoff ∧ s.lithium k ∧ past Reg.BST_TCV then (s.chargeLimit k 7).toTerminate k 7 false
  else if st = strTopoff ∧ s.lithium k = false ∧ (s.str k).topoff ≤ s.phTime k then s.toTerminate k 6 true
  else if st = strTerminate ∧ s.regAt Reg.BST_TRST k * edgeSec ≤ s.phTime k then s.strTo k strMaintain 2
  else s

/-- CHARGE_PHASE_TIMEOUT (R234, R235). -/
def execChargePhaseTimeout (t : Edges) (k : Str) (s : State) : Host.Outcome State Fault Refusal :=
  live t s fun s => if s.supUp then s.phaseTimeout k.val else s

/-- CHARGE_ELIGIBLE (R231). -/
def execChargeEligible (t : Edges) (k : Str) (s : State) : Host.Outcome State Fault Refusal :=
  live t s fun s => s.tryStart k.val

/-- R228: the largest M. -/
def State.mMax (s : State) (k : Nat) : Rat :=
  (s.regAt Reg.BST_DAMAX k : Rat) / (65536 - s.regAt Reg.BST_DBMAX k : Nat)

/-- R229: one evaluation of the average loop. -/
def State.averageLoop (s : State) (k : Nat) : State :=
  let y := s.str k
  let ramp : Rat := (s.reg Reg.BST_IRAMP * 10 : Nat) / 8000
  let iset := if y.iset ≤ y.target then min y.target (y.iset + ramp) else max y.target (y.iset - ramp)
  let pre : Rat := y.m * (y.vsPrev : Nat) / (s.sup.vs : Nat)
  let ei := (iset - s.bi k) / 10
  let ev := (s.regAt Reg.BST_VCV k * s.cells k : Nat) / 10 - s.bv k
  let g := fun (f : Field) => (s.regAt f k : Rat) / 65536
  let mi := pre + g Reg.BST_KPI * ei + y.intI
  let mv := pre + g Reg.BST_KPV * ev + y.intV
  let volt := decide (mv < mi)
  let m := clampRat 0 (s.mMax k) (min mi mv)
  let cv := if volt then (match y.cvAt with | none => some s.now | t => t) else none
  let y := { y with iset := iset, cvAt := cv, vsPrev := s.sup.vs }
  let y := if s.sagOpen k then y
    else if volt then { y with m := m, intV := y.intV + g Reg.BST_KIV * ev, intI := m - pre - g Reg.BST_KPI * ei }
    else { y with m := m, intI := y.intI + g Reg.BST_KII * ei, intV := m - pre - g Reg.BST_KPV * ev }
  (s.setStr k y).strShow k

/-- R234, R237: the sums of a sample. -/
def State.windowSample (s : State) (k : Nat) : State :=
  let y := s.str k
  s.setStr k { y with bvSum := y.bvSum + s.bv k, biSum := y.biSum + s.bi k, tSum := y.tSum + s.strTemp k, winN := y.winN + 1
                      winClean := y.winClean && !s.sagOpen k && decide (y.iset = y.winIset)
                      chkSum := y.chkSum + s.bv k, chkN := y.chkN + 1 }

/-- R233: the deficit follows BI, held aside while a sag episode is open. -/
def State.deficitSample (s : State) (k : Nat) : State :=
  let q := -(s.bi k) / 8000
  let y := s.str k
  let s := if s.cst k = strFast then s.setStr k { y with qfast := y.qfast - q } else s
  if s.sagOpen k then
    let y := s.str k
    s.setStr k { y with defSide := y.defSide + q }
  else s.addDeficit k q

/-- R256, R211: whether every present string is quiet, and whether every string's discharge is below STP_SAGI. -/
def State.quietCheck (s : State) : State :=
  let quiet := strIds.all (fun k => !bitOf (s.reg Reg.BST_PRESENT) k || decide (absQ (s.bi k) < (s.reg Reg.EST_WAKEI * 10 : Nat)))
  let calm := strIds.all (fun k => decide (-(s.bi k) < (s.reg Reg.STP_SAGI * 100 : Nat)))
  { s with est.quietAt := if quiet then (match s.est.quietAt with | none => some s.now | t => t) else none
           hup.quietAt := if calm then (match s.hup.quietAt with | none => some s.now | t => t) else none }

/-- R287: the BT codes gathered for the next evaluation. -/
def State.btSample (s : State) (k j code : Nat) : State :=
  let x := s.sensor (20 + 4 * k + j)
  s.setSensor (20 + 4 * k + j) { x with sum := x.sum + code, cnt := x.cnt + 1 }

/-- R229, R248: one simultaneous sample of string `k`. -/
def State.stringSample (s : State) (k : Nat) (q : StrCodes) : State :=
  let codes := [q.bv, q.bi, q.bt0, q.bt1, q.bt2, q.bt3]
  let s := (List.range 6).foldl (fun s i => s.putAt Reg.TLM_RAW_STR (6 * k + i) (codes.getD i 0).toNat) s
  let s := (((s.btSample k 0 q.bt0.toNat).btSample k 1 q.bt1.toNat).btSample k 2 q.bt2.toNat).btSample k 3 q.bt3.toNat
  let s := (s.windowSample k).strTlm k
  let s := if s.est0 k = estAbsent then s else (s.bookSample k (s.bi k)).stepResistance k (s.bi k) (s.bv k)
  let s := if s.cst k = strAbsent then s else s.deficitSample k
  let s := if chargingSt (s.cst k) then s.averageLoop k else s
  let s := s.quietCheck
  if s.cst k = strFast ∧ s.lithium k ∧ s.ran (s.str k).cvAt edgeSec ∧ s.supUp then s.strTo k strTopoff 2 else s

/-- STRING_SAMPLE (R229). -/
def execStringSample (t : Edges) (k : Str) (q : StrCodes) (s : State) : Host.Outcome State Fault Refusal :=
  live t s fun s => s.stringSample k.val q

/-- R227, R228: the duties of a period of string `k`. -/
def State.chargePeriod (s : State) (k : Nat) : State :=
  let y := s.str k
  let f := max 1 (s.regAt Reg.BST_FREQ k)
  let total := 6400000 + y.frac
  let len := total / f
  let da := min y.m ((s.regAt Reg.BST_DAMAX k : Rat) / 65536)
  let dam : Rat := (s.regAt Reg.BST_DAMAX k : Rat) / 65536
  let db := if y.m ≤ dam then 0 else min ((s.regAt Reg.BST_DBMAX k : Rat) / 65536) (1 - dam / y.m)
  let on := chargingSt (s.cst k)
  s.setStr k { y with perAt := s.now, perLen := len, frac := total % f, driving := on, limited := false
                      aFall := if on then nearestNat (da * (len : Nat)) else 0
                      bRise := if on then nearestNat (db * (len : Nat)) else 0 }

/-- CHARGE_PERIOD_START (R227). -/
def execChargePeriodStart (t : Edges) (k : Str) (s : State) : Host.Outcome State Fault Refusal :=
  live t s fun s => (s.chargePeriod k.val).outResumed (8 + k.val)

/-- CHARGE_CURRENT_LIMIT (R227): CHGA falls and CHGB rises at once for the rest of the period. -/
def execChargeCurrentLimit (t : Edges) (k : Str) (s : State) : Host.Outcome State Fault Refusal :=
  live t s fun s =>
    let y := s.str k.val
    if y.driving then s.setStr k.val { y with limited := true, aFall := min y.aFall (s.now - y.perAt), bRise := min y.bRise (s.now - y.perAt) } else s

/-- R230: the phase current of a string outside FAST, in mA; a LITHIUM TOPOFF takes what it takes. -/
def State.phaseMa (s : State) (k : Nat) : Rat :=
  let st := s.cst k
  if st = strTrickle then s.capPart k 1 360000
  else if st = strPrecharge then s.capPart k 1 36000
  else if s.lithium k then s.bi k
  else s.capPart k 1 72000

/-- R230: a target within 2 % of the Iset in force is not applied. -/
def State.setTarget (s : State) (k : Nat) (q : Rat) : State :=
  let y := s.str k
  if absQ (q - y.iset) * 50 ≤ y.iset then s else s.setStr k { y with target := q }

/-- R230: the charge targets at the end of step 4 of R25; `short` where the last allocation was short. -/
def State.chargeTargets (s : State) (short : Bool) : State :=
  let first := strIds.filter (fun k => chargingSt (s.cst k) && s.cst k != strFast)
  let fast := strIds.filter (fun k => s.cst k == strFast)
  let used := sumQ (first.map (fun k => s.phaseMa k * s.bv k / 1000000))
  let share := max 0 ((s.reg Reg.BST_PSHELF : Rat) - used) / (max 1 fast.length : Nat)
  let s := first.foldl (fun s k => if s.cst k = strTopoff ∧ s.lithium k then s else s.setTarget k (s.phaseMa k)) s
  fast.foldl (fun s k =>
    let q := min (s.capPart k (min 50 (s.regAt Reg.BST_FASTC k)) 360000) (min ((s.regAt Reg.BST_IMAX k * 10 : Nat) : Rat) (share * 1000000 / s.bv k))
    s.setTarget k (if short then min q (s.capPart k 1 36000) else q)) s

/-- R218: the legs go to the clamp state at once. -/
def State.clampNow (s : State) (k : Nat) : State :=
  let y := s.str k
  s.setStr k { y with driving := false, aFall := 0, bRise := 0, limited := false }

/-- R221 step 4, R236: the string's switch shows power-good. -/
def State.stringOn (s : State) (k : Nat) : State :=
  let y := s.str k
  if y.ramping then
    let s := s.setStr k { y with ramping := false, tripped := false }
    let s := (s.flag Reg.BST_FLAGS_INSERTED).raise 0x3110 1 0x0A k (toUnitNat (s.bv k / 10))
    let s := s.strTo k strOff 0
    let s := if s.est.begun ∧ s.est0 k = estAbsent then s.estBegin k else s
    if s.imgValid then s.eligIn k (s.reg Reg.BST_INSDLY) else s
  else if y.tripped then (s.setStr k { y with tripped := false }).eligIn k (s.reg Reg.BST_INSDLY)
  else s

/-- R236: the string's switch trips. -/
def State.stringTrip (s : State) (k : Nat) : State :=
  let y := s.str k
  let s := (s.setStr k { y with tripped := true, eligAt := none }).clampNow k
  if strOff < s.cst k ∧ s.cst k ≠ strHalt then s.strTo k strOff 17 else s

/-- R221: the per-cell window of step 2. -/
def State.cellsOk (s : State) (k : Nat) (v : Rat) : Bool :=
  s.cells k != 0 && (if s.lithium k then decide (2000 ≤ v ∧ v ≤ 4250) else decide (500 ≤ v ∧ v ≤ 1650))

/-- R223, R222: the string is refused: HALT with reason 20. -/
def State.stringReject (s : State) (k : Nat) (p1 : Nat) : State :=
  let y := s.str k
  ((s.setStr k { y with chkAt := none, ramping := false, builtin := false }).strTo k strHalt 20).raise 0x3111 3 0x0A k p1

/-- Parameter 1 of event 0x3111 (R244). -/
def State.rejectParam (s : State) (k : Nat) (bv : Rat) (builtin : Bool) : Nat :=
  if builtin then 2 ^ 31 + toUnitNat (bv / 10) else satNat 32 (toUnitNat (bv / (s.cells k : Nat) * 10))

/-- R221 step 2, R222: the mean of BV over the check's time is judged; a string that passes goes to step 3. -/
def State.insertCheck (s : State) (k : Nat) : State :=
  let y := s.str k
  let bv : Rat := if y.chkN = 0 then 0 else y.chkSum / (y.chkN : Nat)
  let built := !s.imgValid
  let ok := if built then decide (30000 ≤ bv ∧ bv ≤ 60000) else s.cellsOk k (bv / (s.cells k : Nat))
  if ok then (s.setStr k { y with chkAt := none, ramping := true, builtin := built, bvAvg := bv }).closeReq (8 + k)
  else s.stringReject k (s.rejectParam k bv built)

/-- R221: step 2 begins. -/
def State.insertBegin (s : State) (k : Nat) : State :=
  let y := s.str k
  s.setStr k { y with debAt := none, chkAt := some s.now, chkSum := 0, chkN := 0 }

/-- STRING_PRESENCE_CHANGE (R221): BPRESs is asserted. -/
def execStringPresenceChange (t : Edges) (k : Str) (s : State) : Host.Outcome State Fault Refusal :=
  live t s fun s =>
    let y := s.str k.val
    if y.pres then s
    else
      let s := s.setStr k.val { y with pres := true, debAt := some s.now }
      -- R280: presence gone for 100 ms and asserted again clears a LATCHED switch
      let f := s.fuse (8 + k.val)
      if s.fst (8 + k.val) = fusLatched ∧ f.gone then (s.setFuse (8 + k.val) { f with gone := false }).fusCleared (8 + k.val) 1 else s

/-- STRING_PRESENCE_DEBOUNCE (R221, R222): not in LOCKOUT. -/
def execStringPresenceDebounce (t : Edges) (k : Str) (s : State) : Host.Outcome State Fault Refusal :=
  live t s fun s =>
    let d := if s.imgValid then s.reg Reg.BST_PRESDB * edgeMs else 5 * edgeMs
    if (s.str k.val).pres ∧ s.ran (s.str k.val).debAt d ∧ s.mode ≠ modeLockout then
      (s.putBit Reg.BST_PRESENT k.val true).insertBegin k.val
    else s

/-- STRING_INSERT_CHECK (R221, R222). -/
def execStringInsertCheck (t : Edges) (k : Str) (s : State) : Host.Outcome State Fault Refusal :=
  live t s fun s =>
    let d := if s.imgValid then edgeSec else 2 * edgeMs
    if s.ran (s.str k.val).chkAt d ∧ s.mode ≠ modeLockout ∧ 3 ≤ s.reg Reg.GL_BOOT_STEP then s.insertCheck k.val else s

/-- R222: the first image in force: the strings admitted by the built-in form are checked once. -/
def State.stringsImage (s : State) : State :=
  strIds.foldl (fun s k =>
    let y := s.str k
    if y.builtin then
      let s := s.setStr k { y with builtin := false }
      if s.cellsOk k (s.vCell k) then s else (s.openReq (8 + k)).stringReject k (s.rejectParam k y.bvAvg false)
    else s) s

/-- R224: what a removal records. -/
def State.stringRemoved (s : State) (k : Nat) (kind : RemovalKind) : State :=
  let st := s.cst k
  let charging := chargingSt st
  let iset := s.regAt Reg.BST_ISET k
  let s := ((s.clampNow k).openReq (8 + k)).flag Reg.BST_FLAGS_REMOVED
  let s := s.sagClose k false
  match kind with
  | .presence =>
    let y := s.str k
    let s := if charging then s.raise 0x3140 4 0x0A k (st + 65536 * iset) else s.raise 0x3141 2 0x0A k st
    let s := if st = strAbsent then s else s.strTo k strAbsent 18
    let s := s.setStr k { StrSt.reset with bokAt := y.bokAt }
    let s := ((s.putBit Reg.BST_PRESENT k false).putAt Reg.BST_HIST_NORMAL k 0).putAt Reg.BST_DEFICIT k 0
    s.estDiscard k
  | .collapse =>
    let s := s.raise 0x3142 5 0x0A k (toUnitNat (s.bv k / 10))
    let s := s.strTo k strHalt 19
    let y := s.str k
    let s := s.setStr k { y with ramping := false, chkAt := none, deficit := 0, defSide := 0 }
    ((s.putAt Reg.BST_HIST_NORMAL k 0).putAt Reg.BST_DEFICIT k 0).estDiscard k

/-- STRING_REMOVAL (R224): the loss of a presence whose debounce has not ended only stops it. -/
def execStringRemoval (t : Edges) (k : Str) (kind : RemovalKind) (s : State) : Host.Outcome State Fault Refusal :=
  live t s fun s =>
    if bitOf (s.reg Reg.BST_PRESENT) k.val then s.stringRemoved k.val kind
    else
      let y := s.str k.val
      if kind = .presence then s.setStr k.val { y with pres := false, debAt := none } else s

/-- BOK_CHANGE (R225). -/
def execBokChange (t : Edges) (k : Str) (level : Bool) (s : State) : Host.Outcome State Fault Refusal :=
  live t s fun s =>
    let y := s.str k.val
    let s := (s.setStr k.val { y with bokAt := if level then (match y.bokAt with | none => some s.now | t => t) else none }).putBit
      Reg.BST_BOKLVL k.val level
    let st := s.cst k.val
    if !level && s.lithium k.val && decide (strTrickle ≤ st ∧ st ≤ strTempwait) then
      ((s.chargeStop k.val).flag Reg.BST_FLAGS_BOK).raise 0x3105 2 0x0A k.val st
    else s

/-- R240: the result of a command, and its effect where the key fits and the state allows it. -/
def State.strCommand (s : State) (k : Nat) (key : Byte) (ok : Bool) (f : State → State) : State :=
  if key ≠ 0xA5 then s.putAt Reg.BST_CMDRES k 3
  else if ok then f (s.putAt Reg.BST_CMDRES k 1)
  else s.putAt Reg.BST_CMDRES k 2

/-- START (R240). -/
def State.strStart (s : State) (k : Nat) (key : Byte) : State :=
  s.strCommand k key (s.cst k == strOff && (s.str k).stopped) fun s =>
    let y := s.str k
    (s.setStr k { y with stopped := false }).tryStart k

/-- STOP (R240). -/
def State.strStop (s : State) (k : Nat) (key : Byte) : State :=
  s.strCommand k key (s.cst k != strAbsent && s.cst k != strHalt) fun s =>
    let y := s.str k
    (s.setStr k { y with stopped := true, vpk := none, temps := [], dtN := 0 }).strTo k strOff 16

/-- CLEAR (R240): insertion from step 2. -/
def State.strClear (s : State) (k : Nat) (key : Byte) : State :=
  s.strCommand k key (s.cst k == strHalt && (s.str k).pres) fun s => s.insertBegin k

/-- START. -/
def execStart (t : Edges) (k : Str) (key : Byte) (s : State) : Host.Outcome State Fault Refusal :=
  hostWrite t s fun s => s.strStart k.val key
/-- STOP. -/
def execStop (t : Edges) (k : Str) (key : Byte) (s : State) : Host.Outcome State Fault Refusal :=
  hostWrite t s fun s => s.strStop k.val key
/-- CLEAR. -/
def execClear (t : Edges) (k : Str) (key : Byte) (s : State) : Host.Outcome State Fault Refusal :=
  hostWrite t s fun s => s.strClear k.val key

end Sys2Proof.Machine
end

