-- ==== Sys2Proof/Machine/Setpoint.lean ====
section
/-! DEFINITION. The shelf reference Vs: host commands, moves of the 9640's own, and the 1 us step (R130-R132). -/

namespace Sys2Proof.Machine

/-- The move in force, shown in page 14: its mover, target in 10 mV, rate and sequence. -/
def State.moveTo (s : State) (m : Mover) (target rate seq : Nat) : State :=
  let s := { s with sup.mover := m, sup.target := target * 10000, sup.rate := rate }
  (((s.putSat Reg.SHR_SPTGT target).put Reg.SHR_SPRATE rate).put Reg.SHR_SPSEQ seq)

/-- A move to a target given in microvolts (a walk, R204). -/
def State.walkTo (s : State) (uv rate : Nat) : State :=
  let s := { s with sup.mover := .walk, sup.target := uv, sup.rate := rate }
  (((s.putSat Reg.SHR_SPTGT (uv / 10000)).put Reg.SHR_SPRATE rate).put Reg.SHR_SPSEQ 0)

/-- SHR_SPREF shows Vs in mV. -/
def State.setVs (s : State) (uv : Nat) : State := { s with sup.vs := uv }.putSat Reg.SHR_SPREF (toUnitNat ((uv : Rat) / 1000))

/-- R131: a host command is done. -/
def State.setpointDone (s : State) (target seq : Nat) : State :=
  (((s.put Reg.SHR_SPSTAT 0).put Reg.SHR_SPDONE seq).flag Reg.SHR_FLAGS_SPDONE).raise 0x2120 0 0x05 seq target

/-- R132: supersede. -/
def State.supersede (s : State) (seq why : Nat) : State :=
  ((s.put Reg.SHR_SPSUP seq).flag Reg.SHR_FLAGS_SPSUP).raise 0x2121 0 0x05 seq why

/-- R132: refuse. -/
def State.spRefuse (s : State) (seq why : Nat) : State :=
  (((s.put Reg.SHR_SPREJ seq).put Reg.SHR_SPREJR why).flag Reg.SHR_FLAGS_SPREJ).raise 0x2122 2 0x05 seq why

/-- R132: the first of the six tests that decides, by reason; 7 for a repeat, none for a command that passes. -/
def State.spTest (s : State) (target rate seq : Nat) : Option Nat :=
  if seq = 0 then some 6
  else if s.mode = modeTadpole ∨ s.mode = modeShadow ∨ s.mode = modeLockout then some 4
  else if s.reg Reg.TRK_CTL_VPOL = 1 then some 3
  else if target < 4400 ∨ 5800 < target then some 1
  else if rate < 10 ∨ 2000 < rate then some 2
  else if seq = s.reg Reg.SHR_SPSEQ then some 7
  else none

/-- R132: a command in HOLDUP parks. -/
def State.spPark (s : State) (target rate seq : Nat) : State :=
  let s := match s.sup.parked with
    | none => s
    | some (_, _, old) => s.supersede old 0
  { s with sup.parked := some (target, rate, seq) }.put Reg.SHR_SPSTAT 2

/-- R132: a command that passed, outside HOLDUP. -/
def State.spAccept (s : State) (target rate seq : Nat) : State :=
  let old := s.reg Reg.SHR_SPSEQ
  let moving := s.sup.mover ≠ Mover.none
  let s := if s.sup.mover = Mover.host then s.supersede old 0 else s
  let s := (s.moveTo .host target rate seq).put Reg.SHR_SPSTAT 1
  if moving ∧ target * 10000 = s.sup.vs then { s with sup.mover := .none }.setpointDone target seq else s

/-- R130, R132: a set-point command. -/
def State.spCommand (s : State) (target rate seq : Nat) : State :=
  match s.spTest target rate seq with
  | some 7 => s.bump Reg.SHR_SPDUP
  | some r => s.spRefuse seq r
  | none => if s.mode = modeHoldup then s.spPark target rate seq else s.spAccept target rate seq

/-- SETPOINT_COMMAND (R132). -/
def execSetpointCommand (t : Edges) (target rate : Code) (seq : Byte) (s : State) : Host.Outcome State Fault Refusal :=
  hostWrite t s fun s => s.spCommand target.toNat rate.toNat seq.toNat

/-- R132: at HOLDUP entry a host slew stops where it stands and parks. -/
def State.parkSlew (s : State) : State :=
  if s.sup.mover = Mover.host then
    { s with sup.mover := .none, sup.parked := some (s.sup.target / 10000, s.sup.rate, s.reg Reg.SHR_SPSEQ) }.put Reg.SHR_SPSTAT 2
  else { s with sup.mover := .none }

/-- R132: entry to TADPOLE supersedes a slew or a parked command with reason 1. -/
def State.spTadpole (s : State) : State :=
  let s := match s.sup.parked with
    | some (_, _, seq) => s.supersede seq 1
    | none => if s.sup.mover = Mover.host then s.supersede (s.reg Reg.SHR_SPSEQ) 1 else s
  { s with sup.parked := none, sup.mover := .none }.put Reg.SHR_SPSTAT 0

/-- R131: one step of 1 us; whether Vs has landed. -/
def State.slew (s : State) : State × Bool :=
  let step := s.sup.rate * 10
  let v := s.sup.vs
  let g := s.sup.target
  if v ≤ g then (if g ≤ v + step then (s.setVs g, true) else (s.setVs (v + step), false))
  else (if v ≤ g + step then (s.setVs g, true) else (s.setVs (v - step), false))

/-- R132, R211: a parked command is done. -/
def State.parkedDone (s : State) : State :=
  match s.sup.parked with
  | none => s
  | some (target, _, seq) => { s with sup.parked := none }.setpointDone target seq

end Sys2Proof.Machine
end

