-- ==== Sys2Proof/Machine/Holdup.lean ====
section
/-! DEFINITION. Hold-up and return of mains: the feeds and their checks, outage, walk-down, release, return, chatter
(R197-R215). -/

namespace Sys2Proof.Machine

/-- HUP_FEEDST codes (R201). -/
def feedUnused : Nat := 0
def feedQual : Nat := 1
def feedLost : Nat := 2
def feedReturn : Nat := 3

/-- HUP_STAT.STAGE codes (R215). -/
def stMains : Nat := 0
def stWalkdown : Nat := 1
def stBattery : Nat := 2
def stRestart : Nat := 3
def stWalkup : Nat := 4
def stHandback : Nat := 5
def stHeld : Nat := 6

/-- The state of a feed, its count of good cycles, and what stands behind them. -/
def State.feedSt (s : State) (x : Feed) : Nat := match x with | .a => s.reg Reg.HUP_FEEDST_A | .b => s.reg Reg.HUP_FEEDST_B
def State.setFeedSt (s : State) (x : Feed) (v : Nat) : State := match x with | .a => s.put Reg.HUP_FEEDST_A v | .b => s.put Reg.HUP_FEEDST_B v
def State.qcnt (s : State) (x : Feed) : Nat := match x with | .a => s.reg Reg.HUP_QCNT_A | .b => s.reg Reg.HUP_QCNT_B
def State.setQcnt (s : State) (x : Feed) (v : Nat) : State := match x with | .a => s.putSat Reg.HUP_QCNT_A v | .b => s.putSat Reg.HUP_QCNT_B v
def State.feed (s : State) (x : Feed) : FeedSt := match x with | .a => s.hup.feedA | .b => s.hup.feedB
def State.setFeed (s : State) (x : Feed) (f : FeedSt) : State :=
  match x with | .a => { s with hup.feedA := f } | .b => { s with hup.feedB := f }
def feedNo (x : Feed) : Nat := match x with | .a => 0 | .b => 1
def State.feedCfg (s : State) (x : Feed) : Bool := match x with | .a => s.isSet Reg.HUP_CFG_FEEDA | .b => s.isSet Reg.HUP_CFG_FEEDB
def State.stage (s : State) : Nat := s.reg Reg.HUP_STAT_STAGE
def State.apk (s : State) (x : Feed) : Nat := match x with | .a => s.reg Reg.HUP_APK_A | .b => s.reg Reg.HUP_APK_B

/-- Some configured feed is QUALIFIED (R201). -/
def State.anyQualified (s : State) : Bool := s.feedSt .a == feedQual || s.feedSt .b == feedQual

/-- The wheel's position: cycles times 65,536 plus the angle. -/
def State.wheelPos (s : State) : Nat := s.reg Reg.WHL_CYC * 65536 + s.angle

/-- Some string's switch shows power-good. -/
def State.stringPg (s : State) : Bool := strIds.any (fun k => s.pg (8 + k))

/-- The power-good strings' bits. -/
def State.stringPgMask (s : State) : Nat := s.reg Reg.FUS_PG / 256

/-- R204: V_w, in microvolts: the highest power-good string less the margin, limited to HUP_VFLOOR and the present Vs. -/
def State.walkTarget (s : State) : Nat :=
  let bvs := (strIds.filter (fun k => s.pg (8 + k))).map (fun k => s.bv k)
  let top := bvs.foldl max 0
  let v := toUnitNat ((top - (s.reg Reg.HUP_WALKMARG : Nat)) * 1000)
  min s.sup.vs (max v (s.reg Reg.HUP_VFLOOR * 10000))

/-- R204: the walk towards V_w begins, or takes a new V_w. With no string power-good there is none (R206). -/
def State.walkDown (s : State) : State :=
  if s.stringPg then
    let v := s.walkTarget
    (s.walkTo v (s.reg Reg.HUP_WALKRATE)).putSat Reg.HUP_VWALK (v / 10000)
  else { s with sup.mover := .none }

/-- R206: no string switch shows power-good. -/
def State.noStrings (s : State) : State :=
  if s.stringPg then s else s.raise 0x1105 5 0x09 s.mode s.stringPgMask

/-- R212: the stage that would be ON_BATTERY is HELD while a hold runs. -/
def State.batteryStage (s : State) : Nat := if s.hup.holdEnd.isSome then stHeld else stBattery

/-- R209: RTARM falls. -/
def State.rtOff (s : State) : State := s.put Reg.HUP_STAT_RTARM 0

/-- R212: transitions within the window. -/
def State.transNow (s : State) : List Nat := s.hup.trans.filter (fun t => s.now < t + s.reg Reg.HUP_CHATW * edgeSec)

/-- R212: the hold starts, or starts again at full length. -/
def State.holdStart (s : State) : State :=
  ({ s with hup.holdEnd := some (s.now + s.reg Reg.HUP_CHATLOCK * edgeSec) }.put Reg.HUP_HOLDLEFT (s.reg Reg.HUP_CHATLOCK)).rtOff

/-- R212: a transition is counted. -/
def State.countTransition (s : State) : State :=
  let s := { s with hup.trans := s.now :: s.transNow }
  let n := s.hup.trans.length
  let s := s.putSat Reg.HUP_CHATNOW n
  if s.reg Reg.HUP_CHATN ≤ n ∧ s.hup.holdEnd = none then
    (((s.flag Reg.HUP_FLAGS_CHATTER).bump Reg.HUP_CHATCNT).raise 0x1180 4 0x09 (min 15 n) (s.reg Reg.HUP_CHATLOCK)).holdStart
  else s

/-- R205: a bay is released for a reason. -/
def State.bayRelease (s : State) (b why : Nat) : State :=
  let st := s.bst b
  let y := s.bay b
  let s := s.setBay b { y with released := true, enLow := if st = bayPfc then true else y.enLow, okFrom := none }
  let s := if s.inService b || st == bayStandby then (((s.allWarm b).outOfShare b)).setBst b bayDeep else s
  ((s.putBit Reg.HUP_RELMASK b true).rtOff).raise 0x1109 0 0x09 b why

/-- R205: a bay that is released, gone or out of use, so that the walk does not wait for it. -/
def State.bayDown (s : State) (b : Nat) : Bool :=
  let st := s.bst b
  (s.bay b).released || st == bayAbsent || st == bayEjected || st == bayFault || (st == bayPfc && (s.bay b).enLow)

/-- R205: why a bay would be released now. -/
def State.releaseWhy (s : State) (b : Nat) : Option Nat :=
  if s.vlinkMv b < (s.reg Reg.HUP_VLREL * 100 : Nat) then some 0
  else if (s.bay b).ok = false then some 1
  else if s.reg Reg.HUP_STAT_RTARM = 0 then some 2
  else none

/-- R205: the stages in which the bays are released. -/
def State.releasing (s : State) : Bool :=
  s.mode == modeHoldup && (s.stage == stWalkdown || s.stage == stBattery || s.stage == stHeld)

/-- R205: the walk is over when Vs is at V_w and every bay is down. -/
def State.walkCheck (s : State) : State :=
  if s.mode = modeHoldup ∧ s.stage = stWalkdown ∧ s.sup.mover = Mover.none ∧ bayIds.all s.bayDown then
    s.put Reg.HUP_STAT_STAGE s.batteryStage
  else s

/-- R205: the rules of one bay, at its period start, or at once (R213). -/
def State.holdupBay (s : State) (b : Nat) : State :=
  if s.releasing then
    let mean := meanQ (s.bay b).hist
    let s := if s.inService b ∧ absQ mean < (s.reg Reg.SHR_IOFF * 100 : Nat) then ((s.allWarm b).outOfShare b).setBst b bayStandby else s
    let st := s.bst b
    let s := if !(s.bay b).released && st != bayAbsent && st != bayEjected && st != bayFault then
        match s.releaseWhy b with
        | none => s
        | some w => s.bayRelease b w
      else s
    s.walkCheck
  else s

/-- R213: the rules of R205 act at once on every bay. -/
def State.holdupBays (s : State) : State := bayIds.foldl State.holdupBay s

/-- R203, R213: the stage becomes WALKDOWN. -/
def State.toWalkdown (s : State) (armed : Bool) : State :=
  let s := (s.put Reg.HUP_STAT_STAGE stWalkdown).putB Reg.HUP_STAT_RTARM armed
  (s.noStrings.walkDown)

/-- Both feeds forget their ride-through checks (R209). -/
def State.rtReset (s : State) : State :=
  let a := s.hup.feedA
  let b := s.hup.feedB
  { s with hup.feedA := { a with rt := 0 }, hup.feedB := { b with rt := 0 } }

/-- R215: what is measured over an entry starts anew. -/
def State.holdupFresh (s : State) : State :=
  let s := { s with hup.outAt := s.now, hup.energy := 0, hup.lowTold := false, hup.waiting := [], hup.quietAt := none }
  let s := ((s.put Reg.HUP_RELMASK 0).put Reg.HUP_HUPTIME 0).put Reg.HUP_HUPWH 0
  bayIds.foldl (fun s b => let y := s.bay b; s.setBay b { y with released := false }) s

/-- R57, R203, R215: the 9640 enters HOLDUP: a slew parks, sag episodes close, charging stops. -/
def State.enterHoldup (s : State) (cause : Nat) (armed : Bool) : State :=
  let target := s.sup.target
  let s := (s.parkSlew).sagCloseAll.holdupFresh
  let s := (s.putSat Reg.HUP_VPRE (target / 10000)).changeMode modeHoldup cause
  (s.toWalkdown armed).chargeStops

/-- R202: the record and the event of a declaration; `x` is the last feed lost. -/
def State.outageRecord (s : State) (x : Feed) : State :=
  let s := s.putSat Reg.HUP_DETLAST ((s.now - (s.feed x).passAt) / edgeUs)
  let s := { (s.flag Reg.HUP_FLAGS_OUTAGE).bump Reg.HUP_OUTCNT with hup.outTick := some s.wheelPos }.rtReset
  s.raise 0x1100 5 0x09 (s.reg Reg.HUP_DETLAST) (s.hup.feedA.why + 256 * s.hup.feedB.why)

/-- R213: a loss of every feed in HOLDUP, by stage. -/
def State.lossInHoldup (s : State) : State :=
  let st := s.stage
  if st = stRestart then
    ({ s with hup.waiting := [] }.put Reg.HUP_STAT_STAGE s.batteryStage).holdupBays
  else if st = stWalkup ∨ st = stHandback then ({ s with hup.waiting := [] }.toWalkdown false).holdupBays
  else if st = stHeld then s.holdStart
  else s

/-- R202, R203, R213: an outage is declared. -/
def State.declare (s : State) (x : Feed) : State :=
  let quiet := s.mode = modeHoldup ∧ (s.stage = stHeld ∨ s.stage = stWalkdown ∨ s.stage = stBattery)
  let s := if quiet then s else s.countTransition
  let s := s.outageRecord x
  if s.mode = modeRun then
    let arm := s.reg Reg.HUP_RTW != 0 && s.hup.holdEnd.isNone
    s.enterHoldup 0x04 arm
  else if s.mode = modeHoldup then s.lossInHoldup
  else s

/-- R210: the bays whose BAYEN is to rise, from RESTART on: waiting in PFCSTART, DEEP, or released in INRUSH. -/
def State.restartSet (s : State) : List Nat :=
  bayIds.filter (fun b => s.bst b == bayDeep || (s.bst b == bayPfc && (s.bay b).enLow) || (s.bst b == bayInrush && (s.bay b).released))

/-- R210: the BAYEN of one bay rises. -/
def State.restartBay (s : State) (b : Nat) : State :=
  let y := s.bay b
  let s := s.setBay b { y with enLow := false, released := false, okFrom := some s.now, insAt := s.now }
  (s.setNt b 6).bayReady b

/-- R210: the next BAYEN of the stagger rises. -/
def State.staggerNext (s : State) : State :=
  match s.hup.waiting with
  | [] => s
  | b :: rest => { s with hup.waiting := rest, hup.nextAt := s.now + s.reg Reg.HUP_STAG * edgeMs }.restartBay b

/-- R210: the stage becomes RESTART. -/
def State.toRestart (s : State) : State :=
  let set := s.restartSet
  let s := { s with hup.waiting := set, hup.rstAt := s.now, hup.rstTold := false, sup.mover := .none }.put Reg.HUP_STAT_STAGE stRestart
  let s := set.foldl (fun s b =>
    let y := s.bay b
    let s := s.setBay b { y with enLow := true }
    if s.bst b = bayDeep then s.setBst b bayPfc else s) s
  s.staggerNext

/-- R211: the walk back to the parked target, or to HUP_VPRE. -/
def State.toWalkup (s : State) : State :=
  let target := match s.sup.parked with
    | some (v, _, _) => v
    | none => s.reg Reg.HUP_VPRE
  (s.walkTo (target * 10000) (s.reg Reg.HUP_RETRATE)).put Reg.HUP_STAT_STAGE stWalkup

/-- R209, R213: bays in STANDBY come back at once with w_b = 1. -/
def State.rejoinAll (s : State) : State :=
  bayIds.foldl (fun s b => if s.bst b = bayStandby then s.bringIn b else s) s

/-- Cycles since the declaration (R217). -/
def State.cyclesSince (s : State) : Nat :=
  match s.hup.outTick with
  | none => 0
  | some p => (s.wheelPos - p) / 65536

/-- R209: a ride-through return. -/
def State.rideThrough (s : State) (x : Feed) : State :=
  let s := (s.bump Reg.HUP_RTCNT).toWalkup
  (s.raise 0x1104 2 0x09 (feedNo x) s.cyclesSince).rejoinAll

/-- R213: a feed becomes QUALIFIED in HOLDUP, by stage; a count that reaches the limit keeps the qualification from acting. -/
def State.returnInHoldup (s : State) (x : Feed) : State :=
  let st := s.stage
  if st = stWalkdown ∨ st = stBattery then
    let armed := s.isSet Reg.HUP_STAT_RTARM
    let s := s.countTransition
    if s.hup.holdEnd.isSome then (if st = stBattery then s.put Reg.HUP_STAT_STAGE stHeld else s)
    else if st = stWalkdown ∧ armed then s.rideThrough x
    else if st = stWalkdown then ({ s with sup.mover := .none }.rejoinAll).toRestart
    else s.toRestart
  else s

/-- R201: mains present; its fall is the declaration, its rise is acted on in HOLDUP. -/
def State.mainsChange (s : State) (x : Feed) : State :=
  let was := s.isSet Reg.HUP_STAT_MAINS
  let now := s.anyQualified
  let s := s.putB Reg.HUP_STAT_MAINS now
  if was && !now then s.declare x
  else if !was && now && s.mode == modeHoldup then s.returnInHoldup x
  else s

/-- R201: a failed check takes a QUALIFIED or RETURNING feed to LOST with the count at 0. -/
def State.feedLose (s : State) (x : Feed) (why phase : Nat) : State :=
  let st := s.feedSt x
  let f := s.feed x
  let s := (s.setFeed x { f with cycOk := false, apkOk := false, rt := 0, crest := 0 }).setQcnt x 0
  if st = feedQual ∨ st = feedReturn then
    let f := s.feed x
    let s := (s.setFeed x { f with why := why }).setFeedSt x feedLost
    let s := ((s.put Reg.HUP_REASON_CODE why).put Reg.HUP_REASON_FEED (feedNo x)).put Reg.HUP_REASON_PHASE phase
    let s := (s.flag Reg.HUP_FLAGS_FEED).raise 0x1101 3 0x09 (feedNo x) (why + 256 * phase)
    s.mainsChange x
  else s

/-- R201, R209: a feed becomes QUALIFIED. -/
def State.feedQualify (s : State) (x : Feed) (n : Nat) : State :=
  let f := s.feed x
  let s := (s.setFeed x { f with crest := 0, rt := 0 }).setFeedSt x feedQual
  ((s.flag Reg.HUP_FLAGS_FEED).raise 0x1102 1 0x09 (feedNo x) n).mainsChange x

/-- R201: a good cycle is counted once the wheel has locked. -/
def State.goodCycle (s : State) (x : Feed) : State :=
  let st := s.feedSt x
  if st = feedLost ∨ st = feedReturn then
    let n := s.qcnt x + 1
    let s := s.setQcnt x n
    let s := if st = feedLost then (s.setFeedSt x feedReturn).flag Reg.HUP_FLAGS_FEED else s
    if s.reg Reg.HUP_QCYC ≤ n then s.feedQualify x n else s
  else s

/-- A check of a feed passes (R202). -/
def State.feedPass (s : State) (x : Feed) : State :=
  let f := s.feed x
  s.setFeed x { f with passAt := s.now }

/-- R199: the square of the sine of 4,096 + 8,192 k ticks is (2 - sqrt 2)/4 or (2 + sqrt 2)/4: whether |m| is below HUP_CRLO %
of |E|, with both in 0.1 V. Squares are compared, so no root is taken. -/
def crestLow (m : Rat) (apk crlo k : Nat) : Bool :=
  let d := 4 * (100 * m) * (100 * m) - 2 * ((crlo * apk : Nat) : Rat) * (crlo * apk : Nat)
  let y := 2 * (((crlo * apk : Nat) : Rat) * (crlo * apk : Nat)) * (((crlo * apk : Nat) : Rat) * (crlo * apk : Nat))
  if k % 4 = 0 ∨ k % 4 = 3 then decide (d < 0) && decide (y < d * d) else decide (d < 0) || decide (d * d < y)

/-- R199: E is positive at the first four angles and negative at the others. -/
def crestSign (m : Rat) (k : Nat) : Bool := if k < 4 then decide (m < 0) else decide (0 < m)

/-- R199: the feed has a crest check now. -/
def State.crestOn (s : State) (x : Feed) : Bool :=
  let near := match s.hup.outTick with
    | none => false
    | some p => decide (s.wheelPos ≤ p + 65536 * s.reg Reg.HUP_RTW)
  let fresh := match s.wheel.bofsAt with
    | none => false
    | some t => decide (s.now ≤ t + 60 * edgeSec)
  decide (4 ≤ (s.feed x).apk.length) && (s.reg Reg.WHL_STAT_STATE == 2 || (s.reg Reg.WHL_STAT_STATE == 3 && near)) &&
    (x == .a || fresh)

/-- The mean of the five samples of a crest check, in 0.1 V at the feed (R199, R467, R215). -/
def State.crestMean (s : State) (c : Codes5) : Rat :=
  (pinMv (c.c0.toNat + c.c1.toNat + c.c2.toNat + c.c3.toNat + c.c4.toNat) / 5 - 900) / 1000 * s.reg Reg.HUP_ACSCAL

/-- R199, R201, R209: a crest check that ran. A feed being counted is not set back by a check against the flywheel (R209). -/
def State.crestCheck (s : State) (x : Feed) (p k : Nat) (m : Rat) : State :=
  let bad := crestSign m k || crestLow m (s.apk x) (s.reg Reg.HUP_CRLO) k
  let f := s.feed x
  if bad then
    let n := f.crest + 1
    let s := s.setFeed x { f with crest := n, apkOk := false, rt := 0 }
    if (s.feedSt x = feedQual ∧ s.reg Reg.HUP_CRN ≤ n) ∨ (s.feedSt x = feedReturn ∧ s.reg Reg.WHL_STAT_STATE = 2) then
      s.feedLose x 0 (p + 1)
    else s
  else
    let s := (s.setFeed x { f with crest := 0, rt := f.rt + 1 }).feedPass x
    if s.isSet Reg.HUP_STAT_RTARM ∧ s.feedSt x ≠ feedQual ∧ s.reg Reg.HUP_RTCHK ≤ f.rt + 1 then s.feedQualify x 0xFF else s

/-- A feed phase is judged: the feed is configured, and phases 2 and 3 only of a three-phase feed (R197). -/
def State.judged (s : State) (x : Feed) (p : Nat) : Bool := s.feedSt x != feedUnused && (p == 0 || !s.isSet Reg.WHL_CFG_SINGLE)

/-- CREST_CHECK (R199). -/
def execCrestCheck (t : Edges) (x : Feed) (p : Fin 3) (k : Fin 8) (codes : Codes5) (s : State) : Host.Outcome State Fault Refusal :=
  live t s fun s =>
    let s := s.putAt Reg.TLM_RAW_AC (3 * feedNo x + p.val) codes.c4.toNat
    if s.judged x p.val ∧ s.crestOn x then s.crestCheck x p.val k.val (s.crestMean codes) else s

/-- R200: the RMS of a half cycle, given in microvolts at the pin, shown in 0.1 V and judged. The nominal phase voltage of a
three-phase feed is HUP_VNOM over the root of 3: squares are compared. -/
def State.rmsWindow (s : State) (x : Feed) (p rms : Nat) : State :=
  let v : Rat := (rms * s.reg Reg.HUP_ACSCAL : Nat) / 1000000
  let s := s.putAtSat Reg.HUP_VRMS (3 * feedNo x + p) (toUnitNat v)
  let three : Rat := if s.isSet Reg.WHL_CFG_SINGLE then 1 else 3
  let sq := three * (100 * v) * (100 * v)
  let lim := fun (f : Field) => ((s.reg f * s.reg Reg.HUP_VNOM : Nat) : Rat) * (s.reg f * s.reg Reg.HUP_VNOM : Nat)
  if sq < lim Reg.HUP_RMSLO then s.feedLose x 1 (p + 1)
  else if lim Reg.HUP_RMSHI < sq then s.feedLose x 2 (p + 1)
  else s.feedPass x

/-- R200: frequency of the cycle that ends now: outside 45.00-66.00 Hz. -/
def State.cycleFreqBad (s : State) (f : FeedSt) : Bool :=
  match f.posAt with
  | none => false
  | some t => decide (edgeSec < 45 * (s.now - t)) || decide (66 * (s.now - t) < edgeSec)

/-- R201: a positive-going crossing of ACx1 ends a cycle and begins the next. -/
def State.cycleEnd (s : State) (x : Feed) (leads : Bool) : State :=
  let s := if s.cycleFreqBad (s.feed x) then s.feedLose x 3 1 else s
  let (n, s) := s.takeFree
  let s := if leads && !s.isSet Reg.WHL_CFG_SINGLE then s.feedLose x 4 (n % 3 + 1) else s
  let f := s.feed x
  let good := f.posAt.isSome && f.counts && f.cycOk
  let s := s.setFeed x { f with posAt := some s.now, counts := s.isSet Reg.WHL_STAT_EVERLOCK, cycOk := true }
  if good then s.goodCycle x else s

/-- AC_ZERO_CROSSING (R200). -/
def execAcZeroCrossing (t : Edges) (x : Feed) (p : Fin 3) (rising : Bool) (rms : Nat) (leads : Bool) (s : State) :
    Host.Outcome State Fault Refusal :=
  live t s fun s =>
    if s.judged x p.val then
      let s := s.rmsWindow x p.val rms
      if p = 0 ∧ rising then s.cycleEnd x leads else s
    else s

/-- RMS_WINDOW_DEADLINE (R200). -/
def execRmsWindowDeadline (t : Edges) (x : Feed) (p : Fin 3) (rms : Nat) (s : State) : Host.Outcome State Fault Refusal :=
  live t s fun s => if s.judged x p.val then s.rmsWindow x p.val rms else s

/-- FREQUENCY_DEADLINE (R200): 1/45 s without a positive-going crossing of ACx1. -/
def execFrequencyDeadline (t : Edges) (x : Feed) (s : State) : Host.Outcome State Fault Refusal :=
  live t s fun s =>
    match (s.feed x).posAt with
    | none => s
    | some p => if s.judged x 0 ∧ edgeSec ≤ 45 * (s.now - p) then s.feedLose x 3 1 else s

/-- RIDE_THROUGH_WINDOW_END (R209): HUP_RTW wheel cycles after the declaration. -/
def execRideThroughWindowEnd (t : Edges) (s : State) : Host.Outcome State Fault Refusal :=
  live t s fun s =>
    match s.hup.outTick with
    | none => s
    | some p => if p + 65536 * s.reg Reg.HUP_RTW ≤ s.wheelPos then s.rtOff else s

/-- RESTART_STAGGER (R210): the stagger runs on when RESTART is over. -/
def execRestartStagger (t : Edges) (s : State) : Host.Outcome State Fault Refusal :=
  live t s fun s => if s.hup.waiting ≠ [] ∧ s.hup.nextAt ≤ s.now ∧ s.supUp then s.staggerNext else s

/-- R210: bays in JOIN or ACTIVE. -/
def State.joinedBays (s : State) : List Nat := bayIds.filter (fun b => s.bst b == bayJoin || s.bst b == bayActive)

/-- Bits of some bays or strings. -/
def maskOf (l : List Nat) : Nat := l.foldl (fun v b => v + 2 ^ b) 0

/-- RESTART_TIMEOUT (R210). -/
def execRestartTimeout (t : Edges) (s : State) : Host.Outcome State Fault Refusal :=
  live t s fun s =>
    if s.mode = modeHoldup ∧ s.stage = stRestart ∧ s.supUp ∧ s.hup.rstTold = false ∧ s.elapsed s.hup.rstAt (s.reg Reg.HUP_RSTO * edgeMs) then
      if s.joinedBays ≠ [] then s.toWalkup
      else { s.flag Reg.HUP_FLAGS_FORCED with hup.rstTold := true }.raise 0x1107 4 0x09 (maskOf s.joinedBays)
        (satNat 32 (toUnitNat (s.hup.iTick / 100)))
    else s

/-- R210: a sharing tick in RESTART: enough capacity has joined. -/
def State.restartTick (s : State) : State :=
  if s.mode = modeHoldup ∧ s.stage = stRestart then
    let cap := (s.joinedBays.map s.irate).foldl (· + ·) 0
    if s.joinedBays ≠ [] ∧ (s.hup.iTick * (1000 + s.reg Reg.TRK_HEAD : Nat) / 1000 ≤ (cap : Nat) ∨ s.hup.rstTold) then s.toWalkup else s
  else s

/-- R211: RUN is entered from HOLDUP. -/
def State.handbackDone (s : State) : State :=
  let s := ((s.put Reg.HUP_STAT_STAGE stMains).rtOff).putSat Reg.HUP_HUPTIME (s.msSince s.hup.outAt)
  let s := s.changeMode modeRun 0x02
  let s := { s with sup.mover := .none, sup.cycIn := true, sup.trkDone := false }.flag Reg.HUP_FLAGS_RETURN
  let s := s.raise 0x1103 1 0x09 (s.reg Reg.HUP_HUPTIME) (s.reg Reg.HUP_HUPWH)
  (s.parkedDone.eligRun true).runEntered

/-- HANDBACK_QUIET (R211): every string's discharge below STP_SAGI for HUP_HBT. -/
def execHandbackQuiet (t : Edges) (s : State) : Host.Outcome State Fault Refusal :=
  live t s fun s =>
    let since := match s.hup.quietAt with
      | none => none
      | some q => some (max q s.hup.hbAt)
    if s.mode = modeHoldup ∧ s.stage = stHandback ∧ s.supUp ∧ s.ran since (s.reg Reg.HUP_HBT * edgeMs) then s.handbackDone else s

/-- HANDBACK_TIMEOUT (R211). -/
def execHandbackTimeout (t : Edges) (s : State) : Host.Outcome State Fault Refusal :=
  live t s fun s =>
    if s.mode = modeHoldup ∧ s.stage = stHandback ∧ s.supUp ∧ s.elapsed s.hup.hbAt (s.reg Reg.HUP_HBTO * edgeMs) then
      let loud := strIds.filter (fun k => decide (((s.reg Reg.STP_SAGI * 100 : Nat) : Rat) ≤ s.strDischarge k))
      let top := (strIds.map s.strDischarge).foldl max 0
      ((s.flag Reg.HUP_FLAGS_FORCED).raise 0x1108 3 0x09 (maskOf loud) (satNat 32 (toUnitNat (top / 100)))).handbackDone
    else s

/-- R212: the hold is over: RESTART where a feed is QUALIFIED, ON_BATTERY otherwise; a walk still running goes on. -/
def State.holdOver (s : State) : State :=
  let s := { s with hup.holdEnd := none }.put Reg.HUP_HOLDLEFT 0
  if s.mode ≠ modeHoldup then (if s.stage = stHeld then s.put Reg.HUP_STAT_STAGE stBattery else s)
  else if s.anyQualified ∧ s.stage = stWalkdown then ({ s with sup.mover := .none }.rejoinAll).toRestart
  else if s.anyQualified ∧ s.stage = stHeld then s.toRestart
  else if s.stage = stHeld then s.put Reg.HUP_STAT_STAGE stBattery
  else s

/-- The QUALIFIED feeds' bits. -/
def State.qualMask (s : State) : Nat :=
  (if s.feedSt .a = feedQual then 1 else 0) + (if s.feedSt .b = feedQual then 2 else 0)

/-- CHATTER_HOLD_END (R212). -/
def execChatterHoldEnd (t : Edges) (s : State) : Host.Outcome State Fault Refusal :=
  live t s fun s =>
    match s.hup.holdEnd with
    | none => s
    | some e => if e ≤ s.now ∧ s.supUp then (s.raise 0x1182 1 0x09 s.qualMask 0).holdOver else s

/-- The summed E_low of the present strings, in Wh (R207). -/
def State.eLowSum (s : State) : Rat := sumQ (strIds.map (fun k => (s.esti k).elow))

/-- R207, R212: the energy left at a sharing tick. -/
def State.energyTick (s : State) : State :=
  let e := s.eLowSum
  let low := s.reg Reg.HUP_ELOW
  let s := if s.mode = modeHoldup ∧ low ≠ 0 ∧ s.hup.lowTold = false ∧ e < (low : Nat) then
      { s.flag Reg.HUP_FLAGS_ELOW with hup.lowTold := true }.raise 0x1106 5 0x09 (satNat 32 (toUnitNat e)) (s.msSince s.hup.outAt / 1000)
    else s
  let cut := s.reg Reg.HUP_EHELD
  if s.hup.holdEnd.isSome ∧ cut ≠ 0 ∧ e < (cut : Nat) then
    (s.raise 0x1181 3 0x09 (satNat 32 (toUnitNat e)) (s.reg Reg.HUP_HOLDLEFT)).holdOver
  else s

/-- R204, R212, R215: what hold-up does at every sharing tick: the walk's target, the hold's time, the time and the energy of
HOLDUP. `dt` is the tick's length in edge units. -/
def State.holdupTick (s : State) (dt : Nat) : State :=
  let s := { s with hup.trans := s.transNow }.putSat Reg.HUP_CHATNOW s.transNow.length
  let s := match s.hup.holdEnd with
    | none => s
    | some e => s.putSat Reg.HUP_HOLDLEFT ((e - s.now + edgeSec - 1) / edgeSec)
  if s.mode = modeHoldup then
    let mw := sumQ (strIds.map (fun k => s.strDischarge k * s.bv k / 1000))
    let s := { s with hup.energy := s.hup.energy + mw * (dt : Nat) / (edgeSec : Nat) }
    let s := (s.putSat Reg.HUP_HUPTIME (s.msSince s.hup.outAt)).putSat Reg.HUP_HUPWH (toUnitNat (s.hup.energy / 360000))
    let s := if s.stage = stWalkdown ∧ s.sup.mover = Mover.walk then s.walkDown else s
    s.restartTick
  else s

/-- R131, R211: the walk has landed. -/
def State.walkLanded (s : State) : State :=
  let s := { s with sup.mover := .none }
  if s.mode = modeHoldup ∧ s.stage = stWalkup then { s with hup.hbAt := s.now }.put Reg.HUP_STAT_STAGE stHandback
  else s.walkCheck

/-- R131: a step of 1 us; a supervisor that is down holds Vs (R132, R214). -/
def State.slewStep (s : State) : State :=
  if s.supUp then
    let m := s.sup.mover
    match m with
    | .none => s
    | .host =>
      let (s, done) := s.slew
      if done then { s with sup.mover := .none }.setpointDone (s.sup.target / 10000) (s.reg Reg.SHR_SPSEQ) else s
    | .own =>
      let (s, done) := s.slew
      if done then { s with sup.mover := .none } else s
    | .walk =>
      let (s, done) := s.slew
      if done then s.walkLanded else s
  else s

/-- SETPOINT_SLEW_STEP (R131). -/
def execSetpointSlewStep (t : Edges) (s : State) : Host.Outcome State Fault Refusal :=
  live t s State.slewStep

/-- R199: at angle 0 a cycle that counts gives its measured crest to the mean of the last four. -/
def State.crestCycle (s : State) (x : Feed) (crest : Nat) : State :=
  let f := s.feed x
  let apk := if f.apkOk then (crest :: f.apk).take 4 else f.apk
  let s := s.setFeed x { f with apk := apk, apkOk := s.reg Reg.WHL_STAT_STATE == 2 && s.judged x 0 }
  if f.apkOk ∧ apk.length = 4 then
    let v := toUnitNat (((apk.foldl (· + ·) 0 * s.reg Reg.HUP_ACSCAL : Nat) : Rat) / 4000000)
    match x with
    | .a => s.putSat Reg.HUP_APK_A v
    | .b => s.putSat Reg.HUP_APK_B v
  else s

/-- R199: the wheel is not LOCKED: the cycle under way does not count. -/
def State.crestSpoil (s : State) : State :=
  let a := s.hup.feedA
  let b := s.hup.feedB
  { s with hup.feedA := { a with apkOk := false }, hup.feedB := { b with apkOk := false } }

/-- R201: the feeds as HUP_CFG selects them; a feed newly judged starts LOST. -/
def State.feedsConfigured (s : State) : State :=
  let f := fun (s : State) (x : Feed) =>
    if s.feedCfg x then (if s.feedSt x = feedUnused then s.setFeedSt x feedLost else s)
    else if s.feedSt x = feedUnused then s else ((s.setFeedSt x feedUnused).setQcnt x 0).mainsChange x
  f (f s .a) .b

/-- R214: a handover that meets TADPOLE: ON_BATTERY, or HELD while a hold runs. -/
def State.holdupTadpole (s : State) : State :=
  let s := { s with hup.waiting := [] }.rtOff
  if s.stage = stMains then s else s.put Reg.HUP_STAT_STAGE s.batteryStage

end Sys2Proof.Machine
end

