-- ==== Sys2Proof/Machine/Fuse.lean ====
section
/-! DEFINITION. The fuse channels: samples, inrush, power-good, breaker, hard trip, gate checks, retries (R269-R283, R475). -/

namespace Sys2Proof.Machine

/-- The channel's pass element is driven: RAMP, SETTLE or ON. -/
def State.fusDriven (s : State) (c : Nat) : Bool := s.fst c == fusRamp || s.fst c == fusSettle || s.fst c == fusOn

/-- R475, R281: current is judged against the built-in reference of 0.500 V. -/
def State.fusBuiltin (s : State) (c : Nat) : Bool := s.regAt Reg.FUS_IRATE c == 0 || s.regAt Reg.FUS_ISCAL c == 0

/-- R277, R475: |FI| is below FUS_ISTK, or below 25 mV at the pin with no current scale. -/
def State.lowCurrent (s : State) (c : Nat) : Bool :=
  if s.regAt Reg.FUS_ISCAL c = 0 then decide (absQ (s.fiPin c) < 25) else decide (absQ (s.fiMa c) < (s.regAt Reg.FUS_ISTK c * 100 : Nat))

/-- FUS_FI: in 100 mA, or in 0.1 % of the built-in reference (R475). -/
def State.fiShown (s : State) (c : Nat) : Int :=
  if s.regAt Reg.FUS_ISCAL c = 0 then toUnit (s.fiPin c * 2) else toUnit (s.fiMa c / 100)

/-- The registers that show a sample (R284). -/
def State.fusMeasure (s : State) (c : Nat) : State :=
  let i := s.fiShown c
  let s := ((s.sputAt Reg.FUS_FI c i).sputAt Reg.FUS_FV c (toUnit (s.vsw c))).putAtSat Reg.FUS_FGS c (toUnitNat (s.fgsMv c))
  s.putAt Reg.FUS_PEAKI c (max (s.regAt Reg.FUS_PEAKI c) (satNat 16 i.natAbs))

/-- R281: the built-in curve: P in 0.1 %, time in us. -/
def builtinCurve : List (Nat × Nat) :=
  [(1100, 10000000), (1250, 2000000), (1500, 500000), (1750, 200000), (2000, 100000), (2250, 50000), (2500, 20000), (2750, 5000)]

/-- The curve in force: 8 points, P in 0.1 %, time in us (R275). -/
def State.curve (s : State) (c : Nat) : List (Nat × Nat) :=
  if s.regAt Reg.FUS_IRATE c = 0 then builtinCurve
  else (List.range 8).map (fun k => let v := s.regAt Reg.FUS_CURVE (8 * c + k); (v % 65536, v / 65536))

/-- P in 0.1 % (R275). -/
def State.fusP (s : State) (c : Nat) : Rat :=
  if s.fusBuiltin c then absQ (s.fiPin c) * 2 else absQ (s.fiMa c) * 10 / (s.regAt Reg.FUS_IRATE c : Nat)

/-- R275: the rate for a P on the curve, per us: the segment that holds P, or the last point. -/
def curveRate : List (Nat × Nat) → Rat → Rat
  | [], _ => 0
  | [(_, t)], _ => 1 / (t : Nat)
  | (p0, t0) :: (p1, t1) :: ps, p =>
    if p < (p1 : Nat) then 1 / (t0 : Nat) + (p - (p0 : Nat)) / ((p1 - p0 : Nat) : Rat) * (1 / (t1 : Nat) - 1 / (t0 : Nat))
    else curveRate ((p1, t1) :: ps) p

/-- R275: one step of 5 us of the accumulator, in 2^-30 of the trip level. -/
def State.breakerStep (s : State) (c : Nat) : State :=
  let f := s.fuse c
  let p := s.fusP c
  let cv := s.curve c
  let p0 := match cv with
    | [] => 0
    | x :: _ => x.1
  let a : Rat := if p < (p0 : Nat) then f.acc * (1 - 5 / (s.regAt Reg.FUS_COOL c * 1000 : Nat)) else f.acc + 5 * curveRate cv p * 1073741824
  let acc := min 1073741824 (toUnitNat a)
  (s.setFuse c { f with acc := acc, pLast := p }).putAtSat Reg.FUS_ACC c (toUnitNat ((acc : Rat) * 10000 / 1073741824))

/-- R278: what a trip's owner does. -/
def State.tripOwner (s : State) (c : Nat) : State :=
  if c < 8 then (s.bayToFault c).restoreReserves else s.stringTrip (c - 8)

/-- R278: a trip of a kind. -/
def State.fusTrip (s : State) (c kind : Nat) : State :=
  let f := s.fuse c
  let s := s.setFuse c { f with breaker := kind == 3 }
  let s := ((s.putAt Reg.FUS_LASTTRIP c kind).bumpAt Reg.FUS_TRIPCNT c).flag Reg.FUS_FLAGS_TRIP
  (s.fusOpen c (.trip kind)).tripOwner c

/-- A driven channel outside LOCKOUT, where states freeze (R282). -/
def State.mayTrip (s : State) (c : Nat) : Bool := s.fusDriven c && s.mode != modeLockout

/-- R275: the breaker trips once A has reached the trip level. -/
def State.breakerTest (s : State) (c : Nat) : State :=
  let f := s.fuse c
  if s.mayTrip c && decide (1073741824 ≤ f.acc) then (s.fusTrip c 3).raise 0x5101 5 0x0C c (satNat 32 (toUnitNat f.pLast)) else s

/-- A condition's instant: since when it holds. -/
def State.sinceWhen (s : State) (old : Option Nat) (b : Bool) : Option Nat :=
  if b then (match old with | none => some s.now | t => t) else none

/-- R274: the conditions of power-good at a sample, and their timers. -/
def State.pgWatch (s : State) (c : Nat) : State :=
  let f := s.fuse c
  let fgs := decide ((s.regAt Reg.FUS_FGSON c : Rat) ≤ s.fgsMv c)
  let vds := decide (s.vsw c ≤ (s.regAt Reg.FUS_VDSPG c : Nat))
  let full := s.fusFull c
  s.setFuse c { f with
    goodAt := s.sinceWhen f.goodAt (full && fgs && vds), lapseAt := s.sinceWhen f.lapseAt (s.fst c == fusOn && !(fgs && vds)),
    fgsAt := s.sinceWhen f.fgsAt (full && !fgs), vswAt := s.sinceWhen f.vswAt (full && fgs && !vds),
    vdsAt := s.sinceWhen f.vdsAt (full && decide ((s.regAt Reg.FUS_VDSMAX c : Nat) < s.vsw c) && !s.lowCurrent c) }

/-- R272-R274: what a sample changes: RAMP ends, a lapse longer than 1 ms leaves ON, a V_sw too high under load trips. -/
def State.sampleMoves (s : State) (c : Nat) : State :=
  let f := s.fuse c
  if s.mode = modeLockout then s
  else if s.fst c = fusRamp ∧ s.vsw c ≤ (s.regAt Reg.FUS_VDSPG c : Nat) then (s.fusEnter c fusSettle).pgWatch c
  else if s.fusFull c ∧ s.ran f.vdsAt (100 * edgeUs) then
    (s.fusTrip c 7).raise 0x5103 5 0x0C c (par (toUnit (s.vsw c)))
  else if s.fst c = fusOn ∧ s.ran f.lapseAt (edgeMs + 1) then
    let g := f
    let s := s.fusEnter c fusSettle
    let f := s.fuse c
    s.setFuse c { f with fgsAt := g.fgsAt, vswAt := g.vswAt, vdsAt := g.vdsAt }
  else s

/-- FUSE_SAMPLE (R275). -/
def State.fuseSample (s : State) (c : Nat) (fi fv fgs : Code) : State :=
  let s := ((s.putAt Reg.TLM_RAW_FI c fi.toNat).putAt Reg.TLM_RAW_FV c fv.toNat).putAt Reg.TLM_RAW_FGS c fgs.toNat
  let s := ((((s.fusMeasure c).breakerStep c).breakerTest c).pgWatch c).sampleMoves c
  if 8 ≤ c then s.sagSample (c - 8) else s

/-- FUSE_SAMPLE. -/
def execFuseSample (t : Edges) (c : Fuse) (fi fv fgs : Code) (s : State) : Host.Outcome State Fault Refusal :=
  live t s fun s => s.fuseSample c.val fi fv fgs

/-- Event 0x5102: kind, and V_sw in 10 mV. -/
def State.inrushTrip (s : State) (c kind : Nat) : State :=
  let v := ofInt 16 (toUnit (s.vsw c / 10))
  (s.fusTrip c kind).raise 0x5102 4 0x0C c (kind + 65536 * v)

/-- R273: a 100 us window of the inrush; the fall in 0.1 V/ms. -/
def State.rampWindow (s : State) (c : Nat) : State :=
  let f := s.fuse c
  let start := f.stAt + s.regAt Reg.FUS_RBLANK c * edgeUs
  if s.fst c ≠ fusRamp ∨ s.mode = modeLockout ∨ s.now < start then s
  else if f.winAt < start then s.setFuse c { f with winV := s.vsw c, winAt := s.now }
  else if f.winAt + 100 * edgeUs ≤ s.now then
    let fall := (f.winV - s.vsw c) / 10
    let fast := decide ((s.regAt Reg.FUS_DVMAX c : Nat) < fall)
    let slow := decide (fall < (s.regAt Reg.FUS_DVMIN c : Nat))
    let n := if fast || slow then f.winBad + 1 else 0
    let s := s.setFuse c { f with winV := s.vsw c, winAt := s.now, winBad := n }
    if 3 ≤ n then s.inrushTrip c (if fast then 4 else 5) else s
  else s

/-- FUSE_RAMP_WINDOW (R273). -/
def execFuseRampWindow (t : Edges) (c : Fuse) (s : State) : Host.Outcome State Fault Refusal :=
  live t s fun s => s.rampWindow c.val

/-- FUSE_RAMP_TIMEOUT (R273). -/
def execFuseRampTimeout (t : Edges) (c : Fuse) (s : State) : Host.Outcome State Fault Refusal :=
  live t s fun s =>
    if s.fst c.val = fusRamp ∧ s.mode ≠ modeLockout ∧ s.elapsed (s.fuse c.val).stAt (s.regAt Reg.FUS_TRAMP c.val * edgeMs) then
      s.inrushTrip c.val 6
    else s

/-- R276, R281: the hard-trip comparators: FI above FUS_HARD (1.60 V at the pin with the built-in settings), or at or below 0.050 V. -/
def State.hardTripped (s : State) (c : Nat) (rev : Bool) : Bool :=
  if rev then decide (s.fiPin c ≤ -150)
  else if s.fusBuiltin c then decide (1400 ≤ s.fiPin c)
  else decide ((s.regAt Reg.FUS_HARD c * 100 : Nat) < s.fiMa c)

/-- FUSE_HARD_TRIP (R276): A is left as it stands. -/
def execFuseHardTrip (t : Edges) (c : Fuse) (rev : Bool) (fi : Code) (s : State) : Host.Outcome State Fault Refusal :=
  live t s fun s =>
    let s := (s.putAt Reg.TLM_RAW_FI c.val fi.toNat).fusMeasure c.val
    if s.mayTrip c.val && s.hardTripped c.val rev then
      if rev then (s.fusTrip c.val 2).raise 0x5105 5 0x0C c.val (s.regAt Reg.FUS_FI c.val)
      else (s.fusTrip c.val 1).raise 0x5100 5 0x0C c.val (s.regAt Reg.FUS_PEAKI c.val)
    else s

/-- The switch of a bay shows power-good: R139 step 4; a bay released in INRUSH goes to DEEP (R205). -/
def State.bayPowerGood (s : State) (b : Nat) : State :=
  if s.bst b = bayInrush ∧ (s.bay b).released then (s.setBst b bayDeep).walkCheck else s.tryJoin b

/-- R274: the channel is ON: its bit of FUS_PG, event 0x5112, and its owner goes on. -/
def State.fusOnNow (s : State) (c : Nat) : State :=
  let f := s.fuse c
  let s := (s.fusEnter c fusOn).putBit Reg.FUS_PG c true
  let s := s.raise 0x5112 0 0x0C c ((s.now - f.reqAt) / 640000)
  if c < 8 then s.bayPowerGood c else s.stringOn (c - 8)

/-- FUSE_SETTLE_DONE (R274). -/
def execFuseSettleDone (t : Edges) (c : Fuse) (s : State) : Host.Outcome State Fault Refusal :=
  live t s fun s =>
    if s.fst c.val = fusSettle ∧ s.mode ≠ modeLockout ∧ s.ran (s.fuse c.val).goodAt (s.regAt Reg.FUS_SETTLE c.val * 640000) then
      s.fusOnNow c.val
    else s

/-- FUSE_GATE_RISE_TIMEOUT (R277, R274): FGS low with little current is GATE_STUCK; V_sw high behind a full gate is a
PG timeout. -/
def execFuseGateRiseTimeout (t : Edges) (c : Fuse) (s : State) : Host.Outcome State Fault Refusal :=
  live t s fun s =>
    let f := s.fuse c.val
    let d := s.regAt Reg.FUS_TRISE c.val * edgeUs
    if s.fusFull c.val ∧ s.mode ≠ modeLockout ∧ s.ran f.fgsAt d ∧ s.lowCurrent c.val then
      let p := s.regAt Reg.FUS_FGS c.val + 65536 * (s.fiShown c.val).natAbs
      ((s.flag Reg.FUS_FLAGS_GATE).fusTrip c.val 9).raise 0x5120 5 0x0C c.val p
    else if s.fusFull c.val ∧ s.mode ≠ modeLockout ∧ s.ran f.vswAt d then (s.fusTrip c.val 8).raise 0x5104 4 0x0C c.val 1
    else s

/-- R280: the channel goes to LATCHED. -/
def State.fusLatch (s : State) (c : Nat) : State :=
  let f := s.fuse c
  let s := s.setFuse c { f with want := f.want && decide (8 ≤ c) }
  ((s.fusEnter c fusLatched).flag Reg.FUS_FLAGS_LATCH).raise 0x5110 5 0x0C c (s.regAt Reg.FUS_LASTTRIP c)

/-- R272: the channel is OFF, and closes again where its owner asks. -/
def State.fusToOff (s : State) (c : Nat) : State :=
  let s := s.fusEnter c fusOff
  if (s.fuse c).want then s.fusClose c else s

/-- R272, R280: OPENING has ended. -/
def State.fusOpened (s : State) (c : Nat) : State :=
  let f := s.fuse c
  let s := s.setFuse c { f with openAt := s.now }
  if f.disable then
    let f := s.fuse c
    (s.setFuse c { f with disable := false }).fusEnter c fusUnused
  else
    match f.why with
    | .owner => s.fusToOff c
    | .disable => s.fusEnter c fusUnused
    | .trip k =>
      if s.mayRetry c k then (if f.want then s.fusEnter c fusRetryWait else s.fusEnter c fusOff) else s.fusLatch c

/-- FUSE_GATE_OFF (R272). -/
def execFuseGateOff (t : Edges) (c : Fuse) (s : State) : Host.Outcome State Fault Refusal :=
  live t s fun s =>
    if s.fst c.val = fusOpening ∧ s.mode ≠ modeLockout ∧ s.fgsMv c.val < (s.regAt Reg.FUS_FGSOFF c.val : Nat) then s.fusOpened c.val else s

/-- FUSE_GATE_FALL_TIMEOUT (R277): GATE_NO_OFF; a bay behind it is in FAULT. -/
def execFuseGateFallTimeout (t : Edges) (c : Fuse) (s : State) : Host.Outcome State Fault Refusal :=
  live t s fun s =>
    let k := c.val
    if s.fst k = fusOpening ∧ s.mode ≠ modeLockout ∧ (s.regAt Reg.FUS_FGSOFF k : Rat) ≤ s.fgsMv k ∧
        s.elapsed (s.fuse k).stAt (s.regAt Reg.FUS_TFALL k * edgeUs) then
      let s := ((s.putAt Reg.FUS_LASTTRIP k 10).bumpAt Reg.FUS_TRIPCNT k).flag Reg.FUS_FLAGS_TRIP
      let s := ((s.flag Reg.FUS_FLAGS_GATE).raise 0x5121 6 0x0C k (s.regAt Reg.FUS_FGS k)).fusLatch k
      if k < 8 ∧ s.bst k ≠ bayAbsent ∧ s.bst k ≠ bayEjected then s.bayToFault k else s
    else s

/-- R280: A has cooled to FUS_REARM % after a breaker trip. -/
def State.cooled (s : State) (c : Nat) : Bool :=
  let f := s.fuse c
  !f.breaker || decide (f.acc * 100 ≤ s.regAt Reg.FUS_REARM c * 1073741824)

/-- R280: a retry starts: RAMP, and the bay back at INRUSH (R144). -/
def State.fusRetryNow (s : State) (c : Nat) : State :=
  let f := s.fuse c
  let rs := s.now :: s.retriesNow c
  let s := s.setFuse c { f with retries := rs, winBad := 0, winV := s.vsw c, winAt := s.now }
  let s := (s.putAtSat Reg.FUS_RETRIES c rs.length).fusEnter c fusRamp
  let s := s.raise 0x5111 1 0x0C c (s.regAt Reg.FUS_RETRIES c)
  if c < 8 ∧ s.bst c = bayFault then s.setBst c bayInrush else s

/-- FUSE_RETRY (R280). -/
def execFuseRetry (t : Edges) (c : Fuse) (s : State) : Host.Outcome State Fault Refusal :=
  live t s fun s =>
    let f := s.fuse c.val
    let left := decide ((s.retriesNow c.val).length < s.regAt Reg.FUS_RETRYN c.val)
    if s.fst c.val = fusRetryWait ∧ s.mode ≠ modeLockout ∧ f.want ∧ left ∧ s.cooled c.val ∧
        s.elapsed f.openAt (s.regAt Reg.FUS_RETRYT c.val * edgeMs) then s.fusRetryNow c.val
    else s

/-- R280, R144: a LATCHED channel is cleared by FUS_CLR; its bay goes back to PFCSTART. -/
def State.fusClear (s : State) (c : Nat) : State :=
  if s.fst c = fusLatched then
    let s := s.fusCleared c 0
    if c < 8 ∧ s.bst c = bayFault ∧ (s.bay c).pres ∧ s.mode ≠ modeLockout then s.toPfc c else s
  else s

/-- FUS_CLR (R280): another value does nothing. -/
def State.fusClr (s : State) (c : Nat) (key : Byte) : State := if key = 0xA5 then s.fusClear c else s

def execFusClr (t : Edges) (c : Fuse) (key : Byte) (s : State) : Host.Outcome State Fault Refusal :=
  hostWrite t s fun s => s.fusClr c.val key

/-- R272: FUS_CTL.EN as an image that has come into force sets it. -/
def State.fusEnable (s : State) (c : Nat) : State :=
  let st := s.fst c
  let f := s.fuse c
  if s.regAt Reg.FUS_CTL_EN c = 0 then
    if st = fusUnused then s
    else if st = fusOff ∨ st = fusLatched then s.fusEnter c fusUnused
    else if st = fusOpening then s.setFuse c { f with disable := true }
    else (s.setFuse c { f with disable := true }).fusOpen c .disable
  else if st = fusUnused then s.fusToOff c
  else s

/-- R272: every channel, when an image has come into force. -/
def State.fusesImage (s : State) : State := fuseIds.foldl State.fusEnable s

end Sys2Proof.Machine
end

