-- ==== Sys2Proof/Machine/Bays.lean ====
section
/-! DEFINITION. Bays inserted and removed (R139-R144), and what a sharing tick does to them: the drop model, the trims, the
ramps of joining and leaving (R133-R141). -/

namespace Sys2Proof.Machine

/-- R139: the debounce: SHR_PRESDB once an image is in force, a built-in 5 ms before. -/
def State.presDebounce (s : State) : Nat := if s.imgValid then s.reg Reg.SHR_PRESDB * edgeMs else 5 * edgeMs

/-- R139, R144, R280: BAYPRESb rises: the debounce starts; a LATCHED switch whose presence had gone for 100 ms is cleared. -/
def State.presRise (s : State) (b : Nat) : State :=
  let y := s.bay b
  let s := s.setBay b { y with pres := true, lostAt := none, debAt := some s.now }
  let f := s.fuse b
  let s := s.setFuse b { f with gone := false }
  if s.fst b = fusLatched ∧ f.gone then s.fusCleared b 1 else s

/-- The bay is ABSENT: its phases and its switch are gone (R85, R138). -/
def State.bayGone (s : State) (b : Nat) : State :=
  let y := s.bay b
  let s := s.setBay b { y with accepted := false, ok := false, enLow := false, released := false, feFault := false }
  (((s.bayStop b).openReq b).allAbsent b).setBst b bayAbsent

/-- R144: BAYPRESb falls: an accepted presence lapses in ABSENT; an EJECTED bay is withdrawn. -/
def State.presFall (s : State) (b : Nat) : State :=
  let y := s.bay b
  let s := s.setBay b { y with pres := false, debAt := none, lostAt := some s.now,
                               accepted := if s.bst b = bayAbsent then false else y.accepted }
  if s.bst b = bayEjected then (s.bayGone b).raise 0x1140 0 0x05 b (s.reg Reg.SHR_EJCNT) else s

/-- BAY_PRESENCE_CHANGE (R139, R144). -/
def execBayPresenceChange (t : Edges) (b : Bay) (level : Bool) (s : State) : Host.Outcome State Fault Refusal :=
  live t s fun s =>
    if (s.bay b.val).pres = level then s else if level then s.presRise b.val else s.presFall b.val

/-- PRESENCE_DEBOUNCE (R139, R144): in LOCKOUT the bay stays ABSENT with its presence accepted. -/
def execPresenceDebounce (t : Edges) (b : Bay) (s : State) : Host.Outcome State Fault Refusal :=
  live t s fun s =>
    let y := s.bay b.val
    if y.pres ∧ s.bst b.val = bayAbsent ∧ s.ran y.debAt s.presDebounce then
      let s := s.setBay b.val { y with accepted := true, debAt := none }
      if s.mode = modeLockout then s else s.bayInserted b.val
    else s

/-- BAYOK_RISE (R139, R141, R143). -/
def execBayokRise (t : Edges) (b : Bay) (s : State) : Host.Outcome State Fault Refusal :=
  live t s fun s =>
    let y := s.bay b.val
    (s.setBay b.val { y with ok := true }).bayReady b.val

/-- BAY_OK_TIMEOUT (R139): BAYOKb has stayed low beyond SHR_OKTIME. -/
def execBayOkTimeout (t : Edges) (b : Bay) (s : State) : Host.Outcome State Fault Refusal :=
  live t s fun s =>
    let y := s.bay b.val
    if s.bst b.val = bayPfc ∧ y.ok = false ∧ s.ran y.okFrom (s.reg Reg.SHR_OKTIME * edgeMs) then
      (((s.openReq b.val).bayToFault b.val).raise 0x1143 4 0x05 b.val (s.reg Reg.SHR_OKTIME)).restoreReserves
    else s

/-- R144: BAYEJb is asserted. -/
def State.ejectRise (s : State) (b : Nat) : State :=
  let st := s.bst b
  let y := s.bay b
  if st = bayPfc ∨ st = bayInrush ∨ st = bayFault then s.bayToEjected b
  else if st = bayLeave then s.setBay b { y with leaveEj := true }
  else if st = bayJoin ∨ st = bayActive ∨ st = bayStandby ∨ st = bayDeep then s.setBay b { y with pendEj := true }
  else s

/-- R144: BAYEJb is released: an eject leave or a waiting eject is cancelled. -/
def State.ejectFall (s : State) (b : Nat) : State :=
  let y := s.bay b
  let w := satNat 8 (toUnitNat (y.w * 255))
  if s.bst b = bayLeave ∧ y.leaveEj ∧ y.pres then (s.bayActivate b).raise 0x1147 1 0x05 b w
  else if y.pendEj then (s.setBay b { y with pendEj := false }).raise 0x1147 1 0x05 b w
  else s

/-- BAY_EJECT_CHANGE (R144). -/
def execBayEjectChange (t : Edges) (b : Bay) (level : Bool) (s : State) : Host.Outcome State Fault Refusal :=
  live t s fun s =>
    let y := s.bay b.val
    if y.ej = level then s
    else
      let s := s.setBay b.val { y with ej := level }
      if level then s.ejectRise b.val else s.ejectFall b.val

/-- BAY_LOST (R142): BAYPRESb has been deasserted for 1 ms. -/
def execBayLost (t : Edges) (b : Bay) (s : State) : Host.Outcome State Fault Refusal :=
  live t s fun s =>
    let y := s.bay b.val
    let st := s.bst b.val
    if y.pres = false ∧ s.ran y.lostAt edgeMs ∧ st ≠ bayAbsent ∧ st ≠ bayEjected then
      let p := st + 65536 * (satInt 16 (toUnit (y.iTick / 100)))
      (((s.bayGone b.val).bump Reg.SHR_LOSTCNT).raise 0x1141 5 0x05 b.val p).restoreReserves
    else s

/-- R143: the bay has lost its PFC and starts again at PFCSTART. -/
def State.pfcLost (s : State) (b : Nat) : State :=
  let st := s.bst b
  (((s.bayStop b).openReq b).toPfc b).raise 0x1142 4 0x05 b st

/-- BAY_PFC_LOST (R143): in HOLDUP the release of R205 follows; in LOCKOUT the loss is recorded. -/
def execBayPfcLost (t : Edges) (b : Bay) (s : State) : Host.Outcome State Fault Refusal :=
  live t s fun s =>
    let b := b.val
    let y := s.bay b
    let s := s.setBay b { y with ok := false }
    if s.inService b || s.bst b == bayStandby then
      if s.mode = modeLockout then s.raise 0x1142 4 0x05 b (s.bst b)
      else if s.mode = modeHoldup then s
      else (s.pfcLost b).restoreReserves
    else s

/-- BAY_LEAVE_FORCED (R140): the leave completes with its current still there. -/
def execBayLeaveForced (t : Edges) (b : Bay) (s : State) : Host.Outcome State Fault Refusal :=
  live t s fun s =>
    let y := s.bay b.val
    if s.bst b.val = bayLeave ∧ s.ran y.zeroAt (s.reg Reg.SHR_LVTO * edgeMs) then
      (s.raise 0x1145 3 0x05 b.val (par (toUnit (s.imonSum b.val / 100)))).leaveDone b.val
    else s

/-- DEEP_TIMEOUT (R141). -/
def execDeepTimeout (t : Edges) (b : Bay) (s : State) : Host.Outcome State Fault Refusal :=
  live t s fun s =>
    if s.isSet Reg.TRK_CTL_DEEP ∧ s.bst b.val = bayStandby
        ∧ s.elapsed (s.bay b.val).sbyAt (s.reg Reg.TRK_DEEPTIME * edgeSec) then
      s.setBst b.val bayDeep
    else s

/-- PRESENCE_LOSS_100MS (R92, R280): a bay's trims are discarded; a LATCHED switch may be cleared by presence. -/
def execPresenceLoss100ms (t : Edges) (x : Fin 16) (s : State) : Host.Outcome State Fault Refusal :=
  live t s fun s =>
    let c := x.val
    let f := s.fuse c
    if c < 8 then
      if (s.bay c).pres = false ∧ s.ran (s.bay c).lostAt (100 * edgeMs) then
        (phaseIds c).foldl State.discardTrim (s.setFuse c { f with gone := true })
      else s
    else if (s.str (c - 8)).pres = false then s.setFuse c { f with gone := true }
    else s

/-- Step 1 of R25 for the bays: the sharing-tick averages, and at angle 0 the cycle averages (R89, R134, R146). -/
def State.closeBay (s : State) (b : Nat) (zero : Bool) : State :=
  let y := s.bay b
  let i := if y.iN = 0 then s.imonSum b else y.iAcc / y.iN
  let v : Rat := if y.vN = 0 then (s.voutMv b (s.regAt Reg.TLM_RAW_VSB b) : Int) else y.vAcc / y.vN
  let y := { y with iTick := i, vTick := v, iAcc := 0, iN := 0, vAcc := 0, vN := 0, cAcc := y.cAcc + i, cN := y.cN + 1 }
  let y := if zero then { y with iCyc := y.cAcc / y.cN, cAcc := 0, cN := 0, dropTold := false } else y
  s.setBay b y

/-- Step 1 of R25: the regulation point (R134), and the strings' discharge for the cycle (R147). -/
def State.closeShelf (s : State) : State :=
  let u := s.sup
  let rp := if u.rpN = 0 then s.rpMv else u.rpAcc / u.rpN
  let d := sumQ (strIds.map s.strDischarge)
  { s with sup := { u with rpTick := rp, rpAcc := 0, rpN := 0, dAcc := u.dAcc + d, dN := u.dN + 1 } }

/-- R134: the drop resistance of one bay learns at a sharing tick. -/
def State.dropLearn (s : State) (b : Nat) : State :=
  let y := s.bay b
  if s.inShare b ∧ ((s.irate b : Nat) : Rat) / 10 ≤ y.iTick ∧ 0 < y.iTick then
    let r := (y.vTick - s.sup.rpTick) / y.iTick * 1000000
    if r < 0 ∨ (s.reg Reg.SHR_RMAX : Rat) < r then
      let s := s.flag Reg.SHR_FLAGS_DROPRNG
      if y.dropTold then s
      else (s.setBay b { y with dropTold := true }).raiseP1 0x2124 3 0x05 (b + 256 * ofInt 24 (toUnit r))
    else
      let v := y.rdrop + (r - y.rdrop) / 64
      (s.setBay b { y with rdrop := v }).putAtSat Reg.SHR_RDROP b (toUnitNat v)
  else s

/-- R133, R134: the drop model of every bay. -/
def State.dropModel (s : State) : State :=
  if (s.mode = modeRun ∨ s.mode = modeHoldup) ∧ s.sup.runSeen then bayIds.foldl State.dropLearn s else s

/-- R135: the drop compensation of a bay in mV. -/
def State.dropComp (s : State) (b : Nat) : Rat :=
  let y := s.bay b
  if s.isSet Reg.SHR_CTL_RPT ∧ s.inShare b then min (y.iTick * y.rdrop / 1000000) (s.reg Reg.SHR_DROPMAX : Nat) else 0

/-- Two's complement of a free value, so that a free rational may be of either sign. -/
def freeSigned (v : Nat) : Rat := if v % 2 = 0 then (v / 2 : Nat) else -((v / 2 + 1 : Nat) : Rat)

/-- R136: the current target of a member, in mA; where every member's weight is 0 no rule states it: a free value. -/
def State.shareTarget (s : State) (b : Nat) (sum : Rat) (free : Nat) : Rat :=
  let w := s.weightSum
  if w = 0 then freeSigned free else s.weight b * sum / w

/-- R137: one trim takes its centred value, limited; a trim at its limit for 64 ticks is told once per episode. -/
def State.trimSet (s : State) (b : Nat) (v : Rat) : State :=
  let a := s.trimAuth
  let t := clampRat (-a) a v
  let y := s.bay b
  let n := if t = v then 0 else y.trimN + 1
  let s := (s.setBay b { y with t := t, trimN := n }).shareRefresh b
  if n = 64 then (s.flag Reg.SHR_FLAGS_TRIMSAT).raiseP1 0x2123 3 0x05 b else s

/-- R137: the sharing trims. -/
def State.shareTrims (s : State) : State :=
  let ms := bayIds.filter s.inShare
  let sum := sumQ (ms.map (fun b => (s.bay b).iTick))
  let (v, s) := s.takeFree
  let ks := (s.reg Reg.SHR_KS : Rat) / 256
  let raw := ms.map (fun b => (b, (s.bay b).t + ks * (s.shareTarget b sum (Config.freeValue (v + b)) - (s.bay b).iTick) / 1000))
  let m := meanQ (raw.map (fun p => p.2))
  let s := raw.foldl (fun s p => s.trimSet p.1 (p.2 - m)) s
  bayIds.foldl (fun s b =>
    if ms.contains b then s
    else
      let y := s.bay b
      if y.t = 0 ∧ y.trimN = 0 then s else (s.setBay b { y with t := 0, trimN := 0 }).shareRefresh b) s

/-- R139 step 6, R140: the ramps of joining and leaving at a sharing tick. -/
def State.rampTick (s : State) (b : Nat) : State :=
  let y := s.bay b
  if s.bst b = bayJoin then
    let cyc := max 1 (if s.mode = modeTadpole then 25 else s.reg Reg.SHR_JOINCYC)
    let w := y.w + 1 / (64 * cyc : Nat)
    if 1 ≤ w then s.joined b else (s.setBay b { y with w := w }).shareRefresh b
  else if s.bst b = bayLeave then
    let w := y.w - y.w0 / (max 1 (s.reg Reg.SHR_LVTICKS) : Nat)
    if w ≤ 0 then
      (s.setBay b { y with w := 0, zeroAt := if y.zeroAt.isNone then some s.now else y.zeroAt }).shareRefresh b
    else (s.setBay b { y with w := w }).shareRefresh b
  else s

/-- Step 8 of R25. -/
def State.sharingStep (s : State) : State :=
  let s := s.dropModel
  let s := bayIds.foldl (fun s b => let y := s.bay b; s.setBay b { y with c := s.dropComp b }) s
  let s := s.shareTrims
  bayIds.foldl State.rampTick s

/-- R140, R144: the leaves and ejects due at a quadrant point. -/
def State.leaveDue (s : State) (b : Nat) : State :=
  let y := s.bay b
  let st := s.bst b
  if y.pendEj then
    if st = bayJoin ∨ st = bayActive then s.leaveStart b true
    else if st = bayStandby ∨ st = bayDeep then s.bayToEjected b
    else s.setBay b { y with pendEj := false }
  else if y.pendTrk then
    if st = bayActive then s.leaveStart b false else s.setBay b { y with pendTrk := false }
  else s

/-- R150: a chosen voltage begins its slew at the quadrant point, with sequence 0. -/
def State.voltageDue (s : State) : State :=
  match s.sup.vPend with
  | none => s
  | some uv =>
    let s := { s with sup.vPend := none }
    if s.mode = modeRun then s.moveTo .own (uv / 10000) (s.reg Reg.TRK_VSLEW) 0 else s

/-- What waits for a quadrant point before the tracker's run of this tick: leaves and ejects, and a voltage. A leave decided at
angle 0 waits for the next quadrant point (R24). -/
def State.waitingLeaves (s : State) : List Nat × Option Nat :=
  (bayIds.filter (fun b => (s.bay b).pendEj || (s.bay b).pendTrk), s.sup.vPend)

/-- Step 6 of R25: the sheds, leaves and voltages due here. -/
def State.shedStep (s : State) (due : List Nat × Option Nat) : State :=
  let s := bayIds.foldl State.shedCommit s
  let s := due.1.foldl State.leaveDue s
  if due.2.isSome then s.voltageDue else s

/-- The SHADOW fields of pages 14 to 16. -/
def trackerShadow : List Field := (Reg.page14 ++ Reg.page15 ++ Reg.page16).filter (fun f => f.cls == .shadow)

/-- R152: pages 14 to 16 commit at angle 0, or the whole set is rejected. -/
def State.trackerCommit (s : State) : State :=
  let c := copyFields s.shad s.regs trackerShadow
  match checkTracker c with
  | none => { s with regs := c }
  | some (b, r) => ({ s with shad := copyFields s.regs s.shad trackerShadow }.flag Reg.TRK_FLAGS_REJECT).raiseP1 0x2127 2 0x06 (b + 256 * r)

end Sys2Proof.Machine
end

