-- ==== Sys2Proof/Machine/Croak.lean ====
section
/-! DEFINITION. The ports as controllers: a croak that completes, and one that loses arbitration (R405-R408). -/

namespace Sys2Proof.Machine

/-- A port, and its number in events (R412). -/
def State.port (s : State) (p : PortId) : Port := match p with | .h => s.portH | .s => s.portS | .d => s.portD
def State.setPort (s : State) (p : PortId) (v : Port) : State :=
  match p with
  | .h => { s with portH := v }
  | .s => { s with portS := v }
  | .d => { s with portD := v }
def portNo (p : PortId) : Nat := match p with | .h => 0 | .s => 1 | .d => 2

/-- Bit `k` of a port's flags: 0 ABORT, 1 PECERR, 2 STRLIM, 3 TIMEOUT, 4 CRKFAIL, 5 STUCK (R410). -/
def State.portFlag (s : State) (p : PortId) (k : Nat) : State :=
  match p with
  | .h =>
    match k with
    | 0 => s.flag Reg.H_FLAGS_ABORT
    | 1 => s.flag Reg.H_FLAGS_PECERR
    | 2 => s.flag Reg.H_FLAGS_STRLIM
    | 3 => s.flag Reg.H_FLAGS_TIMEOUT
    | 4 => s.flag Reg.H_FLAGS_CRKFAIL
    | _ => s.flag Reg.H_FLAGS_STUCK
  | .s => s.putBit Reg.S_FLAGS k true
  | .d => s

/-- R408: a croak that completes ends the episode of a stuck bus. -/
def State.croakDone (s : State) (p : PortId) : State :=
  match (s.port p).stuckAt with
  | none => s
  | some t =>
    let q := s.port p
    (s.setPort p { q with stuckAt := none, backoff := none }).raise 0x6251 1 0x11 (portNo p) (s.msSince t)

end Sys2Proof.Machine
end

