-- ==== Sys2Proof/Machine/Controller.lean ====
section
/-! DEFINITION. The commands of the interrupt controller: claim, completion, and its timers (R416-R420). -/

namespace Sys2Proof.Machine

/-- A source by its ID, 1 to 128. -/
def icSource (id : Nat) : Option (Fin 128) := if h : 1 ≤ id ∧ id ≤ 128 then some ⟨id - 1, by omega⟩ else none

/-- R416: the source IC_TOP names becomes ACTIVE; 0 claims nothing. -/
def State.icClaim (s : State) : State :=
  match icSource s.icTop with
  | none => s
  | some i => { s with ic.src := s.ic.src.set i .active, ic.overdue := s.ic.overdue.set i false }

/-- The code of a source's state (R415). -/
def SrcState.code : SrcState → Nat
  | .idle => 0
  | .pending => 1
  | .active => 2
  | .held => 3

/-- R417: a completion of an ID that is not ACTIVE changes nothing and is counted. -/
def State.icBad (s : State) (id st : Nat) : State := (s.bump Reg.IC_BADCNT).raise 0x6300 2 0x12 id st

/-- R417: the completed source becomes IDLE, PENDING or HELD by its level and its group's hold-off. -/
def State.icDone (s : State) (i : Fin 128) : State :=
  let hold := s.regAt Reg.IC_HOLDOFF (icGroup i).val
  if !s.icLevel i then { s with ic.src := s.ic.src.set i .idle }
  else if hold = 0 then { s with ic.src := s.ic.src.set i .pending }
  else { s with ic.src := s.ic.src.set i .held, ic.timer := s.ic.timer.set (icGroup i) (some (s.now + hold * edgeUs)) }

/-- R417: writing an ID to IC_COMPLETE. -/
def State.icComplete (s : State) (id : Nat) : State :=
  match icSource id with
  | none => s.icBad id 0xFF
  | some i => if s.ic.src[i] = .active then s.icDone i else s.icBad id (SrcState.code s.ic.src[i])

/-- R417: a HELD source of the group becomes PENDING by its level, IDLE otherwise. -/
def State.icRelease (s : State) (g : Fin 16) (i : Fin 128) : State :=
  if icGroup i = g ∧ s.ic.src[i] = .held then
    { s with ic.src := s.ic.src.set i (if s.icLevel i then .pending else .idle) }
  else s

/-- IC_CLAIM (R416). -/
def execIcClaim (t : Edges) (s : State) : Host.Outcome State Fault Refusal := live t s State.icClaim

/-- IC_COMPLETE (R417); during a supervisor restart or halt the byte is not acknowledged (R403, R422). -/
def execIcComplete (t : Edges) (id : Byte) (s : State) : Host.Outcome State Fault Refusal :=
  live t s fun s => if s.supUp then s.icComplete id.toNat else s

/-- HOLDOFF_EXPIRY (R417): the group's timer expires once it has come due. -/
def execHoldoffExpiry (t : Edges) (g : Fin 16) (s : State) : Host.Outcome State Fault Refusal :=
  live t s fun s =>
    match s.ic.timer[g] with
    | none => s
    | some due =>
      if due ≤ s.now then icIds.foldl (fun s i => s.icRelease g i) { s with ic.timer := s.ic.timer.set g none } else s

/-- RENOTIFY (R419): the same claimable ID has stood for IC_RENOTIFY ms. -/
def execRenotify (t : Edges) (s : State) : Host.Outcome State Fault Refusal :=
  live t s fun s =>
    let n := s.reg Reg.IC_RENOTIFY
    if s.icTop ≠ 0 ∧ s.icTop = s.ic.top ∧ n ≠ 0 ∧ s.ic.topAt + n * edgeMs ≤ s.now ∧ s.isSet Reg.H_CFG_HNEN then
      { s with ic.notify := true, ic.topAt := s.now }
    else s

/-- IRQ_OVERDUE (R420): a source claimable for IC_AGEMAX ms without a claim, once until it leaves PENDING. -/
def execIrqOverdue (t : Edges) (id : Fin 128) (s : State) : Host.Outcome State Fault Refusal :=
  live t s fun s =>
    match s.ic.since[id] with
    | none => s
    | some since =>
      if s.ic.overdue[id] = false ∧ s.claimable id ∧ since + s.reg Reg.IC_AGEMAX * edgeMs ≤ s.now then
        { s with ic.overdue := s.ic.overdue.set id true }.raise 0x6301 3 0x12 (id.val + 1) (s.icPrio id)
      else s

end Sys2Proof.Machine
end

