-- ==== Sys2Proof/Machine/Capping.lean ====
section
/-! DEFINITION. Sled contracts, capping and pacing (R176-R196). -/

namespace Sys2Proof.Machine

/-- Contract `i`. -/
def State.ct (s : State) (i : Nat) : CtSt := if h : i < 128 then s.cap.cts[i] else CtSt.reset
def State.setCt (s : State) (i : Nat) (v : CtSt) : State := { s with cap.cts := s.cap.cts.setIfInBounds i v }

/-- The contract IDs; the pace groups. -/
def ctIds : List Nat := List.range 128
def groupIds : List Nat := List.range 16

/-- Byte `j` of a record in the active copy, and a record in either copy (R176). -/
def State.recByte (s : State) (i j : Nat) : Nat := s.regAt Reg.CAP_CT_REC (16 * i + j)
def State.recShadow (s : State) (i : Nat) : List Nat := (List.range 16).map (fun j => s.shadAt Reg.CAP_CT_REC (16 * i + j))
def State.putShadow (s : State) (i : Nat) (r : List Nat) : State :=
  (List.range 16).foldl (fun s j => s.putShad Reg.CAP_CT_REC (16 * i + j) (r.getD j 0)) s

/-- The fields of the active record. -/
def State.ctOpen (s : State) (i : Nat) : Bool := bitOf (s.reg Reg.CAP_CT_OPEN) i
def State.ctGroup (s : State) (i : Nat) : Nat := s.recByte i 3 % 16
def State.ctClass (s : State) (i : Nat) : Nat := s.recByte i 3 / 16 % 4
def State.ctWeight (s : State) (i : Nat) : Nat := s.recByte i 4
def State.ctPreq (s : State) (i : Nat) : Nat := natOfBytes [s.recByte i 6, s.recByte i 7, s.recByte i 8, s.recByte i 9]
def State.ctPmin (s : State) (i : Nat) : Nat := natOfBytes [s.recByte i 10, s.recByte i 11, s.recByte i 12, s.recByte i 13]

/-- The open contracts. -/
def State.opens (s : State) : List Nat := ctIds.filter s.ctOpen

/-- A field of a record lies outside R176. -/
def State.recRange (s : State) (r : List Nat) : Bool :=
  let b := fun j => r.getD j 0
  let seq := b 15 = 0 || 127 < b 1
  if b 0 = 2 then seq
  else
    let sa := b 2 % 128
    let base := s.reg Reg.CAP_SBASE
    let preq := natOfBytes [b 6, b 7, b 8, b 9]
    seq || sa < 8 || 0x77 < sa || (base ≤ sa && sa ≤ base + 3) || !bitOf (s.reg Reg.CAP_GMASK) (b 3 % 16) || b 4 = 0 ||
      preq = 0 || 1000000 < preq

/-- R178: the results that apply to a record written with an origin (2 HOST, 3 SLED); a record with SEQ 0 repeats none. -/
def State.recResults (s : State) (r : List Nat) (origin : Nat) : List Nat :=
  let b := fun j => r.getD j 0
  let i := b 1
  let o := s.regAt Reg.CAP_CT_ORIGIN i
  let known := s.ctOpen i || (match (s.ct i).staged with | none => false | some _ => s.shadAt Reg.CAP_CT_REC (16 * i) == 1)
  let one := fun (p : Bool) (n : Nat) => if p then [n] else []
  one (decide (s.mode = modeLockout ∨ (s.core.shipStep ≠ 0 ∧ b 0 = 1 ∧ s.ctOpen i = false))) 6 ++
  one (decide (b 0 ≠ 1 ∧ b 0 ≠ 2)) 1 ++
  one (s.recRange r) 3 ++
  one (decide (origin = 3) && s.isSet Reg.CAP_CTL_LOCK && decide (o = 1 ∨ o = 2)) 2 ++
  one (decide (b 0 = 1 ∧ natOfBytes [b 6, b 7, b 8, b 9] < natOfBytes [b 10, b 11, b 12, b 13])) 4 ++
  one (decide (b 15 ≠ 0 ∧ b 15 = s.shadAt Reg.CAP_CT_REC (16 * i + 15))) 7 ++
  one (decide (b 0 = 2) && !known) 5

/-- R178: the result of a record; where several apply, which one is told is a free choice. -/
def State.recResult (s : State) (r : List Nat) (origin : Nat) : Nat :=
  match s.recResults r origin with
  | [] => 0
  | [n] => n
  | n :: l => ((n :: l)[Config.pick (natOfBytes r) % (l.length + 1)]?).getD n

/-- R178: a record that passed enters the shadow table; reserved bits are written 0, and a CLOSE uses its opcode, ID and SEQ. -/
def State.recStage (s : State) (r : List Nat) (origin : Nat) : State :=
  let b := fun j => r.getD j 0
  let i := b 1
  let old := s.recShadow i
  let new := if b 0 = 2 then (old.set 0 2).set 15 (b 15)
    else ((((r.set 2 (b 2 % 128)).set 3 (b 3 % 64)).set 5 0).set 14 0)
  let s := s.putShadow i (new.set 1 i)
  let c := s.ct i
  (s.setCt i { c with staged := some origin }).touch 0x19

/-- R178: a record is checked; results 1 to 6 are told. -/
def State.recWrite (s : State) (r : List Nat) (origin : Nat) : State × Nat :=
  let res := s.recResult r origin
  if res = 0 then (s.recStage r origin, 0)
  else if res = 7 then (s, 7)
  else ((s.flag Reg.CAP_FLAGS_MBREF).raise 0x2166 2 0x08 (r.getD 1 0 % 128) res, res)

/-- R177, R178: a mailbox record of a sled: the owner's alone, and not while the supervisor is down. -/
def State.mailbox (s : State) (r : List Nat) : State :=
  if s.owner ∧ s.supUp ∧ r.length = 16 then
    let (s, res) := s.recWrite r 3
    ((s.put Reg.CAP_MBID (r.getD 1 0)).put Reg.CAP_MBRES res).put Reg.CAP_MBSEQ (r.getD 15 0)
  else s

/-- MAILBOX_RECORD (R178). -/
def execMailboxRecord (t : Edges) (r : List Byte) (s : State) : Host.Outcome State Fault Refusal :=
  live t s fun s => s.mailbox (r.map BitVec.toNat)

/-- R194: a host write of the contract window. -/
def State.contractWrite (s : State) (r : List Nat) : State :=
  if r.length = 16 then
    let (s, res) := s.recWrite r 2
    s.put Reg.CAP_CT_RES res
  else s

/-- CONTRACT_WRITE (R194). -/
def execContractWrite (t : Edges) (r : List Byte) (s : State) : Host.Outcome State Fault Refusal :=
  hostWrite t s fun s => s.contractWrite (r.map BitVec.toNat)

/-- R183: the state of a grant: FREE, STAGED until its first allocation, OPEN. -/
def State.grantState (s : State) (i : Nat) : Nat :=
  let c := s.ct i
  if s.ctOpen i then (if c.allocated then 2 else 1)
  else if c.staged.isSome && s.shadAt Reg.CAP_CT_REC (16 * i) == 1 then 1
  else 0

/-- p_g of a group. -/
def State.pq (s : State) (g : Nat) : Nat := s.regAt Reg.CAP_PQ g

/-- R183: the 12 bytes of a grant record. -/
def State.grantBytes (s : State) (i : Nat) : List Nat :=
  let c := s.ct i
  let g := s.ctGroup i
  let bit := fun (b : Bool) (k : Nat) => if b then 2 ^ k else 0
  let flags := s.grantState i + bit c.short 2 + bit (s.pq g != 0) 3 + bit c.hold 4 + bit (bitOf (s.reg Reg.CAP_CT_UNREACH) i) 5
  [i, flags, s.recByte i 3 % 64, s.pq g] ++ natBytes 4 c.grant ++ natBytes 2 c.cyc ++ [s.recByte i 15, s.reg Reg.JRN_PCC % 256]

/-- GRANT_READBACK (R177): an ID above 127 is not acknowledged; the read that follows returns the contract's record. -/
def State.grantReadback (s : State) (id : Nat) : State :=
  if s.owner ∧ s.mode ≠ modeShadow ∧ id < 128 then
    { s with cap.readId := id, portS := { s.portS with sent := s.grantBytes id } }
  else s

def execGrantReadback (t : Edges) (id : Byte) (s : State) : Host.Outcome State Fault Refusal :=
  hostWrite t s fun s => s.grantReadback id.toNat

/-- R180: the groups' classes follow the open contracts; a group without one is not paused. -/
def State.groupsRefresh (s : State) : State :=
  let os := s.opens
  groupIds.foldl (fun s g =>
    let cs := (os.filter (fun i => s.ctGroup i == g)).map s.ctClass
    match cs with
    | [] => (s.putAt Reg.CAP_GCLS g 0).putAt Reg.CAP_PQ g 0
    | c :: cs => s.putAt Reg.CAP_GCLS g (4 + cs.foldl min c)) s

/-- R180: one staged record commits. -/
def State.ctCommit (s : State) (i : Nat) : State :=
  let c := s.ct i
  match c.staged with
  | none => s
  | some origin =>
    let r := s.recShadow i
    let was := s.ctOpen i
    let s := s.setCt i { c with staged := none }
    let s := (List.range 16).foldl (fun s j => s.putAt Reg.CAP_CT_REC (16 * i + j) (r.getD j 0)) s
    let s := s.sendContract i r
    if r.getD 0 0 = 1 then
      let s := (s.putBit Reg.CAP_CT_OPEN i true).putAt Reg.CAP_CT_ORIGIN i origin
      s.raise 0x2164 0 0x08 i (1 + 256 * origin)
    else if was then
      let c := s.ct i
      let s := s.setCt i { c with grant := 0, short := false, hold := false, allocated := false, closing := true }
      let s := ((s.putBit Reg.CAP_CT_OPEN i false).putBit Reg.CAP_CT_UNREACH i false).putAt Reg.CAP_CT_ORIGIN i 0
      s.raise 0x2164 0 0x08 i (2 + 256 * origin)
    else s

/-- R179: the staged contracts commit. -/
def State.contractsCommit (s : State) : State := (ctIds.foldl State.ctCommit s).groupsRefresh

/-- R179: the contracts of an image that comes into force: those of origin IMAGE are replaced, HOST and SLED ones are kept. -/
def State.contractImage (s : State) (i : Nat) : State :=
  let o := s.regAt Reg.CAP_CT_ORIGIN i
  let r := (List.range 16).map (fun j => fieldGet s.img.cfg Reg.CAP_CT_REC (16 * i + j))
  let give := r.getD 0 0 = 1
  if s.ctOpen i ∧ o ≠ 1 then s
  else if give then
    let s := (List.range 16).foldl (fun s j => s.putBoth Reg.CAP_CT_REC (16 * i + j) (r.getD j 0)) s
    (s.putBit Reg.CAP_CT_OPEN i true).putAt Reg.CAP_CT_ORIGIN i 1
  else if s.ctOpen i then
    let c := s.ct i
    let s := s.setCt i { c with grant := 0, short := false, hold := false, allocated := false, closing := true }
    ((s.putBit Reg.CAP_CT_OPEN i false).putBit Reg.CAP_CT_UNREACH i false).putAt Reg.CAP_CT_ORIGIN i 0
  else s

def State.contractsImage (s : State) : State := (ctIds.foldl State.contractImage s).groupsRefresh

/-- The mode capping works by: RUN or HOLDUP, its owner's in SHADOW; none where capping is off (R181). -/
def State.capMode (s : State) : Nat :=
  if s.isSet Reg.CAP_CTL_EN ∧ (s.mode = modeRun ∨ s.mode = modeHoldup ∨ s.mode = modeShadow) then s.workMode else modeTadpole

/-- R181: the bays counted in TRK_CAPI at its publication. -/
def State.capCount (s : State) : State :=
  { s with cap.counted := bayIds.foldl (fun m b => if s.avail b then m + 2 ^ b else m) 0 }

/-- R181: the ratings of the bays that have left since, in 100 mA. -/
def State.capLost (s : State) : Nat :=
  bayIds.foldl (fun n b =>
    let st := s.bst b
    if bitOf s.cap.counted b ∧ (st = bayAbsent ∨ st = bayPfc ∨ st = bayInrush ∨ st = bayFault)
    then n + s.regAt Reg.TRK_IRATE b else n) 0

/-- R181: the terms of the available power, in W. -/
def State.pBay (s : State) : Rat := ((s.reg Reg.TRK_CAPI - s.capLost : Nat) : Rat) * s.vsMv / 10000
def State.pFeed (s : State) : Rat :=
  let ok := (if s.reg Reg.HUP_FEEDST_A = feedQual then [s.reg Reg.CAP_FEEDW_A] else []) ++
    (if s.reg Reg.HUP_FEEDST_B = feedQual then [s.reg Reg.CAP_FEEDW_B] else [])
  let w := match ok with
    | [] => 0
    | a :: l => if s.isSet Reg.CAP_CTL_FEED2N then l.foldl min a else l.foldl (· + ·) a
  (s.reg Reg.CAP_EFF : Rat) / 1000 * (w : Nat)
def State.pBatt (s : State) : Rat := 3600 * s.eLowSum / (max 1 (s.reg Reg.CAP_HUPT) : Nat)
def State.pStr (s : State) : Rat :=
  sumQ ((strIds.filter (fun k => s.pg (8 + k))).map (fun k => ((s.regAt Reg.CAP_ISTR k : Nat) : Rat) * s.bv k / 10000))

/-- R181: P_avail in W, and the term that binds. -/
def State.pAvail (s : State) : Rat × Nat :=
  let d := (s.reg Reg.CAP_THDER : Rat) / 256
  if s.capMode = modeRun then (d * min s.pBay s.pFeed - s.cap.chg, if s.pBay ≤ s.pFeed then 0 else 1)
  else if s.capMode = modeHoldup then (d * min s.pBatt s.pStr, 2)
  else (0, 3)

/-- R181: the registers of the available power, and a change of what binds. -/
def State.capShow (s : State) : State :=
  let (p, src) := s.pAvail
  let s := ((s.putSat Reg.CAP_PAVAIL (toUnitNat p)).putSat Reg.CAP_PBAY (toUnitNat s.pBay)).putSat Reg.CAP_PFEED (toUnitNat s.pFeed)
  let s := (s.putSat Reg.CAP_PBATT (toUnitNat s.pBatt)).putSat Reg.CAP_PSTR (toUnitNat s.pStr)
  let s := (s.putSat Reg.CAP_PCHG (toUnitNat s.cap.chg)).putB Reg.CAP_SRC_THERM (src != 3 && s.reg Reg.CAP_THDER != 256)
  if s.reg Reg.CAP_SRC_SOURCE = src then s
  else ((s.put Reg.CAP_SRC_SOURCE src).flag Reg.CAP_FLAGS_LIMIT).raise 0x2168 1 0x08 src (s.reg Reg.CAP_PAVAIL)

/-- The grants of an allocation under way: contract and watts. -/
abbrev Grants := List (Nat × Nat)

/-- The grant of a contract in a list. -/
def grantOf (g : Grants) (i : Nat) : Nat := ((g.find? (fun p => p.1 == i)).map (fun p => p.2)).getD 0

/-- R182: the minimums, class by class: the grants, what is left, and the first class not given its minimums in full. -/
def State.minimums (s : State) (pool : Rat) : Grants × Rat × Option Nat :=
  [0, 1, 2, 3].foldl (fun (acc : Grants × Rat × Option Nat) cls =>
    let (g, pool, short) := acc
    let cs := s.opens.filter (fun i => s.ctClass i == cls)
    let need : Nat := (cs.map s.ctPmin).foldl (· + ·) 0
    if (need : Rat) ≤ pool then (g ++ cs.map (fun i => (i, s.ctPmin i)), pool - need, short)
    else (g ++ cs.map (fun i => (i, (pool * s.ctPmin i / need).floor.toNat)), 0, if short.isSome then short else some cls))
    ([], pool, none)

/-- R182: one class raised towards its requests by weight: its grants, what is left, and whether every one is full. The fuel is
the number of contracts left, of which each round fills one or more. -/
def State.byWeight (s : State) : Nat → List Nat → Grants → Rat → Grants × Rat × Bool
  | 0, _, g, pool => (g, pool, true)
  | k + 1, set, g, pool =>
    if set = [] then (g, pool, true)
    else if pool < 1 then (g, pool, false)
    else
      let wsum := (set.map s.ctWeight).foldl (· + ·) 0
      let unit := pool / (max 1 wsum : Nat)
      let need := fun i => s.ctPreq i - grantOf g i
      let full := set.filter (fun i => decide ((need i : Rat) ≤ unit * s.ctWeight i))
      let add := fun (f : Nat → Nat) (on : List Nat) => g.map (fun p => if on.contains p.1 then (p.1, p.2 + f p.1) else p)
      if full = [] then
        let inc := fun i => (unit * s.ctWeight i).floor.toNat
        (add inc set, pool - ((set.map inc).foldl (· + ·) 0 : Nat), false)
      else
        s.byWeight k (set.filter (fun i => !full.contains i)) (add need full) (pool - ((full.map need).foldl (· + ·) 0 : Nat))

/-- R182: the requests, class by class; a class that is not full stops the rest. -/
def State.requests (s : State) (g : Grants) (pool : Rat) : Grants × Rat :=
  let r := [0, 1, 2, 3].foldl (fun (acc : Grants × Rat × Bool) cls =>
    let (g, pool, go) := acc
    if go then
      let set := s.opens.filter (fun i => s.ctClass i == cls && decide (grantOf g i < s.ctPreq i))
      s.byWeight (set.length + 1) set g pool
    else acc) (g, pool, true)
  (r.1, r.2.1)

/-- R182: the allocation: step 4 of R25. -/
def State.allocate (s : State) : State :=
  if s.capMode = modeRun ∨ s.capMode = modeHoldup then
    let pool := max 0 (s.pAvail.1 - s.reg Reg.CAP_BASE)
    let (g, left, short) := s.minimums pool
    let (g, left) := s.requests g left
    let s := g.foldl (fun s (p : Nat × Nat) =>
      let c := s.ct p.1
      s.setCt p.1 { c with grant := p.2, short := decide (p.2 < s.ctPmin p.1), hold := s.capMode == modeHoldup,
                           cyc := s.reg Reg.WHL_CYC % 65536, allocated := true }) s
    let s := (s.putSat Reg.CAP_UNALLOC (toUnitNat left)).putSat Reg.CAP_GSUM ((g.map (fun p => p.2)).foldl (· + ·) 0)
    match short with
    | none => { s with cap.shortTold := false }
    | some cls =>
      let s := s.flag Reg.CAP_FLAGS_SHORT
      if s.cap.shortTold then s
      else { s with cap.shortTold := true }.raise 0x2160 3 0x08 (toUnitNat pool) (if cls = 0 then 0xFF else cls - 1)
  else s

/-- R181: the cycle average of the charge power closes at angle 0. -/
def State.closeCharge (s : State) : State :=
  if s.cap.chgN = 0 then s
  else { s with cap.chg := s.cap.chgAcc / s.cap.chgN, cap.chgAcc := 0, cap.chgN := 0 }

/-- Step 4 of R25. -/
def State.cappingStep (s : State) : State := if s.isSet Reg.CAP_CTL_EN then s.closeCharge.capCount.capShow.allocate else s.closeCharge.capCount

/-- The SHADOW fields of page 18. -/
def cappingShadow : List Field := Reg.page18.filter (fun f => f.cls == .shadow)

/-- R193: page 18 commits at angle 0, or its whole set is rejected. -/
def State.capCommit (s : State) : State :=
  let c := copyFields s.shad s.regs cappingShadow
  match checkCapping c with
  | none => { s with regs := c }
  | some (off, v) => ({ s with shad := copyFields s.regs s.shad cappingShadow }.flag Reg.CAP_FLAGS_REJECT).raise 0x2167 2 0x08 off v

/-- R184: a contract's record is due. -/
def State.grantDue (s : State) (i : Nat) : Bool :=
  let c := s.ct i
  let old := decide (s.reg Reg.CAP_REFRESH ≤ c.age)
  if s.ctOpen i && c.allocated then
    if bitOf (s.reg Reg.CAP_CT_UNREACH) i then old else c.said != some (c.grant, s.grantState i) || old
  else c.closing

/-- R184: the grant last said. -/
def State.saidGrant (s : State) (i : Nat) : Nat := match (s.ct i).said with | none => 0 | some (g, _) => g

/-- R184: the order of publication: decreases, the largest first, then no change, then increases; then by ID. -/
def State.pubBefore (s : State) (i j : Nat) : Bool :=
  let rank := fun k => let g := (s.ct k).grant; let o := s.saidGrant k; if g < o then 0 else if g = o then 1 else 2
  let drop := fun k => s.saidGrant k - (s.ct k).grant
  if rank i ≠ rank j then decide (rank i < rank j)
  else if drop i ≠ drop j then decide (drop j < drop i)
  else decide (i ≤ j)

/-- R184: a write failed after its attempts. -/
def State.grantFailed (s : State) (i : Nat) : State :=
  let c := s.ct i
  let s := (s.bump Reg.CAP_NACKCNT).portFlag .s 4
  let n := if c.failed then s.regAt Reg.CAP_CT_NACKS i else s.regAt Reg.CAP_CT_NACKS i + 1
  let gone := bitOf (s.reg Reg.CAP_CT_UNREACH) i
  let s := (s.setCt i { c with failed := true, age := if gone then 0 else c.age }).putAtSat Reg.CAP_CT_NACKS i n
  if s.reg Reg.CAP_NACKMAX ≤ n ∧ gone = false then
    let s := (s.putBit Reg.CAP_CT_UNREACH i true).flag Reg.CAP_FLAGS_UNREACH
    let c := s.ct i
    (s.setCt i { c with age := 0 }).raise 0x2165 3 0x08 i (s.recByte i 2)
  else s

/-- R184: the queue ends: its time from step 7 in 0.1 ms. -/
def State.queueEnd (s : State) : State :=
  if s.cap.queue = [] then s.putSat Reg.CAP_PUBLAG (max (s.reg Reg.CAP_PUBLAG) ((s.now - s.cap.queueAt) / (100 * edgeUs))) else s

/-- R184, R408: the publication queue of step 7; while the bus is stuck its writes count as failed. -/
def State.publish (s : State) : State :=
  let s := ctIds.foldl (fun s i =>
    let c := s.ct i
    if s.ctOpen i || c.closing then s.setCt i { c with age := c.age + 1, failed := false } else s) s
  if s.owner ∧ (s.capMode = modeRun ∨ s.capMode = modeHoldup) then
    let q := (ctIds.filter s.grantDue).mergeSort s.pubBefore
    if s.portS.backoff.isSome then { q.foldl State.grantFailed s with cap.queue := [] }
    else { s with cap.queue := q, cap.queueAt := s.now, cap.tries := 0, cap.arb := 0 }
  else { s with cap.queue := [] }

/-- R184: the record at the front was acknowledged. -/
def State.grantAcked (s : State) (i : Nat) : State :=
  let c := s.ct i
  let s := s.setCt i { c with said := if s.ctOpen i then some (c.grant, s.grantState i) else none, age := 0, closing := false }
  let s := (s.putAt Reg.CAP_CT_NACKS i 0).putBit Reg.CAP_CT_UNREACH i false
  (s.bump Reg.S_GWCNT).croakDone .s

/-- R406: an attempt was not acknowledged: up to 2 further attempts. -/
def State.grantNack (s : State) (i : Nat) (rest : List Nat) : State :=
  if s.cap.tries < 2 then { s with cap.tries := s.cap.tries + 1, cap.arb := 0 }
  else ({ s with cap.queue := rest, cap.tries := 0, cap.arb := 0 }.grantFailed i).queueEnd

/-- GRANT_WRITE (R184, R406, R407). -/
def State.grantWrite (s : State) (res : BusResult) : State :=
  match s.cap.queue with
  | [] => s
  | i :: rest =>
    if s.owner = false ∨ s.supUp = false then s
    else
      match res with
      | .acked => ({ s with cap.queue := rest, cap.tries := 0, cap.arb := 0 }.grantAcked i).queueEnd
      | .nack _ => s.grantNack i rest
      | .lostArb =>
        let s := s.bump Reg.S_ARBCNT
        if s.cap.arb < 7 then { s with cap.arb := s.cap.arb + 1 }
        else (s.raise 0x6240 3 0x11 1 (s.recByte i 2)).grantNack i rest

def execGrantWrite (t : Edges) (res : BusResult) (s : State) : Host.Outcome State Fault Refusal :=
  live t s fun s => s.grantWrite res

/-- R185: the tick average of P_out in W, and the charge power, at the close of a tick. -/
def State.closePower (s : State) : State :=
  let w := s.tlm
  let p := (if w.n = 0 then s.sup.rpTick * s.shelfMa else w.oAcc / w.n) / 1000000
  let c := (if w.n = 0 then s.chargeUw else w.cAcc / w.n) / 1000000
  { s with cap.ticks := (p :: s.cap.ticks).take 64, cap.chgAcc := s.cap.chgAcc + c, cap.chgN := s.cap.chgN + 1 }

/-- R185: P_cyc. -/
def State.pCyc (s : State) : Rat := meanQ s.cap.ticks

/-- R186: the groups in pause order: class 3 first, then descending number; only groups with open contracts. -/
def State.pauseOrder (s : State) : List Nat :=
  let gs := groupIds.reverse.filter (fun g => 4 ≤ s.regAt Reg.CAP_GCLS g)
  [3, 2, 1, 0].flatMap (fun c => gs.filter (fun g => s.regAt Reg.CAP_GCLS g % 4 == c))

/-- G_g: the sum of PREQ over the group's open contracts. -/
def State.groupPreq (s : State) (g : Nat) : Nat := ((s.opens.filter (fun i => s.ctGroup i == g)).map s.ctPreq).foldl (· + ·) 0

/-- R186: the walk over the groups: the new p_g, the excess left, and the first group changed with its q. -/
def State.escWalk (s : State) : List Nat → Rat → Option (Nat × Nat) → State × Rat × Option (Nat × Nat)
  | [], e, first => (s, e, first)
  | g :: gs, e, first =>
    let p := s.pq g
    let top := s.reg Reg.CAP_PMAX
    if e ≤ 0 then (s, e, first)
    else if top ≤ p then s.escWalk gs e first
    else
      let G := max 1 (s.groupPreq g)
      let q := min (top - p) (64 * e / (G : Nat)).ceil.toNat
      (s.putAt Reg.CAP_PQ g (p + q)).escWalk gs (e - (q * G : Nat) / 64) (if first.isNone then some (g, q) else first)

/-- R186: what an escalation that raised group `g` by `q` counts and records; `first` says that no group was paced before it. -/
def State.escalated (s : State) (none0 : Bool) (g q : Nat) : State :=
  let s := { s.bump Reg.CAP_ESCCNT with cap.still := 0 }
  if none0 then { s with cap.paced := 0 }.flag Reg.CAP_FLAGS_PACING |>.raise 0x2161 2 0x08 g q else s

/-- R186: an excess that is left when every group stands at its limit. -/
def State.escLeft (s : State) (left : Rat) : State :=
  if 0 < left then
    let s := s.flag Reg.CAP_FLAGS_EXHAUST
    if s.cap.exhausted then s
    else { s with cap.exhausted := true }.raise 0x2163 4 0x08 (toUnitNat left) (s.reg Reg.CAP_PAVAIL)
  else s

/-- R186: an escalation by an excess. -/
def State.escalate (s : State) (e : Rat) : State :=
  let none0 := groupIds.all (fun g => s.pq g == 0)
  let (s, left, first) := s.escWalk s.pauseOrder e none
  (match first with
    | none => s
    | some (g, q) => s.escalated none0 g q).escLeft left

/-- R187: a relief by the margin below the threshold. -/
def State.relieve (s : State) (h : Rat) : State :=
  match s.pauseOrder.reverse.find? (fun g => s.pq g != 0) with
  | none => s
  | some g =>
    let q := max 1 (64 * h / (max 1 (s.groupPreq g) : Nat)).floor.toNat
    let s := { (s.putAt Reg.CAP_PQ g (s.pq g - q)).bump Reg.CAP_RELCNT with cap.still := 0 }
    if groupIds.all (fun g => s.pq g == 0) then s.raise 0x2162 1 0x08 s.cap.paced (s.reg Reg.CAP_POUT) else s

/-- R186: the tick average is over the immediate margin; P_cyc over the margin; R187: P_cyc below the relief threshold. -/
def State.capFast (s : State) : Bool :=
  decide (s.pAvail.1 * (1 + (s.reg Reg.CAP_FASTMARG : Rat) / 1000) < s.cap.ticks.headD 0)
def State.capHigh (s : State) : Bool :=
  s.cap.run == 64 && decide (s.pAvail.1 * (1 + (s.reg Reg.CAP_ENFMARG : Rat) / 1000) < s.pCyc)
def State.relThreshold (s : State) : Rat := s.pAvail.1 * (1 - (s.reg Reg.CAP_RELHYS : Rat) / 1000)
def State.capLow (s : State) : Bool := s.cap.run == 64 && decide (s.pCyc < s.relThreshold)

/-- R186, R187: the counts of consecutive ticks. -/
def State.capCounts (s : State) : State :=
  let c := s.cap
  { s with cap := { c with high := if s.capHigh then c.high + 1 else 0, low := if s.capLow then c.low + 1 else 0,
                           exhausted := c.exhausted && (s.capHigh || s.capFast) } }

/-- R186, R187: what a tick decides; `held` while a p_g has changed in the last 64 ticks. -/
def State.enforceAct (s : State) (held : Bool) : State :=
  if s.capFast then s.escalate (s.cap.ticks.headD 0 - s.pAvail.1)
  else if s.capHigh && decide (s.reg Reg.CAP_ENFTICKS ≤ s.cap.high) && !held then s.escalate (s.pCyc - s.pAvail.1)
  else if s.capLow && decide (s.reg Reg.CAP_RELTICKS ≤ s.cap.low) && !held then s.relieve (s.relThreshold - s.pCyc)
  else s

/-- R185-R187: enforcement at a sharing tick. At the first tick of HOLDUP the hold of 64 ticks does not count (R192). -/
def State.enforce (s : State) : State :=
  let m := s.capMode
  let c := s.cap
  if m = modeRun ∨ m = modeHoldup then
    let clear := m == modeHoldup && c.mode != modeHoldup
    let s := { s with cap := { c with mode := m, run := min 64 (c.run + 1), still := min 64 (c.still + 1),
                                      paced := if groupIds.any (fun g => s.pq g != 0) then c.paced + 1 else c.paced } }
    let s := ((s.putSat Reg.CAP_POUT (toUnitNat s.pCyc)).capShow).capCounts
    s.enforceAct (decide (s.cap.still < 64) && !clear)
  else { s with cap := { c with mode := m, run := 0, high := 0, low := 0 } }.capShow

/-- R188, R58: the groups paused in the quantum that begins at a sharing tick of index `idx`. -/
def State.paceNow (s : State) (idx : Nat) : Nat :=
  let on := fun g =>
    if s.mode = modeTadpole then (g % 2 == 0) == decide (idx < 32)
    else if s.mode = modeLockout then false
    else decide ((idx + 64 - 4 * g) % 64 < s.pq g)
  groupIds.foldl (fun m g => if bitOf (s.reg Reg.CAP_GMASK) g && on g then m + 2 ^ g else m) 0

/-- R188: the boundary of a quantum decides afresh. -/
def State.paceTick (s : State) : State := { s with cap.pace := s.paceNow s.wheel.idx }

/-- R181, R192: every p_g becomes 0 and PACE is released. -/
def State.paceClear (s : State) : State :=
  groupIds.foldl (fun s g => s.putAt Reg.CAP_PQ g 0)
    { s with cap.high := 0, cap.low := 0, cap.exhausted := false, cap.still := 64 }

/-- The class of the acceptance before a group's return (R189). -/
def State.rcls (s : State) (g : Nat) : Nat := s.regAt Reg.CAP_RCLS (g / 2) / (if g % 2 = 0 then 1 else 16) % 8

/-- PACE_RETURN_ACCEPTANCE (R189): before the boundary at which PACE is released; not counted in STP_WACC. -/
def execPaceReturnAcceptance (t : Edges) (g : Fin 16) (s : State) : Host.Outcome State Fault Refusal :=
  live t s fun s =>
    let c := s.rcls g.val
    if 1 ≤ c ∧ c ≤ 4 ∧ s.mode ≠ modeTadpole ∧ bitOf s.cap.pace g.val ∧ bitOf (s.paceNow ((s.wheel.idx + 1) % 64)) g.val = false
    then s.warnActs c else s

end Sys2Proof.Machine
end

