-- ==== Sys2Proof/Machine/CalCheck.lean ====
section
/-! DEFINITION. The entries of the calendar, and what is accepted of them when a calendar comes into force (R44, R47). -/

namespace Sys2Proof.Machine

/-- R44: an entry. -/
structure CalEntry where
  angle : Nat
  action : Nat
  lockedOnly : Bool
  enable : Bool
  every : Nat
  arg : Nat
deriving DecidableEq, Repr

/-- R44: the 8 bytes of an entry. -/
def calEntry (v : Nat) : CalEntry :=
  { angle := v % 65536, action := v / 65536 % 8, lockedOnly := bitOf v 19, enable := bitOf v 23, every := v / 2 ^ 24 % 256,
    arg := v / 2 ^ 32 % 2 ^ 32 }

/-- Entry `e` of the active copy. -/
def State.cal (s : State) (e : Nat) : CalEntry := calEntry (s.regAt Reg.WHL_CAL_ENT e)

/-- R47: a WRITE may reach only one-byte LIVE fields, no PAGE register and none of `04:20`-`04:2F`; the bits outside its mask do
not count. -/
def calTargetOk (arg : Nat) : Bool :=
  let page := arg % 256
  let off := arg / 256 % 256
  let mask := arg / 2 ^ 24 % 256
  let fs := fieldsAt page off
  let hit := fun (f : Field) => mask == 0 || (mask >>> f.lsb) % 2 ^ f.width != 0
  off != 0xFF && !(page == 0x04 && decide (0x20 ≤ off ∧ off ≤ 0x2F)) && !fs.isEmpty &&
    fs.all (fun f => !hit f || (f.cls == Cls.live && f.nbytes == 1))

/-- R47: an enabled entry is accepted. -/
def calOk (x : CalEntry) : Bool := decide (x.action < 5) && (x.action != 1 || calTargetOk x.arg)

/-- R47: one entry at the commit. -/
def State.calValidate (s : State) (e : Nat) : State :=
  let v := s.regAt Reg.WHL_CAL_ENT e
  if (calEntry v).enable && !calOk (calEntry v) then
    ((s.putAt Reg.WHL_CAL_ENT e (setBit v 23 false)).flag Reg.WHL_FLAGS_CALBAD).raise 0x2047 2 0x01 e (v / 65536 % 256)
  else s

/-- R46, R47: the calendar in force from now on: its cycles are counted from this one, and every enabled entry is judged. -/
def State.calAdopt (s : State) : State :=
  let s := (List.range 256).foldl State.calValidate { s with wheel.c0 := s.reg Reg.WHL_CYC }
  { s with shad := copyFields s.regs s.shad (pageFields 0x04) }

end Sys2Proof.Machine
end

