-- ==== Sys2Proof/Machine/Telemetry.lean ====
section
/-! DEFINITION. Telemetry (R358, R359, R361) and the energy counters of the journal (R335), at step 1 of R25. -/

namespace Sys2Proof.Machine

/-- Telemetry window `k`. -/
def State.win (s : State) (k : Nat) : TlmWin := if h : k < 4 then s.tlm.win[k] else TlmWin.reset
def State.setWin (s : State) (k : Nat) (w : TlmWin) : State := { s with tlm.win := s.tlm.win.setIfInBounds k w }

/-- R358: the tick averages, before the tick's sums are cleared: voltage in mV, current in mA and power in microwatts of the
shelf; then the bays' voltage, current and power; then the strings' voltage, current and temperature; then T_die. -/
def State.tickValues (s : State) : List Rat :=
  let w := s.tlm
  let u := s.sup
  let v := if u.rpN = 0 then s.rpMv else u.rpAcc / u.rpN
  let i := if w.n = 0 then (if s.shelfMa < 0 then 0 else s.shelfMa) else w.iAcc / w.n
  let p := if w.n = 0 then v * i else w.pAcc / w.n
  let bv := fun b => let y := s.bay b
    if y.vN = 0 then ((s.voutMv b (s.regAt Reg.TLM_RAW_VSB b) : Int) : Rat) else (y.vAcc : Rat) / y.vN
  let bi := fun b => let y := s.bay b
    if y.iN = 0 then s.imonSum b else y.iAcc / y.iN
  let bp := fun b => let y := s.bay b
    if y.vN = 0 then bv b * bi b else y.pAcc / y.vN
  let sv := fun k => let y := s.str k
    if y.tN = 0 then s.bv k else y.tvAcc / y.tN
  let si := fun k => let y := s.str k
    if y.tN = 0 then s.bi k else y.tiAcc / y.tN
  [v, i, p] ++ bayIds.map bv ++ bayIds.map bi ++ bayIds.map bp ++ strIds.map sv ++ strIds.map si
    ++ strIds.map (fun k => (s.strTemp k : Rat)) ++ [(s.sreg Reg.THM_DIE : Rat)]

/-- The tick's sums are cleared. -/
def State.tickClear (s : State) : State :=
  let s := bayIds.foldl (fun s b => let y := s.bay b; s.setBay b { y with pAcc := 0 }) s
  let s := strIds.foldl (fun s k => let y := s.str k; s.setStr k { y with tvAcc := 0, tiAcc := 0, tN := 0 }) s
  { s with tlm := { s.tlm with iAcc := 0, pAcc := 0, oAcc := 0, cAcc := 0, n := 0 } }

/-- Two lists of values added. -/
def addLists (a b : List Rat) : List Rat := if a.isEmpty then b else List.zipWith (· + ·) a b

/-- R335: energy in J carried over into whole Wh of a counter. -/
def State.energyAdd (s : State) (j : Rat) (f : Field) (rem : Rat) : State × Rat :=
  let t := rem + j
  let n := (t / 3600).floor.toNat
  (s.addTo f n, t - (3600 * n : Nat))

/-- R335: energy delivered to the bus and discharged by the strings over the tick that ends now. -/
def State.jrnEnergy (s : State) (v : List Rat) : State :=
  let dt : Rat := ((s.now - (s.win 0).since : Nat) : Rat) / edgeSec
  let dis := sumQ (strIds.map (fun k => let i := v.getD (35 + k) 0; if i < 0 then -i * v.getD (27 + k) 0 else 0)) / 1000000
  let (s, e) := s.energyAdd (v.getD 2 0 / 1000000 * dt) Reg.JRN_EOUT s.jrn.eOutRem
  let (s, d) := s.energyAdd (dis * dt) Reg.JRN_ESTR s.jrn.eStrRem
  { s with jrn.eOutRem := e, jrn.eStrRem := d }

/-- Ticks of a window's full length (R358). -/
def State.winLen (s : State) (k : Nat) : Nat :=
  match k with
  | 0 => 1
  | 1 => 64
  | 2 => 64 * s.n1
  | _ => 64 * 60 * s.n1

/-- Cycles after which window `k` closes. -/
def State.winCycles (s : State) (k : Nat) : Nat := (s.winLen k) / 64

/-- R358, R359: window `k` shows its averages; fields of bays and strings read 0 in TADPOLE. -/
def State.publishWin (s : State) (k : Nat) : State :=
  let w := s.win k
  let n : Rat := (max 1 w.ticks : Nat)
  let m := fun j => w.sums.getD j 0 / n
  let tad := s.mode == modeTadpole
  let cold := s.coldTadpole
  let s := s.putAt Reg.TLM_WCNT k (s.regAt Reg.TLM_WCNT k + 1)
  let s := if s.winLen k ≤ w.ticks then s.putAt Reg.TLM_Q_INCOMPLETE k 0 else s
  let s := (s.putAtB Reg.TLM_Q_SKEW k w.skew).putAtB Reg.TLM_Q_MODE k (decide (w.since ≤ s.core.modeAt))
  let s := (s.putAtB Reg.TLM_Q_TADPOLE k tad).putAtSat Reg.TLM_VBUS k (toUnitNat (m 0))
  let s := s.putAtSat Reg.TLM_ISHELF k (if cold then 0 else toUnitNat (m 1 / 100))
  let s := s.putAtSat Reg.TLM_PSHELF k (if cold then 0 else toUnitNat (m 2 / 1000000))
  let z := fun (q : Rat) => if tad then 0 else q
  let s := bayIds.foldl (fun s b =>
    ((s.putAtSat Reg.TLM_VBAY (8 * k + b) (toUnitNat (z (m (3 + b))))).sputAt Reg.TLM_IBAY (8 * k + b)
      (toUnit (z (m (11 + b) / 10)))).putAtSat Reg.TLM_PBAY (8 * k + b) (toUnitNat (z (m (19 + b) / 1000000)))) s
  let s := strIds.foldl (fun s j =>
    ((s.putAtSat Reg.TLM_VSTR (8 * k + j) (toUnitNat (z (m (27 + j))))).sputAt Reg.TLM_ISTR (8 * k + j)
      (toUnit (z (m (35 + j) / 10)))).sputAt Reg.TLM_TSTR (8 * k + j) (toUnit (z (m (43 + j))))) s
  let s := s.sputAt Reg.TLM_TDIE k (toUnit (m 51))
  s.setWin k { TlmWin.reset with since := s.now }

/-- R361: the telemetry export at each close of the 60 s window. -/
def State.tlmExport (s : State) : State :=
  if s.isSet Reg.REC_CFG_TLMLOG then
    s.raise 0x705B 0 0x10 (s.regAt Reg.TLM_VBUS 3 + 65536 * s.regAt Reg.TLM_ISHELF 3) (s.regAt Reg.TLM_PSHELF 3)
  else s

/-- One window takes the tick's values, and at angle 0 counts a cycle. -/
def State.winAdd (s : State) (v : List Rat) (zero : Bool) (k : Nat) : State :=
  let w := s.win k
  let w := { w with sums := addLists w.sums v, ticks := w.ticks + 1 }
  s.setWin k (if zero then { w with cycles := w.cycles + 1, skew := w.skew || s.wheel.skewed } else { w with skew := w.skew || s.wheel.skewed })

/-- A window of cycles closes at angle 0 once its cycles are complete. -/
def State.winClose (s : State) (k : Nat) : State :=
  if s.winCycles k ≤ (s.win k).cycles then
    let s := s.publishWin k
    if k = 3 then s.tlmExport else s
  else s

/-- Step 1 of R25 for telemetry. -/
def State.telemetryTick (s : State) (zero : Bool) : State :=
  let v := s.tickValues
  let s := (s.jrnEnergy v).tickClear
  let s := [0, 1, 2, 3].foldl (fun s k => s.winAdd v zero k) s
  let s := s.publishWin 0
  if zero then [1, 2, 3].foldl State.winClose s else s

end Sys2Proof.Machine
end

