-- ==== Sys2Proof/Machine/Enter.lean ====
section
/-! DEFINITION. Entry to each mode, and what the blocks do at it (R57, R58, R61, R63, R73), giving up ownership of the outputs
(R370, R383, R384), and what an image that comes into force brings to the blocks. -/

namespace Sys2Proof.Machine

/-- What the blocks derive from the configuration that has come into force (R92, R112, R201, R222, R272). -/
def State.imageDerive (s : State) : State :=
  let s := bayIds.foldl State.deriveBay s.trimsInForce
  s.fusesImage.stringsImage.feedsConfigured

/-- TWN_STAT.ROLE (R387). -/
def State.roleShow (s : State) : State :=
  s.put Reg.TWN_STAT_ROLE
    (if s.twin.contest.isSome then 3 else if s.owner then (if s.isSet Reg.TWN_CFG_EN then 1 else 0) else 2)

/-- What the blocks do when a new image has come into force (R179, R310). -/
def State.imageHooks (s : State) : State := s.imageDerive.contractsImage.roleShow

/-- R371, R384: every shared net is released and ACTOUT falls; `back` where the chip may take the outputs back (R385). -/
def State.release (s : State) (trig : Nat) (back : Bool) : State :=
  let w := s.twin
  let s := { s with twin := { w with actOut := false, synced := false, contest := none, dualAt := none, gapSince := none,
                                     yieldAt := some s.now, back := back, t0 := none, resume := [] },
                    cap.queue := [], core.toTadpole := none }
  (((s.put Reg.GL_STAT_OWNER 0).put Reg.TWN_LASTTRIG trig).flag Reg.TWN_FLAGS_YIELD).roleShow

/-- SHADOW is entered: its first entry is the first presence of the strings already there (R73). -/
def State.enterShadow (s : State) (cause : Nat) : State := ({ s with core.toTadpole := none }.changeMode modeShadow cause).estFirst

/-- R383, R384: the owner yields: SHADOW at once from RUN and HOLDUP, and from TADPOLE with an image in force. -/
def State.yield (s : State) (trig : Nat) (back : Bool) : State :=
  if !s.owner then s
  else
    let s := s.release trig back
    let s :=
      if s.mode = modeRun ∨ s.mode = modeHoldup ∨ (s.mode = modeTadpole ∧ s.imgValid ∧ s.core.load.isNone) then s.enterShadow 0x0F
      else s
    s.raise 0x9101 5 0x14 trig s.mode

/-- R383: a standby in SHADOW whose frames are arriving. -/
def State.standbyThere (s : State) : Bool :=
  s.owner && s.isSet Reg.TWN_CFG_EN && s.isSet Reg.TWN_STAT_LINKUP &&
    (match s.twin.partner with | none => false | some f => f.mode.val == modeShadow)

/-- R61, R383: LOCKOUT: with a standby there the owner yields first; then every output is held off by level 2 of R26. -/
def State.enterLockout (s : State) (cause : Nat) : State :=
  if s.mode = modeLockout then (if cause = 0x0A then s.put Reg.GL_MODE_CAUSE cause else s)
  else
    let pass := s.standbyThere
    let s := if pass then s.release 2 false else s
    let s := { s with core.toTadpole := none, core.loadNext := none }.sagCloseAll
    let s := ((s.changeMode modeLockout cause).chargeStops).paceClear
    if pass then s.raise 0x9101 5 0x14 2 modeLockout else s

/-- R58: one bay at entry to TADPOLE: its shed is cleared; in service its lead phase conducts, by LEAP where it is WARM, and the
other phases go to WARM after its first pulse; a bay in STANDBY, DEEP or a tracker's LEAVE is brought in. -/
def State.tadpoleBay (s : State) (b : Nat) : State :=
  let s := s.clearShed b
  let s := s.bringIn b
  if s.inService b then
    let y := s.bay b
    let s := s.setBay b { y with strip := true, pendTrk := false }
    match s.lead b with
    | none => s
    | some n => if s.pst n = phWarm then s.leap n 32 else s
  else s

/-- R58: the reference at entry to TADPOLE: from the reference in force to 51.0 V at 1.0 V/ms; at a cold start it waits for the
first lead phase. -/
def State.tadpoleSet (s : State) : State :=
  let s := { s with core.tadReload := s.imgValid, sup.refSet := s.imgValid, sup.vPend := none }
  if s.imgValid && s.owner then s.moveTo .own 5100 100 0 else s

/-- R34: the wheel starts at the first entry to TADPOLE. -/
def State.wheelStart (s : State) : State :=
  let w := s.wheel
  if w.running then s else { s with wheel := { w with running := true, idx := 0, ptAt := s.now } }

/-- R58, R61, R63: TADPOLE is entered. -/
def State.enterTadpole (s : State) (cause : Nat) : State :=
  let k := s.core.loadNext
  let s := (s.ffClear.spTadpole).changeMode modeTadpole cause
  let s := { s with core.toTadpole := none, core.loadNext := none }
  let s := s.tadpoleSet.holdupTadpole.feedsConfigured
  let s := (bayIds.foldl State.tadpoleBay s).chargeStops.paceClear.wheelStart
  match k with
  | none => s
  | some k => s.loadStart k

/-- R57: GL_BOOT_TIME at the first exit from TADPOLE. -/
def State.markExit (s : State) : State :=
  let s := s.put Reg.GL_BOOT_STEP 6
  if s.core.exited then s else { s with core.exited := true }.putSat Reg.GL_BOOT_TIME (s.msSince s.core.porAt)

/-- R57, R117: at the exit every SHADOW set commits; the loop engine's at each bay's next period start. The other blocks' follow at
the commit steps of the same angle 0. -/
def State.exitCommits (s : State) : State :=
  if bitOf s.touched 0x12 || bitOf s.touched 0x13 then
    { s with touched := setBit (setBit s.touched 0x12 false) 0x13 false }.put Reg.LE_SHPEND 0xFF
  else s

/-- R57: RUN is entered from TADPOLE at angle 0. -/
def State.tadpoleToRun (s : State) : State :=
  let s := ((s.exitCommits.changeMode modeRun 0x02).markExit).estFirst
  let s := { s with sup := { s.sup with trkDone := false, cycIn := true } }
  let s := s.put Reg.HUP_STAT_STAGE stMains
  (s.moveTo .own (s.reg Reg.SHR_SPINIT) (s.reg Reg.SHR_SPRINIT) 0).eligRun false |>.runEntered

/-- R57: HOLDUP is entered from TADPOLE at angle 0. -/
def State.tadpoleToHoldup (s : State) : State :=
  let s := { s.exitCommits with sup.target := s.reg Reg.SHR_SPINIT * 10000 }
  let s := ((s.enterHoldup 0x03 false).markExit).estFirst
  bayIds.foldl (fun s b => if (s.bay b).ok then s else s.holdupBay b) s

/-- R57: the 9640 is not owner: SHADOW. -/
def State.tadpoleToShadow (s : State) : State := (s.exitCommits.enterShadow 0x01).markExit

/-- R57: the conditions of an exit from TADPOLE. -/
def State.exitReady (s : State) : Bool :=
  s.mode == modeTadpole && s.imgValid && s.isSet Reg.GL_STAT_XTALOK && !s.isSet Reg.GL_STAT_GECKO && s.core.load.isNone &&
    s.twin.contest.isNone

/-- R57: the exit is evaluated at angle 0. -/
def State.exitTest (s : State) : State :=
  if !s.exitReady then s
  else if !s.owner then s.tadpoleToShadow
  else if s.anyQualified then s.tadpoleToRun
  else
    match s.core.imgValidAt with
    | none => s
    | some t => if s.elapsed t edgeSec && s.stringPg then s.tadpoleToHoldup else s

/-- R62, R144, R282: LOCKOUT held every output off: at its end a switch that was closed or opening stands open, its owner asks
again, and a bay goes on from step 2 of R139. -/
def State.resumeFuse (s : State) (c : Nat) : State :=
  let st := s.fst c
  let s := if st = fusRamp ∨ st = fusSettle ∨ st = fusOn ∨ st = fusOpening then s.fusEnter c fusOff else s
  if 8 ≤ c ∧ s.fst c = fusOff ∧ (s.fuse c).want then s.fusClose c else s

/-- One bay when LOCKOUT is left. -/
def State.resumeBay (s : State) (b : Nat) : State :=
  let st := s.bst b
  if st = bayAbsent then (if (s.bay b).accepted then s.bayInserted b else s)
  else if st = bayEjected ∨ st = bayFault then s
  else
    let f := s.fuse b
    ((s.setFuse b { f with want := false }).bayStop b).toPfc b

/-- R61, R62: RESUME. -/
def State.resume (s : State) : State :=
  let s := (fuseIds.foldl (fun s c => if 8 ≤ c then s else s.resumeFuse c) s).enterTadpole 0x0D
  let s := fuseIds.foldl (fun s c => if 8 ≤ c then s.resumeFuse c else s) s
  bayIds.foldl State.resumeBay s

end Sys2Proof.Machine
end

