-- ==== Sys2Proof/Machine/Journal.lean ====
section
/-! DEFINITION. The commands of the journal and of operating time that need nothing else: the periodic records and the
compaction (R335, R337, R341). The start scan is in Machine/Images.lean, the power-fail warning in Machine/PowerFail.lean. -/

namespace Sys2Proof.Machine

/-- TRK_BAYSEC of the eight bays. -/
def State.baysecNow (s : State) : JPayload := .baysec ((List.range 8).map (s.regAt Reg.TRK_BAYSEC))

/-- The WEAR payload now (R335): the highest erase counts of the journal, FIRST, ROLL and the snapshots. -/
def State.wearNow (s : State) : JPayload :=
  .wear (s.reg Reg.JRN_ERS_J) (maxErase s.flash.erases 0x110 0x12F) (maxErase s.flash.erases 0x130 0x1AF)
    (s.reg Reg.JRN_ERS_SNAP)

/-- Append one record for each payload, in order. -/
def State.jAppendAll (s : State) (ps : List JPayload) : State := ps.foldl State.jAppend s

/-- JOURNAL_COUNTERS (R335): every JRN_CNTINT operating seconds. -/
def execJournalCounters (t : Edges) (s : State) : Host.Outcome State Fault Refusal :=
  live t s fun s =>
    if s.jrn.cntSec + s.reg Reg.JRN_CNTINT ≤ s.reg Reg.JRN_OPSEC then
      { s with jrn.cntSec := s.reg Reg.JRN_OPSEC }.jAppend s.countersNow
    else s

/-- JOURNAL_HOURLY (R335): BAYSEC and WEAR every 3,600 operating seconds. -/
def execJournalHourly (t : Edges) (s : State) : Host.Outcome State Fault Refusal :=
  live t s fun s =>
    if s.jrn.hourSec + 3600 ≤ s.reg Reg.JRN_OPSEC then
      { s with jrn.hourSec := s.reg Reg.JRN_OPSEC }.jAppendAll [s.baysecNow, s.wearNow]
    else s

/-- Steps 3 and 4 of R337 into an erased bank: one record of each value in force. -/
def fillBank (b : Bank) (seq : Nat) : List JPayload → Bank × Nat
  | [] => (b, seq)
  | p :: ps => fillBank (b.append (seq + 1) p) (seq + 1) ps

/-- R337: COMMIT is programmed and the new bank becomes active. -/
def State.compactDone (s : State) : State :=
  let b := 1 - s.reg Reg.JRN_STAT_BANK
  let gen := s.reg Reg.JRN_GEN + 1
  let (bank, seq) := fillBank { Bank.erased with gen := gen, blank := false } s.jrn.seq
    (s.jrn.values ++ [s.wearNow])
  let s := s.setBank b { bank with committed := true }
  let s := { s with jrn.compacting := none, jrn.seq := seq }
  let s := (((s.put Reg.JRN_STAT_BANK b).put Reg.JRN_GEN gen).put Reg.JRN_USED bank.next).put Reg.JRN_STAT_COMPACT 0
  let s := ((s.put Reg.JRN_STAT_FULL 0).bump Reg.JRN_COMPCNT).flag Reg.JRN_FLAGS_COMPACTED
  s.raise 0x7043 0 0x0F gen (s.reg Reg.JRN_ERS_J)

/-- R341: an erase failed; the compaction is abandoned and retried 60 s later. -/
def State.compactFailed (s : State) : State :=
  let b := 1 - s.reg Reg.JRN_STAT_BANK
  let s := { s with jrn.compacting := none, jrn.retryAt := some (s.now + 60 * edgeSec) }.put Reg.JRN_STAT_COMPACT 0
  ((s.bump Reg.JRN_FLERR).flag Reg.JRN_FLAGS_FLASHERR).raise 0x7041 5 0x0F (0x090000 + b * 0x40000) 1

/-- COMPACTION_DONE (R337): the erase's result decides. A power-fail warning has abandoned it (R341). -/
def execCompactionDone (t : Edges) (eraseOk : Bool) (s : State) : Host.Outcome State Fault Refusal :=
  live t s fun s =>
    if s.jrn.compacting = none ∨ s.supUp = false then s
    else if eraseOk then s.compactDone else s.compactFailed

/-- COMPACTION_RETRY (R341): 60 s after the failure. -/
def execCompactionRetry (t : Edges) (s : State) : Host.Outcome State Fault Refusal :=
  live t s fun s =>
    match s.jrn.retryAt with
    | none => s
    | some due => if due ≤ s.now then s.compactStart else s

end Sys2Proof.Machine
end

