-- ==== Sys2Proof/Machine/Images.lean ====
section
/-! DEFINITION. Images: uploads, loads, probation, pins, and the start scan of the journal that image selection waits for
(R302-R323, R331, R336, R339). -/

namespace Sys2Proof.Machine

/-- Byte `off` of page `p` from the active copies, for plain fields (R5). -/
def State.plainByte (s : State) (p off : Nat) : Nat :=
  (fieldsAt p off).foldl (fun v f =>
    match f.locate (fun g => s.reg g) off with
    | none => v
    | some (i, k) => v + f.byteOf (s.regAt f i) k) 0

/-- The fields an image sets: every RW field but the ship note, which lives in the VKA domain, and the contract
records, which follow R179 (R321, R70). -/
def configFields : List Field :=
  ((List.range 64).flatMap pageFields).filter (fun f => f.acc == .rw && f.place != Reg.GL_SHIPNOTE.place && f.place != Reg.CAP_CT_REC.place)

/-- Copy every instance of the given fields. -/
def copyAll (src dst : Cells) : List Field → Cells
  | [] => dst
  | f :: fs => copyAll src (copyInsts f src dst f.insts) fs

/-- R304, R321: every configuration field takes the image's value, in both copies, and the calendar counts from here (R47). -/
def State.applyCells (s : State) (c : Cells) : State :=
  { s with regs := copyAll c s.regs configFields, shad := copyAll c s.shad configFields }.calAdopt

/-- R310: at bay `b`'s period start the staged image's period-class fields of that bay come into force. -/
def State.takeImageBay (s : State) (b : Nat) : State :=
  match s.core.load, s.img.staged with
  | some l, some (_, c) =>
    if l.staged then
      let fs := configFields.filter (fun f => f.page = 0x10 || f.page = 0x11 || f.page = 0x12 || f.page = 0x13)
      { s with regs := fs.foldl (fun d f => copyBay f b c d) s.regs, shad := fs.foldl (fun d f => copyBay f b c d) s.shad }
    else s
  | _, _ => s

/-- R323: one pin written into its field. -/
def State.writePin (s : State) (p : Pinned) : State :=
  (List.range p.width).foldl (fun s k =>
    (fieldsAt p.page (p.off + k)).foldl (fun s f =>
      match f.locate (fun g => s.reg g) (p.off + k) with
      | none => s
      | some (i, j) => s.putAt f i (f.setByte (s.regAt f i) j (p.value / 256 ^ k % 256))) s) s

/-- The registers that show the pins (R324, R325). -/
def State.pinCount (s : State) : State := s.put Reg.IMG_PINCNT s.jrn.pins.length

/-- R323: pins of another version are dropped. -/
def State.dropPins (s : State) (ver : Nat) : State :=
  let n := s.jrn.pins.length
  if n ≠ 0 ∧ s.jrn.pins.any (fun p => p.ver != ver) then
    let s := (s.jAppend (.unpin 0xFF 0xFF)).pinCount.flag Reg.IMG_FLAGS_PIN
    s.raise 0x7321 1 0x0E n ver
  else s

/-- IMG_OTHVER and IMG_OTHRES follow the other slot (R324). -/
def State.refreshOther (s : State) : State :=
  let m := s.flash.slot s.otherSlot
  let v := if memReadBytes m 0 4 = [0x4B, 0x59, 0x52, 0x4E] then imgVersion m else 0
  (s.put Reg.IMG_OTHVER v).put Reg.IMG_OTHRES s.otherReason

/-- Slot number of IMG_STAT.SLOT: 0 A, 1 B. -/
def slotNo (b : Bool) : Nat := if b then 1 else 0

/-- R312: probation of the image that has come into force. -/
def State.beginProbation (s : State) : State :=
  let ver := s.reg Reg.IMG_VER
  let v := s.verdict ver
  if v = 2 then (s.put Reg.IMG_STAT_PROB 2).put Reg.GL_STAT_PROBATION 0
  else if v = 3 then (s.put Reg.IMG_STAT_PROB 3).put Reg.GL_STAT_PROBATION 0
  else
    let n := s.verdictCount ver
    let s := { s with img.probCount := n }
    let s := ((s.put Reg.IMG_STAT_PROB 1).put Reg.GL_STAT_PROBATION 1).put Reg.IMG_PROBLEFT (s.reg Reg.IMG_PROBT - n)
    let s := s.jAppend (.probation ⟨ver, 1, n⟩)
    s.raise 0x7003 1 0x0E ver (s.reg Reg.IMG_PROBT)

/-- R315: a revert completes. -/
def State.revertDone (s : State) : State :=
  match s.img.revertFrom with
  | none => s
  | some v => ({ s with img.revertFrom := none }.flag Reg.IMG_FLAGS_REVERT).raise 0x7006 3 0x0E v (s.reg Reg.IMG_VER)

/-- R310, R321, R323: the load ends: every block has the image, then the pins, and probation begins. -/
def State.loadEnd (s : State) : State :=
  match s.img.staged with
  | none => { s with core.load := none }.put Reg.IMG_STAT_LOADING 0
  | some (_, c) =>
    let s := { s with core.load := none, img.staged := none, img.cfg := c }.put Reg.IMG_STAT_LOADING 0
    let s := s.applyCells c
    let s := s.jrn.pins.foldl State.writePin s
    let s := { s with core.imgValidAt := if s.core.imgValidAt.isNone then some s.now else s.core.imgValidAt }
    let s := (s.put Reg.GL_STAT_IMGVALID 1).refreshOther
    s.imageHooks.beginProbation.revertDone

/-- R310: the image that passed: its identity shows at once, its pins are kept or dropped; at a cold start it comes into
force at once, otherwise it is staged for the bays' periods and the next angle 0. -/
def State.imageIn (s : State) (b : Bool) (d : ImgData) : State :=
  let s := ((s.put Reg.IMG_STAT_SLOT (slotNo b)).put Reg.IMG_VER d.ver).put Reg.IMG_IFLOOR d.floor
  let s := (s.put Reg.IMG_KEYSLOT d.key).put Reg.IMG_LENGTH d.len
  let s := { s with img.inForce := some (slotNo b, d.ver, d.floor, d.key, d.len), img.staged := some (slotNo b, d.cells) }
  let s := s.raise 0x7001 1 0x0E d.ver (slotNo b + 256 * (if s.verdict d.ver = 2 then 1 else 0))
  let s := s.dropPins d.ver
  if s.imgValid then { s with core.load := s.core.load.map (fun l => { l with staged := true }) } else s.loadEnd

/-- R309: a slot that failed its check. -/
def State.slotRejected (s : State) (b : Bool) (reason page : Nat) : State :=
  let p1 := if reason = 13 then page else imgVersion (s.flash.slot b)
  (s.flag Reg.IMG_FLAGS_INVALID).raise 0x7002 3 0x0E (slotNo b + 256 * reason) p1

/-- R308: the order in which READY slots are tried: the higher version first; equal ones, the slot in force, else A. -/
def State.slotOrder (s : State) : List Bool :=
  let ready := [false, true].filter s.flash.ready
  let va := imgVersion s.flash.slotA
  let vb := imgVersion s.flash.slotB
  let bFirst := decide (va < vb) || (va == vb && s.reg Reg.IMG_STAT_SLOT == 1)
  if ready.length = 2 ∧ bFirst then [true, false] else ready

/-- The slots a load of each kind tries (R308, R311, R315). -/
def State.loadSlots (s : State) (k : LoadKind) : List Bool :=
  match k with
  | .start => s.slotOrder
  | .reload => s.slotOrder
  | .revert => [s.otherSlot]
  | .probation => [s.otherSlot]
  | .digest => [s.reg Reg.IMG_STAT_SLOT == 1]

/-- R63: the new image failed: the outgoing one comes back into force with its image values, or none is in force. -/
def State.loadFailed (s : State) (last : Nat) (atStart : Bool) : State :=
  let s := { s with core.load := none, img.staged := none, img.revertFrom := none }.put Reg.IMG_STAT_LOADING 0
  let s := if s.imgValid then (s.jrn.pins.foldl State.writePin (s.applyCells s.img.cfg)).imageDerive else s.put Reg.GL_BOOT_STEP 7
  s.refreshOther.raise 0x7020 6 0x02 (if atStart then 0 else 1) last

/-- R308: the first slot that passes is loaded. -/
def State.tryslots (s : State) (atStart : Bool) : Nat → List Bool → State
  | last, [] => s.loadFailed last atStart
  | _, b :: bs =>
    match s.checkSlot b true with
    | .ok d => s.imageIn b d
    | .bad r p => (s.slotRejected b r p).tryslots atStart (slotNo b) bs

/-- IMAGE_CHECK_DONE (R310): the staged read and check are complete. -/
def execImageCheckDone (t : Edges) (s : State) : Host.Outcome State Fault Refusal :=
  live t s fun s =>
    match s.core.load with
    | none => s
    | some l => if l.staged || !s.supUp then s else s.tryslots (l.kind == .start) 3 (s.loadSlots l.kind)

/-- R316: the floor follows an image that passed its probation. -/
def State.raiseFloor (s : State) : State :=
  let want := s.reg Reg.IMG_IFLOOR
  if want ≤ s.otp.floor then s
  else if s.otp.floors.length < 16 then
    let s := { s with otp.floors := s.otp.floors ++ [want] }
    let s := ((s.put Reg.IMG_FLOOR want).put Reg.IMG_FLOORLEFT (16 - s.otp.floors.length)).flag Reg.IMG_FLAGS_FLOOR
    s.raise 0x7008 1 0x0E want (s.reg Reg.IMG_FLOORLEFT)
  else (s.flag Reg.IMG_FLAGS_FLOOR).raise 0x7009 4 0x0E want s.otp.floor

/-- The floor after R316. -/
def State.floorAfter (s : State) : Nat :=
  if s.otp.floors.length < 16 then max s.otp.floor (s.reg Reg.IMG_IFLOOR) else s.otp.floor

/-- R312: the version has passed. -/
def State.probationPassed (s : State) : State :=
  let ver := s.reg Reg.IMG_VER
  let s := s.jAppend (.probation ⟨ver, 2, s.img.probCount⟩)
  let s := ((s.put Reg.IMG_STAT_PROB 2).put Reg.GL_STAT_PROBATION 0).flag Reg.IMG_FLAGS_PROBEND
  (s.raise 0x7004 1 0x0E ver s.floorAfter).raiseFloor

/-- PROBATION_PASSED (R312): the count has reached IMG_PROBT. -/
def execProbationPassed (t : Edges) (s : State) : Host.Outcome State Fault Refusal :=
  live t s fun s =>
    if s.supUp ∧ s.reg Reg.IMG_STAT_PROB = 1 ∧ s.reg Reg.IMG_PROBT ≤ s.img.probCount then s.probationPassed else s

/-- R312: one operating second of probation, in RUN or in SHADOW; journalled every 60 s. -/
def State.probationSecond (s : State) : State :=
  if s.reg Reg.IMG_STAT_PROB = 1 ∧ (s.mode = modeRun ∨ s.mode = modeShadow) then
    let s := { s with img.probCount := s.img.probCount + 1 }
    let s := s.put Reg.IMG_PROBLEFT (s.reg Reg.IMG_PROBT - s.img.probCount)
    if s.img.probCount % 60 = 0 then s.jAppend (.probation ⟨s.reg Reg.IMG_VER, 1, s.img.probCount⟩) else s
  else s

/-- The descriptor registers (R342). -/
def State.bdRefresh (s : State) : State :=
  ((s.putB Reg.JRN_BDCOPY_C0 s.flash.bd0.isSome).putB Reg.JRN_BDCOPY_C1 s.flash.bd1.isSome).put Reg.JRN_BDSEQ
    (match s.flash.bootDesc with | none => 0 | some d => d.seq)

/-- R332: copy 1 is rewritten where copy 0 governs, else copy 0. -/
def Flash.zeroGoverns (f : Flash) : Bool :=
  match f.bd0, f.bd1 with
  | some a, some b => decide (b.seq ≤ a.seq)
  | some _, none => true
  | none, _ => false

/-- R332: a new descriptor, its sequence one higher, in the copy that does not govern. -/
def State.bdWrite (s : State) (d : BootDesc) : State :=
  let s := if s.flash.zeroGoverns then { s with flash.bd1 := some d }.eraseSectors 1 1
    else { s with flash.bd0 := some d }.eraseSectors 0 1
  s.bdRefresh

/-- R306, R332: a slot's READY mark, and its version at a CLOSE. -/
def State.markReady (s : State) (b ready : Bool) (ver : Option Nat) : State :=
  let d := (s.flash.bootDesc).getD ⟨0, false, false, 0, 0⟩
  let d := { d with seq := d.seq + 1 }
  let d := if b then { d with readyB := ready, verB := ver.getD d.verB } else { d with readyA := ready, verA := ver.getD d.verA }
  s.bdWrite d

/-- IMG_UPCMD with the right key, while the supervisor serves it. -/
def State.upCommand (s : State) (key : Byte) (f : State → State) : State :=
  if !s.supUp then s else if key = 0xA5 then f s else s.put Reg.IMG_UPRES 3

/-- R306: OPEN. -/
def State.uploadOpen (s : State) : State :=
  let st := s.reg Reg.IMG_UPST
  if (1 ≤ st ∧ st ≤ 3) ∨ s.isSet Reg.IMG_STAT_LOADING ∨ s.reg Reg.IMG_STAT_PROB = 1 ∨ s.isSet Reg.JRN_STAT_NOFLASH then
    s.put Reg.IMG_UPRES 2
  else
    let b := s.otherSlot
    let s := { s with img.upSlot := b, img.chunks := [], img.chunkNow := none }.markReady b false none
    ((s.put Reg.IMG_UPST 1).put Reg.IMG_UPRES 1).put Reg.IMG_STAT_UPOPEN 1

/-- UPLOAD_OPEN (R306). -/
def execUploadOpen (t : Edges) (key : Byte) (s : State) : Host.Outcome State Fault Refusal :=
  live t s fun s => s.upCommand key State.uploadOpen

/-- Replace the bytes of a slot. -/
def State.setSlot (s : State) (b : Bool) (m : Memory) : State :=
  if b then { s with flash.slotB := m } else { s with flash.slotA := m }

/-- UPLOAD_ERASE_DONE (R306): the slot is erased and open; journal records that waited are written (R341). -/
def execUploadEraseDone (t : Edges) (s : State) : Host.Outcome State Fault Refusal :=
  live t s fun s =>
    if s.reg Reg.IMG_UPST = 1 ∧ s.supUp ∧ s.jrn.powerFail = false then
      let s := (s.setSlot s.img.upSlot []).eraseSectors (if s.img.upSlot then 0x50 else 0x10) 64
      (s.put Reg.IMG_UPST 2).jDrain
    else s

/-- R307: a whole chunk: programmed at IMG_UPADDR, or ignored where the offset is not allowed. -/
def State.uploadChunk (s : State) (d : List Byte) : State :=
  let a := s.reg Reg.IMG_UPADDR
  if s.reg Reg.IMG_UPST ≠ 2 ∨ s.img.chunkNow.isSome ∨ d.length ≠ 128 ∨ s.supUp = false then s
  else if a % 128 ≠ 0 ∨ 262016 < a ∨ s.img.chunks.contains a then s.put Reg.IMG_UPRES 4
  else { s with img.chunkNow := some (a, d) }

/-- UPLOAD_CHUNK (R307). -/
def execUploadChunk (t : Edges) (d : List Byte) (s : State) : Host.Outcome State Fault Refusal :=
  live t s fun s => s.uploadChunk d

/-- R306, R307: an upload that failed. -/
def State.uploadFailed (s : State) (res : Nat) : State :=
  let s := (((s.put Reg.IMG_UPST 5).put Reg.IMG_UPRES res).put Reg.IMG_STAT_UPOPEN 0).flag Reg.IMG_FLAGS_UPLOAD
  s.raise 0x7031 3 0x0E (slotNo s.img.upSlot) (res + 256 * s.reg Reg.IMG_OTHRES)

/-- CHUNK_PROGRAMMED (R307): IMG_UPADDR advances; a program error ends the upload. -/
def execChunkProgrammed (t : Edges) (ok : Bool) (s : State) : Host.Outcome State Fault Refusal :=
  live t s fun s =>
    match s.img.chunkNow with
    | none => s
    | some (a, d) =>
      let s := { s with img.chunkNow := none }
      if ok then
        let s := s.setSlot s.img.upSlot (memWriteBytes (s.flash.slot s.img.upSlot) a d)
        { s with img.chunks := a :: s.img.chunks }.put Reg.IMG_UPADDR (a + 128)
      else ((s.bump Reg.JRN_FLERR).flag Reg.JRN_FLAGS_FLASHERR).uploadFailed 6

/-- R306: CLOSE: reasons 1 to 13; a slot that passes is marked READY. -/
def State.uploadClose (s : State) : State :=
  if s.reg Reg.IMG_UPST ≠ 2 ∨ s.img.chunkNow.isSome then s.put Reg.IMG_UPRES 2
  else
    let b := s.img.upSlot
    match s.checkSlot b false with
    | .ok d =>
      let s := s.markReady b true (some d.ver)
      let s := ((s.put Reg.IMG_UPST 4).put Reg.IMG_UPRES 1).put Reg.IMG_STAT_UPOPEN 0
      let s := ((s.put Reg.IMG_OTHVER d.ver).put Reg.IMG_OTHRES 0).flag Reg.IMG_FLAGS_UPLOAD
      s.raise 0x7030 1 0x0E (slotNo b) d.ver
    | .bad r _ => ((s.put Reg.IMG_OTHRES r).flag Reg.IMG_FLAGS_INVALID).uploadFailed 5

/-- UPLOAD_CLOSE (R306). -/
def execUploadClose (t : Edges) (key : Byte) (s : State) : Host.Outcome State Fault Refusal :=
  live t s fun s => s.upCommand key State.uploadClose

/-- R306: ABORT: the slot stays not READY. -/
def State.uploadAbort (s : State) : State :=
  let st := s.reg Reg.IMG_UPST
  if 1 ≤ st ∧ st ≤ 3 then
    let s := { s with img.chunkNow := none }
    (((s.put Reg.IMG_UPST 0).put Reg.IMG_UPRES 1).put Reg.IMG_STAT_UPOPEN 0).flag Reg.IMG_FLAGS_UPLOAD |>.jDrain
  else s.put Reg.IMG_UPRES 2

/-- UPLOAD_ABORT (R306). -/
def execUploadAbort (t : Edges) (key : Byte) (s : State) : Host.Outcome State Fault Refusal :=
  live t s fun s => s.upCommand key State.uploadAbort

/-- R322: a field that may be pinned, by its lowest offset: RW LIVE, reached through no window, no selector, and not in
pages 02, 1D, 1E, 30 and 31. Its width in bytes. -/
def pinnable (page off : Nat) : Option Nat :=
  let fs := fieldsAt page off
  if off = 0xFF ∨ page = 0x02 ∨ page = 0x1D ∨ page = 0x1E ∨ page = 0x30 ∨ page = 0x31 then none
  else if fs.isEmpty || !fs.all (fun f => f.acc == .rw && f.cls == .live && f.win == .none && !isSelector f) then none
  else if !fs.all (fun f => match f.at? off with | some (_, 0) => true | _ => false) then none
  else some ((fs.map Field.nbytes).foldl max 1)

/-- R322: a refused pin. -/
def State.pinRefused (s : State) (res : Nat) : State :=
  ((s.put Reg.IMG_PINRES res).flag Reg.IMG_FLAGS_PIN).raise 0x7322 2 0x0E
    (s.reg Reg.IMG_PINPAGE + 256 * s.reg Reg.IMG_PINOFS) res

/-- A pin of the field exists. -/
def State.pinned (s : State) (page off : Nat) : Bool := s.jrn.pins.any (fun p => p.page = page && p.off = off)

/-- R322: PIN. -/
def State.pinSet (s : State) : State :=
  let page := s.reg Reg.IMG_PINPAGE
  let off := s.reg Reg.IMG_PINOFS
  match pinnable page off with
  | none => s.pinRefused 2
  | some w =>
    if 4 < w then s.pinRefused 2
    else if !s.pinned page off && decide (24 ≤ s.jrn.pins.length) then s.pinRefused 3
    else
      let v := natOfBytes ((List.range w).map (fun k => s.plainByte page (off + k)))
      let s := (s.jAppend (.pin ⟨s.reg Reg.IMG_VER, page, off, w, v⟩)).pinCount.put Reg.IMG_PINRES 1
      s.raise 0x7320 0 0x0E (page + 256 * off) v

/-- R322: UNPIN. -/
def State.pinClear (s : State) : State :=
  let page := s.reg Reg.IMG_PINPAGE
  let off := s.reg Reg.IMG_PINOFS
  if s.pinned page off then ((s.jAppend (.unpin page off)).pinCount).put Reg.IMG_PINRES 1 else s.put Reg.IMG_PINRES 4

/-- R322: UNPIN ALL. -/
def State.pinClearAll (s : State) : State := ((s.jAppend (.unpin 0xFF 0xFF)).pinCount).put Reg.IMG_PINRES 1

/-- IMG_PINCMD with its key. -/
def State.pinCommand (s : State) (key : Byte) (f : State → State) : State :=
  if !s.supUp then s else if key = 0xA5 then f s else s.put Reg.IMG_PINRES 5

/-- PIN (R322). -/
def execPin (t : Edges) (key : Byte) (s : State) : Host.Outcome State Fault Refusal :=
  live t s fun s => s.pinCommand key State.pinSet

/-- UNPIN (R322). -/
def execUnpin (t : Edges) (key : Byte) (s : State) : Host.Outcome State Fault Refusal :=
  live t s fun s => s.pinCommand key State.pinClear

/-- UNPIN_ALL (R322). -/
def execUnpinAll (t : Edges) (key : Byte) (s : State) : Host.Outcome State Fault Refusal :=
  live t s fun s => s.pinCommand key State.pinClearAll

/-- R333: the active bank: committed, the higher generation. -/
def Flash.activeBank (f : Flash) : Option Nat :=
  match f.bank0.committed, f.bank1.committed with
  | true, true => some (if f.bank0.gen < f.bank1.gen then 1 else 0)
  | true, false => some 0
  | false, true => some 1
  | false, false => none

/-- R336: one record of the scan: a good one enters the mirror, a torn one is counted. -/
def State.scanRec (s : State) (r : JRec) : State :=
  if r.good then { s with jrn := { s.jrn.absorb r.body with seq := max s.jrn.seq r.seq } }
  else ((s.bump Reg.JRN_TORN).flag Reg.JRN_FLAGS_TORN).raise 0x7045 2 0x0F r.off s.jrn.seq

/-- The registers that show what the mirror holds (R335, R340, R342). -/
def State.mirrorShow (s : State) : State :=
  let s := match s.jrn.counters with
    | none => s
    | some (_, _, a, b) => (s.put Reg.JRN_EOUT a).put Reg.JRN_ESTR b
  let s := match s.jrn.baysec with
    | none => s
    | some v => (List.range 8).foldl (fun s b => s.putAt Reg.TRK_BAYSEC b ((v[b]?).getD 0)) s
  let s := match s.jrn.wear with
    | none => s
    | some (j, a, b, n) => ((s.put Reg.JRN_ERS_J j).put Reg.JRN_ERS_LOG (max a b)).put Reg.JRN_ERS_SNAP n
  s.wearRefresh.pinCount

/-- R339: no committed bank: bank 0 is made new. -/
def State.journalNew (s : State) : State :=
  let blank := s.flash.bank0.blank && s.flash.bank1.blank
  let c : JPayload := .counters 0 1 0 0
  let bank := ({ Bank.erased with gen := 1, blank := false }).append 1 c
  let s := (s.setBank 0 { bank with committed := true }).eraseSectors 0x90 64
  let s := { s with jrn := { s.jrn.absorb c with seq := 1 } }
  let s := (((s.put Reg.JRN_STAT_BANK 0).put Reg.JRN_GEN 1).put Reg.JRN_USED bank.next).put Reg.JRN_STAT_NEW 1
  (s.flag Reg.JRN_FLAGS_NEW).raise 0x7042 5 0x0F (if blank then 0 else 1) (s.reg Reg.JRN_PCC)

/-- R336: the mirror is built from the active bank, and appending resumes at the page after the last one in use. -/
def State.journalScan (s : State) (b : Nat) : State :=
  let bank := s.bank b
  let s := bank.recs.foldl State.scanRec s
  let next := (bank.next + 255) / 256 * 256
  let s := s.setBank b { bank with next := next }
  ((s.put Reg.JRN_STAT_BANK b).put Reg.JRN_GEN bank.gen).put Reg.JRN_USED next

/-- R332: where exactly one copy of the boot descriptor is valid, the other is rewritten from it. -/
def State.bdRepair (s : State) : State :=
  match s.flash.bd0, s.flash.bd1 with
  | some d, none => (({ s with flash.bd1 := some d }.eraseSectors 1 1).bdRefresh.flag Reg.JRN_FLAGS_DESC).raise 0x7047 2 0x0F 1 d.seq
  | none, some d => (({ s with flash.bd0 := some d }.eraseSectors 0 1).bdRefresh.flag Reg.JRN_FLAGS_DESC).raise 0x7047 2 0x0F 0 d.seq
  | _, _ => s

/-- LOCKOUT from GECKO or the lifecycle, in which no image is loaded (R54, R55). -/
def State.bootLockout (s : State) : Bool :=
  s.mode == modeLockout && (s.reg Reg.GL_MODE_CAUSE == 0x0A || s.reg Reg.GL_MODE_CAUSE == 0x10)

/-- JOURNAL_SCAN_DONE (R336): the mirror, a COUNTERS record, the descriptor's repair, and the load at start. -/
def State.scanDone (s : State) : State :=
  let s := match s.flash.activeBank with
    | none => s.journalNew
    | some b => s.journalScan b
  let s := { s with jrn.scanned := true }.mirrorShow
  let s := (s.jDrain.jAppend s.countersNow).bdRepair
  if s.bootLockout then s else (s.loadStart .start).put Reg.GL_BOOT_STEP 5

def execJournalScanDone (t : Edges) (s : State) : Host.Outcome State Fault Refusal :=
  live t s fun s =>
    if s.booted && !s.jrn.scanned && !s.isSet Reg.JRN_STAT_NOFLASH && s.supUp then s.scanDone else s

end Sys2Proof.Machine
end

