-- ==== Sys2Proof/Machine/Period.lean ====
section
/-! DEFINITION. A bay's period start: its length, its slot table and pulses, its balance trims, adds, sheds and releases
(R77-R91, R58, R140, R205). -/

namespace Sys2Proof.Machine

/-- The PWM frequency of bay `b` in kHz (R77); 200 kHz in TADPOLE (R58). -/
def State.bayKHz (s : State) (b : Nat) : Nat := if s.mode = modeTadpole then 200 else max 1 (s.regAt Reg.PH_FREQ b)

/-- The base offset of bay `b` (R81); b × 45° in TADPOLE (R58). -/
def State.bayBofs (s : State) (b : Nat) : Nat := if s.mode = modeTadpole then b * 8192 else s.regAt Reg.PH_BOFS b

/-- The duty clamp of bay `b` (R78); 0.800 in TADPOLE (R58). -/
def State.bayDmax (s : State) (b : Nat) : Nat := if s.mode = modeTadpole then 52429 else min 58982 (s.regAt Reg.PH_DMAX b)

/-- R77: the period that starts now: its length, with the fraction carried. -/
def State.newPeriod (s : State) (b : Nat) : State :=
  let y := s.bay b
  let f := s.bayKHz b
  let acc := y.frac % f + 6400000 % f
  let len := 6400000 / f + (if f ≤ acc then 1 else 0)
  s.setBay b { y with perAt := s.now, perLen := len, frac := if f ≤ acc then acc - f else acc,
                      hist := (s.imonSum b :: y.hist).take 8, ebArm := y.ebArm || !y.ebBad, ebBad := false, perCnt := y.perCnt + 1 }

/-- R81: the offset of the conducting phase with the `i`-th lowest index of `n`, in edge units. -/
def State.slotAt (s : State) (b i n : Nat) : Nat :=
  let T := (s.bay b).perLen
  let frac : Rat := (i * 65536 : Nat) / (max 1 n : Nat) + (s.bayBofs b : Nat)
  let frac := frac - (65536 * (frac / 65536).floor : Int)
  nearestNat (frac * T / 65536) % (max 1 T)

/-- The slot table of a bay: each conducting channel with its offset (R81). -/
def State.slotTable (s : State) (b : Nat) : List (Nat × Nat) :=
  let cs := s.conds b
  (cs.zip (List.range cs.length)).map (fun p => (p.1, s.slotAt b p.2 cs.length))

/-- R82: the shift that takes a phase towards its offset the shorter way round, at most T/8. -/
def slotShift (n T ofs want : Nat) : Int :=
  let fwd : Nat := (want + T - ofs % (max 1 T)) % (max 1 T)
  let up := if 2 * fwd = T then Config.pick n % 2 = 0 else 2 * fwd < T
  if up then min (fwd : Int) (T / 8 : Nat) else -(min ((T - fwd : Nat) : Int) (T / 8 : Nat))

/-- A phase moves towards its offset in the table in force; a phase whose first pulse is still to come stands there at once
(R82, R86). Its shift stands in `want` until the pulse is computed. -/
def State.slotMove (s : State) (p : Nat × Nat) : State :=
  let h := s.ph p.1
  let T := (s.bay (p.1 / 6)).perLen
  let d := slotShift p.1 T h.ofs p.2
  if h.first then s.setPh p.1 { h with ofs := p.2, want := p.2 }
  else s.setPh p.1 { h with ofs := (((h.ofs % (max 1 T) : Nat) : Int) + d + T).toNat % (max 1 T), want := p.2 }

/-- R82: RESPREAD reads until every phase stands at its offset. -/
def State.spreadDone (s : State) (b : Nat) : State :=
  if s.regAt Reg.PH_SHEDST b = 3 ∧ (s.slotTable b).all (fun p => (s.ph p.1).ofs == p.2) then s.putAt Reg.PH_SHEDST b 0 else s

/-- R82: the slot table in force at this period start; the shifts of the phases are kept for their on-times. -/
def State.respread (s : State) (b : Nat) : State × List (Nat × Int) :=
  let tab := s.slotTable b
  let T := (s.bay b).perLen
  let ds := tab.map (fun p => (p.1, if (s.ph p.1).first then 0 else slotShift p.1 T (s.ph p.1).ofs p.2))
  ((tab.foldl State.slotMove s).spreadDone b, ds)

/-- R80, R89: the balance target of a channel in mA. -/
def State.balTarget (s : State) (b n : Nat) : Rat :=
  let y := s.bay b
  let cnt := s.regAt Reg.PH_N b
  let sum := s.imonSum b
  if y.ramp.isSome ∧ 2 ≤ cnt then
    let q := s.victimTarget b
    if s.pst n = phRamp then q else (sum - q) / (cnt - 1 : Nat)
  else sum / (max 1 cnt : Nat)

/-- R80: the balance trims, centred, then limited. -/
def State.balance (s : State) (b : Nat) : State :=
  let cs := s.conds b
  let ki := (s.reg Reg.PH_BALKI : Rat) / 256
  let lim : Rat := (min (s.reg Reg.PH_BALMAX) 3277 : Nat)
  let raw := cs.map (fun n => (n, (s.ph n).bal + ki * (s.balTarget b n - (s.ph n).cur) / 1000))
  let m := meanQ (raw.map (fun p => p.2))
  raw.foldl (fun s p =>
    let v := clampRat (-lim) lim (p.2 - m)
    let h := s.ph p.1
    (s.setPh p.1 { h with bal := v }).sputAt Reg.PH_BAL p.1 (toUnit v)) s

/-- R89 steps 3 and 4: the ramp advances by a period, and the victim stops once it has ended; frozen while the supervisor is
down (R91). -/
def State.rampPeriod (s : State) (b : Nat) : State :=
  let y := s.bay b
  match y.ramp with
  | none => s
  | some (share, done) =>
    if s.supUp then
      let s := s.setBay b { y with ramp := some (share, done + 1) }
      let v := 6 * b + s.regAt Reg.PH_SHEDPH b
      if s.reg Reg.PH_SHEDRAMP ≤ done + 1 ∧ absQ (s.ph v).cur < (100 * s.reg Reg.PH_IZERO : Nat) then
        let y := s.bay b
        let s := (s.setBay b { y with ramp := none }).putAt Reg.PH_SHEDST b 0
        ((s.toWarm v).phRefresh b).bumpAt Reg.PH_SHEDCNT b
      else s
    else s

/-- R87: the trigger bits of the add conditions that hold now: 3 the threshold, 4 the tracker, 5 every present phase. -/
def State.addMask (s : State) (b : Nat) (shed : Bool) : Nat :=
  let n := s.regAt Reg.PH_N b
  let m3 := decide (1 ≤ n) && decide (n ≤ 5) && !s.fixedMode &&
    decide (((s.addLimit b n : Nat) : Rat) < meanQ (s.bay b).hist)
  let m4 := s.tracked && decide (n < s.regAt Reg.PH_NT b + (if shed then 1 else 0))
  (if m3 then 8 else 0) + (if m4 then 16 else 0) + (if s.fixedMode then 32 else 0)

/-- R87, R91: adds and abandons at a period start. -/
def State.addTest (s : State) (b : Nat) : State :=
  if s.phasesManaged && s.inService b then
    let st := s.regAt Reg.PH_SHEDST b
    if st = 1 ∨ st = 2 then
      let m := s.addMask b true
      let s := if bitOf m 3 then s.noteAbandon b 3 else s
      let s := if bitOf m 4 then s.noteAbandon b 4 else s
      s.doAbandon b
    else
      let m := s.addMask b false
      if m = 0 then s else s.addOne b m
  else s.doAbandon b

/-- R58: the phases other than the lead phase go to WARM at the first period start after its first pulse. -/
def State.stripBay (s : State) (b : Nat) : State :=
  let y := s.bay b
  match s.lead b with
  | none => s
  | some n =>
    if y.strip ∧ s.conducts n ∧ (s.ph n).first = false then
      let s := (s.setBay b { y with strip := false }).clearShed b
      (((s.conds b).filter (fun m => m != n)).foldl State.toWarm s).phRefresh b
    else s

/-- R58, R477: a bay in service with no phase conducting begins again with its lead phase, once it has one that is WARM. -/
def State.leadTest (s : State) (b : Nat) : State :=
  if s.inService b && (s.conds b).isEmpty && s.mode != modeLockout && !(s.mode == modeTadpole && !s.owner) then
    match s.lead b with
    | none => s
    | some n => if s.pst n = phWarm then s.leap n 32 else s
  else s

/-- R58: the lead phase's pulse is omitted while its latest IMON sample is above 1.20 V at the pin. -/
def State.tadLimited (s : State) (n : Nat) : Bool := s.mode == modeTadpole && decide (1200 < pinMv (s.regAt Reg.TLM_RAW_IMON n))

/-- R78, R79: the pulse of one conducting phase in this period, of length T + shift. -/
def State.pulse (s : State) (b : Nat) (n : Nat) (shift : Int) : State :=
  let y := s.bay b
  let h := s.ph n
  let len : Int := y.perLen + shift
  let dmax : Rat := (s.bayDmax b : Nat)
  let want := (y.lane.now : Rat) + h.bal
  let d := max 0 (min want dmax)
  let ton := nearestNat (d * len / 65536)
  let dead : Nat := s.regAt Reg.PH_DTR b + s.regAt Reg.PH_DTF b
  let room := (len - dead - (s.reg Reg.PH_TOFFMIN : Nat)).toNat
  let clamp := decide (dmax < want)
  let h := { h with clamp := clamp, first := false }
  let s := if clamp then s.putAt Reg.PH_PSTAT_CLAMP n 1 else s
  if s.tadLimited n then s.setPh n { h with ton := 0 }
  else if ton < s.reg Reg.PH_TMIN then
    (((s.setPh n { h with ton := 0 }).bumpAt Reg.PH_MINPULSE b).flag Reg.PH_EVT_FLAGS_MINPULSE)
  else if room < ton then
    (s.setPh n { h with ton := room }).putAtSat Reg.PH_DUTY n (toUnitNat ((room * 65536 : Nat) / (len : Rat)))
  else (s.setPh n { h with ton := ton }).putAtSat Reg.PH_DUTY n (toUnitNat d)

/-- R97: conduction time of a channel. -/
def State.condTime (s : State) (n len : Nat) : State :=
  let h := s.ph n
  let a := h.condAcc + len
  if edgeSec ≤ a then (s.setPh n { h with condAcc := a - edgeSec }).bumpAt Reg.PH_CONDSEC n
  else s.setPh n { h with condAcc := a }

/-- The pulses of the period: every conducting phase, none while the duty is overridden (R119). -/
def State.pulses (s : State) (b : Nat) (ds : List (Nat × Int)) : State :=
  if s.overridden b then (phaseIds b).foldl (fun s n => let h := s.ph n; s.setPh n { h with ton := 0 }) s
  else
    (s.slotTable b).foldl (fun s p =>
      let h := s.ph p.1
      let s := if h.first then s.setPh p.1 { h with ofs := p.2, want := p.2 } else s
      (s.pulse b p.1 (((ds.find? (fun d => d.1 == p.1)).map (fun d => d.2)).getD 0)).condTime p.1 (s.bay b).perLen) s

/-- The bay's lead phase conducts. -/
def State.leadOn (s : State) (b : Nat) : Bool :=
  match s.lead b with
  | none => false
  | some n => s.conducts n

/-- R58: the TADPOLE reference: set at the first period start at which a lead phase conducts, then slewed to 51.0 V at 1.0 V/ms. -/
def State.tadpoleRef (s : State) (b : Nat) : State :=
  if s.mode = modeTadpole ∧ s.owner ∧ s.sup.refSet = false ∧ s.leadOn b then
    let on := bayIds.filter s.pg
    let m := meanQ (on.map (fun c => ((s.voutMv c (s.regAt Reg.TLM_RAW_VSB c) : Int) : Rat)))
    ({ s with sup.refSet := true }.setVs (toUnitNat (m * 1000))).moveTo .own 5100 100 0
  else s

/-- R140: a leave completes at a period start with w_b at 0 and the current below SHR_IOFF. -/
def State.leaveTest (s : State) (b : Nat) : State :=
  if s.bst b = bayLeave ∧ (s.bay b).zeroAt.isSome ∧ absQ (s.imonSum b) < (100 * s.reg Reg.SHR_IOFF : Nat) then s.leaveDone b else s

/-- BAY_PERIOD_START (R78). -/
def State.periodStart (s : State) (b : Nat) : State :=
  let s := (s.takeImageBay b).newPeriod b
  let s := s.tadpoleRef b
  let s := (s.lanePeriod b).balance b
  let s := ((s.stripBay b).leaveTest b).leadTest b
  let r := s.respread b
  let s := ((r.1.rampPeriod b).addTest b).tryJoin b
  let s := (s.pulses b r.2).holdupBay b
  (s.placeTrigger b).outResumed b

def execBayPeriodStart (t : Edges) (b : Bay) (s : State) : Host.Outcome State Fault Refusal :=
  live t s fun s => s.periodStart b.val

end Sys2Proof.Machine
end

