-- ==== Sys2Proof/Machine/Drive.lean ====
section
/-! DEFINITION. What the shared output nets carry, by the precedence of R26: derived from the state, for no net is state of its
own. -/

namespace Sys2Proof.Machine

/-- A gate output over the period under way: hi-Z, low, or switching with the instants of its edges in edge units from the
period start. -/
inductive Gate where
  | hiZ | low | pulse (rise fall : Nat)
deriving DecidableEq, Repr

/-- A level output. -/
inductive Level where
  | hiZ | low | high
deriving DecidableEq, Repr

/-- R26 level 1: another chip owns the outputs, the contest of a start is under way (R371), or the chip is in SHIP or without
its supplies (R27). -/
def State.floats (s : State) : Bool :=
  !s.core.powered || s.core.shipStep == 5 || !s.owner || s.twin.contest.isSome || s.mode == modeShadow

/-- R26 level 2: the GECKO latch or LOCKOUT. -/
def State.shutDown (s : State) : Bool := s.isSet Reg.GL_STAT_GECKO || s.mode == modeLockout

/-- R384: an output of a takeover that has not resumed: bays 0-7, charge stages 8-15. -/
def State.resuming (s : State) (k : Nat) : Bool := s.twin.resume.contains k

/-- R26 level 3 for a charge stage or bay: the trip of its fuse channel. -/
def State.behindTrip (s : State) (c : Nat) : Bool := s.tripped c

/-- PWMA of channel `n` in the period under way (R79, R442): a test pattern overrides levels 5 and 6. -/
def State.pwmA (s : State) (n : Nat) : Gate :=
  let b := n / 6
  let h := s.ph n
  if s.floats || s.resuming b then .hiZ
  else if s.shutDown || s.behindTrip b then .low
  else match s.sec.pattern with
    | some (ch, d) => if ch = n then .pulse 0 (d * 32000 / 65536) else if s.conducts n && h.ton != 0 then .pulse h.ofs (h.ofs + h.ton) else .low
    | none => if s.conducts n && h.ton != 0 && !s.overridden b then .pulse h.ofs (h.ofs + h.ton) else .low

/-- PWMB of channel `n`: from PH_DTF after PWMA falls to PH_DTR before it rises; on throughout a period without a pulse; low
while the phase does not conduct (R79, R85). -/
def State.pwmB (s : State) (n : Nat) : Gate :=
  let b := n / 6
  let h := s.ph n
  let len := (s.bay b).perLen
  let dtr := s.reg Reg.PH_DTR
  let dtf := s.reg Reg.PH_DTF
  if s.floats || s.resuming b then .hiZ
  else if s.shutDown || s.behindTrip b then .low
  else match s.sec.pattern with
    | some (ch, d) => if ch = n then .pulse (d * 32000 / 65536 + dtf) (32000 - dtr) else .low
    | none =>
      if !s.conducts n || s.overridden b then .low
      else if h.ton = 0 then .pulse 0 len
      else .pulse (h.ofs + h.ton + dtf) (h.ofs + len - dtr)

/-- CHGA of string `k` (R218, R227). -/
def State.chgA (s : State) (k : Nat) : Gate :=
  let y := s.str k
  if s.floats || s.resuming (8 + k) then .hiZ
  else if s.shutDown || s.behindTrip (8 + k) || !y.pres || !y.driving then .low
  else .pulse 0 y.aFall

/-- CHGB of string `k` (R218, R227). -/
def State.chgB (s : State) (k : Nat) : Gate :=
  let y := s.str k
  if s.floats || s.resuming (8 + k) then .hiZ
  else if s.shutDown || s.behindTrip (8 + k) || !y.pres || !y.driving then .low
  else .pulse y.bRise y.perLen

/-- FG of channel `c`: high is ON (R272). -/
def State.fg (s : State) (c : Nat) : Level :=
  if s.floats then .hiZ
  else if s.shutDown || s.behindTrip c || (decide (8 ≤ c) && !(s.str (c - 8)).pres) then .low
  else if s.fusDriven c then .high else .low

/-- BAYEN of bay `b` (R138). -/
def State.bayEnOut (s : State) (b : Nat) : Level :=
  if s.floats then .hiZ else if s.shutDown then .low else if s.bayEn b then .high else .low

/-- PACE of group `g`: low is paused (R188). -/
def State.paceOut (s : State) (g : Nat) : Level :=
  if s.floats then .hiZ else if s.shutDown then .high else if bitOf s.cap.pace g then .low else .high

/-- HALERT_N: driven low while IC_TOP is not 0 (R419). -/
def State.halert (s : State) : Bool := s.core.powered && s.icTop != 0

end Sys2Proof.Machine
end

