-- ==== Sys2Proof/Machine/Log.lean ====
section
/-! DEFINITION. The recorder's commands on flash: flush batches into FIRST and ROLL, the start scan, reading the log, clearing
it, and the snapshots' slots (R347-R356, R474). -/

namespace Sys2Proof.Machine

/-- R350: a record of severity REC_FIRSTSEV or more goes into FIRST while it has an empty slot. -/
def State.toFirst (s : State) (r : EventRec) : State :=
  if r.sev < s.reg Reg.REC_FIRSTSEV ∨ 4096 ≤ s.flash.first.length then s
  else
    let s := { s with flash.first := s.flash.first ++ [r] }
    let s := s.put Reg.REC_FIRSTCNT s.flash.first.length
    if s.flash.first.length = 4096 then
      let s := (s.put Reg.REC_STAT_FIRSTFULL 1).flag Reg.REC_FLAGS_FIRSTFULL
      if s.log.firstFullRaised then s
      else { s with log.firstFullRaised := true }.raise 0x7052 3 0x10 (s.reg Reg.REC_EPOCH) r.seq
    else s

/-- Live records of ROLL. -/
def rollLive (l : List RollSlot) : Nat := (l.filter RollSlot.live).length

/-- R350: the oldest live record whose severity is no higher than `sev` is superseded; none where there is none. -/
def supersedeOldest (sev : Nat) : List RollSlot → Option (List RollSlot)
  | [] => none
  | r :: l =>
    if r.live && decide (r.ev.sev ≤ sev) then some ({ r with live := false } :: l)
    else (supersedeOldest sev l).map (r :: ·)

/-- Superseded slots of a sector of 128 slots. -/
def deadIn (l : List RollSlot) (k : Nat) : Nat := (l.filter (fun r => r.ix / 128 = k && !r.live)).length

/-- The records of sector `k` written back packed after its erase (R350). -/
def repack (k : Nat) : Nat → List RollSlot → List RollSlot
  | _, [] => []
  | n, r :: l =>
    if r.ix / 128 = k then (if r.live then { r with ix := k * 128 + n } :: repack k (n + 1) l else repack k n l)
    else r :: repack k n l

/-- R350: empty slots are made by erasing the sectors whose 128 slots are all superseded, or else the sector with the most
superseded slots (which of equals is a free choice). -/
def State.rollRoom (s : State) : State :=
  let l := s.flash.roll
  if l.length < 16384 then s
  else
    let dead := (List.range 128).filter (fun k => deadIn l k = 128)
    if dead ≠ [] then
      let s := { s with flash.roll := l.filter (fun r => !dead.contains (r.ix / 128)) }
      dead.foldl (fun s k => s.eraseSectors (0x130 + k) 1) s
    else
      let top := (List.range 128).foldl (fun m k => max m (deadIn l k)) 0
      let best := (List.range 128).filter (fun k => deadIn l k = top)
      let k := (best[Config.pick s.now % best.length]?).getD 0
      { s with flash.roll := repack k 0 l }.eraseSectors (0x130 + k) 1

/-- The first empty slot from `i` on, in ring order. -/
def emptySlot (l : List RollSlot) : Nat → Nat → Option Nat
  | _, 0 => none
  | i, n + 1 => if l.any (fun r => r.ix = i % 16384) then emptySlot l (i + 1) n else some (i % 16384)

/-- R350: a record that is not written to ROLL. -/
def State.rollDrop (s : State) (r : EventRec) : State :=
  let s := (s.bump Reg.REC_ROLLDROP).flag Reg.REC_FLAGS_ROLLDROP
  let due := match s.log.rollDropAt with
    | none => true
    | some t => decide (t + edgeSec ≤ s.now)
  if due then { s with log.rollDropAt := some s.now }.raise 0x7054 3 0x10 (s.reg Reg.REC_ROLLDROP) r.sev else s

/-- R350: every record goes into ROLL. -/
def State.toRoll (s : State) (r : EventRec) : State :=
  let room := if rollLive s.flash.roll < 16384 then some s.flash.roll else supersedeOldest r.sev s.flash.roll
  match room with
  | none => s.rollDrop r
  | some l =>
    let s := { s with flash.roll := l }.rollRoom
    let next := match s.flash.roll.getLast? with
      | none => 0
      | some q => q.ix + 1
    match emptySlot s.flash.roll next 16384 with
    | none => s
    | some i =>
      let s := { s with flash.roll := s.flash.roll ++ [({ ix := i, live := true, ev := r } : RollSlot)] }
      s.put Reg.REC_ROLLCNT (rollLive s.flash.roll)

/-- A record as a batch writes it: HELD where it waited longer than REC_AGEMAX (R345, R348). -/
def State.agedRec (s : State) (r : EventRec) : EventRec :=
  { r with held := decide (r.tm + s.reg Reg.REC_AGEMAX * edgeSec < s.now) }

/-- One record written to flash (R350). -/
def State.writeRec (s : State) (r : EventRec) : State := (s.toFirst (s.agedRec r)).toRoll (s.agedRec r)

/-- R348: the queue has fallen to 32 records or fewer after a drop. -/
def State.dropReport (s : State) : State :=
  if s.log.queue.length ≤ 32 ∧ s.log.dropped ≠ 0 then
    { s with log.dropped := 0, log.droppedSev := 0 }.raise 0x7053 4 0x10 s.log.dropped s.log.droppedSev
  else s

/-- R347: a batch has written its records in sequence order; a LOGPTR follows. -/
def State.batchDone (s : State) (upTo : Nat) : State :=
  let (out, rest) := s.log.queue.partition (fun r => r.seq ≤ upTo)
  let s := { s with log.queue := rest, log.batch := none }.put Reg.REC_STAT_FLUSHING 0
  let s := out.foldl State.writeRec s
  (s.dropReport.jAppend s.logptrNow).flushTrigger 0

/-- FLUSH_BATCH_DONE (R347). -/
def execFlushBatchDone (t : Edges) (s : State) : Host.Outcome State Fault Refusal :=
  live t s fun s =>
    match s.log.batch with
    | none => s
    | some n => if s.supUp then s.batchDone n else s

/-- FLUSH_AGE (R347): the oldest queued record is REC_AGEMAX seconds old. -/
def execFlushAge (t : Edges) (s : State) : Host.Outcome State Fault Refusal :=
  live t s fun s =>
    match s.log.queue with
    | [] => s
    | r :: _ =>
      if r.tm + s.reg Reg.REC_AGEMAX * edgeSec ≤ s.now then { s with log.flushReq := true }.flushKick else s

/-- REC_CMD with a wrong key (R364). -/
def recKeyOk (key : Byte) : Bool := key == 0xA5

/-- The FLUSH command of REC_CMD (R347); no byte is taken while the supervisor is down (R403). -/
def State.recFlush (s : State) (key : Byte) : State :=
  if !s.supUp then s
  else if recKeyOk key then { s with log.flushReq := true }.flushKick.put Reg.REC_CMDRES 1 else s.put Reg.REC_CMDRES 3

/-- FLUSH (R347). -/
def execFlush (t : Edges) (key : Byte) (s : State) : Host.Outcome State Fault Refusal := live t s fun s => s.recFlush key

/-- R353: a refused clear. -/
def State.clearRefused (s : State) (cmd res : Nat) : State :=
  (s.put Reg.REC_CMDRES res).raise 0x7057 2 0x10 cmd res

/-- R353: the clear commands; step 1 is a LOGPTR of the new epoch with every index 0. -/
def State.recClear (s : State) (all : Bool) (key : Byte) : State :=
  let cmd := if all then 2 else 1
  if !s.supUp then s
  else if !recKeyOk key then s.clearRefused cmd 3
  else if s.log.clear.isSome then s.clearRefused cmd 2
  else if !s.tokenScope 2 then s.clearRefused cmd 4
  else
    let c : ClearSt := ⟨all, s.reg Reg.REC_EPOCH, s.reg Reg.REC_FIRSTCNT, s.reg Reg.REC_ROLLCNT⟩
    let s := { s with log.clear := some c, log.batch := none }
    let s := ((s.put Reg.REC_CMDRES 1).put Reg.REC_STAT_CLEARING 1).put Reg.REC_STAT_FLUSHING 0
    s.jAppend (.logptr ⟨c.oldEpoch + 1, 0, 0, 0, 0, 0⟩)

/-- CLEAR_LOG (R353). -/
def execClearLog (t : Edges) (key : Byte) (s : State) : Host.Outcome State Fault Refusal :=
  live t s fun s => s.recClear false key

/-- CLEAR_ALL (R353). -/
def execClearAll (t : Edges) (key : Byte) (s : State) : Host.Outcome State Fault Refusal :=
  live t s fun s => s.recClear true key

/-- R353: steps 2 to 4: the erase is complete, event 0x7050 is record 1 of the new epoch, and a LOGPTR follows. -/
def State.clearDone (s : State) (c : ClearSt) : State :=
  let s := { s with flash.first := [], flash.roll := [], log.clear := none, log.firstFullRaised := false }
  let s := s.eraseSectors 0x110 160
  let s := if c.all then ({ s with flash.snaps := [] }.put Reg.REC_SNVALID 0).eraseSectors 0x1B0 128 else s
  let s := (((s.put Reg.REC_EPOCH (c.oldEpoch + 1)).put Reg.REC_LASTSEQ 0).put Reg.REC_FIRSTCNT 0).put Reg.REC_ROLLCNT 0
  let s := ((s.put Reg.REC_ROLLDROP 0).put Reg.REC_STAT_FIRSTFULL 0).put Reg.REC_SNNEXT 0
  let s := (s.raise 0x7050 3 0x10 c.oldEpoch (c.firstCount % 65536 + 65536 * (c.rollCount % 65536))).put Reg.REC_STAT_CLEARING 0
  let s := s.flag Reg.REC_FLAGS_CLEARED
  (s.jAppend s.logptrNow).flushKick

/-- CLEAR_ERASE_DONE (R353). -/
def execClearEraseDone (t : Edges) (s : State) : Host.Outcome State Fault Refusal :=
  live t s fun s =>
    match s.log.clear with
    | none => s
    | some c => if s.supUp then s.clearDone c else s

/-- SNAPSHOT (R354): the manual channel set, a host trigger. -/
def State.recSnapshot (s : State) (key : Byte) : State :=
  if !s.supUp then s
  else if recKeyOk key then (s.put Reg.REC_CMDRES 1).snapTrigger true 0 0 0 2 0 else s.put Reg.REC_CMDRES 3

def execSnapshot (t : Edges) (key : Byte) (s : State) : Host.Outcome State Fault Refusal :=
  live t s fun s => s.recSnapshot key

/-- The severity stored in a snapshot slot; none where it is empty or torn (R355). -/
def State.slotSev (s : State) (i : Nat) : Option Nat :=
  match s.flash.snaps.find? (fun x => x.ix = i && x.committed) with
  | none => none
  | some x => some x.snap.sev

/-- R355: the first slot in ring order after REC_SNNEXT that the new snapshot may take. -/
def State.snapSlot (s : State) (sev : Nat) : Option Nat :=
  ((List.range 32).map (fun k => (s.reg Reg.REC_SNNEXT + 1 + k) % 32)).find? (fun i =>
    match s.slotSev i with
    | none => true
    | some v => decide (v ≤ sev))

/-- The capture buffer `k` (R354). -/
def LogSt.cap (l : LogSt) (k : Fin 2) : Option Capture := if k = 0 then l.cap0 else l.cap1

/-- Replace capture buffer `k`. -/
def State.setCap (s : State) (k : Fin 2) (c : Option Capture) : State :=
  if k = 0 then { s with log.cap0 := c } else { s with log.cap1 := c }

/-- REC_STAT.SNBUSY: a snapshot is being captured or written (R364). -/
def State.snBusy (s : State) : State := s.putB Reg.REC_STAT_SNBUSY (s.log.cap0.isSome || s.log.cap1.isSome)

/-- R355: a captured snapshot is written to its slot with COMMIT last, or dropped where no slot qualifies. -/
def State.snapWritten (s : State) (k : Fin 2) (c : Capture) : State :=
  let s := (s.setCap k none).snBusy
  match s.snapSlot c.snap.sev with
  | none => s.snapDropped c.snap.code
  | some i =>
    let s := { s with flash.snaps := (s.flash.snaps.filter (fun (x : SnapSlot) => x.ix ≠ i)) ++ [({ ix := i, committed := true, snap := c.snap } : SnapSlot)] }
    let s := (s.put Reg.REC_SNNEXT i).putBit Reg.REC_SNVALID i true
    let s := (s.flag Reg.REC_FLAGS_SNAP).eraseSectors (0x1B0 + 4 * i) 4
    s.raise 0x7055 0 0x10 i c.snap.code

/-- SNAPSHOT_WRITTEN (R355): a complete capture, a flash, and no power-fail warning (a snapshot write is abandoned there). -/
def execSnapshotWritten (t : Edges) (k : Fin 2) (s : State) : Host.Outcome State Fault Refusal :=
  live t s fun s =>
    match s.log.cap k with
    | none => s
    | some c =>
      if c.done && s.supUp && !s.isSet Reg.JRN_STAT_NOFLASH && s.log.scanned && !s.jrn.powerFail then s.snapWritten k c else s

/-- R351: event 0x7059 for each slot with its magic and no COMMIT byte. -/
def State.tornSnaps (s : State) : State :=
  (s.flash.snaps.filter (fun x => !x.committed)).foldl (fun s x => s.raise 0x7059 2 0x10 x.ix 0) s

/-- R351, R474: the log index is rebuilt from the LOGPTR in force, or epoch 1 starts where the journal is new; a clear that
was under way is taken up again (whether it erases the snapshots the LOGPTR does not say: a free choice). -/
def State.logScan (s : State) : State :=
  let s := { s with log.scanned := true }
  let s := (s.put Reg.REC_FIRSTCNT s.flash.first.length).put Reg.REC_ROLLCNT (rollLive s.flash.roll)
  let s := s.putB Reg.REC_STAT_FIRSTFULL (decide (4096 ≤ s.flash.first.length))
  let s := s.put Reg.REC_SNVALID ((s.flash.snaps.filter SnapSlot.committed).foldl (fun v x => setBit v x.ix true) 0)
  let s := s.tornSnaps
  match s.jrn.logptr with
  | none =>
    let blank := s.flash.first.isEmpty && s.flash.roll.isEmpty
    (s.put Reg.REC_EPOCH 1).raise 0x7051 3 0x10 (if blank then 0 else 1) (s.reg Reg.REC_ROLLCNT)
  | some l =>
    let s := { s with log.firstFullRaised := decide (4096 ≤ s.flash.first.length) }
    let s := ((s.put Reg.REC_EPOCH l.epoch).put Reg.REC_ROLLDROP l.rollDropped).put Reg.REC_SNNEXT l.snNext
    if l.lastSeq = 0 then
      let s := { s with log.clear := some ⟨Config.pick 0 % 2 == 1, l.epoch - 1, s.reg Reg.REC_FIRSTCNT, s.reg Reg.REC_ROLLCNT⟩ }
      s.put Reg.REC_STAT_CLEARING 1
    else s

/-- LOG_SCAN_DONE (R351): after the journal scan, once; a flush that waited begins. -/
def execLogScanDone (t : Edges) (s : State) : Host.Outcome State Fault Refusal :=
  live t s fun s =>
    if s.booted && s.jrn.scanned && !s.log.scanned && !s.isSet Reg.JRN_STAT_NOFLASH then s.logScan.flushTrigger 0 else s

/-- R352: the record of a region with the lowest sequence at or above the cursor. -/
def lowestFrom (seq : Nat) (l : List EventRec) : Option EventRec :=
  l.foldl (fun best r =>
    if r.seq < seq then best
    else match best with
      | none => some r
      | some b => if r.seq < b.seq then some r else some b) none

/-- The records of a region of the log (R352): FIRST, ROLL, QUEUE. -/
def State.region (s : State) (n : Nat) : List EventRec :=
  match n with
  | 0 => s.flash.first
  | 1 => (s.flash.roll.filter RollSlot.live).map RollSlot.ev
  | 2 => s.log.queue
  | _ => []

/-- R352: the fetch of the window begins. -/
def State.logFetch (s : State) : State := { s with log.fetchAt := some s.now }.put Reg.REC_WST 2

/-- LOG_CURSOR_CHANGE (R352). -/
def execLogCursorChange (t : Edges) (region : Fin 4) (auto : Bool) (seq : BitVec 32) (s : State) :
    Host.Outcome State Fault Refusal :=
  hostWrite t s fun s =>
    (((s.put Reg.REC_CURREG_REGION region.val).putB Reg.REC_CURREG_AUTO auto).put Reg.REC_CURSEQ seq.toNat).logFetch

/-- LOG_FETCH_DONE (R352): REC_WST leaves 2, and REC_WSEQ shows the record's sequence. -/
def State.logFetched (s : State) : State :=
  match s.log.fetchAt with
  | none => s
  | some _ =>
    let s := { s with log.fetchAt := none }
    match lowestFrom (s.reg Reg.REC_CURSEQ) (s.region (s.reg Reg.REC_CURREG_REGION)) with
    | none => { s with log.winRec := none }.put Reg.REC_WST 1
    | some r => ({ s with log.winRec := some r }.put Reg.REC_WST 0).put Reg.REC_WSEQ r.seq

def execLogFetchDone (t : Edges) (s : State) : Host.Outcome State Fault Refusal := live t s State.logFetched

/-- LOG_WINDOW_READ (R352): reading byte 0x5F with AUTO set; the cursor moves at the transaction's stop. -/
def execLogWindowRead (t : Edges) (s : State) : Host.Outcome State Fault Refusal :=
  live t s fun s => if s.isSet Reg.REC_CURREG_AUTO then { s with log.advance := true } else s

/-- R352: at the stop, REC_CURSEQ becomes REC_WSEQ + 1. -/
def State.logAdvance (s : State) : State :=
  if s.log.advance then ({ s with log.advance := false }.put Reg.REC_CURSEQ (s.reg Reg.REC_WSEQ + 1)).logFetch else s

/-- The header of a snapshot slot, bytes 0 to 503 (R356). -/
def Snap.header (x : Snap) : List Nat :=
  let used := x.chans.filter (fun c => c ≠ 0xFF)
  [0x4B, 0x53, 0x4E, 0x50] ++ natBytes 4 x.seq ++ natBytes 2 x.code ++ [x.sev, x.kind] ++ natBytes 4 x.opsec ++
  natBytes 4 x.pcc ++ natBytes 2 x.angle ++ natBytes 4 x.cyc ++ [x.per, used.length] ++ x.chans.take 8 ++
  natBytes 2 (8000 / max 1 x.per) ++ natBytes 2 (2000 / max 1 x.per) ++ natBytes 4 x.ver ++ natBytes 2 x.folded ++
  List.replicate 458 0

/-- Bytes 512 to 16,383: twelve register images of 256 bytes, then the samples (R356); unprogrammed bytes read 0xFF. -/
def Snap.body (x : Snap) : List Nat :=
  let regs := x.pages.flatten
  let data := x.samples.flatMap (fun c => natBytes 2 c.toNat)
  let all := (regs ++ List.replicate (3072 - regs.length) 0xFF ++ data).take 15872
  all ++ List.replicate (15872 - all.length) 0xFF

/-- The 16,384 bytes of a committed slot (R356). -/
def Snap.bytes (x : Snap) : List Nat :=
  x.header ++ natBytes 4 (crc32 (x.header ++ x.body)) ++ [0xFF, 0xFF, 0xFF, 0xC3] ++ x.body

/-- R365: the 128 bytes of slot `i` from `ofs`; an empty slot reads erased. -/
def State.snapWindow (s : State) (i ofs : Nat) : List Nat :=
  match s.flash.snaps.find? (fun x => x.ix = i) with
  | none => List.replicate 128 0xFF
  | some x =>
    let b := (x.snap.bytes.drop ofs).take 128
    b ++ List.replicate (128 - b.length) 0xFF

/-- SNAPSHOT_WINDOW_CHANGE (R365). -/
def execSnapshotWindowChange (t : Edges) (slot : Fin 32) (ofs : Code) (s : State) : Host.Outcome State Fault Refusal :=
  hostWrite t s fun s =>
    { (s.put Reg.REC_SNSLOT slot.val).put Reg.REC_SNOFS ofs.toNat with log.snFetchAt := some s.now }

/-- SNAPSHOT_FETCH_DONE (R365). -/
def State.snapFetched (s : State) : State :=
  match s.log.snFetchAt with
  | none => s
  | some _ => { s with log.snFetchAt := none, log.snWin := s.snapWindow (s.reg Reg.REC_SNSLOT) (s.reg Reg.REC_SNOFS) }

def execSnapshotFetchDone (t : Edges) (s : State) : Host.Outcome State Fault Refusal := live t s State.snapFetched

end Sys2Proof.Machine
end

