-- ==== Sys2Proof/Machine/Security.lean ====
section
/-! DEFINITION. The security block's commands: lifecycle, keys, nonces and tokens, debug levels, the halt, the test pattern
and boundary scan (R425-R443). -/

namespace Sys2Proof.Machine

/-- SEC_KEYST shows the four slots' states (R427, R444). -/
def KeyState.code : KeyState → Nat
  | .empty => 0
  | .active => 1
  | .revoked => 2
  | .fault => 3

/-- SEC_KEYST follows the OTP slots. -/
def State.keyRefresh (s : State) : State :=
  s.put Reg.SEC_KEYST ((s.otp.keys.toList.map (fun k => k.st.code)).foldr (fun v n => v + 4 * n) 0)

/-- R426: a refused command. -/
def State.secRefuse (s : State) (cmd res : Nat) : State := (s.put Reg.SEC_CMDRES res).raise 0x8122 2 0x13 cmd res

/-- R426: an accepted command. -/
def State.secAccept (s : State) : State := s.put Reg.SEC_CMDRES 1

/-- R426: the frame of every command: the key, then lifecycle and mode, then authority, then the effect. On port H no byte
is taken while the supervisor is down (R403); the debug port ends a halt. The debug port takes 0x20 to 0x23 alone, under
CONTROL; its other writes are discarded (R434). -/
def State.secCommand (s : State) (c : SecCmd) (cmd : Nat) (state auth : Bool) (f : State → State) : State :=
  if s.supUp = false ∧ ¬(c.port = .d ∧ s.isSet Reg.SEC_DBGLVL_HALT) then s
  else if c.port = .s ∨ (c.port = .d ∧ ¬(s.reg Reg.SEC_DBGLVL_LEVEL = 2 ∧ 0x20 ≤ cmd ∧ cmd ≤ 0x23)) then s
  else if c.key ≠ 0xA5 then s.put Reg.SEC_CMDRES 3
  else if !state then s.secRefuse cmd 2
  else if !auth then s.secRefuse cmd 4
  else f s

/-- The debug port holds a CONTROL session (R426). -/
def State.control (s : State) (c : SecCmd) : Bool := c.port == .d && s.reg Reg.SEC_DBGLVL_LEVEL == 2

/-- R425: the lifecycle words programmed; `now` where the state is in force at once. -/
def State.setLifecycle (s : State) (lc : Nat) (atOnce : Bool) : State :=
  let old := s.lifecycle
  let s := { s with otp.lifecycle := lc }
  let s := if atOnce then s.put Reg.SEC_LC lc else s
  let s := ((s.secAccept).flag Reg.SEC_FLAGS_LIFECYCLE).raise 0x8130 3 0x13 old (lc + (if atOnce then 0 else 256))
  if atOnce then s.judgeSession s.mode 3 else s

/-- A slot is ACTIVE. -/
def Otp.hasActive (o : Otp) : Bool := o.keys.toList.any (fun k => k.st == .active)

/-- Another slot than `k` is ACTIVE. -/
def Otp.otherActive (o : Otp) (k : Nat) : Bool :=
  (List.range 4).any (fun j => j != k && (o.activeKey j).isSome)

/-- Replace key slot `k`. -/
def State.setKey (s : State) (k : Nat) (v : KeySlot) : State :=
  { s with otp.keys := s.otp.keys.setIfInBounds k v }.keyRefresh

/-- The 64 staged key bytes (R444). -/
def State.keyStaged (s : State) : List Byte := (List.range 64).map (fun i => BitVec.ofNat 8 (s.regAt Reg.SEC_KEYSTG i))

/-- R426: KEYPROG into slot `k`. -/
def State.keyProg (s : State) (k : Nat) : State :=
  match s.otp.keys.toList[k]? with
  | some ⟨.empty, _⟩ =>
    if Config.onCurve s.keyStaged then
      let s := s.setKey k ⟨.active, s.keyStaged⟩
      (s.secAccept.flag Reg.SEC_FLAGS_KEY).raise 0x8120 2 0x13 k s.lifecycle
    else s.secRefuse 0x10 5
  | _ => s.secRefuse 0x10 5

/-- R426, R432: REVOKE slot `k`; a token of that slot ends. -/
def State.keyRevoke (s : State) (k : Nat) : State :=
  match s.otp.keys.toList[k]? with
  | none => s.secRefuse 0x11 5
  | some old =>
    if k = s.reg Reg.IMG_KEYSLOT ∨ s.otp.otherActive k = false then s.secRefuse 0x11 5
    else
      let s := s.setKey k ⟨.revoked, old.key⟩
      let s := (s.secAccept.flag Reg.SEC_FLAGS_KEY).raise 0x8121 3 0x13 k (s.reg Reg.IMG_KEYSLOT)
      match s.sec.token with
      | none => s
      | some t => if t.slot = k then s.endToken 5 else s

/-- PROVISION (R426). -/
def State.secProvision (s : State) (c : SecCmd) : State :=
  s.secCommand c 0x01 (s.lifecycle == 0 && s.mode == modeLockout && s.otp.hasActive) true (fun s => s.setLifecycle 1 false)

def execProvision (t : Edges) (c : SecCmd) (s : State) : Host.Outcome State Fault Refusal := live t s fun s => s.secProvision c

/-- DEPLOY (R426). -/
def State.secDeploy (s : State) (c : SecCmd) : State :=
  s.secCommand c 0x02 (s.lifecycle == 1 && s.mode != modeHoldup) (s.tokenScope 4) (fun s => s.setLifecycle 2 true)

def execDeploy (t : Edges) (c : SecCmd) (s : State) : Host.Outcome State Fault Refusal := live t s fun s => s.secDeploy c

/-- RMA (R426). -/
def State.secRma (s : State) (c : SecCmd) : State :=
  s.secCommand c 0x03 ((s.lifecycle == 1 || s.lifecycle == 2) && s.mode == modeLockout) (s.tokenScope 3)
    (fun s => s.setLifecycle 3 false)

def execRma (t : Edges) (c : SecCmd) (s : State) : Host.Outcome State Fault Refusal := live t s fun s => s.secRma c

/-- KEYPROG (R426). -/
def State.secKeyprog (s : State) (c : SecCmd) : State :=
  s.secCommand c 0x10 ((s.lifecycle == 0 || s.lifecycle == 1) && (s.mode == modeLockout || s.mode == modeTadpole))
    (s.lifecycle == 0 || s.tokenScope 5) (fun s => s.keyProg c.arg.toNat)

def execKeyprog (t : Edges) (c : SecCmd) (s : State) : Host.Outcome State Fault Refusal := live t s fun s => s.secKeyprog c

/-- REVOKE (R426). -/
def State.secRevoke (s : State) (c : SecCmd) : State :=
  s.secCommand c 0x11 (s.mode != modeHoldup) (s.lifecycle == 0 || s.tokenScope 5) (fun s => s.keyRevoke c.arg.toNat)

def execRevoke (t : Edges) (c : SecCmd) (s : State) : Host.Outcome State Fault Refusal := live t s fun s => s.secRevoke c

/-- R442: the supervisor halts; its event is raised before it stops. -/
def State.doHalt (s : State) : State :=
  let s := s.secAccept
  if s.supUp then
    let s := (s.flag Reg.SEC_FLAGS_HALT).raise 0x8140 4 0x13 s.mode 0
    { s with core.sup := .halted s.now }.put Reg.SEC_DBGLVL_HALT 1
  else s

/-- HALT (R426, R442). -/
def State.secHalt (s : State) (c : SecCmd) : State :=
  s.secCommand c 0x20 (s.mode == modeTadpole || s.mode == modeShadow || s.mode == modeLockout) (s.control c) State.doHalt

def execHalt (t : Edges) (c : SecCmd) (s : State) : Host.Outcome State Fault Refusal := live t s fun s => s.secHalt c

/-- RESUME of SEC_CMD (R426, R442). -/
def State.secDebugResume (s : State) (c : SecCmd) : State :=
  s.secCommand c 0x21 true (s.control c) (fun s => s.secAccept.endHalt 0)

def execDebugResume (t : Edges) (c : SecCmd) (s : State) : Host.Outcome State Fault Refusal := live t s fun s => s.secDebugResume c

/-- R442: a test pattern on one channel, its duty limited to 52,429. -/
def State.patternOn (s : State) (ch duty : Nat) : State :=
  if 47 < ch then s.secRefuse 0x22 2
  else
    let d := min duty 52429
    ({ s.secAccept with sec.pattern := some (ch, d) }.put Reg.SEC_DBGLVL_TP 1).raise 0x8142 4 0x13 ch d

/-- TP_ON (R426, R442). -/
def State.secTpOn (s : State) (c : SecCmd) : State :=
  s.secCommand c 0x22 ((s.lifecycle == 1 || s.lifecycle == 2) && s.mode == modeTadpole && s.owner) (s.control c)
    (fun s => s.patternOn c.arg.toNat c.duty.toNat)

def execTpOn (t : Edges) (c : SecCmd) (s : State) : Host.Outcome State Fault Refusal := live t s fun s => s.secTpOn c

/-- TP_OFF (R426). -/
def State.secTpOff (s : State) (c : SecCmd) : State :=
  s.secCommand c 0x23 true (s.control c) (fun s => s.secAccept.endPattern)

def execTpOff (t : Edges) (c : SecCmd) (s : State) : Host.Outcome State Fault Refusal := live t s fun s => s.secTpOff c

/-- DROP_TOKEN (R426, R432). -/
def State.secDropToken (s : State) (c : SecCmd) : State :=
  s.secCommand c 0x30 true true (fun s => s.secAccept.endToken 1)

def execDropToken (t : Edges) (c : SecCmd) (s : State) : Host.Outcome State Fault Refusal := live t s fun s => s.secDropToken c

/-- NONCE_DRAW (R430): a fresh nonce replaces the earlier one. -/
def execNonceDraw (t : Edges) (p : PortId) (v : BitVec 128) (s : State) : Host.Outcome State Fault Refusal :=
  live t s fun s =>
    if p = .s then s else { s with sec.nonce := some (v, s.now) }.put Reg.SEC_NONCE v.toNat

/-- NONCE_EXPIRY (R430): 60 s after the draw. -/
def execNonceExpiry (t : Edges) (s : State) : Host.Outcome State Fault Refusal :=
  live t s fun s =>
    match s.sec.nonce with
    | none => s
    | some (_, drawn) => if drawn + 60 * edgeSec ≤ s.now then { s with sec.nonce := none } else s

/-- R430, R431: the submission's nonce is the live one. -/
def State.nonceMatches (s : State) (d : List Byte) : Bool :=
  match s.sec.nonce with
  | none => false
  | some (v, _) => leValue ((d.drop 20).take 16) == v.toNat

/-- TOKEN_SUBMIT (R431, R443): verification starts, and the nonce is consumed; a later write while one runs is discarded. -/
def State.tokenSubmit (s : State) (p : PortId) (d : List Byte) : State :=
  if s.sec.verifying.isSome then s
  else
    let v : Verifying := ⟨p == .d, d, s.now, s.nonceMatches d⟩
    { s with sec.verifying := some v, sec.nonce := none }.put Reg.SEC_TOKRES 1

def execTokenSubmit (t : Edges) (p : PortId) (d : List Byte) (s : State) : Host.Outcome State Fault Refusal :=
  live t s fun s => if p = .s ∨ s.supUp = false then s else s.tokenSubmit p d

/-- R431: the checks in order; 2 where every check passes. -/
def State.tokenResult (s : State) (v : Verifying) : Nat :=
  let b : Nat → Byte := fun i => (v.bytes[i]?).getD 0
  let scope := (b 1).toNat
  if v.bytes.length ≠ 104 ∨ b 0 ≠ 1 ∨ b 3 ≠ 0 ∨ 64 ≤ scope ∨ scope = 0 then 3
  else if s.mode = modeHoldup ∨ s.core.shipStep ≠ 0 then 9
  else if leValue ((v.bytes.drop 4).take 16) ≠ s.otp.devId.toNat then 4
  else if !v.nonceOk then 5
  else if leValue ((v.bytes.drop 36).take 4) ≤ s.reg Reg.JRN_OPSEC then 6
  else match s.otp.activeKey (b 2).toNat with
    | none => 7
    | some pk => if sigOk (v.bytes.take 40) (v.bytes.drop 40) pk then 2 else 8

/-- R431, R432: an accepted token replaces the token in force; a rejected one leaves it. -/
def State.tokenVerified (s : State) (v : Verifying) : State :=
  let r := s.tokenResult v
  let s := ({ s with sec.verifying := none }.put Reg.SEC_TOKRES r).flag Reg.SEC_FLAGS_TOKEN
  if r ≠ 2 then s.raise 0x8101 3 0x13 r (if v.debug then 1 else 0)
  else
    let s := match s.sec.token with
      | none => s
      | some old => s.raise 0x8102 1 0x13 2 old.scope
    let scope := ((v.bytes[1]?).getD 0).toNat
    let expiry := leValue ((v.bytes.drop 36).take 4)
    let s := { s with sec.token := some ⟨scope, ((v.bytes[2]?).getD 0).toNat, expiry⟩ }
    let s := ((s.put Reg.SEC_SCOPE scope).put Reg.SEC_EXPIRY expiry).raise 0x8100 1 0x13 scope expiry
    s.judgeSession s.mode 1

/-- TOKEN_VERIFIED (R431). -/
def execTokenVerified (t : Edges) (s : State) : Host.Outcome State Fault Refusal :=
  live t s fun s =>
    match s.sec.verifying with
    | none => s
    | some v => if s.supUp then s.tokenVerified v else s

/-- TOKEN_EXPIRY (R432): JRN_OPSEC has reached the expiry. -/
def execTokenExpiry (t : Edges) (s : State) : Host.Outcome State Fault Refusal :=
  live t s fun s =>
    match s.sec.token with
    | none => s
    | some k => if k.expiry ≤ s.reg Reg.JRN_OPSEC then s.endToken 0 else s

/-- DEBUG_REQUEST (R435): granted or refused at once by R436. -/
def State.debugRequest (s : State) (level : Nat) : State :=
  if s.debugAllowed level s.mode then
    let s := if level < s.reg Reg.SEC_DBGLVL_LEVEL then s.endSession 0 else s
    ((s.put Reg.SEC_DBGLVL_LEVEL level).flag Reg.SEC_FLAGS_SESSION).raise 0x8110 1 0x13 level s.mode
  else (s.flag Reg.SEC_FLAGS_SESSION).raise 0x8112 2 0x13 level s.mode

def execDebugRequest (t : Edges) (level : Fin 4) (s : State) : Host.Outcome State Fault Refusal :=
  live t s fun s => s.debugRequest level.val

/-- The next TAP state at a TCK edge (IEEE 1149.1, R437). -/
def TapState.next : TapState → Bool → TapState
  | .reset, tms => if tms then .reset else .idle
  | .idle, tms => if tms then .selDr else .idle
  | .selDr, tms => if tms then .selIr else .capDr
  | .capDr, tms => if tms then .ex1Dr else .shDr
  | .shDr, tms => if tms then .ex1Dr else .shDr
  | .ex1Dr, tms => if tms then .updDr else .pauDr
  | .pauDr, tms => if tms then .ex2Dr else .pauDr
  | .ex2Dr, tms => if tms then .updDr else .shDr
  | .updDr, tms => if tms then .selDr else .idle
  | .selIr, tms => if tms then .reset else .capIr
  | .capIr, tms => if tms then .ex1Ir else .shIr
  | .shIr, tms => if tms then .ex1Ir else .shIr
  | .ex1Ir, tms => if tms then .updIr else .pauIr
  | .pauIr, tms => if tms then .ex2Ir else .pauIr
  | .ex2Ir, tms => if tms then .updIr else .shIr
  | .updIr, tms => if tms then .selDr else .idle

/-- The instructions of R437: 0 BYPASS, 1 IDCODE, 2 SAMPLE/PRELOAD, 3 EXTEST, 4 CLAMP, 5 HIGHZ. An instruction word that
codes none of them selects BYPASS (IEEE 1149.1). -/
def tapDecode (w : Nat) : Nat := ((List.range 6).find? (fun k => Config.tapOpcode k % 2 ^ Config.tapIrLength = w)).getD 0

/-- The data register the instruction in force captures: one bit, the IDCODE, or the pins (whose order in the chain is the
BSDL's, so that their bits are free values). -/
def tapCapture (ir free : Nat) : List Bool :=
  match ir with
  | 1 => (List.range 32).map (fun k => bitOf Config.tapIdcode.toNat k)
  | 2 => (List.range Config.tapLength).map (fun k => bitOf free k)
  | 3 => (List.range Config.tapLength).map (fun k => bitOf free k)
  | _ => [false]

/-- One TCK edge on the live TAP (R437): the action of the state it leaves, then the next state. -/
def Tap.clock (p : Tap) (tms tdi : Bool) (free : Nat) : Tap :=
  let p := match p.st with
    | .capIr => { p with irShift := 1 }
    | .shIr => { p with irShift := p.irShift / 2 + (if tdi then 2 ^ (Config.tapIrLength - 1) else 0) }
    | .updIr => { p with ir := tapDecode (p.irShift % 2 ^ Config.tapIrLength) }
    | .capDr => { p with dr := tapCapture p.ir free }
    | .shDr => { p with dr := p.dr.drop 1 ++ [tdi] }
    | .updDr => if p.ir = 2 ∨ p.ir = 3 then { p with bsr := p.dr } else p
    | _ => p
  let st := p.st.next tms
  if st = .reset then { p with st := st, ir := 1 } else { p with st := st }

/-- BOUNDARY_SCAN (R437): live in BLANK and RMA; otherwise the TAP is held in Test-Logic-Reset. -/
def execBoundaryScan (t : Edges) (tms tdi : Bool) (s : State) : Host.Outcome State Fault Refusal :=
  live t s fun s =>
    if s.lifecycle = 0 ∨ s.lifecycle = 3 then
      let (free, s) := s.takeFree
      { s with sec.tap := s.sec.tap.clock tms tdi free }
    else { s with sec.tap := ⟨.reset, 1, 0, [], []⟩ }

end Sys2Proof.Machine
end

