-- ==== Sys2Proof/Machine/Twin.lean ====
section
/-! DEFINITION. The twin pair (R367-R390): frames, comparison and attribution, fitness, and the passing of ownership. -/

namespace Sys2Proof.Machine

/-- A twin pair is fitted. -/
def State.paired (s : State) : Bool := s.isSet Reg.TWN_CFG_EN

/-- An instant lies within the last 10 ms. -/
def State.recent (s : State) (t : Option Nat) : Bool :=
  match t with
  | none => false
  | some t => decide (s.now < t + 10 * edgeMs)

/-- R381: the mode bit. -/
def State.healthMode (s : State) : Bool :=
  match s.twin.partner with
  | none => false
  | some f => (f.mode.val == modeRun || f.mode.val == modeHoldup) && (s.mode == modeShadow || s.mode == f.mode.val)

/-- R381: the health word. -/
def State.healthWord (s : State) : Nat :=
  let w := s.twin
  let bits := [s.isSet Reg.GL_STAT_XTALOK, w.katFail == 0, w.injBad.isEmpty, !s.recent w.eccAt, !s.recent w.padAt,
    s.reg Reg.IMG_VER == Config.partnerVersion, w.near && s.reg Reg.WHL_STAT_STATE == 2, !s.isSet Reg.GL_STAT_GECKO, w.synced,
    s.isSet Reg.TWN_STAT_LINKUP && !s.recent w.missAt, s.healthMode]
  (List.range 11).foldl (fun v k => if bits.getD k false then v + 2 ^ k else v) 0

/-- R382: FIT falls. -/
def State.unfitNow (s : State) : State :=
  if s.isSet Reg.TWN_STAT_FIT then
    ((s.put Reg.TWN_STAT_FIT 0).flag Reg.TWN_FLAGS_FITCHG).raise 0x9131 3 0x14 (s.reg Reg.TWN_HEALTH) (s.reg Reg.TWN_LASTATT)
  else s

/-- R382, R385: the health word is formed again, and FIT falls with any bit of it, by R380, or 10 ms after the supervisor's last
report. -/
def State.healthRefresh (s : State) : State :=
  let w := s.healthWord
  let s := s.put Reg.TWN_HEALTH w
  let ok := w == 0x7FF && !s.twin.unfit && !s.owner && (s.supUp || s.recent s.twin.healthAt)
  if ok then { s with twin.fitSince := if s.twin.fitSince.isNone then some s.now else s.twin.fitSince }
  else { s with twin.fitSince := none }.unfitNow

/-- The input digest (R373). -/
def State.digest (s : State) : List Code :=
  bayIds.map (fun b => BitVec.ofNat 16 (s.bay b).trigCode) ++
    bayIds.map (fun b => BitVec.ofNat 16 (satInt 16 (toUnit (s.imonSum b / 10)))) ++
    bayIds.map (fun b => BitVec.ofNat 16 (s.regAt Reg.TLM_RAW_VLINK b)) ++
    (List.range 4).map (fun j => BitVec.ofNat 16 (s.regAt Reg.TLM_RAW_VTAP j))

/-- The duty vector: 0 for a channel that is not switching (R373). -/
def State.dutyVector (s : State) : List Code :=
  (List.range 48).map (fun n => if s.conducts n then BitVec.ofNat 16 (s.regAt Reg.PH_DUTY n) else 0)

/-- The three bits of a mode code. -/
def mode3 (m : Nat) : Fin 8 := ⟨m % 8, Nat.mod_lt _ (by decide)⟩

/-- R373: the frame of this slot. -/
def State.frameNow (s : State) : TwinFrame :=
  let w := s.twin
  let yielded := match w.yieldAt, w.sentAt with
    | some y, some t => decide (t ≤ y)
    | some _, none => true
    | none, _ => false
  { crcOk := true, seq := BitVec.ofNat 16 (w.txSeq + 1), mode := mode3 s.mode, owner := s.owner, fit := s.isSet Reg.TWN_STAT_FIT,
    katReq := w.katAsked && s.owner, katDone := w.katOwn.isSome,
    katPass := (match w.katOwn with | some (m, _) => m == 0 | none => false),
    rxLoss := (match w.missAt with | some t => decide (s.now < t + 24 * edgeUs) | none => false), yield := yielded,
    swReq := w.swReq, xfer := s.isSet Reg.TWN_STAT_XFER, ack := BitVec.ofNat 16 w.rxSeq,
    health := BitVec.ofNat 32 (s.reg Reg.TWN_HEALTH), angle := BitVec.ofNat 16 s.angle,
    cyc := BitVec.ofNat 32 (s.reg Reg.WHL_CYC), tags := bayIds.map (fun b => BitVec.ofNat 8 (s.bay b).perCnt),
    duties := s.dutyVector, digest := s.digest,
    recs := (w.sendQ ++ List.replicate 4 (SyncRec.empty 0)).take 4 }

/-- TWIN_FRAME_SLOT (R373). -/
def State.frameSlot (s : State) : State :=
  if !s.paired then s
  else
    let s := s.healthRefresh
    let f := s.frameNow
    let w := s.twin
    { s with twin := { w with txSeq := (w.txSeq + 1) % 65536, sentAt := some s.now, own := (f :: w.own).take 16,
                              sendQ := w.sendQ.drop 4, swReq := false } }

def execTwinFrameSlot (t : Edges) (s : State) : Host.Outcome State Fault Refusal := live t s State.frameSlot

/-- R378: the difference of two codes. -/
def codeDiff (a b : Code) : Nat := ((a.toNat : Int) - b.toNat).natAbs

/-- R378: channels of a standby frame whose duty differs from this chip's frame of the same period tag by more than TWN_DTOL, with
the differences. -/
def State.dutyDiffs (s : State) (f : TwinFrame) : List (Nat × Nat) :=
  (List.range 48).filterMap (fun n =>
    match s.twin.own.find? (fun o => o.tags.getD (n / 6) 0 == f.tags.getD (n / 6) 0) with
    | none => none
    | some o =>
      let d := codeDiff (o.duties.getD n 0) (f.duties.getD n 0)
      if s.reg Reg.TWN_DTOL < d then some (n, d) else none)

/-- R380: the first channel of the input digests that disagrees. -/
def State.digestDiff (s : State) : Option Nat :=
  match s.twin.own, s.twin.partner with
  | o :: _, some f =>
    (List.range 28).find? (fun k =>
      let a := o.digest.getD k 0
      let b := f.digest.getD k 0
      let d := if 8 ≤ k ∧ k < 16 then (a.toInt - b.toInt).natAbs else codeDiff a b
      decide (s.reg Reg.TWN_ITOL < d))
  | _, _ => none

/-- R378: the comparison of one standby frame. -/
def State.compareFrame (s : State) (f : TwinFrame) : State :=
  if s.twin.held then (if f.fit then { s with twin.held := false, twin.mism := 0 } else s)
  else
    match s.dutyDiffs f with
    | [] => { s with twin.mism := 0 }
    | (n, d) :: ds =>
      let top := ds.foldl (fun m p => max m p.2) d
      let k := s.twin.mism + 1
      let s := { s with twin.mism := k, twin.maxDiff := top }
      if k < s.reg Reg.TWN_PERS ∨ s.twin.katAsked then s
      else
        let s := ((s.bump Reg.TWN_MMCNT).put Reg.TWN_MMCH n).flag Reg.TWN_FLAGS_MISMATCH
        let s := s.raise 0x9110 3 0x14 n top
        let w := s.twin
        { s with twin := { w with katAsked := true, katOwn := none, katPartner := none, reqSeq := (w.txSeq + 1) % 65536, mism := 0 } }

/-- R380: the standby becomes UNFIT. -/
def State.becomeUnfit (s : State) : State :=
  if s.owner then s else { s with twin.unfit := true, twin.fitSince := none }.unfitNow

/-- R380, R383: the active yields to a FIT standby. -/
def State.yieldFit (s : State) : State := if s.owner ∧ s.isSet Reg.TWN_STAT_PFIT then s.yield 1 true else s

/-- R386: a state transfer begins. -/
def State.transferStart (s : State) : State := s.put Reg.TWN_STAT_XFER 1

/-- R380: the rows, from the results of the active and of the standby. A parameter no rule gives is a free value. -/
def State.resolveRow (s : State) (aKat sKat aInj sInj : Bool) (own partner mask : Nat) : State :=
  let (v, s) := s.takeFree
  let row := fun (n : Nat) (s : State) => (s.put Reg.TWN_LASTATT n).flag Reg.TWN_FLAGS_ATTRIB
  let kat := fun (s : State) => s.raise 0x9111 4 0x14 (own + 256 * partner) mask
  if !aKat && sKat then (kat (row 1 s)).yieldFit
  else if aKat && !sKat then (kat (row 2 s)).becomeUnfit
  else if !aKat then ((row 3 s).raise 0x9114 6 0x14 3 v).becomeUnfit
  else
    match s.digestDiff with
    | none => ((row 4 s).raise 0x9113 4 0x14 0 v).transferStart.becomeUnfit
    | some c =>
      if !aInj && sInj then ((row 5 s).raise 0x9112 4 0x14 c 0).yieldFit
      else if aInj && !sInj then ((row 6 s).raise 0x9112 4 0x14 c 1).becomeUnfit
      else if aInj then ((row 7 s).raise 0x9113 4 0x14 1 c).becomeUnfit
      else ((row 8 s).raise 0x9114 6 0x14 8 c).becomeUnfit

/-- R380: with both results in, the mismatch is resolved; the comparison stops until the standby is FIT. -/
def State.katResolve (s : State) : State :=
  if !s.twin.katAsked then s
  else
    match s.twin.katOwn, s.twin.katPartner with
    | some (mask, inj), some pass =>
      let pInj := match s.twin.partner with | none => false | some f => bitOf f.health.toNat 2
      let own := mask == 0
      let s := { s with twin.katAsked := false, twin.held := true, twin.mism := 0 }
      let byte := fun (b : Bool) => if b then 1 else 0
      if s.owner then s.resolveRow own pass inj pInj (byte own) (byte pass) mask
      else s.resolveRow pass own pInj inj (byte own) (byte pass) mask
    | _, _ => s

/-- KAT_DONE (R379): the known-answer test that was asked for ends. -/
def execKatDone (t : Edges) (failing : Byte) (injOk : Bool) (s : State) : Host.Outcome State Fault Refusal :=
  live t s fun s =>
    if s.paired && s.twin.katAsked && s.twin.katOwn.isNone && s.twin.t0.isNone then
      ({ s with twin.katOwn := some (failing.toNat, injOk), twin.katFail := failing.toNat }.healthRefresh).katResolve
    else s

/-- The wheel position of the active, from its last frame (R376). -/
def State.activePos (s : State) : Nat :=
  match s.twin.partner, s.twin.rxAt with
  | some f, some t =>
    f.cyc.toNat * 65536 + f.angle.toNat + (s.now - t) * s.reg Reg.WHL_FREQ * 65536 / (100 * edgeSec)
  | _, _ => s.wheelPos

/-- R376: the tick a DECISION names has been reached. -/
def State.decisionDue (s : State) (cyc tick : Code) : Bool :=
  let p := s.activePos
  let d := (p / 65536 + 65536 - cyc.toNat) % 65536
  if d = 0 then decide (tick.toNat ≤ p % 65536) else decide (d < 32768)

/-- R375, R376: one decision of the active is applied, by its kind. -/
def State.applyDecision (s : State) (kind unit : Byte) (value : BitVec 32) : State :=
  let u := unit.toNat
  let v := value.toNat
  match (List.range 8).find? (fun k => Config.decisionKind k == kind) with
  | some 0 => if u < 8 then (s.putAt Reg.PH_NT u v).putAt Reg.TRK_NT u v else s
  | some 1 =>
    if u < 8 ∧ v < 6 then ((s.putAt Reg.PH_PSTAT_STATE (6 * u + v) phPend).putAt Reg.PH_SHEDPH u v).putAt Reg.PH_SHEDST u 1 else s
  | some 2 =>
    if u < 8 ∧ v < 6 then
      let y := s.bay u
      let s := s.setBay u { y with ramp := some (y.sum / (max 1 (s.regAt Reg.PH_N u) : Nat), 0) }
      ((s.putAt Reg.PH_PSTAT_STATE (6 * u + v) phRamp).putAt Reg.PH_SHEDPH u v).putAt Reg.PH_SHEDST u 2
    else s
  | some 3 => if u < 8 ∧ v < 10 ∧ s.bst u ≠ v then s.setBst u v else s
  | some 4 =>
    if 128 ≤ u then (if u < 144 then s.putAt Reg.CAP_PQ (u - 128) v else s)
    else
      let c := s.ct u
      s.setCt u { c with grant := v, allocated := true }
  | some 5 => s.put Reg.HUP_STAT_STAGE v
  | some 6 => if u < 8 ∧ v < 10 ∧ s.cst u ≠ v then s.strTo u v 0 else s
  | some 7 =>
    if u < 16 then
      if v = 1 then (if s.fst u = fusLatched then s else s.fusEnter u fusLatched)
      else if s.fst u = fusLatched then s.fusCleared u 0 else s
    else s
  | _ => s

/-- The decision of a record, where it is one. -/
def decisionOf : SyncRec → Option (Byte × Byte × BitVec 32 × Code × Code)
  | .decision _ k u v c t => some (k, u, v, c, t)
  | _ => none

/-- DECISION_RECORD_TICK (R376): the decisions whose tick has come are applied. -/
def State.decisionTick (s : State) : State :=
  if s.owner then s
  else
    let due := fun (r : SyncRec) => match decisionOf r with | some (_, _, _, c, t) => s.decisionDue c t | none => true
    let now := s.twin.decisions.filter due
    let later := s.twin.decisions.filter (fun r => !due r)
    now.foldl (fun s r => match decisionOf r with | some (k, u, v, _, _) => s.applyDecision k u v | none => s)
      { s with twin.decisions := later }

def execDecisionRecordTick (t : Edges) (s : State) : Host.Outcome State Fault Refusal := live t s State.decisionTick

/-- One byte of a field written as a configuration change of the active (R377): into the shadow copy of a SHADOW field, which
commits at its own boundary, else at once. -/
def State.regByte (s : State) (page off byte : Nat) : State :=
  (fieldsAt page off).foldl (fun s f =>
    match f.locate (fun g => s.reg g) off with
    | none => s
    | some (i, k) =>
      if f.cls == .shadow then (s.putShad f i (f.setByte (s.shadAt f i) k byte)).touch page
      else s.putAt f i (f.setByte (s.regAt f i) k byte)) s

/-- R377: half a contract record enters the shadow table; its second half stages it. -/
def State.contractHalf (s : State) (i : Nat) (half : Bool) (b : List Byte) : State :=
  if 128 ≤ i then s
  else
    let base := 16 * i + (if half then 8 else 0)
    let s := (List.range 8).foldl (fun s j => s.putShad Reg.CAP_CT_REC (base + j) (b.getD j 0).toNat) s
    let c := s.ct i
    if half then (s.setCt i { c with staged := some 2 }).touch 0x19 else s

/-- R377: ten bytes of a capsule; the last ones hand it to the next run (R259). -/
def State.capsulePiece (s : State) (k off : Nat) (b : List Byte) : State :=
  let got := (List.range b.length).map (fun j => (k, off + j, (b.getD j 0).toNat))
  let s := { s with twin.capBuf := got ++ s.twin.capBuf.filter (fun p => !(p.1 == k && off ≤ p.2.1 && decide (p.2.1 < off + b.length))) }
  if off = 120 then
    let all := (List.range 128).map (fun j => ((s.twin.capBuf.find? (fun p => p.1 == k && p.2.1 == j)).map (fun p => p.2.2)).getD 0)
    let e := s.esti k
    { s.setEsti k { e with capsule := some all } with twin.capBuf := s.twin.capBuf.filter (fun p => p.1 != k) }
  else s

/-- R375: one sync record. The layout of a STATE record's bytes is not given: the standby keeps what it has computed itself. -/
def State.syncRec (s : State) (r : SyncRec) : State :=
  match r with
  | .empty _ => s
  | .reg _ p o w _ v =>
    if s.owner then s
    else (List.range w.val).foldl (fun s k => s.regByte p.toNat (o.toNat + k) (v.toNat / 256 ^ k % 256)) s
  | .decision q k u v c t =>
    if s.owner then s
    else if s.decisionDue c t then (s.applyDecision k u v).bump Reg.TW_LATE
    else { s with twin.decisions := s.twin.decisions ++ [.decision q k u v c t] }
  | .contract _ i h b => if s.owner then s else s.contractHalf i.toNat h b
  | .capsule _ k o b => if s.owner then s else s.capsulePiece k.val o.toNat b
  | .state _ _ _ => if s.owner then s else s.transferStart
  | .health _ w _ _ _ => if s.owner then s.put Reg.TWN_PHEALTH w.toNat else s

/-- R383, R385: a switchover: the active yields to a FIT standby; otherwise it is refused. -/
def State.switchRefused (s : State) : State :=
  ((s.put Reg.TWN_CMDRES 2).flag Reg.TWN_FLAGS_REFUSED).raise 0x9150 2 0x14 (s.reg Reg.TWN_PHEALTH) 0

/-- R373: what the active makes of a standby's frame. -/
def State.activeFrame (s : State) (f : TwinFrame) : State :=
  let s := s.compareFrame f
  let fresh := decide ((f.ack.toNat + 65536 - s.twin.reqSeq) % 65536 < 32768)
  let s := if s.twin.katAsked && f.katDone && fresh then { s with twin.katPartner := some f.katPass } else s
  let s := s.katResolve
  let s := if s.owner && f.mode.val == modeShadow && !bitOf f.health.toNat 8 then s.transferStart else s
  if f.swReq ∧ s.owner ∧ s.twin.t0.isNone then (if f.fit then s.yield 4 true else s.switchRefused) else s

/-- R373: what a standby makes of the active's frame. -/
def State.standbyFrame (s : State) (f : TwinFrame) : State :=
  let s := if f.katReq ∧ s.twin.katAsked = false ∧ s.twin.held = false then
      { s with twin.katAsked := true, twin.katOwn := none, twin.katPartner := none }
    else if f.katReq = false then { s with twin.held := false } else s
  let s := if s.twin.katAsked && f.katDone then { s with twin.katPartner := some f.katPass } else s
  let s := if f.xfer then s.transferStart else s
  s.katResolve

/-- TWIN_FRAME_RECEIVE (R373): a frame whose CRC fails counts as missing; a valid one is compared and applied. -/
def State.frameReceive (s : State) (f : TwinFrame) : State :=
  if !s.paired then s
  else if !f.crcOk then s.bump Reg.TW_RXCRC
  else
    let start := s.now - 31488
    let near := decide (s.reg Reg.WHL_STAT_STATE = 2) &&
      (let d := (s.angle + 65536 - f.angle.toNat) % 65536; decide (min d (65536 - d) ≤ 182))
    let w := s.twin
    let s := { s with twin := { w with partner := some f, rxSeq := f.seq.toNat, rxAt := some start, missing := 0, linkFault := false,
                                       near := near } }
    let s := (s.put Reg.TW_RXOK (s.reg Reg.TW_RXOK + 1)).put Reg.TWN_STAT_LINKUP 1
    let s := (s.putB Reg.TWN_STAT_PFIT f.fit).put Reg.TWN_PHEALTH f.health.toNat
    let s := f.recs.foldl State.syncRec s
    let s := if s.owner then s.activeFrame f else s.standbyFrame f
    s.healthRefresh

def execTwinFrameReceive (t : Edges) (f : TwinFrame) (s : State) : Host.Outcome State Fault Refusal :=
  live t s fun s => s.frameReceive f

/-- R383: three missing slots while ACTIN stays high: the fault is in the link. -/
def State.linkFault (s : State) : State :=
  if 3 ≤ s.twin.missing ∧ s.owner = false ∧ s.twin.actIn ∧ s.twin.linkFault = false then
    ({ s with twin.linkFault := true }.flag Reg.TWN_FLAGS_LINK).raise 0x9120 4 0x14 (s.reg Reg.TW_RXMISS) 1
  else s

/-- TWIN_SLOT_MISSING (R373, R383). -/
def execTwinSlotMissing (t : Edges) (s : State) : Host.Outcome State Fault Refusal :=
  live t s fun s =>
    match s.twin.rxAt with
    | none => s
    | some r =>
      if s.paired && s.elapsed r (9 * edgeUs) then
        let w := s.twin
        let s := { s with twin := { w with rxAt := some (r + 8 * edgeUs), missing := w.missing + 1, missAt := some s.now } }
        let s := s.bump Reg.TW_RXMISS
        let s := if 3 ≤ s.twin.missing then s.put Reg.TWN_STAT_LINKUP 0 else s
        s.linkFault.healthRefresh
      else s

/-- DEAD_MAN_RELEASE (R383): no frame sent for three slots: the hardware releases the outputs. -/
def execDeadManRelease (t : Edges) (s : State) : Host.Outcome State Fault Refusal :=
  live t s fun s => if s.paired && s.owner && s.ran s.twin.sentAt (24 * edgeUs) && s.twin.t0.isNone then s.yield 3 false else s

/-- ACTIN_CHANGE (R370, R372): the filtered level. -/
def execActinChange (t : Edges) (level : Bool) (s : State) : Host.Outcome State Fault Refusal :=
  live t s fun s =>
    let w := s.twin
    if level then
      { s with twin := { w with actIn := true, gapSince := none, dualAt := if s.owner && w.contest.isNone then some s.now else none } }
    else
      { s with twin := { w with actIn := false, dualAt := none,
                                gapSince := if !s.owner || w.contest.isSome then some s.now else none } }

/-- R384: the mode a new owner takes: the old one's, or RUN or HOLDUP by its own hold-up state. -/
def State.takeMode (s : State) : Nat :=
  let own := if s.stage = stMains then modeRun else modeHoldup
  match s.twin.partner with
  | none => own
  | some f => if f.mode.val = modeRun ∨ f.mode.val = modeHoldup then f.mode.val else own

/-- What the new owner knows of the trigger (R383): missing slots, the partner's LOCKOUT, its yield notice, a request of its own. -/
def State.takeTrig (s : State) : Nat :=
  if 3 ≤ s.twin.missing then 3
  else match s.twin.partner with
    | none => 3
    | some f => if f.mode.val = modeLockout then 2 else if f.swReq ∨ s.twin.swReq then 4 else if f.yield then 1 else 3

/-- R384: ownership is taken, after a gap that began at `fall`. -/
def State.takeOver (s : State) (fall trig : Nat) : State :=
  let mode := s.takeMode
  let (v, s) := s.takeFree
  let bays := bayIds.filter (fun b => !(s.conds b).isEmpty)
  let strs := (strIds.filter (fun k => chargingSt (s.cst k))).map (fun k => 8 + k)
  let w := s.twin
  let s := { s with twin := { w with actOut := true, gapSince := none, yieldAt := none, back := false, katAsked := false,
                                     t0 := some (fall - v % 3649), resume := bays ++ strs } }
  let s := ((s.put Reg.GL_STAT_OWNER 1).put Reg.TWN_LASTTRIG trig).putSat Reg.TWN_LASTGAP ((s.now - fall) * 10 / 64)
  let s := ((s.bump Reg.TWN_TOCNT).flag Reg.TWN_FLAGS_TAKEOVER).put Reg.TWN_STAT_XFER 0
  let s := s.roleShow
  let s := if s.mode = modeShadow then
      let s := s.changeMode mode 0x0E
      if mode = modeRun then { s with sup.cycIn := true }.runEntered else s
    else if s.mode = modeTadpole then s.tadpoleSet else s
  let s := s.raise 0x9100 5 0x14 trig (s.reg Reg.TWN_LASTGAP)
  if s.twin.resume.isEmpty then s.outResumed 99 else s

/-- R383: the chip can drive: an image in force, and not LOCKOUT. -/
def State.mayDrive (s : State) : Bool := s.paired && s.imgValid && s.mode != modeLockout

/-- TAKEOVER_GAP_EXPIRY (R371, R384): ACTIN has been low for TWN_GAP. -/
def execTakeoverGapExpiry (t : Edges) (s : State) : Host.Outcome State Fault Refusal :=
  live t s fun s =>
    match s.twin.gapSince with
    | none => s
    | some g =>
      if s.twin.actIn || !s.elapsed g (s.reg Reg.TWN_GAP * 64 / 10) then s
      else if s.twin.contest.isSome then { s with twin.contest := none, twin.gapSince := none }.roleShow
      else if s.owner then s
      else if s.mayDrive then s.takeOver g s.takeTrig
      else
        let s := { s with twin.gapSince := none }
        if s.paired then s.raise 0x9151 6 0x14 (s.reg Reg.TWN_LASTTRIG) 0 else s

/-- TAKEBACK (R385): the chip that yielded takes ownership back. -/
def execTakeback (t : Edges) (s : State) : Host.Outcome State Fault Refusal :=
  live t s fun s =>
    match s.twin.yieldAt with
    | none => s
    | some y =>
      if s.twin.back && !s.twin.actIn && !s.owner && s.mayDrive && s.elapsed y (s.reg Reg.TWN_GAP * 64 / 10 + 2 * edgeUs) then
        s.takeOver y (s.reg Reg.TWN_LASTTRIG)
      else s

/-- OWNERSHIP_CONTEST_SAMPLE (R371). A chip whose start led to LOCKOUT gives up ownership and stays there, as R54's order and R62 have it
(DEDUCED, assumption 22). -/
def execOwnershipContestSample (t : Edges) (level : Bool) (s : State) : Host.Outcome State Fault Refusal :=
  live t s fun s =>
    if s.ran s.twin.contest (50 * edgeUs) then
      let s := { s with twin.actIn := level }
      if level = false then { s with twin.contest := none }.roleShow
      else if s.core.addr % 2 = 1 then
        let s := { s with twin.contest := none, twin.actOut := false }.put Reg.GL_STAT_OWNER 0
        let s := s.roleShow
        (if s.mode = modeLockout then s else s.changeMode modeTadpole 0x12).raise 0x9140 1 0x14 s.core.addr 0
      else s
    else s

/-- DUAL_OWNER (R372). -/
def execDualOwner (t : Edges) (s : State) : Host.Outcome State Fault Refusal :=
  live t s fun s =>
    if s.owner && s.twin.actIn && s.ran s.twin.dualAt edgeUs && s.twin.contest.isNone && s.twin.t0.isNone then
      let s := { s with twin.dualAt := none }.raise 0x9141 5 0x14 s.core.addr s.mode
      if s.core.addr % 2 = 1 then s.yield 5 false else s
    else s

/-- STATE_TRANSFER_DONE (R386): the transfer is complete; an UNFIT of R380 ends with it. -/
def execStateTransferDone (t : Edges) (s : State) : Host.Outcome State Fault Refusal :=
  live t s fun s =>
    if s.paired && s.isSet Reg.TWN_STAT_XFER then
      let s := s.put Reg.TWN_STAT_XFER 0
      (if s.owner then s else { s with twin.synced := true, twin.unfit := false }).healthRefresh
    else s

/-- STANDBY_FIT (R382). -/
def execStandbyFit (t : Edges) (s : State) : Host.Outcome State Fault Refusal :=
  live t s fun s =>
    let s := s.healthRefresh
    if s.paired && !s.isSet Reg.TWN_STAT_FIT && s.ran s.twin.fitSince (s.reg Reg.TWN_FITT * edgeSec) then
      ((s.put Reg.TWN_STAT_FIT 1).flag Reg.TWN_FLAGS_FITCHG).raise 0x9130 1 0x14 (s.reg Reg.TWN_HEALTH) 0
    else s

/-- TWN_CMD with its key (R387). -/
def State.twinCommand (s : State) (key : Byte) (f : State → State) : State :=
  if s.twin.t0.isSome then s else if key = 0xA5 then f s else s.put Reg.TWN_CMDRES 3

/-- SWITCHOVER (R383). -/
def State.switchover (s : State) : State :=
  if !s.paired then s.switchRefused
  else if s.owner then (if s.isSet Reg.TWN_STAT_PFIT then (s.put Reg.TWN_CMDRES 1).yield 4 true else s.switchRefused)
  else if s.isSet Reg.TWN_STAT_FIT then { s with twin.swReq := true }.put Reg.TWN_CMDRES 1
  else s.switchRefused

def execSwitchover (t : Edges) (key : Byte) (s : State) : Host.Outcome State Fault Refusal :=
  hostWrite t s fun s => s.twinCommand key State.switchover

/-- RESYNC (R386). -/
def State.resync (s : State) : State :=
  if s.paired && s.owner then (s.put Reg.TWN_CMDRES 1).transferStart else (s.put Reg.TWN_CMDRES 2).flag Reg.TWN_FLAGS_REFUSED

def execResync (t : Edges) (key : Byte) (s : State) : Host.Outcome State Fault Refusal :=
  hostWrite t s fun s => s.twinCommand key State.resync

/-- PERIODIC_KAT (R381). -/
def execPeriodicKat (t : Edges) (failing : Byte) (s : State) : Host.Outcome State Fault Refusal :=
  live t s fun s => if s.paired then { s with twin.katFail := failing.toNat }.healthRefresh else s

/-- REFERENCE_INJECTION (R381): the error of one channel, in 0.01 % of full scale. -/
def execReferenceInjection (t : Edges) (ch : Nat) (err : Int) (s : State) : Host.Outcome State Fault Refusal :=
  live t s fun s =>
    if !s.paired then s
    else
      let rest := s.twin.injBad.filter (fun c => c != ch)
      if s.reg Reg.TWN_RTOL < err.natAbs then ({ s with twin.injBad := ch :: rest }.bump Reg.TW_INJFAIL).healthRefresh
      else { s with twin.injBad := rest }.healthRefresh

/-- ECC_SCRUB (R381). -/
def execEccScrub (t : Edges) (corrected : Nat) (uncorrectable : Bool) (s : State) : Host.Outcome State Fault Refusal :=
  live t s fun s =>
    if s.paired then
      let s := s.addTo Reg.TW_ECCCOR corrected
      (if uncorrectable then { s with twin.eccAt := some s.now } else s).healthRefresh
    else s

/-- HEALTH_RECORD (R375, R381): the standby's report, every 10 ms, from its supervisor. -/
def execHealthRecord (t : Edges) (s : State) : Host.Outcome State Fault Refusal :=
  live t s fun s =>
    if s.paired && !s.owner && s.supUp then
      let w := s.twin
      let r := SyncRec.health (BitVec.ofNat 8 w.recSeq) (BitVec.ofNat 32 (s.reg Reg.TWN_HEALTH)) (BitVec.ofNat 16 (s.reg Reg.TW_ECCCOR))
        (BitVec.ofNat 16 (s.reg Reg.TW_PADERR)) (BitVec.ofNat 16 (s.reg Reg.TW_INJFAIL))
      { s with twin := { w with sendQ := w.sendQ ++ [r], recSeq := (w.recSeq + 1) % 256, healthAt := some s.now } }
    else s

end Sys2Proof.Machine
end

