-- ==== Sys2Proof/Machine/Modes.lean ====
section
/-! DEFINITION. Modes: power-on reset and the loss of supplies (R53, R54, R66, R462), SHIP and the VKA domain (R68-R71), the
clock (R20, R56, R330), the supervisor's restart (R65), operating time (R12), the power-fail warning (R341, R349), and the
commands of GL_CMD (R61). -/

namespace Sys2Proof.Machine

/-- Bytes of a note replaced from an offset. -/
def setBytes (l : List Nat) (off : Nat) (b : List Nat) : List Nat := l.take off ++ b ++ l.drop (off + b.length)

/-- The value of `n` bytes of the ship note. -/
def Vka.field (v : Vka) (off n : Nat) : Nat := natOfBytes ((v.note.drop off).take n)

/-- R70: the CRC of the ship note over bytes 0-61. -/
def Vka.sealCrc (v : Vka) : Vka := { v with note := setBytes v.note 62 (natBytes 2 (crc16 (v.note.take 62))) }

/-- Everything but the VKA domain, the OTP and the flash returns to reset (R66, R462). -/
def State.unpower (s : State) : State :=
  { State.reset with pending := s.pending, now := s.now, free := s.free, vka := s.vka, otp := s.otp, flash := s.flash }

/-- The counters of the journal's active bank, as the start reads them (R53, R335). -/
def Flash.counters (f : Flash) : Nat × Nat :=
  let bank := match f.activeBank with
    | none => Bank.erased
    | some 0 => f.bank0
    | some _ => f.bank1
  let j := (bank.recs.filter (fun r => r.good)).foldl (fun j r => j.absorb r.body) JrnSt.reset
  match j.counters with
  | none => (0, 0)
  | some (a, b, _, _) => (a, b)

/-- R474: the last log sequence of the epoch that goes on at this start; 0 where the journal is new. -/
def Flash.lastSeq (f : Flash) : Nat :=
  let bank := match f.activeBank with
    | none => Bank.erased
    | some 0 => f.bank0
    | some _ => f.bank1
  let j := (bank.recs.filter (fun r => r.good)).foldl (fun j r => j.absorb r.body) JrnSt.reset
  match j.logptr with
  | none => 0
  | some l =>
    let ext := fun (q : Nat) => l.lastSeq + (q % 65536 + 65536 - l.lastSeq % 65536) % 65536
    let up := fun (m : Nat) (r : EventRec) => max m (if l.lastSeq ≤ r.seq then ext r.seq else m)
    (f.roll.map RollSlot.ev).foldl up (f.first.foldl up l.lastSeq)

/-- R53, step 1: the wake causes, the GECKO latch, the power-cycle count and the straps. -/
def State.bootWake (s : State) (b : BootIn) : State :=
  let v := s.vka
  let gecko := v.gecko && decide (b.vddAbsentMs < 1000)
  let s := { s with core := { s.core with powered := true, porAt := s.now, modeAt := s.now, secAt := s.now, addr := b.addr.val },
                    vka := { v.sealCrc with causes := 0, armed := false, gecko := gecko, lost := false } }
  let s := (s.put Reg.H_ADDR (0x20 + b.addr.val)).put Reg.JRN_OPSEC (if b.flashUnmet.isSome then 0 else s.flash.counters.1)
  let s := s.put Reg.JRN_PCC ((if b.flashUnmet.isSome then 0 else s.flash.counters.2) + 1)
  let s := s.put Reg.REC_LASTSEQ (if b.flashUnmet.isSome then 0 else s.flash.lastSeq)
  let s := ((s.putB Reg.GL_WAKE_SRC_WAKE (bitOf v.causes 0)).putB Reg.GL_WAKE_SRC_AC (bitOf v.causes 1)).putB
    Reg.GL_WAKE_SRC_BI (bitOf v.causes 2)
  let s := (s.putB Reg.GL_STAT_GECKO gecko).putB Reg.THM_STAT_GECKO gecko
  let s := ((s.put Reg.THM_GSRC v.geckoSrc).put Reg.THM_GTEMP v.geckoTemp).putB Reg.GL_WAKE_SRC_VKALOST v.lost
  let s := if v.armed then s.raise 0x2015 0 0x02 (v.field 54 1) (v.field 48 4) else s
  if v.lost then s.raise 0x2016 3 0x02 (s.reg Reg.JRN_PCC) 0 else s

/-- R427: a slot whose OTP words carry an uncorrectable error reads FAULT. -/
def State.keyFaults (s : State) (mask : Nat) : State :=
  (List.range 4).foldl (fun s k =>
    if bitOf mask k then
      (s.setKey k ⟨.fault, ((s.otp.keys.toList.map KeySlot.key)[k]?).getD []⟩).raise 0x8150 5 0x13 k 0
    else s) s

/-- R53, steps 2 to 5: the lifecycle, the identity, the flash and ownership. -/
def State.bootRead (s : State) (b : BootIn) : State :=
  let s := ((s.put Reg.SEC_LC s.otp.lifecycle).put Reg.SEC_DEVID s.otp.devId.toNat).put Reg.GL_DEVID s.otp.devId.toNat
  let s := (s.put Reg.IMG_FLOOR s.otp.floor).put Reg.IMG_FLOORLEFT (16 - s.otp.floors.length)
  let s := (s.put Reg.GL_FWVER Config.fwVersion.toNat).put Reg.GL_TRIMREV Config.trimRev.toNat
  let s := (s.put Reg.GL_SILREV_MAJOR (Config.siliconRev.toNat / 16)).put Reg.GL_SILREV_MINOR Config.siliconRev.toNat
  let s := s.put Reg.GL_PAGEMAP (((List.range 256).filter populated).foldl (fun (v : Nat) p => v + 2 ^ p) 0)
  let s := (s.keyRefresh).keyFaults b.keyFault.val
  let s := s.put Reg.GL_BOOT_STEP 2
  let s := match b.flashUnmet with
    | some r => (s.put Reg.JRN_STAT_NOFLASH 1).raise 0x7040 6 0x0F r.val b.jedec.toNat
    | none =>
      let s := (s.put Reg.JRN_FCLK (min 50 b.fclk.toNat)).bdRefresh
      { s with jrn.fclk := b.fclk.toNat }
  let s := (s.put Reg.JRN_JEDEC b.jedec.toNat).put Reg.JRN_DENS b.dens.toNat
  let s := { s with twin.actIn := b.actin, twin.actOut := !b.actin, twin.contest := if b.actin then none else some s.now }
  (s.putB Reg.GL_STAT_OWNER (!b.actin)).put Reg.GL_BOOT_STEP 3

/-- The levels of the presence, ready and handle inputs from the start (R139, R222, R225). -/
def State.bootPins (s : State) (b : BootIn) : State :=
  let s := bayIds.foldl (fun s k =>
    let y := s.bay k
    let on := bitOf b.bayPres.toNat k
    s.setBay k { y with pres := on, ok := bitOf b.bayOk.toNat k, ej := bitOf b.bayEj.toNat k,
                        debAt := if on then some s.now else none }) s
  strIds.foldl (fun s k =>
    let y := s.str k
    let on := bitOf b.bPres.toNat k
    let bok := bitOf b.bOk.toNat k
    (s.setStr k { y with pres := on, debAt := if on then some s.now else none, bokAt := if bok then some s.now else none }).putBit
      Reg.BST_BOKLVL k bok) s

/-- R54: the first mode. GL_MODE_PREV and the old mode of the event are 0 (R52). -/
def State.firstMode (s : State) : State :=
  let s := s.put Reg.GL_MODE 0
  if s.isSet Reg.GL_STAT_GECKO then s.changeMode modeLockout 0x0A
  else if s.lifecycle = 0 ∨ s.lifecycle = 3 then s.changeMode modeLockout 0x10
  else if s.owner then (s.enterTadpole 0x00).put Reg.GL_BOOT_STEP 4
  else (s.enterTadpole 0x12).put Reg.GL_BOOT_STEP 4

/-- The start-up sequence, from the release of the VDD power-on reset to the first mode (R53). -/
def State.boot (s : State) (b : BootIn) : State := ((((s.unpower.bootWake b).bootRead b).bootPins b).firstMode).roleShow

/-- POWER_ON_RESET (R53). -/
def execPowerOnReset (t : Edges) (b : BootIn) (s : State) : Host.Outcome State Fault Refusal :=
  let s := s.at t
  .next (if s.core.powered then s else (s.boot b).finish)

/-- RST_N_ASSERTED (R66): everything but the VKA domain. -/
def execRstNAsserted (t : Edges) (s : State) : Host.Outcome State Fault Refusal := .next (s.at t).unpower

/-- SUPPLY_LOSS (R462). -/
def execSupplyLoss (t : Edges) (_sup : Supply) (s : State) : Host.Outcome State Fault Refusal := .next (s.at t).unpower

/-- VKA_LOST (R71): the ship note, the wake causes and the GECKO latch are lost. -/
def execVkaLost (t : Edges) (s : State) : Host.Outcome State Fault Refusal :=
  let s := { s.at t with vka := { Vka.reset with lost := true } }
  .next ((s.put Reg.GL_STAT_GECKO 0).put Reg.THM_STAT_GECKO 0)

/-- In SHIP: VDD is gone and the wake logic is armed. -/
def State.inShip (s : State) : Bool := !s.core.powered && s.vka.armed

/-- R69, R70: a wake cause is latched; a BI excursion is counted, and the first string that shows one is kept. -/
def Vka.wake (v : Vka) (c : WakeCause) : Vka :=
  match c with
  | .wake => { v with causes := setBit v.causes 0 true, note := setBytes v.note 54 [setBit (v.field 54 1) 0 true] }
  | .ac => { v with causes := setBit v.causes 1 true, note := setBytes v.note 54 [setBit (v.field 54 1) 1 true] }
  | .bi k =>
    let first := !bitOf (v.field 54 1) 2
    let n := setBytes v.note 52 (natBytes 2 (satNat 16 (v.field 52 2 + 1)))
    let n := setBytes n 54 [setBit (v.field 54 1) 2 true]
    { v with causes := setBit v.causes 2 true,
             note := if first then setBytes n 55 [v.field 55 1 % 2 + 2 * k.val] else n }

/-- SHIP_WAKE (R69). -/
def execShipWake (t : Edges) (c : WakeCause) (s : State) : Host.Outcome State Fault Refusal :=
  let s := s.at t
  .next (if s.inShip then { s with vka := s.vka.wake c } else s)

/-- SHIP_SECOND (R69, R293). -/
def execShipSecond (t : Edges) (s : State) : Host.Outcome State Fault Refusal :=
  let s := s.at t
  let v := s.vka
  .next (if s.inShip then
    { s with vka := { v with note := setBytes v.note 48 (natBytes 4 (v.field 48 4 + 1)), rcUpdates := v.rcUpdates + 1 } }
  else s)

/-- The load that waits for an entry to TADPOLE begins in SHADOW, where the image is loaded without it (R61). -/
def State.loadInShadow (s : State) : State :=
  if s.mode = modeShadow then
    match s.core.loadNext with
    | none => s
    | some k => s.loadStart k
  else s

/-- R315: a probation that the event of a crystal fault or a restart has failed reverts in the TADPOLE that event leads to. -/
def State.probationHere (s : State) : State :=
  if s.core.deferred = some .probation then
    { s with core.deferred := none, core.loadNext := some .probation }.put Reg.GL_STAT_RLDPEND 0
  else s

/-- R20, R61, R383: what the clock monitor brings about in RUN and HOLDUP: failover, or TADPOLE at once. -/
def State.crystalActs (s : State) : State :=
  if s.mode = modeRun ∨ s.mode = modeHoldup then
    let s := s.probationHere
    if s.owner && s.paired && s.isSet Reg.TWN_STAT_PFIT then (s.yield 1 false).loadInShadow else s.enterTadpole 0x08
  else s

/-- CRYSTAL_FAULT (R20, R21, R37, R56, R64). -/
def execCrystalFault (t : Edges) (kind : XtalFault) (s : State) : Host.Outcome State Fault Refusal :=
  live t s fun s =>
    let s := { s with core.xtalSince := none }.put Reg.GL_STAT_XTALOK 0 |>.put Reg.WHL_STAT_CLKSRC 1
    let s := s.raise 0x2030 6 0x02 (match kind with | .noEdge => 0 | .pllLost => 1) s.mode
    s.crystalActs.healthRefresh

/-- PLL_LOCK (R56): the count of 100 ms begins. -/
def execPllLock (t : Edges) (s : State) : Host.Outcome State Fault Refusal :=
  live t s fun s => if s.isSet Reg.GL_STAT_XTALOK ∨ s.core.xtalSince.isSome then s else { s with core.xtalSince := some s.now }

/-- CLOCK_HANDOVER (R56, R330). -/
def execClockHandover (t : Edges) (s : State) : Host.Outcome State Fault Refusal :=
  live t s fun s =>
    if s.isSet Reg.GL_STAT_XTALOK = false ∧ s.ran s.core.xtalSince (100 * edgeMs) then
      let s := (s.put Reg.GL_STAT_XTALOK 1).put Reg.WHL_STAT_CLKSRC 0
      (if s.isSet Reg.JRN_STAT_NOFLASH then s else s.put Reg.JRN_FCLK (min 104 s.jrn.fclk)).healthRefresh
    else s

/-- SUPERVISOR_RESTART (R65, R430, R432, R443): the token, the nonce and every session end. -/
def execSupervisorRestart (t : Edges) (s : State) : Host.Outcome State Fault Refusal :=
  live t s fun s =>
    if s.supUp then
      let s := { s with core.sup := .restarting s.now, sec.nonce := none }
      ((s.endToken 4).endSession 4).healthRefresh
    else s

/-- R311: the image is read again from flash after a digest that does not match. -/
def State.digestLoad (s : State) : State :=
  if s.imgValid then
    let s := s.raise 0x700A 5 0x0E (s.reg Reg.IMG_VER) (s.reg Reg.IMG_STAT_SLOT)
    if s.mode = modeRun ∨ s.mode = modeHoldup then
      { s with core.loadNext := if s.core.loadNext.isSome then s.core.loadNext else some .digest }
    else s.loadStart .digest
  else s

/-- R63, R65: a load under way starts again from its first byte. -/
def State.loadAgain (s : State) : State :=
  match s.core.load with
  | none => s
  | some l => { s with core.load := some { l with tm := s.now, staged := false }, img.staged := none }

/-- R61, R65: the end of a restart. -/
def State.restartEnd (s : State) (digestOk : Bool) : State :=
  let s := ((s.bump Reg.GL_SUPRST).supResume).loadAgain
  let s := s.raise 0x2032 6 0x02 s.mode (if digestOk then 0 else 1)
  let s := s.probationHere
  let s := if digestOk then s else s.digestLoad
  let s := if s.mode = modeRun ∨ s.mode = modeHoldup then { s with core.toTadpole := some 0x09 } else s
  s.healthRefresh

/-- SUPERVISOR_RESTART_END (R65). -/
def execSupervisorRestartEnd (t : Edges) (digestOk : Bool) (s : State) : Host.Outcome State Fault Refusal :=
  live t s fun s =>
    match s.core.sup with
    | .restarting _ => s.restartEnd digestOk
    | _ => s

/-- OPERATING_SECOND (R12, R312). -/
def execOperatingSecond (t : Edges) (s : State) : Host.Outcome State Fault Refusal :=
  live t s fun s =>
    if s.elapsed s.core.secAt edgeSec then
      ({ s with core.secAt := s.core.secAt + edgeSec }.bump Reg.JRN_OPSEC).probationSecond
    else s

/-- Insertion by descending severity, then ascending sequence (R349). -/
def insertUrgent (r : EventRec) : List EventRec → List EventRec
  | [] => [r]
  | q :: l => if q.sev < r.sev ∨ (q.sev = r.sev ∧ r.seq ≤ q.seq) then r :: q :: l else q :: insertUrgent r l

/-- R349: one record at the warning: into FIRST where it is admitted, and into an empty slot of ROLL. -/
def State.urgentRec (s : State) (r : EventRec) : State :=
  let r := s.agedRec r
  let s := s.toFirst r
  let next := match s.flash.roll.getLast? with
    | none => 0
    | some q => q.ix + 1
  match emptySlot s.flash.roll next 16384 with
  | none => s
  | some i =>
    let s := { s with flash.roll := s.flash.roll ++ [({ ix := i, live := true, ev := r } : RollSlot)] }
    s.put Reg.REC_ROLLCNT (rollLive s.flash.roll)

/-- R349: the flush of the warning; how many records are programmed before VDD fails is a free value. -/
def State.urgentFlush (s : State) : State :=
  let sorted := s.log.queue.foldr insertUrgent []
  let (v, s) := s.takeFree
  let out := sorted.take (v % (sorted.length + 1))
  out.foldl State.urgentRec { s with log.queue := s.log.queue.filter (fun r => !(out.map EventRec.seq).contains r.seq), log.batch := none }
    |>.put Reg.REC_STAT_FLUSHING 0

/-- R341: the journal's own writes at the warning, and the end of a compaction. -/
def State.powerFailWrites (s : State) : State :=
  let s := { s with jrn.powerFail := true, jrn.compacting := none, jrn.retryAt := none }.put Reg.JRN_STAT_COMPACT 0
  ((s.jAppend s.countersNow).jAppend s.baysecNow).jAppend s.logptrNow

/-- POWER_FAIL_WARNING (R261, R341, R349, R464). -/
def execPowerFailWarning (t : Edges) (s : State) : Host.Outcome State Fault Refusal :=
  live t s fun s =>
    let s := s.powerFailWrites.stagingReset 10
    if s.supUp && s.log.scanned && !s.isSet Reg.JRN_STAT_NOFLASH then s.urgentFlush else s

/-- R61: a refusal of GL_CMD. -/
def State.modeRefuse (s : State) (cmd res : Nat) : State := (s.put Reg.GL_CMD_RES res).raise 0x2011 2 0x02 cmd s.mode

/-- GL_CMD with its key; no byte is taken while the supervisor is down (R403). -/
def State.modeCommand (s : State) (key : Byte) (f : State → State) : State :=
  if !s.supUp then s else if key = 0xA5 then f s else s.put Reg.GL_CMD_RES 3

/-- R61: RELOAD. -/
def State.reload (s : State) : State :=
  if s.mode = modeLockout then s.modeRefuse 0x01 2
  else if s.core.load.isSome then s.modeRefuse 0x01 5
  else if s.mode = modeHoldup then (s.put Reg.GL_CMD_RES 4).scheduleLoad .reload 0x05
  else (s.put Reg.GL_CMD_RES 1).scheduleLoad .reload 0x05

/-- R61, R315: REVERT; the version it leaves is marked when it is executed. -/
def State.revert (s : State) : State :=
  if s.mode = modeLockout then s.modeRefuse 0x02 2
  else if s.core.load.isSome then s.modeRefuse 0x02 5
  else if s.mode = modeHoldup then (s.put Reg.GL_CMD_RES 4).scheduleLoad .revert 0x06
  else if !s.imgValid then s.modeRefuse 0x02 2
  else match s.revertTarget with
    | none => (s.revertRefused).modeRefuse 0x02 2
    | some _ => (s.put Reg.GL_CMD_RES 1).revertGo (fun s => s.scheduleLoad .revert 0x06)

/-- RELOAD. -/
def execReload (t : Edges) (key : Byte) (s : State) : Host.Outcome State Fault Refusal :=
  live t s fun s => s.modeCommand key State.reload
/-- REVERT. -/
def execRevert (t : Edges) (key : Byte) (s : State) : Host.Outcome State Fault Refusal :=
  live t s fun s => s.modeCommand key State.revert

/-- LOCKOUT (R61). -/
def State.lockoutCommand (s : State) : State := (s.put Reg.GL_CMD_RES 1).enterLockout 0x0C

def execLockout (t : Edges) (key : Byte) (s : State) : Host.Outcome State Fault Refusal :=
  live t s fun s => s.modeCommand key State.lockoutCommand

/-- RESUME (R61, R62). -/
def State.resumeCommand (s : State) : State :=
  if s.mode = modeLockout ∧ (s.reg Reg.GL_MODE_CAUSE = 0x0C ∨ s.reg Reg.GL_MODE_CAUSE = 0x11) then (s.put Reg.GL_CMD_RES 1).resume
  else s.modeRefuse 0x04 2

def execResume (t : Edges) (key : Byte) (s : State) : Host.Outcome State Fault Refusal :=
  live t s fun s => s.modeCommand key State.resumeCommand

/-- R68, step 1: the SHIP sequence begins; every session ends (R443). -/
def State.shipBegin (s : State) : State :=
  let s := (s.put Reg.GL_CMD_RES 1).endSession 2
  let s := { s with core.shipStep := 2 }.raise4 0x2010 1 0x02 s.mode 0 0x13 s.angle
  { s with log.flushReq := true }.flushKick

/-- SHIP (R61, R68). -/
def State.shipCommand (s : State) : State :=
  if s.mode = modeHoldup ∨ s.mode = modeShadow then s.modeRefuse 0x05 2 else s.shipBegin

def execShip (t : Edges) (key : Byte) (s : State) : Host.Outcome State Fault Refusal :=
  live t s fun s => s.modeCommand key State.shipCommand

/-- R68, steps 3 and 4: every output goes off, the note is sealed, and the wake logic is armed. -/
def State.shipSeal (s : State) : State :=
  let s := fuseIds.foldl State.openReq s.chargeStops
  let s := bayIds.foldl State.allWarm s
  let v := s.vka
  let n := setBytes v.note 48 ([0, 0, 0, 0, 0, 0, 0, 1] ++ natBytes 4 (s.reg Reg.JRN_PCC) ++ [0, 0])
  { s with vka := { v with note := n, armed := true, causes := 0 }.sealCrc, core.shipStep := 5, core.sealAt := s.now }

/-- SHIP_FLUSH_DONE (R68, step 2): the queue is in flash and a COUNTERS record follows (R335). A chip whose wheel never started
meets no quadrant point and seals at once. -/
def execShipFlushDone (t : Edges) (s : State) : Host.Outcome State Fault Refusal :=
  live t s fun s =>
    if s.core.shipStep = 2 ∧ s.supUp then
      let s := if s.log.scanned && !s.isSet Reg.JRN_STAT_NOFLASH then s.batchDone (s.reg Reg.REC_LASTSEQ) else s
      let s := { s.jAppend s.countersNow with core.shipStep := 3 }
      if s.wheel.running then s else s.shipSeal
    else s

/-- SHIP_NOT_ENTERED (R68): VDD is still good 2 s after the seal. -/
def execShipNotEntered (t : Edges) (s : State) : Host.Outcome State Fault Refusal :=
  live t s fun s =>
    if s.core.shipStep = 5 ∧ s.elapsed s.core.sealAt (2 * edgeSec) then
      let s := { s with core.shipStep := 0, vka.armed := false }.enterLockout 0x11
      s.raise 0x2012 4 0x02 (s.msSince s.core.sealAt) (s.reg Reg.GL_MODE_PREV)
    else s

end Sys2Proof.Machine
end

