-- ==== Sys2Proof/Machine/Views.lean ====
section
/-! DEFINITION. What a read of a register shows (R395-R397, R451-R457): the fields that follow other state, the copy a SHADOW
field shows, the window a selector selects, and the mirror pages. -/

namespace Sys2Proof.Machine

/-- A mask of `n` bits. -/
def bitsIf (n : Nat) (f : Nat → Bool) : Nat := (List.range n).foldl (fun (v : Nat) k => if f k then v + 2 ^ k else v) 0

/-- Byte `k` of a mask of the sources in a state (R415). -/
def State.icMask (s : State) (st : SrcState) (k : Nat) : Nat := bitsIf 8 (fun j => s.ic.src.toList.getD (8 * k + j) .idle == st)

/-- The level of source `i`, 0 to 127 (R413). -/
def State.icLevelOf (s : State) (i : Nat) : Bool := s.anyFlag (icFlags i)

/-- R419: the priority of IC_TOP. -/
def State.icTopPri (s : State) : Nat :=
  match icSource s.icTop with
  | none => 0
  | some i => s.icPrio i

/-- The bytes of a record, or zeros where there is none (R455). -/
def recByte (r : Option EventRec) (k : Nat) : Nat :=
  match r with
  | none => 0
  | some e => e.bytes.getD k 0

/-- R89: milliseconds of dwell left. -/
def State.dwellLeft (s : State) (b : Nat) : Nat :=
  match (s.bay b).dwellAt with
  | none => 0
  | some t => s.reg Reg.PH_DWELL - s.msSince t

/-- R113: G of a set in the viewed copy, with 29 fraction bits. -/
def State.gainShown (s : State) (active : Bool) (i : Nat) : Nat :=
  satNat 32 (toUnitNat ((coefOf (if active then s.regs else s.shad) (i / 16) (i % 16)).g * 536870912))

/-- R325: an entry of the pin table. -/
def State.pinShown (s : State) (k : Nat) : Nat :=
  match s.jrn.pins[k]? with
  | none => 0
  | some p => p.page + 256 * p.off + 65536 * (p.width + 128) + 2 ^ 32 * p.value

/-- R445: one byte of the OTP at an address: the device ID, the keys and the floor words stand there; the coding of the trims,
of a slot's state and ECC and of the lifecycle words is not given by any rule. -/
def State.otpByte (s : State) (a : Nat) : Nat :=
  if 0x400 ≤ a ∧ a < 0x410 then s.otp.devId.toNat / 256 ^ (a - 0x400) % 256
  else if 0x410 ≤ a ∧ a < 0x530 then
    let k := (a - 0x410) / 72
    let j := (a - 0x410) % 72
    match s.otp.keys.toList[k]? with
    | none => 0
    | some q => if j < 64 then (q.key.getD j 0).toNat else Config.otpByte a q.st.code % 256
  else if 0x530 ≤ a ∧ a < 0x570 then
    match s.otp.floors[(a - 0x530) / 4]? with
    | none => Config.otpByte a 0 % 256
    | some v => v / 256 ^ ((a - 0x530) % 4) % 256
  else if 0x570 ≤ a ∧ a < 0x580 then Config.otpByte a s.otp.lifecycle % 256
  else Config.otpByte a 0 % 256

/-- R445: a byte of the OTP window; what an address that is no multiple of 32, or beyond 4,064, shows is not said. -/
def State.otpWindow (s : State) (k : Nat) : Nat :=
  let a := s.reg Reg.SEC_OTPADDR
  if a % 32 = 0 ∧ a ≤ 4064 then s.otpByte (a + k) else Config.otpByte (4096 + 32 * a + k) 0 % 256

/-- R453: an episode of exhaustion, a short allocation and the other alarms that no register holds. -/
def State.elowAlarm (s : State) : Bool := s.mode == modeHoldup && decide (s.eLowSum < (s.reg Reg.HUP_ELOW : Nat))

/-- The fields that follow other state (R49, R74, R96, R126, R194, R242, R325, R364, R365, R410, R423, R445, R453, R455). -/
def stateViews : List (Field × (State → Nat → Nat)) :=
  [(Reg.WHL_ANGLE, fun s _ => s.angle), (Reg.PH_DWELL_LEFT, fun s b => s.dwellLeft b),
   (Reg.CAP_CT_GRANT, fun s i => (s.grantBytes (i / 12)).getD (i % 12) 0),
   (Reg.GL_MODE_TIME, fun s _ => s.msSince s.core.modeAt % 2 ^ 32),
   (Reg.GL_SHIPNOTE, fun s k => s.vka.note.getD k 0), (Reg.GL_SHIPNOTE_RO, fun s k => s.vka.note.getD (48 + k) 0),
   (Reg.REC_LASTREC, fun s k => recByte s.log.last k), (Reg.REC_LASTHI, fun s k => recByte s.log.lastHi k),
   (Reg.REC_QLEN, fun s _ => s.log.queue.length), (Reg.REC_WREC, fun s k => recByte s.log.winRec k),
   (Reg.REC_SNWIN, fun s k => s.log.snWin.getD k 0xFF), (Reg.IMG_PINTAB, fun s k => s.pinShown k),
   (Reg.S_PTR, fun s _ => s.portS.ptr),
   (Reg.IC_CLAIM, fun s _ => s.icTop), (Reg.IC_TOP, fun s _ => s.icTop), (Reg.IC_TOPPRI, fun s _ => s.icTopPri),
   (Reg.IC_HOLDRUN, fun s _ => bitsIf 16 (fun g => (s.ic.timer.toList.getD g none).isSome)),
   (Reg.IC_LEVEL, fun s k => bitsIf 8 (fun j => s.icLevelOf (8 * k + j))),
   (Reg.IC_PEND, fun s k => s.icMask .pending k), (Reg.IC_ACTIVE, fun s k => s.icMask .active k),
   (Reg.IC_HELD, fun s k => s.icMask .held k), (Reg.SEC_OTPWIN, fun s k => s.otpWindow k)]

/-- Page 01: each field mirrors its source (R453); the tick averages are stored at step 1 of R25. -/
def summaryViews : List (Field × (State → Nat → Nat)) :=
  let bit := fun (b : Bool) => if b then 1 else 0
  [(Reg.GL_SUM_MODE, fun s _ => s.mode), (Reg.GL_SUM_OWNER, fun s _ => s.reg Reg.GL_STAT_OWNER),
   (Reg.GL_SUM_IMGVALID, fun s _ => s.reg Reg.GL_STAT_IMGVALID), (Reg.GL_SUM_PROBATION, fun s _ => s.reg Reg.GL_STAT_PROBATION),
   (Reg.GL_SUM_GECKO, fun s _ => s.reg Reg.GL_STAT_GECKO), (Reg.GL_SUM_ALERT, fun s _ => bit s.halert),
   (Reg.GL_SUM_STAGE, fun s _ => s.reg Reg.HUP_STAT_STAGE), (Reg.GL_SUM_WHEEL, fun s _ => s.reg Reg.WHL_STAT_STATE),
   (Reg.GL_IRQTOP, fun s _ => s.icTop), (Reg.GL_IRQPRI, fun s _ => s.icTopPri),
   (Reg.GL_LVLGRP, fun s _ => bitsIf 16 (fun g => (List.range 8).any (fun j => s.icLevelOf (8 * g + j)))),
   (Reg.GL_OPSEC, fun s _ => s.reg Reg.JRN_OPSEC), (Reg.GL_MS, fun s _ => s.msSince s.core.porAt % 2 ^ 32),
   (Reg.GL_ANGLE, fun s _ => s.angle), (Reg.GL_CYC, fun s _ => s.reg Reg.WHL_CYC), (Reg.GL_TDIE, fun s _ => s.reg Reg.THM_DIE),
   (Reg.GL_BAYACT, fun s _ => bitsIf 8 (fun b => s.bst b == bayJoin || s.bst b == bayActive || s.bst b == bayLeave)),
   (Reg.GL_BAYPG, fun s _ => s.reg Reg.FUS_PG % 256), (Reg.GL_STRPG, fun s _ => s.reg Reg.FUS_PG / 256),
   (Reg.GL_STRCHG, fun s _ => s.reg Reg.BST_CHARGING), (Reg.GL_PACE, fun s _ => bitsIf 16 (fun g => s.paceOut g == Level.low)),
   (Reg.GL_LATCH, fun s _ => s.reg Reg.FUS_LATCHED), (Reg.GL_ALARM_SHORT, fun s _ => bit s.cap.shortTold),
   (Reg.GL_ALARM_EXHAUST, fun s _ => bit s.cap.exhausted), (Reg.GL_ALARM_ELOW, fun s _ => bit s.elowAlarm),
   (Reg.GL_ALARM_HELD, fun s _ => bit s.hup.holdEnd.isSome),
   (Reg.GL_ALARM_DERATE, fun s _ => bit (decide (s.reg Reg.CAP_THDER < 256))),
   (Reg.GL_ALARM_DIETHR, fun s _ => s.reg Reg.THM_STAT_DIETHR),
   (Reg.GL_ALARM_PUNFIT, fun s _ => bit (s.isSet Reg.TWN_CFG_EN && !s.isSet Reg.TWN_STAT_PFIT)),
   (Reg.GL_ALARM_NOFLASH, fun s _ => s.reg Reg.JRN_STAT_NOFLASH)]

/-- The value of a field that follows other state; none for a stored one. -/
def State.viewOf (s : State) (f : Field) (i : Nat) : Option Nat :=
  match (stateViews ++ summaryViews).find? (fun v => v.1.place == f.place) with
  | none => none
  | some v => some (v.2 s i)

/-- A selector or VIEW field as port `p` has it: the debug port has its own (R433). -/
def State.sel (s : State) (p : PortId) (f : Field) : Nat := if p = .d then fieldGet s.sec.sel f 0 else s.reg f

/-- R317: whether a window's VIEW field selects the active copy. -/
def viewActive (sel : Field → Nat) (w : Win) : Bool :=
  match w with
  | .cal => sel Reg.WHL_CAL_CTL_VIEW == 1
  | .leSet => sel Reg.LE_CS_VIEW == 1
  | .leTab => sel Reg.LE_CS_VIEW == 1
  | .trkBay => sel Reg.TRK_LT_VIEW == 1
  | .capCt => sel Reg.CAP_CT_VIEW == 1
  | _ => false

/-- What a read of instance `i` of a field shows: a WO field 0 (R9), a SHADOW field its shadow copy or the one VIEW selects. -/
def State.fieldShown (s : State) (sel : Field → Nat) (f : Field) (i : Nat) : Nat :=
  if f.acc = .wo then 0
  else if isSelector f then sel f
  else if f.place = Reg.LE_GDC.place then s.gainShown (viewActive sel f.win) i
  else match s.viewOf f i with
    | some v => v
    | none => if f.cls == Cls.shadow && !viewActive sel f.win then s.shadAt f i else s.regAt f i

/-- R457: the page a mirror shows, and its selectors; offsets outside its range show nothing. -/
def mirrorOf (sel : Field → Nat) (page off : Nat) : Nat × (Field → Nat) :=
  if 0x40 ≤ page ∧ page ≤ 0x47 then
    (if 0x20 ≤ off ∧ off ≤ 0x64 then 0x12 else 0xFE, fun f => if f.place = Reg.LE_BAY_IDX.place then page - 0x40 else sel f)
  else if 0x48 ≤ page ∧ page ≤ 0x4F then
    (if 0x20 ≤ off ∧ off ≤ 0x7F then 0x1B else 0xFE, fun f => if f.place = Reg.BST_IDX.place then page - 0x48 else sel f)
  else (page, sel)

/-- The byte a page shows at an offset below 0xFF, live (R449-R451, R457). -/
def State.byteShown (s : State) (sel : Field → Nat) (page off : Nat) : Nat :=
  let m := mirrorOf sel page off
  (fieldsAt m.1 off).foldl (fun (v : Nat) f =>
    match f.locate m.2 off with
    | none => v
    | some (i, k) => v + f.byteOf (s.fieldShown m.2 f i) k) 0

/-- How many bytes a read of the byte at an offset latches: the block of page 01, of page 24, the capsule, or the field whose
lowest byte it is (R397, R453, R360, R258); 0 for none. -/
def latchSpan (page off : Nat) : Nat :=
  let src := (mirrorOf (fun _ => 0) page off).1
  if page = 0x01 ∧ off = 0 then 0x29
  else if page = 0x24 ∧ off = 4 then 0x7E
  else if page = 0x1D ∧ off = 0 then 128
  else
    (fieldsAt src off).foldl (fun (n : Nat) f =>
      match f.at? off with
      | some (_, 0) => if 1 < f.nbytes then max n f.nbytes else n
      | _ => n) 0

end Sys2Proof.Machine
end

