-- ==== Sys2Proof/Machine/PortWrite.lean ====
section
/-! DEFINITION. Writes on the ports (R394-R396, R400, R402, R403): how a byte reaches its field, what each access type and class makes
of a field's value (R9, R10, R317-R320, R377, R434), and what a stop sets going (R259, R318, R352, R431). -/

namespace Sys2Proof.Machine

/-- Two fields are the same one. -/
def Field.is (f g : Field) : Bool := f.place == g.place

/-- The blocks of R317: pages whose SHADOW fields commit together. -/
def blockOf (page : Nat) : Nat :=
  if page = 0x11 then 0x10
  else if page = 0x13 then 0x12
  else if page = 0x15 ∨ page = 0x16 then 0x14
  else if page = 0x19 then 0x18
  else if page = 0x1D ∨ page = 0x1E then 0x1C
  else if page = 0x27 then 0x26
  else page

/-- The log and snapshot cursors, which move a window (R352, R365). -/
def isCursor (f : Field) : Bool :=
  f.is Reg.REC_CURREG_REGION || f.is Reg.REC_CURREG_AUTO || f.is Reg.REC_CURSEQ || f.is Reg.REC_SNSLOT || f.is Reg.REC_SNOFS

/-- R377: this chip is a standby, and the field is one it refuses. -/
def State.standbyRefuses (s : State) (f : Field) : Bool :=
  s.mode == modeShadow && f.acc == .rw && f.page != 0x34 && f.page != 0x35 && !isSelector f && !isCursor f

/-- R320: no image in force in TADPOLE, or a load in progress. -/
def State.loadBars (s : State) : Bool := (s.mode == modeTadpole && !s.imgValid) || s.isSet Reg.IMG_STAT_LOADING

/-- R320: a write to the field is refused by its class. -/
def State.classRefuses (s : State) (f : Field) : Bool :=
  f.acc == .rw && (f.cls == Cls.static || (f.cls == Cls.shadow && s.loadBars))

/-- R320: a refused write leaves its traces; the event comes at most once a second. -/
def State.noteRefusal (s : State) (page off : Nat) : State :=
  let at_ := page * 256 + off
  let last := (s.now :: s.img.staticLast).filter (fun t => s.now < t + edgeSec)
  let s := ({ s with img.staticLast := last }.put Reg.IMG_STATICW_AT at_).bump Reg.IMG_STATICW_CNT |>.flag Reg.IMG_FLAGS_STATICW
  let due := match s.img.staticAt with
    | none => true
    | some t => s.elapsed t edgeSec
  if due then
    let s := { s with img.staticAt := some s.now }
    if s.loadBars then s.raise 0x7311 2 0x0E at_ (if s.isSet Reg.IMG_STAT_LOADING then 1 else 0)
    else s.raise 0x7310 2 0x0E at_ last.length
  else s

/-- R377: a write the standby refuses. -/
def State.standbyRefused (s : State) (page off : Nat) : State :=
  (s.flag Reg.TWN_FLAGS_REFUSED).raise 0x9152 2 0x14 (page + 256 * off) 0

/-- The key and the command of a two-byte command register. -/
def keyOf (v : Nat) : Byte := BitVec.ofNat 8 v
def cmdOf (v : Nat) : Nat := v / 256 % 256

/-- GL_CMD (R61, R74). -/
def State.glCommand (s : State) (v : Nat) : State :=
  s.modeCommand (keyOf v) (fun s => match cmdOf v with
    | 1 => s.reload
    | 2 => s.revert
    | 3 => s.lockoutCommand
    | 4 => s.resumeCommand
    | 5 => s.shipCommand
    | _ => s)

/-- REC_CMD (R364). -/
def State.recCommand (s : State) (v : Nat) : State :=
  match cmdOf v with
  | 1 => s.recClear false (keyOf v)
  | 2 => s.recClear true (keyOf v)
  | 3 => s.recSnapshot (keyOf v)
  | 4 => s.recFlush (keyOf v)
  | _ => if recKeyOk (keyOf v) then s else s.put Reg.REC_CMDRES 3

/-- IMG_UPCMD (R306). -/
def State.imgCommand (s : State) (v : Nat) : State :=
  s.upCommand (keyOf v) (fun s => match cmdOf v with
    | 0x10 => s.uploadOpen
    | 0x11 => s.uploadClose
    | 0x12 => s.uploadAbort
    | _ => s)

/-- IMG_PINCMD (R322). -/
def State.pinCmd (s : State) (v : Nat) : State :=
  s.pinCommand (keyOf v) (fun s => match cmdOf v with
    | 1 => s.pinSet
    | 2 => s.pinClear
    | 3 => s.pinClearAll
    | _ => s)

/-- TWN_CMD (R387). -/
def State.twnCommand (s : State) (v : Nat) : State :=
  s.twinCommand (keyOf v) (fun s => match cmdOf v with
    | 1 => s.switchover
    | 2 => s.resync
    | _ => s)

/-- BST_CMD for string `k` (R240). -/
def State.bstCommand (s : State) (k v : Nat) : State :=
  match cmdOf v with
  | 1 => s.strStart k (keyOf v)
  | 2 => s.strStop k (keyOf v)
  | 3 => s.strClear k (keyOf v)
  | _ => if keyOf v = 0xA5 then s else s.putAt Reg.BST_CMDRES k 3

/-- SEC_CMD from port `p` (R426). -/
def State.secWrite (s : State) (p : PortId) (v : Nat) : State :=
  let c : SecCmd := ⟨p, BitVec.ofNat 8 v, BitVec.ofNat 8 (v / 65536), BitVec.ofNat 16 (v / 2 ^ 24)⟩
  match cmdOf v with
  | 0x01 => s.secProvision c
  | 0x02 => s.secDeploy c
  | 0x03 => s.secRma c
  | 0x10 => s.secKeyprog c
  | 0x11 => s.secRevoke c
  | 0x20 => s.secHalt c
  | 0x21 => s.secDebugResume c
  | 0x22 => s.secTpOn c
  | 0x23 => s.secTpOff c
  | 0x30 => s.secDropToken c
  | _ => if p = .h ∧ c.key ≠ 0xA5 then s.put Reg.SEC_CMDRES 3 else s

/-- A WO field takes its value (R9): the command registers act by the rules of their commands. -/
def State.woWrite (s : State) (p : PortId) (f : Field) (i v : Nat) : State :=
  if f.is Reg.GL_CMD then s.glCommand v
  else if f.is Reg.PH_TRIMRST then s.trimReset i (keyOf v)
  else if f.is Reg.LE_SHCTL then s.leShctl v
  else if f.is Reg.LE_FECLR then s.feClear i (keyOf v)
  else if f.is Reg.SHR_SPCMD then s.spCommand (v % 65536) (v / 65536 % 65536) (v / 2 ^ 32)
  else if f.is Reg.BST_CMD then s.bstCommand i v
  else if f.is Reg.EST_RSTG then s.stageByte i v
  else if f.is Reg.FUS_CLR then s.fusClr i (keyOf v)
  else if f.is Reg.REC_CMD then s.recCommand v
  else if f.is Reg.IMG_UPCMD then s.imgCommand v
  else if f.is Reg.IMG_PINCMD then s.pinCmd v
  else if f.is Reg.TWN_CMD then s.twnCommand v
  else if f.is Reg.IC_COMPLETE then s.icComplete v
  else if f.is Reg.SEC_DBGREQ then (if p = .d then s.debugRequest v else s)
  else if f.is Reg.SEC_CMD then s.secWrite p v
  else if f.is Reg.SEC_KEYSTG then s.putAt f i v
  else if f.is Reg.SEC_OTPADDR then (if p = .d then s.put f v else s)
  else s

/-- The selectors that show bank `n` of a window, with their values. -/
def selectorsOf (w : Win) (n : Nat) : List (Field × Nat) :=
  match w with
  | .none => []
  | .cal => [(Reg.WHL_CAL_IDX, n)]
  | .phBay => [(Reg.PH_BAY_IDX, n)]
  | .phCh => [(Reg.PH_PH_IDX, n)]
  | .leBay => [(Reg.LE_BAY_IDX, n)]
  | .leSet => [(Reg.LE_CS_BAY, n / 16), (Reg.LE_CS_SET, n % 16)]
  | .leTab => [(Reg.LE_CS_BAY, n)]
  | .trkBay => [(Reg.TRK_LT_BAY, n)]
  | .capCt => [(Reg.CAP_CT_IDX, n)]
  | .bstStr => [(Reg.BST_IDX, n)]
  | .estStr => [(Reg.EST_IDX, n)]
  | .estExp => [(Reg.EST_XIDX, n)]
  | .fusCh => [(Reg.FUS_IDX, n)]
  | .thmSen => [(Reg.THM_IDX, n)]
  | .tlmWin => [(Reg.TLM_WSEL, n)]

/-- R377: the active tells its standby of a configuration change: the selectors of a window first, then the field, four bytes a
record. -/
def State.tellField (s : State) (f : Field) (i v : Nat) : State :=
  if !s.active || f.page == 0x34 || f.page == 0x35 then s
  else
    let off := f.off + f.stride * (i % f.count)
    let w := (v % 2 ^ f.width) <<< f.lsb
    let s := (selectorsOf f.win (i / f.count)).foldl (fun s x => s.sendReg x.1.page x.1.off 1 x.2) s
    (List.range ((f.nbytes + 3) / 4)).foldl (fun s k =>
      s.sendReg f.page (off + 4 * k) (min 4 (f.nbytes - 4 * k)) (w / 256 ^ (4 * k) % 2 ^ 32)) s

/-- A LIVE field takes its value (R10). -/
def State.liveWrite (s : State) (p : PortId) (f : Field) (i v : Nat) : State :=
  if isSelector f then
    if p = .d then { s with sec.sel := fieldPut s.sec.sel f i v } else s.putAt f i v
  else if f.is Reg.GL_SHIPNOTE then { s with vka.note := setBytes s.vka.note i [v] }
  else if f.is Reg.EST_RIDX then s.ridxWrite v
  else if f.is Reg.REC_CURREG_AUTO then s.put f v
  else if f.is Reg.REC_CURREG_REGION ∨ f.is Reg.REC_CURSEQ then (s.put f v).logFetch
  else if f.is Reg.REC_SNSLOT ∨ f.is Reg.REC_SNOFS then { s.put f v with log.snFetchAt := some s.now }
  else (s.putAt f i v).tellField f i v

/-- A value reaches the shadow copy (R317); a contract record is checked by R178 first (R194). -/
def State.shadowWrite (s : State) (f : Field) (i v : Nat) : State :=
  if f.is Reg.CAP_CT_REC then s.contractWrite (natBytes 16 v)
  else ((s.putShad f i v).touch f.page).tellField f i v

/-- The field at a place. -/
def fieldOf (place : Nat) : Option Field := (pageFields (place / 2048)).find? (fun f => f.place == place)

/-- A write that waited for the stop acts: a SHADOW field in its shadow copy, any other field as LIVE. -/
def State.delayed (p : PortId) (s : State) (w : Buffered) : State :=
  match fieldOf w.place with
  | none => s
  | some f =>
    if f.cls == Cls.shadow then s.shadowWrite f w.inst w.value
    else if f.acc == .wo then s.woWrite p f w.inst w.value
    else s.liveWrite p f w.inst w.value

/-- Change a port. -/
def State.onPort (s : State) (p : PortId) (g : Port → Port) : State := s.setPort p (g (s.port p))

/-- R318: a LIVE field written after a SHADOW field of its block waits for the stop; selectors apply at once (R451). -/
def State.waits (s : State) (p : PortId) (f : Field) : Bool :=
  !isSelector f && (s.port p).buf.any (fun w => blockOf (w.place / 2048) == blockOf f.page)

/-- A field's whole value has been acknowledged: by access type and class (R9, R10). -/
def State.fieldWrite (s : State) (p : PortId) (f : Field) (i v : Nat) : State :=
  match f.acc with
  | .w1c => s.putAt f i (s.regAt f i &&& ((2 ^ f.width - 1) ^^^ v))
  | .wo =>
    if s.waits p f then s.onPort p (fun q => { q with late := q.late ++ [⟨f.place, i, v⟩] }) else s.woWrite p f i v
  | .rw =>
    if f.cls == Cls.shadow then s.onPort p (fun q => { q with buf := q.buf ++ [⟨f.place, i, v⟩] })
    else if s.waits p f then s.onPort p (fun q => { q with late := q.late ++ [⟨f.place, i, v⟩] })
    else s.liveWrite p f i v
  | _ => s

/-- R396: a byte of a multi-byte field: the value once every byte has come in ascending order. -/
def Port.gather (q : Port) (f : Field) (i k b : Nat) : Port × Option Nat :=
  let run := match q.part with
    | some r => if r.page = f.page ∧ r.off = f.place ∧ r.inst = i ∧ r.bytes.length = k then some r.bytes else none
    | none => none
  let bytes := if k = 0 then some [b] else run.map (fun l => l ++ [b])
  match bytes with
  | none => ({ q with part := none }, none)
  | some l =>
    if l.length = f.nbytes then ({ q with part := none }, some ((natOfBytes l >>> f.lsb) % 2 ^ f.width))
    else ({ q with part := some ⟨f.page, f.place, i, l⟩ }, none)

/-- A byte of an area that is taken whole: the run from its first byte, empty where it is broken. -/
def Port.run (q : Port) (page k b : Nat) : Port :=
  let old := match q.area with
    | some r => if r.page = page then r.bytes else []
    | none => []
  let l := if k = 0 then [b] else if old ≠ [] ∧ old.length = k then old ++ [b] else []
  { q with area := some ⟨page, 0, 0, l⟩ }

/-- The bytes of a run. -/
def Port.runBytes (q : Port) (page : Nat) : List Nat :=
  match q.area with
  | some r => if r.page = page then r.bytes else []
  | none => []

/-- One located field takes one byte: areas of R194, R259, R307 and R431 gather their bytes; others by R396. Refusals are
judged before. -/
def State.fieldByte (p : PortId) (b : Nat) (s : State) (x : Field × Nat × Nat) : State :=
  let (f, i, k) := x
  if f.is Reg.SEC_TOKEN then s.onPort p (fun q => q.run 0x3E i b)
  else if f.is Reg.IMG_UPDATA then
    let s := s.onPort p (fun q => q.run 0x30 i b)
    let l := (s.port p).runBytes 0x30
    if l.length = 128 then s.uploadChunk (l.map (BitVec.ofNat 8)) else s
  else if f.is Reg.EST_RSTG then
    (s.stageByte i b).onPort p (fun q => if i = 127 then { q with commit127 := some true } else q)
  else if f.is Reg.CAP_CT_REC then
    let s := s.onPort p (fun q => q.run 0x19 (i % 16) b)
    let l := (s.port p).runBytes 0x19
    if l.length = 16 then s.onPort p (fun q => { q with buf := q.buf ++ [⟨f.place, i, natOfBytes l⟩] }) else s
  else if f.nbytes = 1 then s.fieldWrite p f i ((b >>> f.lsb) % 2 ^ f.width)
  else
    let (q, v) := (s.port p).gather f i k b
    let s := s.setPort p q
    match v with
    | none => s
    | some v => s.fieldWrite p f i v

/-- The fields a byte reaches, each with its instance and byte: none where the window shows no index (R451). -/
def State.reached (s : State) (p : PortId) (page off : Nat) : List (Field × Nat × Nat) :=
  (fieldsAt page off).filterMap (fun f => (f.locate (s.sel p) off).map (fun x => (f, x.1, x.2)))

/-- R434: whether the debug port takes a write of the field; the rest is discarded. -/
def State.debugTakes (s : State) (f : Field) : Bool :=
  isSelector f || f.is Reg.SEC_TOKEN || f.is Reg.SEC_DBGREQ ||
    (s.reg Reg.SEC_DBGLVL_LEVEL == 2 && (f.is Reg.SEC_OTPADDR || f.is Reg.SEC_CMD))

/-- The write of PAGE (R6, R395); on port H an estimator page wakes the estimator (R256). -/
def State.pageWrite (s : State) (p : PortId) (b : Nat) : State :=
  let s := s.onPort p (fun q => { q with page := b, part := none })
  if p = .h ∧ 0x1C ≤ b ∧ b ≤ 0x1E then s.estPage else s

/-- A refused field: at its last byte it leaves one trace (R320, R377). -/
def State.refuseWrite (s : State) (page off : Nat) (xs : List (Field × Nat × Nat)) : State :=
  let last := xs.filter (fun (x : Field × Nat × Nat) => x.2.2 + 1 == x.1.nbytes)
  if last.any (fun (x : Field × Nat × Nat) => s.standbyRefuses x.1) then s.standbyRefused page off
  else if last.isEmpty then s
  else s.noteRefusal page off

/-- An acknowledged byte takes effect at an offset of the port's page (R396). -/
def State.takeByte (p : PortId) (s : State) (w : Nat × Nat) : State :=
  let (off, b) := w
  let page := (s.port p).page
  let s := s.onPort p (fun q => { q with commit127 := q.commit127.map (fun _ => false) })
  if off = 0xFF then s.pageWrite p b
  else
    let xs := s.reached p page off
    let xs := if p = .d then xs.filter (fun (x : Field × Nat × Nat) => s.debugTakes x.1) else xs
    let bad := xs.filter (fun (x : Field × Nat × Nat) => s.standbyRefuses x.1 || s.classRefuses x.1)
    let good := xs.filter (fun (x : Field × Nat × Nat) => !(s.standbyRefuses x.1 || s.classRefuses x.1))
    let s := if good.isEmpty then s.onPort p (fun q => { q with part := none }) else s
    good.foldl (State.fieldByte p b) (if bad.isEmpty then s else s.refuseWrite page off bad)

/-- The pointer after a data byte (R395); on port S the mailbox offset (R394). -/
def nextPtr (p : PortId) (ptr : Nat) : Nat := if p = .s then ptr + 1 else if 0xFE ≤ ptr then 0 else ptr + 1

/-- PEC is applied to writes on the port (R402). -/
def State.pecWr (s : State) (p : PortId) : Bool :=
  match p with
  | .h => s.isSet Reg.H_CFG_PECWR
  | .s => s.isSet Reg.S_CFG_PECWR
  | .d => false

/-- A byte of the mailbox acts (R177, R178): the record commits with its byte 0x0F. -/
def State.mailByte (s : State) (w : Nat × Nat) : State :=
  let (off, b) := w
  if 16 ≤ off then s
  else
    let s := s.onPort .s (fun q => q.run 0x100 off b)
    let l := (s.port .s).runBytes 0x100
    if l.length = 16 then s.mailbox l else s

/-- A byte that reaches a shadow copy; the buffer holds 256 of them (R318). -/
def State.shadowByte (s : State) (p : PortId) : Bool :=
  let q := s.port p
  p == .h && q.ptr != 0xFF && (s.reached p q.page q.ptr).any (fun (x : Field × Nat × Nat) =>
    x.1.acc == .rw && x.1.cls == Cls.shadow && !s.standbyRefuses x.1 && !s.classRefuses x.1)

/-- Whether the port acknowledges the next data byte of a write (R318, R394, R403). -/
def State.acks (s : State) (p : PortId) : Bool :=
  let q := s.port p
  if p = .d then true
  else s.supUp && (if p = .s then decide (q.ptr ≤ 0x13) else !(s.shadowByte p && decide (256 ≤ q.bufBytes)))

/-- One data byte of a write; the answer says whether it was acknowledged. -/
def State.portByte (s : State) (p : PortId) (b : Nat) : State × Bool :=
  let q := s.port p
  if !s.acks p then (s, false)
  else
    let w := (q.ptr, b)
    let n := if s.shadowByte p then q.bufBytes + 1 else q.bufBytes
    let s := s.onPort p (fun q => { q with bytes := b :: q.bytes, ptr := nextPtr p q.ptr, bufBytes := n })
    if s.pecWr p then (s.onPort p (fun q => { q with heldWrites := q.heldWrites ++ [w] }), true)
    else if p = .s then (s.mailByte w, true)
    else (State.takeByte p s w, true)

/-- The data bytes of a write, up to the first that is not acknowledged. -/
def State.portBytes (s : State) (p : PortId) : List Nat → State
  | [] => s
  | b :: bs =>
    match s.portByte p b with
    | (s, true) => s.portBytes p bs
    | (s, false) => s

/-- R402: a PEC that does not match: every write of the transaction is discarded. -/
def State.pecBad (s : State) (p : PortId) (got want : Nat) : State :=
  let s := (s.portFlag p 1).bump (if p = .s then Reg.S_PECCNT else Reg.H_PECCNT)
  s.raise 0x6220 2 0x11 (portNo p) (got + 256 * want)

/-- R402: the writes held for the PEC, at the stop. -/
def State.heldAct (s : State) (p : PortId) : State :=
  let q := s.port p
  match q.heldWrites.getLast?, q.bytes with
  | some (_, got), _ :: rest =>
    let want := crc8 rest.reverse
    let ws := q.heldWrites.dropLast
    let s := s.onPort p (fun q => { q with heldWrites := [] })
    if got = want then (if p = .s then ws.foldl State.mailByte s else ws.foldl (State.takeByte p) s) else s.pecBad p got want
  | _, _ => s

/-- R396, R318: what acts at a P or an Sr: held writes, buffered shadow writes and what waited for them, a token, a restore,
the log cursor. -/
def State.stopActs (s : State) (p : PortId) : State :=
  let s := s.heldAct p
  let q := s.port p
  let s := s.onPort p (fun q => { q with buf := [], late := [] })
  let s := q.late.foldl (State.delayed p) (q.buf.foldl (State.delayed p) s)
  let s := match q.area with
    | some r => if r.page = 0x3E then s.tokenSubmit p (r.bytes.map (BitVec.ofNat 8)) else s
    | none => s
  let s := match q.commit127 with
    | some last => s.capsuleCommit last
    | none => s
  s.logAdvance

/-- The transaction is over: what was gathered and not complete is discarded (R396). -/
def State.portClose (s : State) (p : PortId) : State :=
  s.onPort p (fun q => { q with open_ := false, writing := false, part := none, area := none, commit127 := none, latches := [],
                                heldWrites := [], buf := [], late := [], bufBytes := 0, bytes := [] })

/-- A P or an Sr ends the transaction under way (R396). -/
def State.portEnd (s : State) (p : PortId) : State := if (s.port p).open_ then (s.stopActs p).portClose p else s

/-- The port's address with its R/W bit (R392, R393, R433). -/
def State.addrByte (s : State) (p : PortId) (write : Bool) : Nat :=
  let a := match p with
    | .h => s.reg Reg.H_ADDR
    | .s => s.reg Reg.CAP_SBASE
    | .d => 0x3A
  2 * a + (if write then 0 else 1)

/-- Whether the port acknowledges its address: port S only on the owner, and not in SHADOW (R177, R392). -/
def State.answers (s : State) (p : PortId) : Bool :=
  match p with
  | .h => s.booted
  | .s => s.booted && s.owner && s.mode != modeShadow
  | .d => true

/-- A transaction begins: an Sr ends the one under way. `kept` bytes stand before its address for the PEC (R402). -/
def State.portBegin (s : State) (p : PortId) (write : Bool) (kept : List Nat) : State :=
  let s := s.portEnd p
  let a := s.addrByte p write
  let s := s.onPort p (fun q => { q with open_ := true, writing := write, sent := [], sincePec := 0, bytes := a :: kept })
  if p = .h then s.put Reg.H_PTR (s.port p).ptr else s

/-- The pointer byte of a write (R394). -/
def State.pointer (s : State) (p : PortId) (off : Nat) : State := s.onPort p (fun q => { q with ptr := off, bytes := off :: q.bytes })

/-- REGISTER_WRITE (R394, R396): S or Sr, the address, the pointer, and data bytes. -/
def State.registerWrite (s : State) (p : PortId) (off : Nat) (d : List Nat) : State :=
  if s.answers p then ((s.portBegin p true []).pointer p off).portBytes p d else s

def execRegisterWrite (t : Edges) (p : PortId) (off : Byte) (d : List Byte) (s : State) : Host.Outcome State Fault Refusal :=
  live t s fun s => s.registerWrite p off.toNat (d.map BitVec.toNat)

/-- TRANSACTION_STOP (R396): a last acknowledged byte of a write, where one is still to come, then the P or Sr. -/
def State.transactionStop (s : State) (p : PortId) (last : Option Byte) : State :=
  let s := match last with
    | some b => if (s.port p).open_ && (s.port p).writing then s.portBytes p [b.toNat] else s
    | none => s
  s.portEnd p

def execTransactionStop (t : Edges) (p : PortId) (last : Option Byte) (s : State) : Host.Outcome State Fault Refusal :=
  live t s fun s => s.transactionStop p last

end Sys2Proof.Machine
end

