-- ==== Sys2Proof/Machine/Calendar.lean ====
section
/-! DEFINITION. The calendar (R44-R48): entries that come due as the wheel passes their angle, their actions, and the commit of
the shadow set. -/

namespace Sys2Proof.Machine

/-- R46: entry `e` fires at its angle in cycle `c`. -/
def State.calFires (s : State) (x : CalEntry) (c : Nat) : Bool :=
  x.enable && decide (s.wheel.c0 ≤ c ∧ (c - s.wheel.c0) % (x.every + 1) = 0) && (!x.lockedOnly || s.reg Reg.WHL_STAT_STATE == 2)

/-- R46: an entry that has not run when its angle comes round again is dropped. -/
def State.calDrop (s : State) (e : Nat) : State :=
  if s.wheel.due.any (fun d => d.1 == e) then
    let s := { s with wheel.due := s.wheel.due.filter (fun d => d.1 != e) }
    ((s.bump Reg.WHL_CAL_DROP).flag Reg.WHL_FLAGS_CALDROP).raise 0x2046 2 0x01 e (s.cal e).angle
  else s

/-- R46: the wheel passes the angle of entry `e` at position `p`, in cycle `p` div 65,536. -/
def State.calPass (s : State) (e p : Nat) : State :=
  let s := if (s.cal e).enable then s.calDrop e else s
  if s.calFires (s.cal e) (p / 65536) then { s with wheel.due := s.wheel.due ++ [(e, p)] } else s

/-- R46: one entry over the positions above `lo` up to `hi`, which are less than a cycle apart. -/
def State.calGatherOne (lo hi : Nat) (s : State) (e : Nat) : State :=
  let a := (s.cal e).angle
  let p1 := hi / 65536 * 65536 + a
  let p0 := p1 - 65536
  if lo < p1 ∧ p1 ≤ hi then s.calPass e p1
  else if 65536 ≤ p1 ∧ lo < p0 ∧ p0 ≤ hi then s.calPass e p0
  else s

/-- R46: the entries the wheel has passed up to position `hi` come due. -/
def State.calGather (s : State) (hi : Nat) : State :=
  let lo := s.wheel.gathered
  if lo < hi then { (List.range 256).foldl (State.calGatherOne lo hi) s with wheel.gathered := hi }
  else if hi + 2 ^ 40 < lo then { s with wheel.gathered := hi }
  else s

/-- R48: a calendar WRITE: the masked bits of a one-byte LIVE field, as a host write; a standby leaves it to its active (R376). -/
def State.calWrite (s : State) (arg : Nat) : State :=
  let page := arg % 256
  let off := arg / 256 % 256
  let v := arg / 65536 % 256
  let mask := arg / 2 ^ 24 % 256
  if s.mode = modeShadow then s
  else
    (s.reached .h page off).foldl (fun s (x : Field × Nat × Nat) =>
      let (f, i, _) := x
      let m := (mask >>> f.lsb) % 2 ^ f.width
      let old := if f.acc = .wo then 0 else s.fieldShown (s.sel .h) f i
      let new := (old &&& ((2 ^ f.width - 1) ^^^ m)) ||| (((v >>> f.lsb) % 2 ^ f.width) &&& m)
      if m = 0 then s else if f.acc = .wo then s.woWrite .h f i new else s.liveWrite .h f i new) s

/-- R45: the action of an entry. -/
def State.calAct (s : State) (x : CalEntry) : State :=
  match x.action with
  | 1 => s.calWrite x.arg
  | 2 => s.putBit Reg.WHL_CAL_FLAG (x.arg % 8) true
  | 3 => s.snapTrigger true 0 0 0 1 0
  | 4 => s.raise 0x2048 0 0x01 x.arg (s.reg Reg.WHL_CYC)
  | _ => s

/-- R46: lateness, in microseconds, of an entry due at position `p`. -/
def State.calLateness (s : State) (p : Nat) : Nat := (s.wheelPos - p) * 100000000 / (65536 * max 1 (s.reg Reg.WHL_FREQ))

/-- CALENDAR_ENTRY (R46): a due entry runs, after those of lower index on the same tick, while the supervisor runs. -/
def State.calRun (s : State) (e : Nat) : State :=
  let s := s.calGather s.wheelPos
  match s.wheel.due.find? (fun d => d.1 == e) with
  | none => s
  | some (_, p) =>
    if !s.supUp || s.wheel.due.any (fun d => d.2 == p && decide (d.1 < e)) then s
    else
      let s := { s with wheel.due := s.wheel.due.filter (fun d => d.1 != e) }
      (s.putSat Reg.WHL_CAL_LATE (max (s.reg Reg.WHL_CAL_LATE) (s.calLateness p))).calAct (s.cal e)

def execCalendarEntry (t : Edges) (e : Fin 256) (s : State) : Host.Outcome State Fault Refusal :=
  live t s fun s => if s.wheel.running then s.calRun e.val else s

/-- R47, R317: the commit of the wheel's shadow set at angle 0, after step 8 and before step 9; after it the copies are equal. -/
def State.calCommit (s : State) : State :=
  { s with regs := copyFields s.shad s.regs (pageFields 0x04) }.calAdopt

end Sys2Proof.Machine
end

