-- ==== Sys2Proof/Machine/PortRead.lean ====
section
/-! DEFINITION. Reads on the ports (R394, R397-R399, R402, R434): what a byte returns, what it latches, and the side effects of its
acknowledge. -/

namespace Sys2Proof.Machine

/-- R434, R445: whether the port shows a page; a page it does not show reads 0. -/
def State.pageOpen (s : State) (p : PortId) (page : Nat) : Bool :=
  match p with
  | .d =>
    let lvl := s.reg Reg.SEC_DBGLVL_LEVEL
    if page = 0x3E then true else if page = 0x3F then lvl == 2 else lvl != 0
  | _ => page != 0x3F

/-- A byte that waits for a fetch: the log window and its sequence (R352), the snapshot window (R365). -/
def State.fetching (s : State) (page off : Nat) : Bool :=
  (page == 0x26 && s.log.fetchAt.isSome && ((Reg.REC_WREC.at? off).isSome || (Reg.REC_WSEQ.at? off).isSome)) ||
  (page == 0x27 && s.log.snFetchAt.isSome && (Reg.REC_SNWIN.at? off).isSome)

/-- R398: a stretched byte is sent once its fetch is complete. -/
def State.fetchNow (s : State) (page : Nat) : State := if page = 0x26 then s.logFetched else s.snapFetched

/-- The byte a latch of this transaction holds (R397). -/
def latchedByte (ls : List Latch) (page off : Nat) : Option Nat :=
  match ls.find? (fun l => l.page == page && decide (l.off ≤ off) && decide (off < l.off + l.bytes.length)) with
  | none => none
  | some l => some (l.bytes.getD (off - l.off) 0)

/-- R9, R397: the RC fields whose lowest byte was read clear or restart; never through a mirror (R457). -/
def State.readClears (s : State) (sel : Field → Nat) (page off : Nat) : State :=
  (fieldsAt page off).foldl (fun s f =>
    if f.acc = .rc then
      match f.locate sel off with
      | some (i, 0) => s.putAt f i (f.reset i)
      | _ => s
    else s) s

/-- R352, R397, R416: the other side effects of a byte's acknowledge: a claim, the cursor's advance. -/
def State.readActs (s : State) (page off : Nat) : State :=
  if page = 0x3C ∧ off = 0 then s.icClaim
  else if page = 0x26 ∧ off = 0x5F ∧ s.isSet Reg.REC_CURREG_AUTO then { s with log.advance := true }
  else s

/-- R430: a read of byte 20 of page 3E draws a nonce; what the random source gives is free. -/
def State.drawNonce (s : State) : State :=
  let (v, s) := s.takeFree
  let n : BitVec 128 := BitVec.ofNat 128 v
  { s with sec.nonce := some (n, s.now) }.put Reg.SEC_NONCE n.toNat

/-- The byte at the pointer, live, with its latch and its side effects (R397). -/
def State.readLive (s : State) (p : PortId) (page off : Nat) : Nat × State :=
  let s := if page = 0x3E ∧ off = 0x20 then s.drawNonce else s
  let s := if s.fetching page off then s.fetchNow page else s
  let v := s.byteShown (s.sel p) page off
  let n := latchSpan page off
  let l : Latch := ⟨page, off, (List.range n).map (fun k => s.byteShown (s.sel p) page (off + k))⟩
  let s := if n = 0 then s else s.onPort p (fun q => { q with latches := l :: q.latches })
  (v, (s.readClears (s.sel p) page off).readActs page off)

/-- The data byte port H or the debug port returns next. -/
def State.readByte (s : State) (p : PortId) : Nat × State :=
  let q := s.port p
  if q.ptr = 0xFF then (q.page, s)
  else if !s.pageOpen p q.page then (0, s)
  else match latchedByte q.latches q.page q.ptr with
    | some v => (v, s.readActs q.page q.ptr)
    | none => s.readLive p q.page q.ptr

/-- R177: the mailbox's status at 0x10-0x13; what 0x00-0x0F read back no rule says; 0xFF beyond 0x13 (R394). -/
def State.mailShown (s : State) (off : Nat) : Nat × State :=
  if off < 0x10 then
    let (v, s) := s.takeFree
    (v % 256, s)
  else if off = 0x10 then (s.reg Reg.CAP_MBID, s)
  else if off = 0x11 then (s.reg Reg.CAP_MBRES, s)
  else if off = 0x12 then (s.reg Reg.CAP_MBSEQ, s)
  else if off = 0x13 then (0, s)
  else (0xFF, s)

/-- R177: the eight bytes of the shelf status. -/
def State.shelfStatus (s : State) : List Nat :=
  let bit := fun (b : Bool) (k : Nat) => if b then 2 ^ k else 0
  [s.mode, s.reg Reg.CAP_SRC_SOURCE % 4 + bit (s.isSet Reg.CAP_SRC_THERM) 2 +
    bit ((List.range 16).any (fun g => s.pq g != 0)) 3 + bit s.cap.shortTold 4] ++
    natBytes 4 (s.reg Reg.CAP_PAVAIL) ++ [s.reg Reg.JRN_PCC % 256, 0]

/-- A byte goes out on the wire. -/
def State.sendOut (s : State) (p : PortId) (v : Nat) (moves : Bool) : State :=
  s.onPort p (fun q => { q with sent := q.sent ++ [v], bytes := v :: q.bytes, sincePec := q.sincePec + 1,
                                ptr := if moves then (if p = .s ∧ 0x13 < q.ptr then q.ptr else nextPtr p q.ptr) else q.ptr })

/-- PEC is sent on reads, after this many data bytes (R402, R410); none where it is not. -/
def State.pecRd (s : State) (p : PortId) : Option Nat :=
  match p with
  | .h => if s.isSet Reg.H_CFG_PECRD then some (max 1 (min 32 (s.reg Reg.H_PECLEN))) else none
  | .s => if s.isSet Reg.S_CFG_PECRD then some (max 1 (min 32 (s.reg Reg.S_PECLEN))) else none
  | .d => none

/-- R399: a stretch has come to its limit: its flag, its counter, its event at most once a second. Condition 6 (R400). -/
def State.stretched (s : State) (p : PortId) : State :=
  let q := s.port p
  let at_ := q.page * 256 + q.ptr
  match p with
  | .d => s
  | _ =>
    let s := (s.portFlag p 2).bump (if p = .s then Reg.S_STRCNT else Reg.H_STRCNT)
    let s := (s.put (if p = .s then Reg.S_LASTAB_COND else Reg.H_LASTAB_COND) 6).putSat
      (if p = .s then Reg.S_LASTAB_BYTE else Reg.H_LASTAB_BYTE) q.bytes.length
    let due := match q.strAt with
      | none => true
      | some t => s.elapsed t edgeSec
    if due then (s.onPort p (fun q => { q with strAt := some s.now })).raise 0x6212 3 0x11 (portNo p) at_ else s

/-- R399: a value of 0 forbids stretching. -/
def State.mayStretch (s : State) (p : PortId) : Bool :=
  match p with
  | .h => s.isSet Reg.H_STRMAX
  | .s => s.isSet Reg.S_STRMAX
  | .d => true

/-- One byte of a read: a PEC, 0xFF after it (R402), 0xFF in place of a byte that may not be waited for (R399), or data. -/
def State.sendByte (p : PortId) (s : State) : State :=
  let q := s.port p
  let data := fun (s : State) =>
    if p = .s then
      let (v, s) := s.mailShown q.ptr
      s.sendOut p v true
    else if s.fetching q.page q.ptr && s.pageOpen p q.page && !s.mayStretch p then (s.stretched p).sendOut p 0xFF false
    else
      let (v, s) := s.readByte p
      s.sendOut p v true
  match s.pecRd p with
  | none => data s
  | some n =>
    if q.sincePec = n then s.sendOut p (crc8 q.bytes.reverse) false
    else if n < q.sincePec then s.sendOut p 0xFF false
    else data s

/-- `n` bytes of a read. -/
def State.sendBytes (p : PortId) : Nat → State → State
  | 0, s => s
  | n + 1, s => State.sendBytes p n (State.sendByte p s)

/-- REGISTER_READ (R394, R397): a combined read, which sets the pointer first, or a current read; a pointer alone stands before the
Sr for the PEC. -/
def State.registerRead (s : State) (p : PortId) (off : Option Nat) (n : Nat) : State :=
  if s.answers p then
    let s := match off with
      | some o => (s.portBegin p true []).pointer p o
      | none => s
    let q := s.port p
    let kept := if q.open_ && q.writing && q.bytes.length == 2 then q.bytes else []
    State.sendBytes p n (s.portBegin p false kept)
  else s

def execRegisterRead (t : Edges) (p : PortId) (off : Option Byte) (n : Nat) (s : State) : Host.Outcome State Fault Refusal :=
  live t s fun s => s.registerRead p (off.map BitVec.toNat) n

end Sys2Proof.Machine
end

