-- ==== Sys2Proof/Machine/Ports.lean ====
section
/-! DEFINITION. Transactions cut short (R399, R400), the alert response (R393), the ports as controllers (R405, R407, R408), and the register
images of a snapshot (R354, R356). -/

namespace Sys2Proof.Machine

/-- The codes of R400 for what cuts a transaction short. -/
def abortCode : AbortCond → Nat
  | .srInAddressAck => 1
  | .srInWriteAck => 2
  | .srForReadAck => 3
  | .withinByte => 4
  | .sclLow => 5

/-- R400: the traces of an abort; the debug port has no such registers (R433). -/
def State.abortTrace (s : State) (p : PortId) (code idx addr : Nat) : State :=
  match p with
  | .d => s
  | _ =>
    let q := s.port p
    let s := (s.portFlag p 0).bump (if p = .s then Reg.S_ABORTCNT else Reg.H_ABORTCNT)
    let s := (s.put (if p = .s then Reg.S_LASTAB_COND else Reg.H_LASTAB_COND) code).putSat
      (if p = .s then Reg.S_LASTAB_BYTE else Reg.H_LASTAB_BYTE) idx
    let due := match q.abortAt with
      | none => true
      | some t => s.elapsed t edgeSec
    if due then
      (s.onPort p (fun q => { q with abortAt := some s.now })).raise 0x6210 2 0x11 (portNo p) (code + 256 * (min idx 255) + 65536 * addr)
    else s

/-- R400, R402: what was acknowledged stands and acts as at a P; with PEC on writes the transaction is discarded whole. -/
def State.abort (s : State) (p : PortId) (code idx addr : Nat) : State :=
  let s := if (s.port p).heldWrites.isEmpty then s.portEnd p else s.portClose p
  s.abortTrace p code idx addr

/-- TRANSACTION_ABORT (R400): on a port that has been addressed. -/
def State.transactionAbort (s : State) (p : PortId) (cond : AbortCond) (idx addr : Nat) : State :=
  if s.answers p then s.abort p (abortCode cond) idx addr else s

def execTransactionAbort (t : Edges) (p : PortId) (cond : AbortCond) (idx : Nat) (addr : Byte) (s : State) :
    Host.Outcome State Fault Refusal :=
  live t s fun s => s.transactionAbort p cond idx addr.toNat

/-- SCL_TIMEOUT (R400): SCL low for 25 to 35 ms with TOUT set: an abort with condition 5. -/
def State.sclTimeout (s : State) (p : PortId) (idx : Nat) : State :=
  let on := match p with
    | .h => s.isSet Reg.H_CFG_TOUT
    | .s => s.isSet Reg.S_CFG_TOUT
    | .d => false
  if on && s.answers p then
    let s := (s.portFlag p 3).bump (if p = .s then Reg.S_TOCNT else Reg.H_TOCNT)
    (s.raise 0x6211 3 0x11 (portNo p) (min idx 255)).abort p 5 idx (s.addrByte p true / 2)
  else s

def execSclTimeout (t : Edges) (p : PortId) (idx : Nat) (s : State) : Host.Outcome State Fault Refusal :=
  live t s fun s => s.sclTimeout p idx

/-- STRETCH_LIMIT (R399): on a read 0xFF goes out and the pointer stays; on a write the next byte is not acknowledged. -/
def State.stretchLimit (s : State) (p : PortId) (read : Bool) : State :=
  if (s.port p).open_ then
    let s := s.stretched p
    if read then s.sendOut p 0xFF false else s
  else s

def execStretchLimit (t : Edges) (p : PortId) (read : Bool) (s : State) : Host.Outcome State Fault Refusal :=
  live t s fun s => s.stretchLimit p read

/-- ARA_READ (R393, R401): the own address in bits [7:1] while HALERT_N is low, unless a lower address wins. -/
def State.araRead (s : State) (won : Bool) : State :=
  if s.booted && s.halert && s.isSet Reg.H_CFG_ARA && won then
    s.onPort .h (fun q => { q with sent := [2 * s.reg Reg.H_ADDR] })
  else s

def execAraRead (t : Edges) (won : Bool) (s : State) : Host.Outcome State Fault Refusal := live t s fun s => s.araRead won

/-- R405: the bytes of a Host Notify. -/
def State.notifyBytes (s : State) : List Nat :=
  let top := s.icTop
  let more := icIds.any (fun i => decide (i.val + 1 ≠ top) && s.claimable i)
  let b := [0x10, 2 * s.reg Reg.H_ADDR, top, s.icTopPri + (if more then 128 else 0)]
  if s.pecWr .h then b ++ [crc8 b] else b

/-- R405: an attempt was not acknowledged: up to 2 further ones, then the notice is left to HALERT_N. -/
def State.notifyNack (s : State) (byte : Nat) : State :=
  if s.ic.attempts < 2 then { s with ic.attempts := s.ic.attempts + 1, ic.arb := 0 }
  else ({ s with ic.attempts := 0, ic.arb := 0, ic.notify := false }.portFlag .h 4).raise 0x6241 2 0x11 0 byte

/-- HOST_NOTIFY (R405, R407): only while one is asked for, the bus is free for it and the supervisor runs (R403). -/
def State.hostNotify (s : State) (res : BusResult) : State :=
  if s.ic.notify && s.supUp && s.isSet Reg.H_CFG_HNEN && !s.portH.open_ && s.portH.backoff.isNone && s.icTop != 0 then
    match res with
    | .acked =>
      let s := { s with portH := { s.portH with sent := s.notifyBytes }, ic.attempts := 0, ic.arb := 0, ic.notify := false }
      (s.bump Reg.H_HNCNT).croakDone .h
    | .nack k => s.notifyNack k
    | .lostArb =>
      let s := s.bump Reg.H_ARBCNT
      if s.ic.arb < 7 then { s with ic.arb := s.ic.arb + 1 }
      else
        let (v, s) := s.takeFree
        (s.raise 0x6240 3 0x11 0 0x08).notifyNack (v % 256)
  else s

def execHostNotify (t : Edges) (res : BusResult) (s : State) : Host.Outcome State Fault Refusal :=
  live t s fun s => s.hostNotify res

/-- A croak is due on the port (R405, R406). -/
def State.croakDue (s : State) (p : PortId) : Bool :=
  match p with
  | .h => s.ic.notify
  | .s => decide (s.cap.queue ≠ [])
  | .d => false

/-- R408: the bus is stuck: told once per episode, a back-off of 1 s, and grant writes count as failed (R184). -/
def State.busStuck (s : State) (p : PortId) (what : Nat) : State :=
  let s := s.portFlag p 5
  let s := match (s.port p).stuckAt with
    | some _ => s
    | none => (s.onPort p (fun q => { q with stuckAt := some s.now })).raise 0x6250 4 0x11 (portNo p) what
  let s := s.onPort p (fun q => { q with backoff := some (s.now + edgeSec) })
  if p = .s then { s.cap.queue.foldl State.grantFailed s with cap.queue := [] } else s

/-- BUS_RECOVERY (R408): with a croak due and no transaction under way; SDA that comes free lets the croak go on. -/
def State.busRecovery (s : State) (p : PortId) (r : Recovery) : State :=
  if s.croakDue p && s.supUp && !(s.port p).open_ && (s.port p).backoff.isNone then
    match r with
    | .freed => s
    | .sdaLow => s.busStuck p 0
    | .sclLow => s.busStuck p 1
  else s

def execBusRecovery (t : Edges) (p : PortId) (r : Recovery) (s : State) : Host.Outcome State Fault Refusal :=
  live t s fun s => s.busRecovery p r

/-- BUS_STUCK_BACKOFF (R408): after 1 s the bus is tried again. -/
def State.backoffEnd (s : State) (p : PortId) : State :=
  match (s.port p).backoff with
  | none => s
  | some t => if t ≤ s.now then s.onPort p (fun q => { q with backoff := none }) else s

def execBusStuckBackoff (t : Edges) (p : PortId) (s : State) : Host.Outcome State Fault Refusal :=
  live t s fun s => s.backoffEnd p

/-- R356: whether parameter 0 of an event names a bay, a string: the codes of R128, R157, R217, R174, R244 and R268. -/
def namesBay (code : Nat) : Bool := code == 0x1109 || (0x1140 ≤ code && code ≤ 0x1147) || (0x2100 ≤ code && code ≤ 0x2107)
def namesString (code : Nat) : Bool := code == 0x1160 || (0x3100 ≤ code && code ≤ 0x3158)

/-- A page as read with its selectors given (R356): 256 bytes, PAGE last. -/
def State.pageImage (s : State) (sel : Field → Nat) (page : Nat) : List Nat :=
  (List.range 255).map (fun off => s.byteShown sel page off) ++ [page]

/-- R356: the twelve register images of a snapshot. -/
def State.snapImages (s : State) (x : Snap) : List (List Nat) :=
  let k := x.param0 % 256
  let bay := if namesBay x.code && decide (k < 8) then k else 0
  let str := if namesString x.code && decide (k < 8) then k else 0
  let zero := fun (_ : Field) => (0 : Nat)
  [0x02, 0x04, 0x10, 0x14, 0x15, 0x17, 0x18, 0x1A, 0x20, 0x22].map (s.pageImage zero) ++
    [s.pageImage (fun f => if f.is Reg.LE_BAY_IDX then bay else 0) 0x12, s.pageImage (fun f => if f.is Reg.BST_IDX then str else 0) 0x1B]

/-- SNAPSHOT_CAPTURE_DONE (R354): 6 ms after its trigger the capture is complete, with its samples and its register images. -/
def State.captureDone (s : State) (k : Fin 2) (samples : List Code) : State :=
  match s.log.cap k with
  | none => s
  | some c =>
    if c.done = false ∧ s.elapsed c.tm (6 * edgeMs) then
      s.setCap k (some { c with done := true, snap := { c.snap with pages := s.snapImages c.snap, samples := samples } })
    else s

def execSnapshotCaptureDone (t : Edges) (k : Fin 2) (samples : List Code) (s : State) : Host.Outcome State Fault Refusal :=
  live t s fun s => s.captureDone k samples

end Sys2Proof.Machine
end

