-- ==== Sys2Proof/Machine/Thermal.lean ====
section
/-! DEFINITION. Thermal management: evaluation of the 52 sensors, broken sensors, the die temperature, derating, throttling and
the GECKO latch (R287-R301). -/

namespace Sys2Proof.Machine

/-- R288: the point of THM_NTCT that begins the interval a ratio lies in. -/
def ntcBracket (c : Cells) (r : Nat) : Option Nat :=
  (List.range 15).find? (fun j =>
    let a := ntcRatio c j
    let b := ntcRatio c (j + 1)
    decide (a ≠ b) && (decide (a ≤ r ∧ r ≤ b) || decide (b ≤ r ∧ r ≤ a)))

/-- R288: a ratio as a temperature, and whether the table covers it. -/
def ntcConvert (c : Cells) (r : Nat) : Int × Bool :=
  match ntcBracket c r with
  | none => (Config.ntcBeyond r, false)
  | some j =>
    let a : Int := (ntcRatio c j : Nat)
    let b : Int := (ntcRatio c (j + 1) : Nat)
    let d : Rat := ((ntcTemp c (j + 1) - ntcTemp c j) * ((r : Int) - a) : Int)
    (toUnit (ntcTemp c j + d / ((b - a : Int) : Rat)), true)

/-- Index of a die sensor, a TX sensor, a sensor in the window of page 22. -/
def isDie (i : Nat) : Bool := decide (i < 4)
def isTx (i : Nat) : Bool := decide (4 ≤ i) && decide (i < 20)
def inWindow (i : Nat) : Bool := decide (i < 20)

/-- The WARN, HOT and SHUT limits of sensor `i` (0-19). -/
def State.thmWarn (s : State) (i : Nat) : Int := s.sregAt Reg.THM_WARN i
def State.thmHot (s : State) (i : Nat) : Int := s.sregAt Reg.THM_HOT i
def State.thmShut (s : State) (i : Nat) : Int := s.sregAt Reg.THM_SHUT i

/-- The sensor is evaluated: a die sensor always; TX once an image puts it in use; BT once an image is in force (R290). -/
def State.evaluated (s : State) (i : Nat) : Bool :=
  isDie i || (s.imgValid && (!isTx i || s.regAt Reg.THM_CFG_EN i != 0))

/-- Insertion into an ascending list. -/
def insertAsc (x : Int) : List Int → List Int
  | [] => [x]
  | y :: l => if x ≤ y then x :: y :: l else y :: insertAsc x l

/-- Ascending order. -/
def sortAsc : List Int → List Int
  | [] => []
  | x :: l => insertAsc x (sortAsc l)

/-- The median of an ascending list; of an even number, the mean of the two in the middle. -/
def medianOf (l : List Int) : Int :=
  let m := sortAsc l
  let n := m.length
  if n % 2 = 1 then m.getD (n / 2) 0 else toUnit (((m.getD (n / 2 - 1) 0 + m.getD (n / 2) 0 : Int) : Rat) / 2)

/-- R291: more than 10 degC from the median of the other three die sensors. -/
def State.dieApart (s : State) (i : Nat) (t : Int) : Bool :=
  let others := (List.range 4).filter (fun j => j != i)
  others.all (fun j => (s.sensor j).seen) &&
    decide (160 < (t - medianOf (others.map (fun j => (s.sensor j).temp))).natAbs)

/-- R291: the condition that declares the sensor broken: 0 open, 1 short, 2 range, 3 stuck, 4 disagreeing. -/
def State.brokenBy (s : State) (i : Nat) (covered : Bool) : Option Nat :=
  let y := s.sensor i
  if 3 ≤ y.openN then some 0
  else if 3 ≤ y.shortN then some 1
  else if !covered then some 2
  else if !isDie i && decide (s.reg Reg.THM_STUCKN ≤ y.stuckN) then some 3
  else if isDie i && s.ran y.disAt edgeSec then some 4
  else none

/-- The broken bit of a sensor. -/
def State.setBroken (s : State) (i : Nat) (b : Bool) : State :=
  if i < 20 then s.putBit Reg.THM_BROKEN i b else s.putBit Reg.THM_BTBROKEN (i - 20) b

/-- R291: the sensor is declared broken, or clears after 10 s of passing every test. -/
def State.judgeSensor (s : State) (i : Nat) (covered : Bool) : State :=
  let y := s.sensor i
  match s.brokenBy i covered with
  | some c =>
    let s := s.setSensor i { y with okAt := none }
    if s.broken i then s else ((s.setBroken i true).flag Reg.THM_FLAGS_BROKEN).raise 0x4110 4 0x0D i c
  | none =>
    if s.broken i then
      if s.ran y.okAt (10 * edgeSec) then
        ((s.setSensor i { y with okAt := none }).setBroken i false).raise 0x4111 1 0x0D i (par y.temp)
      else s.setSensor i { y with okAt := s.sinceWhen y.okAt true }
    else s

/-- The limits of a sensor within `d` of its value. -/
def State.nearLimit (s : State) (i : Nat) (d : Nat) : Bool :=
  let v := s.tempOf i
  [s.thmWarn i, s.thmHot i, s.thmShut i].any (fun l => decide ((v - l).natAbs ≤ d))

/-- R290: the rate of a sensor's evaluation, shown in THM_FAST. -/
def State.rateSensor (s : State) (i : Nat) : State :=
  let y := s.sensor i
  if !inWindow i then s
  else if s.nearLimit i 80 then (s.setSensor i { y with farAt := none }).putBit Reg.THM_FAST i true
  else if bitOf (s.reg Reg.THM_FAST) i then
    let far := s.sinceWhen y.farAt (!s.nearLimit i 96)
    if s.ran far edgeSec then (s.setSensor i { y with farAt := none }).putBit Reg.THM_FAST i false
    else s.setSensor i { y with farAt := far }
  else s

/-- A TX sensor that feeds CAP_THDER (R294). -/
def State.derates (s : State) (i : Nat) : Bool := isTx i && s.regAt Reg.THM_CFG_EN i != 0 && s.regAt Reg.THM_CFG_DER i != 0

/-- R294: crossings of WARN and HOT, and the end of the derating. -/
def State.crossings (s : State) (i : Nat) : State :=
  if !inWindow i then s
  else
    let v := s.tempOf i
    let y := s.sensor i
    let warm := decide (s.thmWarn i < v)
    let hot := decide (s.thmHot i < v)
    let s := s.setSensor i { y with warm := warm, hot := hot }
    let s := if warm && !y.warm then (s.flag Reg.THM_FLAGS_WARN).raise 0x4100 3 0x0D i (par v) else s
    let s := if hot && !y.hot then (s.flag Reg.THM_FLAGS_HOT).raise 0x4101 4 0x0D i (par v) else s
    let s := if warm && s.derates i then { s with thm.warmed := true } else s
    if s.thm.warmed && (List.range 20).all (fun j => !s.derates j || decide (s.tempOf j ≤ s.thmWarn j - 32)) then
      { s with thm.warmed := false }.raise 0x4102 1 0x0D i (s.reg Reg.CAP_THDER)
    else s

/-- R292: the die temperatures as they count, and the second-highest. -/
def State.dieTemps (s : State) : List Int := (List.range 4).map s.tempOf
def State.tDie (s : State) : Int := (sortAsc s.dieTemps).getD 2 0

/-- R292: compensation by the valid die sensors. -/
def State.compensate (s : State) (i : Nat) : State :=
  let valid := (List.range 4).filter (fun j => !s.broken j)
  if 2 ≤ valid.length then
    { s with thm.comp := medianOf (valid.map (fun j => (s.sensor j).temp)) }.put Reg.THM_STAT_COMPDEG 0
  else if s.isSet Reg.THM_STAT_COMPDEG then s
  else ((s.put Reg.THM_STAT_COMPDEG 1).flag Reg.THM_FLAGS_COMP).raise 0x4112 4 0x0D i valid.length

/-- R295: the supervisor's pauses while T_die lies above the die WARN limit. -/
def State.throttle (s : State) (i : Nat) : State :=
  if s.thmWarn 0 < s.tDie then
    if s.isSet Reg.THM_STAT_DIETHR then s
    else ((s.put Reg.THM_STAT_DIETHR 1).flag Reg.THM_FLAGS_DIETHR).raise 0x4121 2 0x0D i (par s.tDie)
  else s.put Reg.THM_STAT_DIETHR 0

/-- What a die evaluation brings once all four have been read. -/
def State.dieDone (s : State) (i : Nat) : State :=
  if isDie i && (List.range 4).all (fun j => (s.sensor j).seen) then ((s.sput Reg.THM_DIE s.tDie).compensate i).throttle i else s

/-- R296: the GECKO latch is set: the VKA domain holds it with its source and temperature, and LOCKOUT follows. -/
def State.setGecko (s : State) (src : Nat) (temp : Int) : State :=
  if s.vka.gecko then s
  else
    let s := { s with vka.gecko := true, vka.geckoSrc := src, vka.geckoTemp := ofInt 16 temp }
    let s := ((s.put Reg.GL_STAT_GECKO 1).put Reg.THM_STAT_GECKO 1).put Reg.THM_GSRC src
    ((s.sput Reg.THM_GTEMP temp).raise 0x4120 6 0x0D src (par temp)).enterLockout 0x0A

/-- R296: the die sensors that may be the second-highest one. -/
def State.secondDies (s : State) : List Nat := (List.range 4).filter (fun j => s.tempOf j == s.tDie)

/-- R296: the tests of the latch after an evaluation. -/
def State.geckoTest (s : State) (i : Nat) : State :=
  if isDie i then
    if 2 ≤ ((List.range 4).filter (fun j => decide (3 ≤ (s.sensor j).shutN))).length then
      let (v, s) := s.takeFree
      let l := s.secondDies
      s.setGecko (l.getD (v % max 1 l.length) 0) s.tDie
    else s
  else if isTx i && s.regAt Reg.THM_CFG_GK i != 0 && decide (3 ≤ (s.sensor i).shutN) then s.setGecko i (s.tempOf i)
  else s

/-- The code an evaluation uses: BT inputs take the mean of the string samples since the last one (R287). -/
def State.evalCode (s : State) (i code : Nat) : Nat :=
  let y := s.sensor i
  if i < 20 ∨ y.cnt = 0 then code else toUnitNat ((y.sum : Rat) / (y.cnt : Nat))

/-- The value and the counts of the tests of R291 that one evaluation brings. -/
def State.takeSensor (s : State) (i code : Nat) (t : Int) : State :=
  let y := s.sensor i
  let ntc := !isDie i
  let dis := s.sinceWhen y.disAt (isDie i && s.dieApart i t)
  let y := { y with temp := t, raw := code, seen := true, sum := 0, cnt := 0, disAt := dis,
                    openN := if ntc && decide (98 * 65536 ≤ 100 * code) then y.openN + 1 else 0,
                    shortN := if ntc && decide (100 * code ≤ 2 * 65536) then y.shortN + 1 else 0,
                    stuckN := if y.seen && y.raw == code then y.stuckN + 1 else 1 }
  s.setSensor i y

/-- The registers of the window, and the count towards GECKO. -/
def State.showSensor (s : State) (i : Nat) : State :=
  if !inWindow i then s
  else
    let y := s.sensor i
    let v := s.tempOf i
    let s := s.setSensor i { y with shutN := if s.thmShut i ≤ v then y.shutN + 1 else 0 }
    let s := (s.sputAt Reg.THM_T i v).putAt Reg.THM_RAW i y.raw
    if s.sregAt Reg.THM_PEAK i < v then s.sputAt Reg.THM_PEAK i v else s

/-- One evaluation of sensor `i`. -/
def State.evaluate (s : State) (i code : Nat) (die : Int) : State :=
  let code := s.evalCode i code
  let (t, covered) := if isDie i then (die, decide (-720 ≤ die ∧ die ≤ 2480)) else ntcConvert s.regs code
  let s := (s.takeSensor i code t).judgeSensor i covered
  ((((s.showSensor i).rateSensor i).crossings i).dieDone i).geckoTest i

/-- R456: the raw code of a TX or die sensor; BT codes come with the string samples. -/
def State.rawThermal (s : State) (i code : Nat) : State :=
  if isDie i then s.putAt Reg.TLM_RAW_DIE i code else if isTx i then s.putAt Reg.TLM_RAW_TX (i - 4) code else s

/-- THERMAL_EVALUATION (R287-R296); it holds while the supervisor is down (R298). -/
def execThermalEvaluation (t : Edges) (k : Fin 52) (code : Code) (die : Int) (s : State) : Host.Outcome State Fault Refusal :=
  live t s fun s =>
    let s := s.rawThermal k.val code.toNat
    if s.supUp && s.evaluated k.val then s.evaluate k.val code.toNat die else s

/-- DIE_COMPARATOR (R296): the comparator of 150 degC; it measures no temperature, so THM_GTEMP is a free value. -/
def execDieComparator (t : Edges) (s : State) : Host.Outcome State Fault Refusal :=
  live t s fun s =>
    let (v, s) := s.takeFree
    s.setGecko 0xFE (toInt 16 (v % 65536))

/-- R294: the factor of one sensor, rounded down. -/
def State.derFactor (s : State) (i : Nat) : Nat :=
  let v := s.tempOf i
  let w := s.thmWarn i
  let h := s.thmHot i
  let dmin := s.reg Reg.THM_DMIN
  if v ≤ w then 256
  else if h ≤ v then dmin
  else (256 - (((256 - dmin : Int) * (v - w) : Int) : Rat) / ((h - w : Int) : Rat)).floor.toNat

/-- R294: CAP_THDER at a sharing tick: it falls at once and rises by at most 1. -/
def State.derTick (s : State) : State :=
  if s.supUp then
    let f := (((List.range 20).filter s.derates).map s.derFactor).foldl min 256
    let old := s.reg Reg.CAP_THDER
    s.put Reg.CAP_THDER (if f ≤ old then f else old + 1)
  else s

/-- R299: the thermal set at its commit boundary. -/
def State.thermalCommit (s : State) : State :=
  let c := copyFields s.shad s.regs (pageFields 0x22)
  match checkThermal c with
  | none => { s with regs := c }
  | some (i, off) => ({ s with shad := copyFields s.regs s.shad (pageFields 0x22) }.flag Reg.THM_FLAGS_REJECT).raise 0x4130 2 0x0D i off

end Sys2Proof.Machine
end

