-- ==== Sys2Proof/Machine/Wheel.lean ====
section
/-! DEFINITION. The angle wheel: its states, the reference, feed B carry, the flywheel and the closing of an offset (R30-R42). The
calendar is in Machine/Calendar.lean, the work of a wheel point in Machine/WheelPoint.lean. -/

namespace Sys2Proof.Machine

/-- WHL_STAT.STATE codes (R49). -/
def whlFree : Nat := 0
def whlAcquire : Nat := 1
def whlLocked : Nat := 2
def whlFly : Nat := 3

/-- The state of the wheel. -/
def State.whl (s : State) : Nat := s.reg Reg.WHL_STAT_STATE

/-- The WHL_STAT byte as an event holds it (R51). -/
def State.whlStat (s : State) : Nat :=
  s.whl + 4 * s.reg Reg.WHL_STAT_REF + 8 * s.reg Reg.WHL_STAT_EVERLOCK + 16 * s.reg Reg.WHL_STAT_CLKSRC

/-- A change of state: a cycle that leaves LOCKED counts no crest (R199), and the flywheel's time stands still at its end. -/
def State.whlTo (s : State) (st : Nat) : State :=
  let s := if s.whl = whlLocked ∧ st ≠ whlLocked then s.crestSpoil else s
  let s := if s.whl = whlFly ∧ st ≠ whlFly then s.putSat Reg.WHL_FLYTIME (s.msSince s.wheel.flyAt) else s
  let s := if st = whlLocked then s else s.put Reg.WHL_STAT_REF 0
  s.put Reg.WHL_STAT_STATE st

/-- ACQUIRE begins (R38). -/
def State.acquire (s : State) (freq : Nat) : State :=
  { s with wheel := { s.wheel with acqAt := s.now, acqFreq := freq } }.whlTo whlAcquire

/-- The mean of some frequencies; `d` where there is none. -/
def meanFreq (l : List Nat) (d : Nat) : Nat :=
  if l.isEmpty then d else toUnitNat ((l.foldl (· + ·) 0 : Nat) / (l.length : Nat))

/-- R36: the last locked frequency at a loss. -/
def State.lockedFreq (s : State) : Nat := meanFreq ((s.wheel.locked.drop 1).take 4) s.wheel.acqFreq

/-- FREE where the wheel has never locked, else FLYWHEEL (R37). -/
def State.whlDrop (s : State) : State :=
  if s.isSet Reg.WHL_STAT_EVERLOCK then
    let f := if s.whl = whlLocked then s.lockedFreq else s.wheel.lastLocked
    let s := { s with wheel := { s.wheel with lastLocked := f, flyAt := s.now } }.whlTo whlFly
    (s.put Reg.WHL_FREQ f).put Reg.WHL_FLYTIME 0
  else (s.whlTo whlFree).put Reg.WHL_FREQ (s.reg Reg.WHL_FNOM)

/-- REFERENCE_VALID (R35, R37): `freq` is the reference frequency measured, in 0.01 Hz. -/
def execReferenceValid (t : Edges) (freq : Nat) (s : State) : Host.Outcome State Fault Refusal :=
  live t s fun s => if s.wheel.running ∧ (s.whl = whlFree ∨ s.whl = whlFly) then s.acquire freq else s

/-- R41: feed B carry is possible. -/
def State.mayCarry (s : State) (bValid : Bool) : Bool :=
  s.isSet Reg.WHL_CFG_BCARRY && !s.isSet Reg.WHL_STAT_REF && bValid &&
    (match s.wheel.bofsAt with
     | none => false
     | some t => decide (s.now ≤ t + 60 * edgeSec))

/-- R41: feed B carry begins. -/
def State.carry (s : State) : State :=
  let age := match s.wheel.bofsAt with
    | none => 0
    | some t => (s.now - t) / edgeSec
  (s.put Reg.WHL_STAT_REF 1).raise 0x2044 1 0x01 (par (s.sreg Reg.WHL_BOFS)) age

/-- R37: the event of a loss: 0x2042 with the frequency, or 0x2041 with its reason. -/
def State.lossEvent (s : State) (why : LossReason) : State :=
  match why with
  | .frequency f => s.raise 0x2042 3 0x01 f s.whlStat
  | .magnitude => s.raise 0x2041 3 0x01 0 s.whlStat
  | .noCrossing => s.raise 0x2041 3 0x01 1 s.whlStat

/-- R37: the loss of the reference by frequency. -/
def lossByFreq (why : LossReason) : Bool :=
  match why with
  | .frequency _ => true
  | _ => false

/-- R37: the reference is lost. -/
def State.refLost (s : State) (why : LossReason) (bValid : Bool) : State :=
  let st := s.whl
  if st = whlFree ∨ st = whlFly then (if lossByFreq why then s.lossEvent why else s)
  else if st = whlLocked ∧ s.mayCarry bValid then s.carry
  else
    let s := if lossByFreq why then s.flag Reg.WHL_FLAGS_FRANGE else s
    let s := s.lossEvent why
    let s := if st = whlLocked then (s.flag Reg.WHL_FLAGS_LOCKLOST).bump Reg.WHL_LOSSCNT else s
    s.whlDrop

/-- REFERENCE_LOST (R35-R37, R41). -/
def execReferenceLost (t : Edges) (why : LossReason) (bValid : Bool) (s : State) : Host.Outcome State Fault Refusal :=
  live t s fun s => if s.wheel.running then s.refLost why bValid else s

/-- WHEEL_LOCK (R38): lock is declared, with its time in 0.01 reference cycles at WHL_FMAINS. -/
def execWheelLock (t : Edges) (s : State) : Host.Outcome State Fault Refusal :=
  live t s fun s =>
    if s.wheel.running ∧ s.whl = whlAcquire then
      let w := s.wheel
      let f := s.reg Reg.WHL_FMAINS
      let n := toUnitNat (((s.now - w.acqAt) * f : Nat) / (edgeSec : Nat))
      let s := { s with wheel := { w with acqFreq := if f = 0 then w.acqFreq else f, locked := [], cycN := 0, cycSum := 0 } }
      ((s.whlTo whlLocked).put Reg.WHL_STAT_EVERLOCK 1).raise 0x2040 0 0x01 f n
    else s

/-- ACQUIRE_TIMEOUT (R37, R38): 6 periods of the measured frequency without lock. -/
def execAcquireTimeout (t : Edges) (s : State) : Host.Outcome State Fault Refusal :=
  live t s fun s =>
    let f := if s.isSet Reg.WHL_FMAINS then s.reg Reg.WHL_FMAINS else s.wheel.acqFreq
    if s.wheel.running ∧ s.whl = whlAcquire ∧ 600 * edgeSec ≤ f * (s.now - s.wheel.acqAt) then
      (s.raise 0x2043 4 0x01 (par (s.sreg Reg.WHL_PERR)) (s.reg Reg.WHL_FMAINS)).whlDrop
    else s

/-- PHASE_ERROR_CYCLE (R37). -/
def execPhaseErrorCycle (t : Edges) (s : State) : Host.Outcome State Fault Refusal :=
  live t s fun s =>
    if s.wheel.running ∧ s.whl = whlLocked ∧ 1820 < (s.sreg Reg.WHL_PERR).natAbs then
      let s := (s.raise 0x2041 3 0x01 2 s.whlStat).flag Reg.WHL_FLAGS_LOCKLOST
      (s.bump Reg.WHL_LOSSCNT).acquire (s.reg Reg.WHL_FMAINS)
    else s

/-- FEED_A_RETURN (R42): `diff` is the phase difference found, in ticks. -/
def execFeedAReturn (t : Edges) (diff : Int) (s : State) : Host.Outcome State Fault Refusal :=
  live t s fun s =>
    if s.wheel.running ∧ s.whl = whlLocked ∧ s.isSet Reg.WHL_STAT_REF then
      let s := s.put Reg.WHL_STAT_REF 0
      let s := if diff.natAbs ≤ 1820 then s else s.acquire (s.reg Reg.WHL_FMAINS)
      s.raise 0x2045 1 0x01 (par diff) s.whl
    else s

/-- R31: ticks from WHL_OFSNOW to WHL_OFS by the shorter way round; which way half a cycle goes no rule says. -/
def State.ofsLeft (s : State) : Int :=
  let d := toInt 16 ((s.reg Reg.WHL_OFS + 65536 - s.reg Reg.WHL_OFSNOW) % 65536)
  if d = -32768 ∧ Config.pick 0 % 2 = 1 then 32768 else d

/-- R31: the closing over one interval of 1,024 ticks: 5.12 ticks. -/
def State.ofsStep (s : State) : State :=
  let d := s.ofsLeft
  if d = 0 then { s with wheel.ofsRem := 0 }
  else
    let p := s.wheel.ofsRem + 128 / 25
    let n := p.floor
    let s := { s with wheel.skewed := true }.flag Reg.WHL_FLAGS_SKEW
    if (d.natAbs : Int) ≤ n then { s with wheel.ofsRem := 0 }.put Reg.WHL_OFSNOW (s.reg Reg.WHL_OFS)
    else
      let move := if 0 < d then n else -n
      { s with wheel.ofsRem := p - n }.put Reg.WHL_OFSNOW (ofInt 16 (s.sreg Reg.WHL_OFSNOW + move))

/-- R39: in ACQUIRE the wheel may run off the reference rate. -/
def State.skewNow (s : State) : State :=
  if s.whl = whlAcquire ∧ s.isSet Reg.WHL_FMAINS ∧ s.reg Reg.WHL_FREQ ≠ s.reg Reg.WHL_FMAINS then
    { s with wheel.skewed := true }.flag Reg.WHL_FLAGS_SKEW
  else s

/-- R36: the measured frequencies of the LOCKED cycle under way, and the whole LOCKED cycles. -/
def State.lockedCycle (s : State) (zero : Bool) : State :=
  let w := s.wheel
  let w := if s.whl = whlLocked then { w with cycN := w.cycN + 1, cycSum := w.cycSum + s.reg Reg.WHL_FMAINS } else { w with cycN := 0, cycSum := 0 }
  let w := if zero then
      { w with locked := if w.cycN = 64 then (toUnitNat ((w.cycSum : Nat) / 64) :: w.locked).take 6 else w.locked, cycN := 0, cycSum := 0 }
    else w
  { s with wheel := w }

/-- R33, R49: the wheel comes to its next sharing-tick point: the position, the rate and the measures. -/
def State.wheelMove (s : State) (m : WheelMeas) : State :=
  let idx := (s.wheel.idx + 1) % 64
  let zero := idx == 0
  let s := { s with wheel := { s.wheel with idx := idx, ptAt := s.now } }
  let s := if zero then s.put Reg.WHL_CYC (s.reg Reg.WHL_CYC + 1) else s
  let st := s.whl
  let s :=
    if st = whlAcquire ∨ st = whlLocked then s.put Reg.WHL_FREQ m.rate
    else if st = whlFree ∧ zero then s.put Reg.WHL_FREQ (s.reg Reg.WHL_FNOM)
    else s
  let s := (s.put Reg.WHL_FMAINS m.fmains).sput Reg.WHL_PERR m.perr
  let s := match m.bofs with
    | none => s
    | some b => if s.isSet Reg.WHL_CFG_BCARRY then { s with wheel.bofsAt := some s.now }.sput Reg.WHL_BOFS b else s
  let s := if st = whlFly then s.putSat Reg.WHL_FLYTIME (s.msSince s.wheel.flyAt) else s
  ((s.ofsStep).skewNow).lockedCycle zero

end Sys2Proof.Machine
end

