-- ==== Sys2Proof/Machine/WheelPoint.lean ====
section
/-! DEFINITION. The work of a sharing-tick wheel point, in the order of R25, and the commits of the blocks' shadow sets at angle 0
(R317, R319). -/

namespace Sys2Proof.Machine

/-- The active set as a commit of some pages would leave it. -/
def State.offered (s : State) (pages : List Nat) : Cells := copyFields s.shad s.regs (pages.flatMap pageFields)

/-- R319: the shadow copy of some pages is filled again from the active copy. -/
def State.refill (s : State) (pages : List Nat) : State :=
  { s with shad := copyFields s.regs s.shad (pages.flatMap pageFields) }

/-- R167: the step set of page 17. -/
def State.stepsCommit (s : State) : State :=
  let c := s.offered [0x17]
  match checkSteps c with
  | none => { s with regs := c }
  | some (r, v) => ((s.refill [0x17]).flag Reg.STP_FLAGS_REJECT).raise 0x2144 2 0x07 r v

/-- R215: the hold-up set of page 1A. -/
def State.holdupCommit (s : State) : State :=
  let c := s.offered [0x1A]
  match checkHoldup c with
  | none => { s with regs := c }
  | some (off, v) => ((s.refill [0x1A]).flag Reg.HUP_FLAGS_REJECT).raise 0x110A 2 0x09 off v

/-- R242: the string set of page 1B. -/
def State.stringsCommit (s : State) : State :=
  let c := s.offered [0x1B]
  match checkStrings c with
  | none => { s with regs := c }
  | some (k, off) => ((s.refill [0x1B]).flag Reg.BST_FLAGS_REJECT).raise 0x3120 2 0x0A k off

/-- R264: the estimator's set of page 1C; no string stands behind its rejection. -/
def State.estimatorCommit (s : State) : State :=
  let c := s.offered [0x1C]
  match checkEstimator c with
  | none => { s with regs := c }
  | some off => ((s.refill [0x1C]).flag Reg.EST_FLAGS_SHREJ).raiseP1 0x3158 2 0x0B off

/-- R283: the fuse channels' set of page 20. -/
def State.fuseCommit (s : State) : State :=
  let c := s.offered [0x20]
  match checkFuse c with
  | none => { s with regs := c }
  | some (k, off) => ((s.refill [0x20]).flag Reg.FUS_FLAGS_REJECT).raise 0x5130 2 0x0C k off

/-- R364: the recorder's set of pages 26 and 27. -/
def State.recorderCommit (s : State) : State :=
  let c := s.offered [0x26, 0x27]
  match checkRecorder c with
  | none => { s with regs := c }
  | some (off, v) => ((s.refill [0x26, 0x27]).flag Reg.REC_FLAGS_REJECT).raise 0x705A 2 0x10 off v

/-- R387: the twin link's set of page 34, which no rule rejects. -/
def State.twinCommit (s : State) : State := { s with regs := s.offered [0x34] }

/-- R320: a shadow set waits in TADPOLE for the angle 0 of the exit. -/
def State.mayCommit (s : State) : Bool := s.mode != modeTadpole

/-- Step 7 of R25: the blocks' commits at angle 0 (R317). -/
def State.angle0Commits (s : State) : State :=
  if s.mayCommit then
    let s := (s.boundary [0x14, 0x15, 0x16] State.trackerCommit).boundary [0x17] State.stepsCommit
    let s := s.boundary [0x18, 0x19] (fun s => s.capCommit.contractsCommit)
    let s := (s.boundary [0x1A] State.holdupCommit).boundary [0x1B] State.stringsCommit
    let s := (s.boundary [0x1C] State.estimatorCommit).boundary [0x20] State.fuseCommit
    let s := (s.boundary [0x22] State.thermalCommit).boundary [0x26, 0x27] State.recorderCommit
    s.boundary [0x34] State.twinCommit
  else s

/-- The active chip takes the wheel-class decisions (R376). -/
def State.decides (s : State) : Bool := s.mode != modeShadow

/-- R154: TRK_BAYSEC of a bay in JOIN or ACTIVE, by whole seconds. -/
def State.baySecond (dt : Nat) (s : State) (b : Nat) : State :=
  let y := s.bay b
  if s.bst b = bayJoin ∨ s.bst b = bayActive then
    let a := y.secAcc + dt
    (s.setBay b { y with secAcc := a % edgeSec }).putAtSat Reg.TRK_BAYSEC b (s.regAt Reg.TRK_BAYSEC b + a / edgeSec)
  else s

/-- R453, R458: the averages of page 01, from the tick that closed; they hold while the supervisor is down. -/
def State.globalAverages (s : State) : State :=
  if s.supUp then
    ((s.put Reg.GL_VBUS (s.regAt Reg.TLM_VBUS 0)).put Reg.GL_ISHELF (s.regAt Reg.TLM_ISHELF 0)).put Reg.GL_PSHELF (s.regAt Reg.TLM_PSHELF 0)
  else s

/-- R210, R217: I_L of the tick that closed. -/
def State.tickLoad (s : State) : State :=
  { s with hup.iTick := sumQ (bayIds.map (fun b => (s.bay b).iTick)) + sumQ (strIds.map s.strDischarge) }

/-- Step 1 of R25: the windows that end here close. -/
def State.closeWindows (s : State) (dt : Nat) (zero : Bool) (m : WheelMeas) : State :=
  let s := (s.closePower.telemetryTick zero).globalAverages
  let s := (bayIds.foldl (fun s b => s.closeBay b zero) s).closeShelf.tickLoad
  let s := bayIds.foldl (State.baySecond dt) s
  if zero then
    let s := { s with wheel.skewed := false }
    bayIds.foldl State.bayLearn ((s.crestCycle .a m.crestA).crestCycle .b m.crestB)
  else s

/-- R57, R310: at angle 0 a load ends, and then the exit from TADPOLE is evaluated. -/
def State.angle0Modes (s : State) : State :=
  let s := match s.core.load with
    | none => s
    | some l => if l.staged then s.loadEnd else s
  s.exitTest

/-- Steps 2 to 4 of R25: the estimator, and at angle 0 the tracker and capping. -/
def State.angle0Decisions (s : State) (est zero : Bool) : State :=
  let s := if est then s.estimatorRun else s
  if zero then
    let s := if s.decides then s.trackerRun else s
    let s := { s with sup.dAcc := 0, sup.dN := 0 }
    let s := if s.decides then s.cappingStep else s.closeCharge.capCount.capShow
    s.chargeTargets s.cap.shortTold
  else s

/-- R61, R68: what waits for a quadrant point: TADPOLE, and the seal of SHIP. -/
def State.quadrantModes (s : State) : State :=
  let s := match s.core.toTadpole with
    | none => s
    | some c => s.enterTadpole c
  if s.core.shipStep = 3 then s.shipSeal else s

/-- Steps 5 and 6 of R25, at a quadrant point; `due` is what waited before the tracker's run of this tick. -/
def State.quadrantWork (s : State) (due : List Nat × Option Nat) : State :=
  let s := if s.mayCommit then s.boundary [0x10, 0x11] State.phaseCommit else s
  let s := if s.decides then s.shedStep due else s
  s.quadrantModes

/-- Step 8 of R25, and what else a sharing tick decides: capping's enforcement, sheds, the derating, hold-up. -/
def State.tickWork (s : State) (dt : Nat) : State :=
  let s := s.sharingStep
  let s := if s.decides then bayIds.foldl State.shedDecide s.enforce else s
  ((s.derTick).holdupTick dt).energyTick

/-- Steps 2 to 9 of R25, the supervisor's. -/
def State.supervisorWork (s : State) (dt idx : Nat) : State :=
  let zero := idx == 0
  let quad := idx % 16 == 0
  let s := if zero then s.angle0Modes else s
  let due := s.waitingLeaves
  let s := s.angle0Decisions (idx % 4 == 0) zero
  let s := if quad then s.quadrantWork due else s
  let s := if zero then s.angle0Commits.publish else s
  let s := s.tickWork dt
  let s := if zero && s.mayCommit then s.boundary [0x04] State.calCommit else s
  s.calGather s.wheelPos

/-- R25: one sharing-tick point. The calendar's old set serves the positions before it. PACE keeps its pattern while the
supervisor is down (R192). -/
def State.wheelPoint (s : State) (m : WheelMeas) : State :=
  let dt := s.now - s.wheel.ptAt
  let idx := (s.wheel.idx + 1) % 64
  let zero := idx == 0
  let s := if zero && s.supUp then s.calGather (((s.reg Reg.WHL_CYC) + 1) * 65536 - 1) else s
  let s := ((s.wheelMove m).closeWindows dt zero m).paceTick
  if s.supUp then s.supervisorWork dt idx else s

/-- WHEEL_POINT. -/
def execWheelPoint (t : Edges) (m : WheelMeas) (s : State) : Host.Outcome State Fault Refusal :=
  live t s fun s => if s.wheel.running then s.wheelPoint m else s

end Sys2Proof.Machine
end

