-- ==== Sys2Proof/Machine/Dispatch.lean ====
section
/-! DEFINITION. One arm per command: each calls its meaning. -/

namespace Sys2Proof.Machine

def exec (i : Instr) (s : State) : Host.Outcome State Fault Refusal :=
  match i with
  | .powerOnReset t b => Sys2Proof.Machine.execPowerOnReset t b s
  | .rstNAsserted t => Sys2Proof.Machine.execRstNAsserted t s
  | .supplyLoss t sup => Sys2Proof.Machine.execSupplyLoss t sup s
  | .vkaLost t => Sys2Proof.Machine.execVkaLost t s
  | .powerFailWarning t => Sys2Proof.Machine.execPowerFailWarning t s
  | .shipWake t c => Sys2Proof.Machine.execShipWake t c s
  | .crystalFault t kind => Sys2Proof.Machine.execCrystalFault t kind s
  | .clockHandover t => Sys2Proof.Machine.execClockHandover t s
  | .supervisorRestart t => Sys2Proof.Machine.execSupervisorRestart t s
  | .supervisorRestartEnd t digestOk => Sys2Proof.Machine.execSupervisorRestartEnd t digestOk s
  | .operatingSecond t => Sys2Proof.Machine.execOperatingSecond t s
  | .wheelPoint t m => Sys2Proof.Machine.execWheelPoint t m s
  | .calendarEntry t e => Sys2Proof.Machine.execCalendarEntry t e s
  | .referenceValid t freq => Sys2Proof.Machine.execReferenceValid t freq s
  | .referenceLost t why bValid => Sys2Proof.Machine.execReferenceLost t why bValid s
  | .wheelLock t => Sys2Proof.Machine.execWheelLock t s
  | .acquireTimeout t => Sys2Proof.Machine.execAcquireTimeout t s
  | .phaseErrorCycle t => Sys2Proof.Machine.execPhaseErrorCycle t s
  | .feedAReturn t diff => Sys2Proof.Machine.execFeedAReturn t diff s
  | .crestCheck t x p k codes => Sys2Proof.Machine.execCrestCheck t x p k codes s
  | .acZeroCrossing t x p rising rms leads => Sys2Proof.Machine.execAcZeroCrossing t x p rising rms leads s
  | .rmsWindowDeadline t x p rms => Sys2Proof.Machine.execRmsWindowDeadline t x p rms s
  | .frequencyDeadline t x => Sys2Proof.Machine.execFrequencyDeadline t x s
  | .bayPeriodStart t b => Sys2Proof.Machine.execBayPeriodStart t b s
  | .loopTrigger t b code vlink => Sys2Proof.Machine.execLoopTrigger t b code vlink s
  | .bayOutputConversion t b code => Sys2Proof.Machine.execBayOutputConversion t b code s
  | .imonSample t n code => Sys2Proof.Machine.execImonSample t n code s
  | .shedDwellExpiry t b => Sys2Proof.Machine.execShedDwellExpiry t b s
  | .phaseOffsetTaken t n => Sys2Proof.Machine.execPhaseOffsetTaken t n s
  | .phTrimrst t n key => Sys2Proof.Machine.execPhTrimrst t n key s
  | .leShctl t mask => Sys2Proof.Machine.execLeShctl t mask s
  | .leFeclr t b key => Sys2Proof.Machine.execLeFeclr t b key s
  | .followingError t b => Sys2Proof.Machine.execFollowingError t b s
  | .feRecovered t b => Sys2Proof.Machine.execFeRecovered t b s
  | .dutySaturated t b => Sys2Proof.Machine.execDutySaturated t b s
  | .regionDwellExpiry t b => Sys2Proof.Machine.execRegionDwellExpiry t b s
  | .setpointCommand t target rate seq => Sys2Proof.Machine.execSetpointCommand t target rate seq s
  | .setpointSlewStep t => Sys2Proof.Machine.execSetpointSlewStep t s
  | .bayPresenceChange t b level => Sys2Proof.Machine.execBayPresenceChange t b level s
  | .presenceDebounce t b => Sys2Proof.Machine.execPresenceDebounce t b s
  | .bayokRise t b => Sys2Proof.Machine.execBayokRise t b s
  | .bayOkTimeout t b => Sys2Proof.Machine.execBayOkTimeout t b s
  | .bayEjectChange t b level => Sys2Proof.Machine.execBayEjectChange t b level s
  | .bayLost t b => Sys2Proof.Machine.execBayLost t b s
  | .bayPfcLost t b => Sys2Proof.Machine.execBayPfcLost t b s
  | .bayLeaveForced t b => Sys2Proof.Machine.execBayLeaveForced t b s
  | .deepTimeout t b => Sys2Proof.Machine.execDeepTimeout t b s
  | .presenceLoss100ms t x => Sys2Proof.Machine.execPresenceLoss100ms t x s
  | .warnPulse t k fall rise => Sys2Proof.Machine.execWarnPulse t k fall rise s
  | .warnStuck t k fall => Sys2Proof.Machine.execWarnStuck t k fall s
  | .warnReleased t k => Sys2Proof.Machine.execWarnReleased t k s
  | .ffInjection t c => Sys2Proof.Machine.execFfInjection t c s
  | .ffHoldExpiry t c => Sys2Proof.Machine.execFfHoldExpiry t c s
  | .ffDecayStep t => Sys2Proof.Machine.execFfDecayStep t s
  | .sagEpisodeClose t st => Sys2Proof.Machine.execSagEpisodeClose t st s
  | .regulationPointSample t codes => Sys2Proof.Machine.execRegulationPointSample t codes s
  | .mailboxRecord t r => Sys2Proof.Machine.execMailboxRecord t r s
  | .contractWrite t r => Sys2Proof.Machine.execContractWrite t r s
  | .grantReadback t id => Sys2Proof.Machine.execGrantReadback t id s
  | .grantWrite t res => Sys2Proof.Machine.execGrantWrite t res s
  | .paceReturnAcceptance t g => Sys2Proof.Machine.execPaceReturnAcceptance t g s
  | .rideThroughWindowEnd t => Sys2Proof.Machine.execRideThroughWindowEnd t s
  | .restartStagger t => Sys2Proof.Machine.execRestartStagger t s
  | .restartTimeout t => Sys2Proof.Machine.execRestartTimeout t s
  | .handbackQuiet t => Sys2Proof.Machine.execHandbackQuiet t s
  | .handbackTimeout t => Sys2Proof.Machine.execHandbackTimeout t s
  | .chatterHoldEnd t => Sys2Proof.Machine.execChatterHoldEnd t s
  | .chargeEligible t st => Sys2Proof.Machine.execChargeEligible t st s
  | .stringPresenceChange t st => Sys2Proof.Machine.execStringPresenceChange t st s
  | .stringPresenceDebounce t st => Sys2Proof.Machine.execStringPresenceDebounce t st s
  | .stringInsertCheck t st => Sys2Proof.Machine.execStringInsertCheck t st s
  | .stringRemoval t st kind => Sys2Proof.Machine.execStringRemoval t st kind s
  | .bokChange t st level => Sys2Proof.Machine.execBokChange t st level s
  | .stringSample t st q => Sys2Proof.Machine.execStringSample t st q s
  | .chargePeriodStart t st => Sys2Proof.Machine.execChargePeriodStart t st s
  | .chargeCurrentLimit t st => Sys2Proof.Machine.execChargeCurrentLimit t st s
  | .chargeSecond t st => Sys2Proof.Machine.execChargeSecond t st s
  | .chargePhaseTimeout t st => Sys2Proof.Machine.execChargePhaseTimeout t st s
  | .start t st key => Sys2Proof.Machine.execStart t st key s
  | .stop t st key => Sys2Proof.Machine.execStop t st key s
  | .clear t st key => Sys2Proof.Machine.execClear t st key s
  | .estimatorNaiveTimeout t st => Sys2Proof.Machine.execEstimatorNaiveTimeout t st s
  | .restCorrection t st => Sys2Proof.Machine.execRestCorrection t st s
  | .estimatorHibernate t => Sys2Proof.Machine.execEstimatorHibernate t s
  | .estimatorWake t byPage => Sys2Proof.Machine.execEstimatorWake t byPage s
  | .capsulePeriodicExport t st => Sys2Proof.Machine.execCapsulePeriodicExport t st s
  | .estRidx t v => Sys2Proof.Machine.execEstRidx t v s
  | .capsuleCommit t byte127 => Sys2Proof.Machine.execCapsuleCommit t byte127 s
  | .stagingTimeout t => Sys2Proof.Machine.execStagingTimeout t s
  | .fuseSample t c fi fv fgs => Sys2Proof.Machine.execFuseSample t c fi fv fgs s
  | .fuseRampWindow t c => Sys2Proof.Machine.execFuseRampWindow t c s
  | .fuseRampTimeout t c => Sys2Proof.Machine.execFuseRampTimeout t c s
  | .fuseHardTrip t c rev fi => Sys2Proof.Machine.execFuseHardTrip t c rev fi s
  | .fuseSettleDone t c => Sys2Proof.Machine.execFuseSettleDone t c s
  | .fuseGateRiseTimeout t c => Sys2Proof.Machine.execFuseGateRiseTimeout t c s
  | .fuseGateOff t c => Sys2Proof.Machine.execFuseGateOff t c s
  | .fuseGateFallTimeout t c => Sys2Proof.Machine.execFuseGateFallTimeout t c s
  | .fuseRetry t c => Sys2Proof.Machine.execFuseRetry t c s
  | .fusClr t c key => Sys2Proof.Machine.execFusClr t c key s
  | .thermalEvaluation t k code die => Sys2Proof.Machine.execThermalEvaluation t k code die s
  | .dieComparator t => Sys2Proof.Machine.execDieComparator t s
  | .reload t key => Sys2Proof.Machine.execReload t key s
  | .revert t key => Sys2Proof.Machine.execRevert t key s
  | .lockout t key => Sys2Proof.Machine.execLockout t key s
  | .resume t key => Sys2Proof.Machine.execResume t key s
  | .ship t key => Sys2Proof.Machine.execShip t key s
  | .shipFlushDone t => Sys2Proof.Machine.execShipFlushDone t s
  | .shipNotEntered t => Sys2Proof.Machine.execShipNotEntered t s
  | .uploadOpen t key => Sys2Proof.Machine.execUploadOpen t key s
  | .uploadClose t key => Sys2Proof.Machine.execUploadClose t key s
  | .uploadAbort t key => Sys2Proof.Machine.execUploadAbort t key s
  | .uploadEraseDone t => Sys2Proof.Machine.execUploadEraseDone t s
  | .uploadChunk t d => Sys2Proof.Machine.execUploadChunk t d s
  | .chunkProgrammed t ok => Sys2Proof.Machine.execChunkProgrammed t ok s
  | .imageCheckDone t => Sys2Proof.Machine.execImageCheckDone t s
  | .probationPassed t => Sys2Proof.Machine.execProbationPassed t s
  | .pin t key => Sys2Proof.Machine.execPin t key s
  | .unpin t key => Sys2Proof.Machine.execUnpin t key s
  | .unpinAll t key => Sys2Proof.Machine.execUnpinAll t key s
  | .journalScanDone t => Sys2Proof.Machine.execJournalScanDone t s
  | .journalCounters t => Sys2Proof.Machine.execJournalCounters t s
  | .journalHourly t => Sys2Proof.Machine.execJournalHourly t s
  | .compactionDone t eraseOk => Sys2Proof.Machine.execCompactionDone t eraseOk s
  | .compactionRetry t => Sys2Proof.Machine.execCompactionRetry t s
  | .flushAge t => Sys2Proof.Machine.execFlushAge t s
  | .flush t key => Sys2Proof.Machine.execFlush t key s
  | .flushBatchDone t => Sys2Proof.Machine.execFlushBatchDone t s
  | .clearLog t key => Sys2Proof.Machine.execClearLog t key s
  | .clearAll t key => Sys2Proof.Machine.execClearAll t key s
  | .clearEraseDone t => Sys2Proof.Machine.execClearEraseDone t s
  | .snapshot t key => Sys2Proof.Machine.execSnapshot t key s
  | .snapshotCaptureDone t k samples => Sys2Proof.Machine.execSnapshotCaptureDone t k samples s
  | .snapshotWritten t k => Sys2Proof.Machine.execSnapshotWritten t k s
  | .logScanDone t => Sys2Proof.Machine.execLogScanDone t s
  | .logCursorChange t region auto seq => Sys2Proof.Machine.execLogCursorChange t region auto seq s
  | .logWindowRead t => Sys2Proof.Machine.execLogWindowRead t s
  | .snapshotWindowChange t slot ofs => Sys2Proof.Machine.execSnapshotWindowChange t slot ofs s
  | .twinFrameSlot t => Sys2Proof.Machine.execTwinFrameSlot t s
  | .twinFrameReceive t f => Sys2Proof.Machine.execTwinFrameReceive t f s
  | .twinSlotMissing t => Sys2Proof.Machine.execTwinSlotMissing t s
  | .deadManRelease t => Sys2Proof.Machine.execDeadManRelease t s
  | .actinChange t level => Sys2Proof.Machine.execActinChange t level s
  | .takeoverGapExpiry t => Sys2Proof.Machine.execTakeoverGapExpiry t s
  | .ownershipContestSample t level => Sys2Proof.Machine.execOwnershipContestSample t level s
  | .dualOwner t => Sys2Proof.Machine.execDualOwner t s
  | .katDone t failing injOk => Sys2Proof.Machine.execKatDone t failing injOk s
  | .stateTransferDone t => Sys2Proof.Machine.execStateTransferDone t s
  | .standbyFit t => Sys2Proof.Machine.execStandbyFit t s
  | .switchover t key => Sys2Proof.Machine.execSwitchover t key s
  | .resync t key => Sys2Proof.Machine.execResync t key s
  | .takeback t => Sys2Proof.Machine.execTakeback t s
  | .periodicKat t failing => Sys2Proof.Machine.execPeriodicKat t failing s
  | .referenceInjection t ch err => Sys2Proof.Machine.execReferenceInjection t ch err s
  | .eccScrub t corrected uncorrectable => Sys2Proof.Machine.execEccScrub t corrected uncorrectable s
  | .healthRecord t => Sys2Proof.Machine.execHealthRecord t s
  | .transactionStop t p last => Sys2Proof.Machine.execTransactionStop t p last s
  | .transactionAbort t p cond idx addr => Sys2Proof.Machine.execTransactionAbort t p cond idx addr s
  | .sclTimeout t p idx => Sys2Proof.Machine.execSclTimeout t p idx s
  | .stretchLimit t p read => Sys2Proof.Machine.execStretchLimit t p read s
  | .araRead t won => Sys2Proof.Machine.execAraRead t won s
  | .registerWrite t p off d => Sys2Proof.Machine.execRegisterWrite t p off d s
  | .hostNotify t res => Sys2Proof.Machine.execHostNotify t res s
  | .busRecovery t p r => Sys2Proof.Machine.execBusRecovery t p r s
  | .busStuckBackoff t p => Sys2Proof.Machine.execBusStuckBackoff t p s
  | .icClaim t => Sys2Proof.Machine.execIcClaim t s
  | .icComplete t id => Sys2Proof.Machine.execIcComplete t id s
  | .holdoffExpiry t g => Sys2Proof.Machine.execHoldoffExpiry t g s
  | .renotify t => Sys2Proof.Machine.execRenotify t s
  | .irqOverdue t id => Sys2Proof.Machine.execIrqOverdue t id s
  | .provision t c => Sys2Proof.Machine.execProvision t c s
  | .deploy t c => Sys2Proof.Machine.execDeploy t c s
  | .rma t c => Sys2Proof.Machine.execRma t c s
  | .keyprog t c => Sys2Proof.Machine.execKeyprog t c s
  | .revoke t c => Sys2Proof.Machine.execRevoke t c s
  | .halt t c => Sys2Proof.Machine.execHalt t c s
  | .debugResume t c => Sys2Proof.Machine.execDebugResume t c s
  | .tpOn t c => Sys2Proof.Machine.execTpOn t c s
  | .tpOff t c => Sys2Proof.Machine.execTpOff t c s
  | .dropToken t c => Sys2Proof.Machine.execDropToken t c s
  | .nonceDraw t p v => Sys2Proof.Machine.execNonceDraw t p v s
  | .nonceExpiry t => Sys2Proof.Machine.execNonceExpiry t s
  | .tokenSubmit t p d => Sys2Proof.Machine.execTokenSubmit t p d s
  | .tokenVerified t => Sys2Proof.Machine.execTokenVerified t s
  | .tokenExpiry t => Sys2Proof.Machine.execTokenExpiry t s
  | .debugRequest t level => Sys2Proof.Machine.execDebugRequest t level s
  | .registerRead t p off n => Sys2Proof.Machine.execRegisterRead t p off n s
  | .shipSecond t => Sys2Proof.Machine.execShipSecond t s
  | .pllLock t => Sys2Proof.Machine.execPllLock t s
  | .decisionRecordTick t => Sys2Proof.Machine.execDecisionRecordTick t s
  | .logFetchDone t => Sys2Proof.Machine.execLogFetchDone t s
  | .snapshotFetchDone t => Sys2Proof.Machine.execSnapshotFetchDone t s
  | .boundaryScan t tms tdi => Sys2Proof.Machine.execBoundaryScan t tms tdi s

end Sys2Proof.Machine
end

