-- ==== Sys2Proof/Safety.lean ====
section
/-! DEFINITION. The terms claims use: what a command does, which states are ready to take it, which parts of the chip two
states agree in, and the canonical form of the stores. -/

namespace Sys2Proof.Machine

/-- The sparse stores are in canonical form: the register cells, the shadow copies, and the two image slots. -/
def State.storesWf (s : State) : Bool :=
  cellsWf s.regs && cellsWf s.shad && Memory.wf s.flash.slotA && Memory.wf s.flash.slotB

/-- The command `c` on `s` answers a next state, and `P` holds of it. -/
def Does (c : Instr) (s : State) (P : State → Prop) : Prop := ∃ u, exec c s = .next u ∧ P u

/-- A powered chip whose supervisor runs. -/
def State.up (s : State) : Prop := s.core.powered = true ∧ s.supUp = true

/-- The parts of a state that frames name: the fields of State other than the registers, with the modes' part and the pair's
part divided. -/
inductive Part
  | pending | now | free | shad | touched
  /-- The modes' part but for the next three. -/
  | core
  /-- The events that wait for the supervisor. -/
  | held
  /-- The supply. -/
  | powered
  /-- The supervisor's state. -/
  | supervisor
  | vka | otp | flash | jrn | log | ic | portH | portS | portD | sec | img | wheel
  /-- The pair's part but for the next one. -/
  | twin
  /-- The records that wait to be sent to the partner, and their sequence. -/
  | sendQ
  | phases | bays | fuses | sup | step | sensors | thm | strs | ests | est | hup | tlm | cap
  deriving DecidableEq, Repr

/-- Two states agree in a part. -/
def Part.same (s u : State) : Part → Prop
  | .pending => u.pending = s.pending
  | .now => u.now = s.now
  | .free => u.free = s.free
  | .shad => u.shad = s.shad
  | .touched => u.touched = s.touched
  | .core => { u.core with heldEvents := s.core.heldEvents, powered := s.core.powered, sup := s.core.sup } = s.core
  | .held => u.core.heldEvents = s.core.heldEvents
  | .powered => u.core.powered = s.core.powered
  | .supervisor => u.core.sup = s.core.sup
  | .vka => u.vka = s.vka
  | .otp => u.otp = s.otp
  | .flash => u.flash = s.flash
  | .jrn => u.jrn = s.jrn
  | .log => u.log = s.log
  | .ic => u.ic = s.ic
  | .portH => u.portH = s.portH
  | .portS => u.portS = s.portS
  | .portD => u.portD = s.portD
  | .sec => u.sec = s.sec
  | .img => u.img = s.img
  | .wheel => u.wheel = s.wheel
  | .twin => { u.twin with sendQ := s.twin.sendQ, recSeq := s.twin.recSeq } = s.twin
  | .sendQ => u.twin.sendQ = s.twin.sendQ ∧ u.twin.recSeq = s.twin.recSeq
  | .phases => u.phases = s.phases
  | .bays => u.bays = s.bays
  | .fuses => u.fuses = s.fuses
  | .sup => u.sup = s.sup
  | .step => u.step = s.step
  | .sensors => u.sensors = s.sensors
  | .thm => u.thm = s.thm
  | .strs => u.strs = s.strs
  | .ests => u.ests = s.ests
  | .est => u.est = s.est
  | .hup => u.hup = s.hup
  | .tlm => u.tlm = s.tlm
  | .cap => u.cap = s.cap

/-- `u` agrees with `s` in every part but the listed ones, and in every register outside the listed pages. -/
def LeavesAllBut (parts : List Part) (pages : List Nat) (s u : State) : Prop :=
  (∀ p, p ∉ parts → p.same s u) ∧ ∀ (f : Field) (i : Nat), f.onPage ∉ pages → u.regAt f i = s.regAt f i

end Sys2Proof.Machine
end

