-- ==== Sys2Proof/Safety/Claims.lean ====
section
/-! DEFINITION. More terms of the claims: which registers alone a command can write, that an event was raised, and what the
interrupt controller's sources follow. -/

namespace Sys2Proof.Machine

/-- The registers raising an event can write: the recorder's own (R345-R348, R354, R455). -/
def recorderFields : List Field :=
  [Reg.REC_LASTSEQ, Reg.REC_SEVCNT, Reg.REC_MAXSEV_SEV, Reg.REC_MAXSEV_ANY, Reg.REC_QDROP, Reg.REC_FLAGS_QDROP,
   Reg.REC_STAT_FLUSHING, Reg.REC_STAT_SNBUSY, Reg.REC_SNDROP, Reg.REC_FLAGS_SNDROP]

/-- Every register but the listed ones, and the recorder's, reads as before. -/
def OnlyRegs (fs : List Field) (s u : State) : Prop :=
  ∀ (f : Field) (i : Nat), f.place ∉ fs.map Field.place → f.place ∉ recorderFields.map Field.place → u.regAt f i = s.regAt f i

/-- Every register but the listed ones reads as before, the recorder's too. -/
def OnlyRegsQuiet (fs : List Field) (s u : State) : Prop :=
  ∀ (f : Field) (i : Nat), f.place ∉ fs.map Field.place → u.regAt f i = s.regAt f i

/-- The event `code` with its severity and first two parameters is the last one raised by the step, or, while the supervisor is
down, is held for the end of its restart or halt (R65, R345, R442, R458). A dropped snapshot raises an event of its own after
one that triggers a snapshot (R354), so the severity stands below REC_SNSEV, or REC_SNSEV is 0. -/
def Raised (code sev p0 p1 : Nat) (s u : State) : Prop :=
  if s.supUp then
    (s.reg Reg.REC_SNSEV = 0 ∨ sev < s.reg Reg.REC_SNSEV) →
      ∃ r, u.log.last = some r ∧ r.code = code ∧ r.sev = sev ∧ r.p0 = p0 % 2 ^ 32 ∧ r.p1 = p1 % 2 ^ 32 ∧ r.tm = u.now
  else ∃ e ∈ u.core.heldEvents, e.code = code ∧ e.sev = sev ∧ e.p0 = p0 ∧ e.p1 = p1

/-- R415: what a source's level makes of its state between claims and completions. -/
def State.follows (s : State) (i : Fin 128) : SrcState :=
  match s.ic.src[i] with
  | .idle => if s.icLevel i then (if (s.ic.timer[icGroup i]).isSome then .held else .pending) else .idle
  | .pending => if s.icLevel i then .pending else .idle
  | .active => .active
  | .held => if s.icLevel i then .held else .idle

/-- Every source in use agrees with its level: the controller has nothing to move. -/
def State.icSettled (s : State) : Prop := ∀ i ∈ icIds, s.follows i = s.ic.src[i]

/-- The commands that act on a chip without VDD: its power-on, its resets, and the VKA domain's own (R53, R66, R69, R71, R462). -/
def actsWithoutVdd : Instr → Bool
  | .powerOnReset .. => true
  | .rstNAsserted .. => true
  | .supplyLoss .. => true
  | .vkaLost .. => true
  | .shipWake .. => true
  | .shipSecond .. => true
  | _ => false

/-- The commands that are one write of the host on port H (R403). -/
def hostWriteOf : Instr → Bool
  | .phTrimrst .. => true
  | .leShctl .. => true
  | .leFeclr .. => true
  | .setpointCommand .. => true
  | .contractWrite .. => true
  | .grantReadback .. => true
  | .start .. => true
  | .stop .. => true
  | .clear .. => true
  | .estRidx .. => true
  | .fusClr .. => true
  | .reload .. => true
  | .revert .. => true
  | .lockout .. => true
  | .resume .. => true
  | .ship .. => true
  | .uploadOpen .. => true
  | .uploadClose .. => true
  | .uploadAbort .. => true
  | .uploadChunk .. => true
  | .pin .. => true
  | .unpin .. => true
  | .unpinAll .. => true
  | .flush .. => true
  | .clearLog .. => true
  | .clearAll .. => true
  | .snapshot .. => true
  | .logCursorChange .. => true
  | .snapshotWindowChange .. => true
  | .switchover .. => true
  | .resync .. => true
  | .icComplete .. => true
  | .tokenSubmit .. => true
  | _ => false

end Sys2Proof.Machine
end

