-- ==== Sys2Proof/Safety/Frames.lean ====
section
/-! DEFINITION. What a command may change: the parts of State and the register pages outside which it leaves everything as it
was. The sets follow the effects the rules give the commands. -/

namespace Sys2Proof.Machine

/-- What a command that can raise an event may change at the least: the time, the recorder's queue, the events held for the
supervisor, the records for the partner, and the interrupt controller. -/
def eventParts : List Part := [.now, .held, .log, .ic, .sendQ]

/-- Every register page. -/
def allPages : List Nat := List.range 64

/-- The parts of State and the register pages a command may change. -/
def mayChange : Instr → List Part × List Nat
  | .powerOnReset .. => (eventParts ++ [.shad, .touched, .core, .powered, .vka, .otp, .flash, .jrn, .portH, .portS, .portD, .sec, .img, .wheel, .twin, .phases, .bays, .fuses, .sup, .step, .sensors, .thm, .strs, .ests, .est, .hup, .tlm, .cap, .supervisor], allPages)
  | .rstNAsserted .. => (eventParts ++ [.shad, .touched, .core, .powered, .jrn, .portH, .portS, .portD, .sec, .img, .wheel, .twin, .phases, .bays, .fuses, .sup, .step, .sensors, .thm, .strs, .ests, .est, .hup, .tlm, .cap, .supervisor], allPages)
  | .supplyLoss .. => (eventParts ++ [.shad, .touched, .core, .powered, .jrn, .portH, .portS, .portD, .sec, .img, .wheel, .twin, .phases, .bays, .fuses, .sup, .step, .sensors, .thm, .strs, .ests, .est, .hup, .tlm, .cap, .supervisor], allPages)
  | .vkaLost .. => ([.now, .vka], [0x02, 0x22])
  | .powerFailWarning .. => (eventParts ++ [.free, .flash, .jrn, .est], [0x05, 0x1C, 0x1E, 0x26, 0x27, 0x32])
  | .shipWake .. => ([.now, .vka], [])
  | .crystalFault .. => (eventParts ++ [.shad, .touched, .core, .flash, .jrn, .sec, .img, .wheel, .twin, .phases, .bays, .fuses, .sup, .step, .strs, .ests, .est, .hup, .cap, .supervisor], [0x02, 0x04, 0x05, 0x10, 0x11, 0x14, 0x15, 0x17, 0x18, 0x1A, 0x1B, 0x1C, 0x20, 0x26, 0x27, 0x30, 0x32, 0x34, 0x3E])
  | .clockHandover .. => (eventParts ++ [.twin], [0x02, 0x04, 0x05, 0x26, 0x27, 0x32, 0x34])
  | .supervisorRestart .. => (eventParts ++ [.shad, .touched, .core, .flash, .jrn, .sec, .img, .twin, .cap, .supervisor], [0x02, 0x05, 0x26, 0x27, 0x30, 0x32, 0x34, 0x3E])
  | .supervisorRestartEnd .. => (eventParts ++ [.shad, .touched, .core, .flash, .jrn, .img, .twin, .cap, .supervisor], [0x02, 0x05, 0x26, 0x27, 0x30, 0x32, 0x34])
  | .operatingSecond .. => ([.now, .core, .flash, .jrn, .log, .ic, .img, .sendQ], [0x05, 0x26, 0x27, 0x30, 0x32])
  | .wheelPoint .. => (eventParts ++ [.free, .shad, .touched, .core, .vka, .flash, .jrn, .sec, .img, .wheel, .phases, .bays, .fuses, .sup, .step, .strs, .ests, .est, .hup, .tlm, .cap, .supervisor], allPages)
  | .calendarEntry .. => (eventParts ++ [.free, .shad, .touched, .core, .vka, .otp, .flash, .jrn, .sec, .img, .wheel, .twin, .phases, .bays, .fuses, .sup, .step, .strs, .ests, .est, .hup, .cap, .supervisor], allPages)
  | .referenceValid .. => ([.now, .ic, .wheel, .sendQ, .hup], [0x04])
  | .referenceLost .. => (eventParts ++ [.wheel, .hup], [0x04, 0x05, 0x26, 0x27])
  | .wheelLock .. => (eventParts ++ [.wheel, .hup], [0x04, 0x05, 0x26, 0x27])
  | .acquireTimeout .. => (eventParts ++ [.wheel, .hup], [0x04, 0x05, 0x26, 0x27])
  | .phaseErrorCycle .. => (eventParts ++ [.wheel, .hup], [0x04, 0x05, 0x26, 0x27])
  | .feedAReturn .. => (eventParts ++ [.wheel, .hup], [0x04, 0x05, 0x26, 0x27])
  | .crestCheck .. => (eventParts ++ [.shad, .touched, .core, .flash, .jrn, .sec, .img, .phases, .bays, .fuses, .sup, .step, .strs, .ests, .hup, .cap, .supervisor], [0x02, 0x05, 0x06, 0x10, 0x11, 0x14, 0x15, 0x17, 0x1A, 0x1B, 0x20, 0x26, 0x27, 0x30, 0x32, 0x3E])
  | .acZeroCrossing .. => (eventParts ++ [.free, .shad, .touched, .core, .flash, .jrn, .sec, .img, .phases, .bays, .fuses, .sup, .step, .strs, .ests, .hup, .cap, .supervisor], [0x02, 0x05, 0x10, 0x11, 0x14, 0x15, 0x17, 0x1A, 0x1B, 0x20, 0x26, 0x27, 0x30, 0x32, 0x3E])
  | .rmsWindowDeadline .. => (eventParts ++ [.shad, .touched, .core, .flash, .jrn, .sec, .img, .phases, .bays, .fuses, .sup, .step, .strs, .ests, .hup, .cap, .supervisor], [0x02, 0x05, 0x10, 0x11, 0x14, 0x15, 0x17, 0x1A, 0x1B, 0x20, 0x26, 0x27, 0x30, 0x32, 0x3E])
  | .frequencyDeadline .. => (eventParts ++ [.shad, .touched, .core, .flash, .jrn, .sec, .img, .phases, .bays, .fuses, .sup, .step, .strs, .ests, .hup, .cap, .supervisor], [0x02, 0x05, 0x10, 0x11, 0x14, 0x15, 0x17, 0x1A, 0x1B, 0x20, 0x26, 0x27, 0x30, 0x32, 0x3E])
  | .bayPeriodStart .. => (eventParts ++ [.free, .shad, .twin, .phases, .bays, .fuses, .sup], allPages)
  | .loopTrigger .. => (eventParts ++ [.bays], allPages)
  | .bayOutputConversion .. => (eventParts ++ [.phases, .bays, .sup, .step], [0x05, 0x06, 0x10, 0x11, 0x17, 0x26, 0x27])
  | .imonSample .. => (eventParts ++ [.phases, .bays, .sup, .step], [0x05, 0x06, 0x10, 0x11, 0x17, 0x24, 0x26, 0x27])
  | .shedDwellExpiry .. => ([.now, .ic, .sendQ, .bays], [])
  | .phaseOffsetTaken .. => (eventParts ++ [.phases, .bays, .sup], [0x05, 0x10, 0x11, 0x14, 0x26, 0x27])
  | .phTrimrst .. => ([.now, .flash, .jrn, .log, .ic, .sendQ, .phases, .bays, .sup], [0x05, 0x10, 0x11, 0x26, 0x27, 0x32])
  | .leShctl .. => ([.now, .ic, .sendQ], [0x12])
  | .leFeclr .. => (eventParts ++ [.phases, .bays, .fuses, .sup], [0x05, 0x10, 0x11, 0x12, 0x14, 0x20, 0x26, 0x27])
  | .followingError .. => (eventParts ++ [.free, .phases, .bays, .fuses, .sup], [0x05, 0x10, 0x11, 0x12, 0x14, 0x15, 0x20, 0x26, 0x27])
  | .feRecovered .. => (eventParts ++ [.bays], [0x05, 0x12, 0x26, 0x27])
  | .dutySaturated .. => (eventParts ++ [.bays], [0x05, 0x12, 0x26, 0x27])
  | .regionDwellExpiry .. => ([.now, .ic, .sendQ, .bays], [0x12])
  | .setpointCommand .. => (eventParts ++ [.sup], [0x05, 0x14, 0x26, 0x27])
  | .setpointSlewStep .. => (eventParts ++ [.sup, .hup], [0x05, 0x14, 0x1A, 0x26, 0x27])
  | .bayPresenceChange .. => (eventParts ++ [.phases, .bays, .fuses, .sup], [0x05, 0x10, 0x11, 0x14, 0x20, 0x26, 0x27])
  | .presenceDebounce .. => (eventParts ++ [.phases, .bays, .fuses, .sup], [0x05, 0x10, 0x11, 0x14, 0x20, 0x26, 0x27])
  | .bayokRise .. => (eventParts ++ [.phases, .bays, .fuses, .sup], [0x05, 0x10, 0x11, 0x14, 0x20, 0x26, 0x27])
  | .bayOkTimeout .. => (eventParts ++ [.free, .phases, .bays, .fuses, .sup], [0x05, 0x10, 0x11, 0x14, 0x15, 0x20, 0x26, 0x27])
  | .bayEjectChange .. => (eventParts ++ [.phases, .bays, .fuses, .sup], [0x05, 0x10, 0x11, 0x14, 0x20, 0x26, 0x27])
  | .bayLost .. => (eventParts ++ [.free, .phases, .bays, .fuses, .sup], [0x05, 0x10, 0x11, 0x14, 0x15, 0x20, 0x26, 0x27])
  | .bayPfcLost .. => (eventParts ++ [.free, .phases, .bays, .fuses, .sup], [0x05, 0x10, 0x11, 0x14, 0x15, 0x20, 0x26, 0x27])
  | .bayLeaveForced .. => (eventParts ++ [.phases, .bays, .fuses, .sup], [0x05, 0x10, 0x11, 0x14, 0x20, 0x26, 0x27])
  | .deepTimeout .. => ([.now, .ic, .sendQ, .bays], [0x14])
  | .presenceLoss100ms .. => ([.now, .flash, .jrn, .log, .ic, .sendQ, .phases, .bays, .fuses, .sup], [0x05, 0x10, 0x11, 0x26, 0x27, 0x32])
  | .warnPulse .. => (eventParts ++ [.phases, .bays, .sup, .step], [0x05, 0x10, 0x11, 0x17, 0x26, 0x27])
  | .warnStuck .. => (eventParts ++ [.step], [0x05, 0x17, 0x26, 0x27])
  | .warnReleased .. => (eventParts, [0x05, 0x17, 0x26, 0x27])
  | .ffInjection .. => ([.now, .ic, .sendQ, .step], [0x17])
  | .ffHoldExpiry .. => ([.now, .ic, .sendQ, .step], [0x17])
  | .ffDecayStep .. => ([.now, .ic, .sendQ, .step], [0x17])
  | .sagEpisodeClose .. => (eventParts ++ [.step, .strs, .ests], [0x05, 0x17, 0x1B, 0x26, 0x27])
  | .regulationPointSample .. => (eventParts ++ [.sup, .step, .tlm], [0x05, 0x06, 0x17, 0x24, 0x26, 0x27])
  | .mailboxRecord .. => (eventParts ++ [.shad, .touched, .cap], [0x05, 0x18, 0x26, 0x27])
  | .contractWrite .. => (eventParts ++ [.shad, .touched, .cap], [0x05, 0x18, 0x19, 0x26, 0x27])
  | .grantReadback .. => ([.now, .ic, .portS, .sendQ, .cap], [])
  | .grantWrite .. => (eventParts ++ [.portH, .portS, .portD, .cap], [0x05, 0x18, 0x19, 0x26, 0x27, 0x38])
  | .paceReturnAcceptance .. => (eventParts ++ [.phases, .bays, .sup, .step], [0x05, 0x10, 0x11, 0x26, 0x27])
  | .rideThroughWindowEnd .. => ([.now, .ic, .sendQ], [0x1A])
  | .restartStagger .. => (eventParts ++ [.phases, .bays, .fuses, .sup, .hup], [0x05, 0x10, 0x11, 0x14, 0x15, 0x20, 0x26, 0x27])
  | .restartTimeout .. => (eventParts ++ [.sup, .hup], [0x05, 0x14, 0x1A, 0x26, 0x27])
  | .handbackQuiet .. => (eventParts ++ [.shad, .touched, .core, .flash, .jrn, .sec, .img, .bays, .sup, .strs, .cap, .supervisor], [0x02, 0x05, 0x14, 0x1A, 0x26, 0x27, 0x30, 0x32, 0x3E])
  | .handbackTimeout .. => (eventParts ++ [.shad, .touched, .core, .flash, .jrn, .sec, .img, .bays, .sup, .strs, .cap, .supervisor], [0x02, 0x05, 0x14, 0x1A, 0x26, 0x27, 0x30, 0x32, 0x3E])
  | .chatterHoldEnd .. => (eventParts ++ [.phases, .bays, .fuses, .sup, .hup], [0x05, 0x10, 0x11, 0x14, 0x15, 0x1A, 0x20, 0x26, 0x27])
  | .chargeEligible .. => (eventParts ++ [.strs], [0x05, 0x1B, 0x26, 0x27])
  | .stringPresenceChange .. => (eventParts ++ [.fuses, .strs], [0x05, 0x20, 0x26, 0x27])
  | .stringPresenceDebounce .. => ([.now, .ic, .sendQ, .strs], [0x1B])
  | .stringInsertCheck .. => (eventParts ++ [.fuses, .strs], [0x05, 0x1B, 0x20, 0x26, 0x27])
  | .stringRemoval .. => (eventParts ++ [.fuses, .step, .strs, .ests, .est], [0x05, 0x17, 0x1B, 0x1C, 0x1D, 0x1E, 0x20, 0x26, 0x27])
  | .bokChange .. => (eventParts ++ [.strs], [0x05, 0x1B, 0x26, 0x27])
  | .stringSample .. => (eventParts ++ [.sensors, .strs, .ests, .est, .hup], [0x05, 0x08, 0x1B, 0x24, 0x26, 0x27])
  | .chargePeriodStart .. => ([.now, .ic, .twin, .sendQ, .strs], [0x34])
  | .chargeCurrentLimit .. => ([.now, .ic, .sendQ, .strs], [])
  | .chargeSecond .. => (eventParts ++ [.strs, .ests], [0x05, 0x1B, 0x26, 0x27])
  | .chargePhaseTimeout .. => (eventParts ++ [.strs], [0x05, 0x1B, 0x26, 0x27])
  | .start .. => (eventParts ++ [.strs], [0x05, 0x1B, 0x26, 0x27])
  | .stop .. => (eventParts ++ [.strs], [0x05, 0x1B, 0x26, 0x27])
  | .clear .. => ([.now, .ic, .sendQ, .strs], [0x1B])
  | .estimatorNaiveTimeout .. => (eventParts, [0x05, 0x1C, 0x26, 0x27])
  | .restCorrection .. => (eventParts ++ [.ests], [0x05, 0x1C, 0x26, 0x27])
  | .estimatorHibernate .. => ([.now, .ic, .sendQ], [0x1C])
  | .estimatorWake .. => (eventParts ++ [.free, .strs, .ests, .est], [0x05, 0x1B, 0x1C, 0x1D, 0x1E, 0x26, 0x27])
  | .capsulePeriodicExport .. => ([.now, .ic, .sendQ, .ests], [])
  | .estRidx .. => (eventParts ++ [.est], [0x05, 0x1C, 0x1E, 0x26, 0x27])
  | .capsuleCommit .. => (eventParts ++ [.free, .ests], [0x05, 0x1C, 0x1E, 0x26, 0x27])
  | .stagingTimeout .. => (eventParts ++ [.est], [0x05, 0x1C, 0x1E, 0x26, 0x27])
  | .fuseSample .. => (eventParts ++ [.free, .phases, .bays, .fuses, .sup, .step, .strs], [0x05, 0x07, 0x10, 0x11, 0x14, 0x15, 0x17, 0x1B, 0x20, 0x26, 0x27])
  | .fuseRampWindow .. => (eventParts ++ [.free, .phases, .bays, .fuses, .sup, .strs], [0x05, 0x10, 0x11, 0x14, 0x15, 0x1B, 0x20, 0x26, 0x27])
  | .fuseRampTimeout .. => (eventParts ++ [.free, .phases, .bays, .fuses, .sup, .strs], [0x05, 0x10, 0x11, 0x14, 0x15, 0x1B, 0x20, 0x26, 0x27])
  | .fuseHardTrip .. => (eventParts ++ [.free, .phases, .bays, .fuses, .sup, .strs], [0x05, 0x07, 0x10, 0x11, 0x14, 0x15, 0x1B, 0x20, 0x26, 0x27])
  | .fuseSettleDone .. => (eventParts ++ [.phases, .bays, .fuses, .sup, .strs, .ests], [0x05, 0x10, 0x11, 0x14, 0x1A, 0x1B, 0x1C, 0x20, 0x26, 0x27])
  | .fuseGateRiseTimeout .. => (eventParts ++ [.free, .phases, .bays, .fuses, .sup, .strs], [0x05, 0x10, 0x11, 0x14, 0x15, 0x1B, 0x20, 0x26, 0x27])
  | .fuseGateOff .. => (eventParts ++ [.fuses], [0x05, 0x20, 0x26, 0x27])
  | .fuseGateFallTimeout .. => (eventParts ++ [.shad, .touched, .core, .flash, .jrn, .img, .phases, .bays, .fuses, .sup, .cap], [0x02, 0x05, 0x10, 0x11, 0x14, 0x20, 0x26, 0x27, 0x30, 0x32])
  | .fuseRetry .. => (eventParts ++ [.bays, .fuses], [0x05, 0x14, 0x20, 0x26, 0x27])
  | .fusClr .. => (eventParts ++ [.phases, .bays, .fuses, .sup], [0x05, 0x10, 0x11, 0x14, 0x20, 0x26, 0x27])
  | .thermalEvaluation .. => (eventParts ++ [.free, .shad, .touched, .core, .vka, .flash, .jrn, .sec, .img, .twin, .step, .sensors, .thm, .strs, .ests, .cap, .supervisor], [0x02, 0x05, 0x08, 0x17, 0x18, 0x1B, 0x22, 0x26, 0x27, 0x30, 0x32, 0x34, 0x3E])
  | .dieComparator .. => (eventParts ++ [.free, .shad, .touched, .core, .vka, .flash, .jrn, .sec, .img, .twin, .step, .strs, .ests, .cap, .supervisor], [0x02, 0x05, 0x17, 0x18, 0x1B, 0x22, 0x26, 0x27, 0x30, 0x32, 0x34, 0x3E])
  | .reload .. => (eventParts ++ [.shad, .touched, .core, .img, .cap], [0x02, 0x05, 0x26, 0x27, 0x30])
  | .revert .. => (eventParts ++ [.shad, .touched, .core, .flash, .jrn, .img, .cap], [0x02, 0x05, 0x26, 0x27, 0x30, 0x32])
  | .lockout .. => (eventParts ++ [.shad, .touched, .core, .flash, .jrn, .sec, .img, .twin, .step, .strs, .ests, .cap, .supervisor], [0x02, 0x05, 0x17, 0x18, 0x1B, 0x26, 0x27, 0x30, 0x32, 0x34, 0x3E])
  | .resume .. => (eventParts ++ [.shad, .touched, .core, .flash, .jrn, .sec, .img, .wheel, .phases, .bays, .fuses, .sup, .step, .strs, .ests, .hup, .cap, .supervisor], [0x02, 0x05, 0x10, 0x11, 0x14, 0x15, 0x17, 0x18, 0x1A, 0x1B, 0x20, 0x26, 0x27, 0x30, 0x32, 0x3E])
  | .ship .. => (eventParts ++ [.shad, .touched, .core, .flash, .jrn, .sec, .img, .cap, .supervisor], [0x02, 0x05, 0x26, 0x27, 0x30, 0x32, 0x3E])
  | .shipFlushDone .. => (eventParts ++ [.core, .vka, .flash, .jrn, .phases, .bays, .fuses, .sup, .strs], [0x05, 0x10, 0x11, 0x1B, 0x20, 0x26, 0x27, 0x32])
  | .shipNotEntered .. => (eventParts ++ [.shad, .touched, .core, .vka, .flash, .jrn, .sec, .img, .twin, .step, .strs, .ests, .cap, .supervisor], [0x02, 0x05, 0x17, 0x18, 0x1B, 0x26, 0x27, 0x30, 0x32, 0x34, 0x3E])
  | .uploadOpen .. => ([.now, .flash, .jrn, .log, .ic, .img, .sendQ], [0x05, 0x26, 0x27, 0x30, 0x32])
  | .uploadClose .. => (eventParts ++ [.flash, .jrn], [0x05, 0x26, 0x27, 0x30, 0x32])
  | .uploadAbort .. => ([.now, .flash, .jrn, .log, .ic, .img, .sendQ], [0x05, 0x26, 0x27, 0x30, 0x32])
  | .uploadEraseDone .. => ([.now, .flash, .jrn, .log, .ic, .sendQ], [0x05, 0x26, 0x27, 0x30, 0x32])
  | .uploadChunk .. => ([.now, .ic, .img, .sendQ], [0x30])
  | .chunkProgrammed .. => (eventParts ++ [.flash, .img], [0x05, 0x26, 0x27, 0x30, 0x32])
  | .imageCheckDone .. => (eventParts ++ [.shad, .touched, .core, .flash, .jrn, .sec, .img, .wheel, .phases, .bays, .fuses, .sup, .step, .strs, .ests, .hup, .cap, .supervisor], allPages)
  | .probationPassed .. => (eventParts ++ [.otp, .flash, .jrn], [0x02, 0x05, 0x26, 0x27, 0x30, 0x32])
  | .pin .. => (eventParts ++ [.flash, .jrn], [0x05, 0x26, 0x27, 0x30, 0x32])
  | .unpin .. => ([.now, .flash, .jrn, .log, .ic, .sendQ], [0x05, 0x26, 0x27, 0x30, 0x32])
  | .unpinAll .. => ([.now, .flash, .jrn, .log, .ic, .sendQ], [0x05, 0x26, 0x27, 0x30, 0x32])
  | .journalScanDone .. => (eventParts ++ [.shad, .touched, .core, .flash, .jrn, .img, .cap], [0x02, 0x05, 0x15, 0x26, 0x27, 0x30, 0x32])
  | .journalCounters .. => ([.now, .flash, .jrn, .log, .ic, .sendQ], [0x05, 0x26, 0x27, 0x32])
  | .journalHourly .. => ([.now, .flash, .jrn, .log, .ic, .sendQ], [0x05, 0x26, 0x27, 0x32])
  | .compactionDone .. => (eventParts ++ [.flash, .jrn], [0x05, 0x26, 0x27, 0x32])
  | .compactionRetry .. => ([.now, .flash, .jrn, .log, .ic, .sendQ], [0x05, 0x26, 0x27, 0x32])
  | .flushAge .. => ([.now, .log, .ic, .sendQ], [0x26])
  | .flush .. => ([.now, .log, .ic, .sendQ], [0x26])
  | .flushBatchDone .. => (eventParts ++ [.flash, .jrn], [0x05, 0x26, 0x27, 0x32])
  | .clearLog .. => (eventParts ++ [.flash, .jrn], [0x05, 0x26, 0x27, 0x32])
  | .clearAll .. => (eventParts ++ [.flash, .jrn], [0x05, 0x26, 0x27, 0x32])
  | .clearEraseDone .. => (eventParts ++ [.flash, .jrn], [0x05, 0x26, 0x27, 0x32])
  | .snapshot .. => ([.now, .log, .ic, .sendQ], [0x05, 0x26, 0x27])
  | .snapshotCaptureDone .. => ([.now, .log, .ic, .sendQ], [])
  | .snapshotWritten .. => (eventParts ++ [.flash, .jrn], [0x05, 0x26, 0x27, 0x32])
  | .logScanDone .. => (eventParts, [0x05, 0x26, 0x27])
  | .logCursorChange .. => ([.now, .log, .ic, .sendQ], [0x26])
  | .logWindowRead .. => ([.now, .log, .ic, .sendQ], [])
  | .snapshotWindowChange .. => ([.now, .log, .ic, .sendQ], [0x27])
  | .twinFrameSlot .. => (eventParts ++ [.twin], [0x05, 0x26, 0x27, 0x34])
  | .twinFrameReceive .. => (eventParts ++ [.free, .shad, .touched, .core, .flash, .jrn, .sec, .img, .twin, .bays, .fuses, .strs, .ests, .est, .cap, .supervisor], allPages)
  | .twinSlotMissing .. => (eventParts ++ [.twin], [0x05, 0x26, 0x27, 0x34, 0x35])
  | .deadManRelease .. => (eventParts ++ [.shad, .touched, .core, .flash, .jrn, .sec, .img, .twin, .ests, .est, .cap, .supervisor], [0x02, 0x05, 0x1C, 0x26, 0x27, 0x30, 0x32, 0x34, 0x3E])
  | .actinChange .. => ([.now, .ic, .twin, .sendQ], [])
  | .takeoverGapExpiry .. => (eventParts ++ [.free, .shad, .touched, .core, .flash, .jrn, .sec, .img, .wheel, .twin, .phases, .bays, .fuses, .sup, .step, .strs, .ests, .hup, .cap, .supervisor], [0x02, 0x05, 0x10, 0x11, 0x14, 0x15, 0x17, 0x18, 0x1A, 0x1B, 0x20, 0x26, 0x27, 0x30, 0x32, 0x34, 0x3E])
  | .ownershipContestSample .. => (eventParts ++ [.shad, .touched, .core, .flash, .jrn, .sec, .img, .twin, .cap, .supervisor], [0x02, 0x05, 0x26, 0x27, 0x30, 0x32, 0x34, 0x3E])
  | .dualOwner .. => (eventParts ++ [.shad, .touched, .core, .flash, .jrn, .sec, .img, .twin, .ests, .est, .cap, .supervisor], [0x02, 0x05, 0x1C, 0x26, 0x27, 0x30, 0x32, 0x34, 0x3E])
  | .katDone .. => (eventParts ++ [.free, .shad, .touched, .core, .flash, .jrn, .sec, .img, .twin, .ests, .est, .cap, .supervisor], [0x02, 0x05, 0x1C, 0x26, 0x27, 0x30, 0x32, 0x34, 0x3E])
  | .stateTransferDone .. => (eventParts ++ [.twin], [0x05, 0x26, 0x27, 0x34])
  | .standbyFit .. => (eventParts ++ [.twin], [0x05, 0x26, 0x27, 0x34])
  | .switchover .. => (eventParts ++ [.shad, .touched, .core, .flash, .jrn, .sec, .img, .twin, .ests, .est, .cap, .supervisor], [0x02, 0x05, 0x1C, 0x26, 0x27, 0x30, 0x32, 0x34, 0x3E])
  | .resync .. => ([.now, .ic, .sendQ], [0x34])
  | .takeback .. => (eventParts ++ [.free, .shad, .touched, .core, .flash, .jrn, .sec, .img, .wheel, .twin, .phases, .bays, .fuses, .sup, .step, .strs, .ests, .hup, .cap, .supervisor], [0x02, 0x05, 0x10, 0x11, 0x14, 0x15, 0x17, 0x18, 0x1A, 0x1B, 0x20, 0x26, 0x27, 0x30, 0x32, 0x34, 0x3E])
  | .periodicKat .. => (eventParts ++ [.twin], [0x05, 0x26, 0x27, 0x34])
  | .referenceInjection .. => (eventParts ++ [.twin], [0x05, 0x26, 0x27, 0x34, 0x35])
  | .eccScrub .. => (eventParts ++ [.twin], [0x05, 0x26, 0x27, 0x34, 0x35])
  | .healthRecord .. => ([.now, .ic, .twin, .sendQ], [])
  | .transactionStop .. => (eventParts ++ [.free, .shad, .touched, .core, .vka, .otp, .flash, .jrn, .portH, .portS, .portD, .sec, .img, .wheel, .twin, .phases, .bays, .fuses, .sup, .step, .strs, .ests, .est, .hup, .cap, .supervisor], allPages)
  | .transactionAbort .. => (eventParts ++ [.free, .shad, .touched, .core, .vka, .otp, .flash, .jrn, .portH, .portS, .portD, .sec, .img, .wheel, .twin, .phases, .bays, .fuses, .sup, .step, .strs, .ests, .est, .hup, .cap, .supervisor], allPages)
  | .sclTimeout .. => (eventParts ++ [.free, .shad, .touched, .core, .vka, .otp, .flash, .jrn, .portH, .portS, .portD, .sec, .img, .wheel, .twin, .phases, .bays, .fuses, .sup, .step, .strs, .ests, .est, .hup, .cap, .supervisor], allPages)
  | .stretchLimit .. => (eventParts ++ [.portH, .portS, .portD], [0x05, 0x26, 0x27, 0x38])
  | .araRead .. => ([.now, .ic, .portH, .portS, .portD, .sendQ], [])
  | .registerWrite .. => (eventParts ++ [.free, .shad, .touched, .core, .vka, .otp, .flash, .jrn, .portH, .portS, .portD, .sec, .img, .wheel, .twin, .phases, .bays, .fuses, .sup, .step, .strs, .ests, .est, .hup, .cap, .supervisor], allPages)
  | .hostNotify .. => (eventParts ++ [.free, .portH, .portS, .portD], [0x05, 0x26, 0x27, 0x38])
  | .busRecovery .. => (eventParts ++ [.portH, .portS, .portD, .cap], [0x05, 0x18, 0x19, 0x26, 0x27, 0x38])
  | .busStuckBackoff .. => ([.now, .ic, .portH, .portS, .portD, .sendQ], [])
  | .icClaim .. => ([.now, .ic, .sendQ], [])
  | .icComplete .. => (eventParts, [0x05, 0x26, 0x27, 0x3C])
  | .holdoffExpiry .. => ([.now, .ic, .sendQ], [])
  | .renotify .. => ([.now, .ic, .sendQ], [])
  | .irqOverdue .. => (eventParts, [0x05, 0x26, 0x27])
  | .provision .. => (eventParts ++ [.shad, .touched, .core, .otp, .flash, .jrn, .sec, .img, .cap, .supervisor], [0x02, 0x05, 0x26, 0x27, 0x30, 0x32, 0x3E])
  | .deploy .. => (eventParts ++ [.shad, .touched, .core, .otp, .flash, .jrn, .sec, .img, .cap, .supervisor], [0x02, 0x05, 0x26, 0x27, 0x30, 0x32, 0x3E])
  | .rma .. => (eventParts ++ [.shad, .touched, .core, .otp, .flash, .jrn, .sec, .img, .cap, .supervisor], [0x02, 0x05, 0x26, 0x27, 0x30, 0x32, 0x3E])
  | .keyprog .. => (eventParts ++ [.otp], [0x05, 0x26, 0x27, 0x3E])
  | .revoke .. => (eventParts ++ [.shad, .touched, .core, .otp, .flash, .jrn, .sec, .img, .cap, .supervisor], [0x02, 0x05, 0x26, 0x27, 0x30, 0x32, 0x3E])
  | .halt .. => (eventParts ++ [.supervisor], [0x05, 0x26, 0x27, 0x3E])
  | .debugResume .. => (eventParts ++ [.shad, .touched, .core, .flash, .jrn, .img, .cap, .supervisor], [0x02, 0x05, 0x26, 0x27, 0x30, 0x32, 0x3E])
  | .tpOn .. => (eventParts ++ [.sec], [0x05, 0x26, 0x27, 0x3E])
  | .tpOff .. => (eventParts ++ [.sec], [0x05, 0x26, 0x27, 0x3E])
  | .dropToken .. => (eventParts ++ [.shad, .touched, .core, .flash, .jrn, .sec, .img, .cap, .supervisor], [0x02, 0x05, 0x26, 0x27, 0x30, 0x32, 0x3E])
  | .nonceDraw .. => ([.now, .ic, .sec, .sendQ], [0x3E])
  | .nonceExpiry .. => ([.now, .ic, .sec, .sendQ], [])
  | .tokenSubmit .. => ([.now, .ic, .sec, .sendQ], [0x3E])
  | .tokenVerified .. => (eventParts ++ [.shad, .touched, .core, .flash, .jrn, .sec, .img, .cap, .supervisor], [0x02, 0x05, 0x26, 0x27, 0x30, 0x32, 0x3E])
  | .tokenExpiry .. => (eventParts ++ [.shad, .touched, .core, .flash, .jrn, .sec, .img, .cap, .supervisor], [0x02, 0x05, 0x26, 0x27, 0x30, 0x32, 0x3E])
  | .debugRequest .. => (eventParts ++ [.shad, .touched, .core, .flash, .jrn, .sec, .img, .cap, .supervisor], [0x02, 0x05, 0x26, 0x27, 0x30, 0x32, 0x3E])
  | .registerRead .. => (eventParts ++ [.free, .shad, .touched, .core, .vka, .otp, .flash, .jrn, .portH, .portS, .portD, .sec, .img, .wheel, .twin, .phases, .bays, .fuses, .sup, .step, .strs, .ests, .est, .hup, .cap, .supervisor], allPages)
  | .shipSecond .. => ([.now, .vka], [])
  | .pllLock .. => ([.now, .core, .ic, .sendQ], [])
  | .decisionRecordTick .. => (eventParts ++ [.twin, .bays, .fuses, .strs, .cap], [0x05, 0x10, 0x11, 0x14, 0x15, 0x18, 0x1A, 0x1B, 0x20, 0x26, 0x27])
  | .logFetchDone .. => ([.now, .log, .ic, .sendQ], [0x26])
  | .snapshotFetchDone .. => ([.now, .log, .ic, .sendQ], [])
  | .boundaryScan .. => ([.now, .free, .ic, .sec, .sendQ], [])

end Sys2Proof.Machine
end

