-- ==== Sys2Proof/Certificates/Slice0/Obligations.lean ====
section
/-! DEFINITION. The statements for the provers: what the commands of the ZP9640 do, family by family, and what every step keeps. -/

open Sys2Proof Sys2Proof.Machine

/-! The whole block. -/

/-- A step takes the command at the front of the queue and is that command's meaning on the state with the queue's rest. On an empty queue the block idles:
that clause is the model's choice (DESIGN CHOICE, assumption 3). -/
def Obligations.StepTakesFront : Prop :=
  (∀ (c : Instr) (q : List Instr) (s : State), step { s with pending := c :: q } = exec c { s with pending := q }) ∧
  (∀ s : State, s.pending = [] → step s = .next s)

/-- R8: right after a reset every register reads its Reset column. Nothing is powered, no command waits, and the stores have their canonical form (the form is the model's, DESIGN CHOICE, assumption 2). -/
def Obligations.ResetState : Prop :=
  (∀ (f : Field) (i : Nat), State.reset.regAt f i = f.reset i) ∧ (∀ (f : Field) (i : Nat), State.reset.shadAt f i = f.reset i) ∧
  State.reset.core.powered = false ∧ State.reset.pending = [] ∧ State.reset.storesWf = true ∧ State.reset.vka.note.length = 64 ∧
  State.reset.mode = 1 ∧ State.reset.reg Reg.GL_MODE_PREV = 0 ∧ State.reset.reg Reg.GL_MODE_CAUSE = 0 ∧
  State.reset.log.queue = [] ∧ State.reset.jrn.scanned = false ∧ (∀ i : Fin 128, State.reset.ic.src[i] = .idle) ∧
  (∀ b : Bay, State.reset.bst b = Reg.SHR_BAYST.reset b)

/-- An invariant of every step, from any state that has it: the register cells, the shadow copies and the two image slots keep their canonical form, and the ship note keeps its 64 bytes (R70).
The canonical form is the model's own (DESIGN CHOICE, assumption 2). -/
def Obligations.StepKeepsForm : Prop := ∀ s u : State, step s = .next u →
  (s.storesWf = true → u.storesWf = true) ∧ (s.vka.note.length = 64 → u.vka.note.length = 64)

/-- R316, R426, R427: what the OTP holds is permanent, whatever the command: the floor words already programmed stay and the floor never falls; a REVOKED key slot never becomes ACTIVE again, and a slot
that is not EMPTY keeps its key; the device ID stays. -/
def Obligations.OtpIsPermanent : Prop := ∀ (c : Instr) (s : State), Does c s fun u =>
  s.otp.floors <+: u.otp.floors ∧ s.otp.floor ≤ u.otp.floor ∧ u.otp.devId = s.otp.devId ∧
  (∀ k : Fin 4, s.otp.keys[k].st = .revoked → u.otp.keys[k].st ≠ .active ∧ u.otp.keys[k].st ≠ .empty) ∧
  (∀ k : Fin 4, s.otp.keys[k].st ≠ .empty → u.otp.keys[k].key = s.otp.keys[k].key)

/-- Every command completes, in every state: it answers a next state, keeps the queue, and sets the time to its own instant or leaves it where that is past. Without VDD a command that is neither the
power-on, a reset nor the VKA domain's changes nothing but the time. R403: while the supervisor is down a write of the host is not acknowledged and changes nothing but the time and the interrupt controller's view. How the time is kept (DESIGN CHOICE, assumption 1)
and what acts without VDD (DEDUCED, assumption 5) are the model's. -/
def Obligations.CommandsAnswer : Prop := ∀ (c : Instr) (s : State),
  (Does c s fun u => u.pending = s.pending ∧ u.now = max s.now c.time) ∧
  (s.core.powered = false → actsWithoutVdd c = false → Does c s fun u => LeavesAllBut [.now] [] s u) ∧
  (s.core.powered = true → s.supUp = false → hostWriteOf c = true → Does c s fun u => LeavesAllBut [.now, .ic] [] s u)

/-- What every command leaves: in every state a command agrees with the state before it in every part of State and every register page
outside the set `mayChange` names for it. -/
def Obligations.FramesOfCommands : Prop := ∀ (c : Instr) (s : State), Does c s fun u => LeavesAllBut (mayChange c).1 (mayChange c).2 s u

/-! The interrupt controller (R413-R421). -/

/-- R416: a claim makes the source IC_TOP names ACTIVE and nothing else moves but by its level; IC_TOP = 0 claims nothing.
R415: the sources not claimed follow their levels.
R417: completing an ACTIVE source samples its level: IDLE; PENDING with no hold-off; HELD with the group's timer started
anew. An ID that is not ACTIVE, 0 or above 128 changes no source (the recorder's, 113, may rise by the event itself), is counted in IC_BADCNT, and raises event 0x6300 with the ID
and the state's code or 0xFF. -/
def Obligations.ClaimsAndCompletions : Prop :=
  (∀ (t : Edges) (s : State), s.core.powered = true →
  (∀ i, icSource s.icTop = some i → Does (.icClaim t) s fun u =>
    u.ic.src[i] = .active ∧ (∀ j ∈ icIds, j ≠ i → u.ic.src[j] = s.follows j) ∧ OnlyRegsQuiet [] s u) ∧
  (s.icTop = 0 → Does (.icClaim t) s fun u => (∀ j ∈ icIds, u.ic.src[j] = s.follows j) ∧ OnlyRegsQuiet [] s u)) ∧
  (∀ (t : Edges) (id : Byte) (s : State), s.up →
  (∀ i, icSource id.toNat = some i → s.ic.src[i] = .active →
    (s.icLevel i = false → Does (.icComplete t id) s fun u => u.ic.src[i] = .idle ∧ OnlyRegsQuiet [] s u) ∧
    (s.icLevel i = true → s.regAt Reg.IC_HOLDOFF (icGroup i).val = 0 →
      Does (.icComplete t id) s fun u => u.ic.src[i] = .pending ∧ OnlyRegsQuiet [] s u) ∧
    (s.icLevel i = true → s.regAt Reg.IC_HOLDOFF (icGroup i).val ≠ 0 →
      Does (.icComplete t id) s fun u => u.ic.src[i] = .held ∧
        u.ic.timer[icGroup i] = some (max s.now t + s.regAt Reg.IC_HOLDOFF (icGroup i).val * edgeUs) ∧ OnlyRegsQuiet [] s u)) ∧
  ((∀ i, icSource id.toNat = some i → s.ic.src[i] ≠ .active) → Does (.icComplete t id) s fun u =>
    (∀ j ∈ icIds, j.val + 1 ≠ 113 → u.ic.src[j] = s.follows j) ∧ u.reg Reg.IC_BADCNT = min 65535 (s.reg Reg.IC_BADCNT + 1) ∧
    Raised 0x6300 2 id.toNat (match icSource id.toNat with | none => 0xFF | some i => SrcState.code s.ic.src[i]) s u ∧
    OnlyRegs [Reg.IC_BADCNT] s u))

/-- R417: when a group's timer has come due, each of its HELD sources becomes PENDING where its level is high and IDLE where it
is not, and the timer stands. Before it is due, or where none runs, nothing happens. R419: a claimable ID that has stood for IC_RENOTIFY ms
asks for a Host Notify again. R420: a source claimable for IC_AGEMAX ms raises event 0x6301, once. -/
def Obligations.ControllerTimers : Prop := ∀ (t : Edges) (s : State), s.core.powered = true →
  (∀ (g : Fin 16) (due : Nat), s.ic.timer[g] = some due → due ≤ max s.now t → Does (.holdoffExpiry t g) s fun u =>
    u.ic.timer[g] = none ∧ OnlyRegsQuiet [] s u ∧
    ∀ i ∈ icIds, icGroup i = g → s.ic.src[i] = .held → u.ic.src[i] = if s.icLevel i then .pending else .idle) ∧
  (s.icSettled → s.icTop ≠ 0 → s.icTop = s.ic.top → s.reg Reg.IC_RENOTIFY ≠ 0 → s.reg Reg.H_CFG_HNEN ≠ 0 →
    s.ic.topAt + s.reg Reg.IC_RENOTIFY * edgeMs ≤ max s.now t → Does (.renotify t) s fun u =>
      u.ic.notify = true ∧ u.ic.topAt = max s.now t ∧ OnlyRegsQuiet [] s u) ∧
  (∀ (id : Fin 128) (since : Nat), id ∈ icIds → s.icSettled → s.claimable id → s.ic.since[id] = some since →
    s.ic.overdue[id] = false → since + s.reg Reg.IC_AGEMAX * edgeMs ≤ max s.now t → Does (.irqOverdue t id) s fun u =>
      u.ic.overdue[id] = true ∧ Raised 0x6301 3 (id.val + 1) (s.icPrio id) s u ∧ OnlyRegs [] s u) ∧
  (∀ id : Fin 128, s.ic.overdue[id] = true → Does (.irqOverdue t id) s fun u => OnlyRegsQuiet [] s u) ∧
  (∀ i, icSource s.icTop = some i → Does (.icClaim t) s fun u => u.ic.overdue[i] = false)

/-! Modes, start-up and SHIP (R20, R52-R71, R462). -/

/-- R54: the first mode is chosen by the first row that applies: the GECKO latch, the lifecycle, the partner, otherwise TADPOLE as
owner. R52: GL_MODE_PREV is then 0. R53, R297: the latch counts only where VDD was absent for less than 1 s. -/
def Obligations.FirstModeByTable : Prop := ∀ (t : Edges) (b : BootIn) (s : State), s.core.powered = false → s.otp.lifecycle < 4 →
  Does (.powerOnReset t b) s fun u =>
    u.core.powered = true ∧ u.reg Reg.GL_MODE_PREV = 0 ∧ u.reg Reg.H_ADDR = 0x20 + b.addr.val ∧
    (u.reg Reg.GL_MODE, u.reg Reg.GL_MODE_CAUSE) =
      (if s.vka.gecko = true ∧ b.vddAbsentMs < 1000 then (5, 0x0A)
       else if s.otp.lifecycle = 0 ∨ s.otp.lifecycle = 3 then (5, 0x10)
       else if b.actin = true then (1, 0x12)
       else (1, 0x00)) ∧
    u.reg Reg.GL_STAT_OWNER = if b.actin then 0 else 1

/-- R66, R462: RST_N, or the loss of a supply, resets everything: every register reads its Reset column (R8), nothing is powered, and
the VKA domain, the OTP and the flash keep their contents. R71: the loss of VKA takes the wake causes, the arming and the GECKO
latch, and nothing outside the VKA domain but the two latch bits. -/
def Obligations.ResetsAndSupplies : Prop := ∀ (t : Edges) (s : State),
  (Does (.rstNAsserted t) s fun u => u.core.powered = false ∧ u.vka = s.vka ∧ u.otp = s.otp ∧ u.flash = s.flash ∧
    u.pending = s.pending ∧ ∀ (f : Field) (i : Nat), u.regAt f i = f.reset i) ∧
  (∀ sup, Does (.supplyLoss t sup) s fun u => u.core.powered = false ∧ u.vka = s.vka ∧ u.otp = s.otp ∧ u.flash = s.flash ∧
    u.pending = s.pending ∧ ∀ (f : Field) (i : Nat), u.regAt f i = f.reset i) ∧
  (Does (.vkaLost t) s fun u => u.vka.causes = 0 ∧ u.vka.armed = false ∧ u.vka.gecko = false ∧ u.vka.lost = true ∧
    u.reg Reg.GL_STAT_GECKO = 0 ∧ u.reg Reg.THM_STAT_GECKO = 0 ∧
    OnlyRegsQuiet [Reg.GL_STAT_GECKO, Reg.THM_STAT_GECKO] s u ∧ LeavesAllBut [.now, .vka] [0x02, 0x22] s u)

/-- R69, R70: in SHIP the VKA domain latches WAKE, AC and BI, counts BI excursions in bytes 52-53 and seconds in bytes 48-51 of the
ship note, and touches nothing else; out of SHIP it does neither.
R61, R68: SHIP is refused in HOLDUP and SHADOW and taken elsewhere; after its flush the chip waits for the quadrant point, or
seals at once where the wheel never ran (DESIGN CHOICE, assumption 21); VDD still good 2 s after the seal leads to LOCKOUT with cause
0x11, event 0x2012 and the wake disarmed. -/
def Obligations.ShipMode : Prop :=
  (∀ (t : Edges) (s : State), s.vka.note.length = 64 →
  (s.inShip = true →
    (Does (.shipWake t .wake) s fun u => u.vka.causes = setBit s.vka.causes 0 true ∧ LeavesAllBut [.now, .vka] [] s u) ∧
    (Does (.shipWake t .ac) s fun u => u.vka.causes = setBit s.vka.causes 1 true ∧ LeavesAllBut [.now, .vka] [] s u) ∧
    (∀ k, Does (.shipWake t (.bi k)) s fun u => u.vka.causes = setBit s.vka.causes 2 true ∧
      u.vka.field 52 2 = min 65535 (s.vka.field 52 2 + 1) ∧ LeavesAllBut [.now, .vka] [] s u) ∧
    (Does (.shipSecond t) s fun u => u.vka.field 48 4 = (s.vka.field 48 4 + 1) % 2 ^ 32 ∧ u.vka.causes = s.vka.causes ∧
      LeavesAllBut [.now, .vka] [] s u)) ∧
  (s.inShip = false → (∀ c, Does (.shipWake t c) s fun u => LeavesAllBut [.now] [] s u) ∧
    Does (.shipSecond t) s fun u => LeavesAllBut [.now] [] s u)) ∧
  (∀ (t : Edges) (s : State), s.up →
  ((s.mode = modeHoldup ∨ s.mode = modeShadow) → Does (.ship t 0xA5) s fun u =>
    u.reg Reg.GL_CMD_RES = 2 ∧ u.mode = s.mode ∧ u.core.shipStep = s.core.shipStep ∧ Raised 0x2011 2 0x05 s.mode s u ∧
      OnlyRegs [Reg.GL_CMD_RES] s u) ∧
  (¬(s.mode = modeHoldup ∨ s.mode = modeShadow) → Does (.ship t 0xA5) s fun u =>
    u.reg Reg.GL_CMD_RES = 1 ∧ u.mode = s.mode ∧ u.core.shipStep = 2) ∧
  (s.core.shipStep = 2 → s.wheel.running = true → Does (.shipFlushDone t) s fun u => u.core.shipStep = 3 ∧ u.vka = s.vka) ∧
  (s.core.shipStep = 2 → s.wheel.running = false → Does (.shipFlushDone t) s fun u =>
    u.core.shipStep = 5 ∧ u.vka.armed = true ∧ u.vka.causes = 0 ∧ u.core.sealAt = max s.now t) ∧
  (s.core.shipStep = 5 → s.core.sealAt + 2 * edgeSec ≤ max s.now t → s.mode ≠ modeLockout → Does (.shipNotEntered t) s fun u =>
    u.mode = modeLockout ∧ u.reg Reg.GL_MODE_CAUSE = 0x11 ∧ u.reg Reg.GL_MODE_PREV = s.mode ∧ u.vka.armed = false ∧
    u.core.shipStep = 0 ∧ Raised 0x2012 4 ((max s.now t - s.core.sealAt) / edgeMs) s.mode s u))

/-- R20, R56, R64: a crystal fault clears XTALOK and moves the wheel to the core RC; the count of 100 ms begins at the next PLL lock,
and once it is complete the clock is handed over. R61: in RUN and HOLDUP without a twin pair the fault leads to TADPOLE at once.
R12: each second with VDD good adds one operating second, before which the command finds nothing due. R341, R349: the power-fail
warning ends a compaction for good and leaves the modes alone. -/
def Obligations.ClocksAndTime : Prop :=
  (∀ (t : Edges) (s : State), s.core.powered = true →
  (∀ k, Does (.crystalFault t k) s fun u =>
    u.reg Reg.GL_STAT_XTALOK = 0 ∧ u.reg Reg.WHL_STAT_CLKSRC = 1 ∧ u.core.xtalSince = none) ∧
  (∀ k, (s.mode = modeRun ∨ s.mode = modeHoldup) → s.paired = false → s.reg Reg.IMG_STAT_PROB ≠ 1 →
    Does (.crystalFault t k) s fun u => u.mode = modeTadpole ∧ u.reg Reg.GL_MODE_CAUSE = 0x08 ∧ u.reg Reg.GL_MODE_PREV = s.mode) ∧
  (s.reg Reg.GL_STAT_XTALOK = 0 → s.core.xtalSince = none → Does (.pllLock t) s fun u =>
    u.core.xtalSince = some (max s.now t) ∧ u.reg Reg.GL_STAT_XTALOK = 0 ∧ OnlyRegsQuiet [] s u) ∧
  (∀ since, s.reg Reg.GL_STAT_XTALOK = 0 → s.core.xtalSince = some since → since + 100 * edgeMs ≤ max s.now t →
    Does (.clockHandover t) s fun u => u.reg Reg.GL_STAT_XTALOK = 1 ∧ u.reg Reg.WHL_STAT_CLKSRC = 0) ∧
  (∀ since, s.core.xtalSince = some since → max s.now t < since + 100 * edgeMs →
    Does (.clockHandover t) s fun u => OnlyRegsQuiet [] s u)) ∧
  (∀ (t : Edges) (s : State), s.core.powered = true →
  (s.core.secAt + edgeSec ≤ max s.now t → Does (.operatingSecond t) s fun u =>
    u.reg Reg.JRN_OPSEC = min (2 ^ 32 - 1) (s.reg Reg.JRN_OPSEC + 1) ∧ u.core.secAt = s.core.secAt + edgeSec ∧ u.mode = s.mode) ∧
  (max s.now t < s.core.secAt + edgeSec → Does (.operatingSecond t) s fun u => OnlyRegsQuiet [] s u) ∧
  (Does (.powerFailWarning t) s fun u => u.jrn.powerFail = true ∧ u.jrn.compacting = none ∧ u.jrn.retryAt = none ∧
    u.reg Reg.JRN_STAT_COMPACT = 0 ∧ u.mode = s.mode))

/-- R65: the supervisor alone restarts: the token and the nonce end with it, no mode, phase or bay changes; at the end events held are
raised, GL_SUPRST counts, and RUN or HOLDUP goes to TADPOLE at the next quadrant point (R61). -/
def Obligations.SupervisorRestarts : Prop := ∀ (t : Edges) (s : State), s.core.powered = true →
  (s.supUp = true → Does (.supervisorRestart t) s fun u =>
    u.core.sup = .restarting (max s.now t) ∧ u.sec.token = none ∧ u.sec.nonce = none ∧ u.mode = s.mode ∧
    u.phases = s.phases ∧ u.bays = s.bays ∧ u.fuses = s.fuses ∧ u.sup = s.sup) ∧
  (∀ since ok, s.core.sup = .restarting since → Does (.supervisorRestartEnd t ok) s fun u =>
    u.core.sup = .running ∧ u.core.heldEvents = [] ∧ u.reg Reg.GL_SUPRST = min 255 (s.reg Reg.GL_SUPRST + 1) ∧ u.mode = s.mode ∧
    ((s.mode = modeRun ∨ s.mode = modeHoldup) → u.core.toTadpole = some 0x09) ∧ u.phases = s.phases ∧ u.bays = s.bays)

/-- R61, R74: the commands of GL_CMD by mode, with their answers in GL_CMD_RES and event 0x2011 at every refusal; a wrong key
answers 3 and does nothing.
R61, R62: LOCKOUT is entered from every mode with cause 0x0C, and from LOCKOUT is answered with the cause unchanged; RESUME leads
from causes 0x0C and 0x11 to TADPOLE with cause 0x0D and is refused otherwise. -/
def Obligations.ModeCommands : Prop :=
  (∀ (t : Edges) (s : State), s.up →
  (∀ k : Byte, k ≠ 0xA5 → ∀ c ∈ [Instr.reload t k, .revert t k, .lockout t k, .resume t k, .ship t k], Does c s fun u =>
    u.reg Reg.GL_CMD_RES = 3 ∧ OnlyRegsQuiet [Reg.GL_CMD_RES] s u ∧ LeavesAllBut [.now, .sendQ, .ic] [0x02] s u) ∧
  (s.mode = modeLockout → ∀ c ∈ [(Instr.reload t 0xA5, 1), (.revert t 0xA5, 2)], Does c.1 s fun u =>
    u.reg Reg.GL_CMD_RES = 2 ∧ Raised 0x2011 2 c.2 modeLockout s u ∧ OnlyRegs [Reg.GL_CMD_RES] s u) ∧
  (s.mode ≠ modeLockout → s.core.load.isSome = true → ∀ c ∈ [(Instr.reload t 0xA5, 1), (.revert t 0xA5, 2)], Does c.1 s fun u =>
    u.reg Reg.GL_CMD_RES = 5 ∧ Raised 0x2011 2 c.2 s.mode s u ∧ OnlyRegs [Reg.GL_CMD_RES] s u) ∧
  (s.mode = modeHoldup → s.core.load = none → ∀ c ∈ [(Instr.reload t 0xA5, LoadKind.reload), (.revert t 0xA5, .revert)],
    Does c.1 s fun u => u.reg Reg.GL_CMD_RES = 4 ∧ u.reg Reg.GL_STAT_RLDPEND = 1 ∧ u.core.deferred = some c.2 ∧ u.mode = s.mode) ∧
  (s.mode = modeRun → s.core.load = none → Does (.reload t 0xA5) s fun u =>
    u.reg Reg.GL_CMD_RES = 1 ∧ u.core.toTadpole = some 0x05 ∧ u.core.loadNext = some .reload ∧ u.mode = s.mode) ∧
  ((s.mode = modeTadpole ∨ s.mode = modeShadow) → s.core.load = none → Does (.reload t 0xA5) s fun u =>
    u.reg Reg.GL_CMD_RES = 1 ∧ u.reg Reg.IMG_STAT_LOADING = 1 ∧ u.core.load.map Load.kind = some .reload ∧ u.mode = s.mode) ∧
  ((s.mode = modeTadpole ∨ s.mode = modeRun ∨ s.mode = modeShadow) → s.core.load = none → s.imgValid = false →
    Does (.revert t 0xA5) s fun u => u.reg Reg.GL_CMD_RES = 2 ∧ Raised 0x2011 2 2 s.mode s u ∧ u.mode = s.mode) ∧
  (s.mode = modeRun → s.core.load = none → s.imgValid = true → s.revertTarget.isSome = true → Does (.revert t 0xA5) s fun u =>
    u.reg Reg.GL_CMD_RES = 1 ∧ u.core.toTadpole = some 0x06 ∧ u.core.loadNext = some .revert ∧ u.mode = s.mode)) ∧
  (∀ (t : Edges) (s : State), s.up →
  (s.mode ≠ modeLockout → Does (.lockout t 0xA5) s fun u => u.mode = modeLockout ∧ u.reg Reg.GL_MODE_CAUSE = 0x0C ∧
    u.reg Reg.GL_MODE_PREV = s.mode ∧ u.reg Reg.GL_CMD_RES = 1) ∧
  (s.mode = modeLockout → Does (.lockout t 0xA5) s fun u => u.reg Reg.GL_CMD_RES = 1 ∧ OnlyRegs [Reg.GL_CMD_RES] s u) ∧
  (s.mode = modeLockout → (s.reg Reg.GL_MODE_CAUSE = 0x0C ∨ s.reg Reg.GL_MODE_CAUSE = 0x11) → Does (.resume t 0xA5) s fun u =>
    u.mode = modeTadpole ∧ u.reg Reg.GL_MODE_CAUSE = 0x0D ∧ u.reg Reg.GL_MODE_PREV = modeLockout ∧ u.reg Reg.GL_CMD_RES = 1) ∧
  (¬(s.mode = modeLockout ∧ (s.reg Reg.GL_MODE_CAUSE = 0x0C ∨ s.reg Reg.GL_MODE_CAUSE = 0x11)) → Does (.resume t 0xA5) s fun u =>
    u.reg Reg.GL_CMD_RES = 2 ∧ Raised 0x2011 2 4 s.mode s u ∧ OnlyRegs [Reg.GL_CMD_RES] s u))

/-- R62, over every command: LOCKOUT with cause 0x0A, 0x0B or 0x10 ends only without VDD, by RST_N or the loss of a supply; with cause 0x0C or 0x11 RESUME ends it as well,
which leaves the ship wake's arming alone. A cause of the first kind stays one of them. That a chip in LOCKOUT which loses the contest of R371 stays
there is the model's reading (DEDUCED, assumption 22). -/
def Obligations.LockoutIsHeld : Prop := ∀ (c : Instr) (s : State), s.core.powered = true → s.mode = modeLockout →
  (∀ t, c ≠ .rstNAsserted t) → (∀ t p, c ≠ .supplyLoss t p) →
  (s.reg Reg.GL_MODE_CAUSE ∈ [0x0A, 0x0B, 0x10] → Does c s fun u => u.mode = modeLockout ∧ u.reg Reg.GL_MODE_CAUSE ∈ [0x0A, 0x0B, 0x10]) ∧
  ((∀ t, c ≠ .resume t 0xA5) → Does c s fun u => u.mode = modeLockout) ∧
  (∀ t, c = .resume t 0xA5 → Does c s fun u => u.vka.armed = s.vka.armed)

/-! The angle wheel (R30-R51). -/

/-- R37: a valid reference takes FREE and FLYWHEEL to ACQUIRE and leaves ACQUIRE and LOCKED. R37, R40, R41: the loss of the reference
leaves FREE and FLYWHEEL, takes ACQUIRE back to FREE or FLYWHEEL by EVERLOCK, and takes LOCKED to feed B carry where that is possible, else to
FREE or FLYWHEEL with LOCKLOST and WHL_LOSSCNT; the event is 0x2041 with its reason, or 0x2042 with the frequency. -/
def Obligations.WheelReference : Prop := ∀ (t : Edges) (s : State), s.core.powered = true → s.wheel.running = true →
  (∀ freq, (s.whl = whlFree ∨ s.whl = whlFly) → Does (.referenceValid t freq) s fun u =>
    u.whl = whlAcquire ∧ u.wheel.acqAt = max s.now t ∧ u.wheel.acqFreq = freq) ∧
  (∀ freq, (s.whl = whlAcquire ∨ s.whl = whlLocked) → Does (.referenceValid t freq) s fun u =>
    u.wheel = s.wheel ∧ OnlyRegsQuiet [] s u) ∧
  (∀ why b, (s.whl = whlFree ∨ s.whl = whlFly) → Does (.referenceLost t why b) s fun u => u.wheel = s.wheel ∧ OnlyRegs [] s u) ∧
  (∀ b f, (s.whl = whlFree ∨ s.whl = whlFly) → Does (.referenceLost t (.frequency f) b) s fun u => Raised 0x2042 3 f s.whlStat s u) ∧
  (∀ why b, s.whl = whlAcquire → Does (.referenceLost t why b) s fun u =>
    u.whl = (if s.reg Reg.WHL_STAT_EVERLOCK ≠ 0 then whlFly else whlFree) ∧ u.reg Reg.WHL_LOSSCNT = s.reg Reg.WHL_LOSSCNT ∧
    Raised (if lossByFreq why then 0x2042 else 0x2041) 3 (match why with | .frequency f => f | .magnitude => 0 | .noCrossing => 1)
      s.whlStat s u) ∧
  (∀ why b, s.whl = whlLocked → (s.at t).mayCarry b = true → Does (.referenceLost t why b) s fun u =>
    u.whl = whlLocked ∧ u.reg Reg.WHL_STAT_REF = 1 ∧ u.wheel = s.wheel ∧ OnlyRegs [Reg.WHL_STAT_REF] s u) ∧
  (∀ why b, s.whl = whlLocked → (s.at t).mayCarry b = false → Does (.referenceLost t why b) s fun u =>
    u.whl = (if s.reg Reg.WHL_STAT_EVERLOCK ≠ 0 then whlFly else whlFree) ∧ u.reg Reg.WHL_FLAGS_LOCKLOST = 1 ∧
    u.reg Reg.WHL_LOSSCNT = min 65535 (s.reg Reg.WHL_LOSSCNT + 1) ∧
    Raised (if lossByFreq why then 0x2042 else 0x2041) 3 (match why with | .frequency f => f | .magnitude => 0 | .noCrossing => 1)
      s.whlStat s u)

/-- R37, R38: lock is declared from ACQUIRE with event 0x2040; six cycles without it lead back to FREE or FLYWHEEL with event 0x2043; a
phase error above 10 degrees for a cycle takes LOCKED back to ACQUIRE with event 0x2041, reason 2. R42: feed A takes the wheel
back, within 10 degrees in LOCKED, else through ACQUIRE, with event 0x2045. -/
def Obligations.WheelLocks : Prop := ∀ (t : Edges) (s : State), s.core.powered = true → s.wheel.running = true →
  (s.whl = whlAcquire → Does (.wheelLock t) s fun u => u.whl = whlLocked ∧ u.reg Reg.WHL_STAT_EVERLOCK = 1 ∧ u.wheel.locked = [] ∧
    (s.supUp = true → s.reg Reg.REC_SNSEV = 0 → ∃ r, u.log.last = some r ∧ r.code = 0x2040 ∧ r.p0 = s.reg Reg.WHL_FMAINS % 2 ^ 32)) ∧
  (s.whl = whlAcquire → s.reg Reg.WHL_FMAINS ≠ 0 → 600 * edgeSec ≤ s.reg Reg.WHL_FMAINS * (max s.now t - s.wheel.acqAt) →
    Does (.acquireTimeout t) s fun u => u.whl = (if s.reg Reg.WHL_STAT_EVERLOCK ≠ 0 then whlFly else whlFree) ∧
      Raised 0x2043 4 (par (s.sreg Reg.WHL_PERR)) (s.reg Reg.WHL_FMAINS) s u) ∧
  (s.whl = whlLocked → 1820 < (s.sreg Reg.WHL_PERR).natAbs → Does (.phaseErrorCycle t) s fun u =>
    u.whl = whlAcquire ∧ u.reg Reg.WHL_FLAGS_LOCKLOST = 1 ∧ u.reg Reg.WHL_LOSSCNT = min 65535 (s.reg Reg.WHL_LOSSCNT + 1) ∧
    u.wheel.acqAt = max s.now t ∧ Raised 0x2041 3 2 s.whlStat s u) ∧
  (s.whl ≠ whlLocked ∨ (s.sreg Reg.WHL_PERR).natAbs ≤ 1820 → Does (.phaseErrorCycle t) s fun u => u.wheel = s.wheel ∧ OnlyRegsQuiet [] s u) ∧
  (∀ d, s.whl = whlLocked → s.reg Reg.WHL_STAT_REF ≠ 0 → Does (.feedAReturn t d) s fun u => u.reg Reg.WHL_STAT_REF = 0 ∧
    u.whl = (if d.natAbs ≤ 1820 then whlLocked else whlAcquire) ∧ Raised 0x2045 1 (par d) u.whl s u)

/-- R23, R33, R34: each sharing-tick point moves the wheel to the next of its 64 points, without a skip or a step back, and WHL_CYC counts one at
angle 0, whatever else the tick's work brings; a wheel that does not run has no points.
R31, R40, R49: the measures a point shows, where the supervisor is down so that nothing but the wheel's own hardware works: the PLL's rate in
ACQUIRE and LOCKED, WHL_FNOM in FREE at angle 0, the rate held in FLYWHEEL; the closing moves WHL_OFSNOW only while it differs from
WHL_OFS. -/
def Obligations.WheelPoints : Prop :=
  (∀ (t : Edges) (m : WheelMeas) (s : State), s.core.powered = true →
  (s.wheel.running = true → Does (.wheelPoint t m) s fun u => u.wheel.running = true ∧ u.wheel.idx = (s.wheel.idx + 1) % 64 ∧
    u.wheel.ptAt = max s.now t ∧
    u.reg Reg.WHL_CYC = (if (s.wheel.idx + 1) % 64 = 0 then (s.reg Reg.WHL_CYC + 1) % 2 ^ 32 else s.reg Reg.WHL_CYC)) ∧
  (s.wheel.running = false → Does (.wheelPoint t m) s fun u => u.wheel = s.wheel ∧ OnlyRegsQuiet [] s u)) ∧
  (∀ (t : Edges) (m : WheelMeas) (s : State), s.core.powered = true → s.wheel.running = true →
  s.supUp = false → Does (.wheelPoint t m) s fun u =>
    u.whl = s.whl ∧ u.reg Reg.WHL_FMAINS = m.fmains % 65536 ∧
    ((s.whl = whlAcquire ∨ s.whl = whlLocked) → u.reg Reg.WHL_FREQ = m.rate % 65536) ∧
    (s.whl = whlFree → u.reg Reg.WHL_FREQ =
      (if (s.wheel.idx + 1) % 64 = 0 then s.reg Reg.WHL_FNOM % 65536 else s.reg Reg.WHL_FREQ)) ∧
    (s.whl = whlFly → u.reg Reg.WHL_FREQ = s.reg Reg.WHL_FREQ) ∧
    (s.reg Reg.WHL_OFSNOW = s.reg Reg.WHL_OFS → s.reg Reg.WHL_OFS < 65536 → u.reg Reg.WHL_OFSNOW = s.reg Reg.WHL_OFSNOW))

/-- R45, R46: an entry that has come due runs once: it leaves the list of those due, WHL_CAL_LATE keeps the largest lateness, and its action
is taken: an IRQ sets its bit of WHL_CAL_FLAG, a MARK raises event 0x2048 with ARG and WHL_CYC. While the supervisor is down it waits. -/
def Obligations.CalendarEntryRuns : Prop := ∀ (t : Edges) (e : Fin 256) (p : Nat) (s : State), s.core.powered = true →
  s.wheel.running = true → s.wheel.due = [(e.val, p)] → s.wheel.gathered = (s.at t).wheelPos →
  (s.supUp = false → Does (.calendarEntry t e) s fun u => u.wheel = s.wheel ∧ OnlyRegsQuiet [] s u) ∧
  (s.supUp = true → (s.cal e.val).action = 2 → Does (.calendarEntry t e) s fun u => u.wheel.due = [] ∧
    bitOf (u.reg Reg.WHL_CAL_FLAG) ((s.cal e.val).arg % 8) = true ∧
    u.reg Reg.WHL_CAL_LATE = min 65535 (max (s.reg Reg.WHL_CAL_LATE) ((s.at t).calLateness p)) ∧
    OnlyRegsQuiet [Reg.WHL_CAL_FLAG, Reg.WHL_CAL_LATE] s u) ∧
  (s.supUp = true → (s.cal e.val).action = 4 → Does (.calendarEntry t e) s fun u => u.wheel.due = [] ∧
    Raised 0x2048 0 (s.cal e.val).arg (s.reg Reg.WHL_CYC) s u ∧ OnlyRegs [Reg.WHL_CAL_LATE] s u)

/-! The phase engine (R77-R95). -/

/-- R83: a sample of a conducting phase gives PH_IPH = PH_GAIN × (V − PH_OFFSET) × PH_ISCALE in 10 mA (the direction of the rounding is a free
value). R85: an ABSENT or FAULT channel's sample is ignored but for its raw value. R94: a NEW channel's sample counts only while its switch shows
power-good. R93: the eighth consecutive sample at a rail puts a conducting phase in FAULT, with event 0x2084.
R77, R78: a period start begins a period of 6.4 × 10⁹ / PH_FREQ edge units, to the unit below or above, with the fraction carried;
in TADPOLE of 32,000 units (R58). The duty computed takes effect. R119: in LOCKOUT no phase of the bay conducts in the period. -/
def Obligations.SamplesAndPeriods : Prop :=
  (∀ (t : Edges) (n : Chan) (code : Code) (s : State), s.core.powered = true →
  (s.conducts n = true → code ≠ 0 → code ≠ 0xFFFF → s.reg Reg.PH_DIDT = 0xFFFF → Does (.imonSample t n code) s fun u =>
    u.regAt Reg.TLM_RAW_IMON n = code.toNat ∧
    u.sregAt Reg.PH_IPH n = clampInt (-32768) 32767 (toUnit ((s.regAt Reg.PH_GAIN n : Rat) / 32768 *
      (pinMv code.toNat - (s.regAt Reg.PH_OFFSET n : Rat) / 10) * s.regAt Reg.PH_ISCALE (n / 6) / 10)) ∧
    OnlyRegsQuiet [Reg.TLM_RAW_IMON, Reg.PH_IPH, Reg.TLM_PK_IBAY] s u) ∧
  ((s.pst n = phAbsent ∨ s.pst n = phFault) → Does (.imonSample t n code) s fun u =>
    u.regAt Reg.TLM_RAW_IMON n = code.toNat ∧ u.phases = s.phases ∧ u.bays = s.bays ∧ OnlyRegsQuiet [Reg.TLM_RAW_IMON] s u) ∧
  (s.pst n = phNew → Does (.imonSample t n code) s fun u =>
    u.regAt Reg.TLM_RAW_IMON n = code.toNat ∧ u.pst n = phNew ∧ OnlyRegsQuiet [Reg.TLM_RAW_IMON] s u ∧
    (u.ph n).newN = (if s.pg (n / 6) = true ∧ (s.ph n).newN < 256 then (s.ph n).newN + 1 else (s.ph n).newN)) ∧
  (s.conducts n = true → (code = 0 ∨ code = 0xFFFF) → (s.ph n).rail = 7 → Does (.imonSample t n code) s fun u =>
    u.pst n = phFault ∧ u.reg Reg.PH_EVT_FLAGS_PHFAULT = 1 ∧ u.regAt Reg.PH_IPH n = 0 ∧ u.regAt Reg.PH_BAL n = 0 ∧
    Raised 0x2084 4 n (65536 + toUnitNat (pinMv code.toNat * 10)) s u)) ∧
  (∀ (t : Edges) (b : Bay) (s : State), s.core.powered = true → s.core.load = none →
  (s.mode = modeTadpole → (s.bay b).frac = 0 → Does (.bayPeriodStart t b) s fun u =>
    (u.bay b).perAt = max s.now t ∧ (u.bay b).perLen = 32000 ∧ (u.bay b).frac = 0) ∧
  (s.mode ≠ modeTadpole → s.regAt Reg.PH_FREQ b ≠ 0 → (s.bay b).frac < s.regAt Reg.PH_FREQ b → Does (.bayPeriodStart t b) s fun u =>
    (u.bay b).perAt = max s.now t ∧ (u.bay b).perCnt = (s.bay b).perCnt + 1 ∧
    (u.bay b).perLen * s.regAt Reg.PH_FREQ b + (u.bay b).frac = 6400000 + (s.bay b).frac ∧ (u.bay b).frac < s.regAt Reg.PH_FREQ b) ∧
  (s.mode = modeLockout → Does (.bayPeriodStart t b) s fun u =>
    u.regAt Reg.LE_STAT_OVR b = 1 ∧ ∀ n ∈ phaseIds b, (u.ph n).ton = 0))

/-- R94: a new phase whose 256 samples are taken shows their mean in PH_OFFSET and enters WARM with event 0x2085, or FAULT with event 0x2084 where
the mean lies outside PH_IZNOM ± PH_IZWIN; with fewer samples it stays NEW. R92: 0xA5 at PH_TRIMRST makes a phase in WARM or FAULT new at once
and a conducting one at its next entry to WARM; any other byte does nothing. R89: the dwell time ends when PH_DWELL has passed. -/
def Obligations.NewPhasesAndTrims : Prop := ∀ (t : Edges) (n : Chan) (s : State), s.core.powered = true →
  (s.pst n = phNew → 256 ≤ (s.ph n).newN → (s.ph n).discard = false → s.bst (n / 6) ≠ bayInrush → s.bst (n / 6) ≠ bayPfc →
    (s.offsetBad ((s.ph n).newSum / 256) = false → Does (.phaseOffsetTaken t n) s fun u =>
      u.pst n = phWarm ∧ u.regAt Reg.PH_OFFSET n = min 65535 (toUnitNat ((s.ph n).newSum / 256)) ∧ u.reg Reg.PH_EVT_FLAGS_NEWPH = 1 ∧
      bitOf (u.regAt Reg.PH_WARM (n / 6)) (n % 6) = true ∧ Raised 0x2085 1 n (min 65535 (toUnitNat ((s.ph n).newSum / 256))) s u) ∧
    (s.offsetBad ((s.ph n).newSum / 256) = true → Does (.phaseOffsetTaken t n) s fun u =>
      u.pst n = phFault ∧ u.reg Reg.PH_EVT_FLAGS_PHFAULT = 1 ∧
      Raised 0x2084 4 n (min 65535 (toUnitNat ((s.ph n).newSum / 256))) s u)) ∧
  ((s.pst n ≠ phNew ∨ (s.ph n).newN < 256) → Does (.phaseOffsetTaken t n) s fun u => u.phases = s.phases ∧ OnlyRegsQuiet [] s u) ∧
  (s.supUp = true →
    (∀ k : Byte, k ≠ 0xA5 → Does (.phTrimrst t n k) s fun u => u.phases = s.phases ∧ u.jrn = s.jrn ∧ OnlyRegsQuiet [] s u) ∧
    ((s.pst n = phWarm ∨ s.pst n = phFault) → Does (.phTrimrst t n 0xA5) s fun u =>
      u.pst n = phNew ∧ u.regAt Reg.PH_GAIN n = 0x8000 ∧ u.regAt Reg.PH_PSTAT_TRIMVALID n = 0 ∧ (u.ph n).newN = 0) ∧
    (s.conducts n = true → Does (.phTrimrst t n 0xA5) s fun u =>
      u.pst n = s.pst n ∧ u.regAt Reg.PH_PSTAT_TRIMVALID n = 0 ∧ (u.ph n).discard = true)) ∧
  (∀ (b : Bay) (d : Nat), (s.bay b).dwellAt = some d →
    (d + s.reg Reg.PH_DWELL * edgeMs ≤ max s.now t → Does (.shedDwellExpiry t b) s fun u =>
      (u.bay b).dwellAt = none ∧ OnlyRegsQuiet [] s u) ∧
    (max s.now t < d + s.reg Reg.PH_DWELL * edgeMs → Does (.shedDwellExpiry t b) s fun u => u.bays = s.bays ∧ OnlyRegsQuiet [] s u))

/-! The loop engine (R100-R124). -/

/-- R119: the trigger of an overridden lane freezes it and shows only its measurements. R102, R103: a lane that is not overridden limits the error
to ±EMAX, holds the integrator only in the direction that would deepen a clamp, limits it to ±IMAX, and computes a duty within DMIN-DMAX, which
waits for the next period start (R109). -/
def Obligations.LoopTriggerComputes : Prop := ∀ (t : Edges) (b : Bay) (code vlink : Code) (s : State), s.core.powered = true →
  ((s.regAt Reg.LE_STAT_OVR b = 1 ∨ s.overridden b = true) → Does (.loopTrigger t b code vlink) s fun u =>
    (u.bay b).lane = (s.bay b).lane ∧ u.regAt Reg.TLM_RAW_VSB b = code.toNat ∧ u.regAt Reg.TLM_RAW_VLINK b = vlink.toNat ∧
    OnlyRegsQuiet [Reg.TLM_RAW_VSB, Reg.TLM_RAW_VLINK, Reg.LE_VLINK, Reg.LE_VOUT] s u) ∧
  (s.regAt Reg.LE_STAT_OVR b ≠ 1 → s.overridden b = false → Does (.loopTrigger t b code vlink) s fun u =>
    let k := s.coef b
    let raw : Int := (s.regAt Reg.LE_VREF b : Int) - s.voutMv b code.toNat
    let e := clampInt (-(k.emax : Int)) k.emax raw
    let held := (s.regAt Reg.LE_STAT_FRZHI b = 1 ∧ 0 < k.ki * e) ∨ (s.regAt Reg.LE_STAT_FRZLO b = 1 ∧ k.ki * e < 0)
    u.regAt Reg.TLM_RAW_VSB b = code.toNat ∧ (k.emax < 32768 → u.sregAt Reg.LE_ERR b = e) ∧
    (k.dmin ≤ k.dmax → k.dmin ≤ u.regAt Reg.LE_DUTY b ∧ u.regAt Reg.LE_DUTY b ≤ k.dmax) ∧
    (k.dmax < 65536 → k.dmin < 65536 → (u.bay b).lane.next = some (u.regAt Reg.LE_DUTY b)) ∧
    (u.bay b).lane.integ = (if held then (s.bay b).lane.integ
      else clampInt (-(acc29 k.imax)) (acc29 k.imax) (clampInt (-2 ^ 39) (2 ^ 39 - 1) ((s.bay b).lane.integ + k.ki * e))) ∧
    (u.bay b).lane.now = (s.bay b).lane.now ∧ (u.bay b).lane.ePrev = e ∧
    u.regAt Reg.LE_PEAKERR b = min 65535 (max (s.regAt Reg.LE_PEAKERR b) raw.natAbs))

/-- R90: a bay output conversion whose error exceeds PH_EBAND disarms the error-band trigger, and where it was armed signals a step: a shed in
progress is marked for its abandon with trigger bit 0 (R91). With the band disabled, the lane overridden or the error within the band nothing but
the raw value is written. -/
def Obligations.ErrorBand : Prop := ∀ (t : Edges) (b : Bay) (code : Code) (s : State), s.core.powered = true →
  ((s.reg Reg.PH_EBAND = 0xFFFF ∨ s.regAt Reg.LE_STAT_OVR b = 1 ∨
      ((s.regAt Reg.LE_VREF b : Int) - s.voutMv b code.toNat).natAbs ≤ s.reg Reg.PH_EBAND) →
    Does (.bayOutputConversion t b code) s fun u => u.regAt Reg.TLM_RAW_VSB b = code.toNat ∧ (u.bay b).ebArm = (s.bay b).ebArm ∧
      (u.bay b).vN = (s.bay b).vN + 1 ∧ OnlyRegsQuiet [Reg.TLM_RAW_VSB] s u) ∧
  (s.reg Reg.PH_EBAND ≠ 0xFFFF → s.regAt Reg.LE_STAT_OVR b = 0 →
      s.reg Reg.PH_EBAND < ((s.regAt Reg.LE_VREF b : Int) - s.voutMv b code.toNat).natAbs →
    Does (.bayOutputConversion t b code) s fun u =>
      u.regAt Reg.TLM_RAW_VSB b = code.toNat ∧ (u.bay b).ebArm = false ∧ (u.bay b).ebBad = true ∧
      ((s.bay b).ebArm = false → OnlyRegsQuiet [Reg.TLM_RAW_VSB] s u ∧ (u.bay b).abandon = (s.bay b).abandon) ∧
      ((s.bay b).ebArm = true → s.mode = modeRun → s.regAt Reg.PH_N b ≠ 0 → (s.bay b).abandon = none →
        (s.regAt Reg.PH_SHEDST b = 1 ∨ s.regAt Reg.PH_SHEDST b = 2) →
        (u.bay b).abandon.map (fun a => (a.1, a.2.1)) = some (s.regAt Reg.PH_SHEDST b, 1)))

/-- R117: LE_SHCTL offers the bays of its mask for commit and nothing else. R106: a duty clamped for 1 ms sets DUTYSAT and raises event 0x2102 once an
episode. R115: a downward region change that has waited LE_RDWELL period starts takes effect, with the set its entry names. -/
def Obligations.LoopCommitsAndRegions : Prop := ∀ (t : Edges) (b : Bay) (s : State), s.core.powered = true →
  (∀ mask : Byte, s.supUp = true → Does (.leShctl t mask) s fun u =>
    u.reg Reg.LE_SHPEND = s.reg Reg.LE_SHPEND ||| mask.toNat ∧ OnlyRegsQuiet [Reg.LE_SHPEND] s u) ∧
  (∀ since hi, (s.bay b).lane.satAt = some (since, hi) →
    ((s.bay b).lane.satTold = false → since + edgeMs ≤ max s.now t → Does (.dutySaturated t b) s fun u =>
      u.reg Reg.LE_EVT_FLAGS_DUTYSAT = 1 ∧ (u.bay b).lane.satTold = true ∧ Raised 0x2102 3 b (if hi then 1 else 0) s u ∧
      OnlyRegs [Reg.LE_EVT_FLAGS_DUTYSAT] s u) ∧
    (((s.bay b).lane.satTold = true ∨ max s.now t < since + edgeMs) → Does (.dutySaturated t b) s fun u =>
      u.bays = s.bays ∧ OnlyRegsQuiet [] s u)) ∧
  (∀ idx n, (s.bay b).lane.down = some (idx, n) →
    (s.mode ≠ modeTadpole → s.regAt Reg.LE_RDWELL b ≤ n → idx < 64 → Does (.regionDwellExpiry t b) s fun u =>
      u.regAt Reg.LE_REGION b = idx ∧ u.regAt Reg.LE_STAT_BAND b = idx / 16 ∧ u.regAt Reg.LE_STAT_BATT b = idx / 8 % 2 ∧
      u.regAt Reg.LE_STAT_MAINS b = idx / 4 % 2 ∧ u.regAt Reg.LE_STAT_CLASS b = idx % 4 ∧
      u.regAt Reg.LE_STAT_SETACT b = setOfRegion s.regs b idx ∧ (u.bay b).lane.down = none ∧ (u.bay b).lane.now = (s.bay b).lane.now) ∧
    ((s.mode = modeTadpole ∨ n < s.regAt Reg.LE_RDWELL b) → Does (.regionDwellExpiry t b) s fun u =>
      u.bays = s.bays ∧ OnlyRegsQuiet [] s u))

/-- R122: a following-error count at its limit takes the action chosen: DROP holds the bay's trim at 0, FAULT takes it out of service with its phases
low; the event is 0x2100. R123: a DROP ends when the error has stayed within its limit less the hysteresis for LE_FETIME, a FAULT by 0xA5 at
LE_FECLR, with event 0x2106. -/
def Obligations.FollowingErrors : Prop := ∀ (t : Edges) (b : Bay) (s : State), s.core.powered = true →
  let due := s.regAt Reg.LE_STAT_FEACT b = 0 ∧ s.regAt Reg.LE_STAT_OVR b = 0 ∧ s.regAt Reg.LE_FECTL_EN b = 1 ∧
    0 < s.regAt Reg.LE_FECNT b ∧ s.regAt Reg.LE_FETIME b * 640000 ≤ s.regAt Reg.LE_FECNT b * max 1 (s.bay b).perLen
  (due → s.regAt Reg.LE_FECTL_ACTION b = 0 → Does (.followingError t b) s fun u =>
    u.reg Reg.LE_EVT_FLAGS_FE = 1 ∧ u.regAt Reg.LE_STAT_FEACT b = 1 ∧ (u.bay b).t = 0 ∧ u.regAt Reg.SHR_TRIM b = 0 ∧ u.bst b = s.bst b ∧
    u.phases = s.phases ∧
    Raised 0x2100 5 b (min 65535 (s.bay b).lane.eRaw + 16777216 * s.regAt Reg.LE_STAT_SETACT b) s u) ∧
  (due → s.regAt Reg.LE_FECTL_ACTION b = 1 → Does (.followingError t b) s fun u =>
    u.reg Reg.LE_EVT_FLAGS_FE = 1 ∧ u.regAt Reg.LE_STAT_FEACT b = 1 ∧ u.bst b = bayFault ∧ (u.bay b).feFault = true ∧
    u.regAt Reg.PH_N b = 0 ∧ u.regAt Reg.PH_SHEDST b = 0) ∧
  (¬due → Does (.followingError t b) s fun u => u.bays = s.bays ∧ OnlyRegsQuiet [] s u) ∧
  (∀ since, s.regAt Reg.LE_STAT_FEACT b = 1 → (s.bay b).feFault = false → (s.bay b).lane.feOk = some since →
    since + s.regAt Reg.LE_FETIME b * 640000 ≤ max s.now t → Does (.feRecovered t b) s fun u =>
      u.regAt Reg.LE_STAT_FEACT b = 0 ∧ u.regAt Reg.LE_FECNT b = 0 ∧ u.reg Reg.LE_EVT_FLAGS_FEREC = 1 ∧ Raised 0x2106 1 b 0 s u ∧
      OnlyRegs [Reg.LE_STAT_FEACT, Reg.LE_FECNT, Reg.LE_EVT_FLAGS_FEREC] s u) ∧
  (s.supUp = true →
    (∀ k : Byte, k ≠ 0xA5 → Does (.leFeclr t b k) s fun u => u.bays = s.bays ∧ OnlyRegsQuiet [] s u) ∧
    ((s.bay b).feFault = true → (s.bst b ≠ bayFault ∨ s.mode = modeLockout) → Does (.leFeclr t b 0xA5) s fun u =>
      u.regAt Reg.LE_STAT_FEACT b = 0 ∧ u.regAt Reg.LE_FECNT b = 0 ∧ u.reg Reg.LE_EVT_FLAGS_FEREC = 1 ∧ (u.bay b).feFault = false ∧
      u.bst b = s.bst b ∧ Raised 0x2106 1 b 1 s u) ∧
    ((s.bay b).feFault = true → s.bst b = bayFault → s.mode ≠ modeLockout → Does (.leFeclr t b 0xA5) s fun u =>
      u.regAt Reg.LE_STAT_FEACT b = 0 ∧ u.reg Reg.LE_EVT_FLAGS_FEREC = 1 ∧ (u.bay b).feFault = false ∧ u.bst b ≠ bayFault ∧
      u.bst b ≠ bayAbsent))

/-! The set point (R130-R132). -/

/-- R132: a set-point command meets the six tests in their order; the first that it fails is traced with its reason, and nothing else changes. A repeat
of SHR_SPSEQ counts in SHR_SPDUP. A command that passes begins its slew, or, in HOLDUP, is parked.
R131: every 1 us Vs moves towards the target by the rate × 1 us and lands on it when within a step; Vs does not move without a mover, and a
supervisor that is down holds it (R132). A host command that lands is done, with SHR_SPDONE and event 0x2120; a move of the 9640's own with sequence
0 (R130) is not reported. -/
def Obligations.SetPoint : Prop :=
  (∀ (t : Edges) (target rate : Code) (seq : Byte) (s : State), s.up →
  let off := s.mode = modeTadpole ∨ s.mode = modeShadow ∨ s.mode = modeLockout
  let refused := fun r => Does (.setpointCommand t target rate seq) s fun u =>
    u.reg Reg.SHR_SPREJ = seq.toNat ∧ u.reg Reg.SHR_SPREJR = r ∧ u.reg Reg.SHR_FLAGS_SPREJ = 1 ∧ u.sup = s.sup ∧
    Raised 0x2122 2 seq.toNat r s u ∧ OnlyRegs [Reg.SHR_SPREJ, Reg.SHR_SPREJR, Reg.SHR_FLAGS_SPREJ] s u
  (seq = 0 → refused 6) ∧
  (seq ≠ 0 → off → refused 4) ∧
  (seq ≠ 0 → ¬off → s.reg Reg.TRK_CTL_VPOL = 1 → refused 3) ∧
  (seq ≠ 0 → ¬off → s.reg Reg.TRK_CTL_VPOL ≠ 1 →
    ((target.toNat < 4400 ∨ 5800 < target.toNat) → refused 1) ∧
    (4400 ≤ target.toNat → target.toNat ≤ 5800 → (rate.toNat < 10 ∨ 2000 < rate.toNat) → refused 2) ∧
    (4400 ≤ target.toNat → target.toNat ≤ 5800 → 10 ≤ rate.toNat → rate.toNat ≤ 2000 →
      (seq.toNat = s.reg Reg.SHR_SPSEQ → Does (.setpointCommand t target rate seq) s fun u =>
        u.reg Reg.SHR_SPDUP = min (2 ^ Reg.SHR_SPDUP.width - 1) (s.reg Reg.SHR_SPDUP + 1) ∧ u.sup = s.sup ∧
        OnlyRegsQuiet [Reg.SHR_SPDUP] s u) ∧
      (seq.toNat ≠ s.reg Reg.SHR_SPSEQ → s.mode = modeHoldup → Does (.setpointCommand t target rate seq) s fun u =>
        u.reg Reg.SHR_SPSTAT = 2 ∧ u.sup.parked = some (target.toNat, rate.toNat, seq.toNat) ∧ u.sup.vs = s.sup.vs ∧
        u.sup.mover = s.sup.mover ∧ (s.sup.parked = none → OnlyRegsQuiet [Reg.SHR_SPSTAT] s u) ∧
        (∀ p, s.sup.parked = some p → u.reg Reg.SHR_SPSUP = p.2.2 % 256 ∧ u.reg Reg.SHR_FLAGS_SPSUP = 1 ∧ Raised 0x2121 0 p.2.2 0 s u)) ∧
      (seq.toNat ≠ s.reg Reg.SHR_SPSEQ → s.mode ≠ modeHoldup → Does (.setpointCommand t target rate seq) s fun u =>
        u.reg Reg.SHR_SPSEQ = seq.toNat ∧ u.reg Reg.SHR_SPTGT = target.toNat ∧ u.reg Reg.SHR_SPRATE = rate.toNat ∧ u.sup.vs = s.sup.vs ∧
        (s.sup.mover = .host → u.reg Reg.SHR_SPSUP = s.reg Reg.SHR_SPSEQ ∧ u.reg Reg.SHR_FLAGS_SPSUP = 1) ∧
        (s.sup.mover = .none ∨ target.toNat * 10000 ≠ s.sup.vs →
          u.reg Reg.SHR_SPSTAT = 1 ∧ u.sup.mover = .host ∧ u.sup.target = target.toNat * 10000 ∧ u.sup.rate = rate.toNat) ∧
        (s.sup.mover ≠ .none → target.toNat * 10000 = s.sup.vs → u.reg Reg.SHR_SPSTAT = 0 ∧ u.reg Reg.SHR_SPDONE = seq.toNat ∧
          u.sup.mover = .none ∧ Raised 0x2120 0 seq.toNat target.toNat s u))))) ∧
  (∀ (t : Edges) (s : State), s.core.powered = true →
  ((s.supUp = false ∨ s.sup.mover = .none) → Does (.setpointSlewStep t) s fun u => u.sup = s.sup ∧ OnlyRegsQuiet [] s u) ∧
  (s.supUp = true → (s.sup.mover = .host ∨ s.sup.mover = .own ∨ s.sup.mover = .walk) →
    Does (.setpointSlewStep t) s fun u =>
      u.sup.vs = (if s.sup.vs ≤ s.sup.target then min s.sup.target (s.sup.vs + 10 * s.sup.rate)
        else max s.sup.target (s.sup.vs - 10 * s.sup.rate)) ∧
      u.reg Reg.SHR_SPREF = min 65535 (toUnitNat ((u.sup.vs : Rat) / 1000)) ∧
      (u.sup.vs ≠ s.sup.target → u.sup = { s.sup with vs := u.sup.vs } ∧ OnlyRegsQuiet [Reg.SHR_SPREF] s u) ∧
      (u.sup.vs = s.sup.target → s.sup.mover = .host → u.sup.mover = .none ∧ u.reg Reg.SHR_SPSTAT = 0 ∧
        u.reg Reg.SHR_SPDONE = s.reg Reg.SHR_SPSEQ ∧ u.reg Reg.SHR_FLAGS_SPDONE = 1 ∧
        Raised 0x2120 0 (s.reg Reg.SHR_SPSEQ) (s.sup.target / 10000) s u) ∧
      (u.sup.vs = s.sup.target → s.sup.mover = .own → u.sup.mover = .none ∧ OnlyRegsQuiet [Reg.SHR_SPREF] s u)))

/-! Bays inserted and removed (R138-R144). -/

/-- R139: presence starts the debounce, whose end brings the bay to PFCSTART with event 0x1146 (or stands accepted in LOCKOUT, R144);
BAYOKb sends its switch to RAMP and the bay to INRUSH; beyond SHR_OKTIME the bay enters FAULT with event 0x1143. -/
def Obligations.BayInsertion : Prop := ∀ (t : Edges) (b : Bay) (s : State), s.core.powered = true →
  (∀ l, (s.bay b).pres = l → Does (.bayPresenceChange t b l) s fun u => u.bays = s.bays ∧ OnlyRegsQuiet [] s u) ∧
  ((s.bay b).pres = false → s.fst b ≠ fusLatched → Does (.bayPresenceChange t b true) s fun u =>
    (u.bay b).pres = true ∧ (u.bay b).debAt = some (max s.now t) ∧ (u.bay b).lostAt = none ∧ u.bst b = s.bst b ∧ OnlyRegsQuiet [] s u) ∧
  (∀ d, (s.bay b).pres = true → s.bst b = bayAbsent → (s.bay b).debAt = some d →
    (max s.now t < d + (s.at t).presDebounce → Does (.presenceDebounce t b) s fun u => u.bays = s.bays ∧ OnlyRegsQuiet [] s u) ∧
    (d + (s.at t).presDebounce ≤ max s.now t → s.mode = modeLockout → Does (.presenceDebounce t b) s fun u =>
      (u.bay b).accepted = true ∧ (u.bay b).debAt = none ∧ u.bst b = bayAbsent ∧ OnlyRegsQuiet [] s u) ∧
    (d + (s.at t).presDebounce ≤ max s.now t → s.mode ≠ modeLockout → (s.bay b).ok = false → Does (.presenceDebounce t b) s fun u =>
      (u.bay b).accepted = true ∧ u.bst b = bayPfc ∧ u.reg Reg.SHR_INSCNT = min 65535 (s.reg Reg.SHR_INSCNT + 1) ∧
      (u.bay b).insAt = max s.now t ∧ u.reg Reg.SHR_FLAGS_BAYCHG = 1 ∧ Raised 0x1146 1 b s.mode s u)) ∧
  (s.bst b = bayPfc → (s.bay b).enLow = false → s.mode ≠ modeLockout → s.fusFull b = false → s.pg b = false →
    Does (.bayokRise t b) s fun u => (u.bay b).ok = true ∧ u.bst b = bayInrush ∧ (u.bay b).okFrom = none) ∧
  ((s.bst b ≠ bayPfc ∨ (s.bay b).enLow = true ∨ s.mode = modeLockout) → Does (.bayokRise t b) s fun u =>
    (u.bay b).ok = true ∧ u.bst b = s.bst b ∧ u.fuses = s.fuses ∧ OnlyRegsQuiet [] s u) ∧
  (∀ d, s.bst b = bayPfc → (s.bay b).ok = false → (s.bay b).okFrom = some d →
    (d + s.reg Reg.SHR_OKTIME * edgeMs ≤ max s.now t → Does (.bayOkTimeout t b) s fun u =>
      u.bst b = bayFault ∧ u.regAt Reg.PH_N b = 0 ∧ (u.bay b).w = 0 ∧ (u.bay b).t = 0) ∧
    (max s.now t < d + s.reg Reg.SHR_OKTIME * edgeMs → Does (.bayOkTimeout t b) s fun u => u.bays = s.bays ∧ OnlyRegsQuiet [] s u))

/-- R142, R144: presence lost for 1 ms takes the bay to ABSENT at once with its phases low and out of sharing; an EJECTED bay is withdrawn with event
0x1140. R143: the loss of the PFC in RUN, TADPOLE and SHADOW returns the bay to PFCSTART; in LOCKOUT it is only recorded, and in HOLDUP the
bay's state stays. -/
def Obligations.BayRemoval : Prop := ∀ (t : Edges) (b : Bay) (s : State), s.core.powered = true →
  ((s.bay b).pres = true → s.bst b ≠ bayEjected → Does (.bayPresenceChange t b false) s fun u =>
    (u.bay b).pres = false ∧ (u.bay b).lostAt = some (max s.now t) ∧ (u.bay b).debAt = none ∧ u.bst b = s.bst b ∧ OnlyRegsQuiet [] s u ∧
    (s.bst b = bayAbsent → (u.bay b).accepted = false)) ∧
  ((s.bay b).pres = true → s.bst b = bayEjected → Does (.bayPresenceChange t b false) s fun u =>
    u.bst b = bayAbsent ∧ (u.bay b).accepted = false ∧ Raised 0x1140 0 b (s.reg Reg.SHR_EJCNT) s u) ∧
  (∀ d, (s.bay b).pres = false → (s.bay b).lostAt = some d → s.bst b ≠ bayAbsent → s.bst b ≠ bayEjected →
    (d + edgeMs ≤ max s.now t → Does (.bayLost t b) s fun u =>
      u.bst b = bayAbsent ∧ u.regAt Reg.PH_N b = 0 ∧ u.regAt Reg.PH_COND b = 0 ∧ (u.bay b).w = 0 ∧ (u.bay b).t = 0 ∧
      (∀ n ∈ phaseIds b, u.pst n = phAbsent) ∧ u.reg Reg.SHR_LOSTCNT = min 65535 (s.reg Reg.SHR_LOSTCNT + 1)) ∧
    (max s.now t < d + edgeMs → Does (.bayLost t b) s fun u => u.bays = s.bays ∧ OnlyRegsQuiet [] s u)) ∧
  ((s.bst b = bayJoin ∨ s.bst b = bayActive ∨ s.bst b = bayLeave ∨ s.bst b = bayStandby) →
    ((s.mode = modeRun ∨ s.mode = modeTadpole ∨ s.mode = modeShadow) → Does (.bayPfcLost t b) s fun u =>
      u.bst b = bayPfc ∧ (u.bay b).ok = false ∧ (u.bay b).w = 0 ∧ u.regAt Reg.SHR_W b = 0 ∧ u.regAt Reg.PH_N b = 0) ∧
    (s.mode = modeLockout → Does (.bayPfcLost t b) s fun u =>
      u.bst b = s.bst b ∧ (u.bay b).ok = false ∧ Raised 0x1142 4 b (s.bst b) s u ∧ OnlyRegs [] s u) ∧
    (s.mode = modeHoldup → Does (.bayPfcLost t b) s fun u => u.bst b = s.bst b ∧ (u.bay b).ok = false ∧ OnlyRegsQuiet [] s u))

/-- R144: the handle: EJECTED at once in PFCSTART, INRUSH and FAULT, at the next quadrant point in service, STANDBY and DEEP; its release cancels the
eject with event 0x1147. R140: SHR_LVTO completes a leave with event 0x1145. R141: STANDBY becomes DEEP after TRK_DEEPTIME. R92: a presence that
has gone for 100 ms discards the bay's trims. -/
def Obligations.BayEjectsAndLeaves : Prop := ∀ (t : Edges) (b : Bay) (s : State), s.core.powered = true →
  (∀ l, (s.bay b).ej = l → Does (.bayEjectChange t b l) s fun u => u.bays = s.bays ∧ OnlyRegsQuiet [] s u) ∧
  ((s.bay b).ej = false → (s.bst b = bayPfc ∨ s.bst b = bayInrush ∨ s.bst b = bayFault) → Does (.bayEjectChange t b true) s fun u =>
    u.bst b = bayEjected ∧ u.reg Reg.SHR_EJCNT = min 65535 (s.reg Reg.SHR_EJCNT + 1) ∧ u.regAt Reg.PH_N b = 0) ∧
  ((s.bay b).ej = false → (s.bst b = bayJoin ∨ s.bst b = bayActive ∨ s.bst b = bayStandby ∨ s.bst b = bayDeep) →
    Does (.bayEjectChange t b true) s fun u => u.bst b = s.bst b ∧ (u.bay b).pendEj = true ∧ OnlyRegsQuiet [] s u) ∧
  ((s.bay b).ej = false → s.bst b = bayLeave → Does (.bayEjectChange t b true) s fun u =>
    u.bst b = bayLeave ∧ (u.bay b).leaveEj = true ∧ OnlyRegsQuiet [] s u) ∧
  ((s.bay b).ej = true → s.bst b = bayLeave → (s.bay b).leaveEj = true → (s.bay b).pres = true → Does (.bayEjectChange t b false) s fun u =>
    u.bst b = bayActive ∧ (u.bay b).w = 1 ∧ u.regAt Reg.SHR_W b = 255 ∧ Raised 0x1147 1 b (min 255 (toUnitNat ((s.bay b).w * 255))) s u) ∧
  ((s.bay b).ej = true → s.bst b ≠ bayLeave → (s.bay b).pendEj = true → Does (.bayEjectChange t b false) s fun u =>
    u.bst b = s.bst b ∧ (u.bay b).pendEj = false ∧ Raised 0x1147 1 b (min 255 (toUnitNat ((s.bay b).w * 255))) s u ∧ OnlyRegs [] s u) ∧
  (∀ d, s.bst b = bayLeave → (s.bay b).zeroAt = some d →
    (d + s.reg Reg.SHR_LVTO * edgeMs ≤ max s.now t → Does (.bayLeaveForced t b) s fun u =>
      u.bst b = (if (s.bay b).leaveEj then bayEjected else bayStandby) ∧ u.regAt Reg.PH_N b = 0 ∧ (u.bay b).t = 0) ∧
    (max s.now t < d + s.reg Reg.SHR_LVTO * edgeMs → Does (.bayLeaveForced t b) s fun u => u.bays = s.bays ∧ OnlyRegsQuiet [] s u)) ∧
  (s.reg Reg.TRK_CTL_DEEP = 1 → s.bst b = bayStandby → (s.bay b).sbyAt + s.reg Reg.TRK_DEEPTIME * edgeSec ≤ max s.now t →
    Does (.deepTimeout t b) s fun u => u.bst b = bayDeep ∧ OnlyRegsQuiet [Reg.SHR_BAYST, Reg.SHR_FLAGS_BAYCHG] s u) ∧
  ((s.reg Reg.TRK_CTL_DEEP = 0 ∨ s.bst b ≠ bayStandby ∨ max s.now t < (s.bay b).sbyAt + s.reg Reg.TRK_DEEPTIME * edgeSec) →
    Does (.deepTimeout t b) s fun u => u.bays = s.bays ∧ OnlyRegsQuiet [] s u) ∧
  (∀ d, (s.bay b).pres = false → (s.bay b).lostAt = some d → d + 100 * edgeMs ≤ max s.now t →
    Does (.presenceLoss100ms t ⟨b.val, by omega⟩) s fun u => (u.fuse b).gone = true ∧
      ∀ n ∈ phaseIds b, u.regAt Reg.PH_PSTAT_TRIMVALID n = 0 ∧ u.pst n ≠ phWarm) ∧
  ((s.str b).pres = false → Does (.presenceLoss100ms t ⟨8 + b.val, by omega⟩) s fun u => (u.fuse (8 + b)).gone = true ∧ OnlyRegsQuiet [] s u)

/-! Load steps (R158-R171). -/

/-- R159, R160: a pulse is judged by its width: a runt counts in STP_WRUNT, a malformed one in STP_WBAD, one of class 1 to 4 within 20 us of the
last accepted in STP_WRATE, and any other is accepted: STP_WACC, STP_WLAST, and with STP_CTL.FFEN an injection waits (R165). An input that is
disabled or stuck is not heard. R161: an input low beyond STP_STUCKT is stuck until it is released. -/
def Obligations.WarnPulses : Prop := ∀ (t : Edges) (i : Fin 16) (fall w : Edges) (s : State), s.core.powered = true →
  let heard := s.warnHeard i = true
  let close := (s.warnIn i).fall.any (fun f => decide (fall < f + 20 * edgeUs)) = true
  let classed := 1 ≤ warnClass w ∧ warnClass w ≤ 4
  (bitOf (s.reg Reg.STP_WSTUCK) i = true → s.warnHeard i = false) ∧
  (s.warnHeard i = false ∨ s.reg Reg.STP_STUCKT * edgeUs < w → Does (.warnPulse t i fall (fall + w)) s fun u => u.step = s.step ∧ OnlyRegsQuiet [Reg.STP_WLEVEL] s u) ∧
  (heard → w < 3200 → w ≤ s.reg Reg.STP_STUCKT * edgeUs → Does (.warnPulse t i fall (fall + w)) s fun u =>
    u.reg Reg.STP_WRUNT = min (2 ^ Reg.STP_WRUNT.width - 1) (s.reg Reg.STP_WRUNT + 1) ∧ u.step = s.step ∧
    OnlyRegsQuiet [Reg.STP_WLEVEL, Reg.STP_WRUNT] s u) ∧
  (heard → 3200 ≤ w → ¬classed → w ≤ s.reg Reg.STP_STUCKT * edgeUs → Does (.warnPulse t i fall (fall + w)) s fun u =>
    u.regAt Reg.STP_WBAD i = min (2 ^ Reg.STP_WBAD.width - 1) (s.regAt Reg.STP_WBAD i + 1) ∧ u.reg Reg.STP_FLAGS_MALFORMED = 1 ∧
    (u.warnIn i).fall = (s.warnIn i).fall ∧ u.step.ff = s.step.ff ∧
    ((s.warnIn i).badAt = none → Raised 0x2140 2 i (w / 16) s u)) ∧
  (heard → classed → close → w ≤ s.reg Reg.STP_STUCKT * edgeUs → Does (.warnPulse t i fall (fall + w)) s fun u =>
    u.regAt Reg.STP_WRATE i = min (2 ^ Reg.STP_WRATE.width - 1) (s.regAt Reg.STP_WRATE i + 1) ∧ u.reg Reg.STP_FLAGS_RATE = 1 ∧
    (u.warnIn i).fall = (s.warnIn i).fall ∧ u.step.ff = s.step.ff) ∧
  (heard → ¬close → w ≤ s.reg Reg.STP_STUCKT * edgeUs → ∀ c : Fin 4, warnClass w = c.val + 1 → Does (.warnPulse t i fall (fall + w)) s fun u =>
    u.regAt Reg.STP_WACC i = min (2 ^ Reg.STP_WACC.width - 1) (s.regAt Reg.STP_WACC i + 1) ∧
    u.regAt Reg.STP_WLAST (i / 2) / 16 ^ (i.val % 2) % 16 = c.val + 1 ∧ (u.warnIn i).fall = some fall ∧
    (s.mode = modeRun → s.reg Reg.STP_CTL_FFEN = 1 → (u.ffOf c).wait = (s.ffOf c).wait ++ [max s.now t]) ∧
    ((s.mode = modeTadpole ∨ s.mode = modeLockout) → u.step.ff = s.step.ff ∧ u.phases = s.phases ∧
      OnlyRegsQuiet [Reg.STP_WLEVEL, Reg.STP_WACC, Reg.STP_WLAST] s u)) ∧
  (heard → fall + s.reg Reg.STP_STUCKT * edgeUs < max s.now t → Does (.warnStuck t i fall) s fun u =>
    bitOf (u.reg Reg.STP_WSTUCK) i = true ∧ bitOf (u.reg Reg.STP_WLEVEL) i = true ∧ u.reg Reg.STP_FLAGS_STUCK = 1 ∧
    u.regAt Reg.STP_WBAD i = min (2 ^ Reg.STP_WBAD.width - 1) (s.regAt Reg.STP_WBAD i + 1) ∧ Raised 0x2141 4 i s.mode s u) ∧
  (bitOf (s.reg Reg.STP_WSTUCK) i = true → Does (.warnReleased t i) s fun u =>
    bitOf (u.reg Reg.STP_WSTUCK) i = false ∧ u.reg Reg.STP_FLAGS_RELEASED = 1 ∧ u.step = s.step ∧
    Raised 0x2143 1 i ((max s.now t - edgeMs - (s.warnIn i).stuckAt) / edgeMs) s u)

/-- R165: the oldest injection of a class takes effect STP_FFDLY after its acceptance: the envelope rises by 1 to at most 4 and the hold starts; a hold
that lasts STP_HOLDT ends as a miss; without a hold the envelope decays every 1 us and a value below 1/256 becomes 0. STP_ENV shows it in 1/64. -/
def Obligations.FeedForward : Prop := ∀ (t : Edges) (c : Fin 4) (s : State), s.core.powered = true →
  (∀ a rest, (s.ffOf c).wait = a :: rest →
    (a + s.regAt Reg.STP_FFDLY c * edgeUs ≤ max s.now t → Does (.ffInjection t c) s fun u =>
      u.ffOf c = ⟨min 4 ((s.ffOf c).env + 1), some (max s.now t), rest⟩ ∧ bitOf (u.reg Reg.STP_STAT_HOLD) c = true ∧
      OnlyRegsQuiet [Reg.STP_ENV, Reg.STP_STAT_HOLD] s u) ∧
    (max s.now t < a + s.regAt Reg.STP_FFDLY c * edgeUs → Does (.ffInjection t c) s fun u => u.step = s.step ∧ OnlyRegsQuiet [] s u)) ∧
  (∀ h, (s.ffOf c).hold = some h →
    (h + s.reg Reg.STP_HOLDT * edgeUs ≤ max s.now t → Does (.ffHoldExpiry t c) s fun u =>
      u.ffOf c = ⟨(s.ffOf c).env, none, (s.ffOf c).wait⟩ ∧ bitOf (u.reg Reg.STP_STAT_HOLD) c = false ∧
      u.regAt Reg.STP_MISS c = min (2 ^ Reg.STP_MISS.width - 1) (s.regAt Reg.STP_MISS c + 1)) ∧
    (max s.now t < h + s.reg Reg.STP_HOLDT * edgeUs → Does (.ffHoldExpiry t c) s fun u => u.step = s.step ∧ OnlyRegsQuiet [] s u) ∧
    Does (.ffDecayStep t) s fun u => u.ffOf c = s.ffOf c ∧ OnlyRegsQuiet [Reg.STP_ENV, Reg.STP_STAT_HOLD] s u) ∧
  ((s.ffOf c).hold = none → s.reg Reg.STP_FFTAU ≠ 0 → Does (.ffDecayStep t) s fun u =>
    (u.ffOf c).env = (if (s.ffOf c).env * (1 - 1 / (s.reg Reg.STP_FFTAU : Rat)) < 1 / 256 then 0
      else (s.ffOf c).env * (1 - 1 / (s.reg Reg.STP_FFTAU : Rat))) ∧ (u.ffOf c).hold = none ∧ (u.ffOf c).wait = (s.ffOf c).wait)

/-- R169, R170: an episode closes STP_SAGHOLD after its last catching sample: a channel with a current scale books its charge in STP_SAGQ and counts it in
STP_SAGN, and STP_STAT.SAG falls STP_SAGHOLD after the last catching sample of any string. R171: a regulation point below STP_VDEEP sets
STP_FLAGS.DEEP, and STP_VMIN keeps the lowest sample. -/
def Obligations.SagEpisodes : Prop := ∀ (t : Edges) (k : Str) (s : State), s.core.powered = true →
  (∀ e, s.sagEp k = some e →
    (e.last + s.reg Reg.STP_SAGHOLD * edgeUs ≤ max s.now t → s.regAt Reg.FUS_ISCAL (8 + k) ≠ 0 → 0 ≤ e.sum →
      Does (.sagEpisodeClose t k) s fun u => u.sagEp k = none ∧
        u.regAt Reg.STP_SAGQ k = min (2 ^ Reg.STP_SAGQ.width - 1) (s.regAt Reg.STP_SAGQ k + toUnitNat e.sum) ∧
        u.regAt Reg.STP_SAGN k = min (2 ^ Reg.STP_SAGN.width - 1) (s.regAt Reg.STP_SAGN k + 1) ∧ u.reg Reg.STP_FLAGS_SAGEND = 1 ∧
        u.bays = s.bays ∧ u.phases = s.phases) ∧
    (max s.now t < e.last + s.reg Reg.STP_SAGHOLD * edgeUs → Does (.sagEpisodeClose t k) s fun u => u.sagEp k = some e ∧
      OnlyRegsQuiet [Reg.STP_STAT_SAG] s u)) ∧
  (∀ a, s.step.sagAt = some a → a + s.reg Reg.STP_SAGHOLD * edgeUs ≤ max s.now t → Does (.sagEpisodeClose t k) s fun u =>
    u.reg Reg.STP_STAT_SAG = 0 ∧ u.step.sagAt = none) ∧
  (∀ q : Codes4, Does (.regulationPointSample t q) s fun u =>
    u.regAt Reg.TLM_RAW_VTAP 0 = q.c0.toNat ∧ u.regAt Reg.TLM_RAW_VTAP 1 = q.c1.toNat ∧ u.regAt Reg.TLM_RAW_VTAP 2 = q.c2.toNat ∧
    u.regAt Reg.TLM_RAW_VTAP 3 = q.c3.toNat ∧ u.reg Reg.STP_VMIN = min (s.reg Reg.STP_VMIN) (toUnitNat u.rpMv) ∧
    (10 * s.reg Reg.STP_VDEEP ≤ u.rpMv → u.reg Reg.STP_FLAGS_DEEP = s.reg Reg.STP_FLAGS_DEEP ∧ u.step = s.step) ∧
    (u.rpMv < 10 * s.reg Reg.STP_VDEEP → s.step.catching = 0 → s.step.deepAt = none →
      u.reg Reg.STP_FLAGS_DEEP = 1 ∧ Raised 0x1161 4 (u.reg Reg.STP_VMIN) 0 s u))

/-! Capping and pacing (R176-R192). -/

/-- R178, R194: a 16-byte record is checked, and its result shown in CAP_MBRES for a sled and CAP_CT_RES for the host: a record that passes is staged with its
origin, none of results 1 to 7 changes the shadow table, and results 1 to 6 raise event 0x2166; nothing reaches the active table. R177: a sled's record
is the owner's alone. Where several results apply, which one is told is free (DESIGN CHOICE, assumption 26). -/
def Obligations.ContractRecords : Prop := ∀ (t : Edges) (r : List Byte) (s : State), s.core.powered = true → r.length = 16 →
  let res := fun o => s.recResult (r.map BitVec.toNat) o
  let id := (r.getD 1 0).toNat
  let effect := fun (o : Nat) (u : State) =>
    (res o = 0 → (u.ct id).staged = some o ∧ u.shadAt Reg.CAP_CT_REC (16 * id + 15) = (r.getD 15 0).toNat ∧
      u.shadAt Reg.CAP_CT_REC (16 * id) = (r.getD 0 0).toNat) ∧
    (res o = 7 → u.shad = s.shad ∧ u.cap = s.cap) ∧
    (1 ≤ res o → res o ≤ 6 → u.shad = s.shad ∧ u.cap = s.cap ∧ u.reg Reg.CAP_FLAGS_MBREF = 1 ∧ Raised 0x2166 2 (id % 128) (res o) s u)
  ((s.owner = false ∨ s.supUp = false) → Does (.mailboxRecord t r) s fun u => u.shad = s.shad ∧ u.cap = s.cap ∧ OnlyRegsQuiet [] s u) ∧
  (s.owner = true → s.supUp = true → Does (.mailboxRecord t r) s fun u =>
    u.reg Reg.CAP_MBID = id % 128 ∧ u.reg Reg.CAP_MBRES = res 3 ∧ u.reg Reg.CAP_MBSEQ = (r.getD 15 0).toNat ∧ effect 3 u ∧
    OnlyRegs [Reg.CAP_MBID, Reg.CAP_MBRES, Reg.CAP_MBSEQ, Reg.CAP_FLAGS_MBREF] s u) ∧
  (s.supUp = true → Does (.contractWrite t r) s fun u => u.reg Reg.CAP_CT_RES = res 2 ∧ effect 2 u ∧
    OnlyRegs [Reg.CAP_CT_RES, Reg.CAP_FLAGS_MBREF] s u) ∧
  (s.supUp = true → s.mode = modeLockout → Does (.contractWrite t r) s fun u =>
    1 ≤ u.reg Reg.CAP_CT_RES ∧ u.reg Reg.CAP_CT_RES ≤ 7 ∧ u.shad = s.shad ∧ u.cap = s.cap) ∧
  (s.supUp = true → r.getD 0 0 ≠ 1 → r.getD 0 0 ≠ 2 → Does (.contractWrite t r) s fun u =>
    1 ≤ u.reg Reg.CAP_CT_RES ∧ u.reg Reg.CAP_CT_RES ≤ 7 ∧ u.shad = s.shad ∧ u.cap = s.cap) ∧
  (s.supUp = true → ∀ n, s.recResults (r.map BitVec.toNat) 2 = [n] → Does (.contractWrite t r) s fun u => u.reg Reg.CAP_CT_RES = n)

/-- R177, R183: a contract ID written to the mailbox selects the 12-byte grant record the next read returns. R184, R406, R407: a grant write acknowledged
leaves the queue and resets the failures of its contract; one not acknowledged has two further attempts; lost arbitration is counted in
S_ARBCNT and tried again. R189: before PACE is released an acceptance of class CAP_RCLS is made, which STP_WACC does not count. -/
def Obligations.GrantsAndPacing : Prop := ∀ (t : Edges) (s : State), s.core.powered = true →
  (∀ id : Byte, s.supUp = true → s.owner = true → s.mode ≠ modeShadow → id.toNat < 128 → Does (.grantReadback t id) s fun u =>
    u.cap.readId = id.toNat ∧ u.portS.sent.length = 12 ∧ u.portS.sent.head? = some id.toNat ∧ OnlyRegsQuiet [] s u) ∧
  (∀ id : Byte, (s.supUp = false ∨ s.owner = false ∨ s.mode = modeShadow ∨ 128 ≤ id.toNat) → Does (.grantReadback t id) s fun u =>
    u.cap = s.cap ∧ u.portS = s.portS ∧ OnlyRegsQuiet [] s u) ∧
  (∀ i : Fin 128, s.cap.queue.head? = some i.val → s.owner = true → s.supUp = true →
    (Does (.grantWrite t .acked) s fun u =>
      u.cap.queue = s.cap.queue.tail ∧ (u.ct i).age = 0 ∧ u.cap.tries = 0 ∧ u.regAt Reg.CAP_CT_NACKS i = 0 ∧
      bitOf (u.reg Reg.CAP_CT_UNREACH) i = false ∧ u.reg Reg.S_GWCNT = min (2 ^ Reg.S_GWCNT.width - 1) (s.reg Reg.S_GWCNT + 1)) ∧
    (∀ k, s.cap.tries < 2 → Does (.grantWrite t (.nack k)) s fun u =>
      u.cap.queue = s.cap.queue ∧ u.cap.tries = s.cap.tries + 1 ∧ OnlyRegsQuiet [] s u) ∧
    (∀ k, 2 ≤ s.cap.tries → Does (.grantWrite t (.nack k)) s fun u =>
      u.cap.queue = s.cap.queue.tail ∧ u.cap.tries = 0 ∧ (u.ct i).failed = true ∧
      u.reg Reg.CAP_NACKCNT = min (2 ^ Reg.CAP_NACKCNT.width - 1) (s.reg Reg.CAP_NACKCNT + 1)) ∧
    (s.cap.arb < 7 → Does (.grantWrite t .lostArb) s fun u =>
      u.cap.queue = s.cap.queue ∧ u.cap.arb = s.cap.arb + 1 ∧ u.reg Reg.S_ARBCNT = min (2 ^ Reg.S_ARBCNT.width - 1) (s.reg Reg.S_ARBCNT + 1) ∧
      OnlyRegsQuiet [Reg.S_ARBCNT] s u)) ∧
  (∀ g : Fin 16, ∀ c : Fin 4, s.rcls g = c.val + 1 → bitOf s.cap.pace g = true →
    bitOf (s.paceNow ((s.wheel.idx + 1) % 64)) g = false → s.phasesManaged = true → s.reg Reg.PH_WARNMIN = 0 → s.reg Reg.STP_CTL_FFEN = 1 →
    Does (.paceReturnAcceptance t g) s fun u => (u.ffOf c).wait = (s.ffOf c).wait ++ [max s.now t] ∧ OnlyRegsQuiet [] s u)

/-! Hold-up and return of mains (R197-R215). -/

/-- R199-R202: the checks of a feed: a crest check, an RMS window and the frequency. A check that passes shows its measure and the instant; one that fails
takes a QUALIFIED or RETURNING feed to LOST with its reason, its phase and event 0x1101. A feed or phase that is not judged changes nothing. The other feed
being QUALIFIED, mains stays present. -/
def Obligations.FeedChecks : Prop := ∀ (t : Edges) (x : Feed) (p : Fin 3) (s : State), s.core.powered = true →
  let other := s.feedSt (match x with | .a => .b | .b => .a) = feedQual ∧ s.reg Reg.HUP_STAT_MAINS = 1
  let live := s.feedSt x = feedQual ∨ s.feedSt x = feedReturn
  let lost := fun (why ph : Nat) (u : State) => u.feedSt x = feedLost ∧ u.qcnt x = 0 ∧ u.reg Reg.HUP_REASON_CODE = why ∧
    u.reg Reg.HUP_REASON_FEED = feedNo x ∧ u.reg Reg.HUP_REASON_PHASE = ph ∧ u.reg Reg.HUP_FLAGS_FEED = 1 ∧ u.mode = s.mode ∧
    u.reg Reg.HUP_STAT_MAINS = 1 ∧ Raised 0x1101 3 (feedNo x) (why + 256 * ph) s u
  (∀ (k : Fin 8) (q : Codes5),
    ((s.judged x p = false ∨ (s.at t).crestOn x = false) → Does (.crestCheck t x p k q) s fun u =>
      u.regAt Reg.TLM_RAW_AC (3 * feedNo x + p) = q.c4.toNat ∧ u.hup = s.hup ∧ OnlyRegsQuiet [Reg.TLM_RAW_AC] s u) ∧
    (s.judged x p = true → (s.at t).crestOn x = true →
      let bad := crestSign (s.crestMean q) k || crestLow (s.crestMean q) (s.apk x) (s.reg Reg.HUP_CRLO) k
      (bad = false → s.reg Reg.HUP_STAT_RTARM = 0 → Does (.crestCheck t x p k q) s fun u =>
        (u.feed x).crest = 0 ∧ (u.feed x).passAt = max s.now t ∧ OnlyRegsQuiet [Reg.TLM_RAW_AC] s u) ∧
      (bad = true → s.feedSt x = feedQual → s.reg Reg.HUP_CRN ≤ (s.feed x).crest + 1 → other →
        Does (.crestCheck t x p k q) s (lost 0 (p + 1))) ∧
      (bad = true → s.feedSt x = feedQual → (s.feed x).crest + 1 < s.reg Reg.HUP_CRN → Does (.crestCheck t x p k q) s fun u =>
        (u.feed x).crest = (s.feed x).crest + 1 ∧ u.feedSt x = feedQual ∧ OnlyRegsQuiet [Reg.TLM_RAW_AC] s u))) ∧
  (∀ rms rising leads,
    let v : Rat := (rms * s.reg Reg.HUP_ACSCAL : Nat) / 1000000
    let sq : Rat := (if s.reg Reg.WHL_CFG_SINGLE ≠ 0 then 1 else 3) * (100 * v) * (100 * v)
    let lo : Rat := (s.reg Reg.HUP_RMSLO * s.reg Reg.HUP_VNOM : Nat)
    let hi : Rat := (s.reg Reg.HUP_RMSHI * s.reg Reg.HUP_VNOM : Nat)
    let window := fun (c : Instr) =>
      (lo * lo ≤ sq → sq ≤ hi * hi → Does c s fun u =>
        u.regAt Reg.HUP_VRMS (3 * feedNo x + p) = min 65535 (toUnitNat v) ∧ (u.feed x).passAt = max s.now t ∧
        OnlyRegsQuiet [Reg.HUP_VRMS] s u) ∧
      (sq < lo * lo → live → other → Does c s (lost 1 (p + 1))) ∧
      (lo * lo ≤ sq → hi * hi < sq → live → other → Does c s (lost 2 (p + 1)))
    (s.judged x p = false → Does (.rmsWindowDeadline t x p rms) s (fun u => u.hup = s.hup ∧ OnlyRegsQuiet [] s u) ∧
      Does (.acZeroCrossing t x p rising rms leads) s (fun u => u.hup = s.hup ∧ OnlyRegsQuiet [] s u)) ∧
    (s.judged x p = true → window (.rmsWindowDeadline t x p rms) ∧ window (.acZeroCrossing t x p false rms leads))) ∧
  (∀ a, (s.feed x).posAt = some a →
    (s.judged x 0 = true → edgeSec ≤ 45 * (max s.now t - a) → live → other → Does (.frequencyDeadline t x) s (lost 3 1)) ∧
    ((s.judged x 0 = false ∨ 45 * (max s.now t - a) < edgeSec) → Does (.frequencyDeadline t x) s fun u =>
      u.hup = s.hup ∧ OnlyRegsQuiet [] s u))

/-- R202, R203: the loss of the last QUALIFIED feed in RUN is an outage: HOLDUP with cause 0x04, in WALKDOWN, counted in HUP_OUTCNT. R201: a good cycle
ended by a positive-going crossing counts in HUP_QCNT; at HUP_QCYC the feed is QUALIFIED with event 0x1102, and mains is present. -/
def Obligations.OutageAndReturn : Prop := ∀ (t : Edges) (x : Feed) (s : State), s.core.powered = true →
  (∀ a, (s.feed x).posAt = some a → s.judged x 0 = true → edgeSec ≤ 45 * (max s.now t - a) → s.feedSt x = feedQual →
    s.feedSt (match x with | .a => .b | .b => .a) ≠ feedQual → s.reg Reg.HUP_STAT_MAINS = 1 → s.mode = modeRun →
    s.reg Reg.IMG_STAT_PROB ≠ 1 → Does (.frequencyDeadline t x) s fun u =>
      u.mode = modeHoldup ∧ u.reg Reg.GL_MODE_CAUSE = 0x04 ∧ u.reg Reg.GL_MODE_PREV = modeRun ∧ u.stage = stWalkdown ∧
      u.reg Reg.HUP_STAT_MAINS = 0 ∧ u.feedSt x = feedLost ∧ u.reg Reg.HUP_FLAGS_OUTAGE = 1 ∧ u.sup.vs = s.sup.vs ∧
      u.reg Reg.HUP_OUTCNT = min (2 ^ Reg.HUP_OUTCNT.width - 1) (s.reg Reg.HUP_OUTCNT + 1)) ∧
  (∀ a rms, (s.feed x).posAt = some a → s.judged x 0 = true → (s.feed x).counts = true → (s.feed x).cycOk = true →
    45 * (max s.now t - a) ≤ edgeSec → edgeSec ≤ 66 * (max s.now t - a) → s.mode ≠ modeHoldup →
    let v : Rat := (rms * s.reg Reg.HUP_ACSCAL : Nat) / 1000000
    let sq : Rat := (if s.reg Reg.WHL_CFG_SINGLE ≠ 0 then 1 else 3) * (100 * v) * (100 * v)
    let lo : Rat := (s.reg Reg.HUP_RMSLO * s.reg Reg.HUP_VNOM : Nat)
    let hi : Rat := (s.reg Reg.HUP_RMSHI * s.reg Reg.HUP_VNOM : Nat)
    lo * lo ≤ sq → sq ≤ hi * hi → (s.feedSt x = feedLost ∨ s.feedSt x = feedReturn) →
    (s.qcnt x + 1 < s.reg Reg.HUP_QCYC → Does (.acZeroCrossing t x 0 true rms false) s fun u =>
      u.feedSt x = feedReturn ∧ u.qcnt x = s.qcnt x + 1 ∧ (u.feed x).posAt = some (max s.now t) ∧ u.mode = s.mode) ∧
    (s.reg Reg.HUP_QCYC ≤ s.qcnt x + 1 → Does (.acZeroCrossing t x 0 true rms false) s fun u =>
      u.feedSt x = feedQual ∧ u.reg Reg.HUP_STAT_MAINS = 1 ∧ u.reg Reg.HUP_FLAGS_FEED = 1 ∧ u.mode = s.mode ∧
      Raised 0x1102 1 (feedNo x) (s.qcnt x + 1) s u))

/-- R209-R212: the deadlines of HOLDUP: RTARM falls HUP_RTW cycles after the declaration; the stagger of RESTART brings the next bay; RESTART ends at
HUP_RSTO in WALKUP, or with event 0x1107 while no bay has joined; HANDBACK ends in RUN with cause 0x02, quiet or forced; and the chatter hold ends in
RESTART or ON_BATTERY. Before they are due they do nothing. -/
def Obligations.HoldupDeadlines : Prop := ∀ (t : Edges) (s : State), s.core.powered = true →
  (∀ p, s.hup.outTick = some p →
    (p + 65536 * s.reg Reg.HUP_RTW ≤ (s.at t).wheelPos → Does (.rideThroughWindowEnd t) s fun u =>
      u.reg Reg.HUP_STAT_RTARM = 0 ∧ OnlyRegsQuiet [Reg.HUP_STAT_RTARM] s u) ∧
    ((s.at t).wheelPos < p + 65536 * s.reg Reg.HUP_RTW → Does (.rideThroughWindowEnd t) s fun u => u.hup = s.hup ∧ OnlyRegsQuiet [] s u)) ∧
  (∀ b : Bay, s.hup.waiting.head? = some b.val → s.supUp = true →
    (s.hup.nextAt ≤ max s.now t → Does (.restartStagger t) s fun u => u.hup.waiting = s.hup.waiting.tail ∧
      u.hup.nextAt = max s.now t + s.reg Reg.HUP_STAG * edgeMs ∧ (u.bay b).enLow = false ∧ (u.bay b).released = false ∧
      u.regAt Reg.PH_NT b = 6) ∧
    (max s.now t < s.hup.nextAt → Does (.restartStagger t) s fun u => u.hup = s.hup ∧ u.bays = s.bays ∧ OnlyRegsQuiet [] s u)) ∧
  (let due := s.mode = modeHoldup ∧ s.stage = stRestart ∧ s.supUp = true ∧ s.hup.rstTold = false ∧
      s.hup.rstAt + s.reg Reg.HUP_RSTO * edgeMs ≤ max s.now t;
    (due → s.joinedBays ≠ [] → Does (.restartTimeout t) s fun u => u.stage = stWalkup ∧ u.sup.mover = .walk ∧ u.mode = modeHoldup) ∧
    (due → s.joinedBays = [] → Does (.restartTimeout t) s fun u => u.stage = stRestart ∧ u.hup.rstTold = true ∧
      u.reg Reg.HUP_FLAGS_FORCED = 1 ∧ Raised 0x1107 4 0 (satNat 32 (toUnitNat (s.hup.iTick / 100))) s u) ∧
    (¬due → Does (.restartTimeout t) s fun u => u.hup = s.hup ∧ u.sup = s.sup ∧ OnlyRegsQuiet [] s u)) ∧
  (let ready := s.mode = modeHoldup ∧ s.stage = stHandback ∧ s.supUp = true ∧ s.reg Reg.IMG_STAT_PROB ≠ 1;
    let inRun := fun (u : State) => u.mode = modeRun ∧ u.reg Reg.GL_MODE_CAUSE = 0x02 ∧ u.reg Reg.GL_MODE_PREV = modeHoldup ∧
      u.stage = stMains ∧ u.reg Reg.HUP_FLAGS_RETURN = 1;
    (∀ q, s.hup.quietAt = some q → ready → max q s.hup.hbAt + s.reg Reg.HUP_HBT * edgeMs ≤ max s.now t →
      Does (.handbackQuiet t) s inRun) ∧
    (∀ q, s.hup.quietAt = some q → max s.now t < max q s.hup.hbAt + s.reg Reg.HUP_HBT * edgeMs → Does (.handbackQuiet t) s fun u =>
      u.hup = s.hup ∧ u.sup = s.sup ∧ OnlyRegsQuiet [] s u) ∧
    (ready → s.hup.hbAt + s.reg Reg.HUP_HBTO * edgeMs ≤ max s.now t → Does (.handbackTimeout t) s fun u =>
      inRun u ∧ u.reg Reg.HUP_FLAGS_FORCED = 1) ∧
    (max s.now t < s.hup.hbAt + s.reg Reg.HUP_HBTO * edgeMs → Does (.handbackTimeout t) s fun u =>
      u.hup = s.hup ∧ u.sup = s.sup ∧ OnlyRegsQuiet [] s u)) ∧
  (∀ e, s.hup.holdEnd = some e →
    (e ≤ max s.now t → s.supUp = true → Does (.chatterHoldEnd t) s fun u => u.hup.holdEnd = none ∧ u.reg Reg.HUP_HOLDLEFT = 0 ∧
      u.mode = s.mode ∧ (s.mode = modeHoldup → s.stage = stHeld → u.stage = if s.anyQualified then stRestart else stBattery)) ∧
    (max s.now t < e → Does (.chatterHoldEnd t) s fun u => u.hup = s.hup ∧ OnlyRegsQuiet [] s u))

/-! Battery strings and their charge stages (R218-R242). -/

/-- R221, R222: presence starts the debounce, its end marks BST_PRESENT and starts the voltage check, and the check sends the string's switch towards power-good, or
the string to HALT with reason 20 and event 0x3111. R224: a removal clamps the stage at once: ABSENT where presence was lost, HALT with reason 19
where BV collapsed. R225: BOKs low stops a LITHIUM string's charge with reason 13 and event 0x3105. -/
def Obligations.StringsInAndOut : Prop := ∀ (t : Edges) (k : Str) (s : State), s.core.powered = true →
  ((s.str k).pres = false → s.fst (8 + k) ≠ fusLatched → Does (.stringPresenceChange t k) s fun u =>
    (u.str k).pres = true ∧ (u.str k).debAt = some (max s.now t) ∧ OnlyRegsQuiet [] s u) ∧
  ((s.str k).pres = true → Does (.stringPresenceChange t k) s fun u => u.strs = s.strs ∧ OnlyRegsQuiet [] s u) ∧
  (∀ d, (s.str k).pres = true → (s.str k).debAt = some d →
    let db := if s.imgValid then s.reg Reg.BST_PRESDB * edgeMs else 5 * edgeMs
    (d + db ≤ max s.now t → s.mode ≠ modeLockout → Does (.stringPresenceDebounce t k) s fun u =>
      bitOf (u.reg Reg.BST_PRESENT) k = true ∧ (u.str k).debAt = none ∧ (u.str k).chkAt = some (max s.now t) ∧ (u.str k).chkN = 0 ∧
      OnlyRegsQuiet [Reg.BST_PRESENT] s u) ∧
    ((max s.now t < d + db ∨ s.mode = modeLockout) → Does (.stringPresenceDebounce t k) s fun u => u.strs = s.strs ∧ OnlyRegsQuiet [] s u)) ∧
  (∀ c, (s.str k).chkAt = some c → c + (if s.imgValid then edgeSec else 2 * edgeMs) ≤ max s.now t → s.mode ≠ modeLockout →
    3 ≤ s.reg Reg.GL_BOOT_STEP → (s.str k).chkN ≠ 0 →
    let bv := (s.str k).chkSum / ((s.str k).chkN : Rat)
    let ok := if s.imgValid then s.cellsOk k (bv / (s.cells k : Rat)) = true else 30000 ≤ bv ∧ bv ≤ 60000
    (ok → s.fst (8 + k) = fusOff → Does (.stringInsertCheck t k) s fun u =>
      (u.str k).ramping = true ∧ (u.str k).chkAt = none ∧ u.cst k = s.cst k ∧ (u.fst (8 + k) = fusRamp ∨ u.fst (8 + k) = fusSettle)) ∧
    (¬ok → Does (.stringInsertCheck t k) s fun u => u.cst k = strHalt ∧ u.regAt Reg.BST_WST_REASON k = 20 ∧ (u.str k).ramping = false ∧
      u.fuses = s.fuses ∧ u.reg Reg.BST_FLAGS_HALT = 1)) ∧
  (bitOf (s.reg Reg.BST_PRESENT) k = false → Does (.stringRemoval t k .presence) s fun u =>
    (u.str k).pres = false ∧ (u.str k).debAt = none ∧ OnlyRegsQuiet [] s u) ∧
  (bitOf (s.reg Reg.BST_PRESENT) k = true →
    (Does (.stringRemoval t k .presence) s fun u => u.cst k = strAbsent ∧ (u.str k).driving = false ∧ (u.str k).pres = false ∧
      bitOf (u.reg Reg.BST_PRESENT) k = false ∧ u.regAt Reg.BST_HIST_NORMAL k = 0 ∧ u.regAt Reg.BST_DEFICIT k = 0 ∧
      u.reg Reg.BST_FLAGS_REMOVED = 1 ∧ (u.fuse (8 + k)).want = false) ∧
    (Does (.stringRemoval t k .collapse) s fun u => u.cst k = strHalt ∧ u.regAt Reg.BST_WST_REASON k = 19 ∧ (u.str k).driving = false ∧
      (u.str k).aFall = 0 ∧ (u.str k).bRise = 0 ∧ u.reg Reg.BST_FLAGS_REMOVED = 1 ∧ (u.fuse (8 + k)).want = false)) ∧
  (s.lithium k = true → strTrickle ≤ s.cst k → s.cst k ≤ strTempwait → (s.str k).stopped = false → s.mode = modeRun →
    s.regAt Reg.BST_CFG_EN k = 1 → s.cells k ≠ 0 → Does (.bokChange t k false) s fun u =>
      u.cst k = strOff ∧ u.regAt Reg.BST_WST_REASON k = 13 ∧ bitOf (u.reg Reg.BST_BOKLVL) k = false ∧ u.reg Reg.BST_FLAGS_BOK = 1 ∧
      Raised 0x3105 2 k (s.cst k) s u) ∧
  ((s.lithium k = false ∨ s.cst k < strTrickle ∨ strTempwait < s.cst k) → Does (.bokChange t k false) s fun u =>
    (u.str k).bokAt = none ∧ u.cst k = s.cst k ∧ OnlyRegsQuiet [Reg.BST_BOKLVL] s u) ∧
  ((s.str k).bokAt = none → Does (.bokChange t k true) s fun u => (u.str k).bokAt = some (max s.now t) ∧
    bitOf (u.reg Reg.BST_BOKLVL) k = true ∧ u.cst k = s.cst k ∧ OnlyRegsQuiet [Reg.BST_BOKLVL] s u)

/-- R227, R228: a charge period of 6.4 × 10⁹ / BST_FREQ edge units, with the fraction carried; in no charging state the legs stay in the clamp state; in the buck
region CHGB is high for the whole period. The comparator truncates the pulse of a period that drives. R18, R357: a string sample keeps its six raw
codes. -/
def Obligations.ChargeStage : Prop := ∀ (t : Edges) (k : Str) (s : State), s.core.powered = true →
  (s.regAt Reg.BST_FREQ k ≠ 0 → (s.str k).frac < s.regAt Reg.BST_FREQ k → Does (.chargePeriodStart t k) s fun u =>
    (u.str k).perAt = max s.now t ∧ (u.str k).perLen * s.regAt Reg.BST_FREQ k + (u.str k).frac = 6400000 + (s.str k).frac ∧
    (u.str k).frac < s.regAt Reg.BST_FREQ k ∧ (u.str k).limited = false ∧ (u.str k).driving = chargingSt (s.cst k) ∧
    (chargingSt (s.cst k) = false → (u.str k).aFall = 0 ∧ (u.str k).bRise = 0) ∧
    (chargingSt (s.cst k) = true → (s.str k).m ≤ (s.regAt Reg.BST_DAMAX k : Rat) / 65536 →
      (u.str k).aFall = nearestNat ((s.str k).m * (u.str k).perLen) ∧ (u.str k).bRise = nearestNat 0) ∧
    OnlyRegsQuiet [Reg.TWN_LASTTO] s u) ∧
  ((s.str k).driving = true → Does (.chargeCurrentLimit t k) s fun u => (u.str k).limited = true ∧
    (u.str k).aFall = min (s.str k).aFall (max s.now t - (s.str k).perAt) ∧
    (u.str k).bRise = min (s.str k).bRise (max s.now t - (s.str k).perAt) ∧ OnlyRegsQuiet [] s u) ∧
  ((s.str k).driving = false → Does (.chargeCurrentLimit t k) s fun u => u.strs = s.strs ∧ OnlyRegsQuiet [] s u) ∧
  (∀ q : StrCodes, Does (.stringSample t k q) s fun u =>
    u.regAt Reg.TLM_RAW_STR (6 * k) = q.bv.toNat ∧ u.regAt Reg.TLM_RAW_STR (6 * k + 1) = q.bi.toNat ∧
    u.regAt Reg.TLM_RAW_STR (6 * k + 2) = q.bt0.toNat ∧ u.regAt Reg.TLM_RAW_STR (6 * k + 3) = q.bt1.toNat ∧
    u.regAt Reg.TLM_RAW_STR (6 * k + 4) = q.bt2.toNat ∧ u.regAt Reg.TLM_RAW_STR (6 * k + 5) = q.bt3.toNat ∧
    (u.str k).winN = (if s.cst k = strFast ∧ u.cst k = strTopoff then 0 else (s.str k).winN + 1) ∧
    (u.cst k ≠ s.cst k → s.cst k = strFast ∧ u.cst k = strTopoff ∧ s.lithium k = true))

/-- R233, R234, R236, R237: each second the rules of the state: a temperature at BST_TCUT sends any string in service to HALT with reason 10, a NICKEL string moves from
TRICKLE to PRECHARGE at 0.90 V a cell; a supervisor that is down judges nothing. A phase timer that has run ends TRICKLE in HALT with reason 7 and
the rest of TERMINATE in MAINTAIN. R231: start selection runs from OFF once charging is allowed and eligible. -/
def Obligations.ChargeRules : Prop := ∀ (t : Edges) (k : Str) (s : State), s.core.powered = true →
  let now := max s.now t
  let y := s.str k
  let v := (if y.winN = 0 then y.bvAvg else y.bvSum / (y.winN : Rat)) / (s.cells k : Rat)
  let ran := y.phRun + (now - y.phAt)
  (now < y.winAt + edgeSec → Does (.chargeSecond t k) s fun u => u.strs = s.strs ∧ OnlyRegsQuiet [] s u) ∧
  (y.winAt + edgeSec ≤ now → s.supUp = false → Does (.chargeSecond t k) s fun u => u.cst k = s.cst k ∧ (u.str k).winAt = now ∧ (u.str k).winN = 0 ∧
    u.sregAt Reg.BST_TSTR k = clampInt (-32768) 32767 (s.strTemp k)) ∧
  (y.winAt + edgeSec ≤ now → s.supUp = true → s.cells k ≠ 0 →
    (s.cst k ≠ strAbsent → s.cst k ≠ strHalt → s.sregAt Reg.BST_TCUT k ≤ s.strTemp k → Does (.chargeSecond t k) s fun u =>
      u.cst k = strHalt ∧ u.regAt Reg.BST_WST_REASON k = 10 ∧ u.reg Reg.BST_FLAGS_HALT = 1 ∧ u.reg Reg.BST_FLAGS_TEMP = 1) ∧
    (s.cst k = strTrickle → s.lithium k = false → s.strTemp k < s.sregAt Reg.BST_TCUT k → s.sregAt Reg.BST_TMINC k ≤ s.strTemp k →
      v ≤ (s.regAt Reg.BST_VCV k : Rat) / 10 + s.regAt Reg.BST_VOVM k → 900 ≤ v → Does (.chargeSecond t k) s fun u =>
        u.cst k = strPrecharge ∧ u.regAt Reg.BST_WST_REASON k = 2 ∧ bitOf (u.reg Reg.BST_CHARGING) k = true ∧
        Raised 0x3100 0 k (2 + 256 * 3 + 65536 * 2) s u)) ∧
  (s.supUp = true → s.cst k = strTrickle →
    (s.regAt Reg.BST_TTRK k * 60 * edgeSec ≤ ran → Does (.chargePhaseTimeout t k) s fun u =>
      u.cst k = strHalt ∧ u.regAt Reg.BST_WST_REASON k = 7 ∧ bitOf (u.reg Reg.BST_CHARGING) k = false) ∧
    (ran < s.regAt Reg.BST_TTRK k * 60 * edgeSec → Does (.chargePhaseTimeout t k) s fun u => u.strs = s.strs ∧ OnlyRegsQuiet [] s u)) ∧
  (s.supUp = true → s.cst k = strTerminate → s.regAt Reg.BST_TRST k * edgeSec ≤ ran → Does (.chargePhaseTimeout t k) s fun u =>
    u.cst k = strMaintain ∧ u.regAt Reg.BST_WST_REASON k = 2 ∧ Raised 0x3100 0 k (6 + 256 * 7 + 65536 * 2) s u) ∧
  ((s.cst k ≠ strOff ∨ (s.chargeBar k).isSome = true ∨ y.eligAt = none) → Does (.chargeEligible t k) s fun u =>
    u.strs = s.strs ∧ OnlyRegsQuiet [] s u) ∧
  (∀ e, y.eligAt = some e → e ≤ now → s.cst k = strOff → s.chargeBar k = none → y.tripped = false → s.lithium k = false →
    (s.strTemp k < s.sregAt Reg.BST_TMINC k → Does (.chargeEligible t k) s fun u => u.cst k = strTempwait ∧ u.regAt Reg.BST_WST_REASON k = 11) ∧
    (s.sregAt Reg.BST_TMINC k ≤ s.strTemp k → s.strTemp k ≤ s.sregAt Reg.BST_TMAXC k → s.regAt Reg.BST_HIST_NORMAL k = 0 → 1050 ≤ s.vCell k →
      Does (.chargeEligible t k) s fun u => u.cst k = strFast ∧ u.regAt Reg.BST_WST_REASON k = 1 ∧ (u.str k).iset = 0 ∧
        (u.str k).m = s.bv k / s.vsMv))

/-- R240: the string commands: a wrong key answers 3 and one that the state does not allow 2, with no other effect; START ends a STOP, STOP puts the
string in OFF with reason 16, and CLEAR begins insertion again from step 2. -/
def Obligations.StringCommands : Prop := ∀ (t : Edges) (k : Str) (s : State), s.up →
  (∀ key : Byte, key ≠ 0xA5 → ∀ c ∈ [Instr.start t k key, .stop t k key, .clear t k key], Does c s fun u =>
    u.regAt Reg.BST_CMDRES k = 3 ∧ u.strs = s.strs ∧ OnlyRegsQuiet [Reg.BST_CMDRES] s u) ∧
  ((s.cst k = strAbsent ∨ s.cst k = strHalt) → Does (.stop t k 0xA5) s fun u =>
    u.regAt Reg.BST_CMDRES k = 2 ∧ u.strs = s.strs ∧ OnlyRegsQuiet [Reg.BST_CMDRES] s u) ∧
  (s.cst k ≠ strAbsent → s.cst k ≠ strHalt → Does (.stop t k 0xA5) s fun u =>
    u.regAt Reg.BST_CMDRES k = 1 ∧ u.cst k = strOff ∧ u.regAt Reg.BST_WST_REASON k = 16 ∧ (u.str k).stopped = true ∧
    Raised 0x3100 0 k (s.cst k + 256 + 65536 * 16) s u) ∧
  ((s.cst k ≠ strOff ∨ (s.str k).stopped = false) → Does (.start t k 0xA5) s fun u =>
    u.regAt Reg.BST_CMDRES k = 2 ∧ u.strs = s.strs ∧ OnlyRegsQuiet [Reg.BST_CMDRES] s u) ∧
  (s.cst k = strOff → (s.str k).stopped = true → Does (.start t k 0xA5) s fun u =>
    u.regAt Reg.BST_CMDRES k = 1 ∧ (u.str k).stopped = false) ∧
  ((s.cst k ≠ strHalt ∨ (s.str k).pres = false) → Does (.clear t k 0xA5) s fun u =>
    u.regAt Reg.BST_CMDRES k = 2 ∧ u.strs = s.strs ∧ OnlyRegsQuiet [Reg.BST_CMDRES] s u) ∧
  (s.cst k = strHalt → (s.str k).pres = true → Does (.clear t k 0xA5) s fun u =>
    u.regAt Reg.BST_CMDRES k = 1 ∧ (u.str k).chkAt = some (max s.now t) ∧ (u.str k).chkN = 0 ∧ OnlyRegsQuiet [Reg.BST_CMDRES] s u)

/-! The estimator (R245-R263). -/

/-- R246: 30 s of WAIT make a string NAIVE and untrusted, with event 0x3151. R252: a rest makes the SoC interval the intersection with the OCV interval, or sets the
SoC from the OCV with event 0x3155 where they do not meet. R256: 10 s of low current without a look at its pages hibernate the estimator, and
a wake ends that. R258: EST_EXPINT hours after the last export of a KNOWN string another is asked for. -/
def Obligations.EstimatorStates : Prop := ∀ (t : Edges) (k : Str) (s : State), s.core.powered = true →
  (s.est0 k = estWait → (s.esti k).waitAt + 30 * edgeSec ≤ max s.now t → Does (.estimatorNaiveTimeout t k) s fun u =>
    u.est0 k = estNaive ∧ u.regAt Reg.EST_STATE k = estNaive + 4 ∧ u.reg Reg.EST_FLAGS_NAIVE = 1 ∧
    Raised 0x3151 3 k (s.regAt Reg.EST_SOC k) s u ∧ OnlyRegs [Reg.EST_STATE, Reg.EST_FLAGS_NAIVE] s u) ∧
  ((s.est0 k ≠ estWait ∨ max s.now t < (s.esti k).waitAt + 30 * edgeSec) → Does (.estimatorNaiveTimeout t k) s fun u =>
    u.ests = s.ests ∧ OnlyRegsQuiet [] s u) ∧
  (∀ a, (s.esti k).lowAt = some a → (s.esti k).restAt = none → a + s.reg Reg.EST_RESTT * edgeSec ≤ max s.now t → s.est0 k ≠ estAbsent →
    (s.esti k).vf + (s.esti k).vl < s.cells k → s.sagOpen k = false → chargingSt (s.cst k) = false → s.estRuns = true →
    let uo : Rat := ((if s.lithium k then s.reg Reg.EST_OCVU_L else s.reg Reg.EST_OCVU_N : Nat) : Rat) / 10000
    let lo := max ((s.esti k).soc - (s.esti k).u) (s.socOcv k - uo)
    let hi := min ((s.esti k).soc + (s.esti k).u) (s.socOcv k + uo)
    (lo ≤ hi → 5 / 100 < uo → Does (.restCorrection t k) s fun u =>
      (u.esti k).soc = clampRat 0 1 ((lo + hi) / 2) ∧ (u.esti k).u = min s.uMax ((hi - lo) / 2) ∧ (u.esti k).restAt = some (max s.now t)) ∧
    (hi < lo → 5 / 100 < uo → Does (.restCorrection t k) s fun u =>
      (u.esti k).soc = clampRat 0 1 (s.socOcv k) ∧ (u.esti k).u = min s.uMax uo ∧ u.reg Reg.EST_FLAGS_INCONS = 1 ∧ Raised 0x3155 3 k 0 s u)) ∧
  (s.estRuns = false → Does (.restCorrection t k) s fun u => u.ests = s.ests ∧ OnlyRegsQuiet [] s u) ∧
  (∀ q, s.est.quietAt = some q →
    (q + 10 * edgeSec ≤ max s.now t → s.est.pageAt + 10 * edgeSec ≤ max s.now t → Does (.estimatorHibernate t) s fun u =>
      u.reg Reg.EST_STAT_HIB = 1 ∧ OnlyRegsQuiet [Reg.EST_STAT_HIB] s u) ∧
    ((max s.now t < q + 10 * edgeSec ∨ max s.now t < s.est.pageAt + 10 * edgeSec) → Does (.estimatorHibernate t) s fun u =>
      OnlyRegsQuiet [] s u)) ∧
  (s.reg Reg.EST_STAT_HIB = 1 → ∀ by', Does (.estimatorWake t by') s fun u => u.reg Reg.EST_STAT_HIB = 0 ∧ u.est.quietAt = none ∧
    (by' = true → u.est.pageAt = max s.now t)) ∧
  (s.reg Reg.EST_STAT_HIB = 0 → Does (.estimatorWake t false) s fun u => u.est = s.est ∧ u.ests = s.ests ∧ OnlyRegsQuiet [] s u) ∧
  (s.est0 k = estKnown → s.reg Reg.EST_EXPINT ≠ 0 →
    ((s.esti k).expSec + 3600 * s.reg Reg.EST_EXPINT ≤ s.reg Reg.JRN_OPSEC → Does (.capsulePeriodicExport t k) s fun u =>
      (u.esti k).export_ = true ∧ OnlyRegsQuiet [] s u) ∧
    (s.reg Reg.JRN_OPSEC < (s.esti k).expSec + 3600 * s.reg Reg.EST_EXPINT → Does (.capsulePeriodicExport t k) s fun u =>
      u.ests = s.ests ∧ OnlyRegsQuiet [] s u))

/-- R259-R261: a write of EST_RIDX selects the string and empties the staging; a capsule whose byte 127 has been written is checked at the stop: one that
meets every condition waits for the next run with EST_RRES = 1, one with a single fault is refused with its code and event 0x3154; a second without a
staging write empties the staging with EST_RRES = 10. -/
def Obligations.CapsuleRestore : Prop := ∀ (t : Edges) (s : State), s.core.powered = true →
  (∀ v : Byte, s.supUp = true → Does (.estRidx t v) s fun u =>
    u.reg Reg.EST_RIDX = v.toNat % 8 ∧ u.reg Reg.EST_ROFFLINE = 0xFFFFFFFF ∧ u.reg Reg.EST_RFILL = 0 ∧ u.est.staged = [] ∧
    OnlyRegsQuiet [Reg.EST_RIDX, Reg.EST_ROFFLINE, Reg.EST_RFILL] s u) ∧
  (∀ last, s.supUp = true → s.est.staged.any (fun p => p.1 == 127) = true →
    let c := (List.range 128).map s.stagedByte
    (s.capsuleFaults c last = [] → s.reg Reg.EST_RIDX < 8 → Does (.capsuleCommit t last) s fun u =>
      u.reg Reg.EST_RRES = 1 ∧ (u.esti (s.reg Reg.EST_RIDX)).capsule = some c ∧ OnlyRegsQuiet [Reg.EST_RRES] s u) ∧
    (∀ f, (s.capsuleFaults c last).head? = some f → (s.capsuleFaults c last).tail = [] → Does (.capsuleCommit t last) s fun u =>
      u.reg Reg.EST_RRES = f ∧ u.ests = s.ests ∧ u.reg Reg.EST_FLAGS_REJECT = 1 ∧ Raised 0x3154 2 (s.reg Reg.EST_RIDX) f s u ∧
      OnlyRegs [Reg.EST_RRES, Reg.EST_FLAGS_REJECT] s u) ∧
    (s.capsuleFaults c last ≠ [] → Does (.capsuleCommit t last) s fun u =>
      u.reg Reg.EST_RRES ∈ s.capsuleFaults c last ∧ u.ests = s.ests ∧ u.reg Reg.EST_FLAGS_REJECT = 1)) ∧
  (∀ last, (s.supUp = false ∨ s.est.staged.any (fun p => p.1 == 127) = false) → Does (.capsuleCommit t last) s fun u =>
    u.est = s.est ∧ u.ests = s.ests ∧ OnlyRegsQuiet [] s u) ∧
  (∀ a, s.est.stagedAt = some a →
    (a + edgeSec ≤ max s.now t → s.est.staged ≠ [] → Does (.stagingTimeout t) s fun u =>
      u.est.staged = [] ∧ u.reg Reg.EST_RRES = 10 ∧ u.reg Reg.EST_RFILL = 0 ∧ u.reg Reg.EST_FLAGS_REJECT = 1 ∧
      Raised 0x3154 2 (s.reg Reg.EST_RIDX) 10 s u) ∧
    ((max s.now t < a + edgeSec ∨ s.est.staged = []) → Does (.stagingTimeout t) s fun u => u.est = s.est ∧ OnlyRegsQuiet [] s u))

/-! Fuse channels (R269-R283). -/

/-- R275: a sample shows its raw codes and measures and moves the breaker's accumulator, which never passes the trip level; reaching it trips a driven channel with
kind 3 and event 0x5101. R273: the third inrush window in a row that is too fast trips with kind 4, and FUS_TRAMP with kind 6, event 0x5102.
R276: a reverse current of 150 mV at the pin trips with kind 2 and event 0x5105. R282: in LOCKOUT no channel changes state. -/
def Obligations.FuseTrips : Prop := ∀ (t : Edges) (c : Fuse) (s : State), s.core.powered = true →
  let tripped := fun (kind : Nat) (u : State) => u.fst c = fusOpening ∧ (u.fuse c).why = .trip kind ∧ u.regAt Reg.FUS_LASTTRIP c = kind ∧
    u.regAt Reg.FUS_TRIPCNT c = min (2 ^ Reg.FUS_TRIPCNT.width - 1) (s.regAt Reg.FUS_TRIPCNT c + 1) ∧ u.reg Reg.FUS_FLAGS_TRIP = 1 ∧
    bitOf (u.reg Reg.FUS_PG) c = false
  (∀ fi fv fgs, Does (.fuseSample t c fi fv fgs) s fun u =>
    u.regAt Reg.TLM_RAW_FI c = fi.toNat ∧ u.regAt Reg.TLM_RAW_FV c = fv.toNat ∧ u.regAt Reg.TLM_RAW_FGS c = fgs.toNat ∧
    u.sregAt Reg.FUS_FI c = clampInt (-32768) 32767 (u.fiShown c) ∧ (u.fuse c).acc ≤ 1073741824 ∧
    (s.mode = modeLockout → u.fst c = s.fst c) ∧
    (s.fusDriven c = false → u.fst c = s.fst c)) ∧
  (∀ fi fv fgs, s.mode ≠ modeLockout → s.fusDriven c = true → s.regAt Reg.FUS_IRATE c = 0 → (s.fuse c).acc = 1073741824 →
    1100 ≤ (s.putAt Reg.TLM_RAW_FI c fi.toNat).fusP c → Does (.fuseSample t c fi fv fgs) s fun u => tripped 3 u ∧ u.regAt Reg.FUS_ACC c = 10000 ∧
      Raised 0x5101 5 c (satNat 32 (toUnitNat (u.fusP c))) s u) ∧
  ((s.fst c ≠ fusRamp ∨ s.mode = modeLockout ∨ max s.now t < (s.fuse c).stAt + s.regAt Reg.FUS_RBLANK c * edgeUs) →
    Does (.fuseRampWindow t c) s fun u => u.fuses = s.fuses ∧ OnlyRegsQuiet [] s u) ∧
  (s.fst c = fusRamp → s.mode ≠ modeLockout → (s.fuse c).stAt + s.regAt Reg.FUS_RBLANK c * edgeUs ≤ (s.fuse c).winAt →
    (s.fuse c).winAt + 100 * edgeUs ≤ max s.now t →
    let fall := ((s.fuse c).winV - s.vsw c) / 10
    (fall ≤ s.regAt Reg.FUS_DVMAX c → s.regAt Reg.FUS_DVMIN c ≤ fall → Does (.fuseRampWindow t c) s fun u =>
      u.fst c = fusRamp ∧ (u.fuse c).winBad = 0 ∧ (u.fuse c).winAt = max s.now t ∧ OnlyRegsQuiet [] s u) ∧
    (s.regAt Reg.FUS_DVMAX c < fall → (s.fuse c).winBad = 2 → Does (.fuseRampWindow t c) s fun u => tripped 4 u ∧
      Raised 0x5102 4 c (4 + 65536 * ofInt 16 (toUnit (s.vsw c / 10))) s u)) ∧
  (s.fst c = fusRamp → s.mode ≠ modeLockout → (s.fuse c).stAt + s.regAt Reg.FUS_TRAMP c * edgeMs ≤ max s.now t →
    Does (.fuseRampTimeout t c) s fun u => tripped 6 u ∧ Raised 0x5102 4 c (6 + 65536 * ofInt 16 (toUnit (s.vsw c / 10))) s u) ∧
  ((s.fst c ≠ fusRamp ∨ s.mode = modeLockout ∨ max s.now t < (s.fuse c).stAt + s.regAt Reg.FUS_TRAMP c * edgeMs) →
    Does (.fuseRampTimeout t c) s fun u => u.fuses = s.fuses ∧ OnlyRegsQuiet [] s u) ∧
  (∀ fi, s.fusDriven c = true → s.mode ≠ modeLockout → (s.putAt Reg.TLM_RAW_FI c fi.toNat).fiPin c ≤ -150 →
    Does (.fuseHardTrip t c true fi) s fun u => tripped 2 u ∧ u.regAt Reg.TLM_RAW_FI c = fi.toNat ∧ (u.fuse c).acc = (s.fuse c).acc ∧
      Raised 0x5105 5 c (u.regAt Reg.FUS_FI c) s u) ∧
  (∀ fi rev, (s.fusDriven c = false ∨ s.mode = modeLockout) → Does (.fuseHardTrip t c rev fi) s fun u =>
    u.fst c = s.fst c ∧ u.regAt Reg.TLM_RAW_FI c = fi.toNat ∧ u.fuses = s.fuses ∧
    OnlyRegsQuiet [Reg.TLM_RAW_FI, Reg.FUS_FI, Reg.FUS_FV, Reg.FUS_FGS, Reg.FUS_PEAKI] s u)

/-- R272, R274, R277, R280: the way of a channel: SETTLE to ON with its bit of FUS_PG, a gate that does not rise to OPENING, OPENING to OFF, RETRYWAIT or LATCHED by its
reason, a gate that does not fall to LATCHED, RETRYWAIT to RAMP, and 0xA5 at FUS_CLR clears a LATCHED channel and nothing else. R282: none of the gate's
deadlines acts in LOCKOUT. -/
def Obligations.FuseWay : Prop := ∀ (t : Edges) (c : Fuse) (s : State), s.core.powered = true →
  (∀ g, s.fst c = fusSettle → s.mode ≠ modeLockout → (s.fuse c).goodAt = some g → g + s.regAt Reg.FUS_SETTLE c * 640000 ≤ max s.now t →
    Does (.fuseSettleDone t c) s fun u => u.fst c = fusOn ∧ bitOf (u.reg Reg.FUS_PG) c = true ∧
      (c.val < 8 → s.bst c ≠ bayInrush → s.bst c ≠ bayPfc → Raised 0x5112 0 c ((max s.now t - (s.fuse c).reqAt) / 640000) s u)) ∧
  ((s.fst c ≠ fusSettle ∨ s.mode = modeLockout ∨ (s.fuse c).goodAt = none) → Does (.fuseSettleDone t c) s fun u =>
    u.fuses = s.fuses ∧ OnlyRegsQuiet [] s u) ∧
  (∀ g, s.fusFull c = true → s.mode ≠ modeLockout → (s.fuse c).fgsAt = some g → g + s.regAt Reg.FUS_TRISE c * edgeUs ≤ max s.now t →
    s.lowCurrent c = true → Does (.fuseGateRiseTimeout t c) s fun u => u.fst c = fusOpening ∧ u.regAt Reg.FUS_LASTTRIP c = 9 ∧
      u.reg Reg.FUS_FLAGS_GATE = 1 ∧ Raised 0x5120 5 c (s.regAt Reg.FUS_FGS c + 65536 * (s.fiShown c).natAbs) s u) ∧
  (∀ g, s.fusFull c = true → s.mode ≠ modeLockout → (s.fuse c).fgsAt = none → (s.fuse c).vswAt = some g →
    g + s.regAt Reg.FUS_TRISE c * edgeUs ≤ max s.now t → Does (.fuseGateRiseTimeout t c) s fun u =>
      u.fst c = fusOpening ∧ u.regAt Reg.FUS_LASTTRIP c = 8 ∧ Raised 0x5104 4 c 1 s u) ∧
  (s.fst c = fusOpening → s.mode ≠ modeLockout → s.fgsMv c < s.regAt Reg.FUS_FGSOFF c → (s.fuse c).disable = false →
    ((s.fuse c).why = .owner → (s.fuse c).want = false → Does (.fuseGateOff t c) s fun u => u.fst c = fusOff ∧
      (u.fuse c).openAt = max s.now t ∧ OnlyRegsQuiet [Reg.FUS_ST, Reg.FUS_PG, Reg.FUS_LATCHED] s u) ∧
    ((s.fuse c).why = .owner → (s.fuse c).want = true → Does (.fuseGateOff t c) s fun u => u.fst c = fusRamp ∨ u.fst c = fusSettle) ∧
    (∀ k : Fin 11, (s.fuse c).why = .trip k.val → (s.at t).mayRetry c k = true → (s.fuse c).want = true →
      Does (.fuseGateOff t c) s fun u => u.fst c = fusRetryWait ∧ (u.fuse c).openAt = max s.now t) ∧
    (∀ k : Fin 11, (s.fuse c).why = .trip k.val → (s.at t).mayRetry c k = false → Does (.fuseGateOff t c) s fun u => u.fst c = fusLatched ∧
      bitOf (u.reg Reg.FUS_LATCHED) c = true ∧ u.reg Reg.FUS_FLAGS_LATCH = 1 ∧ Raised 0x5110 5 c (s.regAt Reg.FUS_LASTTRIP c) s u)) ∧
  ((s.fst c ≠ fusOpening ∨ s.mode = modeLockout) → (∀ d ∈ [Instr.fuseGateOff t c, .fuseGateFallTimeout t c], Does d s fun u =>
    u.fuses = s.fuses ∧ OnlyRegsQuiet [] s u)) ∧
  (s.fst c = fusOpening → s.mode ≠ modeLockout → s.regAt Reg.FUS_FGSOFF c ≤ s.fgsMv c →
    (s.fuse c).stAt + s.regAt Reg.FUS_TFALL c * edgeUs ≤ max s.now t → Does (.fuseGateFallTimeout t c) s fun u =>
      u.fst c = fusLatched ∧ u.regAt Reg.FUS_LASTTRIP c = 10 ∧ u.reg Reg.FUS_FLAGS_GATE = 1 ∧ u.reg Reg.FUS_FLAGS_LATCH = 1) ∧
  (s.fst c = fusRetryWait → s.mode ≠ modeLockout → (s.fuse c).want = true → ((s.at t).retriesNow c).length < s.regAt Reg.FUS_RETRYN c →
    s.cooled c = true → (s.fuse c).openAt + s.regAt Reg.FUS_RETRYT c * edgeMs ≤ max s.now t → Does (.fuseRetry t c) s fun u =>
      u.fst c = fusRamp ∧ (u.fuse c).winBad = 0 ∧ (c.val < 8 → s.bst c = bayFault → u.bst c = bayInrush) ∧
      Raised 0x5111 1 c (u.regAt Reg.FUS_RETRIES c) s u) ∧
  ((s.fst c ≠ fusRetryWait ∨ s.mode = modeLockout ∨ (s.fuse c).want = false ∨ s.cooled c = false) → Does (.fuseRetry t c) s fun u =>
    u.fuses = s.fuses ∧ OnlyRegsQuiet [] s u) ∧
  (∀ k : Byte, s.supUp = true → (k ≠ 0xA5 ∨ s.fst c ≠ fusLatched) → Does (.fusClr t c k) s fun u => u.fuses = s.fuses ∧ OnlyRegsQuiet [] s u) ∧
  (s.supUp = true → s.fst c = fusLatched → (s.fuse c).disable = false → (s.fuse c).want = false → (c.val < 8 → s.bst c ≠ bayFault) →
    Does (.fusClr t c 0xA5) s fun u => u.fst c = fusOff ∧ (u.fuse c).acc = 0 ∧ u.regAt Reg.FUS_RETRIES c = 0 ∧
      bitOf (u.reg Reg.FUS_LATCHED) c = false ∧ Raised 0x5113 1 c 0 s u)

/-! Thermal management (R287-R298). -/

/-- R287, R288, R290-R292, R295, R296: an evaluation shows its code and, of a sensor in use, its temperature, a broken sensor as its SHUT limit; the peak
follows; the third open reading in a row breaks an NTC input; T_die is the second-highest die temperature, and above the die WARN limit
THM_STAT.DIETHR is 1; the third evaluation in a row at SHUT of a TX sensor with GK = 1 sets the GECKO latch. R298: while the supervisor is down an
evaluation shows the code and nothing else. The conversion gives a table point its own temperature.
R296, R298: the die comparator sets the GECKO latch with source 0xFE whatever the supervisor does, and LOCKOUT with cause 0x0A
follows; a latch already set keeps its source. -/
def Obligations.ThermalManagement : Prop :=
  ((∀ (t : Edges) (k : Fin 52) (code : Code) (die : Int) (s : State), s.core.powered = true →
  ((s.supUp = false ∨ s.evaluated k = false) → Does (.thermalEvaluation t k code die) s fun u =>
    u.sensors = s.sensors ∧ u.thm = s.thm ∧ (k.val < 4 → u.regAt Reg.TLM_RAW_DIE k = code.toNat) ∧
    (4 ≤ k.val → k.val < 20 → u.regAt Reg.TLM_RAW_TX (k - 4) = code.toNat) ∧ OnlyRegsQuiet [Reg.TLM_RAW_DIE, Reg.TLM_RAW_TX] s u) ∧
  (s.supUp = true → s.evaluated k = true →
    (Does (.thermalEvaluation t k code die) s fun u =>
      (u.sensor k).temp = (if k.val < 4 then die else (ntcConvert s.regs (s.evalCode k code.toNat)).1) ∧ (u.sensor k).seen = true ∧
      (k.val < 20 → u.regAt Reg.THM_RAW k = code.toNat) ∧
      (k.val < 20 → u.broken k = true → u.sregAt Reg.THM_T k = s.thmShut k) ∧
      (k.val < 4 → u.broken k = false → -32768 ≤ die → die ≤ 32767 → u.sregAt Reg.THM_T k = die) ∧
      (k.val < 20 → u.sregAt Reg.THM_T k ≤ u.sregAt Reg.THM_PEAK k ∧ s.sregAt Reg.THM_PEAK k ≤ u.sregAt Reg.THM_PEAK k) ∧
      (k.val < 4 → (∀ j : Fin 4, (u.sensor j).seen = true ∧ -32768 ≤ (u.sensor j).temp ∧ (u.sensor j).temp ≤ 32767) →
        2 ≤ ((List.range 4).filter (fun j => decide (u.sreg Reg.THM_DIE ≤ u.tempOf j))).length ∧
        ((List.range 4).filter (fun j => decide (u.sreg Reg.THM_DIE < u.tempOf j))).length ≤ 1 ∧
        u.reg Reg.THM_STAT_DIETHR = if s.thmWarn 0 < u.sreg Reg.THM_DIE then 1 else 0)) ∧
    (4 ≤ k.val → k.val < 20 → (s.sensor k).openN = 2 → 98 * 65536 ≤ 100 * code.toNat → Does (.thermalEvaluation t k code die) s fun u =>
      u.broken k = true ∧ (s.broken k = false → u.reg Reg.THM_FLAGS_BROKEN = 1) ∧ u.sregAt Reg.THM_T k = s.thmShut k) ∧
    (4 ≤ k.val → k.val < 20 → s.regAt Reg.THM_CFG_GK k = 1 → (s.sensor k).shutN = 2 → s.vka.gecko = false → s.mode ≠ modeLockout →
      Does (.thermalEvaluation t k code die) s fun u => if s.thmShut k ≤ u.sregAt Reg.THM_T k ∧ u.broken k = true then
        u.mode = modeLockout ∧ u.reg Reg.GL_MODE_CAUSE = 0x0A ∧ u.vka.gecko = true ∧ u.vka.geckoSrc = k.val ∧ u.reg Reg.THM_GSRC = k.val ∧
        u.sreg Reg.THM_GTEMP = s.thmShut k
      else u.sregAt Reg.THM_T k < s.thmShut k → (u.sensor k).temp ≤ 32767 → -32768 ≤ (u.sensor k).temp →
        u.mode = s.mode ∧ u.vka = s.vka ∧ (u.sensor k).shutN = 0))) ∧
  (∀ (c : Cells) (j : Nat), j < 16 → (∀ i < 15, ntcRatio c i < ntcRatio c (i + 1)) → ntcConvert c (ntcRatio c j) = (ntcTemp c j, true))) ∧
  (∀ (t : Edges) (s : State), s.core.powered = true →
  (s.vka.gecko = true → Does (.dieComparator t) s fun u => u.vka = s.vka ∧ u.mode = s.mode ∧ OnlyRegsQuiet [] s u) ∧
  (s.vka.gecko = false → Does (.dieComparator t) s fun u => u.vka.gecko = true ∧ u.vka.geckoSrc = 0xFE ∧ u.vka.note = s.vka.note ∧
    u.reg Reg.GL_STAT_GECKO = 1 ∧ u.reg Reg.THM_STAT_GECKO = 1 ∧ u.reg Reg.THM_GSRC = 0xFE ∧ u.mode = modeLockout ∧
    (s.mode ≠ modeLockout → u.reg Reg.GL_MODE_CAUSE = 0x0A ∧ u.reg Reg.GL_MODE_PREV = s.mode)))

/-! Configuration images (R302-R323). -/

/-- R306, R307: the way of an upload: OPEN erases the slot not in force and takes its READY mark, and leaves the other slot's; the erase leaves every byte 0xFF; a chunk goes
to IMG_UPADDR, whole, once, on a multiple of 128 and up to 262,016, or sets IMG_UPRES = 4; its programming changes those 128 bytes alone and advances
IMG_UPADDR by 128; a program error ends the upload with IMG_UPRES = 6; CLOSE marks READY only a slot that passes its check; ABORT ends it. -/
def Obligations.Uploads : Prop := ∀ (t : Edges) (s : State), s.up → s.storesWf = true →
  (∀ k : Byte, k ≠ 0xA5 → (let wrong := fun u : State => u.reg Reg.IMG_UPRES = 3 ∧ u.flash = s.flash ∧ OnlyRegsQuiet [Reg.IMG_UPRES] s u
    Does (.uploadOpen t k) s wrong ∧ Does (.uploadClose t k) s wrong ∧ Does (.uploadAbort t k) s wrong)) ∧
  ((s.reg Reg.IMG_UPST = 1 ∨ s.reg Reg.IMG_UPST = 2 ∨ s.reg Reg.IMG_STAT_PROB = 1) →
    Does (.uploadOpen t 0xA5) s fun u => u.reg Reg.IMG_UPRES = 2 ∧ u.flash = s.flash ∧ OnlyRegsQuiet [Reg.IMG_UPRES] s u) ∧
  (s.reg Reg.IMG_UPST = 0 → s.reg Reg.IMG_STAT_LOADING = 0 → s.reg Reg.IMG_STAT_PROB = 2 → s.reg Reg.JRN_STAT_NOFLASH = 0 →
    Does (.uploadOpen t 0xA5) s fun u => u.reg Reg.IMG_UPST = 1 ∧ u.reg Reg.IMG_UPRES = 1 ∧ u.reg Reg.IMG_STAT_UPOPEN = 1 ∧
      u.img.upSlot = (s.reg Reg.IMG_STAT_SLOT == 0) ∧ u.flash.ready (s.reg Reg.IMG_STAT_SLOT == 0) = false ∧
      u.flash.ready (s.reg Reg.IMG_STAT_SLOT != 0) = s.flash.ready (s.reg Reg.IMG_STAT_SLOT != 0)) ∧
  (s.reg Reg.IMG_UPST = 1 → s.jrn.powerFail = false → Does (.uploadEraseDone t) s fun u => u.reg Reg.IMG_UPST = 2 ∧
    (∀ a, memRead (u.flash.slot s.img.upSlot) a = 0xFF) ∧ u.flash.slot (!s.img.upSlot) = s.flash.slot (!s.img.upSlot)) ∧
  (s.reg Reg.IMG_UPST ≠ 1 → Does (.uploadEraseDone t) s fun u => u.flash = s.flash ∧ OnlyRegsQuiet [] s u) ∧
  (∀ d : List Byte, d.length = 128 → s.reg Reg.IMG_UPST = 2 → s.img.chunkNow = none →
    (s.reg Reg.IMG_UPADDR % 128 ≠ 0 ∨ 262016 < s.reg Reg.IMG_UPADDR ∨ s.reg Reg.IMG_UPADDR ∈ s.img.chunks →
      Does (.uploadChunk t d) s fun u => u.reg Reg.IMG_UPRES = 4 ∧ u.img = s.img ∧ OnlyRegsQuiet [Reg.IMG_UPRES] s u) ∧
    (s.reg Reg.IMG_UPADDR % 128 = 0 → s.reg Reg.IMG_UPADDR ≤ 262016 → s.reg Reg.IMG_UPADDR ∉ s.img.chunks →
      Does (.uploadChunk t d) s fun u => u.img.chunkNow = some (s.reg Reg.IMG_UPADDR, d) ∧ u.flash = s.flash ∧ OnlyRegsQuiet [] s u)) ∧
  (∀ d : List Byte, s.reg Reg.IMG_UPST ≠ 2 → Does (.uploadChunk t d) s fun u => u.img = s.img ∧ OnlyRegsQuiet [] s u) ∧
  (∀ (a : Nat) (d : List Byte), s.img.chunkNow = some (a, d) → a ≤ 262016 →
    (Does (.chunkProgrammed t true) s fun u => u.reg Reg.IMG_UPADDR = a + 128 ∧ u.img.chunkNow = none ∧ u.img.chunks = a :: s.img.chunks ∧
      (∀ i, memRead (u.flash.slot s.img.upSlot) i =
        if a ≤ i ∧ i < a + d.length then d.getD (i - a) 0 else memRead (s.flash.slot s.img.upSlot) i) ∧
      u.flash.slot (!s.img.upSlot) = s.flash.slot (!s.img.upSlot) ∧ OnlyRegsQuiet [Reg.IMG_UPADDR] s u) ∧
    (Does (.chunkProgrammed t false) s fun u => u.reg Reg.IMG_UPST = 5 ∧ u.reg Reg.IMG_UPRES = 6 ∧ u.reg Reg.IMG_STAT_UPOPEN = 0 ∧
      u.reg Reg.IMG_FLAGS_UPLOAD = 1 ∧ u.flash = s.flash ∧
      Raised 0x7031 3 (slotNo s.img.upSlot) (6 + 256 * s.reg Reg.IMG_OTHRES) s u)) ∧
  (s.img.chunkNow = none → ∀ ok, Does (.chunkProgrammed t ok) s fun u => u.flash = s.flash ∧ OnlyRegsQuiet [] s u) ∧
  ((s.reg Reg.IMG_UPST ≠ 2 ∨ s.img.chunkNow.isSome = true) → Does (.uploadClose t 0xA5) s fun u =>
    u.reg Reg.IMG_UPRES = 2 ∧ u.flash = s.flash ∧ OnlyRegsQuiet [Reg.IMG_UPRES] s u) ∧
  (s.reg Reg.IMG_UPST = 2 → s.img.chunkNow = none →
    (∀ r p, s.checkSlot s.img.upSlot false = .bad r p → Does (.uploadClose t 0xA5) s fun u => u.reg Reg.IMG_UPST = 5 ∧ u.reg Reg.IMG_UPRES = 5 ∧
      u.reg Reg.IMG_OTHRES = r % 16 ∧ u.flash = s.flash ∧ u.reg Reg.IMG_FLAGS_INVALID = 1 ∧ Raised 0x7031 3 (slotNo s.img.upSlot) (5 + 256 * (r % 16)) s u) ∧
    (∀ d, s.checkSlot s.img.upSlot false = .ok d → Does (.uploadClose t 0xA5) s fun u => u.reg Reg.IMG_UPST = 4 ∧ u.reg Reg.IMG_UPRES = 1 ∧
      u.reg Reg.IMG_OTHRES = 0 ∧ u.flash.ready s.img.upSlot = true ∧ u.flash.ready (!s.img.upSlot) = s.flash.ready (!s.img.upSlot) ∧
      Raised 0x7030 1 (slotNo s.img.upSlot) d.ver s u)) ∧
  (1 ≤ s.reg Reg.IMG_UPST → s.reg Reg.IMG_UPST ≤ 3 → Does (.uploadAbort t 0xA5) s fun u => u.reg Reg.IMG_UPST = 0 ∧ u.reg Reg.IMG_UPRES = 1 ∧
    u.reg Reg.IMG_STAT_UPOPEN = 0 ∧ u.img.chunkNow = none ∧ u.flash.bootDesc = s.flash.bootDesc) ∧
  ((s.reg Reg.IMG_UPST = 0 ∨ s.reg Reg.IMG_UPST = 4 ∨ s.reg Reg.IMG_UPST = 5) → Does (.uploadAbort t 0xA5) s fun u =>
    u.reg Reg.IMG_UPRES = 2 ∧ OnlyRegsQuiet [Reg.IMG_UPRES] s u)

/-- R308-R310, R315, R316: an image that passes its check has the magic, a version no lower than the floor and not recorded as FAILED, the CRC of its body and an
ACTIVE key. A check that finds no slot to try leaves what is in force, clears IMG_STAT.LOADING and raises event 0x7020 with severity 6; at a start
GL_BOOT_STEP is then 7. The first slot that passes shows its identity; with no image in force before, it comes into force at once, otherwise it is
staged. R312, R316: the probation that reaches IMG_PROBT records PASSED and raises the floor while OTP words remain; the floor never falls. -/
def Obligations.ImageLoad : Prop := (∀ (s : State) (b n : Bool) (d : ImgData), s.checkSlot b n = .ok d →
    memReadBytes (s.flash.slot b) 0 4 = [0x4B, 0x59, 0x52, 0x4E] ∧ d.ver = imgVersion (s.flash.slot b) ∧ s.otp.floor ≤ d.ver ∧
    s.verdict d.ver ≠ 3 ∧ 104 ≤ d.len ∧ d.len ≤ 262144 ∧ s.otp.activeKey d.key ≠ none ∧
    u32At (s.flash.slot b) 20 = crc32 ((memReadBytes (s.flash.slot b) 32 (d.len - 104)).map BitVec.toNat)) ∧
  ∀ (t : Edges) (s : State), s.core.powered = true →
  ((s.core.load = none ∨ s.supUp = false) → Does (.imageCheckDone t) s fun u => u.img = s.img ∧ OnlyRegsQuiet [] s u) ∧
  (∀ l, s.core.load = some l → s.supUp = true → l.staged = false → s.loadSlots l.kind = [] → Does (.imageCheckDone t) s fun u =>
    u.core.load = none ∧ u.reg Reg.IMG_STAT_LOADING = 0 ∧ u.img.staged = none ∧ u.img.inForce = s.img.inForce ∧
    (s.imgValid = false → u.reg Reg.GL_BOOT_STEP = 7 ∧ u.imgValid = false) ∧
    ((s.reg Reg.REC_SNSEV = 0 ∨ 6 < s.reg Reg.REC_SNSEV) → Raised 0x7020 6 (if l.kind = .start then 0 else 1) 3 s u)) ∧
  (∀ l, s.core.load = some l → s.supUp = true → l.staged = false → ∀ b bs, s.loadSlots l.kind = b :: bs → ∀ d, s.checkSlot b true = .ok d →
    Does (.imageCheckDone t) s fun u => u.reg Reg.IMG_STAT_SLOT = slotNo b ∧ u.reg Reg.IMG_VER = d.ver % 2 ^ 32 ∧ u.reg Reg.IMG_KEYSLOT = d.key % 256 ∧
      u.img.inForce = some (slotNo b, d.ver, d.floor, d.key, d.len) ∧
      (s.imgValid = true → u.core.load = some { l with staged := true } ∧ u.img.staged = some (slotNo b, d.cells) ∧ u.img.cfg = s.img.cfg) ∧
      (s.imgValid = false → u.core.load = none ∧ u.img.staged = none ∧ u.img.cfg = d.cells ∧ u.reg Reg.IMG_STAT_LOADING = 0 ∧
        u.reg Reg.GL_STAT_IMGVALID = 1)) ∧
  ((s.reg Reg.IMG_STAT_PROB ≠ 1 ∨ s.img.probCount < s.reg Reg.IMG_PROBT ∨ s.supUp = false) → Does (.probationPassed t) s fun u =>
    u.otp = s.otp ∧ u.jrn = s.jrn ∧ OnlyRegsQuiet [] s u) ∧
  (s.supUp = true → s.reg Reg.IMG_STAT_PROB = 1 → s.reg Reg.IMG_PROBT ≤ s.img.probCount → Does (.probationPassed t) s fun u =>
    u.reg Reg.IMG_STAT_PROB = 2 ∧ u.reg Reg.GL_STAT_PROBATION = 0 ∧ u.reg Reg.IMG_FLAGS_PROBEND = 1 ∧
    (s.jrn.scanned = true → u.verdict (s.reg Reg.IMG_VER) = 2) ∧
    u.otp.floor = (if s.otp.floor < s.reg Reg.IMG_IFLOOR ∧ s.otp.floors.length < 16 then s.reg Reg.IMG_IFLOOR else s.otp.floor) ∧
    u.otp.keys = s.otp.keys ∧ u.otp.lifecycle = s.otp.lifecycle ∧
    (s.otp.floor < s.reg Reg.IMG_IFLOOR → s.otp.floors.length < 16 → u.otp.floors = s.otp.floors ++ [s.reg Reg.IMG_IFLOOR] ∧
      u.reg Reg.IMG_FLOOR = s.reg Reg.IMG_IFLOOR % 2 ^ 32 ∧ u.reg Reg.IMG_FLOORLEFT = 15 - s.otp.floors.length ∧
      Raised 0x7008 1 (s.reg Reg.IMG_IFLOOR) (15 - s.otp.floors.length) s u) ∧
    (s.otp.floor < s.reg Reg.IMG_IFLOOR → 16 ≤ s.otp.floors.length → Raised 0x7009 4 (s.reg Reg.IMG_IFLOOR) s.otp.floor s u))

/-- R322: a wrong key sets IMG_PINRES = 5 and does nothing more; a field that may not be pinned gives 2, a full table 3, a field not pinned 4; PIN records the field's present value,
IMG_PINCNT follows the table, UNPIN takes the one pin out and UNPIN ALL every pin. -/
def Obligations.Pins : Prop := ∀ (t : Edges) (s : State), s.up →
  let page := s.reg Reg.IMG_PINPAGE
  let off := s.reg Reg.IMG_PINOFS
  (∀ k : Byte, k ≠ 0xA5 → (let wrong := fun u : State => u.reg Reg.IMG_PINRES = 5 ∧ u.jrn = s.jrn ∧ OnlyRegsQuiet [Reg.IMG_PINRES] s u
    Does (.pin t k) s wrong ∧ Does (.unpin t k) s wrong ∧ Does (.unpinAll t k) s wrong)) ∧
  (pinnable page off = none → Does (.pin t 0xA5) s fun u => u.reg Reg.IMG_PINRES = 2 ∧ u.jrn = s.jrn ∧ u.reg Reg.IMG_FLAGS_PIN = 1 ∧
    Raised 0x7322 2 (page + 256 * off) 2 s u) ∧
  (∀ w, pinnable page off = some w → w ≤ 4 → s.pinned page off = false → 24 ≤ s.jrn.pins.length → Does (.pin t 0xA5) s fun u =>
    u.reg Reg.IMG_PINRES = 3 ∧ u.jrn = s.jrn ∧ Raised 0x7322 2 (page + 256 * off) 3 s u) ∧
  (∀ w, pinnable page off = some w → w ≤ 4 → s.jrn.pins.length < 24 → s.jrn.scanned = true → Does (.pin t 0xA5) s fun u =>
    u.reg Reg.IMG_PINRES = 1 ∧ u.pinned page off = true ∧ u.reg Reg.IMG_PINCNT = u.jrn.pins.length ∧
    (∀ p ∈ u.jrn.pins, p ∉ s.jrn.pins → p.ver = s.reg Reg.IMG_VER ∧ p.page = page ∧ p.off = off ∧ p.width = w) ∧
    (∀ p ∈ s.jrn.pins, p.page ≠ page ∨ p.off ≠ off → p ∈ u.jrn.pins)) ∧
  (s.pinned page off = false → Does (.unpin t 0xA5) s fun u => u.reg Reg.IMG_PINRES = 4 ∧ u.jrn = s.jrn ∧ OnlyRegsQuiet [Reg.IMG_PINRES] s u) ∧
  (s.pinned page off = true → s.jrn.scanned = true → ¬(page = 0xFF ∧ off = 0xFF) → s.jrn.pins.length < 256 → Does (.unpin t 0xA5) s fun u =>
    u.reg Reg.IMG_PINRES = 1 ∧ u.pinned page off = false ∧ u.jrn.pins = s.jrn.pins.filter (fun p => ¬(p.page = page ∧ p.off = off)) ∧
    u.reg Reg.IMG_PINCNT = u.jrn.pins.length) ∧
  (s.jrn.scanned = true → Does (.unpinAll t 0xA5) s fun u => u.reg Reg.IMG_PINRES = 1 ∧ u.jrn.pins = [] ∧ u.reg Reg.IMG_PINCNT = 0)

/-! The journal (R333-R341). -/

/-- R334, R335, R336, R337, R341: a record never crosses a 256-byte page. A record that is due goes to the end of the active bank with the next sequence while it fits, and is held in the mirror
with JRN_STAT.FULL otherwise; at 196,608 bytes the other bank is erased and JRN_STAT.COMPACT reads 1. COMMIT makes the new bank active, a generation higher,
with one record of each value in force, and leaves the old bank; a failed erase is retried 60 s later. The start scan takes the committed bank of the
higher generation, builds the mirror from its good records and counts the torn ones, or makes bank 0 new. -/
def Obligations.JournalRecords : Prop := (∀ n len, len ≤ 256 → n ≤ placeRec n len ∧ placeRec n len % 256 + len ≤ 256 ∧ placeRec n len < n + 256) ∧
  ∀ (t : Edges) (s : State), s.core.powered = true →
  let b := s.reg Reg.JRN_STAT_BANK
  let ready := s.reg Reg.JRN_STAT_NOFLASH = 0 ∧ s.jrn.scanned = true ∧ s.supUp = true ∧ s.reg Reg.IMG_UPST ≠ 1 ∧ b ≤ 1
  (s.reg Reg.JRN_OPSEC < s.jrn.cntSec + s.reg Reg.JRN_CNTINT → Does (.journalCounters t) s fun u => u.jrn = s.jrn ∧ u.flash = s.flash ∧ OnlyRegsQuiet [] s u) ∧
  (s.jrn.cntSec + s.reg Reg.JRN_CNTINT ≤ s.reg Reg.JRN_OPSEC → ready →
    ((s.bank b).fits s.countersNow = true → Does (.journalCounters t) s fun u =>
      u.jrn.counters = some (s.reg Reg.JRN_OPSEC, s.reg Reg.JRN_PCC, s.reg Reg.JRN_EOUT, s.reg Reg.JRN_ESTR) ∧ u.jrn.seq = s.jrn.seq + 1 ∧
      u.jrn.cntSec = s.reg Reg.JRN_OPSEC ∧ u.jrn.pins = s.jrn.pins ∧ u.jrn.verdicts = s.jrn.verdicts ∧
      (u.bank b).recs = (s.bank b).recs ++ [(⟨placeRec (s.bank b).next 36, s.jrn.seq + 1, true, s.countersNow⟩ : JRec)] ∧
      (u.bank b).next = placeRec (s.bank b).next 36 + 36 ∧
      ((u.bank b).next < 196608 → u.bank (1 - b) = s.bank (1 - b) ∧ OnlyRegsQuiet [Reg.JRN_USED] s u) ∧
      (196608 ≤ (u.bank b).next → s.jrn.compacting = none → s.jrn.retryAt = none → u.bank (1 - b) = Bank.erased ∧
        u.reg Reg.JRN_STAT_COMPACT = 1 ∧ u.jrn.compacting = some (s.jrn.seq + 1))) ∧
    ((s.bank b).fits s.countersNow = false → Does (.journalCounters t) s fun u => u.flash = s.flash ∧ u.reg Reg.JRN_STAT_FULL = 1 ∧
      u.jrn.counters = some (s.reg Reg.JRN_OPSEC, s.reg Reg.JRN_PCC, s.reg Reg.JRN_EOUT, s.reg Reg.JRN_ESTR) ∧ u.jrn.seq = s.jrn.seq ∧
      (s.reg Reg.JRN_STAT_FULL = 0 → u.reg Reg.JRN_FLAGS_FULL = 1 ∧ Raised 0x7044 4 b (s.reg Reg.JRN_OPSEC) s u))) ∧
  (s.reg Reg.JRN_OPSEC < s.jrn.hourSec + 3600 → Does (.journalHourly t) s fun u => u.jrn = s.jrn ∧ u.flash = s.flash ∧ OnlyRegsQuiet [] s u) ∧
  (s.jrn.hourSec + 3600 ≤ s.reg Reg.JRN_OPSEC → ready → (s.bank b).next < 196000 → Does (.journalHourly t) s fun u =>
    u.jrn.baysec = some ((List.range 8).map (s.regAt Reg.TRK_BAYSEC)) ∧ u.jrn.seq = s.jrn.seq + 2 ∧ u.jrn.hourSec = s.reg Reg.JRN_OPSEC ∧
    (u.bank b).recs.length = (s.bank b).recs.length + 2 ∧ u.bank (1 - b) = s.bank (1 - b) ∧ OnlyRegsQuiet [Reg.JRN_USED] s u) ∧
  ((s.jrn.compacting = none ∨ s.supUp = false) → ∀ ok, Does (.compactionDone t ok) s fun u => u.jrn = s.jrn ∧ u.flash = s.flash ∧ OnlyRegsQuiet [] s u) ∧
  (∀ q, s.jrn.compacting = some q → s.supUp = true → b ≤ 1 →
    (Does (.compactionDone t true) s fun u => u.reg Reg.JRN_STAT_BANK = 1 - b ∧ u.reg Reg.JRN_GEN = (s.reg Reg.JRN_GEN + 1) % 2 ^ Reg.JRN_GEN.width ∧
      u.reg Reg.JRN_STAT_COMPACT = 0 ∧ u.reg Reg.JRN_STAT_FULL = 0 ∧ u.reg Reg.JRN_FLAGS_COMPACTED = 1 ∧ u.bank b = s.bank b ∧
      (u.bank (1 - b)).committed = true ∧ (u.bank (1 - b)).gen = s.reg Reg.JRN_GEN + 1 ∧
      (u.bank (1 - b)).recs.map JRec.body = s.jrn.values ++ [s.wearNow] ∧ u.jrn.values = s.jrn.values ∧ u.jrn.compacting = none ∧
      Raised 0x7043 0 (s.reg Reg.JRN_GEN + 1) (s.reg Reg.JRN_ERS_J) s u) ∧
    (Does (.compactionDone t false) s fun u => u.reg Reg.JRN_STAT_BANK = b ∧ u.reg Reg.JRN_STAT_COMPACT = 0 ∧ u.flash = s.flash ∧
      u.jrn.compacting = none ∧ u.jrn.retryAt = some (max s.now t + 60 * edgeSec) ∧ u.jrn.values = s.jrn.values ∧
      Raised 0x7041 5 (0x090000 + (1 - b) * 0x40000) 1 s u)) ∧
  ((s.jrn.retryAt = none ∨ ∃ due, s.jrn.retryAt = some due ∧ max s.now t < due) → Does (.compactionRetry t) s fun u =>
    u.jrn = s.jrn ∧ u.flash = s.flash ∧ OnlyRegsQuiet [] s u) ∧
  (∀ due, s.jrn.retryAt = some due → due ≤ max s.now t → b ≤ 1 → Does (.compactionRetry t) s fun u => u.reg Reg.JRN_STAT_COMPACT = 1 ∧
    u.jrn.retryAt = none ∧ u.jrn.compacting = some s.jrn.seq ∧ u.bank (1 - b) = Bank.erased ∧ u.bank b = s.bank b) ∧
  ((s.booted = false ∨ s.jrn.scanned = true ∨ s.reg Reg.JRN_STAT_NOFLASH ≠ 0 ∨ s.supUp = false) → Does (.journalScanDone t) s fun u =>
    u.jrn = s.jrn ∧ u.flash = s.flash ∧ OnlyRegsQuiet [] s u) ∧
  (s.booted = true → s.jrn.scanned = false → s.reg Reg.JRN_STAT_NOFLASH = 0 → s.supUp = true → s.jrn.due = [] →
    (Does (.journalScanDone t) s fun u => u.jrn.scanned = true ∧ u.flash.slotA = s.flash.slotA ∧ u.flash.slotB = s.flash.slotB ∧
      (s.bootLockout = true → u.core.load = s.core.load) ∧
      (s.bootLockout = false → u.core.load.map Load.kind = some .start ∧ u.reg Reg.IMG_STAT_LOADING = 1 ∧ u.reg Reg.GL_BOOT_STEP = 5)) ∧
    (s.flash.activeBank = none → Does (.journalScanDone t) s fun u => u.reg Reg.JRN_STAT_BANK = 0 ∧ u.reg Reg.JRN_GEN = 1 ∧
      u.reg Reg.JRN_STAT_NEW = 1 ∧ u.reg Reg.JRN_FLAGS_NEW = 1 ∧ u.flash.bank0.committed = true ∧ u.flash.bank0.gen = 1) ∧
    (∀ k, s.flash.activeBank = some k → s.reg Reg.JRN_TORN = 0 → (s.bank k).recs.length < 65536 → Does (.journalScanDone t) s fun u => u.reg Reg.JRN_STAT_BANK = k ∧
      u.jrn.pins = (((s.bank k).recs.filter JRec.good).foldl (fun j r => j.absorb r.body) s.jrn).pins ∧
      u.jrn.verdicts = (((s.bank k).recs.filter JRec.good).foldl (fun j r => j.absorb r.body) s.jrn).verdicts ∧
      u.reg Reg.JRN_TORN = min (2 ^ Reg.JRN_TORN.width - 1) ((s.bank k).recs.filter (fun r => !r.good)).length))

/-! The recorder (R345-R356, R364, R365). -/

/-- R347, R348, R350: a record enters the queue last; into a full queue it displaces the oldest record of no higher severity, or is dropped. FLUSH, and the oldest record at
REC_AGEMAX seconds, start a batch; the batch writes the records queued by then to ROLL, those of severity REC_FIRSTSEV or more to FIRST, and
takes them off the queue. R364: a wrong key sets REC_CMDRES = 3. -/
def Obligations.RecorderQueue : Prop := (∀ (s : State) (r : EventRec),
    (s.log.queue.length < 64 → (s.enqueue r).log.queue = s.log.queue ++ [{ r with lost := s.log.lostNext }] ∧ (s.enqueue r).log.lostNext = false) ∧
    (64 ≤ s.log.queue.length → (∀ q ∈ s.log.queue, r.sev < q.sev) → (s.enqueue r).log.queue = s.log.queue ∧ (s.enqueue r).log.lostNext = true ∧
      (s.enqueue r).log.dropped = s.log.dropped + 1 ∧ (s.enqueue r).reg Reg.REC_FLAGS_QDROP = 1) ∧
    (∀ a d c, s.log.queue = a ++ d :: c → 64 ≤ s.log.queue.length → (∀ q ∈ a, r.sev < q.sev) → d.sev ≤ r.sev →
      (s.enqueue r).log.queue = a ++ c ++ [{ r with lost := true }] ∧ (s.enqueue r).log.dropped = s.log.dropped + 1)) ∧
  ∀ (t : Edges) (s : State), s.core.powered = true →
  let free := s.log.scanned = true ∧ s.log.batch = none ∧ s.log.clear = none ∧ s.supUp = true ∧ s.reg Reg.JRN_STAT_NOFLASH = 0 ∧ s.log.queue ≠ []
  (∀ k : Byte, k ≠ 0xA5 → s.supUp = true → Does (.flush t k) s fun u => u.reg Reg.REC_CMDRES = 3 ∧ u.log = s.log ∧ OnlyRegsQuiet [Reg.REC_CMDRES] s u) ∧
  (s.supUp = true → Does (.flush t 0xA5) s fun u => u.reg Reg.REC_CMDRES = 1 ∧ u.log.queue = s.log.queue ∧ (u.log.flushReq = true ∨ u.log.batch ≠ none) ∧
    OnlyRegsQuiet [Reg.REC_CMDRES, Reg.REC_STAT_FLUSHING] s u) ∧
  (free → Does (.flush t 0xA5) s fun u => u.log.batch = some (s.reg Reg.REC_LASTSEQ) ∧ u.reg Reg.REC_STAT_FLUSHING = 1) ∧
  (∀ r q, s.log.queue = r :: q →
    (max s.now t < r.tm + s.reg Reg.REC_AGEMAX * edgeSec → Does (.flushAge t) s fun u => u.log = s.log ∧ OnlyRegsQuiet [] s u) ∧
    (r.tm + s.reg Reg.REC_AGEMAX * edgeSec ≤ max s.now t → free → Does (.flushAge t) s fun u => u.log.batch = some (s.reg Reg.REC_LASTSEQ) ∧
      u.reg Reg.REC_STAT_FLUSHING = 1 ∧ u.log.queue = s.log.queue)) ∧
  ((s.log.batch = none ∨ s.supUp = false) → Does (.flushBatchDone t) s fun u => u.log = s.log ∧ u.flash = s.flash ∧ OnlyRegsQuiet [] s u) ∧
  (∀ n, s.log.batch = some n → s.supUp = true → s.log.queue.length ≤ 64 → s.flash.roll.length + 64 < 16384 → s.flash.first.length + 64 < 4096 →
    Does (.flushBatchDone t) s fun u =>
      (∀ r ∈ s.log.queue, r.seq ≤ n → ∃ q ∈ u.flash.roll, q.live = true ∧
        q.ev = { r with held := decide (r.tm + s.reg Reg.REC_AGEMAX * edgeSec < max s.now t) }) ∧
      (∀ r ∈ s.log.queue, r.seq ≤ n → s.reg Reg.REC_FIRSTSEV ≤ r.sev → ∃ q ∈ u.flash.first, q.code = r.code ∧ q.sev = r.sev ∧ q.seq = r.seq ∧ q.p0 = r.p0) ∧
      u.flash.roll.take s.flash.roll.length = s.flash.roll ∧
      u.flash.roll.length = s.flash.roll.length + (s.log.queue.filter (fun r => r.seq ≤ n)).length ∧
      u.log.queue.take (s.log.queue.filter (fun r => n < r.seq)).length = s.log.queue.filter (fun r => n < r.seq))

/-- R353, R351: a clear is refused with a wrong key (3), while one is in progress (2), or without a token of scope CLEAR_LOG (4), with event 0x7057; an accepted one shows
REC_STAT.CLEARING until its erase is complete, when FIRST and ROLL are empty, CLEAR_ALL empties the snapshots too, and event
0x7050 is record 1 of the next epoch. The start scan counts FIRST, ROLL and the committed snapshots, and takes the epoch of the LOGPTR in force. -/
def Obligations.LogClears : Prop := ∀ (t : Edges) (s : State), s.up →
  (∀ (all : Bool) (k : Byte), (let c := if all then Instr.clearAll t k else Instr.clearLog t k
    let cmd := if all then 2 else 1
    (k ≠ 0xA5 → Does c s fun u => u.reg Reg.REC_CMDRES = 3 ∧ u.log.clear = s.log.clear ∧ Raised 0x7057 2 cmd 3 s u ∧ OnlyRegs [Reg.REC_CMDRES] s u) ∧
    (k = 0xA5 → s.log.clear.isSome = true → Does c s fun u => u.reg Reg.REC_CMDRES = 2 ∧ u.log.clear = s.log.clear ∧ Raised 0x7057 2 cmd 2 s u ∧ OnlyRegs [Reg.REC_CMDRES] s u) ∧
    (k = 0xA5 → s.log.clear = none → s.tokenScope 2 = false → Does c s fun u => u.reg Reg.REC_CMDRES = 4 ∧ u.log.clear = none ∧
      Raised 0x7057 2 cmd 4 s u ∧ OnlyRegs [Reg.REC_CMDRES] s u) ∧
    (k = 0xA5 → s.log.clear = none → s.tokenScope 2 = true → Does c s fun u => u.reg Reg.REC_CMDRES = 1 ∧ u.reg Reg.REC_STAT_CLEARING = 1 ∧
      u.log.clear = some ⟨all, s.reg Reg.REC_EPOCH, s.reg Reg.REC_FIRSTCNT, s.reg Reg.REC_ROLLCNT⟩ ∧ u.flash.first = s.flash.first ∧ u.flash.roll = s.flash.roll ∧
      (s.jrn.scanned = true → u.jrn.logptr = some ⟨s.reg Reg.REC_EPOCH + 1, 0, 0, 0, 0, 0⟩)))) ∧
  (s.log.clear = none → Does (.clearEraseDone t) s fun u => u.log = s.log ∧ u.flash = s.flash ∧ OnlyRegsQuiet [] s u) ∧
  (∀ c, s.log.clear = some c → (s.reg Reg.REC_SNSEV = 0 ∨ 3 < s.reg Reg.REC_SNSEV) → s.reg Reg.JRN_STAT_BANK ≤ 1 → (s.bank (s.reg Reg.JRN_STAT_BANK)).next < 190000 →
    Does (.clearEraseDone t) s fun u => u.flash.first = [] ∧ u.flash.roll = [] ∧ u.flash.snaps = (if c.all then [] else s.flash.snaps) ∧
      u.log.clear = none ∧ u.reg Reg.REC_STAT_CLEARING = 0 ∧ u.reg Reg.REC_FLAGS_CLEARED = 1 ∧ u.reg Reg.REC_EPOCH = (c.oldEpoch + 1) % 2 ^ 32 ∧
      u.reg Reg.REC_FIRSTCNT = 0 ∧ u.reg Reg.REC_ROLLCNT = 0 ∧ u.reg Reg.REC_LASTSEQ = 1 ∧ (c.all = true → u.reg Reg.REC_SNVALID = 0) ∧
      ∃ r, u.log.last = some r ∧ r.code = 0x7050 ∧ r.sev = 3 ∧ r.seq = 1 ∧ r.epoch = true ∧ r.p0 = c.oldEpoch % 2 ^ 32) ∧
  ((s.booted = false ∨ s.jrn.scanned = false ∨ s.log.scanned = true ∨ s.reg Reg.JRN_STAT_NOFLASH ≠ 0) → Does (.logScanDone t) s fun u =>
    u.log = s.log ∧ u.flash = s.flash ∧ OnlyRegsQuiet [] s u) ∧
  (s.booted = true → s.jrn.scanned = true → s.log.scanned = false → s.reg Reg.JRN_STAT_NOFLASH = 0 → Does (.logScanDone t) s fun u =>
    u.log.scanned = true ∧ u.flash = s.flash ∧ u.reg Reg.REC_FIRSTCNT = s.flash.first.length % 2 ^ Reg.REC_FIRSTCNT.width ∧
    (∀ i < 32, bitOf (u.reg Reg.REC_SNVALID) i = s.flash.snaps.any (fun x => x.ix = i && x.committed)) ∧
    u.reg Reg.REC_EPOCH = (match s.jrn.logptr with | none => 1 | some l => l.epoch % 2 ^ 32) ∧
    (s.jrn.logptr = none → Raised 0x7051 3 (if s.flash.first = [] ∧ s.flash.roll = [] then 0 else 1) (u.reg Reg.REC_ROLLCNT) s u) ∧
    (∀ l, s.jrn.logptr = some l → (u.log.clear.isSome = true ↔ l.lastSeq = 0 ∨ s.log.clear.isSome = true)))

/-- R354, R355: SNAPSHOT begins a capture of the manual set, is folded into the capture of its set that is under way, or is dropped, event 0x7056, where both buffers hold unwritten captures;
6 ms after its trigger a capture takes its samples; a snapshot goes to the first slot after REC_SNNEXT whose severity is no higher, with event 0x7055. R352, R365: the log window shows
the record of the region with the lowest sequence at or above the cursor; the snapshot window shows the 128 bytes at REC_SNOFS of the slot. -/
def Obligations.SnapshotsAndWindows : Prop := ∀ (t : Edges) (s : State), s.core.powered = true →
  (∀ k : Byte, k ≠ 0xA5 → s.supUp = true → Does (.snapshot t k) s fun u => u.reg Reg.REC_CMDRES = 3 ∧ u.log = s.log ∧ OnlyRegsQuiet [Reg.REC_CMDRES] s u) ∧
  (s.supUp = true → (s.snapChannels true).all (fun c => c == 0xFF) = false →
    (s.log.cap0 = none → capturing s.log.cap1 true = false → Does (.snapshot t 0xA5) s fun u => u.reg Reg.REC_CMDRES = 1 ∧ u.reg Reg.REC_STAT_SNBUSY = 1 ∧
      u.log.cap1 = s.log.cap1 ∧ ∃ c, u.log.cap0 = some c ∧ c.manual = true ∧ c.done = false ∧ c.tm = max s.now t ∧ c.snap.sev = 0 ∧ c.snap.kind = 2 ∧
        c.snap.chans = s.snapChannels true ∧ c.snap.cyc = s.reg Reg.WHL_CYC) ∧
    (∀ c, s.log.cap0 = some c → c.done = false → c.manual = true → Does (.snapshot t 0xA5) s fun u => u.reg Reg.REC_CMDRES = 1 ∧ u.log.cap1 = s.log.cap1 ∧
      u.log.cap0 = some { c with snap := { c.snap with folded := c.snap.folded + 1 } }) ∧
    (∀ c d, s.log.cap0 = some c → s.log.cap1 = some d → (c.done = true ∨ c.manual = false) → (d.done = true ∨ d.manual = false) → Does (.snapshot t 0xA5) s fun u =>
      u.log.cap0 = s.log.cap0 ∧ u.log.cap1 = s.log.cap1 ∧ u.reg Reg.REC_SNDROP = min (2 ^ Reg.REC_SNDROP.width - 1) (s.reg Reg.REC_SNDROP + 1) ∧
      u.reg Reg.REC_FLAGS_SNDROP = 1 ∧ ∃ r, u.log.last = some r ∧ r.code = 0x7056 ∧ r.sev = 3)) ∧
  (∀ (k : Fin 2) (l : List Code), s.log.cap k = none → (Does (.snapshotCaptureDone t k l) s fun u => u.log = s.log ∧ OnlyRegsQuiet [] s u) ∧
    Does (.snapshotWritten t k) s fun u => u.log = s.log ∧ u.flash = s.flash ∧ OnlyRegsQuiet [] s u) ∧
  (∀ (k : Fin 2) (l : List Code) (c : Capture), s.log.cap k = some c →
    (c.done = false → c.tm + 6 * edgeMs ≤ max s.now t → Does (.snapshotCaptureDone t k l) s fun u => OnlyRegsQuiet [] s u ∧
      ∃ d, u.log.cap k = some d ∧ d.done = true ∧ d.snap.samples = l ∧ d.snap.pages.length = 12 ∧ { d.snap with samples := c.snap.samples, pages := c.snap.pages } = c.snap) ∧
    ((c.done = true ∨ max s.now t < c.tm + 6 * edgeMs) → Does (.snapshotCaptureDone t k l) s fun u => u.log = s.log ∧ OnlyRegsQuiet [] s u) ∧
    (c.done = false → Does (.snapshotWritten t k) s fun u => u.log = s.log ∧ u.flash = s.flash ∧ OnlyRegsQuiet [] s u) ∧
    (∀ i : Fin 32, c.done = true → s.supUp = true → s.reg Reg.JRN_STAT_NOFLASH = 0 → s.log.scanned = true → s.jrn.powerFail = false →
      (s.slotSev i = none ∨ ∃ v, s.slotSev i = some v ∧ v ≤ c.snap.sev) →
      (∀ j : Fin 32, (j.val + 31 - s.reg Reg.REC_SNNEXT) % 32 < (i.val + 31 - s.reg Reg.REC_SNNEXT) % 32 → ∃ v, s.slotSev j = some v ∧ c.snap.sev < v) →
      s.reg Reg.REC_SNNEXT < 32 → Does (.snapshotWritten t k) s fun u => u.log.cap k = none ∧ u.reg Reg.REC_SNNEXT = i.val ∧ bitOf (u.reg Reg.REC_SNVALID) i = true ∧
        (⟨i.val, true, c.snap⟩ : SnapSlot) ∈ u.flash.snaps ∧ (∀ x ∈ u.flash.snaps, x.ix = i.val → x.snap = c.snap) ∧ u.flash.snaps.filter (fun (x : SnapSlot) => x.ix ≠ i.val) = s.flash.snaps.filter (fun (x : SnapSlot) => x.ix ≠ i.val) ∧
        Raised 0x7055 0 i c.snap.code s u)) ∧
  (∀ (r : Fin 4) (a : Bool) (q : BitVec 32), s.supUp = true → Does (.logCursorChange t r a q) s fun u => u.reg Reg.REC_CURREG_REGION = r.val ∧
    u.reg Reg.REC_CURREG_AUTO = (if a then 1 else 0) ∧ u.reg Reg.REC_CURSEQ = q.toNat ∧ u.reg Reg.REC_WST = 2 ∧ u.log.fetchAt = some (max s.now t) ∧
    OnlyRegsQuiet [Reg.REC_CURREG_REGION, Reg.REC_CURREG_AUTO, Reg.REC_CURSEQ, Reg.REC_WST] s u) ∧
  (s.log.fetchAt = none → Does (.logFetchDone t) s fun u => u.log = s.log ∧ OnlyRegsQuiet [] s u) ∧
  (s.log.fetchAt.isSome = true → Does (.logFetchDone t) s fun u => u.log.fetchAt = none ∧ OnlyRegsQuiet [Reg.REC_WST, Reg.REC_WSEQ] s u ∧
    (let l := (s.region (s.reg Reg.REC_CURREG_REGION)).filter (fun r => s.reg Reg.REC_CURSEQ ≤ r.seq)
    (l = [] → u.reg Reg.REC_WST = 1 ∧ u.log.winRec = none) ∧
    (l ≠ [] → u.reg Reg.REC_WST = 0 ∧ ∃ r, u.log.winRec = some r ∧ r ∈ l ∧ (∀ q ∈ l, r.seq ≤ q.seq) ∧ u.reg Reg.REC_WSEQ = r.seq % 2 ^ 32))) ∧
  (Does (.logWindowRead t) s fun u => u.log.advance = (s.log.advance || s.reg Reg.REC_CURREG_AUTO != 0) ∧ OnlyRegsQuiet [] s u) ∧
  (∀ (i : Fin 32) (o : Code), s.supUp = true → Does (.snapshotWindowChange t i o) s fun u => u.reg Reg.REC_SNSLOT = i.val ∧ u.reg Reg.REC_SNOFS = o.toNat ∧
    u.log.snFetchAt = some (max s.now t) ∧ OnlyRegsQuiet [Reg.REC_SNSLOT, Reg.REC_SNOFS] s u) ∧
  (s.log.snFetchAt.isSome = true → Does (.snapshotFetchDone t) s fun u => u.log.snFetchAt = none ∧ u.log.snWin.length = 128 ∧ OnlyRegsQuiet [] s u ∧
    (s.flash.snaps.all (fun x => x.ix ≠ s.reg Reg.REC_SNSLOT) = true → u.log.snWin = List.replicate 128 0xFF) ∧
    (∀ x, s.flash.snaps = [x] → x.ix = s.reg Reg.REC_SNSLOT → s.reg Reg.REC_SNOFS + 128 ≤ x.snap.bytes.length →
      u.log.snWin = (x.snap.bytes.drop (s.reg Reg.REC_SNOFS)).take 128)) ∧
  (s.log.snFetchAt = none → Does (.snapshotFetchDone t) s fun u => u.log = s.log ∧ OnlyRegsQuiet [] s u)

/-! The twin pair (R367-R390). -/

/-- R373, R375, R376, R383, R386: a frame slot sends the chip's duties, mode, ownership and the first four waiting records, with the next sequence; a frame whose
CRC fails is counted and changes nothing else; a valid one shows LINKUP, the partner's fitness and health; a slot missed for 9 us is counted, and with ACTIN high the third in a row is a link fault,
event 0x9120; a standby applies a decision when its tick has come, and sends a HEALTH record while its supervisor runs. -/
def Obligations.TwinLink : Prop := ∀ (t : Edges) (s : State), s.core.powered = true →
  (s.paired = false → Does (.twinFrameSlot t) s fun u => u.twin = s.twin ∧ OnlyRegsQuiet [] s u) ∧
  (s.paired = true → Does (.twinFrameSlot t) s fun u => u.twin.txSeq = (s.twin.txSeq + 1) % 65536 ∧ u.twin.sentAt = some (max s.now t) ∧
    u.twin.partner = s.twin.partner ∧ ∃ f, u.twin.own.head? = some f ∧ f.crcOk = true ∧ f.seq.toNat = (s.twin.txSeq + 1) % 65536 ∧ f.owner = s.owner ∧ f.mode.val = s.mode % 8 ∧
      f.health.toNat = u.reg Reg.TWN_HEALTH % 2 ^ 32 ∧ f.recs.length = 4 ∧ f.recs.take (min 4 s.twin.sendQ.length) = s.twin.sendQ.take 4 ∧ f.duties.length = 48 ∧ f.digest.length = 28 ∧
      (∀ n : Chan, s.conducts n = false → f.duties.getD n.val 1 = 0) ∧
      (∀ n : Chan, s.conducts n = true → (f.duties.getD n.val 0).toNat = s.regAt Reg.PH_DUTY n % 65536)) ∧
  (∀ f : TwinFrame, (s.paired = false ∨ f.crcOk = false) → Does (.twinFrameReceive t f) s fun u => u.twin = s.twin ∧ OnlyRegsQuiet [Reg.TW_RXCRC] s u ∧
    (s.paired = true → u.reg Reg.TW_RXCRC = min (2 ^ Reg.TW_RXCRC.width - 1) (s.reg Reg.TW_RXCRC + 1)) ∧
    (s.paired = false → u.reg Reg.TW_RXCRC = s.reg Reg.TW_RXCRC)) ∧
  (∀ f : TwinFrame, s.paired = true → f.crcOk = true → f.recs = [] → Does (.twinFrameReceive t f) s fun u => u.twin.partner = some f ∧ u.twin.missing = 0 ∧
    u.twin.rxSeq = f.seq.toNat ∧ u.reg Reg.TWN_STAT_LINKUP = 1 ∧ u.reg Reg.TWN_STAT_PFIT = (if f.fit then 1 else 0) ∧ u.reg Reg.TWN_PHEALTH = f.health.toNat) ∧
  (∀ (f : TwinFrame) (q k v : Byte) (w : BitVec 32) (c d : Code), s.paired = true → f.crcOk = true → f.recs = [.decision q k v w c d] → s.owner = true →
    Does (.twinFrameReceive t f) s fun u => u.twin.decisions = s.twin.decisions ∧ u.reg Reg.TW_LATE = s.reg Reg.TW_LATE) ∧
  ((s.paired = false ∨ s.twin.rxAt = none ∨ ∃ r, s.twin.rxAt = some r ∧ max s.now t < r + 9 * edgeUs) → Does (.twinSlotMissing t) s fun u =>
    u.twin = s.twin ∧ OnlyRegsQuiet [] s u) ∧
  (∀ r, s.twin.rxAt = some r → s.paired = true → r + 9 * edgeUs ≤ max s.now t → Does (.twinSlotMissing t) s fun u =>
    u.twin.missing = s.twin.missing + 1 ∧ u.twin.rxAt = some (r + 8 * edgeUs) ∧ u.twin.missAt = some (max s.now t) ∧
    u.reg Reg.TW_RXMISS = min (2 ^ Reg.TW_RXMISS.width - 1) (s.reg Reg.TW_RXMISS + 1) ∧ u.reg Reg.TWN_STAT_FIT = 0 ∧ u.owner = s.owner ∧
    (2 ≤ s.twin.missing → u.reg Reg.TWN_STAT_LINKUP = 0) ∧
    (2 ≤ s.twin.missing → s.owner = false → s.twin.actIn = true → s.twin.linkFault = false → u.twin.linkFault = true ∧ u.reg Reg.TWN_FLAGS_LINK = 1 ∧
      (s.reg Reg.TWN_STAT_FIT = 0 → Raised 0x9120 4 (u.reg Reg.TW_RXMISS) 1 s u))) ∧
  (s.owner = true → Does (.decisionRecordTick t) s fun u => u.twin = s.twin ∧ OnlyRegsQuiet [] s u) ∧
  (∀ (q : Byte) (b : Bay) (w : BitVec 32) (c d : Code), s.owner = false → s.twin.decisions = [.decision q (Config.decisionKind 0) (BitVec.ofNat 8 b) w c d] →
    ((s.at t).decisionDue c d = false → Does (.decisionRecordTick t) s fun u => u.twin.decisions = s.twin.decisions ∧ OnlyRegsQuiet [] s u) ∧
    ((s.at t).decisionDue c d = true → Does (.decisionRecordTick t) s fun u => u.twin.decisions = [] ∧ OnlyRegsQuiet [Reg.PH_NT, Reg.TRK_NT] s u ∧
      u.regAt Reg.PH_NT b = w.toNat % 2 ^ Reg.PH_NT.width)) ∧
  ((s.paired = false ∨ s.owner = true ∨ s.supUp = false) → Does (.healthRecord t) s fun u => u.twin = s.twin ∧ OnlyRegsQuiet [] s u) ∧
  (s.paired = true → s.owner = false → s.supUp = true → Does (.healthRecord t) s fun u => OnlyRegsQuiet [] s u ∧
    u.twin.sendQ = s.twin.sendQ ++ [SyncRec.health (BitVec.ofNat 8 s.twin.recSeq) (BitVec.ofNat 32 (s.reg Reg.TWN_HEALTH)) (BitVec.ofNat 16 (s.reg Reg.TW_ECCCOR))
      (BitVec.ofNat 16 (s.reg Reg.TW_PADERR)) (BitVec.ofNat 16 (s.reg Reg.TW_INJFAIL))] ∧ u.twin.healthAt = some (max s.now t) ∧ u.twin.recSeq = (s.twin.recSeq + 1) % 256)

/-- R379, R380, R381, R382, R386: the periodic vector, the reference injection and the ECC scrub set their bits of the health word, and any bit falling clears FIT
at once; the standby is FIT after TWN_FITT of all bits; the end of a transfer sets SYNC; the results of a known-answer test decide by R380: a failing active yields to a FIT
standby, a failing standby becomes UNFIT. -/
def Obligations.TwinHealth : Prop := ∀ (t : Edges) (s : State), s.core.powered = true →
  (s.paired = true →
    (∀ m : Byte, Does (.periodicKat t m) s fun u => u.twin.katFail = m.toNat ∧ bitOf (u.reg Reg.TWN_HEALTH) 1 = (m == 0) ∧
      bitOf (u.reg Reg.TWN_HEALTH) 0 = s.isSet Reg.GL_STAT_XTALOK ∧ bitOf (u.reg Reg.TWN_HEALTH) 7 = !s.isSet Reg.GL_STAT_GECKO ∧
      bitOf (u.reg Reg.TWN_HEALTH) 8 = s.twin.synced ∧
      (u.reg Reg.TWN_HEALTH ≠ 0x7FF → u.reg Reg.TWN_STAT_FIT = 0 ∧ u.twin.fitSince = none ∧
        (s.reg Reg.TWN_STAT_FIT = 1 → u.reg Reg.TWN_FLAGS_FITCHG = 1 ∧ Raised 0x9131 3 (u.reg Reg.TWN_HEALTH) (s.reg Reg.TWN_LASTATT) s u))) ∧
    (∀ (ch : Nat) (e : Int), Does (.referenceInjection t ch e) s fun u => (ch ∈ u.twin.injBad ↔ s.reg Reg.TWN_RTOL < e.natAbs) ∧
      bitOf (u.reg Reg.TWN_HEALTH) 2 = u.twin.injBad.isEmpty ∧ (s.reg Reg.TWN_RTOL < e.natAbs → u.reg Reg.TWN_STAT_FIT = 0 ∧
        u.reg Reg.TW_INJFAIL = min (2 ^ Reg.TW_INJFAIL.width - 1) (s.reg Reg.TW_INJFAIL + 1)) ∧
      (e.natAbs ≤ s.reg Reg.TWN_RTOL → u.twin.injBad = s.twin.injBad.filter (fun c => c != ch) ∧ u.reg Reg.TW_INJFAIL = s.reg Reg.TW_INJFAIL)) ∧
    (∀ n bad, Does (.eccScrub t n bad) s fun u => u.twin.eccAt = (if bad then some (max s.now t) else s.twin.eccAt) ∧
      u.reg Reg.TW_ECCCOR = min (2 ^ Reg.TW_ECCCOR.width - 1) (s.reg Reg.TW_ECCCOR + n) ∧
      (bad = true → bitOf (u.reg Reg.TWN_HEALTH) 3 = false ∧ u.reg Reg.TWN_STAT_FIT = 0))) ∧
  (s.paired = false → ∀ m ch e n bad, (let still := fun u : State => u.twin = s.twin ∧ OnlyRegsQuiet [] s u
    Does (.periodicKat t m) s still ∧ Does (.referenceInjection t ch e) s still ∧ Does (.eccScrub t n bad) s still ∧ Does (.stateTransferDone t) s still ∧
    Does (.katDone t m bad) s still)) ∧
  (Does (.standbyFit t) s fun u => (u.reg Reg.TWN_STAT_FIT = 1 → s.reg Reg.TWN_STAT_FIT = 1 ∨ s.paired = true ∧ s.owner = false ∧ s.twin.unfit = false ∧
      u.reg Reg.TWN_HEALTH = 0x7FF ∧ ∃ f, u.twin.fitSince = some f ∧ f + s.reg Reg.TWN_FITT * edgeSec ≤ max s.now t ∧ u.reg Reg.TWN_FLAGS_FITCHG = 1)) ∧
  (∀ f, s.twin.fitSince = some f → s.paired = true → s.owner = false → s.supUp = true → s.twin.unfit = false → (s.at t).healthWord = 0x7FF →
    s.reg Reg.TWN_STAT_FIT = 0 → f + s.reg Reg.TWN_FITT * edgeSec ≤ max s.now t → Does (.standbyFit t) s fun u => u.reg Reg.TWN_STAT_FIT = 1 ∧
      Raised 0x9130 1 0x7FF 0 s u) ∧
  (s.paired = true → s.reg Reg.TWN_STAT_XFER = 1 → s.owner = false → Does (.stateTransferDone t) s fun u => u.reg Reg.TWN_STAT_XFER = 0 ∧ u.twin.synced = true ∧
    u.twin.unfit = false ∧ bitOf (u.reg Reg.TWN_HEALTH) 8 = true) ∧
  (s.reg Reg.TWN_STAT_XFER = 0 → Does (.stateTransferDone t) s fun u => u.twin = s.twin ∧ OnlyRegsQuiet [] s u) ∧
  ((s.twin.katAsked = false ∨ s.twin.katOwn.isSome = true ∨ s.twin.t0.isSome = true) → ∀ m ok, Does (.katDone t m ok) s fun u => u.twin = s.twin ∧ OnlyRegsQuiet [] s u) ∧
  (s.paired = true → s.twin.katAsked = true → s.twin.katOwn = none → s.twin.t0 = none →
    (∀ m ok, s.twin.katPartner = none → Does (.katDone t m ok) s fun u => u.twin.katOwn = some (m.toNat, ok) ∧ u.twin.katAsked = true ∧ u.owner = s.owner) ∧
    (s.twin.katPartner = some true → ∀ (m : Byte) ok, m ≠ 0 → s.owner = true → Does (.katDone t m ok) s fun u => u.reg Reg.TWN_LASTATT = 1 ∧ u.reg Reg.TWN_FLAGS_ATTRIB = 1 ∧
      u.twin.katAsked = false ∧ u.twin.held = true ∧ u.owner = (s.reg Reg.TWN_STAT_PFIT == 0) ∧ u.twin.actOut = (s.twin.actOut && s.reg Reg.TWN_STAT_PFIT == 0)) ∧
    (s.twin.katPartner = some true → ∀ (m : Byte) ok, m ≠ 0 → s.owner = false → Does (.katDone t m ok) s fun u => u.reg Reg.TWN_LASTATT = 2 ∧ u.twin.unfit = true ∧
      u.reg Reg.TWN_STAT_FIT = 0 ∧ u.owner = false ∧ u.mode = s.mode) ∧
    (s.twin.katPartner = some false → ∀ (m : Byte) ok, m ≠ 0 → s.reg Reg.IMG_STAT_PROB ≠ 1 → Does (.katDone t m ok) s fun u => u.reg Reg.TWN_LASTATT = 3 ∧ u.owner = s.owner ∧ u.mode = s.mode ∧
      (s.owner = false → u.twin.unfit = true)) ∧
    (s.twin.katPartner = some true → ∀ ok, (s.at t).digestDiff = none → Does (.katDone t 0 ok) s fun u => u.reg Reg.TWN_LASTATT = 4 ∧ u.reg Reg.TWN_STAT_XFER = 1 ∧
      u.owner = s.owner ∧ (s.owner = false → u.twin.unfit = true)))

/-- R370-R372, R383-R385: ownership. The level of ACTIN starts or ends the gap; a standby with an image in force and not in LOCKOUT takes the outputs once ACTIN has been low for TWN_GAP,
raises ACTOUT and event 0x9100, and another raises 0x9151 and drives nothing; an owner that has sent no frame for 24 us, or the chip with ADDR[0] = 1 of two owners, releases its outputs, lowers ACTOUT
and enters SHADOW, event 0x9101; SWITCHOVER passes ownership only to a FIT standby, and is refused with TWN_CMDRES = 2 and event 0x9150 otherwise. -/
def Obligations.TwinOwnership : Prop := ∀ (t : Edges) (s : State), s.core.powered = true →
  let gone := fun (trig : Nat) (u : State) => u.owner = false ∧ u.twin.actOut = false ∧
    ((s.mode = modeRun ∨ s.mode = modeHoldup) → u.mode = modeShadow ∧ u.reg Reg.GL_MODE_CAUSE = 0x0F ∧ Raised 0x9101 5 trig modeShadow s u)
  let taken := fun (u : State) => u.owner = true ∧ u.twin.actOut = true ∧ u.twin.gapSince = none ∧ u.twin.yieldAt = none ∧ u.reg Reg.TWN_FLAGS_TAKEOVER = 1 ∧
    (s.mode ≠ modeShadow → u.mode = s.mode) ∧
    (s.mode = modeShadow → u.reg Reg.GL_MODE_CAUSE = 0x0E ∧ (u.mode = modeRun ∨ u.mode = modeHoldup) ∧
      (∀ f, s.twin.partner = some f → (f.mode.val = modeRun ∨ f.mode.val = modeHoldup) → u.mode = f.mode.val))
  (Does (.actinChange t false) s fun u => u.twin.actIn = false ∧ u.twin.dualAt = none ∧ OnlyRegsQuiet [] s u ∧
    u.twin.gapSince = (if s.owner = false ∨ s.twin.contest.isSome = true then some (max s.now t) else none)) ∧
  (Does (.actinChange t true) s fun u => u.twin.actIn = true ∧ u.twin.gapSince = none ∧ OnlyRegsQuiet [] s u ∧
    u.twin.dualAt = (if s.owner = true ∧ s.twin.contest = none then some (max s.now t) else none)) ∧
  ((s.twin.gapSince = none ∨ s.twin.actIn = true) → Does (.takeoverGapExpiry t) s fun u => u.twin = s.twin ∧ OnlyRegsQuiet [] s u) ∧
  (∀ g, s.twin.gapSince = some g → s.twin.actIn = false → g + s.reg Reg.TWN_GAP * 64 / 10 ≤ max s.now t → s.twin.contest = none → s.owner = false →
    (s.mayDrive = true → Does (.takeoverGapExpiry t) s taken) ∧
    (s.mayDrive = false → Does (.takeoverGapExpiry t) s fun u => u.owner = false ∧ u.twin.gapSince = none ∧ u.twin.actOut = s.twin.actOut ∧
      (s.paired = true → s.reg Reg.IMG_STAT_PROB ≠ 1 → Raised 0x9151 6 (s.reg Reg.TWN_LASTTRIG) 0 s u))) ∧
  (∀ g, s.twin.gapSince = some g → s.twin.actIn = false → max s.now t < g + s.reg Reg.TWN_GAP * 64 / 10 → Does (.takeoverGapExpiry t) s fun u =>
    u.twin = s.twin ∧ OnlyRegsQuiet [] s u) ∧
  (∀ y, s.twin.yieldAt = some y → s.twin.back = true → s.twin.actIn = false → s.owner = false → s.mayDrive = true →
    y + (s.reg Reg.TWN_GAP * 64 / 10 + 2 * edgeUs) ≤ max s.now t → Does (.takeback t) s taken) ∧
  ((s.twin.yieldAt = none ∨ s.twin.back = false ∨ s.twin.actIn = true ∨ s.owner = true) → Does (.takeback t) s fun u => u.twin = s.twin ∧ OnlyRegsQuiet [] s u) ∧
  (∀ g, s.twin.sentAt = some g → s.paired = true → s.owner = true → s.twin.t0 = none → g + 24 * edgeUs ≤ max s.now t → Does (.deadManRelease t) s (gone 3)) ∧
  ((s.paired = false ∨ s.owner = false ∨ s.twin.sentAt = none) → Does (.deadManRelease t) s fun u => u.twin = s.twin ∧ OnlyRegsQuiet [] s u) ∧
  (∀ c, s.twin.contest = some c → c + 50 * edgeUs ≤ max s.now t →
    (Does (.ownershipContestSample t false) s fun u => u.twin.contest = none ∧ u.owner = s.owner ∧ u.twin.actOut = s.twin.actOut ∧ OnlyRegsQuiet [Reg.TWN_STAT_ROLE] s u) ∧
    (s.core.addr % 2 = 1 → Does (.ownershipContestSample t true) s fun u => u.twin.contest = none ∧ u.owner = false ∧ u.twin.actOut = false ∧
      (s.mode ≠ modeLockout → u.mode = modeTadpole ∧ u.reg Reg.GL_MODE_CAUSE = 0x12) ∧ (s.mode = modeLockout → u.mode = modeLockout) ∧ Raised 0x9140 1 s.core.addr 0 s u) ∧
    (s.core.addr % 2 = 0 → Does (.ownershipContestSample t true) s fun u => u.twin.contest = some c ∧ u.owner = s.owner ∧ u.twin.actOut = s.twin.actOut ∧ OnlyRegsQuiet [] s u)) ∧
  (∀ d, s.twin.dualAt = some d → s.owner = true → s.twin.actIn = true → s.twin.contest = none → s.twin.t0 = none → d + edgeUs ≤ max s.now t →
    (s.core.addr % 2 = 1 → Does (.dualOwner t) s fun u => gone 5 u ∧
      (s.supUp = true → s.log.queue.length < 60 → s.reg Reg.REC_SNSEV = 0 → ∃ r ∈ u.log.queue, r.code = 0x9141 ∧ r.sev = 5 ∧ r.p0 = s.core.addr % 2 ^ 32)) ∧
    (s.core.addr % 2 = 0 → Does (.dualOwner t) s fun u => u.owner = true ∧ u.twin.actOut = s.twin.actOut ∧ u.mode = s.mode ∧ Raised 0x9141 5 s.core.addr s.mode s u)) ∧
  ((s.owner = false ∨ s.twin.dualAt = none) → Does (.dualOwner t) s fun u => u.twin = s.twin ∧ OnlyRegsQuiet [] s u) ∧
  (s.supUp = true → (s.twin.t0.isSome = true → ∀ k : Byte, Does (.switchover t k) s fun u => u.twin = s.twin ∧ OnlyRegsQuiet [] s u) ∧
    (s.twin.t0 = none →
    (∀ k : Byte, k ≠ 0xA5 → (let wrong := fun u : State => u.reg Reg.TWN_CMDRES = 3 ∧ u.twin = s.twin ∧ OnlyRegsQuiet [Reg.TWN_CMDRES] s u
      Does (.switchover t k) s wrong ∧ Does (.resync t k) s wrong)) ∧
    (s.paired = true → s.owner = true → s.reg Reg.TWN_STAT_PFIT = 1 → Does (.switchover t 0xA5) s fun u => u.reg Reg.TWN_CMDRES = 1 ∧ gone 4 u ∧ u.twin.back = true) ∧
    ((s.paired = false ∨ s.owner = true ∧ s.reg Reg.TWN_STAT_PFIT = 0 ∨ s.owner = false ∧ s.reg Reg.TWN_STAT_FIT = 0) → Does (.switchover t 0xA5) s fun u =>
      u.reg Reg.TWN_CMDRES = 2 ∧ u.reg Reg.TWN_FLAGS_REFUSED = 1 ∧ u.owner = s.owner ∧ Raised 0x9150 2 (s.reg Reg.TWN_PHEALTH) 0 s u) ∧
    (s.paired = true → s.owner = false → s.reg Reg.TWN_STAT_FIT = 1 → Does (.switchover t 0xA5) s fun u => u.reg Reg.TWN_CMDRES = 1 ∧ u.twin.swReq = true ∧ u.owner = false) ∧
    (s.paired = true → s.owner = true → Does (.resync t 0xA5) s fun u => u.reg Reg.TWN_CMDRES = 1 ∧ u.reg Reg.TWN_STAT_XFER = 1 ∧
      OnlyRegsQuiet [Reg.TWN_CMDRES, Reg.TWN_STAT_XFER] s u) ∧
    ((s.paired = false ∨ s.owner = false) → Does (.resync t 0xA5) s fun u => u.reg Reg.TWN_CMDRES = 2 ∧ u.reg Reg.TWN_FLAGS_REFUSED = 1 ∧
      OnlyRegsQuiet [Reg.TWN_CMDRES, Reg.TWN_FLAGS_REFUSED] s u)))

/-! The ports (R391-R412). -/

/-- R6, R9, R10, R318, R320, R394-R397, R400: writes. A port that does not acknowledge its address takes nothing. On port H without PEC, outside SHADOW: a write to 0xFF sets PAGE; a LIVE field takes
its value byte by byte, or whole where it has more bytes; a W1C field loses the bits written 1; a RO field keeps its
value; a write of a SHADOW field that waits for the stop enters the shadow copy there. The stop closes the transaction; a transaction cut short leaves its condition and count. A read
returns the field, low byte first. R403: while the supervisor is down port H takes no data byte. -/
def Obligations.PortTransactions : Prop := ∀ (t : Edges) (s : State), s.core.powered = true →
  (∀ p, s.answers p = false → (let still := fun u : State => u.portH = s.portH ∧ u.portS = s.portS ∧ OnlyRegsQuiet [] s u
    (∀ o d, Does (.registerWrite t p o d) s still) ∧ (∀ o n, Does (.registerRead t p o n) s still) ∧
    ∀ c i a, Does (.transactionAbort t p c i a) s still)) ∧
  (∀ p, (s.port p).open_ = false → ∀ last, Does (.transactionStop t p last) s fun u => u.portH = s.portH ∧ u.portS = s.portS ∧ u.portD = s.portD ∧ OnlyRegsQuiet [] s u) ∧
  (∀ p, (s.port p).open_ = true → (s.port p).heldWrites = [] → (s.port p).buf = [] → (s.port p).late = [] → (s.port p).area = none → (s.port p).commit127 = none →
    s.log.advance = false → Does (.transactionStop t p none) s fun u => (u.port p).open_ = false ∧ (u.port p).bytes = [] ∧ (u.port p).part = none ∧
      (u.port p).page = (s.port p).page ∧ (u.port p).ptr = (s.port p).ptr ∧ OnlyRegsQuiet [] s u) ∧
  (∀ (v : Nat) (i : Fin 8), s.portH.open_ = true → s.portH.heldWrites = [] → s.portH.buf = [⟨Reg.BST_CAP.place, i.val, v⟩] → s.portH.late = [] → s.portH.area = none →
    s.portH.commit127 = none → s.log.advance = false → s.supUp = true → Does (.transactionStop t .h none) s fun u =>
      u.shadAt Reg.BST_CAP i = v % 2 ^ Reg.BST_CAP.width ∧ u.regAt Reg.BST_CAP i = s.regAt Reg.BST_CAP i) ∧
  (∀ c (i : Nat) (a : Byte), s.booted = true → s.portH.open_ = false → Does (.transactionAbort t .h c i a) s fun u => u.reg Reg.H_LASTAB_COND = abortCode c ∧
    u.reg Reg.H_LASTAB_BYTE = min i (2 ^ Reg.H_LASTAB_BYTE.width - 1) ∧ u.reg Reg.H_FLAGS_ABORT = 1 ∧
    u.reg Reg.H_ABORTCNT = min (2 ^ Reg.H_ABORTCNT.width - 1) (s.reg Reg.H_ABORTCNT + 1) ∧
    (s.portH.abortAt = none → Raised 0x6210 2 0 (abortCode c + 256 * min i 255 + 65536 * a.toNat) s u)) ∧
  (s.booted = true → s.portH.open_ = false → s.portH.part = none → s.portH.buf = [] →
    (∀ (o : Byte) (d : List Byte), s.supUp = false → Does (.registerWrite t .h o d) s fun u => u.portH.open_ = true ∧ u.portH.ptr = o.toNat ∧ u.portH.page = s.portH.page ∧
      OnlyRegsQuiet [Reg.H_PTR] s u) ∧
    (s.supUp = true → s.mode ≠ modeShadow → s.reg Reg.H_CFG_PECWR = 0 →
      (∀ b : Byte, Does (.registerWrite t .h 0xFF [b]) s fun u => u.portH.page = b.toNat ∧ u.portH.ptr = 0 ∧ u.portH.open_ = true) ∧
      (s.portH.page = 0x30 → ∀ b c : Byte, (Does (.registerWrite t .h 0x34 [b, c]) s fun u => u.reg Reg.IMG_PINPAGE = b.toNat ∧ u.reg Reg.IMG_PINOFS = c.toNat ∧
        u.portH.ptr = 0x36 ∧ OnlyRegsQuiet [Reg.H_PTR, Reg.IMG_PINPAGE, Reg.IMG_PINOFS] s u) ∧
        (Does (.registerWrite t .h 0x30 [b, c]) s fun u => u.reg Reg.IMG_UPADDR = s.reg Reg.IMG_UPADDR ∧ OnlyRegsQuiet [Reg.H_PTR] s u) ∧
        (Does (.registerWrite t .h 0x30 [b, c, 1, 2]) s fun u => u.reg Reg.IMG_UPADDR = b.toNat + 256 * c.toNat + 65536 + 2 * 256 ^ 3 ∧
          OnlyRegsQuiet [Reg.H_PTR, Reg.IMG_UPADDR] s u) ∧
        (Does (.registerWrite t .h (BitVec.ofNat 8 Reg.IMG_VER.off) [b, c]) s fun u => u.reg Reg.IMG_VER = s.reg Reg.IMG_VER ∧ OnlyRegsQuiet [Reg.H_PTR] s u) ∧
        (Does (.registerWrite t .h (BitVec.ofNat 8 Reg.IMG_FLAGS_INVALID.off) [b]) s fun u => ∀ f ∈ pageFields 0x30, f.off = Reg.IMG_FLAGS_INVALID.off → f.acc = .w1c →
          u.reg f = if bitOf b.toNat f.lsb then 0 else s.reg f)))) ∧
  (s.booted = true → s.portH.open_ = false → s.portH.latches = [] → s.reg Reg.H_CFG_PECRD = 0 → s.portH.page = 0x30 →
    (Does (.registerRead t .h (some 0x34) 2) s fun u => u.portH.sent = [s.reg Reg.IMG_PINPAGE, s.reg Reg.IMG_PINOFS] ∧ u.portH.writing = false ∧ OnlyRegsQuiet [Reg.H_PTR] s u) ∧
    (Does (.registerRead t .h (some 0xFF) 1) s fun u => u.portH.sent = [0x30] ∧ OnlyRegsQuiet [Reg.H_PTR] s u) ∧
    (Does (.registerRead t .h (some (BitVec.ofNat 8 Reg.IMG_VER.off)) 4) s fun u => natOfBytes u.portH.sent = s.reg Reg.IMG_VER % 2 ^ 32 ∧ u.portH.sent.length = 4))

/-- R393, R399, R400, R405, R408: on a port: SCL held low past its limit aborts with condition 5, event 0x6211, where TOUT is set; a stretch at its limit sends 0xFF without moving the pointer, condition 6;
the alert response returns the own address while HALERT_N is low; a Host Notify that is acknowledged ends the request, and the third attempt not acknowledged leaves it with event 0x6241; a bus that stays stuck raises
0x6250 once and backs off for 1 s. -/
def Obligations.PortEvents : Prop := ∀ (t : Edges) (s : State), s.core.powered = true →
  (∀ i, s.booted = true → s.reg Reg.H_CFG_TOUT = 1 → s.portH.open_ = false → Does (.sclTimeout t .h i) s fun u => u.reg Reg.H_LASTAB_COND = 5 ∧ u.reg Reg.H_FLAGS_TIMEOUT = 1 ∧
    u.reg Reg.H_TOCNT = min (2 ^ Reg.H_TOCNT.width - 1) (s.reg Reg.H_TOCNT + 1) ∧
    u.reg Reg.H_ABORTCNT = min (2 ^ Reg.H_ABORTCNT.width - 1) (s.reg Reg.H_ABORTCNT + 1)) ∧
  (∀ p i, (p = .d ∨ p = .h ∧ s.reg Reg.H_CFG_TOUT = 0 ∨ p = .s ∧ s.reg Reg.S_CFG_TOUT = 0) → Does (.sclTimeout t p i) s fun u => u.portH = s.portH ∧ u.portS = s.portS ∧ OnlyRegsQuiet [] s u) ∧
  (∀ p r, (s.port p).open_ = false → Does (.stretchLimit t p r) s fun u => u.portH = s.portH ∧ u.portS = s.portS ∧ OnlyRegsQuiet [] s u) ∧
  (s.portH.open_ = true →
    (Does (.stretchLimit t .h true) s fun u => u.portH.sent = s.portH.sent ++ [0xFF] ∧ u.portH.ptr = s.portH.ptr ∧ u.reg Reg.H_LASTAB_COND = 6 ∧ u.reg Reg.H_FLAGS_STRLIM = 1) ∧
    (Does (.stretchLimit t .h false) s fun u => u.portH.sent = s.portH.sent ∧ u.portH.ptr = s.portH.ptr ∧ u.reg Reg.H_LASTAB_COND = 6 ∧
      u.reg Reg.H_STRCNT = min (2 ^ Reg.H_STRCNT.width - 1) (s.reg Reg.H_STRCNT + 1) ∧
      (s.portH.strAt = none → Raised 0x6212 3 0 (s.portH.page * 256 + s.portH.ptr) s u))) ∧
  (∀ w, Does (.araRead t w) s fun u => OnlyRegsQuiet [] s u ∧ u.halert = decide (u.icTop ≠ 0) ∧
    u.portH.sent = (if s.booted = true ∧ s.halert = true ∧ s.reg Reg.H_CFG_ARA = 1 ∧ w = true then [2 * s.reg Reg.H_ADDR] else s.portH.sent)) ∧
  (∀ r, (s.ic.notify = false ∨ s.supUp = false ∨ s.reg Reg.H_CFG_HNEN = 0 ∨ s.portH.open_ = true ∨ s.portH.backoff.isSome = true) → Does (.hostNotify t r) s fun u =>
    u.portH = s.portH ∧ OnlyRegsQuiet [] s u) ∧
  (s.ic.notify = true → s.supUp = true → s.reg Reg.H_CFG_HNEN = 1 → s.portH.open_ = false → s.portH.backoff = none → s.icTop ≠ 0 →
    (s.portH.stuckAt = none → Does (.hostNotify t .acked) s fun u => u.reg Reg.H_HNCNT = min (2 ^ Reg.H_HNCNT.width - 1) (s.reg Reg.H_HNCNT + 1) ∧
      u.portH.sent.take 3 = [0x10, 2 * s.reg Reg.H_ADDR, s.icTop] ∧ OnlyRegsQuiet [Reg.H_HNCNT] s u) ∧
    (∀ k, s.ic.attempts < 2 → Does (.hostNotify t (.nack k)) s fun u => u.ic.attempts = s.ic.attempts + 1 ∧ OnlyRegsQuiet [] s u) ∧
    (∀ k, 2 ≤ s.ic.attempts → Does (.hostNotify t (.nack k)) s fun u => u.ic.attempts = 0 ∧ u.reg Reg.H_FLAGS_CRKFAIL = 1 ∧ Raised 0x6241 2 0 k s u) ∧
    (s.ic.arb < 7 → Does (.hostNotify t .lostArb) s fun u => u.ic.arb = s.ic.arb + 1 ∧ u.reg Reg.H_ARBCNT = min (2 ^ Reg.H_ARBCNT.width - 1) (s.reg Reg.H_ARBCNT + 1))) ∧
  (∀ p, Does (.busRecovery t p .freed) s fun u => u.portH = s.portH ∧ u.portS = s.portS ∧ OnlyRegsQuiet [] s u) ∧
  (∀ r, s.croakDue .h = false → Does (.busRecovery t .h r) s fun u => u.portH = s.portH ∧ OnlyRegsQuiet [] s u) ∧
  (s.croakDue .h = true → s.supUp = true → s.portH.open_ = false → s.portH.backoff = none →
    (Does (.busRecovery t .h .sdaLow) s fun u => u.portH.backoff = some (max s.now t + edgeSec) ∧ u.portH.stuckAt.isSome = true ∧ u.reg Reg.H_FLAGS_STUCK = 1 ∧
      (s.portH.stuckAt = none → u.portH.stuckAt = some (max s.now t) ∧ Raised 0x6250 4 0 0 s u)) ∧
    (Does (.busRecovery t .h .sclLow) s fun u => u.portH.backoff = some (max s.now t + edgeSec) ∧ (s.portH.stuckAt = none → Raised 0x6250 4 0 1 s u))) ∧
  (∀ p, Does (.busStuckBackoff t p) s fun u => OnlyRegsQuiet [] s u ∧
    (u.port p).backoff = if (s.port p).backoff.any (fun b => b ≤ max s.now t) then none else (s.port p).backoff)

/-! Security (R425-R443). -/

/-- R425, R426, R427, R432, R442: the commands of SEC_CMD from port H with the supervisor up: a wrong key gives 3; a lifecycle or mode outside the row 2; no authority 4; an operand refused 5, each refusal but the
first with event 0x8122. PROVISION and RMA program the next lifecycle for the next power-on, DEPLOY for at once; KEYPROG fills an empty slot and REVOKE ends an ACTIVE slot, but never the last one or the slot of
the image in force; DROP_TOKEN ends the token. HALT, RESUME, TP_ON and TP_OFF need a CONTROL session on the debug port. -/
def Obligations.SecurityCommands : Prop := ∀ (t : Edges) (s : State), s.up →
  let refused := fun (cmd res : Nat) (u : State) => u.reg Reg.SEC_CMDRES = res ∧ u.otp = s.otp ∧ u.sec.token = s.sec.token ∧ u.core.sup = s.core.sup ∧
    OnlyRegs [Reg.SEC_CMDRES] s u ∧ Raised 0x8122 2 cmd res s u
  (∀ c : SecCmd, c.port = .h → c.key ≠ 0xA5 → (let wrong := fun u : State => u.reg Reg.SEC_CMDRES = 3 ∧ u.otp = s.otp ∧ u.sec = s.sec ∧ OnlyRegsQuiet [Reg.SEC_CMDRES] s u
    Does (.provision t c) s wrong ∧ Does (.deploy t c) s wrong ∧ Does (.rma t c) s wrong ∧ Does (.keyprog t c) s wrong ∧ Does (.revoke t c) s wrong ∧ Does (.halt t c) s wrong ∧
    Does (.debugResume t c) s wrong ∧ Does (.tpOn t c) s wrong ∧ Does (.tpOff t c) s wrong ∧ Does (.dropToken t c) s wrong)) ∧
  (∀ (arg : Byte) (duty : Code), (let c : SecCmd := ⟨.h, 0xA5, arg, duty⟩
    (s.lifecycle ≠ 0 ∨ s.mode ≠ modeLockout ∨ s.otp.hasActive = false → Does (.provision t c) s (refused 1 2)) ∧
    (s.lifecycle = 0 → s.mode = modeLockout → s.otp.hasActive = true → Does (.provision t c) s fun u => u.reg Reg.SEC_CMDRES = 1 ∧ u.otp.lifecycle = 1 ∧ u.lifecycle = 0 ∧
      u.otp.keys = s.otp.keys ∧ u.reg Reg.SEC_FLAGS_LIFECYCLE = 1 ∧ Raised 0x8130 3 0 (1 + 256) s u) ∧
    (s.lifecycle ≠ 1 ∨ s.mode = modeHoldup → Does (.deploy t c) s (refused 2 2)) ∧
    (s.lifecycle = 1 → s.mode ≠ modeHoldup → s.tokenScope 4 = false → Does (.deploy t c) s (refused 2 4)) ∧
    (s.lifecycle = 1 → s.mode ≠ modeHoldup → s.tokenScope 4 = true → Does (.deploy t c) s fun u => u.reg Reg.SEC_CMDRES = 1 ∧ u.otp.lifecycle = 2 ∧ u.lifecycle = 2 ∧
      (s.reg Reg.SEC_DBGLVL_LEVEL = 0 → Raised 0x8130 3 1 2 s u)) ∧
    (s.lifecycle ≠ 1 ∧ s.lifecycle ≠ 2 ∨ s.mode ≠ modeLockout → Does (.rma t c) s (refused 3 2)) ∧
    ((s.lifecycle = 1 ∨ s.lifecycle = 2) → s.mode = modeLockout → s.tokenScope 3 = false → Does (.rma t c) s (refused 3 4)) ∧
    ((s.lifecycle = 1 ∨ s.lifecycle = 2) → s.mode = modeLockout → s.tokenScope 3 = true → Does (.rma t c) s fun u => u.reg Reg.SEC_CMDRES = 1 ∧ u.otp.lifecycle = 3 ∧
      u.lifecycle = s.lifecycle ∧ Raised 0x8130 3 s.lifecycle (3 + 256) s u) ∧
    (1 < s.lifecycle ∨ s.mode ≠ modeLockout ∧ s.mode ≠ modeTadpole → Does (.keyprog t c) s (refused 0x10 2)) ∧
    (s.lifecycle = 1 → s.mode = modeLockout ∨ s.mode = modeTadpole → s.tokenScope 5 = false → Does (.keyprog t c) s (refused 0x10 4)) ∧
    (s.lifecycle = 0 → s.mode = modeLockout ∨ s.mode = modeTadpole → (4 ≤ arg.toNat ∨ ∃ k : Fin 4, k.val = arg.toNat ∧ s.otp.keys[k].st ≠ .empty) →
      Does (.keyprog t c) s (refused 0x10 5)) ∧
    (∀ k : Fin 4, k.val = arg.toNat → s.lifecycle = 0 → s.mode = modeLockout ∨ s.mode = modeTadpole → s.otp.keys[k].st = .empty →
      Config.onCurve s.keyStaged = true → Does (.keyprog t c) s fun u => u.reg Reg.SEC_CMDRES = 1 ∧ u.otp.keys[k].st = .active ∧ u.otp.keys[k].key = s.keyStaged ∧
        (∀ j : Fin 4, j ≠ k → u.otp.keys[j] = s.otp.keys[j]) ∧ u.otp.lifecycle = s.otp.lifecycle ∧ u.reg Reg.SEC_FLAGS_KEY = 1 ∧ Raised 0x8120 2 k s.lifecycle s u) ∧
    (s.mode = modeHoldup → Does (.revoke t c) s (refused 0x11 2)) ∧
    (s.lifecycle = 0 → s.mode ≠ modeHoldup → (4 ≤ arg.toNat ∨ arg.toNat = s.reg Reg.IMG_KEYSLOT ∨ s.otp.otherActive arg.toNat = false) →
      Does (.revoke t c) s (refused 0x11 5)) ∧
    (∀ k : Fin 4, k.val = arg.toNat → s.lifecycle = 0 → s.mode ≠ modeHoldup → k.val ≠ s.reg Reg.IMG_KEYSLOT → s.otp.otherActive k = true → s.sec.token = none →
      Does (.revoke t c) s fun u => u.reg Reg.SEC_CMDRES = 1 ∧ u.otp.keys[k].st = .revoked ∧ (∀ j : Fin 4, j ≠ k → u.otp.keys[j] = s.otp.keys[j]) ∧
        Raised 0x8121 3 k (s.reg Reg.IMG_KEYSLOT) s u) ∧
    (Does (.dropToken t c) s fun u => u.reg Reg.SEC_CMDRES = 1 ∧ u.sec.token = none ∧ u.otp = s.otp ∧
      (s.sec.token.isSome = true → u.reg Reg.SEC_SCOPE = 0 ∧ u.reg Reg.SEC_EXPIRY = 0 ∧ u.reg Reg.SEC_FLAGS_TOKEN = 1)) ∧
    (s.mode = modeTadpole ∨ s.mode = modeShadow ∨ s.mode = modeLockout → Does (.halt t c) s (refused 0x20 4)) ∧
    Does (.debugResume t c) s (refused 0x21 4) ∧ Does (.tpOff t c) s (refused 0x23 4))) ∧
  (s.reg Reg.SEC_DBGLVL_LEVEL = 2 → ∀ (arg : Byte) (duty : Code), (let c : SecCmd := ⟨.d, 0xA5, arg, duty⟩
    ((s.mode = modeTadpole ∨ s.mode = modeShadow ∨ s.mode = modeLockout) → s.core.sup = .running → Does (.halt t c) s fun u => u.reg Reg.SEC_CMDRES = 1 ∧
      u.core.sup = .halted (max s.now t) ∧ u.reg Reg.SEC_DBGLVL_HALT = 1 ∧ u.reg Reg.SEC_FLAGS_HALT = 1 ∧ Raised 0x8140 4 s.mode 0 s u) ∧
    ((s.mode = modeRun ∨ s.mode = modeHoldup) → Does (.halt t c) s (refused 0x20 2)) ∧
    ((s.lifecycle = 1 ∨ s.lifecycle = 2) → s.mode = modeTadpole → s.owner = true →
      (48 ≤ arg.toNat → Does (.tpOn t c) s (refused 0x22 2)) ∧
      (arg.toNat < 48 → Does (.tpOn t c) s fun u => u.reg Reg.SEC_CMDRES = 1 ∧ u.sec.pattern = some (arg.toNat, min duty.toNat 52429) ∧ u.reg Reg.SEC_DBGLVL_TP = 1 ∧
        Raised 0x8142 4 arg.toNat (min duty.toNat 52429) s u)) ∧
    (s.lifecycle = 0 ∨ s.lifecycle = 3 ∨ s.mode ≠ modeTadpole ∨ s.owner = false → Does (.tpOn t c) s (refused 0x22 2)) ∧
    (Does (.tpOff t c) s fun u => u.reg Reg.SEC_CMDRES = 1 ∧ u.sec.pattern = none ∧ u.reg Reg.SEC_DBGLVL_TP = 0 ∧ OnlyRegsQuiet [Reg.SEC_CMDRES, Reg.SEC_DBGLVL_TP] s u) ∧
    (Does (.debugResume t c) s fun u => u.reg Reg.SEC_CMDRES = 1 ∧ (s.core.sup = .running → u.core.sup = .running))))

/-- R442: a halted supervisor resumes by the debug port alone: RESUME ends the halt and raises 0x8141 with its length in ms. R430-R432, R435, R437, R441: a nonce read on port H or the debug port replaces the earlier one and lapses after 60 s; a token uses
up the nonce and is being verified; one that passes every check is in force with its scope and expiry, and one that fails any leaves the token in force, with event 0x8101; an expired token ends; a debug
request is granted by lifecycle, token and mode, or refused with event 0x8112; outside BLANK and RMA the TAP is held in reset. -/
def Obligations.TokensAndDebug : Prop := ∀ (t : Edges) (s : State), s.core.powered = true →
  (∀ (a : Byte) (d : Code) (h : Nat), s.core.sup = .halted h → s.reg Reg.SEC_DBGLVL_HALT = 1 → s.reg Reg.SEC_DBGLVL_LEVEL = 2 → s.core.heldEvents = [] →
    Does (.debugResume t ⟨.d, 0xA5, a, d⟩) s fun u => u.core.sup = .running ∧ u.reg Reg.SEC_DBGLVL_HALT = 0 ∧ u.reg Reg.SEC_CMDRES = 1 ∧
      ∃ r, u.log.last = some r ∧ (r.code = 0x8141 ∧ r.p0 = (max s.now t - h) / edgeMs % 2 ^ 32 ∧ r.p1 = 0 ∨ r.code = 0x7056)) ∧
  (∀ v, (∀ p ∈ [PortId.h, PortId.d], Does (.nonceDraw t p v) s fun u => u.sec.nonce = some (v, max s.now t) ∧ u.reg Reg.SEC_NONCE = v.toNat ∧ u.sec.token = s.sec.token ∧
      OnlyRegsQuiet [Reg.SEC_NONCE] s u) ∧
    (Does (.nonceDraw t .s v) s fun u => u.sec = s.sec ∧ OnlyRegsQuiet [] s u)) ∧
  (Does (.nonceExpiry t) s fun u => OnlyRegsQuiet [] s u ∧ u.sec.token = s.sec.token ∧
    u.sec.nonce = if s.sec.nonce.any (fun n => n.2 + 60 * edgeSec ≤ max s.now t) then none else s.sec.nonce) ∧
  (∀ p d, s.supUp = true → p ≠ .s → (s.sec.verifying = none → Does (.tokenSubmit t p d) s fun u => u.sec.nonce = none ∧ u.reg Reg.SEC_TOKRES = 1 ∧ u.sec.token = s.sec.token ∧
      OnlyRegsQuiet [Reg.SEC_TOKRES] s u ∧ ∃ v, u.sec.verifying = some v ∧ v.bytes = d ∧ v.debug = (p == .d) ∧ v.nonceOk = s.nonceMatches d) ∧
    (s.sec.verifying.isSome = true → Does (.tokenSubmit t p d) s fun u => u.sec = s.sec ∧ OnlyRegsQuiet [] s u)) ∧
  (s.sec.verifying = none ∨ s.supUp = false → Does (.tokenVerified t) s fun u => u.sec = s.sec ∧ OnlyRegsQuiet [] s u) ∧
  (∀ v, s.sec.verifying = some v → s.supUp = true →
    (s.tokenResult v ≠ 2 → Does (.tokenVerified t) s fun u => u.sec.token = s.sec.token ∧ u.sec.verifying = none ∧ u.reg Reg.SEC_TOKRES = s.tokenResult v ∧
      Raised 0x8101 3 (s.tokenResult v) (if v.debug then 1 else 0) s u) ∧
    (s.tokenResult v = 2 → v.nonceOk = true ∧ v.bytes.length = 104 ∧ leValue ((v.bytes.drop 4).take 16) = s.otp.devId.toNat ∧ s.mode ≠ modeHoldup ∧
      Does (.tokenVerified t) s fun u => u.reg Reg.SEC_TOKRES = 2 ∧ u.sec.verifying = none ∧
        ∃ k, u.sec.token = some k ∧ k.scope = (v.bytes.getD 1 0).toNat ∧ k.slot = (v.bytes.getD 2 0).toNat ∧ s.reg Reg.JRN_OPSEC < k.expiry ∧ s.otp.activeKey k.slot ≠ none) ∧
    (∀ b : List Byte, v.bytes = b → b.length ≠ 104 → s.tokenResult v = 3)) ∧
  (∀ k, s.sec.token = some k → s.reg Reg.JRN_OPSEC < k.expiry → Does (.tokenExpiry t) s fun u => u.sec = s.sec ∧ OnlyRegsQuiet [] s u) ∧
  (∀ k, s.sec.token = some k → k.expiry ≤ s.reg Reg.JRN_OPSEC → Does (.tokenExpiry t) s fun u => u.sec.token = none ∧ u.reg Reg.SEC_SCOPE = 0 ∧ u.reg Reg.SEC_EXPIRY = 0 ∧
    u.reg Reg.SEC_FLAGS_TOKEN = 1 ∧ (s.reg Reg.SEC_DBGLVL_LEVEL = 0 → Raised 0x8102 1 0 k.scope s u)) ∧
  (s.sec.token = none → Does (.tokenExpiry t) s fun u => u.sec = s.sec ∧ OnlyRegsQuiet [] s u) ∧
  (∀ l : Fin 4, (s.debugAllowed l s.mode = false → Does (.debugRequest t l) s fun u => u.reg Reg.SEC_DBGLVL_LEVEL = s.reg Reg.SEC_DBGLVL_LEVEL ∧ u.reg Reg.SEC_FLAGS_SESSION = 1 ∧
      Raised 0x8112 2 l s.mode s u) ∧
    (s.debugAllowed l s.mode = true → s.supUp = true → Does (.debugRequest t l) s fun u => u.reg Reg.SEC_DBGLVL_LEVEL = l.val ∧ u.reg Reg.SEC_FLAGS_SESSION = 1 ∧ Raised 0x8110 1 l s.mode s u)) ∧
  (∀ m, s.debugAllowed 0 m = true) ∧
  (s.lifecycle = 2 → s.sec.token = none → ∀ m, s.debugAllowed 1 m = false ∧ s.debugAllowed 2 m = false) ∧
  (∀ m, m ≠ modeLockout → s.lifecycle = 0 ∨ s.lifecycle = 3 → s.debugAllowed 1 m = false ∧ s.debugAllowed 2 m = false) ∧
  (∀ a b, (s.lifecycle ≠ 0 → s.lifecycle ≠ 3 → Does (.boundaryScan t a b) s fun u => u.sec.tap.st = .reset ∧ u.sec.tap.ir = 1 ∧ OnlyRegsQuiet [] s u) ∧
    (s.lifecycle = 0 ∨ s.lifecycle = 3 → Does (.boundaryScan t a b) s fun u => u.sec.tap.st = s.sec.tap.st.next a ∧ OnlyRegsQuiet [] s u))
end

