-- ==== Sys2Proof/Laws/Store.lean ====
section
/-! SUPPORT. The laws of the sparse stores: a read after a write to the same place gives the value written, a write
leaves every other place alone, and every operation keeps the canonical form. The read laws hold of every list. -/

namespace Sys2Proof.Laws

open Sys2Proof.Machine

theorem cellsFrom_none_of_some {l : Nat} {c : Cells} (h : cellsFrom (some l) c = true) :
    cellsFrom none c = true := by
  cases c with
  | nil => rfl
  | cons p c => simp only [cellsFrom, Bool.and_eq_true] at h ⊢; exact ⟨⟨trivial, h.1.2⟩, h.2⟩

theorem cellsFrom_mono {l l' : Nat} {c : Cells} (hl : l' ≤ l) (h : cellsFrom (some l) c = true) :
    cellsFrom (some l') c = true := by
  cases c with
  | nil => rfl
  | cons p c =>
    simp only [cellsFrom, Bool.and_eq_true, decide_eq_true_eq] at h ⊢
    exact ⟨⟨by omega, h.1.2⟩, h.2⟩

theorem cellDrop_from {c : Cells} {lo : Option Nat} {k : Nat} (h : cellsFrom lo c = true) :
    cellsFrom lo (cellDrop c k) = true := by
  induction c generalizing lo with
  | nil => exact h
  | cons p c ih =>
    simp only [cellsFrom, Bool.and_eq_true, decide_eq_true_eq] at h
    obtain ⟨⟨h1, h2⟩, h3⟩ := h
    by_cases hk : p.1 = k
    · simp only [cellDrop, hk, if_true]
      cases lo with
      | none => exact ih (cellsFrom_none_of_some h3)
      | some l => exact ih (cellsFrom_mono (by simp only [decide_eq_true_eq] at h1; omega) h3)
    · simp only [cellDrop, hk, if_false, cellsFrom, Bool.and_eq_true, decide_eq_true_eq]
      exact ⟨⟨h1, h2⟩, ih h3⟩

theorem cellPlace_from {c : Cells} {lo : Option Nat} {k v : Nat} (hv : v ≠ 0) (hk : ∀ l, lo = some l → l < k)
    (h : cellsFrom lo c = true) : cellsFrom lo (cellPlace c k v) = true := by
  induction c generalizing lo with
  | nil => cases lo <;> simp_all [cellPlace, cellsFrom]
  | cons p c ih =>
    simp only [cellsFrom, Bool.and_eq_true, decide_eq_true_eq] at h
    obtain ⟨⟨h1, h2⟩, h3⟩ := h
    by_cases he : p.1 = k
    · simp only [cellPlace, he, if_true, cellsFrom, Bool.and_eq_true, decide_eq_true_eq]
      exact ⟨⟨he ▸ h1, hv⟩, he ▸ h3⟩
    · by_cases hlt : k < p.1
      · simp only [cellPlace, he, hlt, if_true, if_false, cellsFrom, Bool.and_eq_true, decide_eq_true_eq]
        refine ⟨⟨?_, hv⟩, ⟨trivial, h2⟩, h3⟩
        cases lo with
        | none => rfl
        | some l => simpa using hk l rfl
      · simp only [cellPlace, he, hlt, if_false, cellsFrom, Bool.and_eq_true, decide_eq_true_eq]
        exact ⟨⟨h1, h2⟩, ih (by rintro l ⟨⟩; omega) h3⟩

/-- Every register write keeps the canonical form. -/
theorem cellSet_wf {c : Cells} {k v : Nat} (h : cellsWf c = true) : cellsWf (cellSet c k v) = true := by
  unfold cellsWf cellSet at *
  split
  · exact cellDrop_from h
  · exact cellPlace_from ‹_› (by simp) h

theorem cellGet_cellDrop {c : Cells} {j k : Nat} :
    cellGet (cellDrop c k) j = if j = k then 0 else cellGet c j := by
  induction c with
  | nil => simp [cellDrop, cellGet]
  | cons p c ih => by_cases h : p.1 = k <;> by_cases hj : k = j <;> simp_all [cellDrop, cellGet, Eq.comm (a := j)]

theorem cellGet_cellPlace {c : Cells} {j k v : Nat} :
    cellGet (cellPlace c k v) j = if j = k then v else cellGet c j := by
  induction c with
  | nil => by_cases hj : k = j <;> simp [cellPlace, cellGet, hj, Eq.comm (a := j)]
  | cons p c ih =>
    obtain ⟨a, u⟩ := p
    by_cases hj : j = k
    · subst hj
      by_cases h : a = j <;> by_cases hl : j < a <;> simp [cellPlace, cellGet, h, hl, ih]
    · have hj' : ¬ k = j := fun e => hj e.symm
      by_cases h : a = k <;> by_cases hl : k < a <;> simp [cellPlace, cellGet, h, hl, hj, hj', ih]

/-- A write leaves every other cell alone. -/
theorem cellGet_cellSet_other {c : Cells} {j k v : Nat} (hj : j ≠ k) :
    cellGet (cellSet c k v) j = cellGet c j := by
  unfold cellSet; split <;> simp [cellGet_cellDrop, cellGet_cellPlace, hj]

/-- A read after a write to the same cell gives the value written. -/
theorem cellGet_cellSet_same {c : Cells} {k v : Nat} : cellGet (cellSet c k v) k = v := by
  unfold cellSet; split <;> simp_all [cellGet_cellDrop, cellGet_cellPlace]

theorem memFrom_none_of_some {l : Nat} {m : Memory} (h : memFrom (some l) m = true) :
    memFrom none m = true := by
  cases m with
  | nil => rfl
  | cons p m => simp only [memFrom, Bool.and_eq_true] at h ⊢; exact ⟨⟨trivial, h.1.2⟩, h.2⟩

theorem memFrom_mono {l l' : Nat} {m : Memory} (hl : l' ≤ l) (h : memFrom (some l) m = true) :
    memFrom (some l') m = true := by
  cases m with
  | nil => rfl
  | cons p m =>
    simp only [memFrom, Bool.and_eq_true, decide_eq_true_eq] at h ⊢
    exact ⟨⟨by omega, h.1.2⟩, h.2⟩

theorem memDrop_from {m : Memory} {lo : Option Nat} {k : Nat} (h : memFrom lo m = true) :
    memFrom lo (memDrop m k) = true := by
  induction m generalizing lo with
  | nil => exact h
  | cons p m ih =>
    simp only [memFrom, Bool.and_eq_true, decide_eq_true_eq] at h
    obtain ⟨⟨h1, h2⟩, h3⟩ := h
    by_cases hk : p.1 = k
    · simp only [memDrop, hk, if_true]
      cases lo with
      | none => exact ih (memFrom_none_of_some h3)
      | some l => exact ih (memFrom_mono (by simp only [decide_eq_true_eq] at h1; omega) h3)
    · simp only [memDrop, hk, if_false, memFrom, Bool.and_eq_true, decide_eq_true_eq]
      exact ⟨⟨h1, h2⟩, ih h3⟩

theorem memPlace_from {m : Memory} {lo : Option Nat} {k : Nat} {v : Byte} (hv : v ≠ erasedByte)
    (hk : ∀ l, lo = some l → l < k) (h : memFrom lo m = true) : memFrom lo (memPlace m k v) = true := by
  induction m generalizing lo with
  | nil => cases lo <;> simp_all [memPlace, memFrom]
  | cons p m ih =>
    simp only [memFrom, Bool.and_eq_true, decide_eq_true_eq] at h
    obtain ⟨⟨h1, h2⟩, h3⟩ := h
    by_cases he : p.1 = k
    · simp only [memPlace, he, if_true, memFrom, Bool.and_eq_true, decide_eq_true_eq]
      exact ⟨⟨he ▸ h1, hv⟩, he ▸ h3⟩
    · by_cases hlt : k < p.1
      · simp only [memPlace, he, hlt, if_true, if_false, memFrom, Bool.and_eq_true, decide_eq_true_eq]
        refine ⟨⟨?_, hv⟩, ⟨trivial, h2⟩, h3⟩
        cases lo with
        | none => rfl
        | some l => simpa using hk l rfl
      · simp only [memPlace, he, hlt, if_false, memFrom, Bool.and_eq_true, decide_eq_true_eq]
        exact ⟨⟨h1, h2⟩, ih (by rintro l ⟨⟩; omega) h3⟩

/-- Every write to a flash slot keeps the canonical form. -/
theorem memWrite_wf {m : Memory} {k : Nat} {v : Byte} (h : Memory.wf m = true) :
    Memory.wf (memWrite m k v) = true := by
  unfold Memory.wf memWrite at *
  split
  · exact memDrop_from h
  · exact memPlace_from ‹_› (by simp) h

theorem memRead_memDrop {m : Memory} {j k : Nat} :
    memRead (memDrop m k) j = if j = k then erasedByte else memRead m j := by
  induction m with
  | nil => simp [memDrop, memRead]
  | cons p m ih => by_cases h : p.1 = k <;> by_cases hj : k = j <;> simp_all [memDrop, memRead, Eq.comm (a := j)]

theorem memRead_memPlace {m : Memory} {j k : Nat} {v : Byte} :
    memRead (memPlace m k v) j = if j = k then v else memRead m j := by
  induction m with
  | nil => by_cases hj : k = j <;> simp [memPlace, memRead, hj, Eq.comm (a := j)]
  | cons p m ih =>
    obtain ⟨a, u⟩ := p
    by_cases hj : j = k
    · subst hj
      by_cases h : a = j <;> by_cases hl : j < a <;> simp [memPlace, memRead, h, hl, ih]
    · have hj' : ¬ k = j := fun e => hj e.symm
      by_cases h : a = k <;> by_cases hl : k < a <;> simp [memPlace, memRead, h, hl, hj, hj', ih]

/-- A write leaves every other byte of the slot alone. -/
theorem memRead_memWrite_other {m : Memory} {j k : Nat} {v : Byte} (hj : j ≠ k) :
    memRead (memWrite m k v) j = memRead m j := by
  unfold memWrite; split <;> simp [memRead_memDrop, memRead_memPlace, hj]

/-- A read after a write to the same byte gives the byte written. -/
theorem memRead_memWrite_same {m : Memory} {k : Nat} {v : Byte} : memRead (memWrite m k v) k = v := by
  unfold memWrite; split <;> simp_all [memRead_memDrop, memRead_memPlace]

/-- Writing a run of bytes keeps the canonical form. -/
theorem memWriteBytes_wf {m : Memory} {k : Nat} {bs : List Byte} (h : Memory.wf m = true) :
    Memory.wf (memWriteBytes m k bs) = true := by
  induction bs generalizing m k with
  | nil => exact h
  | cons b bs ih => exact ih (memWrite_wf h)

/-- Bytes outside the run are left alone. -/
theorem memRead_memWriteBytes_other {m : Memory} {j k : Nat} {bs : List Byte} (hj : j < k ∨ k + bs.length ≤ j) :
    memRead (memWriteBytes m k bs) j = memRead m j := by
  induction bs generalizing m k with
  | nil => rfl
  | cons b bs ih =>
    simp only [List.length_cons] at hj
    rw [memWriteBytes, ih (by omega), memRead_memWrite_other (by omega)]

end Sys2Proof.Laws
end

