-- ==== Sys2Proof/Laws/State.lean ====
section
/-! SUPPORT. One lemma per field of State per named update: what the update writes, and that it writes nothing else. -/

namespace Sys2Proof.Laws

open Sys2Proof.Machine

variable (s : State)

@[simp] theorem put_pending (f : Field) (v : Nat) : (s.put f v).pending = s.pending := rfl
@[simp] theorem put_now (f : Field) (v : Nat) : (s.put f v).now = s.now := rfl
@[simp] theorem put_free (f : Field) (v : Nat) : (s.put f v).free = s.free := rfl
@[simp] theorem put_regs (f : Field) (v : Nat) : (s.put f v).regs = fieldPut s.regs f 0 v := rfl
@[simp] theorem put_shad (f : Field) (v : Nat) : (s.put f v).shad = s.shad := rfl
@[simp] theorem put_touched (f : Field) (v : Nat) : (s.put f v).touched = s.touched := rfl
@[simp] theorem put_core (f : Field) (v : Nat) : (s.put f v).core = s.core := rfl
@[simp] theorem put_vka (f : Field) (v : Nat) : (s.put f v).vka = s.vka := rfl
@[simp] theorem put_otp (f : Field) (v : Nat) : (s.put f v).otp = s.otp := rfl
@[simp] theorem put_flash (f : Field) (v : Nat) : (s.put f v).flash = s.flash := rfl
@[simp] theorem put_jrn (f : Field) (v : Nat) : (s.put f v).jrn = s.jrn := rfl
@[simp] theorem put_log (f : Field) (v : Nat) : (s.put f v).log = s.log := rfl
@[simp] theorem put_ic (f : Field) (v : Nat) : (s.put f v).ic = s.ic := rfl
@[simp] theorem put_portH (f : Field) (v : Nat) : (s.put f v).portH = s.portH := rfl
@[simp] theorem put_portS (f : Field) (v : Nat) : (s.put f v).portS = s.portS := rfl
@[simp] theorem put_portD (f : Field) (v : Nat) : (s.put f v).portD = s.portD := rfl
@[simp] theorem put_sec (f : Field) (v : Nat) : (s.put f v).sec = s.sec := rfl
@[simp] theorem put_img (f : Field) (v : Nat) : (s.put f v).img = s.img := rfl
@[simp] theorem put_wheel (f : Field) (v : Nat) : (s.put f v).wheel = s.wheel := rfl
@[simp] theorem put_twin (f : Field) (v : Nat) : (s.put f v).twin = s.twin := rfl
@[simp] theorem put_phases (f : Field) (v : Nat) : (s.put f v).phases = s.phases := rfl
@[simp] theorem put_bays (f : Field) (v : Nat) : (s.put f v).bays = s.bays := rfl
@[simp] theorem put_fuses (f : Field) (v : Nat) : (s.put f v).fuses = s.fuses := rfl
@[simp] theorem put_sup (f : Field) (v : Nat) : (s.put f v).sup = s.sup := rfl
@[simp] theorem put_step (f : Field) (v : Nat) : (s.put f v).step = s.step := rfl
@[simp] theorem put_sensors (f : Field) (v : Nat) : (s.put f v).sensors = s.sensors := rfl
@[simp] theorem put_thm (f : Field) (v : Nat) : (s.put f v).thm = s.thm := rfl
@[simp] theorem put_strs (f : Field) (v : Nat) : (s.put f v).strs = s.strs := rfl
@[simp] theorem put_ests (f : Field) (v : Nat) : (s.put f v).ests = s.ests := rfl
@[simp] theorem put_est (f : Field) (v : Nat) : (s.put f v).est = s.est := rfl
@[simp] theorem put_hup (f : Field) (v : Nat) : (s.put f v).hup = s.hup := rfl
@[simp] theorem put_tlm (f : Field) (v : Nat) : (s.put f v).tlm = s.tlm := rfl
@[simp] theorem put_cap (f : Field) (v : Nat) : (s.put f v).cap = s.cap := rfl

@[simp] theorem putAt_pending (f : Field) (i v : Nat) : (s.putAt f i v).pending = s.pending := rfl
@[simp] theorem putAt_now (f : Field) (i v : Nat) : (s.putAt f i v).now = s.now := rfl
@[simp] theorem putAt_free (f : Field) (i v : Nat) : (s.putAt f i v).free = s.free := rfl
@[simp] theorem putAt_regs (f : Field) (i v : Nat) : (s.putAt f i v).regs = fieldPut s.regs f i v := rfl
@[simp] theorem putAt_shad (f : Field) (i v : Nat) : (s.putAt f i v).shad = s.shad := rfl
@[simp] theorem putAt_touched (f : Field) (i v : Nat) : (s.putAt f i v).touched = s.touched := rfl
@[simp] theorem putAt_core (f : Field) (i v : Nat) : (s.putAt f i v).core = s.core := rfl
@[simp] theorem putAt_vka (f : Field) (i v : Nat) : (s.putAt f i v).vka = s.vka := rfl
@[simp] theorem putAt_otp (f : Field) (i v : Nat) : (s.putAt f i v).otp = s.otp := rfl
@[simp] theorem putAt_flash (f : Field) (i v : Nat) : (s.putAt f i v).flash = s.flash := rfl
@[simp] theorem putAt_jrn (f : Field) (i v : Nat) : (s.putAt f i v).jrn = s.jrn := rfl
@[simp] theorem putAt_log (f : Field) (i v : Nat) : (s.putAt f i v).log = s.log := rfl
@[simp] theorem putAt_ic (f : Field) (i v : Nat) : (s.putAt f i v).ic = s.ic := rfl
@[simp] theorem putAt_portH (f : Field) (i v : Nat) : (s.putAt f i v).portH = s.portH := rfl
@[simp] theorem putAt_portS (f : Field) (i v : Nat) : (s.putAt f i v).portS = s.portS := rfl
@[simp] theorem putAt_portD (f : Field) (i v : Nat) : (s.putAt f i v).portD = s.portD := rfl
@[simp] theorem putAt_sec (f : Field) (i v : Nat) : (s.putAt f i v).sec = s.sec := rfl
@[simp] theorem putAt_img (f : Field) (i v : Nat) : (s.putAt f i v).img = s.img := rfl
@[simp] theorem putAt_wheel (f : Field) (i v : Nat) : (s.putAt f i v).wheel = s.wheel := rfl
@[simp] theorem putAt_twin (f : Field) (i v : Nat) : (s.putAt f i v).twin = s.twin := rfl
@[simp] theorem putAt_phases (f : Field) (i v : Nat) : (s.putAt f i v).phases = s.phases := rfl
@[simp] theorem putAt_bays (f : Field) (i v : Nat) : (s.putAt f i v).bays = s.bays := rfl
@[simp] theorem putAt_fuses (f : Field) (i v : Nat) : (s.putAt f i v).fuses = s.fuses := rfl
@[simp] theorem putAt_sup (f : Field) (i v : Nat) : (s.putAt f i v).sup = s.sup := rfl
@[simp] theorem putAt_step (f : Field) (i v : Nat) : (s.putAt f i v).step = s.step := rfl
@[simp] theorem putAt_sensors (f : Field) (i v : Nat) : (s.putAt f i v).sensors = s.sensors := rfl
@[simp] theorem putAt_thm (f : Field) (i v : Nat) : (s.putAt f i v).thm = s.thm := rfl
@[simp] theorem putAt_strs (f : Field) (i v : Nat) : (s.putAt f i v).strs = s.strs := rfl
@[simp] theorem putAt_ests (f : Field) (i v : Nat) : (s.putAt f i v).ests = s.ests := rfl
@[simp] theorem putAt_est (f : Field) (i v : Nat) : (s.putAt f i v).est = s.est := rfl
@[simp] theorem putAt_hup (f : Field) (i v : Nat) : (s.putAt f i v).hup = s.hup := rfl
@[simp] theorem putAt_tlm (f : Field) (i v : Nat) : (s.putAt f i v).tlm = s.tlm := rfl
@[simp] theorem putAt_cap (f : Field) (i v : Nat) : (s.putAt f i v).cap = s.cap := rfl

@[simp] theorem putShad_pending (f : Field) (i v : Nat) : (s.putShad f i v).pending = s.pending := rfl
@[simp] theorem putShad_now (f : Field) (i v : Nat) : (s.putShad f i v).now = s.now := rfl
@[simp] theorem putShad_free (f : Field) (i v : Nat) : (s.putShad f i v).free = s.free := rfl
@[simp] theorem putShad_regs (f : Field) (i v : Nat) : (s.putShad f i v).regs = s.regs := rfl
@[simp] theorem putShad_shad (f : Field) (i v : Nat) : (s.putShad f i v).shad = fieldPut s.shad f i v := rfl
@[simp] theorem putShad_touched (f : Field) (i v : Nat) : (s.putShad f i v).touched = s.touched := rfl
@[simp] theorem putShad_core (f : Field) (i v : Nat) : (s.putShad f i v).core = s.core := rfl
@[simp] theorem putShad_vka (f : Field) (i v : Nat) : (s.putShad f i v).vka = s.vka := rfl
@[simp] theorem putShad_otp (f : Field) (i v : Nat) : (s.putShad f i v).otp = s.otp := rfl
@[simp] theorem putShad_flash (f : Field) (i v : Nat) : (s.putShad f i v).flash = s.flash := rfl
@[simp] theorem putShad_jrn (f : Field) (i v : Nat) : (s.putShad f i v).jrn = s.jrn := rfl
@[simp] theorem putShad_log (f : Field) (i v : Nat) : (s.putShad f i v).log = s.log := rfl
@[simp] theorem putShad_ic (f : Field) (i v : Nat) : (s.putShad f i v).ic = s.ic := rfl
@[simp] theorem putShad_portH (f : Field) (i v : Nat) : (s.putShad f i v).portH = s.portH := rfl
@[simp] theorem putShad_portS (f : Field) (i v : Nat) : (s.putShad f i v).portS = s.portS := rfl
@[simp] theorem putShad_portD (f : Field) (i v : Nat) : (s.putShad f i v).portD = s.portD := rfl
@[simp] theorem putShad_sec (f : Field) (i v : Nat) : (s.putShad f i v).sec = s.sec := rfl
@[simp] theorem putShad_img (f : Field) (i v : Nat) : (s.putShad f i v).img = s.img := rfl
@[simp] theorem putShad_wheel (f : Field) (i v : Nat) : (s.putShad f i v).wheel = s.wheel := rfl
@[simp] theorem putShad_twin (f : Field) (i v : Nat) : (s.putShad f i v).twin = s.twin := rfl
@[simp] theorem putShad_phases (f : Field) (i v : Nat) : (s.putShad f i v).phases = s.phases := rfl
@[simp] theorem putShad_bays (f : Field) (i v : Nat) : (s.putShad f i v).bays = s.bays := rfl
@[simp] theorem putShad_fuses (f : Field) (i v : Nat) : (s.putShad f i v).fuses = s.fuses := rfl
@[simp] theorem putShad_sup (f : Field) (i v : Nat) : (s.putShad f i v).sup = s.sup := rfl
@[simp] theorem putShad_step (f : Field) (i v : Nat) : (s.putShad f i v).step = s.step := rfl
@[simp] theorem putShad_sensors (f : Field) (i v : Nat) : (s.putShad f i v).sensors = s.sensors := rfl
@[simp] theorem putShad_thm (f : Field) (i v : Nat) : (s.putShad f i v).thm = s.thm := rfl
@[simp] theorem putShad_strs (f : Field) (i v : Nat) : (s.putShad f i v).strs = s.strs := rfl
@[simp] theorem putShad_ests (f : Field) (i v : Nat) : (s.putShad f i v).ests = s.ests := rfl
@[simp] theorem putShad_est (f : Field) (i v : Nat) : (s.putShad f i v).est = s.est := rfl
@[simp] theorem putShad_hup (f : Field) (i v : Nat) : (s.putShad f i v).hup = s.hup := rfl
@[simp] theorem putShad_tlm (f : Field) (i v : Nat) : (s.putShad f i v).tlm = s.tlm := rfl
@[simp] theorem putShad_cap (f : Field) (i v : Nat) : (s.putShad f i v).cap = s.cap := rfl

@[simp] theorem touch_pending (p : Nat) : (s.touch p).pending = s.pending := rfl
@[simp] theorem touch_now (p : Nat) : (s.touch p).now = s.now := rfl
@[simp] theorem touch_free (p : Nat) : (s.touch p).free = s.free := rfl
@[simp] theorem touch_regs (p : Nat) : (s.touch p).regs = s.regs := rfl
@[simp] theorem touch_shad (p : Nat) : (s.touch p).shad = s.shad := rfl
@[simp] theorem touch_touched (p : Nat) : (s.touch p).touched = setBit s.touched p true := rfl
@[simp] theorem touch_core (p : Nat) : (s.touch p).core = s.core := rfl
@[simp] theorem touch_vka (p : Nat) : (s.touch p).vka = s.vka := rfl
@[simp] theorem touch_otp (p : Nat) : (s.touch p).otp = s.otp := rfl
@[simp] theorem touch_flash (p : Nat) : (s.touch p).flash = s.flash := rfl
@[simp] theorem touch_jrn (p : Nat) : (s.touch p).jrn = s.jrn := rfl
@[simp] theorem touch_log (p : Nat) : (s.touch p).log = s.log := rfl
@[simp] theorem touch_ic (p : Nat) : (s.touch p).ic = s.ic := rfl
@[simp] theorem touch_portH (p : Nat) : (s.touch p).portH = s.portH := rfl
@[simp] theorem touch_portS (p : Nat) : (s.touch p).portS = s.portS := rfl
@[simp] theorem touch_portD (p : Nat) : (s.touch p).portD = s.portD := rfl
@[simp] theorem touch_sec (p : Nat) : (s.touch p).sec = s.sec := rfl
@[simp] theorem touch_img (p : Nat) : (s.touch p).img = s.img := rfl
@[simp] theorem touch_wheel (p : Nat) : (s.touch p).wheel = s.wheel := rfl
@[simp] theorem touch_twin (p : Nat) : (s.touch p).twin = s.twin := rfl
@[simp] theorem touch_phases (p : Nat) : (s.touch p).phases = s.phases := rfl
@[simp] theorem touch_bays (p : Nat) : (s.touch p).bays = s.bays := rfl
@[simp] theorem touch_fuses (p : Nat) : (s.touch p).fuses = s.fuses := rfl
@[simp] theorem touch_sup (p : Nat) : (s.touch p).sup = s.sup := rfl
@[simp] theorem touch_step (p : Nat) : (s.touch p).step = s.step := rfl
@[simp] theorem touch_sensors (p : Nat) : (s.touch p).sensors = s.sensors := rfl
@[simp] theorem touch_thm (p : Nat) : (s.touch p).thm = s.thm := rfl
@[simp] theorem touch_strs (p : Nat) : (s.touch p).strs = s.strs := rfl
@[simp] theorem touch_ests (p : Nat) : (s.touch p).ests = s.ests := rfl
@[simp] theorem touch_est (p : Nat) : (s.touch p).est = s.est := rfl
@[simp] theorem touch_hup (p : Nat) : (s.touch p).hup = s.hup := rfl
@[simp] theorem touch_tlm (p : Nat) : (s.touch p).tlm = s.tlm := rfl
@[simp] theorem touch_cap (p : Nat) : (s.touch p).cap = s.cap := rfl

@[simp] theorem at_pending (t : Edges) : (s.at t).pending = s.pending := rfl
@[simp] theorem at_now (t : Edges) : (s.at t).now = max s.now t := rfl
@[simp] theorem at_free (t : Edges) : (s.at t).free = s.free := rfl
@[simp] theorem at_regs (t : Edges) : (s.at t).regs = s.regs := rfl
@[simp] theorem at_shad (t : Edges) : (s.at t).shad = s.shad := rfl
@[simp] theorem at_touched (t : Edges) : (s.at t).touched = s.touched := rfl
@[simp] theorem at_core (t : Edges) : (s.at t).core = s.core := rfl
@[simp] theorem at_vka (t : Edges) : (s.at t).vka = s.vka := rfl
@[simp] theorem at_otp (t : Edges) : (s.at t).otp = s.otp := rfl
@[simp] theorem at_flash (t : Edges) : (s.at t).flash = s.flash := rfl
@[simp] theorem at_jrn (t : Edges) : (s.at t).jrn = s.jrn := rfl
@[simp] theorem at_log (t : Edges) : (s.at t).log = s.log := rfl
@[simp] theorem at_ic (t : Edges) : (s.at t).ic = s.ic := rfl
@[simp] theorem at_portH (t : Edges) : (s.at t).portH = s.portH := rfl
@[simp] theorem at_portS (t : Edges) : (s.at t).portS = s.portS := rfl
@[simp] theorem at_portD (t : Edges) : (s.at t).portD = s.portD := rfl
@[simp] theorem at_sec (t : Edges) : (s.at t).sec = s.sec := rfl
@[simp] theorem at_img (t : Edges) : (s.at t).img = s.img := rfl
@[simp] theorem at_wheel (t : Edges) : (s.at t).wheel = s.wheel := rfl
@[simp] theorem at_twin (t : Edges) : (s.at t).twin = s.twin := rfl
@[simp] theorem at_phases (t : Edges) : (s.at t).phases = s.phases := rfl
@[simp] theorem at_bays (t : Edges) : (s.at t).bays = s.bays := rfl
@[simp] theorem at_fuses (t : Edges) : (s.at t).fuses = s.fuses := rfl
@[simp] theorem at_sup (t : Edges) : (s.at t).sup = s.sup := rfl
@[simp] theorem at_step (t : Edges) : (s.at t).step = s.step := rfl
@[simp] theorem at_sensors (t : Edges) : (s.at t).sensors = s.sensors := rfl
@[simp] theorem at_thm (t : Edges) : (s.at t).thm = s.thm := rfl
@[simp] theorem at_strs (t : Edges) : (s.at t).strs = s.strs := rfl
@[simp] theorem at_ests (t : Edges) : (s.at t).ests = s.ests := rfl
@[simp] theorem at_est (t : Edges) : (s.at t).est = s.est := rfl
@[simp] theorem at_hup (t : Edges) : (s.at t).hup = s.hup := rfl
@[simp] theorem at_tlm (t : Edges) : (s.at t).tlm = s.tlm := rfl
@[simp] theorem at_cap (t : Edges) : (s.at t).cap = s.cap := rfl

@[simp] theorem setPh_pending (n : Nat) (v : PhaseSt) : (s.setPh n v).pending = s.pending := rfl
@[simp] theorem setPh_now (n : Nat) (v : PhaseSt) : (s.setPh n v).now = s.now := rfl
@[simp] theorem setPh_free (n : Nat) (v : PhaseSt) : (s.setPh n v).free = s.free := rfl
@[simp] theorem setPh_regs (n : Nat) (v : PhaseSt) : (s.setPh n v).regs = s.regs := rfl
@[simp] theorem setPh_shad (n : Nat) (v : PhaseSt) : (s.setPh n v).shad = s.shad := rfl
@[simp] theorem setPh_touched (n : Nat) (v : PhaseSt) : (s.setPh n v).touched = s.touched := rfl
@[simp] theorem setPh_core (n : Nat) (v : PhaseSt) : (s.setPh n v).core = s.core := rfl
@[simp] theorem setPh_vka (n : Nat) (v : PhaseSt) : (s.setPh n v).vka = s.vka := rfl
@[simp] theorem setPh_otp (n : Nat) (v : PhaseSt) : (s.setPh n v).otp = s.otp := rfl
@[simp] theorem setPh_flash (n : Nat) (v : PhaseSt) : (s.setPh n v).flash = s.flash := rfl
@[simp] theorem setPh_jrn (n : Nat) (v : PhaseSt) : (s.setPh n v).jrn = s.jrn := rfl
@[simp] theorem setPh_log (n : Nat) (v : PhaseSt) : (s.setPh n v).log = s.log := rfl
@[simp] theorem setPh_ic (n : Nat) (v : PhaseSt) : (s.setPh n v).ic = s.ic := rfl
@[simp] theorem setPh_portH (n : Nat) (v : PhaseSt) : (s.setPh n v).portH = s.portH := rfl
@[simp] theorem setPh_portS (n : Nat) (v : PhaseSt) : (s.setPh n v).portS = s.portS := rfl
@[simp] theorem setPh_portD (n : Nat) (v : PhaseSt) : (s.setPh n v).portD = s.portD := rfl
@[simp] theorem setPh_sec (n : Nat) (v : PhaseSt) : (s.setPh n v).sec = s.sec := rfl
@[simp] theorem setPh_img (n : Nat) (v : PhaseSt) : (s.setPh n v).img = s.img := rfl
@[simp] theorem setPh_wheel (n : Nat) (v : PhaseSt) : (s.setPh n v).wheel = s.wheel := rfl
@[simp] theorem setPh_twin (n : Nat) (v : PhaseSt) : (s.setPh n v).twin = s.twin := rfl
@[simp] theorem setPh_phases (n : Nat) (v : PhaseSt) : (s.setPh n v).phases = s.phases.setIfInBounds n v := rfl
@[simp] theorem setPh_bays (n : Nat) (v : PhaseSt) : (s.setPh n v).bays = s.bays := rfl
@[simp] theorem setPh_fuses (n : Nat) (v : PhaseSt) : (s.setPh n v).fuses = s.fuses := rfl
@[simp] theorem setPh_sup (n : Nat) (v : PhaseSt) : (s.setPh n v).sup = s.sup := rfl
@[simp] theorem setPh_step (n : Nat) (v : PhaseSt) : (s.setPh n v).step = s.step := rfl
@[simp] theorem setPh_sensors (n : Nat) (v : PhaseSt) : (s.setPh n v).sensors = s.sensors := rfl
@[simp] theorem setPh_thm (n : Nat) (v : PhaseSt) : (s.setPh n v).thm = s.thm := rfl
@[simp] theorem setPh_strs (n : Nat) (v : PhaseSt) : (s.setPh n v).strs = s.strs := rfl
@[simp] theorem setPh_ests (n : Nat) (v : PhaseSt) : (s.setPh n v).ests = s.ests := rfl
@[simp] theorem setPh_est (n : Nat) (v : PhaseSt) : (s.setPh n v).est = s.est := rfl
@[simp] theorem setPh_hup (n : Nat) (v : PhaseSt) : (s.setPh n v).hup = s.hup := rfl
@[simp] theorem setPh_tlm (n : Nat) (v : PhaseSt) : (s.setPh n v).tlm = s.tlm := rfl
@[simp] theorem setPh_cap (n : Nat) (v : PhaseSt) : (s.setPh n v).cap = s.cap := rfl

@[simp] theorem setBay_pending (b : Nat) (v : BaySt) : (s.setBay b v).pending = s.pending := rfl
@[simp] theorem setBay_now (b : Nat) (v : BaySt) : (s.setBay b v).now = s.now := rfl
@[simp] theorem setBay_free (b : Nat) (v : BaySt) : (s.setBay b v).free = s.free := rfl
@[simp] theorem setBay_regs (b : Nat) (v : BaySt) : (s.setBay b v).regs = s.regs := rfl
@[simp] theorem setBay_shad (b : Nat) (v : BaySt) : (s.setBay b v).shad = s.shad := rfl
@[simp] theorem setBay_touched (b : Nat) (v : BaySt) : (s.setBay b v).touched = s.touched := rfl
@[simp] theorem setBay_core (b : Nat) (v : BaySt) : (s.setBay b v).core = s.core := rfl
@[simp] theorem setBay_vka (b : Nat) (v : BaySt) : (s.setBay b v).vka = s.vka := rfl
@[simp] theorem setBay_otp (b : Nat) (v : BaySt) : (s.setBay b v).otp = s.otp := rfl
@[simp] theorem setBay_flash (b : Nat) (v : BaySt) : (s.setBay b v).flash = s.flash := rfl
@[simp] theorem setBay_jrn (b : Nat) (v : BaySt) : (s.setBay b v).jrn = s.jrn := rfl
@[simp] theorem setBay_log (b : Nat) (v : BaySt) : (s.setBay b v).log = s.log := rfl
@[simp] theorem setBay_ic (b : Nat) (v : BaySt) : (s.setBay b v).ic = s.ic := rfl
@[simp] theorem setBay_portH (b : Nat) (v : BaySt) : (s.setBay b v).portH = s.portH := rfl
@[simp] theorem setBay_portS (b : Nat) (v : BaySt) : (s.setBay b v).portS = s.portS := rfl
@[simp] theorem setBay_portD (b : Nat) (v : BaySt) : (s.setBay b v).portD = s.portD := rfl
@[simp] theorem setBay_sec (b : Nat) (v : BaySt) : (s.setBay b v).sec = s.sec := rfl
@[simp] theorem setBay_img (b : Nat) (v : BaySt) : (s.setBay b v).img = s.img := rfl
@[simp] theorem setBay_wheel (b : Nat) (v : BaySt) : (s.setBay b v).wheel = s.wheel := rfl
@[simp] theorem setBay_twin (b : Nat) (v : BaySt) : (s.setBay b v).twin = s.twin := rfl
@[simp] theorem setBay_phases (b : Nat) (v : BaySt) : (s.setBay b v).phases = s.phases := rfl
@[simp] theorem setBay_bays (b : Nat) (v : BaySt) : (s.setBay b v).bays = s.bays.setIfInBounds b v := rfl
@[simp] theorem setBay_fuses (b : Nat) (v : BaySt) : (s.setBay b v).fuses = s.fuses := rfl
@[simp] theorem setBay_sup (b : Nat) (v : BaySt) : (s.setBay b v).sup = s.sup := rfl
@[simp] theorem setBay_step (b : Nat) (v : BaySt) : (s.setBay b v).step = s.step := rfl
@[simp] theorem setBay_sensors (b : Nat) (v : BaySt) : (s.setBay b v).sensors = s.sensors := rfl
@[simp] theorem setBay_thm (b : Nat) (v : BaySt) : (s.setBay b v).thm = s.thm := rfl
@[simp] theorem setBay_strs (b : Nat) (v : BaySt) : (s.setBay b v).strs = s.strs := rfl
@[simp] theorem setBay_ests (b : Nat) (v : BaySt) : (s.setBay b v).ests = s.ests := rfl
@[simp] theorem setBay_est (b : Nat) (v : BaySt) : (s.setBay b v).est = s.est := rfl
@[simp] theorem setBay_hup (b : Nat) (v : BaySt) : (s.setBay b v).hup = s.hup := rfl
@[simp] theorem setBay_tlm (b : Nat) (v : BaySt) : (s.setBay b v).tlm = s.tlm := rfl
@[simp] theorem setBay_cap (b : Nat) (v : BaySt) : (s.setBay b v).cap = s.cap := rfl

@[simp] theorem setFuse_pending (c : Nat) (v : FuseSt) : (s.setFuse c v).pending = s.pending := rfl
@[simp] theorem setFuse_now (c : Nat) (v : FuseSt) : (s.setFuse c v).now = s.now := rfl
@[simp] theorem setFuse_free (c : Nat) (v : FuseSt) : (s.setFuse c v).free = s.free := rfl
@[simp] theorem setFuse_regs (c : Nat) (v : FuseSt) : (s.setFuse c v).regs = s.regs := rfl
@[simp] theorem setFuse_shad (c : Nat) (v : FuseSt) : (s.setFuse c v).shad = s.shad := rfl
@[simp] theorem setFuse_touched (c : Nat) (v : FuseSt) : (s.setFuse c v).touched = s.touched := rfl
@[simp] theorem setFuse_core (c : Nat) (v : FuseSt) : (s.setFuse c v).core = s.core := rfl
@[simp] theorem setFuse_vka (c : Nat) (v : FuseSt) : (s.setFuse c v).vka = s.vka := rfl
@[simp] theorem setFuse_otp (c : Nat) (v : FuseSt) : (s.setFuse c v).otp = s.otp := rfl
@[simp] theorem setFuse_flash (c : Nat) (v : FuseSt) : (s.setFuse c v).flash = s.flash := rfl
@[simp] theorem setFuse_jrn (c : Nat) (v : FuseSt) : (s.setFuse c v).jrn = s.jrn := rfl
@[simp] theorem setFuse_log (c : Nat) (v : FuseSt) : (s.setFuse c v).log = s.log := rfl
@[simp] theorem setFuse_ic (c : Nat) (v : FuseSt) : (s.setFuse c v).ic = s.ic := rfl
@[simp] theorem setFuse_portH (c : Nat) (v : FuseSt) : (s.setFuse c v).portH = s.portH := rfl
@[simp] theorem setFuse_portS (c : Nat) (v : FuseSt) : (s.setFuse c v).portS = s.portS := rfl
@[simp] theorem setFuse_portD (c : Nat) (v : FuseSt) : (s.setFuse c v).portD = s.portD := rfl
@[simp] theorem setFuse_sec (c : Nat) (v : FuseSt) : (s.setFuse c v).sec = s.sec := rfl
@[simp] theorem setFuse_img (c : Nat) (v : FuseSt) : (s.setFuse c v).img = s.img := rfl
@[simp] theorem setFuse_wheel (c : Nat) (v : FuseSt) : (s.setFuse c v).wheel = s.wheel := rfl
@[simp] theorem setFuse_twin (c : Nat) (v : FuseSt) : (s.setFuse c v).twin = s.twin := rfl
@[simp] theorem setFuse_phases (c : Nat) (v : FuseSt) : (s.setFuse c v).phases = s.phases := rfl
@[simp] theorem setFuse_bays (c : Nat) (v : FuseSt) : (s.setFuse c v).bays = s.bays := rfl
@[simp] theorem setFuse_fuses (c : Nat) (v : FuseSt) : (s.setFuse c v).fuses = s.fuses.setIfInBounds c v := rfl
@[simp] theorem setFuse_sup (c : Nat) (v : FuseSt) : (s.setFuse c v).sup = s.sup := rfl
@[simp] theorem setFuse_step (c : Nat) (v : FuseSt) : (s.setFuse c v).step = s.step := rfl
@[simp] theorem setFuse_sensors (c : Nat) (v : FuseSt) : (s.setFuse c v).sensors = s.sensors := rfl
@[simp] theorem setFuse_thm (c : Nat) (v : FuseSt) : (s.setFuse c v).thm = s.thm := rfl
@[simp] theorem setFuse_strs (c : Nat) (v : FuseSt) : (s.setFuse c v).strs = s.strs := rfl
@[simp] theorem setFuse_ests (c : Nat) (v : FuseSt) : (s.setFuse c v).ests = s.ests := rfl
@[simp] theorem setFuse_est (c : Nat) (v : FuseSt) : (s.setFuse c v).est = s.est := rfl
@[simp] theorem setFuse_hup (c : Nat) (v : FuseSt) : (s.setFuse c v).hup = s.hup := rfl
@[simp] theorem setFuse_tlm (c : Nat) (v : FuseSt) : (s.setFuse c v).tlm = s.tlm := rfl
@[simp] theorem setFuse_cap (c : Nat) (v : FuseSt) : (s.setFuse c v).cap = s.cap := rfl

@[simp] theorem setStr_pending (k : Nat) (v : StrSt) : (s.setStr k v).pending = s.pending := rfl
@[simp] theorem setStr_now (k : Nat) (v : StrSt) : (s.setStr k v).now = s.now := rfl
@[simp] theorem setStr_free (k : Nat) (v : StrSt) : (s.setStr k v).free = s.free := rfl
@[simp] theorem setStr_regs (k : Nat) (v : StrSt) : (s.setStr k v).regs = s.regs := rfl
@[simp] theorem setStr_shad (k : Nat) (v : StrSt) : (s.setStr k v).shad = s.shad := rfl
@[simp] theorem setStr_touched (k : Nat) (v : StrSt) : (s.setStr k v).touched = s.touched := rfl
@[simp] theorem setStr_core (k : Nat) (v : StrSt) : (s.setStr k v).core = s.core := rfl
@[simp] theorem setStr_vka (k : Nat) (v : StrSt) : (s.setStr k v).vka = s.vka := rfl
@[simp] theorem setStr_otp (k : Nat) (v : StrSt) : (s.setStr k v).otp = s.otp := rfl
@[simp] theorem setStr_flash (k : Nat) (v : StrSt) : (s.setStr k v).flash = s.flash := rfl
@[simp] theorem setStr_jrn (k : Nat) (v : StrSt) : (s.setStr k v).jrn = s.jrn := rfl
@[simp] theorem setStr_log (k : Nat) (v : StrSt) : (s.setStr k v).log = s.log := rfl
@[simp] theorem setStr_ic (k : Nat) (v : StrSt) : (s.setStr k v).ic = s.ic := rfl
@[simp] theorem setStr_portH (k : Nat) (v : StrSt) : (s.setStr k v).portH = s.portH := rfl
@[simp] theorem setStr_portS (k : Nat) (v : StrSt) : (s.setStr k v).portS = s.portS := rfl
@[simp] theorem setStr_portD (k : Nat) (v : StrSt) : (s.setStr k v).portD = s.portD := rfl
@[simp] theorem setStr_sec (k : Nat) (v : StrSt) : (s.setStr k v).sec = s.sec := rfl
@[simp] theorem setStr_img (k : Nat) (v : StrSt) : (s.setStr k v).img = s.img := rfl
@[simp] theorem setStr_wheel (k : Nat) (v : StrSt) : (s.setStr k v).wheel = s.wheel := rfl
@[simp] theorem setStr_twin (k : Nat) (v : StrSt) : (s.setStr k v).twin = s.twin := rfl
@[simp] theorem setStr_phases (k : Nat) (v : StrSt) : (s.setStr k v).phases = s.phases := rfl
@[simp] theorem setStr_bays (k : Nat) (v : StrSt) : (s.setStr k v).bays = s.bays := rfl
@[simp] theorem setStr_fuses (k : Nat) (v : StrSt) : (s.setStr k v).fuses = s.fuses := rfl
@[simp] theorem setStr_sup (k : Nat) (v : StrSt) : (s.setStr k v).sup = s.sup := rfl
@[simp] theorem setStr_step (k : Nat) (v : StrSt) : (s.setStr k v).step = s.step := rfl
@[simp] theorem setStr_sensors (k : Nat) (v : StrSt) : (s.setStr k v).sensors = s.sensors := rfl
@[simp] theorem setStr_thm (k : Nat) (v : StrSt) : (s.setStr k v).thm = s.thm := rfl
@[simp] theorem setStr_strs (k : Nat) (v : StrSt) : (s.setStr k v).strs = s.strs.setIfInBounds k v := rfl
@[simp] theorem setStr_ests (k : Nat) (v : StrSt) : (s.setStr k v).ests = s.ests := rfl
@[simp] theorem setStr_est (k : Nat) (v : StrSt) : (s.setStr k v).est = s.est := rfl
@[simp] theorem setStr_hup (k : Nat) (v : StrSt) : (s.setStr k v).hup = s.hup := rfl
@[simp] theorem setStr_tlm (k : Nat) (v : StrSt) : (s.setStr k v).tlm = s.tlm := rfl
@[simp] theorem setStr_cap (k : Nat) (v : StrSt) : (s.setStr k v).cap = s.cap := rfl

@[simp] theorem setEsti_pending (k : Nat) (v : EstSt) : (s.setEsti k v).pending = s.pending := rfl
@[simp] theorem setEsti_now (k : Nat) (v : EstSt) : (s.setEsti k v).now = s.now := rfl
@[simp] theorem setEsti_free (k : Nat) (v : EstSt) : (s.setEsti k v).free = s.free := rfl
@[simp] theorem setEsti_regs (k : Nat) (v : EstSt) : (s.setEsti k v).regs = s.regs := rfl
@[simp] theorem setEsti_shad (k : Nat) (v : EstSt) : (s.setEsti k v).shad = s.shad := rfl
@[simp] theorem setEsti_touched (k : Nat) (v : EstSt) : (s.setEsti k v).touched = s.touched := rfl
@[simp] theorem setEsti_core (k : Nat) (v : EstSt) : (s.setEsti k v).core = s.core := rfl
@[simp] theorem setEsti_vka (k : Nat) (v : EstSt) : (s.setEsti k v).vka = s.vka := rfl
@[simp] theorem setEsti_otp (k : Nat) (v : EstSt) : (s.setEsti k v).otp = s.otp := rfl
@[simp] theorem setEsti_flash (k : Nat) (v : EstSt) : (s.setEsti k v).flash = s.flash := rfl
@[simp] theorem setEsti_jrn (k : Nat) (v : EstSt) : (s.setEsti k v).jrn = s.jrn := rfl
@[simp] theorem setEsti_log (k : Nat) (v : EstSt) : (s.setEsti k v).log = s.log := rfl
@[simp] theorem setEsti_ic (k : Nat) (v : EstSt) : (s.setEsti k v).ic = s.ic := rfl
@[simp] theorem setEsti_portH (k : Nat) (v : EstSt) : (s.setEsti k v).portH = s.portH := rfl
@[simp] theorem setEsti_portS (k : Nat) (v : EstSt) : (s.setEsti k v).portS = s.portS := rfl
@[simp] theorem setEsti_portD (k : Nat) (v : EstSt) : (s.setEsti k v).portD = s.portD := rfl
@[simp] theorem setEsti_sec (k : Nat) (v : EstSt) : (s.setEsti k v).sec = s.sec := rfl
@[simp] theorem setEsti_img (k : Nat) (v : EstSt) : (s.setEsti k v).img = s.img := rfl
@[simp] theorem setEsti_wheel (k : Nat) (v : EstSt) : (s.setEsti k v).wheel = s.wheel := rfl
@[simp] theorem setEsti_twin (k : Nat) (v : EstSt) : (s.setEsti k v).twin = s.twin := rfl
@[simp] theorem setEsti_phases (k : Nat) (v : EstSt) : (s.setEsti k v).phases = s.phases := rfl
@[simp] theorem setEsti_bays (k : Nat) (v : EstSt) : (s.setEsti k v).bays = s.bays := rfl
@[simp] theorem setEsti_fuses (k : Nat) (v : EstSt) : (s.setEsti k v).fuses = s.fuses := rfl
@[simp] theorem setEsti_sup (k : Nat) (v : EstSt) : (s.setEsti k v).sup = s.sup := rfl
@[simp] theorem setEsti_step (k : Nat) (v : EstSt) : (s.setEsti k v).step = s.step := rfl
@[simp] theorem setEsti_sensors (k : Nat) (v : EstSt) : (s.setEsti k v).sensors = s.sensors := rfl
@[simp] theorem setEsti_thm (k : Nat) (v : EstSt) : (s.setEsti k v).thm = s.thm := rfl
@[simp] theorem setEsti_strs (k : Nat) (v : EstSt) : (s.setEsti k v).strs = s.strs := rfl
@[simp] theorem setEsti_ests (k : Nat) (v : EstSt) : (s.setEsti k v).ests = s.ests.setIfInBounds k v := rfl
@[simp] theorem setEsti_est (k : Nat) (v : EstSt) : (s.setEsti k v).est = s.est := rfl
@[simp] theorem setEsti_hup (k : Nat) (v : EstSt) : (s.setEsti k v).hup = s.hup := rfl
@[simp] theorem setEsti_tlm (k : Nat) (v : EstSt) : (s.setEsti k v).tlm = s.tlm := rfl
@[simp] theorem setEsti_cap (k : Nat) (v : EstSt) : (s.setEsti k v).cap = s.cap := rfl

@[simp] theorem setSensor_pending (k : Nat) (v : SenSt) : (s.setSensor k v).pending = s.pending := rfl
@[simp] theorem setSensor_now (k : Nat) (v : SenSt) : (s.setSensor k v).now = s.now := rfl
@[simp] theorem setSensor_free (k : Nat) (v : SenSt) : (s.setSensor k v).free = s.free := rfl
@[simp] theorem setSensor_regs (k : Nat) (v : SenSt) : (s.setSensor k v).regs = s.regs := rfl
@[simp] theorem setSensor_shad (k : Nat) (v : SenSt) : (s.setSensor k v).shad = s.shad := rfl
@[simp] theorem setSensor_touched (k : Nat) (v : SenSt) : (s.setSensor k v).touched = s.touched := rfl
@[simp] theorem setSensor_core (k : Nat) (v : SenSt) : (s.setSensor k v).core = s.core := rfl
@[simp] theorem setSensor_vka (k : Nat) (v : SenSt) : (s.setSensor k v).vka = s.vka := rfl
@[simp] theorem setSensor_otp (k : Nat) (v : SenSt) : (s.setSensor k v).otp = s.otp := rfl
@[simp] theorem setSensor_flash (k : Nat) (v : SenSt) : (s.setSensor k v).flash = s.flash := rfl
@[simp] theorem setSensor_jrn (k : Nat) (v : SenSt) : (s.setSensor k v).jrn = s.jrn := rfl
@[simp] theorem setSensor_log (k : Nat) (v : SenSt) : (s.setSensor k v).log = s.log := rfl
@[simp] theorem setSensor_ic (k : Nat) (v : SenSt) : (s.setSensor k v).ic = s.ic := rfl
@[simp] theorem setSensor_portH (k : Nat) (v : SenSt) : (s.setSensor k v).portH = s.portH := rfl
@[simp] theorem setSensor_portS (k : Nat) (v : SenSt) : (s.setSensor k v).portS = s.portS := rfl
@[simp] theorem setSensor_portD (k : Nat) (v : SenSt) : (s.setSensor k v).portD = s.portD := rfl
@[simp] theorem setSensor_sec (k : Nat) (v : SenSt) : (s.setSensor k v).sec = s.sec := rfl
@[simp] theorem setSensor_img (k : Nat) (v : SenSt) : (s.setSensor k v).img = s.img := rfl
@[simp] theorem setSensor_wheel (k : Nat) (v : SenSt) : (s.setSensor k v).wheel = s.wheel := rfl
@[simp] theorem setSensor_twin (k : Nat) (v : SenSt) : (s.setSensor k v).twin = s.twin := rfl
@[simp] theorem setSensor_phases (k : Nat) (v : SenSt) : (s.setSensor k v).phases = s.phases := rfl
@[simp] theorem setSensor_bays (k : Nat) (v : SenSt) : (s.setSensor k v).bays = s.bays := rfl
@[simp] theorem setSensor_fuses (k : Nat) (v : SenSt) : (s.setSensor k v).fuses = s.fuses := rfl
@[simp] theorem setSensor_sup (k : Nat) (v : SenSt) : (s.setSensor k v).sup = s.sup := rfl
@[simp] theorem setSensor_step (k : Nat) (v : SenSt) : (s.setSensor k v).step = s.step := rfl
@[simp] theorem setSensor_sensors (k : Nat) (v : SenSt) : (s.setSensor k v).sensors = s.sensors.setIfInBounds k v := rfl
@[simp] theorem setSensor_thm (k : Nat) (v : SenSt) : (s.setSensor k v).thm = s.thm := rfl
@[simp] theorem setSensor_strs (k : Nat) (v : SenSt) : (s.setSensor k v).strs = s.strs := rfl
@[simp] theorem setSensor_ests (k : Nat) (v : SenSt) : (s.setSensor k v).ests = s.ests := rfl
@[simp] theorem setSensor_est (k : Nat) (v : SenSt) : (s.setSensor k v).est = s.est := rfl
@[simp] theorem setSensor_hup (k : Nat) (v : SenSt) : (s.setSensor k v).hup = s.hup := rfl
@[simp] theorem setSensor_tlm (k : Nat) (v : SenSt) : (s.setSensor k v).tlm = s.tlm := rfl
@[simp] theorem setSensor_cap (k : Nat) (v : SenSt) : (s.setSensor k v).cap = s.cap := rfl


@[simp] theorem putB_eq (f : Field) (b : Bool) : s.putB f b = s.put f (if b then 1 else 0) := rfl
@[simp] theorem putAtB_eq (f : Field) (i : Nat) (b : Bool) : s.putAtB f i b = s.putAt f i (if b then 1 else 0) := rfl
@[simp] theorem sput_eq (f : Field) (v : Int) : s.sput f v = s.put f (satInt f.width v) := rfl
@[simp] theorem sputAt_eq (f : Field) (i : Nat) (v : Int) : s.sputAt f i v = s.putAt f i (satInt f.width v) := rfl
@[simp] theorem putSat_eq (f : Field) (v : Nat) : s.putSat f v = s.put f (satNat f.width v) := rfl
@[simp] theorem putAtSat_eq (f : Field) (i v : Nat) : s.putAtSat f i v = s.putAt f i (satNat f.width v) := rfl
@[simp] theorem flag_eq (f : Field) : s.flag f = s.put f 1 := rfl
@[simp] theorem putBit_eq (f : Field) (k : Nat) (b : Bool) : s.putBit f k b = s.put f (setBit (s.reg f) k b) := rfl
@[simp] theorem bump_eq (f : Field) : s.bump f = s.put f (satNat f.width (s.reg f + 1)) := rfl
@[simp] theorem bumpAt_eq (f : Field) (i : Nat) : s.bumpAt f i = s.putAt f i (satNat f.width (s.regAt f i + 1)) := rfl
@[simp] theorem addTo_eq (f : Field) (n : Nat) : s.addTo f n = s.put f (satNat f.width (s.reg f + n)) := rfl
@[simp] theorem putBoth_eq (f : Field) (i v : Nat) : s.putBoth f i v = (s.putAt f i v).putShad f i v := rfl
@[simp] theorem isSet_eq (f : Field) : s.isSet f = (s.reg f != 0) := rfl
@[simp] theorem mode_eq : s.mode = s.reg Reg.GL_MODE := rfl
theorem put_putAt (f : Field) (v : Nat) : s.put f v = s.putAt f 0 v := rfl
theorem reg_regAt (f : Field) : s.reg f = s.regAt f 0 := rfl

/-- Instances of different places have different cells. -/
theorem key_ne_of_place {f g : Field} (h : f.place ≠ g.place) (i j : Nat) : f.key i ≠ g.key j := by
  unfold Field.key; omega

/-- Different instances below 65536 of one field have different cells. -/
theorem key_ne_of_inst {f : Field} {i j : Nat} (hi : i < 65536) (hj : j < 65536) (h : i ≠ j) : f.key i ≠ f.key j := by
  unfold Field.key; omega

/-- R5: a field reads back what was written, cut to its width. -/
theorem fieldGet_fieldPut_same (c : Cells) (f : Field) (i v : Nat) :
    fieldGet (fieldPut c f i v) f i = v % 2 ^ f.width := by
  unfold fieldGet fieldPut
  rw [cellGet_cellSet_same, Nat.xor_assoc, Nat.xor_self, Nat.xor_zero]

/-- A write leaves every other cell's field alone. -/
theorem fieldGet_fieldPut_other (c : Cells) (f g : Field) (i j v : Nat) (h : g.key j ≠ f.key i) :
    fieldGet (fieldPut c f i v) g j = fieldGet c g j := by
  unfold fieldGet fieldPut
  rw [cellGet_cellSet_other h]

@[simp] theorem reg_put_same (f : Field) (v : Nat) : (s.put f v).reg f = v % 2 ^ f.width :=
  fieldGet_fieldPut_same _ _ _ _
@[simp] theorem regAt_putAt_same (f : Field) (i v : Nat) : (s.putAt f i v).regAt f i = v % 2 ^ f.width :=
  fieldGet_fieldPut_same _ _ _ _
@[simp] theorem regAt_put_same (f : Field) (v : Nat) : (s.put f v).regAt f 0 = v % 2 ^ f.width :=
  fieldGet_fieldPut_same _ _ _ _
@[simp] theorem reg_putAt_same (f : Field) (v : Nat) : (s.putAt f 0 v).reg f = v % 2 ^ f.width :=
  fieldGet_fieldPut_same _ _ _ _

theorem reg_put_other (f g : Field) (v : Nat) (h : g.place ≠ f.place) : (s.put f v).reg g = s.reg g :=
  fieldGet_fieldPut_other _ _ _ _ _ _ (key_ne_of_place h _ _)
theorem regAt_put_other (f g : Field) (j v : Nat) (h : g.place ≠ f.place) : (s.put f v).regAt g j = s.regAt g j :=
  fieldGet_fieldPut_other _ _ _ _ _ _ (key_ne_of_place h _ _)
theorem reg_putAt_other (f g : Field) (i v : Nat) (h : g.place ≠ f.place) : (s.putAt f i v).reg g = s.reg g :=
  fieldGet_fieldPut_other _ _ _ _ _ _ (key_ne_of_place h _ _)
theorem regAt_putAt_other (f g : Field) (i j v : Nat) (h : g.place ≠ f.place) : (s.putAt f i v).regAt g j = s.regAt g j :=
  fieldGet_fieldPut_other _ _ _ _ _ _ (key_ne_of_place h _ _)
theorem regAt_putAt_inst (f : Field) (i j v : Nat) (hi : i < 65536) (hj : j < 65536) (h : j ≠ i) :
    (s.putAt f i v).regAt f j = s.regAt f j :=
  fieldGet_fieldPut_other _ _ _ _ _ _ (key_ne_of_inst hj hi h)

@[simp] theorem putShad_reg (f : Field) (i v : Nat) (g : Field) : (s.putShad f i v).reg g = s.reg g := rfl
@[simp] theorem putShad_regAt (f : Field) (i v : Nat) (g : Field) (j : Nat) : (s.putShad f i v).regAt g j = s.regAt g j := rfl
@[simp] theorem touch_reg (p : Nat) (g : Field) : (s.touch p).reg g = s.reg g := rfl
@[simp] theorem touch_regAt (p : Nat) (g : Field) (j : Nat) : (s.touch p).regAt g j = s.regAt g j := rfl
@[simp] theorem at_reg (t : Edges) (g : Field) : (s.at t).reg g = s.reg g := rfl
@[simp] theorem at_regAt (t : Edges) (g : Field) (j : Nat) : (s.at t).regAt g j = s.regAt g j := rfl
@[simp] theorem setPh_reg (n : Nat) (v : PhaseSt) (g : Field) : (s.setPh n v).reg g = s.reg g := rfl
@[simp] theorem setPh_regAt (n : Nat) (v : PhaseSt) (g : Field) (j : Nat) : (s.setPh n v).regAt g j = s.regAt g j := rfl
@[simp] theorem setBay_reg (b : Nat) (v : BaySt) (g : Field) : (s.setBay b v).reg g = s.reg g := rfl
@[simp] theorem setBay_regAt (b : Nat) (v : BaySt) (g : Field) (j : Nat) : (s.setBay b v).regAt g j = s.regAt g j := rfl
@[simp] theorem setFuse_reg (c : Nat) (v : FuseSt) (g : Field) : (s.setFuse c v).reg g = s.reg g := rfl
@[simp] theorem setFuse_regAt (c : Nat) (v : FuseSt) (g : Field) (j : Nat) : (s.setFuse c v).regAt g j = s.regAt g j := rfl
@[simp] theorem setStr_reg (k : Nat) (v : StrSt) (g : Field) : (s.setStr k v).reg g = s.reg g := rfl
@[simp] theorem setStr_regAt (k : Nat) (v : StrSt) (g : Field) (j : Nat) : (s.setStr k v).regAt g j = s.regAt g j := rfl
@[simp] theorem setEsti_reg (k : Nat) (v : EstSt) (g : Field) : (s.setEsti k v).reg g = s.reg g := rfl
@[simp] theorem setEsti_regAt (k : Nat) (v : EstSt) (g : Field) (j : Nat) : (s.setEsti k v).regAt g j = s.regAt g j := rfl
@[simp] theorem setSensor_reg (k : Nat) (v : SenSt) (g : Field) : (s.setSensor k v).reg g = s.reg g := rfl
@[simp] theorem setSensor_regAt (k : Nat) (v : SenSt) (g : Field) (j : Nat) : (s.setSensor k v).regAt g j = s.regAt g j := rfl

theorem ph_of_phases {s u : State} (h : u.phases = s.phases) (i : Nat) : u.ph i = s.ph i := by unfold State.ph; rw [h]
@[simp] theorem ph_setPh_same (i : Nat) (v) (h : i < 48) : (s.setPh i v).ph i = v := by simp [State.ph, State.setPh, h]
theorem ph_setPh_other (i j : Nat) (v) (h : j ≠ i) : (s.setPh i v).ph j = s.ph j := by
  unfold State.ph; split
  · simp [State.setPh, Vector.getElem_setIfInBounds_ne, h.symm]
  · rfl
@[simp] theorem put_ph (f : Field) (v : Nat) (j : Nat) : (s.put f v).ph j = s.ph j := rfl
@[simp] theorem putAt_ph (f : Field) (i v : Nat) (j : Nat) : (s.putAt f i v).ph j = s.ph j := rfl
@[simp] theorem putShad_ph (f : Field) (i v : Nat) (j : Nat) : (s.putShad f i v).ph j = s.ph j := rfl
@[simp] theorem touch_ph (p : Nat) (j : Nat) : (s.touch p).ph j = s.ph j := rfl
@[simp] theorem at_ph (t : Edges) (j : Nat) : (s.at t).ph j = s.ph j := rfl
@[simp] theorem setBay_ph (b : Nat) (v : BaySt) (j : Nat) : (s.setBay b v).ph j = s.ph j := rfl
@[simp] theorem setFuse_ph (c : Nat) (v : FuseSt) (j : Nat) : (s.setFuse c v).ph j = s.ph j := rfl
@[simp] theorem setStr_ph (k : Nat) (v : StrSt) (j : Nat) : (s.setStr k v).ph j = s.ph j := rfl
@[simp] theorem setEsti_ph (k : Nat) (v : EstSt) (j : Nat) : (s.setEsti k v).ph j = s.ph j := rfl
@[simp] theorem setSensor_ph (k : Nat) (v : SenSt) (j : Nat) : (s.setSensor k v).ph j = s.ph j := rfl
theorem bay_of_bays {s u : State} (h : u.bays = s.bays) (i : Nat) : u.bay i = s.bay i := by unfold State.bay; rw [h]
@[simp] theorem bay_setBay_same (i : Nat) (v) (h : i < 8) : (s.setBay i v).bay i = v := by simp [State.bay, State.setBay, h]
theorem bay_setBay_other (i j : Nat) (v) (h : j ≠ i) : (s.setBay i v).bay j = s.bay j := by
  unfold State.bay; split
  · simp [State.setBay, Vector.getElem_setIfInBounds_ne, h.symm]
  · rfl
@[simp] theorem put_bay (f : Field) (v : Nat) (j : Nat) : (s.put f v).bay j = s.bay j := rfl
@[simp] theorem putAt_bay (f : Field) (i v : Nat) (j : Nat) : (s.putAt f i v).bay j = s.bay j := rfl
@[simp] theorem putShad_bay (f : Field) (i v : Nat) (j : Nat) : (s.putShad f i v).bay j = s.bay j := rfl
@[simp] theorem touch_bay (p : Nat) (j : Nat) : (s.touch p).bay j = s.bay j := rfl
@[simp] theorem at_bay (t : Edges) (j : Nat) : (s.at t).bay j = s.bay j := rfl
@[simp] theorem setPh_bay (n : Nat) (v : PhaseSt) (j : Nat) : (s.setPh n v).bay j = s.bay j := rfl
@[simp] theorem setFuse_bay (c : Nat) (v : FuseSt) (j : Nat) : (s.setFuse c v).bay j = s.bay j := rfl
@[simp] theorem setStr_bay (k : Nat) (v : StrSt) (j : Nat) : (s.setStr k v).bay j = s.bay j := rfl
@[simp] theorem setEsti_bay (k : Nat) (v : EstSt) (j : Nat) : (s.setEsti k v).bay j = s.bay j := rfl
@[simp] theorem setSensor_bay (k : Nat) (v : SenSt) (j : Nat) : (s.setSensor k v).bay j = s.bay j := rfl
theorem fuse_of_fuses {s u : State} (h : u.fuses = s.fuses) (i : Nat) : u.fuse i = s.fuse i := by unfold State.fuse; rw [h]
@[simp] theorem fuse_setFuse_same (i : Nat) (v) (h : i < 16) : (s.setFuse i v).fuse i = v := by simp [State.fuse, State.setFuse, h]
theorem fuse_setFuse_other (i j : Nat) (v) (h : j ≠ i) : (s.setFuse i v).fuse j = s.fuse j := by
  unfold State.fuse; split
  · simp [State.setFuse, Vector.getElem_setIfInBounds_ne, h.symm]
  · rfl
@[simp] theorem put_fuse (f : Field) (v : Nat) (j : Nat) : (s.put f v).fuse j = s.fuse j := rfl
@[simp] theorem putAt_fuse (f : Field) (i v : Nat) (j : Nat) : (s.putAt f i v).fuse j = s.fuse j := rfl
@[simp] theorem putShad_fuse (f : Field) (i v : Nat) (j : Nat) : (s.putShad f i v).fuse j = s.fuse j := rfl
@[simp] theorem touch_fuse (p : Nat) (j : Nat) : (s.touch p).fuse j = s.fuse j := rfl
@[simp] theorem at_fuse (t : Edges) (j : Nat) : (s.at t).fuse j = s.fuse j := rfl
@[simp] theorem setPh_fuse (n : Nat) (v : PhaseSt) (j : Nat) : (s.setPh n v).fuse j = s.fuse j := rfl
@[simp] theorem setBay_fuse (b : Nat) (v : BaySt) (j : Nat) : (s.setBay b v).fuse j = s.fuse j := rfl
@[simp] theorem setStr_fuse (k : Nat) (v : StrSt) (j : Nat) : (s.setStr k v).fuse j = s.fuse j := rfl
@[simp] theorem setEsti_fuse (k : Nat) (v : EstSt) (j : Nat) : (s.setEsti k v).fuse j = s.fuse j := rfl
@[simp] theorem setSensor_fuse (k : Nat) (v : SenSt) (j : Nat) : (s.setSensor k v).fuse j = s.fuse j := rfl
theorem str_of_strs {s u : State} (h : u.strs = s.strs) (i : Nat) : u.str i = s.str i := by unfold State.str; rw [h]
@[simp] theorem str_setStr_same (i : Nat) (v) (h : i < 8) : (s.setStr i v).str i = v := by simp [State.str, State.setStr, h]
theorem str_setStr_other (i j : Nat) (v) (h : j ≠ i) : (s.setStr i v).str j = s.str j := by
  unfold State.str; split
  · simp [State.setStr, Vector.getElem_setIfInBounds_ne, h.symm]
  · rfl
@[simp] theorem put_str (f : Field) (v : Nat) (j : Nat) : (s.put f v).str j = s.str j := rfl
@[simp] theorem putAt_str (f : Field) (i v : Nat) (j : Nat) : (s.putAt f i v).str j = s.str j := rfl
@[simp] theorem putShad_str (f : Field) (i v : Nat) (j : Nat) : (s.putShad f i v).str j = s.str j := rfl
@[simp] theorem touch_str (p : Nat) (j : Nat) : (s.touch p).str j = s.str j := rfl
@[simp] theorem at_str (t : Edges) (j : Nat) : (s.at t).str j = s.str j := rfl
@[simp] theorem setPh_str (n : Nat) (v : PhaseSt) (j : Nat) : (s.setPh n v).str j = s.str j := rfl
@[simp] theorem setBay_str (b : Nat) (v : BaySt) (j : Nat) : (s.setBay b v).str j = s.str j := rfl
@[simp] theorem setFuse_str (c : Nat) (v : FuseSt) (j : Nat) : (s.setFuse c v).str j = s.str j := rfl
@[simp] theorem setEsti_str (k : Nat) (v : EstSt) (j : Nat) : (s.setEsti k v).str j = s.str j := rfl
@[simp] theorem setSensor_str (k : Nat) (v : SenSt) (j : Nat) : (s.setSensor k v).str j = s.str j := rfl
theorem esti_of_ests {s u : State} (h : u.ests = s.ests) (i : Nat) : u.esti i = s.esti i := by unfold State.esti; rw [h]
@[simp] theorem esti_setEsti_same (i : Nat) (v) (h : i < 8) : (s.setEsti i v).esti i = v := by simp [State.esti, State.setEsti, h]
theorem esti_setEsti_other (i j : Nat) (v) (h : j ≠ i) : (s.setEsti i v).esti j = s.esti j := by
  unfold State.esti; split
  · simp [State.setEsti, Vector.getElem_setIfInBounds_ne, h.symm]
  · rfl
@[simp] theorem put_esti (f : Field) (v : Nat) (j : Nat) : (s.put f v).esti j = s.esti j := rfl
@[simp] theorem putAt_esti (f : Field) (i v : Nat) (j : Nat) : (s.putAt f i v).esti j = s.esti j := rfl
@[simp] theorem putShad_esti (f : Field) (i v : Nat) (j : Nat) : (s.putShad f i v).esti j = s.esti j := rfl
@[simp] theorem touch_esti (p : Nat) (j : Nat) : (s.touch p).esti j = s.esti j := rfl
@[simp] theorem at_esti (t : Edges) (j : Nat) : (s.at t).esti j = s.esti j := rfl
@[simp] theorem setPh_esti (n : Nat) (v : PhaseSt) (j : Nat) : (s.setPh n v).esti j = s.esti j := rfl
@[simp] theorem setBay_esti (b : Nat) (v : BaySt) (j : Nat) : (s.setBay b v).esti j = s.esti j := rfl
@[simp] theorem setFuse_esti (c : Nat) (v : FuseSt) (j : Nat) : (s.setFuse c v).esti j = s.esti j := rfl
@[simp] theorem setStr_esti (k : Nat) (v : StrSt) (j : Nat) : (s.setStr k v).esti j = s.esti j := rfl
@[simp] theorem setSensor_esti (k : Nat) (v : SenSt) (j : Nat) : (s.setSensor k v).esti j = s.esti j := rfl
theorem sensor_of_sensors {s u : State} (h : u.sensors = s.sensors) (i : Nat) : u.sensor i = s.sensor i := by unfold State.sensor; rw [h]
@[simp] theorem sensor_setSensor_same (i : Nat) (v) (h : i < 52) : (s.setSensor i v).sensor i = v := by simp [State.sensor, State.setSensor, h]
theorem sensor_setSensor_other (i j : Nat) (v) (h : j ≠ i) : (s.setSensor i v).sensor j = s.sensor j := by
  unfold State.sensor; split
  · simp [State.setSensor, Vector.getElem_setIfInBounds_ne, h.symm]
  · rfl
@[simp] theorem put_sensor (f : Field) (v : Nat) (j : Nat) : (s.put f v).sensor j = s.sensor j := rfl
@[simp] theorem putAt_sensor (f : Field) (i v : Nat) (j : Nat) : (s.putAt f i v).sensor j = s.sensor j := rfl
@[simp] theorem putShad_sensor (f : Field) (i v : Nat) (j : Nat) : (s.putShad f i v).sensor j = s.sensor j := rfl
@[simp] theorem touch_sensor (p : Nat) (j : Nat) : (s.touch p).sensor j = s.sensor j := rfl
@[simp] theorem at_sensor (t : Edges) (j : Nat) : (s.at t).sensor j = s.sensor j := rfl
@[simp] theorem setPh_sensor (n : Nat) (v : PhaseSt) (j : Nat) : (s.setPh n v).sensor j = s.sensor j := rfl
@[simp] theorem setBay_sensor (b : Nat) (v : BaySt) (j : Nat) : (s.setBay b v).sensor j = s.sensor j := rfl
@[simp] theorem setFuse_sensor (c : Nat) (v : FuseSt) (j : Nat) : (s.setFuse c v).sensor j = s.sensor j := rfl
@[simp] theorem setStr_sensor (k : Nat) (v : StrSt) (j : Nat) : (s.setStr k v).sensor j = s.sensor j := rfl
@[simp] theorem setEsti_sensor (k : Nat) (v : EstSt) (j : Nat) : (s.setEsti k v).sensor j = s.sensor j := rfl

end Sys2Proof.Laws
end

