-- ==== Sys2Proof/Laws/Close.lean ====
section
/-! SUPPORT. How a command ends: the decisions sent to the partner change nothing but the queue of records and their sequence,
and the interrupt controller's refresh changes nothing but the controller. -/

namespace Sys2Proof.Laws

open Sys2Proof.Machine

/-- A fold keeps what each of its steps keeps. -/
theorem foldl_keeps {α β γ : Type} (g : α → γ) (f : α → β → α) (h : ∀ a b, g (f a b) = g a) (l : List β) (a : α) :
    g (l.foldl f a) = g a := by
  induction l generalizing a with
  | nil => rfl
  | cons b l ih => rw [List.foldl_cons, ih, h]

/-- A state with the queue of records to be sent taken out: two states that agree here differ in that queue alone. -/
def unsent (s : State) : State := { s with twin.sendQ := [], twin.recSeq := 0 }

/-- A state with the controller taken out: two states that agree here differ in the controller alone. -/
def unrefreshed (s : State) : State := { s with ic := IcSt.reset }

@[simp] theorem unsent_sendRec (s : State) (mk) : unsent (s.sendRec mk) = unsent s := by
  unfold State.sendRec; split <;> rfl
@[simp] theorem unsent_sendDecision (s : State) (k u v : Nat) : unsent (s.sendDecision k u v) = unsent s := unsent_sendRec _ _
@[simp] theorem unsent_sendChange (o : State) (f k u i) (s : State) : unsent (sendChange o f k u i s) = unsent s := by
  unfold sendChange; split
  · rfl
  · exact unsent_sendDecision _ _ _ _

/-- The decisions of a command change the queue of records and their sequence alone. -/
theorem unsent_decided (o s : State) : unsent (o.decided s) = unsent s := by
  unfold State.decided
  split
  · rfl
  · refine (foldl_keeps unsent _ ?_ _ _).trans ?_
    · intro a c; dsimp only; split
      · rfl
      · exact unsent_sendDecision _ _ _ _
    refine (foldl_keeps unsent _ (fun a k => unsent_sendChange _ _ _ _ _ _) _ _).trans ?_
    refine (unsent_sendChange _ _ _ _ _ _).trans ?_
    refine (foldl_keeps unsent _ ?_ _ _).trans ?_
    · intro a c; dsimp only; split
      · rfl
      · exact unsent_sendDecision _ _ _ _
    refine (foldl_keeps unsent _ (fun a k => unsent_sendChange _ _ _ _ _ _) _ _).trans ?_
    refine (foldl_keeps unsent _ (fun a k => unsent_sendChange _ _ _ _ _ _) _ _).trans ?_
    refine (foldl_keeps unsent _ ?_ _ _).trans ?_
    · intro a c; dsimp only; split
      · rfl
      · exact unsent_sendDecision _ _ _ _
    exact foldl_keeps unsent _ (fun a k => unsent_sendChange _ _ _ _ _ _) _ _

/-- The refresh changes the controller alone. -/
theorem unrefreshed_finish (s : State) : unrefreshed s.finish = unrefreshed s := by
  unfold State.finish State.icRefresh
  dsimp only
  have n : ∀ u : State, unrefreshed u.icNotice = unrefreshed u := by
    intro u; unfold State.icNotice; dsimp only; split <;> rfl
  rw [n, foldl_keeps unrefreshed State.icAge (fun _ _ => rfl), foldl_keeps unrefreshed State.icMove (fun _ _ => rfl)]

theorem eq_of_unsent {s u : State} (h : unsent s = unsent u) : s = { u with twin.sendQ := s.twin.sendQ, twin.recSeq := s.twin.recSeq } := by
  have : { unsent s with twin.sendQ := s.twin.sendQ, twin.recSeq := s.twin.recSeq } = { unsent u with twin.sendQ := s.twin.sendQ, twin.recSeq := s.twin.recSeq } := by rw [h]
  exact this

theorem eq_of_unrefreshed {s u : State} (h : unrefreshed s = unrefreshed u) : s = { u with ic := s.ic } := by
  have : { unrefreshed s with ic := s.ic } = { unrefreshed u with ic := s.ic } := by rw [h]
  exact this

/-- The end of a command, as one record update. -/
theorem decided_eq (o s : State) :
    o.decided s = { s with twin.sendQ := (o.decided s).twin.sendQ, twin.recSeq := (o.decided s).twin.recSeq } :=
  eq_of_unsent (unsent_decided o s)

/-- The refresh, as one record update. -/
theorem finish_eq (s : State) : s.finish = { s with ic := s.finish.ic } := eq_of_unrefreshed (unrefreshed_finish s)

@[simp] theorem finish_pending (s : State) : s.finish.pending = s.pending := by rw [finish_eq]
@[simp] theorem finish_now (s : State) : s.finish.now = s.now := by rw [finish_eq]
@[simp] theorem finish_free (s : State) : s.finish.free = s.free := by rw [finish_eq]
@[simp] theorem finish_regs (s : State) : s.finish.regs = s.regs := by rw [finish_eq]
@[simp] theorem finish_shad (s : State) : s.finish.shad = s.shad := by rw [finish_eq]
@[simp] theorem finish_touched (s : State) : s.finish.touched = s.touched := by rw [finish_eq]
@[simp] theorem finish_core (s : State) : s.finish.core = s.core := by rw [finish_eq]
@[simp] theorem finish_vka (s : State) : s.finish.vka = s.vka := by rw [finish_eq]
@[simp] theorem finish_otp (s : State) : s.finish.otp = s.otp := by rw [finish_eq]
@[simp] theorem finish_flash (s : State) : s.finish.flash = s.flash := by rw [finish_eq]
@[simp] theorem finish_jrn (s : State) : s.finish.jrn = s.jrn := by rw [finish_eq]
@[simp] theorem finish_log (s : State) : s.finish.log = s.log := by rw [finish_eq]
@[simp] theorem finish_portH (s : State) : s.finish.portH = s.portH := by rw [finish_eq]
@[simp] theorem finish_portS (s : State) : s.finish.portS = s.portS := by rw [finish_eq]
@[simp] theorem finish_portD (s : State) : s.finish.portD = s.portD := by rw [finish_eq]
@[simp] theorem finish_sec (s : State) : s.finish.sec = s.sec := by rw [finish_eq]
@[simp] theorem finish_img (s : State) : s.finish.img = s.img := by rw [finish_eq]
@[simp] theorem finish_wheel (s : State) : s.finish.wheel = s.wheel := by rw [finish_eq]
@[simp] theorem finish_twin (s : State) : s.finish.twin = s.twin := by rw [finish_eq]
@[simp] theorem finish_phases (s : State) : s.finish.phases = s.phases := by rw [finish_eq]
@[simp] theorem finish_bays (s : State) : s.finish.bays = s.bays := by rw [finish_eq]
@[simp] theorem finish_fuses (s : State) : s.finish.fuses = s.fuses := by rw [finish_eq]
@[simp] theorem finish_sup (s : State) : s.finish.sup = s.sup := by rw [finish_eq]
@[simp] theorem finish_step (s : State) : s.finish.step = s.step := by rw [finish_eq]
@[simp] theorem finish_sensors (s : State) : s.finish.sensors = s.sensors := by rw [finish_eq]
@[simp] theorem finish_thm (s : State) : s.finish.thm = s.thm := by rw [finish_eq]
@[simp] theorem finish_strs (s : State) : s.finish.strs = s.strs := by rw [finish_eq]
@[simp] theorem finish_ests (s : State) : s.finish.ests = s.ests := by rw [finish_eq]
@[simp] theorem finish_est (s : State) : s.finish.est = s.est := by rw [finish_eq]
@[simp] theorem finish_hup (s : State) : s.finish.hup = s.hup := by rw [finish_eq]
@[simp] theorem finish_tlm (s : State) : s.finish.tlm = s.tlm := by rw [finish_eq]
@[simp] theorem finish_cap (s : State) : s.finish.cap = s.cap := by rw [finish_eq]
@[simp] theorem decided_pending (o s : State) : (o.decided s).pending = s.pending := by rw [decided_eq]
@[simp] theorem decided_now (o s : State) : (o.decided s).now = s.now := by rw [decided_eq]
@[simp] theorem decided_free (o s : State) : (o.decided s).free = s.free := by rw [decided_eq]
@[simp] theorem decided_regs (o s : State) : (o.decided s).regs = s.regs := by rw [decided_eq]
@[simp] theorem decided_shad (o s : State) : (o.decided s).shad = s.shad := by rw [decided_eq]
@[simp] theorem decided_touched (o s : State) : (o.decided s).touched = s.touched := by rw [decided_eq]
@[simp] theorem decided_core (o s : State) : (o.decided s).core = s.core := by rw [decided_eq]
@[simp] theorem decided_vka (o s : State) : (o.decided s).vka = s.vka := by rw [decided_eq]
@[simp] theorem decided_otp (o s : State) : (o.decided s).otp = s.otp := by rw [decided_eq]
@[simp] theorem decided_flash (o s : State) : (o.decided s).flash = s.flash := by rw [decided_eq]
@[simp] theorem decided_jrn (o s : State) : (o.decided s).jrn = s.jrn := by rw [decided_eq]
@[simp] theorem decided_log (o s : State) : (o.decided s).log = s.log := by rw [decided_eq]
@[simp] theorem decided_ic (o s : State) : (o.decided s).ic = s.ic := by rw [decided_eq]
@[simp] theorem decided_portH (o s : State) : (o.decided s).portH = s.portH := by rw [decided_eq]
@[simp] theorem decided_portS (o s : State) : (o.decided s).portS = s.portS := by rw [decided_eq]
@[simp] theorem decided_portD (o s : State) : (o.decided s).portD = s.portD := by rw [decided_eq]
@[simp] theorem decided_sec (o s : State) : (o.decided s).sec = s.sec := by rw [decided_eq]
@[simp] theorem decided_img (o s : State) : (o.decided s).img = s.img := by rw [decided_eq]
@[simp] theorem decided_wheel (o s : State) : (o.decided s).wheel = s.wheel := by rw [decided_eq]
@[simp] theorem decided_phases (o s : State) : (o.decided s).phases = s.phases := by rw [decided_eq]
@[simp] theorem decided_bays (o s : State) : (o.decided s).bays = s.bays := by rw [decided_eq]
@[simp] theorem decided_fuses (o s : State) : (o.decided s).fuses = s.fuses := by rw [decided_eq]
@[simp] theorem decided_sup (o s : State) : (o.decided s).sup = s.sup := by rw [decided_eq]
@[simp] theorem decided_step (o s : State) : (o.decided s).step = s.step := by rw [decided_eq]
@[simp] theorem decided_sensors (o s : State) : (o.decided s).sensors = s.sensors := by rw [decided_eq]
@[simp] theorem decided_thm (o s : State) : (o.decided s).thm = s.thm := by rw [decided_eq]
@[simp] theorem decided_strs (o s : State) : (o.decided s).strs = s.strs := by rw [decided_eq]
@[simp] theorem decided_ests (o s : State) : (o.decided s).ests = s.ests := by rw [decided_eq]
@[simp] theorem decided_est (o s : State) : (o.decided s).est = s.est := by rw [decided_eq]
@[simp] theorem decided_hup (o s : State) : (o.decided s).hup = s.hup := by rw [decided_eq]
@[simp] theorem decided_tlm (o s : State) : (o.decided s).tlm = s.tlm := by rw [decided_eq]
@[simp] theorem decided_cap (o s : State) : (o.decided s).cap = s.cap := by rw [decided_eq]
@[simp] theorem decided_twin_actOut (o s : State) : (o.decided s).twin.actOut = s.twin.actOut := by rw [decided_eq]
@[simp] theorem decided_twin_actIn (o s : State) : (o.decided s).twin.actIn = s.twin.actIn := by rw [decided_eq]
@[simp] theorem decided_twin_contest (o s : State) : (o.decided s).twin.contest = s.twin.contest := by rw [decided_eq]
@[simp] theorem decided_twin_gapSince (o s : State) : (o.decided s).twin.gapSince = s.twin.gapSince := by rw [decided_eq]
@[simp] theorem decided_twin_yieldAt (o s : State) : (o.decided s).twin.yieldAt = s.twin.yieldAt := by rw [decided_eq]
@[simp] theorem decided_twin_dualAt (o s : State) : (o.decided s).twin.dualAt = s.twin.dualAt := by rw [decided_eq]
@[simp] theorem decided_twin_txSeq (o s : State) : (o.decided s).twin.txSeq = s.twin.txSeq := by rw [decided_eq]
@[simp] theorem decided_twin_rxSeq (o s : State) : (o.decided s).twin.rxSeq = s.twin.rxSeq := by rw [decided_eq]
@[simp] theorem decided_twin_rxAt (o s : State) : (o.decided s).twin.rxAt = s.twin.rxAt := by rw [decided_eq]
@[simp] theorem decided_twin_partner (o s : State) : (o.decided s).twin.partner = s.twin.partner := by rw [decided_eq]
@[simp] theorem decided_twin_missing (o s : State) : (o.decided s).twin.missing = s.twin.missing := by rw [decided_eq]
@[simp] theorem decided_twin_missAt (o s : State) : (o.decided s).twin.missAt = s.twin.missAt := by rw [decided_eq]
@[simp] theorem decided_twin_sentAt (o s : State) : (o.decided s).twin.sentAt = s.twin.sentAt := by rw [decided_eq]
@[simp] theorem decided_twin_own (o s : State) : (o.decided s).twin.own = s.twin.own := by rw [decided_eq]
@[simp] theorem decided_twin_mism (o s : State) : (o.decided s).twin.mism = s.twin.mism := by rw [decided_eq]
@[simp] theorem decided_twin_held (o s : State) : (o.decided s).twin.held = s.twin.held := by rw [decided_eq]
@[simp] theorem decided_twin_maxDiff (o s : State) : (o.decided s).twin.maxDiff = s.twin.maxDiff := by rw [decided_eq]
@[simp] theorem decided_twin_digCh (o s : State) : (o.decided s).twin.digCh = s.twin.digCh := by rw [decided_eq]
@[simp] theorem decided_twin_katAsked (o s : State) : (o.decided s).twin.katAsked = s.twin.katAsked := by rw [decided_eq]
@[simp] theorem decided_twin_katOwn (o s : State) : (o.decided s).twin.katOwn = s.twin.katOwn := by rw [decided_eq]
@[simp] theorem decided_twin_katPartner (o s : State) : (o.decided s).twin.katPartner = s.twin.katPartner := by rw [decided_eq]
@[simp] theorem decided_twin_katFail (o s : State) : (o.decided s).twin.katFail = s.twin.katFail := by rw [decided_eq]
@[simp] theorem decided_twin_injBad (o s : State) : (o.decided s).twin.injBad = s.twin.injBad := by rw [decided_eq]
@[simp] theorem decided_twin_eccAt (o s : State) : (o.decided s).twin.eccAt = s.twin.eccAt := by rw [decided_eq]
@[simp] theorem decided_twin_padAt (o s : State) : (o.decided s).twin.padAt = s.twin.padAt := by rw [decided_eq]
@[simp] theorem decided_twin_fitSince (o s : State) : (o.decided s).twin.fitSince = s.twin.fitSince := by rw [decided_eq]
@[simp] theorem decided_twin_unfit (o s : State) : (o.decided s).twin.unfit = s.twin.unfit := by rw [decided_eq]
@[simp] theorem decided_twin_synced (o s : State) : (o.decided s).twin.synced = s.twin.synced := by rw [decided_eq]
@[simp] theorem decided_twin_decisions (o s : State) : (o.decided s).twin.decisions = s.twin.decisions := by rw [decided_eq]
@[simp] theorem decided_twin_t0 (o s : State) : (o.decided s).twin.t0 = s.twin.t0 := by rw [decided_eq]
@[simp] theorem decided_twin_linkFault (o s : State) : (o.decided s).twin.linkFault = s.twin.linkFault := by rw [decided_eq]
@[simp] theorem decided_twin_healthAt (o s : State) : (o.decided s).twin.healthAt = s.twin.healthAt := by rw [decided_eq]
@[simp] theorem decided_twin_back (o s : State) : (o.decided s).twin.back = s.twin.back := by rw [decided_eq]
@[simp] theorem decided_twin_swReq (o s : State) : (o.decided s).twin.swReq = s.twin.swReq := by rw [decided_eq]
@[simp] theorem decided_twin_reqSeq (o s : State) : (o.decided s).twin.reqSeq = s.twin.reqSeq := by rw [decided_eq]
@[simp] theorem decided_twin_near (o s : State) : (o.decided s).twin.near = s.twin.near := by rw [decided_eq]
@[simp] theorem decided_twin_resume (o s : State) : (o.decided s).twin.resume = s.twin.resume := by rw [decided_eq]
@[simp] theorem decided_twin_capBuf (o s : State) : (o.decided s).twin.capBuf = s.twin.capBuf := by rw [decided_eq]
@[simp] theorem finish_reg (s : State) (f : Field) : s.finish.reg f = s.reg f := by unfold State.reg; simp
@[simp] theorem finish_regAt (s : State) (f : Field) (i : Nat) : s.finish.regAt f i = s.regAt f i := by unfold State.regAt; simp
@[simp] theorem finish_ph (s : State) (i : Nat) : s.finish.ph i = s.ph i := ph_of_phases (by simp) i
@[simp] theorem finish_bay (s : State) (i : Nat) : s.finish.bay i = s.bay i := bay_of_bays (by simp) i
@[simp] theorem finish_fuse (s : State) (i : Nat) : s.finish.fuse i = s.fuse i := fuse_of_fuses (by simp) i
@[simp] theorem finish_str (s : State) (i : Nat) : s.finish.str i = s.str i := str_of_strs (by simp) i
@[simp] theorem finish_esti (s : State) (i : Nat) : s.finish.esti i = s.esti i := esti_of_ests (by simp) i
@[simp] theorem finish_sensor (s : State) (i : Nat) : s.finish.sensor i = s.sensor i := sensor_of_sensors (by simp) i
@[simp] theorem decided_reg (o s : State) (f : Field) : (o.decided s).reg f = s.reg f := by unfold State.reg; simp
@[simp] theorem decided_regAt (o s : State) (f : Field) (i : Nat) : (o.decided s).regAt f i = s.regAt f i := by unfold State.regAt; simp
@[simp] theorem decided_ph (o s : State) (i : Nat) : (o.decided s).ph i = s.ph i := ph_of_phases (by simp) i
@[simp] theorem decided_bay (o s : State) (i : Nat) : (o.decided s).bay i = s.bay i := bay_of_bays (by simp) i
@[simp] theorem decided_fuse (o s : State) (i : Nat) : (o.decided s).fuse i = s.fuse i := fuse_of_fuses (by simp) i
@[simp] theorem decided_str (o s : State) (i : Nat) : (o.decided s).str i = s.str i := str_of_strs (by simp) i
@[simp] theorem decided_esti (o s : State) (i : Nat) : (o.decided s).esti i = s.esti i := esti_of_ests (by simp) i
@[simp] theorem decided_sensor (o s : State) (i : Nat) : (o.decided s).sensor i = s.sensor i := sensor_of_sensors (by simp) i

/-- A command of the live form on a powered chip: the next state, as far as the controller and the partner's records go. -/
theorem live_powered {t : Edges} {s : State} {f : State → State} (h : s.core.powered = true) :
    live t s f = .next ((s.at t).decided (f (s.at t))).finish := by
  simp [live, h]

/-- Without VDD a command of the live form moves time alone. -/
theorem live_unpowered {t : Edges} {s : State} {f : State → State} (h : s.core.powered = false) :
    live t s f = .next (s.at t) := by
  simp [live, h]

/-- A command of the live form completes on every state. -/
theorem live_completes (t : Edges) (s : State) (f : State → State) : ∃ u, live t s f = .next u := ⟨_, rfl⟩

end Sys2Proof.Laws
end

