-- ==== Sys2Proof/Laws/Raise.lean ====
section
/-! SUPPORT. What raising an event can do: below severity 6 it touches the recorder alone, its queue and captures and the registers
of its pages (0x05, 0x26, 0x27), or the list of events held for a supervisor that is down. -/

namespace Sys2Proof.Laws

open Sys2Proof.Machine

/-- A field of the recorder's pages that raising an event can write. -/
def onRecPages (f : Field) : Bool :=
  [Reg.REC_LASTSEQ.place, Reg.REC_SEVCNT.place, Reg.REC_MAXSEV_SEV.place, Reg.REC_MAXSEV_ANY.place, Reg.REC_QDROP.place,
   Reg.REC_FLAGS_QDROP.place, Reg.REC_STAT_FLUSHING.place, Reg.REC_STAT_SNBUSY.place, Reg.REC_SNDROP.place,
   Reg.REC_FLAGS_SNDROP.place].contains f.place

/-- A recorder's log part that differs from another in its queue, its last records, its captures and its batch alone. -/
def recLog (l k : LogSt) : LogSt :=
  { l with queue := k.queue, last := k.last, lastHi := k.lastHi, lostNext := k.lostNext, dropped := k.dropped,
           droppedSev := k.droppedSev, batch := k.batch, flushReq := k.flushReq, cap0 := k.cap0, cap1 := k.cap1 }

/-- Two states that differ in the recorder alone. -/
structure SameButRecorder (s u : State) : Prop where
  rest : u = { s with regs := u.regs, log := recLog s.log u.log, core.heldEvents := u.core.heldEvents }
  cells : ∀ f : Field, onRecPages f = false → ∀ i, u.regAt f i = s.regAt f i

theorem SameButRecorder.refl (s : State) : SameButRecorder s s := ⟨rfl, fun _ _ _ => rfl⟩

theorem SameButRecorder.trans {s u w : State} (h : SameButRecorder s u) (k : SameButRecorder u w) : SameButRecorder s w := by
  refine ⟨?_, fun f hf i => (k.cells f hf i).trans (h.cells f hf i)⟩
  have h1 := k.rest
  rw [h.rest] at h1
  exact h1

theorem SameButRecorder.putAt (s : State) (f : Field) (i v : Nat) (hf : onRecPages f = true) : SameButRecorder s (s.putAt f i v) := by
  refine ⟨rfl, fun g hg j => regAt_putAt_other s f g i j v ?_⟩
  intro e
  simp only [onRecPages, e] at hg
  simp only [onRecPages] at hf
  rw [hf] at hg
  exact absurd hg (by decide)

theorem SameButRecorder.put (s : State) (f : Field) (v : Nat) (hf : onRecPages f = true) : SameButRecorder s (s.put f v) :=
  SameButRecorder.putAt s f 0 v hf

theorem SameButRecorder.log (s : State) (l : LogSt) (h : l = recLog s.log l) : SameButRecorder s { s with log := l } :=
  ⟨congrArg (fun x => { s with log := x }) h, fun _ _ _ => rfl⟩

theorem noteDrop_rec (s : State) (sev : Nat) : SameButRecorder s (s.noteDrop sev) :=
  ((SameButRecorder.put s Reg.REC_QDROP _ (by decide)).trans (SameButRecorder.put _ Reg.REC_FLAGS_QDROP _ (by decide))).trans
    (SameButRecorder.log _ _ rfl)

theorem enqueue_rec (s : State) (r : EventRec) : SameButRecorder s (s.enqueue r) := by
  unfold State.enqueue
  split
  · exact SameButRecorder.log _ _ rfl
  · split
    · exact noteDrop_rec _ _
    · exact ((SameButRecorder.log s _ rfl).trans (noteDrop_rec _ _)).trans (SameButRecorder.log _ _ rfl)

theorem flushKick_rec (s : State) : SameButRecorder s s.flushKick := by
  unfold State.flushKick
  split
  · exact (SameButRecorder.log s _ rfl).trans (SameButRecorder.put _ Reg.REC_STAT_FLUSHING _ (by decide))
  · exact SameButRecorder.refl s

theorem flushTrigger_rec (s : State) (sev : Nat) : SameButRecorder s (s.flushTrigger sev) := by
  unfold State.flushTrigger
  split
  · exact (SameButRecorder.log s _ rfl).trans (flushKick_rec _)
  · exact SameButRecorder.refl s

theorem record_rec (s : State) (code sev unit p0 p1 p2 p3 : Nat) : SameButRecorder s (s.record code sev unit p0 p1 p2 p3) := by
  unfold State.record
  dsimp only
  refine SameButRecorder.trans ?_ (flushTrigger_rec _ _)
  refine SameButRecorder.trans ?_ (enqueue_rec _ _)
  refine SameButRecorder.trans ?_ (SameButRecorder.log _ _ rfl)
  refine SameButRecorder.trans ?_ (SameButRecorder.put _ Reg.REC_MAXSEV_ANY _ (by decide))
  refine SameButRecorder.trans ?_ (SameButRecorder.put _ Reg.REC_MAXSEV_SEV _ (by decide))
  refine SameButRecorder.trans ?_ (SameButRecorder.putAt _ Reg.REC_SEVCNT _ _ (by decide))
  exact SameButRecorder.put s Reg.REC_LASTSEQ _ (by decide)

theorem snapDropped_rec (s : State) (code : Nat) : SameButRecorder s (s.snapDropped code) :=
  ((SameButRecorder.put s Reg.REC_SNDROP _ (by decide)).trans (SameButRecorder.put _ Reg.REC_FLAGS_SNDROP _ (by decide))).trans
    (record_rec _ _ _ _ _ _ _ _)

theorem snapTrigger_rec (s : State) (m : Bool) (seq code sev kind p0 : Nat) :
    SameButRecorder s (s.snapTrigger m seq code sev kind p0) := by
  unfold State.snapTrigger
  split
  · exact SameButRecorder.refl s
  split
  · exact SameButRecorder.log _ _ rfl
  split
  · exact SameButRecorder.log _ _ rfl
  dsimp only
  split
  · exact (SameButRecorder.log s _ rfl).trans (SameButRecorder.put _ Reg.REC_STAT_SNBUSY _ (by decide))
  split
  · exact (SameButRecorder.log s _ rfl).trans (SameButRecorder.put _ Reg.REC_STAT_SNBUSY _ (by decide))
  · exact snapDropped_rec _ _

/-- One record, with the snapshot it triggers. -/
theorem recordEvent_rec (s : State) (code sev unit p0 p1 p2 p3 : Nat) :
    SameButRecorder s (s.recordEvent code sev unit p0 p1 p2 p3) := by
  unfold State.recordEvent
  dsimp only
  split
  · exact (record_rec _ _ _ _ _ _ _ _).trans (snapTrigger_rec _ _ _ _ _ _ _)
  · exact record_rec _ _ _ _ _ _ _ _

/-- An event of a severity below 6 touches the recorder alone. -/
theorem raise4_rec (s : State) (code sev unit p0 p1 p2 p3 : Nat) (h : sev < 6) :
    SameButRecorder s (s.raise4 code sev unit p0 p1 p2 p3) := by
  unfold State.raise4
  split
  · dsimp only
    rw [if_neg (by omega)]
    exact recordEvent_rec _ _ _ _ _ _ _ _
  · exact ⟨rfl, fun _ _ _ => rfl⟩

/-- An event of severity 6 or more touches the recorder alone where the version in force is not on probation (R313). -/
theorem raise4_rec_high (s : State) (code sev unit p0 p1 p2 p3 : Nat) (h : s.reg Reg.IMG_STAT_PROB ≠ 1) :
    SameButRecorder s (s.raise4 code sev unit p0 p1 p2 p3) := by
  unfold State.raise4
  split
  · dsimp only
    have := (recordEvent_rec s code sev unit p0 p1 p2 p3).cells Reg.IMG_STAT_PROB (by decide) 0
    rw [if_neg (by rw [reg_regAt, this]; exact fun e => h e.2.1)]
    exact recordEvent_rec _ _ _ _ _ _ _ _
  · exact ⟨rfl, fun _ _ _ => rfl⟩


-- generated from the list of State's fields

@[simp] theorem raise4_pending (s : State) (code sev unit p0 p1 p2 p3 : Nat) (h : sev < 6) : (s.raise4 code sev unit p0 p1 p2 p3).pending = s.pending := by
  have e := (raise4_rec s code sev unit p0 p1 p2 p3 h).rest
  rw [e]
@[simp] theorem raise4_now (s : State) (code sev unit p0 p1 p2 p3 : Nat) (h : sev < 6) : (s.raise4 code sev unit p0 p1 p2 p3).now = s.now := by
  have e := (raise4_rec s code sev unit p0 p1 p2 p3 h).rest
  rw [e]
@[simp] theorem raise4_free (s : State) (code sev unit p0 p1 p2 p3 : Nat) (h : sev < 6) : (s.raise4 code sev unit p0 p1 p2 p3).free = s.free := by
  have e := (raise4_rec s code sev unit p0 p1 p2 p3 h).rest
  rw [e]
@[simp] theorem raise4_shad (s : State) (code sev unit p0 p1 p2 p3 : Nat) (h : sev < 6) : (s.raise4 code sev unit p0 p1 p2 p3).shad = s.shad := by
  have e := (raise4_rec s code sev unit p0 p1 p2 p3 h).rest
  rw [e]
@[simp] theorem raise4_touched (s : State) (code sev unit p0 p1 p2 p3 : Nat) (h : sev < 6) : (s.raise4 code sev unit p0 p1 p2 p3).touched = s.touched := by
  have e := (raise4_rec s code sev unit p0 p1 p2 p3 h).rest
  rw [e]
@[simp] theorem raise4_vka (s : State) (code sev unit p0 p1 p2 p3 : Nat) (h : sev < 6) : (s.raise4 code sev unit p0 p1 p2 p3).vka = s.vka := by
  have e := (raise4_rec s code sev unit p0 p1 p2 p3 h).rest
  rw [e]
@[simp] theorem raise4_otp (s : State) (code sev unit p0 p1 p2 p3 : Nat) (h : sev < 6) : (s.raise4 code sev unit p0 p1 p2 p3).otp = s.otp := by
  have e := (raise4_rec s code sev unit p0 p1 p2 p3 h).rest
  rw [e]
@[simp] theorem raise4_flash (s : State) (code sev unit p0 p1 p2 p3 : Nat) (h : sev < 6) : (s.raise4 code sev unit p0 p1 p2 p3).flash = s.flash := by
  have e := (raise4_rec s code sev unit p0 p1 p2 p3 h).rest
  rw [e]
@[simp] theorem raise4_jrn (s : State) (code sev unit p0 p1 p2 p3 : Nat) (h : sev < 6) : (s.raise4 code sev unit p0 p1 p2 p3).jrn = s.jrn := by
  have e := (raise4_rec s code sev unit p0 p1 p2 p3 h).rest
  rw [e]
@[simp] theorem raise4_ic (s : State) (code sev unit p0 p1 p2 p3 : Nat) (h : sev < 6) : (s.raise4 code sev unit p0 p1 p2 p3).ic = s.ic := by
  have e := (raise4_rec s code sev unit p0 p1 p2 p3 h).rest
  rw [e]
@[simp] theorem raise4_portH (s : State) (code sev unit p0 p1 p2 p3 : Nat) (h : sev < 6) : (s.raise4 code sev unit p0 p1 p2 p3).portH = s.portH := by
  have e := (raise4_rec s code sev unit p0 p1 p2 p3 h).rest
  rw [e]
@[simp] theorem raise4_portS (s : State) (code sev unit p0 p1 p2 p3 : Nat) (h : sev < 6) : (s.raise4 code sev unit p0 p1 p2 p3).portS = s.portS := by
  have e := (raise4_rec s code sev unit p0 p1 p2 p3 h).rest
  rw [e]
@[simp] theorem raise4_portD (s : State) (code sev unit p0 p1 p2 p3 : Nat) (h : sev < 6) : (s.raise4 code sev unit p0 p1 p2 p3).portD = s.portD := by
  have e := (raise4_rec s code sev unit p0 p1 p2 p3 h).rest
  rw [e]
@[simp] theorem raise4_sec (s : State) (code sev unit p0 p1 p2 p3 : Nat) (h : sev < 6) : (s.raise4 code sev unit p0 p1 p2 p3).sec = s.sec := by
  have e := (raise4_rec s code sev unit p0 p1 p2 p3 h).rest
  rw [e]
@[simp] theorem raise4_img (s : State) (code sev unit p0 p1 p2 p3 : Nat) (h : sev < 6) : (s.raise4 code sev unit p0 p1 p2 p3).img = s.img := by
  have e := (raise4_rec s code sev unit p0 p1 p2 p3 h).rest
  rw [e]
@[simp] theorem raise4_wheel (s : State) (code sev unit p0 p1 p2 p3 : Nat) (h : sev < 6) : (s.raise4 code sev unit p0 p1 p2 p3).wheel = s.wheel := by
  have e := (raise4_rec s code sev unit p0 p1 p2 p3 h).rest
  rw [e]
@[simp] theorem raise4_twin (s : State) (code sev unit p0 p1 p2 p3 : Nat) (h : sev < 6) : (s.raise4 code sev unit p0 p1 p2 p3).twin = s.twin := by
  have e := (raise4_rec s code sev unit p0 p1 p2 p3 h).rest
  rw [e]
@[simp] theorem raise4_phases (s : State) (code sev unit p0 p1 p2 p3 : Nat) (h : sev < 6) : (s.raise4 code sev unit p0 p1 p2 p3).phases = s.phases := by
  have e := (raise4_rec s code sev unit p0 p1 p2 p3 h).rest
  rw [e]
@[simp] theorem raise4_bays (s : State) (code sev unit p0 p1 p2 p3 : Nat) (h : sev < 6) : (s.raise4 code sev unit p0 p1 p2 p3).bays = s.bays := by
  have e := (raise4_rec s code sev unit p0 p1 p2 p3 h).rest
  rw [e]
@[simp] theorem raise4_fuses (s : State) (code sev unit p0 p1 p2 p3 : Nat) (h : sev < 6) : (s.raise4 code sev unit p0 p1 p2 p3).fuses = s.fuses := by
  have e := (raise4_rec s code sev unit p0 p1 p2 p3 h).rest
  rw [e]
@[simp] theorem raise4_sup (s : State) (code sev unit p0 p1 p2 p3 : Nat) (h : sev < 6) : (s.raise4 code sev unit p0 p1 p2 p3).sup = s.sup := by
  have e := (raise4_rec s code sev unit p0 p1 p2 p3 h).rest
  rw [e]
@[simp] theorem raise4_step (s : State) (code sev unit p0 p1 p2 p3 : Nat) (h : sev < 6) : (s.raise4 code sev unit p0 p1 p2 p3).step = s.step := by
  have e := (raise4_rec s code sev unit p0 p1 p2 p3 h).rest
  rw [e]
@[simp] theorem raise4_sensors (s : State) (code sev unit p0 p1 p2 p3 : Nat) (h : sev < 6) : (s.raise4 code sev unit p0 p1 p2 p3).sensors = s.sensors := by
  have e := (raise4_rec s code sev unit p0 p1 p2 p3 h).rest
  rw [e]
@[simp] theorem raise4_thm (s : State) (code sev unit p0 p1 p2 p3 : Nat) (h : sev < 6) : (s.raise4 code sev unit p0 p1 p2 p3).thm = s.thm := by
  have e := (raise4_rec s code sev unit p0 p1 p2 p3 h).rest
  rw [e]
@[simp] theorem raise4_strs (s : State) (code sev unit p0 p1 p2 p3 : Nat) (h : sev < 6) : (s.raise4 code sev unit p0 p1 p2 p3).strs = s.strs := by
  have e := (raise4_rec s code sev unit p0 p1 p2 p3 h).rest
  rw [e]
@[simp] theorem raise4_ests (s : State) (code sev unit p0 p1 p2 p3 : Nat) (h : sev < 6) : (s.raise4 code sev unit p0 p1 p2 p3).ests = s.ests := by
  have e := (raise4_rec s code sev unit p0 p1 p2 p3 h).rest
  rw [e]
@[simp] theorem raise4_est (s : State) (code sev unit p0 p1 p2 p3 : Nat) (h : sev < 6) : (s.raise4 code sev unit p0 p1 p2 p3).est = s.est := by
  have e := (raise4_rec s code sev unit p0 p1 p2 p3 h).rest
  rw [e]
@[simp] theorem raise4_hup (s : State) (code sev unit p0 p1 p2 p3 : Nat) (h : sev < 6) : (s.raise4 code sev unit p0 p1 p2 p3).hup = s.hup := by
  have e := (raise4_rec s code sev unit p0 p1 p2 p3 h).rest
  rw [e]
@[simp] theorem raise4_tlm (s : State) (code sev unit p0 p1 p2 p3 : Nat) (h : sev < 6) : (s.raise4 code sev unit p0 p1 p2 p3).tlm = s.tlm := by
  have e := (raise4_rec s code sev unit p0 p1 p2 p3 h).rest
  rw [e]
@[simp] theorem raise4_cap (s : State) (code sev unit p0 p1 p2 p3 : Nat) (h : sev < 6) : (s.raise4 code sev unit p0 p1 p2 p3).cap = s.cap := by
  have e := (raise4_rec s code sev unit p0 p1 p2 p3 h).rest
  rw [e]
@[simp] theorem raise4_core_powered (s : State) (code sev unit p0 p1 p2 p3 : Nat) (h : sev < 6) : (s.raise4 code sev unit p0 p1 p2 p3).core.powered = s.core.powered := by
  have e := (raise4_rec s code sev unit p0 p1 p2 p3 h).rest
  rw [e]
@[simp] theorem raise4_core_porAt (s : State) (code sev unit p0 p1 p2 p3 : Nat) (h : sev < 6) : (s.raise4 code sev unit p0 p1 p2 p3).core.porAt = s.core.porAt := by
  have e := (raise4_rec s code sev unit p0 p1 p2 p3 h).rest
  rw [e]
@[simp] theorem raise4_core_modeAt (s : State) (code sev unit p0 p1 p2 p3 : Nat) (h : sev < 6) : (s.raise4 code sev unit p0 p1 p2 p3).core.modeAt = s.core.modeAt := by
  have e := (raise4_rec s code sev unit p0 p1 p2 p3 h).rest
  rw [e]
@[simp] theorem raise4_core_sup (s : State) (code sev unit p0 p1 p2 p3 : Nat) (h : sev < 6) : (s.raise4 code sev unit p0 p1 p2 p3).core.sup = s.core.sup := by
  have e := (raise4_rec s code sev unit p0 p1 p2 p3 h).rest
  rw [e]
@[simp] theorem raise4_core_imgValidAt (s : State) (code sev unit p0 p1 p2 p3 : Nat) (h : sev < 6) : (s.raise4 code sev unit p0 p1 p2 p3).core.imgValidAt = s.core.imgValidAt := by
  have e := (raise4_rec s code sev unit p0 p1 p2 p3 h).rest
  rw [e]
@[simp] theorem raise4_core_xtalSince (s : State) (code sev unit p0 p1 p2 p3 : Nat) (h : sev < 6) : (s.raise4 code sev unit p0 p1 p2 p3).core.xtalSince = s.core.xtalSince := by
  have e := (raise4_rec s code sev unit p0 p1 p2 p3 h).rest
  rw [e]
@[simp] theorem raise4_core_tadReload (s : State) (code sev unit p0 p1 p2 p3 : Nat) (h : sev < 6) : (s.raise4 code sev unit p0 p1 p2 p3).core.tadReload = s.core.tadReload := by
  have e := (raise4_rec s code sev unit p0 p1 p2 p3 h).rest
  rw [e]
@[simp] theorem raise4_core_toTadpole (s : State) (code sev unit p0 p1 p2 p3 : Nat) (h : sev < 6) : (s.raise4 code sev unit p0 p1 p2 p3).core.toTadpole = s.core.toTadpole := by
  have e := (raise4_rec s code sev unit p0 p1 p2 p3 h).rest
  rw [e]
@[simp] theorem raise4_core_deferred (s : State) (code sev unit p0 p1 p2 p3 : Nat) (h : sev < 6) : (s.raise4 code sev unit p0 p1 p2 p3).core.deferred = s.core.deferred := by
  have e := (raise4_rec s code sev unit p0 p1 p2 p3 h).rest
  rw [e]
@[simp] theorem raise4_core_loadNext (s : State) (code sev unit p0 p1 p2 p3 : Nat) (h : sev < 6) : (s.raise4 code sev unit p0 p1 p2 p3).core.loadNext = s.core.loadNext := by
  have e := (raise4_rec s code sev unit p0 p1 p2 p3 h).rest
  rw [e]
@[simp] theorem raise4_core_load (s : State) (code sev unit p0 p1 p2 p3 : Nat) (h : sev < 6) : (s.raise4 code sev unit p0 p1 p2 p3).core.load = s.core.load := by
  have e := (raise4_rec s code sev unit p0 p1 p2 p3 h).rest
  rw [e]
@[simp] theorem raise4_core_shipStep (s : State) (code sev unit p0 p1 p2 p3 : Nat) (h : sev < 6) : (s.raise4 code sev unit p0 p1 p2 p3).core.shipStep = s.core.shipStep := by
  have e := (raise4_rec s code sev unit p0 p1 p2 p3 h).rest
  rw [e]
@[simp] theorem raise4_core_sealAt (s : State) (code sev unit p0 p1 p2 p3 : Nat) (h : sev < 6) : (s.raise4 code sev unit p0 p1 p2 p3).core.sealAt = s.core.sealAt := by
  have e := (raise4_rec s code sev unit p0 p1 p2 p3 h).rest
  rw [e]
@[simp] theorem raise4_core_exited (s : State) (code sev unit p0 p1 p2 p3 : Nat) (h : sev < 6) : (s.raise4 code sev unit p0 p1 p2 p3).core.exited = s.core.exited := by
  have e := (raise4_rec s code sev unit p0 p1 p2 p3 h).rest
  rw [e]
@[simp] theorem raise4_core_secAt (s : State) (code sev unit p0 p1 p2 p3 : Nat) (h : sev < 6) : (s.raise4 code sev unit p0 p1 p2 p3).core.secAt = s.core.secAt := by
  have e := (raise4_rec s code sev unit p0 p1 p2 p3 h).rest
  rw [e]
@[simp] theorem raise4_core_addr (s : State) (code sev unit p0 p1 p2 p3 : Nat) (h : sev < 6) : (s.raise4 code sev unit p0 p1 p2 p3).core.addr = s.core.addr := by
  have e := (raise4_rec s code sev unit p0 p1 p2 p3 h).rest
  rw [e]
@[simp] theorem raise4_core_firstRunAt (s : State) (code sev unit p0 p1 p2 p3 : Nat) (h : sev < 6) : (s.raise4 code sev unit p0 p1 p2 p3).core.firstRunAt = s.core.firstRunAt := by
  have e := (raise4_rec s code sev unit p0 p1 p2 p3 h).rest
  rw [e]
@[simp] theorem raise4_log_scanned (s : State) (code sev unit p0 p1 p2 p3 : Nat) (h : sev < 6) : (s.raise4 code sev unit p0 p1 p2 p3).log.scanned = s.log.scanned := by
  have e := (raise4_rec s code sev unit p0 p1 p2 p3 h).rest
  rw [e]
  rfl
@[simp] theorem raise4_log_clear (s : State) (code sev unit p0 p1 p2 p3 : Nat) (h : sev < 6) : (s.raise4 code sev unit p0 p1 p2 p3).log.clear = s.log.clear := by
  have e := (raise4_rec s code sev unit p0 p1 p2 p3 h).rest
  rw [e]
  rfl
@[simp] theorem raise4_log_firstFullRaised (s : State) (code sev unit p0 p1 p2 p3 : Nat) (h : sev < 6) : (s.raise4 code sev unit p0 p1 p2 p3).log.firstFullRaised = s.log.firstFullRaised := by
  have e := (raise4_rec s code sev unit p0 p1 p2 p3 h).rest
  rw [e]
  rfl
@[simp] theorem raise4_log_rollDropAt (s : State) (code sev unit p0 p1 p2 p3 : Nat) (h : sev < 6) : (s.raise4 code sev unit p0 p1 p2 p3).log.rollDropAt = s.log.rollDropAt := by
  have e := (raise4_rec s code sev unit p0 p1 p2 p3 h).rest
  rw [e]
  rfl
@[simp] theorem raise4_log_winRec (s : State) (code sev unit p0 p1 p2 p3 : Nat) (h : sev < 6) : (s.raise4 code sev unit p0 p1 p2 p3).log.winRec = s.log.winRec := by
  have e := (raise4_rec s code sev unit p0 p1 p2 p3 h).rest
  rw [e]
  rfl
@[simp] theorem raise4_log_fetchAt (s : State) (code sev unit p0 p1 p2 p3 : Nat) (h : sev < 6) : (s.raise4 code sev unit p0 p1 p2 p3).log.fetchAt = s.log.fetchAt := by
  have e := (raise4_rec s code sev unit p0 p1 p2 p3 h).rest
  rw [e]
  rfl
@[simp] theorem raise4_log_advance (s : State) (code sev unit p0 p1 p2 p3 : Nat) (h : sev < 6) : (s.raise4 code sev unit p0 p1 p2 p3).log.advance = s.log.advance := by
  have e := (raise4_rec s code sev unit p0 p1 p2 p3 h).rest
  rw [e]
  rfl
@[simp] theorem raise4_log_snWin (s : State) (code sev unit p0 p1 p2 p3 : Nat) (h : sev < 6) : (s.raise4 code sev unit p0 p1 p2 p3).log.snWin = s.log.snWin := by
  have e := (raise4_rec s code sev unit p0 p1 p2 p3 h).rest
  rw [e]
  rfl
@[simp] theorem raise4_log_snFetchAt (s : State) (code sev unit p0 p1 p2 p3 : Nat) (h : sev < 6) : (s.raise4 code sev unit p0 p1 p2 p3).log.snFetchAt = s.log.snFetchAt := by
  have e := (raise4_rec s code sev unit p0 p1 p2 p3 h).rest
  rw [e]
  rfl
theorem raise4_regAt (s : State) (code sev unit p0 p1 p2 p3 : Nat) (h : sev < 6) (f : Field) (hf : onRecPages f = false) (i : Nat) : (s.raise4 code sev unit p0 p1 p2 p3).regAt f i = s.regAt f i := (raise4_rec _ _ _ _ _ _ _ _ h).cells f hf i
theorem raise4_reg (s : State) (code sev unit p0 p1 p2 p3 : Nat) (h : sev < 6) (f : Field) (hf : onRecPages f = false) : (s.raise4 code sev unit p0 p1 p2 p3).reg f = s.reg f := (raise4_rec _ _ _ _ _ _ _ _ h).cells f hf 0
@[simp] theorem raise4_ph (s : State) (code sev unit p0 p1 p2 p3 : Nat) (h : sev < 6) (i : Nat) : (s.raise4 code sev unit p0 p1 p2 p3).ph i = s.ph i := ph_of_phases (by simp [h]) i
@[simp] theorem raise4_bay (s : State) (code sev unit p0 p1 p2 p3 : Nat) (h : sev < 6) (i : Nat) : (s.raise4 code sev unit p0 p1 p2 p3).bay i = s.bay i := bay_of_bays (by simp [h]) i
@[simp] theorem raise4_fuse (s : State) (code sev unit p0 p1 p2 p3 : Nat) (h : sev < 6) (i : Nat) : (s.raise4 code sev unit p0 p1 p2 p3).fuse i = s.fuse i := fuse_of_fuses (by simp [h]) i
@[simp] theorem raise4_str (s : State) (code sev unit p0 p1 p2 p3 : Nat) (h : sev < 6) (i : Nat) : (s.raise4 code sev unit p0 p1 p2 p3).str i = s.str i := str_of_strs (by simp [h]) i
@[simp] theorem raise4_esti (s : State) (code sev unit p0 p1 p2 p3 : Nat) (h : sev < 6) (i : Nat) : (s.raise4 code sev unit p0 p1 p2 p3).esti i = s.esti i := esti_of_ests (by simp [h]) i
@[simp] theorem raise4_sensor (s : State) (code sev unit p0 p1 p2 p3 : Nat) (h : sev < 6) (i : Nat) : (s.raise4 code sev unit p0 p1 p2 p3).sensor i = s.sensor i := sensor_of_sensors (by simp [h]) i
@[simp] theorem raise_pending (s : State) (code sev unit p0 p1 : Nat) (h : sev < 6) : (s.raise code sev unit p0 p1).pending = s.pending := raise4_pending s code sev unit p0 p1 _ _ h
@[simp] theorem raise_now (s : State) (code sev unit p0 p1 : Nat) (h : sev < 6) : (s.raise code sev unit p0 p1).now = s.now := raise4_now s code sev unit p0 p1 _ _ h
@[simp] theorem raise_free (s : State) (code sev unit p0 p1 : Nat) (h : sev < 6) : (s.raise code sev unit p0 p1).free = s.free := raise4_free s code sev unit p0 p1 _ _ h
@[simp] theorem raise_shad (s : State) (code sev unit p0 p1 : Nat) (h : sev < 6) : (s.raise code sev unit p0 p1).shad = s.shad := raise4_shad s code sev unit p0 p1 _ _ h
@[simp] theorem raise_touched (s : State) (code sev unit p0 p1 : Nat) (h : sev < 6) : (s.raise code sev unit p0 p1).touched = s.touched := raise4_touched s code sev unit p0 p1 _ _ h
@[simp] theorem raise_vka (s : State) (code sev unit p0 p1 : Nat) (h : sev < 6) : (s.raise code sev unit p0 p1).vka = s.vka := raise4_vka s code sev unit p0 p1 _ _ h
@[simp] theorem raise_otp (s : State) (code sev unit p0 p1 : Nat) (h : sev < 6) : (s.raise code sev unit p0 p1).otp = s.otp := raise4_otp s code sev unit p0 p1 _ _ h
@[simp] theorem raise_flash (s : State) (code sev unit p0 p1 : Nat) (h : sev < 6) : (s.raise code sev unit p0 p1).flash = s.flash := raise4_flash s code sev unit p0 p1 _ _ h
@[simp] theorem raise_jrn (s : State) (code sev unit p0 p1 : Nat) (h : sev < 6) : (s.raise code sev unit p0 p1).jrn = s.jrn := raise4_jrn s code sev unit p0 p1 _ _ h
@[simp] theorem raise_ic (s : State) (code sev unit p0 p1 : Nat) (h : sev < 6) : (s.raise code sev unit p0 p1).ic = s.ic := raise4_ic s code sev unit p0 p1 _ _ h
@[simp] theorem raise_portH (s : State) (code sev unit p0 p1 : Nat) (h : sev < 6) : (s.raise code sev unit p0 p1).portH = s.portH := raise4_portH s code sev unit p0 p1 _ _ h
@[simp] theorem raise_portS (s : State) (code sev unit p0 p1 : Nat) (h : sev < 6) : (s.raise code sev unit p0 p1).portS = s.portS := raise4_portS s code sev unit p0 p1 _ _ h
@[simp] theorem raise_portD (s : State) (code sev unit p0 p1 : Nat) (h : sev < 6) : (s.raise code sev unit p0 p1).portD = s.portD := raise4_portD s code sev unit p0 p1 _ _ h
@[simp] theorem raise_sec (s : State) (code sev unit p0 p1 : Nat) (h : sev < 6) : (s.raise code sev unit p0 p1).sec = s.sec := raise4_sec s code sev unit p0 p1 _ _ h
@[simp] theorem raise_img (s : State) (code sev unit p0 p1 : Nat) (h : sev < 6) : (s.raise code sev unit p0 p1).img = s.img := raise4_img s code sev unit p0 p1 _ _ h
@[simp] theorem raise_wheel (s : State) (code sev unit p0 p1 : Nat) (h : sev < 6) : (s.raise code sev unit p0 p1).wheel = s.wheel := raise4_wheel s code sev unit p0 p1 _ _ h
@[simp] theorem raise_twin (s : State) (code sev unit p0 p1 : Nat) (h : sev < 6) : (s.raise code sev unit p0 p1).twin = s.twin := raise4_twin s code sev unit p0 p1 _ _ h
@[simp] theorem raise_phases (s : State) (code sev unit p0 p1 : Nat) (h : sev < 6) : (s.raise code sev unit p0 p1).phases = s.phases := raise4_phases s code sev unit p0 p1 _ _ h
@[simp] theorem raise_bays (s : State) (code sev unit p0 p1 : Nat) (h : sev < 6) : (s.raise code sev unit p0 p1).bays = s.bays := raise4_bays s code sev unit p0 p1 _ _ h
@[simp] theorem raise_fuses (s : State) (code sev unit p0 p1 : Nat) (h : sev < 6) : (s.raise code sev unit p0 p1).fuses = s.fuses := raise4_fuses s code sev unit p0 p1 _ _ h
@[simp] theorem raise_sup (s : State) (code sev unit p0 p1 : Nat) (h : sev < 6) : (s.raise code sev unit p0 p1).sup = s.sup := raise4_sup s code sev unit p0 p1 _ _ h
@[simp] theorem raise_step (s : State) (code sev unit p0 p1 : Nat) (h : sev < 6) : (s.raise code sev unit p0 p1).step = s.step := raise4_step s code sev unit p0 p1 _ _ h
@[simp] theorem raise_sensors (s : State) (code sev unit p0 p1 : Nat) (h : sev < 6) : (s.raise code sev unit p0 p1).sensors = s.sensors := raise4_sensors s code sev unit p0 p1 _ _ h
@[simp] theorem raise_thm (s : State) (code sev unit p0 p1 : Nat) (h : sev < 6) : (s.raise code sev unit p0 p1).thm = s.thm := raise4_thm s code sev unit p0 p1 _ _ h
@[simp] theorem raise_strs (s : State) (code sev unit p0 p1 : Nat) (h : sev < 6) : (s.raise code sev unit p0 p1).strs = s.strs := raise4_strs s code sev unit p0 p1 _ _ h
@[simp] theorem raise_ests (s : State) (code sev unit p0 p1 : Nat) (h : sev < 6) : (s.raise code sev unit p0 p1).ests = s.ests := raise4_ests s code sev unit p0 p1 _ _ h
@[simp] theorem raise_est (s : State) (code sev unit p0 p1 : Nat) (h : sev < 6) : (s.raise code sev unit p0 p1).est = s.est := raise4_est s code sev unit p0 p1 _ _ h
@[simp] theorem raise_hup (s : State) (code sev unit p0 p1 : Nat) (h : sev < 6) : (s.raise code sev unit p0 p1).hup = s.hup := raise4_hup s code sev unit p0 p1 _ _ h
@[simp] theorem raise_tlm (s : State) (code sev unit p0 p1 : Nat) (h : sev < 6) : (s.raise code sev unit p0 p1).tlm = s.tlm := raise4_tlm s code sev unit p0 p1 _ _ h
@[simp] theorem raise_cap (s : State) (code sev unit p0 p1 : Nat) (h : sev < 6) : (s.raise code sev unit p0 p1).cap = s.cap := raise4_cap s code sev unit p0 p1 _ _ h
@[simp] theorem raise_core_powered (s : State) (code sev unit p0 p1 : Nat) (h : sev < 6) : (s.raise code sev unit p0 p1).core.powered = s.core.powered := raise4_core_powered s code sev unit p0 p1 _ _ h
@[simp] theorem raise_core_porAt (s : State) (code sev unit p0 p1 : Nat) (h : sev < 6) : (s.raise code sev unit p0 p1).core.porAt = s.core.porAt := raise4_core_porAt s code sev unit p0 p1 _ _ h
@[simp] theorem raise_core_modeAt (s : State) (code sev unit p0 p1 : Nat) (h : sev < 6) : (s.raise code sev unit p0 p1).core.modeAt = s.core.modeAt := raise4_core_modeAt s code sev unit p0 p1 _ _ h
@[simp] theorem raise_core_sup (s : State) (code sev unit p0 p1 : Nat) (h : sev < 6) : (s.raise code sev unit p0 p1).core.sup = s.core.sup := raise4_core_sup s code sev unit p0 p1 _ _ h
@[simp] theorem raise_core_imgValidAt (s : State) (code sev unit p0 p1 : Nat) (h : sev < 6) : (s.raise code sev unit p0 p1).core.imgValidAt = s.core.imgValidAt := raise4_core_imgValidAt s code sev unit p0 p1 _ _ h
@[simp] theorem raise_core_xtalSince (s : State) (code sev unit p0 p1 : Nat) (h : sev < 6) : (s.raise code sev unit p0 p1).core.xtalSince = s.core.xtalSince := raise4_core_xtalSince s code sev unit p0 p1 _ _ h
@[simp] theorem raise_core_tadReload (s : State) (code sev unit p0 p1 : Nat) (h : sev < 6) : (s.raise code sev unit p0 p1).core.tadReload = s.core.tadReload := raise4_core_tadReload s code sev unit p0 p1 _ _ h
@[simp] theorem raise_core_toTadpole (s : State) (code sev unit p0 p1 : Nat) (h : sev < 6) : (s.raise code sev unit p0 p1).core.toTadpole = s.core.toTadpole := raise4_core_toTadpole s code sev unit p0 p1 _ _ h
@[simp] theorem raise_core_deferred (s : State) (code sev unit p0 p1 : Nat) (h : sev < 6) : (s.raise code sev unit p0 p1).core.deferred = s.core.deferred := raise4_core_deferred s code sev unit p0 p1 _ _ h
@[simp] theorem raise_core_loadNext (s : State) (code sev unit p0 p1 : Nat) (h : sev < 6) : (s.raise code sev unit p0 p1).core.loadNext = s.core.loadNext := raise4_core_loadNext s code sev unit p0 p1 _ _ h
@[simp] theorem raise_core_load (s : State) (code sev unit p0 p1 : Nat) (h : sev < 6) : (s.raise code sev unit p0 p1).core.load = s.core.load := raise4_core_load s code sev unit p0 p1 _ _ h
@[simp] theorem raise_core_shipStep (s : State) (code sev unit p0 p1 : Nat) (h : sev < 6) : (s.raise code sev unit p0 p1).core.shipStep = s.core.shipStep := raise4_core_shipStep s code sev unit p0 p1 _ _ h
@[simp] theorem raise_core_sealAt (s : State) (code sev unit p0 p1 : Nat) (h : sev < 6) : (s.raise code sev unit p0 p1).core.sealAt = s.core.sealAt := raise4_core_sealAt s code sev unit p0 p1 _ _ h
@[simp] theorem raise_core_exited (s : State) (code sev unit p0 p1 : Nat) (h : sev < 6) : (s.raise code sev unit p0 p1).core.exited = s.core.exited := raise4_core_exited s code sev unit p0 p1 _ _ h
@[simp] theorem raise_core_secAt (s : State) (code sev unit p0 p1 : Nat) (h : sev < 6) : (s.raise code sev unit p0 p1).core.secAt = s.core.secAt := raise4_core_secAt s code sev unit p0 p1 _ _ h
@[simp] theorem raise_core_addr (s : State) (code sev unit p0 p1 : Nat) (h : sev < 6) : (s.raise code sev unit p0 p1).core.addr = s.core.addr := raise4_core_addr s code sev unit p0 p1 _ _ h
@[simp] theorem raise_core_firstRunAt (s : State) (code sev unit p0 p1 : Nat) (h : sev < 6) : (s.raise code sev unit p0 p1).core.firstRunAt = s.core.firstRunAt := raise4_core_firstRunAt s code sev unit p0 p1 _ _ h
@[simp] theorem raise_log_scanned (s : State) (code sev unit p0 p1 : Nat) (h : sev < 6) : (s.raise code sev unit p0 p1).log.scanned = s.log.scanned := raise4_log_scanned s code sev unit p0 p1 _ _ h
@[simp] theorem raise_log_clear (s : State) (code sev unit p0 p1 : Nat) (h : sev < 6) : (s.raise code sev unit p0 p1).log.clear = s.log.clear := raise4_log_clear s code sev unit p0 p1 _ _ h
@[simp] theorem raise_log_firstFullRaised (s : State) (code sev unit p0 p1 : Nat) (h : sev < 6) : (s.raise code sev unit p0 p1).log.firstFullRaised = s.log.firstFullRaised := raise4_log_firstFullRaised s code sev unit p0 p1 _ _ h
@[simp] theorem raise_log_rollDropAt (s : State) (code sev unit p0 p1 : Nat) (h : sev < 6) : (s.raise code sev unit p0 p1).log.rollDropAt = s.log.rollDropAt := raise4_log_rollDropAt s code sev unit p0 p1 _ _ h
@[simp] theorem raise_log_winRec (s : State) (code sev unit p0 p1 : Nat) (h : sev < 6) : (s.raise code sev unit p0 p1).log.winRec = s.log.winRec := raise4_log_winRec s code sev unit p0 p1 _ _ h
@[simp] theorem raise_log_fetchAt (s : State) (code sev unit p0 p1 : Nat) (h : sev < 6) : (s.raise code sev unit p0 p1).log.fetchAt = s.log.fetchAt := raise4_log_fetchAt s code sev unit p0 p1 _ _ h
@[simp] theorem raise_log_advance (s : State) (code sev unit p0 p1 : Nat) (h : sev < 6) : (s.raise code sev unit p0 p1).log.advance = s.log.advance := raise4_log_advance s code sev unit p0 p1 _ _ h
@[simp] theorem raise_log_snWin (s : State) (code sev unit p0 p1 : Nat) (h : sev < 6) : (s.raise code sev unit p0 p1).log.snWin = s.log.snWin := raise4_log_snWin s code sev unit p0 p1 _ _ h
@[simp] theorem raise_log_snFetchAt (s : State) (code sev unit p0 p1 : Nat) (h : sev < 6) : (s.raise code sev unit p0 p1).log.snFetchAt = s.log.snFetchAt := raise4_log_snFetchAt s code sev unit p0 p1 _ _ h
theorem raise_regAt (s : State) (code sev unit p0 p1 : Nat) (h : sev < 6) (f : Field) (hf : onRecPages f = false) (i : Nat) : (s.raise code sev unit p0 p1).regAt f i = s.regAt f i := (raise4_rec _ _ _ _ _ _ _ _ h).cells f hf i
theorem raise_reg (s : State) (code sev unit p0 p1 : Nat) (h : sev < 6) (f : Field) (hf : onRecPages f = false) : (s.raise code sev unit p0 p1).reg f = s.reg f := (raise4_rec _ _ _ _ _ _ _ _ h).cells f hf 0
@[simp] theorem raise_ph (s : State) (code sev unit p0 p1 : Nat) (h : sev < 6) (i : Nat) : (s.raise code sev unit p0 p1).ph i = s.ph i := ph_of_phases (by simp [h]) i
@[simp] theorem raise_bay (s : State) (code sev unit p0 p1 : Nat) (h : sev < 6) (i : Nat) : (s.raise code sev unit p0 p1).bay i = s.bay i := bay_of_bays (by simp [h]) i
@[simp] theorem raise_fuse (s : State) (code sev unit p0 p1 : Nat) (h : sev < 6) (i : Nat) : (s.raise code sev unit p0 p1).fuse i = s.fuse i := fuse_of_fuses (by simp [h]) i
@[simp] theorem raise_str (s : State) (code sev unit p0 p1 : Nat) (h : sev < 6) (i : Nat) : (s.raise code sev unit p0 p1).str i = s.str i := str_of_strs (by simp [h]) i
@[simp] theorem raise_esti (s : State) (code sev unit p0 p1 : Nat) (h : sev < 6) (i : Nat) : (s.raise code sev unit p0 p1).esti i = s.esti i := esti_of_ests (by simp [h]) i
@[simp] theorem raise_sensor (s : State) (code sev unit p0 p1 : Nat) (h : sev < 6) (i : Nat) : (s.raise code sev unit p0 p1).sensor i = s.sensor i := sensor_of_sensors (by simp [h]) i

end Sys2Proof.Laws
end

