-- ==== Sys2Proof/Laws/Frame.lean ====
section
/-! SUPPORT. Frames: `Frame P G s u` says that `u` differs from `s` at most in the parts of `P` and in registers of the pages of `G`,
and that the stores of `u` are in canonical form where those of `s` are. `P` and `G` are sets written as bits of a number: bit k
of `P` is the k-th name of the structure below, bit k of `G` is page k. The laws say of every operation, once, what it can touch. -/

namespace Sys2Proof.Laws

open Sys2Proof Sys2Proof.Machine

/-- The modes' part but for the events held, the supply and the supervisor's state, which have bits of their own. -/
def coreRest (c : CoreSt) : CoreSt := { c with heldEvents := [], powered := false, sup := .running }

/-- The pair's part but for the records waiting to be sent, which have a bit of their own. -/
def twinRest (t : TwinSt) : TwinSt := { t with sendQ := [], recSeq := 0 }

/-- The wheel's place: a wheel that runs keeps running, and keeps its point and that point's time. -/
abbrev posKept (w v : WheelSt) : Prop := w.running = true → v.running = true ∧ v.idx = w.idx ∧ v.ptAt = w.ptAt

/-- What can differ between two states. -/
structure Frame (P G : Nat) (s u : State) : Prop where
  f_pending : P.testBit 0 = false → u.pending = s.pending
  f_now : P.testBit 1 = false → u.now = s.now
  f_free : P.testBit 2 = false → u.free = s.free
  f_shad : P.testBit 3 = false → u.shad = s.shad
  f_touched : P.testBit 4 = false → u.touched = s.touched
  f_core : P.testBit 5 = false → coreRest u.core = coreRest s.core
  f_held : P.testBit 6 = false → u.core.heldEvents = s.core.heldEvents
  f_powered : P.testBit 7 = false → u.core.powered = s.core.powered
  f_vka : P.testBit 8 = false → u.vka = s.vka
  f_otp : P.testBit 9 = false → u.otp = s.otp
  f_flash : P.testBit 10 = false → u.flash = s.flash
  f_jrn : P.testBit 11 = false → u.jrn = s.jrn
  f_log : P.testBit 12 = false → u.log = s.log
  f_ic : P.testBit 13 = false → u.ic = s.ic
  f_portH : P.testBit 14 = false → u.portH = s.portH
  f_portS : P.testBit 15 = false → u.portS = s.portS
  f_portD : P.testBit 16 = false → u.portD = s.portD
  f_sec : P.testBit 17 = false → u.sec = s.sec
  f_img : P.testBit 18 = false → u.img = s.img
  f_wheel : P.testBit 19 = false → u.wheel = s.wheel
  f_twin : P.testBit 20 = false → twinRest u.twin = twinRest s.twin
  f_sendQ : P.testBit 21 = false → (u.twin.sendQ, u.twin.recSeq) = (s.twin.sendQ, s.twin.recSeq)
  f_phases : P.testBit 22 = false → u.phases = s.phases
  f_bays : P.testBit 23 = false → u.bays = s.bays
  f_fuses : P.testBit 24 = false → u.fuses = s.fuses
  f_sup : P.testBit 25 = false → u.sup = s.sup
  f_step : P.testBit 26 = false → u.step = s.step
  f_sensors : P.testBit 27 = false → u.sensors = s.sensors
  f_thm : P.testBit 28 = false → u.thm = s.thm
  f_strs : P.testBit 29 = false → u.strs = s.strs
  f_ests : P.testBit 30 = false → u.ests = s.ests
  f_est : P.testBit 31 = false → u.est = s.est
  f_hup : P.testBit 32 = false → u.hup = s.hup
  f_tlm : P.testBit 33 = false → u.tlm = s.tlm
  f_cap : P.testBit 34 = false → u.cap = s.cap
  f_supv : P.testBit 35 = false → u.core.sup = s.core.sup
  f_pos : P.testBit 36 = false → posKept s.wheel u.wheel
  f_regs : ∀ (f : Field) (i : Nat), G.testBit f.onPage = false → fieldGet u.regs f i = fieldGet s.regs f i
  f_wf : s.storesWf = true → u.storesWf = true


theorem Frame.refl (P G : Nat) (s : State) : Frame P G s s := by constructor <;> intros <;> first | rfl | assumption | exact fun h => ⟨h, rfl, rfl⟩

theorem Frame.trans {P G : Nat} {s u w : State} (h : Frame P G s u) (k : Frame P G u w) : Frame P G s w where
  f_pending := fun x => (k.f_pending x).trans (h.f_pending x)
  f_now := fun x => (k.f_now x).trans (h.f_now x)
  f_free := fun x => (k.f_free x).trans (h.f_free x)
  f_shad := fun x => (k.f_shad x).trans (h.f_shad x)
  f_touched := fun x => (k.f_touched x).trans (h.f_touched x)
  f_core := fun x => (k.f_core x).trans (h.f_core x)
  f_held := fun x => (k.f_held x).trans (h.f_held x)
  f_powered := fun x => (k.f_powered x).trans (h.f_powered x)
  f_vka := fun x => (k.f_vka x).trans (h.f_vka x)
  f_otp := fun x => (k.f_otp x).trans (h.f_otp x)
  f_flash := fun x => (k.f_flash x).trans (h.f_flash x)
  f_jrn := fun x => (k.f_jrn x).trans (h.f_jrn x)
  f_log := fun x => (k.f_log x).trans (h.f_log x)
  f_ic := fun x => (k.f_ic x).trans (h.f_ic x)
  f_portH := fun x => (k.f_portH x).trans (h.f_portH x)
  f_portS := fun x => (k.f_portS x).trans (h.f_portS x)
  f_portD := fun x => (k.f_portD x).trans (h.f_portD x)
  f_sec := fun x => (k.f_sec x).trans (h.f_sec x)
  f_img := fun x => (k.f_img x).trans (h.f_img x)
  f_wheel := fun x => (k.f_wheel x).trans (h.f_wheel x)
  f_twin := fun x => (k.f_twin x).trans (h.f_twin x)
  f_sendQ := fun x => (k.f_sendQ x).trans (h.f_sendQ x)
  f_phases := fun x => (k.f_phases x).trans (h.f_phases x)
  f_bays := fun x => (k.f_bays x).trans (h.f_bays x)
  f_fuses := fun x => (k.f_fuses x).trans (h.f_fuses x)
  f_sup := fun x => (k.f_sup x).trans (h.f_sup x)
  f_step := fun x => (k.f_step x).trans (h.f_step x)
  f_sensors := fun x => (k.f_sensors x).trans (h.f_sensors x)
  f_thm := fun x => (k.f_thm x).trans (h.f_thm x)
  f_strs := fun x => (k.f_strs x).trans (h.f_strs x)
  f_ests := fun x => (k.f_ests x).trans (h.f_ests x)
  f_est := fun x => (k.f_est x).trans (h.f_est x)
  f_hup := fun x => (k.f_hup x).trans (h.f_hup x)
  f_tlm := fun x => (k.f_tlm x).trans (h.f_tlm x)
  f_cap := fun x => (k.f_cap x).trans (h.f_cap x)
  f_supv := fun x => (k.f_supv x).trans (h.f_supv x)
  f_pos := fun x r => ⟨(k.f_pos x (h.f_pos x r).1).1, (k.f_pos x (h.f_pos x r).1).2.1.trans (h.f_pos x r).2.1, (k.f_pos x (h.f_pos x r).1).2.2.trans (h.f_pos x r).2.2⟩
  f_regs := fun f i x => (k.f_regs f i x).trans (h.f_regs f i x)
  f_wf := fun x => k.f_wf (h.f_wf x)

theorem bit_of_land {P Q k : Nat} (h : Q &&& P = Q) (hk : P.testBit k = false) : Q.testBit k = false := by
  rw [← h, Nat.testBit_and, hk, Bool.and_false]

theorem bit_mono {P Q k : Nat} (h : Q &&& P = Q) (hk : Q.testBit k = true) : P.testBit k = true := by
  rw [← h, Nat.testBit_and, Bool.and_eq_true] at hk; exact hk.2

theorem land_trans {P Q R : Nat} (h : Q &&& P = Q) (k : R &&& Q = R) : R &&& P = R := by
  rw [← k, Nat.and_assoc, h]

/-- A smaller frame is a larger one's instance. -/
theorem Frame.mono {P G Q H : Nat} {s u : State} (h : Frame Q H s u) (hP : Q &&& P = Q) (hG : H &&& G = H) : Frame P G s u where
  f_pending := fun x => h.f_pending (bit_of_land hP x)
  f_now := fun x => h.f_now (bit_of_land hP x)
  f_free := fun x => h.f_free (bit_of_land hP x)
  f_shad := fun x => h.f_shad (bit_of_land hP x)
  f_touched := fun x => h.f_touched (bit_of_land hP x)
  f_core := fun x => h.f_core (bit_of_land hP x)
  f_held := fun x => h.f_held (bit_of_land hP x)
  f_powered := fun x => h.f_powered (bit_of_land hP x)
  f_vka := fun x => h.f_vka (bit_of_land hP x)
  f_otp := fun x => h.f_otp (bit_of_land hP x)
  f_flash := fun x => h.f_flash (bit_of_land hP x)
  f_jrn := fun x => h.f_jrn (bit_of_land hP x)
  f_log := fun x => h.f_log (bit_of_land hP x)
  f_ic := fun x => h.f_ic (bit_of_land hP x)
  f_portH := fun x => h.f_portH (bit_of_land hP x)
  f_portS := fun x => h.f_portS (bit_of_land hP x)
  f_portD := fun x => h.f_portD (bit_of_land hP x)
  f_sec := fun x => h.f_sec (bit_of_land hP x)
  f_img := fun x => h.f_img (bit_of_land hP x)
  f_wheel := fun x => h.f_wheel (bit_of_land hP x)
  f_twin := fun x => h.f_twin (bit_of_land hP x)
  f_sendQ := fun x => h.f_sendQ (bit_of_land hP x)
  f_phases := fun x => h.f_phases (bit_of_land hP x)
  f_bays := fun x => h.f_bays (bit_of_land hP x)
  f_fuses := fun x => h.f_fuses (bit_of_land hP x)
  f_sup := fun x => h.f_sup (bit_of_land hP x)
  f_step := fun x => h.f_step (bit_of_land hP x)
  f_sensors := fun x => h.f_sensors (bit_of_land hP x)
  f_thm := fun x => h.f_thm (bit_of_land hP x)
  f_strs := fun x => h.f_strs (bit_of_land hP x)
  f_ests := fun x => h.f_ests (bit_of_land hP x)
  f_est := fun x => h.f_est (bit_of_land hP x)
  f_hup := fun x => h.f_hup (bit_of_land hP x)
  f_tlm := fun x => h.f_tlm (bit_of_land hP x)
  f_cap := fun x => h.f_cap (bit_of_land hP x)
  f_supv := fun x => h.f_supv (bit_of_land hP x)
  f_pos := fun x => h.f_pos (bit_of_land hP x)
  f_regs := fun f i x => h.f_regs f i (bit_of_land hG x)
  f_wf := h.f_wf

/-- One more operation. -/
theorem Frame.step {P G Q H : Nat} {s m u : State} (h : Frame P G s m) (k : Frame Q H m u) (hP : Q &&& P = Q) (hG : H &&& G = H) :
    Frame P G s u := h.trans (k.mono hP hG)

theorem Frame.foldlT {P G : Nat} {s a : State} {β : Type} {f : State → β → State} {l : List β} (h : Frame P G s a)
    (hf : ∀ a b, Frame P G a (f a b)) : Frame P G s (l.foldl f a) := by
  induction l generalizing a with
  | nil => exact h
  | cons b l ih => exact ih (h.trans (hf a b))

theorem Frame.ite {P G : Nat} {s a b : State} {c : Prop} [Decidable c] (h : c → Frame P G s a) (k : ¬c → Frame P G s b) :
    Frame P G s (if c then a else b) := by
  split
  · exact h ‹_›
  · exact k ‹_›

/-- The parts of a written-out state that Frame looks at. -/
def FrameC (P G : Nat) (s : State)
    (pending : List Instr) (now : Nat) (free : Nat) (regs : Cells) (shad : Cells) (touched : Nat) (core : CoreSt) (vka : Vka) (otp : Otp) (flash : Flash) (jrn : JrnSt) (log : LogSt) (ic : IcSt) (portH : Port) (portS : Port) (portD : Port) (sec : SecSt) (img : ImgSt) (wheel : WheelSt) (twin : TwinSt) (phases : Vector PhaseSt 48) (bays : Vector BaySt 8) (fuses : Vector FuseSt 16) (sup : RegSt) (step : StepSt) (sensors : Vector SenSt 52) (thm : ThmSt) (strs : Vector StrSt 8) (ests : Vector EstSt 8) (est : EstShelf) (hup : HupSt) (tlm : TlmSt) (cap : CapSt) : Prop :=
  Frame P G s ⟨pending, now, free, regs, shad, touched, core, vka, otp, flash, jrn, log, ic, portH, portS, portD, sec, img, wheel, twin, phases, bays, fuses, sup, step, sensors, thm, strs, ests, est, hup, tlm, cap⟩

theorem Frame.mk_iff (P G : Nat) (s : State) (pending : List Instr) (now : Nat) (free : Nat) (regs : Cells) (shad : Cells) (touched : Nat) (core : CoreSt) (vka : Vka) (otp : Otp) (flash : Flash) (jrn : JrnSt) (log : LogSt) (ic : IcSt) (portH : Port) (portS : Port) (portD : Port) (sec : SecSt) (img : ImgSt) (wheel : WheelSt) (twin : TwinSt) (phases : Vector PhaseSt 48) (bays : Vector BaySt 8) (fuses : Vector FuseSt 16) (sup : RegSt) (step : StepSt) (sensors : Vector SenSt 52) (thm : ThmSt) (strs : Vector StrSt 8) (ests : Vector EstSt 8) (est : EstShelf) (hup : HupSt) (tlm : TlmSt) (cap : CapSt) :
    Frame P G s ⟨pending, now, free, regs, shad, touched, core, vka, otp, flash, jrn, log, ic, portH, portS, portD, sec, img, wheel, twin, phases, bays, fuses, sup, step, sensors, thm, strs, ests, est, hup, tlm, cap⟩ ↔ FrameC P G s pending now free regs shad touched core vka otp flash jrn log ic portH portS portD sec img wheel twin phases bays fuses sup step sensors thm strs ests est hup tlm cap := Iff.rfl

theorem FrameC.upd {P G : Nat} {s : State} (e : State)
    {now : Nat} {free : Nat} {regs : Cells} {shad : Cells} {touched : Nat} {core : CoreSt} {vka : Vka} {otp : Otp} {flash : Flash} {jrn : JrnSt} {log : LogSt} {ic : IcSt} {portH : Port} {portS : Port} {portD : Port} {sec : SecSt} {img : ImgSt} {wheel : WheelSt} {twin : TwinSt} {phases : Vector PhaseSt 48} {bays : Vector BaySt 8} {fuses : Vector FuseSt 16} {sup : RegSt} {step : StepSt} {sensors : Vector SenSt 52} {thm : ThmSt} {strs : Vector StrSt 8} {ests : Vector EstSt 8} {est : EstShelf} {hup : HupSt} {tlm : TlmSt} {cap : CapSt}
    (h : Frame P G s e)
    (h_now : P.testBit 1 = false → now = e.now)
    (h_free : P.testBit 2 = false → free = e.free)
    (h_shad : P.testBit 3 = false → shad = e.shad)
    (h_touched : P.testBit 4 = false → touched = e.touched)
    (h_core : P.testBit 5 = false → coreRest core = coreRest e.core)
    (h_held : P.testBit 6 = false → core.heldEvents = e.core.heldEvents)
    (h_powered : P.testBit 7 = false → core.powered = e.core.powered)
    (h_vka : P.testBit 8 = false → vka = e.vka)
    (h_otp : P.testBit 9 = false → otp = e.otp)
    (h_flash : P.testBit 10 = false → flash = e.flash)
    (h_jrn : P.testBit 11 = false → jrn = e.jrn)
    (h_log : P.testBit 12 = false → log = e.log)
    (h_ic : P.testBit 13 = false → ic = e.ic)
    (h_portH : P.testBit 14 = false → portH = e.portH)
    (h_portS : P.testBit 15 = false → portS = e.portS)
    (h_portD : P.testBit 16 = false → portD = e.portD)
    (h_sec : P.testBit 17 = false → sec = e.sec)
    (h_img : P.testBit 18 = false → img = e.img)
    (h_wheel : P.testBit 19 = false → wheel = e.wheel)
    (h_twin : P.testBit 20 = false → twinRest twin = twinRest e.twin)
    (h_sendQ : P.testBit 21 = false → (twin.sendQ, twin.recSeq) = (e.twin.sendQ, e.twin.recSeq))
    (h_phases : P.testBit 22 = false → phases = e.phases)
    (h_bays : P.testBit 23 = false → bays = e.bays)
    (h_fuses : P.testBit 24 = false → fuses = e.fuses)
    (h_sup : P.testBit 25 = false → sup = e.sup)
    (h_step : P.testBit 26 = false → step = e.step)
    (h_sensors : P.testBit 27 = false → sensors = e.sensors)
    (h_thm : P.testBit 28 = false → thm = e.thm)
    (h_strs : P.testBit 29 = false → strs = e.strs)
    (h_ests : P.testBit 30 = false → ests = e.ests)
    (h_est : P.testBit 31 = false → est = e.est)
    (h_hup : P.testBit 32 = false → hup = e.hup)
    (h_tlm : P.testBit 33 = false → tlm = e.tlm)
    (h_cap : P.testBit 34 = false → cap = e.cap)
    (h_supv : P.testBit 35 = false → core.sup = e.core.sup)
    (h_pos : P.testBit 36 = false → posKept e.wheel wheel)
    (h_regs : ∀ (f : Field) (i : Nat), G.testBit f.onPage = false → fieldGet regs f i = fieldGet e.regs f i)
    (h2 : cellsWf e.regs = true → cellsWf e.shad = true → cellsWf regs = true)
    (h3 : cellsWf e.regs = true → cellsWf e.shad = true → cellsWf shad = true)
    (h4 : Memory.wf e.flash.slotA = true → Memory.wf flash.slotA = true)
    (h5 : Memory.wf e.flash.slotB = true → Memory.wf flash.slotB = true) :
    FrameC P G s e.pending now free regs shad touched core vka otp flash jrn log ic portH portS portD sec img wheel twin phases bays fuses sup step sensors thm strs ests est hup tlm cap := by
  refine h.trans ⟨fun _ => rfl, h_now, h_free, h_shad, h_touched, h_core, h_held, h_powered, h_vka, h_otp, h_flash, h_jrn, h_log, h_ic, h_portH, h_portS, h_portD, h_sec, h_img, h_wheel, h_twin, h_sendQ, h_phases, h_bays, h_fuses, h_sup, h_step, h_sensors, h_thm, h_strs, h_ests, h_est, h_hup, h_tlm, h_cap, h_supv, h_pos, h_regs, fun y => ?_⟩
  simp only [State.storesWf, Bool.and_eq_true] at y ⊢
  exact ⟨⟨⟨h2 y.1.1.1 y.1.1.2, h3 y.1.1.1 y.1.1.2⟩, h4 y.1.2⟩, h5 y.2⟩

theorem allPages (f : Field) : Nat.testBit 0xffffffffffffffff f.onPage = true := by
  have h : f.onPage < 64 := Nat.mod_lt _ (by decide)
  exact (by decide : ∀ k : Fin 64, Nat.testBit 0xffffffffffffffff k = true) ⟨_, h⟩

theorem fieldPut_wf {c : Cells} {f : Field} {i v : Nat} (h : cellsWf c = true) : cellsWf (fieldPut c f i v) = true := cellSet_wf h
theorem copyInsts_wf {f : Field} {src dst : Cells} {n : Nat} (h : cellsWf dst = true) : cellsWf (copyInsts f src dst n) = true := by
  induction n with
  | zero => exact h
  | succ n ih => exact fieldPut_wf ih
theorem copyFields_wf {fs : List Field} {src dst : Cells} (h : cellsWf dst = true) : cellsWf (copyFields src dst fs) = true := by
  induction fs generalizing dst with
  | nil => exact h
  | cons f fs ih =>
    unfold copyFields; split
    · exact ih (copyInsts_wf h)
    · exact ih h
theorem offered_wf {s : State} {l : List Nat} (h : cellsWf s.regs = true) : cellsWf (s.offered l) = true := copyFields_wf h
theorem foldl_wf {β : Type} {f : Cells → β → Cells} (h : ∀ a b, cellsWf a = true → cellsWf (f a b) = true) {l : List β} {a : Cells}
    (ha : cellsWf a = true) : cellsWf (l.foldl f a) = true := by
  induction l generalizing a with
  | nil => exact ha
  | cons b l ih => exact ih (h a b ha)
theorem copyAll_wf {fs : List Field} {src dst : Cells} (h : cellsWf dst = true) : cellsWf (copyAll src dst fs) = true := by
  induction fs generalizing dst with
  | nil => exact h
  | cons f fs ih => exact ih (copyInsts_wf h)
theorem copyBay_wf {f : Field} {b : Nat} {src dst : Cells} (h : cellsWf dst = true) : cellsWf (copyBay f b src dst) = true := by
  unfold copyBay
  refine foldl_wf (fun a b ha => ?_) h
  split
  · exact fieldPut_wf ha
  · exact ha

theorem frame_putAt {P G : Nat} {s m : State} (h : Frame P G s m) (f : Field) (i v : Nat) (hG : G.testBit f.onPage = true) :
    Frame P G s (m.putAt f i v) := by
  refine h.trans ⟨fun _ => rfl, fun _ => rfl, fun _ => rfl, fun _ => rfl, fun _ => rfl, fun _ => rfl, fun _ => rfl, fun _ => rfl, fun _ => rfl, fun _ => rfl, fun _ => rfl, fun _ => rfl, fun _ => rfl, fun _ => rfl, fun _ => rfl, fun _ => rfl, fun _ => rfl, fun _ => rfl, fun _ => rfl, fun _ => rfl, fun _ => rfl, fun _ => rfl, fun _ => rfl, fun _ => rfl, fun _ => rfl, fun _ => rfl, fun _ => rfl, fun _ => rfl, fun _ => rfl, fun _ => rfl, fun _ => rfl, fun _ => rfl, fun _ => rfl, fun _ => rfl, fun _ => rfl, fun _ => rfl, fun _ h => ⟨h, rfl, rfl⟩, fun g j hg => ?_, fun y => ?_⟩
  · refine fieldGet_fieldPut_other _ _ _ _ _ _ (key_ne_of_place (fun e => ?_) _ _)
    unfold Field.onPage at hg hG
    rw [e, hG] at hg; exact absurd hg (by decide)
  · simp only [State.storesWf, Bool.and_eq_true] at y ⊢
    exact ⟨⟨⟨fieldPut_wf y.1.1.1, y.1.1.2⟩, y.1.2⟩, y.2⟩

theorem frame_put {P G : Nat} {s m : State} (h : Frame P G s m) (f : Field) (v : Nat) (hG : G.testBit f.onPage = true) :
  Frame P G s (m.put f v) := frame_putAt h f 0 _ hG
theorem frame_putB {P G : Nat} {s m : State} (h : Frame P G s m) (f : Field) (b : Bool) (hG : G.testBit f.onPage = true) :
  Frame P G s (m.putB f b) := frame_putAt h f 0 _ hG
theorem frame_sput {P G : Nat} {s m : State} (h : Frame P G s m) (f : Field) (v : Int) (hG : G.testBit f.onPage = true) :
  Frame P G s (m.sput f v) := frame_putAt h f 0 _ hG
theorem frame_putSat {P G : Nat} {s m : State} (h : Frame P G s m) (f : Field) (v : Nat) (hG : G.testBit f.onPage = true) :
  Frame P G s (m.putSat f v) := frame_putAt h f 0 _ hG
theorem frame_flag {P G : Nat} {s m : State} (h : Frame P G s m) (f : Field) (hG : G.testBit f.onPage = true) :
  Frame P G s (m.flag f) := frame_putAt h f 0 _ hG
theorem frame_putBit {P G : Nat} {s m : State} (h : Frame P G s m) (f : Field) (k : Nat) (b : Bool) (hG : G.testBit f.onPage = true) :
  Frame P G s (m.putBit f k b) := frame_putAt h f 0 _ hG
theorem frame_bump {P G : Nat} {s m : State} (h : Frame P G s m) (f : Field) (hG : G.testBit f.onPage = true) :
  Frame P G s (m.bump f) := frame_putAt h f 0 _ hG
theorem frame_addTo {P G : Nat} {s m : State} (h : Frame P G s m) (f : Field) (n : Nat) (hG : G.testBit f.onPage = true) :
  Frame P G s (m.addTo f n) := frame_putAt h f 0 _ hG
theorem frame_putAtB {P G : Nat} {s m : State} (h : Frame P G s m) (f : Field) (i : Nat) (b : Bool) (hG : G.testBit f.onPage = true) :
    Frame P G s (m.putAtB f i b) := frame_putAt h f i _ hG
theorem frame_sputAt {P G : Nat} {s m : State} (h : Frame P G s m) (f : Field) (i : Nat) (v : Int) (hG : G.testBit f.onPage = true) :
    Frame P G s (m.sputAt f i v) := frame_putAt h f i _ hG
theorem frame_putAtSat {P G : Nat} {s m : State} (h : Frame P G s m) (f : Field) (i : Nat) (v : Nat) (hG : G.testBit f.onPage = true) :
    Frame P G s (m.putAtSat f i v) := frame_putAt h f i _ hG
theorem frame_bumpAt {P G : Nat} {s m : State} (h : Frame P G s m) (f : Field) (i : Nat)  (hG : G.testBit f.onPage = true) :
    Frame P G s (m.bumpAt f i ) := frame_putAt h f i _ hG
theorem frame_putShad {P G : Nat} {s m : State} (h : Frame P G s m) (f : Field) (i v : Nat) (hP : P.testBit 3 = true) :
    Frame P G s (m.putShad f i v) := by
  refine h.trans ⟨fun _ => rfl, fun _ => rfl, fun _ => rfl, fun x => absurd x (by rw [hP]; decide), fun _ => rfl, fun _ => rfl, fun _ => rfl, fun _ => rfl, fun _ => rfl, fun _ => rfl, fun _ => rfl, fun _ => rfl, fun _ => rfl, fun _ => rfl, fun _ => rfl, fun _ => rfl, fun _ => rfl, fun _ => rfl, fun _ => rfl, fun _ => rfl, fun _ => rfl, fun _ => rfl, fun _ => rfl, fun _ => rfl, fun _ => rfl, fun _ => rfl, fun _ => rfl, fun _ => rfl, fun _ => rfl, fun _ => rfl, fun _ => rfl, fun _ => rfl, fun _ => rfl, fun _ => rfl, fun _ => rfl, fun _ => rfl, fun _ h => ⟨h, rfl, rfl⟩, fun _ _ _ => rfl, fun y => ?_⟩
  simp only [State.storesWf, Bool.and_eq_true] at y ⊢
  exact ⟨⟨⟨y.1.1.1, fieldPut_wf y.1.1.2⟩, y.1.2⟩, y.2⟩
theorem frame_putBoth {P G : Nat} {s m : State} (h : Frame P G s m) (f : Field) (i v : Nat) (hP : P.testBit 3 = true)
    (hG : G.testBit f.onPage = true) : Frame P G s (m.putBoth f i v) :=
  frame_putShad (frame_putAt h f i v hG) f i v hP

end Sys2Proof.Laws
end

