-- ==== Sys2Proof/Laws/Frame1.lean ====
section
/-! SUPPORT. Frame laws: what each operation of these files of Machine/ can touch: Ops, Recorder, JournalOps, Raise, Sessions, Decisions, Interrupts, Analog, FuseCmd, BayOps, Sensors, Estimator, Sag. -/

namespace Sys2Proof.Laws

open Sys2Proof Sys2Proof.Machine

set_option Elab.async false
set_option linter.all false

theorem frame_touch {P G : Nat} {s₀ s : State} (h₀ : Frame P G s₀ s) (page : Nat) (hP : 0x10 &&& P = 0x10) (hG : 0x0 &&& G = 0x0) : Frame P G s₀ (State.touch s page) := by
  refine h₀.step (Q := 0x10) (H := 0x0) ?_ hP hG
  unfold State.touch
  try dsimp only
  iterate 50 all_goals try (first
    | (simp only [Frame.mk_iff]; with_reducible apply FrameC.upd <;> first | with_reducible exact fun _ => rfl | exact fun h => absurd h (by decide +kernel) | with_reducible exact fun _ h => ⟨h, rfl, rfl⟩ | with_reducible exact fun _ _ _ => rfl | with_reducible exact id | with_reducible exact fun h _ => h | with_reducible exact fun _ h => h | skip)
    | with_reducible apply Frame.ite
    | with_reducible exact Frame.refl _ _ _
    | with_reducible apply Frame.foldlT
    | with_reducible assumption
    | (show (_ : Nat) = _; decide +kernel)
    | (show Nat.testBit _ _ = true; decide +kernel)
    | intro _
    | split)

theorem frame_boundary {P G : Nat} {s₀ s : State} (h₀ : Frame P G s₀ s) (pages : List Nat) (f : State → State) (hP : 0x10 &&& P = 0x10) (hG : 0x0 &&& G = 0x0) (h_f : ∀ z, Frame P G z (f z)) : Frame P G s₀ (State.boundary s pages f) := by
  unfold State.boundary
  try dsimp only
  iterate 70 all_goals try (first
    | (simp only [Frame.mk_iff]; with_reducible apply FrameC.upd <;> first | with_reducible exact fun _ => rfl | exact fun h => absurd h (by decide +kernel) | with_reducible exact fun _ h => ⟨h, rfl, rfl⟩ | with_reducible exact fun _ _ _ => rfl | with_reducible exact id | with_reducible exact fun h _ => h | with_reducible exact fun _ h => h | (with_reducible show (Nat.testBit _ _ = false → _); exact fun _ => rfl) | exact fun h => absurd (bit_of_land hP h) (by decide +kernel) | skip)
    | ((with_reducible show (_ → twinRest _ = twinRest _)); intro _; exact rfl)
    | ((with_reducible show (_ → posKept _ _)); intro _; split <;> split <;> exact fun h => ⟨h, rfl, rfl⟩)
    | ((with_reducible show (_ → posKept _ _)); intro _ h; exact ⟨h, rfl, rfl⟩)
    | ((with_reducible show (_ → posKept _ _)); intro _ h; exact absurd h ‹_›)
    | ((with_reducible show (_ → coreRest _ = coreRest _)); intro _; exact rfl)
    | with_reducible apply Frame.ite
    | with_reducible exact Frame.refl _ _ _
    | (refine Frame.trans ?_ (h_f _))
    | exact land_trans hP (by decide +kernel)
    | exact land_trans hG (by decide +kernel)
    | exact bit_mono hG (by decide +kernel)
    | exact bit_mono hP (by decide +kernel)
    | with_reducible apply Frame.foldlT
    | with_reducible assumption
    | (show (_ : Nat) = _; decide +kernel)
    | (show Nat.testBit _ _ = true; first | decide +kernel | exact allPages _)
    | with_reducible exact fun _ _ _ => rfl
    | (with_reducible show ∀ (_ : Field) (_ : Nat), _ → _; exact fun _ _ h => absurd (h.symm.trans (allPages _)) (by decide))
    | with_reducible apply fieldPut_wf
    | with_reducible apply copyFields_wf
    | with_reducible apply copyInsts_wf
    | with_reducible apply copyBay_wf
    | with_reducible apply copyAll_wf
    | with_reducible apply offered_wf
    | with_reducible refine foldl_wf (fun _ _ h => copyBay_wf h) ?_
    | (intro _ _; dsimp only)
    | intro _
    | split)

theorem frame_takeFree {P G : Nat} {s₀ s : State} (h₀ : Frame P G s₀ s)  (hP : 0x4 &&& P = 0x4) (hG : 0x0 &&& G = 0x0) : Frame P G s₀ (State.takeFree s).2 := by
  refine h₀.step (Q := 0x4) (H := 0x0) ?_ hP hG
  unfold State.takeFree
  try dsimp only
  iterate 50 all_goals try (first
    | (simp only [Frame.mk_iff]; with_reducible apply FrameC.upd <;> first | with_reducible exact fun _ => rfl | exact fun h => absurd h (by decide +kernel) | with_reducible exact fun _ h => ⟨h, rfl, rfl⟩ | with_reducible exact fun _ _ _ => rfl | with_reducible exact id | with_reducible exact fun h _ => h | with_reducible exact fun _ h => h | skip)
    | with_reducible apply Frame.ite
    | with_reducible exact Frame.refl _ _ _
    | with_reducible apply Frame.foldlT
    | with_reducible assumption
    | (show (_ : Nat) = _; decide +kernel)
    | (show Nat.testBit _ _ = true; decide +kernel)
    | intro _
    | split)

theorem frame_takeFree_of {P G : Nat} {s₀ s : State}  {v} {u : State} (h : State.takeFree s = (v, u)) (h₀ : Frame P G s₀ s)
    (hP : 0x4 &&& P = 0x4) (hG : 0x0 &&& G = 0x0) : Frame P G s₀ u := by
  have := frame_takeFree h₀  hP hG; rw [h] at this; exact this

theorem frame_noteDrop {P G : Nat} {s₀ s : State} (h₀ : Frame P G s₀ s) (sev : Nat) (hP : 0x1000 &&& P = 0x1000) (hG : 0x4000000000 &&& G = 0x4000000000) : Frame P G s₀ (State.noteDrop s sev) := by
  refine h₀.step (Q := 0x1000) (H := 0x4000000000) ?_ hP hG
  unfold State.noteDrop
  try dsimp only
  iterate 50 all_goals try (first
    | (simp only [Frame.mk_iff]; with_reducible apply FrameC.upd <;> first | with_reducible exact fun _ => rfl | exact fun h => absurd h (by decide +kernel) | with_reducible exact fun _ h => ⟨h, rfl, rfl⟩ | with_reducible exact fun _ _ _ => rfl | with_reducible exact id | with_reducible exact fun h _ => h | with_reducible exact fun _ h => h | skip)
    | with_reducible apply Frame.ite
    | with_reducible exact Frame.refl _ _ _
    | with_reducible apply frame_flag
    | with_reducible apply frame_bump
    | with_reducible apply Frame.foldlT
    | with_reducible assumption
    | (show (_ : Nat) = _; decide +kernel)
    | (show Nat.testBit _ _ = true; decide +kernel)
    | intro _
    | split)

theorem frame_pushRec {P G : Nat} {s₀ s : State} (h₀ : Frame P G s₀ s) (r : EventRec) (hP : 0x1000 &&& P = 0x1000) (hG : 0x0 &&& G = 0x0) : Frame P G s₀ (State.pushRec s r) := by
  refine h₀.step (Q := 0x1000) (H := 0x0) ?_ hP hG
  unfold State.pushRec
  try dsimp only
  iterate 50 all_goals try (first
    | (simp only [Frame.mk_iff]; with_reducible apply FrameC.upd <;> first | with_reducible exact fun _ => rfl | exact fun h => absurd h (by decide +kernel) | with_reducible exact fun _ h => ⟨h, rfl, rfl⟩ | with_reducible exact fun _ _ _ => rfl | with_reducible exact id | with_reducible exact fun h _ => h | with_reducible exact fun _ h => h | skip)
    | with_reducible apply Frame.ite
    | with_reducible exact Frame.refl _ _ _
    | with_reducible apply Frame.foldlT
    | with_reducible assumption
    | (show (_ : Nat) = _; decide +kernel)
    | (show Nat.testBit _ _ = true; decide +kernel)
    | intro _
    | split)

theorem frame_enqueue {P G : Nat} {s₀ s : State} (h₀ : Frame P G s₀ s) (r : EventRec) (hP : 0x1000 &&& P = 0x1000) (hG : 0x4000000000 &&& G = 0x4000000000) : Frame P G s₀ (State.enqueue s r) := by
  refine h₀.step (Q := 0x1000) (H := 0x4000000000) ?_ hP hG
  unfold State.enqueue
  try dsimp only
  iterate 50 all_goals try (first
    | (simp only [Frame.mk_iff]; with_reducible apply FrameC.upd <;> first | with_reducible exact fun _ => rfl | exact fun h => absurd h (by decide +kernel) | with_reducible exact fun _ h => ⟨h, rfl, rfl⟩ | with_reducible exact fun _ _ _ => rfl | with_reducible exact id | with_reducible exact fun h _ => h | with_reducible exact fun _ h => h | skip)
    | with_reducible apply Frame.ite
    | with_reducible exact Frame.refl _ _ _
    | with_reducible apply frame_noteDrop
    | with_reducible apply frame_pushRec
    | with_reducible apply Frame.foldlT
    | with_reducible assumption
    | (show (_ : Nat) = _; decide +kernel)
    | (show Nat.testBit _ _ = true; decide +kernel)
    | intro _
    | split)

theorem frame_flushKick {P G : Nat} {s₀ s : State} (h₀ : Frame P G s₀ s)  (hP : 0x1000 &&& P = 0x1000) (hG : 0x4000000000 &&& G = 0x4000000000) : Frame P G s₀ (State.flushKick s) := by
  refine h₀.step (Q := 0x1000) (H := 0x4000000000) ?_ hP hG
  unfold State.flushKick
  try dsimp only
  iterate 50 all_goals try (first
    | (simp only [Frame.mk_iff]; with_reducible apply FrameC.upd <;> first | with_reducible exact fun _ => rfl | exact fun h => absurd h (by decide +kernel) | with_reducible exact fun _ h => ⟨h, rfl, rfl⟩ | with_reducible exact fun _ _ _ => rfl | with_reducible exact id | with_reducible exact fun h _ => h | with_reducible exact fun _ h => h | skip)
    | with_reducible apply Frame.ite
    | with_reducible exact Frame.refl _ _ _
    | with_reducible apply frame_put
    | with_reducible apply Frame.foldlT
    | with_reducible assumption
    | (show (_ : Nat) = _; decide +kernel)
    | (show Nat.testBit _ _ = true; decide +kernel)
    | intro _
    | split)

theorem frame_flushTrigger {P G : Nat} {s₀ s : State} (h₀ : Frame P G s₀ s) (sev : Nat) (hP : 0x1000 &&& P = 0x1000) (hG : 0x4000000000 &&& G = 0x4000000000) : Frame P G s₀ (State.flushTrigger s sev) := by
  refine h₀.step (Q := 0x1000) (H := 0x4000000000) ?_ hP hG
  unfold State.flushTrigger
  try dsimp only
  iterate 50 all_goals try (first
    | (simp only [Frame.mk_iff]; with_reducible apply FrameC.upd <;> first | with_reducible exact fun _ => rfl | exact fun h => absurd h (by decide +kernel) | with_reducible exact fun _ h => ⟨h, rfl, rfl⟩ | with_reducible exact fun _ _ _ => rfl | with_reducible exact id | with_reducible exact fun h _ => h | with_reducible exact fun _ h => h | skip)
    | with_reducible apply Frame.ite
    | with_reducible exact Frame.refl _ _ _
    | with_reducible apply frame_flushKick
    | with_reducible apply Frame.foldlT
    | with_reducible assumption
    | (show (_ : Nat) = _; decide +kernel)
    | (show Nat.testBit _ _ = true; decide +kernel)
    | intro _
    | split)

theorem frame_record {P G : Nat} {s₀ s : State} (h₀ : Frame P G s₀ s) (code sev unit p0 p1 p2 p3 : Nat) (hP : 0x1000 &&& P = 0x1000) (hG : 0x4000000020 &&& G = 0x4000000020) : Frame P G s₀ (State.record s code sev unit p0 p1 p2 p3) := by
  refine h₀.step (Q := 0x1000) (H := 0x4000000020) ?_ hP hG
  unfold State.record
  try dsimp only
  iterate 50 all_goals try (first
    | (simp only [Frame.mk_iff]; with_reducible apply FrameC.upd <;> first | with_reducible exact fun _ => rfl | exact fun h => absurd h (by decide +kernel) | with_reducible exact fun _ h => ⟨h, rfl, rfl⟩ | with_reducible exact fun _ _ _ => rfl | with_reducible exact id | with_reducible exact fun h _ => h | with_reducible exact fun _ h => h | skip)
    | with_reducible apply Frame.ite
    | with_reducible exact Frame.refl _ _ _
    | with_reducible apply frame_put
    | with_reducible apply frame_bumpAt
    | with_reducible apply frame_enqueue
    | with_reducible apply frame_flushTrigger
    | with_reducible apply Frame.foldlT
    | with_reducible assumption
    | (show (_ : Nat) = _; decide +kernel)
    | (show Nat.testBit _ _ = true; decide +kernel)
    | intro _
    | split)

theorem frame_snapDropped {P G : Nat} {s₀ s : State} (h₀ : Frame P G s₀ s) (code : Nat) (hP : 0x1000 &&& P = 0x1000) (hG : 0xc000000020 &&& G = 0xc000000020) : Frame P G s₀ (State.snapDropped s code) := by
  refine h₀.step (Q := 0x1000) (H := 0xc000000020) ?_ hP hG
  unfold State.snapDropped
  try dsimp only
  iterate 50 all_goals try (first
    | with_reducible apply Frame.ite
    | with_reducible exact Frame.refl _ _ _
    | with_reducible apply frame_flag
    | with_reducible apply frame_bump
    | with_reducible apply frame_record
    | with_reducible apply Frame.foldlT
    | with_reducible assumption
    | (show (_ : Nat) = _; decide +kernel)
    | (show Nat.testBit _ _ = true; decide +kernel)
    | intro _
    | split)

theorem frame_snapTrigger {P G : Nat} {s₀ s : State} (h₀ : Frame P G s₀ s) (manual : Bool) (seq code sev kind p0 : Nat) (hP : 0x1000 &&& P = 0x1000) (hG : 0xc000000020 &&& G = 0xc000000020) : Frame P G s₀ (State.snapTrigger s manual seq code sev kind p0) := by
  refine h₀.step (Q := 0x1000) (H := 0xc000000020) ?_ hP hG
  unfold State.snapTrigger
  try dsimp only
  iterate 50 all_goals try (first
    | (simp only [Frame.mk_iff]; with_reducible apply FrameC.upd <;> first | with_reducible exact fun _ => rfl | exact fun h => absurd h (by decide +kernel) | with_reducible exact fun _ h => ⟨h, rfl, rfl⟩ | with_reducible exact fun _ _ _ => rfl | with_reducible exact id | with_reducible exact fun h _ => h | with_reducible exact fun _ h => h | skip)
    | with_reducible apply Frame.ite
    | with_reducible exact Frame.refl _ _ _
    | with_reducible apply frame_put
    | with_reducible apply frame_snapDropped
    | with_reducible apply Frame.foldlT
    | with_reducible assumption
    | (show (_ : Nat) = _; decide +kernel)
    | (show Nat.testBit _ _ = true; decide +kernel)
    | intro _
    | split)

theorem frame_recordEvent {P G : Nat} {s₀ s : State} (h₀ : Frame P G s₀ s) (code sev unit p0 p1 p2 p3 : Nat) (hP : 0x1000 &&& P = 0x1000) (hG : 0xc000000020 &&& G = 0xc000000020) : Frame P G s₀ (State.recordEvent s code sev unit p0 p1 p2 p3) := by
  refine h₀.step (Q := 0x1000) (H := 0xc000000020) ?_ hP hG
  unfold State.recordEvent
  try dsimp only
  iterate 50 all_goals try (first
    | with_reducible apply Frame.ite
    | with_reducible exact Frame.refl _ _ _
    | with_reducible apply frame_record
    | with_reducible apply frame_snapTrigger
    | with_reducible apply Frame.foldlT
    | with_reducible assumption
    | (show (_ : Nat) = _; decide +kernel)
    | (show Nat.testBit _ _ = true; decide +kernel)
    | intro _
    | split)

theorem frame_setBank {P G : Nat} {s₀ s : State} (h₀ : Frame P G s₀ s) (b : Nat) (v : Bank) (hP : 0x400 &&& P = 0x400) (hG : 0x0 &&& G = 0x0) : Frame P G s₀ (State.setBank s b v) := by
  refine h₀.step (Q := 0x400) (H := 0x0) ?_ hP hG
  unfold State.setBank
  try dsimp only
  iterate 50 all_goals try (first
    | (simp only [Frame.mk_iff]; with_reducible apply FrameC.upd <;> first | with_reducible exact fun _ => rfl | exact fun h => absurd h (by decide +kernel) | with_reducible exact fun _ h => ⟨h, rfl, rfl⟩ | with_reducible exact fun _ _ _ => rfl | with_reducible exact id | with_reducible exact fun h _ => h | with_reducible exact fun _ h => h | skip)
    | with_reducible apply Frame.ite
    | with_reducible exact Frame.refl _ _ _
    | with_reducible apply Frame.foldlT
    | with_reducible assumption
    | (show (_ : Nat) = _; decide +kernel)
    | (show Nat.testBit _ _ = true; decide +kernel)
    | intro _
    | split)

theorem frame_wearRefresh {P G : Nat} {s₀ s : State} (h₀ : Frame P G s₀ s)  (hP : 0x1800 &&& P = 0x1800) (hG : 0x400c000000020 &&& G = 0x400c000000020) : Frame P G s₀ (State.wearRefresh s) := by
  refine h₀.step (Q := 0x1800) (H := 0x400c000000020) ?_ hP hG
  unfold State.wearRefresh
  try dsimp only
  iterate 50 all_goals try (first
    | (simp only [Frame.mk_iff]; with_reducible apply FrameC.upd <;> first | with_reducible exact fun _ => rfl | exact fun h => absurd h (by decide +kernel) | with_reducible exact fun _ h => ⟨h, rfl, rfl⟩ | with_reducible exact fun _ _ _ => rfl | with_reducible exact id | with_reducible exact fun h _ => h | with_reducible exact fun _ h => h | skip)
    | with_reducible apply Frame.ite
    | with_reducible exact Frame.refl _ _ _
    | with_reducible apply frame_put
    | with_reducible apply frame_putSat
    | with_reducible apply frame_flag
    | with_reducible apply frame_recordEvent
    | with_reducible apply Frame.foldlT
    | with_reducible assumption
    | (show (_ : Nat) = _; decide +kernel)
    | (show Nat.testBit _ _ = true; decide +kernel)
    | intro _
    | split)

theorem frame_eraseSectors {P G : Nat} {s₀ s : State} (h₀ : Frame P G s₀ s) (k n : Nat) (hP : 0x1c00 &&& P = 0x1c00) (hG : 0x400c000000020 &&& G = 0x400c000000020) : Frame P G s₀ (State.eraseSectors s k n) := by
  refine h₀.step (Q := 0x1c00) (H := 0x400c000000020) ?_ hP hG
  unfold State.eraseSectors
  try dsimp only
  iterate 50 all_goals try (first
    | (simp only [Frame.mk_iff]; with_reducible apply FrameC.upd <;> first | with_reducible exact fun _ => rfl | exact fun h => absurd h (by decide +kernel) | with_reducible exact fun _ h => ⟨h, rfl, rfl⟩ | with_reducible exact fun _ _ _ => rfl | with_reducible exact id | with_reducible exact fun h _ => h | with_reducible exact fun _ h => h | skip)
    | with_reducible apply Frame.ite
    | with_reducible exact Frame.refl _ _ _
    | with_reducible apply frame_wearRefresh
    | with_reducible apply Frame.foldlT
    | with_reducible assumption
    | (show (_ : Nat) = _; decide +kernel)
    | (show Nat.testBit _ _ = true; decide +kernel)
    | intro _
    | split)

theorem frame_compactStart {P G : Nat} {s₀ s : State} (h₀ : Frame P G s₀ s)  (hP : 0x1c00 &&& P = 0x1c00) (hG : 0x400c000000020 &&& G = 0x400c000000020) : Frame P G s₀ (State.compactStart s) := by
  refine h₀.step (Q := 0x1c00) (H := 0x400c000000020) ?_ hP hG
  unfold State.compactStart
  try dsimp only
  iterate 50 all_goals try (first
    | (simp only [Frame.mk_iff]; with_reducible apply FrameC.upd <;> first | with_reducible exact fun _ => rfl | exact fun h => absurd h (by decide +kernel) | with_reducible exact fun _ h => ⟨h, rfl, rfl⟩ | with_reducible exact fun _ _ _ => rfl | with_reducible exact id | with_reducible exact fun h _ => h | with_reducible exact fun _ h => h | skip)
    | with_reducible apply Frame.ite
    | with_reducible exact Frame.refl _ _ _
    | with_reducible apply frame_put
    | with_reducible apply frame_setBank
    | with_reducible apply frame_eraseSectors
    | with_reducible apply Frame.foldlT
    | with_reducible assumption
    | (show (_ : Nat) = _; decide +kernel)
    | (show Nat.testBit _ _ = true; decide +kernel)
    | intro _
    | split)

theorem frame_jWrite {P G : Nat} {s₀ s : State} (h₀ : Frame P G s₀ s) (p : JPayload) (hP : 0x1c00 &&& P = 0x1c00) (hG : 0x400c000000020 &&& G = 0x400c000000020) : Frame P G s₀ (State.jWrite s p) := by
  refine h₀.step (Q := 0x1c00) (H := 0x400c000000020) ?_ hP hG
  unfold State.jWrite
  try dsimp only
  iterate 50 all_goals try (first
    | (simp only [Frame.mk_iff]; with_reducible apply FrameC.upd <;> first | with_reducible exact fun _ => rfl | exact fun h => absurd h (by decide +kernel) | with_reducible exact fun _ h => ⟨h, rfl, rfl⟩ | with_reducible exact fun _ _ _ => rfl | with_reducible exact id | with_reducible exact fun h _ => h | with_reducible exact fun _ h => h | skip)
    | with_reducible apply Frame.ite
    | with_reducible exact Frame.refl _ _ _
    | with_reducible apply frame_put
    | with_reducible apply frame_flag
    | with_reducible apply frame_recordEvent
    | with_reducible apply frame_setBank
    | with_reducible apply frame_compactStart
    | with_reducible apply Frame.foldlT
    | with_reducible assumption
    | (show (_ : Nat) = _; decide +kernel)
    | (show Nat.testBit _ _ = true; decide +kernel)
    | intro _
    | split)

theorem frame_jAppend {P G : Nat} {s₀ s : State} (h₀ : Frame P G s₀ s) (p : JPayload) (hP : 0x1c00 &&& P = 0x1c00) (hG : 0x400c000000020 &&& G = 0x400c000000020) : Frame P G s₀ (State.jAppend s p) := by
  refine h₀.step (Q := 0x1c00) (H := 0x400c000000020) ?_ hP hG
  unfold State.jAppend
  try dsimp only
  iterate 50 all_goals try (first
    | (simp only [Frame.mk_iff]; with_reducible apply FrameC.upd <;> first | with_reducible exact fun _ => rfl | exact fun h => absurd h (by decide +kernel) | with_reducible exact fun _ h => ⟨h, rfl, rfl⟩ | with_reducible exact fun _ _ _ => rfl | with_reducible exact id | with_reducible exact fun h _ => h | with_reducible exact fun _ h => h | skip)
    | with_reducible apply Frame.ite
    | with_reducible exact Frame.refl _ _ _
    | with_reducible apply frame_jWrite
    | with_reducible apply Frame.foldlT
    | with_reducible assumption
    | (show (_ : Nat) = _; decide +kernel)
    | (show Nat.testBit _ _ = true; decide +kernel)
    | intro _
    | split)

theorem frame_jDrain {P G : Nat} {s₀ s : State} (h₀ : Frame P G s₀ s)  (hP : 0x1c00 &&& P = 0x1c00) (hG : 0x400c000000020 &&& G = 0x400c000000020) : Frame P G s₀ (State.jDrain s) := by
  refine h₀.step (Q := 0x1c00) (H := 0x400c000000020) ?_ hP hG
  unfold State.jDrain
  try dsimp only
  iterate 50 all_goals try (first
    | (simp only [Frame.mk_iff]; with_reducible apply FrameC.upd <;> first | with_reducible exact fun _ => rfl | exact fun h => absurd h (by decide +kernel) | with_reducible exact fun _ h => ⟨h, rfl, rfl⟩ | with_reducible exact fun _ _ _ => rfl | with_reducible exact id | with_reducible exact fun h _ => h | with_reducible exact fun _ h => h | skip)
    | with_reducible apply Frame.ite
    | with_reducible exact Frame.refl _ _ _
    | with_reducible apply frame_jWrite
    | with_reducible apply Frame.foldlT
    | with_reducible assumption
    | (show (_ : Nat) = _; decide +kernel)
    | (show Nat.testBit _ _ = true; decide +kernel)
    | intro _
    | split)

theorem frame_discardShadow {P G : Nat} {s₀ s : State} (h₀ : Frame P G s₀ s)  (hP : 0x400000018 &&& P = 0x400000018) (hG : 0x0 &&& G = 0x0) : Frame P G s₀ (State.discardShadow s) := by
  refine h₀.step (Q := 0x400000018) (H := 0x0) ?_ hP hG
  unfold State.discardShadow
  try dsimp only
  iterate 50 all_goals try (first
    | (simp only [Frame.mk_iff]; with_reducible apply FrameC.upd <;> first | with_reducible exact fun _ => rfl | exact fun h => absurd h (by decide +kernel) | with_reducible exact fun _ h => ⟨h, rfl, rfl⟩ | with_reducible exact fun _ _ _ => rfl | with_reducible exact id | with_reducible exact fun h _ => h | with_reducible exact fun _ h => h | skip)
    | with_reducible apply Frame.ite
    | with_reducible exact Frame.refl _ _ _
    | with_reducible apply Frame.foldlT
    | with_reducible assumption
    | (show (_ : Nat) = _; decide +kernel)
    | (show Nat.testBit _ _ = true; decide +kernel)
    | intro _
    | split)

theorem frame_loadStart {P G : Nat} {s₀ s : State} (h₀ : Frame P G s₀ s) (k : LoadKind) (hP : 0x400040038 &&& P = 0x400040038) (hG : 0x1000000000000 &&& G = 0x1000000000000) : Frame P G s₀ (State.loadStart s k) := by
  refine h₀.step (Q := 0x400040038) (H := 0x1000000000000) ?_ hP hG
  unfold State.loadStart
  try dsimp only
  iterate 50 all_goals try (first
    | (simp only [Frame.mk_iff]; with_reducible apply FrameC.upd <;> first | with_reducible exact fun _ => rfl | exact fun h => absurd h (by decide +kernel) | with_reducible exact fun _ h => ⟨h, rfl, rfl⟩ | with_reducible exact fun _ _ _ => rfl | with_reducible exact id | with_reducible exact fun h _ => h | with_reducible exact fun _ h => h | skip)
    | with_reducible apply Frame.ite
    | with_reducible exact Frame.refl _ _ _
    | with_reducible apply frame_put
    | with_reducible apply frame_discardShadow
    | with_reducible apply Frame.foldlT
    | with_reducible assumption
    | (show (_ : Nat) = _; decide +kernel)
    | (show Nat.testBit _ _ = true; decide +kernel)
    | intro _
    | split)

theorem frame_scheduleLoad {P G : Nat} {s₀ s : State} (h₀ : Frame P G s₀ s) (k : LoadKind) (cause : Nat) (hP : 0x400040038 &&& P = 0x400040038) (hG : 0x1000000000004 &&& G = 0x1000000000004) : Frame P G s₀ (State.scheduleLoad s k cause) := by
  refine h₀.step (Q := 0x400040038) (H := 0x1000000000004) ?_ hP hG
  unfold State.scheduleLoad
  try dsimp only
  iterate 50 all_goals try (first
    | (simp only [Frame.mk_iff]; with_reducible apply FrameC.upd <;> first | with_reducible exact fun _ => rfl | exact fun h => absurd h (by decide +kernel) | with_reducible exact fun _ h => ⟨h, rfl, rfl⟩ | with_reducible exact fun _ _ _ => rfl | with_reducible exact id | with_reducible exact fun h _ => h | with_reducible exact fun _ h => h | skip)
    | with_reducible apply Frame.ite
    | with_reducible exact Frame.refl _ _ _
    | with_reducible apply frame_put
    | with_reducible apply frame_loadStart
    | with_reducible apply Frame.foldlT
    | with_reducible assumption
    | (show (_ : Nat) = _; decide +kernel)
    | (show Nat.testBit _ _ = true; decide +kernel)
    | intro _
    | split)

theorem frame_revertRefused {P G : Nat} {s₀ s : State} (h₀ : Frame P G s₀ s)  (hP : 0x1000 &&& P = 0x1000) (hG : 0x100c000000020 &&& G = 0x100c000000020) : Frame P G s₀ (State.revertRefused s) := by
  refine h₀.step (Q := 0x1000) (H := 0x100c000000020) ?_ hP hG
  unfold State.revertRefused
  try dsimp only
  iterate 50 all_goals try (first
    | with_reducible apply Frame.ite
    | with_reducible exact Frame.refl _ _ _
    | with_reducible apply frame_put
    | with_reducible apply frame_flag
    | with_reducible apply frame_recordEvent
    | with_reducible apply Frame.foldlT
    | with_reducible assumption
    | (show (_ : Nat) = _; decide +kernel)
    | (show Nat.testBit _ _ = true; decide +kernel)
    | intro _
    | split)

theorem frame_failProbation {P G : Nat} {s₀ s : State} (h₀ : Frame P G s₀ s) (code : Nat) (hP : 0x400041c38 &&& P = 0x400041c38) (hG : 0x500c000000024 &&& G = 0x500c000000024) : Frame P G s₀ (State.failProbation s code) := by
  refine h₀.step (Q := 0x400041c38) (H := 0x500c000000024) ?_ hP hG
  unfold State.failProbation
  try dsimp only
  iterate 50 all_goals try (first
    | (simp only [Frame.mk_iff]; with_reducible apply FrameC.upd <;> first | with_reducible exact fun _ => rfl | exact fun h => absurd h (by decide +kernel) | with_reducible exact fun _ h => ⟨h, rfl, rfl⟩ | with_reducible exact fun _ _ _ => rfl | with_reducible exact id | with_reducible exact fun h _ => h | with_reducible exact fun _ h => h | skip)
    | with_reducible apply Frame.ite
    | with_reducible exact Frame.refl _ _ _
    | with_reducible apply frame_put
    | with_reducible apply frame_flag
    | with_reducible apply frame_recordEvent
    | with_reducible apply frame_jAppend
    | with_reducible apply frame_scheduleLoad
    | with_reducible apply frame_revertRefused
    | with_reducible apply Frame.foldlT
    | with_reducible assumption
    | (show (_ : Nat) = _; decide +kernel)
    | (show Nat.testBit _ _ = true; decide +kernel)
    | intro _
    | split)

theorem frame_raise4 {P G : Nat} {s₀ s : State} (h₀ : Frame P G s₀ s) (code sev unit p0 p1 p2 p3 : Nat) (hP : 0x400041c78 &&& P = 0x400041c78) (hG : 0x500c000000024 &&& G = 0x500c000000024) : Frame P G s₀ (State.raise4 s code sev unit p0 p1 p2 p3) := by
  refine h₀.step (Q := 0x400041c78) (H := 0x500c000000024) ?_ hP hG
  unfold State.raise4
  try dsimp only
  iterate 50 all_goals try (first
    | (simp only [Frame.mk_iff]; with_reducible apply FrameC.upd <;> first | with_reducible exact fun _ => rfl | exact fun h => absurd h (by decide +kernel) | with_reducible exact fun _ h => ⟨h, rfl, rfl⟩ | with_reducible exact fun _ _ _ => rfl | with_reducible exact id | with_reducible exact fun h _ => h | with_reducible exact fun _ h => h | skip)
    | with_reducible apply Frame.ite
    | with_reducible exact Frame.refl _ _ _
    | with_reducible apply frame_recordEvent
    | with_reducible apply frame_failProbation
    | with_reducible apply Frame.foldlT
    | with_reducible assumption
    | (show (_ : Nat) = _; decide +kernel)
    | (show Nat.testBit _ _ = true; decide +kernel)
    | intro _
    | split)

theorem frame_raise4_low {P G : Nat} {s₀ s : State} (h₀ : Frame P G s₀ s) (code sev unit p0 p1 p2 p3 : Nat) (hs : sev < 6) (hP : 0x1040 &&& P = 0x1040) (hG : 0xc000000020 &&& G = 0xc000000020) : Frame P G s₀ (State.raise4 s code sev unit p0 p1 p2 p3) := by
  refine h₀.step (Q := 0x1040) (H := 0xc000000020) ?_ hP hG
  unfold State.raise4; split
  · dsimp only
    rw [if_neg (by omega)]
    exact frame_recordEvent (Frame.refl _ _ _) _ _ _ _ _ _ _ (by decide) (by decide)
  · exact ⟨fun _ => rfl, fun _ => rfl, fun _ => rfl, fun _ => rfl, fun _ => rfl, fun _ => rfl, fun x => absurd x (by decide), fun _ => rfl, fun _ => rfl, fun _ => rfl, fun _ => rfl, fun _ => rfl, fun _ => rfl, fun _ => rfl, fun _ => rfl, fun _ => rfl, fun _ => rfl, fun _ => rfl, fun _ => rfl, fun _ => rfl, fun _ => rfl, fun _ => rfl, fun _ => rfl, fun _ => rfl, fun _ => rfl, fun _ => rfl, fun _ => rfl, fun _ => rfl, fun _ => rfl, fun _ => rfl, fun _ => rfl, fun _ => rfl, fun _ => rfl, fun _ => rfl, fun _ => rfl, fun _ => rfl, fun _ h => ⟨h, rfl, rfl⟩, fun _ _ _ => rfl, id⟩

theorem frame_raise {P G : Nat} {s₀ s : State} (h₀ : Frame P G s₀ s) (code sev unit p0 p1 : Nat) (hP : 0x400041c78 &&& P = 0x400041c78) (hG : 0x500c000000024 &&& G = 0x500c000000024) : Frame P G s₀ (State.raise s code sev unit p0 p1) := by
  refine h₀.step (Q := 0x400041c78) (H := 0x500c000000024) ?_ hP hG
  unfold State.raise
  try dsimp only
  iterate 50 all_goals try (first
    | with_reducible apply Frame.ite
    | with_reducible exact Frame.refl _ _ _
    | with_reducible apply frame_raise4
    | with_reducible apply Frame.foldlT
    | with_reducible assumption
    | (show (_ : Nat) = _; decide +kernel)
    | (show Nat.testBit _ _ = true; decide +kernel)
    | intro _
    | split)

theorem frame_raise_low {P G : Nat} {s₀ s : State} (h₀ : Frame P G s₀ s) (code sev unit p0 p1 : Nat) (hs : sev < 6) (hP : 0x1040 &&& P = 0x1040) (hG : 0xc000000020 &&& G = 0xc000000020) : Frame P G s₀ (State.raise s code sev unit p0 p1) := by
  refine h₀.step (Q := 0x1040) (H := 0xc000000020) ?_ hP hG
  unfold State.raise
  try dsimp only
  iterate 50 all_goals try (first
    | with_reducible apply Frame.ite
    | with_reducible exact Frame.refl _ _ _
    | (with_reducible apply frame_raise4_low; case hs => exact hs)
    | with_reducible apply Frame.foldlT
    | with_reducible assumption
    | (show (_ : Nat) = _; decide +kernel)
    | (show Nat.testBit _ _ = true; decide +kernel)
    | intro _
    | split)

theorem frame_supResume {P G : Nat} {s₀ s : State} (h₀ : Frame P G s₀ s)  (hP : 0xc00041c78 &&& P = 0xc00041c78) (hG : 0x500c000000024 &&& G = 0x500c000000024) : Frame P G s₀ (State.supResume s) := by
  refine h₀.step (Q := 0xc00041c78) (H := 0x500c000000024) ?_ hP hG
  unfold State.supResume
  try dsimp only
  iterate 50 all_goals try (first
    | (simp only [Frame.mk_iff]; with_reducible apply FrameC.upd <;> first | with_reducible exact fun _ => rfl | exact fun h => absurd h (by decide +kernel) | with_reducible exact fun _ h => ⟨h, rfl, rfl⟩ | with_reducible exact fun _ _ _ => rfl | with_reducible exact id | with_reducible exact fun h _ => h | with_reducible exact fun _ h => h | skip)
    | with_reducible apply Frame.ite
    | with_reducible exact Frame.refl _ _ _
    | with_reducible apply frame_flushKick
    | with_reducible apply frame_jDrain
    | with_reducible apply frame_raise4
    | with_reducible apply Frame.foldlT
    | with_reducible assumption
    | (show (_ : Nat) = _; decide +kernel)
    | (show Nat.testBit _ _ = true; decide +kernel)
    | intro _
    | split)

theorem frame_endHalt {P G : Nat} {s₀ s : State} (h₀ : Frame P G s₀ s) (why : Nat) (hP : 0xc00041c78 &&& P = 0xc00041c78) (hG : 0x400500c000000024 &&& G = 0x400500c000000024) : Frame P G s₀ (State.endHalt s why) := by
  refine h₀.step (Q := 0xc00041c78) (H := 0x400500c000000024) ?_ hP hG
  unfold State.endHalt
  try dsimp only
  iterate 50 all_goals try (first
    | with_reducible apply Frame.ite
    | with_reducible exact Frame.refl _ _ _
    | with_reducible apply frame_put
    | with_reducible apply frame_flag
    | (with_reducible apply frame_raise_low; case hs => decide)
    | with_reducible apply frame_supResume
    | with_reducible apply Frame.foldlT
    | with_reducible assumption
    | (show (_ : Nat) = _; decide +kernel)
    | (show Nat.testBit _ _ = true; decide +kernel)
    | intro _
    | split)

theorem frame_endPattern {P G : Nat} {s₀ s : State} (h₀ : Frame P G s₀ s)  (hP : 0x20000 &&& P = 0x20000) (hG : 0x4000000000000000 &&& G = 0x4000000000000000) : Frame P G s₀ (State.endPattern s) := by
  refine h₀.step (Q := 0x20000) (H := 0x4000000000000000) ?_ hP hG
  unfold State.endPattern
  try dsimp only
  iterate 50 all_goals try (first
    | (simp only [Frame.mk_iff]; with_reducible apply FrameC.upd <;> first | with_reducible exact fun _ => rfl | exact fun h => absurd h (by decide +kernel) | with_reducible exact fun _ h => ⟨h, rfl, rfl⟩ | with_reducible exact fun _ _ _ => rfl | with_reducible exact id | with_reducible exact fun h _ => h | with_reducible exact fun _ h => h | skip)
    | with_reducible apply Frame.ite
    | with_reducible exact Frame.refl _ _ _
    | with_reducible apply frame_put
    | with_reducible apply Frame.foldlT
    | with_reducible assumption
    | (show (_ : Nat) = _; decide +kernel)
    | (show Nat.testBit _ _ = true; decide +kernel)
    | intro _
    | split)

theorem frame_endSession {P G : Nat} {s₀ s : State} (h₀ : Frame P G s₀ s) (why : Nat) (hP : 0xc00061c78 &&& P = 0xc00061c78) (hG : 0x400500c000000024 &&& G = 0x400500c000000024) : Frame P G s₀ (State.endSession s why) := by
  refine h₀.step (Q := 0xc00061c78) (H := 0x400500c000000024) ?_ hP hG
  unfold State.endSession
  try dsimp only
  iterate 50 all_goals try (first
    | with_reducible apply Frame.ite
    | with_reducible exact Frame.refl _ _ _
    | with_reducible apply frame_put
    | with_reducible apply frame_flag
    | (with_reducible apply frame_raise_low; case hs => decide)
    | with_reducible apply frame_endHalt
    | with_reducible apply frame_endPattern
    | with_reducible apply Frame.foldlT
    | with_reducible assumption
    | (show (_ : Nat) = _; decide +kernel)
    | (show Nat.testBit _ _ = true; decide +kernel)
    | intro _
    | split)

theorem frame_judgeSession {P G : Nat} {s₀ s : State} (h₀ : Frame P G s₀ s) (mode why : Nat) (hP : 0xc00061c78 &&& P = 0xc00061c78) (hG : 0x400500c000000024 &&& G = 0x400500c000000024) : Frame P G s₀ (State.judgeSession s mode why) := by
  refine h₀.step (Q := 0xc00061c78) (H := 0x400500c000000024) ?_ hP hG
  unfold State.judgeSession
  try dsimp only
  iterate 50 all_goals try (first
    | with_reducible apply Frame.ite
    | with_reducible exact Frame.refl _ _ _
    | with_reducible apply frame_endSession
    | with_reducible apply Frame.foldlT
    | with_reducible assumption
    | (show (_ : Nat) = _; decide +kernel)
    | (show Nat.testBit _ _ = true; decide +kernel)
    | intro _
    | split)

theorem frame_endToken {P G : Nat} {s₀ s : State} (h₀ : Frame P G s₀ s) (why : Nat) (hP : 0xc00061c78 &&& P = 0xc00061c78) (hG : 0x400500c000000024 &&& G = 0x400500c000000024) : Frame P G s₀ (State.endToken s why) := by
  refine h₀.step (Q := 0xc00061c78) (H := 0x400500c000000024) ?_ hP hG
  unfold State.endToken
  try dsimp only
  iterate 50 all_goals try (first
    | (simp only [Frame.mk_iff]; with_reducible apply FrameC.upd <;> first | with_reducible exact fun _ => rfl | exact fun h => absurd h (by decide +kernel) | with_reducible exact fun _ h => ⟨h, rfl, rfl⟩ | with_reducible exact fun _ _ _ => rfl | with_reducible exact id | with_reducible exact fun h _ => h | with_reducible exact fun _ h => h | skip)
    | with_reducible apply Frame.ite
    | with_reducible exact Frame.refl _ _ _
    | with_reducible apply frame_put
    | with_reducible apply frame_flag
    | (with_reducible apply frame_raise_low; case hs => decide)
    | with_reducible apply frame_judgeSession
    | with_reducible apply Frame.foldlT
    | with_reducible assumption
    | (show (_ : Nat) = _; decide +kernel)
    | (show Nat.testBit _ _ = true; decide +kernel)
    | intro _
    | split)

theorem frame_abandonToken {P G : Nat} {s₀ s : State} (h₀ : Frame P G s₀ s)  (hP : 0x21040 &&& P = 0x21040) (hG : 0x400000c000000020 &&& G = 0x400000c000000020) : Frame P G s₀ (State.abandonToken s) := by
  refine h₀.step (Q := 0x21040) (H := 0x400000c000000020) ?_ hP hG
  unfold State.abandonToken
  try dsimp only
  iterate 50 all_goals try (first
    | (simp only [Frame.mk_iff]; with_reducible apply FrameC.upd <;> first | with_reducible exact fun _ => rfl | exact fun h => absurd h (by decide +kernel) | with_reducible exact fun _ h => ⟨h, rfl, rfl⟩ | with_reducible exact fun _ _ _ => rfl | with_reducible exact id | with_reducible exact fun h _ => h | with_reducible exact fun _ h => h | skip)
    | with_reducible apply Frame.ite
    | with_reducible exact Frame.refl _ _ _
    | with_reducible apply frame_put
    | with_reducible apply frame_flag
    | (with_reducible apply frame_raise_low; case hs => decide)
    | with_reducible apply Frame.foldlT
    | with_reducible assumption
    | (show (_ : Nat) = _; decide +kernel)
    | (show Nat.testBit _ _ = true; decide +kernel)
    | intro _
    | split)

theorem frame_changeMode {P G : Nat} {s₀ s : State} (h₀ : Frame P G s₀ s) (new cause : Nat) (hP : 0xc00061c78 &&& P = 0xc00061c78) (hG : 0x400500c000000024 &&& G = 0x400500c000000024) : Frame P G s₀ (State.changeMode s new cause) := by
  refine h₀.step (Q := 0xc00061c78) (H := 0x400500c000000024) ?_ hP hG
  unfold State.changeMode
  try dsimp only
  iterate 50 all_goals try (first
    | (simp only [Frame.mk_iff]; with_reducible apply FrameC.upd <;> first | with_reducible exact fun _ => rfl | exact fun h => absurd h (by decide +kernel) | with_reducible exact fun _ h => ⟨h, rfl, rfl⟩ | with_reducible exact fun _ _ _ => rfl | with_reducible exact id | with_reducible exact fun h _ => h | with_reducible exact fun _ h => h | skip)
    | with_reducible apply Frame.ite
    | with_reducible exact Frame.refl _ _ _
    | with_reducible apply frame_put
    | (with_reducible apply frame_raise4_low; case hs => decide)
    | with_reducible apply frame_judgeSession
    | with_reducible apply frame_endToken
    | with_reducible apply frame_abandonToken
    | with_reducible apply Frame.foldlT
    | with_reducible assumption
    | (show (_ : Nat) = _; decide +kernel)
    | (show Nat.testBit _ _ = true; decide +kernel)
    | intro _
    | split)

theorem frame_sendRec {P G : Nat} {s₀ s : State} (h₀ : Frame P G s₀ s) (mk : Byte → SyncRec) (hP : 0x200000 &&& P = 0x200000) (hG : 0x0 &&& G = 0x0) : Frame P G s₀ (State.sendRec s mk) := by
  refine h₀.step (Q := 0x200000) (H := 0x0) ?_ hP hG
  unfold State.sendRec
  try dsimp only
  iterate 70 all_goals try (first
    | (simp only [Frame.mk_iff]; with_reducible apply FrameC.upd <;> first | with_reducible exact fun _ => rfl | exact fun h => absurd h (by decide +kernel) | with_reducible exact fun _ h => ⟨h, rfl, rfl⟩ | with_reducible exact fun _ _ _ => rfl | with_reducible exact id | with_reducible exact fun h _ => h | with_reducible exact fun _ h => h | (with_reducible show (Nat.testBit _ _ = false → _); exact fun _ => rfl) | skip)
    | ((with_reducible show (_ → twinRest _ = twinRest _)); intro _; exact rfl)
    | ((with_reducible show (_ → posKept _ _)); intro _; split <;> split <;> exact fun h => ⟨h, rfl, rfl⟩)
    | ((with_reducible show (_ → posKept _ _)); intro _ h; exact ⟨h, rfl, rfl⟩)
    | ((with_reducible show (_ → posKept _ _)); intro _ h; exact absurd h ‹_›)
    | ((with_reducible show (_ → coreRest _ = coreRest _)); intro _; exact rfl)
    | with_reducible apply Frame.ite
    | with_reducible exact Frame.refl _ _ _
    | with_reducible apply Frame.foldlT
    | with_reducible assumption
    | (show (_ : Nat) = _; decide +kernel)
    | (show Nat.testBit _ _ = true; first | decide +kernel | exact allPages _)
    | with_reducible exact fun _ _ _ => rfl
    | (with_reducible show ∀ (_ : Field) (_ : Nat), _ → _; exact fun _ _ h => absurd (h.symm.trans (allPages _)) (by decide))
    | with_reducible apply fieldPut_wf
    | with_reducible apply copyFields_wf
    | with_reducible apply copyInsts_wf
    | with_reducible apply copyBay_wf
    | with_reducible apply copyAll_wf
    | with_reducible apply offered_wf
    | with_reducible refine foldl_wf (fun _ _ h => copyBay_wf h) ?_
    | (intro _ _; dsimp only)
    | intro _
    | split)

theorem frame_sendDecision {P G : Nat} {s₀ s : State} (h₀ : Frame P G s₀ s) (kind unit value : Nat) (hP : 0x200000 &&& P = 0x200000) (hG : 0x0 &&& G = 0x0) : Frame P G s₀ (State.sendDecision s kind unit value) := by
  refine h₀.step (Q := 0x200000) (H := 0x0) ?_ hP hG
  unfold State.sendDecision
  try dsimp only
  iterate 50 all_goals try (first
    | with_reducible apply Frame.ite
    | with_reducible exact Frame.refl _ _ _
    | with_reducible apply frame_sendRec
    | with_reducible apply Frame.foldlT
    | with_reducible assumption
    | (show (_ : Nat) = _; decide +kernel)
    | (show Nat.testBit _ _ = true; decide +kernel)
    | intro _
    | split)

theorem frame_sendChange {P G : Nat} {s₀ s : State} (h₀ : Frame P G s₀ s) (old : State) (f : Field) (kind unit i : Nat) (hP : 0x200000 &&& P = 0x200000) (hG : 0x0 &&& G = 0x0) : Frame P G s₀ (sendChange old f kind unit i s) := by
  refine h₀.step (Q := 0x200000) (H := 0x0) ?_ hP hG
  unfold sendChange
  try dsimp only
  iterate 50 all_goals try (first
    | with_reducible apply Frame.ite
    | with_reducible exact Frame.refl _ _ _
    | with_reducible apply frame_sendDecision
    | with_reducible apply Frame.foldlT
    | with_reducible assumption
    | (show (_ : Nat) = _; decide +kernel)
    | (show Nat.testBit _ _ = true; decide +kernel)
    | intro _
    | split)

theorem frame_decided {P G : Nat} {s₀ s : State} (h₀ : Frame P G s₀ s) (old : State) (hP : 0x200000 &&& P = 0x200000) (hG : 0x0 &&& G = 0x0) : Frame P G s₀ (State.decided old s) := by
  refine h₀.step (Q := 0x200000) (H := 0x0) ?_ hP hG
  unfold State.decided
  try dsimp only
  iterate 50 all_goals try (first
    | with_reducible apply Frame.ite
    | with_reducible exact Frame.refl _ _ _
    | with_reducible apply frame_sendDecision
    | with_reducible apply frame_sendChange
    | with_reducible apply Frame.foldlT
    | with_reducible assumption
    | (show (_ : Nat) = _; decide +kernel)
    | (show Nat.testBit _ _ = true; decide +kernel)
    | intro _
    | split)

theorem frame_sendContract {P G : Nat} {s₀ s : State} (h₀ : Frame P G s₀ s) (i : Nat) (r : List Nat) (hP : 0x200000 &&& P = 0x200000) (hG : 0x0 &&& G = 0x0) : Frame P G s₀ (State.sendContract s i r) := by
  refine h₀.step (Q := 0x200000) (H := 0x0) ?_ hP hG
  unfold State.sendContract
  try dsimp only
  iterate 50 all_goals try (first
    | with_reducible apply Frame.ite
    | with_reducible exact Frame.refl _ _ _
    | with_reducible apply frame_sendRec
    | with_reducible apply Frame.foldlT
    | with_reducible assumption
    | (show (_ : Nat) = _; decide +kernel)
    | (show Nat.testBit _ _ = true; decide +kernel)
    | intro _
    | split)

theorem frame_sendCapsule {P G : Nat} {s₀ s : State} (h₀ : Frame P G s₀ s) (k : Nat) (c : List Nat) (hP : 0x200000 &&& P = 0x200000) (hG : 0x0 &&& G = 0x0) : Frame P G s₀ (State.sendCapsule s k c) := by
  refine h₀.step (Q := 0x200000) (H := 0x0) ?_ hP hG
  unfold State.sendCapsule
  try dsimp only
  iterate 50 all_goals try (first
    | with_reducible apply Frame.ite
    | with_reducible exact Frame.refl _ _ _
    | with_reducible apply frame_sendRec
    | with_reducible apply Frame.foldlT
    | with_reducible assumption
    | (show (_ : Nat) = _; decide +kernel)
    | (show Nat.testBit _ _ = true; decide +kernel)
    | intro _
    | split)

theorem frame_sendReg {P G : Nat} {s₀ s : State} (h₀ : Frame P G s₀ s) (page off width value : Nat) (hP : 0x200004 &&& P = 0x200004) (hG : 0x0 &&& G = 0x0) : Frame P G s₀ (State.sendReg s page off width value) := by
  refine h₀.step (Q := 0x200004) (H := 0x0) ?_ hP hG
  unfold State.sendReg
  try dsimp only
  iterate 50 all_goals try (first
    | with_reducible apply Frame.ite
    | with_reducible exact Frame.refl _ _ _
    | (refine frame_takeFree_of ‹_› ?_ ?_ ?_)
    | with_reducible apply frame_takeFree
    | with_reducible apply frame_sendRec
    | with_reducible apply Frame.foldlT
    | with_reducible assumption
    | (show (_ : Nat) = _; decide +kernel)
    | (show Nat.testBit _ _ = true; decide +kernel)
    | intro _
    | split)

theorem frame_icMove {P G : Nat} {s₀ s : State} (h₀ : Frame P G s₀ s) (i : Fin 128) (hP : 0x2000 &&& P = 0x2000) (hG : 0x0 &&& G = 0x0) : Frame P G s₀ (State.icMove s i) := by
  refine h₀.step (Q := 0x2000) (H := 0x0) ?_ hP hG
  unfold State.icMove
  try dsimp only
  iterate 50 all_goals try (first
    | (simp only [Frame.mk_iff]; with_reducible apply FrameC.upd <;> first | with_reducible exact fun _ => rfl | exact fun h => absurd h (by decide +kernel) | with_reducible exact fun _ h => ⟨h, rfl, rfl⟩ | with_reducible exact fun _ _ _ => rfl | with_reducible exact id | with_reducible exact fun h _ => h | with_reducible exact fun _ h => h | skip)
    | with_reducible apply Frame.ite
    | with_reducible exact Frame.refl _ _ _
    | with_reducible apply Frame.foldlT
    | with_reducible assumption
    | (show (_ : Nat) = _; decide +kernel)
    | (show Nat.testBit _ _ = true; decide +kernel)
    | intro _
    | split)

theorem frame_icAge {P G : Nat} {s₀ s : State} (h₀ : Frame P G s₀ s) (i : Fin 128) (hP : 0x2000 &&& P = 0x2000) (hG : 0x0 &&& G = 0x0) : Frame P G s₀ (State.icAge s i) := by
  refine h₀.step (Q := 0x2000) (H := 0x0) ?_ hP hG
  unfold State.icAge
  try dsimp only
  iterate 50 all_goals try (first
    | (simp only [Frame.mk_iff]; with_reducible apply FrameC.upd <;> first | with_reducible exact fun _ => rfl | exact fun h => absurd h (by decide +kernel) | with_reducible exact fun _ h => ⟨h, rfl, rfl⟩ | with_reducible exact fun _ _ _ => rfl | with_reducible exact id | with_reducible exact fun h _ => h | with_reducible exact fun _ h => h | skip)
    | with_reducible apply Frame.ite
    | with_reducible exact Frame.refl _ _ _
    | with_reducible apply Frame.foldlT
    | with_reducible assumption
    | (show (_ : Nat) = _; decide +kernel)
    | (show Nat.testBit _ _ = true; decide +kernel)
    | intro _
    | split)

theorem frame_icNotice {P G : Nat} {s₀ s : State} (h₀ : Frame P G s₀ s)  (hP : 0x2000 &&& P = 0x2000) (hG : 0x0 &&& G = 0x0) : Frame P G s₀ (State.icNotice s) := by
  refine h₀.step (Q := 0x2000) (H := 0x0) ?_ hP hG
  unfold State.icNotice
  try dsimp only
  iterate 50 all_goals try (first
    | (simp only [Frame.mk_iff]; with_reducible apply FrameC.upd <;> first | with_reducible exact fun _ => rfl | exact fun h => absurd h (by decide +kernel) | with_reducible exact fun _ h => ⟨h, rfl, rfl⟩ | with_reducible exact fun _ _ _ => rfl | with_reducible exact id | with_reducible exact fun h _ => h | with_reducible exact fun _ h => h | skip)
    | with_reducible apply Frame.ite
    | with_reducible exact Frame.refl _ _ _
    | with_reducible apply Frame.foldlT
    | with_reducible assumption
    | (show (_ : Nat) = _; decide +kernel)
    | (show Nat.testBit _ _ = true; decide +kernel)
    | intro _
    | split)

theorem frame_icRefresh {P G : Nat} {s₀ s : State} (h₀ : Frame P G s₀ s)  (hP : 0x2000 &&& P = 0x2000) (hG : 0x0 &&& G = 0x0) : Frame P G s₀ (State.icRefresh s) := by
  refine h₀.step (Q := 0x2000) (H := 0x0) ?_ hP hG
  unfold State.icRefresh
  try dsimp only
  iterate 50 all_goals try (first
    | with_reducible apply Frame.ite
    | with_reducible exact Frame.refl _ _ _
    | with_reducible apply frame_icMove
    | with_reducible apply frame_icAge
    | with_reducible apply frame_icNotice
    | with_reducible apply Frame.foldlT
    | with_reducible assumption
    | (show (_ : Nat) = _; decide +kernel)
    | (show Nat.testBit _ _ = true; decide +kernel)
    | intro _
    | split)

theorem frame_finish {P G : Nat} {s₀ s : State} (h₀ : Frame P G s₀ s)  (hP : 0x2000 &&& P = 0x2000) (hG : 0x0 &&& G = 0x0) : Frame P G s₀ (State.finish s) := by
  refine h₀.step (Q := 0x2000) (H := 0x0) ?_ hP hG
  unfold State.finish
  try dsimp only
  iterate 50 all_goals try (first
    | with_reducible apply Frame.ite
    | with_reducible exact Frame.refl _ _ _
    | with_reducible apply frame_icRefresh
    | with_reducible apply Frame.foldlT
    | with_reducible assumption
    | (show (_ : Nat) = _; decide +kernel)
    | (show Nat.testBit _ _ = true; decide +kernel)
    | intro _
    | split)

theorem frame_setPh {P G : Nat} {s₀ s : State} (h₀ : Frame P G s₀ s) (n : Nat) (v : PhaseSt) (hP : 0x400000 &&& P = 0x400000) (hG : 0x0 &&& G = 0x0) : Frame P G s₀ (State.setPh s n v) := by
  refine h₀.step (Q := 0x400000) (H := 0x0) ?_ hP hG
  unfold State.setPh
  try dsimp only
  iterate 50 all_goals try (first
    | (simp only [Frame.mk_iff]; with_reducible apply FrameC.upd <;> first | with_reducible exact fun _ => rfl | exact fun h => absurd h (by decide +kernel) | with_reducible exact fun _ h => ⟨h, rfl, rfl⟩ | with_reducible exact fun _ _ _ => rfl | with_reducible exact id | with_reducible exact fun h _ => h | with_reducible exact fun _ h => h | skip)
    | with_reducible apply Frame.ite
    | with_reducible exact Frame.refl _ _ _
    | with_reducible apply Frame.foldlT
    | with_reducible assumption
    | (show (_ : Nat) = _; decide +kernel)
    | (show Nat.testBit _ _ = true; decide +kernel)
    | intro _
    | split)

theorem frame_setBay {P G : Nat} {s₀ s : State} (h₀ : Frame P G s₀ s) (b : Nat) (v : BaySt) (hP : 0x800000 &&& P = 0x800000) (hG : 0x0 &&& G = 0x0) : Frame P G s₀ (State.setBay s b v) := by
  refine h₀.step (Q := 0x800000) (H := 0x0) ?_ hP hG
  unfold State.setBay
  try dsimp only
  iterate 50 all_goals try (first
    | (simp only [Frame.mk_iff]; with_reducible apply FrameC.upd <;> first | with_reducible exact fun _ => rfl | exact fun h => absurd h (by decide +kernel) | with_reducible exact fun _ h => ⟨h, rfl, rfl⟩ | with_reducible exact fun _ _ _ => rfl | with_reducible exact id | with_reducible exact fun h _ => h | with_reducible exact fun _ h => h | skip)
    | with_reducible apply Frame.ite
    | with_reducible exact Frame.refl _ _ _
    | with_reducible apply Frame.foldlT
    | with_reducible assumption
    | (show (_ : Nat) = _; decide +kernel)
    | (show Nat.testBit _ _ = true; decide +kernel)
    | intro _
    | split)

theorem frame_setFuse {P G : Nat} {s₀ s : State} (h₀ : Frame P G s₀ s) (c : Nat) (v : FuseSt) (hP : 0x1000000 &&& P = 0x1000000) (hG : 0x0 &&& G = 0x0) : Frame P G s₀ (State.setFuse s c v) := by
  refine h₀.step (Q := 0x1000000) (H := 0x0) ?_ hP hG
  unfold State.setFuse
  try dsimp only
  iterate 50 all_goals try (first
    | (simp only [Frame.mk_iff]; with_reducible apply FrameC.upd <;> first | with_reducible exact fun _ => rfl | exact fun h => absurd h (by decide +kernel) | with_reducible exact fun _ h => ⟨h, rfl, rfl⟩ | with_reducible exact fun _ _ _ => rfl | with_reducible exact id | with_reducible exact fun h _ => h | with_reducible exact fun _ h => h | skip)
    | with_reducible apply Frame.ite
    | with_reducible exact Frame.refl _ _ _
    | with_reducible apply Frame.foldlT
    | with_reducible assumption
    | (show (_ : Nat) = _; decide +kernel)
    | (show Nat.testBit _ _ = true; decide +kernel)
    | intro _
    | split)

theorem frame_outResumed {P G : Nat} {s₀ s : State} (h₀ : Frame P G s₀ s) (k : Nat) (hP : 0x100000 &&& P = 0x100000) (hG : 0x10000000000000 &&& G = 0x10000000000000) : Frame P G s₀ (State.outResumed s k) := by
  refine h₀.step (Q := 0x100000) (H := 0x10000000000000) ?_ hP hG
  unfold State.outResumed
  try dsimp only
  iterate 50 all_goals try (first
    | (simp only [Frame.mk_iff]; with_reducible apply FrameC.upd <;> first | with_reducible exact fun _ => rfl | exact fun h => absurd h (by decide +kernel) | with_reducible exact fun _ h => ⟨h, rfl, rfl⟩ | with_reducible exact fun _ _ _ => rfl | with_reducible exact id | with_reducible exact fun h _ => h | with_reducible exact fun _ h => h | skip)
    | with_reducible apply Frame.ite
    | with_reducible exact Frame.refl _ _ _
    | with_reducible apply frame_putSat
    | with_reducible apply Frame.foldlT
    | with_reducible assumption
    | (show (_ : Nat) = _; decide +kernel)
    | (show Nat.testBit _ _ = true; decide +kernel)
    | intro _
    | split)

theorem frame_raiseP1 {P G : Nat} {s₀ s : State} (h₀ : Frame P G s₀ s) (code sev unit p1 : Nat) (hP : 0x400041c7c &&& P = 0x400041c7c) (hG : 0x500c000000024 &&& G = 0x500c000000024) : Frame P G s₀ (State.raiseP1 s code sev unit p1) := by
  refine h₀.step (Q := 0x400041c7c) (H := 0x500c000000024) ?_ hP hG
  unfold State.raiseP1
  try dsimp only
  iterate 50 all_goals try (first
    | with_reducible apply Frame.ite
    | with_reducible exact Frame.refl _ _ _
    | (refine frame_takeFree_of ‹_› ?_ ?_ ?_)
    | with_reducible apply frame_takeFree
    | with_reducible apply frame_raise
    | with_reducible apply Frame.foldlT
    | with_reducible assumption
    | (show (_ : Nat) = _; decide +kernel)
    | (show Nat.testBit _ _ = true; decide +kernel)
    | intro _
    | split)

theorem frame_raiseP1_low {P G : Nat} {s₀ s : State} (h₀ : Frame P G s₀ s) (code sev unit p1 : Nat) (hs : sev < 6) (hP : 0x1044 &&& P = 0x1044) (hG : 0xc000000020 &&& G = 0xc000000020) : Frame P G s₀ (State.raiseP1 s code sev unit p1) := by
  refine h₀.step (Q := 0x1044) (H := 0xc000000020) ?_ hP hG
  unfold State.raiseP1
  try dsimp only
  iterate 50 all_goals try (first
    | with_reducible apply Frame.ite
    | with_reducible exact Frame.refl _ _ _
    | (with_reducible apply frame_raise_low; case hs => exact hs)
    | (refine frame_takeFree_of ‹_› ?_ ?_ ?_)
    | with_reducible apply frame_takeFree
    | with_reducible apply Frame.foldlT
    | with_reducible assumption
    | (show (_ : Nat) = _; decide +kernel)
    | (show Nat.testBit _ _ = true; decide +kernel)
    | intro _
    | split)

theorem frame_fusEnter {P G : Nat} {s₀ s : State} (h₀ : Frame P G s₀ s) (c st : Nat) (hP : 0x1000000 &&& P = 0x1000000) (hG : 0x100000000 &&& G = 0x100000000) : Frame P G s₀ (State.fusEnter s c st) := by
  refine h₀.step (Q := 0x1000000) (H := 0x100000000) ?_ hP hG
  unfold State.fusEnter
  try dsimp only
  iterate 50 all_goals try (first
    | (simp only [Frame.mk_iff]; with_reducible apply FrameC.upd <;> first | with_reducible exact fun _ => rfl | exact fun h => absurd h (by decide +kernel) | with_reducible exact fun _ h => ⟨h, rfl, rfl⟩ | with_reducible exact fun _ _ _ => rfl | with_reducible exact id | with_reducible exact fun h _ => h | with_reducible exact fun _ h => h | skip)
    | with_reducible apply Frame.ite
    | with_reducible exact Frame.refl _ _ _
    | with_reducible apply frame_putAt
    | with_reducible apply frame_putBit
    | with_reducible apply frame_setFuse
    | with_reducible apply Frame.foldlT
    | with_reducible assumption
    | (show (_ : Nat) = _; decide +kernel)
    | (show Nat.testBit _ _ = true; decide +kernel)
    | intro _
    | split)

theorem frame_fusClose {P G : Nat} {s₀ s : State} (h₀ : Frame P G s₀ s) (c : Nat) (hP : 0x1000000 &&& P = 0x1000000) (hG : 0x100000000 &&& G = 0x100000000) : Frame P G s₀ (State.fusClose s c) := by
  refine h₀.step (Q := 0x1000000) (H := 0x100000000) ?_ hP hG
  unfold State.fusClose
  try dsimp only
  iterate 50 all_goals try (first
    | (simp only [Frame.mk_iff]; with_reducible apply FrameC.upd <;> first | with_reducible exact fun _ => rfl | exact fun h => absurd h (by decide +kernel) | with_reducible exact fun _ h => ⟨h, rfl, rfl⟩ | with_reducible exact fun _ _ _ => rfl | with_reducible exact id | with_reducible exact fun h _ => h | with_reducible exact fun _ h => h | skip)
    | with_reducible apply Frame.ite
    | with_reducible exact Frame.refl _ _ _
    | with_reducible apply frame_setFuse
    | with_reducible apply frame_fusEnter
    | with_reducible apply Frame.foldlT
    | with_reducible assumption
    | (show (_ : Nat) = _; decide +kernel)
    | (show Nat.testBit _ _ = true; decide +kernel)
    | intro _
    | split)

theorem frame_closeReq {P G : Nat} {s₀ s : State} (h₀ : Frame P G s₀ s) (c : Nat) (hP : 0x1000000 &&& P = 0x1000000) (hG : 0x100000000 &&& G = 0x100000000) : Frame P G s₀ (State.closeReq s c) := by
  refine h₀.step (Q := 0x1000000) (H := 0x100000000) ?_ hP hG
  unfold State.closeReq
  try dsimp only
  iterate 50 all_goals try (first
    | (simp only [Frame.mk_iff]; with_reducible apply FrameC.upd <;> first | with_reducible exact fun _ => rfl | exact fun h => absurd h (by decide +kernel) | with_reducible exact fun _ h => ⟨h, rfl, rfl⟩ | with_reducible exact fun _ _ _ => rfl | with_reducible exact id | with_reducible exact fun h _ => h | with_reducible exact fun _ h => h | skip)
    | with_reducible apply Frame.ite
    | with_reducible exact Frame.refl _ _ _
    | with_reducible apply frame_setFuse
    | with_reducible apply frame_fusClose
    | with_reducible apply Frame.foldlT
    | with_reducible assumption
    | (show (_ : Nat) = _; decide +kernel)
    | (show Nat.testBit _ _ = true; decide +kernel)
    | intro _
    | split)

theorem frame_fusOpen {P G : Nat} {s₀ s : State} (h₀ : Frame P G s₀ s) (c : Nat) (why : OpenWhy) (hP : 0x1000000 &&& P = 0x1000000) (hG : 0x100000000 &&& G = 0x100000000) : Frame P G s₀ (State.fusOpen s c why) := by
  refine h₀.step (Q := 0x1000000) (H := 0x100000000) ?_ hP hG
  unfold State.fusOpen
  try dsimp only
  iterate 50 all_goals try (first
    | (simp only [Frame.mk_iff]; with_reducible apply FrameC.upd <;> first | with_reducible exact fun _ => rfl | exact fun h => absurd h (by decide +kernel) | with_reducible exact fun _ h => ⟨h, rfl, rfl⟩ | with_reducible exact fun _ _ _ => rfl | with_reducible exact id | with_reducible exact fun h _ => h | with_reducible exact fun _ h => h | skip)
    | with_reducible apply Frame.ite
    | with_reducible exact Frame.refl _ _ _
    | with_reducible apply frame_setFuse
    | with_reducible apply frame_fusEnter
    | with_reducible apply Frame.foldlT
    | with_reducible assumption
    | (show (_ : Nat) = _; decide +kernel)
    | (show Nat.testBit _ _ = true; decide +kernel)
    | intro _
    | split)

theorem frame_openReq {P G : Nat} {s₀ s : State} (h₀ : Frame P G s₀ s) (c : Nat) (hP : 0x1000000 &&& P = 0x1000000) (hG : 0x100000000 &&& G = 0x100000000) : Frame P G s₀ (State.openReq s c) := by
  refine h₀.step (Q := 0x1000000) (H := 0x100000000) ?_ hP hG
  unfold State.openReq
  try dsimp only
  iterate 50 all_goals try (first
    | (simp only [Frame.mk_iff]; with_reducible apply FrameC.upd <;> first | with_reducible exact fun _ => rfl | exact fun h => absurd h (by decide +kernel) | with_reducible exact fun _ h => ⟨h, rfl, rfl⟩ | with_reducible exact fun _ _ _ => rfl | with_reducible exact id | with_reducible exact fun h _ => h | with_reducible exact fun _ h => h | skip)
    | with_reducible apply Frame.ite
    | with_reducible exact Frame.refl _ _ _
    | with_reducible apply frame_setFuse
    | with_reducible apply frame_fusEnter
    | with_reducible apply frame_fusOpen
    | with_reducible apply Frame.foldlT
    | with_reducible assumption
    | (show (_ : Nat) = _; decide +kernel)
    | (show Nat.testBit _ _ = true; decide +kernel)
    | intro _
    | split)

theorem frame_fusCleared {P G : Nat} {s₀ s : State} (h₀ : Frame P G s₀ s) (c how : Nat) (hP : 0x1001040 &&& P = 0x1001040) (hG : 0xc100000020 &&& G = 0xc100000020) : Frame P G s₀ (State.fusCleared s c how) := by
  refine h₀.step (Q := 0x1001040) (H := 0xc100000020) ?_ hP hG
  unfold State.fusCleared
  try dsimp only
  iterate 50 all_goals try (first
    | (simp only [Frame.mk_iff]; with_reducible apply FrameC.upd <;> first | with_reducible exact fun _ => rfl | exact fun h => absurd h (by decide +kernel) | with_reducible exact fun _ h => ⟨h, rfl, rfl⟩ | with_reducible exact fun _ _ _ => rfl | with_reducible exact id | with_reducible exact fun h _ => h | with_reducible exact fun _ h => h | skip)
    | with_reducible apply Frame.ite
    | with_reducible exact Frame.refl _ _ _
    | with_reducible apply frame_putAt
    | (with_reducible apply frame_raise_low; case hs => decide)
    | with_reducible apply frame_setFuse
    | with_reducible apply frame_fusEnter
    | with_reducible apply frame_fusClose
    | with_reducible apply Frame.foldlT
    | with_reducible assumption
    | (show (_ : Nat) = _; decide +kernel)
    | (show Nat.testBit _ _ = true; decide +kernel)
    | intro _
    | split)

theorem frame_phRefresh {P G : Nat} {s₀ s : State} (h₀ : Frame P G s₀ s) (b : Nat) (hP : 0x800000 &&& P = 0x800000) (hG : 0x10000 &&& G = 0x10000) : Frame P G s₀ (State.phRefresh s b) := by
  refine h₀.step (Q := 0x800000) (H := 0x10000) ?_ hP hG
  unfold State.phRefresh
  try dsimp only
  iterate 50 all_goals try (first
    | (simp only [Frame.mk_iff]; with_reducible apply FrameC.upd <;> first | with_reducible exact fun _ => rfl | exact fun h => absurd h (by decide +kernel) | with_reducible exact fun _ h => ⟨h, rfl, rfl⟩ | with_reducible exact fun _ _ _ => rfl | with_reducible exact id | with_reducible exact fun h _ => h | with_reducible exact fun _ h => h | skip)
    | with_reducible apply Frame.ite
    | with_reducible exact Frame.refl _ _ _
    | with_reducible apply frame_putAt
    | with_reducible apply frame_setBay
    | with_reducible apply Frame.foldlT
    | with_reducible assumption
    | (show (_ : Nat) = _; decide +kernel)
    | (show Nat.testBit _ _ = true; decide +kernel)
    | intro _
    | split)

theorem frame_setPst {P G : Nat} {s₀ s : State} (h₀ : Frame P G s₀ s) (n st : Nat) (hP : 0x2400000 &&& P = 0x2400000) (hG : 0x20000 &&& G = 0x20000) : Frame P G s₀ (State.setPst s n st) := by
  refine h₀.step (Q := 0x2400000) (H := 0x20000) ?_ hP hG
  unfold State.setPst
  try dsimp only
  iterate 50 all_goals try (first
    | (simp only [Frame.mk_iff]; with_reducible apply FrameC.upd <;> first | with_reducible exact fun _ => rfl | exact fun h => absurd h (by decide +kernel) | with_reducible exact fun _ h => ⟨h, rfl, rfl⟩ | with_reducible exact fun _ _ _ => rfl | with_reducible exact id | with_reducible exact fun h _ => h | with_reducible exact fun _ h => h | skip)
    | with_reducible apply Frame.ite
    | with_reducible exact Frame.refl _ _ _
    | with_reducible apply frame_putAt
    | with_reducible apply frame_setPh
    | with_reducible apply Frame.foldlT
    | with_reducible assumption
    | (show (_ : Nat) = _; decide +kernel)
    | (show Nat.testBit _ _ = true; decide +kernel)
    | intro _
    | split)

theorem frame_toNew {P G : Nat} {s₀ s : State} (h₀ : Frame P G s₀ s) (n : Nat) (hP : 0x2400000 &&& P = 0x2400000) (hG : 0x20000 &&& G = 0x20000) : Frame P G s₀ (State.toNew s n) := by
  refine h₀.step (Q := 0x2400000) (H := 0x20000) ?_ hP hG
  unfold State.toNew
  try dsimp only
  iterate 50 all_goals try (first
    | (simp only [Frame.mk_iff]; with_reducible apply FrameC.upd <;> first | with_reducible exact fun _ => rfl | exact fun h => absurd h (by decide +kernel) | with_reducible exact fun _ h => ⟨h, rfl, rfl⟩ | with_reducible exact fun _ _ _ => rfl | with_reducible exact id | with_reducible exact fun h _ => h | with_reducible exact fun _ h => h | skip)
    | with_reducible apply Frame.ite
    | with_reducible exact Frame.refl _ _ _
    | with_reducible apply frame_putAt
    | with_reducible apply frame_setPh
    | with_reducible apply frame_setPst
    | with_reducible apply Frame.foldlT
    | with_reducible assumption
    | (show (_ : Nat) = _; decide +kernel)
    | (show Nat.testBit _ _ = true; decide +kernel)
    | intro _
    | split)

theorem frame_toWarm {P G : Nat} {s₀ s : State} (h₀ : Frame P G s₀ s) (n : Nat) (hP : 0x2400000 &&& P = 0x2400000) (hG : 0x20000 &&& G = 0x20000) : Frame P G s₀ (State.toWarm s n) := by
  refine h₀.step (Q := 0x2400000) (H := 0x20000) ?_ hP hG
  unfold State.toWarm
  try dsimp only
  iterate 50 all_goals try (first
    | (simp only [Frame.mk_iff]; with_reducible apply FrameC.upd <;> first | with_reducible exact fun _ => rfl | exact fun h => absurd h (by decide +kernel) | with_reducible exact fun _ h => ⟨h, rfl, rfl⟩ | with_reducible exact fun _ _ _ => rfl | with_reducible exact id | with_reducible exact fun h _ => h | with_reducible exact fun _ h => h | skip)
    | with_reducible apply Frame.ite
    | with_reducible exact Frame.refl _ _ _
    | with_reducible apply frame_putAt
    | with_reducible apply frame_setPh
    | with_reducible apply frame_setPst
    | with_reducible apply frame_toNew
    | with_reducible apply Frame.foldlT
    | with_reducible assumption
    | (show (_ : Nat) = _; decide +kernel)
    | (show Nat.testBit _ _ = true; decide +kernel)
    | intro _
    | split)

theorem frame_clearShed {P G : Nat} {s₀ s : State} (h₀ : Frame P G s₀ s) (b : Nat) (hP : 0x800000 &&& P = 0x800000) (hG : 0x30000 &&& G = 0x30000) : Frame P G s₀ (State.clearShed s b) := by
  refine h₀.step (Q := 0x800000) (H := 0x30000) ?_ hP hG
  unfold State.clearShed
  try dsimp only
  iterate 50 all_goals try (first
    | (simp only [Frame.mk_iff]; with_reducible apply FrameC.upd <;> first | with_reducible exact fun _ => rfl | exact fun h => absurd h (by decide +kernel) | with_reducible exact fun _ h => ⟨h, rfl, rfl⟩ | with_reducible exact fun _ _ _ => rfl | with_reducible exact id | with_reducible exact fun h _ => h | with_reducible exact fun _ h => h | skip)
    | with_reducible apply Frame.ite
    | with_reducible exact Frame.refl _ _ _
    | with_reducible apply frame_putAt
    | with_reducible apply frame_setBay
    | with_reducible apply Frame.foldlT
    | with_reducible assumption
    | (show (_ : Nat) = _; decide +kernel)
    | (show Nat.testBit _ _ = true; decide +kernel)
    | intro _
    | split)

theorem frame_allWarm {P G : Nat} {s₀ s : State} (h₀ : Frame P G s₀ s) (b : Nat) (hP : 0x2c00000 &&& P = 0x2c00000) (hG : 0x30000 &&& G = 0x30000) : Frame P G s₀ (State.allWarm s b) := by
  refine h₀.step (Q := 0x2c00000) (H := 0x30000) ?_ hP hG
  unfold State.allWarm
  try dsimp only
  iterate 50 all_goals try (first
    | with_reducible apply Frame.ite
    | with_reducible exact Frame.refl _ _ _
    | with_reducible apply frame_phRefresh
    | with_reducible apply frame_toWarm
    | with_reducible apply frame_clearShed
    | with_reducible apply Frame.foldlT
    | with_reducible assumption
    | (show (_ : Nat) = _; decide +kernel)
    | (show Nat.testBit _ _ = true; decide +kernel)
    | intro _
    | split)

theorem frame_allAbsent {P G : Nat} {s₀ s : State} (h₀ : Frame P G s₀ s) (b : Nat) (hP : 0x2c00000 &&& P = 0x2c00000) (hG : 0x30000 &&& G = 0x30000) : Frame P G s₀ (State.allAbsent s b) := by
  refine h₀.step (Q := 0x2c00000) (H := 0x30000) ?_ hP hG
  unfold State.allAbsent
  try dsimp only
  iterate 50 all_goals try (first
    | with_reducible apply Frame.ite
    | with_reducible exact Frame.refl _ _ _
    | with_reducible apply frame_putAt
    | with_reducible apply frame_phRefresh
    | with_reducible apply frame_allWarm
    | with_reducible apply Frame.foldlT
    | with_reducible assumption
    | (show (_ : Nat) = _; decide +kernel)
    | (show Nat.testBit _ _ = true; decide +kernel)
    | intro _
    | split)

theorem frame_phasesFitted {P G : Nat} {s₀ s : State} (h₀ : Frame P G s₀ s) (b : Nat) (hP : 0x2c00000 &&& P = 0x2c00000) (hG : 0x30000 &&& G = 0x30000) : Frame P G s₀ (State.phasesFitted s b) := by
  refine h₀.step (Q := 0x2c00000) (H := 0x30000) ?_ hP hG
  unfold State.phasesFitted
  try dsimp only
  iterate 50 all_goals try (first
    | with_reducible apply Frame.ite
    | with_reducible exact Frame.refl _ _ _
    | with_reducible apply frame_putAt
    | with_reducible apply frame_phRefresh
    | with_reducible apply frame_toNew
    | with_reducible apply frame_toWarm
    | with_reducible apply Frame.foldlT
    | with_reducible assumption
    | (show (_ : Nat) = _; decide +kernel)
    | (show Nat.testBit _ _ = true; decide +kernel)
    | intro _
    | split)

theorem frame_leap {P G : Nat} {s₀ s : State} (h₀ : Frame P G s₀ s) (n mask : Nat) (hP : 0x2c01040 &&& P = 0x2c01040) (hG : 0xc000030020 &&& G = 0xc000030020) : Frame P G s₀ (State.leap s n mask) := by
  refine h₀.step (Q := 0x2c01040) (H := 0xc000030020) ?_ hP hG
  unfold State.leap
  try dsimp only
  iterate 50 all_goals try (first
    | (simp only [Frame.mk_iff]; with_reducible apply FrameC.upd <;> first | with_reducible exact fun _ => rfl | exact fun h => absurd h (by decide +kernel) | with_reducible exact fun _ h => ⟨h, rfl, rfl⟩ | with_reducible exact fun _ _ _ => rfl | with_reducible exact id | with_reducible exact fun h _ => h | with_reducible exact fun _ h => h | skip)
    | with_reducible apply Frame.ite
    | with_reducible exact Frame.refl _ _ _
    | with_reducible apply frame_putAt
    | with_reducible apply frame_bumpAt
    | (with_reducible apply frame_raise_low; case hs => decide)
    | with_reducible apply frame_setPh
    | with_reducible apply frame_phRefresh
    | with_reducible apply frame_setPst
    | with_reducible apply Frame.foldlT
    | with_reducible assumption
    | (show (_ : Nat) = _; decide +kernel)
    | (show Nat.testBit _ _ = true; decide +kernel)
    | intro _
    | split)

theorem frame_addOne {P G : Nat} {s₀ s : State} (h₀ : Frame P G s₀ s) (b mask : Nat) (hP : 0x2c01040 &&& P = 0x2c01040) (hG : 0xc000030020 &&& G = 0xc000030020) : Frame P G s₀ (State.addOne s b mask) := by
  refine h₀.step (Q := 0x2c01040) (H := 0xc000030020) ?_ hP hG
  unfold State.addOne
  try dsimp only
  iterate 50 all_goals try (first
    | with_reducible apply Frame.ite
    | with_reducible exact Frame.refl _ _ _
    | with_reducible apply frame_leap
    | with_reducible apply Frame.foldlT
    | with_reducible assumption
    | (show (_ : Nat) = _; decide +kernel)
    | (show Nat.testBit _ _ = true; decide +kernel)
    | intro _
    | split)

theorem frame_noteAbandon {P G : Nat} {s₀ s : State} (h₀ : Frame P G s₀ s) (b bit : Nat) (hP : 0x800000 &&& P = 0x800000) (hG : 0x0 &&& G = 0x0) : Frame P G s₀ (State.noteAbandon s b bit) := by
  refine h₀.step (Q := 0x800000) (H := 0x0) ?_ hP hG
  unfold State.noteAbandon
  try dsimp only
  iterate 50 all_goals try (first
    | (simp only [Frame.mk_iff]; with_reducible apply FrameC.upd <;> first | with_reducible exact fun _ => rfl | exact fun h => absurd h (by decide +kernel) | with_reducible exact fun _ h => ⟨h, rfl, rfl⟩ | with_reducible exact fun _ _ _ => rfl | with_reducible exact id | with_reducible exact fun h _ => h | with_reducible exact fun _ h => h | skip)
    | with_reducible apply Frame.ite
    | with_reducible exact Frame.refl _ _ _
    | with_reducible apply frame_setBay
    | with_reducible apply Frame.foldlT
    | with_reducible assumption
    | (show (_ : Nat) = _; decide +kernel)
    | (show Nat.testBit _ _ = true; decide +kernel)
    | intro _
    | split)

theorem frame_doAbandon {P G : Nat} {s₀ s : State} (h₀ : Frame P G s₀ s) (b : Nat) (hP : 0x801040 &&& P = 0x801040) (hG : 0xc000030020 &&& G = 0xc000030020) : Frame P G s₀ (State.doAbandon s b) := by
  refine h₀.step (Q := 0x801040) (H := 0xc000030020) ?_ hP hG
  unfold State.doAbandon
  try dsimp only
  iterate 50 all_goals try (first
    | (simp only [Frame.mk_iff]; with_reducible apply FrameC.upd <;> first | with_reducible exact fun _ => rfl | exact fun h => absurd h (by decide +kernel) | with_reducible exact fun _ h => ⟨h, rfl, rfl⟩ | with_reducible exact fun _ _ _ => rfl | with_reducible exact id | with_reducible exact fun h _ => h | with_reducible exact fun _ h => h | skip)
    | with_reducible apply Frame.ite
    | with_reducible exact Frame.refl _ _ _
    | with_reducible apply frame_flag
    | with_reducible apply frame_bumpAt
    | (with_reducible apply frame_raise_low; case hs => decide)
    | with_reducible apply frame_setBay
    | with_reducible apply frame_clearShed
    | with_reducible apply Frame.foldlT
    | with_reducible assumption
    | (show (_ : Nat) = _; decide +kernel)
    | (show Nat.testBit _ _ = true; decide +kernel)
    | intro _
    | split)

theorem frame_addMany {P G : Nat} {s₀ s : State} (h₀ : Frame P G s₀ s) (b mask k : Nat) (hP : 0x2c01040 &&& P = 0x2c01040) (hG : 0xc000030020 &&& G = 0xc000030020) :
    Frame P G s₀ (s.addMany b mask k) := by
  induction k generalizing s with
  | zero => exact h₀
  | succ k ih => exact ih (frame_addOne h₀ b mask hP hG)

theorem frame_phaseStep {P G : Nat} {s₀ s : State} (h₀ : Frame P G s₀ s) (b bit : Nat) (hP : 0x2c01040 &&& P = 0x2c01040) (hG : 0xc000030020 &&& G = 0xc000030020) : Frame P G s₀ (State.phaseStep s b bit) := by
  refine h₀.step (Q := 0x2c01040) (H := 0xc000030020) ?_ hP hG
  unfold State.phaseStep
  try dsimp only
  iterate 50 all_goals try (first
    | with_reducible apply Frame.ite
    | with_reducible exact Frame.refl _ _ _
    | with_reducible apply frame_addOne
    | with_reducible apply frame_addMany
    | with_reducible apply frame_noteAbandon
    | with_reducible apply Frame.foldlT
    | with_reducible assumption
    | (show (_ : Nat) = _; decide +kernel)
    | (show Nat.testBit _ _ = true; decide +kernel)
    | intro _
    | split)

theorem frame_phFaulted {P G : Nat} {s₀ s : State} (h₀ : Frame P G s₀ s) (n reason : Nat) (v : Rat) (hP : 0x2c01040 &&& P = 0x2c01040) (hG : 0xc000030020 &&& G = 0xc000030020) : Frame P G s₀ (State.phFaulted s n reason v) := by
  refine h₀.step (Q := 0x2c01040) (H := 0xc000030020) ?_ hP hG
  unfold State.phFaulted
  try dsimp only
  iterate 50 all_goals try (first
    | (simp only [Frame.mk_iff]; with_reducible apply FrameC.upd <;> first | with_reducible exact fun _ => rfl | exact fun h => absurd h (by decide +kernel) | with_reducible exact fun _ h => ⟨h, rfl, rfl⟩ | with_reducible exact fun _ _ _ => rfl | with_reducible exact id | with_reducible exact fun h _ => h | with_reducible exact fun _ h => h | skip)
    | with_reducible apply Frame.ite
    | with_reducible exact Frame.refl _ _ _
    | with_reducible apply frame_putAt
    | with_reducible apply frame_flag
    | (with_reducible apply frame_raise_low; case hs => decide)
    | with_reducible apply frame_setPh
    | with_reducible apply frame_phRefresh
    | with_reducible apply frame_setPst
    | with_reducible apply frame_clearShed
    | with_reducible apply Frame.foldlT
    | with_reducible assumption
    | (show (_ : Nat) = _; decide +kernel)
    | (show Nat.testBit _ _ = true; decide +kernel)
    | intro _
    | split)

theorem frame_setBst {P G : Nat} {s₀ s : State} (h₀ : Frame P G s₀ s) (b st : Nat) (hP : 0x800000 &&& P = 0x800000) (hG : 0x100000 &&& G = 0x100000) : Frame P G s₀ (State.setBst s b st) := by
  refine h₀.step (Q := 0x800000) (H := 0x100000) ?_ hP hG
  unfold State.setBst
  try dsimp only
  iterate 50 all_goals try (first
    | (simp only [Frame.mk_iff]; with_reducible apply FrameC.upd <;> first | with_reducible exact fun _ => rfl | exact fun h => absurd h (by decide +kernel) | with_reducible exact fun _ h => ⟨h, rfl, rfl⟩ | with_reducible exact fun _ _ _ => rfl | with_reducible exact id | with_reducible exact fun h _ => h | with_reducible exact fun _ h => h | skip)
    | with_reducible apply Frame.ite
    | with_reducible exact Frame.refl _ _ _
    | with_reducible apply frame_putAt
    | with_reducible apply frame_flag
    | with_reducible apply frame_setBay
    | with_reducible apply Frame.foldlT
    | with_reducible assumption
    | (show (_ : Nat) = _; decide +kernel)
    | (show Nat.testBit _ _ = true; decide +kernel)
    | intro _
    | split)

theorem frame_shareRefresh {P G : Nat} {s₀ s : State} (h₀ : Frame P G s₀ s) (b : Nat) (hP : 0x0 &&& P = 0x0) (hG : 0x100000 &&& G = 0x100000) : Frame P G s₀ (State.shareRefresh s b) := by
  refine h₀.step (Q := 0x0) (H := 0x100000) ?_ hP hG
  unfold State.shareRefresh
  try dsimp only
  iterate 50 all_goals try (first
    | with_reducible apply Frame.ite
    | with_reducible exact Frame.refl _ _ _
    | with_reducible apply frame_sputAt
    | with_reducible apply frame_putAtSat
    | with_reducible apply Frame.foldlT
    | with_reducible assumption
    | (show (_ : Nat) = _; decide +kernel)
    | (show Nat.testBit _ _ = true; decide +kernel)
    | intro _
    | split)

theorem frame_outOfShare {P G : Nat} {s₀ s : State} (h₀ : Frame P G s₀ s) (b : Nat) (hP : 0x800000 &&& P = 0x800000) (hG : 0x100000 &&& G = 0x100000) : Frame P G s₀ (State.outOfShare s b) := by
  refine h₀.step (Q := 0x800000) (H := 0x100000) ?_ hP hG
  unfold State.outOfShare
  try dsimp only
  iterate 50 all_goals try (first
    | (simp only [Frame.mk_iff]; with_reducible apply FrameC.upd <;> first | with_reducible exact fun _ => rfl | exact fun h => absurd h (by decide +kernel) | with_reducible exact fun _ h => ⟨h, rfl, rfl⟩ | with_reducible exact fun _ _ _ => rfl | with_reducible exact id | with_reducible exact fun h _ => h | with_reducible exact fun _ h => h | skip)
    | with_reducible apply Frame.ite
    | with_reducible exact Frame.refl _ _ _
    | with_reducible apply frame_setBay
    | with_reducible apply frame_shareRefresh
    | with_reducible apply Frame.foldlT
    | with_reducible assumption
    | (show (_ : Nat) = _; decide +kernel)
    | (show Nat.testBit _ _ = true; decide +kernel)
    | intro _
    | split)

theorem frame_bayActivate {P G : Nat} {s₀ s : State} (h₀ : Frame P G s₀ s) (b : Nat) (hP : 0x800000 &&& P = 0x800000) (hG : 0x100000 &&& G = 0x100000) : Frame P G s₀ (State.bayActivate s b) := by
  refine h₀.step (Q := 0x800000) (H := 0x100000) ?_ hP hG
  unfold State.bayActivate
  try dsimp only
  iterate 50 all_goals try (first
    | (simp only [Frame.mk_iff]; with_reducible apply FrameC.upd <;> first | with_reducible exact fun _ => rfl | exact fun h => absurd h (by decide +kernel) | with_reducible exact fun _ h => ⟨h, rfl, rfl⟩ | with_reducible exact fun _ _ _ => rfl | with_reducible exact id | with_reducible exact fun h _ => h | with_reducible exact fun _ h => h | skip)
    | with_reducible apply Frame.ite
    | with_reducible exact Frame.refl _ _ _
    | with_reducible apply frame_setBay
    | with_reducible apply frame_setBst
    | with_reducible apply frame_shareRefresh
    | with_reducible apply Frame.foldlT
    | with_reducible assumption
    | (show (_ : Nat) = _; decide +kernel)
    | (show Nat.testBit _ _ = true; decide +kernel)
    | intro _
    | split)

theorem frame_joined {P G : Nat} {s₀ s : State} (h₀ : Frame P G s₀ s) (b : Nat) (hP : 0x801040 &&& P = 0x801040) (hG : 0xc000100020 &&& G = 0xc000100020) : Frame P G s₀ (State.joined s b) := by
  refine h₀.step (Q := 0x801040) (H := 0xc000100020) ?_ hP hG
  unfold State.joined
  try dsimp only
  iterate 50 all_goals try (first
    | with_reducible apply Frame.ite
    | with_reducible exact Frame.refl _ _ _
    | (with_reducible apply frame_raise_low; case hs => decide)
    | with_reducible apply frame_bayActivate
    | with_reducible apply Frame.foldlT
    | with_reducible assumption
    | (show (_ : Nat) = _; decide +kernel)
    | (show Nat.testBit _ _ = true; decide +kernel)
    | intro _
    | split)

theorem frame_bayStart {P G : Nat} {s₀ s : State} (h₀ : Frame P G s₀ s) (b n : Nat) (full : Bool) (hP : 0x2c01040 &&& P = 0x2c01040) (hG : 0xc000130020 &&& G = 0xc000130020) : Frame P G s₀ (State.bayStart s b n full) := by
  refine h₀.step (Q := 0x2c01040) (H := 0xc000130020) ?_ hP hG
  unfold State.bayStart
  try dsimp only
  iterate 50 all_goals try (first
    | (simp only [Frame.mk_iff]; with_reducible apply FrameC.upd <;> first | with_reducible exact fun _ => rfl | exact fun h => absurd h (by decide +kernel) | with_reducible exact fun _ h => ⟨h, rfl, rfl⟩ | with_reducible exact fun _ _ _ => rfl | with_reducible exact id | with_reducible exact fun h _ => h | with_reducible exact fun _ h => h | skip)
    | with_reducible apply Frame.ite
    | with_reducible exact Frame.refl _ _ _
    | with_reducible apply frame_setBay
    | with_reducible apply frame_leap
    | with_reducible apply frame_setBst
    | with_reducible apply frame_shareRefresh
    | with_reducible apply frame_joined
    | with_reducible apply Frame.foldlT
    | with_reducible assumption
    | (show (_ : Nat) = _; decide +kernel)
    | (show Nat.testBit _ _ = true; decide +kernel)
    | intro _
    | split)

theorem frame_tryJoin {P G : Nat} {s₀ s : State} (h₀ : Frame P G s₀ s) (b : Nat) (hP : 0x2c01040 &&& P = 0x2c01040) (hG : 0xc000130020 &&& G = 0xc000130020) : Frame P G s₀ (State.tryJoin s b) := by
  refine h₀.step (Q := 0x2c01040) (H := 0xc000130020) ?_ hP hG
  unfold State.tryJoin
  try dsimp only
  iterate 50 all_goals try (first
    | with_reducible apply Frame.ite
    | with_reducible exact Frame.refl _ _ _
    | with_reducible apply frame_bayStart
    | with_reducible apply Frame.foldlT
    | with_reducible assumption
    | (show (_ : Nat) = _; decide +kernel)
    | (show Nat.testBit _ _ = true; decide +kernel)
    | intro _
    | split)

theorem frame_bayReady {P G : Nat} {s₀ s : State} (h₀ : Frame P G s₀ s) (b : Nat) (hP : 0x3c01040 &&& P = 0x3c01040) (hG : 0xc100130020 &&& G = 0xc100130020) : Frame P G s₀ (State.bayReady s b) := by
  refine h₀.step (Q := 0x3c01040) (H := 0xc100130020) ?_ hP hG
  unfold State.bayReady
  try dsimp only
  iterate 50 all_goals try (first
    | (simp only [Frame.mk_iff]; with_reducible apply FrameC.upd <;> first | with_reducible exact fun _ => rfl | exact fun h => absurd h (by decide +kernel) | with_reducible exact fun _ h => ⟨h, rfl, rfl⟩ | with_reducible exact fun _ _ _ => rfl | with_reducible exact id | with_reducible exact fun h _ => h | with_reducible exact fun _ h => h | skip)
    | with_reducible apply Frame.ite
    | with_reducible exact Frame.refl _ _ _
    | with_reducible apply frame_setBay
    | with_reducible apply frame_closeReq
    | with_reducible apply frame_setBst
    | with_reducible apply frame_tryJoin
    | with_reducible apply Frame.foldlT
    | with_reducible assumption
    | (show (_ : Nat) = _; decide +kernel)
    | (show Nat.testBit _ _ = true; decide +kernel)
    | intro _
    | split)

theorem frame_toPfc {P G : Nat} {s₀ s : State} (h₀ : Frame P G s₀ s) (b : Nat) (hP : 0x3c01040 &&& P = 0x3c01040) (hG : 0xc100130020 &&& G = 0xc100130020) : Frame P G s₀ (State.toPfc s b) := by
  refine h₀.step (Q := 0x3c01040) (H := 0xc100130020) ?_ hP hG
  unfold State.toPfc
  try dsimp only
  iterate 50 all_goals try (first
    | (simp only [Frame.mk_iff]; with_reducible apply FrameC.upd <;> first | with_reducible exact fun _ => rfl | exact fun h => absurd h (by decide +kernel) | with_reducible exact fun _ h => ⟨h, rfl, rfl⟩ | with_reducible exact fun _ _ _ => rfl | with_reducible exact id | with_reducible exact fun h _ => h | with_reducible exact fun _ h => h | skip)
    | with_reducible apply Frame.ite
    | with_reducible exact Frame.refl _ _ _
    | with_reducible apply frame_setBay
    | with_reducible apply frame_setBst
    | with_reducible apply frame_bayReady
    | with_reducible apply Frame.foldlT
    | with_reducible assumption
    | (show (_ : Nat) = _; decide +kernel)
    | (show Nat.testBit _ _ = true; decide +kernel)
    | intro _
    | split)

theorem frame_bayInserted {P G : Nat} {s₀ s : State} (h₀ : Frame P G s₀ s) (b : Nat) (hP : 0x3c01040 &&& P = 0x3c01040) (hG : 0xc100130020 &&& G = 0xc100130020) : Frame P G s₀ (State.bayInserted s b) := by
  refine h₀.step (Q := 0x3c01040) (H := 0xc100130020) ?_ hP hG
  unfold State.bayInserted
  try dsimp only
  iterate 50 all_goals try (first
    | with_reducible apply Frame.ite
    | with_reducible exact Frame.refl _ _ _
    | with_reducible apply frame_bump
    | (with_reducible apply frame_raise_low; case hs => decide)
    | with_reducible apply frame_phasesFitted
    | with_reducible apply frame_toPfc
    | with_reducible apply Frame.foldlT
    | with_reducible assumption
    | (show (_ : Nat) = _; decide +kernel)
    | (show Nat.testBit _ _ = true; decide +kernel)
    | intro _
    | split)

theorem frame_bayStop {P G : Nat} {s₀ s : State} (h₀ : Frame P G s₀ s) (b : Nat) (hP : 0x2c00000 &&& P = 0x2c00000) (hG : 0x130000 &&& G = 0x130000) : Frame P G s₀ (State.bayStop s b) := by
  refine h₀.step (Q := 0x2c00000) (H := 0x130000) ?_ hP hG
  unfold State.bayStop
  try dsimp only
  iterate 50 all_goals try (first
    | (simp only [Frame.mk_iff]; with_reducible apply FrameC.upd <;> first | with_reducible exact fun _ => rfl | exact fun h => absurd h (by decide +kernel) | with_reducible exact fun _ h => ⟨h, rfl, rfl⟩ | with_reducible exact fun _ _ _ => rfl | with_reducible exact id | with_reducible exact fun h _ => h | with_reducible exact fun _ h => h | skip)
    | with_reducible apply Frame.ite
    | with_reducible exact Frame.refl _ _ _
    | with_reducible apply frame_setBay
    | with_reducible apply frame_allWarm
    | with_reducible apply frame_outOfShare
    | with_reducible apply Frame.foldlT
    | with_reducible assumption
    | (show (_ : Nat) = _; decide +kernel)
    | (show Nat.testBit _ _ = true; decide +kernel)
    | intro _
    | split)

theorem frame_bayToFault {P G : Nat} {s₀ s : State} (h₀ : Frame P G s₀ s) (b : Nat) (hP : 0x2c00000 &&& P = 0x2c00000) (hG : 0x130000 &&& G = 0x130000) : Frame P G s₀ (State.bayToFault s b) := by
  refine h₀.step (Q := 0x2c00000) (H := 0x130000) ?_ hP hG
  unfold State.bayToFault
  try dsimp only
  iterate 50 all_goals try (first
    | with_reducible apply Frame.ite
    | with_reducible exact Frame.refl _ _ _
    | with_reducible apply frame_setBst
    | with_reducible apply frame_bayStop
    | with_reducible apply Frame.foldlT
    | with_reducible assumption
    | (show (_ : Nat) = _; decide +kernel)
    | (show Nat.testBit _ _ = true; decide +kernel)
    | intro _
    | split)

theorem frame_bayToEjected {P G : Nat} {s₀ s : State} (h₀ : Frame P G s₀ s) (b : Nat) (hP : 0x3c00000 &&& P = 0x3c00000) (hG : 0x100130000 &&& G = 0x100130000) : Frame P G s₀ (State.bayToEjected s b) := by
  refine h₀.step (Q := 0x3c00000) (H := 0x100130000) ?_ hP hG
  unfold State.bayToEjected
  try dsimp only
  iterate 50 all_goals try (first
    | with_reducible apply Frame.ite
    | with_reducible exact Frame.refl _ _ _
    | with_reducible apply frame_bump
    | with_reducible apply frame_openReq
    | with_reducible apply frame_setBst
    | with_reducible apply frame_bayStop
    | with_reducible apply Frame.foldlT
    | with_reducible assumption
    | (show (_ : Nat) = _; decide +kernel)
    | (show Nat.testBit _ _ = true; decide +kernel)
    | intro _
    | split)

theorem frame_leaveDone {P G : Nat} {s₀ s : State} (h₀ : Frame P G s₀ s) (b : Nat) (hP : 0x3c00000 &&& P = 0x3c00000) (hG : 0x100130000 &&& G = 0x100130000) : Frame P G s₀ (State.leaveDone s b) := by
  refine h₀.step (Q := 0x3c00000) (H := 0x100130000) ?_ hP hG
  unfold State.leaveDone
  try dsimp only
  iterate 50 all_goals try (first
    | with_reducible apply Frame.ite
    | with_reducible exact Frame.refl _ _ _
    | with_reducible apply frame_allWarm
    | with_reducible apply frame_setBst
    | with_reducible apply frame_outOfShare
    | with_reducible apply frame_bayToEjected
    | with_reducible apply Frame.foldlT
    | with_reducible assumption
    | (show (_ : Nat) = _; decide +kernel)
    | (show Nat.testBit _ _ = true; decide +kernel)
    | intro _
    | split)

theorem frame_leaveStart {P G : Nat} {s₀ s : State} (h₀ : Frame P G s₀ s) (b : Nat) (ej : Bool) (hP : 0x800000 &&& P = 0x800000) (hG : 0x100000 &&& G = 0x100000) : Frame P G s₀ (State.leaveStart s b ej) := by
  refine h₀.step (Q := 0x800000) (H := 0x100000) ?_ hP hG
  unfold State.leaveStart
  try dsimp only
  iterate 50 all_goals try (first
    | (simp only [Frame.mk_iff]; with_reducible apply FrameC.upd <;> first | with_reducible exact fun _ => rfl | exact fun h => absurd h (by decide +kernel) | with_reducible exact fun _ h => ⟨h, rfl, rfl⟩ | with_reducible exact fun _ _ _ => rfl | with_reducible exact id | with_reducible exact fun h _ => h | with_reducible exact fun _ h => h | skip)
    | with_reducible apply Frame.ite
    | with_reducible exact Frame.refl _ _ _
    | with_reducible apply frame_setBay
    | with_reducible apply frame_setBst
    | with_reducible apply Frame.foldlT
    | with_reducible assumption
    | (show (_ : Nat) = _; decide +kernel)
    | (show Nat.testBit _ _ = true; decide +kernel)
    | intro _
    | split)

theorem frame_bringIn {P G : Nat} {s₀ s : State} (h₀ : Frame P G s₀ s) (b : Nat) (hP : 0x3c01040 &&& P = 0x3c01040) (hG : 0xc100130020 &&& G = 0xc100130020) : Frame P G s₀ (State.bringIn s b) := by
  refine h₀.step (Q := 0x3c01040) (H := 0xc100130020) ?_ hP hG
  unfold State.bringIn
  try dsimp only
  iterate 50 all_goals try (first
    | (simp only [Frame.mk_iff]; with_reducible apply FrameC.upd <;> first | with_reducible exact fun _ => rfl | exact fun h => absurd h (by decide +kernel) | with_reducible exact fun _ h => ⟨h, rfl, rfl⟩ | with_reducible exact fun _ _ _ => rfl | with_reducible exact id | with_reducible exact fun h _ => h | with_reducible exact fun _ h => h | skip)
    | with_reducible apply Frame.ite
    | with_reducible exact Frame.refl _ _ _
    | with_reducible apply frame_setBay
    | with_reducible apply frame_bayActivate
    | with_reducible apply frame_bayStart
    | with_reducible apply frame_toPfc
    | with_reducible apply Frame.foldlT
    | with_reducible assumption
    | (show (_ : Nat) = _; decide +kernel)
    | (show Nat.testBit _ _ = true; decide +kernel)
    | intro _
    | split)

theorem frame_setStr {P G : Nat} {s₀ s : State} (h₀ : Frame P G s₀ s) (k : Nat) (v : StrSt) (hP : 0x20000000 &&& P = 0x20000000) (hG : 0x0 &&& G = 0x0) : Frame P G s₀ (State.setStr s k v) := by
  refine h₀.step (Q := 0x20000000) (H := 0x0) ?_ hP hG
  unfold State.setStr
  try dsimp only
  iterate 50 all_goals try (first
    | (simp only [Frame.mk_iff]; with_reducible apply FrameC.upd <;> first | with_reducible exact fun _ => rfl | exact fun h => absurd h (by decide +kernel) | with_reducible exact fun _ h => ⟨h, rfl, rfl⟩ | with_reducible exact fun _ _ _ => rfl | with_reducible exact id | with_reducible exact fun h _ => h | with_reducible exact fun _ h => h | skip)
    | with_reducible apply Frame.ite
    | with_reducible exact Frame.refl _ _ _
    | with_reducible apply Frame.foldlT
    | with_reducible assumption
    | (show (_ : Nat) = _; decide +kernel)
    | (show Nat.testBit _ _ = true; decide +kernel)
    | intro _
    | split)

theorem frame_setEsti {P G : Nat} {s₀ s : State} (h₀ : Frame P G s₀ s) (k : Nat) (v : EstSt) (hP : 0x40000000 &&& P = 0x40000000) (hG : 0x0 &&& G = 0x0) : Frame P G s₀ (State.setEsti s k v) := by
  refine h₀.step (Q := 0x40000000) (H := 0x0) ?_ hP hG
  unfold State.setEsti
  try dsimp only
  iterate 50 all_goals try (first
    | (simp only [Frame.mk_iff]; with_reducible apply FrameC.upd <;> first | with_reducible exact fun _ => rfl | exact fun h => absurd h (by decide +kernel) | with_reducible exact fun _ h => ⟨h, rfl, rfl⟩ | with_reducible exact fun _ _ _ => rfl | with_reducible exact id | with_reducible exact fun h _ => h | with_reducible exact fun _ h => h | skip)
    | with_reducible apply Frame.ite
    | with_reducible exact Frame.refl _ _ _
    | with_reducible apply Frame.foldlT
    | with_reducible assumption
    | (show (_ : Nat) = _; decide +kernel)
    | (show Nat.testBit _ _ = true; decide +kernel)
    | intro _
    | split)

theorem frame_setSensor {P G : Nat} {s₀ s : State} (h₀ : Frame P G s₀ s) (i : Nat) (v : SenSt) (hP : 0x8000000 &&& P = 0x8000000) (hG : 0x0 &&& G = 0x0) : Frame P G s₀ (State.setSensor s i v) := by
  refine h₀.step (Q := 0x8000000) (H := 0x0) ?_ hP hG
  unfold State.setSensor
  try dsimp only
  iterate 50 all_goals try (first
    | (simp only [Frame.mk_iff]; with_reducible apply FrameC.upd <;> first | with_reducible exact fun _ => rfl | exact fun h => absurd h (by decide +kernel) | with_reducible exact fun _ h => ⟨h, rfl, rfl⟩ | with_reducible exact fun _ _ _ => rfl | with_reducible exact id | with_reducible exact fun h _ => h | with_reducible exact fun _ h => h | skip)
    | with_reducible apply Frame.ite
    | with_reducible exact Frame.refl _ _ _
    | with_reducible apply Frame.foldlT
    | with_reducible assumption
    | (show (_ : Nat) = _; decide +kernel)
    | (show Nat.testBit _ _ = true; decide +kernel)
    | intro _
    | split)

theorem frame_setEst0 {P G : Nat} {s₀ s : State} (h₀ : Frame P G s₀ s) (k st : Nat) (hP : 0x0 &&& P = 0x0) (hG : 0x10000000 &&& G = 0x10000000) : Frame P G s₀ (State.setEst0 s k st) := by
  refine h₀.step (Q := 0x0) (H := 0x10000000) ?_ hP hG
  unfold State.setEst0
  try dsimp only
  iterate 50 all_goals try (first
    | with_reducible apply Frame.ite
    | with_reducible exact Frame.refl _ _ _
    | with_reducible apply frame_putAt
    | with_reducible apply Frame.foldlT
    | with_reducible assumption
    | (show (_ : Nat) = _; decide +kernel)
    | (show Nat.testBit _ _ = true; decide +kernel)
    | intro _
    | split)

theorem frame_estShow {P G : Nat} {s₀ s : State} (h₀ : Frame P G s₀ s) (k : Nat) (hP : 0x0 &&& P = 0x0) (hG : 0x10000000 &&& G = 0x10000000) : Frame P G s₀ (State.estShow s k) := by
  refine h₀.step (Q := 0x0) (H := 0x10000000) ?_ hP hG
  unfold State.estShow
  try dsimp only
  iterate 50 all_goals try (first
    | with_reducible apply Frame.ite
    | with_reducible exact Frame.refl _ _ _
    | with_reducible apply frame_putAtSat
    | with_reducible apply Frame.foldlT
    | with_reducible assumption
    | (show (_ : Nat) = _; decide +kernel)
    | (show Nat.testBit _ _ = true; decide +kernel)
    | intro _
    | split)

theorem frame_estPublish {P G : Nat} {s₀ s : State} (h₀ : Frame P G s₀ s) (k : Nat) (hP : 0x40000000 &&& P = 0x40000000) (hG : 0x10000000 &&& G = 0x10000000) : Frame P G s₀ (State.estPublish s k) := by
  refine h₀.step (Q := 0x40000000) (H := 0x10000000) ?_ hP hG
  unfold State.estPublish
  try dsimp only
  iterate 50 all_goals try (first
    | (simp only [Frame.mk_iff]; with_reducible apply FrameC.upd <;> first | with_reducible exact fun _ => rfl | exact fun h => absurd h (by decide +kernel) | with_reducible exact fun _ h => ⟨h, rfl, rfl⟩ | with_reducible exact fun _ _ _ => rfl | with_reducible exact id | with_reducible exact fun h _ => h | with_reducible exact fun _ h => h | skip)
    | with_reducible apply Frame.ite
    | with_reducible exact Frame.refl _ _ _
    | with_reducible apply frame_setEsti
    | with_reducible apply frame_estShow
    | with_reducible apply Frame.foldlT
    | with_reducible assumption
    | (show (_ : Nat) = _; decide +kernel)
    | (show Nat.testBit _ _ = true; decide +kernel)
    | intro _
    | split)

theorem frame_estBegin {P G : Nat} {s₀ s : State} (h₀ : Frame P G s₀ s) (k : Nat) (hP : 0x40000000 &&& P = 0x40000000) (hG : 0x10000000 &&& G = 0x10000000) : Frame P G s₀ (State.estBegin s k) := by
  refine h₀.step (Q := 0x40000000) (H := 0x10000000) ?_ hP hG
  unfold State.estBegin
  try dsimp only
  iterate 50 all_goals try (first
    | with_reducible apply Frame.ite
    | with_reducible exact Frame.refl _ _ _
    | with_reducible apply frame_putAt
    | with_reducible apply frame_setEsti
    | with_reducible apply frame_setEst0
    | with_reducible apply frame_estPublish
    | with_reducible apply Frame.foldlT
    | with_reducible assumption
    | (show (_ : Nat) = _; decide +kernel)
    | (show Nat.testBit _ _ = true; decide +kernel)
    | intro _
    | split)

theorem frame_estDiscard {P G : Nat} {s₀ s : State} (h₀ : Frame P G s₀ s) (k : Nat) (hP : 0xc0001040 &&& P = 0xc0001040) (hG : 0xc070000020 &&& G = 0xc070000020) : Frame P G s₀ (State.estDiscard s k) := by
  refine h₀.step (Q := 0xc0001040) (H := 0xc070000020) ?_ hP hG
  unfold State.estDiscard
  try dsimp only
  iterate 50 all_goals try (first
    | (simp only [Frame.mk_iff]; with_reducible apply FrameC.upd <;> first | with_reducible exact fun _ => rfl | exact fun h => absurd h (by decide +kernel) | with_reducible exact fun _ h => ⟨h, rfl, rfl⟩ | with_reducible exact fun _ _ _ => rfl | with_reducible exact id | with_reducible exact fun h _ => h | with_reducible exact fun _ h => h | skip)
    | with_reducible apply Frame.ite
    | with_reducible exact Frame.refl _ _ _
    | with_reducible apply frame_put
    | with_reducible apply frame_putAt
    | with_reducible apply frame_putBit
    | (with_reducible apply frame_raise_low; case hs => decide)
    | with_reducible apply frame_setEsti
    | with_reducible apply frame_setEst0
    | with_reducible apply frame_estShow
    | with_reducible apply Frame.foldlT
    | with_reducible assumption
    | (show (_ : Nat) = _; decide +kernel)
    | (show Nat.testBit _ _ = true; decide +kernel)
    | intro _
    | split)

theorem frame_bookCharge {P G : Nat} {s₀ s : State} (h₀ : Frame P G s₀ s) (k : Nat) (q : Rat) (hP : 0x40000000 &&& P = 0x40000000) (hG : 0x0 &&& G = 0x0) : Frame P G s₀ (State.bookCharge s k q) := by
  refine h₀.step (Q := 0x40000000) (H := 0x0) ?_ hP hG
  unfold State.bookCharge
  try dsimp only
  iterate 50 all_goals try (first
    | (simp only [Frame.mk_iff]; with_reducible apply FrameC.upd <;> first | with_reducible exact fun _ => rfl | exact fun h => absurd h (by decide +kernel) | with_reducible exact fun _ h => ⟨h, rfl, rfl⟩ | with_reducible exact fun _ _ _ => rfl | with_reducible exact id | with_reducible exact fun h _ => h | with_reducible exact fun _ h => h | skip)
    | with_reducible apply Frame.ite
    | with_reducible exact Frame.refl _ _ _
    | with_reducible apply frame_setEsti
    | with_reducible apply Frame.foldlT
    | with_reducible assumption
    | (show (_ : Nat) = _; decide +kernel)
    | (show Nat.testBit _ _ = true; decide +kernel)
    | intro _
    | split)

theorem frame_bookSample {P G : Nat} {s₀ s : State} (h₀ : Frame P G s₀ s) (k : Nat) (bi : Rat) (hP : 0x40000000 &&& P = 0x40000000) (hG : 0x0 &&& G = 0x0) : Frame P G s₀ (State.bookSample s k bi) := by
  refine h₀.step (Q := 0x40000000) (H := 0x0) ?_ hP hG
  unfold State.bookSample
  try dsimp only
  iterate 50 all_goals try (first
    | (simp only [Frame.mk_iff]; with_reducible apply FrameC.upd <;> first | with_reducible exact fun _ => rfl | exact fun h => absurd h (by decide +kernel) | with_reducible exact fun _ h => ⟨h, rfl, rfl⟩ | with_reducible exact fun _ _ _ => rfl | with_reducible exact id | with_reducible exact fun h _ => h | with_reducible exact fun _ h => h | skip)
    | with_reducible apply Frame.ite
    | with_reducible exact Frame.refl _ _ _
    | with_reducible apply frame_setEsti
    | with_reducible apply frame_bookCharge
    | with_reducible apply Frame.foldlT
    | with_reducible assumption
    | (show (_ : Nat) = _; decide +kernel)
    | (show Nat.testBit _ _ = true; decide +kernel)
    | intro _
    | split)

theorem frame_stepResistance {P G : Nat} {s₀ s : State} (h₀ : Frame P G s₀ s) (k : Nat) (bi bv : Rat) (hP : 0x40000000 &&& P = 0x40000000) (hG : 0x0 &&& G = 0x0) : Frame P G s₀ (State.stepResistance s k bi bv) := by
  refine h₀.step (Q := 0x40000000) (H := 0x0) ?_ hP hG
  unfold State.stepResistance
  try dsimp only
  iterate 50 all_goals try (first
    | (simp only [Frame.mk_iff]; with_reducible apply FrameC.upd <;> first | with_reducible exact fun _ => rfl | exact fun h => absurd h (by decide +kernel) | with_reducible exact fun _ h => ⟨h, rfl, rfl⟩ | with_reducible exact fun _ _ _ => rfl | with_reducible exact id | with_reducible exact fun h _ => h | with_reducible exact fun _ h => h | skip)
    | with_reducible apply Frame.ite
    | with_reducible exact Frame.refl _ _ _
    | with_reducible apply frame_setEsti
    | with_reducible apply Frame.foldlT
    | with_reducible assumption
    | (show (_ : Nat) = _; decide +kernel)
    | (show Nat.testBit _ _ = true; decide +kernel)
    | intro _
    | split)

theorem frame_addDeficit {P G : Nat} {s₀ s : State} (h₀ : Frame P G s₀ s) (k : Nat) (q : Rat) (hP : 0x20000000 &&& P = 0x20000000) (hG : 0x8000000 &&& G = 0x8000000) : Frame P G s₀ (State.addDeficit s k q) := by
  refine h₀.step (Q := 0x20000000) (H := 0x8000000) ?_ hP hG
  unfold State.addDeficit
  try dsimp only
  iterate 50 all_goals try (first
    | (simp only [Frame.mk_iff]; with_reducible apply FrameC.upd <;> first | with_reducible exact fun _ => rfl | exact fun h => absurd h (by decide +kernel) | with_reducible exact fun _ h => ⟨h, rfl, rfl⟩ | with_reducible exact fun _ _ _ => rfl | with_reducible exact id | with_reducible exact fun h _ => h | with_reducible exact fun _ h => h | skip)
    | with_reducible apply Frame.ite
    | with_reducible exact Frame.refl _ _ _
    | with_reducible apply frame_putAtSat
    | with_reducible apply frame_setStr
    | with_reducible apply Frame.foldlT
    | with_reducible assumption
    | (show (_ : Nat) = _; decide +kernel)
    | (show Nat.testBit _ _ = true; decide +kernel)
    | intro _
    | split)

theorem frame_learning {P G : Nat} {s₀ s : State} (h₀ : Frame P G s₀ s) (k : Nat) (hP : 0x40000000 &&& P = 0x40000000) (hG : 0x0 &&& G = 0x0) : Frame P G s₀ (State.learning s k) := by
  refine h₀.step (Q := 0x40000000) (H := 0x0) ?_ hP hG
  unfold State.learning
  try dsimp only
  iterate 50 all_goals try (first
    | (simp only [Frame.mk_iff]; with_reducible apply FrameC.upd <;> first | with_reducible exact fun _ => rfl | exact fun h => absurd h (by decide +kernel) | with_reducible exact fun _ h => ⟨h, rfl, rfl⟩ | with_reducible exact fun _ _ _ => rfl | with_reducible exact id | with_reducible exact fun h _ => h | with_reducible exact fun _ h => h | skip)
    | with_reducible apply Frame.ite
    | with_reducible exact Frame.refl _ _ _
    | with_reducible apply frame_setEsti
    | with_reducible apply Frame.foldlT
    | with_reducible assumption
    | (show (_ : Nat) = _; decide +kernel)
    | (show Nat.testBit _ _ = true; decide +kernel)
    | intro _
    | split)

theorem frame_learnCapacity {P G : Nat} {s₀ s : State} (h₀ : Frame P G s₀ s) (k : Nat) (qm q : Rat) (hP : 0x40001040 &&& P = 0x40001040) (hG : 0xc010000020 &&& G = 0xc010000020) : Frame P G s₀ (State.learnCapacity s k qm q) := by
  refine h₀.step (Q := 0x40001040) (H := 0xc010000020) ?_ hP hG
  unfold State.learnCapacity
  try dsimp only
  iterate 50 all_goals try (first
    | (simp only [Frame.mk_iff]; with_reducible apply FrameC.upd <;> first | with_reducible exact fun _ => rfl | exact fun h => absurd h (by decide +kernel) | with_reducible exact fun _ h => ⟨h, rfl, rfl⟩ | with_reducible exact fun _ _ _ => rfl | with_reducible exact id | with_reducible exact fun h _ => h | with_reducible exact fun _ h => h | skip)
    | with_reducible apply Frame.ite
    | with_reducible exact Frame.refl _ _ _
    | (with_reducible apply frame_raise_low; case hs => decide)
    | with_reducible apply frame_setEsti
    | with_reducible apply frame_setEst0
    | with_reducible apply frame_learning
    | with_reducible apply Frame.foldlT
    | with_reducible assumption
    | (show (_ : Nat) = _; decide +kernel)
    | (show Nat.testBit _ _ = true; decide +kernel)
    | intro _
    | split)

theorem frame_inconsistent {P G : Nat} {s₀ s : State} (h₀ : Frame P G s₀ s) (k why : Nat) (hP : 0x1040 &&& P = 0x1040) (hG : 0xc010000020 &&& G = 0xc010000020) : Frame P G s₀ (State.inconsistent s k why) := by
  refine h₀.step (Q := 0x1040) (H := 0xc010000020) ?_ hP hG
  unfold State.inconsistent
  try dsimp only
  iterate 50 all_goals try (first
    | with_reducible apply Frame.ite
    | with_reducible exact Frame.refl _ _ _
    | with_reducible apply frame_flag
    | (with_reducible apply frame_raise_low; case hs => decide)
    | with_reducible apply Frame.foldlT
    | with_reducible assumption
    | (show (_ : Nat) = _; decide +kernel)
    | (show Nat.testBit _ _ = true; decide +kernel)
    | intro _
    | split)

theorem frame_reference {P G : Nat} {s₀ s : State} (h₀ : Frame P G s₀ s) (k : Nat) (sb ub : Rat) (hP : 0x40001040 &&& P = 0x40001040) (hG : 0xc010000020 &&& G = 0xc010000020) : Frame P G s₀ (State.reference s k sb ub) := by
  refine h₀.step (Q := 0x40001040) (H := 0xc010000020) ?_ hP hG
  unfold State.reference
  try dsimp only
  iterate 50 all_goals try (first
    | (simp only [Frame.mk_iff]; with_reducible apply FrameC.upd <;> first | with_reducible exact fun _ => rfl | exact fun h => absurd h (by decide +kernel) | with_reducible exact fun _ h => ⟨h, rfl, rfl⟩ | with_reducible exact fun _ _ _ => rfl | with_reducible exact id | with_reducible exact fun h _ => h | with_reducible exact fun _ h => h | skip)
    | with_reducible apply Frame.ite
    | with_reducible exact Frame.refl _ _ _
    | with_reducible apply frame_setEsti
    | with_reducible apply frame_learnCapacity
    | with_reducible apply frame_inconsistent
    | with_reducible apply Frame.foldlT
    | with_reducible assumption
    | (show (_ : Nat) = _; decide +kernel)
    | (show Nat.testBit _ _ = true; decide +kernel)
    | intro _
    | split)

theorem frame_anchorRun {P G : Nat} {s₀ s : State} (h₀ : Frame P G s₀ s) (k : Nat) (hP : 0x40001040 &&& P = 0x40001040) (hG : 0xc010000020 &&& G = 0xc010000020) : Frame P G s₀ (State.anchorRun s k) := by
  refine h₀.step (Q := 0x40001040) (H := 0xc010000020) ?_ hP hG
  unfold State.anchorRun
  try dsimp only
  iterate 50 all_goals try (first
    | (simp only [Frame.mk_iff]; with_reducible apply FrameC.upd <;> first | with_reducible exact fun _ => rfl | exact fun h => absurd h (by decide +kernel) | with_reducible exact fun _ h => ⟨h, rfl, rfl⟩ | with_reducible exact fun _ _ _ => rfl | with_reducible exact id | with_reducible exact fun h _ => h | with_reducible exact fun _ h => h | skip)
    | with_reducible apply Frame.ite
    | with_reducible exact Frame.refl _ _ _
    | with_reducible apply frame_setEsti
    | with_reducible apply frame_learning
    | with_reducible apply frame_reference
    | with_reducible apply Frame.foldlT
    | with_reducible assumption
    | (show (_ : Nat) = _; decide +kernel)
    | (show Nat.testBit _ _ = true; decide +kernel)
    | intro _
    | split)

theorem frame_lowRefRun {P G : Nat} {s₀ s : State} (h₀ : Frame P G s₀ s) (k : Nat) (hP : 0x40001040 &&& P = 0x40001040) (hG : 0xc010000020 &&& G = 0xc010000020) : Frame P G s₀ (State.lowRefRun s k) := by
  refine h₀.step (Q := 0x40001040) (H := 0xc010000020) ?_ hP hG
  unfold State.lowRefRun
  try dsimp only
  iterate 50 all_goals try (first
    | (simp only [Frame.mk_iff]; with_reducible apply FrameC.upd <;> first | with_reducible exact fun _ => rfl | exact fun h => absurd h (by decide +kernel) | with_reducible exact fun _ h => ⟨h, rfl, rfl⟩ | with_reducible exact fun _ _ _ => rfl | with_reducible exact id | with_reducible exact fun h _ => h | with_reducible exact fun _ h => h | skip)
    | with_reducible apply Frame.ite
    | with_reducible exact Frame.refl _ _ _
    | with_reducible apply frame_setEsti
    | with_reducible apply frame_reference
    | with_reducible apply Frame.foldlT
    | with_reducible assumption
    | (show (_ : Nat) = _; decide +kernel)
    | (show Nat.testBit _ _ = true; decide +kernel)
    | intro _
    | split)

theorem frame_paramLimit {P G : Nat} {s₀ s : State} (h₀ : Frame P G s₀ s) (k j : Nat) (lim : Bool) (hP : 0x40001040 &&& P = 0x40001040) (hG : 0xc010000020 &&& G = 0xc010000020) : Frame P G s₀ (State.paramLimit s k j lim) := by
  refine h₀.step (Q := 0x40001040) (H := 0xc010000020) ?_ hP hG
  unfold State.paramLimit
  try dsimp only
  iterate 50 all_goals try (first
    | (simp only [Frame.mk_iff]; with_reducible apply FrameC.upd <;> first | with_reducible exact fun _ => rfl | exact fun h => absurd h (by decide +kernel) | with_reducible exact fun _ h => ⟨h, rfl, rfl⟩ | with_reducible exact fun _ _ _ => rfl | with_reducible exact id | with_reducible exact fun h _ => h | with_reducible exact fun _ h => h | skip)
    | with_reducible apply Frame.ite
    | with_reducible exact Frame.refl _ _ _
    | with_reducible apply frame_flag
    | (with_reducible apply frame_raise_low; case hs => decide)
    | with_reducible apply frame_setEsti
    | with_reducible apply Frame.foldlT
    | with_reducible assumption
    | (show (_ : Nat) = _; decide +kernel)
    | (show Nat.testBit _ _ = true; decide +kernel)
    | intro _
    | split)

theorem frame_modelRun {P G : Nat} {s₀ s : State} (h₀ : Frame P G s₀ s) (k : Nat) (dt : Rat) (hP : 0x40001044 &&& P = 0x40001044) (hG : 0xc010000020 &&& G = 0xc010000020) : Frame P G s₀ (State.modelRun s k dt) := by
  refine h₀.step (Q := 0x40001044) (H := 0xc010000020) ?_ hP hG
  unfold State.modelRun
  try dsimp only
  iterate 50 all_goals try (first
    | (simp only [Frame.mk_iff]; with_reducible apply FrameC.upd <;> first | with_reducible exact fun _ => rfl | exact fun h => absurd h (by decide +kernel) | with_reducible exact fun _ h => ⟨h, rfl, rfl⟩ | with_reducible exact fun _ _ _ => rfl | with_reducible exact id | with_reducible exact fun h _ => h | with_reducible exact fun _ h => h | skip)
    | with_reducible apply Frame.ite
    | with_reducible exact Frame.refl _ _ _
    | (refine frame_takeFree_of ‹_› ?_ ?_ ?_)
    | with_reducible apply frame_takeFree
    | with_reducible apply frame_setEsti
    | with_reducible apply frame_paramLimit
    | with_reducible apply Frame.foldlT
    | with_reducible assumption
    | (show (_ : Nat) = _; decide +kernel)
    | (show Nat.testBit _ _ = true; decide +kernel)
    | intro _
    | split)

theorem frame_exportCapsule {P G : Nat} {s₀ s : State} (h₀ : Frame P G s₀ s) (k : Nat) (hP : 0x40001040 &&& P = 0x40001040) (hG : 0xc030000020 &&& G = 0xc030000020) : Frame P G s₀ (State.exportCapsule s k) := by
  refine h₀.step (Q := 0x40001040) (H := 0xc030000020) ?_ hP hG
  unfold State.exportCapsule
  try dsimp only
  iterate 50 all_goals try (first
    | (simp only [Frame.mk_iff]; with_reducible apply FrameC.upd <;> first | with_reducible exact fun _ => rfl | exact fun h => absurd h (by decide +kernel) | with_reducible exact fun _ h => ⟨h, rfl, rfl⟩ | with_reducible exact fun _ _ _ => rfl | with_reducible exact id | with_reducible exact fun h _ => h | with_reducible exact fun _ h => h | skip)
    | with_reducible apply Frame.ite
    | with_reducible exact Frame.refl _ _ _
    | with_reducible apply frame_putAt
    | with_reducible apply frame_putBit
    | with_reducible apply frame_bump
    | (with_reducible apply frame_raise_low; case hs => decide)
    | with_reducible apply frame_setEsti
    | with_reducible apply Frame.foldlT
    | with_reducible assumption
    | (show (_ : Nat) = _; decide +kernel)
    | (show Nat.testBit _ _ = true; decide +kernel)
    | intro _
    | split)

theorem frame_stagingReset {P G : Nat} {s₀ s : State} (h₀ : Frame P G s₀ s) (why : Nat) (hP : 0x80001040 &&& P = 0x80001040) (hG : 0xc050000020 &&& G = 0xc050000020) : Frame P G s₀ (State.stagingReset s why) := by
  refine h₀.step (Q := 0x80001040) (H := 0xc050000020) ?_ hP hG
  unfold State.stagingReset
  try dsimp only
  iterate 50 all_goals try (first
    | (simp only [Frame.mk_iff]; with_reducible apply FrameC.upd <;> first | with_reducible exact fun _ => rfl | exact fun h => absurd h (by decide +kernel) | with_reducible exact fun _ h => ⟨h, rfl, rfl⟩ | with_reducible exact fun _ _ _ => rfl | with_reducible exact id | with_reducible exact fun h _ => h | with_reducible exact fun _ h => h | skip)
    | with_reducible apply Frame.ite
    | with_reducible exact Frame.refl _ _ _
    | with_reducible apply frame_put
    | with_reducible apply frame_flag
    | (with_reducible apply frame_raise_low; case hs => decide)
    | with_reducible apply Frame.foldlT
    | with_reducible assumption
    | (show (_ : Nat) = _; decide +kernel)
    | (show Nat.testBit _ _ = true; decide +kernel)
    | intro _
    | split)

theorem frame_applyCapsule {P G : Nat} {s₀ s : State} (h₀ : Frame P G s₀ s) (k : Nat) (c : List Nat) (hP : 0xe0201040 &&& P = 0xe0201040) (hG : 0xc078000020 &&& G = 0xc078000020) : Frame P G s₀ (State.applyCapsule s k c) := by
  refine h₀.step (Q := 0xe0201040) (H := 0xc078000020) ?_ hP hG
  unfold State.applyCapsule
  try dsimp only
  iterate 50 all_goals try (first
    | (simp only [Frame.mk_iff]; with_reducible apply FrameC.upd <;> first | with_reducible exact fun _ => rfl | exact fun h => absurd h (by decide +kernel) | with_reducible exact fun _ h => ⟨h, rfl, rfl⟩ | with_reducible exact fun _ _ _ => rfl | with_reducible exact id | with_reducible exact fun h _ => h | with_reducible exact fun _ h => h | skip)
    | with_reducible apply Frame.ite
    | with_reducible exact Frame.refl _ _ _
    | with_reducible apply frame_put
    | with_reducible apply frame_putAt
    | with_reducible apply frame_flag
    | with_reducible apply frame_putBit
    | (with_reducible apply frame_raise_low; case hs => decide)
    | with_reducible apply frame_sendCapsule
    | with_reducible apply frame_setStr
    | with_reducible apply frame_setEsti
    | with_reducible apply frame_setEst0
    | with_reducible apply frame_addDeficit
    | with_reducible apply frame_stagingReset
    | with_reducible apply Frame.foldlT
    | with_reducible assumption
    | (show (_ : Nat) = _; decide +kernel)
    | (show Nat.testBit _ _ = true; decide +kernel)
    | intro _
    | split)

theorem frame_capsuleRun {P G : Nat} {s₀ s : State} (h₀ : Frame P G s₀ s) (k : Nat) (hP : 0xe0201040 &&& P = 0xe0201040) (hG : 0xc078000020 &&& G = 0xc078000020) : Frame P G s₀ (State.capsuleRun s k) := by
  refine h₀.step (Q := 0xe0201040) (H := 0xc078000020) ?_ hP hG
  unfold State.capsuleRun
  try dsimp only
  iterate 50 all_goals try (first
    | with_reducible apply Frame.ite
    | with_reducible exact Frame.refl _ _ _
    | with_reducible apply frame_applyCapsule
    | with_reducible apply Frame.foldlT
    | with_reducible assumption
    | (show (_ : Nat) = _; decide +kernel)
    | (show Nat.testBit _ _ = true; decide +kernel)
    | intro _
    | split)

theorem frame_estRunOne {P G : Nat} {s₀ s : State} (h₀ : Frame P G s₀ s) (k : Nat) (hP : 0xe0201044 &&& P = 0xe0201044) (hG : 0xc078000020 &&& G = 0xc078000020) : Frame P G s₀ (State.estRunOne s k) := by
  refine h₀.step (Q := 0xe0201044) (H := 0xc078000020) ?_ hP hG
  unfold State.estRunOne
  try dsimp only
  iterate 50 all_goals try (first
    | (simp only [Frame.mk_iff]; with_reducible apply FrameC.upd <;> first | with_reducible exact fun _ => rfl | exact fun h => absurd h (by decide +kernel) | with_reducible exact fun _ h => ⟨h, rfl, rfl⟩ | with_reducible exact fun _ _ _ => rfl | with_reducible exact id | with_reducible exact fun h _ => h | with_reducible exact fun _ h => h | skip)
    | with_reducible apply Frame.ite
    | with_reducible exact Frame.refl _ _ _
    | with_reducible apply frame_setEsti
    | with_reducible apply frame_estPublish
    | with_reducible apply frame_addDeficit
    | with_reducible apply frame_anchorRun
    | with_reducible apply frame_lowRefRun
    | with_reducible apply frame_modelRun
    | with_reducible apply frame_exportCapsule
    | with_reducible apply frame_capsuleRun
    | with_reducible apply Frame.foldlT
    | with_reducible assumption
    | (show (_ : Nat) = _; decide +kernel)
    | (show Nat.testBit _ _ = true; decide +kernel)
    | intro _
    | split)

theorem frame_estimatorRun {P G : Nat} {s₀ s : State} (h₀ : Frame P G s₀ s)  (hP : 0xe0201044 &&& P = 0xe0201044) (hG : 0xc078000020 &&& G = 0xc078000020) : Frame P G s₀ (State.estimatorRun s) := by
  refine h₀.step (Q := 0xe0201044) (H := 0xc078000020) ?_ hP hG
  unfold State.estimatorRun
  try dsimp only
  iterate 50 all_goals try (first
    | with_reducible apply Frame.ite
    | with_reducible exact Frame.refl _ _ _
    | with_reducible apply frame_estRunOne
    | with_reducible apply Frame.foldlT
    | with_reducible assumption
    | (show (_ : Nat) = _; decide +kernel)
    | (show Nat.testBit _ _ = true; decide +kernel)
    | intro _
    | split)

theorem frame_restCorrect {P G : Nat} {s₀ s : State} (h₀ : Frame P G s₀ s) (k : Nat) (hP : 0x40001040 &&& P = 0x40001040) (hG : 0xc010000020 &&& G = 0xc010000020) : Frame P G s₀ (State.restCorrect s k) := by
  refine h₀.step (Q := 0x40001040) (H := 0xc010000020) ?_ hP hG
  unfold State.restCorrect
  try dsimp only
  iterate 50 all_goals try (first
    | (simp only [Frame.mk_iff]; with_reducible apply FrameC.upd <;> first | with_reducible exact fun _ => rfl | exact fun h => absurd h (by decide +kernel) | with_reducible exact fun _ h => ⟨h, rfl, rfl⟩ | with_reducible exact fun _ _ _ => rfl | with_reducible exact id | with_reducible exact fun h _ => h | with_reducible exact fun _ h => h | skip)
    | with_reducible apply Frame.ite
    | with_reducible exact Frame.refl _ _ _
    | with_reducible apply frame_setEsti
    | with_reducible apply frame_estPublish
    | with_reducible apply frame_learning
    | with_reducible apply frame_inconsistent
    | with_reducible apply frame_reference
    | with_reducible apply Frame.foldlT
    | with_reducible assumption
    | (show (_ : Nat) = _; decide +kernel)
    | (show Nat.testBit _ _ = true; decide +kernel)
    | intro _
    | split)

theorem frame_estWake {P G : Nat} {s₀ s : State} (h₀ : Frame P G s₀ s)  (hP : 0xe0201044 &&& P = 0xe0201044) (hG : 0xc078000020 &&& G = 0xc078000020) : Frame P G s₀ (State.estWake s) := by
  refine h₀.step (Q := 0xe0201044) (H := 0xc078000020) ?_ hP hG
  unfold State.estWake
  try dsimp only
  iterate 50 all_goals try (first
    | (simp only [Frame.mk_iff]; with_reducible apply FrameC.upd <;> first | with_reducible exact fun _ => rfl | exact fun h => absurd h (by decide +kernel) | with_reducible exact fun _ h => ⟨h, rfl, rfl⟩ | with_reducible exact fun _ _ _ => rfl | with_reducible exact id | with_reducible exact fun h _ => h | with_reducible exact fun _ h => h | skip)
    | with_reducible apply Frame.ite
    | with_reducible exact Frame.refl _ _ _
    | with_reducible apply frame_put
    | with_reducible apply frame_estimatorRun
    | with_reducible apply Frame.foldlT
    | with_reducible assumption
    | (show (_ : Nat) = _; decide +kernel)
    | (show Nat.testBit _ _ = true; decide +kernel)
    | intro _
    | split)

theorem frame_estPage {P G : Nat} {s₀ s : State} (h₀ : Frame P G s₀ s)  (hP : 0xe0201044 &&& P = 0xe0201044) (hG : 0xc078000020 &&& G = 0xc078000020) : Frame P G s₀ (State.estPage s) := by
  refine h₀.step (Q := 0xe0201044) (H := 0xc078000020) ?_ hP hG
  unfold State.estPage
  try dsimp only
  iterate 50 all_goals try (first
    | (simp only [Frame.mk_iff]; with_reducible apply FrameC.upd <;> first | with_reducible exact fun _ => rfl | exact fun h => absurd h (by decide +kernel) | with_reducible exact fun _ h => ⟨h, rfl, rfl⟩ | with_reducible exact fun _ _ _ => rfl | with_reducible exact id | with_reducible exact fun h _ => h | with_reducible exact fun _ h => h | skip)
    | with_reducible apply Frame.ite
    | with_reducible exact Frame.refl _ _ _
    | with_reducible apply frame_estWake
    | with_reducible apply Frame.foldlT
    | with_reducible assumption
    | (show (_ : Nat) = _; decide +kernel)
    | (show Nat.testBit _ _ = true; decide +kernel)
    | intro _
    | split)

theorem frame_ridxWrite {P G : Nat} {s₀ s : State} (h₀ : Frame P G s₀ s) (v : Nat) (hP : 0x80001040 &&& P = 0x80001040) (hG : 0xc050000020 &&& G = 0xc050000020) : Frame P G s₀ (State.ridxWrite s v) := by
  refine h₀.step (Q := 0x80001040) (H := 0xc050000020) ?_ hP hG
  unfold State.ridxWrite
  try dsimp only
  iterate 50 all_goals try (first
    | with_reducible apply Frame.ite
    | with_reducible exact Frame.refl _ _ _
    | with_reducible apply frame_put
    | with_reducible apply frame_stagingReset
    | with_reducible apply Frame.foldlT
    | with_reducible assumption
    | (show (_ : Nat) = _; decide +kernel)
    | (show Nat.testBit _ _ = true; decide +kernel)
    | intro _
    | split)

theorem frame_stageByte {P G : Nat} {s₀ s : State} (h₀ : Frame P G s₀ s) (off v : Nat) (hP : 0x80000000 &&& P = 0x80000000) (hG : 0x40000000 &&& G = 0x40000000) : Frame P G s₀ (State.stageByte s off v) := by
  refine h₀.step (Q := 0x80000000) (H := 0x40000000) ?_ hP hG
  unfold State.stageByte
  try dsimp only
  iterate 50 all_goals try (first
    | (simp only [Frame.mk_iff]; with_reducible apply FrameC.upd <;> first | with_reducible exact fun _ => rfl | exact fun h => absurd h (by decide +kernel) | with_reducible exact fun _ h => ⟨h, rfl, rfl⟩ | with_reducible exact fun _ _ _ => rfl | with_reducible exact id | with_reducible exact fun h _ => h | with_reducible exact fun _ h => h | skip)
    | with_reducible apply Frame.ite
    | with_reducible exact Frame.refl _ _ _
    | with_reducible apply frame_put
    | with_reducible apply Frame.foldlT
    | with_reducible assumption
    | (show (_ : Nat) = _; decide +kernel)
    | (show Nat.testBit _ _ = true; decide +kernel)
    | intro _
    | split)

theorem frame_restoreRefused {P G : Nat} {s₀ s : State} (h₀ : Frame P G s₀ s) (fs : List Nat) (hP : 0x1044 &&& P = 0x1044) (hG : 0xc050000020 &&& G = 0xc050000020) : Frame P G s₀ (State.restoreRefused s fs) := by
  refine h₀.step (Q := 0x1044) (H := 0xc050000020) ?_ hP hG
  unfold State.restoreRefused
  try dsimp only
  iterate 50 all_goals try (first
    | with_reducible apply Frame.ite
    | with_reducible exact Frame.refl _ _ _
    | with_reducible apply frame_put
    | with_reducible apply frame_flag
    | (refine frame_takeFree_of ‹_› ?_ ?_ ?_)
    | with_reducible apply frame_takeFree
    | (with_reducible apply frame_raise_low; case hs => decide)
    | with_reducible apply Frame.foldlT
    | with_reducible assumption
    | (show (_ : Nat) = _; decide +kernel)
    | (show Nat.testBit _ _ = true; decide +kernel)
    | intro _
    | split)

theorem frame_capsuleCommit {P G : Nat} {s₀ s : State} (h₀ : Frame P G s₀ s) (last : Bool) (hP : 0x40001044 &&& P = 0x40001044) (hG : 0xc050000020 &&& G = 0xc050000020) : Frame P G s₀ (State.capsuleCommit s last) := by
  refine h₀.step (Q := 0x40001044) (H := 0xc050000020) ?_ hP hG
  unfold State.capsuleCommit
  try dsimp only
  iterate 50 all_goals try (first
    | (simp only [Frame.mk_iff]; with_reducible apply FrameC.upd <;> first | with_reducible exact fun _ => rfl | exact fun h => absurd h (by decide +kernel) | with_reducible exact fun _ h => ⟨h, rfl, rfl⟩ | with_reducible exact fun _ _ _ => rfl | with_reducible exact id | with_reducible exact fun h _ => h | with_reducible exact fun _ h => h | skip)
    | with_reducible apply Frame.ite
    | with_reducible exact Frame.refl _ _ _
    | with_reducible apply frame_put
    | with_reducible apply frame_setEsti
    | with_reducible apply frame_restoreRefused
    | with_reducible apply Frame.foldlT
    | with_reducible assumption
    | (show (_ : Nat) = _; decide +kernel)
    | (show Nat.testBit _ _ = true; decide +kernel)
    | intro _
    | split)

theorem frame_estFirst {P G : Nat} {s₀ s : State} (h₀ : Frame P G s₀ s)  (hP : 0xc0000000 &&& P = 0xc0000000) (hG : 0x10000000 &&& G = 0x10000000) : Frame P G s₀ (State.estFirst s) := by
  refine h₀.step (Q := 0xc0000000) (H := 0x10000000) ?_ hP hG
  unfold State.estFirst
  try dsimp only
  iterate 50 all_goals try (first
    | (simp only [Frame.mk_iff]; with_reducible apply FrameC.upd <;> first | with_reducible exact fun _ => rfl | exact fun h => absurd h (by decide +kernel) | with_reducible exact fun _ h => ⟨h, rfl, rfl⟩ | with_reducible exact fun _ _ _ => rfl | with_reducible exact id | with_reducible exact fun h _ => h | with_reducible exact fun _ h => h | skip)
    | with_reducible apply Frame.ite
    | with_reducible exact Frame.refl _ _ _
    | with_reducible apply frame_estBegin
    | with_reducible apply Frame.foldlT
    | with_reducible assumption
    | (show (_ : Nat) = _; decide +kernel)
    | (show Nat.testBit _ _ = true; decide +kernel)
    | intro _
    | split)

theorem frame_setSag {P G : Nat} {s₀ s : State} (h₀ : Frame P G s₀ s) (k : Nat) (e : Option SagEp) (hP : 0x4000000 &&& P = 0x4000000) (hG : 0x0 &&& G = 0x0) : Frame P G s₀ (State.setSag s k e) := by
  refine h₀.step (Q := 0x4000000) (H := 0x0) ?_ hP hG
  unfold State.setSag
  try dsimp only
  iterate 50 all_goals try (first
    | (simp only [Frame.mk_iff]; with_reducible apply FrameC.upd <;> first | with_reducible exact fun _ => rfl | exact fun h => absurd h (by decide +kernel) | with_reducible exact fun _ h => ⟨h, rfl, rfl⟩ | with_reducible exact fun _ _ _ => rfl | with_reducible exact id | with_reducible exact fun h _ => h | with_reducible exact fun _ h => h | skip)
    | with_reducible apply Frame.ite
    | with_reducible exact Frame.refl _ _ _
    | with_reducible apply Frame.foldlT
    | with_reducible assumption
    | (show (_ : Nat) = _; decide +kernel)
    | (show Nat.testBit _ _ = true; decide +kernel)
    | intro _
    | split)

theorem frame_sagBook {P G : Nat} {s₀ s : State} (h₀ : Frame P G s₀ s) (k : Nat) (e : SagEp) (hP : 0x1040 &&& P = 0x1040) (hG : 0xc000800020 &&& G = 0xc000800020) : Frame P G s₀ (State.sagBook s k e) := by
  refine h₀.step (Q := 0x1040) (H := 0xc000800020) ?_ hP hG
  unfold State.sagBook
  try dsimp only
  iterate 50 all_goals try (first
    | with_reducible apply Frame.ite
    | with_reducible exact Frame.refl _ _ _
    | with_reducible apply frame_putSat
    | with_reducible apply frame_putAtSat
    | with_reducible apply frame_flag
    | with_reducible apply frame_bumpAt
    | (with_reducible apply frame_raise_low; case hs => decide)
    | with_reducible apply Frame.foldlT
    | with_reducible assumption
    | (show (_ : Nat) = _; decide +kernel)
    | (show Nat.testBit _ _ = true; decide +kernel)
    | intro _
    | split)

theorem frame_sagHand {P G : Nat} {s₀ s : State} (h₀ : Frame P G s₀ s) (k : Nat) (q : Rat) (hP : 0x60000000 &&& P = 0x60000000) (hG : 0x8000000 &&& G = 0x8000000) : Frame P G s₀ (State.sagHand s k q) := by
  refine h₀.step (Q := 0x60000000) (H := 0x8000000) ?_ hP hG
  unfold State.sagHand
  try dsimp only
  iterate 50 all_goals try (first
    | (simp only [Frame.mk_iff]; with_reducible apply FrameC.upd <;> first | with_reducible exact fun _ => rfl | exact fun h => absurd h (by decide +kernel) | with_reducible exact fun _ h => ⟨h, rfl, rfl⟩ | with_reducible exact fun _ _ _ => rfl | with_reducible exact id | with_reducible exact fun h _ => h | with_reducible exact fun _ h => h | skip)
    | with_reducible apply Frame.ite
    | with_reducible exact Frame.refl _ _ _
    | with_reducible apply frame_setStr
    | with_reducible apply frame_setEsti
    | with_reducible apply frame_bookCharge
    | with_reducible apply frame_addDeficit
    | with_reducible apply Frame.foldlT
    | with_reducible assumption
    | (show (_ : Nat) = _; decide +kernel)
    | (show Nat.testBit _ _ = true; decide +kernel)
    | intro _
    | split)

theorem frame_sagClose {P G : Nat} {s₀ s : State} (h₀ : Frame P G s₀ s) (k : Nat) (hand : Bool) (hP : 0x64001040 &&& P = 0x64001040) (hG : 0xc008800020 &&& G = 0xc008800020) : Frame P G s₀ (State.sagClose s k hand) := by
  refine h₀.step (Q := 0x64001040) (H := 0xc008800020) ?_ hP hG
  unfold State.sagClose
  try dsimp only
  iterate 50 all_goals try (first
    | with_reducible apply Frame.ite
    | with_reducible exact Frame.refl _ _ _
    | with_reducible apply frame_setSag
    | with_reducible apply frame_sagBook
    | with_reducible apply frame_sagHand
    | with_reducible apply Frame.foldlT
    | with_reducible assumption
    | (show (_ : Nat) = _; decide +kernel)
    | (show Nat.testBit _ _ = true; decide +kernel)
    | intro _
    | split)

theorem frame_sagCloseAll {P G : Nat} {s₀ s : State} (h₀ : Frame P G s₀ s)  (hP : 0x64001040 &&& P = 0x64001040) (hG : 0xc008800020 &&& G = 0xc008800020) : Frame P G s₀ (State.sagCloseAll s) := by
  refine h₀.step (Q := 0x64001040) (H := 0xc008800020) ?_ hP hG
  unfold State.sagCloseAll
  try dsimp only
  iterate 50 all_goals try (first
    | with_reducible apply Frame.ite
    | with_reducible exact Frame.refl _ _ _
    | with_reducible apply frame_sagClose
    | with_reducible apply Frame.foldlT
    | with_reducible assumption
    | (show (_ : Nat) = _; decide +kernel)
    | (show Nat.testBit _ _ = true; decide +kernel)
    | intro _
    | split)

theorem frame_sagSample {P G : Nat} {s₀ s : State} (h₀ : Frame P G s₀ s) (k : Nat) (hP : 0x4000000 &&& P = 0x4000000) (hG : 0x800000 &&& G = 0x800000) : Frame P G s₀ (State.sagSample s k) := by
  refine h₀.step (Q := 0x4000000) (H := 0x800000) ?_ hP hG
  unfold State.sagSample
  try dsimp only
  iterate 50 all_goals try (first
    | (simp only [Frame.mk_iff]; with_reducible apply FrameC.upd <;> first | with_reducible exact fun _ => rfl | exact fun h => absurd h (by decide +kernel) | with_reducible exact fun _ h => ⟨h, rfl, rfl⟩ | with_reducible exact fun _ _ _ => rfl | with_reducible exact id | with_reducible exact fun h _ => h | with_reducible exact fun _ h => h | skip)
    | with_reducible apply Frame.ite
    | with_reducible exact Frame.refl _ _ _
    | with_reducible apply frame_put
    | with_reducible apply frame_setSag
    | with_reducible apply Frame.foldlT
    | with_reducible assumption
    | (show (_ : Nat) = _; decide +kernel)
    | (show Nat.testBit _ _ = true; decide +kernel)
    | intro _
    | split)

end Sys2Proof.Laws
end

