-- ==== Sys2Proof/Laws/Frame2.lean ====
section
/-! SUPPORT. Frame laws: what each operation of these files of Machine/ can touch: Samples, Strings, Setpoint, Tracker, Steps, Phase, Loop, RunEntry. -/

namespace Sys2Proof.Laws

open Sys2Proof Sys2Proof.Machine

set_option Elab.async false
set_option linter.all false

theorem frame_bayPeak {P G : Nat} {s₀ s : State} (h₀ : Frame P G s₀ s) (b : Nat) (q : Rat) (hP : 0x0 &&& P = 0x0) (hG : 0x1000000000 &&& G = 0x1000000000) : Frame P G s₀ (State.bayPeak s b q) := by
  refine h₀.step (Q := 0x0) (H := 0x1000000000) ?_ hP hG
  unfold State.bayPeak
  try dsimp only
  iterate 50 all_goals try (first
    | with_reducible apply Frame.ite
    | with_reducible exact Frame.refl _ _ _
    | with_reducible apply frame_sputAt
    | with_reducible apply Frame.foldlT
    | with_reducible assumption
    | (show (_ : Nat) = _; decide +kernel)
    | (show Nat.testBit _ _ = true; decide +kernel)
    | intro _
    | split)

theorem frame_shelfPeaks {P G : Nat} {s₀ s : State} (h₀ : Frame P G s₀ s) (rp i : Rat) (hP : 0x0 &&& P = 0x0) (hG : 0x1000000000 &&& G = 0x1000000000) : Frame P G s₀ (State.shelfPeaks s rp i) := by
  refine h₀.step (Q := 0x0) (H := 0x1000000000) ?_ hP hG
  unfold State.shelfPeaks
  try dsimp only
  iterate 50 all_goals try (first
    | with_reducible apply Frame.ite
    | with_reducible exact Frame.refl _ _ _
    | with_reducible apply frame_put
    | with_reducible apply frame_putSat
    | with_reducible apply Frame.foldlT
    | with_reducible assumption
    | (show (_ : Nat) = _; decide +kernel)
    | (show Nat.testBit _ _ = true; decide +kernel)
    | intro _
    | split)

theorem frame_shelfSample {P G : Nat} {s₀ s : State} (h₀ : Frame P G s₀ s) (rp : Rat) (hP : 0x200000000 &&& P = 0x200000000) (hG : 0x1000000000 &&& G = 0x1000000000) : Frame P G s₀ (State.shelfSample s rp) := by
  refine h₀.step (Q := 0x200000000) (H := 0x1000000000) ?_ hP hG
  unfold State.shelfSample
  try dsimp only
  iterate 50 all_goals try (first
    | (simp only [Frame.mk_iff]; with_reducible apply FrameC.upd <;> first | with_reducible exact fun _ => rfl | exact fun h => absurd h (by decide +kernel) | with_reducible exact fun _ h => ⟨h, rfl, rfl⟩ | with_reducible exact fun _ _ _ => rfl | with_reducible exact id | with_reducible exact fun h _ => h | with_reducible exact fun _ h => h | skip)
    | with_reducible apply Frame.ite
    | with_reducible exact Frame.refl _ _ _
    | with_reducible apply frame_shelfPeaks
    | with_reducible apply Frame.foldlT
    | with_reducible assumption
    | (show (_ : Nat) = _; decide +kernel)
    | (show Nat.testBit _ _ = true; decide +kernel)
    | intro _
    | split)

theorem frame_strTlm {P G : Nat} {s₀ s : State} (h₀ : Frame P G s₀ s) (k : Nat) (hP : 0x20000000 &&& P = 0x20000000) (hG : 0x1000000000 &&& G = 0x1000000000) : Frame P G s₀ (State.strTlm s k) := by
  refine h₀.step (Q := 0x20000000) (H := 0x1000000000) ?_ hP hG
  unfold State.strTlm
  try dsimp only
  iterate 50 all_goals try (first
    | (simp only [Frame.mk_iff]; with_reducible apply FrameC.upd <;> first | with_reducible exact fun _ => rfl | exact fun h => absurd h (by decide +kernel) | with_reducible exact fun _ h => ⟨h, rfl, rfl⟩ | with_reducible exact fun _ _ _ => rfl | with_reducible exact id | with_reducible exact fun h _ => h | with_reducible exact fun _ h => h | skip)
    | with_reducible apply Frame.ite
    | with_reducible exact Frame.refl _ _ _
    | with_reducible apply frame_sputAt
    | with_reducible apply frame_setStr
    | with_reducible apply Frame.foldlT
    | with_reducible assumption
    | (show (_ : Nat) = _; decide +kernel)
    | (show Nat.testBit _ _ = true; decide +kernel)
    | intro _
    | split)

theorem frame_strShow {P G : Nat} {s₀ s : State} (h₀ : Frame P G s₀ s) (k : Nat) (hP : 0x0 &&& P = 0x0) (hG : 0x8000000 &&& G = 0x8000000) : Frame P G s₀ (State.strShow s k) := by
  refine h₀.step (Q := 0x0) (H := 0x8000000) ?_ hP hG
  unfold State.strShow
  try dsimp only
  iterate 50 all_goals try (first
    | with_reducible apply Frame.ite
    | with_reducible exact Frame.refl _ _ _
    | with_reducible apply frame_putAt
    | with_reducible apply frame_putAtSat
    | with_reducible apply Frame.foldlT
    | with_reducible assumption
    | (show (_ : Nat) = _; decide +kernel)
    | (show Nat.testBit _ _ = true; decide +kernel)
    | intro _
    | split)

theorem frame_newWindow {P G : Nat} {s₀ s : State} (h₀ : Frame P G s₀ s) (k : Nat) (hP : 0x20000000 &&& P = 0x20000000) (hG : 0x0 &&& G = 0x0) : Frame P G s₀ (State.newWindow s k) := by
  refine h₀.step (Q := 0x20000000) (H := 0x0) ?_ hP hG
  unfold State.newWindow
  try dsimp only
  iterate 50 all_goals try (first
    | (simp only [Frame.mk_iff]; with_reducible apply FrameC.upd <;> first | with_reducible exact fun _ => rfl | exact fun h => absurd h (by decide +kernel) | with_reducible exact fun _ h => ⟨h, rfl, rfl⟩ | with_reducible exact fun _ _ _ => rfl | with_reducible exact id | with_reducible exact fun h _ => h | with_reducible exact fun _ h => h | skip)
    | with_reducible apply Frame.ite
    | with_reducible exact Frame.refl _ _ _
    | with_reducible apply frame_setStr
    | with_reducible apply Frame.foldlT
    | with_reducible assumption
    | (show (_ : Nat) = _; decide +kernel)
    | (show Nat.testBit _ _ = true; decide +kernel)
    | intro _
    | split)

theorem frame_stagePreset {P G : Nat} {s₀ s : State} (h₀ : Frame P G s₀ s) (k : Nat) (was : Bool) (hP : 0x20000000 &&& P = 0x20000000) (hG : 0x0 &&& G = 0x0) : Frame P G s₀ (State.stagePreset s k was) := by
  refine h₀.step (Q := 0x20000000) (H := 0x0) ?_ hP hG
  unfold State.stagePreset
  try dsimp only
  iterate 50 all_goals try (first
    | (simp only [Frame.mk_iff]; with_reducible apply FrameC.upd <;> first | with_reducible exact fun _ => rfl | exact fun h => absurd h (by decide +kernel) | with_reducible exact fun _ h => ⟨h, rfl, rfl⟩ | with_reducible exact fun _ _ _ => rfl | with_reducible exact id | with_reducible exact fun h _ => h | with_reducible exact fun _ h => h | skip)
    | with_reducible apply Frame.ite
    | with_reducible exact Frame.refl _ _ _
    | with_reducible apply frame_setStr
    | with_reducible apply Frame.foldlT
    | with_reducible assumption
    | (show (_ : Nat) = _; decide +kernel)
    | (show Nat.testBit _ _ = true; decide +kernel)
    | intro _
    | split)

theorem frame_strTo {P G : Nat} {s₀ s : State} (h₀ : Frame P G s₀ s) (k new reason : Nat) (hP : 0x20001040 &&& P = 0x20001040) (hG : 0xc008000020 &&& G = 0xc008000020) : Frame P G s₀ (State.strTo s k new reason) := by
  refine h₀.step (Q := 0x20001040) (H := 0xc008000020) ?_ hP hG
  unfold State.strTo
  try dsimp only
  iterate 50 all_goals try (first
    | (simp only [Frame.mk_iff]; with_reducible apply FrameC.upd <;> first | with_reducible exact fun _ => rfl | exact fun h => absurd h (by decide +kernel) | with_reducible exact fun _ h => ⟨h, rfl, rfl⟩ | with_reducible exact fun _ _ _ => rfl | with_reducible exact id | with_reducible exact fun h _ => h | with_reducible exact fun _ h => h | skip)
    | with_reducible apply Frame.ite
    | with_reducible exact Frame.refl _ _ _
    | with_reducible apply frame_putAt
    | with_reducible apply frame_flag
    | with_reducible apply frame_putBit
    | (with_reducible apply frame_raise_low; case hs => decide)
    | with_reducible apply frame_setStr
    | with_reducible apply frame_strShow
    | with_reducible apply frame_newWindow
    | with_reducible apply frame_stagePreset
    | with_reducible apply Frame.foldlT
    | with_reducible assumption
    | (show (_ : Nat) = _; decide +kernel)
    | (show Nat.testBit _ _ = true; decide +kernel)
    | intro _
    | split)

theorem frame_strResume {P G : Nat} {s₀ s : State} (h₀ : Frame P G s₀ s) (k ph : Nat) (hP : 0x20001040 &&& P = 0x20001040) (hG : 0xc008000020 &&& G = 0xc008000020) : Frame P G s₀ (State.strResume s k ph) := by
  refine h₀.step (Q := 0x20001040) (H := 0xc008000020) ?_ hP hG
  unfold State.strResume
  try dsimp only
  iterate 50 all_goals try (first
    | (simp only [Frame.mk_iff]; with_reducible apply FrameC.upd <;> first | with_reducible exact fun _ => rfl | exact fun h => absurd h (by decide +kernel) | with_reducible exact fun _ h => ⟨h, rfl, rfl⟩ | with_reducible exact fun _ _ _ => rfl | with_reducible exact id | with_reducible exact fun h _ => h | with_reducible exact fun _ h => h | skip)
    | with_reducible apply Frame.ite
    | with_reducible exact Frame.refl _ _ _
    | with_reducible apply frame_setStr
    | with_reducible apply frame_strShow
    | with_reducible apply frame_strTo
    | with_reducible apply Frame.foldlT
    | with_reducible assumption
    | (show (_ : Nat) = _; decide +kernel)
    | (show Nat.testBit _ _ = true; decide +kernel)
    | intro _
    | split)

theorem frame_chargeStop {P G : Nat} {s₀ s : State} (h₀ : Frame P G s₀ s) (k : Nat) (hP : 0x20001040 &&& P = 0x20001040) (hG : 0xc008000020 &&& G = 0xc008000020) : Frame P G s₀ (State.chargeStop s k) := by
  refine h₀.step (Q := 0x20001040) (H := 0xc008000020) ?_ hP hG
  unfold State.chargeStop
  try dsimp only
  iterate 50 all_goals try (first
    | (simp only [Frame.mk_iff]; with_reducible apply FrameC.upd <;> first | with_reducible exact fun _ => rfl | exact fun h => absurd h (by decide +kernel) | with_reducible exact fun _ h => ⟨h, rfl, rfl⟩ | with_reducible exact fun _ _ _ => rfl | with_reducible exact id | with_reducible exact fun h _ => h | with_reducible exact fun _ h => h | skip)
    | with_reducible apply Frame.ite
    | with_reducible exact Frame.refl _ _ _
    | with_reducible apply frame_putAt
    | with_reducible apply frame_setStr
    | with_reducible apply frame_strTo
    | with_reducible apply Frame.foldlT
    | with_reducible assumption
    | (show (_ : Nat) = _; decide +kernel)
    | (show Nat.testBit _ _ = true; decide +kernel)
    | intro _
    | split)

theorem frame_chargeStops {P G : Nat} {s₀ s : State} (h₀ : Frame P G s₀ s)  (hP : 0x20001040 &&& P = 0x20001040) (hG : 0xc008000020 &&& G = 0xc008000020) : Frame P G s₀ (State.chargeStops s) := by
  refine h₀.step (Q := 0x20001040) (H := 0xc008000020) ?_ hP hG
  unfold State.chargeStops
  try dsimp only
  iterate 50 all_goals try (first
    | with_reducible apply Frame.ite
    | with_reducible exact Frame.refl _ _ _
    | with_reducible apply frame_chargeStop
    | with_reducible apply Frame.foldlT
    | with_reducible assumption
    | (show (_ : Nat) = _; decide +kernel)
    | (show Nat.testBit _ _ = true; decide +kernel)
    | intro _
    | split)

theorem frame_startSelect {P G : Nat} {s₀ s : State} (h₀ : Frame P G s₀ s) (k reason : Nat) (hP : 0x20001040 &&& P = 0x20001040) (hG : 0xc008000020 &&& G = 0xc008000020) : Frame P G s₀ (State.startSelect s k reason) := by
  refine h₀.step (Q := 0x20001040) (H := 0xc008000020) ?_ hP hG
  unfold State.startSelect
  try dsimp only
  iterate 50 all_goals try (first
    | with_reducible apply Frame.ite
    | with_reducible exact Frame.refl _ _ _
    | with_reducible apply frame_strTo
    | with_reducible apply Frame.foldlT
    | with_reducible assumption
    | (show (_ : Nat) = _; decide +kernel)
    | (show Nat.testBit _ _ = true; decide +kernel)
    | intro _
    | split)

theorem frame_tryStart {P G : Nat} {s₀ s : State} (h₀ : Frame P G s₀ s) (k : Nat) (hP : 0x20001040 &&& P = 0x20001040) (hG : 0xc008000020 &&& G = 0xc008000020) : Frame P G s₀ (State.tryStart s k) := by
  refine h₀.step (Q := 0x20001040) (H := 0xc008000020) ?_ hP hG
  unfold State.tryStart
  try dsimp only
  iterate 50 all_goals try (first
    | with_reducible apply Frame.ite
    | with_reducible exact Frame.refl _ _ _
    | with_reducible apply frame_startSelect
    | with_reducible apply Frame.foldlT
    | with_reducible assumption
    | (show (_ : Nat) = _; decide +kernel)
    | (show Nat.testBit _ _ = true; decide +kernel)
    | intro _
    | split)

theorem frame_eligIn {P G : Nat} {s₀ s : State} (h₀ : Frame P G s₀ s) (k sec : Nat) (hP : 0x20000000 &&& P = 0x20000000) (hG : 0x0 &&& G = 0x0) : Frame P G s₀ (State.eligIn s k sec) := by
  refine h₀.step (Q := 0x20000000) (H := 0x0) ?_ hP hG
  unfold State.eligIn
  try dsimp only
  iterate 50 all_goals try (first
    | (simp only [Frame.mk_iff]; with_reducible apply FrameC.upd <;> first | with_reducible exact fun _ => rfl | exact fun h => absurd h (by decide +kernel) | with_reducible exact fun _ h => ⟨h, rfl, rfl⟩ | with_reducible exact fun _ _ _ => rfl | with_reducible exact id | with_reducible exact fun h _ => h | with_reducible exact fun _ h => h | skip)
    | with_reducible apply Frame.ite
    | with_reducible exact Frame.refl _ _ _
    | with_reducible apply frame_setStr
    | with_reducible apply Frame.foldlT
    | with_reducible assumption
    | (show (_ : Nat) = _; decide +kernel)
    | (show Nat.testBit _ _ = true; decide +kernel)
    | intro _
    | split)

theorem frame_eligRun {P G : Nat} {s₀ s : State} (h₀ : Frame P G s₀ s) (fromHoldup : Bool) (hP : 0x20000000 &&& P = 0x20000000) (hG : 0x0 &&& G = 0x0) : Frame P G s₀ (State.eligRun s fromHoldup) := by
  refine h₀.step (Q := 0x20000000) (H := 0x0) ?_ hP hG
  unfold State.eligRun
  try dsimp only
  iterate 50 all_goals try (first
    | with_reducible apply Frame.ite
    | with_reducible exact Frame.refl _ _ _
    | with_reducible apply frame_eligIn
    | with_reducible apply Frame.foldlT
    | with_reducible assumption
    | (show (_ : Nat) = _; decide +kernel)
    | (show Nat.testBit _ _ = true; decide +kernel)
    | intro _
    | split)

theorem frame_terminated {P G : Nat} {s₀ s : State} (h₀ : Frame P G s₀ s) (k reason : Nat) (hP : 0x1040 &&& P = 0x1040) (hG : 0xc008000020 &&& G = 0xc008000020) : Frame P G s₀ (State.terminated s k reason) := by
  refine h₀.step (Q := 0x1040) (H := 0xc008000020) ?_ hP hG
  unfold State.terminated
  try dsimp only
  iterate 50 all_goals try (first
    | with_reducible apply Frame.ite
    | with_reducible exact Frame.refl _ _ _
    | with_reducible apply frame_flag
    | (with_reducible apply frame_raise_low; case hs => decide)
    | with_reducible apply Frame.foldlT
    | with_reducible assumption
    | (show (_ : Nat) = _; decide +kernel)
    | (show Nat.testBit _ _ = true; decide +kernel)
    | intro _
    | split)

theorem frame_chargeLimit {P G : Nat} {s₀ s : State} (h₀ : Frame P G s₀ s) (k reason : Nat) (hP : 0x1040 &&& P = 0x1040) (hG : 0xc000000020 &&& G = 0xc000000020) : Frame P G s₀ (State.chargeLimit s k reason) := by
  refine h₀.step (Q := 0x1040) (H := 0xc000000020) ?_ hP hG
  unfold State.chargeLimit
  try dsimp only
  iterate 50 all_goals try (first
    | with_reducible apply Frame.ite
    | with_reducible exact Frame.refl _ _ _
    | (with_reducible apply frame_raise_low; case hs => decide)
    | with_reducible apply Frame.foldlT
    | with_reducible assumption
    | (show (_ : Nat) = _; decide +kernel)
    | (show Nat.testBit _ _ = true; decide +kernel)
    | intro _
    | split)

theorem frame_toTerminate {P G : Nat} {s₀ s : State} (h₀ : Frame P G s₀ s) (k reason : Nat) (normal : Bool) (hP : 0x20001040 &&& P = 0x20001040) (hG : 0xc008000020 &&& G = 0xc008000020) : Frame P G s₀ (State.toTerminate s k reason normal) := by
  refine h₀.step (Q := 0x20001040) (H := 0xc008000020) ?_ hP hG
  unfold State.toTerminate
  try dsimp only
  iterate 50 all_goals try (first
    | (simp only [Frame.mk_iff]; with_reducible apply FrameC.upd <;> first | with_reducible exact fun _ => rfl | exact fun h => absurd h (by decide +kernel) | with_reducible exact fun _ h => ⟨h, rfl, rfl⟩ | with_reducible exact fun _ _ _ => rfl | with_reducible exact id | with_reducible exact fun h _ => h | with_reducible exact fun _ h => h | skip)
    | with_reducible apply Frame.ite
    | with_reducible exact Frame.refl _ _ _
    | with_reducible apply frame_putAt
    | with_reducible apply frame_setStr
    | with_reducible apply frame_strTo
    | with_reducible apply frame_terminated
    | with_reducible apply Frame.foldlT
    | with_reducible assumption
    | (show (_ : Nat) = _; decide +kernel)
    | (show Nat.testBit _ _ = true; decide +kernel)
    | intro _
    | split)

theorem frame_anchorGiven {P G : Nat} {s₀ s : State} (h₀ : Frame P G s₀ s) (k : Nat) (hP : 0x40000000 &&& P = 0x40000000) (hG : 0x0 &&& G = 0x0) : Frame P G s₀ (State.anchorGiven s k) := by
  refine h₀.step (Q := 0x40000000) (H := 0x0) ?_ hP hG
  unfold State.anchorGiven
  try dsimp only
  iterate 50 all_goals try (first
    | (simp only [Frame.mk_iff]; with_reducible apply FrameC.upd <;> first | with_reducible exact fun _ => rfl | exact fun h => absurd h (by decide +kernel) | with_reducible exact fun _ h => ⟨h, rfl, rfl⟩ | with_reducible exact fun _ _ _ => rfl | with_reducible exact id | with_reducible exact fun h _ => h | with_reducible exact fun _ h => h | skip)
    | with_reducible apply Frame.ite
    | with_reducible exact Frame.refl _ _ _
    | with_reducible apply frame_setEsti
    | with_reducible apply Frame.foldlT
    | with_reducible assumption
    | (show (_ : Nat) = _; decide +kernel)
    | (show Nat.testBit _ _ = true; decide +kernel)
    | intro _
    | split)

theorem frame_toTopoff {P G : Nat} {s₀ s : State} (h₀ : Frame P G s₀ s) (k reason dur : Nat) (hP : 0x20001040 &&& P = 0x20001040) (hG : 0xc008000020 &&& G = 0xc008000020) : Frame P G s₀ (State.toTopoff s k reason dur) := by
  refine h₀.step (Q := 0x20001040) (H := 0xc008000020) ?_ hP hG
  unfold State.toTopoff
  try dsimp only
  iterate 50 all_goals try (first
    | (simp only [Frame.mk_iff]; with_reducible apply FrameC.upd <;> first | with_reducible exact fun _ => rfl | exact fun h => absurd h (by decide +kernel) | with_reducible exact fun _ h => ⟨h, rfl, rfl⟩ | with_reducible exact fun _ _ _ => rfl | with_reducible exact id | with_reducible exact fun h _ => h | with_reducible exact fun _ h => h | skip)
    | with_reducible apply Frame.ite
    | with_reducible exact Frame.refl _ _ _
    | with_reducible apply frame_setStr
    | with_reducible apply frame_strTo
    | with_reducible apply Frame.foldlT
    | with_reducible assumption
    | (show (_ : Nat) = _; decide +kernel)
    | (show Nat.testBit _ _ = true; decide +kernel)
    | intro _
    | split)

theorem frame_strHaltEvent {P G : Nat} {s₀ s : State} (h₀ : Frame P G s₀ s) (k reason : Nat) (hP : 0x20001040 &&& P = 0x20001040) (hG : 0xc008000020 &&& G = 0xc008000020) : Frame P G s₀ (State.strHaltEvent s k reason) := by
  refine h₀.step (Q := 0x20001040) (H := 0xc008000020) ?_ hP hG
  unfold State.strHaltEvent
  try dsimp only
  iterate 50 all_goals try (first
    | with_reducible apply Frame.ite
    | with_reducible exact Frame.refl _ _ _
    | (with_reducible apply frame_raise_low; case hs => decide)
    | with_reducible apply frame_strTo
    | with_reducible apply Frame.foldlT
    | with_reducible assumption
    | (show (_ : Nat) = _; decide +kernel)
    | (show Nat.testBit _ _ = true; decide +kernel)
    | intro _
    | split)

theorem frame_strTempEvent {P G : Nat} {s₀ s : State} (h₀ : Frame P G s₀ s) (k : Nat) (hP : 0x1040 &&& P = 0x1040) (hG : 0xc008000020 &&& G = 0xc008000020) : Frame P G s₀ (State.strTempEvent s k) := by
  refine h₀.step (Q := 0x1040) (H := 0xc008000020) ?_ hP hG
  unfold State.strTempEvent
  try dsimp only
  iterate 50 all_goals try (first
    | with_reducible apply Frame.ite
    | with_reducible exact Frame.refl _ _ _
    | with_reducible apply frame_flag
    | (with_reducible apply frame_raise_low; case hs => decide)
    | with_reducible apply Frame.foldlT
    | with_reducible assumption
    | (show (_ : Nat) = _; decide +kernel)
    | (show Nat.testBit _ _ = true; decide +kernel)
    | intro _
    | split)

theorem frame_dvWindow {P G : Nat} {s₀ s : State} (h₀ : Frame P G s₀ s) (k : Nat) (hP : 0x20000000 &&& P = 0x20000000) (hG : 0x8000000 &&& G = 0x8000000) : Frame P G s₀ (State.dvWindow s k) := by
  refine h₀.step (Q := 0x20000000) (H := 0x8000000) ?_ hP hG
  unfold State.dvWindow
  try dsimp only
  iterate 50 all_goals try (first
    | (simp only [Frame.mk_iff]; with_reducible apply FrameC.upd <;> first | with_reducible exact fun _ => rfl | exact fun h => absurd h (by decide +kernel) | with_reducible exact fun _ h => ⟨h, rfl, rfl⟩ | with_reducible exact fun _ _ _ => rfl | with_reducible exact id | with_reducible exact fun h _ => h | with_reducible exact fun _ h => h | skip)
    | with_reducible apply Frame.ite
    | with_reducible exact Frame.refl _ _ _
    | with_reducible apply frame_putAtSat
    | with_reducible apply frame_setStr
    | with_reducible apply frame_strShow
    | with_reducible apply Frame.foldlT
    | with_reducible assumption
    | (show (_ : Nat) = _; decide +kernel)
    | (show Nat.testBit _ _ = true; decide +kernel)
    | intro _
    | split)

theorem frame_dtSecond {P G : Nat} {s₀ s : State} (h₀ : Frame P G s₀ s) (k : Nat) (temp : Rat) (hP : 0x20000000 &&& P = 0x20000000) (hG : 0x8000000 &&& G = 0x8000000) : Frame P G s₀ (State.dtSecond s k temp) := by
  refine h₀.step (Q := 0x20000000) (H := 0x8000000) ?_ hP hG
  unfold State.dtSecond
  try dsimp only
  iterate 50 all_goals try (first
    | (simp only [Frame.mk_iff]; with_reducible apply FrameC.upd <;> first | with_reducible exact fun _ => rfl | exact fun h => absurd h (by decide +kernel) | with_reducible exact fun _ h => ⟨h, rfl, rfl⟩ | with_reducible exact fun _ _ _ => rfl | with_reducible exact id | with_reducible exact fun h _ => h | with_reducible exact fun _ h => h | skip)
    | with_reducible apply Frame.ite
    | with_reducible exact Frame.refl _ _ _
    | with_reducible apply frame_sputAt
    | with_reducible apply frame_setStr
    | with_reducible apply Frame.foldlT
    | with_reducible assumption
    | (show (_ : Nat) = _; decide +kernel)
    | (show Nat.testBit _ _ = true; decide +kernel)
    | intro _
    | split)

theorem frame_nickelSecond {P G : Nat} {s₀ s : State} (h₀ : Frame P G s₀ s) (k : Nat) (hP : 0x60001040 &&& P = 0x60001040) (hG : 0xc008000020 &&& G = 0xc008000020) : Frame P G s₀ (State.nickelSecond s k) := by
  refine h₀.step (Q := 0x60001040) (H := 0xc008000020) ?_ hP hG
  unfold State.nickelSecond
  try dsimp only
  iterate 50 all_goals try (first
    | (simp only [Frame.mk_iff]; with_reducible apply FrameC.upd <;> first | with_reducible exact fun _ => rfl | exact fun h => absurd h (by decide +kernel) | with_reducible exact fun _ h => ⟨h, rfl, rfl⟩ | with_reducible exact fun _ _ _ => rfl | with_reducible exact id | with_reducible exact fun h _ => h | with_reducible exact fun _ h => h | skip)
    | with_reducible apply Frame.ite
    | with_reducible exact Frame.refl _ _ _
    | with_reducible apply frame_setEsti
    | with_reducible apply frame_strTo
    | with_reducible apply frame_terminated
    | with_reducible apply frame_chargeLimit
    | with_reducible apply frame_toTerminate
    | with_reducible apply frame_anchorGiven
    | with_reducible apply frame_toTopoff
    | with_reducible apply frame_strTempEvent
    | with_reducible apply Frame.foldlT
    | with_reducible assumption
    | (show (_ : Nat) = _; decide +kernel)
    | (show Nat.testBit _ _ = true; decide +kernel)
    | intro _
    | split)

theorem frame_lithiumSecond {P G : Nat} {s₀ s : State} (h₀ : Frame P G s₀ s) (k : Nat) (hP : 0x60001040 &&& P = 0x60001040) (hG : 0xc008000020 &&& G = 0xc008000020) : Frame P G s₀ (State.lithiumSecond s k) := by
  refine h₀.step (Q := 0x60001040) (H := 0xc008000020) ?_ hP hG
  unfold State.lithiumSecond
  try dsimp only
  iterate 50 all_goals try (first
    | (simp only [Frame.mk_iff]; with_reducible apply FrameC.upd <;> first | with_reducible exact fun _ => rfl | exact fun h => absurd h (by decide +kernel) | with_reducible exact fun _ h => ⟨h, rfl, rfl⟩ | with_reducible exact fun _ _ _ => rfl | with_reducible exact id | with_reducible exact fun h _ => h | with_reducible exact fun _ h => h | skip)
    | with_reducible apply Frame.ite
    | with_reducible exact Frame.refl _ _ _
    | with_reducible apply frame_setStr
    | with_reducible apply frame_setEsti
    | with_reducible apply frame_strTo
    | with_reducible apply frame_chargeLimit
    | with_reducible apply frame_toTerminate
    | with_reducible apply frame_anchorGiven
    | with_reducible apply frame_strTempEvent
    | with_reducible apply Frame.foldlT
    | with_reducible assumption
    | (show (_ : Nat) = _; decide +kernel)
    | (show Nat.testBit _ _ = true; decide +kernel)
    | intro _
    | split)

theorem frame_maintainSecond {P G : Nat} {s₀ s : State} (h₀ : Frame P G s₀ s) (k : Nat) (hP : 0x20001040 &&& P = 0x20001040) (hG : 0xc008000020 &&& G = 0xc008000020) : Frame P G s₀ (State.maintainSecond s k) := by
  refine h₀.step (Q := 0x20001040) (H := 0xc008000020) ?_ hP hG
  unfold State.maintainSecond
  try dsimp only
  iterate 50 all_goals try (first
    | with_reducible apply Frame.ite
    | with_reducible exact Frame.refl _ _ _
    | with_reducible apply frame_strTo
    | with_reducible apply frame_startSelect
    | with_reducible apply frame_toTopoff
    | with_reducible apply Frame.foldlT
    | with_reducible assumption
    | (show (_ : Nat) = _; decide +kernel)
    | (show Nat.testBit _ _ = true; decide +kernel)
    | intro _
    | split)

theorem frame_tempwaitSecond {P G : Nat} {s₀ s : State} (h₀ : Frame P G s₀ s) (k : Nat) (hP : 0x20001040 &&& P = 0x20001040) (hG : 0xc008000020 &&& G = 0xc008000020) : Frame P G s₀ (State.tempwaitSecond s k) := by
  refine h₀.step (Q := 0x20001040) (H := 0xc008000020) ?_ hP hG
  unfold State.tempwaitSecond
  try dsimp only
  iterate 50 all_goals try (first
    | (simp only [Frame.mk_iff]; with_reducible apply FrameC.upd <;> first | with_reducible exact fun _ => rfl | exact fun h => absurd h (by decide +kernel) | with_reducible exact fun _ h => ⟨h, rfl, rfl⟩ | with_reducible exact fun _ _ _ => rfl | with_reducible exact id | with_reducible exact fun h _ => h | with_reducible exact fun _ h => h | skip)
    | with_reducible apply Frame.ite
    | with_reducible exact Frame.refl _ _ _
    | with_reducible apply frame_setStr
    | with_reducible apply frame_strResume
    | with_reducible apply frame_startSelect
    | with_reducible apply Frame.foldlT
    | with_reducible assumption
    | (show (_ : Nat) = _; decide +kernel)
    | (show Nat.testBit _ _ = true; decide +kernel)
    | intro _
    | split)

theorem frame_guardSecond {P G : Nat} {s₀ s : State} (h₀ : Frame P G s₀ s) {k : Nat} {u : State} (h : s.guardSecond k = some u) (hP : 0x20001040 &&& P = 0x20001040) (hG : 0xc008000020 &&& G = 0xc008000020) :
    Frame P G s₀ u := by
  unfold State.guardSecond at h; dsimp only at h
  split at h
  · cases h; exact frame_flag (frame_strHaltEvent h₀ _ _ (land_trans hP (by decide +kernel)) (land_trans hG (by decide +kernel))) _ (bit_mono hG (by decide +kernel))
  · split at h
    · cases h; exact frame_strHaltEvent h₀ _ _ (land_trans hP (by decide +kernel)) (land_trans hG (by decide +kernel))
    · split at h
      · cases h; exact frame_strTempEvent (frame_strTo h₀ _ _ _ (land_trans hP (by decide +kernel)) (land_trans hG (by decide +kernel))) _ (land_trans hP (by decide +kernel)) (land_trans hG (by decide +kernel))
      · cases h

theorem frame_strRules {P G : Nat} {s₀ s : State} (h₀ : Frame P G s₀ s) (k : Nat) (hP : 0x60001040 &&& P = 0x60001040) (hG : 0xc008000020 &&& G = 0xc008000020) : Frame P G s₀ (State.strRules s k) := by
  refine h₀.step (Q := 0x60001040) (H := 0xc008000020) ?_ hP hG
  unfold State.strRules
  try dsimp only
  iterate 50 all_goals try (first
    | with_reducible apply Frame.ite
    | with_reducible exact Frame.refl _ _ _
    | with_reducible apply frame_tryStart
    | with_reducible apply frame_nickelSecond
    | with_reducible apply frame_lithiumSecond
    | with_reducible apply frame_maintainSecond
    | with_reducible apply frame_tempwaitSecond
    | (refine frame_guardSecond ?_ ‹_› ?_ ?_)
    | with_reducible apply Frame.foldlT
    | with_reducible assumption
    | (show (_ : Nat) = _; decide +kernel)
    | (show Nat.testBit _ _ = true; decide +kernel)
    | intro _
    | split)

theorem frame_closeWindow {P G : Nat} {s₀ s : State} (h₀ : Frame P G s₀ s) (k : Nat) (hP : 0x20000000 &&& P = 0x20000000) (hG : 0x8000000 &&& G = 0x8000000) : Frame P G s₀ (State.closeWindow s k) := by
  refine h₀.step (Q := 0x20000000) (H := 0x8000000) ?_ hP hG
  unfold State.closeWindow
  try dsimp only
  iterate 50 all_goals try (first
    | (simp only [Frame.mk_iff]; with_reducible apply FrameC.upd <;> first | with_reducible exact fun _ => rfl | exact fun h => absurd h (by decide +kernel) | with_reducible exact fun _ h => ⟨h, rfl, rfl⟩ | with_reducible exact fun _ _ _ => rfl | with_reducible exact id | with_reducible exact fun h _ => h | with_reducible exact fun _ h => h | skip)
    | with_reducible apply Frame.ite
    | with_reducible exact Frame.refl _ _ _
    | with_reducible apply frame_sputAt
    | with_reducible apply frame_putAtSat
    | with_reducible apply frame_setStr
    | with_reducible apply frame_strShow
    | with_reducible apply frame_newWindow
    | with_reducible apply frame_dvWindow
    | with_reducible apply frame_dtSecond
    | with_reducible apply Frame.foldlT
    | with_reducible assumption
    | (show (_ : Nat) = _; decide +kernel)
    | (show Nat.testBit _ _ = true; decide +kernel)
    | intro _
    | split)

theorem frame_phaseTimeout {P G : Nat} {s₀ s : State} (h₀ : Frame P G s₀ s) (k : Nat) (hP : 0x20001040 &&& P = 0x20001040) (hG : 0xc008000020 &&& G = 0xc008000020) : Frame P G s₀ (State.phaseTimeout s k) := by
  refine h₀.step (Q := 0x20001040) (H := 0xc008000020) ?_ hP hG
  unfold State.phaseTimeout
  try dsimp only
  iterate 50 all_goals try (first
    | with_reducible apply Frame.ite
    | with_reducible exact Frame.refl _ _ _
    | with_reducible apply frame_strTo
    | with_reducible apply frame_chargeLimit
    | with_reducible apply frame_toTerminate
    | with_reducible apply Frame.foldlT
    | with_reducible assumption
    | (show (_ : Nat) = _; decide +kernel)
    | (show Nat.testBit _ _ = true; decide +kernel)
    | intro _
    | split)

theorem frame_averageLoop {P G : Nat} {s₀ s : State} (h₀ : Frame P G s₀ s) (k : Nat) (hP : 0x20000000 &&& P = 0x20000000) (hG : 0x8000000 &&& G = 0x8000000) : Frame P G s₀ (State.averageLoop s k) := by
  refine h₀.step (Q := 0x20000000) (H := 0x8000000) ?_ hP hG
  unfold State.averageLoop
  try dsimp only
  iterate 50 all_goals try (first
    | (simp only [Frame.mk_iff]; with_reducible apply FrameC.upd <;> first | with_reducible exact fun _ => rfl | exact fun h => absurd h (by decide +kernel) | with_reducible exact fun _ h => ⟨h, rfl, rfl⟩ | with_reducible exact fun _ _ _ => rfl | with_reducible exact id | with_reducible exact fun h _ => h | with_reducible exact fun _ h => h | skip)
    | with_reducible apply Frame.ite
    | with_reducible exact Frame.refl _ _ _
    | with_reducible apply frame_setStr
    | with_reducible apply frame_strShow
    | with_reducible apply Frame.foldlT
    | with_reducible assumption
    | (show (_ : Nat) = _; decide +kernel)
    | (show Nat.testBit _ _ = true; decide +kernel)
    | intro _
    | split)

theorem frame_windowSample {P G : Nat} {s₀ s : State} (h₀ : Frame P G s₀ s) (k : Nat) (hP : 0x20000000 &&& P = 0x20000000) (hG : 0x0 &&& G = 0x0) : Frame P G s₀ (State.windowSample s k) := by
  refine h₀.step (Q := 0x20000000) (H := 0x0) ?_ hP hG
  unfold State.windowSample
  try dsimp only
  iterate 50 all_goals try (first
    | (simp only [Frame.mk_iff]; with_reducible apply FrameC.upd <;> first | with_reducible exact fun _ => rfl | exact fun h => absurd h (by decide +kernel) | with_reducible exact fun _ h => ⟨h, rfl, rfl⟩ | with_reducible exact fun _ _ _ => rfl | with_reducible exact id | with_reducible exact fun h _ => h | with_reducible exact fun _ h => h | skip)
    | with_reducible apply Frame.ite
    | with_reducible exact Frame.refl _ _ _
    | with_reducible apply frame_setStr
    | with_reducible apply Frame.foldlT
    | with_reducible assumption
    | (show (_ : Nat) = _; decide +kernel)
    | (show Nat.testBit _ _ = true; decide +kernel)
    | intro _
    | split)

theorem frame_deficitSample {P G : Nat} {s₀ s : State} (h₀ : Frame P G s₀ s) (k : Nat) (hP : 0x20000000 &&& P = 0x20000000) (hG : 0x8000000 &&& G = 0x8000000) : Frame P G s₀ (State.deficitSample s k) := by
  refine h₀.step (Q := 0x20000000) (H := 0x8000000) ?_ hP hG
  unfold State.deficitSample
  try dsimp only
  iterate 50 all_goals try (first
    | (simp only [Frame.mk_iff]; with_reducible apply FrameC.upd <;> first | with_reducible exact fun _ => rfl | exact fun h => absurd h (by decide +kernel) | with_reducible exact fun _ h => ⟨h, rfl, rfl⟩ | with_reducible exact fun _ _ _ => rfl | with_reducible exact id | with_reducible exact fun h _ => h | with_reducible exact fun _ h => h | skip)
    | with_reducible apply Frame.ite
    | with_reducible exact Frame.refl _ _ _
    | with_reducible apply frame_setStr
    | with_reducible apply frame_addDeficit
    | with_reducible apply Frame.foldlT
    | with_reducible assumption
    | (show (_ : Nat) = _; decide +kernel)
    | (show Nat.testBit _ _ = true; decide +kernel)
    | intro _
    | split)

theorem frame_quietCheck {P G : Nat} {s₀ s : State} (h₀ : Frame P G s₀ s)  (hP : 0x180000000 &&& P = 0x180000000) (hG : 0x0 &&& G = 0x0) : Frame P G s₀ (State.quietCheck s) := by
  refine h₀.step (Q := 0x180000000) (H := 0x0) ?_ hP hG
  unfold State.quietCheck
  try dsimp only
  iterate 50 all_goals try (first
    | (simp only [Frame.mk_iff]; with_reducible apply FrameC.upd <;> first | with_reducible exact fun _ => rfl | exact fun h => absurd h (by decide +kernel) | with_reducible exact fun _ h => ⟨h, rfl, rfl⟩ | with_reducible exact fun _ _ _ => rfl | with_reducible exact id | with_reducible exact fun h _ => h | with_reducible exact fun _ h => h | skip)
    | with_reducible apply Frame.ite
    | with_reducible exact Frame.refl _ _ _
    | with_reducible apply Frame.foldlT
    | with_reducible assumption
    | (show (_ : Nat) = _; decide +kernel)
    | (show Nat.testBit _ _ = true; decide +kernel)
    | intro _
    | split)

theorem frame_btSample {P G : Nat} {s₀ s : State} (h₀ : Frame P G s₀ s) (k j code : Nat) (hP : 0x8000000 &&& P = 0x8000000) (hG : 0x0 &&& G = 0x0) : Frame P G s₀ (State.btSample s k j code) := by
  refine h₀.step (Q := 0x8000000) (H := 0x0) ?_ hP hG
  unfold State.btSample
  try dsimp only
  iterate 50 all_goals try (first
    | (simp only [Frame.mk_iff]; with_reducible apply FrameC.upd <;> first | with_reducible exact fun _ => rfl | exact fun h => absurd h (by decide +kernel) | with_reducible exact fun _ h => ⟨h, rfl, rfl⟩ | with_reducible exact fun _ _ _ => rfl | with_reducible exact id | with_reducible exact fun h _ => h | with_reducible exact fun _ h => h | skip)
    | with_reducible apply Frame.ite
    | with_reducible exact Frame.refl _ _ _
    | with_reducible apply frame_setSensor
    | with_reducible apply Frame.foldlT
    | with_reducible assumption
    | (show (_ : Nat) = _; decide +kernel)
    | (show Nat.testBit _ _ = true; decide +kernel)
    | intro _
    | split)

theorem frame_stringSample {P G : Nat} {s₀ s : State} (h₀ : Frame P G s₀ s) (k : Nat) (q : StrCodes) (hP : 0x1e8001040 &&& P = 0x1e8001040) (hG : 0xd008000120 &&& G = 0xd008000120) : Frame P G s₀ (State.stringSample s k q) := by
  refine h₀.step (Q := 0x1e8001040) (H := 0xd008000120) ?_ hP hG
  unfold State.stringSample
  try dsimp only
  iterate 50 all_goals try (first
    | with_reducible apply Frame.ite
    | with_reducible exact Frame.refl _ _ _
    | with_reducible apply frame_putAt
    | with_reducible apply frame_bookSample
    | with_reducible apply frame_stepResistance
    | with_reducible apply frame_strTlm
    | with_reducible apply frame_strTo
    | with_reducible apply frame_averageLoop
    | with_reducible apply frame_windowSample
    | with_reducible apply frame_deficitSample
    | with_reducible apply frame_quietCheck
    | with_reducible apply frame_btSample
    | with_reducible apply Frame.foldlT
    | with_reducible assumption
    | (show (_ : Nat) = _; decide +kernel)
    | (show Nat.testBit _ _ = true; decide +kernel)
    | intro _
    | split)

theorem frame_chargePeriod {P G : Nat} {s₀ s : State} (h₀ : Frame P G s₀ s) (k : Nat) (hP : 0x20000000 &&& P = 0x20000000) (hG : 0x0 &&& G = 0x0) : Frame P G s₀ (State.chargePeriod s k) := by
  refine h₀.step (Q := 0x20000000) (H := 0x0) ?_ hP hG
  unfold State.chargePeriod
  try dsimp only
  iterate 50 all_goals try (first
    | (simp only [Frame.mk_iff]; with_reducible apply FrameC.upd <;> first | with_reducible exact fun _ => rfl | exact fun h => absurd h (by decide +kernel) | with_reducible exact fun _ h => ⟨h, rfl, rfl⟩ | with_reducible exact fun _ _ _ => rfl | with_reducible exact id | with_reducible exact fun h _ => h | with_reducible exact fun _ h => h | skip)
    | with_reducible apply Frame.ite
    | with_reducible exact Frame.refl _ _ _
    | with_reducible apply frame_setStr
    | with_reducible apply Frame.foldlT
    | with_reducible assumption
    | (show (_ : Nat) = _; decide +kernel)
    | (show Nat.testBit _ _ = true; decide +kernel)
    | intro _
    | split)

theorem frame_setTarget {P G : Nat} {s₀ s : State} (h₀ : Frame P G s₀ s) (k : Nat) (q : Rat) (hP : 0x20000000 &&& P = 0x20000000) (hG : 0x0 &&& G = 0x0) : Frame P G s₀ (State.setTarget s k q) := by
  refine h₀.step (Q := 0x20000000) (H := 0x0) ?_ hP hG
  unfold State.setTarget
  try dsimp only
  iterate 50 all_goals try (first
    | (simp only [Frame.mk_iff]; with_reducible apply FrameC.upd <;> first | with_reducible exact fun _ => rfl | exact fun h => absurd h (by decide +kernel) | with_reducible exact fun _ h => ⟨h, rfl, rfl⟩ | with_reducible exact fun _ _ _ => rfl | with_reducible exact id | with_reducible exact fun h _ => h | with_reducible exact fun _ h => h | skip)
    | with_reducible apply Frame.ite
    | with_reducible exact Frame.refl _ _ _
    | with_reducible apply frame_setStr
    | with_reducible apply Frame.foldlT
    | with_reducible assumption
    | (show (_ : Nat) = _; decide +kernel)
    | (show Nat.testBit _ _ = true; decide +kernel)
    | intro _
    | split)

theorem frame_chargeTargets {P G : Nat} {s₀ s : State} (h₀ : Frame P G s₀ s) (short : Bool) (hP : 0x20000000 &&& P = 0x20000000) (hG : 0x0 &&& G = 0x0) : Frame P G s₀ (State.chargeTargets s short) := by
  refine h₀.step (Q := 0x20000000) (H := 0x0) ?_ hP hG
  unfold State.chargeTargets
  try dsimp only
  iterate 50 all_goals try (first
    | with_reducible apply Frame.ite
    | with_reducible exact Frame.refl _ _ _
    | with_reducible apply frame_setTarget
    | with_reducible apply Frame.foldlT
    | with_reducible assumption
    | (show (_ : Nat) = _; decide +kernel)
    | (show Nat.testBit _ _ = true; decide +kernel)
    | intro _
    | split)

theorem frame_clampNow {P G : Nat} {s₀ s : State} (h₀ : Frame P G s₀ s) (k : Nat) (hP : 0x20000000 &&& P = 0x20000000) (hG : 0x0 &&& G = 0x0) : Frame P G s₀ (State.clampNow s k) := by
  refine h₀.step (Q := 0x20000000) (H := 0x0) ?_ hP hG
  unfold State.clampNow
  try dsimp only
  iterate 50 all_goals try (first
    | (simp only [Frame.mk_iff]; with_reducible apply FrameC.upd <;> first | with_reducible exact fun _ => rfl | exact fun h => absurd h (by decide +kernel) | with_reducible exact fun _ h => ⟨h, rfl, rfl⟩ | with_reducible exact fun _ _ _ => rfl | with_reducible exact id | with_reducible exact fun h _ => h | with_reducible exact fun _ h => h | skip)
    | with_reducible apply Frame.ite
    | with_reducible exact Frame.refl _ _ _
    | with_reducible apply frame_setStr
    | with_reducible apply Frame.foldlT
    | with_reducible assumption
    | (show (_ : Nat) = _; decide +kernel)
    | (show Nat.testBit _ _ = true; decide +kernel)
    | intro _
    | split)

theorem frame_stringOn {P G : Nat} {s₀ s : State} (h₀ : Frame P G s₀ s) (k : Nat) (hP : 0x60001040 &&& P = 0x60001040) (hG : 0xc018000020 &&& G = 0xc018000020) : Frame P G s₀ (State.stringOn s k) := by
  refine h₀.step (Q := 0x60001040) (H := 0xc018000020) ?_ hP hG
  unfold State.stringOn
  try dsimp only
  iterate 50 all_goals try (first
    | (simp only [Frame.mk_iff]; with_reducible apply FrameC.upd <;> first | with_reducible exact fun _ => rfl | exact fun h => absurd h (by decide +kernel) | with_reducible exact fun _ h => ⟨h, rfl, rfl⟩ | with_reducible exact fun _ _ _ => rfl | with_reducible exact id | with_reducible exact fun h _ => h | with_reducible exact fun _ h => h | skip)
    | with_reducible apply Frame.ite
    | with_reducible exact Frame.refl _ _ _
    | with_reducible apply frame_flag
    | (with_reducible apply frame_raise_low; case hs => decide)
    | with_reducible apply frame_setStr
    | with_reducible apply frame_estBegin
    | with_reducible apply frame_strTo
    | with_reducible apply frame_eligIn
    | with_reducible apply Frame.foldlT
    | with_reducible assumption
    | (show (_ : Nat) = _; decide +kernel)
    | (show Nat.testBit _ _ = true; decide +kernel)
    | intro _
    | split)

theorem frame_stringTrip {P G : Nat} {s₀ s : State} (h₀ : Frame P G s₀ s) (k : Nat) (hP : 0x20001040 &&& P = 0x20001040) (hG : 0xc008000020 &&& G = 0xc008000020) : Frame P G s₀ (State.stringTrip s k) := by
  refine h₀.step (Q := 0x20001040) (H := 0xc008000020) ?_ hP hG
  unfold State.stringTrip
  try dsimp only
  iterate 50 all_goals try (first
    | (simp only [Frame.mk_iff]; with_reducible apply FrameC.upd <;> first | with_reducible exact fun _ => rfl | exact fun h => absurd h (by decide +kernel) | with_reducible exact fun _ h => ⟨h, rfl, rfl⟩ | with_reducible exact fun _ _ _ => rfl | with_reducible exact id | with_reducible exact fun h _ => h | with_reducible exact fun _ h => h | skip)
    | with_reducible apply Frame.ite
    | with_reducible exact Frame.refl _ _ _
    | with_reducible apply frame_setStr
    | with_reducible apply frame_strTo
    | with_reducible apply frame_clampNow
    | with_reducible apply Frame.foldlT
    | with_reducible assumption
    | (show (_ : Nat) = _; decide +kernel)
    | (show Nat.testBit _ _ = true; decide +kernel)
    | intro _
    | split)

theorem frame_stringReject {P G : Nat} {s₀ s : State} (h₀ : Frame P G s₀ s) (k : Nat) (p1 : Nat) (hP : 0x20001040 &&& P = 0x20001040) (hG : 0xc008000020 &&& G = 0xc008000020) : Frame P G s₀ (State.stringReject s k p1) := by
  refine h₀.step (Q := 0x20001040) (H := 0xc008000020) ?_ hP hG
  unfold State.stringReject
  try dsimp only
  iterate 50 all_goals try (first
    | (simp only [Frame.mk_iff]; with_reducible apply FrameC.upd <;> first | with_reducible exact fun _ => rfl | exact fun h => absurd h (by decide +kernel) | with_reducible exact fun _ h => ⟨h, rfl, rfl⟩ | with_reducible exact fun _ _ _ => rfl | with_reducible exact id | with_reducible exact fun h _ => h | with_reducible exact fun _ h => h | skip)
    | with_reducible apply Frame.ite
    | with_reducible exact Frame.refl _ _ _
    | (with_reducible apply frame_raise_low; case hs => decide)
    | with_reducible apply frame_setStr
    | with_reducible apply frame_strTo
    | with_reducible apply Frame.foldlT
    | with_reducible assumption
    | (show (_ : Nat) = _; decide +kernel)
    | (show Nat.testBit _ _ = true; decide +kernel)
    | intro _
    | split)

theorem frame_insertCheck {P G : Nat} {s₀ s : State} (h₀ : Frame P G s₀ s) (k : Nat) (hP : 0x21001040 &&& P = 0x21001040) (hG : 0xc108000020 &&& G = 0xc108000020) : Frame P G s₀ (State.insertCheck s k) := by
  refine h₀.step (Q := 0x21001040) (H := 0xc108000020) ?_ hP hG
  unfold State.insertCheck
  try dsimp only
  iterate 50 all_goals try (first
    | (simp only [Frame.mk_iff]; with_reducible apply FrameC.upd <;> first | with_reducible exact fun _ => rfl | exact fun h => absurd h (by decide +kernel) | with_reducible exact fun _ h => ⟨h, rfl, rfl⟩ | with_reducible exact fun _ _ _ => rfl | with_reducible exact id | with_reducible exact fun h _ => h | with_reducible exact fun _ h => h | skip)
    | with_reducible apply Frame.ite
    | with_reducible exact Frame.refl _ _ _
    | with_reducible apply frame_closeReq
    | with_reducible apply frame_setStr
    | with_reducible apply frame_stringReject
    | with_reducible apply Frame.foldlT
    | with_reducible assumption
    | (show (_ : Nat) = _; decide +kernel)
    | (show Nat.testBit _ _ = true; decide +kernel)
    | intro _
    | split)

theorem frame_insertBegin {P G : Nat} {s₀ s : State} (h₀ : Frame P G s₀ s) (k : Nat) (hP : 0x20000000 &&& P = 0x20000000) (hG : 0x0 &&& G = 0x0) : Frame P G s₀ (State.insertBegin s k) := by
  refine h₀.step (Q := 0x20000000) (H := 0x0) ?_ hP hG
  unfold State.insertBegin
  try dsimp only
  iterate 50 all_goals try (first
    | (simp only [Frame.mk_iff]; with_reducible apply FrameC.upd <;> first | with_reducible exact fun _ => rfl | exact fun h => absurd h (by decide +kernel) | with_reducible exact fun _ h => ⟨h, rfl, rfl⟩ | with_reducible exact fun _ _ _ => rfl | with_reducible exact id | with_reducible exact fun h _ => h | with_reducible exact fun _ h => h | skip)
    | with_reducible apply Frame.ite
    | with_reducible exact Frame.refl _ _ _
    | with_reducible apply frame_setStr
    | with_reducible apply Frame.foldlT
    | with_reducible assumption
    | (show (_ : Nat) = _; decide +kernel)
    | (show Nat.testBit _ _ = true; decide +kernel)
    | intro _
    | split)

theorem frame_stringsImage {P G : Nat} {s₀ s : State} (h₀ : Frame P G s₀ s)  (hP : 0x21001040 &&& P = 0x21001040) (hG : 0xc108000020 &&& G = 0xc108000020) : Frame P G s₀ (State.stringsImage s) := by
  refine h₀.step (Q := 0x21001040) (H := 0xc108000020) ?_ hP hG
  unfold State.stringsImage
  try dsimp only
  iterate 50 all_goals try (first
    | (simp only [Frame.mk_iff]; with_reducible apply FrameC.upd <;> first | with_reducible exact fun _ => rfl | exact fun h => absurd h (by decide +kernel) | with_reducible exact fun _ h => ⟨h, rfl, rfl⟩ | with_reducible exact fun _ _ _ => rfl | with_reducible exact id | with_reducible exact fun h _ => h | with_reducible exact fun _ h => h | skip)
    | with_reducible apply Frame.ite
    | with_reducible exact Frame.refl _ _ _
    | with_reducible apply frame_openReq
    | with_reducible apply frame_setStr
    | with_reducible apply frame_stringReject
    | with_reducible apply Frame.foldlT
    | with_reducible assumption
    | (show (_ : Nat) = _; decide +kernel)
    | (show Nat.testBit _ _ = true; decide +kernel)
    | intro _
    | split)

theorem frame_stringRemoved {P G : Nat} {s₀ s : State} (h₀ : Frame P G s₀ s) (k : Nat) (kind : RemovalKind) (hP : 0xe5001040 &&& P = 0xe5001040) (hG : 0xc178800020 &&& G = 0xc178800020) : Frame P G s₀ (State.stringRemoved s k kind) := by
  refine h₀.step (Q := 0xe5001040) (H := 0xc178800020) ?_ hP hG
  unfold State.stringRemoved
  try dsimp only
  iterate 50 all_goals try (first
    | (simp only [Frame.mk_iff]; with_reducible apply FrameC.upd <;> first | with_reducible exact fun _ => rfl | exact fun h => absurd h (by decide +kernel) | with_reducible exact fun _ h => ⟨h, rfl, rfl⟩ | with_reducible exact fun _ _ _ => rfl | with_reducible exact id | with_reducible exact fun h _ => h | with_reducible exact fun _ h => h | skip)
    | with_reducible apply Frame.ite
    | with_reducible exact Frame.refl _ _ _
    | with_reducible apply frame_putAt
    | with_reducible apply frame_flag
    | with_reducible apply frame_putBit
    | (with_reducible apply frame_raise_low; case hs => decide)
    | with_reducible apply frame_openReq
    | with_reducible apply frame_setStr
    | with_reducible apply frame_estDiscard
    | with_reducible apply frame_sagClose
    | with_reducible apply frame_strTo
    | with_reducible apply frame_clampNow
    | with_reducible apply Frame.foldlT
    | with_reducible assumption
    | (show (_ : Nat) = _; decide +kernel)
    | (show Nat.testBit _ _ = true; decide +kernel)
    | intro _
    | split)

theorem frame_strCommand {P G : Nat} {s₀ s : State} (h₀ : Frame P G s₀ s) (k : Nat) (key : Byte) (ok : Bool) (f : State → State) (hP : 0x0 &&& P = 0x0) (hG : 0x8000000 &&& G = 0x8000000) (h_f : ∀ z, Frame P G z (f z)) : Frame P G s₀ (State.strCommand s k key ok f) := by
  unfold State.strCommand
  try dsimp only
  iterate 70 all_goals try (first
    | (simp only [Frame.mk_iff]; with_reducible apply FrameC.upd <;> first | with_reducible exact fun _ => rfl | exact fun h => absurd h (by decide +kernel) | with_reducible exact fun _ h => ⟨h, rfl, rfl⟩ | with_reducible exact fun _ _ _ => rfl | with_reducible exact id | with_reducible exact fun h _ => h | with_reducible exact fun _ h => h | (with_reducible show (Nat.testBit _ _ = false → _); exact fun _ => rfl) | exact fun h => absurd (bit_of_land hP h) (by decide +kernel) | skip)
    | ((with_reducible show (_ → twinRest _ = twinRest _)); intro _; exact rfl)
    | ((with_reducible show (_ → posKept _ _)); intro _; split <;> split <;> exact fun h => ⟨h, rfl, rfl⟩)
    | ((with_reducible show (_ → posKept _ _)); intro _ h; exact ⟨h, rfl, rfl⟩)
    | ((with_reducible show (_ → posKept _ _)); intro _ h; exact absurd h ‹_›)
    | ((with_reducible show (_ → coreRest _ = coreRest _)); intro _; exact rfl)
    | with_reducible apply Frame.ite
    | with_reducible exact Frame.refl _ _ _
    | with_reducible apply frame_putAt
    | (refine Frame.trans ?_ (h_f _))
    | exact land_trans hP (by decide +kernel)
    | exact land_trans hG (by decide +kernel)
    | exact bit_mono hG (by decide +kernel)
    | exact bit_mono hP (by decide +kernel)
    | with_reducible apply Frame.foldlT
    | with_reducible assumption
    | (show (_ : Nat) = _; decide +kernel)
    | (show Nat.testBit _ _ = true; first | decide +kernel | exact allPages _)
    | with_reducible exact fun _ _ _ => rfl
    | (with_reducible show ∀ (_ : Field) (_ : Nat), _ → _; exact fun _ _ h => absurd (h.symm.trans (allPages _)) (by decide))
    | with_reducible apply fieldPut_wf
    | with_reducible apply copyFields_wf
    | with_reducible apply copyInsts_wf
    | with_reducible apply copyBay_wf
    | with_reducible apply copyAll_wf
    | with_reducible apply offered_wf
    | with_reducible refine foldl_wf (fun _ _ h => copyBay_wf h) ?_
    | (intro _ _; dsimp only)
    | intro _
    | split)

theorem frame_strStart {P G : Nat} {s₀ s : State} (h₀ : Frame P G s₀ s) (k : Nat) (key : Byte) (hP : 0x20001040 &&& P = 0x20001040) (hG : 0xc008000020 &&& G = 0xc008000020) : Frame P G s₀ (State.strStart s k key) := by
  refine h₀.step (Q := 0x20001040) (H := 0xc008000020) ?_ hP hG
  unfold State.strStart
  try dsimp only
  iterate 50 all_goals try (first
    | (simp only [Frame.mk_iff]; with_reducible apply FrameC.upd <;> first | with_reducible exact fun _ => rfl | exact fun h => absurd h (by decide +kernel) | with_reducible exact fun _ h => ⟨h, rfl, rfl⟩ | with_reducible exact fun _ _ _ => rfl | with_reducible exact id | with_reducible exact fun h _ => h | with_reducible exact fun _ h => h | skip)
    | with_reducible apply Frame.ite
    | with_reducible exact Frame.refl _ _ _
    | with_reducible apply frame_setStr
    | with_reducible apply frame_tryStart
    | with_reducible apply frame_strCommand
    | with_reducible apply Frame.foldlT
    | with_reducible assumption
    | (show (_ : Nat) = _; decide +kernel)
    | (show Nat.testBit _ _ = true; decide +kernel)
    | intro _
    | split)

theorem frame_strStop {P G : Nat} {s₀ s : State} (h₀ : Frame P G s₀ s) (k : Nat) (key : Byte) (hP : 0x20001040 &&& P = 0x20001040) (hG : 0xc008000020 &&& G = 0xc008000020) : Frame P G s₀ (State.strStop s k key) := by
  refine h₀.step (Q := 0x20001040) (H := 0xc008000020) ?_ hP hG
  unfold State.strStop
  try dsimp only
  iterate 50 all_goals try (first
    | (simp only [Frame.mk_iff]; with_reducible apply FrameC.upd <;> first | with_reducible exact fun _ => rfl | exact fun h => absurd h (by decide +kernel) | with_reducible exact fun _ h => ⟨h, rfl, rfl⟩ | with_reducible exact fun _ _ _ => rfl | with_reducible exact id | with_reducible exact fun h _ => h | with_reducible exact fun _ h => h | skip)
    | with_reducible apply Frame.ite
    | with_reducible exact Frame.refl _ _ _
    | with_reducible apply frame_setStr
    | with_reducible apply frame_strTo
    | with_reducible apply frame_strCommand
    | with_reducible apply Frame.foldlT
    | with_reducible assumption
    | (show (_ : Nat) = _; decide +kernel)
    | (show Nat.testBit _ _ = true; decide +kernel)
    | intro _
    | split)

theorem frame_strClear {P G : Nat} {s₀ s : State} (h₀ : Frame P G s₀ s) (k : Nat) (key : Byte) (hP : 0x20000000 &&& P = 0x20000000) (hG : 0x8000000 &&& G = 0x8000000) : Frame P G s₀ (State.strClear s k key) := by
  refine h₀.step (Q := 0x20000000) (H := 0x8000000) ?_ hP hG
  unfold State.strClear
  try dsimp only
  iterate 50 all_goals try (first
    | with_reducible apply Frame.ite
    | with_reducible exact Frame.refl _ _ _
    | with_reducible apply frame_insertBegin
    | with_reducible apply frame_strCommand
    | with_reducible apply Frame.foldlT
    | with_reducible assumption
    | (show (_ : Nat) = _; decide +kernel)
    | (show Nat.testBit _ _ = true; decide +kernel)
    | intro _
    | split)

theorem frame_moveTo {P G : Nat} {s₀ s : State} (h₀ : Frame P G s₀ s) (m : Mover) (target rate seq : Nat) (hP : 0x2000000 &&& P = 0x2000000) (hG : 0x100000 &&& G = 0x100000) : Frame P G s₀ (State.moveTo s m target rate seq) := by
  refine h₀.step (Q := 0x2000000) (H := 0x100000) ?_ hP hG
  unfold State.moveTo
  try dsimp only
  iterate 50 all_goals try (first
    | (simp only [Frame.mk_iff]; with_reducible apply FrameC.upd <;> first | with_reducible exact fun _ => rfl | exact fun h => absurd h (by decide +kernel) | with_reducible exact fun _ h => ⟨h, rfl, rfl⟩ | with_reducible exact fun _ _ _ => rfl | with_reducible exact id | with_reducible exact fun h _ => h | with_reducible exact fun _ h => h | skip)
    | with_reducible apply Frame.ite
    | with_reducible exact Frame.refl _ _ _
    | with_reducible apply frame_put
    | with_reducible apply frame_putSat
    | with_reducible apply Frame.foldlT
    | with_reducible assumption
    | (show (_ : Nat) = _; decide +kernel)
    | (show Nat.testBit _ _ = true; decide +kernel)
    | intro _
    | split)

theorem frame_walkTo {P G : Nat} {s₀ s : State} (h₀ : Frame P G s₀ s) (uv rate : Nat) (hP : 0x2000000 &&& P = 0x2000000) (hG : 0x100000 &&& G = 0x100000) : Frame P G s₀ (State.walkTo s uv rate) := by
  refine h₀.step (Q := 0x2000000) (H := 0x100000) ?_ hP hG
  unfold State.walkTo
  try dsimp only
  iterate 50 all_goals try (first
    | (simp only [Frame.mk_iff]; with_reducible apply FrameC.upd <;> first | with_reducible exact fun _ => rfl | exact fun h => absurd h (by decide +kernel) | with_reducible exact fun _ h => ⟨h, rfl, rfl⟩ | with_reducible exact fun _ _ _ => rfl | with_reducible exact id | with_reducible exact fun h _ => h | with_reducible exact fun _ h => h | skip)
    | with_reducible apply Frame.ite
    | with_reducible exact Frame.refl _ _ _
    | with_reducible apply frame_put
    | with_reducible apply frame_putSat
    | with_reducible apply Frame.foldlT
    | with_reducible assumption
    | (show (_ : Nat) = _; decide +kernel)
    | (show Nat.testBit _ _ = true; decide +kernel)
    | intro _
    | split)

theorem frame_setVs {P G : Nat} {s₀ s : State} (h₀ : Frame P G s₀ s) (uv : Nat) (hP : 0x2000000 &&& P = 0x2000000) (hG : 0x100000 &&& G = 0x100000) : Frame P G s₀ (State.setVs s uv) := by
  refine h₀.step (Q := 0x2000000) (H := 0x100000) ?_ hP hG
  unfold State.setVs
  try dsimp only
  iterate 50 all_goals try (first
    | (simp only [Frame.mk_iff]; with_reducible apply FrameC.upd <;> first | with_reducible exact fun _ => rfl | exact fun h => absurd h (by decide +kernel) | with_reducible exact fun _ h => ⟨h, rfl, rfl⟩ | with_reducible exact fun _ _ _ => rfl | with_reducible exact id | with_reducible exact fun h _ => h | with_reducible exact fun _ h => h | skip)
    | with_reducible apply Frame.ite
    | with_reducible exact Frame.refl _ _ _
    | with_reducible apply frame_putSat
    | with_reducible apply Frame.foldlT
    | with_reducible assumption
    | (show (_ : Nat) = _; decide +kernel)
    | (show Nat.testBit _ _ = true; decide +kernel)
    | intro _
    | split)

theorem frame_setpointDone {P G : Nat} {s₀ s : State} (h₀ : Frame P G s₀ s) (target seq : Nat) (hP : 0x1040 &&& P = 0x1040) (hG : 0xc000100020 &&& G = 0xc000100020) : Frame P G s₀ (State.setpointDone s target seq) := by
  refine h₀.step (Q := 0x1040) (H := 0xc000100020) ?_ hP hG
  unfold State.setpointDone
  try dsimp only
  iterate 50 all_goals try (first
    | with_reducible apply Frame.ite
    | with_reducible exact Frame.refl _ _ _
    | with_reducible apply frame_put
    | with_reducible apply frame_flag
    | (with_reducible apply frame_raise_low; case hs => decide)
    | with_reducible apply Frame.foldlT
    | with_reducible assumption
    | (show (_ : Nat) = _; decide +kernel)
    | (show Nat.testBit _ _ = true; decide +kernel)
    | intro _
    | split)

theorem frame_supersede {P G : Nat} {s₀ s : State} (h₀ : Frame P G s₀ s) (seq why : Nat) (hP : 0x1040 &&& P = 0x1040) (hG : 0xc000100020 &&& G = 0xc000100020) : Frame P G s₀ (State.supersede s seq why) := by
  refine h₀.step (Q := 0x1040) (H := 0xc000100020) ?_ hP hG
  unfold State.supersede
  try dsimp only
  iterate 50 all_goals try (first
    | with_reducible apply Frame.ite
    | with_reducible exact Frame.refl _ _ _
    | with_reducible apply frame_put
    | with_reducible apply frame_flag
    | (with_reducible apply frame_raise_low; case hs => decide)
    | with_reducible apply Frame.foldlT
    | with_reducible assumption
    | (show (_ : Nat) = _; decide +kernel)
    | (show Nat.testBit _ _ = true; decide +kernel)
    | intro _
    | split)

theorem frame_spRefuse {P G : Nat} {s₀ s : State} (h₀ : Frame P G s₀ s) (seq why : Nat) (hP : 0x1040 &&& P = 0x1040) (hG : 0xc000100020 &&& G = 0xc000100020) : Frame P G s₀ (State.spRefuse s seq why) := by
  refine h₀.step (Q := 0x1040) (H := 0xc000100020) ?_ hP hG
  unfold State.spRefuse
  try dsimp only
  iterate 50 all_goals try (first
    | with_reducible apply Frame.ite
    | with_reducible exact Frame.refl _ _ _
    | with_reducible apply frame_put
    | with_reducible apply frame_flag
    | (with_reducible apply frame_raise_low; case hs => decide)
    | with_reducible apply Frame.foldlT
    | with_reducible assumption
    | (show (_ : Nat) = _; decide +kernel)
    | (show Nat.testBit _ _ = true; decide +kernel)
    | intro _
    | split)

theorem frame_spPark {P G : Nat} {s₀ s : State} (h₀ : Frame P G s₀ s) (target rate seq : Nat) (hP : 0x2001040 &&& P = 0x2001040) (hG : 0xc000100020 &&& G = 0xc000100020) : Frame P G s₀ (State.spPark s target rate seq) := by
  refine h₀.step (Q := 0x2001040) (H := 0xc000100020) ?_ hP hG
  unfold State.spPark
  try dsimp only
  iterate 50 all_goals try (first
    | (simp only [Frame.mk_iff]; with_reducible apply FrameC.upd <;> first | with_reducible exact fun _ => rfl | exact fun h => absurd h (by decide +kernel) | with_reducible exact fun _ h => ⟨h, rfl, rfl⟩ | with_reducible exact fun _ _ _ => rfl | with_reducible exact id | with_reducible exact fun h _ => h | with_reducible exact fun _ h => h | skip)
    | with_reducible apply Frame.ite
    | with_reducible exact Frame.refl _ _ _
    | with_reducible apply frame_put
    | with_reducible apply frame_supersede
    | with_reducible apply Frame.foldlT
    | with_reducible assumption
    | (show (_ : Nat) = _; decide +kernel)
    | (show Nat.testBit _ _ = true; decide +kernel)
    | intro _
    | split)

theorem frame_spAccept {P G : Nat} {s₀ s : State} (h₀ : Frame P G s₀ s) (target rate seq : Nat) (hP : 0x2001040 &&& P = 0x2001040) (hG : 0xc000100020 &&& G = 0xc000100020) : Frame P G s₀ (State.spAccept s target rate seq) := by
  refine h₀.step (Q := 0x2001040) (H := 0xc000100020) ?_ hP hG
  unfold State.spAccept
  try dsimp only
  iterate 50 all_goals try (first
    | (simp only [Frame.mk_iff]; with_reducible apply FrameC.upd <;> first | with_reducible exact fun _ => rfl | exact fun h => absurd h (by decide +kernel) | with_reducible exact fun _ h => ⟨h, rfl, rfl⟩ | with_reducible exact fun _ _ _ => rfl | with_reducible exact id | with_reducible exact fun h _ => h | with_reducible exact fun _ h => h | skip)
    | with_reducible apply Frame.ite
    | with_reducible exact Frame.refl _ _ _
    | with_reducible apply frame_put
    | with_reducible apply frame_moveTo
    | with_reducible apply frame_setpointDone
    | with_reducible apply frame_supersede
    | with_reducible apply Frame.foldlT
    | with_reducible assumption
    | (show (_ : Nat) = _; decide +kernel)
    | (show Nat.testBit _ _ = true; decide +kernel)
    | intro _
    | split)

theorem frame_spCommand {P G : Nat} {s₀ s : State} (h₀ : Frame P G s₀ s) (target rate seq : Nat) (hP : 0x2001040 &&& P = 0x2001040) (hG : 0xc000100020 &&& G = 0xc000100020) : Frame P G s₀ (State.spCommand s target rate seq) := by
  refine h₀.step (Q := 0x2001040) (H := 0xc000100020) ?_ hP hG
  unfold State.spCommand
  try dsimp only
  iterate 50 all_goals try (first
    | with_reducible apply Frame.ite
    | with_reducible exact Frame.refl _ _ _
    | with_reducible apply frame_bump
    | with_reducible apply frame_spRefuse
    | with_reducible apply frame_spPark
    | with_reducible apply frame_spAccept
    | with_reducible apply Frame.foldlT
    | with_reducible assumption
    | (show (_ : Nat) = _; decide +kernel)
    | (show Nat.testBit _ _ = true; decide +kernel)
    | intro _
    | split)

theorem frame_parkSlew {P G : Nat} {s₀ s : State} (h₀ : Frame P G s₀ s)  (hP : 0x2000000 &&& P = 0x2000000) (hG : 0x100000 &&& G = 0x100000) : Frame P G s₀ (State.parkSlew s) := by
  refine h₀.step (Q := 0x2000000) (H := 0x100000) ?_ hP hG
  unfold State.parkSlew
  try dsimp only
  iterate 50 all_goals try (first
    | (simp only [Frame.mk_iff]; with_reducible apply FrameC.upd <;> first | with_reducible exact fun _ => rfl | exact fun h => absurd h (by decide +kernel) | with_reducible exact fun _ h => ⟨h, rfl, rfl⟩ | with_reducible exact fun _ _ _ => rfl | with_reducible exact id | with_reducible exact fun h _ => h | with_reducible exact fun _ h => h | skip)
    | with_reducible apply Frame.ite
    | with_reducible exact Frame.refl _ _ _
    | with_reducible apply frame_put
    | with_reducible apply Frame.foldlT
    | with_reducible assumption
    | (show (_ : Nat) = _; decide +kernel)
    | (show Nat.testBit _ _ = true; decide +kernel)
    | intro _
    | split)

theorem frame_spTadpole {P G : Nat} {s₀ s : State} (h₀ : Frame P G s₀ s)  (hP : 0x2001040 &&& P = 0x2001040) (hG : 0xc000100020 &&& G = 0xc000100020) : Frame P G s₀ (State.spTadpole s) := by
  refine h₀.step (Q := 0x2001040) (H := 0xc000100020) ?_ hP hG
  unfold State.spTadpole
  try dsimp only
  iterate 50 all_goals try (first
    | (simp only [Frame.mk_iff]; with_reducible apply FrameC.upd <;> first | with_reducible exact fun _ => rfl | exact fun h => absurd h (by decide +kernel) | with_reducible exact fun _ h => ⟨h, rfl, rfl⟩ | with_reducible exact fun _ _ _ => rfl | with_reducible exact id | with_reducible exact fun h _ => h | with_reducible exact fun _ h => h | skip)
    | with_reducible apply Frame.ite
    | with_reducible exact Frame.refl _ _ _
    | with_reducible apply frame_put
    | with_reducible apply frame_supersede
    | with_reducible apply Frame.foldlT
    | with_reducible assumption
    | (show (_ : Nat) = _; decide +kernel)
    | (show Nat.testBit _ _ = true; decide +kernel)
    | intro _
    | split)

theorem frame_slew {P G : Nat} {s₀ s : State} (h₀ : Frame P G s₀ s)  (hP : 0x2000000 &&& P = 0x2000000) (hG : 0x100000 &&& G = 0x100000) : Frame P G s₀ (State.slew s).1 := by
  refine h₀.step (Q := 0x2000000) (H := 0x100000) ?_ hP hG
  unfold State.slew
  try dsimp only
  iterate 50 all_goals try (first
    | with_reducible apply Frame.ite
    | with_reducible exact Frame.refl _ _ _
    | with_reducible apply frame_setVs
    | with_reducible apply Frame.foldlT
    | with_reducible assumption
    | (show (_ : Nat) = _; decide +kernel)
    | (show Nat.testBit _ _ = true; decide +kernel)
    | intro _
    | split)

theorem frame_slew_of {P G : Nat} {s₀ s : State}  {v} {u : State} (h : State.slew s = (u, v)) (h₀ : Frame P G s₀ s)
    (hP : 0x2000000 &&& P = 0x2000000) (hG : 0x100000 &&& G = 0x100000) : Frame P G s₀ u := by
  have := frame_slew h₀  hP hG; rw [h] at this; exact this

theorem frame_parkedDone {P G : Nat} {s₀ s : State} (h₀ : Frame P G s₀ s)  (hP : 0x2001040 &&& P = 0x2001040) (hG : 0xc000100020 &&& G = 0xc000100020) : Frame P G s₀ (State.parkedDone s) := by
  refine h₀.step (Q := 0x2001040) (H := 0xc000100020) ?_ hP hG
  unfold State.parkedDone
  try dsimp only
  iterate 50 all_goals try (first
    | (simp only [Frame.mk_iff]; with_reducible apply FrameC.upd <;> first | with_reducible exact fun _ => rfl | exact fun h => absurd h (by decide +kernel) | with_reducible exact fun _ h => ⟨h, rfl, rfl⟩ | with_reducible exact fun _ _ _ => rfl | with_reducible exact id | with_reducible exact fun h _ => h | with_reducible exact fun _ h => h | skip)
    | with_reducible apply Frame.ite
    | with_reducible exact Frame.refl _ _ _
    | with_reducible apply frame_setpointDone
    | with_reducible apply Frame.foldlT
    | with_reducible assumption
    | (show (_ : Nat) = _; decide +kernel)
    | (show Nat.testBit _ _ = true; decide +kernel)
    | intro _
    | split)

theorem frame_setNt {P G : Nat} {s₀ s : State} (h₀ : Frame P G s₀ s) (b n : Nat) (hP : 0x0 &&& P = 0x0) (hG : 0x210000 &&& G = 0x210000) : Frame P G s₀ (State.setNt s b n) := by
  refine h₀.step (Q := 0x0) (H := 0x210000) ?_ hP hG
  unfold State.setNt
  try dsimp only
  iterate 50 all_goals try (first
    | with_reducible apply Frame.ite
    | with_reducible exact Frame.refl _ _ _
    | with_reducible apply frame_putAt
    | with_reducible apply Frame.foldlT
    | with_reducible assumption
    | (show (_ : Nat) = _; decide +kernel)
    | (show Nat.testBit _ _ = true; decide +kernel)
    | intro _
    | split)

theorem frame_reserveShort {P G : Nat} {s₀ s : State} (h₀ : Frame P G s₀ s)  (hP : 0x1044 &&& P = 0x1044) (hG : 0xc000200020 &&& G = 0xc000200020) : Frame P G s₀ (State.reserveShort s) := by
  refine h₀.step (Q := 0x1044) (H := 0xc000200020) ?_ hP hG
  unfold State.reserveShort
  try dsimp only
  iterate 50 all_goals try (first
    | with_reducible apply Frame.ite
    | with_reducible exact Frame.refl _ _ _
    | with_reducible apply frame_flag
    | (with_reducible apply frame_raiseP1_low; case hs => decide)
    | with_reducible apply Frame.foldlT
    | with_reducible assumption
    | (show (_ : Nat) = _; decide +kernel)
    | (show Nat.testBit _ _ = true; decide +kernel)
    | intro _
    | split)

theorem frame_adopt {P G : Nat} {s₀ s : State} (h₀ : Frame P G s₀ s) (c : Choice) (old : Option Rat) (hP : 0x3c01044 &&& P = 0x3c01044) (hG : 0xc100330020 &&& G = 0xc100330020) : Frame P G s₀ (State.adopt s c old) := by
  refine h₀.step (Q := 0x3c01044) (H := 0xc100330020) ?_ hP hG
  unfold State.adopt
  try dsimp only
  iterate 50 all_goals try (first
    | (simp only [Frame.mk_iff]; with_reducible apply FrameC.upd <;> first | with_reducible exact fun _ => rfl | exact fun h => absurd h (by decide +kernel) | with_reducible exact fun _ h => ⟨h, rfl, rfl⟩ | with_reducible exact fun _ _ _ => rfl | with_reducible exact id | with_reducible exact fun h _ => h | with_reducible exact fun _ h => h | skip)
    | with_reducible apply Frame.ite
    | with_reducible exact Frame.refl _ _ _
    | with_reducible apply frame_put
    | with_reducible apply frame_putSat
    | with_reducible apply frame_flag
    | with_reducible apply frame_bump
    | with_reducible apply frame_setBay
    | (with_reducible apply frame_raiseP1_low; case hs => decide)
    | with_reducible apply frame_bringIn
    | with_reducible apply frame_setNt
    | with_reducible apply Frame.foldlT
    | with_reducible assumption
    | (show (_ : Nat) = _; decide +kernel)
    | (show Nat.testBit _ _ = true; decide +kernel)
    | intro _
    | split)

theorem frame_trackerChoose {P G : Nat} {s₀ s : State} (h₀ : Frame P G s₀ s)  (hP : 0x3c01044 &&& P = 0x3c01044) (hG : 0xc100330020 &&& G = 0xc100330020) : Frame P G s₀ (State.trackerChoose s) := by
  refine h₀.step (Q := 0x3c01044) (H := 0xc100330020) ?_ hP hG
  unfold State.trackerChoose
  try dsimp only
  iterate 50 all_goals try (first
    | with_reducible apply Frame.ite
    | with_reducible exact Frame.refl _ _ _
    | with_reducible apply frame_bringIn
    | with_reducible apply frame_setNt
    | with_reducible apply frame_reserveShort
    | with_reducible apply frame_adopt
    | with_reducible apply Frame.foldlT
    | with_reducible assumption
    | (show (_ : Nat) = _; decide +kernel)
    | (show Nat.testBit _ _ = true; decide +kernel)
    | intro _
    | split)

theorem frame_publishCapi {P G : Nat} {s₀ s : State} (h₀ : Frame P G s₀ s)  (hP : 0x0 &&& P = 0x0) (hG : 0x200000 &&& G = 0x200000) : Frame P G s₀ (State.publishCapi s) := by
  refine h₀.step (Q := 0x0) (H := 0x200000) ?_ hP hG
  unfold State.publishCapi
  try dsimp only
  iterate 50 all_goals try (first
    | with_reducible apply Frame.ite
    | with_reducible exact Frame.refl _ _ _
    | with_reducible apply frame_putSat
    | with_reducible apply Frame.foldlT
    | with_reducible assumption
    | (show (_ : Nat) = _; decide +kernel)
    | (show Nat.testBit _ _ = true; decide +kernel)
    | intro _
    | split)

theorem frame_trackerRun {P G : Nat} {s₀ s : State} (h₀ : Frame P G s₀ s)  (hP : 0x3c01044 &&& P = 0x3c01044) (hG : 0xc100330020 &&& G = 0xc100330020) : Frame P G s₀ (State.trackerRun s) := by
  refine h₀.step (Q := 0x3c01044) (H := 0xc100330020) ?_ hP hG
  unfold State.trackerRun
  try dsimp only
  iterate 50 all_goals try (first
    | (simp only [Frame.mk_iff]; with_reducible apply FrameC.upd <;> first | with_reducible exact fun _ => rfl | exact fun h => absurd h (by decide +kernel) | with_reducible exact fun _ h => ⟨h, rfl, rfl⟩ | with_reducible exact fun _ _ _ => rfl | with_reducible exact id | with_reducible exact fun h _ => h | with_reducible exact fun _ h => h | skip)
    | with_reducible apply Frame.ite
    | with_reducible exact Frame.refl _ _ _
    | with_reducible apply frame_put
    | with_reducible apply frame_putSat
    | with_reducible apply frame_trackerChoose
    | with_reducible apply frame_publishCapi
    | with_reducible apply Frame.foldlT
    | with_reducible assumption
    | (show (_ : Nat) = _; decide +kernel)
    | (show Nat.testBit _ _ = true; decide +kernel)
    | intro _
    | split)

theorem frame_bringUntil {P G : Nat} {s₀ s : State} (h₀ : Frame P G s₀ s) (k : Nat) (hP : 0x3c01044 &&& P = 0x3c01044) (hG : 0xc100330020 &&& G = 0xc100330020) :
    Frame P G s₀ (s.bringUntil k) := by
  induction k generalizing s with
  | zero => exact h₀
  | succ k ih =>
    unfold State.bringUntil; dsimp only
    split
    · exact h₀
    · split
      · exact frame_reserveShort h₀ (land_trans hP (by decide +kernel)) (land_trans hG (by decide +kernel))
      · exact ih (frame_bringIn h₀ _ (land_trans hP (by decide +kernel)) (land_trans hG (by decide +kernel)))

theorem frame_restoreReserves {P G : Nat} {s₀ s : State} (h₀ : Frame P G s₀ s)  (hP : 0x3c01044 &&& P = 0x3c01044) (hG : 0xc100330020 &&& G = 0xc100330020) : Frame P G s₀ (State.restoreReserves s) := by
  refine h₀.step (Q := 0x3c01044) (H := 0xc100330020) ?_ hP hG
  unfold State.restoreReserves
  try dsimp only
  iterate 50 all_goals try (first
    | with_reducible apply Frame.ite
    | with_reducible exact Frame.refl _ _ _
    | with_reducible apply frame_bringUntil
    | with_reducible apply Frame.foldlT
    | with_reducible assumption
    | (show (_ : Nat) = _; decide +kernel)
    | (show Nat.testBit _ _ = true; decide +kernel)
    | intro _
    | split)

theorem frame_setWarn {P G : Nat} {s₀ s : State} (h₀ : Frame P G s₀ s) (i : Nat) (v : WarnSt) (hP : 0x4000000 &&& P = 0x4000000) (hG : 0x0 &&& G = 0x0) : Frame P G s₀ (State.setWarn s i v) := by
  refine h₀.step (Q := 0x4000000) (H := 0x0) ?_ hP hG
  unfold State.setWarn
  try dsimp only
  iterate 50 all_goals try (first
    | (simp only [Frame.mk_iff]; with_reducible apply FrameC.upd <;> first | with_reducible exact fun _ => rfl | exact fun h => absurd h (by decide +kernel) | with_reducible exact fun _ h => ⟨h, rfl, rfl⟩ | with_reducible exact fun _ _ _ => rfl | with_reducible exact id | with_reducible exact fun h _ => h | with_reducible exact fun _ h => h | skip)
    | with_reducible apply Frame.ite
    | with_reducible exact Frame.refl _ _ _
    | with_reducible apply Frame.foldlT
    | with_reducible assumption
    | (show (_ : Nat) = _; decide +kernel)
    | (show Nat.testBit _ _ = true; decide +kernel)
    | intro _
    | split)

theorem frame_setFf {P G : Nat} {s₀ s : State} (h₀ : Frame P G s₀ s) (k : Nat) (v : FfSt) (hP : 0x4000000 &&& P = 0x4000000) (hG : 0x0 &&& G = 0x0) : Frame P G s₀ (State.setFf s k v) := by
  refine h₀.step (Q := 0x4000000) (H := 0x0) ?_ hP hG
  unfold State.setFf
  try dsimp only
  iterate 50 all_goals try (first
    | (simp only [Frame.mk_iff]; with_reducible apply FrameC.upd <;> first | with_reducible exact fun _ => rfl | exact fun h => absurd h (by decide +kernel) | with_reducible exact fun _ h => ⟨h, rfl, rfl⟩ | with_reducible exact fun _ _ _ => rfl | with_reducible exact id | with_reducible exact fun h _ => h | with_reducible exact fun _ h => h | skip)
    | with_reducible apply Frame.ite
    | with_reducible exact Frame.refl _ _ _
    | with_reducible apply Frame.foldlT
    | with_reducible assumption
    | (show (_ : Nat) = _; decide +kernel)
    | (show Nat.testBit _ _ = true; decide +kernel)
    | intro _
    | split)

theorem frame_ffShow {P G : Nat} {s₀ s : State} (h₀ : Frame P G s₀ s) (k : Nat) (hP : 0x0 &&& P = 0x0) (hG : 0x800000 &&& G = 0x800000) : Frame P G s₀ (State.ffShow s k) := by
  refine h₀.step (Q := 0x0) (H := 0x800000) ?_ hP hG
  unfold State.ffShow
  try dsimp only
  iterate 50 all_goals try (first
    | with_reducible apply Frame.ite
    | with_reducible exact Frame.refl _ _ _
    | with_reducible apply frame_putAt
    | with_reducible apply frame_putBit
    | with_reducible apply Frame.foldlT
    | with_reducible assumption
    | (show (_ : Nat) = _; decide +kernel)
    | (show Nat.testBit _ _ = true; decide +kernel)
    | intro _
    | split)

theorem frame_inject {P G : Nat} {s₀ s : State} (h₀ : Frame P G s₀ s) (k : Nat) (hP : 0x4000000 &&& P = 0x4000000) (hG : 0x800000 &&& G = 0x800000) : Frame P G s₀ (State.inject s k) := by
  refine h₀.step (Q := 0x4000000) (H := 0x800000) ?_ hP hG
  unfold State.inject
  try dsimp only
  iterate 50 all_goals try (first
    | (simp only [Frame.mk_iff]; with_reducible apply FrameC.upd <;> first | with_reducible exact fun _ => rfl | exact fun h => absurd h (by decide +kernel) | with_reducible exact fun _ h => ⟨h, rfl, rfl⟩ | with_reducible exact fun _ _ _ => rfl | with_reducible exact id | with_reducible exact fun h _ => h | with_reducible exact fun _ h => h | skip)
    | with_reducible apply Frame.ite
    | with_reducible exact Frame.refl _ _ _
    | with_reducible apply frame_setFf
    | with_reducible apply frame_ffShow
    | with_reducible apply Frame.foldlT
    | with_reducible assumption
    | (show (_ : Nat) = _; decide +kernel)
    | (show Nat.testBit _ _ = true; decide +kernel)
    | intro _
    | split)

theorem frame_ffHitClass {P G : Nat} {s₀ s : State} (h₀ : Frame P G s₀ s) (k : Nat) (hP : 0x4000000 &&& P = 0x4000000) (hG : 0x800000 &&& G = 0x800000) : Frame P G s₀ (State.ffHitClass s k) := by
  refine h₀.step (Q := 0x4000000) (H := 0x800000) ?_ hP hG
  unfold State.ffHitClass
  try dsimp only
  iterate 50 all_goals try (first
    | (simp only [Frame.mk_iff]; with_reducible apply FrameC.upd <;> first | with_reducible exact fun _ => rfl | exact fun h => absurd h (by decide +kernel) | with_reducible exact fun _ h => ⟨h, rfl, rfl⟩ | with_reducible exact fun _ _ _ => rfl | with_reducible exact id | with_reducible exact fun h _ => h | with_reducible exact fun _ h => h | skip)
    | with_reducible apply Frame.ite
    | with_reducible exact Frame.refl _ _ _
    | with_reducible apply frame_bumpAt
    | with_reducible apply frame_setFf
    | with_reducible apply frame_ffShow
    | with_reducible apply Frame.foldlT
    | with_reducible assumption
    | (show (_ : Nat) = _; decide +kernel)
    | (show Nat.testBit _ _ = true; decide +kernel)
    | intro _
    | split)

theorem frame_stepSeen {P G : Nat} {s₀ s : State} (h₀ : Frame P G s₀ s) (b bit : Nat) (hP : 0x6c01040 &&& P = 0x6c01040) (hG : 0xc000830020 &&& G = 0xc000830020) : Frame P G s₀ (State.stepSeen s b bit) := by
  refine h₀.step (Q := 0x6c01040) (H := 0xc000830020) ?_ hP hG
  unfold State.stepSeen
  try dsimp only
  iterate 50 all_goals try (first
    | with_reducible apply Frame.ite
    | with_reducible exact Frame.refl _ _ _
    | with_reducible apply frame_phaseStep
    | with_reducible apply frame_ffHitClass
    | with_reducible apply Frame.foldlT
    | with_reducible assumption
    | (show (_ : Nat) = _; decide +kernel)
    | (show Nat.testBit _ _ = true; decide +kernel)
    | intro _
    | split)

theorem frame_ffClear {P G : Nat} {s₀ s : State} (h₀ : Frame P G s₀ s)  (hP : 0x4000000 &&& P = 0x4000000) (hG : 0x800000 &&& G = 0x800000) : Frame P G s₀ (State.ffClear s) := by
  refine h₀.step (Q := 0x4000000) (H := 0x800000) ?_ hP hG
  unfold State.ffClear
  try dsimp only
  iterate 50 all_goals try (first
    | with_reducible apply Frame.ite
    | with_reducible exact Frame.refl _ _ _
    | with_reducible apply frame_setFf
    | with_reducible apply frame_ffShow
    | with_reducible apply Frame.foldlT
    | with_reducible assumption
    | (show (_ : Nat) = _; decide +kernel)
    | (show Nat.testBit _ _ = true; decide +kernel)
    | intro _
    | split)

theorem frame_warnActs {P G : Nat} {s₀ s : State} (h₀ : Frame P G s₀ s) (c : Nat) (hP : 0x6c01040 &&& P = 0x6c01040) (hG : 0xc000030020 &&& G = 0xc000030020) : Frame P G s₀ (State.warnActs s c) := by
  refine h₀.step (Q := 0x6c01040) (H := 0xc000030020) ?_ hP hG
  unfold State.warnActs
  try dsimp only
  iterate 50 all_goals try (first
    | (simp only [Frame.mk_iff]; with_reducible apply FrameC.upd <;> first | with_reducible exact fun _ => rfl | exact fun h => absurd h (by decide +kernel) | with_reducible exact fun _ h => ⟨h, rfl, rfl⟩ | with_reducible exact fun _ _ _ => rfl | with_reducible exact id | with_reducible exact fun h _ => h | with_reducible exact fun _ h => h | skip)
    | with_reducible apply Frame.ite
    | with_reducible exact Frame.refl _ _ _
    | with_reducible apply frame_phaseStep
    | with_reducible apply frame_setFf
    | with_reducible apply Frame.foldlT
    | with_reducible assumption
    | (show (_ : Nat) = _; decide +kernel)
    | (show Nat.testBit _ _ = true; decide +kernel)
    | intro _
    | split)

theorem frame_setWlast {P G : Nat} {s₀ s : State} (h₀ : Frame P G s₀ s) (i c : Nat) (hP : 0x0 &&& P = 0x0) (hG : 0x800000 &&& G = 0x800000) : Frame P G s₀ (State.setWlast s i c) := by
  refine h₀.step (Q := 0x0) (H := 0x800000) ?_ hP hG
  unfold State.setWlast
  try dsimp only
  iterate 50 all_goals try (first
    | with_reducible apply Frame.ite
    | with_reducible exact Frame.refl _ _ _
    | with_reducible apply frame_putAt
    | with_reducible apply Frame.foldlT
    | with_reducible assumption
    | (show (_ : Nat) = _; decide +kernel)
    | (show Nat.testBit _ _ = true; decide +kernel)
    | intro _
    | split)

theorem frame_warnPulse {P G : Nat} {s₀ s : State} (h₀ : Frame P G s₀ s) (i fall rise : Nat) (hP : 0x6c01040 &&& P = 0x6c01040) (hG : 0xc000830020 &&& G = 0xc000830020) : Frame P G s₀ (State.warnPulse s i fall rise) := by
  refine h₀.step (Q := 0x6c01040) (H := 0xc000830020) ?_ hP hG
  unfold State.warnPulse
  try dsimp only
  iterate 50 all_goals try (first
    | (simp only [Frame.mk_iff]; with_reducible apply FrameC.upd <;> first | with_reducible exact fun _ => rfl | exact fun h => absurd h (by decide +kernel) | with_reducible exact fun _ h => ⟨h, rfl, rfl⟩ | with_reducible exact fun _ _ _ => rfl | with_reducible exact id | with_reducible exact fun h _ => h | with_reducible exact fun _ h => h | skip)
    | with_reducible apply Frame.ite
    | with_reducible exact Frame.refl _ _ _
    | with_reducible apply frame_flag
    | with_reducible apply frame_bump
    | with_reducible apply frame_bumpAt
    | (with_reducible apply frame_raise_low; case hs => decide)
    | with_reducible apply frame_setWarn
    | with_reducible apply frame_warnActs
    | with_reducible apply frame_setWlast
    | with_reducible apply Frame.foldlT
    | with_reducible assumption
    | (show (_ : Nat) = _; decide +kernel)
    | (show Nat.testBit _ _ = true; decide +kernel)
    | intro _
    | split)

theorem frame_ffDecay {P G : Nat} {s₀ s : State} (h₀ : Frame P G s₀ s) (k : Nat) (hP : 0x4000000 &&& P = 0x4000000) (hG : 0x800000 &&& G = 0x800000) : Frame P G s₀ (State.ffDecay s k) := by
  refine h₀.step (Q := 0x4000000) (H := 0x800000) ?_ hP hG
  unfold State.ffDecay
  try dsimp only
  iterate 50 all_goals try (first
    | (simp only [Frame.mk_iff]; with_reducible apply FrameC.upd <;> first | with_reducible exact fun _ => rfl | exact fun h => absurd h (by decide +kernel) | with_reducible exact fun _ h => ⟨h, rfl, rfl⟩ | with_reducible exact fun _ _ _ => rfl | with_reducible exact id | with_reducible exact fun h _ => h | with_reducible exact fun _ h => h | skip)
    | with_reducible apply Frame.ite
    | with_reducible exact Frame.refl _ _ _
    | with_reducible apply frame_setFf
    | with_reducible apply frame_ffShow
    | with_reducible apply Frame.foldlT
    | with_reducible assumption
    | (show (_ : Nat) = _; decide +kernel)
    | (show Nat.testBit _ _ = true; decide +kernel)
    | intro _
    | split)

theorem frame_deepSag {P G : Nat} {s₀ s : State} (h₀ : Frame P G s₀ s)  (hP : 0x4001040 &&& P = 0x4001040) (hG : 0xc000800020 &&& G = 0xc000800020) : Frame P G s₀ (State.deepSag s) := by
  refine h₀.step (Q := 0x4001040) (H := 0xc000800020) ?_ hP hG
  unfold State.deepSag
  try dsimp only
  iterate 50 all_goals try (first
    | (simp only [Frame.mk_iff]; with_reducible apply FrameC.upd <;> first | with_reducible exact fun _ => rfl | exact fun h => absurd h (by decide +kernel) | with_reducible exact fun _ h => ⟨h, rfl, rfl⟩ | with_reducible exact fun _ _ _ => rfl | with_reducible exact id | with_reducible exact fun h _ => h | with_reducible exact fun _ h => h | skip)
    | with_reducible apply Frame.ite
    | with_reducible exact Frame.refl _ _ _
    | with_reducible apply frame_flag
    | (with_reducible apply frame_raise_low; case hs => decide)
    | with_reducible apply Frame.foldlT
    | with_reducible assumption
    | (show (_ : Nat) = _; decide +kernel)
    | (show Nat.testBit _ _ = true; decide +kernel)
    | intro _
    | split)

theorem frame_sumSample {P G : Nat} {s₀ s : State} (h₀ : Frame P G s₀ s) (b : Nat) (hP : 0x800000 &&& P = 0x800000) (hG : 0x1000000000 &&& G = 0x1000000000) : Frame P G s₀ (State.sumSample s b) := by
  refine h₀.step (Q := 0x800000) (H := 0x1000000000) ?_ hP hG
  unfold State.sumSample
  try dsimp only
  iterate 50 all_goals try (first
    | (simp only [Frame.mk_iff]; with_reducible apply FrameC.upd <;> first | with_reducible exact fun _ => rfl | exact fun h => absurd h (by decide +kernel) | with_reducible exact fun _ h => ⟨h, rfl, rfl⟩ | with_reducible exact fun _ _ _ => rfl | with_reducible exact id | with_reducible exact fun h _ => h | with_reducible exact fun _ h => h | skip)
    | with_reducible apply Frame.ite
    | with_reducible exact Frame.refl _ _ _
    | with_reducible apply frame_setBay
    | with_reducible apply frame_bayPeak
    | with_reducible apply Frame.foldlT
    | with_reducible assumption
    | (show (_ : Nat) = _; decide +kernel)
    | (show Nat.testBit _ _ = true; decide +kernel)
    | intro _
    | split)

theorem frame_imonCurrent {P G : Nat} {s₀ s : State} (h₀ : Frame P G s₀ s) (n code : Nat) (hP : 0x6c01040 &&& P = 0x6c01040) (hG : 0xd000830020 &&& G = 0xd000830020) : Frame P G s₀ (State.imonCurrent s n code) := by
  refine h₀.step (Q := 0x6c01040) (H := 0xd000830020) ?_ hP hG
  unfold State.imonCurrent
  try dsimp only
  iterate 50 all_goals try (first
    | (simp only [Frame.mk_iff]; with_reducible apply FrameC.upd <;> first | with_reducible exact fun _ => rfl | exact fun h => absurd h (by decide +kernel) | with_reducible exact fun _ h => ⟨h, rfl, rfl⟩ | with_reducible exact fun _ _ _ => rfl | with_reducible exact id | with_reducible exact fun h _ => h | with_reducible exact fun _ h => h | skip)
    | with_reducible apply Frame.ite
    | with_reducible exact Frame.refl _ _ _
    | with_reducible apply frame_sputAt
    | with_reducible apply frame_setPh
    | with_reducible apply frame_phFaulted
    | with_reducible apply frame_stepSeen
    | with_reducible apply frame_sumSample
    | with_reducible apply Frame.foldlT
    | with_reducible assumption
    | (show (_ : Nat) = _; decide +kernel)
    | (show Nat.testBit _ _ = true; decide +kernel)
    | intro _
    | split)

theorem frame_imonOffset {P G : Nat} {s₀ s : State} (h₀ : Frame P G s₀ s) (n code : Nat) (hP : 0x2c01040 &&& P = 0x2c01040) (hG : 0xc000030020 &&& G = 0xc000030020) : Frame P G s₀ (State.imonOffset s n code) := by
  refine h₀.step (Q := 0x2c01040) (H := 0xc000030020) ?_ hP hG
  unfold State.imonOffset
  try dsimp only
  iterate 50 all_goals try (first
    | (simp only [Frame.mk_iff]; with_reducible apply FrameC.upd <;> first | with_reducible exact fun _ => rfl | exact fun h => absurd h (by decide +kernel) | with_reducible exact fun _ h => ⟨h, rfl, rfl⟩ | with_reducible exact fun _ _ _ => rfl | with_reducible exact id | with_reducible exact fun h _ => h | with_reducible exact fun _ h => h | skip)
    | with_reducible apply Frame.ite
    | with_reducible exact Frame.refl _ _ _
    | with_reducible apply frame_putAtSat
    | with_reducible apply frame_setPh
    | with_reducible apply frame_phFaulted
    | with_reducible apply Frame.foldlT
    | with_reducible assumption
    | (show (_ : Nat) = _; decide +kernel)
    | (show Nat.testBit _ _ = true; decide +kernel)
    | intro _
    | split)

theorem frame_offsetTaken {P G : Nat} {s₀ s : State} (h₀ : Frame P G s₀ s) (n : Nat) (hP : 0x2c01040 &&& P = 0x2c01040) (hG : 0xc000130020 &&& G = 0xc000130020) : Frame P G s₀ (State.offsetTaken s n) := by
  refine h₀.step (Q := 0x2c01040) (H := 0xc000130020) ?_ hP hG
  unfold State.offsetTaken
  try dsimp only
  iterate 50 all_goals try (first
    | (simp only [Frame.mk_iff]; with_reducible apply FrameC.upd <;> first | with_reducible exact fun _ => rfl | exact fun h => absurd h (by decide +kernel) | with_reducible exact fun _ h => ⟨h, rfl, rfl⟩ | with_reducible exact fun _ _ _ => rfl | with_reducible exact id | with_reducible exact fun h _ => h | with_reducible exact fun _ h => h | skip)
    | with_reducible apply Frame.ite
    | with_reducible exact Frame.refl _ _ _
    | with_reducible apply frame_putAtSat
    | with_reducible apply frame_flag
    | (with_reducible apply frame_raise_low; case hs => decide)
    | with_reducible apply frame_setPh
    | with_reducible apply frame_phRefresh
    | with_reducible apply frame_toWarm
    | with_reducible apply frame_phFaulted
    | with_reducible apply frame_tryJoin
    | with_reducible apply Frame.foldlT
    | with_reducible assumption
    | (show (_ : Nat) = _; decide +kernel)
    | (show Nat.testBit _ _ = true; decide +kernel)
    | intro _
    | split)

theorem frame_discardTrim {P G : Nat} {s₀ s : State} (h₀ : Frame P G s₀ s) (n : Nat) (hP : 0x2c01c00 &&& P = 0x2c01c00) (hG : 0x400c000030020 &&& G = 0x400c000030020) : Frame P G s₀ (State.discardTrim s n) := by
  refine h₀.step (Q := 0x2c01c00) (H := 0x400c000030020) ?_ hP hG
  unfold State.discardTrim
  try dsimp only
  iterate 50 all_goals try (first
    | (simp only [Frame.mk_iff]; with_reducible apply FrameC.upd <;> first | with_reducible exact fun _ => rfl | exact fun h => absurd h (by decide +kernel) | with_reducible exact fun _ h => ⟨h, rfl, rfl⟩ | with_reducible exact fun _ _ _ => rfl | with_reducible exact id | with_reducible exact fun h _ => h | with_reducible exact fun _ h => h | skip)
    | with_reducible apply Frame.ite
    | with_reducible exact Frame.refl _ _ _
    | with_reducible apply frame_putAt
    | with_reducible apply frame_jAppend
    | with_reducible apply frame_setPh
    | with_reducible apply frame_phRefresh
    | with_reducible apply frame_toNew
    | with_reducible apply Frame.foldlT
    | with_reducible assumption
    | (show (_ : Nat) = _; decide +kernel)
    | (show Nat.testBit _ _ = true; decide +kernel)
    | intro _
    | split)

theorem frame_trimReset {P G : Nat} {s₀ s : State} (h₀ : Frame P G s₀ s) (n : Nat) (key : Byte) (hP : 0x2c01c00 &&& P = 0x2c01c00) (hG : 0x400c000030020 &&& G = 0x400c000030020) : Frame P G s₀ (State.trimReset s n key) := by
  refine h₀.step (Q := 0x2c01c00) (H := 0x400c000030020) ?_ hP hG
  unfold State.trimReset
  try dsimp only
  iterate 50 all_goals try (first
    | with_reducible apply Frame.ite
    | with_reducible exact Frame.refl _ _ _
    | with_reducible apply frame_discardTrim
    | with_reducible apply Frame.foldlT
    | with_reducible assumption
    | (show (_ : Nat) = _; decide +kernel)
    | (show Nat.testBit _ _ = true; decide +kernel)
    | intro _
    | split)

theorem frame_trimsInForce {P G : Nat} {s₀ s : State} (h₀ : Frame P G s₀ s)  (hP : 0x2c01c40 &&& P = 0x2c01c40) (hG : 0x400c000130020 &&& G = 0x400c000130020) : Frame P G s₀ (State.trimsInForce s) := by
  refine h₀.step (Q := 0x2c01c40) (H := 0x400c000130020) ?_ hP hG
  unfold State.trimsInForce
  try dsimp only
  iterate 50 all_goals try (first
    | (simp only [Frame.mk_iff]; with_reducible apply FrameC.upd <;> first | with_reducible exact fun _ => rfl | exact fun h => absurd h (by decide +kernel) | with_reducible exact fun _ h => ⟨h, rfl, rfl⟩ | with_reducible exact fun _ _ _ => rfl | with_reducible exact id | with_reducible exact fun h _ => h | with_reducible exact fun _ h => h | skip)
    | with_reducible apply Frame.ite
    | with_reducible exact Frame.refl _ _ _
    | with_reducible apply frame_putAt
    | with_reducible apply frame_setPh
    | with_reducible apply frame_phRefresh
    | with_reducible apply frame_toWarm
    | with_reducible apply frame_tryJoin
    | with_reducible apply frame_discardTrim
    | with_reducible apply Frame.foldlT
    | with_reducible assumption
    | (show (_ : Nat) = _; decide +kernel)
    | (show Nat.testBit _ _ = true; decide +kernel)
    | intro _
    | split)

theorem frame_shedDecide {P G : Nat} {s₀ s : State} (h₀ : Frame P G s₀ s) (b : Nat) (hP : 0x0 &&& P = 0x0) (hG : 0x30000 &&& G = 0x30000) : Frame P G s₀ (State.shedDecide s b) := by
  refine h₀.step (Q := 0x0) (H := 0x30000) ?_ hP hG
  unfold State.shedDecide
  try dsimp only
  iterate 50 all_goals try (first
    | with_reducible apply Frame.ite
    | with_reducible exact Frame.refl _ _ _
    | with_reducible apply frame_putAt
    | with_reducible apply Frame.foldlT
    | with_reducible assumption
    | (show (_ : Nat) = _; decide +kernel)
    | (show Nat.testBit _ _ = true; decide +kernel)
    | intro _
    | split)

theorem frame_shedCommit {P G : Nat} {s₀ s : State} (h₀ : Frame P G s₀ s) (b : Nat) (hP : 0x801040 &&& P = 0x801040) (hG : 0xc000030020 &&& G = 0xc000030020) : Frame P G s₀ (State.shedCommit s b) := by
  refine h₀.step (Q := 0x801040) (H := 0xc000030020) ?_ hP hG
  unfold State.shedCommit
  try dsimp only
  iterate 50 all_goals try (first
    | (simp only [Frame.mk_iff]; with_reducible apply FrameC.upd <;> first | with_reducible exact fun _ => rfl | exact fun h => absurd h (by decide +kernel) | with_reducible exact fun _ h => ⟨h, rfl, rfl⟩ | with_reducible exact fun _ _ _ => rfl | with_reducible exact id | with_reducible exact fun h _ => h | with_reducible exact fun _ h => h | skip)
    | with_reducible apply Frame.ite
    | with_reducible exact Frame.refl _ _ _
    | with_reducible apply frame_putAt
    | (with_reducible apply frame_raise_low; case hs => decide)
    | with_reducible apply frame_setBay
    | with_reducible apply frame_clearShed
    | with_reducible apply Frame.foldlT
    | with_reducible assumption
    | (show (_ : Nat) = _; decide +kernel)
    | (show Nat.testBit _ _ = true; decide +kernel)
    | intro _
    | split)

theorem frame_gainLearn {P G : Nat} {s₀ s : State} (h₀ : Frame P G s₀ s) (n : Nat) (hP : 0x1044 &&& P = 0x1044) (hG : 0xc000030020 &&& G = 0xc000030020) : Frame P G s₀ (State.gainLearn s n) := by
  refine h₀.step (Q := 0x1044) (H := 0xc000030020) ?_ hP hG
  unfold State.gainLearn
  try dsimp only
  iterate 50 all_goals try (first
    | with_reducible apply Frame.ite
    | with_reducible exact Frame.refl _ _ _
    | with_reducible apply frame_putAt
    | with_reducible apply frame_flag
    | (refine frame_takeFree_of ‹_› ?_ ?_ ?_)
    | with_reducible apply frame_takeFree
    | (with_reducible apply frame_raise_low; case hs => decide)
    | with_reducible apply Frame.foldlT
    | with_reducible assumption
    | (show (_ : Nat) = _; decide +kernel)
    | (show Nat.testBit _ _ = true; decide +kernel)
    | intro _
    | split)

theorem frame_trimJournal {P G : Nat} {s₀ s : State} (h₀ : Frame P G s₀ s) (n : Nat) (hP : 0x401c40 &&& P = 0x401c40) (hG : 0x400c000020020 &&& G = 0x400c000020020) : Frame P G s₀ (State.trimJournal s n) := by
  refine h₀.step (Q := 0x401c40) (H := 0x400c000020020) ?_ hP hG
  unfold State.trimJournal
  try dsimp only
  iterate 50 all_goals try (first
    | (simp only [Frame.mk_iff]; with_reducible apply FrameC.upd <;> first | with_reducible exact fun _ => rfl | exact fun h => absurd h (by decide +kernel) | with_reducible exact fun _ h => ⟨h, rfl, rfl⟩ | with_reducible exact fun _ _ _ => rfl | with_reducible exact id | with_reducible exact fun h _ => h | with_reducible exact fun _ h => h | skip)
    | with_reducible apply Frame.ite
    | with_reducible exact Frame.refl _ _ _
    | with_reducible apply frame_putAt
    | with_reducible apply frame_jAppend
    | (with_reducible apply frame_raise_low; case hs => decide)
    | with_reducible apply frame_setPh
    | with_reducible apply Frame.foldlT
    | with_reducible assumption
    | (show (_ : Nat) = _; decide +kernel)
    | (show Nat.testBit _ _ = true; decide +kernel)
    | intro _
    | split)

theorem frame_bayLearn {P G : Nat} {s₀ s : State} (h₀ : Frame P G s₀ s) (b : Nat) (hP : 0xc01c44 &&& P = 0xc01c44) (hG : 0x400c000030020 &&& G = 0x400c000030020) : Frame P G s₀ (State.bayLearn s b) := by
  refine h₀.step (Q := 0xc01c44) (H := 0x400c000030020) ?_ hP hG
  unfold State.bayLearn
  try dsimp only
  iterate 50 all_goals try (first
    | (simp only [Frame.mk_iff]; with_reducible apply FrameC.upd <;> first | with_reducible exact fun _ => rfl | exact fun h => absurd h (by decide +kernel) | with_reducible exact fun _ h => ⟨h, rfl, rfl⟩ | with_reducible exact fun _ _ _ => rfl | with_reducible exact id | with_reducible exact fun h _ => h | with_reducible exact fun _ h => h | skip)
    | with_reducible apply Frame.ite
    | with_reducible exact Frame.refl _ _ _
    | with_reducible apply frame_setBay
    | with_reducible apply frame_gainLearn
    | with_reducible apply frame_trimJournal
    | with_reducible apply Frame.foldlT
    | with_reducible assumption
    | (show (_ : Nat) = _; decide +kernel)
    | (show Nat.testBit _ _ = true; decide +kernel)
    | intro _
    | split)

theorem frame_phaseCommit {P G : Nat} {s₀ s : State} (h₀ : Frame P G s₀ s)  (hP : 0x1048 &&& P = 0x1048) (hG : 0xffffffffffffffff &&& G = 0xffffffffffffffff) : Frame P G s₀ (State.phaseCommit s) := by
  refine h₀.step (Q := 0x1048) (H := 0xffffffffffffffff) ?_ hP hG
  unfold State.phaseCommit
  try dsimp only
  iterate 70 all_goals try (first
    | (simp only [Frame.mk_iff]; with_reducible apply FrameC.upd <;> first | with_reducible exact fun _ => rfl | exact fun h => absurd h (by decide +kernel) | with_reducible exact fun _ h => ⟨h, rfl, rfl⟩ | with_reducible exact fun _ _ _ => rfl | with_reducible exact id | with_reducible exact fun h _ => h | with_reducible exact fun _ h => h | (with_reducible show (Nat.testBit _ _ = false → _); exact fun _ => rfl) | skip)
    | ((with_reducible show (_ → twinRest _ = twinRest _)); intro _; exact rfl)
    | ((with_reducible show (_ → posKept _ _)); intro _; split <;> split <;> exact fun h => ⟨h, rfl, rfl⟩)
    | ((with_reducible show (_ → posKept _ _)); intro _ h; exact ⟨h, rfl, rfl⟩)
    | ((with_reducible show (_ → posKept _ _)); intro _ h; exact absurd h ‹_›)
    | ((with_reducible show (_ → coreRest _ = coreRest _)); intro _; exact rfl)
    | with_reducible apply Frame.ite
    | with_reducible exact Frame.refl _ _ _
    | with_reducible apply frame_flag
    | (with_reducible apply frame_raise_low; case hs => decide)
    | with_reducible apply Frame.foldlT
    | with_reducible assumption
    | (show (_ : Nat) = _; decide +kernel)
    | (show Nat.testBit _ _ = true; first | decide +kernel | exact allPages _)
    | with_reducible exact fun _ _ _ => rfl
    | (with_reducible show ∀ (_ : Field) (_ : Nat), _ → _; exact fun _ _ h => absurd (h.symm.trans (allPages _)) (by decide))
    | with_reducible apply fieldPut_wf
    | with_reducible apply copyFields_wf
    | with_reducible apply copyInsts_wf
    | with_reducible apply copyBay_wf
    | with_reducible apply copyAll_wf
    | with_reducible apply offered_wf
    | with_reducible refine foldl_wf (fun _ _ h => copyBay_wf h) ?_
    | (intro _ _; dsimp only)
    | intro _
    | split)

theorem frame_showRegion {P G : Nat} {s₀ s : State} (h₀ : Frame P G s₀ s) (b idx : Nat) (hP : 0x0 &&& P = 0x0) (hG : 0x40000 &&& G = 0x40000) : Frame P G s₀ (State.showRegion s b idx) := by
  refine h₀.step (Q := 0x0) (H := 0x40000) ?_ hP hG
  unfold State.showRegion
  try dsimp only
  iterate 50 all_goals try (first
    | with_reducible apply Frame.ite
    | with_reducible exact Frame.refl _ _ _
    | with_reducible apply frame_putAt
    | with_reducible apply Frame.foldlT
    | with_reducible assumption
    | (show (_ : Nat) = _; decide +kernel)
    | (show Nat.testBit _ _ = true; decide +kernel)
    | intro _
    | split)

theorem frame_setLane {P G : Nat} {s₀ s : State} (h₀ : Frame P G s₀ s) (b : Nat) (l : Lane) (hP : 0x800000 &&& P = 0x800000) (hG : 0x0 &&& G = 0x0) : Frame P G s₀ (State.setLane s b l) := by
  refine h₀.step (Q := 0x800000) (H := 0x0) ?_ hP hG
  unfold State.setLane
  try dsimp only
  iterate 50 all_goals try (first
    | (simp only [Frame.mk_iff]; with_reducible apply FrameC.upd <;> first | with_reducible exact fun _ => rfl | exact fun h => absurd h (by decide +kernel) | with_reducible exact fun _ h => ⟨h, rfl, rfl⟩ | with_reducible exact fun _ _ _ => rfl | with_reducible exact id | with_reducible exact fun h _ => h | with_reducible exact fun _ h => h | skip)
    | with_reducible apply Frame.ite
    | with_reducible exact Frame.refl _ _ _
    | with_reducible apply frame_setBay
    | with_reducible apply Frame.foldlT
    | with_reducible assumption
    | (show (_ : Nat) = _; decide +kernel)
    | (show Nat.testBit _ _ = true; decide +kernel)
    | intro _
    | split)

theorem frame_regionStep {P G : Nat} {s₀ s : State} (h₀ : Frame P G s₀ s) (b : Nat) (hP : 0x800000 &&& P = 0x800000) (hG : 0x40000 &&& G = 0x40000) : Frame P G s₀ (State.regionStep s b) := by
  refine h₀.step (Q := 0x800000) (H := 0x40000) ?_ hP hG
  unfold State.regionStep
  try dsimp only
  iterate 50 all_goals try (first
    | (simp only [Frame.mk_iff]; with_reducible apply FrameC.upd <;> first | with_reducible exact fun _ => rfl | exact fun h => absurd h (by decide +kernel) | with_reducible exact fun _ h => ⟨h, rfl, rfl⟩ | with_reducible exact fun _ _ _ => rfl | with_reducible exact id | with_reducible exact fun h _ => h | with_reducible exact fun _ h => h | skip)
    | with_reducible apply Frame.ite
    | with_reducible exact Frame.refl _ _ _
    | with_reducible apply frame_showRegion
    | with_reducible apply frame_setLane
    | with_reducible apply Frame.foldlT
    | with_reducible assumption
    | (show (_ : Nat) = _; decide +kernel)
    | (show Nat.testBit _ _ = true; decide +kernel)
    | intro _
    | split)

theorem frame_regionDrop {P G : Nat} {s₀ s : State} (h₀ : Frame P G s₀ s) (b : Nat) (hP : 0x800000 &&& P = 0x800000) (hG : 0x40000 &&& G = 0x40000) : Frame P G s₀ (State.regionDrop s b) := by
  refine h₀.step (Q := 0x800000) (H := 0x40000) ?_ hP hG
  unfold State.regionDrop
  try dsimp only
  iterate 50 all_goals try (first
    | (simp only [Frame.mk_iff]; with_reducible apply FrameC.upd <;> first | with_reducible exact fun _ => rfl | exact fun h => absurd h (by decide +kernel) | with_reducible exact fun _ h => ⟨h, rfl, rfl⟩ | with_reducible exact fun _ _ _ => rfl | with_reducible exact id | with_reducible exact fun h _ => h | with_reducible exact fun _ h => h | skip)
    | with_reducible apply Frame.ite
    | with_reducible exact Frame.refl _ _ _
    | with_reducible apply frame_showRegion
    | with_reducible apply frame_setLane
    | with_reducible apply Frame.foldlT
    | with_reducible assumption
    | (show (_ : Nat) = _; decide +kernel)
    | (show Nat.testBit _ _ = true; decide +kernel)
    | intro _
    | split)

theorem frame_switchSet {P G : Nat} {s₀ s : State} (h₀ : Frame P G s₀ s) (b : Nat) (gOld : Rat) (new : Coef) (hP : 0x800000 &&& P = 0x800000) (hG : 0x40000 &&& G = 0x40000) : Frame P G s₀ (State.switchSet s b gOld new) := by
  refine h₀.step (Q := 0x800000) (H := 0x40000) ?_ hP hG
  unfold State.switchSet
  try dsimp only
  iterate 50 all_goals try (first
    | (simp only [Frame.mk_iff]; with_reducible apply FrameC.upd <;> first | with_reducible exact fun _ => rfl | exact fun h => absurd h (by decide +kernel) | with_reducible exact fun _ h => ⟨h, rfl, rfl⟩ | with_reducible exact fun _ _ _ => rfl | with_reducible exact id | with_reducible exact fun h _ => h | with_reducible exact fun _ h => h | skip)
    | with_reducible apply Frame.ite
    | with_reducible exact Frame.refl _ _ _
    | with_reducible apply frame_putAt
    | with_reducible apply frame_bumpAt
    | with_reducible apply frame_setLane
    | with_reducible apply Frame.foldlT
    | with_reducible assumption
    | (show (_ : Nat) = _; decide +kernel)
    | (show Nat.testBit _ _ = true; decide +kernel)
    | intro _
    | split)

theorem frame_selectSet {P G : Nat} {s₀ s : State} (h₀ : Frame P G s₀ s) (b : Nat) (before : Coef) (hP : 0x800000 &&& P = 0x800000) (hG : 0x40000 &&& G = 0x40000) : Frame P G s₀ (State.selectSet s b before) := by
  refine h₀.step (Q := 0x800000) (H := 0x40000) ?_ hP hG
  unfold State.selectSet
  try dsimp only
  iterate 50 all_goals try (first
    | with_reducible apply Frame.ite
    | with_reducible exact Frame.refl _ _ _
    | with_reducible apply frame_putAt
    | with_reducible apply frame_switchSet
    | with_reducible apply Frame.foldlT
    | with_reducible assumption
    | (show (_ : Nat) = _; decide +kernel)
    | (show Nat.testBit _ _ = true; decide +kernel)
    | intro _
    | split)

theorem frame_selectIndex {P G : Nat} {s₀ s : State} (h₀ : Frame P G s₀ s) (b : Nat) (before : Coef) (hP : 0x800000 &&& P = 0x800000) (hG : 0x40000 &&& G = 0x40000) : Frame P G s₀ (State.selectIndex s b before) := by
  refine h₀.step (Q := 0x800000) (H := 0x40000) ?_ hP hG
  unfold State.selectIndex
  try dsimp only
  iterate 50 all_goals try (first
    | with_reducible apply Frame.ite
    | with_reducible exact Frame.refl _ _ _
    | with_reducible apply frame_putAt
    | with_reducible apply frame_switchSet
    | with_reducible apply frame_selectSet
    | with_reducible apply Frame.foldlT
    | with_reducible assumption
    | (show (_ : Nat) = _; decide +kernel)
    | (show Nat.testBit _ _ = true; decide +kernel)
    | intro _
    | split)

theorem frame_deriveNotch {P G : Nat} {s₀ s : State} (h₀ : Frame P G s₀ s) (b k : Nat) (hP : 0x0 &&& P = 0x0) (hG : 0x80000 &&& G = 0x80000) : Frame P G s₀ (State.deriveNotch s b k) := by
  refine h₀.step (Q := 0x0) (H := 0x80000) ?_ hP hG
  unfold State.deriveNotch
  try dsimp only
  iterate 50 all_goals try (first
    | with_reducible apply Frame.ite
    | with_reducible exact Frame.refl _ _ _
    | with_reducible apply frame_sputAt
    | with_reducible apply Frame.foldlT
    | with_reducible assumption
    | (show (_ : Nat) = _; decide +kernel)
    | (show Nat.testBit _ _ = true; decide +kernel)
    | intro _
    | split)

theorem frame_deriveBay {P G : Nat} {s₀ s : State} (h₀ : Frame P G s₀ s) (b : Nat) (hP : 0x0 &&& P = 0x0) (hG : 0x80000 &&& G = 0x80000) : Frame P G s₀ (State.deriveBay s b) := by
  refine h₀.step (Q := 0x0) (H := 0x80000) ?_ hP hG
  unfold State.deriveBay
  try dsimp only
  iterate 50 all_goals try (first
    | with_reducible apply Frame.ite
    | with_reducible exact Frame.refl _ _ _
    | with_reducible apply frame_deriveNotch
    | with_reducible apply Frame.foldlT
    | with_reducible assumption
    | (show (_ : Nat) = _; decide +kernel)
    | (show Nat.testBit _ _ = true; decide +kernel)
    | intro _
    | split)

theorem frame_loopCommit {P G : Nat} {s₀ s : State} (h₀ : Frame P G s₀ s) (b : Nat) (hP : 0x1044 &&& P = 0x1044) (hG : 0xffffffffffffffff &&& G = 0xffffffffffffffff) : Frame P G s₀ (State.loopCommit s b) := by
  refine h₀.step (Q := 0x1044) (H := 0xffffffffffffffff) ?_ hP hG
  unfold State.loopCommit
  try dsimp only
  iterate 70 all_goals try (first
    | (simp only [Frame.mk_iff]; with_reducible apply FrameC.upd <;> first | with_reducible exact fun _ => rfl | exact fun h => absurd h (by decide +kernel) | with_reducible exact fun _ h => ⟨h, rfl, rfl⟩ | with_reducible exact fun _ _ _ => rfl | with_reducible exact id | with_reducible exact fun h _ => h | with_reducible exact fun _ h => h | (with_reducible show (Nat.testBit _ _ = false → _); exact fun _ => rfl) | skip)
    | ((with_reducible show (_ → twinRest _ = twinRest _)); intro _; exact rfl)
    | ((with_reducible show (_ → posKept _ _)); intro _; split <;> split <;> exact fun h => ⟨h, rfl, rfl⟩)
    | ((with_reducible show (_ → posKept _ _)); intro _ h; exact ⟨h, rfl, rfl⟩)
    | ((with_reducible show (_ → posKept _ _)); intro _ h; exact absurd h ‹_›)
    | ((with_reducible show (_ → coreRest _ = coreRest _)); intro _; exact rfl)
    | with_reducible apply Frame.ite
    | with_reducible exact Frame.refl _ _ _
    | with_reducible apply frame_flag
    | with_reducible apply frame_putBit
    | (refine frame_takeFree_of ‹_› ?_ ?_ ?_)
    | with_reducible apply frame_takeFree
    | (with_reducible apply frame_raise_low; case hs => decide)
    | with_reducible apply frame_deriveBay
    | with_reducible apply Frame.foldlT
    | with_reducible assumption
    | (show (_ : Nat) = _; decide +kernel)
    | (show Nat.testBit _ _ = true; first | decide +kernel | exact allPages _)
    | with_reducible exact fun _ _ _ => rfl
    | (with_reducible show ∀ (_ : Field) (_ : Nat), _ → _; exact fun _ _ h => absurd (h.symm.trans (allPages _)) (by decide))
    | with_reducible apply fieldPut_wf
    | with_reducible apply copyFields_wf
    | with_reducible apply copyInsts_wf
    | with_reducible apply copyBay_wf
    | with_reducible apply copyAll_wf
    | with_reducible apply offered_wf
    | with_reducible refine foldl_wf (fun _ _ h => copyBay_wf h) ?_
    | (intro _ _; dsimp only)
    | intro _
    | split)

theorem frame_leShctl {P G : Nat} {s₀ s : State} (h₀ : Frame P G s₀ s) (mask : Nat) (hP : 0x0 &&& P = 0x0) (hG : 0x40000 &&& G = 0x40000) : Frame P G s₀ (State.leShctl s mask) := by
  refine h₀.step (Q := 0x0) (H := 0x40000) ?_ hP hG
  unfold State.leShctl
  try dsimp only
  iterate 50 all_goals try (first
    | with_reducible apply Frame.ite
    | with_reducible exact Frame.refl _ _ _
    | with_reducible apply frame_put
    | with_reducible apply Frame.foldlT
    | with_reducible assumption
    | (show (_ : Nat) = _; decide +kernel)
    | (show Nat.testBit _ _ = true; decide +kernel)
    | intro _
    | split)

theorem frame_lanePreset {P G : Nat} {s₀ s : State} (h₀ : Frame P G s₀ s) (b : Nat) (k : Coef) (hP : 0x800002 &&& P = 0x800002) (hG : 0x0 &&& G = 0x0) : Frame P G s₀ (State.lanePreset s b k) := by
  refine h₀.step (Q := 0x800002) (H := 0x0) ?_ hP hG
  unfold State.lanePreset
  try dsimp only
  iterate 50 all_goals try (first
    | (simp only [Frame.mk_iff]; with_reducible apply FrameC.upd <;> first | with_reducible exact fun _ => rfl | exact fun h => absurd h (by decide +kernel) | with_reducible exact fun _ h => ⟨h, rfl, rfl⟩ | with_reducible exact fun _ _ _ => rfl | with_reducible exact id | with_reducible exact fun h _ => h | with_reducible exact fun _ h => h | skip)
    | with_reducible apply Frame.ite
    | with_reducible exact Frame.refl _ _ _
    | with_reducible apply frame_setLane
    | with_reducible apply Frame.foldlT
    | with_reducible assumption
    | (show (_ : Nat) = _; decide +kernel)
    | (show Nat.testBit _ _ = true; decide +kernel)
    | intro _
    | split)

theorem frame_placeTrigger {P G : Nat} {s₀ s : State} (h₀ : Frame P G s₀ s) (b : Nat) (hP : 0x801040 &&& P = 0x801040) (hG : 0xc000040020 &&& G = 0xc000040020) : Frame P G s₀ (State.placeTrigger s b) := by
  refine h₀.step (Q := 0x801040) (H := 0xc000040020) ?_ hP hG
  unfold State.placeTrigger
  try dsimp only
  iterate 50 all_goals try (first
    | (simp only [Frame.mk_iff]; with_reducible apply FrameC.upd <;> first | with_reducible exact fun _ => rfl | exact fun h => absurd h (by decide +kernel) | with_reducible exact fun _ h => ⟨h, rfl, rfl⟩ | with_reducible exact fun _ _ _ => rfl | with_reducible exact id | with_reducible exact fun h _ => h | with_reducible exact fun _ h => h | skip)
    | with_reducible apply Frame.ite
    | with_reducible exact Frame.refl _ _ _
    | with_reducible apply frame_putAt
    | with_reducible apply frame_flag
    | (with_reducible apply frame_raise_low; case hs => decide)
    | with_reducible apply frame_setLane
    | with_reducible apply Frame.foldlT
    | with_reducible assumption
    | (show (_ : Nat) = _; decide +kernel)
    | (show Nat.testBit _ _ = true; decide +kernel)
    | intro _
    | split)

theorem frame_lanePeriod {P G : Nat} {s₀ s : State} (h₀ : Frame P G s₀ s) (b : Nat) (hP : 0x801046 &&& P = 0x801046) (hG : 0xffffffffffffffff &&& G = 0xffffffffffffffff) : Frame P G s₀ (State.lanePeriod s b) := by
  refine h₀.step (Q := 0x801046) (H := 0xffffffffffffffff) ?_ hP hG
  unfold State.lanePeriod
  try dsimp only
  iterate 50 all_goals try (first
    | (simp only [Frame.mk_iff]; with_reducible apply FrameC.upd <;> first | with_reducible exact fun _ => rfl | exact fun h => absurd h (by decide +kernel) | with_reducible exact fun _ h => ⟨h, rfl, rfl⟩ | with_reducible exact fun _ _ _ => rfl | with_reducible exact id | with_reducible exact fun h _ => h | with_reducible exact fun _ h => h | skip)
    | with_reducible apply Frame.ite
    | with_reducible exact Frame.refl _ _ _
    | with_reducible apply frame_putAt
    | with_reducible apply frame_putAtB
    | with_reducible apply frame_putAtSat
    | with_reducible apply frame_showRegion
    | with_reducible apply frame_setLane
    | with_reducible apply frame_regionStep
    | with_reducible apply frame_switchSet
    | with_reducible apply frame_selectIndex
    | with_reducible apply frame_loopCommit
    | with_reducible apply frame_lanePreset
    | with_reducible apply Frame.foldlT
    | with_reducible assumption
    | (show (_ : Nat) = _; decide +kernel)
    | (show Nat.testBit _ _ = true; decide +kernel)
    | intro _
    | split)

theorem frame_vlinkWatch {P G : Nat} {s₀ s : State} (h₀ : Frame P G s₀ s) (b : Nat) (hP : 0x801040 &&& P = 0x801040) (hG : 0xc000040020 &&& G = 0xc000040020) : Frame P G s₀ (State.vlinkWatch s b) := by
  refine h₀.step (Q := 0x801040) (H := 0xc000040020) ?_ hP hG
  unfold State.vlinkWatch
  try dsimp only
  iterate 50 all_goals try (first
    | (simp only [Frame.mk_iff]; with_reducible apply FrameC.upd <;> first | with_reducible exact fun _ => rfl | exact fun h => absurd h (by decide +kernel) | with_reducible exact fun _ h => ⟨h, rfl, rfl⟩ | with_reducible exact fun _ _ _ => rfl | with_reducible exact id | with_reducible exact fun h _ => h | with_reducible exact fun _ h => h | skip)
    | with_reducible apply Frame.ite
    | with_reducible exact Frame.refl _ _ _
    | with_reducible apply frame_flag
    | (with_reducible apply frame_raise_low; case hs => decide)
    | with_reducible apply frame_setLane
    | with_reducible apply Frame.foldlT
    | with_reducible assumption
    | (show (_ : Nat) = _; decide +kernel)
    | (show Nat.testBit _ _ = true; decide +kernel)
    | intro _
    | split)

theorem frame_noteSat {P G : Nat} {s₀ s : State} (h₀ : Frame P G s₀ s) (b : Nat) (o : LaneOut) (hP : 0x800000 &&& P = 0x800000) (hG : 0xffffffffffffffff &&& G = 0xffffffffffffffff) : Frame P G s₀ (State.noteSat s b o) := by
  refine h₀.step (Q := 0x800000) (H := 0xffffffffffffffff) ?_ hP hG
  unfold State.noteSat
  try dsimp only
  iterate 70 all_goals try (first
    | (simp only [Frame.mk_iff]; with_reducible apply FrameC.upd <;> first | with_reducible exact fun _ => rfl | exact fun h => absurd h (by decide +kernel) | with_reducible exact fun _ h => ⟨h, rfl, rfl⟩ | with_reducible exact fun _ _ _ => rfl | with_reducible exact id | with_reducible exact fun h _ => h | with_reducible exact fun _ h => h | (with_reducible show (Nat.testBit _ _ = false → _); exact fun _ => rfl) | skip)
    | ((with_reducible show (_ → twinRest _ = twinRest _)); intro _; exact rfl)
    | ((with_reducible show (_ → posKept _ _)); intro _; split <;> split <;> exact fun h => ⟨h, rfl, rfl⟩)
    | ((with_reducible show (_ → posKept _ _)); intro _ h; exact ⟨h, rfl, rfl⟩)
    | ((with_reducible show (_ → posKept _ _)); intro _ h; exact absurd h ‹_›)
    | ((with_reducible show (_ → coreRest _ = coreRest _)); intro _; exact rfl)
    | with_reducible apply Frame.ite
    | with_reducible exact Frame.refl _ _ _
    | with_reducible apply frame_putAt
    | with_reducible apply frame_bumpAt
    | with_reducible apply frame_setLane
    | with_reducible apply Frame.foldlT
    | with_reducible assumption
    | (show (_ : Nat) = _; decide +kernel)
    | (show Nat.testBit _ _ = true; first | decide +kernel | exact allPages _)
    | with_reducible exact fun _ _ _ => rfl
    | (with_reducible show ∀ (_ : Field) (_ : Nat), _ → _; exact fun _ _ h => absurd (h.symm.trans (allPages _)) (by decide))
    | with_reducible apply fieldPut_wf
    | with_reducible apply copyFields_wf
    | with_reducible apply copyInsts_wf
    | with_reducible apply copyBay_wf
    | with_reducible apply copyAll_wf
    | with_reducible apply offered_wf
    | with_reducible refine foldl_wf (fun _ _ h => copyBay_wf h) ?_
    | (intro _ _; dsimp only)
    | intro _
    | split)

theorem frame_feCount {P G : Nat} {s₀ s : State} (h₀ : Frame P G s₀ s) (b : Nat) (eRaw : Int) (hP : 0x800000 &&& P = 0x800000) (hG : 0x40000 &&& G = 0x40000) : Frame P G s₀ (State.feCount s b eRaw) := by
  refine h₀.step (Q := 0x800000) (H := 0x40000) ?_ hP hG
  unfold State.feCount
  try dsimp only
  iterate 50 all_goals try (first
    | (simp only [Frame.mk_iff]; with_reducible apply FrameC.upd <;> first | with_reducible exact fun _ => rfl | exact fun h => absurd h (by decide +kernel) | with_reducible exact fun _ h => ⟨h, rfl, rfl⟩ | with_reducible exact fun _ _ _ => rfl | with_reducible exact id | with_reducible exact fun h _ => h | with_reducible exact fun _ h => h | skip)
    | with_reducible apply Frame.ite
    | with_reducible exact Frame.refl _ _ _
    | with_reducible apply frame_putAt
    | with_reducible apply frame_bumpAt
    | with_reducible apply frame_setLane
    | with_reducible apply Frame.foldlT
    | with_reducible assumption
    | (show (_ : Nat) = _; decide +kernel)
    | (show Nat.testBit _ _ = true; decide +kernel)
    | intro _
    | split)

theorem frame_loopTrigger {P G : Nat} {s₀ s : State} (h₀ : Frame P G s₀ s) (b code : Nat) (hP : 0x801040 &&& P = 0x801040) (hG : 0xffffffffffffffff &&& G = 0xffffffffffffffff) : Frame P G s₀ (State.loopTrigger s b code) := by
  refine h₀.step (Q := 0x801040) (H := 0xffffffffffffffff) ?_ hP hG
  unfold State.loopTrigger
  try dsimp only
  iterate 50 all_goals try (first
    | (simp only [Frame.mk_iff]; with_reducible apply FrameC.upd <;> first | with_reducible exact fun _ => rfl | exact fun h => absurd h (by decide +kernel) | with_reducible exact fun _ h => ⟨h, rfl, rfl⟩ | with_reducible exact fun _ _ _ => rfl | with_reducible exact id | with_reducible exact fun h _ => h | with_reducible exact fun _ h => h | skip)
    | with_reducible apply Frame.ite
    | with_reducible exact Frame.refl _ _ _
    | with_reducible apply frame_putAt
    | with_reducible apply frame_putAtB
    | with_reducible apply frame_sputAt
    | with_reducible apply frame_putAtSat
    | with_reducible apply frame_setBay
    | with_reducible apply frame_setLane
    | with_reducible apply frame_vlinkWatch
    | with_reducible apply frame_noteSat
    | with_reducible apply frame_feCount
    | with_reducible apply Frame.foldlT
    | with_reducible assumption
    | (show (_ : Nat) = _; decide +kernel)
    | (show Nat.testBit _ _ = true; decide +kernel)
    | intro _
    | split)

theorem frame_outputConversion {P G : Nat} {s₀ s : State} (h₀ : Frame P G s₀ s) (b code : Nat) (hP : 0x6c01040 &&& P = 0x6c01040) (hG : 0xc000830060 &&& G = 0xc000830060) : Frame P G s₀ (State.outputConversion s b code) := by
  refine h₀.step (Q := 0x6c01040) (H := 0xc000830060) ?_ hP hG
  unfold State.outputConversion
  try dsimp only
  iterate 50 all_goals try (first
    | (simp only [Frame.mk_iff]; with_reducible apply FrameC.upd <;> first | with_reducible exact fun _ => rfl | exact fun h => absurd h (by decide +kernel) | with_reducible exact fun _ h => ⟨h, rfl, rfl⟩ | with_reducible exact fun _ _ _ => rfl | with_reducible exact id | with_reducible exact fun h _ => h | with_reducible exact fun _ h => h | skip)
    | with_reducible apply Frame.ite
    | with_reducible exact Frame.refl _ _ _
    | with_reducible apply frame_putAt
    | with_reducible apply frame_setBay
    | with_reducible apply frame_stepSeen
    | with_reducible apply Frame.foldlT
    | with_reducible assumption
    | (show (_ : Nat) = _; decide +kernel)
    | (show Nat.testBit _ _ = true; decide +kernel)
    | intro _
    | split)

theorem frame_followingError {P G : Nat} {s₀ s : State} (h₀ : Frame P G s₀ s) (b : Nat) (hP : 0x3c01044 &&& P = 0x3c01044) (hG : 0xc100370020 &&& G = 0xc100370020) : Frame P G s₀ (State.followingError s b) := by
  refine h₀.step (Q := 0x3c01044) (H := 0xc100370020) ?_ hP hG
  unfold State.followingError
  try dsimp only
  iterate 50 all_goals try (first
    | (simp only [Frame.mk_iff]; with_reducible apply FrameC.upd <;> first | with_reducible exact fun _ => rfl | exact fun h => absurd h (by decide +kernel) | with_reducible exact fun _ h => ⟨h, rfl, rfl⟩ | with_reducible exact fun _ _ _ => rfl | with_reducible exact id | with_reducible exact fun h _ => h | with_reducible exact fun _ h => h | skip)
    | with_reducible apply Frame.ite
    | with_reducible exact Frame.refl _ _ _
    | with_reducible apply frame_putAt
    | with_reducible apply frame_flag
    | (with_reducible apply frame_raise_low; case hs => decide)
    | with_reducible apply frame_setBay
    | with_reducible apply frame_openReq
    | with_reducible apply frame_shareRefresh
    | with_reducible apply frame_bayToFault
    | with_reducible apply frame_restoreReserves
    | with_reducible apply frame_setLane
    | with_reducible apply Frame.foldlT
    | with_reducible assumption
    | (show (_ : Nat) = _; decide +kernel)
    | (show Nat.testBit _ _ = true; decide +kernel)
    | intro _
    | split)

theorem frame_feEnd {P G : Nat} {s₀ s : State} (h₀ : Frame P G s₀ s) (b act : Nat) (hP : 0x801040 &&& P = 0x801040) (hG : 0xc000040020 &&& G = 0xc000040020) : Frame P G s₀ (State.feEnd s b act) := by
  refine h₀.step (Q := 0x801040) (H := 0xc000040020) ?_ hP hG
  unfold State.feEnd
  try dsimp only
  iterate 50 all_goals try (first
    | (simp only [Frame.mk_iff]; with_reducible apply FrameC.upd <;> first | with_reducible exact fun _ => rfl | exact fun h => absurd h (by decide +kernel) | with_reducible exact fun _ h => ⟨h, rfl, rfl⟩ | with_reducible exact fun _ _ _ => rfl | with_reducible exact id | with_reducible exact fun h _ => h | with_reducible exact fun _ h => h | skip)
    | with_reducible apply Frame.ite
    | with_reducible exact Frame.refl _ _ _
    | with_reducible apply frame_putAt
    | with_reducible apply frame_flag
    | (with_reducible apply frame_raise_low; case hs => decide)
    | with_reducible apply frame_setBay
    | with_reducible apply Frame.foldlT
    | with_reducible assumption
    | (show (_ : Nat) = _; decide +kernel)
    | (show Nat.testBit _ _ = true; decide +kernel)
    | intro _
    | split)

theorem frame_feClear {P G : Nat} {s₀ s : State} (h₀ : Frame P G s₀ s) (b : Nat) (key : Byte) (hP : 0x3c01040 &&& P = 0x3c01040) (hG : 0xc100170020 &&& G = 0xc100170020) : Frame P G s₀ (State.feClear s b key) := by
  refine h₀.step (Q := 0x3c01040) (H := 0xc100170020) ?_ hP hG
  unfold State.feClear
  try dsimp only
  iterate 50 all_goals try (first
    | with_reducible apply Frame.ite
    | with_reducible exact Frame.refl _ _ _
    | with_reducible apply frame_toPfc
    | with_reducible apply frame_feEnd
    | with_reducible apply Frame.foldlT
    | with_reducible assumption
    | (show (_ : Nat) = _; decide +kernel)
    | (show Nat.testBit _ _ = true; decide +kernel)
    | intro _
    | split)

theorem frame_revertGo {P G : Nat} {s₀ s : State} (h₀ : Frame P G s₀ s) (k : State → State) (hP : 0x41c00 &&& P = 0x41c00) (hG : 0x500c000000024 &&& G = 0x500c000000024) (h_k : ∀ z, Frame P G z (k z)) : Frame P G s₀ (State.revertGo s k) := by
  unfold State.revertGo
  try dsimp only
  iterate 70 all_goals try (first
    | (simp only [Frame.mk_iff]; with_reducible apply FrameC.upd <;> first | with_reducible exact fun _ => rfl | exact fun h => absurd h (by decide +kernel) | with_reducible exact fun _ h => ⟨h, rfl, rfl⟩ | with_reducible exact fun _ _ _ => rfl | with_reducible exact id | with_reducible exact fun h _ => h | with_reducible exact fun _ h => h | (with_reducible show (Nat.testBit _ _ = false → _); exact fun _ => rfl) | exact fun h => absurd (bit_of_land hP h) (by decide +kernel) | skip)
    | ((with_reducible show (_ → twinRest _ = twinRest _)); intro _; exact rfl)
    | ((with_reducible show (_ → posKept _ _)); intro _; split <;> split <;> exact fun h => ⟨h, rfl, rfl⟩)
    | ((with_reducible show (_ → posKept _ _)); intro _ h; exact ⟨h, rfl, rfl⟩)
    | ((with_reducible show (_ → posKept _ _)); intro _ h; exact absurd h ‹_›)
    | ((with_reducible show (_ → coreRest _ = coreRest _)); intro _; exact rfl)
    | with_reducible apply Frame.ite
    | with_reducible exact Frame.refl _ _ _
    | with_reducible apply frame_put
    | with_reducible apply frame_jAppend
    | with_reducible apply frame_revertRefused
    | (refine Frame.trans ?_ (h_k _))
    | exact land_trans hP (by decide +kernel)
    | exact land_trans hG (by decide +kernel)
    | exact bit_mono hG (by decide +kernel)
    | exact bit_mono hP (by decide +kernel)
    | with_reducible apply Frame.foldlT
    | with_reducible assumption
    | (show (_ : Nat) = _; decide +kernel)
    | (show Nat.testBit _ _ = true; first | decide +kernel | exact allPages _)
    | with_reducible exact fun _ _ _ => rfl
    | (with_reducible show ∀ (_ : Field) (_ : Nat), _ → _; exact fun _ _ h => absurd (h.symm.trans (allPages _)) (by decide))
    | with_reducible apply fieldPut_wf
    | with_reducible apply copyFields_wf
    | with_reducible apply copyInsts_wf
    | with_reducible apply copyBay_wf
    | with_reducible apply copyAll_wf
    | with_reducible apply offered_wf
    | with_reducible refine foldl_wf (fun _ _ h => copyBay_wf h) ?_
    | (intro _ _; dsimp only)
    | intro _
    | split)

theorem frame_firstRun {P G : Nat} {s₀ s : State} (h₀ : Frame P G s₀ s)  (hP : 0x2800020 &&& P = 0x2800020) (hG : 0x100000 &&& G = 0x100000) : Frame P G s₀ (State.firstRun s) := by
  refine h₀.step (Q := 0x2800020) (H := 0x100000) ?_ hP hG
  unfold State.firstRun
  try dsimp only
  iterate 50 all_goals try (first
    | (simp only [Frame.mk_iff]; with_reducible apply FrameC.upd <;> first | with_reducible exact fun _ => rfl | exact fun h => absurd h (by decide +kernel) | with_reducible exact fun _ h => ⟨h, rfl, rfl⟩ | with_reducible exact fun _ _ _ => rfl | with_reducible exact id | with_reducible exact fun h _ => h | with_reducible exact fun _ h => h | skip)
    | with_reducible apply Frame.ite
    | with_reducible exact Frame.refl _ _ _
    | with_reducible apply frame_putAt
    | with_reducible apply frame_setBay
    | with_reducible apply Frame.foldlT
    | with_reducible assumption
    | (show (_ : Nat) = _; decide +kernel)
    | (show Nat.testBit _ _ = true; decide +kernel)
    | intro _
    | split)

theorem frame_loadAtQuadrant {P G : Nat} {s₀ s : State} (h₀ : Frame P G s₀ s) (k : LoadKind) (cause : Nat) (hP : 0x20 &&& P = 0x20) (hG : 0x0 &&& G = 0x0) : Frame P G s₀ (State.loadAtQuadrant s k cause) := by
  refine h₀.step (Q := 0x20) (H := 0x0) ?_ hP hG
  unfold State.loadAtQuadrant
  try dsimp only
  iterate 50 all_goals try (first
    | (simp only [Frame.mk_iff]; with_reducible apply FrameC.upd <;> first | with_reducible exact fun _ => rfl | exact fun h => absurd h (by decide +kernel) | with_reducible exact fun _ h => ⟨h, rfl, rfl⟩ | with_reducible exact fun _ _ _ => rfl | with_reducible exact id | with_reducible exact fun h _ => h | with_reducible exact fun _ h => h | skip)
    | with_reducible apply Frame.ite
    | with_reducible exact Frame.refl _ _ _
    | with_reducible apply Frame.foldlT
    | with_reducible assumption
    | (show (_ : Nat) = _; decide +kernel)
    | (show Nat.testBit _ _ = true; decide +kernel)
    | intro _
    | split)

theorem frame_deferredNow {P G : Nat} {s₀ s : State} (h₀ : Frame P G s₀ s)  (hP : 0x41c20 &&& P = 0x41c20) (hG : 0x500c000000024 &&& G = 0x500c000000024) : Frame P G s₀ (State.deferredNow s) := by
  refine h₀.step (Q := 0x41c20) (H := 0x500c000000024) ?_ hP hG
  unfold State.deferredNow
  try dsimp only
  iterate 50 all_goals try (first
    | (simp only [Frame.mk_iff]; with_reducible apply FrameC.upd <;> first | with_reducible exact fun _ => rfl | exact fun h => absurd h (by decide +kernel) | with_reducible exact fun _ h => ⟨h, rfl, rfl⟩ | with_reducible exact fun _ _ _ => rfl | with_reducible exact id | with_reducible exact fun h _ => h | with_reducible exact fun _ h => h | skip)
    | with_reducible apply Frame.ite
    | with_reducible exact Frame.refl _ _ _
    | with_reducible apply frame_put
    | with_reducible apply frame_revertGo
    | with_reducible apply frame_loadAtQuadrant
    | with_reducible apply Frame.foldlT
    | with_reducible assumption
    | (show (_ : Nat) = _; decide +kernel)
    | (show Nat.testBit _ _ = true; decide +kernel)
    | intro _
    | split)

theorem frame_runEntered {P G : Nat} {s₀ s : State} (h₀ : Frame P G s₀ s)  (hP : 0x2841c20 &&& P = 0x2841c20) (hG : 0x500c000100024 &&& G = 0x500c000100024) : Frame P G s₀ (State.runEntered s) := by
  refine h₀.step (Q := 0x2841c20) (H := 0x500c000100024) ?_ hP hG
  unfold State.runEntered
  try dsimp only
  iterate 50 all_goals try (first
    | with_reducible apply Frame.ite
    | with_reducible exact Frame.refl _ _ _
    | with_reducible apply frame_firstRun
    | with_reducible apply frame_deferredNow
    | with_reducible apply Frame.foldlT
    | with_reducible assumption
    | (show (_ : Nat) = _; decide +kernel)
    | (show Nat.testBit _ _ = true; decide +kernel)
    | intro _
    | split)

end Sys2Proof.Laws
end

