-- ==== Sys2Proof/Laws/Frame3.lean ====
section
/-! SUPPORT. Frame laws: what each operation of these files of Machine/ can touch: Holdup, Fuse, Bays, CalCheck, Croak, Capping, Telemetry. -/

namespace Sys2Proof.Laws

open Sys2Proof Sys2Proof.Machine

set_option Elab.async false
set_option linter.all false

theorem frame_setFeedSt {P G : Nat} {s₀ s : State} (h₀ : Frame P G s₀ s) (x : Feed) (v : Nat) (hP : 0x0 &&& P = 0x0) (hG : 0x4000000 &&& G = 0x4000000) : Frame P G s₀ (State.setFeedSt s x v) := by
  refine h₀.step (Q := 0x0) (H := 0x4000000) ?_ hP hG
  unfold State.setFeedSt
  try dsimp only
  iterate 50 all_goals try (first
    | with_reducible apply Frame.ite
    | with_reducible exact Frame.refl _ _ _
    | with_reducible apply frame_put
    | with_reducible apply Frame.foldlT
    | with_reducible assumption
    | (show (_ : Nat) = _; decide +kernel)
    | (show Nat.testBit _ _ = true; decide +kernel)
    | intro _
    | split)

theorem frame_setQcnt {P G : Nat} {s₀ s : State} (h₀ : Frame P G s₀ s) (x : Feed) (v : Nat) (hP : 0x0 &&& P = 0x0) (hG : 0x4000000 &&& G = 0x4000000) : Frame P G s₀ (State.setQcnt s x v) := by
  refine h₀.step (Q := 0x0) (H := 0x4000000) ?_ hP hG
  unfold State.setQcnt
  try dsimp only
  iterate 50 all_goals try (first
    | with_reducible apply Frame.ite
    | with_reducible exact Frame.refl _ _ _
    | with_reducible apply frame_putSat
    | with_reducible apply Frame.foldlT
    | with_reducible assumption
    | (show (_ : Nat) = _; decide +kernel)
    | (show Nat.testBit _ _ = true; decide +kernel)
    | intro _
    | split)

theorem frame_setFeed {P G : Nat} {s₀ s : State} (h₀ : Frame P G s₀ s) (x : Feed) (f : FeedSt) (hP : 0x100000000 &&& P = 0x100000000) (hG : 0x0 &&& G = 0x0) : Frame P G s₀ (State.setFeed s x f) := by
  refine h₀.step (Q := 0x100000000) (H := 0x0) ?_ hP hG
  unfold State.setFeed
  try dsimp only
  iterate 50 all_goals try (first
    | (simp only [Frame.mk_iff]; with_reducible apply FrameC.upd <;> first | with_reducible exact fun _ => rfl | exact fun h => absurd h (by decide +kernel) | with_reducible exact fun _ h => ⟨h, rfl, rfl⟩ | with_reducible exact fun _ _ _ => rfl | with_reducible exact id | with_reducible exact fun h _ => h | with_reducible exact fun _ h => h | skip)
    | with_reducible apply Frame.ite
    | with_reducible exact Frame.refl _ _ _
    | with_reducible apply Frame.foldlT
    | with_reducible assumption
    | (show (_ : Nat) = _; decide +kernel)
    | (show Nat.testBit _ _ = true; decide +kernel)
    | intro _
    | split)

theorem frame_walkDown {P G : Nat} {s₀ s : State} (h₀ : Frame P G s₀ s)  (hP : 0x2000000 &&& P = 0x2000000) (hG : 0x4100000 &&& G = 0x4100000) : Frame P G s₀ (State.walkDown s) := by
  refine h₀.step (Q := 0x2000000) (H := 0x4100000) ?_ hP hG
  unfold State.walkDown
  try dsimp only
  iterate 50 all_goals try (first
    | (simp only [Frame.mk_iff]; with_reducible apply FrameC.upd <;> first | with_reducible exact fun _ => rfl | exact fun h => absurd h (by decide +kernel) | with_reducible exact fun _ h => ⟨h, rfl, rfl⟩ | with_reducible exact fun _ _ _ => rfl | with_reducible exact id | with_reducible exact fun h _ => h | with_reducible exact fun _ h => h | skip)
    | with_reducible apply Frame.ite
    | with_reducible exact Frame.refl _ _ _
    | with_reducible apply frame_putSat
    | with_reducible apply frame_walkTo
    | with_reducible apply Frame.foldlT
    | with_reducible assumption
    | (show (_ : Nat) = _; decide +kernel)
    | (show Nat.testBit _ _ = true; decide +kernel)
    | intro _
    | split)

theorem frame_noStrings {P G : Nat} {s₀ s : State} (h₀ : Frame P G s₀ s)  (hP : 0x1040 &&& P = 0x1040) (hG : 0xc000000020 &&& G = 0xc000000020) : Frame P G s₀ (State.noStrings s) := by
  refine h₀.step (Q := 0x1040) (H := 0xc000000020) ?_ hP hG
  unfold State.noStrings
  try dsimp only
  iterate 50 all_goals try (first
    | with_reducible apply Frame.ite
    | with_reducible exact Frame.refl _ _ _
    | (with_reducible apply frame_raise_low; case hs => decide)
    | with_reducible apply Frame.foldlT
    | with_reducible assumption
    | (show (_ : Nat) = _; decide +kernel)
    | (show Nat.testBit _ _ = true; decide +kernel)
    | intro _
    | split)

theorem frame_rtOff {P G : Nat} {s₀ s : State} (h₀ : Frame P G s₀ s)  (hP : 0x0 &&& P = 0x0) (hG : 0x4000000 &&& G = 0x4000000) : Frame P G s₀ (State.rtOff s) := by
  refine h₀.step (Q := 0x0) (H := 0x4000000) ?_ hP hG
  unfold State.rtOff
  try dsimp only
  iterate 50 all_goals try (first
    | with_reducible apply Frame.ite
    | with_reducible exact Frame.refl _ _ _
    | with_reducible apply frame_put
    | with_reducible apply Frame.foldlT
    | with_reducible assumption
    | (show (_ : Nat) = _; decide +kernel)
    | (show Nat.testBit _ _ = true; decide +kernel)
    | intro _
    | split)

theorem frame_holdStart {P G : Nat} {s₀ s : State} (h₀ : Frame P G s₀ s)  (hP : 0x100000000 &&& P = 0x100000000) (hG : 0x4000000 &&& G = 0x4000000) : Frame P G s₀ (State.holdStart s) := by
  refine h₀.step (Q := 0x100000000) (H := 0x4000000) ?_ hP hG
  unfold State.holdStart
  try dsimp only
  iterate 50 all_goals try (first
    | (simp only [Frame.mk_iff]; with_reducible apply FrameC.upd <;> first | with_reducible exact fun _ => rfl | exact fun h => absurd h (by decide +kernel) | with_reducible exact fun _ h => ⟨h, rfl, rfl⟩ | with_reducible exact fun _ _ _ => rfl | with_reducible exact id | with_reducible exact fun h _ => h | with_reducible exact fun _ h => h | skip)
    | with_reducible apply Frame.ite
    | with_reducible exact Frame.refl _ _ _
    | with_reducible apply frame_put
    | with_reducible apply frame_rtOff
    | with_reducible apply Frame.foldlT
    | with_reducible assumption
    | (show (_ : Nat) = _; decide +kernel)
    | (show Nat.testBit _ _ = true; decide +kernel)
    | intro _
    | split)

theorem frame_countTransition {P G : Nat} {s₀ s : State} (h₀ : Frame P G s₀ s)  (hP : 0x100001040 &&& P = 0x100001040) (hG : 0xc004000020 &&& G = 0xc004000020) : Frame P G s₀ (State.countTransition s) := by
  refine h₀.step (Q := 0x100001040) (H := 0xc004000020) ?_ hP hG
  unfold State.countTransition
  try dsimp only
  iterate 50 all_goals try (first
    | (simp only [Frame.mk_iff]; with_reducible apply FrameC.upd <;> first | with_reducible exact fun _ => rfl | exact fun h => absurd h (by decide +kernel) | with_reducible exact fun _ h => ⟨h, rfl, rfl⟩ | with_reducible exact fun _ _ _ => rfl | with_reducible exact id | with_reducible exact fun h _ => h | with_reducible exact fun _ h => h | skip)
    | with_reducible apply Frame.ite
    | with_reducible exact Frame.refl _ _ _
    | with_reducible apply frame_putSat
    | with_reducible apply frame_flag
    | with_reducible apply frame_bump
    | (with_reducible apply frame_raise_low; case hs => decide)
    | with_reducible apply frame_holdStart
    | with_reducible apply Frame.foldlT
    | with_reducible assumption
    | (show (_ : Nat) = _; decide +kernel)
    | (show Nat.testBit _ _ = true; decide +kernel)
    | intro _
    | split)

theorem frame_bayRelease {P G : Nat} {s₀ s : State} (h₀ : Frame P G s₀ s) (b why : Nat) (hP : 0x2c01040 &&& P = 0x2c01040) (hG : 0xc004130020 &&& G = 0xc004130020) : Frame P G s₀ (State.bayRelease s b why) := by
  refine h₀.step (Q := 0x2c01040) (H := 0xc004130020) ?_ hP hG
  unfold State.bayRelease
  try dsimp only
  iterate 50 all_goals try (first
    | (simp only [Frame.mk_iff]; with_reducible apply FrameC.upd <;> first | with_reducible exact fun _ => rfl | exact fun h => absurd h (by decide +kernel) | with_reducible exact fun _ h => ⟨h, rfl, rfl⟩ | with_reducible exact fun _ _ _ => rfl | with_reducible exact id | with_reducible exact fun h _ => h | with_reducible exact fun _ h => h | skip)
    | with_reducible apply Frame.ite
    | with_reducible exact Frame.refl _ _ _
    | with_reducible apply frame_putBit
    | (with_reducible apply frame_raise_low; case hs => decide)
    | with_reducible apply frame_setBay
    | with_reducible apply frame_allWarm
    | with_reducible apply frame_setBst
    | with_reducible apply frame_outOfShare
    | with_reducible apply frame_rtOff
    | with_reducible apply Frame.foldlT
    | with_reducible assumption
    | (show (_ : Nat) = _; decide +kernel)
    | (show Nat.testBit _ _ = true; decide +kernel)
    | intro _
    | split)

theorem frame_walkCheck {P G : Nat} {s₀ s : State} (h₀ : Frame P G s₀ s)  (hP : 0x0 &&& P = 0x0) (hG : 0x4000000 &&& G = 0x4000000) : Frame P G s₀ (State.walkCheck s) := by
  refine h₀.step (Q := 0x0) (H := 0x4000000) ?_ hP hG
  unfold State.walkCheck
  try dsimp only
  iterate 50 all_goals try (first
    | with_reducible apply Frame.ite
    | with_reducible exact Frame.refl _ _ _
    | with_reducible apply frame_put
    | with_reducible apply Frame.foldlT
    | with_reducible assumption
    | (show (_ : Nat) = _; decide +kernel)
    | (show Nat.testBit _ _ = true; decide +kernel)
    | intro _
    | split)

theorem frame_holdupBay {P G : Nat} {s₀ s : State} (h₀ : Frame P G s₀ s) (b : Nat) (hP : 0x2c01040 &&& P = 0x2c01040) (hG : 0xc004130020 &&& G = 0xc004130020) : Frame P G s₀ (State.holdupBay s b) := by
  refine h₀.step (Q := 0x2c01040) (H := 0xc004130020) ?_ hP hG
  unfold State.holdupBay
  try dsimp only
  iterate 50 all_goals try (first
    | with_reducible apply Frame.ite
    | with_reducible exact Frame.refl _ _ _
    | with_reducible apply frame_allWarm
    | with_reducible apply frame_setBst
    | with_reducible apply frame_outOfShare
    | with_reducible apply frame_bayRelease
    | with_reducible apply frame_walkCheck
    | with_reducible apply Frame.foldlT
    | with_reducible assumption
    | (show (_ : Nat) = _; decide +kernel)
    | (show Nat.testBit _ _ = true; decide +kernel)
    | intro _
    | split)

theorem frame_holdupBays {P G : Nat} {s₀ s : State} (h₀ : Frame P G s₀ s)  (hP : 0x2c01040 &&& P = 0x2c01040) (hG : 0xc004130020 &&& G = 0xc004130020) : Frame P G s₀ (State.holdupBays s) := by
  refine h₀.step (Q := 0x2c01040) (H := 0xc004130020) ?_ hP hG
  unfold State.holdupBays
  try dsimp only
  iterate 50 all_goals try (first
    | with_reducible apply Frame.ite
    | with_reducible exact Frame.refl _ _ _
    | with_reducible apply frame_holdupBay
    | with_reducible apply Frame.foldlT
    | with_reducible assumption
    | (show (_ : Nat) = _; decide +kernel)
    | (show Nat.testBit _ _ = true; decide +kernel)
    | intro _
    | split)

theorem frame_toWalkdown {P G : Nat} {s₀ s : State} (h₀ : Frame P G s₀ s) (armed : Bool) (hP : 0x2001040 &&& P = 0x2001040) (hG : 0xc004100020 &&& G = 0xc004100020) : Frame P G s₀ (State.toWalkdown s armed) := by
  refine h₀.step (Q := 0x2001040) (H := 0xc004100020) ?_ hP hG
  unfold State.toWalkdown
  try dsimp only
  iterate 50 all_goals try (first
    | with_reducible apply Frame.ite
    | with_reducible exact Frame.refl _ _ _
    | with_reducible apply frame_put
    | with_reducible apply frame_putB
    | with_reducible apply frame_walkDown
    | with_reducible apply frame_noStrings
    | with_reducible apply Frame.foldlT
    | with_reducible assumption
    | (show (_ : Nat) = _; decide +kernel)
    | (show Nat.testBit _ _ = true; decide +kernel)
    | intro _
    | split)

theorem frame_rtReset {P G : Nat} {s₀ s : State} (h₀ : Frame P G s₀ s)  (hP : 0x100000000 &&& P = 0x100000000) (hG : 0x0 &&& G = 0x0) : Frame P G s₀ (State.rtReset s) := by
  refine h₀.step (Q := 0x100000000) (H := 0x0) ?_ hP hG
  unfold State.rtReset
  try dsimp only
  iterate 50 all_goals try (first
    | (simp only [Frame.mk_iff]; with_reducible apply FrameC.upd <;> first | with_reducible exact fun _ => rfl | exact fun h => absurd h (by decide +kernel) | with_reducible exact fun _ h => ⟨h, rfl, rfl⟩ | with_reducible exact fun _ _ _ => rfl | with_reducible exact id | with_reducible exact fun h _ => h | with_reducible exact fun _ h => h | skip)
    | with_reducible apply Frame.ite
    | with_reducible exact Frame.refl _ _ _
    | with_reducible apply Frame.foldlT
    | with_reducible assumption
    | (show (_ : Nat) = _; decide +kernel)
    | (show Nat.testBit _ _ = true; decide +kernel)
    | intro _
    | split)

theorem frame_holdupFresh {P G : Nat} {s₀ s : State} (h₀ : Frame P G s₀ s)  (hP : 0x100800000 &&& P = 0x100800000) (hG : 0x4000000 &&& G = 0x4000000) : Frame P G s₀ (State.holdupFresh s) := by
  refine h₀.step (Q := 0x100800000) (H := 0x4000000) ?_ hP hG
  unfold State.holdupFresh
  try dsimp only
  iterate 50 all_goals try (first
    | (simp only [Frame.mk_iff]; with_reducible apply FrameC.upd <;> first | with_reducible exact fun _ => rfl | exact fun h => absurd h (by decide +kernel) | with_reducible exact fun _ h => ⟨h, rfl, rfl⟩ | with_reducible exact fun _ _ _ => rfl | with_reducible exact id | with_reducible exact fun h _ => h | with_reducible exact fun _ h => h | skip)
    | with_reducible apply Frame.ite
    | with_reducible exact Frame.refl _ _ _
    | with_reducible apply frame_put
    | with_reducible apply frame_setBay
    | with_reducible apply Frame.foldlT
    | with_reducible assumption
    | (show (_ : Nat) = _; decide +kernel)
    | (show Nat.testBit _ _ = true; decide +kernel)
    | intro _
    | split)

theorem frame_enterHoldup {P G : Nat} {s₀ s : State} (h₀ : Frame P G s₀ s) (cause : Nat) (armed : Bool) (hP : 0xd66861c78 &&& P = 0xd66861c78) (hG : 0x400500c00c900024 &&& G = 0x400500c00c900024) : Frame P G s₀ (State.enterHoldup s cause armed) := by
  refine h₀.step (Q := 0xd66861c78) (H := 0x400500c00c900024) ?_ hP hG
  unfold State.enterHoldup
  try dsimp only
  iterate 50 all_goals try (first
    | with_reducible apply Frame.ite
    | with_reducible exact Frame.refl _ _ _
    | with_reducible apply frame_putSat
    | with_reducible apply frame_changeMode
    | with_reducible apply frame_sagCloseAll
    | with_reducible apply frame_chargeStops
    | with_reducible apply frame_parkSlew
    | with_reducible apply frame_toWalkdown
    | with_reducible apply frame_holdupFresh
    | with_reducible apply Frame.foldlT
    | with_reducible assumption
    | (show (_ : Nat) = _; decide +kernel)
    | (show Nat.testBit _ _ = true; decide +kernel)
    | intro _
    | split)

theorem frame_outageRecord {P G : Nat} {s₀ s : State} (h₀ : Frame P G s₀ s) (x : Feed) (hP : 0x100001040 &&& P = 0x100001040) (hG : 0xc004000020 &&& G = 0xc004000020) : Frame P G s₀ (State.outageRecord s x) := by
  refine h₀.step (Q := 0x100001040) (H := 0xc004000020) ?_ hP hG
  unfold State.outageRecord
  try dsimp only
  iterate 50 all_goals try (first
    | (simp only [Frame.mk_iff]; with_reducible apply FrameC.upd <;> first | with_reducible exact fun _ => rfl | exact fun h => absurd h (by decide +kernel) | with_reducible exact fun _ h => ⟨h, rfl, rfl⟩ | with_reducible exact fun _ _ _ => rfl | with_reducible exact id | with_reducible exact fun h _ => h | with_reducible exact fun _ h => h | skip)
    | with_reducible apply Frame.ite
    | with_reducible exact Frame.refl _ _ _
    | with_reducible apply frame_putSat
    | with_reducible apply frame_flag
    | with_reducible apply frame_bump
    | (with_reducible apply frame_raise_low; case hs => decide)
    | with_reducible apply frame_rtReset
    | with_reducible apply Frame.foldlT
    | with_reducible assumption
    | (show (_ : Nat) = _; decide +kernel)
    | (show Nat.testBit _ _ = true; decide +kernel)
    | intro _
    | split)

theorem frame_lossInHoldup {P G : Nat} {s₀ s : State} (h₀ : Frame P G s₀ s)  (hP : 0x102c01040 &&& P = 0x102c01040) (hG : 0xc004130020 &&& G = 0xc004130020) : Frame P G s₀ (State.lossInHoldup s) := by
  refine h₀.step (Q := 0x102c01040) (H := 0xc004130020) ?_ hP hG
  unfold State.lossInHoldup
  try dsimp only
  iterate 50 all_goals try (first
    | (simp only [Frame.mk_iff]; with_reducible apply FrameC.upd <;> first | with_reducible exact fun _ => rfl | exact fun h => absurd h (by decide +kernel) | with_reducible exact fun _ h => ⟨h, rfl, rfl⟩ | with_reducible exact fun _ _ _ => rfl | with_reducible exact id | with_reducible exact fun h _ => h | with_reducible exact fun _ h => h | skip)
    | with_reducible apply Frame.ite
    | with_reducible exact Frame.refl _ _ _
    | with_reducible apply frame_put
    | with_reducible apply frame_holdStart
    | with_reducible apply frame_holdupBays
    | with_reducible apply frame_toWalkdown
    | with_reducible apply Frame.foldlT
    | with_reducible assumption
    | (show (_ : Nat) = _; decide +kernel)
    | (show Nat.testBit _ _ = true; decide +kernel)
    | intro _
    | split)

theorem frame_declare {P G : Nat} {s₀ s : State} (h₀ : Frame P G s₀ s) (x : Feed) (hP : 0xd66c61c78 &&& P = 0xd66c61c78) (hG : 0x400500c00c930024 &&& G = 0x400500c00c930024) : Frame P G s₀ (State.declare s x) := by
  refine h₀.step (Q := 0xd66c61c78) (H := 0x400500c00c930024) ?_ hP hG
  unfold State.declare
  try dsimp only
  iterate 50 all_goals try (first
    | with_reducible apply Frame.ite
    | with_reducible exact Frame.refl _ _ _
    | with_reducible apply frame_countTransition
    | with_reducible apply frame_enterHoldup
    | with_reducible apply frame_outageRecord
    | with_reducible apply frame_lossInHoldup
    | with_reducible apply Frame.foldlT
    | with_reducible assumption
    | (show (_ : Nat) = _; decide +kernel)
    | (show Nat.testBit _ _ = true; decide +kernel)
    | intro _
    | split)

theorem frame_restartBay {P G : Nat} {s₀ s : State} (h₀ : Frame P G s₀ s) (b : Nat) (hP : 0x3c01040 &&& P = 0x3c01040) (hG : 0xc100330020 &&& G = 0xc100330020) : Frame P G s₀ (State.restartBay s b) := by
  refine h₀.step (Q := 0x3c01040) (H := 0xc100330020) ?_ hP hG
  unfold State.restartBay
  try dsimp only
  iterate 50 all_goals try (first
    | (simp only [Frame.mk_iff]; with_reducible apply FrameC.upd <;> first | with_reducible exact fun _ => rfl | exact fun h => absurd h (by decide +kernel) | with_reducible exact fun _ h => ⟨h, rfl, rfl⟩ | with_reducible exact fun _ _ _ => rfl | with_reducible exact id | with_reducible exact fun h _ => h | with_reducible exact fun _ h => h | skip)
    | with_reducible apply Frame.ite
    | with_reducible exact Frame.refl _ _ _
    | with_reducible apply frame_setBay
    | with_reducible apply frame_bayReady
    | with_reducible apply frame_setNt
    | with_reducible apply Frame.foldlT
    | with_reducible assumption
    | (show (_ : Nat) = _; decide +kernel)
    | (show Nat.testBit _ _ = true; decide +kernel)
    | intro _
    | split)

theorem frame_staggerNext {P G : Nat} {s₀ s : State} (h₀ : Frame P G s₀ s)  (hP : 0x103c01040 &&& P = 0x103c01040) (hG : 0xc100330020 &&& G = 0xc100330020) : Frame P G s₀ (State.staggerNext s) := by
  refine h₀.step (Q := 0x103c01040) (H := 0xc100330020) ?_ hP hG
  unfold State.staggerNext
  try dsimp only
  iterate 50 all_goals try (first
    | (simp only [Frame.mk_iff]; with_reducible apply FrameC.upd <;> first | with_reducible exact fun _ => rfl | exact fun h => absurd h (by decide +kernel) | with_reducible exact fun _ h => ⟨h, rfl, rfl⟩ | with_reducible exact fun _ _ _ => rfl | with_reducible exact id | with_reducible exact fun h _ => h | with_reducible exact fun _ h => h | skip)
    | with_reducible apply Frame.ite
    | with_reducible exact Frame.refl _ _ _
    | with_reducible apply frame_restartBay
    | with_reducible apply Frame.foldlT
    | with_reducible assumption
    | (show (_ : Nat) = _; decide +kernel)
    | (show Nat.testBit _ _ = true; decide +kernel)
    | intro _
    | split)

theorem frame_toRestart {P G : Nat} {s₀ s : State} (h₀ : Frame P G s₀ s)  (hP : 0x103c01040 &&& P = 0x103c01040) (hG : 0xc104330020 &&& G = 0xc104330020) : Frame P G s₀ (State.toRestart s) := by
  refine h₀.step (Q := 0x103c01040) (H := 0xc104330020) ?_ hP hG
  unfold State.toRestart
  try dsimp only
  iterate 50 all_goals try (first
    | (simp only [Frame.mk_iff]; with_reducible apply FrameC.upd <;> first | with_reducible exact fun _ => rfl | exact fun h => absurd h (by decide +kernel) | with_reducible exact fun _ h => ⟨h, rfl, rfl⟩ | with_reducible exact fun _ _ _ => rfl | with_reducible exact id | with_reducible exact fun h _ => h | with_reducible exact fun _ h => h | skip)
    | with_reducible apply Frame.ite
    | with_reducible exact Frame.refl _ _ _
    | with_reducible apply frame_put
    | with_reducible apply frame_setBay
    | with_reducible apply frame_setBst
    | with_reducible apply frame_staggerNext
    | with_reducible apply Frame.foldlT
    | with_reducible assumption
    | (show (_ : Nat) = _; decide +kernel)
    | (show Nat.testBit _ _ = true; decide +kernel)
    | intro _
    | split)

theorem frame_toWalkup {P G : Nat} {s₀ s : State} (h₀ : Frame P G s₀ s)  (hP : 0x2000000 &&& P = 0x2000000) (hG : 0x4100000 &&& G = 0x4100000) : Frame P G s₀ (State.toWalkup s) := by
  refine h₀.step (Q := 0x2000000) (H := 0x4100000) ?_ hP hG
  unfold State.toWalkup
  try dsimp only
  iterate 50 all_goals try (first
    | with_reducible apply Frame.ite
    | with_reducible exact Frame.refl _ _ _
    | with_reducible apply frame_put
    | with_reducible apply frame_walkTo
    | with_reducible apply Frame.foldlT
    | with_reducible assumption
    | (show (_ : Nat) = _; decide +kernel)
    | (show Nat.testBit _ _ = true; decide +kernel)
    | intro _
    | split)

theorem frame_rejoinAll {P G : Nat} {s₀ s : State} (h₀ : Frame P G s₀ s)  (hP : 0x3c01040 &&& P = 0x3c01040) (hG : 0xc100130020 &&& G = 0xc100130020) : Frame P G s₀ (State.rejoinAll s) := by
  refine h₀.step (Q := 0x3c01040) (H := 0xc100130020) ?_ hP hG
  unfold State.rejoinAll
  try dsimp only
  iterate 50 all_goals try (first
    | with_reducible apply Frame.ite
    | with_reducible exact Frame.refl _ _ _
    | with_reducible apply frame_bringIn
    | with_reducible apply Frame.foldlT
    | with_reducible assumption
    | (show (_ : Nat) = _; decide +kernel)
    | (show Nat.testBit _ _ = true; decide +kernel)
    | intro _
    | split)

theorem frame_rideThrough {P G : Nat} {s₀ s : State} (h₀ : Frame P G s₀ s) (x : Feed) (hP : 0x3c01040 &&& P = 0x3c01040) (hG : 0xc104130020 &&& G = 0xc104130020) : Frame P G s₀ (State.rideThrough s x) := by
  refine h₀.step (Q := 0x3c01040) (H := 0xc104130020) ?_ hP hG
  unfold State.rideThrough
  try dsimp only
  iterate 50 all_goals try (first
    | with_reducible apply Frame.ite
    | with_reducible exact Frame.refl _ _ _
    | with_reducible apply frame_bump
    | (with_reducible apply frame_raise_low; case hs => decide)
    | with_reducible apply frame_toWalkup
    | with_reducible apply frame_rejoinAll
    | with_reducible apply Frame.foldlT
    | with_reducible assumption
    | (show (_ : Nat) = _; decide +kernel)
    | (show Nat.testBit _ _ = true; decide +kernel)
    | intro _
    | split)

theorem frame_returnInHoldup {P G : Nat} {s₀ s : State} (h₀ : Frame P G s₀ s) (x : Feed) (hP : 0x103c01040 &&& P = 0x103c01040) (hG : 0xc104330020 &&& G = 0xc104330020) : Frame P G s₀ (State.returnInHoldup s x) := by
  refine h₀.step (Q := 0x103c01040) (H := 0xc104330020) ?_ hP hG
  unfold State.returnInHoldup
  try dsimp only
  iterate 50 all_goals try (first
    | (simp only [Frame.mk_iff]; with_reducible apply FrameC.upd <;> first | with_reducible exact fun _ => rfl | exact fun h => absurd h (by decide +kernel) | with_reducible exact fun _ h => ⟨h, rfl, rfl⟩ | with_reducible exact fun _ _ _ => rfl | with_reducible exact id | with_reducible exact fun h _ => h | with_reducible exact fun _ h => h | skip)
    | with_reducible apply Frame.ite
    | with_reducible exact Frame.refl _ _ _
    | with_reducible apply frame_put
    | with_reducible apply frame_countTransition
    | with_reducible apply frame_toRestart
    | with_reducible apply frame_rejoinAll
    | with_reducible apply frame_rideThrough
    | with_reducible apply Frame.foldlT
    | with_reducible assumption
    | (show (_ : Nat) = _; decide +kernel)
    | (show Nat.testBit _ _ = true; decide +kernel)
    | intro _
    | split)

theorem frame_mainsChange {P G : Nat} {s₀ s : State} (h₀ : Frame P G s₀ s) (x : Feed) (hP : 0xd67c61c78 &&& P = 0xd67c61c78) (hG : 0x400500c10cb30024 &&& G = 0x400500c10cb30024) : Frame P G s₀ (State.mainsChange s x) := by
  refine h₀.step (Q := 0xd67c61c78) (H := 0x400500c10cb30024) ?_ hP hG
  unfold State.mainsChange
  try dsimp only
  iterate 50 all_goals try (first
    | with_reducible apply Frame.ite
    | with_reducible exact Frame.refl _ _ _
    | with_reducible apply frame_putB
    | with_reducible apply frame_declare
    | with_reducible apply frame_returnInHoldup
    | with_reducible apply Frame.foldlT
    | with_reducible assumption
    | (show (_ : Nat) = _; decide +kernel)
    | (show Nat.testBit _ _ = true; decide +kernel)
    | intro _
    | split)

theorem frame_feedLose {P G : Nat} {s₀ s : State} (h₀ : Frame P G s₀ s) (x : Feed) (why phase : Nat) (hP : 0xd67c61c78 &&& P = 0xd67c61c78) (hG : 0x400500c10cb30024 &&& G = 0x400500c10cb30024) : Frame P G s₀ (State.feedLose s x why phase) := by
  refine h₀.step (Q := 0xd67c61c78) (H := 0x400500c10cb30024) ?_ hP hG
  unfold State.feedLose
  try dsimp only
  iterate 50 all_goals try (first
    | (simp only [Frame.mk_iff]; with_reducible apply FrameC.upd <;> first | with_reducible exact fun _ => rfl | exact fun h => absurd h (by decide +kernel) | with_reducible exact fun _ h => ⟨h, rfl, rfl⟩ | with_reducible exact fun _ _ _ => rfl | with_reducible exact id | with_reducible exact fun h _ => h | with_reducible exact fun _ h => h | skip)
    | with_reducible apply Frame.ite
    | with_reducible exact Frame.refl _ _ _
    | with_reducible apply frame_put
    | with_reducible apply frame_flag
    | (with_reducible apply frame_raise_low; case hs => decide)
    | with_reducible apply frame_setFeedSt
    | with_reducible apply frame_setQcnt
    | with_reducible apply frame_setFeed
    | with_reducible apply frame_mainsChange
    | with_reducible apply Frame.foldlT
    | with_reducible assumption
    | (show (_ : Nat) = _; decide +kernel)
    | (show Nat.testBit _ _ = true; decide +kernel)
    | intro _
    | split)

theorem frame_feedQualify {P G : Nat} {s₀ s : State} (h₀ : Frame P G s₀ s) (x : Feed) (n : Nat) (hP : 0xd67c61c78 &&& P = 0xd67c61c78) (hG : 0x400500c10cb30024 &&& G = 0x400500c10cb30024) : Frame P G s₀ (State.feedQualify s x n) := by
  refine h₀.step (Q := 0xd67c61c78) (H := 0x400500c10cb30024) ?_ hP hG
  unfold State.feedQualify
  try dsimp only
  iterate 50 all_goals try (first
    | (simp only [Frame.mk_iff]; with_reducible apply FrameC.upd <;> first | with_reducible exact fun _ => rfl | exact fun h => absurd h (by decide +kernel) | with_reducible exact fun _ h => ⟨h, rfl, rfl⟩ | with_reducible exact fun _ _ _ => rfl | with_reducible exact id | with_reducible exact fun h _ => h | with_reducible exact fun _ h => h | skip)
    | with_reducible apply Frame.ite
    | with_reducible exact Frame.refl _ _ _
    | with_reducible apply frame_flag
    | (with_reducible apply frame_raise_low; case hs => decide)
    | with_reducible apply frame_setFeedSt
    | with_reducible apply frame_setFeed
    | with_reducible apply frame_mainsChange
    | with_reducible apply Frame.foldlT
    | with_reducible assumption
    | (show (_ : Nat) = _; decide +kernel)
    | (show Nat.testBit _ _ = true; decide +kernel)
    | intro _
    | split)

theorem frame_goodCycle {P G : Nat} {s₀ s : State} (h₀ : Frame P G s₀ s) (x : Feed) (hP : 0xd67c61c78 &&& P = 0xd67c61c78) (hG : 0x400500c10cb30024 &&& G = 0x400500c10cb30024) : Frame P G s₀ (State.goodCycle s x) := by
  refine h₀.step (Q := 0xd67c61c78) (H := 0x400500c10cb30024) ?_ hP hG
  unfold State.goodCycle
  try dsimp only
  iterate 50 all_goals try (first
    | with_reducible apply Frame.ite
    | with_reducible exact Frame.refl _ _ _
    | with_reducible apply frame_flag
    | with_reducible apply frame_setFeedSt
    | with_reducible apply frame_setQcnt
    | with_reducible apply frame_feedQualify
    | with_reducible apply Frame.foldlT
    | with_reducible assumption
    | (show (_ : Nat) = _; decide +kernel)
    | (show Nat.testBit _ _ = true; decide +kernel)
    | intro _
    | split)

theorem frame_feedPass {P G : Nat} {s₀ s : State} (h₀ : Frame P G s₀ s) (x : Feed) (hP : 0x100000000 &&& P = 0x100000000) (hG : 0x0 &&& G = 0x0) : Frame P G s₀ (State.feedPass s x) := by
  refine h₀.step (Q := 0x100000000) (H := 0x0) ?_ hP hG
  unfold State.feedPass
  try dsimp only
  iterate 50 all_goals try (first
    | (simp only [Frame.mk_iff]; with_reducible apply FrameC.upd <;> first | with_reducible exact fun _ => rfl | exact fun h => absurd h (by decide +kernel) | with_reducible exact fun _ h => ⟨h, rfl, rfl⟩ | with_reducible exact fun _ _ _ => rfl | with_reducible exact id | with_reducible exact fun h _ => h | with_reducible exact fun _ h => h | skip)
    | with_reducible apply Frame.ite
    | with_reducible exact Frame.refl _ _ _
    | with_reducible apply frame_setFeed
    | with_reducible apply Frame.foldlT
    | with_reducible assumption
    | (show (_ : Nat) = _; decide +kernel)
    | (show Nat.testBit _ _ = true; decide +kernel)
    | intro _
    | split)

theorem frame_crestCheck {P G : Nat} {s₀ s : State} (h₀ : Frame P G s₀ s) (x : Feed) (p k : Nat) (m : Rat) (hP : 0xd67c61c78 &&& P = 0xd67c61c78) (hG : 0x400500c10cb30024 &&& G = 0x400500c10cb30024) : Frame P G s₀ (State.crestCheck s x p k m) := by
  refine h₀.step (Q := 0xd67c61c78) (H := 0x400500c10cb30024) ?_ hP hG
  unfold State.crestCheck
  try dsimp only
  iterate 50 all_goals try (first
    | (simp only [Frame.mk_iff]; with_reducible apply FrameC.upd <;> first | with_reducible exact fun _ => rfl | exact fun h => absurd h (by decide +kernel) | with_reducible exact fun _ h => ⟨h, rfl, rfl⟩ | with_reducible exact fun _ _ _ => rfl | with_reducible exact id | with_reducible exact fun h _ => h | with_reducible exact fun _ h => h | skip)
    | with_reducible apply Frame.ite
    | with_reducible exact Frame.refl _ _ _
    | with_reducible apply frame_setFeed
    | with_reducible apply frame_feedLose
    | with_reducible apply frame_feedQualify
    | with_reducible apply frame_feedPass
    | with_reducible apply Frame.foldlT
    | with_reducible assumption
    | (show (_ : Nat) = _; decide +kernel)
    | (show Nat.testBit _ _ = true; decide +kernel)
    | intro _
    | split)

theorem frame_rmsWindow {P G : Nat} {s₀ s : State} (h₀ : Frame P G s₀ s) (x : Feed) (p rms : Nat) (hP : 0xd67c61c78 &&& P = 0xd67c61c78) (hG : 0x400500c10cb30024 &&& G = 0x400500c10cb30024) : Frame P G s₀ (State.rmsWindow s x p rms) := by
  refine h₀.step (Q := 0xd67c61c78) (H := 0x400500c10cb30024) ?_ hP hG
  unfold State.rmsWindow
  try dsimp only
  iterate 50 all_goals try (first
    | with_reducible apply Frame.ite
    | with_reducible exact Frame.refl _ _ _
    | with_reducible apply frame_putAtSat
    | with_reducible apply frame_feedLose
    | with_reducible apply frame_feedPass
    | with_reducible apply Frame.foldlT
    | with_reducible assumption
    | (show (_ : Nat) = _; decide +kernel)
    | (show Nat.testBit _ _ = true; decide +kernel)
    | intro _
    | split)

theorem frame_cycleEnd {P G : Nat} {s₀ s : State} (h₀ : Frame P G s₀ s) (x : Feed) (leads : Bool) (hP : 0xd67c61c7c &&& P = 0xd67c61c7c) (hG : 0x400500c10cb30024 &&& G = 0x400500c10cb30024) : Frame P G s₀ (State.cycleEnd s x leads) := by
  refine h₀.step (Q := 0xd67c61c7c) (H := 0x400500c10cb30024) ?_ hP hG
  unfold State.cycleEnd
  try dsimp only
  iterate 50 all_goals try (first
    | (simp only [Frame.mk_iff]; with_reducible apply FrameC.upd <;> first | with_reducible exact fun _ => rfl | exact fun h => absurd h (by decide +kernel) | with_reducible exact fun _ h => ⟨h, rfl, rfl⟩ | with_reducible exact fun _ _ _ => rfl | with_reducible exact id | with_reducible exact fun h _ => h | with_reducible exact fun _ h => h | skip)
    | with_reducible apply Frame.ite
    | with_reducible exact Frame.refl _ _ _
    | (refine frame_takeFree_of ‹_› ?_ ?_ ?_)
    | with_reducible apply frame_takeFree
    | with_reducible apply frame_setFeed
    | with_reducible apply frame_feedLose
    | with_reducible apply frame_goodCycle
    | with_reducible apply Frame.foldlT
    | with_reducible assumption
    | (show (_ : Nat) = _; decide +kernel)
    | (show Nat.testBit _ _ = true; decide +kernel)
    | intro _
    | split)

theorem frame_restartTick {P G : Nat} {s₀ s : State} (h₀ : Frame P G s₀ s)  (hP : 0x2000000 &&& P = 0x2000000) (hG : 0x4100000 &&& G = 0x4100000) : Frame P G s₀ (State.restartTick s) := by
  refine h₀.step (Q := 0x2000000) (H := 0x4100000) ?_ hP hG
  unfold State.restartTick
  try dsimp only
  iterate 50 all_goals try (first
    | with_reducible apply Frame.ite
    | with_reducible exact Frame.refl _ _ _
    | with_reducible apply frame_toWalkup
    | with_reducible apply Frame.foldlT
    | with_reducible assumption
    | (show (_ : Nat) = _; decide +kernel)
    | (show Nat.testBit _ _ = true; decide +kernel)
    | intro _
    | split)

theorem frame_handbackDone {P G : Nat} {s₀ s : State} (h₀ : Frame P G s₀ s)  (hP : 0xc22861c78 &&& P = 0xc22861c78) (hG : 0x400500c004100024 &&& G = 0x400500c004100024) : Frame P G s₀ (State.handbackDone s) := by
  refine h₀.step (Q := 0xc22861c78) (H := 0x400500c004100024) ?_ hP hG
  unfold State.handbackDone
  try dsimp only
  iterate 50 all_goals try (first
    | (simp only [Frame.mk_iff]; with_reducible apply FrameC.upd <;> first | with_reducible exact fun _ => rfl | exact fun h => absurd h (by decide +kernel) | with_reducible exact fun _ h => ⟨h, rfl, rfl⟩ | with_reducible exact fun _ _ _ => rfl | with_reducible exact id | with_reducible exact fun h _ => h | with_reducible exact fun _ h => h | skip)
    | with_reducible apply Frame.ite
    | with_reducible exact Frame.refl _ _ _
    | with_reducible apply frame_put
    | with_reducible apply frame_putSat
    | with_reducible apply frame_flag
    | (with_reducible apply frame_raise_low; case hs => decide)
    | with_reducible apply frame_changeMode
    | with_reducible apply frame_eligRun
    | with_reducible apply frame_parkedDone
    | with_reducible apply frame_runEntered
    | with_reducible apply frame_rtOff
    | with_reducible apply Frame.foldlT
    | with_reducible assumption
    | (show (_ : Nat) = _; decide +kernel)
    | (show Nat.testBit _ _ = true; decide +kernel)
    | intro _
    | split)

theorem frame_holdOver {P G : Nat} {s₀ s : State} (h₀ : Frame P G s₀ s)  (hP : 0x103c01040 &&& P = 0x103c01040) (hG : 0xc104330020 &&& G = 0xc104330020) : Frame P G s₀ (State.holdOver s) := by
  refine h₀.step (Q := 0x103c01040) (H := 0xc104330020) ?_ hP hG
  unfold State.holdOver
  try dsimp only
  iterate 50 all_goals try (first
    | (simp only [Frame.mk_iff]; with_reducible apply FrameC.upd <;> first | with_reducible exact fun _ => rfl | exact fun h => absurd h (by decide +kernel) | with_reducible exact fun _ h => ⟨h, rfl, rfl⟩ | with_reducible exact fun _ _ _ => rfl | with_reducible exact id | with_reducible exact fun h _ => h | with_reducible exact fun _ h => h | skip)
    | with_reducible apply Frame.ite
    | with_reducible exact Frame.refl _ _ _
    | with_reducible apply frame_put
    | with_reducible apply frame_toRestart
    | with_reducible apply frame_rejoinAll
    | with_reducible apply Frame.foldlT
    | with_reducible assumption
    | (show (_ : Nat) = _; decide +kernel)
    | (show Nat.testBit _ _ = true; decide +kernel)
    | intro _
    | split)

theorem frame_energyTick {P G : Nat} {s₀ s : State} (h₀ : Frame P G s₀ s)  (hP : 0x103c01040 &&& P = 0x103c01040) (hG : 0xc104330020 &&& G = 0xc104330020) : Frame P G s₀ (State.energyTick s) := by
  refine h₀.step (Q := 0x103c01040) (H := 0xc104330020) ?_ hP hG
  unfold State.energyTick
  try dsimp only
  iterate 50 all_goals try (first
    | (simp only [Frame.mk_iff]; with_reducible apply FrameC.upd <;> first | with_reducible exact fun _ => rfl | exact fun h => absurd h (by decide +kernel) | with_reducible exact fun _ h => ⟨h, rfl, rfl⟩ | with_reducible exact fun _ _ _ => rfl | with_reducible exact id | with_reducible exact fun h _ => h | with_reducible exact fun _ h => h | skip)
    | with_reducible apply Frame.ite
    | with_reducible exact Frame.refl _ _ _
    | with_reducible apply frame_flag
    | (with_reducible apply frame_raise_low; case hs => decide)
    | with_reducible apply frame_holdOver
    | with_reducible apply Frame.foldlT
    | with_reducible assumption
    | (show (_ : Nat) = _; decide +kernel)
    | (show Nat.testBit _ _ = true; decide +kernel)
    | intro _
    | split)

theorem frame_holdupTick {P G : Nat} {s₀ s : State} (h₀ : Frame P G s₀ s) (dt : Nat) (hP : 0x102000000 &&& P = 0x102000000) (hG : 0x4100000 &&& G = 0x4100000) : Frame P G s₀ (State.holdupTick s dt) := by
  refine h₀.step (Q := 0x102000000) (H := 0x4100000) ?_ hP hG
  unfold State.holdupTick
  try dsimp only
  iterate 50 all_goals try (first
    | (simp only [Frame.mk_iff]; with_reducible apply FrameC.upd <;> first | with_reducible exact fun _ => rfl | exact fun h => absurd h (by decide +kernel) | with_reducible exact fun _ h => ⟨h, rfl, rfl⟩ | with_reducible exact fun _ _ _ => rfl | with_reducible exact id | with_reducible exact fun h _ => h | with_reducible exact fun _ h => h | skip)
    | with_reducible apply Frame.ite
    | with_reducible exact Frame.refl _ _ _
    | with_reducible apply frame_putSat
    | with_reducible apply frame_walkDown
    | with_reducible apply frame_restartTick
    | with_reducible apply Frame.foldlT
    | with_reducible assumption
    | (show (_ : Nat) = _; decide +kernel)
    | (show Nat.testBit _ _ = true; decide +kernel)
    | intro _
    | split)

theorem frame_walkLanded {P G : Nat} {s₀ s : State} (h₀ : Frame P G s₀ s)  (hP : 0x102000000 &&& P = 0x102000000) (hG : 0x4000000 &&& G = 0x4000000) : Frame P G s₀ (State.walkLanded s) := by
  refine h₀.step (Q := 0x102000000) (H := 0x4000000) ?_ hP hG
  unfold State.walkLanded
  try dsimp only
  iterate 50 all_goals try (first
    | (simp only [Frame.mk_iff]; with_reducible apply FrameC.upd <;> first | with_reducible exact fun _ => rfl | exact fun h => absurd h (by decide +kernel) | with_reducible exact fun _ h => ⟨h, rfl, rfl⟩ | with_reducible exact fun _ _ _ => rfl | with_reducible exact id | with_reducible exact fun h _ => h | with_reducible exact fun _ h => h | skip)
    | with_reducible apply Frame.ite
    | with_reducible exact Frame.refl _ _ _
    | with_reducible apply frame_put
    | with_reducible apply frame_walkCheck
    | with_reducible apply Frame.foldlT
    | with_reducible assumption
    | (show (_ : Nat) = _; decide +kernel)
    | (show Nat.testBit _ _ = true; decide +kernel)
    | intro _
    | split)

theorem frame_slewStep {P G : Nat} {s₀ s : State} (h₀ : Frame P G s₀ s)  (hP : 0x102001040 &&& P = 0x102001040) (hG : 0xc004100020 &&& G = 0xc004100020) : Frame P G s₀ (State.slewStep s) := by
  refine h₀.step (Q := 0x102001040) (H := 0xc004100020) ?_ hP hG
  unfold State.slewStep
  try dsimp only
  iterate 50 all_goals try (first
    | (simp only [Frame.mk_iff]; with_reducible apply FrameC.upd <;> first | with_reducible exact fun _ => rfl | exact fun h => absurd h (by decide +kernel) | with_reducible exact fun _ h => ⟨h, rfl, rfl⟩ | with_reducible exact fun _ _ _ => rfl | with_reducible exact id | with_reducible exact fun h _ => h | with_reducible exact fun _ h => h | skip)
    | with_reducible apply Frame.ite
    | with_reducible exact Frame.refl _ _ _
    | with_reducible apply frame_setpointDone
    | (refine frame_slew_of ‹_› ?_ ?_ ?_)
    | with_reducible apply frame_slew
    | with_reducible apply frame_walkLanded
    | with_reducible apply Frame.foldlT
    | with_reducible assumption
    | (show (_ : Nat) = _; decide +kernel)
    | (show Nat.testBit _ _ = true; decide +kernel)
    | intro _
    | split)

theorem frame_crestCycle {P G : Nat} {s₀ s : State} (h₀ : Frame P G s₀ s) (x : Feed) (crest : Nat) (hP : 0x100000000 &&& P = 0x100000000) (hG : 0x4000000 &&& G = 0x4000000) : Frame P G s₀ (State.crestCycle s x crest) := by
  refine h₀.step (Q := 0x100000000) (H := 0x4000000) ?_ hP hG
  unfold State.crestCycle
  try dsimp only
  iterate 50 all_goals try (first
    | (simp only [Frame.mk_iff]; with_reducible apply FrameC.upd <;> first | with_reducible exact fun _ => rfl | exact fun h => absurd h (by decide +kernel) | with_reducible exact fun _ h => ⟨h, rfl, rfl⟩ | with_reducible exact fun _ _ _ => rfl | with_reducible exact id | with_reducible exact fun h _ => h | with_reducible exact fun _ h => h | skip)
    | with_reducible apply Frame.ite
    | with_reducible exact Frame.refl _ _ _
    | with_reducible apply frame_putSat
    | with_reducible apply frame_setFeed
    | with_reducible apply Frame.foldlT
    | with_reducible assumption
    | (show (_ : Nat) = _; decide +kernel)
    | (show Nat.testBit _ _ = true; decide +kernel)
    | intro _
    | split)

theorem frame_crestSpoil {P G : Nat} {s₀ s : State} (h₀ : Frame P G s₀ s)  (hP : 0x100000000 &&& P = 0x100000000) (hG : 0x0 &&& G = 0x0) : Frame P G s₀ (State.crestSpoil s) := by
  refine h₀.step (Q := 0x100000000) (H := 0x0) ?_ hP hG
  unfold State.crestSpoil
  try dsimp only
  iterate 50 all_goals try (first
    | (simp only [Frame.mk_iff]; with_reducible apply FrameC.upd <;> first | with_reducible exact fun _ => rfl | exact fun h => absurd h (by decide +kernel) | with_reducible exact fun _ h => ⟨h, rfl, rfl⟩ | with_reducible exact fun _ _ _ => rfl | with_reducible exact id | with_reducible exact fun h _ => h | with_reducible exact fun _ h => h | skip)
    | with_reducible apply Frame.ite
    | with_reducible exact Frame.refl _ _ _
    | with_reducible apply Frame.foldlT
    | with_reducible assumption
    | (show (_ : Nat) = _; decide +kernel)
    | (show Nat.testBit _ _ = true; decide +kernel)
    | intro _
    | split)

theorem frame_feedsConfigured {P G : Nat} {s₀ s : State} (h₀ : Frame P G s₀ s)  (hP : 0xd67c61c78 &&& P = 0xd67c61c78) (hG : 0x400500c10cb30024 &&& G = 0x400500c10cb30024) : Frame P G s₀ (State.feedsConfigured s) := by
  refine h₀.step (Q := 0xd67c61c78) (H := 0x400500c10cb30024) ?_ hP hG
  unfold State.feedsConfigured
  try dsimp only
  iterate 50 all_goals try (first
    | with_reducible apply Frame.ite
    | with_reducible exact Frame.refl _ _ _
    | with_reducible apply frame_setFeedSt
    | with_reducible apply frame_setQcnt
    | with_reducible apply frame_mainsChange
    | with_reducible apply Frame.foldlT
    | with_reducible assumption
    | (show (_ : Nat) = _; decide +kernel)
    | (show Nat.testBit _ _ = true; decide +kernel)
    | intro _
    | split)

theorem frame_holdupTadpole {P G : Nat} {s₀ s : State} (h₀ : Frame P G s₀ s)  (hP : 0x100000000 &&& P = 0x100000000) (hG : 0x4000000 &&& G = 0x4000000) : Frame P G s₀ (State.holdupTadpole s) := by
  refine h₀.step (Q := 0x100000000) (H := 0x4000000) ?_ hP hG
  unfold State.holdupTadpole
  try dsimp only
  iterate 50 all_goals try (first
    | (simp only [Frame.mk_iff]; with_reducible apply FrameC.upd <;> first | with_reducible exact fun _ => rfl | exact fun h => absurd h (by decide +kernel) | with_reducible exact fun _ h => ⟨h, rfl, rfl⟩ | with_reducible exact fun _ _ _ => rfl | with_reducible exact id | with_reducible exact fun h _ => h | with_reducible exact fun _ h => h | skip)
    | with_reducible apply Frame.ite
    | with_reducible exact Frame.refl _ _ _
    | with_reducible apply frame_put
    | with_reducible apply frame_rtOff
    | with_reducible apply Frame.foldlT
    | with_reducible assumption
    | (show (_ : Nat) = _; decide +kernel)
    | (show Nat.testBit _ _ = true; decide +kernel)
    | intro _
    | split)

theorem frame_fusMeasure {P G : Nat} {s₀ s : State} (h₀ : Frame P G s₀ s) (c : Nat) (hP : 0x0 &&& P = 0x0) (hG : 0x100000000 &&& G = 0x100000000) : Frame P G s₀ (State.fusMeasure s c) := by
  refine h₀.step (Q := 0x0) (H := 0x100000000) ?_ hP hG
  unfold State.fusMeasure
  try dsimp only
  iterate 50 all_goals try (first
    | with_reducible apply Frame.ite
    | with_reducible exact Frame.refl _ _ _
    | with_reducible apply frame_putAt
    | with_reducible apply frame_sputAt
    | with_reducible apply frame_putAtSat
    | with_reducible apply Frame.foldlT
    | with_reducible assumption
    | (show (_ : Nat) = _; decide +kernel)
    | (show Nat.testBit _ _ = true; decide +kernel)
    | intro _
    | split)

theorem frame_breakerStep {P G : Nat} {s₀ s : State} (h₀ : Frame P G s₀ s) (c : Nat) (hP : 0x1000000 &&& P = 0x1000000) (hG : 0x100000000 &&& G = 0x100000000) : Frame P G s₀ (State.breakerStep s c) := by
  refine h₀.step (Q := 0x1000000) (H := 0x100000000) ?_ hP hG
  unfold State.breakerStep
  try dsimp only
  iterate 50 all_goals try (first
    | (simp only [Frame.mk_iff]; with_reducible apply FrameC.upd <;> first | with_reducible exact fun _ => rfl | exact fun h => absurd h (by decide +kernel) | with_reducible exact fun _ h => ⟨h, rfl, rfl⟩ | with_reducible exact fun _ _ _ => rfl | with_reducible exact id | with_reducible exact fun h _ => h | with_reducible exact fun _ h => h | skip)
    | with_reducible apply Frame.ite
    | with_reducible exact Frame.refl _ _ _
    | with_reducible apply frame_putAtSat
    | with_reducible apply frame_setFuse
    | with_reducible apply Frame.foldlT
    | with_reducible assumption
    | (show (_ : Nat) = _; decide +kernel)
    | (show Nat.testBit _ _ = true; decide +kernel)
    | intro _
    | split)

theorem frame_tripOwner {P G : Nat} {s₀ s : State} (h₀ : Frame P G s₀ s) (c : Nat) (hP : 0x23c01044 &&& P = 0x23c01044) (hG : 0xc108330020 &&& G = 0xc108330020) : Frame P G s₀ (State.tripOwner s c) := by
  refine h₀.step (Q := 0x23c01044) (H := 0xc108330020) ?_ hP hG
  unfold State.tripOwner
  try dsimp only
  iterate 50 all_goals try (first
    | with_reducible apply Frame.ite
    | with_reducible exact Frame.refl _ _ _
    | with_reducible apply frame_bayToFault
    | with_reducible apply frame_stringTrip
    | with_reducible apply frame_restoreReserves
    | with_reducible apply Frame.foldlT
    | with_reducible assumption
    | (show (_ : Nat) = _; decide +kernel)
    | (show Nat.testBit _ _ = true; decide +kernel)
    | intro _
    | split)

theorem frame_fusTrip {P G : Nat} {s₀ s : State} (h₀ : Frame P G s₀ s) (c kind : Nat) (hP : 0x23c01044 &&& P = 0x23c01044) (hG : 0xc108330020 &&& G = 0xc108330020) : Frame P G s₀ (State.fusTrip s c kind) := by
  refine h₀.step (Q := 0x23c01044) (H := 0xc108330020) ?_ hP hG
  unfold State.fusTrip
  try dsimp only
  iterate 50 all_goals try (first
    | (simp only [Frame.mk_iff]; with_reducible apply FrameC.upd <;> first | with_reducible exact fun _ => rfl | exact fun h => absurd h (by decide +kernel) | with_reducible exact fun _ h => ⟨h, rfl, rfl⟩ | with_reducible exact fun _ _ _ => rfl | with_reducible exact id | with_reducible exact fun h _ => h | with_reducible exact fun _ h => h | skip)
    | with_reducible apply Frame.ite
    | with_reducible exact Frame.refl _ _ _
    | with_reducible apply frame_putAt
    | with_reducible apply frame_flag
    | with_reducible apply frame_bumpAt
    | with_reducible apply frame_setFuse
    | with_reducible apply frame_fusOpen
    | with_reducible apply frame_tripOwner
    | with_reducible apply Frame.foldlT
    | with_reducible assumption
    | (show (_ : Nat) = _; decide +kernel)
    | (show Nat.testBit _ _ = true; decide +kernel)
    | intro _
    | split)

theorem frame_breakerTest {P G : Nat} {s₀ s : State} (h₀ : Frame P G s₀ s) (c : Nat) (hP : 0x23c01044 &&& P = 0x23c01044) (hG : 0xc108330020 &&& G = 0xc108330020) : Frame P G s₀ (State.breakerTest s c) := by
  refine h₀.step (Q := 0x23c01044) (H := 0xc108330020) ?_ hP hG
  unfold State.breakerTest
  try dsimp only
  iterate 50 all_goals try (first
    | with_reducible apply Frame.ite
    | with_reducible exact Frame.refl _ _ _
    | (with_reducible apply frame_raise_low; case hs => decide)
    | with_reducible apply frame_fusTrip
    | with_reducible apply Frame.foldlT
    | with_reducible assumption
    | (show (_ : Nat) = _; decide +kernel)
    | (show Nat.testBit _ _ = true; decide +kernel)
    | intro _
    | split)

theorem frame_pgWatch {P G : Nat} {s₀ s : State} (h₀ : Frame P G s₀ s) (c : Nat) (hP : 0x1000000 &&& P = 0x1000000) (hG : 0x0 &&& G = 0x0) : Frame P G s₀ (State.pgWatch s c) := by
  refine h₀.step (Q := 0x1000000) (H := 0x0) ?_ hP hG
  unfold State.pgWatch
  try dsimp only
  iterate 50 all_goals try (first
    | (simp only [Frame.mk_iff]; with_reducible apply FrameC.upd <;> first | with_reducible exact fun _ => rfl | exact fun h => absurd h (by decide +kernel) | with_reducible exact fun _ h => ⟨h, rfl, rfl⟩ | with_reducible exact fun _ _ _ => rfl | with_reducible exact id | with_reducible exact fun h _ => h | with_reducible exact fun _ h => h | skip)
    | with_reducible apply Frame.ite
    | with_reducible exact Frame.refl _ _ _
    | with_reducible apply frame_setFuse
    | with_reducible apply Frame.foldlT
    | with_reducible assumption
    | (show (_ : Nat) = _; decide +kernel)
    | (show Nat.testBit _ _ = true; decide +kernel)
    | intro _
    | split)

theorem frame_sampleMoves {P G : Nat} {s₀ s : State} (h₀ : Frame P G s₀ s) (c : Nat) (hP : 0x23c01044 &&& P = 0x23c01044) (hG : 0xc108330020 &&& G = 0xc108330020) : Frame P G s₀ (State.sampleMoves s c) := by
  refine h₀.step (Q := 0x23c01044) (H := 0xc108330020) ?_ hP hG
  unfold State.sampleMoves
  try dsimp only
  iterate 50 all_goals try (first
    | (simp only [Frame.mk_iff]; with_reducible apply FrameC.upd <;> first | with_reducible exact fun _ => rfl | exact fun h => absurd h (by decide +kernel) | with_reducible exact fun _ h => ⟨h, rfl, rfl⟩ | with_reducible exact fun _ _ _ => rfl | with_reducible exact id | with_reducible exact fun h _ => h | with_reducible exact fun _ h => h | skip)
    | with_reducible apply Frame.ite
    | with_reducible exact Frame.refl _ _ _
    | (with_reducible apply frame_raise_low; case hs => decide)
    | with_reducible apply frame_setFuse
    | with_reducible apply frame_fusEnter
    | with_reducible apply frame_fusTrip
    | with_reducible apply frame_pgWatch
    | with_reducible apply Frame.foldlT
    | with_reducible assumption
    | (show (_ : Nat) = _; decide +kernel)
    | (show Nat.testBit _ _ = true; decide +kernel)
    | intro _
    | split)

theorem frame_fuseSample {P G : Nat} {s₀ s : State} (h₀ : Frame P G s₀ s) (c : Nat) (fi fv fgs : Code) (hP : 0x27c01044 &&& P = 0x27c01044) (hG : 0xc108b300a0 &&& G = 0xc108b300a0) : Frame P G s₀ (State.fuseSample s c fi fv fgs) := by
  refine h₀.step (Q := 0x27c01044) (H := 0xc108b300a0) ?_ hP hG
  unfold State.fuseSample
  try dsimp only
  iterate 50 all_goals try (first
    | with_reducible apply Frame.ite
    | with_reducible exact Frame.refl _ _ _
    | with_reducible apply frame_putAt
    | with_reducible apply frame_sagSample
    | with_reducible apply frame_fusMeasure
    | with_reducible apply frame_breakerStep
    | with_reducible apply frame_breakerTest
    | with_reducible apply frame_pgWatch
    | with_reducible apply frame_sampleMoves
    | with_reducible apply Frame.foldlT
    | with_reducible assumption
    | (show (_ : Nat) = _; decide +kernel)
    | (show Nat.testBit _ _ = true; decide +kernel)
    | intro _
    | split)

theorem frame_inrushTrip {P G : Nat} {s₀ s : State} (h₀ : Frame P G s₀ s) (c kind : Nat) (hP : 0x23c01044 &&& P = 0x23c01044) (hG : 0xc108330020 &&& G = 0xc108330020) : Frame P G s₀ (State.inrushTrip s c kind) := by
  refine h₀.step (Q := 0x23c01044) (H := 0xc108330020) ?_ hP hG
  unfold State.inrushTrip
  try dsimp only
  iterate 50 all_goals try (first
    | with_reducible apply Frame.ite
    | with_reducible exact Frame.refl _ _ _
    | (with_reducible apply frame_raise_low; case hs => decide)
    | with_reducible apply frame_fusTrip
    | with_reducible apply Frame.foldlT
    | with_reducible assumption
    | (show (_ : Nat) = _; decide +kernel)
    | (show Nat.testBit _ _ = true; decide +kernel)
    | intro _
    | split)

theorem frame_rampWindow {P G : Nat} {s₀ s : State} (h₀ : Frame P G s₀ s) (c : Nat) (hP : 0x23c01044 &&& P = 0x23c01044) (hG : 0xc108330020 &&& G = 0xc108330020) : Frame P G s₀ (State.rampWindow s c) := by
  refine h₀.step (Q := 0x23c01044) (H := 0xc108330020) ?_ hP hG
  unfold State.rampWindow
  try dsimp only
  iterate 50 all_goals try (first
    | (simp only [Frame.mk_iff]; with_reducible apply FrameC.upd <;> first | with_reducible exact fun _ => rfl | exact fun h => absurd h (by decide +kernel) | with_reducible exact fun _ h => ⟨h, rfl, rfl⟩ | with_reducible exact fun _ _ _ => rfl | with_reducible exact id | with_reducible exact fun h _ => h | with_reducible exact fun _ h => h | skip)
    | with_reducible apply Frame.ite
    | with_reducible exact Frame.refl _ _ _
    | with_reducible apply frame_setFuse
    | with_reducible apply frame_inrushTrip
    | with_reducible apply Frame.foldlT
    | with_reducible assumption
    | (show (_ : Nat) = _; decide +kernel)
    | (show Nat.testBit _ _ = true; decide +kernel)
    | intro _
    | split)

theorem frame_bayPowerGood {P G : Nat} {s₀ s : State} (h₀ : Frame P G s₀ s) (b : Nat) (hP : 0x2c01040 &&& P = 0x2c01040) (hG : 0xc004130020 &&& G = 0xc004130020) : Frame P G s₀ (State.bayPowerGood s b) := by
  refine h₀.step (Q := 0x2c01040) (H := 0xc004130020) ?_ hP hG
  unfold State.bayPowerGood
  try dsimp only
  iterate 50 all_goals try (first
    | with_reducible apply Frame.ite
    | with_reducible exact Frame.refl _ _ _
    | with_reducible apply frame_setBst
    | with_reducible apply frame_tryJoin
    | with_reducible apply frame_walkCheck
    | with_reducible apply Frame.foldlT
    | with_reducible assumption
    | (show (_ : Nat) = _; decide +kernel)
    | (show Nat.testBit _ _ = true; decide +kernel)
    | intro _
    | split)

theorem frame_fusOnNow {P G : Nat} {s₀ s : State} (h₀ : Frame P G s₀ s) (c : Nat) (hP : 0x63c01040 &&& P = 0x63c01040) (hG : 0xc11c130020 &&& G = 0xc11c130020) : Frame P G s₀ (State.fusOnNow s c) := by
  refine h₀.step (Q := 0x63c01040) (H := 0xc11c130020) ?_ hP hG
  unfold State.fusOnNow
  try dsimp only
  iterate 50 all_goals try (first
    | with_reducible apply Frame.ite
    | with_reducible exact Frame.refl _ _ _
    | with_reducible apply frame_putBit
    | (with_reducible apply frame_raise_low; case hs => decide)
    | with_reducible apply frame_fusEnter
    | with_reducible apply frame_stringOn
    | with_reducible apply frame_bayPowerGood
    | with_reducible apply Frame.foldlT
    | with_reducible assumption
    | (show (_ : Nat) = _; decide +kernel)
    | (show Nat.testBit _ _ = true; decide +kernel)
    | intro _
    | split)

theorem frame_fusLatch {P G : Nat} {s₀ s : State} (h₀ : Frame P G s₀ s) (c : Nat) (hP : 0x1001040 &&& P = 0x1001040) (hG : 0xc100000020 &&& G = 0xc100000020) : Frame P G s₀ (State.fusLatch s c) := by
  refine h₀.step (Q := 0x1001040) (H := 0xc100000020) ?_ hP hG
  unfold State.fusLatch
  try dsimp only
  iterate 50 all_goals try (first
    | (simp only [Frame.mk_iff]; with_reducible apply FrameC.upd <;> first | with_reducible exact fun _ => rfl | exact fun h => absurd h (by decide +kernel) | with_reducible exact fun _ h => ⟨h, rfl, rfl⟩ | with_reducible exact fun _ _ _ => rfl | with_reducible exact id | with_reducible exact fun h _ => h | with_reducible exact fun _ h => h | skip)
    | with_reducible apply Frame.ite
    | with_reducible exact Frame.refl _ _ _
    | with_reducible apply frame_flag
    | (with_reducible apply frame_raise_low; case hs => decide)
    | with_reducible apply frame_setFuse
    | with_reducible apply frame_fusEnter
    | with_reducible apply Frame.foldlT
    | with_reducible assumption
    | (show (_ : Nat) = _; decide +kernel)
    | (show Nat.testBit _ _ = true; decide +kernel)
    | intro _
    | split)

theorem frame_fusToOff {P G : Nat} {s₀ s : State} (h₀ : Frame P G s₀ s) (c : Nat) (hP : 0x1000000 &&& P = 0x1000000) (hG : 0x100000000 &&& G = 0x100000000) : Frame P G s₀ (State.fusToOff s c) := by
  refine h₀.step (Q := 0x1000000) (H := 0x100000000) ?_ hP hG
  unfold State.fusToOff
  try dsimp only
  iterate 50 all_goals try (first
    | with_reducible apply Frame.ite
    | with_reducible exact Frame.refl _ _ _
    | with_reducible apply frame_fusEnter
    | with_reducible apply frame_fusClose
    | with_reducible apply Frame.foldlT
    | with_reducible assumption
    | (show (_ : Nat) = _; decide +kernel)
    | (show Nat.testBit _ _ = true; decide +kernel)
    | intro _
    | split)

theorem frame_fusOpened {P G : Nat} {s₀ s : State} (h₀ : Frame P G s₀ s) (c : Nat) (hP : 0x1001040 &&& P = 0x1001040) (hG : 0xc100000020 &&& G = 0xc100000020) : Frame P G s₀ (State.fusOpened s c) := by
  refine h₀.step (Q := 0x1001040) (H := 0xc100000020) ?_ hP hG
  unfold State.fusOpened
  try dsimp only
  iterate 50 all_goals try (first
    | (simp only [Frame.mk_iff]; with_reducible apply FrameC.upd <;> first | with_reducible exact fun _ => rfl | exact fun h => absurd h (by decide +kernel) | with_reducible exact fun _ h => ⟨h, rfl, rfl⟩ | with_reducible exact fun _ _ _ => rfl | with_reducible exact id | with_reducible exact fun h _ => h | with_reducible exact fun _ h => h | skip)
    | with_reducible apply Frame.ite
    | with_reducible exact Frame.refl _ _ _
    | with_reducible apply frame_setFuse
    | with_reducible apply frame_fusEnter
    | with_reducible apply frame_fusLatch
    | with_reducible apply frame_fusToOff
    | with_reducible apply Frame.foldlT
    | with_reducible assumption
    | (show (_ : Nat) = _; decide +kernel)
    | (show Nat.testBit _ _ = true; decide +kernel)
    | intro _
    | split)

theorem frame_fusRetryNow {P G : Nat} {s₀ s : State} (h₀ : Frame P G s₀ s) (c : Nat) (hP : 0x1801040 &&& P = 0x1801040) (hG : 0xc100100020 &&& G = 0xc100100020) : Frame P G s₀ (State.fusRetryNow s c) := by
  refine h₀.step (Q := 0x1801040) (H := 0xc100100020) ?_ hP hG
  unfold State.fusRetryNow
  try dsimp only
  iterate 50 all_goals try (first
    | (simp only [Frame.mk_iff]; with_reducible apply FrameC.upd <;> first | with_reducible exact fun _ => rfl | exact fun h => absurd h (by decide +kernel) | with_reducible exact fun _ h => ⟨h, rfl, rfl⟩ | with_reducible exact fun _ _ _ => rfl | with_reducible exact id | with_reducible exact fun h _ => h | with_reducible exact fun _ h => h | skip)
    | with_reducible apply Frame.ite
    | with_reducible exact Frame.refl _ _ _
    | with_reducible apply frame_putAtSat
    | (with_reducible apply frame_raise_low; case hs => decide)
    | with_reducible apply frame_setFuse
    | with_reducible apply frame_fusEnter
    | with_reducible apply frame_setBst
    | with_reducible apply Frame.foldlT
    | with_reducible assumption
    | (show (_ : Nat) = _; decide +kernel)
    | (show Nat.testBit _ _ = true; decide +kernel)
    | intro _
    | split)

theorem frame_fusClear {P G : Nat} {s₀ s : State} (h₀ : Frame P G s₀ s) (c : Nat) (hP : 0x3c01040 &&& P = 0x3c01040) (hG : 0xc100130020 &&& G = 0xc100130020) : Frame P G s₀ (State.fusClear s c) := by
  refine h₀.step (Q := 0x3c01040) (H := 0xc100130020) ?_ hP hG
  unfold State.fusClear
  try dsimp only
  iterate 50 all_goals try (first
    | with_reducible apply Frame.ite
    | with_reducible exact Frame.refl _ _ _
    | with_reducible apply frame_fusCleared
    | with_reducible apply frame_toPfc
    | with_reducible apply Frame.foldlT
    | with_reducible assumption
    | (show (_ : Nat) = _; decide +kernel)
    | (show Nat.testBit _ _ = true; decide +kernel)
    | intro _
    | split)

theorem frame_fusClr {P G : Nat} {s₀ s : State} (h₀ : Frame P G s₀ s) (c : Nat) (key : Byte) (hP : 0x3c01040 &&& P = 0x3c01040) (hG : 0xc100130020 &&& G = 0xc100130020) : Frame P G s₀ (State.fusClr s c key) := by
  refine h₀.step (Q := 0x3c01040) (H := 0xc100130020) ?_ hP hG
  unfold State.fusClr
  try dsimp only
  iterate 50 all_goals try (first
    | with_reducible apply Frame.ite
    | with_reducible exact Frame.refl _ _ _
    | with_reducible apply frame_fusClear
    | with_reducible apply Frame.foldlT
    | with_reducible assumption
    | (show (_ : Nat) = _; decide +kernel)
    | (show Nat.testBit _ _ = true; decide +kernel)
    | intro _
    | split)

theorem frame_fusEnable {P G : Nat} {s₀ s : State} (h₀ : Frame P G s₀ s) (c : Nat) (hP : 0x1000000 &&& P = 0x1000000) (hG : 0x100000000 &&& G = 0x100000000) : Frame P G s₀ (State.fusEnable s c) := by
  refine h₀.step (Q := 0x1000000) (H := 0x100000000) ?_ hP hG
  unfold State.fusEnable
  try dsimp only
  iterate 50 all_goals try (first
    | (simp only [Frame.mk_iff]; with_reducible apply FrameC.upd <;> first | with_reducible exact fun _ => rfl | exact fun h => absurd h (by decide +kernel) | with_reducible exact fun _ h => ⟨h, rfl, rfl⟩ | with_reducible exact fun _ _ _ => rfl | with_reducible exact id | with_reducible exact fun h _ => h | with_reducible exact fun _ h => h | skip)
    | with_reducible apply Frame.ite
    | with_reducible exact Frame.refl _ _ _
    | with_reducible apply frame_setFuse
    | with_reducible apply frame_fusEnter
    | with_reducible apply frame_fusOpen
    | with_reducible apply frame_fusToOff
    | with_reducible apply Frame.foldlT
    | with_reducible assumption
    | (show (_ : Nat) = _; decide +kernel)
    | (show Nat.testBit _ _ = true; decide +kernel)
    | intro _
    | split)

theorem frame_fusesImage {P G : Nat} {s₀ s : State} (h₀ : Frame P G s₀ s)  (hP : 0x1000000 &&& P = 0x1000000) (hG : 0x100000000 &&& G = 0x100000000) : Frame P G s₀ (State.fusesImage s) := by
  refine h₀.step (Q := 0x1000000) (H := 0x100000000) ?_ hP hG
  unfold State.fusesImage
  try dsimp only
  iterate 50 all_goals try (first
    | with_reducible apply Frame.ite
    | with_reducible exact Frame.refl _ _ _
    | with_reducible apply frame_fusEnable
    | with_reducible apply Frame.foldlT
    | with_reducible assumption
    | (show (_ : Nat) = _; decide +kernel)
    | (show Nat.testBit _ _ = true; decide +kernel)
    | intro _
    | split)

theorem frame_presRise {P G : Nat} {s₀ s : State} (h₀ : Frame P G s₀ s) (b : Nat) (hP : 0x1801040 &&& P = 0x1801040) (hG : 0xc100000020 &&& G = 0xc100000020) : Frame P G s₀ (State.presRise s b) := by
  refine h₀.step (Q := 0x1801040) (H := 0xc100000020) ?_ hP hG
  unfold State.presRise
  try dsimp only
  iterate 50 all_goals try (first
    | (simp only [Frame.mk_iff]; with_reducible apply FrameC.upd <;> first | with_reducible exact fun _ => rfl | exact fun h => absurd h (by decide +kernel) | with_reducible exact fun _ h => ⟨h, rfl, rfl⟩ | with_reducible exact fun _ _ _ => rfl | with_reducible exact id | with_reducible exact fun h _ => h | with_reducible exact fun _ h => h | skip)
    | with_reducible apply Frame.ite
    | with_reducible exact Frame.refl _ _ _
    | with_reducible apply frame_setBay
    | with_reducible apply frame_setFuse
    | with_reducible apply frame_fusCleared
    | with_reducible apply Frame.foldlT
    | with_reducible assumption
    | (show (_ : Nat) = _; decide +kernel)
    | (show Nat.testBit _ _ = true; decide +kernel)
    | intro _
    | split)

theorem frame_bayGone {P G : Nat} {s₀ s : State} (h₀ : Frame P G s₀ s) (b : Nat) (hP : 0x3c00000 &&& P = 0x3c00000) (hG : 0x100130000 &&& G = 0x100130000) : Frame P G s₀ (State.bayGone s b) := by
  refine h₀.step (Q := 0x3c00000) (H := 0x100130000) ?_ hP hG
  unfold State.bayGone
  try dsimp only
  iterate 50 all_goals try (first
    | (simp only [Frame.mk_iff]; with_reducible apply FrameC.upd <;> first | with_reducible exact fun _ => rfl | exact fun h => absurd h (by decide +kernel) | with_reducible exact fun _ h => ⟨h, rfl, rfl⟩ | with_reducible exact fun _ _ _ => rfl | with_reducible exact id | with_reducible exact fun h _ => h | with_reducible exact fun _ h => h | skip)
    | with_reducible apply Frame.ite
    | with_reducible exact Frame.refl _ _ _
    | with_reducible apply frame_setBay
    | with_reducible apply frame_openReq
    | with_reducible apply frame_allAbsent
    | with_reducible apply frame_setBst
    | with_reducible apply frame_bayStop
    | with_reducible apply Frame.foldlT
    | with_reducible assumption
    | (show (_ : Nat) = _; decide +kernel)
    | (show Nat.testBit _ _ = true; decide +kernel)
    | intro _
    | split)

theorem frame_presFall {P G : Nat} {s₀ s : State} (h₀ : Frame P G s₀ s) (b : Nat) (hP : 0x3c01040 &&& P = 0x3c01040) (hG : 0xc100130020 &&& G = 0xc100130020) : Frame P G s₀ (State.presFall s b) := by
  refine h₀.step (Q := 0x3c01040) (H := 0xc100130020) ?_ hP hG
  unfold State.presFall
  try dsimp only
  iterate 50 all_goals try (first
    | (simp only [Frame.mk_iff]; with_reducible apply FrameC.upd <;> first | with_reducible exact fun _ => rfl | exact fun h => absurd h (by decide +kernel) | with_reducible exact fun _ h => ⟨h, rfl, rfl⟩ | with_reducible exact fun _ _ _ => rfl | with_reducible exact id | with_reducible exact fun h _ => h | with_reducible exact fun _ h => h | skip)
    | with_reducible apply Frame.ite
    | with_reducible exact Frame.refl _ _ _
    | (with_reducible apply frame_raise_low; case hs => decide)
    | with_reducible apply frame_setBay
    | with_reducible apply frame_bayGone
    | with_reducible apply Frame.foldlT
    | with_reducible assumption
    | (show (_ : Nat) = _; decide +kernel)
    | (show Nat.testBit _ _ = true; decide +kernel)
    | intro _
    | split)

theorem frame_ejectRise {P G : Nat} {s₀ s : State} (h₀ : Frame P G s₀ s) (b : Nat) (hP : 0x3c00000 &&& P = 0x3c00000) (hG : 0x100130000 &&& G = 0x100130000) : Frame P G s₀ (State.ejectRise s b) := by
  refine h₀.step (Q := 0x3c00000) (H := 0x100130000) ?_ hP hG
  unfold State.ejectRise
  try dsimp only
  iterate 50 all_goals try (first
    | (simp only [Frame.mk_iff]; with_reducible apply FrameC.upd <;> first | with_reducible exact fun _ => rfl | exact fun h => absurd h (by decide +kernel) | with_reducible exact fun _ h => ⟨h, rfl, rfl⟩ | with_reducible exact fun _ _ _ => rfl | with_reducible exact id | with_reducible exact fun h _ => h | with_reducible exact fun _ h => h | skip)
    | with_reducible apply Frame.ite
    | with_reducible exact Frame.refl _ _ _
    | with_reducible apply frame_setBay
    | with_reducible apply frame_bayToEjected
    | with_reducible apply Frame.foldlT
    | with_reducible assumption
    | (show (_ : Nat) = _; decide +kernel)
    | (show Nat.testBit _ _ = true; decide +kernel)
    | intro _
    | split)

theorem frame_ejectFall {P G : Nat} {s₀ s : State} (h₀ : Frame P G s₀ s) (b : Nat) (hP : 0x801040 &&& P = 0x801040) (hG : 0xc000100020 &&& G = 0xc000100020) : Frame P G s₀ (State.ejectFall s b) := by
  refine h₀.step (Q := 0x801040) (H := 0xc000100020) ?_ hP hG
  unfold State.ejectFall
  try dsimp only
  iterate 50 all_goals try (first
    | (simp only [Frame.mk_iff]; with_reducible apply FrameC.upd <;> first | with_reducible exact fun _ => rfl | exact fun h => absurd h (by decide +kernel) | with_reducible exact fun _ h => ⟨h, rfl, rfl⟩ | with_reducible exact fun _ _ _ => rfl | with_reducible exact id | with_reducible exact fun h _ => h | with_reducible exact fun _ h => h | skip)
    | with_reducible apply Frame.ite
    | with_reducible exact Frame.refl _ _ _
    | (with_reducible apply frame_raise_low; case hs => decide)
    | with_reducible apply frame_setBay
    | with_reducible apply frame_bayActivate
    | with_reducible apply Frame.foldlT
    | with_reducible assumption
    | (show (_ : Nat) = _; decide +kernel)
    | (show Nat.testBit _ _ = true; decide +kernel)
    | intro _
    | split)

theorem frame_pfcLost {P G : Nat} {s₀ s : State} (h₀ : Frame P G s₀ s) (b : Nat) (hP : 0x3c01040 &&& P = 0x3c01040) (hG : 0xc100130020 &&& G = 0xc100130020) : Frame P G s₀ (State.pfcLost s b) := by
  refine h₀.step (Q := 0x3c01040) (H := 0xc100130020) ?_ hP hG
  unfold State.pfcLost
  try dsimp only
  iterate 50 all_goals try (first
    | with_reducible apply Frame.ite
    | with_reducible exact Frame.refl _ _ _
    | (with_reducible apply frame_raise_low; case hs => decide)
    | with_reducible apply frame_openReq
    | with_reducible apply frame_toPfc
    | with_reducible apply frame_bayStop
    | with_reducible apply Frame.foldlT
    | with_reducible assumption
    | (show (_ : Nat) = _; decide +kernel)
    | (show Nat.testBit _ _ = true; decide +kernel)
    | intro _
    | split)

theorem frame_closeBay {P G : Nat} {s₀ s : State} (h₀ : Frame P G s₀ s) (b : Nat) (zero : Bool) (hP : 0x800000 &&& P = 0x800000) (hG : 0x0 &&& G = 0x0) : Frame P G s₀ (State.closeBay s b zero) := by
  refine h₀.step (Q := 0x800000) (H := 0x0) ?_ hP hG
  unfold State.closeBay
  try dsimp only
  iterate 50 all_goals try (first
    | (simp only [Frame.mk_iff]; with_reducible apply FrameC.upd <;> first | with_reducible exact fun _ => rfl | exact fun h => absurd h (by decide +kernel) | with_reducible exact fun _ h => ⟨h, rfl, rfl⟩ | with_reducible exact fun _ _ _ => rfl | with_reducible exact id | with_reducible exact fun h _ => h | with_reducible exact fun _ h => h | skip)
    | with_reducible apply Frame.ite
    | with_reducible exact Frame.refl _ _ _
    | with_reducible apply frame_setBay
    | with_reducible apply Frame.foldlT
    | with_reducible assumption
    | (show (_ : Nat) = _; decide +kernel)
    | (show Nat.testBit _ _ = true; decide +kernel)
    | intro _
    | split)

theorem frame_closeShelf {P G : Nat} {s₀ s : State} (h₀ : Frame P G s₀ s)  (hP : 0x2000000 &&& P = 0x2000000) (hG : 0x0 &&& G = 0x0) : Frame P G s₀ (State.closeShelf s) := by
  refine h₀.step (Q := 0x2000000) (H := 0x0) ?_ hP hG
  unfold State.closeShelf
  try dsimp only
  iterate 50 all_goals try (first
    | (simp only [Frame.mk_iff]; with_reducible apply FrameC.upd <;> first | with_reducible exact fun _ => rfl | exact fun h => absurd h (by decide +kernel) | with_reducible exact fun _ h => ⟨h, rfl, rfl⟩ | with_reducible exact fun _ _ _ => rfl | with_reducible exact id | with_reducible exact fun h _ => h | with_reducible exact fun _ h => h | skip)
    | with_reducible apply Frame.ite
    | with_reducible exact Frame.refl _ _ _
    | with_reducible apply Frame.foldlT
    | with_reducible assumption
    | (show (_ : Nat) = _; decide +kernel)
    | (show Nat.testBit _ _ = true; decide +kernel)
    | intro _
    | split)

theorem frame_dropLearn {P G : Nat} {s₀ s : State} (h₀ : Frame P G s₀ s) (b : Nat) (hP : 0x801044 &&& P = 0x801044) (hG : 0xc000100020 &&& G = 0xc000100020) : Frame P G s₀ (State.dropLearn s b) := by
  refine h₀.step (Q := 0x801044) (H := 0xc000100020) ?_ hP hG
  unfold State.dropLearn
  try dsimp only
  iterate 50 all_goals try (first
    | (simp only [Frame.mk_iff]; with_reducible apply FrameC.upd <;> first | with_reducible exact fun _ => rfl | exact fun h => absurd h (by decide +kernel) | with_reducible exact fun _ h => ⟨h, rfl, rfl⟩ | with_reducible exact fun _ _ _ => rfl | with_reducible exact id | with_reducible exact fun h _ => h | with_reducible exact fun _ h => h | skip)
    | with_reducible apply Frame.ite
    | with_reducible exact Frame.refl _ _ _
    | with_reducible apply frame_putAtSat
    | with_reducible apply frame_flag
    | with_reducible apply frame_setBay
    | (with_reducible apply frame_raiseP1_low; case hs => decide)
    | with_reducible apply Frame.foldlT
    | with_reducible assumption
    | (show (_ : Nat) = _; decide +kernel)
    | (show Nat.testBit _ _ = true; decide +kernel)
    | intro _
    | split)

theorem frame_dropModel {P G : Nat} {s₀ s : State} (h₀ : Frame P G s₀ s)  (hP : 0x801044 &&& P = 0x801044) (hG : 0xc000100020 &&& G = 0xc000100020) : Frame P G s₀ (State.dropModel s) := by
  refine h₀.step (Q := 0x801044) (H := 0xc000100020) ?_ hP hG
  unfold State.dropModel
  try dsimp only
  iterate 50 all_goals try (first
    | with_reducible apply Frame.ite
    | with_reducible exact Frame.refl _ _ _
    | with_reducible apply frame_dropLearn
    | with_reducible apply Frame.foldlT
    | with_reducible assumption
    | (show (_ : Nat) = _; decide +kernel)
    | (show Nat.testBit _ _ = true; decide +kernel)
    | intro _
    | split)

theorem frame_trimSet {P G : Nat} {s₀ s : State} (h₀ : Frame P G s₀ s) (b : Nat) (v : Rat) (hP : 0x801044 &&& P = 0x801044) (hG : 0xc000100020 &&& G = 0xc000100020) : Frame P G s₀ (State.trimSet s b v) := by
  refine h₀.step (Q := 0x801044) (H := 0xc000100020) ?_ hP hG
  unfold State.trimSet
  try dsimp only
  iterate 50 all_goals try (first
    | (simp only [Frame.mk_iff]; with_reducible apply FrameC.upd <;> first | with_reducible exact fun _ => rfl | exact fun h => absurd h (by decide +kernel) | with_reducible exact fun _ h => ⟨h, rfl, rfl⟩ | with_reducible exact fun _ _ _ => rfl | with_reducible exact id | with_reducible exact fun h _ => h | with_reducible exact fun _ h => h | skip)
    | with_reducible apply Frame.ite
    | with_reducible exact Frame.refl _ _ _
    | with_reducible apply frame_flag
    | with_reducible apply frame_setBay
    | (with_reducible apply frame_raiseP1_low; case hs => decide)
    | with_reducible apply frame_shareRefresh
    | with_reducible apply Frame.foldlT
    | with_reducible assumption
    | (show (_ : Nat) = _; decide +kernel)
    | (show Nat.testBit _ _ = true; decide +kernel)
    | intro _
    | split)

theorem frame_shareTrims {P G : Nat} {s₀ s : State} (h₀ : Frame P G s₀ s)  (hP : 0x801044 &&& P = 0x801044) (hG : 0xc000100020 &&& G = 0xc000100020) : Frame P G s₀ (State.shareTrims s) := by
  refine h₀.step (Q := 0x801044) (H := 0xc000100020) ?_ hP hG
  unfold State.shareTrims
  try dsimp only
  iterate 50 all_goals try (first
    | (simp only [Frame.mk_iff]; with_reducible apply FrameC.upd <;> first | with_reducible exact fun _ => rfl | exact fun h => absurd h (by decide +kernel) | with_reducible exact fun _ h => ⟨h, rfl, rfl⟩ | with_reducible exact fun _ _ _ => rfl | with_reducible exact id | with_reducible exact fun h _ => h | with_reducible exact fun _ h => h | skip)
    | with_reducible apply Frame.ite
    | with_reducible exact Frame.refl _ _ _
    | (refine frame_takeFree_of ‹_› ?_ ?_ ?_)
    | with_reducible apply frame_takeFree
    | with_reducible apply frame_setBay
    | with_reducible apply frame_shareRefresh
    | with_reducible apply frame_trimSet
    | with_reducible apply Frame.foldlT
    | with_reducible assumption
    | (show (_ : Nat) = _; decide +kernel)
    | (show Nat.testBit _ _ = true; decide +kernel)
    | intro _
    | split)

theorem frame_rampTick {P G : Nat} {s₀ s : State} (h₀ : Frame P G s₀ s) (b : Nat) (hP : 0x801040 &&& P = 0x801040) (hG : 0xc000100020 &&& G = 0xc000100020) : Frame P G s₀ (State.rampTick s b) := by
  refine h₀.step (Q := 0x801040) (H := 0xc000100020) ?_ hP hG
  unfold State.rampTick
  try dsimp only
  iterate 50 all_goals try (first
    | (simp only [Frame.mk_iff]; with_reducible apply FrameC.upd <;> first | with_reducible exact fun _ => rfl | exact fun h => absurd h (by decide +kernel) | with_reducible exact fun _ h => ⟨h, rfl, rfl⟩ | with_reducible exact fun _ _ _ => rfl | with_reducible exact id | with_reducible exact fun h _ => h | with_reducible exact fun _ h => h | skip)
    | with_reducible apply Frame.ite
    | with_reducible exact Frame.refl _ _ _
    | with_reducible apply frame_setBay
    | with_reducible apply frame_shareRefresh
    | with_reducible apply frame_joined
    | with_reducible apply Frame.foldlT
    | with_reducible assumption
    | (show (_ : Nat) = _; decide +kernel)
    | (show Nat.testBit _ _ = true; decide +kernel)
    | intro _
    | split)

theorem frame_sharingStep {P G : Nat} {s₀ s : State} (h₀ : Frame P G s₀ s)  (hP : 0x801044 &&& P = 0x801044) (hG : 0xc000100020 &&& G = 0xc000100020) : Frame P G s₀ (State.sharingStep s) := by
  refine h₀.step (Q := 0x801044) (H := 0xc000100020) ?_ hP hG
  unfold State.sharingStep
  try dsimp only
  iterate 50 all_goals try (first
    | (simp only [Frame.mk_iff]; with_reducible apply FrameC.upd <;> first | with_reducible exact fun _ => rfl | exact fun h => absurd h (by decide +kernel) | with_reducible exact fun _ h => ⟨h, rfl, rfl⟩ | with_reducible exact fun _ _ _ => rfl | with_reducible exact id | with_reducible exact fun h _ => h | with_reducible exact fun _ h => h | skip)
    | with_reducible apply Frame.ite
    | with_reducible exact Frame.refl _ _ _
    | with_reducible apply frame_setBay
    | with_reducible apply frame_dropModel
    | with_reducible apply frame_shareTrims
    | with_reducible apply frame_rampTick
    | with_reducible apply Frame.foldlT
    | with_reducible assumption
    | (show (_ : Nat) = _; decide +kernel)
    | (show Nat.testBit _ _ = true; decide +kernel)
    | intro _
    | split)

theorem frame_leaveDue {P G : Nat} {s₀ s : State} (h₀ : Frame P G s₀ s) (b : Nat) (hP : 0x3c00000 &&& P = 0x3c00000) (hG : 0x100130000 &&& G = 0x100130000) : Frame P G s₀ (State.leaveDue s b) := by
  refine h₀.step (Q := 0x3c00000) (H := 0x100130000) ?_ hP hG
  unfold State.leaveDue
  try dsimp only
  iterate 50 all_goals try (first
    | (simp only [Frame.mk_iff]; with_reducible apply FrameC.upd <;> first | with_reducible exact fun _ => rfl | exact fun h => absurd h (by decide +kernel) | with_reducible exact fun _ h => ⟨h, rfl, rfl⟩ | with_reducible exact fun _ _ _ => rfl | with_reducible exact id | with_reducible exact fun h _ => h | with_reducible exact fun _ h => h | skip)
    | with_reducible apply Frame.ite
    | with_reducible exact Frame.refl _ _ _
    | with_reducible apply frame_setBay
    | with_reducible apply frame_bayToEjected
    | with_reducible apply frame_leaveStart
    | with_reducible apply Frame.foldlT
    | with_reducible assumption
    | (show (_ : Nat) = _; decide +kernel)
    | (show Nat.testBit _ _ = true; decide +kernel)
    | intro _
    | split)

theorem frame_voltageDue {P G : Nat} {s₀ s : State} (h₀ : Frame P G s₀ s)  (hP : 0x2000000 &&& P = 0x2000000) (hG : 0x100000 &&& G = 0x100000) : Frame P G s₀ (State.voltageDue s) := by
  refine h₀.step (Q := 0x2000000) (H := 0x100000) ?_ hP hG
  unfold State.voltageDue
  try dsimp only
  iterate 50 all_goals try (first
    | (simp only [Frame.mk_iff]; with_reducible apply FrameC.upd <;> first | with_reducible exact fun _ => rfl | exact fun h => absurd h (by decide +kernel) | with_reducible exact fun _ h => ⟨h, rfl, rfl⟩ | with_reducible exact fun _ _ _ => rfl | with_reducible exact id | with_reducible exact fun h _ => h | with_reducible exact fun _ h => h | skip)
    | with_reducible apply Frame.ite
    | with_reducible exact Frame.refl _ _ _
    | with_reducible apply frame_moveTo
    | with_reducible apply Frame.foldlT
    | with_reducible assumption
    | (show (_ : Nat) = _; decide +kernel)
    | (show Nat.testBit _ _ = true; decide +kernel)
    | intro _
    | split)

theorem frame_shedStep {P G : Nat} {s₀ s : State} (h₀ : Frame P G s₀ s) (due : List Nat × Option Nat) (hP : 0x3c01040 &&& P = 0x3c01040) (hG : 0xc100130020 &&& G = 0xc100130020) : Frame P G s₀ (State.shedStep s due) := by
  refine h₀.step (Q := 0x3c01040) (H := 0xc100130020) ?_ hP hG
  unfold State.shedStep
  try dsimp only
  iterate 50 all_goals try (first
    | with_reducible apply Frame.ite
    | with_reducible exact Frame.refl _ _ _
    | with_reducible apply frame_shedCommit
    | with_reducible apply frame_leaveDue
    | with_reducible apply frame_voltageDue
    | with_reducible apply Frame.foldlT
    | with_reducible assumption
    | (show (_ : Nat) = _; decide +kernel)
    | (show Nat.testBit _ _ = true; decide +kernel)
    | intro _
    | split)

theorem frame_trackerCommit {P G : Nat} {s₀ s : State} (h₀ : Frame P G s₀ s)  (hP : 0x104c &&& P = 0x104c) (hG : 0xffffffffffffffff &&& G = 0xffffffffffffffff) : Frame P G s₀ (State.trackerCommit s) := by
  refine h₀.step (Q := 0x104c) (H := 0xffffffffffffffff) ?_ hP hG
  unfold State.trackerCommit
  try dsimp only
  iterate 70 all_goals try (first
    | (simp only [Frame.mk_iff]; with_reducible apply FrameC.upd <;> first | with_reducible exact fun _ => rfl | exact fun h => absurd h (by decide +kernel) | with_reducible exact fun _ h => ⟨h, rfl, rfl⟩ | with_reducible exact fun _ _ _ => rfl | with_reducible exact id | with_reducible exact fun h _ => h | with_reducible exact fun _ h => h | (with_reducible show (Nat.testBit _ _ = false → _); exact fun _ => rfl) | skip)
    | ((with_reducible show (_ → twinRest _ = twinRest _)); intro _; exact rfl)
    | ((with_reducible show (_ → posKept _ _)); intro _; split <;> split <;> exact fun h => ⟨h, rfl, rfl⟩)
    | ((with_reducible show (_ → posKept _ _)); intro _ h; exact ⟨h, rfl, rfl⟩)
    | ((with_reducible show (_ → posKept _ _)); intro _ h; exact absurd h ‹_›)
    | ((with_reducible show (_ → coreRest _ = coreRest _)); intro _; exact rfl)
    | with_reducible apply Frame.ite
    | with_reducible exact Frame.refl _ _ _
    | with_reducible apply frame_flag
    | (with_reducible apply frame_raiseP1_low; case hs => decide)
    | with_reducible apply Frame.foldlT
    | with_reducible assumption
    | (show (_ : Nat) = _; decide +kernel)
    | (show Nat.testBit _ _ = true; first | decide +kernel | exact allPages _)
    | with_reducible exact fun _ _ _ => rfl
    | (with_reducible show ∀ (_ : Field) (_ : Nat), _ → _; exact fun _ _ h => absurd (h.symm.trans (allPages _)) (by decide))
    | with_reducible apply fieldPut_wf
    | with_reducible apply copyFields_wf
    | with_reducible apply copyInsts_wf
    | with_reducible apply copyBay_wf
    | with_reducible apply copyAll_wf
    | with_reducible apply offered_wf
    | with_reducible refine foldl_wf (fun _ _ h => copyBay_wf h) ?_
    | (intro _ _; dsimp only)
    | intro _
    | split)

theorem frame_calValidate {P G : Nat} {s₀ s : State} (h₀ : Frame P G s₀ s) (e : Nat) (hP : 0x1040 &&& P = 0x1040) (hG : 0xc000000030 &&& G = 0xc000000030) : Frame P G s₀ (State.calValidate s e) := by
  refine h₀.step (Q := 0x1040) (H := 0xc000000030) ?_ hP hG
  unfold State.calValidate
  try dsimp only
  iterate 50 all_goals try (first
    | with_reducible apply Frame.ite
    | with_reducible exact Frame.refl _ _ _
    | with_reducible apply frame_putAt
    | with_reducible apply frame_flag
    | (with_reducible apply frame_raise_low; case hs => decide)
    | with_reducible apply Frame.foldlT
    | with_reducible assumption
    | (show (_ : Nat) = _; decide +kernel)
    | (show Nat.testBit _ _ = true; decide +kernel)
    | intro _
    | split)

theorem frame_calAdopt {P G : Nat} {s₀ s : State} (h₀ : Frame P G s₀ s)  (hP : 0x81048 &&& P = 0x81048) (hG : 0xc000000030 &&& G = 0xc000000030) : Frame P G s₀ (State.calAdopt s) := by
  refine h₀.step (Q := 0x81048) (H := 0xc000000030) ?_ hP hG
  unfold State.calAdopt
  try dsimp only
  iterate 70 all_goals try (first
    | (simp only [Frame.mk_iff]; with_reducible apply FrameC.upd <;> first | with_reducible exact fun _ => rfl | exact fun h => absurd h (by decide +kernel) | with_reducible exact fun _ h => ⟨h, rfl, rfl⟩ | with_reducible exact fun _ _ _ => rfl | with_reducible exact id | with_reducible exact fun h _ => h | with_reducible exact fun _ h => h | (with_reducible show (Nat.testBit _ _ = false → _); exact fun _ => rfl) | skip)
    | ((with_reducible show (_ → twinRest _ = twinRest _)); intro _; exact rfl)
    | ((with_reducible show (_ → posKept _ _)); intro _; split <;> split <;> exact fun h => ⟨h, rfl, rfl⟩)
    | ((with_reducible show (_ → posKept _ _)); intro _ h; exact ⟨h, rfl, rfl⟩)
    | ((with_reducible show (_ → posKept _ _)); intro _ h; exact absurd h ‹_›)
    | ((with_reducible show (_ → coreRest _ = coreRest _)); intro _; exact rfl)
    | with_reducible apply Frame.ite
    | with_reducible exact Frame.refl _ _ _
    | with_reducible apply frame_calValidate
    | with_reducible apply Frame.foldlT
    | with_reducible assumption
    | (show (_ : Nat) = _; decide +kernel)
    | (show Nat.testBit _ _ = true; first | decide +kernel | exact allPages _)
    | with_reducible exact fun _ _ _ => rfl
    | (with_reducible show ∀ (_ : Field) (_ : Nat), _ → _; exact fun _ _ h => absurd (h.symm.trans (allPages _)) (by decide))
    | with_reducible apply fieldPut_wf
    | with_reducible apply copyFields_wf
    | with_reducible apply copyInsts_wf
    | with_reducible apply copyBay_wf
    | with_reducible apply copyAll_wf
    | with_reducible apply offered_wf
    | with_reducible refine foldl_wf (fun _ _ h => copyBay_wf h) ?_
    | (intro _ _; dsimp only)
    | intro _
    | split)

theorem frame_setPort {P G : Nat} {s₀ s : State} (h₀ : Frame P G s₀ s) (p : PortId) (v : Port) (hP : 0x1c000 &&& P = 0x1c000) (hG : 0x0 &&& G = 0x0) : Frame P G s₀ (State.setPort s p v) := by
  refine h₀.step (Q := 0x1c000) (H := 0x0) ?_ hP hG
  unfold State.setPort
  try dsimp only
  iterate 50 all_goals try (first
    | (simp only [Frame.mk_iff]; with_reducible apply FrameC.upd <;> first | with_reducible exact fun _ => rfl | exact fun h => absurd h (by decide +kernel) | with_reducible exact fun _ h => ⟨h, rfl, rfl⟩ | with_reducible exact fun _ _ _ => rfl | with_reducible exact id | with_reducible exact fun h _ => h | with_reducible exact fun _ h => h | skip)
    | with_reducible apply Frame.ite
    | with_reducible exact Frame.refl _ _ _
    | with_reducible apply Frame.foldlT
    | with_reducible assumption
    | (show (_ : Nat) = _; decide +kernel)
    | (show Nat.testBit _ _ = true; decide +kernel)
    | intro _
    | split)

theorem frame_portFlag {P G : Nat} {s₀ s : State} (h₀ : Frame P G s₀ s) (p : PortId) (k : Nat) (hP : 0x0 &&& P = 0x0) (hG : 0x100000000000000 &&& G = 0x100000000000000) : Frame P G s₀ (State.portFlag s p k) := by
  refine h₀.step (Q := 0x0) (H := 0x100000000000000) ?_ hP hG
  unfold State.portFlag
  try dsimp only
  iterate 50 all_goals try (first
    | with_reducible apply Frame.ite
    | with_reducible exact Frame.refl _ _ _
    | with_reducible apply frame_flag
    | with_reducible apply frame_putBit
    | with_reducible apply Frame.foldlT
    | with_reducible assumption
    | (show (_ : Nat) = _; decide +kernel)
    | (show Nat.testBit _ _ = true; decide +kernel)
    | intro _
    | split)

theorem frame_croakDone {P G : Nat} {s₀ s : State} (h₀ : Frame P G s₀ s) (p : PortId) (hP : 0x1d040 &&& P = 0x1d040) (hG : 0xc000000020 &&& G = 0xc000000020) : Frame P G s₀ (State.croakDone s p) := by
  refine h₀.step (Q := 0x1d040) (H := 0xc000000020) ?_ hP hG
  unfold State.croakDone
  try dsimp only
  iterate 50 all_goals try (first
    | (simp only [Frame.mk_iff]; with_reducible apply FrameC.upd <;> first | with_reducible exact fun _ => rfl | exact fun h => absurd h (by decide +kernel) | with_reducible exact fun _ h => ⟨h, rfl, rfl⟩ | with_reducible exact fun _ _ _ => rfl | with_reducible exact id | with_reducible exact fun h _ => h | with_reducible exact fun _ h => h | skip)
    | with_reducible apply Frame.ite
    | with_reducible exact Frame.refl _ _ _
    | (with_reducible apply frame_raise_low; case hs => decide)
    | with_reducible apply frame_setPort
    | with_reducible apply Frame.foldlT
    | with_reducible assumption
    | (show (_ : Nat) = _; decide +kernel)
    | (show Nat.testBit _ _ = true; decide +kernel)
    | intro _
    | split)

theorem frame_setCt {P G : Nat} {s₀ s : State} (h₀ : Frame P G s₀ s) (i : Nat) (v : CtSt) (hP : 0x400000000 &&& P = 0x400000000) (hG : 0x0 &&& G = 0x0) : Frame P G s₀ (State.setCt s i v) := by
  refine h₀.step (Q := 0x400000000) (H := 0x0) ?_ hP hG
  unfold State.setCt
  try dsimp only
  iterate 50 all_goals try (first
    | (simp only [Frame.mk_iff]; with_reducible apply FrameC.upd <;> first | with_reducible exact fun _ => rfl | exact fun h => absurd h (by decide +kernel) | with_reducible exact fun _ h => ⟨h, rfl, rfl⟩ | with_reducible exact fun _ _ _ => rfl | with_reducible exact id | with_reducible exact fun h _ => h | with_reducible exact fun _ h => h | skip)
    | with_reducible apply Frame.ite
    | with_reducible exact Frame.refl _ _ _
    | with_reducible apply Frame.foldlT
    | with_reducible assumption
    | (show (_ : Nat) = _; decide +kernel)
    | (show Nat.testBit _ _ = true; decide +kernel)
    | intro _
    | split)

theorem frame_putShadow {P G : Nat} {s₀ s : State} (h₀ : Frame P G s₀ s) (i : Nat) (r : List Nat) (hP : 0x8 &&& P = 0x8) (hG : 0x0 &&& G = 0x0) : Frame P G s₀ (State.putShadow s i r) := by
  refine h₀.step (Q := 0x8) (H := 0x0) ?_ hP hG
  unfold State.putShadow
  try dsimp only
  iterate 50 all_goals try (first
    | with_reducible apply Frame.ite
    | with_reducible exact Frame.refl _ _ _
    | with_reducible apply frame_putShad
    | with_reducible apply Frame.foldlT
    | with_reducible assumption
    | (show (_ : Nat) = _; decide +kernel)
    | (show Nat.testBit _ _ = true; decide +kernel)
    | intro _
    | split)

theorem frame_recStage {P G : Nat} {s₀ s : State} (h₀ : Frame P G s₀ s) (r : List Nat) (origin : Nat) (hP : 0x400000018 &&& P = 0x400000018) (hG : 0x0 &&& G = 0x0) : Frame P G s₀ (State.recStage s r origin) := by
  refine h₀.step (Q := 0x400000018) (H := 0x0) ?_ hP hG
  unfold State.recStage
  try dsimp only
  iterate 50 all_goals try (first
    | (simp only [Frame.mk_iff]; with_reducible apply FrameC.upd <;> first | with_reducible exact fun _ => rfl | exact fun h => absurd h (by decide +kernel) | with_reducible exact fun _ h => ⟨h, rfl, rfl⟩ | with_reducible exact fun _ _ _ => rfl | with_reducible exact id | with_reducible exact fun h _ => h | with_reducible exact fun _ h => h | skip)
    | with_reducible apply Frame.ite
    | with_reducible exact Frame.refl _ _ _
    | with_reducible apply frame_touch
    | with_reducible apply frame_setCt
    | with_reducible apply frame_putShadow
    | with_reducible apply Frame.foldlT
    | with_reducible assumption
    | (show (_ : Nat) = _; decide +kernel)
    | (show Nat.testBit _ _ = true; decide +kernel)
    | intro _
    | split)

theorem frame_recWrite {P G : Nat} {s₀ s : State} (h₀ : Frame P G s₀ s) (r : List Nat) (origin : Nat) (hP : 0x400001058 &&& P = 0x400001058) (hG : 0xc001000020 &&& G = 0xc001000020) : Frame P G s₀ (State.recWrite s r origin).1 := by
  refine h₀.step (Q := 0x400001058) (H := 0xc001000020) ?_ hP hG
  unfold State.recWrite
  try dsimp only
  iterate 50 all_goals try (first
    | with_reducible apply Frame.ite
    | with_reducible exact Frame.refl _ _ _
    | with_reducible apply frame_flag
    | (with_reducible apply frame_raise_low; case hs => decide)
    | with_reducible apply frame_recStage
    | with_reducible apply Frame.foldlT
    | with_reducible assumption
    | (show (_ : Nat) = _; decide +kernel)
    | (show Nat.testBit _ _ = true; decide +kernel)
    | intro _
    | split)

theorem frame_recWrite_of {P G : Nat} {s₀ s : State} {r : List Nat} {origin : Nat} {v} {u : State} (h : State.recWrite s r origin = (u, v)) (h₀ : Frame P G s₀ s)
    (hP : 0x400001058 &&& P = 0x400001058) (hG : 0xc001000020 &&& G = 0xc001000020) : Frame P G s₀ u := by
  have := frame_recWrite h₀ r origin hP hG; rw [h] at this; exact this

theorem frame_mailbox {P G : Nat} {s₀ s : State} (h₀ : Frame P G s₀ s) (r : List Nat) (hP : 0x400001058 &&& P = 0x400001058) (hG : 0xc001000020 &&& G = 0xc001000020) : Frame P G s₀ (State.mailbox s r) := by
  refine h₀.step (Q := 0x400001058) (H := 0xc001000020) ?_ hP hG
  unfold State.mailbox
  try dsimp only
  iterate 50 all_goals try (first
    | with_reducible apply Frame.ite
    | with_reducible exact Frame.refl _ _ _
    | with_reducible apply frame_put
    | (refine frame_recWrite_of ‹_› ?_ ?_ ?_)
    | with_reducible apply frame_recWrite
    | with_reducible apply Frame.foldlT
    | with_reducible assumption
    | (show (_ : Nat) = _; decide +kernel)
    | (show Nat.testBit _ _ = true; decide +kernel)
    | intro _
    | split)

theorem frame_contractWrite {P G : Nat} {s₀ s : State} (h₀ : Frame P G s₀ s) (r : List Nat) (hP : 0x400001058 &&& P = 0x400001058) (hG : 0xc003000020 &&& G = 0xc003000020) : Frame P G s₀ (State.contractWrite s r) := by
  refine h₀.step (Q := 0x400001058) (H := 0xc003000020) ?_ hP hG
  unfold State.contractWrite
  try dsimp only
  iterate 50 all_goals try (first
    | with_reducible apply Frame.ite
    | with_reducible exact Frame.refl _ _ _
    | with_reducible apply frame_put
    | (refine frame_recWrite_of ‹_› ?_ ?_ ?_)
    | with_reducible apply frame_recWrite
    | with_reducible apply Frame.foldlT
    | with_reducible assumption
    | (show (_ : Nat) = _; decide +kernel)
    | (show Nat.testBit _ _ = true; decide +kernel)
    | intro _
    | split)

theorem frame_grantReadback {P G : Nat} {s₀ s : State} (h₀ : Frame P G s₀ s) (id : Nat) (hP : 0x400008000 &&& P = 0x400008000) (hG : 0x0 &&& G = 0x0) : Frame P G s₀ (State.grantReadback s id) := by
  refine h₀.step (Q := 0x400008000) (H := 0x0) ?_ hP hG
  unfold State.grantReadback
  try dsimp only
  iterate 50 all_goals try (first
    | (simp only [Frame.mk_iff]; with_reducible apply FrameC.upd <;> first | with_reducible exact fun _ => rfl | exact fun h => absurd h (by decide +kernel) | with_reducible exact fun _ h => ⟨h, rfl, rfl⟩ | with_reducible exact fun _ _ _ => rfl | with_reducible exact id | with_reducible exact fun h _ => h | with_reducible exact fun _ h => h | skip)
    | with_reducible apply Frame.ite
    | with_reducible exact Frame.refl _ _ _
    | with_reducible apply Frame.foldlT
    | with_reducible assumption
    | (show (_ : Nat) = _; decide +kernel)
    | (show Nat.testBit _ _ = true; decide +kernel)
    | intro _
    | split)

theorem frame_groupsRefresh {P G : Nat} {s₀ s : State} (h₀ : Frame P G s₀ s)  (hP : 0x0 &&& P = 0x0) (hG : 0x1000000 &&& G = 0x1000000) : Frame P G s₀ (State.groupsRefresh s) := by
  refine h₀.step (Q := 0x0) (H := 0x1000000) ?_ hP hG
  unfold State.groupsRefresh
  try dsimp only
  iterate 50 all_goals try (first
    | with_reducible apply Frame.ite
    | with_reducible exact Frame.refl _ _ _
    | with_reducible apply frame_putAt
    | with_reducible apply Frame.foldlT
    | with_reducible assumption
    | (show (_ : Nat) = _; decide +kernel)
    | (show Nat.testBit _ _ = true; decide +kernel)
    | intro _
    | split)

theorem frame_ctCommit {P G : Nat} {s₀ s : State} (h₀ : Frame P G s₀ s) (i : Nat) (hP : 0x400201040 &&& P = 0x400201040) (hG : 0xc002000020 &&& G = 0xc002000020) : Frame P G s₀ (State.ctCommit s i) := by
  refine h₀.step (Q := 0x400201040) (H := 0xc002000020) ?_ hP hG
  unfold State.ctCommit
  try dsimp only
  iterate 50 all_goals try (first
    | (simp only [Frame.mk_iff]; with_reducible apply FrameC.upd <;> first | with_reducible exact fun _ => rfl | exact fun h => absurd h (by decide +kernel) | with_reducible exact fun _ h => ⟨h, rfl, rfl⟩ | with_reducible exact fun _ _ _ => rfl | with_reducible exact id | with_reducible exact fun h _ => h | with_reducible exact fun _ h => h | skip)
    | with_reducible apply Frame.ite
    | with_reducible exact Frame.refl _ _ _
    | with_reducible apply frame_putAt
    | with_reducible apply frame_putBit
    | (with_reducible apply frame_raise_low; case hs => decide)
    | with_reducible apply frame_sendContract
    | with_reducible apply frame_setCt
    | with_reducible apply Frame.foldlT
    | with_reducible assumption
    | (show (_ : Nat) = _; decide +kernel)
    | (show Nat.testBit _ _ = true; decide +kernel)
    | intro _
    | split)

theorem frame_contractsCommit {P G : Nat} {s₀ s : State} (h₀ : Frame P G s₀ s)  (hP : 0x400201040 &&& P = 0x400201040) (hG : 0xc003000020 &&& G = 0xc003000020) : Frame P G s₀ (State.contractsCommit s) := by
  refine h₀.step (Q := 0x400201040) (H := 0xc003000020) ?_ hP hG
  unfold State.contractsCommit
  try dsimp only
  iterate 50 all_goals try (first
    | with_reducible apply Frame.ite
    | with_reducible exact Frame.refl _ _ _
    | with_reducible apply frame_groupsRefresh
    | with_reducible apply frame_ctCommit
    | with_reducible apply Frame.foldlT
    | with_reducible assumption
    | (show (_ : Nat) = _; decide +kernel)
    | (show Nat.testBit _ _ = true; decide +kernel)
    | intro _
    | split)

theorem frame_contractImage {P G : Nat} {s₀ s : State} (h₀ : Frame P G s₀ s) (i : Nat) (hP : 0x400000008 &&& P = 0x400000008) (hG : 0x2000000 &&& G = 0x2000000) : Frame P G s₀ (State.contractImage s i) := by
  refine h₀.step (Q := 0x400000008) (H := 0x2000000) ?_ hP hG
  unfold State.contractImage
  try dsimp only
  iterate 50 all_goals try (first
    | (simp only [Frame.mk_iff]; with_reducible apply FrameC.upd <;> first | with_reducible exact fun _ => rfl | exact fun h => absurd h (by decide +kernel) | with_reducible exact fun _ h => ⟨h, rfl, rfl⟩ | with_reducible exact fun _ _ _ => rfl | with_reducible exact id | with_reducible exact fun h _ => h | with_reducible exact fun _ h => h | skip)
    | with_reducible apply Frame.ite
    | with_reducible exact Frame.refl _ _ _
    | with_reducible apply frame_putAt
    | with_reducible apply frame_putBit
    | with_reducible apply frame_putBoth
    | with_reducible apply frame_setCt
    | with_reducible apply Frame.foldlT
    | with_reducible assumption
    | (show (_ : Nat) = _; decide +kernel)
    | (show Nat.testBit _ _ = true; decide +kernel)
    | intro _
    | split)

theorem frame_contractsImage {P G : Nat} {s₀ s : State} (h₀ : Frame P G s₀ s)  (hP : 0x400000008 &&& P = 0x400000008) (hG : 0x3000000 &&& G = 0x3000000) : Frame P G s₀ (State.contractsImage s) := by
  refine h₀.step (Q := 0x400000008) (H := 0x3000000) ?_ hP hG
  unfold State.contractsImage
  try dsimp only
  iterate 50 all_goals try (first
    | with_reducible apply Frame.ite
    | with_reducible exact Frame.refl _ _ _
    | with_reducible apply frame_groupsRefresh
    | with_reducible apply frame_contractImage
    | with_reducible apply Frame.foldlT
    | with_reducible assumption
    | (show (_ : Nat) = _; decide +kernel)
    | (show Nat.testBit _ _ = true; decide +kernel)
    | intro _
    | split)

theorem frame_capCount {P G : Nat} {s₀ s : State} (h₀ : Frame P G s₀ s)  (hP : 0x400000000 &&& P = 0x400000000) (hG : 0x0 &&& G = 0x0) : Frame P G s₀ (State.capCount s) := by
  refine h₀.step (Q := 0x400000000) (H := 0x0) ?_ hP hG
  unfold State.capCount
  try dsimp only
  iterate 50 all_goals try (first
    | (simp only [Frame.mk_iff]; with_reducible apply FrameC.upd <;> first | with_reducible exact fun _ => rfl | exact fun h => absurd h (by decide +kernel) | with_reducible exact fun _ h => ⟨h, rfl, rfl⟩ | with_reducible exact fun _ _ _ => rfl | with_reducible exact id | with_reducible exact fun h _ => h | with_reducible exact fun _ h => h | skip)
    | with_reducible apply Frame.ite
    | with_reducible exact Frame.refl _ _ _
    | with_reducible apply Frame.foldlT
    | with_reducible assumption
    | (show (_ : Nat) = _; decide +kernel)
    | (show Nat.testBit _ _ = true; decide +kernel)
    | intro _
    | split)

theorem frame_capShow {P G : Nat} {s₀ s : State} (h₀ : Frame P G s₀ s)  (hP : 0x1040 &&& P = 0x1040) (hG : 0xc001000020 &&& G = 0xc001000020) : Frame P G s₀ (State.capShow s) := by
  refine h₀.step (Q := 0x1040) (H := 0xc001000020) ?_ hP hG
  unfold State.capShow
  try dsimp only
  iterate 50 all_goals try (first
    | with_reducible apply Frame.ite
    | with_reducible exact Frame.refl _ _ _
    | with_reducible apply frame_put
    | with_reducible apply frame_putB
    | with_reducible apply frame_putSat
    | with_reducible apply frame_flag
    | (with_reducible apply frame_raise_low; case hs => decide)
    | with_reducible apply Frame.foldlT
    | with_reducible assumption
    | (show (_ : Nat) = _; decide +kernel)
    | (show Nat.testBit _ _ = true; decide +kernel)
    | intro _
    | split)

theorem frame_allocate {P G : Nat} {s₀ s : State} (h₀ : Frame P G s₀ s)  (hP : 0x400001040 &&& P = 0x400001040) (hG : 0xc001000020 &&& G = 0xc001000020) : Frame P G s₀ (State.allocate s) := by
  refine h₀.step (Q := 0x400001040) (H := 0xc001000020) ?_ hP hG
  unfold State.allocate
  try dsimp only
  iterate 50 all_goals try (first
    | (simp only [Frame.mk_iff]; with_reducible apply FrameC.upd <;> first | with_reducible exact fun _ => rfl | exact fun h => absurd h (by decide +kernel) | with_reducible exact fun _ h => ⟨h, rfl, rfl⟩ | with_reducible exact fun _ _ _ => rfl | with_reducible exact id | with_reducible exact fun h _ => h | with_reducible exact fun _ h => h | skip)
    | with_reducible apply Frame.ite
    | with_reducible exact Frame.refl _ _ _
    | with_reducible apply frame_putSat
    | with_reducible apply frame_flag
    | (with_reducible apply frame_raise_low; case hs => decide)
    | with_reducible apply frame_setCt
    | with_reducible apply Frame.foldlT
    | with_reducible assumption
    | (show (_ : Nat) = _; decide +kernel)
    | (show Nat.testBit _ _ = true; decide +kernel)
    | intro _
    | split)

theorem frame_closeCharge {P G : Nat} {s₀ s : State} (h₀ : Frame P G s₀ s)  (hP : 0x400000000 &&& P = 0x400000000) (hG : 0x0 &&& G = 0x0) : Frame P G s₀ (State.closeCharge s) := by
  refine h₀.step (Q := 0x400000000) (H := 0x0) ?_ hP hG
  unfold State.closeCharge
  try dsimp only
  iterate 50 all_goals try (first
    | (simp only [Frame.mk_iff]; with_reducible apply FrameC.upd <;> first | with_reducible exact fun _ => rfl | exact fun h => absurd h (by decide +kernel) | with_reducible exact fun _ h => ⟨h, rfl, rfl⟩ | with_reducible exact fun _ _ _ => rfl | with_reducible exact id | with_reducible exact fun h _ => h | with_reducible exact fun _ h => h | skip)
    | with_reducible apply Frame.ite
    | with_reducible exact Frame.refl _ _ _
    | with_reducible apply Frame.foldlT
    | with_reducible assumption
    | (show (_ : Nat) = _; decide +kernel)
    | (show Nat.testBit _ _ = true; decide +kernel)
    | intro _
    | split)

theorem frame_cappingStep {P G : Nat} {s₀ s : State} (h₀ : Frame P G s₀ s)  (hP : 0x400001040 &&& P = 0x400001040) (hG : 0xc001000020 &&& G = 0xc001000020) : Frame P G s₀ (State.cappingStep s) := by
  refine h₀.step (Q := 0x400001040) (H := 0xc001000020) ?_ hP hG
  unfold State.cappingStep
  try dsimp only
  iterate 50 all_goals try (first
    | with_reducible apply Frame.ite
    | with_reducible exact Frame.refl _ _ _
    | with_reducible apply frame_capCount
    | with_reducible apply frame_capShow
    | with_reducible apply frame_allocate
    | with_reducible apply frame_closeCharge
    | with_reducible apply Frame.foldlT
    | with_reducible assumption
    | (show (_ : Nat) = _; decide +kernel)
    | (show Nat.testBit _ _ = true; decide +kernel)
    | intro _
    | split)

theorem frame_capCommit {P G : Nat} {s₀ s : State} (h₀ : Frame P G s₀ s)  (hP : 0x1048 &&& P = 0x1048) (hG : 0xffffffffffffffff &&& G = 0xffffffffffffffff) : Frame P G s₀ (State.capCommit s) := by
  refine h₀.step (Q := 0x1048) (H := 0xffffffffffffffff) ?_ hP hG
  unfold State.capCommit
  try dsimp only
  iterate 70 all_goals try (first
    | (simp only [Frame.mk_iff]; with_reducible apply FrameC.upd <;> first | with_reducible exact fun _ => rfl | exact fun h => absurd h (by decide +kernel) | with_reducible exact fun _ h => ⟨h, rfl, rfl⟩ | with_reducible exact fun _ _ _ => rfl | with_reducible exact id | with_reducible exact fun h _ => h | with_reducible exact fun _ h => h | (with_reducible show (Nat.testBit _ _ = false → _); exact fun _ => rfl) | skip)
    | ((with_reducible show (_ → twinRest _ = twinRest _)); intro _; exact rfl)
    | ((with_reducible show (_ → posKept _ _)); intro _; split <;> split <;> exact fun h => ⟨h, rfl, rfl⟩)
    | ((with_reducible show (_ → posKept _ _)); intro _ h; exact ⟨h, rfl, rfl⟩)
    | ((with_reducible show (_ → posKept _ _)); intro _ h; exact absurd h ‹_›)
    | ((with_reducible show (_ → coreRest _ = coreRest _)); intro _; exact rfl)
    | with_reducible apply Frame.ite
    | with_reducible exact Frame.refl _ _ _
    | with_reducible apply frame_flag
    | (with_reducible apply frame_raise_low; case hs => decide)
    | with_reducible apply Frame.foldlT
    | with_reducible assumption
    | (show (_ : Nat) = _; decide +kernel)
    | (show Nat.testBit _ _ = true; first | decide +kernel | exact allPages _)
    | with_reducible exact fun _ _ _ => rfl
    | (with_reducible show ∀ (_ : Field) (_ : Nat), _ → _; exact fun _ _ h => absurd (h.symm.trans (allPages _)) (by decide))
    | with_reducible apply fieldPut_wf
    | with_reducible apply copyFields_wf
    | with_reducible apply copyInsts_wf
    | with_reducible apply copyBay_wf
    | with_reducible apply copyAll_wf
    | with_reducible apply offered_wf
    | with_reducible refine foldl_wf (fun _ _ h => copyBay_wf h) ?_
    | (intro _ _; dsimp only)
    | intro _
    | split)

theorem frame_grantFailed {P G : Nat} {s₀ s : State} (h₀ : Frame P G s₀ s) (i : Nat) (hP : 0x400001040 &&& P = 0x400001040) (hG : 0x10000c003000020 &&& G = 0x10000c003000020) : Frame P G s₀ (State.grantFailed s i) := by
  refine h₀.step (Q := 0x400001040) (H := 0x10000c003000020) ?_ hP hG
  unfold State.grantFailed
  try dsimp only
  iterate 50 all_goals try (first
    | (simp only [Frame.mk_iff]; with_reducible apply FrameC.upd <;> first | with_reducible exact fun _ => rfl | exact fun h => absurd h (by decide +kernel) | with_reducible exact fun _ h => ⟨h, rfl, rfl⟩ | with_reducible exact fun _ _ _ => rfl | with_reducible exact id | with_reducible exact fun h _ => h | with_reducible exact fun _ h => h | skip)
    | with_reducible apply Frame.ite
    | with_reducible exact Frame.refl _ _ _
    | with_reducible apply frame_putAtSat
    | with_reducible apply frame_flag
    | with_reducible apply frame_putBit
    | with_reducible apply frame_bump
    | (with_reducible apply frame_raise_low; case hs => decide)
    | with_reducible apply frame_portFlag
    | with_reducible apply frame_setCt
    | with_reducible apply Frame.foldlT
    | with_reducible assumption
    | (show (_ : Nat) = _; decide +kernel)
    | (show Nat.testBit _ _ = true; decide +kernel)
    | intro _
    | split)

theorem frame_queueEnd {P G : Nat} {s₀ s : State} (h₀ : Frame P G s₀ s)  (hP : 0x0 &&& P = 0x0) (hG : 0x1000000 &&& G = 0x1000000) : Frame P G s₀ (State.queueEnd s) := by
  refine h₀.step (Q := 0x0) (H := 0x1000000) ?_ hP hG
  unfold State.queueEnd
  try dsimp only
  iterate 50 all_goals try (first
    | with_reducible apply Frame.ite
    | with_reducible exact Frame.refl _ _ _
    | with_reducible apply frame_putSat
    | with_reducible apply Frame.foldlT
    | with_reducible assumption
    | (show (_ : Nat) = _; decide +kernel)
    | (show Nat.testBit _ _ = true; decide +kernel)
    | intro _
    | split)

theorem frame_publish {P G : Nat} {s₀ s : State} (h₀ : Frame P G s₀ s)  (hP : 0x400001040 &&& P = 0x400001040) (hG : 0x10000c003000020 &&& G = 0x10000c003000020) : Frame P G s₀ (State.publish s) := by
  refine h₀.step (Q := 0x400001040) (H := 0x10000c003000020) ?_ hP hG
  unfold State.publish
  try dsimp only
  iterate 50 all_goals try (first
    | (simp only [Frame.mk_iff]; with_reducible apply FrameC.upd <;> first | with_reducible exact fun _ => rfl | exact fun h => absurd h (by decide +kernel) | with_reducible exact fun _ h => ⟨h, rfl, rfl⟩ | with_reducible exact fun _ _ _ => rfl | with_reducible exact id | with_reducible exact fun h _ => h | with_reducible exact fun _ h => h | skip)
    | with_reducible apply Frame.ite
    | with_reducible exact Frame.refl _ _ _
    | with_reducible apply frame_setCt
    | with_reducible apply frame_grantFailed
    | with_reducible apply Frame.foldlT
    | with_reducible assumption
    | (show (_ : Nat) = _; decide +kernel)
    | (show Nat.testBit _ _ = true; decide +kernel)
    | intro _
    | split)

theorem frame_grantAcked {P G : Nat} {s₀ s : State} (h₀ : Frame P G s₀ s) (i : Nat) (hP : 0x40001d040 &&& P = 0x40001d040) (hG : 0x10000c002000020 &&& G = 0x10000c002000020) : Frame P G s₀ (State.grantAcked s i) := by
  refine h₀.step (Q := 0x40001d040) (H := 0x10000c002000020) ?_ hP hG
  unfold State.grantAcked
  try dsimp only
  iterate 50 all_goals try (first
    | (simp only [Frame.mk_iff]; with_reducible apply FrameC.upd <;> first | with_reducible exact fun _ => rfl | exact fun h => absurd h (by decide +kernel) | with_reducible exact fun _ h => ⟨h, rfl, rfl⟩ | with_reducible exact fun _ _ _ => rfl | with_reducible exact id | with_reducible exact fun h _ => h | with_reducible exact fun _ h => h | skip)
    | with_reducible apply Frame.ite
    | with_reducible exact Frame.refl _ _ _
    | with_reducible apply frame_putAt
    | with_reducible apply frame_putBit
    | with_reducible apply frame_bump
    | with_reducible apply frame_croakDone
    | with_reducible apply frame_setCt
    | with_reducible apply Frame.foldlT
    | with_reducible assumption
    | (show (_ : Nat) = _; decide +kernel)
    | (show Nat.testBit _ _ = true; decide +kernel)
    | intro _
    | split)

theorem frame_grantNack {P G : Nat} {s₀ s : State} (h₀ : Frame P G s₀ s) (i : Nat) (rest : List Nat) (hP : 0x400001040 &&& P = 0x400001040) (hG : 0x10000c003000020 &&& G = 0x10000c003000020) : Frame P G s₀ (State.grantNack s i rest) := by
  refine h₀.step (Q := 0x400001040) (H := 0x10000c003000020) ?_ hP hG
  unfold State.grantNack
  try dsimp only
  iterate 50 all_goals try (first
    | (simp only [Frame.mk_iff]; with_reducible apply FrameC.upd <;> first | with_reducible exact fun _ => rfl | exact fun h => absurd h (by decide +kernel) | with_reducible exact fun _ h => ⟨h, rfl, rfl⟩ | with_reducible exact fun _ _ _ => rfl | with_reducible exact id | with_reducible exact fun h _ => h | with_reducible exact fun _ h => h | skip)
    | with_reducible apply Frame.ite
    | with_reducible exact Frame.refl _ _ _
    | with_reducible apply frame_grantFailed
    | with_reducible apply frame_queueEnd
    | with_reducible apply Frame.foldlT
    | with_reducible assumption
    | (show (_ : Nat) = _; decide +kernel)
    | (show Nat.testBit _ _ = true; decide +kernel)
    | intro _
    | split)

theorem frame_grantWrite {P G : Nat} {s₀ s : State} (h₀ : Frame P G s₀ s) (res : BusResult) (hP : 0x40001d040 &&& P = 0x40001d040) (hG : 0x10000c003000020 &&& G = 0x10000c003000020) : Frame P G s₀ (State.grantWrite s res) := by
  refine h₀.step (Q := 0x40001d040) (H := 0x10000c003000020) ?_ hP hG
  unfold State.grantWrite
  try dsimp only
  iterate 50 all_goals try (first
    | (simp only [Frame.mk_iff]; with_reducible apply FrameC.upd <;> first | with_reducible exact fun _ => rfl | exact fun h => absurd h (by decide +kernel) | with_reducible exact fun _ h => ⟨h, rfl, rfl⟩ | with_reducible exact fun _ _ _ => rfl | with_reducible exact id | with_reducible exact fun h _ => h | with_reducible exact fun _ h => h | skip)
    | with_reducible apply Frame.ite
    | with_reducible exact Frame.refl _ _ _
    | with_reducible apply frame_bump
    | (with_reducible apply frame_raise_low; case hs => decide)
    | with_reducible apply frame_queueEnd
    | with_reducible apply frame_grantAcked
    | with_reducible apply frame_grantNack
    | with_reducible apply Frame.foldlT
    | with_reducible assumption
    | (show (_ : Nat) = _; decide +kernel)
    | (show Nat.testBit _ _ = true; decide +kernel)
    | intro _
    | split)

theorem frame_closePower {P G : Nat} {s₀ s : State} (h₀ : Frame P G s₀ s)  (hP : 0x400000000 &&& P = 0x400000000) (hG : 0x0 &&& G = 0x0) : Frame P G s₀ (State.closePower s) := by
  refine h₀.step (Q := 0x400000000) (H := 0x0) ?_ hP hG
  unfold State.closePower
  try dsimp only
  iterate 50 all_goals try (first
    | (simp only [Frame.mk_iff]; with_reducible apply FrameC.upd <;> first | with_reducible exact fun _ => rfl | exact fun h => absurd h (by decide +kernel) | with_reducible exact fun _ h => ⟨h, rfl, rfl⟩ | with_reducible exact fun _ _ _ => rfl | with_reducible exact id | with_reducible exact fun h _ => h | with_reducible exact fun _ h => h | skip)
    | with_reducible apply Frame.ite
    | with_reducible exact Frame.refl _ _ _
    | with_reducible apply Frame.foldlT
    | with_reducible assumption
    | (show (_ : Nat) = _; decide +kernel)
    | (show Nat.testBit _ _ = true; decide +kernel)
    | intro _
    | split)

theorem frame_escalated {P G : Nat} {s₀ s : State} (h₀ : Frame P G s₀ s) (none0 : Bool) (g q : Nat) (hP : 0x400001040 &&& P = 0x400001040) (hG : 0xc001000020 &&& G = 0xc001000020) : Frame P G s₀ (State.escalated s none0 g q) := by
  refine h₀.step (Q := 0x400001040) (H := 0xc001000020) ?_ hP hG
  unfold State.escalated
  try dsimp only
  iterate 50 all_goals try (first
    | (simp only [Frame.mk_iff]; with_reducible apply FrameC.upd <;> first | with_reducible exact fun _ => rfl | exact fun h => absurd h (by decide +kernel) | with_reducible exact fun _ h => ⟨h, rfl, rfl⟩ | with_reducible exact fun _ _ _ => rfl | with_reducible exact id | with_reducible exact fun h _ => h | with_reducible exact fun _ h => h | skip)
    | with_reducible apply Frame.ite
    | with_reducible exact Frame.refl _ _ _
    | with_reducible apply frame_flag
    | with_reducible apply frame_bump
    | (with_reducible apply frame_raise_low; case hs => decide)
    | with_reducible apply Frame.foldlT
    | with_reducible assumption
    | (show (_ : Nat) = _; decide +kernel)
    | (show Nat.testBit _ _ = true; decide +kernel)
    | intro _
    | split)

theorem frame_escLeft {P G : Nat} {s₀ s : State} (h₀ : Frame P G s₀ s) (left : Rat) (hP : 0x400001040 &&& P = 0x400001040) (hG : 0xc001000020 &&& G = 0xc001000020) : Frame P G s₀ (State.escLeft s left) := by
  refine h₀.step (Q := 0x400001040) (H := 0xc001000020) ?_ hP hG
  unfold State.escLeft
  try dsimp only
  iterate 50 all_goals try (first
    | (simp only [Frame.mk_iff]; with_reducible apply FrameC.upd <;> first | with_reducible exact fun _ => rfl | exact fun h => absurd h (by decide +kernel) | with_reducible exact fun _ h => ⟨h, rfl, rfl⟩ | with_reducible exact fun _ _ _ => rfl | with_reducible exact id | with_reducible exact fun h _ => h | with_reducible exact fun _ h => h | skip)
    | with_reducible apply Frame.ite
    | with_reducible exact Frame.refl _ _ _
    | with_reducible apply frame_flag
    | (with_reducible apply frame_raise_low; case hs => decide)
    | with_reducible apply Frame.foldlT
    | with_reducible assumption
    | (show (_ : Nat) = _; decide +kernel)
    | (show Nat.testBit _ _ = true; decide +kernel)
    | intro _
    | split)

theorem frame_escWalk {P G : Nat} {s₀ s : State} (h₀ : Frame P G s₀ s) (gs : List Nat) (e : Rat) (first : Option (Nat × Nat)) (hP : 0x0 &&& P = 0x0) (hG : 0x1000000 &&& G = 0x1000000) :
    Frame P G s₀ (s.escWalk gs e first).1 := by
  induction gs generalizing s e first with
  | nil => exact h₀
  | cons g gs ih =>
    unfold State.escWalk; dsimp only
    split
    · exact h₀
    · split
      · exact ih h₀ _ _
      · exact ih (frame_putAt h₀ _ _ _ (bit_mono hG (by decide +kernel))) _ _

theorem frame_escWalk_of {P G : Nat} {s₀ s : State} {gs : List Nat} {e : Rat} {first : Option (Nat × Nat)} {v} {u : State} (h : s.escWalk gs e first = (u, v)) (h₀ : Frame P G s₀ s)
    (hP : 0x0 &&& P = 0x0) (hG : 0x1000000 &&& G = 0x1000000) : Frame P G s₀ u := by
  have := frame_escWalk h₀ gs e first hP hG; rw [h] at this; exact this

theorem frame_escalate {P G : Nat} {s₀ s : State} (h₀ : Frame P G s₀ s) (e : Rat) (hP : 0x400001040 &&& P = 0x400001040) (hG : 0xc001000020 &&& G = 0xc001000020) : Frame P G s₀ (State.escalate s e) := by
  refine h₀.step (Q := 0x400001040) (H := 0xc001000020) ?_ hP hG
  unfold State.escalate
  try dsimp only
  iterate 50 all_goals try (first
    | with_reducible apply Frame.ite
    | with_reducible exact Frame.refl _ _ _
    | (refine frame_escWalk_of ‹_› ?_ ?_ ?_)
    | with_reducible apply frame_escWalk
    | with_reducible apply frame_escalated
    | with_reducible apply frame_escLeft
    | with_reducible apply Frame.foldlT
    | with_reducible assumption
    | (show (_ : Nat) = _; decide +kernel)
    | (show Nat.testBit _ _ = true; decide +kernel)
    | intro _
    | split)

theorem frame_relieve {P G : Nat} {s₀ s : State} (h₀ : Frame P G s₀ s) (h : Rat) (hP : 0x400001040 &&& P = 0x400001040) (hG : 0xc001000020 &&& G = 0xc001000020) : Frame P G s₀ (State.relieve s h) := by
  refine h₀.step (Q := 0x400001040) (H := 0xc001000020) ?_ hP hG
  unfold State.relieve
  try dsimp only
  iterate 50 all_goals try (first
    | (simp only [Frame.mk_iff]; with_reducible apply FrameC.upd <;> first | with_reducible exact fun _ => rfl | exact fun h => absurd h (by decide +kernel) | with_reducible exact fun _ h => ⟨h, rfl, rfl⟩ | with_reducible exact fun _ _ _ => rfl | with_reducible exact id | with_reducible exact fun h _ => h | with_reducible exact fun _ h => h | skip)
    | with_reducible apply Frame.ite
    | with_reducible exact Frame.refl _ _ _
    | with_reducible apply frame_putAt
    | with_reducible apply frame_bump
    | (with_reducible apply frame_raise_low; case hs => decide)
    | with_reducible apply Frame.foldlT
    | with_reducible assumption
    | (show (_ : Nat) = _; decide +kernel)
    | (show Nat.testBit _ _ = true; decide +kernel)
    | intro _
    | split)

theorem frame_capCounts {P G : Nat} {s₀ s : State} (h₀ : Frame P G s₀ s)  (hP : 0x400000000 &&& P = 0x400000000) (hG : 0x0 &&& G = 0x0) : Frame P G s₀ (State.capCounts s) := by
  refine h₀.step (Q := 0x400000000) (H := 0x0) ?_ hP hG
  unfold State.capCounts
  try dsimp only
  iterate 50 all_goals try (first
    | (simp only [Frame.mk_iff]; with_reducible apply FrameC.upd <;> first | with_reducible exact fun _ => rfl | exact fun h => absurd h (by decide +kernel) | with_reducible exact fun _ h => ⟨h, rfl, rfl⟩ | with_reducible exact fun _ _ _ => rfl | with_reducible exact id | with_reducible exact fun h _ => h | with_reducible exact fun _ h => h | skip)
    | with_reducible apply Frame.ite
    | with_reducible exact Frame.refl _ _ _
    | with_reducible apply Frame.foldlT
    | with_reducible assumption
    | (show (_ : Nat) = _; decide +kernel)
    | (show Nat.testBit _ _ = true; decide +kernel)
    | intro _
    | split)

theorem frame_enforceAct {P G : Nat} {s₀ s : State} (h₀ : Frame P G s₀ s) (held : Bool) (hP : 0x400001040 &&& P = 0x400001040) (hG : 0xc001000020 &&& G = 0xc001000020) : Frame P G s₀ (State.enforceAct s held) := by
  refine h₀.step (Q := 0x400001040) (H := 0xc001000020) ?_ hP hG
  unfold State.enforceAct
  try dsimp only
  iterate 50 all_goals try (first
    | with_reducible apply Frame.ite
    | with_reducible exact Frame.refl _ _ _
    | with_reducible apply frame_escalate
    | with_reducible apply frame_relieve
    | with_reducible apply Frame.foldlT
    | with_reducible assumption
    | (show (_ : Nat) = _; decide +kernel)
    | (show Nat.testBit _ _ = true; decide +kernel)
    | intro _
    | split)

theorem frame_enforce {P G : Nat} {s₀ s : State} (h₀ : Frame P G s₀ s)  (hP : 0x400001040 &&& P = 0x400001040) (hG : 0xc001000020 &&& G = 0xc001000020) : Frame P G s₀ (State.enforce s) := by
  refine h₀.step (Q := 0x400001040) (H := 0xc001000020) ?_ hP hG
  unfold State.enforce
  try dsimp only
  iterate 50 all_goals try (first
    | (simp only [Frame.mk_iff]; with_reducible apply FrameC.upd <;> first | with_reducible exact fun _ => rfl | exact fun h => absurd h (by decide +kernel) | with_reducible exact fun _ h => ⟨h, rfl, rfl⟩ | with_reducible exact fun _ _ _ => rfl | with_reducible exact id | with_reducible exact fun h _ => h | with_reducible exact fun _ h => h | skip)
    | with_reducible apply Frame.ite
    | with_reducible exact Frame.refl _ _ _
    | with_reducible apply frame_putSat
    | with_reducible apply frame_capShow
    | with_reducible apply frame_capCounts
    | with_reducible apply frame_enforceAct
    | with_reducible apply Frame.foldlT
    | with_reducible assumption
    | (show (_ : Nat) = _; decide +kernel)
    | (show Nat.testBit _ _ = true; decide +kernel)
    | intro _
    | split)

theorem frame_paceTick {P G : Nat} {s₀ s : State} (h₀ : Frame P G s₀ s)  (hP : 0x400000000 &&& P = 0x400000000) (hG : 0x0 &&& G = 0x0) : Frame P G s₀ (State.paceTick s) := by
  refine h₀.step (Q := 0x400000000) (H := 0x0) ?_ hP hG
  unfold State.paceTick
  try dsimp only
  iterate 50 all_goals try (first
    | (simp only [Frame.mk_iff]; with_reducible apply FrameC.upd <;> first | with_reducible exact fun _ => rfl | exact fun h => absurd h (by decide +kernel) | with_reducible exact fun _ h => ⟨h, rfl, rfl⟩ | with_reducible exact fun _ _ _ => rfl | with_reducible exact id | with_reducible exact fun h _ => h | with_reducible exact fun _ h => h | skip)
    | with_reducible apply Frame.ite
    | with_reducible exact Frame.refl _ _ _
    | with_reducible apply Frame.foldlT
    | with_reducible assumption
    | (show (_ : Nat) = _; decide +kernel)
    | (show Nat.testBit _ _ = true; decide +kernel)
    | intro _
    | split)

theorem frame_paceClear {P G : Nat} {s₀ s : State} (h₀ : Frame P G s₀ s)  (hP : 0x400000000 &&& P = 0x400000000) (hG : 0x1000000 &&& G = 0x1000000) : Frame P G s₀ (State.paceClear s) := by
  refine h₀.step (Q := 0x400000000) (H := 0x1000000) ?_ hP hG
  unfold State.paceClear
  try dsimp only
  iterate 50 all_goals try (first
    | (simp only [Frame.mk_iff]; with_reducible apply FrameC.upd <;> first | with_reducible exact fun _ => rfl | exact fun h => absurd h (by decide +kernel) | with_reducible exact fun _ h => ⟨h, rfl, rfl⟩ | with_reducible exact fun _ _ _ => rfl | with_reducible exact id | with_reducible exact fun h _ => h | with_reducible exact fun _ h => h | skip)
    | with_reducible apply Frame.ite
    | with_reducible exact Frame.refl _ _ _
    | with_reducible apply frame_putAt
    | with_reducible apply Frame.foldlT
    | with_reducible assumption
    | (show (_ : Nat) = _; decide +kernel)
    | (show Nat.testBit _ _ = true; decide +kernel)
    | intro _
    | split)

theorem frame_setWin {P G : Nat} {s₀ s : State} (h₀ : Frame P G s₀ s) (k : Nat) (w : TlmWin) (hP : 0x200000000 &&& P = 0x200000000) (hG : 0x0 &&& G = 0x0) : Frame P G s₀ (State.setWin s k w) := by
  refine h₀.step (Q := 0x200000000) (H := 0x0) ?_ hP hG
  unfold State.setWin
  try dsimp only
  iterate 50 all_goals try (first
    | (simp only [Frame.mk_iff]; with_reducible apply FrameC.upd <;> first | with_reducible exact fun _ => rfl | exact fun h => absurd h (by decide +kernel) | with_reducible exact fun _ h => ⟨h, rfl, rfl⟩ | with_reducible exact fun _ _ _ => rfl | with_reducible exact id | with_reducible exact fun h _ => h | with_reducible exact fun _ h => h | skip)
    | with_reducible apply Frame.ite
    | with_reducible exact Frame.refl _ _ _
    | with_reducible apply Frame.foldlT
    | with_reducible assumption
    | (show (_ : Nat) = _; decide +kernel)
    | (show Nat.testBit _ _ = true; decide +kernel)
    | intro _
    | split)

theorem frame_tickClear {P G : Nat} {s₀ s : State} (h₀ : Frame P G s₀ s)  (hP : 0x220800000 &&& P = 0x220800000) (hG : 0x0 &&& G = 0x0) : Frame P G s₀ (State.tickClear s) := by
  refine h₀.step (Q := 0x220800000) (H := 0x0) ?_ hP hG
  unfold State.tickClear
  try dsimp only
  iterate 50 all_goals try (first
    | (simp only [Frame.mk_iff]; with_reducible apply FrameC.upd <;> first | with_reducible exact fun _ => rfl | exact fun h => absurd h (by decide +kernel) | with_reducible exact fun _ h => ⟨h, rfl, rfl⟩ | with_reducible exact fun _ _ _ => rfl | with_reducible exact id | with_reducible exact fun h _ => h | with_reducible exact fun _ h => h | skip)
    | with_reducible apply Frame.ite
    | with_reducible exact Frame.refl _ _ _
    | with_reducible apply frame_setBay
    | with_reducible apply frame_setStr
    | with_reducible apply Frame.foldlT
    | with_reducible assumption
    | (show (_ : Nat) = _; decide +kernel)
    | (show Nat.testBit _ _ = true; decide +kernel)
    | intro _
    | split)

theorem frame_energyAdd {P G : Nat} {s₀ s : State} (h₀ : Frame P G s₀ s) (j : Rat) (f : Field) (rem : Rat) (hP : 0x0 &&& P = 0x0) (hG : 0xffffffffffffffff &&& G = 0xffffffffffffffff) : Frame P G s₀ (State.energyAdd s j f rem).1 := by
  refine h₀.step (Q := 0x0) (H := 0xffffffffffffffff) ?_ hP hG
  unfold State.energyAdd
  try dsimp only
  iterate 70 all_goals try (first
    | (simp only [Frame.mk_iff]; with_reducible apply FrameC.upd <;> first | with_reducible exact fun _ => rfl | exact fun h => absurd h (by decide +kernel) | with_reducible exact fun _ h => ⟨h, rfl, rfl⟩ | with_reducible exact fun _ _ _ => rfl | with_reducible exact id | with_reducible exact fun h _ => h | with_reducible exact fun _ h => h | (with_reducible show (Nat.testBit _ _ = false → _); exact fun _ => rfl) | skip)
    | ((with_reducible show (_ → twinRest _ = twinRest _)); intro _; exact rfl)
    | ((with_reducible show (_ → posKept _ _)); intro _; split <;> split <;> exact fun h => ⟨h, rfl, rfl⟩)
    | ((with_reducible show (_ → posKept _ _)); intro _ h; exact ⟨h, rfl, rfl⟩)
    | ((with_reducible show (_ → posKept _ _)); intro _ h; exact absurd h ‹_›)
    | ((with_reducible show (_ → coreRest _ = coreRest _)); intro _; exact rfl)
    | with_reducible apply Frame.ite
    | with_reducible exact Frame.refl _ _ _
    | with_reducible apply frame_addTo
    | with_reducible apply Frame.foldlT
    | with_reducible assumption
    | (show (_ : Nat) = _; decide +kernel)
    | (show Nat.testBit _ _ = true; first | decide +kernel | exact allPages _)
    | with_reducible exact fun _ _ _ => rfl
    | (with_reducible show ∀ (_ : Field) (_ : Nat), _ → _; exact fun _ _ h => absurd (h.symm.trans (allPages _)) (by decide))
    | with_reducible apply fieldPut_wf
    | with_reducible apply copyFields_wf
    | with_reducible apply copyInsts_wf
    | with_reducible apply copyBay_wf
    | with_reducible apply copyAll_wf
    | with_reducible apply offered_wf
    | with_reducible refine foldl_wf (fun _ _ h => copyBay_wf h) ?_
    | (intro _ _; dsimp only)
    | intro _
    | split)

theorem frame_energyAdd_of {P G : Nat} {s₀ s : State} {j : Rat} {f : Field} {rem : Rat} {v} {u : State} (h : State.energyAdd s j f rem = (u, v)) (h₀ : Frame P G s₀ s)
    (hP : 0x0 &&& P = 0x0) (hG : 0xffffffffffffffff &&& G = 0xffffffffffffffff) : Frame P G s₀ u := by
  have := frame_energyAdd h₀ j f rem hP hG; rw [h] at this; exact this

theorem frame_jrnEnergy {P G : Nat} {s₀ s : State} (h₀ : Frame P G s₀ s) (v : List Rat) (hP : 0x800 &&& P = 0x800) (hG : 0xffffffffffffffff &&& G = 0xffffffffffffffff) : Frame P G s₀ (State.jrnEnergy s v) := by
  refine h₀.step (Q := 0x800) (H := 0xffffffffffffffff) ?_ hP hG
  unfold State.jrnEnergy
  try dsimp only
  iterate 50 all_goals try (first
    | (simp only [Frame.mk_iff]; with_reducible apply FrameC.upd <;> first | with_reducible exact fun _ => rfl | exact fun h => absurd h (by decide +kernel) | with_reducible exact fun _ h => ⟨h, rfl, rfl⟩ | with_reducible exact fun _ _ _ => rfl | with_reducible exact id | with_reducible exact fun h _ => h | with_reducible exact fun _ h => h | skip)
    | with_reducible apply Frame.ite
    | with_reducible exact Frame.refl _ _ _
    | (refine frame_energyAdd_of ‹_› ?_ ?_ ?_)
    | with_reducible apply frame_energyAdd
    | with_reducible apply Frame.foldlT
    | with_reducible assumption
    | (show (_ : Nat) = _; decide +kernel)
    | (show Nat.testBit _ _ = true; decide +kernel)
    | intro _
    | split)

theorem frame_publishWin {P G : Nat} {s₀ s : State} (h₀ : Frame P G s₀ s) (k : Nat) (hP : 0x200000000 &&& P = 0x200000000) (hG : 0x1000000000 &&& G = 0x1000000000) : Frame P G s₀ (State.publishWin s k) := by
  refine h₀.step (Q := 0x200000000) (H := 0x1000000000) ?_ hP hG
  unfold State.publishWin
  try dsimp only
  iterate 50 all_goals try (first
    | (simp only [Frame.mk_iff]; with_reducible apply FrameC.upd <;> first | with_reducible exact fun _ => rfl | exact fun h => absurd h (by decide +kernel) | with_reducible exact fun _ h => ⟨h, rfl, rfl⟩ | with_reducible exact fun _ _ _ => rfl | with_reducible exact id | with_reducible exact fun h _ => h | with_reducible exact fun _ h => h | skip)
    | with_reducible apply Frame.ite
    | with_reducible exact Frame.refl _ _ _
    | with_reducible apply frame_putAt
    | with_reducible apply frame_putAtB
    | with_reducible apply frame_sputAt
    | with_reducible apply frame_putAtSat
    | with_reducible apply frame_setWin
    | with_reducible apply Frame.foldlT
    | with_reducible assumption
    | (show (_ : Nat) = _; decide +kernel)
    | (show Nat.testBit _ _ = true; decide +kernel)
    | intro _
    | split)

theorem frame_tlmExport {P G : Nat} {s₀ s : State} (h₀ : Frame P G s₀ s)  (hP : 0x1040 &&& P = 0x1040) (hG : 0xc000000020 &&& G = 0xc000000020) : Frame P G s₀ (State.tlmExport s) := by
  refine h₀.step (Q := 0x1040) (H := 0xc000000020) ?_ hP hG
  unfold State.tlmExport
  try dsimp only
  iterate 50 all_goals try (first
    | with_reducible apply Frame.ite
    | with_reducible exact Frame.refl _ _ _
    | (with_reducible apply frame_raise_low; case hs => decide)
    | with_reducible apply Frame.foldlT
    | with_reducible assumption
    | (show (_ : Nat) = _; decide +kernel)
    | (show Nat.testBit _ _ = true; decide +kernel)
    | intro _
    | split)

theorem frame_winAdd {P G : Nat} {s₀ s : State} (h₀ : Frame P G s₀ s) (v : List Rat) (zero : Bool) (k : Nat) (hP : 0x200000000 &&& P = 0x200000000) (hG : 0x0 &&& G = 0x0) : Frame P G s₀ (State.winAdd s v zero k) := by
  refine h₀.step (Q := 0x200000000) (H := 0x0) ?_ hP hG
  unfold State.winAdd
  try dsimp only
  iterate 50 all_goals try (first
    | (simp only [Frame.mk_iff]; with_reducible apply FrameC.upd <;> first | with_reducible exact fun _ => rfl | exact fun h => absurd h (by decide +kernel) | with_reducible exact fun _ h => ⟨h, rfl, rfl⟩ | with_reducible exact fun _ _ _ => rfl | with_reducible exact id | with_reducible exact fun h _ => h | with_reducible exact fun _ h => h | skip)
    | with_reducible apply Frame.ite
    | with_reducible exact Frame.refl _ _ _
    | with_reducible apply frame_setWin
    | with_reducible apply Frame.foldlT
    | with_reducible assumption
    | (show (_ : Nat) = _; decide +kernel)
    | (show Nat.testBit _ _ = true; decide +kernel)
    | intro _
    | split)

theorem frame_winClose {P G : Nat} {s₀ s : State} (h₀ : Frame P G s₀ s) (k : Nat) (hP : 0x200001040 &&& P = 0x200001040) (hG : 0xd000000020 &&& G = 0xd000000020) : Frame P G s₀ (State.winClose s k) := by
  refine h₀.step (Q := 0x200001040) (H := 0xd000000020) ?_ hP hG
  unfold State.winClose
  try dsimp only
  iterate 50 all_goals try (first
    | with_reducible apply Frame.ite
    | with_reducible exact Frame.refl _ _ _
    | with_reducible apply frame_publishWin
    | with_reducible apply frame_tlmExport
    | with_reducible apply Frame.foldlT
    | with_reducible assumption
    | (show (_ : Nat) = _; decide +kernel)
    | (show Nat.testBit _ _ = true; decide +kernel)
    | intro _
    | split)

theorem frame_telemetryTick {P G : Nat} {s₀ s : State} (h₀ : Frame P G s₀ s) (zero : Bool) (hP : 0x220801840 &&& P = 0x220801840) (hG : 0xffffffffffffffff &&& G = 0xffffffffffffffff) : Frame P G s₀ (State.telemetryTick s zero) := by
  refine h₀.step (Q := 0x220801840) (H := 0xffffffffffffffff) ?_ hP hG
  unfold State.telemetryTick
  try dsimp only
  iterate 50 all_goals try (first
    | with_reducible apply Frame.ite
    | with_reducible exact Frame.refl _ _ _
    | with_reducible apply frame_tickClear
    | with_reducible apply frame_jrnEnergy
    | with_reducible apply frame_publishWin
    | with_reducible apply frame_winAdd
    | with_reducible apply frame_winClose
    | with_reducible apply Frame.foldlT
    | with_reducible assumption
    | (show (_ : Nat) = _; decide +kernel)
    | (show Nat.testBit _ _ = true; decide +kernel)
    | intro _
    | split)

end Sys2Proof.Laws
end

