-- ==== Sys2Proof/Laws/Frame4.lean ====
section
/-! SUPPORT. Frame laws: what each operation of these files of Machine/ can touch: Enter, Journal, Images, Period, Controller, Twin, Log. -/

namespace Sys2Proof.Laws

open Sys2Proof Sys2Proof.Machine

set_option Elab.async false
set_option linter.all false

theorem frame_imageDerive {P G : Nat} {s₀ s : State} (h₀ : Frame P G s₀ s)  (hP : 0xd67c61c78 &&& P = 0xd67c61c78) (hG : 0x400500c10cbb0024 &&& G = 0x400500c10cbb0024) : Frame P G s₀ (State.imageDerive s) := by
  refine h₀.step (Q := 0xd67c61c78) (H := 0x400500c10cbb0024) ?_ hP hG
  unfold State.imageDerive
  try dsimp only
  iterate 50 all_goals try (first
    | with_reducible apply Frame.ite
    | with_reducible exact Frame.refl _ _ _
    | with_reducible apply frame_stringsImage
    | with_reducible apply frame_trimsInForce
    | with_reducible apply frame_deriveBay
    | with_reducible apply frame_feedsConfigured
    | with_reducible apply frame_fusesImage
    | with_reducible apply Frame.foldlT
    | with_reducible assumption
    | (show (_ : Nat) = _; decide +kernel)
    | (show Nat.testBit _ _ = true; decide +kernel)
    | intro _
    | split)

theorem frame_roleShow {P G : Nat} {s₀ s : State} (h₀ : Frame P G s₀ s)  (hP : 0x0 &&& P = 0x0) (hG : 0x10000000000000 &&& G = 0x10000000000000) : Frame P G s₀ (State.roleShow s) := by
  refine h₀.step (Q := 0x0) (H := 0x10000000000000) ?_ hP hG
  unfold State.roleShow
  try dsimp only
  iterate 50 all_goals try (first
    | with_reducible apply Frame.ite
    | with_reducible exact Frame.refl _ _ _
    | with_reducible apply frame_put
    | with_reducible apply Frame.foldlT
    | with_reducible assumption
    | (show (_ : Nat) = _; decide +kernel)
    | (show Nat.testBit _ _ = true; decide +kernel)
    | intro _
    | split)

theorem frame_imageHooks {P G : Nat} {s₀ s : State} (h₀ : Frame P G s₀ s)  (hP : 0xd67c61c78 &&& P = 0xd67c61c78) (hG : 0x401500c10fbb0024 &&& G = 0x401500c10fbb0024) : Frame P G s₀ (State.imageHooks s) := by
  refine h₀.step (Q := 0xd67c61c78) (H := 0x401500c10fbb0024) ?_ hP hG
  unfold State.imageHooks
  try dsimp only
  iterate 50 all_goals try (first
    | with_reducible apply Frame.ite
    | with_reducible exact Frame.refl _ _ _
    | with_reducible apply frame_contractsImage
    | with_reducible apply frame_imageDerive
    | with_reducible apply frame_roleShow
    | with_reducible apply Frame.foldlT
    | with_reducible assumption
    | (show (_ : Nat) = _; decide +kernel)
    | (show Nat.testBit _ _ = true; decide +kernel)
    | intro _
    | split)

theorem frame_release {P G : Nat} {s₀ s : State} (h₀ : Frame P G s₀ s) (trig : Nat) (back : Bool) (hP : 0x400100020 &&& P = 0x400100020) (hG : 0x10000000000004 &&& G = 0x10000000000004) : Frame P G s₀ (State.release s trig back) := by
  refine h₀.step (Q := 0x400100020) (H := 0x10000000000004) ?_ hP hG
  unfold State.release
  try dsimp only
  iterate 50 all_goals try (first
    | (simp only [Frame.mk_iff]; with_reducible apply FrameC.upd <;> first | with_reducible exact fun _ => rfl | exact fun h => absurd h (by decide +kernel) | with_reducible exact fun _ h => ⟨h, rfl, rfl⟩ | with_reducible exact fun _ _ _ => rfl | with_reducible exact id | with_reducible exact fun h _ => h | with_reducible exact fun _ h => h | skip)
    | with_reducible apply Frame.ite
    | with_reducible exact Frame.refl _ _ _
    | with_reducible apply frame_put
    | with_reducible apply frame_flag
    | with_reducible apply frame_roleShow
    | with_reducible apply Frame.foldlT
    | with_reducible assumption
    | (show (_ : Nat) = _; decide +kernel)
    | (show Nat.testBit _ _ = true; decide +kernel)
    | intro _
    | split)

theorem frame_enterShadow {P G : Nat} {s₀ s : State} (h₀ : Frame P G s₀ s) (cause : Nat) (hP : 0xcc0061c78 &&& P = 0xcc0061c78) (hG : 0x400500c010000024 &&& G = 0x400500c010000024) : Frame P G s₀ (State.enterShadow s cause) := by
  refine h₀.step (Q := 0xcc0061c78) (H := 0x400500c010000024) ?_ hP hG
  unfold State.enterShadow
  try dsimp only
  iterate 50 all_goals try (first
    | (simp only [Frame.mk_iff]; with_reducible apply FrameC.upd <;> first | with_reducible exact fun _ => rfl | exact fun h => absurd h (by decide +kernel) | with_reducible exact fun _ h => ⟨h, rfl, rfl⟩ | with_reducible exact fun _ _ _ => rfl | with_reducible exact id | with_reducible exact fun h _ => h | with_reducible exact fun _ h => h | skip)
    | with_reducible apply Frame.ite
    | with_reducible exact Frame.refl _ _ _
    | with_reducible apply frame_changeMode
    | with_reducible apply frame_estFirst
    | with_reducible apply Frame.foldlT
    | with_reducible assumption
    | (show (_ : Nat) = _; decide +kernel)
    | (show Nat.testBit _ _ = true; decide +kernel)
    | intro _
    | split)

theorem frame_yield {P G : Nat} {s₀ s : State} (h₀ : Frame P G s₀ s) (trig : Nat) (back : Bool) (hP : 0xcc0161c78 &&& P = 0xcc0161c78) (hG : 0x401500c010000024 &&& G = 0x401500c010000024) : Frame P G s₀ (State.yield s trig back) := by
  refine h₀.step (Q := 0xcc0161c78) (H := 0x401500c010000024) ?_ hP hG
  unfold State.yield
  try dsimp only
  iterate 50 all_goals try (first
    | with_reducible apply Frame.ite
    | with_reducible exact Frame.refl _ _ _
    | (with_reducible apply frame_raise_low; case hs => decide)
    | with_reducible apply frame_release
    | with_reducible apply frame_enterShadow
    | with_reducible apply Frame.foldlT
    | with_reducible assumption
    | (show (_ : Nat) = _; decide +kernel)
    | (show Nat.testBit _ _ = true; decide +kernel)
    | intro _
    | split)

theorem frame_enterLockout {P G : Nat} {s₀ s : State} (h₀ : Frame P G s₀ s) (cause : Nat) (hP : 0xc64161c78 &&& P = 0xc64161c78) (hG : 0x401500c009800024 &&& G = 0x401500c009800024) : Frame P G s₀ (State.enterLockout s cause) := by
  refine h₀.step (Q := 0xc64161c78) (H := 0x401500c009800024) ?_ hP hG
  unfold State.enterLockout
  try dsimp only
  iterate 50 all_goals try (first
    | (simp only [Frame.mk_iff]; with_reducible apply FrameC.upd <;> first | with_reducible exact fun _ => rfl | exact fun h => absurd h (by decide +kernel) | with_reducible exact fun _ h => ⟨h, rfl, rfl⟩ | with_reducible exact fun _ _ _ => rfl | with_reducible exact id | with_reducible exact fun h _ => h | with_reducible exact fun _ h => h | skip)
    | with_reducible apply Frame.ite
    | with_reducible exact Frame.refl _ _ _
    | with_reducible apply frame_put
    | (with_reducible apply frame_raise_low; case hs => decide)
    | with_reducible apply frame_changeMode
    | with_reducible apply frame_sagCloseAll
    | with_reducible apply frame_chargeStops
    | with_reducible apply frame_paceClear
    | with_reducible apply frame_release
    | with_reducible apply Frame.foldlT
    | with_reducible assumption
    | (show (_ : Nat) = _; decide +kernel)
    | (show Nat.testBit _ _ = true; decide +kernel)
    | intro _
    | split)

theorem frame_tadpoleBay {P G : Nat} {s₀ s : State} (h₀ : Frame P G s₀ s) (b : Nat) (hP : 0x3c01040 &&& P = 0x3c01040) (hG : 0xc100130020 &&& G = 0xc100130020) : Frame P G s₀ (State.tadpoleBay s b) := by
  refine h₀.step (Q := 0x3c01040) (H := 0xc100130020) ?_ hP hG
  unfold State.tadpoleBay
  try dsimp only
  iterate 50 all_goals try (first
    | (simp only [Frame.mk_iff]; with_reducible apply FrameC.upd <;> first | with_reducible exact fun _ => rfl | exact fun h => absurd h (by decide +kernel) | with_reducible exact fun _ h => ⟨h, rfl, rfl⟩ | with_reducible exact fun _ _ _ => rfl | with_reducible exact id | with_reducible exact fun h _ => h | with_reducible exact fun _ h => h | skip)
    | with_reducible apply Frame.ite
    | with_reducible exact Frame.refl _ _ _
    | with_reducible apply frame_setBay
    | with_reducible apply frame_clearShed
    | with_reducible apply frame_leap
    | with_reducible apply frame_bringIn
    | with_reducible apply Frame.foldlT
    | with_reducible assumption
    | (show (_ : Nat) = _; decide +kernel)
    | (show Nat.testBit _ _ = true; decide +kernel)
    | intro _
    | split)

theorem frame_tadpoleSet {P G : Nat} {s₀ s : State} (h₀ : Frame P G s₀ s)  (hP : 0x2000020 &&& P = 0x2000020) (hG : 0x100000 &&& G = 0x100000) : Frame P G s₀ (State.tadpoleSet s) := by
  refine h₀.step (Q := 0x2000020) (H := 0x100000) ?_ hP hG
  unfold State.tadpoleSet
  try dsimp only
  iterate 50 all_goals try (first
    | (simp only [Frame.mk_iff]; with_reducible apply FrameC.upd <;> first | with_reducible exact fun _ => rfl | exact fun h => absurd h (by decide +kernel) | with_reducible exact fun _ h => ⟨h, rfl, rfl⟩ | with_reducible exact fun _ _ _ => rfl | with_reducible exact id | with_reducible exact fun h _ => h | with_reducible exact fun _ h => h | skip)
    | with_reducible apply Frame.ite
    | with_reducible exact Frame.refl _ _ _
    | with_reducible apply frame_moveTo
    | with_reducible apply Frame.foldlT
    | with_reducible assumption
    | (show (_ : Nat) = _; decide +kernel)
    | (show Nat.testBit _ _ = true; decide +kernel)
    | intro _
    | split)

theorem frame_wheelStart {P G : Nat} {s₀ s : State} (h₀ : Frame P G s₀ s)  (hP : 0x80000 &&& P = 0x80000) (hG : 0x0 &&& G = 0x0) : Frame P G s₀ (State.wheelStart s) := by
  refine h₀.step (Q := 0x80000) (H := 0x0) ?_ hP hG
  unfold State.wheelStart
  dsimp only
  split
  · exact Frame.refl _ _ _
  · rename_i hr
    constructor
    case f_pos => exact fun _ h => absurd h hr
    all_goals first
      | (intro hx; exact absurd hx (by decide +kernel))
      | (intros; first | rfl | assumption)

theorem frame_enterTadpole {P G : Nat} {s₀ s : State} (h₀ : Frame P G s₀ s) (cause : Nat) (hP : 0xd67ce1c78 &&& P = 0xd67ce1c78) (hG : 0x400500c10db30024 &&& G = 0x400500c10db30024) : Frame P G s₀ (State.enterTadpole s cause) := by
  refine h₀.step (Q := 0xd67ce1c78) (H := 0x400500c10db30024) ?_ hP hG
  unfold State.enterTadpole
  try dsimp only
  iterate 50 all_goals try (first
    | (simp only [Frame.mk_iff]; with_reducible apply FrameC.upd <;> first | with_reducible exact fun _ => rfl | exact fun h => absurd h (by decide +kernel) | with_reducible exact fun _ h => ⟨h, rfl, rfl⟩ | with_reducible exact fun _ _ _ => rfl | with_reducible exact id | with_reducible exact fun h _ => h | with_reducible exact fun _ h => h | skip)
    | with_reducible apply Frame.ite
    | with_reducible exact Frame.refl _ _ _
    | with_reducible apply frame_loadStart
    | with_reducible apply frame_changeMode
    | with_reducible apply frame_chargeStops
    | with_reducible apply frame_spTadpole
    | with_reducible apply frame_ffClear
    | with_reducible apply frame_feedsConfigured
    | with_reducible apply frame_holdupTadpole
    | with_reducible apply frame_paceClear
    | with_reducible apply frame_tadpoleBay
    | with_reducible apply frame_tadpoleSet
    | with_reducible apply frame_wheelStart
    | with_reducible apply Frame.foldlT
    | with_reducible assumption
    | (show (_ : Nat) = _; decide +kernel)
    | (show Nat.testBit _ _ = true; decide +kernel)
    | intro _
    | split)

theorem frame_markExit {P G : Nat} {s₀ s : State} (h₀ : Frame P G s₀ s)  (hP : 0x20 &&& P = 0x20) (hG : 0x4 &&& G = 0x4) : Frame P G s₀ (State.markExit s) := by
  refine h₀.step (Q := 0x20) (H := 0x4) ?_ hP hG
  unfold State.markExit
  try dsimp only
  iterate 50 all_goals try (first
    | (simp only [Frame.mk_iff]; with_reducible apply FrameC.upd <;> first | with_reducible exact fun _ => rfl | exact fun h => absurd h (by decide +kernel) | with_reducible exact fun _ h => ⟨h, rfl, rfl⟩ | with_reducible exact fun _ _ _ => rfl | with_reducible exact id | with_reducible exact fun h _ => h | with_reducible exact fun _ h => h | skip)
    | with_reducible apply Frame.ite
    | with_reducible exact Frame.refl _ _ _
    | with_reducible apply frame_put
    | with_reducible apply frame_putSat
    | with_reducible apply Frame.foldlT
    | with_reducible assumption
    | (show (_ : Nat) = _; decide +kernel)
    | (show Nat.testBit _ _ = true; decide +kernel)
    | intro _
    | split)

theorem frame_exitCommits {P G : Nat} {s₀ s : State} (h₀ : Frame P G s₀ s)  (hP : 0x10 &&& P = 0x10) (hG : 0x40000 &&& G = 0x40000) : Frame P G s₀ (State.exitCommits s) := by
  refine h₀.step (Q := 0x10) (H := 0x40000) ?_ hP hG
  unfold State.exitCommits
  try dsimp only
  iterate 50 all_goals try (first
    | (simp only [Frame.mk_iff]; with_reducible apply FrameC.upd <;> first | with_reducible exact fun _ => rfl | exact fun h => absurd h (by decide +kernel) | with_reducible exact fun _ h => ⟨h, rfl, rfl⟩ | with_reducible exact fun _ _ _ => rfl | with_reducible exact id | with_reducible exact fun h _ => h | with_reducible exact fun _ h => h | skip)
    | with_reducible apply Frame.ite
    | with_reducible exact Frame.refl _ _ _
    | with_reducible apply frame_put
    | with_reducible apply Frame.foldlT
    | with_reducible assumption
    | (show (_ : Nat) = _; decide +kernel)
    | (show Nat.testBit _ _ = true; decide +kernel)
    | intro _
    | split)

theorem frame_tadpoleToRun {P G : Nat} {s₀ s : State} (h₀ : Frame P G s₀ s)  (hP : 0xce2861c78 &&& P = 0xce2861c78) (hG : 0x400500c014140024 &&& G = 0x400500c014140024) : Frame P G s₀ (State.tadpoleToRun s) := by
  refine h₀.step (Q := 0xce2861c78) (H := 0x400500c014140024) ?_ hP hG
  unfold State.tadpoleToRun
  try dsimp only
  iterate 50 all_goals try (first
    | (simp only [Frame.mk_iff]; with_reducible apply FrameC.upd <;> first | with_reducible exact fun _ => rfl | exact fun h => absurd h (by decide +kernel) | with_reducible exact fun _ h => ⟨h, rfl, rfl⟩ | with_reducible exact fun _ _ _ => rfl | with_reducible exact id | with_reducible exact fun h _ => h | with_reducible exact fun _ h => h | skip)
    | with_reducible apply Frame.ite
    | with_reducible exact Frame.refl _ _ _
    | with_reducible apply frame_put
    | with_reducible apply frame_changeMode
    | with_reducible apply frame_estFirst
    | with_reducible apply frame_eligRun
    | with_reducible apply frame_moveTo
    | with_reducible apply frame_runEntered
    | with_reducible apply frame_markExit
    | with_reducible apply frame_exitCommits
    | with_reducible apply Frame.foldlT
    | with_reducible assumption
    | (show (_ : Nat) = _; decide +kernel)
    | (show Nat.testBit _ _ = true; decide +kernel)
    | intro _
    | split)

theorem frame_tadpoleToHoldup {P G : Nat} {s₀ s : State} (h₀ : Frame P G s₀ s)  (hP : 0xde6c61c78 &&& P = 0xde6c61c78) (hG : 0x400500c01c970024 &&& G = 0x400500c01c970024) : Frame P G s₀ (State.tadpoleToHoldup s) := by
  refine h₀.step (Q := 0xde6c61c78) (H := 0x400500c01c970024) ?_ hP hG
  unfold State.tadpoleToHoldup
  try dsimp only
  iterate 50 all_goals try (first
    | (simp only [Frame.mk_iff]; with_reducible apply FrameC.upd <;> first | with_reducible exact fun _ => rfl | exact fun h => absurd h (by decide +kernel) | with_reducible exact fun _ h => ⟨h, rfl, rfl⟩ | with_reducible exact fun _ _ _ => rfl | with_reducible exact id | with_reducible exact fun h _ => h | with_reducible exact fun _ h => h | skip)
    | with_reducible apply Frame.ite
    | with_reducible exact Frame.refl _ _ _
    | with_reducible apply frame_estFirst
    | with_reducible apply frame_holdupBay
    | with_reducible apply frame_enterHoldup
    | with_reducible apply frame_markExit
    | with_reducible apply frame_exitCommits
    | with_reducible apply Frame.foldlT
    | with_reducible assumption
    | (show (_ : Nat) = _; decide +kernel)
    | (show Nat.testBit _ _ = true; decide +kernel)
    | intro _
    | split)

theorem frame_tadpoleToShadow {P G : Nat} {s₀ s : State} (h₀ : Frame P G s₀ s)  (hP : 0xcc0061c78 &&& P = 0xcc0061c78) (hG : 0x400500c010040024 &&& G = 0x400500c010040024) : Frame P G s₀ (State.tadpoleToShadow s) := by
  refine h₀.step (Q := 0xcc0061c78) (H := 0x400500c010040024) ?_ hP hG
  unfold State.tadpoleToShadow
  try dsimp only
  iterate 50 all_goals try (first
    | with_reducible apply Frame.ite
    | with_reducible exact Frame.refl _ _ _
    | with_reducible apply frame_enterShadow
    | with_reducible apply frame_markExit
    | with_reducible apply frame_exitCommits
    | with_reducible apply Frame.foldlT
    | with_reducible assumption
    | (show (_ : Nat) = _; decide +kernel)
    | (show Nat.testBit _ _ = true; decide +kernel)
    | intro _
    | split)

theorem frame_exitTest {P G : Nat} {s₀ s : State} (h₀ : Frame P G s₀ s)  (hP : 0xde6c61c78 &&& P = 0xde6c61c78) (hG : 0x400500c01c970024 &&& G = 0x400500c01c970024) : Frame P G s₀ (State.exitTest s) := by
  refine h₀.step (Q := 0xde6c61c78) (H := 0x400500c01c970024) ?_ hP hG
  unfold State.exitTest
  try dsimp only
  iterate 50 all_goals try (first
    | with_reducible apply Frame.ite
    | with_reducible exact Frame.refl _ _ _
    | with_reducible apply frame_tadpoleToRun
    | with_reducible apply frame_tadpoleToHoldup
    | with_reducible apply frame_tadpoleToShadow
    | with_reducible apply Frame.foldlT
    | with_reducible assumption
    | (show (_ : Nat) = _; decide +kernel)
    | (show Nat.testBit _ _ = true; decide +kernel)
    | intro _
    | split)

theorem frame_resumeFuse {P G : Nat} {s₀ s : State} (h₀ : Frame P G s₀ s) (c : Nat) (hP : 0x1000000 &&& P = 0x1000000) (hG : 0x100000000 &&& G = 0x100000000) : Frame P G s₀ (State.resumeFuse s c) := by
  refine h₀.step (Q := 0x1000000) (H := 0x100000000) ?_ hP hG
  unfold State.resumeFuse
  try dsimp only
  iterate 50 all_goals try (first
    | with_reducible apply Frame.ite
    | with_reducible exact Frame.refl _ _ _
    | with_reducible apply frame_fusEnter
    | with_reducible apply frame_fusClose
    | with_reducible apply Frame.foldlT
    | with_reducible assumption
    | (show (_ : Nat) = _; decide +kernel)
    | (show Nat.testBit _ _ = true; decide +kernel)
    | intro _
    | split)

theorem frame_resumeBay {P G : Nat} {s₀ s : State} (h₀ : Frame P G s₀ s) (b : Nat) (hP : 0x3c01040 &&& P = 0x3c01040) (hG : 0xc100130020 &&& G = 0xc100130020) : Frame P G s₀ (State.resumeBay s b) := by
  refine h₀.step (Q := 0x3c01040) (H := 0xc100130020) ?_ hP hG
  unfold State.resumeBay
  try dsimp only
  iterate 50 all_goals try (first
    | (simp only [Frame.mk_iff]; with_reducible apply FrameC.upd <;> first | with_reducible exact fun _ => rfl | exact fun h => absurd h (by decide +kernel) | with_reducible exact fun _ h => ⟨h, rfl, rfl⟩ | with_reducible exact fun _ _ _ => rfl | with_reducible exact id | with_reducible exact fun h _ => h | with_reducible exact fun _ h => h | skip)
    | with_reducible apply Frame.ite
    | with_reducible exact Frame.refl _ _ _
    | with_reducible apply frame_setFuse
    | with_reducible apply frame_toPfc
    | with_reducible apply frame_bayInserted
    | with_reducible apply frame_bayStop
    | with_reducible apply Frame.foldlT
    | with_reducible assumption
    | (show (_ : Nat) = _; decide +kernel)
    | (show Nat.testBit _ _ = true; decide +kernel)
    | intro _
    | split)

theorem frame_resume {P G : Nat} {s₀ s : State} (h₀ : Frame P G s₀ s)  (hP : 0xd67ce1c78 &&& P = 0xd67ce1c78) (hG : 0x400500c10db30024 &&& G = 0x400500c10db30024) : Frame P G s₀ (State.resume s) := by
  refine h₀.step (Q := 0xd67ce1c78) (H := 0x400500c10db30024) ?_ hP hG
  unfold State.resume
  try dsimp only
  iterate 50 all_goals try (first
    | with_reducible apply Frame.ite
    | with_reducible exact Frame.refl _ _ _
    | with_reducible apply frame_enterTadpole
    | with_reducible apply frame_resumeFuse
    | with_reducible apply frame_resumeBay
    | with_reducible apply Frame.foldlT
    | with_reducible assumption
    | (show (_ : Nat) = _; decide +kernel)
    | (show Nat.testBit _ _ = true; decide +kernel)
    | intro _
    | split)

theorem frame_jAppendAll {P G : Nat} {s₀ s : State} (h₀ : Frame P G s₀ s) (ps : List JPayload) (hP : 0x1c00 &&& P = 0x1c00) (hG : 0x400c000000020 &&& G = 0x400c000000020) : Frame P G s₀ (State.jAppendAll s ps) := by
  refine h₀.step (Q := 0x1c00) (H := 0x400c000000020) ?_ hP hG
  unfold State.jAppendAll
  try dsimp only
  iterate 50 all_goals try (first
    | with_reducible apply Frame.ite
    | with_reducible exact Frame.refl _ _ _
    | with_reducible apply frame_jAppend
    | with_reducible apply Frame.foldlT
    | with_reducible assumption
    | (show (_ : Nat) = _; decide +kernel)
    | (show Nat.testBit _ _ = true; decide +kernel)
    | intro _
    | split)

theorem frame_compactDone {P G : Nat} {s₀ s : State} (h₀ : Frame P G s₀ s)  (hP : 0x1c40 &&& P = 0x1c40) (hG : 0x400c000000020 &&& G = 0x400c000000020) : Frame P G s₀ (State.compactDone s) := by
  refine h₀.step (Q := 0x1c40) (H := 0x400c000000020) ?_ hP hG
  unfold State.compactDone
  try dsimp only
  iterate 50 all_goals try (first
    | (simp only [Frame.mk_iff]; with_reducible apply FrameC.upd <;> first | with_reducible exact fun _ => rfl | exact fun h => absurd h (by decide +kernel) | with_reducible exact fun _ h => ⟨h, rfl, rfl⟩ | with_reducible exact fun _ _ _ => rfl | with_reducible exact id | with_reducible exact fun h _ => h | with_reducible exact fun _ h => h | skip)
    | with_reducible apply Frame.ite
    | with_reducible exact Frame.refl _ _ _
    | with_reducible apply frame_put
    | with_reducible apply frame_flag
    | with_reducible apply frame_bump
    | with_reducible apply frame_setBank
    | (with_reducible apply frame_raise_low; case hs => decide)
    | with_reducible apply Frame.foldlT
    | with_reducible assumption
    | (show (_ : Nat) = _; decide +kernel)
    | (show Nat.testBit _ _ = true; decide +kernel)
    | intro _
    | split)

theorem frame_compactFailed {P G : Nat} {s₀ s : State} (h₀ : Frame P G s₀ s)  (hP : 0x1840 &&& P = 0x1840) (hG : 0x400c000000020 &&& G = 0x400c000000020) : Frame P G s₀ (State.compactFailed s) := by
  refine h₀.step (Q := 0x1840) (H := 0x400c000000020) ?_ hP hG
  unfold State.compactFailed
  try dsimp only
  iterate 50 all_goals try (first
    | (simp only [Frame.mk_iff]; with_reducible apply FrameC.upd <;> first | with_reducible exact fun _ => rfl | exact fun h => absurd h (by decide +kernel) | with_reducible exact fun _ h => ⟨h, rfl, rfl⟩ | with_reducible exact fun _ _ _ => rfl | with_reducible exact id | with_reducible exact fun h _ => h | with_reducible exact fun _ h => h | skip)
    | with_reducible apply Frame.ite
    | with_reducible exact Frame.refl _ _ _
    | with_reducible apply frame_put
    | with_reducible apply frame_flag
    | with_reducible apply frame_bump
    | (with_reducible apply frame_raise_low; case hs => decide)
    | with_reducible apply Frame.foldlT
    | with_reducible assumption
    | (show (_ : Nat) = _; decide +kernel)
    | (show Nat.testBit _ _ = true; decide +kernel)
    | intro _
    | split)

theorem frame_applyCells {P G : Nat} {s₀ s : State} (h₀ : Frame P G s₀ s) (c : Cells) (hP : 0x81048 &&& P = 0x81048) (hG : 0xffffffffffffffff &&& G = 0xffffffffffffffff) : Frame P G s₀ (State.applyCells s c) := by
  refine h₀.step (Q := 0x81048) (H := 0xffffffffffffffff) ?_ hP hG
  unfold State.applyCells
  try dsimp only
  iterate 70 all_goals try (first
    | (simp only [Frame.mk_iff]; with_reducible apply FrameC.upd <;> first | with_reducible exact fun _ => rfl | exact fun h => absurd h (by decide +kernel) | with_reducible exact fun _ h => ⟨h, rfl, rfl⟩ | with_reducible exact fun _ _ _ => rfl | with_reducible exact id | with_reducible exact fun h _ => h | with_reducible exact fun _ h => h | (with_reducible show (Nat.testBit _ _ = false → _); exact fun _ => rfl) | skip)
    | ((with_reducible show (_ → twinRest _ = twinRest _)); intro _; exact rfl)
    | ((with_reducible show (_ → posKept _ _)); intro _; split <;> split <;> exact fun h => ⟨h, rfl, rfl⟩)
    | ((with_reducible show (_ → posKept _ _)); intro _ h; exact ⟨h, rfl, rfl⟩)
    | ((with_reducible show (_ → posKept _ _)); intro _ h; exact absurd h ‹_›)
    | ((with_reducible show (_ → coreRest _ = coreRest _)); intro _; exact rfl)
    | with_reducible apply Frame.ite
    | with_reducible exact Frame.refl _ _ _
    | with_reducible apply frame_calAdopt
    | with_reducible apply Frame.foldlT
    | with_reducible assumption
    | (show (_ : Nat) = _; decide +kernel)
    | (show Nat.testBit _ _ = true; first | decide +kernel | exact allPages _)
    | with_reducible exact fun _ _ _ => rfl
    | (with_reducible show ∀ (_ : Field) (_ : Nat), _ → _; exact fun _ _ h => absurd (h.symm.trans (allPages _)) (by decide))
    | with_reducible apply fieldPut_wf
    | with_reducible apply copyFields_wf
    | with_reducible apply copyInsts_wf
    | with_reducible apply copyBay_wf
    | with_reducible apply copyAll_wf
    | with_reducible apply offered_wf
    | with_reducible refine foldl_wf (fun _ _ h => copyBay_wf h) ?_
    | (intro _ _; dsimp only)
    | intro _
    | split)

theorem frame_takeImageBay {P G : Nat} {s₀ s : State} (h₀ : Frame P G s₀ s) (b : Nat) (hP : 0x8 &&& P = 0x8) (hG : 0xffffffffffffffff &&& G = 0xffffffffffffffff) : Frame P G s₀ (State.takeImageBay s b) := by
  refine h₀.step (Q := 0x8) (H := 0xffffffffffffffff) ?_ hP hG
  unfold State.takeImageBay
  try dsimp only
  iterate 70 all_goals try (first
    | (simp only [Frame.mk_iff]; with_reducible apply FrameC.upd <;> first | with_reducible exact fun _ => rfl | exact fun h => absurd h (by decide +kernel) | with_reducible exact fun _ h => ⟨h, rfl, rfl⟩ | with_reducible exact fun _ _ _ => rfl | with_reducible exact id | with_reducible exact fun h _ => h | with_reducible exact fun _ h => h | (with_reducible show (Nat.testBit _ _ = false → _); exact fun _ => rfl) | skip)
    | ((with_reducible show (_ → twinRest _ = twinRest _)); intro _; exact rfl)
    | ((with_reducible show (_ → posKept _ _)); intro _; split <;> split <;> exact fun h => ⟨h, rfl, rfl⟩)
    | ((with_reducible show (_ → posKept _ _)); intro _ h; exact ⟨h, rfl, rfl⟩)
    | ((with_reducible show (_ → posKept _ _)); intro _ h; exact absurd h ‹_›)
    | ((with_reducible show (_ → coreRest _ = coreRest _)); intro _; exact rfl)
    | with_reducible apply Frame.ite
    | with_reducible exact Frame.refl _ _ _
    | with_reducible apply Frame.foldlT
    | with_reducible assumption
    | (show (_ : Nat) = _; decide +kernel)
    | (show Nat.testBit _ _ = true; first | decide +kernel | exact allPages _)
    | with_reducible exact fun _ _ _ => rfl
    | (with_reducible show ∀ (_ : Field) (_ : Nat), _ → _; exact fun _ _ h => absurd (h.symm.trans (allPages _)) (by decide))
    | with_reducible apply fieldPut_wf
    | with_reducible apply copyFields_wf
    | with_reducible apply copyInsts_wf
    | with_reducible apply copyBay_wf
    | with_reducible apply copyAll_wf
    | with_reducible apply offered_wf
    | with_reducible refine foldl_wf (fun _ _ h => copyBay_wf h) ?_
    | (intro _ _; dsimp only)
    | intro _
    | split)

theorem frame_writePin {P G : Nat} {s₀ s : State} (h₀ : Frame P G s₀ s) (p : Pinned) (hP : 0x0 &&& P = 0x0) (hG : 0xffffffffffffffff &&& G = 0xffffffffffffffff) : Frame P G s₀ (State.writePin s p) := by
  refine h₀.step (Q := 0x0) (H := 0xffffffffffffffff) ?_ hP hG
  unfold State.writePin
  try dsimp only
  iterate 70 all_goals try (first
    | (simp only [Frame.mk_iff]; with_reducible apply FrameC.upd <;> first | with_reducible exact fun _ => rfl | exact fun h => absurd h (by decide +kernel) | with_reducible exact fun _ h => ⟨h, rfl, rfl⟩ | with_reducible exact fun _ _ _ => rfl | with_reducible exact id | with_reducible exact fun h _ => h | with_reducible exact fun _ h => h | (with_reducible show (Nat.testBit _ _ = false → _); exact fun _ => rfl) | skip)
    | ((with_reducible show (_ → twinRest _ = twinRest _)); intro _; exact rfl)
    | ((with_reducible show (_ → posKept _ _)); intro _; split <;> split <;> exact fun h => ⟨h, rfl, rfl⟩)
    | ((with_reducible show (_ → posKept _ _)); intro _ h; exact ⟨h, rfl, rfl⟩)
    | ((with_reducible show (_ → posKept _ _)); intro _ h; exact absurd h ‹_›)
    | ((with_reducible show (_ → coreRest _ = coreRest _)); intro _; exact rfl)
    | with_reducible apply Frame.ite
    | with_reducible exact Frame.refl _ _ _
    | with_reducible apply frame_putAt
    | with_reducible apply Frame.foldlT
    | with_reducible assumption
    | (show (_ : Nat) = _; decide +kernel)
    | (show Nat.testBit _ _ = true; first | decide +kernel | exact allPages _)
    | with_reducible exact fun _ _ _ => rfl
    | (with_reducible show ∀ (_ : Field) (_ : Nat), _ → _; exact fun _ _ h => absurd (h.symm.trans (allPages _)) (by decide))
    | with_reducible apply fieldPut_wf
    | with_reducible apply copyFields_wf
    | with_reducible apply copyInsts_wf
    | with_reducible apply copyBay_wf
    | with_reducible apply copyAll_wf
    | with_reducible apply offered_wf
    | with_reducible refine foldl_wf (fun _ _ h => copyBay_wf h) ?_
    | (intro _ _; dsimp only)
    | intro _
    | split)

theorem frame_pinCount {P G : Nat} {s₀ s : State} (h₀ : Frame P G s₀ s)  (hP : 0x0 &&& P = 0x0) (hG : 0x1000000000000 &&& G = 0x1000000000000) : Frame P G s₀ (State.pinCount s) := by
  refine h₀.step (Q := 0x0) (H := 0x1000000000000) ?_ hP hG
  unfold State.pinCount
  try dsimp only
  iterate 50 all_goals try (first
    | with_reducible apply Frame.ite
    | with_reducible exact Frame.refl _ _ _
    | with_reducible apply frame_put
    | with_reducible apply Frame.foldlT
    | with_reducible assumption
    | (show (_ : Nat) = _; decide +kernel)
    | (show Nat.testBit _ _ = true; decide +kernel)
    | intro _
    | split)

theorem frame_dropPins {P G : Nat} {s₀ s : State} (h₀ : Frame P G s₀ s) (ver : Nat) (hP : 0x1c40 &&& P = 0x1c40) (hG : 0x500c000000020 &&& G = 0x500c000000020) : Frame P G s₀ (State.dropPins s ver) := by
  refine h₀.step (Q := 0x1c40) (H := 0x500c000000020) ?_ hP hG
  unfold State.dropPins
  try dsimp only
  iterate 50 all_goals try (first
    | with_reducible apply Frame.ite
    | with_reducible exact Frame.refl _ _ _
    | with_reducible apply frame_flag
    | with_reducible apply frame_jAppend
    | (with_reducible apply frame_raise_low; case hs => decide)
    | with_reducible apply frame_pinCount
    | with_reducible apply Frame.foldlT
    | with_reducible assumption
    | (show (_ : Nat) = _; decide +kernel)
    | (show Nat.testBit _ _ = true; decide +kernel)
    | intro _
    | split)

theorem frame_refreshOther {P G : Nat} {s₀ s : State} (h₀ : Frame P G s₀ s)  (hP : 0x0 &&& P = 0x0) (hG : 0x1000000000000 &&& G = 0x1000000000000) : Frame P G s₀ (State.refreshOther s) := by
  refine h₀.step (Q := 0x0) (H := 0x1000000000000) ?_ hP hG
  unfold State.refreshOther
  try dsimp only
  iterate 50 all_goals try (first
    | with_reducible apply Frame.ite
    | with_reducible exact Frame.refl _ _ _
    | with_reducible apply frame_put
    | with_reducible apply Frame.foldlT
    | with_reducible assumption
    | (show (_ : Nat) = _; decide +kernel)
    | (show Nat.testBit _ _ = true; decide +kernel)
    | intro _
    | split)

theorem frame_beginProbation {P G : Nat} {s₀ s : State} (h₀ : Frame P G s₀ s)  (hP : 0x41c40 &&& P = 0x41c40) (hG : 0x500c000000024 &&& G = 0x500c000000024) : Frame P G s₀ (State.beginProbation s) := by
  refine h₀.step (Q := 0x41c40) (H := 0x500c000000024) ?_ hP hG
  unfold State.beginProbation
  try dsimp only
  iterate 50 all_goals try (first
    | (simp only [Frame.mk_iff]; with_reducible apply FrameC.upd <;> first | with_reducible exact fun _ => rfl | exact fun h => absurd h (by decide +kernel) | with_reducible exact fun _ h => ⟨h, rfl, rfl⟩ | with_reducible exact fun _ _ _ => rfl | with_reducible exact id | with_reducible exact fun h _ => h | with_reducible exact fun _ h => h | skip)
    | with_reducible apply Frame.ite
    | with_reducible exact Frame.refl _ _ _
    | with_reducible apply frame_put
    | with_reducible apply frame_jAppend
    | (with_reducible apply frame_raise_low; case hs => decide)
    | with_reducible apply Frame.foldlT
    | with_reducible assumption
    | (show (_ : Nat) = _; decide +kernel)
    | (show Nat.testBit _ _ = true; decide +kernel)
    | intro _
    | split)

theorem frame_revertDone {P G : Nat} {s₀ s : State} (h₀ : Frame P G s₀ s)  (hP : 0x41040 &&& P = 0x41040) (hG : 0x100c000000020 &&& G = 0x100c000000020) : Frame P G s₀ (State.revertDone s) := by
  refine h₀.step (Q := 0x41040) (H := 0x100c000000020) ?_ hP hG
  unfold State.revertDone
  try dsimp only
  iterate 50 all_goals try (first
    | (simp only [Frame.mk_iff]; with_reducible apply FrameC.upd <;> first | with_reducible exact fun _ => rfl | exact fun h => absurd h (by decide +kernel) | with_reducible exact fun _ h => ⟨h, rfl, rfl⟩ | with_reducible exact fun _ _ _ => rfl | with_reducible exact id | with_reducible exact fun h _ => h | with_reducible exact fun _ h => h | skip)
    | with_reducible apply Frame.ite
    | with_reducible exact Frame.refl _ _ _
    | with_reducible apply frame_flag
    | (with_reducible apply frame_raise_low; case hs => decide)
    | with_reducible apply Frame.foldlT
    | with_reducible assumption
    | (show (_ : Nat) = _; decide +kernel)
    | (show Nat.testBit _ _ = true; decide +kernel)
    | intro _
    | split)

theorem frame_loadEnd {P G : Nat} {s₀ s : State} (h₀ : Frame P G s₀ s)  (hP : 0xd67ce1c78 &&& P = 0xd67ce1c78) (hG : 0xffffffffffffffff &&& G = 0xffffffffffffffff) : Frame P G s₀ (State.loadEnd s) := by
  refine h₀.step (Q := 0xd67ce1c78) (H := 0xffffffffffffffff) ?_ hP hG
  unfold State.loadEnd
  try dsimp only
  iterate 50 all_goals try (first
    | (simp only [Frame.mk_iff]; with_reducible apply FrameC.upd <;> first | with_reducible exact fun _ => rfl | exact fun h => absurd h (by decide +kernel) | with_reducible exact fun _ h => ⟨h, rfl, rfl⟩ | with_reducible exact fun _ _ _ => rfl | with_reducible exact id | with_reducible exact fun h _ => h | with_reducible exact fun _ h => h | skip)
    | with_reducible apply Frame.ite
    | with_reducible exact Frame.refl _ _ _
    | with_reducible apply frame_put
    | with_reducible apply frame_imageHooks
    | with_reducible apply frame_applyCells
    | with_reducible apply frame_writePin
    | with_reducible apply frame_refreshOther
    | with_reducible apply frame_beginProbation
    | with_reducible apply frame_revertDone
    | with_reducible apply Frame.foldlT
    | with_reducible assumption
    | (show (_ : Nat) = _; decide +kernel)
    | (show Nat.testBit _ _ = true; decide +kernel)
    | intro _
    | split)

theorem frame_imageIn {P G : Nat} {s₀ s : State} (h₀ : Frame P G s₀ s) (b : Bool) (d : ImgData) (hP : 0xd67ce1c78 &&& P = 0xd67ce1c78) (hG : 0xffffffffffffffff &&& G = 0xffffffffffffffff) : Frame P G s₀ (State.imageIn s b d) := by
  refine h₀.step (Q := 0xd67ce1c78) (H := 0xffffffffffffffff) ?_ hP hG
  unfold State.imageIn
  try dsimp only
  iterate 50 all_goals try (first
    | (simp only [Frame.mk_iff]; with_reducible apply FrameC.upd <;> first | with_reducible exact fun _ => rfl | exact fun h => absurd h (by decide +kernel) | with_reducible exact fun _ h => ⟨h, rfl, rfl⟩ | with_reducible exact fun _ _ _ => rfl | with_reducible exact id | with_reducible exact fun h _ => h | with_reducible exact fun _ h => h | skip)
    | with_reducible apply Frame.ite
    | with_reducible exact Frame.refl _ _ _
    | with_reducible apply frame_put
    | (with_reducible apply frame_raise_low; case hs => decide)
    | with_reducible apply frame_dropPins
    | with_reducible apply frame_loadEnd
    | with_reducible apply Frame.foldlT
    | with_reducible assumption
    | (show (_ : Nat) = _; decide +kernel)
    | (show Nat.testBit _ _ = true; decide +kernel)
    | intro _
    | split)

theorem frame_slotRejected {P G : Nat} {s₀ s : State} (h₀ : Frame P G s₀ s) (b : Bool) (reason page : Nat) (hP : 0x1040 &&& P = 0x1040) (hG : 0x100c000000020 &&& G = 0x100c000000020) : Frame P G s₀ (State.slotRejected s b reason page) := by
  refine h₀.step (Q := 0x1040) (H := 0x100c000000020) ?_ hP hG
  unfold State.slotRejected
  try dsimp only
  iterate 50 all_goals try (first
    | with_reducible apply Frame.ite
    | with_reducible exact Frame.refl _ _ _
    | with_reducible apply frame_flag
    | (with_reducible apply frame_raise_low; case hs => decide)
    | with_reducible apply Frame.foldlT
    | with_reducible assumption
    | (show (_ : Nat) = _; decide +kernel)
    | (show Nat.testBit _ _ = true; decide +kernel)
    | intro _
    | split)

theorem frame_loadFailed {P G : Nat} {s₀ s : State} (h₀ : Frame P G s₀ s) (last : Nat) (atStart : Bool) (hP : 0xd67ce1c78 &&& P = 0xd67ce1c78) (hG : 0xffffffffffffffff &&& G = 0xffffffffffffffff) : Frame P G s₀ (State.loadFailed s last atStart) := by
  refine h₀.step (Q := 0xd67ce1c78) (H := 0xffffffffffffffff) ?_ hP hG
  unfold State.loadFailed
  try dsimp only
  iterate 50 all_goals try (first
    | (simp only [Frame.mk_iff]; with_reducible apply FrameC.upd <;> first | with_reducible exact fun _ => rfl | exact fun h => absurd h (by decide +kernel) | with_reducible exact fun _ h => ⟨h, rfl, rfl⟩ | with_reducible exact fun _ _ _ => rfl | with_reducible exact id | with_reducible exact fun h _ => h | with_reducible exact fun _ h => h | skip)
    | with_reducible apply Frame.ite
    | with_reducible exact Frame.refl _ _ _
    | with_reducible apply frame_put
    | (with_reducible apply frame_raise_low; case hs => decide)
    | with_reducible apply frame_raise
    | with_reducible apply frame_imageDerive
    | with_reducible apply frame_applyCells
    | with_reducible apply frame_writePin
    | with_reducible apply frame_refreshOther
    | with_reducible apply Frame.foldlT
    | with_reducible assumption
    | (show (_ : Nat) = _; decide +kernel)
    | (show Nat.testBit _ _ = true; decide +kernel)
    | intro _
    | split)

theorem frame_raiseFloor {P G : Nat} {s₀ s : State} (h₀ : Frame P G s₀ s)  (hP : 0x1240 &&& P = 0x1240) (hG : 0x100c000000020 &&& G = 0x100c000000020) : Frame P G s₀ (State.raiseFloor s) := by
  refine h₀.step (Q := 0x1240) (H := 0x100c000000020) ?_ hP hG
  unfold State.raiseFloor
  try dsimp only
  iterate 50 all_goals try (first
    | (simp only [Frame.mk_iff]; with_reducible apply FrameC.upd <;> first | with_reducible exact fun _ => rfl | exact fun h => absurd h (by decide +kernel) | with_reducible exact fun _ h => ⟨h, rfl, rfl⟩ | with_reducible exact fun _ _ _ => rfl | with_reducible exact id | with_reducible exact fun h _ => h | with_reducible exact fun _ h => h | skip)
    | with_reducible apply Frame.ite
    | with_reducible exact Frame.refl _ _ _
    | with_reducible apply frame_put
    | with_reducible apply frame_flag
    | (with_reducible apply frame_raise_low; case hs => decide)
    | with_reducible apply Frame.foldlT
    | with_reducible assumption
    | (show (_ : Nat) = _; decide +kernel)
    | (show Nat.testBit _ _ = true; decide +kernel)
    | intro _
    | split)

theorem frame_probationPassed {P G : Nat} {s₀ s : State} (h₀ : Frame P G s₀ s)  (hP : 0x1e40 &&& P = 0x1e40) (hG : 0x500c000000024 &&& G = 0x500c000000024) : Frame P G s₀ (State.probationPassed s) := by
  refine h₀.step (Q := 0x1e40) (H := 0x500c000000024) ?_ hP hG
  unfold State.probationPassed
  try dsimp only
  iterate 50 all_goals try (first
    | with_reducible apply Frame.ite
    | with_reducible exact Frame.refl _ _ _
    | with_reducible apply frame_put
    | with_reducible apply frame_flag
    | with_reducible apply frame_jAppend
    | (with_reducible apply frame_raise_low; case hs => decide)
    | with_reducible apply frame_raiseFloor
    | with_reducible apply Frame.foldlT
    | with_reducible assumption
    | (show (_ : Nat) = _; decide +kernel)
    | (show Nat.testBit _ _ = true; decide +kernel)
    | intro _
    | split)

theorem frame_probationSecond {P G : Nat} {s₀ s : State} (h₀ : Frame P G s₀ s)  (hP : 0x41c00 &&& P = 0x41c00) (hG : 0x500c000000020 &&& G = 0x500c000000020) : Frame P G s₀ (State.probationSecond s) := by
  refine h₀.step (Q := 0x41c00) (H := 0x500c000000020) ?_ hP hG
  unfold State.probationSecond
  try dsimp only
  iterate 50 all_goals try (first
    | (simp only [Frame.mk_iff]; with_reducible apply FrameC.upd <;> first | with_reducible exact fun _ => rfl | exact fun h => absurd h (by decide +kernel) | with_reducible exact fun _ h => ⟨h, rfl, rfl⟩ | with_reducible exact fun _ _ _ => rfl | with_reducible exact id | with_reducible exact fun h _ => h | with_reducible exact fun _ h => h | skip)
    | with_reducible apply Frame.ite
    | with_reducible exact Frame.refl _ _ _
    | with_reducible apply frame_put
    | with_reducible apply frame_jAppend
    | with_reducible apply Frame.foldlT
    | with_reducible assumption
    | (show (_ : Nat) = _; decide +kernel)
    | (show Nat.testBit _ _ = true; decide +kernel)
    | intro _
    | split)

theorem frame_bdRefresh {P G : Nat} {s₀ s : State} (h₀ : Frame P G s₀ s)  (hP : 0x0 &&& P = 0x0) (hG : 0x4000000000000 &&& G = 0x4000000000000) : Frame P G s₀ (State.bdRefresh s) := by
  refine h₀.step (Q := 0x0) (H := 0x4000000000000) ?_ hP hG
  unfold State.bdRefresh
  try dsimp only
  iterate 50 all_goals try (first
    | with_reducible apply Frame.ite
    | with_reducible exact Frame.refl _ _ _
    | with_reducible apply frame_put
    | with_reducible apply frame_putB
    | with_reducible apply Frame.foldlT
    | with_reducible assumption
    | (show (_ : Nat) = _; decide +kernel)
    | (show Nat.testBit _ _ = true; decide +kernel)
    | intro _
    | split)

theorem frame_bdWrite {P G : Nat} {s₀ s : State} (h₀ : Frame P G s₀ s) (d : BootDesc) (hP : 0x1c00 &&& P = 0x1c00) (hG : 0x400c000000020 &&& G = 0x400c000000020) : Frame P G s₀ (State.bdWrite s d) := by
  refine h₀.step (Q := 0x1c00) (H := 0x400c000000020) ?_ hP hG
  unfold State.bdWrite
  try dsimp only
  iterate 50 all_goals try (first
    | (simp only [Frame.mk_iff]; with_reducible apply FrameC.upd <;> first | with_reducible exact fun _ => rfl | exact fun h => absurd h (by decide +kernel) | with_reducible exact fun _ h => ⟨h, rfl, rfl⟩ | with_reducible exact fun _ _ _ => rfl | with_reducible exact id | with_reducible exact fun h _ => h | with_reducible exact fun _ h => h | skip)
    | with_reducible apply Frame.ite
    | with_reducible exact Frame.refl _ _ _
    | with_reducible apply frame_eraseSectors
    | with_reducible apply frame_bdRefresh
    | with_reducible apply Frame.foldlT
    | with_reducible assumption
    | (show (_ : Nat) = _; decide +kernel)
    | (show Nat.testBit _ _ = true; decide +kernel)
    | intro _
    | split)

theorem frame_markReady {P G : Nat} {s₀ s : State} (h₀ : Frame P G s₀ s) (b ready : Bool) (ver : Option Nat) (hP : 0x1c00 &&& P = 0x1c00) (hG : 0x400c000000020 &&& G = 0x400c000000020) : Frame P G s₀ (State.markReady s b ready ver) := by
  refine h₀.step (Q := 0x1c00) (H := 0x400c000000020) ?_ hP hG
  unfold State.markReady
  try dsimp only
  iterate 50 all_goals try (first
    | (simp only [Frame.mk_iff]; with_reducible apply FrameC.upd <;> first | with_reducible exact fun _ => rfl | exact fun h => absurd h (by decide +kernel) | with_reducible exact fun _ h => ⟨h, rfl, rfl⟩ | with_reducible exact fun _ _ _ => rfl | with_reducible exact id | with_reducible exact fun h _ => h | with_reducible exact fun _ h => h | skip)
    | with_reducible apply Frame.ite
    | with_reducible exact Frame.refl _ _ _
    | with_reducible apply frame_bdWrite
    | with_reducible apply Frame.foldlT
    | with_reducible assumption
    | (show (_ : Nat) = _; decide +kernel)
    | (show Nat.testBit _ _ = true; decide +kernel)
    | intro _
    | split)

theorem frame_upCommand {P G : Nat} {s₀ s : State} (h₀ : Frame P G s₀ s) (key : Byte) (f : State → State) (hP : 0x0 &&& P = 0x0) (hG : 0x1000000000000 &&& G = 0x1000000000000) (h_f : ∀ z, Frame P G z (f z)) : Frame P G s₀ (State.upCommand s key f) := by
  unfold State.upCommand
  try dsimp only
  iterate 70 all_goals try (first
    | (simp only [Frame.mk_iff]; with_reducible apply FrameC.upd <;> first | with_reducible exact fun _ => rfl | exact fun h => absurd h (by decide +kernel) | with_reducible exact fun _ h => ⟨h, rfl, rfl⟩ | with_reducible exact fun _ _ _ => rfl | with_reducible exact id | with_reducible exact fun h _ => h | with_reducible exact fun _ h => h | (with_reducible show (Nat.testBit _ _ = false → _); exact fun _ => rfl) | exact fun h => absurd (bit_of_land hP h) (by decide +kernel) | skip)
    | ((with_reducible show (_ → twinRest _ = twinRest _)); intro _; exact rfl)
    | ((with_reducible show (_ → posKept _ _)); intro _; split <;> split <;> exact fun h => ⟨h, rfl, rfl⟩)
    | ((with_reducible show (_ → posKept _ _)); intro _ h; exact ⟨h, rfl, rfl⟩)
    | ((with_reducible show (_ → posKept _ _)); intro _ h; exact absurd h ‹_›)
    | ((with_reducible show (_ → coreRest _ = coreRest _)); intro _; exact rfl)
    | with_reducible apply Frame.ite
    | with_reducible exact Frame.refl _ _ _
    | with_reducible apply frame_put
    | (refine Frame.trans ?_ (h_f _))
    | exact land_trans hP (by decide +kernel)
    | exact land_trans hG (by decide +kernel)
    | exact bit_mono hG (by decide +kernel)
    | exact bit_mono hP (by decide +kernel)
    | with_reducible apply Frame.foldlT
    | with_reducible assumption
    | (show (_ : Nat) = _; decide +kernel)
    | (show Nat.testBit _ _ = true; first | decide +kernel | exact allPages _)
    | with_reducible exact fun _ _ _ => rfl
    | (with_reducible show ∀ (_ : Field) (_ : Nat), _ → _; exact fun _ _ h => absurd (h.symm.trans (allPages _)) (by decide))
    | with_reducible apply fieldPut_wf
    | with_reducible apply copyFields_wf
    | with_reducible apply copyInsts_wf
    | with_reducible apply copyBay_wf
    | with_reducible apply copyAll_wf
    | with_reducible apply offered_wf
    | with_reducible refine foldl_wf (fun _ _ h => copyBay_wf h) ?_
    | (intro _ _; dsimp only)
    | intro _
    | split)

theorem frame_uploadOpen {P G : Nat} {s₀ s : State} (h₀ : Frame P G s₀ s)  (hP : 0x41c00 &&& P = 0x41c00) (hG : 0x500c000000020 &&& G = 0x500c000000020) : Frame P G s₀ (State.uploadOpen s) := by
  refine h₀.step (Q := 0x41c00) (H := 0x500c000000020) ?_ hP hG
  unfold State.uploadOpen
  try dsimp only
  iterate 50 all_goals try (first
    | (simp only [Frame.mk_iff]; with_reducible apply FrameC.upd <;> first | with_reducible exact fun _ => rfl | exact fun h => absurd h (by decide +kernel) | with_reducible exact fun _ h => ⟨h, rfl, rfl⟩ | with_reducible exact fun _ _ _ => rfl | with_reducible exact id | with_reducible exact fun h _ => h | with_reducible exact fun _ h => h | skip)
    | with_reducible apply Frame.ite
    | with_reducible exact Frame.refl _ _ _
    | with_reducible apply frame_put
    | with_reducible apply frame_markReady
    | with_reducible apply Frame.foldlT
    | with_reducible assumption
    | (show (_ : Nat) = _; decide +kernel)
    | (show Nat.testBit _ _ = true; decide +kernel)
    | intro _
    | split)

theorem frame_uploadChunk {P G : Nat} {s₀ s : State} (h₀ : Frame P G s₀ s) (d : List Byte) (hP : 0x40000 &&& P = 0x40000) (hG : 0x1000000000000 &&& G = 0x1000000000000) : Frame P G s₀ (State.uploadChunk s d) := by
  refine h₀.step (Q := 0x40000) (H := 0x1000000000000) ?_ hP hG
  unfold State.uploadChunk
  try dsimp only
  iterate 50 all_goals try (first
    | (simp only [Frame.mk_iff]; with_reducible apply FrameC.upd <;> first | with_reducible exact fun _ => rfl | exact fun h => absurd h (by decide +kernel) | with_reducible exact fun _ h => ⟨h, rfl, rfl⟩ | with_reducible exact fun _ _ _ => rfl | with_reducible exact id | with_reducible exact fun h _ => h | with_reducible exact fun _ h => h | skip)
    | with_reducible apply Frame.ite
    | with_reducible exact Frame.refl _ _ _
    | with_reducible apply frame_put
    | with_reducible apply Frame.foldlT
    | with_reducible assumption
    | (show (_ : Nat) = _; decide +kernel)
    | (show Nat.testBit _ _ = true; decide +kernel)
    | intro _
    | split)

theorem frame_uploadFailed {P G : Nat} {s₀ s : State} (h₀ : Frame P G s₀ s) (res : Nat) (hP : 0x1040 &&& P = 0x1040) (hG : 0x100c000000020 &&& G = 0x100c000000020) : Frame P G s₀ (State.uploadFailed s res) := by
  refine h₀.step (Q := 0x1040) (H := 0x100c000000020) ?_ hP hG
  unfold State.uploadFailed
  try dsimp only
  iterate 50 all_goals try (first
    | with_reducible apply Frame.ite
    | with_reducible exact Frame.refl _ _ _
    | with_reducible apply frame_put
    | with_reducible apply frame_flag
    | (with_reducible apply frame_raise_low; case hs => decide)
    | with_reducible apply Frame.foldlT
    | with_reducible assumption
    | (show (_ : Nat) = _; decide +kernel)
    | (show Nat.testBit _ _ = true; decide +kernel)
    | intro _
    | split)

theorem frame_uploadClose {P G : Nat} {s₀ s : State} (h₀ : Frame P G s₀ s)  (hP : 0x1c40 &&& P = 0x1c40) (hG : 0x500c000000020 &&& G = 0x500c000000020) : Frame P G s₀ (State.uploadClose s) := by
  refine h₀.step (Q := 0x1c40) (H := 0x500c000000020) ?_ hP hG
  unfold State.uploadClose
  try dsimp only
  iterate 50 all_goals try (first
    | with_reducible apply Frame.ite
    | with_reducible exact Frame.refl _ _ _
    | with_reducible apply frame_put
    | with_reducible apply frame_flag
    | (with_reducible apply frame_raise_low; case hs => decide)
    | with_reducible apply frame_markReady
    | with_reducible apply frame_uploadFailed
    | with_reducible apply Frame.foldlT
    | with_reducible assumption
    | (show (_ : Nat) = _; decide +kernel)
    | (show Nat.testBit _ _ = true; decide +kernel)
    | intro _
    | split)

theorem frame_uploadAbort {P G : Nat} {s₀ s : State} (h₀ : Frame P G s₀ s)  (hP : 0x41c00 &&& P = 0x41c00) (hG : 0x500c000000020 &&& G = 0x500c000000020) : Frame P G s₀ (State.uploadAbort s) := by
  refine h₀.step (Q := 0x41c00) (H := 0x500c000000020) ?_ hP hG
  unfold State.uploadAbort
  try dsimp only
  iterate 50 all_goals try (first
    | (simp only [Frame.mk_iff]; with_reducible apply FrameC.upd <;> first | with_reducible exact fun _ => rfl | exact fun h => absurd h (by decide +kernel) | with_reducible exact fun _ h => ⟨h, rfl, rfl⟩ | with_reducible exact fun _ _ _ => rfl | with_reducible exact id | with_reducible exact fun h _ => h | with_reducible exact fun _ h => h | skip)
    | with_reducible apply Frame.ite
    | with_reducible exact Frame.refl _ _ _
    | with_reducible apply frame_put
    | with_reducible apply frame_flag
    | with_reducible apply frame_jDrain
    | with_reducible apply Frame.foldlT
    | with_reducible assumption
    | (show (_ : Nat) = _; decide +kernel)
    | (show Nat.testBit _ _ = true; decide +kernel)
    | intro _
    | split)

theorem frame_pinRefused {P G : Nat} {s₀ s : State} (h₀ : Frame P G s₀ s) (res : Nat) (hP : 0x1040 &&& P = 0x1040) (hG : 0x100c000000020 &&& G = 0x100c000000020) : Frame P G s₀ (State.pinRefused s res) := by
  refine h₀.step (Q := 0x1040) (H := 0x100c000000020) ?_ hP hG
  unfold State.pinRefused
  try dsimp only
  iterate 50 all_goals try (first
    | with_reducible apply Frame.ite
    | with_reducible exact Frame.refl _ _ _
    | with_reducible apply frame_put
    | with_reducible apply frame_flag
    | (with_reducible apply frame_raise_low; case hs => decide)
    | with_reducible apply Frame.foldlT
    | with_reducible assumption
    | (show (_ : Nat) = _; decide +kernel)
    | (show Nat.testBit _ _ = true; decide +kernel)
    | intro _
    | split)

theorem frame_pinSet {P G : Nat} {s₀ s : State} (h₀ : Frame P G s₀ s)  (hP : 0x1c40 &&& P = 0x1c40) (hG : 0x500c000000020 &&& G = 0x500c000000020) : Frame P G s₀ (State.pinSet s) := by
  refine h₀.step (Q := 0x1c40) (H := 0x500c000000020) ?_ hP hG
  unfold State.pinSet
  try dsimp only
  iterate 50 all_goals try (first
    | with_reducible apply Frame.ite
    | with_reducible exact Frame.refl _ _ _
    | with_reducible apply frame_put
    | with_reducible apply frame_jAppend
    | (with_reducible apply frame_raise_low; case hs => decide)
    | with_reducible apply frame_pinCount
    | with_reducible apply frame_pinRefused
    | with_reducible apply Frame.foldlT
    | with_reducible assumption
    | (show (_ : Nat) = _; decide +kernel)
    | (show Nat.testBit _ _ = true; decide +kernel)
    | intro _
    | split)

theorem frame_pinClear {P G : Nat} {s₀ s : State} (h₀ : Frame P G s₀ s)  (hP : 0x1c00 &&& P = 0x1c00) (hG : 0x500c000000020 &&& G = 0x500c000000020) : Frame P G s₀ (State.pinClear s) := by
  refine h₀.step (Q := 0x1c00) (H := 0x500c000000020) ?_ hP hG
  unfold State.pinClear
  try dsimp only
  iterate 50 all_goals try (first
    | with_reducible apply Frame.ite
    | with_reducible exact Frame.refl _ _ _
    | with_reducible apply frame_put
    | with_reducible apply frame_jAppend
    | with_reducible apply frame_pinCount
    | with_reducible apply Frame.foldlT
    | with_reducible assumption
    | (show (_ : Nat) = _; decide +kernel)
    | (show Nat.testBit _ _ = true; decide +kernel)
    | intro _
    | split)

theorem frame_pinClearAll {P G : Nat} {s₀ s : State} (h₀ : Frame P G s₀ s)  (hP : 0x1c00 &&& P = 0x1c00) (hG : 0x500c000000020 &&& G = 0x500c000000020) : Frame P G s₀ (State.pinClearAll s) := by
  refine h₀.step (Q := 0x1c00) (H := 0x500c000000020) ?_ hP hG
  unfold State.pinClearAll
  try dsimp only
  iterate 50 all_goals try (first
    | with_reducible apply Frame.ite
    | with_reducible exact Frame.refl _ _ _
    | with_reducible apply frame_put
    | with_reducible apply frame_jAppend
    | with_reducible apply frame_pinCount
    | with_reducible apply Frame.foldlT
    | with_reducible assumption
    | (show (_ : Nat) = _; decide +kernel)
    | (show Nat.testBit _ _ = true; decide +kernel)
    | intro _
    | split)

theorem frame_pinCommand {P G : Nat} {s₀ s : State} (h₀ : Frame P G s₀ s) (key : Byte) (f : State → State) (hP : 0x0 &&& P = 0x0) (hG : 0x1000000000000 &&& G = 0x1000000000000) (h_f : ∀ z, Frame P G z (f z)) : Frame P G s₀ (State.pinCommand s key f) := by
  unfold State.pinCommand
  try dsimp only
  iterate 70 all_goals try (first
    | (simp only [Frame.mk_iff]; with_reducible apply FrameC.upd <;> first | with_reducible exact fun _ => rfl | exact fun h => absurd h (by decide +kernel) | with_reducible exact fun _ h => ⟨h, rfl, rfl⟩ | with_reducible exact fun _ _ _ => rfl | with_reducible exact id | with_reducible exact fun h _ => h | with_reducible exact fun _ h => h | (with_reducible show (Nat.testBit _ _ = false → _); exact fun _ => rfl) | exact fun h => absurd (bit_of_land hP h) (by decide +kernel) | skip)
    | ((with_reducible show (_ → twinRest _ = twinRest _)); intro _; exact rfl)
    | ((with_reducible show (_ → posKept _ _)); intro _; split <;> split <;> exact fun h => ⟨h, rfl, rfl⟩)
    | ((with_reducible show (_ → posKept _ _)); intro _ h; exact ⟨h, rfl, rfl⟩)
    | ((with_reducible show (_ → posKept _ _)); intro _ h; exact absurd h ‹_›)
    | ((with_reducible show (_ → coreRest _ = coreRest _)); intro _; exact rfl)
    | with_reducible apply Frame.ite
    | with_reducible exact Frame.refl _ _ _
    | with_reducible apply frame_put
    | (refine Frame.trans ?_ (h_f _))
    | exact land_trans hP (by decide +kernel)
    | exact land_trans hG (by decide +kernel)
    | exact bit_mono hG (by decide +kernel)
    | exact bit_mono hP (by decide +kernel)
    | with_reducible apply Frame.foldlT
    | with_reducible assumption
    | (show (_ : Nat) = _; decide +kernel)
    | (show Nat.testBit _ _ = true; first | decide +kernel | exact allPages _)
    | with_reducible exact fun _ _ _ => rfl
    | (with_reducible show ∀ (_ : Field) (_ : Nat), _ → _; exact fun _ _ h => absurd (h.symm.trans (allPages _)) (by decide))
    | with_reducible apply fieldPut_wf
    | with_reducible apply copyFields_wf
    | with_reducible apply copyInsts_wf
    | with_reducible apply copyBay_wf
    | with_reducible apply copyAll_wf
    | with_reducible apply offered_wf
    | with_reducible refine foldl_wf (fun _ _ h => copyBay_wf h) ?_
    | (intro _ _; dsimp only)
    | intro _
    | split)

theorem frame_scanRec {P G : Nat} {s₀ s : State} (h₀ : Frame P G s₀ s) (r : JRec) (hP : 0x1840 &&& P = 0x1840) (hG : 0x400c000000020 &&& G = 0x400c000000020) : Frame P G s₀ (State.scanRec s r) := by
  refine h₀.step (Q := 0x1840) (H := 0x400c000000020) ?_ hP hG
  unfold State.scanRec
  try dsimp only
  iterate 50 all_goals try (first
    | (simp only [Frame.mk_iff]; with_reducible apply FrameC.upd <;> first | with_reducible exact fun _ => rfl | exact fun h => absurd h (by decide +kernel) | with_reducible exact fun _ h => ⟨h, rfl, rfl⟩ | with_reducible exact fun _ _ _ => rfl | with_reducible exact id | with_reducible exact fun h _ => h | with_reducible exact fun _ h => h | skip)
    | with_reducible apply Frame.ite
    | with_reducible exact Frame.refl _ _ _
    | with_reducible apply frame_flag
    | with_reducible apply frame_bump
    | (with_reducible apply frame_raise_low; case hs => decide)
    | with_reducible apply Frame.foldlT
    | with_reducible assumption
    | (show (_ : Nat) = _; decide +kernel)
    | (show Nat.testBit _ _ = true; decide +kernel)
    | intro _
    | split)

theorem frame_mirrorShow {P G : Nat} {s₀ s : State} (h₀ : Frame P G s₀ s)  (hP : 0x1800 &&& P = 0x1800) (hG : 0x500c000200020 &&& G = 0x500c000200020) : Frame P G s₀ (State.mirrorShow s) := by
  refine h₀.step (Q := 0x1800) (H := 0x500c000200020) ?_ hP hG
  unfold State.mirrorShow
  try dsimp only
  iterate 50 all_goals try (first
    | with_reducible apply Frame.ite
    | with_reducible exact Frame.refl _ _ _
    | with_reducible apply frame_put
    | with_reducible apply frame_putAt
    | with_reducible apply frame_wearRefresh
    | with_reducible apply frame_pinCount
    | with_reducible apply Frame.foldlT
    | with_reducible assumption
    | (show (_ : Nat) = _; decide +kernel)
    | (show Nat.testBit _ _ = true; decide +kernel)
    | intro _
    | split)

theorem frame_journalNew {P G : Nat} {s₀ s : State} (h₀ : Frame P G s₀ s)  (hP : 0x1c40 &&& P = 0x1c40) (hG : 0x400c000000020 &&& G = 0x400c000000020) : Frame P G s₀ (State.journalNew s) := by
  refine h₀.step (Q := 0x1c40) (H := 0x400c000000020) ?_ hP hG
  unfold State.journalNew
  try dsimp only
  iterate 50 all_goals try (first
    | (simp only [Frame.mk_iff]; with_reducible apply FrameC.upd <;> first | with_reducible exact fun _ => rfl | exact fun h => absurd h (by decide +kernel) | with_reducible exact fun _ h => ⟨h, rfl, rfl⟩ | with_reducible exact fun _ _ _ => rfl | with_reducible exact id | with_reducible exact fun h _ => h | with_reducible exact fun _ h => h | skip)
    | with_reducible apply Frame.ite
    | with_reducible exact Frame.refl _ _ _
    | with_reducible apply frame_put
    | with_reducible apply frame_flag
    | with_reducible apply frame_setBank
    | with_reducible apply frame_eraseSectors
    | (with_reducible apply frame_raise_low; case hs => decide)
    | with_reducible apply Frame.foldlT
    | with_reducible assumption
    | (show (_ : Nat) = _; decide +kernel)
    | (show Nat.testBit _ _ = true; decide +kernel)
    | intro _
    | split)

theorem frame_journalScan {P G : Nat} {s₀ s : State} (h₀ : Frame P G s₀ s) (b : Nat) (hP : 0x1c40 &&& P = 0x1c40) (hG : 0x400c000000020 &&& G = 0x400c000000020) : Frame P G s₀ (State.journalScan s b) := by
  refine h₀.step (Q := 0x1c40) (H := 0x400c000000020) ?_ hP hG
  unfold State.journalScan
  try dsimp only
  iterate 50 all_goals try (first
    | (simp only [Frame.mk_iff]; with_reducible apply FrameC.upd <;> first | with_reducible exact fun _ => rfl | exact fun h => absurd h (by decide +kernel) | with_reducible exact fun _ h => ⟨h, rfl, rfl⟩ | with_reducible exact fun _ _ _ => rfl | with_reducible exact id | with_reducible exact fun h _ => h | with_reducible exact fun _ h => h | skip)
    | with_reducible apply Frame.ite
    | with_reducible exact Frame.refl _ _ _
    | with_reducible apply frame_put
    | with_reducible apply frame_setBank
    | with_reducible apply frame_scanRec
    | with_reducible apply Frame.foldlT
    | with_reducible assumption
    | (show (_ : Nat) = _; decide +kernel)
    | (show Nat.testBit _ _ = true; decide +kernel)
    | intro _
    | split)

theorem frame_bdRepair {P G : Nat} {s₀ s : State} (h₀ : Frame P G s₀ s)  (hP : 0x1c40 &&& P = 0x1c40) (hG : 0x400c000000020 &&& G = 0x400c000000020) : Frame P G s₀ (State.bdRepair s) := by
  refine h₀.step (Q := 0x1c40) (H := 0x400c000000020) ?_ hP hG
  unfold State.bdRepair
  try dsimp only
  iterate 50 all_goals try (first
    | (simp only [Frame.mk_iff]; with_reducible apply FrameC.upd <;> first | with_reducible exact fun _ => rfl | exact fun h => absurd h (by decide +kernel) | with_reducible exact fun _ h => ⟨h, rfl, rfl⟩ | with_reducible exact fun _ _ _ => rfl | with_reducible exact id | with_reducible exact fun h _ => h | with_reducible exact fun _ h => h | skip)
    | with_reducible apply Frame.ite
    | with_reducible exact Frame.refl _ _ _
    | with_reducible apply frame_flag
    | with_reducible apply frame_eraseSectors
    | (with_reducible apply frame_raise_low; case hs => decide)
    | with_reducible apply frame_bdRefresh
    | with_reducible apply Frame.foldlT
    | with_reducible assumption
    | (show (_ : Nat) = _; decide +kernel)
    | (show Nat.testBit _ _ = true; decide +kernel)
    | intro _
    | split)

theorem frame_scanDone {P G : Nat} {s₀ s : State} (h₀ : Frame P G s₀ s)  (hP : 0x400041c78 &&& P = 0x400041c78) (hG : 0x500c000200024 &&& G = 0x500c000200024) : Frame P G s₀ (State.scanDone s) := by
  refine h₀.step (Q := 0x400041c78) (H := 0x500c000200024) ?_ hP hG
  unfold State.scanDone
  try dsimp only
  iterate 50 all_goals try (first
    | (simp only [Frame.mk_iff]; with_reducible apply FrameC.upd <;> first | with_reducible exact fun _ => rfl | exact fun h => absurd h (by decide +kernel) | with_reducible exact fun _ h => ⟨h, rfl, rfl⟩ | with_reducible exact fun _ _ _ => rfl | with_reducible exact id | with_reducible exact fun h _ => h | with_reducible exact fun _ h => h | skip)
    | with_reducible apply Frame.ite
    | with_reducible exact Frame.refl _ _ _
    | with_reducible apply frame_put
    | with_reducible apply frame_jAppend
    | with_reducible apply frame_jDrain
    | with_reducible apply frame_loadStart
    | with_reducible apply frame_mirrorShow
    | with_reducible apply frame_journalNew
    | with_reducible apply frame_journalScan
    | with_reducible apply frame_bdRepair
    | with_reducible apply Frame.foldlT
    | with_reducible assumption
    | (show (_ : Nat) = _; decide +kernel)
    | (show Nat.testBit _ _ = true; decide +kernel)
    | intro _
    | split)

theorem frame_newPeriod {P G : Nat} {s₀ s : State} (h₀ : Frame P G s₀ s) (b : Nat) (hP : 0x800000 &&& P = 0x800000) (hG : 0x0 &&& G = 0x0) : Frame P G s₀ (State.newPeriod s b) := by
  refine h₀.step (Q := 0x800000) (H := 0x0) ?_ hP hG
  unfold State.newPeriod
  try dsimp only
  iterate 50 all_goals try (first
    | (simp only [Frame.mk_iff]; with_reducible apply FrameC.upd <;> first | with_reducible exact fun _ => rfl | exact fun h => absurd h (by decide +kernel) | with_reducible exact fun _ h => ⟨h, rfl, rfl⟩ | with_reducible exact fun _ _ _ => rfl | with_reducible exact id | with_reducible exact fun h _ => h | with_reducible exact fun _ h => h | skip)
    | with_reducible apply Frame.ite
    | with_reducible exact Frame.refl _ _ _
    | with_reducible apply frame_setBay
    | with_reducible apply Frame.foldlT
    | with_reducible assumption
    | (show (_ : Nat) = _; decide +kernel)
    | (show Nat.testBit _ _ = true; decide +kernel)
    | intro _
    | split)

theorem frame_slotMove {P G : Nat} {s₀ s : State} (h₀ : Frame P G s₀ s) (p : Nat × Nat) (hP : 0x400000 &&& P = 0x400000) (hG : 0x0 &&& G = 0x0) : Frame P G s₀ (State.slotMove s p) := by
  refine h₀.step (Q := 0x400000) (H := 0x0) ?_ hP hG
  unfold State.slotMove
  try dsimp only
  iterate 50 all_goals try (first
    | (simp only [Frame.mk_iff]; with_reducible apply FrameC.upd <;> first | with_reducible exact fun _ => rfl | exact fun h => absurd h (by decide +kernel) | with_reducible exact fun _ h => ⟨h, rfl, rfl⟩ | with_reducible exact fun _ _ _ => rfl | with_reducible exact id | with_reducible exact fun h _ => h | with_reducible exact fun _ h => h | skip)
    | with_reducible apply Frame.ite
    | with_reducible exact Frame.refl _ _ _
    | with_reducible apply frame_setPh
    | with_reducible apply Frame.foldlT
    | with_reducible assumption
    | (show (_ : Nat) = _; decide +kernel)
    | (show Nat.testBit _ _ = true; decide +kernel)
    | intro _
    | split)

theorem frame_spreadDone {P G : Nat} {s₀ s : State} (h₀ : Frame P G s₀ s) (b : Nat) (hP : 0x0 &&& P = 0x0) (hG : 0x10000 &&& G = 0x10000) : Frame P G s₀ (State.spreadDone s b) := by
  refine h₀.step (Q := 0x0) (H := 0x10000) ?_ hP hG
  unfold State.spreadDone
  try dsimp only
  iterate 50 all_goals try (first
    | with_reducible apply Frame.ite
    | with_reducible exact Frame.refl _ _ _
    | with_reducible apply frame_putAt
    | with_reducible apply Frame.foldlT
    | with_reducible assumption
    | (show (_ : Nat) = _; decide +kernel)
    | (show Nat.testBit _ _ = true; decide +kernel)
    | intro _
    | split)

theorem frame_balance {P G : Nat} {s₀ s : State} (h₀ : Frame P G s₀ s) (b : Nat) (hP : 0x400000 &&& P = 0x400000) (hG : 0x20000 &&& G = 0x20000) : Frame P G s₀ (State.balance s b) := by
  refine h₀.step (Q := 0x400000) (H := 0x20000) ?_ hP hG
  unfold State.balance
  try dsimp only
  iterate 50 all_goals try (first
    | (simp only [Frame.mk_iff]; with_reducible apply FrameC.upd <;> first | with_reducible exact fun _ => rfl | exact fun h => absurd h (by decide +kernel) | with_reducible exact fun _ h => ⟨h, rfl, rfl⟩ | with_reducible exact fun _ _ _ => rfl | with_reducible exact id | with_reducible exact fun h _ => h | with_reducible exact fun _ h => h | skip)
    | with_reducible apply Frame.ite
    | with_reducible exact Frame.refl _ _ _
    | with_reducible apply frame_sputAt
    | with_reducible apply frame_setPh
    | with_reducible apply Frame.foldlT
    | with_reducible assumption
    | (show (_ : Nat) = _; decide +kernel)
    | (show Nat.testBit _ _ = true; decide +kernel)
    | intro _
    | split)

theorem frame_rampPeriod {P G : Nat} {s₀ s : State} (h₀ : Frame P G s₀ s) (b : Nat) (hP : 0x2c00000 &&& P = 0x2c00000) (hG : 0x30000 &&& G = 0x30000) : Frame P G s₀ (State.rampPeriod s b) := by
  refine h₀.step (Q := 0x2c00000) (H := 0x30000) ?_ hP hG
  unfold State.rampPeriod
  try dsimp only
  iterate 50 all_goals try (first
    | (simp only [Frame.mk_iff]; with_reducible apply FrameC.upd <;> first | with_reducible exact fun _ => rfl | exact fun h => absurd h (by decide +kernel) | with_reducible exact fun _ h => ⟨h, rfl, rfl⟩ | with_reducible exact fun _ _ _ => rfl | with_reducible exact id | with_reducible exact fun h _ => h | with_reducible exact fun _ h => h | skip)
    | with_reducible apply Frame.ite
    | with_reducible exact Frame.refl _ _ _
    | with_reducible apply frame_putAt
    | with_reducible apply frame_bumpAt
    | with_reducible apply frame_setBay
    | with_reducible apply frame_phRefresh
    | with_reducible apply frame_toWarm
    | with_reducible apply Frame.foldlT
    | with_reducible assumption
    | (show (_ : Nat) = _; decide +kernel)
    | (show Nat.testBit _ _ = true; decide +kernel)
    | intro _
    | split)

theorem frame_addTest {P G : Nat} {s₀ s : State} (h₀ : Frame P G s₀ s) (b : Nat) (hP : 0x2c01040 &&& P = 0x2c01040) (hG : 0xc000030020 &&& G = 0xc000030020) : Frame P G s₀ (State.addTest s b) := by
  refine h₀.step (Q := 0x2c01040) (H := 0xc000030020) ?_ hP hG
  unfold State.addTest
  try dsimp only
  iterate 50 all_goals try (first
    | with_reducible apply Frame.ite
    | with_reducible exact Frame.refl _ _ _
    | with_reducible apply frame_addOne
    | with_reducible apply frame_noteAbandon
    | with_reducible apply frame_doAbandon
    | with_reducible apply Frame.foldlT
    | with_reducible assumption
    | (show (_ : Nat) = _; decide +kernel)
    | (show Nat.testBit _ _ = true; decide +kernel)
    | intro _
    | split)

theorem frame_stripBay {P G : Nat} {s₀ s : State} (h₀ : Frame P G s₀ s) (b : Nat) (hP : 0x2c00000 &&& P = 0x2c00000) (hG : 0x30000 &&& G = 0x30000) : Frame P G s₀ (State.stripBay s b) := by
  refine h₀.step (Q := 0x2c00000) (H := 0x30000) ?_ hP hG
  unfold State.stripBay
  try dsimp only
  iterate 50 all_goals try (first
    | (simp only [Frame.mk_iff]; with_reducible apply FrameC.upd <;> first | with_reducible exact fun _ => rfl | exact fun h => absurd h (by decide +kernel) | with_reducible exact fun _ h => ⟨h, rfl, rfl⟩ | with_reducible exact fun _ _ _ => rfl | with_reducible exact id | with_reducible exact fun h _ => h | with_reducible exact fun _ h => h | skip)
    | with_reducible apply Frame.ite
    | with_reducible exact Frame.refl _ _ _
    | with_reducible apply frame_setBay
    | with_reducible apply frame_phRefresh
    | with_reducible apply frame_toWarm
    | with_reducible apply frame_clearShed
    | with_reducible apply Frame.foldlT
    | with_reducible assumption
    | (show (_ : Nat) = _; decide +kernel)
    | (show Nat.testBit _ _ = true; decide +kernel)
    | intro _
    | split)

theorem frame_leadTest {P G : Nat} {s₀ s : State} (h₀ : Frame P G s₀ s) (b : Nat) (hP : 0x2c01040 &&& P = 0x2c01040) (hG : 0xc000030020 &&& G = 0xc000030020) : Frame P G s₀ (State.leadTest s b) := by
  refine h₀.step (Q := 0x2c01040) (H := 0xc000030020) ?_ hP hG
  unfold State.leadTest
  try dsimp only
  iterate 50 all_goals try (first
    | with_reducible apply Frame.ite
    | with_reducible exact Frame.refl _ _ _
    | with_reducible apply frame_leap
    | with_reducible apply Frame.foldlT
    | with_reducible assumption
    | (show (_ : Nat) = _; decide +kernel)
    | (show Nat.testBit _ _ = true; decide +kernel)
    | intro _
    | split)

theorem frame_pulse {P G : Nat} {s₀ s : State} (h₀ : Frame P G s₀ s) (b : Nat) (n : Nat) (shift : Int) (hP : 0x400000 &&& P = 0x400000) (hG : 0x30000 &&& G = 0x30000) : Frame P G s₀ (State.pulse s b n shift) := by
  refine h₀.step (Q := 0x400000) (H := 0x30000) ?_ hP hG
  unfold State.pulse
  try dsimp only
  iterate 50 all_goals try (first
    | (simp only [Frame.mk_iff]; with_reducible apply FrameC.upd <;> first | with_reducible exact fun _ => rfl | exact fun h => absurd h (by decide +kernel) | with_reducible exact fun _ h => ⟨h, rfl, rfl⟩ | with_reducible exact fun _ _ _ => rfl | with_reducible exact id | with_reducible exact fun h _ => h | with_reducible exact fun _ h => h | skip)
    | with_reducible apply Frame.ite
    | with_reducible exact Frame.refl _ _ _
    | with_reducible apply frame_putAt
    | with_reducible apply frame_putAtSat
    | with_reducible apply frame_flag
    | with_reducible apply frame_bumpAt
    | with_reducible apply frame_setPh
    | with_reducible apply Frame.foldlT
    | with_reducible assumption
    | (show (_ : Nat) = _; decide +kernel)
    | (show Nat.testBit _ _ = true; decide +kernel)
    | intro _
    | split)

theorem frame_condTime {P G : Nat} {s₀ s : State} (h₀ : Frame P G s₀ s) (n len : Nat) (hP : 0x400000 &&& P = 0x400000) (hG : 0x20000 &&& G = 0x20000) : Frame P G s₀ (State.condTime s n len) := by
  refine h₀.step (Q := 0x400000) (H := 0x20000) ?_ hP hG
  unfold State.condTime
  try dsimp only
  iterate 50 all_goals try (first
    | (simp only [Frame.mk_iff]; with_reducible apply FrameC.upd <;> first | with_reducible exact fun _ => rfl | exact fun h => absurd h (by decide +kernel) | with_reducible exact fun _ h => ⟨h, rfl, rfl⟩ | with_reducible exact fun _ _ _ => rfl | with_reducible exact id | with_reducible exact fun h _ => h | with_reducible exact fun _ h => h | skip)
    | with_reducible apply Frame.ite
    | with_reducible exact Frame.refl _ _ _
    | with_reducible apply frame_bumpAt
    | with_reducible apply frame_setPh
    | with_reducible apply Frame.foldlT
    | with_reducible assumption
    | (show (_ : Nat) = _; decide +kernel)
    | (show Nat.testBit _ _ = true; decide +kernel)
    | intro _
    | split)

theorem frame_pulses {P G : Nat} {s₀ s : State} (h₀ : Frame P G s₀ s) (b : Nat) (ds : List (Nat × Int)) (hP : 0x400000 &&& P = 0x400000) (hG : 0x30000 &&& G = 0x30000) : Frame P G s₀ (State.pulses s b ds) := by
  refine h₀.step (Q := 0x400000) (H := 0x30000) ?_ hP hG
  unfold State.pulses
  try dsimp only
  iterate 50 all_goals try (first
    | (simp only [Frame.mk_iff]; with_reducible apply FrameC.upd <;> first | with_reducible exact fun _ => rfl | exact fun h => absurd h (by decide +kernel) | with_reducible exact fun _ h => ⟨h, rfl, rfl⟩ | with_reducible exact fun _ _ _ => rfl | with_reducible exact id | with_reducible exact fun h _ => h | with_reducible exact fun _ h => h | skip)
    | with_reducible apply Frame.ite
    | with_reducible exact Frame.refl _ _ _
    | with_reducible apply frame_setPh
    | with_reducible apply frame_pulse
    | with_reducible apply frame_condTime
    | with_reducible apply Frame.foldlT
    | with_reducible assumption
    | (show (_ : Nat) = _; decide +kernel)
    | (show Nat.testBit _ _ = true; decide +kernel)
    | intro _
    | split)

theorem frame_tadpoleRef {P G : Nat} {s₀ s : State} (h₀ : Frame P G s₀ s) (b : Nat) (hP : 0x2000000 &&& P = 0x2000000) (hG : 0x100000 &&& G = 0x100000) : Frame P G s₀ (State.tadpoleRef s b) := by
  refine h₀.step (Q := 0x2000000) (H := 0x100000) ?_ hP hG
  unfold State.tadpoleRef
  try dsimp only
  iterate 50 all_goals try (first
    | (simp only [Frame.mk_iff]; with_reducible apply FrameC.upd <;> first | with_reducible exact fun _ => rfl | exact fun h => absurd h (by decide +kernel) | with_reducible exact fun _ h => ⟨h, rfl, rfl⟩ | with_reducible exact fun _ _ _ => rfl | with_reducible exact id | with_reducible exact fun h _ => h | with_reducible exact fun _ h => h | skip)
    | with_reducible apply Frame.ite
    | with_reducible exact Frame.refl _ _ _
    | with_reducible apply frame_moveTo
    | with_reducible apply frame_setVs
    | with_reducible apply Frame.foldlT
    | with_reducible assumption
    | (show (_ : Nat) = _; decide +kernel)
    | (show Nat.testBit _ _ = true; decide +kernel)
    | intro _
    | split)

theorem frame_leaveTest {P G : Nat} {s₀ s : State} (h₀ : Frame P G s₀ s) (b : Nat) (hP : 0x3c00000 &&& P = 0x3c00000) (hG : 0x100130000 &&& G = 0x100130000) : Frame P G s₀ (State.leaveTest s b) := by
  refine h₀.step (Q := 0x3c00000) (H := 0x100130000) ?_ hP hG
  unfold State.leaveTest
  try dsimp only
  iterate 50 all_goals try (first
    | with_reducible apply Frame.ite
    | with_reducible exact Frame.refl _ _ _
    | with_reducible apply frame_leaveDone
    | with_reducible apply Frame.foldlT
    | with_reducible assumption
    | (show (_ : Nat) = _; decide +kernel)
    | (show Nat.testBit _ _ = true; decide +kernel)
    | intro _
    | split)

theorem frame_respread {P G : Nat} {s₀ s : State} (h₀ : Frame P G s₀ s) (b : Nat) (hP : 0x400000 &&& P = 0x400000) (hG : 0x10000 &&& G = 0x10000) :
    Frame P G s₀ (s.respread b).1 := by
  unfold State.respread; dsimp only
  exact frame_spreadDone (Frame.foldlT h₀ (fun a p => frame_slotMove (Frame.refl P G a) p (land_trans hP (by decide +kernel)) (land_trans hG (by decide +kernel)))) _ (land_trans hP (by decide +kernel)) (land_trans hG (by decide +kernel))

theorem frame_respread_of {P G : Nat} {s₀ s : State} {b : Nat} {v} {u : State} (h : s.respread b = (u, v)) (h₀ : Frame P G s₀ s)
    (hP : 0x400000 &&& P = 0x400000) (hG : 0x10000 &&& G = 0x10000) : Frame P G s₀ u := by
  have := frame_respread h₀ b hP hG; rw [h] at this; exact this

theorem frame_periodStart {P G : Nat} {s₀ s : State} (h₀ : Frame P G s₀ s) (b : Nat) (hP : 0x3d0104e &&& P = 0x3d0104e) (hG : 0xffffffffffffffff &&& G = 0xffffffffffffffff) : Frame P G s₀ (State.periodStart s b) := by
  refine h₀.step (Q := 0x3d0104e) (H := 0xffffffffffffffff) ?_ hP hG
  unfold State.periodStart
  try dsimp only
  iterate 50 all_goals try (first
    | with_reducible apply Frame.ite
    | with_reducible exact Frame.refl _ _ _
    | with_reducible apply frame_outResumed
    | with_reducible apply frame_tryJoin
    | with_reducible apply frame_placeTrigger
    | with_reducible apply frame_lanePeriod
    | with_reducible apply frame_holdupBay
    | with_reducible apply frame_takeImageBay
    | with_reducible apply frame_newPeriod
    | (refine frame_respread_of ‹_› ?_ ?_ ?_)
    | with_reducible apply frame_respread
    | with_reducible apply frame_balance
    | with_reducible apply frame_rampPeriod
    | with_reducible apply frame_addTest
    | with_reducible apply frame_stripBay
    | with_reducible apply frame_leadTest
    | with_reducible apply frame_pulses
    | with_reducible apply frame_tadpoleRef
    | with_reducible apply frame_leaveTest
    | with_reducible apply Frame.foldlT
    | with_reducible assumption
    | (show (_ : Nat) = _; decide +kernel)
    | (show Nat.testBit _ _ = true; decide +kernel)
    | intro _
    | split)

theorem frame_icClaim {P G : Nat} {s₀ s : State} (h₀ : Frame P G s₀ s)  (hP : 0x2000 &&& P = 0x2000) (hG : 0x0 &&& G = 0x0) : Frame P G s₀ (State.icClaim s) := by
  refine h₀.step (Q := 0x2000) (H := 0x0) ?_ hP hG
  unfold State.icClaim
  try dsimp only
  iterate 50 all_goals try (first
    | (simp only [Frame.mk_iff]; with_reducible apply FrameC.upd <;> first | with_reducible exact fun _ => rfl | exact fun h => absurd h (by decide +kernel) | with_reducible exact fun _ h => ⟨h, rfl, rfl⟩ | with_reducible exact fun _ _ _ => rfl | with_reducible exact id | with_reducible exact fun h _ => h | with_reducible exact fun _ h => h | skip)
    | with_reducible apply Frame.ite
    | with_reducible exact Frame.refl _ _ _
    | with_reducible apply Frame.foldlT
    | with_reducible assumption
    | (show (_ : Nat) = _; decide +kernel)
    | (show Nat.testBit _ _ = true; decide +kernel)
    | intro _
    | split)

theorem frame_icBad {P G : Nat} {s₀ s : State} (h₀ : Frame P G s₀ s) (id st : Nat) (hP : 0x1040 &&& P = 0x1040) (hG : 0x100000c000000020 &&& G = 0x100000c000000020) : Frame P G s₀ (State.icBad s id st) := by
  refine h₀.step (Q := 0x1040) (H := 0x100000c000000020) ?_ hP hG
  unfold State.icBad
  try dsimp only
  iterate 50 all_goals try (first
    | with_reducible apply Frame.ite
    | with_reducible exact Frame.refl _ _ _
    | with_reducible apply frame_bump
    | (with_reducible apply frame_raise_low; case hs => decide)
    | with_reducible apply Frame.foldlT
    | with_reducible assumption
    | (show (_ : Nat) = _; decide +kernel)
    | (show Nat.testBit _ _ = true; decide +kernel)
    | intro _
    | split)

theorem frame_icDone {P G : Nat} {s₀ s : State} (h₀ : Frame P G s₀ s) (i : Fin 128) (hP : 0x2000 &&& P = 0x2000) (hG : 0x0 &&& G = 0x0) : Frame P G s₀ (State.icDone s i) := by
  refine h₀.step (Q := 0x2000) (H := 0x0) ?_ hP hG
  unfold State.icDone
  try dsimp only
  iterate 50 all_goals try (first
    | (simp only [Frame.mk_iff]; with_reducible apply FrameC.upd <;> first | with_reducible exact fun _ => rfl | exact fun h => absurd h (by decide +kernel) | with_reducible exact fun _ h => ⟨h, rfl, rfl⟩ | with_reducible exact fun _ _ _ => rfl | with_reducible exact id | with_reducible exact fun h _ => h | with_reducible exact fun _ h => h | skip)
    | with_reducible apply Frame.ite
    | with_reducible exact Frame.refl _ _ _
    | with_reducible apply Frame.foldlT
    | with_reducible assumption
    | (show (_ : Nat) = _; decide +kernel)
    | (show Nat.testBit _ _ = true; decide +kernel)
    | intro _
    | split)

theorem frame_icComplete {P G : Nat} {s₀ s : State} (h₀ : Frame P G s₀ s) (id : Nat) (hP : 0x3040 &&& P = 0x3040) (hG : 0x100000c000000020 &&& G = 0x100000c000000020) : Frame P G s₀ (State.icComplete s id) := by
  refine h₀.step (Q := 0x3040) (H := 0x100000c000000020) ?_ hP hG
  unfold State.icComplete
  try dsimp only
  iterate 50 all_goals try (first
    | with_reducible apply Frame.ite
    | with_reducible exact Frame.refl _ _ _
    | with_reducible apply frame_icBad
    | with_reducible apply frame_icDone
    | with_reducible apply Frame.foldlT
    | with_reducible assumption
    | (show (_ : Nat) = _; decide +kernel)
    | (show Nat.testBit _ _ = true; decide +kernel)
    | intro _
    | split)

theorem frame_icRelease {P G : Nat} {s₀ s : State} (h₀ : Frame P G s₀ s) (g : Fin 16) (i : Fin 128) (hP : 0x2000 &&& P = 0x2000) (hG : 0x0 &&& G = 0x0) : Frame P G s₀ (State.icRelease s g i) := by
  refine h₀.step (Q := 0x2000) (H := 0x0) ?_ hP hG
  unfold State.icRelease
  try dsimp only
  iterate 50 all_goals try (first
    | (simp only [Frame.mk_iff]; with_reducible apply FrameC.upd <;> first | with_reducible exact fun _ => rfl | exact fun h => absurd h (by decide +kernel) | with_reducible exact fun _ h => ⟨h, rfl, rfl⟩ | with_reducible exact fun _ _ _ => rfl | with_reducible exact id | with_reducible exact fun h _ => h | with_reducible exact fun _ h => h | skip)
    | with_reducible apply Frame.ite
    | with_reducible exact Frame.refl _ _ _
    | with_reducible apply Frame.foldlT
    | with_reducible assumption
    | (show (_ : Nat) = _; decide +kernel)
    | (show Nat.testBit _ _ = true; decide +kernel)
    | intro _
    | split)

theorem frame_unfitNow {P G : Nat} {s₀ s : State} (h₀ : Frame P G s₀ s)  (hP : 0x1040 &&& P = 0x1040) (hG : 0x1000c000000020 &&& G = 0x1000c000000020) : Frame P G s₀ (State.unfitNow s) := by
  refine h₀.step (Q := 0x1040) (H := 0x1000c000000020) ?_ hP hG
  unfold State.unfitNow
  try dsimp only
  iterate 50 all_goals try (first
    | with_reducible apply Frame.ite
    | with_reducible exact Frame.refl _ _ _
    | with_reducible apply frame_put
    | with_reducible apply frame_flag
    | (with_reducible apply frame_raise_low; case hs => decide)
    | with_reducible apply Frame.foldlT
    | with_reducible assumption
    | (show (_ : Nat) = _; decide +kernel)
    | (show Nat.testBit _ _ = true; decide +kernel)
    | intro _
    | split)

theorem frame_healthRefresh {P G : Nat} {s₀ s : State} (h₀ : Frame P G s₀ s)  (hP : 0x101040 &&& P = 0x101040) (hG : 0x1000c000000020 &&& G = 0x1000c000000020) : Frame P G s₀ (State.healthRefresh s) := by
  refine h₀.step (Q := 0x101040) (H := 0x1000c000000020) ?_ hP hG
  unfold State.healthRefresh
  try dsimp only
  iterate 50 all_goals try (first
    | (simp only [Frame.mk_iff]; with_reducible apply FrameC.upd <;> first | with_reducible exact fun _ => rfl | exact fun h => absurd h (by decide +kernel) | with_reducible exact fun _ h => ⟨h, rfl, rfl⟩ | with_reducible exact fun _ _ _ => rfl | with_reducible exact id | with_reducible exact fun h _ => h | with_reducible exact fun _ h => h | skip)
    | with_reducible apply Frame.ite
    | with_reducible exact Frame.refl _ _ _
    | with_reducible apply frame_put
    | with_reducible apply frame_unfitNow
    | with_reducible apply Frame.foldlT
    | with_reducible assumption
    | (show (_ : Nat) = _; decide +kernel)
    | (show Nat.testBit _ _ = true; decide +kernel)
    | intro _
    | split)

theorem frame_frameSlot {P G : Nat} {s₀ s : State} (h₀ : Frame P G s₀ s)  (hP : 0x301040 &&& P = 0x301040) (hG : 0x1000c000000020 &&& G = 0x1000c000000020) : Frame P G s₀ (State.frameSlot s) := by
  refine h₀.step (Q := 0x301040) (H := 0x1000c000000020) ?_ hP hG
  unfold State.frameSlot
  try dsimp only
  iterate 50 all_goals try (first
    | (simp only [Frame.mk_iff]; with_reducible apply FrameC.upd <;> first | with_reducible exact fun _ => rfl | exact fun h => absurd h (by decide +kernel) | with_reducible exact fun _ h => ⟨h, rfl, rfl⟩ | with_reducible exact fun _ _ _ => rfl | with_reducible exact id | with_reducible exact fun h _ => h | with_reducible exact fun _ h => h | skip)
    | with_reducible apply Frame.ite
    | with_reducible exact Frame.refl _ _ _
    | with_reducible apply frame_healthRefresh
    | with_reducible apply Frame.foldlT
    | with_reducible assumption
    | (show (_ : Nat) = _; decide +kernel)
    | (show Nat.testBit _ _ = true; decide +kernel)
    | intro _
    | split)

theorem frame_compareFrame {P G : Nat} {s₀ s : State} (h₀ : Frame P G s₀ s) (f : TwinFrame) (hP : 0x101040 &&& P = 0x101040) (hG : 0x1000c000000020 &&& G = 0x1000c000000020) : Frame P G s₀ (State.compareFrame s f) := by
  refine h₀.step (Q := 0x101040) (H := 0x1000c000000020) ?_ hP hG
  unfold State.compareFrame
  try dsimp only
  iterate 50 all_goals try (first
    | (simp only [Frame.mk_iff]; with_reducible apply FrameC.upd <;> first | with_reducible exact fun _ => rfl | exact fun h => absurd h (by decide +kernel) | with_reducible exact fun _ h => ⟨h, rfl, rfl⟩ | with_reducible exact fun _ _ _ => rfl | with_reducible exact id | with_reducible exact fun h _ => h | with_reducible exact fun _ h => h | skip)
    | with_reducible apply Frame.ite
    | with_reducible exact Frame.refl _ _ _
    | with_reducible apply frame_put
    | with_reducible apply frame_flag
    | with_reducible apply frame_bump
    | (with_reducible apply frame_raise_low; case hs => decide)
    | with_reducible apply Frame.foldlT
    | with_reducible assumption
    | (show (_ : Nat) = _; decide +kernel)
    | (show Nat.testBit _ _ = true; decide +kernel)
    | intro _
    | split)

theorem frame_becomeUnfit {P G : Nat} {s₀ s : State} (h₀ : Frame P G s₀ s)  (hP : 0x101040 &&& P = 0x101040) (hG : 0x1000c000000020 &&& G = 0x1000c000000020) : Frame P G s₀ (State.becomeUnfit s) := by
  refine h₀.step (Q := 0x101040) (H := 0x1000c000000020) ?_ hP hG
  unfold State.becomeUnfit
  try dsimp only
  iterate 50 all_goals try (first
    | (simp only [Frame.mk_iff]; with_reducible apply FrameC.upd <;> first | with_reducible exact fun _ => rfl | exact fun h => absurd h (by decide +kernel) | with_reducible exact fun _ h => ⟨h, rfl, rfl⟩ | with_reducible exact fun _ _ _ => rfl | with_reducible exact id | with_reducible exact fun h _ => h | with_reducible exact fun _ h => h | skip)
    | with_reducible apply Frame.ite
    | with_reducible exact Frame.refl _ _ _
    | with_reducible apply frame_unfitNow
    | with_reducible apply Frame.foldlT
    | with_reducible assumption
    | (show (_ : Nat) = _; decide +kernel)
    | (show Nat.testBit _ _ = true; decide +kernel)
    | intro _
    | split)

theorem frame_yieldFit {P G : Nat} {s₀ s : State} (h₀ : Frame P G s₀ s)  (hP : 0xcc0161c78 &&& P = 0xcc0161c78) (hG : 0x401500c010000024 &&& G = 0x401500c010000024) : Frame P G s₀ (State.yieldFit s) := by
  refine h₀.step (Q := 0xcc0161c78) (H := 0x401500c010000024) ?_ hP hG
  unfold State.yieldFit
  try dsimp only
  iterate 50 all_goals try (first
    | with_reducible apply Frame.ite
    | with_reducible exact Frame.refl _ _ _
    | with_reducible apply frame_yield
    | with_reducible apply Frame.foldlT
    | with_reducible assumption
    | (show (_ : Nat) = _; decide +kernel)
    | (show Nat.testBit _ _ = true; decide +kernel)
    | intro _
    | split)

theorem frame_transferStart {P G : Nat} {s₀ s : State} (h₀ : Frame P G s₀ s)  (hP : 0x0 &&& P = 0x0) (hG : 0x10000000000000 &&& G = 0x10000000000000) : Frame P G s₀ (State.transferStart s) := by
  refine h₀.step (Q := 0x0) (H := 0x10000000000000) ?_ hP hG
  unfold State.transferStart
  try dsimp only
  iterate 50 all_goals try (first
    | with_reducible apply Frame.ite
    | with_reducible exact Frame.refl _ _ _
    | with_reducible apply frame_put
    | with_reducible apply Frame.foldlT
    | with_reducible assumption
    | (show (_ : Nat) = _; decide +kernel)
    | (show Nat.testBit _ _ = true; decide +kernel)
    | intro _
    | split)

theorem frame_resolveRow {P G : Nat} {s₀ s : State} (h₀ : Frame P G s₀ s) (aKat sKat aInj sInj : Bool) (own partner mask : Nat) (hP : 0xcc0161c7c &&& P = 0xcc0161c7c) (hG : 0x401500c010000024 &&& G = 0x401500c010000024) : Frame P G s₀ (State.resolveRow s aKat sKat aInj sInj own partner mask) := by
  refine h₀.step (Q := 0xcc0161c7c) (H := 0x401500c010000024) ?_ hP hG
  unfold State.resolveRow
  try dsimp only
  iterate 50 all_goals try (first
    | with_reducible apply Frame.ite
    | with_reducible exact Frame.refl _ _ _
    | with_reducible apply frame_put
    | with_reducible apply frame_flag
    | (refine frame_takeFree_of ‹_› ?_ ?_ ?_)
    | with_reducible apply frame_takeFree
    | (with_reducible apply frame_raise_low; case hs => decide)
    | with_reducible apply frame_raise
    | with_reducible apply frame_becomeUnfit
    | with_reducible apply frame_yieldFit
    | with_reducible apply frame_transferStart
    | with_reducible apply Frame.foldlT
    | with_reducible assumption
    | (show (_ : Nat) = _; decide +kernel)
    | (show Nat.testBit _ _ = true; decide +kernel)
    | intro _
    | split)

theorem frame_katResolve {P G : Nat} {s₀ s : State} (h₀ : Frame P G s₀ s)  (hP : 0xcc0161c7c &&& P = 0xcc0161c7c) (hG : 0x401500c010000024 &&& G = 0x401500c010000024) : Frame P G s₀ (State.katResolve s) := by
  refine h₀.step (Q := 0xcc0161c7c) (H := 0x401500c010000024) ?_ hP hG
  unfold State.katResolve
  try dsimp only
  iterate 50 all_goals try (first
    | (simp only [Frame.mk_iff]; with_reducible apply FrameC.upd <;> first | with_reducible exact fun _ => rfl | exact fun h => absurd h (by decide +kernel) | with_reducible exact fun _ h => ⟨h, rfl, rfl⟩ | with_reducible exact fun _ _ _ => rfl | with_reducible exact id | with_reducible exact fun h _ => h | with_reducible exact fun _ h => h | skip)
    | with_reducible apply Frame.ite
    | with_reducible exact Frame.refl _ _ _
    | with_reducible apply frame_resolveRow
    | with_reducible apply Frame.foldlT
    | with_reducible assumption
    | (show (_ : Nat) = _; decide +kernel)
    | (show Nat.testBit _ _ = true; decide +kernel)
    | intro _
    | split)

theorem frame_applyDecision {P G : Nat} {s₀ s : State} (h₀ : Frame P G s₀ s) (kind unit : Byte) (value : BitVec 32) (hP : 0x421801040 &&& P = 0x421801040) (hG : 0xc10d330020 &&& G = 0xc10d330020) : Frame P G s₀ (State.applyDecision s kind unit value) := by
  refine h₀.step (Q := 0x421801040) (H := 0xc10d330020) ?_ hP hG
  unfold State.applyDecision
  try dsimp only
  iterate 50 all_goals try (first
    | (simp only [Frame.mk_iff]; with_reducible apply FrameC.upd <;> first | with_reducible exact fun _ => rfl | exact fun h => absurd h (by decide +kernel) | with_reducible exact fun _ h => ⟨h, rfl, rfl⟩ | with_reducible exact fun _ _ _ => rfl | with_reducible exact id | with_reducible exact fun h _ => h | with_reducible exact fun _ h => h | skip)
    | with_reducible apply Frame.ite
    | with_reducible exact Frame.refl _ _ _
    | with_reducible apply frame_put
    | with_reducible apply frame_putAt
    | with_reducible apply frame_setBay
    | with_reducible apply frame_fusEnter
    | with_reducible apply frame_fusCleared
    | with_reducible apply frame_setBst
    | with_reducible apply frame_strTo
    | with_reducible apply frame_setCt
    | with_reducible apply Frame.foldlT
    | with_reducible assumption
    | (show (_ : Nat) = _; decide +kernel)
    | (show Nat.testBit _ _ = true; decide +kernel)
    | intro _
    | split)

theorem frame_decisionTick {P G : Nat} {s₀ s : State} (h₀ : Frame P G s₀ s)  (hP : 0x421901040 &&& P = 0x421901040) (hG : 0xc10d330020 &&& G = 0xc10d330020) : Frame P G s₀ (State.decisionTick s) := by
  refine h₀.step (Q := 0x421901040) (H := 0xc10d330020) ?_ hP hG
  unfold State.decisionTick
  try dsimp only
  iterate 50 all_goals try (first
    | (simp only [Frame.mk_iff]; with_reducible apply FrameC.upd <;> first | with_reducible exact fun _ => rfl | exact fun h => absurd h (by decide +kernel) | with_reducible exact fun _ h => ⟨h, rfl, rfl⟩ | with_reducible exact fun _ _ _ => rfl | with_reducible exact id | with_reducible exact fun h _ => h | with_reducible exact fun _ h => h | skip)
    | with_reducible apply Frame.ite
    | with_reducible exact Frame.refl _ _ _
    | with_reducible apply frame_applyDecision
    | with_reducible apply Frame.foldlT
    | with_reducible assumption
    | (show (_ : Nat) = _; decide +kernel)
    | (show Nat.testBit _ _ = true; decide +kernel)
    | intro _
    | split)

theorem frame_regByte {P G : Nat} {s₀ s : State} (h₀ : Frame P G s₀ s) (page off byte : Nat) (hP : 0x18 &&& P = 0x18) (hG : 0xffffffffffffffff &&& G = 0xffffffffffffffff) : Frame P G s₀ (State.regByte s page off byte) := by
  refine h₀.step (Q := 0x18) (H := 0xffffffffffffffff) ?_ hP hG
  unfold State.regByte
  try dsimp only
  iterate 70 all_goals try (first
    | (simp only [Frame.mk_iff]; with_reducible apply FrameC.upd <;> first | with_reducible exact fun _ => rfl | exact fun h => absurd h (by decide +kernel) | with_reducible exact fun _ h => ⟨h, rfl, rfl⟩ | with_reducible exact fun _ _ _ => rfl | with_reducible exact id | with_reducible exact fun h _ => h | with_reducible exact fun _ h => h | (with_reducible show (Nat.testBit _ _ = false → _); exact fun _ => rfl) | skip)
    | ((with_reducible show (_ → twinRest _ = twinRest _)); intro _; exact rfl)
    | ((with_reducible show (_ → posKept _ _)); intro _; split <;> split <;> exact fun h => ⟨h, rfl, rfl⟩)
    | ((with_reducible show (_ → posKept _ _)); intro _ h; exact ⟨h, rfl, rfl⟩)
    | ((with_reducible show (_ → posKept _ _)); intro _ h; exact absurd h ‹_›)
    | ((with_reducible show (_ → coreRest _ = coreRest _)); intro _; exact rfl)
    | with_reducible apply Frame.ite
    | with_reducible exact Frame.refl _ _ _
    | with_reducible apply frame_putAt
    | with_reducible apply frame_putShad
    | with_reducible apply frame_touch
    | with_reducible apply Frame.foldlT
    | with_reducible assumption
    | (show (_ : Nat) = _; decide +kernel)
    | (show Nat.testBit _ _ = true; first | decide +kernel | exact allPages _)
    | with_reducible exact fun _ _ _ => rfl
    | (with_reducible show ∀ (_ : Field) (_ : Nat), _ → _; exact fun _ _ h => absurd (h.symm.trans (allPages _)) (by decide))
    | with_reducible apply fieldPut_wf
    | with_reducible apply copyFields_wf
    | with_reducible apply copyInsts_wf
    | with_reducible apply copyBay_wf
    | with_reducible apply copyAll_wf
    | with_reducible apply offered_wf
    | with_reducible refine foldl_wf (fun _ _ h => copyBay_wf h) ?_
    | (intro _ _; dsimp only)
    | intro _
    | split)

theorem frame_contractHalf {P G : Nat} {s₀ s : State} (h₀ : Frame P G s₀ s) (i : Nat) (half : Bool) (b : List Byte) (hP : 0x400000018 &&& P = 0x400000018) (hG : 0x0 &&& G = 0x0) : Frame P G s₀ (State.contractHalf s i half b) := by
  refine h₀.step (Q := 0x400000018) (H := 0x0) ?_ hP hG
  unfold State.contractHalf
  try dsimp only
  iterate 50 all_goals try (first
    | (simp only [Frame.mk_iff]; with_reducible apply FrameC.upd <;> first | with_reducible exact fun _ => rfl | exact fun h => absurd h (by decide +kernel) | with_reducible exact fun _ h => ⟨h, rfl, rfl⟩ | with_reducible exact fun _ _ _ => rfl | with_reducible exact id | with_reducible exact fun h _ => h | with_reducible exact fun _ h => h | skip)
    | with_reducible apply Frame.ite
    | with_reducible exact Frame.refl _ _ _
    | with_reducible apply frame_putShad
    | with_reducible apply frame_touch
    | with_reducible apply frame_setCt
    | with_reducible apply Frame.foldlT
    | with_reducible assumption
    | (show (_ : Nat) = _; decide +kernel)
    | (show Nat.testBit _ _ = true; decide +kernel)
    | intro _
    | split)

theorem frame_capsulePiece {P G : Nat} {s₀ s : State} (h₀ : Frame P G s₀ s) (k off : Nat) (b : List Byte) (hP : 0x40100000 &&& P = 0x40100000) (hG : 0x0 &&& G = 0x0) : Frame P G s₀ (State.capsulePiece s k off b) := by
  refine h₀.step (Q := 0x40100000) (H := 0x0) ?_ hP hG
  unfold State.capsulePiece
  try dsimp only
  iterate 50 all_goals try (first
    | (simp only [Frame.mk_iff]; with_reducible apply FrameC.upd <;> first | with_reducible exact fun _ => rfl | exact fun h => absurd h (by decide +kernel) | with_reducible exact fun _ h => ⟨h, rfl, rfl⟩ | with_reducible exact fun _ _ _ => rfl | with_reducible exact id | with_reducible exact fun h _ => h | with_reducible exact fun _ h => h | skip)
    | with_reducible apply Frame.ite
    | with_reducible exact Frame.refl _ _ _
    | with_reducible apply frame_setEsti
    | with_reducible apply Frame.foldlT
    | with_reducible assumption
    | (show (_ : Nat) = _; decide +kernel)
    | (show Nat.testBit _ _ = true; decide +kernel)
    | intro _
    | split)

theorem frame_syncRec {P G : Nat} {s₀ s : State} (h₀ : Frame P G s₀ s) (r : SyncRec) (hP : 0x461901058 &&& P = 0x461901058) (hG : 0xffffffffffffffff &&& G = 0xffffffffffffffff) : Frame P G s₀ (State.syncRec s r) := by
  refine h₀.step (Q := 0x461901058) (H := 0xffffffffffffffff) ?_ hP hG
  unfold State.syncRec
  try dsimp only
  iterate 50 all_goals try (first
    | (simp only [Frame.mk_iff]; with_reducible apply FrameC.upd <;> first | with_reducible exact fun _ => rfl | exact fun h => absurd h (by decide +kernel) | with_reducible exact fun _ h => ⟨h, rfl, rfl⟩ | with_reducible exact fun _ _ _ => rfl | with_reducible exact id | with_reducible exact fun h _ => h | with_reducible exact fun _ h => h | skip)
    | with_reducible apply Frame.ite
    | with_reducible exact Frame.refl _ _ _
    | with_reducible apply frame_put
    | with_reducible apply frame_bump
    | with_reducible apply frame_transferStart
    | with_reducible apply frame_applyDecision
    | with_reducible apply frame_regByte
    | with_reducible apply frame_contractHalf
    | with_reducible apply frame_capsulePiece
    | with_reducible apply Frame.foldlT
    | with_reducible assumption
    | (show (_ : Nat) = _; decide +kernel)
    | (show Nat.testBit _ _ = true; decide +kernel)
    | intro _
    | split)

theorem frame_switchRefused {P G : Nat} {s₀ s : State} (h₀ : Frame P G s₀ s)  (hP : 0x1040 &&& P = 0x1040) (hG : 0x1000c000000020 &&& G = 0x1000c000000020) : Frame P G s₀ (State.switchRefused s) := by
  refine h₀.step (Q := 0x1040) (H := 0x1000c000000020) ?_ hP hG
  unfold State.switchRefused
  try dsimp only
  iterate 50 all_goals try (first
    | with_reducible apply Frame.ite
    | with_reducible exact Frame.refl _ _ _
    | with_reducible apply frame_put
    | with_reducible apply frame_flag
    | (with_reducible apply frame_raise_low; case hs => decide)
    | with_reducible apply Frame.foldlT
    | with_reducible assumption
    | (show (_ : Nat) = _; decide +kernel)
    | (show Nat.testBit _ _ = true; decide +kernel)
    | intro _
    | split)

theorem frame_activeFrame {P G : Nat} {s₀ s : State} (h₀ : Frame P G s₀ s) (f : TwinFrame) (hP : 0xcc0161c7c &&& P = 0xcc0161c7c) (hG : 0x401500c010000024 &&& G = 0x401500c010000024) : Frame P G s₀ (State.activeFrame s f) := by
  refine h₀.step (Q := 0xcc0161c7c) (H := 0x401500c010000024) ?_ hP hG
  unfold State.activeFrame
  try dsimp only
  iterate 50 all_goals try (first
    | (simp only [Frame.mk_iff]; with_reducible apply FrameC.upd <;> first | with_reducible exact fun _ => rfl | exact fun h => absurd h (by decide +kernel) | with_reducible exact fun _ h => ⟨h, rfl, rfl⟩ | with_reducible exact fun _ _ _ => rfl | with_reducible exact id | with_reducible exact fun h _ => h | with_reducible exact fun _ h => h | skip)
    | with_reducible apply Frame.ite
    | with_reducible exact Frame.refl _ _ _
    | with_reducible apply frame_yield
    | with_reducible apply frame_compareFrame
    | with_reducible apply frame_transferStart
    | with_reducible apply frame_katResolve
    | with_reducible apply frame_switchRefused
    | with_reducible apply Frame.foldlT
    | with_reducible assumption
    | (show (_ : Nat) = _; decide +kernel)
    | (show Nat.testBit _ _ = true; decide +kernel)
    | intro _
    | split)

theorem frame_standbyFrame {P G : Nat} {s₀ s : State} (h₀ : Frame P G s₀ s) (f : TwinFrame) (hP : 0xcc0161c7c &&& P = 0xcc0161c7c) (hG : 0x401500c010000024 &&& G = 0x401500c010000024) : Frame P G s₀ (State.standbyFrame s f) := by
  refine h₀.step (Q := 0xcc0161c7c) (H := 0x401500c010000024) ?_ hP hG
  unfold State.standbyFrame
  try dsimp only
  iterate 50 all_goals try (first
    | (simp only [Frame.mk_iff]; with_reducible apply FrameC.upd <;> first | with_reducible exact fun _ => rfl | exact fun h => absurd h (by decide +kernel) | with_reducible exact fun _ h => ⟨h, rfl, rfl⟩ | with_reducible exact fun _ _ _ => rfl | with_reducible exact id | with_reducible exact fun h _ => h | with_reducible exact fun _ h => h | skip)
    | with_reducible apply Frame.ite
    | with_reducible exact Frame.refl _ _ _
    | with_reducible apply frame_transferStart
    | with_reducible apply frame_katResolve
    | with_reducible apply Frame.foldlT
    | with_reducible assumption
    | (show (_ : Nat) = _; decide +kernel)
    | (show Nat.testBit _ _ = true; decide +kernel)
    | intro _
    | split)

theorem frame_frameReceive {P G : Nat} {s₀ s : State} (h₀ : Frame P G s₀ s) (f : TwinFrame) (hP : 0xce1961c7c &&& P = 0xce1961c7c) (hG : 0xffffffffffffffff &&& G = 0xffffffffffffffff) : Frame P G s₀ (State.frameReceive s f) := by
  refine h₀.step (Q := 0xce1961c7c) (H := 0xffffffffffffffff) ?_ hP hG
  unfold State.frameReceive
  try dsimp only
  iterate 50 all_goals try (first
    | (simp only [Frame.mk_iff]; with_reducible apply FrameC.upd <;> first | with_reducible exact fun _ => rfl | exact fun h => absurd h (by decide +kernel) | with_reducible exact fun _ h => ⟨h, rfl, rfl⟩ | with_reducible exact fun _ _ _ => rfl | with_reducible exact id | with_reducible exact fun h _ => h | with_reducible exact fun _ h => h | skip)
    | with_reducible apply Frame.ite
    | with_reducible exact Frame.refl _ _ _
    | with_reducible apply frame_put
    | with_reducible apply frame_putB
    | with_reducible apply frame_bump
    | with_reducible apply frame_healthRefresh
    | with_reducible apply frame_syncRec
    | with_reducible apply frame_activeFrame
    | with_reducible apply frame_standbyFrame
    | with_reducible apply Frame.foldlT
    | with_reducible assumption
    | (show (_ : Nat) = _; decide +kernel)
    | (show Nat.testBit _ _ = true; decide +kernel)
    | intro _
    | split)

theorem frame_linkFault {P G : Nat} {s₀ s : State} (h₀ : Frame P G s₀ s)  (hP : 0x101040 &&& P = 0x101040) (hG : 0x1000c000000020 &&& G = 0x1000c000000020) : Frame P G s₀ (State.linkFault s) := by
  refine h₀.step (Q := 0x101040) (H := 0x1000c000000020) ?_ hP hG
  unfold State.linkFault
  try dsimp only
  iterate 50 all_goals try (first
    | (simp only [Frame.mk_iff]; with_reducible apply FrameC.upd <;> first | with_reducible exact fun _ => rfl | exact fun h => absurd h (by decide +kernel) | with_reducible exact fun _ h => ⟨h, rfl, rfl⟩ | with_reducible exact fun _ _ _ => rfl | with_reducible exact id | with_reducible exact fun h _ => h | with_reducible exact fun _ h => h | skip)
    | with_reducible apply Frame.ite
    | with_reducible exact Frame.refl _ _ _
    | with_reducible apply frame_flag
    | (with_reducible apply frame_raise_low; case hs => decide)
    | with_reducible apply Frame.foldlT
    | with_reducible assumption
    | (show (_ : Nat) = _; decide +kernel)
    | (show Nat.testBit _ _ = true; decide +kernel)
    | intro _
    | split)

theorem frame_takeOver {P G : Nat} {s₀ s : State} (h₀ : Frame P G s₀ s) (fall trig : Nat) (hP : 0xd67de1c7c &&& P = 0xd67de1c7c) (hG : 0x401500c10db30024 &&& G = 0x401500c10db30024) : Frame P G s₀ (State.takeOver s fall trig) := by
  refine h₀.step (Q := 0xd67de1c7c) (H := 0x401500c10db30024) ?_ hP hG
  unfold State.takeOver
  try dsimp only
  iterate 50 all_goals try (first
    | (simp only [Frame.mk_iff]; with_reducible apply FrameC.upd <;> first | with_reducible exact fun _ => rfl | exact fun h => absurd h (by decide +kernel) | with_reducible exact fun _ h => ⟨h, rfl, rfl⟩ | with_reducible exact fun _ _ _ => rfl | with_reducible exact id | with_reducible exact fun h _ => h | with_reducible exact fun _ h => h | skip)
    | with_reducible apply Frame.ite
    | with_reducible exact Frame.refl _ _ _
    | with_reducible apply frame_put
    | with_reducible apply frame_putSat
    | with_reducible apply frame_flag
    | with_reducible apply frame_bump
    | (refine frame_takeFree_of ‹_› ?_ ?_ ?_)
    | with_reducible apply frame_takeFree
    | (with_reducible apply frame_raise_low; case hs => decide)
    | with_reducible apply frame_changeMode
    | with_reducible apply frame_outResumed
    | with_reducible apply frame_runEntered
    | with_reducible apply frame_roleShow
    | with_reducible apply frame_tadpoleSet
    | with_reducible apply frame_resume
    | with_reducible apply Frame.foldlT
    | with_reducible assumption
    | (show (_ : Nat) = _; decide +kernel)
    | (show Nat.testBit _ _ = true; decide +kernel)
    | intro _
    | split)

theorem frame_twinCommand {P G : Nat} {s₀ s : State} (h₀ : Frame P G s₀ s) (key : Byte) (f : State → State) (hP : 0x0 &&& P = 0x0) (hG : 0x10000000000000 &&& G = 0x10000000000000) (h_f : ∀ z, Frame P G z (f z)) : Frame P G s₀ (State.twinCommand s key f) := by
  unfold State.twinCommand
  try dsimp only
  iterate 70 all_goals try (first
    | (simp only [Frame.mk_iff]; with_reducible apply FrameC.upd <;> first | with_reducible exact fun _ => rfl | exact fun h => absurd h (by decide +kernel) | with_reducible exact fun _ h => ⟨h, rfl, rfl⟩ | with_reducible exact fun _ _ _ => rfl | with_reducible exact id | with_reducible exact fun h _ => h | with_reducible exact fun _ h => h | (with_reducible show (Nat.testBit _ _ = false → _); exact fun _ => rfl) | exact fun h => absurd (bit_of_land hP h) (by decide +kernel) | skip)
    | ((with_reducible show (_ → twinRest _ = twinRest _)); intro _; exact rfl)
    | ((with_reducible show (_ → posKept _ _)); intro _; split <;> split <;> exact fun h => ⟨h, rfl, rfl⟩)
    | ((with_reducible show (_ → posKept _ _)); intro _ h; exact ⟨h, rfl, rfl⟩)
    | ((with_reducible show (_ → posKept _ _)); intro _ h; exact absurd h ‹_›)
    | ((with_reducible show (_ → coreRest _ = coreRest _)); intro _; exact rfl)
    | with_reducible apply Frame.ite
    | with_reducible exact Frame.refl _ _ _
    | with_reducible apply frame_put
    | (refine Frame.trans ?_ (h_f _))
    | exact land_trans hP (by decide +kernel)
    | exact land_trans hG (by decide +kernel)
    | exact bit_mono hG (by decide +kernel)
    | exact bit_mono hP (by decide +kernel)
    | with_reducible apply Frame.foldlT
    | with_reducible assumption
    | (show (_ : Nat) = _; decide +kernel)
    | (show Nat.testBit _ _ = true; first | decide +kernel | exact allPages _)
    | with_reducible exact fun _ _ _ => rfl
    | (with_reducible show ∀ (_ : Field) (_ : Nat), _ → _; exact fun _ _ h => absurd (h.symm.trans (allPages _)) (by decide))
    | with_reducible apply fieldPut_wf
    | with_reducible apply copyFields_wf
    | with_reducible apply copyInsts_wf
    | with_reducible apply copyBay_wf
    | with_reducible apply copyAll_wf
    | with_reducible apply offered_wf
    | with_reducible refine foldl_wf (fun _ _ h => copyBay_wf h) ?_
    | (intro _ _; dsimp only)
    | intro _
    | split)

theorem frame_switchover {P G : Nat} {s₀ s : State} (h₀ : Frame P G s₀ s)  (hP : 0xcc0161c78 &&& P = 0xcc0161c78) (hG : 0x401500c010000024 &&& G = 0x401500c010000024) : Frame P G s₀ (State.switchover s) := by
  refine h₀.step (Q := 0xcc0161c78) (H := 0x401500c010000024) ?_ hP hG
  unfold State.switchover
  try dsimp only
  iterate 50 all_goals try (first
    | (simp only [Frame.mk_iff]; with_reducible apply FrameC.upd <;> first | with_reducible exact fun _ => rfl | exact fun h => absurd h (by decide +kernel) | with_reducible exact fun _ h => ⟨h, rfl, rfl⟩ | with_reducible exact fun _ _ _ => rfl | with_reducible exact id | with_reducible exact fun h _ => h | with_reducible exact fun _ h => h | skip)
    | with_reducible apply Frame.ite
    | with_reducible exact Frame.refl _ _ _
    | with_reducible apply frame_put
    | with_reducible apply frame_yield
    | with_reducible apply frame_switchRefused
    | with_reducible apply Frame.foldlT
    | with_reducible assumption
    | (show (_ : Nat) = _; decide +kernel)
    | (show Nat.testBit _ _ = true; decide +kernel)
    | intro _
    | split)

theorem frame_resync {P G : Nat} {s₀ s : State} (h₀ : Frame P G s₀ s)  (hP : 0x0 &&& P = 0x0) (hG : 0x10000000000000 &&& G = 0x10000000000000) : Frame P G s₀ (State.resync s) := by
  refine h₀.step (Q := 0x0) (H := 0x10000000000000) ?_ hP hG
  unfold State.resync
  try dsimp only
  iterate 50 all_goals try (first
    | with_reducible apply Frame.ite
    | with_reducible exact Frame.refl _ _ _
    | with_reducible apply frame_put
    | with_reducible apply frame_flag
    | with_reducible apply frame_transferStart
    | with_reducible apply Frame.foldlT
    | with_reducible assumption
    | (show (_ : Nat) = _; decide +kernel)
    | (show Nat.testBit _ _ = true; decide +kernel)
    | intro _
    | split)

theorem frame_toFirst {P G : Nat} {s₀ s : State} (h₀ : Frame P G s₀ s) (r : EventRec) (hP : 0x1440 &&& P = 0x1440) (hG : 0xc000000020 &&& G = 0xc000000020) : Frame P G s₀ (State.toFirst s r) := by
  refine h₀.step (Q := 0x1440) (H := 0xc000000020) ?_ hP hG
  unfold State.toFirst
  try dsimp only
  iterate 50 all_goals try (first
    | (simp only [Frame.mk_iff]; with_reducible apply FrameC.upd <;> first | with_reducible exact fun _ => rfl | exact fun h => absurd h (by decide +kernel) | with_reducible exact fun _ h => ⟨h, rfl, rfl⟩ | with_reducible exact fun _ _ _ => rfl | with_reducible exact id | with_reducible exact fun h _ => h | with_reducible exact fun _ h => h | skip)
    | with_reducible apply Frame.ite
    | with_reducible exact Frame.refl _ _ _
    | with_reducible apply frame_put
    | with_reducible apply frame_flag
    | (with_reducible apply frame_raise_low; case hs => decide)
    | with_reducible apply Frame.foldlT
    | with_reducible assumption
    | (show (_ : Nat) = _; decide +kernel)
    | (show Nat.testBit _ _ = true; decide +kernel)
    | intro _
    | split)

theorem frame_rollRoom {P G : Nat} {s₀ s : State} (h₀ : Frame P G s₀ s)  (hP : 0x1c00 &&& P = 0x1c00) (hG : 0x400c000000020 &&& G = 0x400c000000020) : Frame P G s₀ (State.rollRoom s) := by
  refine h₀.step (Q := 0x1c00) (H := 0x400c000000020) ?_ hP hG
  unfold State.rollRoom
  try dsimp only
  iterate 50 all_goals try (first
    | (simp only [Frame.mk_iff]; with_reducible apply FrameC.upd <;> first | with_reducible exact fun _ => rfl | exact fun h => absurd h (by decide +kernel) | with_reducible exact fun _ h => ⟨h, rfl, rfl⟩ | with_reducible exact fun _ _ _ => rfl | with_reducible exact id | with_reducible exact fun h _ => h | with_reducible exact fun _ h => h | skip)
    | with_reducible apply Frame.ite
    | with_reducible exact Frame.refl _ _ _
    | with_reducible apply frame_eraseSectors
    | with_reducible apply Frame.foldlT
    | with_reducible assumption
    | (show (_ : Nat) = _; decide +kernel)
    | (show Nat.testBit _ _ = true; decide +kernel)
    | intro _
    | split)

theorem frame_rollDrop {P G : Nat} {s₀ s : State} (h₀ : Frame P G s₀ s) (r : EventRec) (hP : 0x1040 &&& P = 0x1040) (hG : 0xc000000020 &&& G = 0xc000000020) : Frame P G s₀ (State.rollDrop s r) := by
  refine h₀.step (Q := 0x1040) (H := 0xc000000020) ?_ hP hG
  unfold State.rollDrop
  try dsimp only
  iterate 50 all_goals try (first
    | (simp only [Frame.mk_iff]; with_reducible apply FrameC.upd <;> first | with_reducible exact fun _ => rfl | exact fun h => absurd h (by decide +kernel) | with_reducible exact fun _ h => ⟨h, rfl, rfl⟩ | with_reducible exact fun _ _ _ => rfl | with_reducible exact id | with_reducible exact fun h _ => h | with_reducible exact fun _ h => h | skip)
    | with_reducible apply Frame.ite
    | with_reducible exact Frame.refl _ _ _
    | with_reducible apply frame_flag
    | with_reducible apply frame_bump
    | (with_reducible apply frame_raise_low; case hs => decide)
    | with_reducible apply Frame.foldlT
    | with_reducible assumption
    | (show (_ : Nat) = _; decide +kernel)
    | (show Nat.testBit _ _ = true; decide +kernel)
    | intro _
    | split)

theorem frame_toRoll {P G : Nat} {s₀ s : State} (h₀ : Frame P G s₀ s) (r : EventRec) (hP : 0x1c40 &&& P = 0x1c40) (hG : 0x400c000000020 &&& G = 0x400c000000020) : Frame P G s₀ (State.toRoll s r) := by
  refine h₀.step (Q := 0x1c40) (H := 0x400c000000020) ?_ hP hG
  unfold State.toRoll
  try dsimp only
  iterate 50 all_goals try (first
    | (simp only [Frame.mk_iff]; with_reducible apply FrameC.upd <;> first | with_reducible exact fun _ => rfl | exact fun h => absurd h (by decide +kernel) | with_reducible exact fun _ h => ⟨h, rfl, rfl⟩ | with_reducible exact fun _ _ _ => rfl | with_reducible exact id | with_reducible exact fun h _ => h | with_reducible exact fun _ h => h | skip)
    | with_reducible apply Frame.ite
    | with_reducible exact Frame.refl _ _ _
    | with_reducible apply frame_put
    | with_reducible apply frame_rollRoom
    | with_reducible apply frame_rollDrop
    | with_reducible apply Frame.foldlT
    | with_reducible assumption
    | (show (_ : Nat) = _; decide +kernel)
    | (show Nat.testBit _ _ = true; decide +kernel)
    | intro _
    | split)

theorem frame_writeRec {P G : Nat} {s₀ s : State} (h₀ : Frame P G s₀ s) (r : EventRec) (hP : 0x1c40 &&& P = 0x1c40) (hG : 0x400c000000020 &&& G = 0x400c000000020) : Frame P G s₀ (State.writeRec s r) := by
  refine h₀.step (Q := 0x1c40) (H := 0x400c000000020) ?_ hP hG
  unfold State.writeRec
  try dsimp only
  iterate 50 all_goals try (first
    | with_reducible apply Frame.ite
    | with_reducible exact Frame.refl _ _ _
    | with_reducible apply frame_toFirst
    | with_reducible apply frame_toRoll
    | with_reducible apply Frame.foldlT
    | with_reducible assumption
    | (show (_ : Nat) = _; decide +kernel)
    | (show Nat.testBit _ _ = true; decide +kernel)
    | intro _
    | split)

theorem frame_dropReport {P G : Nat} {s₀ s : State} (h₀ : Frame P G s₀ s)  (hP : 0x1040 &&& P = 0x1040) (hG : 0xc000000020 &&& G = 0xc000000020) : Frame P G s₀ (State.dropReport s) := by
  refine h₀.step (Q := 0x1040) (H := 0xc000000020) ?_ hP hG
  unfold State.dropReport
  try dsimp only
  iterate 50 all_goals try (first
    | (simp only [Frame.mk_iff]; with_reducible apply FrameC.upd <;> first | with_reducible exact fun _ => rfl | exact fun h => absurd h (by decide +kernel) | with_reducible exact fun _ h => ⟨h, rfl, rfl⟩ | with_reducible exact fun _ _ _ => rfl | with_reducible exact id | with_reducible exact fun h _ => h | with_reducible exact fun _ h => h | skip)
    | with_reducible apply Frame.ite
    | with_reducible exact Frame.refl _ _ _
    | (with_reducible apply frame_raise_low; case hs => decide)
    | with_reducible apply Frame.foldlT
    | with_reducible assumption
    | (show (_ : Nat) = _; decide +kernel)
    | (show Nat.testBit _ _ = true; decide +kernel)
    | intro _
    | split)

theorem frame_batchDone {P G : Nat} {s₀ s : State} (h₀ : Frame P G s₀ s) (upTo : Nat) (hP : 0x1c40 &&& P = 0x1c40) (hG : 0x400c000000020 &&& G = 0x400c000000020) : Frame P G s₀ (State.batchDone s upTo) := by
  refine h₀.step (Q := 0x1c40) (H := 0x400c000000020) ?_ hP hG
  unfold State.batchDone
  try dsimp only
  iterate 50 all_goals try (first
    | (simp only [Frame.mk_iff]; with_reducible apply FrameC.upd <;> first | with_reducible exact fun _ => rfl | exact fun h => absurd h (by decide +kernel) | with_reducible exact fun _ h => ⟨h, rfl, rfl⟩ | with_reducible exact fun _ _ _ => rfl | with_reducible exact id | with_reducible exact fun h _ => h | with_reducible exact fun _ h => h | skip)
    | with_reducible apply Frame.ite
    | with_reducible exact Frame.refl _ _ _
    | with_reducible apply frame_put
    | with_reducible apply frame_flushTrigger
    | with_reducible apply frame_jAppend
    | with_reducible apply frame_writeRec
    | with_reducible apply frame_dropReport
    | with_reducible apply Frame.foldlT
    | with_reducible assumption
    | (show (_ : Nat) = _; decide +kernel)
    | (show Nat.testBit _ _ = true; decide +kernel)
    | intro _
    | split)

theorem frame_recFlush {P G : Nat} {s₀ s : State} (h₀ : Frame P G s₀ s) (key : Byte) (hP : 0x1000 &&& P = 0x1000) (hG : 0x4000000000 &&& G = 0x4000000000) : Frame P G s₀ (State.recFlush s key) := by
  refine h₀.step (Q := 0x1000) (H := 0x4000000000) ?_ hP hG
  unfold State.recFlush
  try dsimp only
  iterate 50 all_goals try (first
    | (simp only [Frame.mk_iff]; with_reducible apply FrameC.upd <;> first | with_reducible exact fun _ => rfl | exact fun h => absurd h (by decide +kernel) | with_reducible exact fun _ h => ⟨h, rfl, rfl⟩ | with_reducible exact fun _ _ _ => rfl | with_reducible exact id | with_reducible exact fun h _ => h | with_reducible exact fun _ h => h | skip)
    | with_reducible apply Frame.ite
    | with_reducible exact Frame.refl _ _ _
    | with_reducible apply frame_put
    | with_reducible apply frame_flushKick
    | with_reducible apply Frame.foldlT
    | with_reducible assumption
    | (show (_ : Nat) = _; decide +kernel)
    | (show Nat.testBit _ _ = true; decide +kernel)
    | intro _
    | split)

theorem frame_clearRefused {P G : Nat} {s₀ s : State} (h₀ : Frame P G s₀ s) (cmd res : Nat) (hP : 0x1040 &&& P = 0x1040) (hG : 0xc000000020 &&& G = 0xc000000020) : Frame P G s₀ (State.clearRefused s cmd res) := by
  refine h₀.step (Q := 0x1040) (H := 0xc000000020) ?_ hP hG
  unfold State.clearRefused
  try dsimp only
  iterate 50 all_goals try (first
    | with_reducible apply Frame.ite
    | with_reducible exact Frame.refl _ _ _
    | with_reducible apply frame_put
    | (with_reducible apply frame_raise_low; case hs => decide)
    | with_reducible apply Frame.foldlT
    | with_reducible assumption
    | (show (_ : Nat) = _; decide +kernel)
    | (show Nat.testBit _ _ = true; decide +kernel)
    | intro _
    | split)

theorem frame_recClear {P G : Nat} {s₀ s : State} (h₀ : Frame P G s₀ s) (all : Bool) (key : Byte) (hP : 0x1c40 &&& P = 0x1c40) (hG : 0x400c000000020 &&& G = 0x400c000000020) : Frame P G s₀ (State.recClear s all key) := by
  refine h₀.step (Q := 0x1c40) (H := 0x400c000000020) ?_ hP hG
  unfold State.recClear
  try dsimp only
  iterate 50 all_goals try (first
    | (simp only [Frame.mk_iff]; with_reducible apply FrameC.upd <;> first | with_reducible exact fun _ => rfl | exact fun h => absurd h (by decide +kernel) | with_reducible exact fun _ h => ⟨h, rfl, rfl⟩ | with_reducible exact fun _ _ _ => rfl | with_reducible exact id | with_reducible exact fun h _ => h | with_reducible exact fun _ h => h | skip)
    | with_reducible apply Frame.ite
    | with_reducible exact Frame.refl _ _ _
    | with_reducible apply frame_put
    | with_reducible apply frame_jAppend
    | with_reducible apply frame_clearRefused
    | with_reducible apply Frame.foldlT
    | with_reducible assumption
    | (show (_ : Nat) = _; decide +kernel)
    | (show Nat.testBit _ _ = true; decide +kernel)
    | intro _
    | split)

theorem frame_clearDone {P G : Nat} {s₀ s : State} (h₀ : Frame P G s₀ s) (c : ClearSt) (hP : 0x1c40 &&& P = 0x1c40) (hG : 0x400c000000020 &&& G = 0x400c000000020) : Frame P G s₀ (State.clearDone s c) := by
  refine h₀.step (Q := 0x1c40) (H := 0x400c000000020) ?_ hP hG
  unfold State.clearDone
  try dsimp only
  iterate 50 all_goals try (first
    | (simp only [Frame.mk_iff]; with_reducible apply FrameC.upd <;> first | with_reducible exact fun _ => rfl | exact fun h => absurd h (by decide +kernel) | with_reducible exact fun _ h => ⟨h, rfl, rfl⟩ | with_reducible exact fun _ _ _ => rfl | with_reducible exact id | with_reducible exact fun h _ => h | with_reducible exact fun _ h => h | skip)
    | with_reducible apply Frame.ite
    | with_reducible exact Frame.refl _ _ _
    | with_reducible apply frame_put
    | with_reducible apply frame_flag
    | with_reducible apply frame_flushKick
    | with_reducible apply frame_eraseSectors
    | with_reducible apply frame_jAppend
    | (with_reducible apply frame_raise_low; case hs => decide)
    | with_reducible apply Frame.foldlT
    | with_reducible assumption
    | (show (_ : Nat) = _; decide +kernel)
    | (show Nat.testBit _ _ = true; decide +kernel)
    | intro _
    | split)

theorem frame_recSnapshot {P G : Nat} {s₀ s : State} (h₀ : Frame P G s₀ s) (key : Byte) (hP : 0x1000 &&& P = 0x1000) (hG : 0xc000000020 &&& G = 0xc000000020) : Frame P G s₀ (State.recSnapshot s key) := by
  refine h₀.step (Q := 0x1000) (H := 0xc000000020) ?_ hP hG
  unfold State.recSnapshot
  try dsimp only
  iterate 50 all_goals try (first
    | with_reducible apply Frame.ite
    | with_reducible exact Frame.refl _ _ _
    | with_reducible apply frame_put
    | with_reducible apply frame_snapTrigger
    | with_reducible apply Frame.foldlT
    | with_reducible assumption
    | (show (_ : Nat) = _; decide +kernel)
    | (show Nat.testBit _ _ = true; decide +kernel)
    | intro _
    | split)

theorem frame_setCap {P G : Nat} {s₀ s : State} (h₀ : Frame P G s₀ s) (k : Fin 2) (c : Option Capture) (hP : 0x1000 &&& P = 0x1000) (hG : 0x0 &&& G = 0x0) : Frame P G s₀ (State.setCap s k c) := by
  refine h₀.step (Q := 0x1000) (H := 0x0) ?_ hP hG
  unfold State.setCap
  try dsimp only
  iterate 50 all_goals try (first
    | (simp only [Frame.mk_iff]; with_reducible apply FrameC.upd <;> first | with_reducible exact fun _ => rfl | exact fun h => absurd h (by decide +kernel) | with_reducible exact fun _ h => ⟨h, rfl, rfl⟩ | with_reducible exact fun _ _ _ => rfl | with_reducible exact id | with_reducible exact fun h _ => h | with_reducible exact fun _ h => h | skip)
    | with_reducible apply Frame.ite
    | with_reducible exact Frame.refl _ _ _
    | with_reducible apply Frame.foldlT
    | with_reducible assumption
    | (show (_ : Nat) = _; decide +kernel)
    | (show Nat.testBit _ _ = true; decide +kernel)
    | intro _
    | split)

theorem frame_snBusy {P G : Nat} {s₀ s : State} (h₀ : Frame P G s₀ s)  (hP : 0x0 &&& P = 0x0) (hG : 0x4000000000 &&& G = 0x4000000000) : Frame P G s₀ (State.snBusy s) := by
  refine h₀.step (Q := 0x0) (H := 0x4000000000) ?_ hP hG
  unfold State.snBusy
  try dsimp only
  iterate 50 all_goals try (first
    | with_reducible apply Frame.ite
    | with_reducible exact Frame.refl _ _ _
    | with_reducible apply frame_putB
    | with_reducible apply Frame.foldlT
    | with_reducible assumption
    | (show (_ : Nat) = _; decide +kernel)
    | (show Nat.testBit _ _ = true; decide +kernel)
    | intro _
    | split)

theorem frame_snapWritten {P G : Nat} {s₀ s : State} (h₀ : Frame P G s₀ s) (k : Fin 2) (c : Capture) (hP : 0x1c40 &&& P = 0x1c40) (hG : 0x400c000000020 &&& G = 0x400c000000020) : Frame P G s₀ (State.snapWritten s k c) := by
  refine h₀.step (Q := 0x1c40) (H := 0x400c000000020) ?_ hP hG
  unfold State.snapWritten
  try dsimp only
  iterate 50 all_goals try (first
    | (simp only [Frame.mk_iff]; with_reducible apply FrameC.upd <;> first | with_reducible exact fun _ => rfl | exact fun h => absurd h (by decide +kernel) | with_reducible exact fun _ h => ⟨h, rfl, rfl⟩ | with_reducible exact fun _ _ _ => rfl | with_reducible exact id | with_reducible exact fun h _ => h | with_reducible exact fun _ h => h | skip)
    | with_reducible apply Frame.ite
    | with_reducible exact Frame.refl _ _ _
    | with_reducible apply frame_put
    | with_reducible apply frame_flag
    | with_reducible apply frame_putBit
    | with_reducible apply frame_snapDropped
    | with_reducible apply frame_eraseSectors
    | (with_reducible apply frame_raise_low; case hs => decide)
    | with_reducible apply frame_setCap
    | with_reducible apply frame_snBusy
    | with_reducible apply Frame.foldlT
    | with_reducible assumption
    | (show (_ : Nat) = _; decide +kernel)
    | (show Nat.testBit _ _ = true; decide +kernel)
    | intro _
    | split)

theorem frame_tornSnaps {P G : Nat} {s₀ s : State} (h₀ : Frame P G s₀ s)  (hP : 0x1040 &&& P = 0x1040) (hG : 0xc000000020 &&& G = 0xc000000020) : Frame P G s₀ (State.tornSnaps s) := by
  refine h₀.step (Q := 0x1040) (H := 0xc000000020) ?_ hP hG
  unfold State.tornSnaps
  try dsimp only
  iterate 50 all_goals try (first
    | with_reducible apply Frame.ite
    | with_reducible exact Frame.refl _ _ _
    | (with_reducible apply frame_raise_low; case hs => decide)
    | with_reducible apply Frame.foldlT
    | with_reducible assumption
    | (show (_ : Nat) = _; decide +kernel)
    | (show Nat.testBit _ _ = true; decide +kernel)
    | intro _
    | split)

theorem frame_logScan {P G : Nat} {s₀ s : State} (h₀ : Frame P G s₀ s)  (hP : 0x1040 &&& P = 0x1040) (hG : 0xc000000020 &&& G = 0xc000000020) : Frame P G s₀ (State.logScan s) := by
  refine h₀.step (Q := 0x1040) (H := 0xc000000020) ?_ hP hG
  unfold State.logScan
  try dsimp only
  iterate 50 all_goals try (first
    | (simp only [Frame.mk_iff]; with_reducible apply FrameC.upd <;> first | with_reducible exact fun _ => rfl | exact fun h => absurd h (by decide +kernel) | with_reducible exact fun _ h => ⟨h, rfl, rfl⟩ | with_reducible exact fun _ _ _ => rfl | with_reducible exact id | with_reducible exact fun h _ => h | with_reducible exact fun _ h => h | skip)
    | with_reducible apply Frame.ite
    | with_reducible exact Frame.refl _ _ _
    | with_reducible apply frame_put
    | with_reducible apply frame_putB
    | (with_reducible apply frame_raise_low; case hs => decide)
    | with_reducible apply frame_tornSnaps
    | with_reducible apply Frame.foldlT
    | with_reducible assumption
    | (show (_ : Nat) = _; decide +kernel)
    | (show Nat.testBit _ _ = true; decide +kernel)
    | intro _
    | split)

theorem frame_logFetch {P G : Nat} {s₀ s : State} (h₀ : Frame P G s₀ s)  (hP : 0x1000 &&& P = 0x1000) (hG : 0x4000000000 &&& G = 0x4000000000) : Frame P G s₀ (State.logFetch s) := by
  refine h₀.step (Q := 0x1000) (H := 0x4000000000) ?_ hP hG
  unfold State.logFetch
  try dsimp only
  iterate 50 all_goals try (first
    | (simp only [Frame.mk_iff]; with_reducible apply FrameC.upd <;> first | with_reducible exact fun _ => rfl | exact fun h => absurd h (by decide +kernel) | with_reducible exact fun _ h => ⟨h, rfl, rfl⟩ | with_reducible exact fun _ _ _ => rfl | with_reducible exact id | with_reducible exact fun h _ => h | with_reducible exact fun _ h => h | skip)
    | with_reducible apply Frame.ite
    | with_reducible exact Frame.refl _ _ _
    | with_reducible apply frame_put
    | with_reducible apply Frame.foldlT
    | with_reducible assumption
    | (show (_ : Nat) = _; decide +kernel)
    | (show Nat.testBit _ _ = true; decide +kernel)
    | intro _
    | split)

theorem frame_logFetched {P G : Nat} {s₀ s : State} (h₀ : Frame P G s₀ s)  (hP : 0x1000 &&& P = 0x1000) (hG : 0x4000000000 &&& G = 0x4000000000) : Frame P G s₀ (State.logFetched s) := by
  refine h₀.step (Q := 0x1000) (H := 0x4000000000) ?_ hP hG
  unfold State.logFetched
  try dsimp only
  iterate 50 all_goals try (first
    | (simp only [Frame.mk_iff]; with_reducible apply FrameC.upd <;> first | with_reducible exact fun _ => rfl | exact fun h => absurd h (by decide +kernel) | with_reducible exact fun _ h => ⟨h, rfl, rfl⟩ | with_reducible exact fun _ _ _ => rfl | with_reducible exact id | with_reducible exact fun h _ => h | with_reducible exact fun _ h => h | skip)
    | with_reducible apply Frame.ite
    | with_reducible exact Frame.refl _ _ _
    | with_reducible apply frame_put
    | with_reducible apply Frame.foldlT
    | with_reducible assumption
    | (show (_ : Nat) = _; decide +kernel)
    | (show Nat.testBit _ _ = true; decide +kernel)
    | intro _
    | split)

theorem frame_logAdvance {P G : Nat} {s₀ s : State} (h₀ : Frame P G s₀ s)  (hP : 0x1000 &&& P = 0x1000) (hG : 0x4000000000 &&& G = 0x4000000000) : Frame P G s₀ (State.logAdvance s) := by
  refine h₀.step (Q := 0x1000) (H := 0x4000000000) ?_ hP hG
  unfold State.logAdvance
  try dsimp only
  iterate 50 all_goals try (first
    | (simp only [Frame.mk_iff]; with_reducible apply FrameC.upd <;> first | with_reducible exact fun _ => rfl | exact fun h => absurd h (by decide +kernel) | with_reducible exact fun _ h => ⟨h, rfl, rfl⟩ | with_reducible exact fun _ _ _ => rfl | with_reducible exact id | with_reducible exact fun h _ => h | with_reducible exact fun _ h => h | skip)
    | with_reducible apply Frame.ite
    | with_reducible exact Frame.refl _ _ _
    | with_reducible apply frame_put
    | with_reducible apply frame_logFetch
    | with_reducible apply Frame.foldlT
    | with_reducible assumption
    | (show (_ : Nat) = _; decide +kernel)
    | (show Nat.testBit _ _ = true; decide +kernel)
    | intro _
    | split)

theorem frame_snapFetched {P G : Nat} {s₀ s : State} (h₀ : Frame P G s₀ s)  (hP : 0x1000 &&& P = 0x1000) (hG : 0x0 &&& G = 0x0) : Frame P G s₀ (State.snapFetched s) := by
  refine h₀.step (Q := 0x1000) (H := 0x0) ?_ hP hG
  unfold State.snapFetched
  try dsimp only
  iterate 50 all_goals try (first
    | (simp only [Frame.mk_iff]; with_reducible apply FrameC.upd <;> first | with_reducible exact fun _ => rfl | exact fun h => absurd h (by decide +kernel) | with_reducible exact fun _ h => ⟨h, rfl, rfl⟩ | with_reducible exact fun _ _ _ => rfl | with_reducible exact id | with_reducible exact fun h _ => h | with_reducible exact fun _ h => h | skip)
    | with_reducible apply Frame.ite
    | with_reducible exact Frame.refl _ _ _
    | with_reducible apply Frame.foldlT
    | with_reducible assumption
    | (show (_ : Nat) = _; decide +kernel)
    | (show Nat.testBit _ _ = true; decide +kernel)
    | intro _
    | split)

end Sys2Proof.Laws
end

