-- ==== Sys2Proof/Laws/Frame5.lean ====
section
/-! SUPPORT. Frame laws: what each operation of these files of Machine/ can touch: Security, Modes, PortWrite, Calendar, PortRead, Ports, Thermal. -/

namespace Sys2Proof.Laws

open Sys2Proof Sys2Proof.Machine

set_option Elab.async false
set_option linter.all false

theorem frame_keyRefresh {P G : Nat} {s₀ s : State} (h₀ : Frame P G s₀ s)  (hP : 0x0 &&& P = 0x0) (hG : 0x4000000000000000 &&& G = 0x4000000000000000) : Frame P G s₀ (State.keyRefresh s) := by
  refine h₀.step (Q := 0x0) (H := 0x4000000000000000) ?_ hP hG
  unfold State.keyRefresh
  try dsimp only
  iterate 50 all_goals try (first
    | with_reducible apply Frame.ite
    | with_reducible exact Frame.refl _ _ _
    | with_reducible apply frame_put
    | with_reducible apply Frame.foldlT
    | with_reducible assumption
    | (show (_ : Nat) = _; decide +kernel)
    | (show Nat.testBit _ _ = true; decide +kernel)
    | intro _
    | split)

theorem frame_secRefuse {P G : Nat} {s₀ s : State} (h₀ : Frame P G s₀ s) (cmd res : Nat) (hP : 0x1040 &&& P = 0x1040) (hG : 0x400000c000000020 &&& G = 0x400000c000000020) : Frame P G s₀ (State.secRefuse s cmd res) := by
  refine h₀.step (Q := 0x1040) (H := 0x400000c000000020) ?_ hP hG
  unfold State.secRefuse
  try dsimp only
  iterate 50 all_goals try (first
    | with_reducible apply Frame.ite
    | with_reducible exact Frame.refl _ _ _
    | with_reducible apply frame_put
    | (with_reducible apply frame_raise_low; case hs => decide)
    | with_reducible apply Frame.foldlT
    | with_reducible assumption
    | (show (_ : Nat) = _; decide +kernel)
    | (show Nat.testBit _ _ = true; decide +kernel)
    | intro _
    | split)

theorem frame_secAccept {P G : Nat} {s₀ s : State} (h₀ : Frame P G s₀ s)  (hP : 0x0 &&& P = 0x0) (hG : 0x4000000000000000 &&& G = 0x4000000000000000) : Frame P G s₀ (State.secAccept s) := by
  refine h₀.step (Q := 0x0) (H := 0x4000000000000000) ?_ hP hG
  unfold State.secAccept
  try dsimp only
  iterate 50 all_goals try (first
    | with_reducible apply Frame.ite
    | with_reducible exact Frame.refl _ _ _
    | with_reducible apply frame_put
    | with_reducible apply Frame.foldlT
    | with_reducible assumption
    | (show (_ : Nat) = _; decide +kernel)
    | (show Nat.testBit _ _ = true; decide +kernel)
    | intro _
    | split)

theorem frame_secCommand {P G : Nat} {s₀ s : State} (h₀ : Frame P G s₀ s) (c : SecCmd) (cmd : Nat) (state auth : Bool) (f : State → State) (hP : 0x1040 &&& P = 0x1040) (hG : 0x400000c000000020 &&& G = 0x400000c000000020) (h_f : ∀ z, Frame P G z (f z)) : Frame P G s₀ (State.secCommand s c cmd state auth f) := by
  unfold State.secCommand
  try dsimp only
  iterate 70 all_goals try (first
    | (simp only [Frame.mk_iff]; with_reducible apply FrameC.upd <;> first | with_reducible exact fun _ => rfl | exact fun h => absurd h (by decide +kernel) | with_reducible exact fun _ h => ⟨h, rfl, rfl⟩ | with_reducible exact fun _ _ _ => rfl | with_reducible exact id | with_reducible exact fun h _ => h | with_reducible exact fun _ h => h | (with_reducible show (Nat.testBit _ _ = false → _); exact fun _ => rfl) | exact fun h => absurd (bit_of_land hP h) (by decide +kernel) | skip)
    | ((with_reducible show (_ → twinRest _ = twinRest _)); intro _; exact rfl)
    | ((with_reducible show (_ → posKept _ _)); intro _; split <;> split <;> exact fun h => ⟨h, rfl, rfl⟩)
    | ((with_reducible show (_ → posKept _ _)); intro _ h; exact ⟨h, rfl, rfl⟩)
    | ((with_reducible show (_ → posKept _ _)); intro _ h; exact absurd h ‹_›)
    | ((with_reducible show (_ → coreRest _ = coreRest _)); intro _; exact rfl)
    | with_reducible apply Frame.ite
    | with_reducible exact Frame.refl _ _ _
    | with_reducible apply frame_put
    | with_reducible apply frame_secRefuse
    | (refine Frame.trans ?_ (h_f _))
    | exact land_trans hP (by decide +kernel)
    | exact land_trans hG (by decide +kernel)
    | exact bit_mono hG (by decide +kernel)
    | exact bit_mono hP (by decide +kernel)
    | with_reducible apply Frame.foldlT
    | with_reducible assumption
    | (show (_ : Nat) = _; decide +kernel)
    | (show Nat.testBit _ _ = true; first | decide +kernel | exact allPages _)
    | with_reducible exact fun _ _ _ => rfl
    | (with_reducible show ∀ (_ : Field) (_ : Nat), _ → _; exact fun _ _ h => absurd (h.symm.trans (allPages _)) (by decide))
    | with_reducible apply fieldPut_wf
    | with_reducible apply copyFields_wf
    | with_reducible apply copyInsts_wf
    | with_reducible apply copyBay_wf
    | with_reducible apply copyAll_wf
    | with_reducible apply offered_wf
    | with_reducible refine foldl_wf (fun _ _ h => copyBay_wf h) ?_
    | (intro _ _; dsimp only)
    | intro _
    | split)

theorem frame_setLifecycle {P G : Nat} {s₀ s : State} (h₀ : Frame P G s₀ s) (lc : Nat) (atOnce : Bool) (hP : 0xc00061e78 &&& P = 0xc00061e78) (hG : 0x400500c000000024 &&& G = 0x400500c000000024) : Frame P G s₀ (State.setLifecycle s lc atOnce) := by
  refine h₀.step (Q := 0xc00061e78) (H := 0x400500c000000024) ?_ hP hG
  unfold State.setLifecycle
  try dsimp only
  iterate 50 all_goals try (first
    | (simp only [Frame.mk_iff]; with_reducible apply FrameC.upd <;> first | with_reducible exact fun _ => rfl | exact fun h => absurd h (by decide +kernel) | with_reducible exact fun _ h => ⟨h, rfl, rfl⟩ | with_reducible exact fun _ _ _ => rfl | with_reducible exact id | with_reducible exact fun h _ => h | with_reducible exact fun _ h => h | skip)
    | with_reducible apply Frame.ite
    | with_reducible exact Frame.refl _ _ _
    | with_reducible apply frame_put
    | with_reducible apply frame_flag
    | (with_reducible apply frame_raise_low; case hs => decide)
    | with_reducible apply frame_judgeSession
    | with_reducible apply frame_secAccept
    | with_reducible apply Frame.foldlT
    | with_reducible assumption
    | (show (_ : Nat) = _; decide +kernel)
    | (show Nat.testBit _ _ = true; decide +kernel)
    | intro _
    | split)

theorem frame_setKey {P G : Nat} {s₀ s : State} (h₀ : Frame P G s₀ s) (k : Nat) (v : KeySlot) (hP : 0x200 &&& P = 0x200) (hG : 0x4000000000000000 &&& G = 0x4000000000000000) : Frame P G s₀ (State.setKey s k v) := by
  refine h₀.step (Q := 0x200) (H := 0x4000000000000000) ?_ hP hG
  unfold State.setKey
  try dsimp only
  iterate 50 all_goals try (first
    | (simp only [Frame.mk_iff]; with_reducible apply FrameC.upd <;> first | with_reducible exact fun _ => rfl | exact fun h => absurd h (by decide +kernel) | with_reducible exact fun _ h => ⟨h, rfl, rfl⟩ | with_reducible exact fun _ _ _ => rfl | with_reducible exact id | with_reducible exact fun h _ => h | with_reducible exact fun _ h => h | skip)
    | with_reducible apply Frame.ite
    | with_reducible exact Frame.refl _ _ _
    | with_reducible apply frame_keyRefresh
    | with_reducible apply Frame.foldlT
    | with_reducible assumption
    | (show (_ : Nat) = _; decide +kernel)
    | (show Nat.testBit _ _ = true; decide +kernel)
    | intro _
    | split)

theorem frame_keyProg {P G : Nat} {s₀ s : State} (h₀ : Frame P G s₀ s) (k : Nat) (hP : 0x1240 &&& P = 0x1240) (hG : 0x400000c000000020 &&& G = 0x400000c000000020) : Frame P G s₀ (State.keyProg s k) := by
  refine h₀.step (Q := 0x1240) (H := 0x400000c000000020) ?_ hP hG
  unfold State.keyProg
  try dsimp only
  iterate 50 all_goals try (first
    | with_reducible apply Frame.ite
    | with_reducible exact Frame.refl _ _ _
    | with_reducible apply frame_flag
    | (with_reducible apply frame_raise_low; case hs => decide)
    | with_reducible apply frame_secRefuse
    | with_reducible apply frame_secAccept
    | with_reducible apply frame_setKey
    | with_reducible apply Frame.foldlT
    | with_reducible assumption
    | (show (_ : Nat) = _; decide +kernel)
    | (show Nat.testBit _ _ = true; decide +kernel)
    | intro _
    | split)

theorem frame_keyRevoke {P G : Nat} {s₀ s : State} (h₀ : Frame P G s₀ s) (k : Nat) (hP : 0xc00061e78 &&& P = 0xc00061e78) (hG : 0x400500c000000024 &&& G = 0x400500c000000024) : Frame P G s₀ (State.keyRevoke s k) := by
  refine h₀.step (Q := 0xc00061e78) (H := 0x400500c000000024) ?_ hP hG
  unfold State.keyRevoke
  try dsimp only
  iterate 50 all_goals try (first
    | with_reducible apply Frame.ite
    | with_reducible exact Frame.refl _ _ _
    | with_reducible apply frame_flag
    | (with_reducible apply frame_raise_low; case hs => decide)
    | with_reducible apply frame_endToken
    | with_reducible apply frame_secRefuse
    | with_reducible apply frame_secAccept
    | with_reducible apply frame_setKey
    | with_reducible apply Frame.foldlT
    | with_reducible assumption
    | (show (_ : Nat) = _; decide +kernel)
    | (show Nat.testBit _ _ = true; decide +kernel)
    | intro _
    | split)

theorem frame_secProvision {P G : Nat} {s₀ s : State} (h₀ : Frame P G s₀ s) (c : SecCmd) (hP : 0xc00061e78 &&& P = 0xc00061e78) (hG : 0x400500c000000024 &&& G = 0x400500c000000024) : Frame P G s₀ (State.secProvision s c) := by
  refine h₀.step (Q := 0xc00061e78) (H := 0x400500c000000024) ?_ hP hG
  unfold State.secProvision
  try dsimp only
  iterate 50 all_goals try (first
    | with_reducible apply Frame.ite
    | with_reducible exact Frame.refl _ _ _
    | with_reducible apply frame_secCommand
    | with_reducible apply frame_setLifecycle
    | with_reducible apply Frame.foldlT
    | with_reducible assumption
    | (show (_ : Nat) = _; decide +kernel)
    | (show Nat.testBit _ _ = true; decide +kernel)
    | intro _
    | split)

theorem frame_secDeploy {P G : Nat} {s₀ s : State} (h₀ : Frame P G s₀ s) (c : SecCmd) (hP : 0xc00061e78 &&& P = 0xc00061e78) (hG : 0x400500c000000024 &&& G = 0x400500c000000024) : Frame P G s₀ (State.secDeploy s c) := by
  refine h₀.step (Q := 0xc00061e78) (H := 0x400500c000000024) ?_ hP hG
  unfold State.secDeploy
  try dsimp only
  iterate 50 all_goals try (first
    | with_reducible apply Frame.ite
    | with_reducible exact Frame.refl _ _ _
    | with_reducible apply frame_secCommand
    | with_reducible apply frame_setLifecycle
    | with_reducible apply Frame.foldlT
    | with_reducible assumption
    | (show (_ : Nat) = _; decide +kernel)
    | (show Nat.testBit _ _ = true; decide +kernel)
    | intro _
    | split)

theorem frame_secRma {P G : Nat} {s₀ s : State} (h₀ : Frame P G s₀ s) (c : SecCmd) (hP : 0xc00061e78 &&& P = 0xc00061e78) (hG : 0x400500c000000024 &&& G = 0x400500c000000024) : Frame P G s₀ (State.secRma s c) := by
  refine h₀.step (Q := 0xc00061e78) (H := 0x400500c000000024) ?_ hP hG
  unfold State.secRma
  try dsimp only
  iterate 50 all_goals try (first
    | with_reducible apply Frame.ite
    | with_reducible exact Frame.refl _ _ _
    | with_reducible apply frame_secCommand
    | with_reducible apply frame_setLifecycle
    | with_reducible apply Frame.foldlT
    | with_reducible assumption
    | (show (_ : Nat) = _; decide +kernel)
    | (show Nat.testBit _ _ = true; decide +kernel)
    | intro _
    | split)

theorem frame_secKeyprog {P G : Nat} {s₀ s : State} (h₀ : Frame P G s₀ s) (c : SecCmd) (hP : 0x1240 &&& P = 0x1240) (hG : 0x400000c000000020 &&& G = 0x400000c000000020) : Frame P G s₀ (State.secKeyprog s c) := by
  refine h₀.step (Q := 0x1240) (H := 0x400000c000000020) ?_ hP hG
  unfold State.secKeyprog
  try dsimp only
  iterate 50 all_goals try (first
    | with_reducible apply Frame.ite
    | with_reducible exact Frame.refl _ _ _
    | with_reducible apply frame_secCommand
    | with_reducible apply frame_keyProg
    | with_reducible apply Frame.foldlT
    | with_reducible assumption
    | (show (_ : Nat) = _; decide +kernel)
    | (show Nat.testBit _ _ = true; decide +kernel)
    | intro _
    | split)

theorem frame_secRevoke {P G : Nat} {s₀ s : State} (h₀ : Frame P G s₀ s) (c : SecCmd) (hP : 0xc00061e78 &&& P = 0xc00061e78) (hG : 0x400500c000000024 &&& G = 0x400500c000000024) : Frame P G s₀ (State.secRevoke s c) := by
  refine h₀.step (Q := 0xc00061e78) (H := 0x400500c000000024) ?_ hP hG
  unfold State.secRevoke
  try dsimp only
  iterate 50 all_goals try (first
    | with_reducible apply Frame.ite
    | with_reducible exact Frame.refl _ _ _
    | with_reducible apply frame_secCommand
    | with_reducible apply frame_keyRevoke
    | with_reducible apply Frame.foldlT
    | with_reducible assumption
    | (show (_ : Nat) = _; decide +kernel)
    | (show Nat.testBit _ _ = true; decide +kernel)
    | intro _
    | split)

theorem frame_doHalt {P G : Nat} {s₀ s : State} (h₀ : Frame P G s₀ s)  (hP : 0x800001040 &&& P = 0x800001040) (hG : 0x400000c000000020 &&& G = 0x400000c000000020) : Frame P G s₀ (State.doHalt s) := by
  refine h₀.step (Q := 0x800001040) (H := 0x400000c000000020) ?_ hP hG
  unfold State.doHalt
  try dsimp only
  iterate 70 all_goals try (first
    | (simp only [Frame.mk_iff]; with_reducible apply FrameC.upd <;> first | with_reducible exact fun _ => rfl | exact fun h => absurd h (by decide +kernel) | with_reducible exact fun _ h => ⟨h, rfl, rfl⟩ | with_reducible exact fun _ _ _ => rfl | with_reducible exact id | with_reducible exact fun h _ => h | with_reducible exact fun _ h => h | (with_reducible show (Nat.testBit _ _ = false → _); exact fun _ => rfl) | skip)
    | ((with_reducible show (_ → twinRest _ = twinRest _)); intro _; exact rfl)
    | ((with_reducible show (_ → posKept _ _)); intro _; split <;> split <;> exact fun h => ⟨h, rfl, rfl⟩)
    | ((with_reducible show (_ → posKept _ _)); intro _ h; exact ⟨h, rfl, rfl⟩)
    | ((with_reducible show (_ → posKept _ _)); intro _ h; exact absurd h ‹_›)
    | ((with_reducible show (_ → coreRest _ = coreRest _)); intro _; exact rfl)
    | with_reducible apply Frame.ite
    | with_reducible exact Frame.refl _ _ _
    | with_reducible apply frame_put
    | with_reducible apply frame_flag
    | (with_reducible apply frame_raise_low; case hs => decide)
    | with_reducible apply frame_secAccept
    | with_reducible apply Frame.foldlT
    | with_reducible assumption
    | (show (_ : Nat) = _; decide +kernel)
    | (show Nat.testBit _ _ = true; first | decide +kernel | exact allPages _)
    | with_reducible exact fun _ _ _ => rfl
    | (with_reducible show ∀ (_ : Field) (_ : Nat), _ → _; exact fun _ _ h => absurd (h.symm.trans (allPages _)) (by decide))
    | with_reducible apply fieldPut_wf
    | with_reducible apply copyFields_wf
    | with_reducible apply copyInsts_wf
    | with_reducible apply copyBay_wf
    | with_reducible apply copyAll_wf
    | with_reducible apply offered_wf
    | with_reducible refine foldl_wf (fun _ _ h => copyBay_wf h) ?_
    | (intro _ _; dsimp only)
    | intro _
    | split)

theorem frame_secHalt {P G : Nat} {s₀ s : State} (h₀ : Frame P G s₀ s) (c : SecCmd) (hP : 0x800001040 &&& P = 0x800001040) (hG : 0x400000c000000020 &&& G = 0x400000c000000020) : Frame P G s₀ (State.secHalt s c) := by
  refine h₀.step (Q := 0x800001040) (H := 0x400000c000000020) ?_ hP hG
  unfold State.secHalt
  try dsimp only
  iterate 50 all_goals try (first
    | with_reducible apply Frame.ite
    | with_reducible exact Frame.refl _ _ _
    | with_reducible apply frame_secCommand
    | with_reducible apply frame_doHalt
    | with_reducible apply Frame.foldlT
    | with_reducible assumption
    | (show (_ : Nat) = _; decide +kernel)
    | (show Nat.testBit _ _ = true; decide +kernel)
    | intro _
    | split)

theorem frame_secDebugResume {P G : Nat} {s₀ s : State} (h₀ : Frame P G s₀ s) (c : SecCmd) (hP : 0xc00041c78 &&& P = 0xc00041c78) (hG : 0x400500c000000024 &&& G = 0x400500c000000024) : Frame P G s₀ (State.secDebugResume s c) := by
  refine h₀.step (Q := 0xc00041c78) (H := 0x400500c000000024) ?_ hP hG
  unfold State.secDebugResume
  try dsimp only
  iterate 50 all_goals try (first
    | with_reducible apply Frame.ite
    | with_reducible exact Frame.refl _ _ _
    | with_reducible apply frame_endHalt
    | with_reducible apply frame_secAccept
    | with_reducible apply frame_secCommand
    | with_reducible apply Frame.foldlT
    | with_reducible assumption
    | (show (_ : Nat) = _; decide +kernel)
    | (show Nat.testBit _ _ = true; decide +kernel)
    | intro _
    | split)

theorem frame_patternOn {P G : Nat} {s₀ s : State} (h₀ : Frame P G s₀ s) (ch duty : Nat) (hP : 0x21040 &&& P = 0x21040) (hG : 0x400000c000000020 &&& G = 0x400000c000000020) : Frame P G s₀ (State.patternOn s ch duty) := by
  refine h₀.step (Q := 0x21040) (H := 0x400000c000000020) ?_ hP hG
  unfold State.patternOn
  try dsimp only
  iterate 50 all_goals try (first
    | (simp only [Frame.mk_iff]; with_reducible apply FrameC.upd <;> first | with_reducible exact fun _ => rfl | exact fun h => absurd h (by decide +kernel) | with_reducible exact fun _ h => ⟨h, rfl, rfl⟩ | with_reducible exact fun _ _ _ => rfl | with_reducible exact id | with_reducible exact fun h _ => h | with_reducible exact fun _ h => h | skip)
    | with_reducible apply Frame.ite
    | with_reducible exact Frame.refl _ _ _
    | with_reducible apply frame_put
    | (with_reducible apply frame_raise_low; case hs => decide)
    | with_reducible apply frame_secRefuse
    | with_reducible apply frame_secAccept
    | with_reducible apply Frame.foldlT
    | with_reducible assumption
    | (show (_ : Nat) = _; decide +kernel)
    | (show Nat.testBit _ _ = true; decide +kernel)
    | intro _
    | split)

theorem frame_secTpOn {P G : Nat} {s₀ s : State} (h₀ : Frame P G s₀ s) (c : SecCmd) (hP : 0x21040 &&& P = 0x21040) (hG : 0x400000c000000020 &&& G = 0x400000c000000020) : Frame P G s₀ (State.secTpOn s c) := by
  refine h₀.step (Q := 0x21040) (H := 0x400000c000000020) ?_ hP hG
  unfold State.secTpOn
  try dsimp only
  iterate 50 all_goals try (first
    | with_reducible apply Frame.ite
    | with_reducible exact Frame.refl _ _ _
    | with_reducible apply frame_secCommand
    | with_reducible apply frame_patternOn
    | with_reducible apply Frame.foldlT
    | with_reducible assumption
    | (show (_ : Nat) = _; decide +kernel)
    | (show Nat.testBit _ _ = true; decide +kernel)
    | intro _
    | split)

theorem frame_secTpOff {P G : Nat} {s₀ s : State} (h₀ : Frame P G s₀ s) (c : SecCmd) (hP : 0x21040 &&& P = 0x21040) (hG : 0x400000c000000020 &&& G = 0x400000c000000020) : Frame P G s₀ (State.secTpOff s c) := by
  refine h₀.step (Q := 0x21040) (H := 0x400000c000000020) ?_ hP hG
  unfold State.secTpOff
  try dsimp only
  iterate 50 all_goals try (first
    | with_reducible apply Frame.ite
    | with_reducible exact Frame.refl _ _ _
    | with_reducible apply frame_endPattern
    | with_reducible apply frame_secAccept
    | with_reducible apply frame_secCommand
    | with_reducible apply Frame.foldlT
    | with_reducible assumption
    | (show (_ : Nat) = _; decide +kernel)
    | (show Nat.testBit _ _ = true; decide +kernel)
    | intro _
    | split)

theorem frame_secDropToken {P G : Nat} {s₀ s : State} (h₀ : Frame P G s₀ s) (c : SecCmd) (hP : 0xc00061c78 &&& P = 0xc00061c78) (hG : 0x400500c000000024 &&& G = 0x400500c000000024) : Frame P G s₀ (State.secDropToken s c) := by
  refine h₀.step (Q := 0xc00061c78) (H := 0x400500c000000024) ?_ hP hG
  unfold State.secDropToken
  try dsimp only
  iterate 50 all_goals try (first
    | with_reducible apply Frame.ite
    | with_reducible exact Frame.refl _ _ _
    | with_reducible apply frame_endToken
    | with_reducible apply frame_secAccept
    | with_reducible apply frame_secCommand
    | with_reducible apply Frame.foldlT
    | with_reducible assumption
    | (show (_ : Nat) = _; decide +kernel)
    | (show Nat.testBit _ _ = true; decide +kernel)
    | intro _
    | split)

theorem frame_tokenSubmit {P G : Nat} {s₀ s : State} (h₀ : Frame P G s₀ s) (p : PortId) (d : List Byte) (hP : 0x20000 &&& P = 0x20000) (hG : 0x4000000000000000 &&& G = 0x4000000000000000) : Frame P G s₀ (State.tokenSubmit s p d) := by
  refine h₀.step (Q := 0x20000) (H := 0x4000000000000000) ?_ hP hG
  unfold State.tokenSubmit
  try dsimp only
  iterate 50 all_goals try (first
    | (simp only [Frame.mk_iff]; with_reducible apply FrameC.upd <;> first | with_reducible exact fun _ => rfl | exact fun h => absurd h (by decide +kernel) | with_reducible exact fun _ h => ⟨h, rfl, rfl⟩ | with_reducible exact fun _ _ _ => rfl | with_reducible exact id | with_reducible exact fun h _ => h | with_reducible exact fun _ h => h | skip)
    | with_reducible apply Frame.ite
    | with_reducible exact Frame.refl _ _ _
    | with_reducible apply frame_put
    | with_reducible apply Frame.foldlT
    | with_reducible assumption
    | (show (_ : Nat) = _; decide +kernel)
    | (show Nat.testBit _ _ = true; decide +kernel)
    | intro _
    | split)

theorem frame_tokenVerified {P G : Nat} {s₀ s : State} (h₀ : Frame P G s₀ s) (v : Verifying) (hP : 0xc00061c78 &&& P = 0xc00061c78) (hG : 0x400500c000000024 &&& G = 0x400500c000000024) : Frame P G s₀ (State.tokenVerified s v) := by
  refine h₀.step (Q := 0xc00061c78) (H := 0x400500c000000024) ?_ hP hG
  unfold State.tokenVerified
  try dsimp only
  iterate 50 all_goals try (first
    | (simp only [Frame.mk_iff]; with_reducible apply FrameC.upd <;> first | with_reducible exact fun _ => rfl | exact fun h => absurd h (by decide +kernel) | with_reducible exact fun _ h => ⟨h, rfl, rfl⟩ | with_reducible exact fun _ _ _ => rfl | with_reducible exact id | with_reducible exact fun h _ => h | with_reducible exact fun _ h => h | skip)
    | with_reducible apply Frame.ite
    | with_reducible exact Frame.refl _ _ _
    | with_reducible apply frame_put
    | with_reducible apply frame_flag
    | (with_reducible apply frame_raise_low; case hs => decide)
    | with_reducible apply frame_judgeSession
    | with_reducible apply Frame.foldlT
    | with_reducible assumption
    | (show (_ : Nat) = _; decide +kernel)
    | (show Nat.testBit _ _ = true; decide +kernel)
    | intro _
    | split)

theorem frame_debugRequest {P G : Nat} {s₀ s : State} (h₀ : Frame P G s₀ s) (level : Nat) (hP : 0xc00061c78 &&& P = 0xc00061c78) (hG : 0x400500c000000024 &&& G = 0x400500c000000024) : Frame P G s₀ (State.debugRequest s level) := by
  refine h₀.step (Q := 0xc00061c78) (H := 0x400500c000000024) ?_ hP hG
  unfold State.debugRequest
  try dsimp only
  iterate 50 all_goals try (first
    | with_reducible apply Frame.ite
    | with_reducible exact Frame.refl _ _ _
    | with_reducible apply frame_put
    | with_reducible apply frame_flag
    | (with_reducible apply frame_raise_low; case hs => decide)
    | with_reducible apply frame_endSession
    | with_reducible apply Frame.foldlT
    | with_reducible assumption
    | (show (_ : Nat) = _; decide +kernel)
    | (show Nat.testBit _ _ = true; decide +kernel)
    | intro _
    | split)

theorem frame_bootWake {P G : Nat} {s₀ s : State} (h₀ : Frame P G s₀ s) (b : BootIn) (hP : 0x8000011e0 &&& P = 0x8000011e0) (hG : 0x10400c400000024 &&& G = 0x10400c400000024) : Frame P G s₀ (State.bootWake s b) := by
  refine h₀.step (Q := 0x8000011e0) (H := 0x10400c400000024) ?_ hP hG
  unfold State.bootWake
  try dsimp only
  iterate 50 all_goals try (first
    | (simp only [Frame.mk_iff]; with_reducible apply FrameC.upd <;> first | with_reducible exact fun _ => rfl | exact fun h => absurd h (by decide +kernel) | with_reducible exact fun _ h => ⟨h, rfl, rfl⟩ | with_reducible exact fun _ _ _ => rfl | with_reducible exact id | with_reducible exact fun h _ => h | with_reducible exact fun _ h => h | skip)
    | with_reducible apply Frame.ite
    | with_reducible exact Frame.refl _ _ _
    | with_reducible apply frame_put
    | with_reducible apply frame_putB
    | (with_reducible apply frame_raise_low; case hs => decide)
    | with_reducible apply Frame.foldlT
    | with_reducible assumption
    | (show (_ : Nat) = _; decide +kernel)
    | (show Nat.testBit _ _ = true; decide +kernel)
    | intro _
    | split)

theorem frame_keyFaults {P G : Nat} {s₀ s : State} (h₀ : Frame P G s₀ s) (mask : Nat) (hP : 0x1240 &&& P = 0x1240) (hG : 0x400000c000000020 &&& G = 0x400000c000000020) : Frame P G s₀ (State.keyFaults s mask) := by
  refine h₀.step (Q := 0x1240) (H := 0x400000c000000020) ?_ hP hG
  unfold State.keyFaults
  try dsimp only
  iterate 50 all_goals try (first
    | with_reducible apply Frame.ite
    | with_reducible exact Frame.refl _ _ _
    | (with_reducible apply frame_raise_low; case hs => decide)
    | with_reducible apply frame_setKey
    | with_reducible apply Frame.foldlT
    | with_reducible assumption
    | (show (_ : Nat) = _; decide +kernel)
    | (show Nat.testBit _ _ = true; decide +kernel)
    | intro _
    | split)

theorem frame_bootRead {P G : Nat} {s₀ s : State} (h₀ : Frame P G s₀ s) (b : BootIn) (hP : 0x400141e78 &&& P = 0x400141e78) (hG : 0x400500c000000025 &&& G = 0x400500c000000025) : Frame P G s₀ (State.bootRead s b) := by
  refine h₀.step (Q := 0x400141e78) (H := 0x400500c000000025) ?_ hP hG
  unfold State.bootRead
  try dsimp only
  iterate 50 all_goals try (first
    | (simp only [Frame.mk_iff]; with_reducible apply FrameC.upd <;> first | with_reducible exact fun _ => rfl | exact fun h => absurd h (by decide +kernel) | with_reducible exact fun _ h => ⟨h, rfl, rfl⟩ | with_reducible exact fun _ _ _ => rfl | with_reducible exact id | with_reducible exact fun h _ => h | with_reducible exact fun _ h => h | skip)
    | with_reducible apply Frame.ite
    | with_reducible exact Frame.refl _ _ _
    | with_reducible apply frame_put
    | with_reducible apply frame_putB
    | (with_reducible apply frame_raise_low; case hs => decide)
    | with_reducible apply frame_raise
    | with_reducible apply frame_bdRefresh
    | with_reducible apply frame_keyRefresh
    | with_reducible apply frame_keyFaults
    | with_reducible apply Frame.foldlT
    | with_reducible assumption
    | (show (_ : Nat) = _; decide +kernel)
    | (show Nat.testBit _ _ = true; decide +kernel)
    | intro _
    | split)

theorem frame_bootPins {P G : Nat} {s₀ s : State} (h₀ : Frame P G s₀ s) (b : BootIn) (hP : 0x20800000 &&& P = 0x20800000) (hG : 0x8000000 &&& G = 0x8000000) : Frame P G s₀ (State.bootPins s b) := by
  refine h₀.step (Q := 0x20800000) (H := 0x8000000) ?_ hP hG
  unfold State.bootPins
  try dsimp only
  iterate 50 all_goals try (first
    | (simp only [Frame.mk_iff]; with_reducible apply FrameC.upd <;> first | with_reducible exact fun _ => rfl | exact fun h => absurd h (by decide +kernel) | with_reducible exact fun _ h => ⟨h, rfl, rfl⟩ | with_reducible exact fun _ _ _ => rfl | with_reducible exact id | with_reducible exact fun h _ => h | with_reducible exact fun _ h => h | skip)
    | with_reducible apply Frame.ite
    | with_reducible exact Frame.refl _ _ _
    | with_reducible apply frame_putBit
    | with_reducible apply frame_setBay
    | with_reducible apply frame_setStr
    | with_reducible apply Frame.foldlT
    | with_reducible assumption
    | (show (_ : Nat) = _; decide +kernel)
    | (show Nat.testBit _ _ = true; decide +kernel)
    | intro _
    | split)

theorem frame_firstMode {P G : Nat} {s₀ s : State} (h₀ : Frame P G s₀ s)  (hP : 0xd67ce1c78 &&& P = 0xd67ce1c78) (hG : 0x400500c10db30024 &&& G = 0x400500c10db30024) : Frame P G s₀ (State.firstMode s) := by
  refine h₀.step (Q := 0xd67ce1c78) (H := 0x400500c10db30024) ?_ hP hG
  unfold State.firstMode
  try dsimp only
  iterate 50 all_goals try (first
    | with_reducible apply Frame.ite
    | with_reducible exact Frame.refl _ _ _
    | with_reducible apply frame_put
    | with_reducible apply frame_changeMode
    | with_reducible apply frame_enterTadpole
    | with_reducible apply Frame.foldlT
    | with_reducible assumption
    | (show (_ : Nat) = _; decide +kernel)
    | (show Nat.testBit _ _ = true; decide +kernel)
    | intro _
    | split)

theorem frame_loadInShadow {P G : Nat} {s₀ s : State} (h₀ : Frame P G s₀ s)  (hP : 0x400040038 &&& P = 0x400040038) (hG : 0x1000000000000 &&& G = 0x1000000000000) : Frame P G s₀ (State.loadInShadow s) := by
  refine h₀.step (Q := 0x400040038) (H := 0x1000000000000) ?_ hP hG
  unfold State.loadInShadow
  try dsimp only
  iterate 50 all_goals try (first
    | with_reducible apply Frame.ite
    | with_reducible exact Frame.refl _ _ _
    | with_reducible apply frame_loadStart
    | with_reducible apply Frame.foldlT
    | with_reducible assumption
    | (show (_ : Nat) = _; decide +kernel)
    | (show Nat.testBit _ _ = true; decide +kernel)
    | intro _
    | split)

theorem frame_probationHere {P G : Nat} {s₀ s : State} (h₀ : Frame P G s₀ s)  (hP : 0x20 &&& P = 0x20) (hG : 0x4 &&& G = 0x4) : Frame P G s₀ (State.probationHere s) := by
  refine h₀.step (Q := 0x20) (H := 0x4) ?_ hP hG
  unfold State.probationHere
  try dsimp only
  iterate 50 all_goals try (first
    | (simp only [Frame.mk_iff]; with_reducible apply FrameC.upd <;> first | with_reducible exact fun _ => rfl | exact fun h => absurd h (by decide +kernel) | with_reducible exact fun _ h => ⟨h, rfl, rfl⟩ | with_reducible exact fun _ _ _ => rfl | with_reducible exact id | with_reducible exact fun h _ => h | with_reducible exact fun _ h => h | skip)
    | with_reducible apply Frame.ite
    | with_reducible exact Frame.refl _ _ _
    | with_reducible apply frame_put
    | with_reducible apply Frame.foldlT
    | with_reducible assumption
    | (show (_ : Nat) = _; decide +kernel)
    | (show Nat.testBit _ _ = true; decide +kernel)
    | intro _
    | split)

theorem frame_crystalActs {P G : Nat} {s₀ s : State} (h₀ : Frame P G s₀ s)  (hP : 0xde7de1c78 &&& P = 0xde7de1c78) (hG : 0x401500c11db30024 &&& G = 0x401500c11db30024) : Frame P G s₀ (State.crystalActs s) := by
  refine h₀.step (Q := 0xde7de1c78) (H := 0x401500c11db30024) ?_ hP hG
  unfold State.crystalActs
  try dsimp only
  iterate 50 all_goals try (first
    | with_reducible apply Frame.ite
    | with_reducible exact Frame.refl _ _ _
    | with_reducible apply frame_yield
    | with_reducible apply frame_enterTadpole
    | with_reducible apply frame_loadInShadow
    | with_reducible apply frame_probationHere
    | with_reducible apply Frame.foldlT
    | with_reducible assumption
    | (show (_ : Nat) = _; decide +kernel)
    | (show Nat.testBit _ _ = true; decide +kernel)
    | intro _
    | split)

theorem frame_digestLoad {P G : Nat} {s₀ s : State} (h₀ : Frame P G s₀ s)  (hP : 0x400041078 &&& P = 0x400041078) (hG : 0x100c000000020 &&& G = 0x100c000000020) : Frame P G s₀ (State.digestLoad s) := by
  refine h₀.step (Q := 0x400041078) (H := 0x100c000000020) ?_ hP hG
  unfold State.digestLoad
  try dsimp only
  iterate 50 all_goals try (first
    | (simp only [Frame.mk_iff]; with_reducible apply FrameC.upd <;> first | with_reducible exact fun _ => rfl | exact fun h => absurd h (by decide +kernel) | with_reducible exact fun _ h => ⟨h, rfl, rfl⟩ | with_reducible exact fun _ _ _ => rfl | with_reducible exact id | with_reducible exact fun h _ => h | with_reducible exact fun _ h => h | skip)
    | with_reducible apply Frame.ite
    | with_reducible exact Frame.refl _ _ _
    | with_reducible apply frame_loadStart
    | (with_reducible apply frame_raise_low; case hs => decide)
    | with_reducible apply Frame.foldlT
    | with_reducible assumption
    | (show (_ : Nat) = _; decide +kernel)
    | (show Nat.testBit _ _ = true; decide +kernel)
    | intro _
    | split)

theorem frame_loadAgain {P G : Nat} {s₀ s : State} (h₀ : Frame P G s₀ s)  (hP : 0x40020 &&& P = 0x40020) (hG : 0x0 &&& G = 0x0) : Frame P G s₀ (State.loadAgain s) := by
  refine h₀.step (Q := 0x40020) (H := 0x0) ?_ hP hG
  unfold State.loadAgain
  try dsimp only
  iterate 50 all_goals try (first
    | (simp only [Frame.mk_iff]; with_reducible apply FrameC.upd <;> first | with_reducible exact fun _ => rfl | exact fun h => absurd h (by decide +kernel) | with_reducible exact fun _ h => ⟨h, rfl, rfl⟩ | with_reducible exact fun _ _ _ => rfl | with_reducible exact id | with_reducible exact fun h _ => h | with_reducible exact fun _ h => h | skip)
    | with_reducible apply Frame.ite
    | with_reducible exact Frame.refl _ _ _
    | with_reducible apply Frame.foldlT
    | with_reducible assumption
    | (show (_ : Nat) = _; decide +kernel)
    | (show Nat.testBit _ _ = true; decide +kernel)
    | intro _
    | split)

theorem frame_restartEnd {P G : Nat} {s₀ s : State} (h₀ : Frame P G s₀ s) (digestOk : Bool) (hP : 0xc00141c78 &&& P = 0xc00141c78) (hG : 0x1500c000000024 &&& G = 0x1500c000000024) : Frame P G s₀ (State.restartEnd s digestOk) := by
  refine h₀.step (Q := 0xc00141c78) (H := 0x1500c000000024) ?_ hP hG
  unfold State.restartEnd
  try dsimp only
  iterate 50 all_goals try (first
    | (simp only [Frame.mk_iff]; with_reducible apply FrameC.upd <;> first | with_reducible exact fun _ => rfl | exact fun h => absurd h (by decide +kernel) | with_reducible exact fun _ h => ⟨h, rfl, rfl⟩ | with_reducible exact fun _ _ _ => rfl | with_reducible exact id | with_reducible exact fun h _ => h | with_reducible exact fun _ h => h | skip)
    | with_reducible apply Frame.ite
    | with_reducible exact Frame.refl _ _ _
    | with_reducible apply frame_bump
    | (with_reducible apply frame_raise_low; case hs => decide)
    | with_reducible apply frame_raise
    | with_reducible apply frame_supResume
    | with_reducible apply frame_healthRefresh
    | with_reducible apply frame_probationHere
    | with_reducible apply frame_digestLoad
    | with_reducible apply frame_loadAgain
    | with_reducible apply Frame.foldlT
    | with_reducible assumption
    | (show (_ : Nat) = _; decide +kernel)
    | (show Nat.testBit _ _ = true; decide +kernel)
    | intro _
    | split)

theorem frame_urgentRec {P G : Nat} {s₀ s : State} (h₀ : Frame P G s₀ s) (r : EventRec) (hP : 0x1440 &&& P = 0x1440) (hG : 0xc000000020 &&& G = 0xc000000020) : Frame P G s₀ (State.urgentRec s r) := by
  refine h₀.step (Q := 0x1440) (H := 0xc000000020) ?_ hP hG
  unfold State.urgentRec
  try dsimp only
  iterate 50 all_goals try (first
    | (simp only [Frame.mk_iff]; with_reducible apply FrameC.upd <;> first | with_reducible exact fun _ => rfl | exact fun h => absurd h (by decide +kernel) | with_reducible exact fun _ h => ⟨h, rfl, rfl⟩ | with_reducible exact fun _ _ _ => rfl | with_reducible exact id | with_reducible exact fun h _ => h | with_reducible exact fun _ h => h | skip)
    | with_reducible apply Frame.ite
    | with_reducible exact Frame.refl _ _ _
    | with_reducible apply frame_put
    | with_reducible apply frame_toFirst
    | with_reducible apply Frame.foldlT
    | with_reducible assumption
    | (show (_ : Nat) = _; decide +kernel)
    | (show Nat.testBit _ _ = true; decide +kernel)
    | intro _
    | split)

theorem frame_urgentFlush {P G : Nat} {s₀ s : State} (h₀ : Frame P G s₀ s)  (hP : 0x1444 &&& P = 0x1444) (hG : 0xc000000020 &&& G = 0xc000000020) : Frame P G s₀ (State.urgentFlush s) := by
  refine h₀.step (Q := 0x1444) (H := 0xc000000020) ?_ hP hG
  unfold State.urgentFlush
  try dsimp only
  iterate 50 all_goals try (first
    | (simp only [Frame.mk_iff]; with_reducible apply FrameC.upd <;> first | with_reducible exact fun _ => rfl | exact fun h => absurd h (by decide +kernel) | with_reducible exact fun _ h => ⟨h, rfl, rfl⟩ | with_reducible exact fun _ _ _ => rfl | with_reducible exact id | with_reducible exact fun h _ => h | with_reducible exact fun _ h => h | skip)
    | with_reducible apply Frame.ite
    | with_reducible exact Frame.refl _ _ _
    | with_reducible apply frame_put
    | (refine frame_takeFree_of ‹_› ?_ ?_ ?_)
    | with_reducible apply frame_takeFree
    | with_reducible apply frame_urgentRec
    | with_reducible apply Frame.foldlT
    | with_reducible assumption
    | (show (_ : Nat) = _; decide +kernel)
    | (show Nat.testBit _ _ = true; decide +kernel)
    | intro _
    | split)

theorem frame_powerFailWrites {P G : Nat} {s₀ s : State} (h₀ : Frame P G s₀ s)  (hP : 0x1c00 &&& P = 0x1c00) (hG : 0x400c000000020 &&& G = 0x400c000000020) : Frame P G s₀ (State.powerFailWrites s) := by
  refine h₀.step (Q := 0x1c00) (H := 0x400c000000020) ?_ hP hG
  unfold State.powerFailWrites
  try dsimp only
  iterate 50 all_goals try (first
    | (simp only [Frame.mk_iff]; with_reducible apply FrameC.upd <;> first | with_reducible exact fun _ => rfl | exact fun h => absurd h (by decide +kernel) | with_reducible exact fun _ h => ⟨h, rfl, rfl⟩ | with_reducible exact fun _ _ _ => rfl | with_reducible exact id | with_reducible exact fun h _ => h | with_reducible exact fun _ h => h | skip)
    | with_reducible apply Frame.ite
    | with_reducible exact Frame.refl _ _ _
    | with_reducible apply frame_put
    | with_reducible apply frame_jAppend
    | with_reducible apply Frame.foldlT
    | with_reducible assumption
    | (show (_ : Nat) = _; decide +kernel)
    | (show Nat.testBit _ _ = true; decide +kernel)
    | intro _
    | split)

theorem frame_modeRefuse {P G : Nat} {s₀ s : State} (h₀ : Frame P G s₀ s) (cmd res : Nat) (hP : 0x1040 &&& P = 0x1040) (hG : 0xc000000024 &&& G = 0xc000000024) : Frame P G s₀ (State.modeRefuse s cmd res) := by
  refine h₀.step (Q := 0x1040) (H := 0xc000000024) ?_ hP hG
  unfold State.modeRefuse
  try dsimp only
  iterate 50 all_goals try (first
    | with_reducible apply Frame.ite
    | with_reducible exact Frame.refl _ _ _
    | with_reducible apply frame_put
    | (with_reducible apply frame_raise_low; case hs => decide)
    | with_reducible apply Frame.foldlT
    | with_reducible assumption
    | (show (_ : Nat) = _; decide +kernel)
    | (show Nat.testBit _ _ = true; decide +kernel)
    | intro _
    | split)

theorem frame_modeCommand {P G : Nat} {s₀ s : State} (h₀ : Frame P G s₀ s) (key : Byte) (f : State → State) (hP : 0x0 &&& P = 0x0) (hG : 0x4 &&& G = 0x4) (h_f : ∀ z, Frame P G z (f z)) : Frame P G s₀ (State.modeCommand s key f) := by
  unfold State.modeCommand
  try dsimp only
  iterate 70 all_goals try (first
    | (simp only [Frame.mk_iff]; with_reducible apply FrameC.upd <;> first | with_reducible exact fun _ => rfl | exact fun h => absurd h (by decide +kernel) | with_reducible exact fun _ h => ⟨h, rfl, rfl⟩ | with_reducible exact fun _ _ _ => rfl | with_reducible exact id | with_reducible exact fun h _ => h | with_reducible exact fun _ h => h | (with_reducible show (Nat.testBit _ _ = false → _); exact fun _ => rfl) | exact fun h => absurd (bit_of_land hP h) (by decide +kernel) | skip)
    | ((with_reducible show (_ → twinRest _ = twinRest _)); intro _; exact rfl)
    | ((with_reducible show (_ → posKept _ _)); intro _; split <;> split <;> exact fun h => ⟨h, rfl, rfl⟩)
    | ((with_reducible show (_ → posKept _ _)); intro _ h; exact ⟨h, rfl, rfl⟩)
    | ((with_reducible show (_ → posKept _ _)); intro _ h; exact absurd h ‹_›)
    | ((with_reducible show (_ → coreRest _ = coreRest _)); intro _; exact rfl)
    | with_reducible apply Frame.ite
    | with_reducible exact Frame.refl _ _ _
    | with_reducible apply frame_put
    | (refine Frame.trans ?_ (h_f _))
    | exact land_trans hP (by decide +kernel)
    | exact land_trans hG (by decide +kernel)
    | exact bit_mono hG (by decide +kernel)
    | exact bit_mono hP (by decide +kernel)
    | with_reducible apply Frame.foldlT
    | with_reducible assumption
    | (show (_ : Nat) = _; decide +kernel)
    | (show Nat.testBit _ _ = true; first | decide +kernel | exact allPages _)
    | with_reducible exact fun _ _ _ => rfl
    | (with_reducible show ∀ (_ : Field) (_ : Nat), _ → _; exact fun _ _ h => absurd (h.symm.trans (allPages _)) (by decide))
    | with_reducible apply fieldPut_wf
    | with_reducible apply copyFields_wf
    | with_reducible apply copyInsts_wf
    | with_reducible apply copyBay_wf
    | with_reducible apply copyAll_wf
    | with_reducible apply offered_wf
    | with_reducible refine foldl_wf (fun _ _ h => copyBay_wf h) ?_
    | (intro _ _; dsimp only)
    | intro _
    | split)

theorem frame_reload {P G : Nat} {s₀ s : State} (h₀ : Frame P G s₀ s)  (hP : 0x400041078 &&& P = 0x400041078) (hG : 0x100c000000024 &&& G = 0x100c000000024) : Frame P G s₀ (State.reload s) := by
  refine h₀.step (Q := 0x400041078) (H := 0x100c000000024) ?_ hP hG
  unfold State.reload
  try dsimp only
  iterate 50 all_goals try (first
    | with_reducible apply Frame.ite
    | with_reducible exact Frame.refl _ _ _
    | with_reducible apply frame_put
    | with_reducible apply frame_scheduleLoad
    | with_reducible apply frame_modeRefuse
    | with_reducible apply Frame.foldlT
    | with_reducible assumption
    | (show (_ : Nat) = _; decide +kernel)
    | (show Nat.testBit _ _ = true; decide +kernel)
    | intro _
    | split)

theorem frame_revert {P G : Nat} {s₀ s : State} (h₀ : Frame P G s₀ s)  (hP : 0x400041c78 &&& P = 0x400041c78) (hG : 0x500c000000024 &&& G = 0x500c000000024) : Frame P G s₀ (State.revert s) := by
  refine h₀.step (Q := 0x400041c78) (H := 0x500c000000024) ?_ hP hG
  unfold State.revert
  try dsimp only
  iterate 50 all_goals try (first
    | with_reducible apply Frame.ite
    | with_reducible exact Frame.refl _ _ _
    | with_reducible apply frame_put
    | with_reducible apply frame_scheduleLoad
    | with_reducible apply frame_revertRefused
    | with_reducible apply frame_revertGo
    | with_reducible apply frame_modeRefuse
    | with_reducible apply Frame.foldlT
    | with_reducible assumption
    | (show (_ : Nat) = _; decide +kernel)
    | (show Nat.testBit _ _ = true; decide +kernel)
    | intro _
    | split)

theorem frame_lockoutCommand {P G : Nat} {s₀ s : State} (h₀ : Frame P G s₀ s)  (hP : 0xc64161c78 &&& P = 0xc64161c78) (hG : 0x401500c009800024 &&& G = 0x401500c009800024) : Frame P G s₀ (State.lockoutCommand s) := by
  refine h₀.step (Q := 0xc64161c78) (H := 0x401500c009800024) ?_ hP hG
  unfold State.lockoutCommand
  try dsimp only
  iterate 50 all_goals try (first
    | with_reducible apply Frame.ite
    | with_reducible exact Frame.refl _ _ _
    | with_reducible apply frame_put
    | with_reducible apply frame_enterLockout
    | with_reducible apply Frame.foldlT
    | with_reducible assumption
    | (show (_ : Nat) = _; decide +kernel)
    | (show Nat.testBit _ _ = true; decide +kernel)
    | intro _
    | split)

theorem frame_resumeCommand {P G : Nat} {s₀ s : State} (h₀ : Frame P G s₀ s)  (hP : 0xd67ce1c78 &&& P = 0xd67ce1c78) (hG : 0x400500c10db30024 &&& G = 0x400500c10db30024) : Frame P G s₀ (State.resumeCommand s) := by
  refine h₀.step (Q := 0xd67ce1c78) (H := 0x400500c10db30024) ?_ hP hG
  unfold State.resumeCommand
  try dsimp only
  iterate 50 all_goals try (first
    | with_reducible apply Frame.ite
    | with_reducible exact Frame.refl _ _ _
    | with_reducible apply frame_put
    | with_reducible apply frame_resume
    | with_reducible apply frame_modeRefuse
    | with_reducible apply Frame.foldlT
    | with_reducible assumption
    | (show (_ : Nat) = _; decide +kernel)
    | (show Nat.testBit _ _ = true; decide +kernel)
    | intro _
    | split)

theorem frame_shipBegin {P G : Nat} {s₀ s : State} (h₀ : Frame P G s₀ s)  (hP : 0xc00061c78 &&& P = 0xc00061c78) (hG : 0x400500c000000024 &&& G = 0x400500c000000024) : Frame P G s₀ (State.shipBegin s) := by
  refine h₀.step (Q := 0xc00061c78) (H := 0x400500c000000024) ?_ hP hG
  unfold State.shipBegin
  try dsimp only
  iterate 50 all_goals try (first
    | (simp only [Frame.mk_iff]; with_reducible apply FrameC.upd <;> first | with_reducible exact fun _ => rfl | exact fun h => absurd h (by decide +kernel) | with_reducible exact fun _ h => ⟨h, rfl, rfl⟩ | with_reducible exact fun _ _ _ => rfl | with_reducible exact id | with_reducible exact fun h _ => h | with_reducible exact fun _ h => h | skip)
    | with_reducible apply Frame.ite
    | with_reducible exact Frame.refl _ _ _
    | with_reducible apply frame_put
    | with_reducible apply frame_flushKick
    | (with_reducible apply frame_raise4_low; case hs => decide)
    | with_reducible apply frame_endSession
    | with_reducible apply Frame.foldlT
    | with_reducible assumption
    | (show (_ : Nat) = _; decide +kernel)
    | (show Nat.testBit _ _ = true; decide +kernel)
    | intro _
    | split)

theorem frame_shipCommand {P G : Nat} {s₀ s : State} (h₀ : Frame P G s₀ s)  (hP : 0xc00061c78 &&& P = 0xc00061c78) (hG : 0x400500c000000024 &&& G = 0x400500c000000024) : Frame P G s₀ (State.shipCommand s) := by
  refine h₀.step (Q := 0xc00061c78) (H := 0x400500c000000024) ?_ hP hG
  unfold State.shipCommand
  try dsimp only
  iterate 50 all_goals try (first
    | with_reducible apply Frame.ite
    | with_reducible exact Frame.refl _ _ _
    | with_reducible apply frame_modeRefuse
    | with_reducible apply frame_shipBegin
    | with_reducible apply Frame.foldlT
    | with_reducible assumption
    | (show (_ : Nat) = _; decide +kernel)
    | (show Nat.testBit _ _ = true; decide +kernel)
    | intro _
    | split)

theorem frame_shipSeal {P G : Nat} {s₀ s : State} (h₀ : Frame P G s₀ s)  (hP : 0x23c01160 &&& P = 0x23c01160) (hG : 0xc108030020 &&& G = 0xc108030020) : Frame P G s₀ (State.shipSeal s) := by
  refine h₀.step (Q := 0x23c01160) (H := 0xc108030020) ?_ hP hG
  unfold State.shipSeal
  try dsimp only
  iterate 50 all_goals try (first
    | (simp only [Frame.mk_iff]; with_reducible apply FrameC.upd <;> first | with_reducible exact fun _ => rfl | exact fun h => absurd h (by decide +kernel) | with_reducible exact fun _ h => ⟨h, rfl, rfl⟩ | with_reducible exact fun _ _ _ => rfl | with_reducible exact id | with_reducible exact fun h _ => h | with_reducible exact fun _ h => h | skip)
    | with_reducible apply Frame.ite
    | with_reducible exact Frame.refl _ _ _
    | with_reducible apply frame_openReq
    | with_reducible apply frame_allWarm
    | with_reducible apply frame_chargeStops
    | with_reducible apply Frame.foldlT
    | with_reducible assumption
    | (show (_ : Nat) = _; decide +kernel)
    | (show Nat.testBit _ _ = true; decide +kernel)
    | intro _
    | split)

theorem frame_noteRefusal {P G : Nat} {s₀ s : State} (h₀ : Frame P G s₀ s) (page off : Nat) (hP : 0x41040 &&& P = 0x41040) (hG : 0x100c000000020 &&& G = 0x100c000000020) : Frame P G s₀ (State.noteRefusal s page off) := by
  refine h₀.step (Q := 0x41040) (H := 0x100c000000020) ?_ hP hG
  unfold State.noteRefusal
  try dsimp only
  iterate 50 all_goals try (first
    | (simp only [Frame.mk_iff]; with_reducible apply FrameC.upd <;> first | with_reducible exact fun _ => rfl | exact fun h => absurd h (by decide +kernel) | with_reducible exact fun _ h => ⟨h, rfl, rfl⟩ | with_reducible exact fun _ _ _ => rfl | with_reducible exact id | with_reducible exact fun h _ => h | with_reducible exact fun _ h => h | skip)
    | with_reducible apply Frame.ite
    | with_reducible exact Frame.refl _ _ _
    | with_reducible apply frame_put
    | with_reducible apply frame_flag
    | with_reducible apply frame_bump
    | (with_reducible apply frame_raise_low; case hs => decide)
    | with_reducible apply Frame.foldlT
    | with_reducible assumption
    | (show (_ : Nat) = _; decide +kernel)
    | (show Nat.testBit _ _ = true; decide +kernel)
    | intro _
    | split)

theorem frame_standbyRefused {P G : Nat} {s₀ s : State} (h₀ : Frame P G s₀ s) (page off : Nat) (hP : 0x1040 &&& P = 0x1040) (hG : 0x1000c000000020 &&& G = 0x1000c000000020) : Frame P G s₀ (State.standbyRefused s page off) := by
  refine h₀.step (Q := 0x1040) (H := 0x1000c000000020) ?_ hP hG
  unfold State.standbyRefused
  try dsimp only
  iterate 50 all_goals try (first
    | with_reducible apply Frame.ite
    | with_reducible exact Frame.refl _ _ _
    | with_reducible apply frame_flag
    | (with_reducible apply frame_raise_low; case hs => decide)
    | with_reducible apply Frame.foldlT
    | with_reducible assumption
    | (show (_ : Nat) = _; decide +kernel)
    | (show Nat.testBit _ _ = true; decide +kernel)
    | intro _
    | split)

theorem frame_glCommand {P G : Nat} {s₀ s : State} (h₀ : Frame P G s₀ s) (v : Nat) (hP : 0xd67de1c78 &&& P = 0xd67de1c78) (hG : 0x401500c10db30024 &&& G = 0x401500c10db30024) : Frame P G s₀ (State.glCommand s v) := by
  refine h₀.step (Q := 0xd67de1c78) (H := 0x401500c10db30024) ?_ hP hG
  unfold State.glCommand
  try dsimp only
  iterate 50 all_goals try (first
    | with_reducible apply Frame.ite
    | with_reducible exact Frame.refl _ _ _
    | with_reducible apply frame_modeCommand
    | with_reducible apply frame_reload
    | with_reducible apply frame_revert
    | with_reducible apply frame_lockoutCommand
    | with_reducible apply frame_resumeCommand
    | with_reducible apply frame_shipCommand
    | with_reducible apply Frame.foldlT
    | with_reducible assumption
    | (show (_ : Nat) = _; decide +kernel)
    | (show Nat.testBit _ _ = true; decide +kernel)
    | intro _
    | split)

theorem frame_recCommand {P G : Nat} {s₀ s : State} (h₀ : Frame P G s₀ s) (v : Nat) (hP : 0x1c40 &&& P = 0x1c40) (hG : 0x400c000000020 &&& G = 0x400c000000020) : Frame P G s₀ (State.recCommand s v) := by
  refine h₀.step (Q := 0x1c40) (H := 0x400c000000020) ?_ hP hG
  unfold State.recCommand
  try dsimp only
  iterate 50 all_goals try (first
    | with_reducible apply Frame.ite
    | with_reducible exact Frame.refl _ _ _
    | with_reducible apply frame_put
    | with_reducible apply frame_recFlush
    | with_reducible apply frame_recClear
    | with_reducible apply frame_recSnapshot
    | with_reducible apply Frame.foldlT
    | with_reducible assumption
    | (show (_ : Nat) = _; decide +kernel)
    | (show Nat.testBit _ _ = true; decide +kernel)
    | intro _
    | split)

theorem frame_imgCommand {P G : Nat} {s₀ s : State} (h₀ : Frame P G s₀ s) (v : Nat) (hP : 0x41c40 &&& P = 0x41c40) (hG : 0x500c000000020 &&& G = 0x500c000000020) : Frame P G s₀ (State.imgCommand s v) := by
  refine h₀.step (Q := 0x41c40) (H := 0x500c000000020) ?_ hP hG
  unfold State.imgCommand
  try dsimp only
  iterate 50 all_goals try (first
    | with_reducible apply Frame.ite
    | with_reducible exact Frame.refl _ _ _
    | with_reducible apply frame_upCommand
    | with_reducible apply frame_uploadOpen
    | with_reducible apply frame_uploadClose
    | with_reducible apply frame_uploadAbort
    | with_reducible apply Frame.foldlT
    | with_reducible assumption
    | (show (_ : Nat) = _; decide +kernel)
    | (show Nat.testBit _ _ = true; decide +kernel)
    | intro _
    | split)

theorem frame_pinCmd {P G : Nat} {s₀ s : State} (h₀ : Frame P G s₀ s) (v : Nat) (hP : 0x1c40 &&& P = 0x1c40) (hG : 0x500c000000020 &&& G = 0x500c000000020) : Frame P G s₀ (State.pinCmd s v) := by
  refine h₀.step (Q := 0x1c40) (H := 0x500c000000020) ?_ hP hG
  unfold State.pinCmd
  try dsimp only
  iterate 50 all_goals try (first
    | with_reducible apply Frame.ite
    | with_reducible exact Frame.refl _ _ _
    | with_reducible apply frame_pinSet
    | with_reducible apply frame_pinClear
    | with_reducible apply frame_pinClearAll
    | with_reducible apply frame_pinCommand
    | with_reducible apply Frame.foldlT
    | with_reducible assumption
    | (show (_ : Nat) = _; decide +kernel)
    | (show Nat.testBit _ _ = true; decide +kernel)
    | intro _
    | split)

theorem frame_twnCommand {P G : Nat} {s₀ s : State} (h₀ : Frame P G s₀ s) (v : Nat) (hP : 0xcc0161c78 &&& P = 0xcc0161c78) (hG : 0x401500c010000024 &&& G = 0x401500c010000024) : Frame P G s₀ (State.twnCommand s v) := by
  refine h₀.step (Q := 0xcc0161c78) (H := 0x401500c010000024) ?_ hP hG
  unfold State.twnCommand
  try dsimp only
  iterate 50 all_goals try (first
    | with_reducible apply Frame.ite
    | with_reducible exact Frame.refl _ _ _
    | with_reducible apply frame_twinCommand
    | with_reducible apply frame_switchover
    | with_reducible apply frame_resync
    | with_reducible apply Frame.foldlT
    | with_reducible assumption
    | (show (_ : Nat) = _; decide +kernel)
    | (show Nat.testBit _ _ = true; decide +kernel)
    | intro _
    | split)

theorem frame_bstCommand {P G : Nat} {s₀ s : State} (h₀ : Frame P G s₀ s) (k v : Nat) (hP : 0x20001040 &&& P = 0x20001040) (hG : 0xc008000020 &&& G = 0xc008000020) : Frame P G s₀ (State.bstCommand s k v) := by
  refine h₀.step (Q := 0x20001040) (H := 0xc008000020) ?_ hP hG
  unfold State.bstCommand
  try dsimp only
  iterate 50 all_goals try (first
    | with_reducible apply Frame.ite
    | with_reducible exact Frame.refl _ _ _
    | with_reducible apply frame_putAt
    | with_reducible apply frame_strStart
    | with_reducible apply frame_strStop
    | with_reducible apply frame_strClear
    | with_reducible apply Frame.foldlT
    | with_reducible assumption
    | (show (_ : Nat) = _; decide +kernel)
    | (show Nat.testBit _ _ = true; decide +kernel)
    | intro _
    | split)

theorem frame_secWrite {P G : Nat} {s₀ s : State} (h₀ : Frame P G s₀ s) (p : PortId) (v : Nat) (hP : 0xc00061e78 &&& P = 0xc00061e78) (hG : 0x400500c000000024 &&& G = 0x400500c000000024) : Frame P G s₀ (State.secWrite s p v) := by
  refine h₀.step (Q := 0xc00061e78) (H := 0x400500c000000024) ?_ hP hG
  unfold State.secWrite
  try dsimp only
  iterate 50 all_goals try (first
    | with_reducible apply Frame.ite
    | with_reducible exact Frame.refl _ _ _
    | with_reducible apply frame_put
    | with_reducible apply frame_secProvision
    | with_reducible apply frame_secDeploy
    | with_reducible apply frame_secRma
    | with_reducible apply frame_secKeyprog
    | with_reducible apply frame_secRevoke
    | with_reducible apply frame_secHalt
    | with_reducible apply frame_secDebugResume
    | with_reducible apply frame_secTpOn
    | with_reducible apply frame_secTpOff
    | with_reducible apply frame_secDropToken
    | with_reducible apply Frame.foldlT
    | with_reducible assumption
    | (show (_ : Nat) = _; decide +kernel)
    | (show Nat.testBit _ _ = true; decide +kernel)
    | intro _
    | split)

theorem frame_woWrite {P G : Nat} {s₀ s : State} (h₀ : Frame P G s₀ s) (p : PortId) (f : Field) (i v : Nat) (hP : 0xde7de3e78 &&& P = 0xde7de3e78) (hG : 0xffffffffffffffff &&& G = 0xffffffffffffffff) : Frame P G s₀ (State.woWrite s p f i v) := by
  refine h₀.step (Q := 0xde7de3e78) (H := 0xffffffffffffffff) ?_ hP hG
  unfold State.woWrite
  try dsimp only
  iterate 70 all_goals try (first
    | (simp only [Frame.mk_iff]; with_reducible apply FrameC.upd <;> first | with_reducible exact fun _ => rfl | exact fun h => absurd h (by decide +kernel) | with_reducible exact fun _ h => ⟨h, rfl, rfl⟩ | with_reducible exact fun _ _ _ => rfl | with_reducible exact id | with_reducible exact fun h _ => h | with_reducible exact fun _ h => h | (with_reducible show (Nat.testBit _ _ = false → _); exact fun _ => rfl) | skip)
    | ((with_reducible show (_ → twinRest _ = twinRest _)); intro _; exact rfl)
    | ((with_reducible show (_ → posKept _ _)); intro _; split <;> split <;> exact fun h => ⟨h, rfl, rfl⟩)
    | ((with_reducible show (_ → posKept _ _)); intro _ h; exact ⟨h, rfl, rfl⟩)
    | ((with_reducible show (_ → posKept _ _)); intro _ h; exact absurd h ‹_›)
    | ((with_reducible show (_ → coreRest _ = coreRest _)); intro _; exact rfl)
    | with_reducible apply Frame.ite
    | with_reducible exact Frame.refl _ _ _
    | with_reducible apply frame_put
    | with_reducible apply frame_putAt
    | with_reducible apply frame_stageByte
    | with_reducible apply frame_spCommand
    | with_reducible apply frame_trimReset
    | with_reducible apply frame_leShctl
    | with_reducible apply frame_feClear
    | with_reducible apply frame_fusClr
    | with_reducible apply frame_icComplete
    | with_reducible apply frame_debugRequest
    | with_reducible apply frame_glCommand
    | with_reducible apply frame_recCommand
    | with_reducible apply frame_imgCommand
    | with_reducible apply frame_pinCmd
    | with_reducible apply frame_twnCommand
    | with_reducible apply frame_bstCommand
    | with_reducible apply frame_secWrite
    | with_reducible apply Frame.foldlT
    | with_reducible assumption
    | (show (_ : Nat) = _; decide +kernel)
    | (show Nat.testBit _ _ = true; first | decide +kernel | exact allPages _)
    | with_reducible exact fun _ _ _ => rfl
    | (with_reducible show ∀ (_ : Field) (_ : Nat), _ → _; exact fun _ _ h => absurd (h.symm.trans (allPages _)) (by decide))
    | with_reducible apply fieldPut_wf
    | with_reducible apply copyFields_wf
    | with_reducible apply copyInsts_wf
    | with_reducible apply copyBay_wf
    | with_reducible apply copyAll_wf
    | with_reducible apply offered_wf
    | with_reducible refine foldl_wf (fun _ _ h => copyBay_wf h) ?_
    | (intro _ _; dsimp only)
    | intro _
    | split)

theorem frame_tellField {P G : Nat} {s₀ s : State} (h₀ : Frame P G s₀ s) (f : Field) (i v : Nat) (hP : 0x200004 &&& P = 0x200004) (hG : 0x0 &&& G = 0x0) : Frame P G s₀ (State.tellField s f i v) := by
  refine h₀.step (Q := 0x200004) (H := 0x0) ?_ hP hG
  unfold State.tellField
  try dsimp only
  iterate 50 all_goals try (first
    | with_reducible apply Frame.ite
    | with_reducible exact Frame.refl _ _ _
    | with_reducible apply frame_sendReg
    | with_reducible apply Frame.foldlT
    | with_reducible assumption
    | (show (_ : Nat) = _; decide +kernel)
    | (show Nat.testBit _ _ = true; decide +kernel)
    | intro _
    | split)

theorem frame_liveWrite {P G : Nat} {s₀ s : State} (h₀ : Frame P G s₀ s) (p : PortId) (f : Field) (i v : Nat) (hP : 0x80221144 &&& P = 0x80221144) (hG : 0xffffffffffffffff &&& G = 0xffffffffffffffff) : Frame P G s₀ (State.liveWrite s p f i v) := by
  refine h₀.step (Q := 0x80221144) (H := 0xffffffffffffffff) ?_ hP hG
  unfold State.liveWrite
  try dsimp only
  iterate 70 all_goals try (first
    | (simp only [Frame.mk_iff]; with_reducible apply FrameC.upd <;> first | with_reducible exact fun _ => rfl | exact fun h => absurd h (by decide +kernel) | with_reducible exact fun _ h => ⟨h, rfl, rfl⟩ | with_reducible exact fun _ _ _ => rfl | with_reducible exact id | with_reducible exact fun h _ => h | with_reducible exact fun _ h => h | (with_reducible show (Nat.testBit _ _ = false → _); exact fun _ => rfl) | skip)
    | ((with_reducible show (_ → twinRest _ = twinRest _)); intro _; exact rfl)
    | ((with_reducible show (_ → posKept _ _)); intro _; split <;> split <;> exact fun h => ⟨h, rfl, rfl⟩)
    | ((with_reducible show (_ → posKept _ _)); intro _ h; exact ⟨h, rfl, rfl⟩)
    | ((with_reducible show (_ → posKept _ _)); intro _ h; exact absurd h ‹_›)
    | ((with_reducible show (_ → coreRest _ = coreRest _)); intro _; exact rfl)
    | with_reducible apply Frame.ite
    | with_reducible exact Frame.refl _ _ _
    | with_reducible apply frame_put
    | with_reducible apply frame_putAt
    | with_reducible apply frame_ridxWrite
    | with_reducible apply frame_logFetch
    | with_reducible apply frame_tellField
    | with_reducible apply Frame.foldlT
    | with_reducible assumption
    | (show (_ : Nat) = _; decide +kernel)
    | (show Nat.testBit _ _ = true; first | decide +kernel | exact allPages _)
    | with_reducible exact fun _ _ _ => rfl
    | (with_reducible show ∀ (_ : Field) (_ : Nat), _ → _; exact fun _ _ h => absurd (h.symm.trans (allPages _)) (by decide))
    | with_reducible apply fieldPut_wf
    | with_reducible apply copyFields_wf
    | with_reducible apply copyInsts_wf
    | with_reducible apply copyBay_wf
    | with_reducible apply copyAll_wf
    | with_reducible apply offered_wf
    | with_reducible refine foldl_wf (fun _ _ h => copyBay_wf h) ?_
    | (intro _ _; dsimp only)
    | intro _
    | split)

theorem frame_shadowWrite {P G : Nat} {s₀ s : State} (h₀ : Frame P G s₀ s) (f : Field) (i v : Nat) (hP : 0x40020105c &&& P = 0x40020105c) (hG : 0xc003000020 &&& G = 0xc003000020) : Frame P G s₀ (State.shadowWrite s f i v) := by
  refine h₀.step (Q := 0x40020105c) (H := 0xc003000020) ?_ hP hG
  unfold State.shadowWrite
  try dsimp only
  iterate 50 all_goals try (first
    | with_reducible apply Frame.ite
    | with_reducible exact Frame.refl _ _ _
    | with_reducible apply frame_putShad
    | with_reducible apply frame_touch
    | with_reducible apply frame_contractWrite
    | with_reducible apply frame_tellField
    | with_reducible apply Frame.foldlT
    | with_reducible assumption
    | (show (_ : Nat) = _; decide +kernel)
    | (show Nat.testBit _ _ = true; decide +kernel)
    | intro _
    | split)

theorem frame_delayed {P G : Nat} {s₀ s : State} (h₀ : Frame P G s₀ s) (p : PortId) (w : Buffered) (hP : 0xde7fe3f7c &&& P = 0xde7fe3f7c) (hG : 0xffffffffffffffff &&& G = 0xffffffffffffffff) : Frame P G s₀ (State.delayed p s w) := by
  refine h₀.step (Q := 0xde7fe3f7c) (H := 0xffffffffffffffff) ?_ hP hG
  unfold State.delayed
  try dsimp only
  iterate 50 all_goals try (first
    | with_reducible apply Frame.ite
    | with_reducible exact Frame.refl _ _ _
    | with_reducible apply frame_woWrite
    | with_reducible apply frame_liveWrite
    | with_reducible apply frame_shadowWrite
    | with_reducible apply Frame.foldlT
    | with_reducible assumption
    | (show (_ : Nat) = _; decide +kernel)
    | (show Nat.testBit _ _ = true; decide +kernel)
    | intro _
    | split)

theorem frame_onPort {P G : Nat} {s₀ s : State} (h₀ : Frame P G s₀ s) (p : PortId) (g : Port → Port) (hP : 0x1c000 &&& P = 0x1c000) (hG : 0x0 &&& G = 0x0) : Frame P G s₀ (State.onPort s p g) := by
  refine h₀.step (Q := 0x1c000) (H := 0x0) ?_ hP hG
  unfold State.onPort
  try dsimp only
  iterate 50 all_goals try (first
    | with_reducible apply Frame.ite
    | with_reducible exact Frame.refl _ _ _
    | with_reducible apply frame_setPort
    | with_reducible apply Frame.foldlT
    | with_reducible assumption
    | (show (_ : Nat) = _; decide +kernel)
    | (show Nat.testBit _ _ = true; decide +kernel)
    | intro _
    | split)

theorem frame_fieldWrite {P G : Nat} {s₀ s : State} (h₀ : Frame P G s₀ s) (p : PortId) (f : Field) (i v : Nat) (hP : 0xde7ffff7c &&& P = 0xde7ffff7c) (hG : 0xffffffffffffffff &&& G = 0xffffffffffffffff) : Frame P G s₀ (State.fieldWrite s p f i v) := by
  refine h₀.step (Q := 0xde7ffff7c) (H := 0xffffffffffffffff) ?_ hP hG
  unfold State.fieldWrite
  try dsimp only
  iterate 70 all_goals try (first
    | (simp only [Frame.mk_iff]; with_reducible apply FrameC.upd <;> first | with_reducible exact fun _ => rfl | exact fun h => absurd h (by decide +kernel) | with_reducible exact fun _ h => ⟨h, rfl, rfl⟩ | with_reducible exact fun _ _ _ => rfl | with_reducible exact id | with_reducible exact fun h _ => h | with_reducible exact fun _ h => h | (with_reducible show (Nat.testBit _ _ = false → _); exact fun _ => rfl) | skip)
    | ((with_reducible show (_ → twinRest _ = twinRest _)); intro _; exact rfl)
    | ((with_reducible show (_ → posKept _ _)); intro _; split <;> split <;> exact fun h => ⟨h, rfl, rfl⟩)
    | ((with_reducible show (_ → posKept _ _)); intro _ h; exact ⟨h, rfl, rfl⟩)
    | ((with_reducible show (_ → posKept _ _)); intro _ h; exact absurd h ‹_›)
    | ((with_reducible show (_ → coreRest _ = coreRest _)); intro _; exact rfl)
    | with_reducible apply Frame.ite
    | with_reducible exact Frame.refl _ _ _
    | with_reducible apply frame_putAt
    | with_reducible apply frame_woWrite
    | with_reducible apply frame_liveWrite
    | with_reducible apply frame_onPort
    | with_reducible apply Frame.foldlT
    | with_reducible assumption
    | (show (_ : Nat) = _; decide +kernel)
    | (show Nat.testBit _ _ = true; first | decide +kernel | exact allPages _)
    | with_reducible exact fun _ _ _ => rfl
    | (with_reducible show ∀ (_ : Field) (_ : Nat), _ → _; exact fun _ _ h => absurd (h.symm.trans (allPages _)) (by decide))
    | with_reducible apply fieldPut_wf
    | with_reducible apply copyFields_wf
    | with_reducible apply copyInsts_wf
    | with_reducible apply copyBay_wf
    | with_reducible apply copyAll_wf
    | with_reducible apply offered_wf
    | with_reducible refine foldl_wf (fun _ _ h => copyBay_wf h) ?_
    | (intro _ _; dsimp only)
    | intro _
    | split)

theorem frame_fieldByte {P G : Nat} {s₀ s : State} (h₀ : Frame P G s₀ s) (p : PortId) (b : Nat) (x : Field × Nat × Nat) (hP : 0xde7ffff7c &&& P = 0xde7ffff7c) (hG : 0xffffffffffffffff &&& G = 0xffffffffffffffff) : Frame P G s₀ (State.fieldByte p b s x) := by
  refine h₀.step (Q := 0xde7ffff7c) (H := 0xffffffffffffffff) ?_ hP hG
  unfold State.fieldByte
  try dsimp only
  iterate 50 all_goals try (first
    | (simp only [Frame.mk_iff]; with_reducible apply FrameC.upd <;> first | with_reducible exact fun _ => rfl | exact fun h => absurd h (by decide +kernel) | with_reducible exact fun _ h => ⟨h, rfl, rfl⟩ | with_reducible exact fun _ _ _ => rfl | with_reducible exact id | with_reducible exact fun h _ => h | with_reducible exact fun _ h => h | skip)
    | with_reducible apply Frame.ite
    | with_reducible exact Frame.refl _ _ _
    | with_reducible apply frame_stageByte
    | with_reducible apply frame_setPort
    | with_reducible apply frame_uploadChunk
    | with_reducible apply frame_onPort
    | with_reducible apply frame_fieldWrite
    | with_reducible apply Frame.foldlT
    | with_reducible assumption
    | (show (_ : Nat) = _; decide +kernel)
    | (show Nat.testBit _ _ = true; decide +kernel)
    | intro _
    | split)

theorem frame_pageWrite {P G : Nat} {s₀ s : State} (h₀ : Frame P G s₀ s) (p : PortId) (b : Nat) (hP : 0xe021d044 &&& P = 0xe021d044) (hG : 0xc078000020 &&& G = 0xc078000020) : Frame P G s₀ (State.pageWrite s p b) := by
  refine h₀.step (Q := 0xe021d044) (H := 0xc078000020) ?_ hP hG
  unfold State.pageWrite
  try dsimp only
  iterate 50 all_goals try (first
    | (simp only [Frame.mk_iff]; with_reducible apply FrameC.upd <;> first | with_reducible exact fun _ => rfl | exact fun h => absurd h (by decide +kernel) | with_reducible exact fun _ h => ⟨h, rfl, rfl⟩ | with_reducible exact fun _ _ _ => rfl | with_reducible exact id | with_reducible exact fun h _ => h | with_reducible exact fun _ h => h | skip)
    | with_reducible apply Frame.ite
    | with_reducible exact Frame.refl _ _ _
    | with_reducible apply frame_estPage
    | with_reducible apply frame_onPort
    | with_reducible apply Frame.foldlT
    | with_reducible assumption
    | (show (_ : Nat) = _; decide +kernel)
    | (show Nat.testBit _ _ = true; decide +kernel)
    | intro _
    | split)

theorem frame_refuseWrite {P G : Nat} {s₀ s : State} (h₀ : Frame P G s₀ s) (page off : Nat) (xs : List (Field × Nat × Nat)) (hP : 0x41040 &&& P = 0x41040) (hG : 0x1100c000000020 &&& G = 0x1100c000000020) : Frame P G s₀ (State.refuseWrite s page off xs) := by
  refine h₀.step (Q := 0x41040) (H := 0x1100c000000020) ?_ hP hG
  unfold State.refuseWrite
  try dsimp only
  iterate 50 all_goals try (first
    | with_reducible apply Frame.ite
    | with_reducible exact Frame.refl _ _ _
    | with_reducible apply frame_noteRefusal
    | with_reducible apply frame_standbyRefused
    | with_reducible apply Frame.foldlT
    | with_reducible assumption
    | (show (_ : Nat) = _; decide +kernel)
    | (show Nat.testBit _ _ = true; decide +kernel)
    | intro _
    | split)

theorem frame_takeByte {P G : Nat} {s₀ s : State} (h₀ : Frame P G s₀ s) (p : PortId) (w : Nat × Nat) (hP : 0xde7ffff7c &&& P = 0xde7ffff7c) (hG : 0xffffffffffffffff &&& G = 0xffffffffffffffff) : Frame P G s₀ (State.takeByte p s w) := by
  refine h₀.step (Q := 0xde7ffff7c) (H := 0xffffffffffffffff) ?_ hP hG
  unfold State.takeByte
  try dsimp only
  iterate 50 all_goals try (first
    | (simp only [Frame.mk_iff]; with_reducible apply FrameC.upd <;> first | with_reducible exact fun _ => rfl | exact fun h => absurd h (by decide +kernel) | with_reducible exact fun _ h => ⟨h, rfl, rfl⟩ | with_reducible exact fun _ _ _ => rfl | with_reducible exact id | with_reducible exact fun h _ => h | with_reducible exact fun _ h => h | skip)
    | with_reducible apply Frame.ite
    | with_reducible exact Frame.refl _ _ _
    | with_reducible apply frame_onPort
    | with_reducible apply frame_fieldByte
    | with_reducible apply frame_pageWrite
    | with_reducible apply frame_refuseWrite
    | with_reducible apply Frame.foldlT
    | with_reducible assumption
    | (show (_ : Nat) = _; decide +kernel)
    | (show Nat.testBit _ _ = true; decide +kernel)
    | intro _
    | split)

theorem frame_mailByte {P G : Nat} {s₀ s : State} (h₀ : Frame P G s₀ s) (w : Nat × Nat) (hP : 0x40001d058 &&& P = 0x40001d058) (hG : 0xc001000020 &&& G = 0xc001000020) : Frame P G s₀ (State.mailByte s w) := by
  refine h₀.step (Q := 0x40001d058) (H := 0xc001000020) ?_ hP hG
  unfold State.mailByte
  try dsimp only
  iterate 50 all_goals try (first
    | with_reducible apply Frame.ite
    | with_reducible exact Frame.refl _ _ _
    | with_reducible apply frame_mailbox
    | with_reducible apply frame_onPort
    | with_reducible apply Frame.foldlT
    | with_reducible assumption
    | (show (_ : Nat) = _; decide +kernel)
    | (show Nat.testBit _ _ = true; decide +kernel)
    | intro _
    | split)

theorem frame_portByte {P G : Nat} {s₀ s : State} (h₀ : Frame P G s₀ s) (p : PortId) (b : Nat) (hP : 0xde7ffff7c &&& P = 0xde7ffff7c) (hG : 0xffffffffffffffff &&& G = 0xffffffffffffffff) : Frame P G s₀ (State.portByte s p b).1 := by
  refine h₀.step (Q := 0xde7ffff7c) (H := 0xffffffffffffffff) ?_ hP hG
  unfold State.portByte
  try dsimp only
  iterate 50 all_goals try (first
    | (simp only [Frame.mk_iff]; with_reducible apply FrameC.upd <;> first | with_reducible exact fun _ => rfl | exact fun h => absurd h (by decide +kernel) | with_reducible exact fun _ h => ⟨h, rfl, rfl⟩ | with_reducible exact fun _ _ _ => rfl | with_reducible exact id | with_reducible exact fun h _ => h | with_reducible exact fun _ h => h | skip)
    | with_reducible apply Frame.ite
    | with_reducible exact Frame.refl _ _ _
    | with_reducible apply frame_onPort
    | with_reducible apply frame_takeByte
    | with_reducible apply frame_mailByte
    | with_reducible apply Frame.foldlT
    | with_reducible assumption
    | (show (_ : Nat) = _; decide +kernel)
    | (show Nat.testBit _ _ = true; decide +kernel)
    | intro _
    | split)

theorem frame_portByte_of {P G : Nat} {s₀ s : State} {p : PortId} {b : Nat} {v} {u : State} (h : State.portByte s p b = (u, v)) (h₀ : Frame P G s₀ s)
    (hP : 0xde7ffff7c &&& P = 0xde7ffff7c) (hG : 0xffffffffffffffff &&& G = 0xffffffffffffffff) : Frame P G s₀ u := by
  have := frame_portByte h₀ p b hP hG; rw [h] at this; exact this

theorem frame_pecBad {P G : Nat} {s₀ s : State} (h₀ : Frame P G s₀ s) (p : PortId) (got want : Nat) (hP : 0x1040 &&& P = 0x1040) (hG : 0x10000c000000020 &&& G = 0x10000c000000020) : Frame P G s₀ (State.pecBad s p got want) := by
  refine h₀.step (Q := 0x1040) (H := 0x10000c000000020) ?_ hP hG
  unfold State.pecBad
  try dsimp only
  iterate 50 all_goals try (first
    | with_reducible apply Frame.ite
    | with_reducible exact Frame.refl _ _ _
    | with_reducible apply frame_bump
    | (with_reducible apply frame_raise_low; case hs => decide)
    | with_reducible apply frame_portFlag
    | with_reducible apply Frame.foldlT
    | with_reducible assumption
    | (show (_ : Nat) = _; decide +kernel)
    | (show Nat.testBit _ _ = true; decide +kernel)
    | intro _
    | split)

theorem frame_heldAct {P G : Nat} {s₀ s : State} (h₀ : Frame P G s₀ s) (p : PortId) (hP : 0xde7ffff7c &&& P = 0xde7ffff7c) (hG : 0xffffffffffffffff &&& G = 0xffffffffffffffff) : Frame P G s₀ (State.heldAct s p) := by
  refine h₀.step (Q := 0xde7ffff7c) (H := 0xffffffffffffffff) ?_ hP hG
  unfold State.heldAct
  try dsimp only
  iterate 50 all_goals try (first
    | (simp only [Frame.mk_iff]; with_reducible apply FrameC.upd <;> first | with_reducible exact fun _ => rfl | exact fun h => absurd h (by decide +kernel) | with_reducible exact fun _ h => ⟨h, rfl, rfl⟩ | with_reducible exact fun _ _ _ => rfl | with_reducible exact id | with_reducible exact fun h _ => h | with_reducible exact fun _ h => h | skip)
    | with_reducible apply Frame.ite
    | with_reducible exact Frame.refl _ _ _
    | with_reducible apply frame_onPort
    | with_reducible apply frame_takeByte
    | with_reducible apply frame_mailByte
    | with_reducible apply frame_pecBad
    | with_reducible apply Frame.foldlT
    | with_reducible assumption
    | (show (_ : Nat) = _; decide +kernel)
    | (show Nat.testBit _ _ = true; decide +kernel)
    | intro _
    | split)

theorem frame_stopActs {P G : Nat} {s₀ s : State} (h₀ : Frame P G s₀ s) (p : PortId) (hP : 0xde7ffff7c &&& P = 0xde7ffff7c) (hG : 0xffffffffffffffff &&& G = 0xffffffffffffffff) : Frame P G s₀ (State.stopActs s p) := by
  refine h₀.step (Q := 0xde7ffff7c) (H := 0xffffffffffffffff) ?_ hP hG
  unfold State.stopActs
  try dsimp only
  iterate 50 all_goals try (first
    | (simp only [Frame.mk_iff]; with_reducible apply FrameC.upd <;> first | with_reducible exact fun _ => rfl | exact fun h => absurd h (by decide +kernel) | with_reducible exact fun _ h => ⟨h, rfl, rfl⟩ | with_reducible exact fun _ _ _ => rfl | with_reducible exact id | with_reducible exact fun h _ => h | with_reducible exact fun _ h => h | skip)
    | with_reducible apply Frame.ite
    | with_reducible exact Frame.refl _ _ _
    | with_reducible apply frame_capsuleCommit
    | with_reducible apply frame_logAdvance
    | with_reducible apply frame_tokenSubmit
    | with_reducible apply frame_delayed
    | with_reducible apply frame_onPort
    | with_reducible apply frame_heldAct
    | with_reducible apply Frame.foldlT
    | with_reducible assumption
    | (show (_ : Nat) = _; decide +kernel)
    | (show Nat.testBit _ _ = true; decide +kernel)
    | intro _
    | split)

theorem frame_portClose {P G : Nat} {s₀ s : State} (h₀ : Frame P G s₀ s) (p : PortId) (hP : 0x1c000 &&& P = 0x1c000) (hG : 0x0 &&& G = 0x0) : Frame P G s₀ (State.portClose s p) := by
  refine h₀.step (Q := 0x1c000) (H := 0x0) ?_ hP hG
  unfold State.portClose
  try dsimp only
  iterate 50 all_goals try (first
    | (simp only [Frame.mk_iff]; with_reducible apply FrameC.upd <;> first | with_reducible exact fun _ => rfl | exact fun h => absurd h (by decide +kernel) | with_reducible exact fun _ h => ⟨h, rfl, rfl⟩ | with_reducible exact fun _ _ _ => rfl | with_reducible exact id | with_reducible exact fun h _ => h | with_reducible exact fun _ h => h | skip)
    | with_reducible apply Frame.ite
    | with_reducible exact Frame.refl _ _ _
    | with_reducible apply frame_onPort
    | with_reducible apply Frame.foldlT
    | with_reducible assumption
    | (show (_ : Nat) = _; decide +kernel)
    | (show Nat.testBit _ _ = true; decide +kernel)
    | intro _
    | split)

theorem frame_portEnd {P G : Nat} {s₀ s : State} (h₀ : Frame P G s₀ s) (p : PortId) (hP : 0xde7ffff7c &&& P = 0xde7ffff7c) (hG : 0xffffffffffffffff &&& G = 0xffffffffffffffff) : Frame P G s₀ (State.portEnd s p) := by
  refine h₀.step (Q := 0xde7ffff7c) (H := 0xffffffffffffffff) ?_ hP hG
  unfold State.portEnd
  try dsimp only
  iterate 50 all_goals try (first
    | with_reducible apply Frame.ite
    | with_reducible exact Frame.refl _ _ _
    | with_reducible apply frame_stopActs
    | with_reducible apply frame_portClose
    | with_reducible apply Frame.foldlT
    | with_reducible assumption
    | (show (_ : Nat) = _; decide +kernel)
    | (show Nat.testBit _ _ = true; decide +kernel)
    | intro _
    | split)

theorem frame_portBegin {P G : Nat} {s₀ s : State} (h₀ : Frame P G s₀ s) (p : PortId) (write : Bool) (kept : List Nat) (hP : 0xde7ffff7c &&& P = 0xde7ffff7c) (hG : 0xffffffffffffffff &&& G = 0xffffffffffffffff) : Frame P G s₀ (State.portBegin s p write kept) := by
  refine h₀.step (Q := 0xde7ffff7c) (H := 0xffffffffffffffff) ?_ hP hG
  unfold State.portBegin
  try dsimp only
  iterate 50 all_goals try (first
    | (simp only [Frame.mk_iff]; with_reducible apply FrameC.upd <;> first | with_reducible exact fun _ => rfl | exact fun h => absurd h (by decide +kernel) | with_reducible exact fun _ h => ⟨h, rfl, rfl⟩ | with_reducible exact fun _ _ _ => rfl | with_reducible exact id | with_reducible exact fun h _ => h | with_reducible exact fun _ h => h | skip)
    | with_reducible apply Frame.ite
    | with_reducible exact Frame.refl _ _ _
    | with_reducible apply frame_put
    | with_reducible apply frame_onPort
    | with_reducible apply frame_portEnd
    | with_reducible apply Frame.foldlT
    | with_reducible assumption
    | (show (_ : Nat) = _; decide +kernel)
    | (show Nat.testBit _ _ = true; decide +kernel)
    | intro _
    | split)

theorem frame_pointer {P G : Nat} {s₀ s : State} (h₀ : Frame P G s₀ s) (p : PortId) (off : Nat) (hP : 0x1c000 &&& P = 0x1c000) (hG : 0x0 &&& G = 0x0) : Frame P G s₀ (State.pointer s p off) := by
  refine h₀.step (Q := 0x1c000) (H := 0x0) ?_ hP hG
  unfold State.pointer
  try dsimp only
  iterate 50 all_goals try (first
    | (simp only [Frame.mk_iff]; with_reducible apply FrameC.upd <;> first | with_reducible exact fun _ => rfl | exact fun h => absurd h (by decide +kernel) | with_reducible exact fun _ h => ⟨h, rfl, rfl⟩ | with_reducible exact fun _ _ _ => rfl | with_reducible exact id | with_reducible exact fun h _ => h | with_reducible exact fun _ h => h | skip)
    | with_reducible apply Frame.ite
    | with_reducible exact Frame.refl _ _ _
    | with_reducible apply frame_onPort
    | with_reducible apply Frame.foldlT
    | with_reducible assumption
    | (show (_ : Nat) = _; decide +kernel)
    | (show Nat.testBit _ _ = true; decide +kernel)
    | intro _
    | split)

theorem frame_portBytes {P G : Nat} {s₀ s : State} (h₀ : Frame P G s₀ s) (p : PortId) (l : List Nat) (hP : 0xde7ffff7c &&& P = 0xde7ffff7c) (hG : 0xffffffffffffffff &&& G = 0xffffffffffffffff) :
    Frame P G s₀ (s.portBytes p l) := by
  induction l generalizing s with
  | nil => exact h₀
  | cons b l ih =>
    unfold State.portBytes
    have h₁ := frame_portByte h₀ p b hP hG
    revert h₁
    generalize s.portByte p b = r
    obtain ⟨u, v⟩ := r
    intro h₁
    cases v
    · exact h₁
    · exact ih h₁

theorem frame_registerWrite {P G : Nat} {s₀ s : State} (h₀ : Frame P G s₀ s) (p : PortId) (off : Nat) (d : List Nat) (hP : 0xde7ffff7c &&& P = 0xde7ffff7c) (hG : 0xffffffffffffffff &&& G = 0xffffffffffffffff) : Frame P G s₀ (State.registerWrite s p off d) := by
  refine h₀.step (Q := 0xde7ffff7c) (H := 0xffffffffffffffff) ?_ hP hG
  unfold State.registerWrite
  try dsimp only
  iterate 50 all_goals try (first
    | with_reducible apply Frame.ite
    | with_reducible exact Frame.refl _ _ _
    | with_reducible apply frame_portBytes
    | with_reducible apply frame_portBegin
    | with_reducible apply frame_pointer
    | with_reducible apply Frame.foldlT
    | with_reducible assumption
    | (show (_ : Nat) = _; decide +kernel)
    | (show Nat.testBit _ _ = true; decide +kernel)
    | intro _
    | split)

theorem frame_transactionStop {P G : Nat} {s₀ s : State} (h₀ : Frame P G s₀ s) (p : PortId) (last : Option Byte) (hP : 0xde7ffff7c &&& P = 0xde7ffff7c) (hG : 0xffffffffffffffff &&& G = 0xffffffffffffffff) : Frame P G s₀ (State.transactionStop s p last) := by
  refine h₀.step (Q := 0xde7ffff7c) (H := 0xffffffffffffffff) ?_ hP hG
  unfold State.transactionStop
  try dsimp only
  iterate 50 all_goals try (first
    | with_reducible apply Frame.ite
    | with_reducible exact Frame.refl _ _ _
    | with_reducible apply frame_portBytes
    | with_reducible apply frame_portEnd
    | with_reducible apply Frame.foldlT
    | with_reducible assumption
    | (show (_ : Nat) = _; decide +kernel)
    | (show Nat.testBit _ _ = true; decide +kernel)
    | intro _
    | split)

theorem frame_calDrop {P G : Nat} {s₀ s : State} (h₀ : Frame P G s₀ s) (e : Nat) (hP : 0x81040 &&& P = 0x81040) (hG : 0xc000000030 &&& G = 0xc000000030) : Frame P G s₀ (State.calDrop s e) := by
  refine h₀.step (Q := 0x81040) (H := 0xc000000030) ?_ hP hG
  unfold State.calDrop
  try dsimp only
  iterate 50 all_goals try (first
    | (simp only [Frame.mk_iff]; with_reducible apply FrameC.upd <;> first | with_reducible exact fun _ => rfl | exact fun h => absurd h (by decide +kernel) | with_reducible exact fun _ h => ⟨h, rfl, rfl⟩ | with_reducible exact fun _ _ _ => rfl | with_reducible exact id | with_reducible exact fun h _ => h | with_reducible exact fun _ h => h | skip)
    | with_reducible apply Frame.ite
    | with_reducible exact Frame.refl _ _ _
    | with_reducible apply frame_flag
    | with_reducible apply frame_bump
    | (with_reducible apply frame_raise_low; case hs => decide)
    | with_reducible apply Frame.foldlT
    | with_reducible assumption
    | (show (_ : Nat) = _; decide +kernel)
    | (show Nat.testBit _ _ = true; decide +kernel)
    | intro _
    | split)

theorem frame_calPass {P G : Nat} {s₀ s : State} (h₀ : Frame P G s₀ s) (e p : Nat) (hP : 0x81040 &&& P = 0x81040) (hG : 0xc000000030 &&& G = 0xc000000030) : Frame P G s₀ (State.calPass s e p) := by
  refine h₀.step (Q := 0x81040) (H := 0xc000000030) ?_ hP hG
  unfold State.calPass
  try dsimp only
  iterate 50 all_goals try (first
    | (simp only [Frame.mk_iff]; with_reducible apply FrameC.upd <;> first | with_reducible exact fun _ => rfl | exact fun h => absurd h (by decide +kernel) | with_reducible exact fun _ h => ⟨h, rfl, rfl⟩ | with_reducible exact fun _ _ _ => rfl | with_reducible exact id | with_reducible exact fun h _ => h | with_reducible exact fun _ h => h | skip)
    | with_reducible apply Frame.ite
    | with_reducible exact Frame.refl _ _ _
    | with_reducible apply frame_calDrop
    | with_reducible apply Frame.foldlT
    | with_reducible assumption
    | (show (_ : Nat) = _; decide +kernel)
    | (show Nat.testBit _ _ = true; decide +kernel)
    | intro _
    | split)

theorem frame_calGatherOne {P G : Nat} {s₀ s : State} (h₀ : Frame P G s₀ s) (lo hi : Nat) (e : Nat) (hP : 0x81040 &&& P = 0x81040) (hG : 0xc000000030 &&& G = 0xc000000030) : Frame P G s₀ (State.calGatherOne lo hi s e) := by
  refine h₀.step (Q := 0x81040) (H := 0xc000000030) ?_ hP hG
  unfold State.calGatherOne
  try dsimp only
  iterate 50 all_goals try (first
    | with_reducible apply Frame.ite
    | with_reducible exact Frame.refl _ _ _
    | with_reducible apply frame_calPass
    | with_reducible apply Frame.foldlT
    | with_reducible assumption
    | (show (_ : Nat) = _; decide +kernel)
    | (show Nat.testBit _ _ = true; decide +kernel)
    | intro _
    | split)

theorem frame_calGather {P G : Nat} {s₀ s : State} (h₀ : Frame P G s₀ s) (hi : Nat) (hP : 0x81040 &&& P = 0x81040) (hG : 0xc000000030 &&& G = 0xc000000030) : Frame P G s₀ (State.calGather s hi) := by
  refine h₀.step (Q := 0x81040) (H := 0xc000000030) ?_ hP hG
  unfold State.calGather
  try dsimp only
  iterate 50 all_goals try (first
    | (simp only [Frame.mk_iff]; with_reducible apply FrameC.upd <;> first | with_reducible exact fun _ => rfl | exact fun h => absurd h (by decide +kernel) | with_reducible exact fun _ h => ⟨h, rfl, rfl⟩ | with_reducible exact fun _ _ _ => rfl | with_reducible exact id | with_reducible exact fun h _ => h | with_reducible exact fun _ h => h | skip)
    | with_reducible apply Frame.ite
    | with_reducible exact Frame.refl _ _ _
    | with_reducible apply frame_calGatherOne
    | with_reducible apply Frame.foldlT
    | with_reducible assumption
    | (show (_ : Nat) = _; decide +kernel)
    | (show Nat.testBit _ _ = true; decide +kernel)
    | intro _
    | split)

theorem frame_calWrite {P G : Nat} {s₀ s : State} (h₀ : Frame P G s₀ s) (arg : Nat) (hP : 0xde7fe3f7c &&& P = 0xde7fe3f7c) (hG : 0xffffffffffffffff &&& G = 0xffffffffffffffff) : Frame P G s₀ (State.calWrite s arg) := by
  refine h₀.step (Q := 0xde7fe3f7c) (H := 0xffffffffffffffff) ?_ hP hG
  unfold State.calWrite
  try dsimp only
  iterate 50 all_goals try (first
    | with_reducible apply Frame.ite
    | with_reducible exact Frame.refl _ _ _
    | with_reducible apply frame_woWrite
    | with_reducible apply frame_liveWrite
    | with_reducible apply Frame.foldlT
    | with_reducible assumption
    | (show (_ : Nat) = _; decide +kernel)
    | (show Nat.testBit _ _ = true; decide +kernel)
    | intro _
    | split)

theorem frame_calAct {P G : Nat} {s₀ s : State} (h₀ : Frame P G s₀ s) (x : CalEntry) (hP : 0xde7fe3f7c &&& P = 0xde7fe3f7c) (hG : 0xffffffffffffffff &&& G = 0xffffffffffffffff) : Frame P G s₀ (State.calAct s x) := by
  refine h₀.step (Q := 0xde7fe3f7c) (H := 0xffffffffffffffff) ?_ hP hG
  unfold State.calAct
  try dsimp only
  iterate 50 all_goals try (first
    | with_reducible apply Frame.ite
    | with_reducible exact Frame.refl _ _ _
    | with_reducible apply frame_putBit
    | with_reducible apply frame_snapTrigger
    | (with_reducible apply frame_raise_low; case hs => decide)
    | with_reducible apply frame_calWrite
    | with_reducible apply Frame.foldlT
    | with_reducible assumption
    | (show (_ : Nat) = _; decide +kernel)
    | (show Nat.testBit _ _ = true; decide +kernel)
    | intro _
    | split)

theorem frame_calRun {P G : Nat} {s₀ s : State} (h₀ : Frame P G s₀ s) (e : Nat) (hP : 0xde7fe3f7c &&& P = 0xde7fe3f7c) (hG : 0xffffffffffffffff &&& G = 0xffffffffffffffff) : Frame P G s₀ (State.calRun s e) := by
  refine h₀.step (Q := 0xde7fe3f7c) (H := 0xffffffffffffffff) ?_ hP hG
  unfold State.calRun
  try dsimp only
  iterate 50 all_goals try (first
    | (simp only [Frame.mk_iff]; with_reducible apply FrameC.upd <;> first | with_reducible exact fun _ => rfl | exact fun h => absurd h (by decide +kernel) | with_reducible exact fun _ h => ⟨h, rfl, rfl⟩ | with_reducible exact fun _ _ _ => rfl | with_reducible exact id | with_reducible exact fun h _ => h | with_reducible exact fun _ h => h | skip)
    | with_reducible apply Frame.ite
    | with_reducible exact Frame.refl _ _ _
    | with_reducible apply frame_putSat
    | with_reducible apply frame_calGather
    | with_reducible apply frame_calAct
    | with_reducible apply Frame.foldlT
    | with_reducible assumption
    | (show (_ : Nat) = _; decide +kernel)
    | (show Nat.testBit _ _ = true; decide +kernel)
    | intro _
    | split)

theorem frame_calCommit {P G : Nat} {s₀ s : State} (h₀ : Frame P G s₀ s)  (hP : 0x81048 &&& P = 0x81048) (hG : 0xffffffffffffffff &&& G = 0xffffffffffffffff) : Frame P G s₀ (State.calCommit s) := by
  refine h₀.step (Q := 0x81048) (H := 0xffffffffffffffff) ?_ hP hG
  unfold State.calCommit
  try dsimp only
  iterate 70 all_goals try (first
    | (simp only [Frame.mk_iff]; with_reducible apply FrameC.upd <;> first | with_reducible exact fun _ => rfl | exact fun h => absurd h (by decide +kernel) | with_reducible exact fun _ h => ⟨h, rfl, rfl⟩ | with_reducible exact fun _ _ _ => rfl | with_reducible exact id | with_reducible exact fun h _ => h | with_reducible exact fun _ h => h | (with_reducible show (Nat.testBit _ _ = false → _); exact fun _ => rfl) | skip)
    | ((with_reducible show (_ → twinRest _ = twinRest _)); intro _; exact rfl)
    | ((with_reducible show (_ → posKept _ _)); intro _; split <;> split <;> exact fun h => ⟨h, rfl, rfl⟩)
    | ((with_reducible show (_ → posKept _ _)); intro _ h; exact ⟨h, rfl, rfl⟩)
    | ((with_reducible show (_ → posKept _ _)); intro _ h; exact absurd h ‹_›)
    | ((with_reducible show (_ → coreRest _ = coreRest _)); intro _; exact rfl)
    | with_reducible apply Frame.ite
    | with_reducible exact Frame.refl _ _ _
    | with_reducible apply frame_calAdopt
    | with_reducible apply Frame.foldlT
    | with_reducible assumption
    | (show (_ : Nat) = _; decide +kernel)
    | (show Nat.testBit _ _ = true; first | decide +kernel | exact allPages _)
    | with_reducible exact fun _ _ _ => rfl
    | (with_reducible show ∀ (_ : Field) (_ : Nat), _ → _; exact fun _ _ h => absurd (h.symm.trans (allPages _)) (by decide))
    | with_reducible apply fieldPut_wf
    | with_reducible apply copyFields_wf
    | with_reducible apply copyInsts_wf
    | with_reducible apply copyBay_wf
    | with_reducible apply copyAll_wf
    | with_reducible apply offered_wf
    | with_reducible refine foldl_wf (fun _ _ h => copyBay_wf h) ?_
    | (intro _ _; dsimp only)
    | intro _
    | split)

theorem frame_fetchNow {P G : Nat} {s₀ s : State} (h₀ : Frame P G s₀ s) (page : Nat) (hP : 0x1000 &&& P = 0x1000) (hG : 0x4000000000 &&& G = 0x4000000000) : Frame P G s₀ (State.fetchNow s page) := by
  refine h₀.step (Q := 0x1000) (H := 0x4000000000) ?_ hP hG
  unfold State.fetchNow
  try dsimp only
  iterate 50 all_goals try (first
    | with_reducible apply Frame.ite
    | with_reducible exact Frame.refl _ _ _
    | with_reducible apply frame_logFetched
    | with_reducible apply frame_snapFetched
    | with_reducible apply Frame.foldlT
    | with_reducible assumption
    | (show (_ : Nat) = _; decide +kernel)
    | (show Nat.testBit _ _ = true; decide +kernel)
    | intro _
    | split)

theorem frame_readClears {P G : Nat} {s₀ s : State} (h₀ : Frame P G s₀ s) (sel : Field → Nat) (page off : Nat) (hP : 0x0 &&& P = 0x0) (hG : 0xffffffffffffffff &&& G = 0xffffffffffffffff) : Frame P G s₀ (State.readClears s sel page off) := by
  refine h₀.step (Q := 0x0) (H := 0xffffffffffffffff) ?_ hP hG
  unfold State.readClears
  try dsimp only
  iterate 70 all_goals try (first
    | (simp only [Frame.mk_iff]; with_reducible apply FrameC.upd <;> first | with_reducible exact fun _ => rfl | exact fun h => absurd h (by decide +kernel) | with_reducible exact fun _ h => ⟨h, rfl, rfl⟩ | with_reducible exact fun _ _ _ => rfl | with_reducible exact id | with_reducible exact fun h _ => h | with_reducible exact fun _ h => h | (with_reducible show (Nat.testBit _ _ = false → _); exact fun _ => rfl) | skip)
    | ((with_reducible show (_ → twinRest _ = twinRest _)); intro _; exact rfl)
    | ((with_reducible show (_ → posKept _ _)); intro _; split <;> split <;> exact fun h => ⟨h, rfl, rfl⟩)
    | ((with_reducible show (_ → posKept _ _)); intro _ h; exact ⟨h, rfl, rfl⟩)
    | ((with_reducible show (_ → posKept _ _)); intro _ h; exact absurd h ‹_›)
    | ((with_reducible show (_ → coreRest _ = coreRest _)); intro _; exact rfl)
    | with_reducible apply Frame.ite
    | with_reducible exact Frame.refl _ _ _
    | with_reducible apply frame_putAt
    | with_reducible apply Frame.foldlT
    | with_reducible assumption
    | (show (_ : Nat) = _; decide +kernel)
    | (show Nat.testBit _ _ = true; first | decide +kernel | exact allPages _)
    | with_reducible exact fun _ _ _ => rfl
    | (with_reducible show ∀ (_ : Field) (_ : Nat), _ → _; exact fun _ _ h => absurd (h.symm.trans (allPages _)) (by decide))
    | with_reducible apply fieldPut_wf
    | with_reducible apply copyFields_wf
    | with_reducible apply copyInsts_wf
    | with_reducible apply copyBay_wf
    | with_reducible apply copyAll_wf
    | with_reducible apply offered_wf
    | with_reducible refine foldl_wf (fun _ _ h => copyBay_wf h) ?_
    | (intro _ _; dsimp only)
    | intro _
    | split)

theorem frame_readActs {P G : Nat} {s₀ s : State} (h₀ : Frame P G s₀ s) (page off : Nat) (hP : 0x3000 &&& P = 0x3000) (hG : 0x0 &&& G = 0x0) : Frame P G s₀ (State.readActs s page off) := by
  refine h₀.step (Q := 0x3000) (H := 0x0) ?_ hP hG
  unfold State.readActs
  try dsimp only
  iterate 50 all_goals try (first
    | (simp only [Frame.mk_iff]; with_reducible apply FrameC.upd <;> first | with_reducible exact fun _ => rfl | exact fun h => absurd h (by decide +kernel) | with_reducible exact fun _ h => ⟨h, rfl, rfl⟩ | with_reducible exact fun _ _ _ => rfl | with_reducible exact id | with_reducible exact fun h _ => h | with_reducible exact fun _ h => h | skip)
    | with_reducible apply Frame.ite
    | with_reducible exact Frame.refl _ _ _
    | with_reducible apply frame_icClaim
    | with_reducible apply Frame.foldlT
    | with_reducible assumption
    | (show (_ : Nat) = _; decide +kernel)
    | (show Nat.testBit _ _ = true; decide +kernel)
    | intro _
    | split)

theorem frame_drawNonce {P G : Nat} {s₀ s : State} (h₀ : Frame P G s₀ s)  (hP : 0x20004 &&& P = 0x20004) (hG : 0x4000000000000000 &&& G = 0x4000000000000000) : Frame P G s₀ (State.drawNonce s) := by
  refine h₀.step (Q := 0x20004) (H := 0x4000000000000000) ?_ hP hG
  unfold State.drawNonce
  try dsimp only
  iterate 50 all_goals try (first
    | (simp only [Frame.mk_iff]; with_reducible apply FrameC.upd <;> first | with_reducible exact fun _ => rfl | exact fun h => absurd h (by decide +kernel) | with_reducible exact fun _ h => ⟨h, rfl, rfl⟩ | with_reducible exact fun _ _ _ => rfl | with_reducible exact id | with_reducible exact fun h _ => h | with_reducible exact fun _ h => h | skip)
    | with_reducible apply Frame.ite
    | with_reducible exact Frame.refl _ _ _
    | with_reducible apply frame_put
    | (refine frame_takeFree_of ‹_› ?_ ?_ ?_)
    | with_reducible apply frame_takeFree
    | with_reducible apply Frame.foldlT
    | with_reducible assumption
    | (show (_ : Nat) = _; decide +kernel)
    | (show Nat.testBit _ _ = true; decide +kernel)
    | intro _
    | split)

theorem frame_readLive {P G : Nat} {s₀ s : State} (h₀ : Frame P G s₀ s) (p : PortId) (page off : Nat) (hP : 0x3f004 &&& P = 0x3f004) (hG : 0xffffffffffffffff &&& G = 0xffffffffffffffff) : Frame P G s₀ (State.readLive s p page off).2 := by
  refine h₀.step (Q := 0x3f004) (H := 0xffffffffffffffff) ?_ hP hG
  unfold State.readLive
  try dsimp only
  iterate 50 all_goals try (first
    | (simp only [Frame.mk_iff]; with_reducible apply FrameC.upd <;> first | with_reducible exact fun _ => rfl | exact fun h => absurd h (by decide +kernel) | with_reducible exact fun _ h => ⟨h, rfl, rfl⟩ | with_reducible exact fun _ _ _ => rfl | with_reducible exact id | with_reducible exact fun h _ => h | with_reducible exact fun _ h => h | skip)
    | with_reducible apply Frame.ite
    | with_reducible exact Frame.refl _ _ _
    | with_reducible apply frame_onPort
    | with_reducible apply frame_fetchNow
    | with_reducible apply frame_readClears
    | with_reducible apply frame_readActs
    | with_reducible apply frame_drawNonce
    | with_reducible apply Frame.foldlT
    | with_reducible assumption
    | (show (_ : Nat) = _; decide +kernel)
    | (show Nat.testBit _ _ = true; decide +kernel)
    | intro _
    | split)

theorem frame_readLive_of {P G : Nat} {s₀ s : State} {p : PortId} {page off : Nat} {v} {u : State} (h : State.readLive s p page off = (v, u)) (h₀ : Frame P G s₀ s)
    (hP : 0x3f004 &&& P = 0x3f004) (hG : 0xffffffffffffffff &&& G = 0xffffffffffffffff) : Frame P G s₀ u := by
  have := frame_readLive h₀ p page off hP hG; rw [h] at this; exact this

theorem frame_readByte {P G : Nat} {s₀ s : State} (h₀ : Frame P G s₀ s) (p : PortId) (hP : 0x3f004 &&& P = 0x3f004) (hG : 0xffffffffffffffff &&& G = 0xffffffffffffffff) : Frame P G s₀ (State.readByte s p).2 := by
  refine h₀.step (Q := 0x3f004) (H := 0xffffffffffffffff) ?_ hP hG
  unfold State.readByte
  try dsimp only
  iterate 50 all_goals try (first
    | with_reducible apply Frame.ite
    | with_reducible exact Frame.refl _ _ _
    | with_reducible apply frame_readActs
    | (refine frame_readLive_of ‹_› ?_ ?_ ?_)
    | with_reducible apply frame_readLive
    | with_reducible apply Frame.foldlT
    | with_reducible assumption
    | (show (_ : Nat) = _; decide +kernel)
    | (show Nat.testBit _ _ = true; decide +kernel)
    | intro _
    | split)

theorem frame_readByte_of {P G : Nat} {s₀ s : State} {p : PortId} {v} {u : State} (h : State.readByte s p = (v, u)) (h₀ : Frame P G s₀ s)
    (hP : 0x3f004 &&& P = 0x3f004) (hG : 0xffffffffffffffff &&& G = 0xffffffffffffffff) : Frame P G s₀ u := by
  have := frame_readByte h₀ p hP hG; rw [h] at this; exact this

theorem frame_mailShown {P G : Nat} {s₀ s : State} (h₀ : Frame P G s₀ s) (off : Nat) (hP : 0x4 &&& P = 0x4) (hG : 0x0 &&& G = 0x0) : Frame P G s₀ (State.mailShown s off).2 := by
  refine h₀.step (Q := 0x4) (H := 0x0) ?_ hP hG
  unfold State.mailShown
  try dsimp only
  iterate 50 all_goals try (first
    | with_reducible apply Frame.ite
    | with_reducible exact Frame.refl _ _ _
    | (refine frame_takeFree_of ‹_› ?_ ?_ ?_)
    | with_reducible apply frame_takeFree
    | with_reducible apply Frame.foldlT
    | with_reducible assumption
    | (show (_ : Nat) = _; decide +kernel)
    | (show Nat.testBit _ _ = true; decide +kernel)
    | intro _
    | split)

theorem frame_mailShown_of {P G : Nat} {s₀ s : State} {off : Nat} {v} {u : State} (h : State.mailShown s off = (v, u)) (h₀ : Frame P G s₀ s)
    (hP : 0x4 &&& P = 0x4) (hG : 0x0 &&& G = 0x0) : Frame P G s₀ u := by
  have := frame_mailShown h₀ off hP hG; rw [h] at this; exact this

theorem frame_sendOut {P G : Nat} {s₀ s : State} (h₀ : Frame P G s₀ s) (p : PortId) (v : Nat) (moves : Bool) (hP : 0x1c000 &&& P = 0x1c000) (hG : 0x0 &&& G = 0x0) : Frame P G s₀ (State.sendOut s p v moves) := by
  refine h₀.step (Q := 0x1c000) (H := 0x0) ?_ hP hG
  unfold State.sendOut
  try dsimp only
  iterate 50 all_goals try (first
    | (simp only [Frame.mk_iff]; with_reducible apply FrameC.upd <;> first | with_reducible exact fun _ => rfl | exact fun h => absurd h (by decide +kernel) | with_reducible exact fun _ h => ⟨h, rfl, rfl⟩ | with_reducible exact fun _ _ _ => rfl | with_reducible exact id | with_reducible exact fun h _ => h | with_reducible exact fun _ h => h | skip)
    | with_reducible apply Frame.ite
    | with_reducible exact Frame.refl _ _ _
    | with_reducible apply frame_onPort
    | with_reducible apply Frame.foldlT
    | with_reducible assumption
    | (show (_ : Nat) = _; decide +kernel)
    | (show Nat.testBit _ _ = true; decide +kernel)
    | intro _
    | split)

theorem frame_stretched {P G : Nat} {s₀ s : State} (h₀ : Frame P G s₀ s) (p : PortId) (hP : 0x1d040 &&& P = 0x1d040) (hG : 0x10000c000000020 &&& G = 0x10000c000000020) : Frame P G s₀ (State.stretched s p) := by
  refine h₀.step (Q := 0x1d040) (H := 0x10000c000000020) ?_ hP hG
  unfold State.stretched
  try dsimp only
  iterate 50 all_goals try (first
    | (simp only [Frame.mk_iff]; with_reducible apply FrameC.upd <;> first | with_reducible exact fun _ => rfl | exact fun h => absurd h (by decide +kernel) | with_reducible exact fun _ h => ⟨h, rfl, rfl⟩ | with_reducible exact fun _ _ _ => rfl | with_reducible exact id | with_reducible exact fun h _ => h | with_reducible exact fun _ h => h | skip)
    | with_reducible apply Frame.ite
    | with_reducible exact Frame.refl _ _ _
    | with_reducible apply frame_put
    | with_reducible apply frame_putSat
    | with_reducible apply frame_bump
    | (with_reducible apply frame_raise_low; case hs => decide)
    | with_reducible apply frame_portFlag
    | with_reducible apply frame_onPort
    | with_reducible apply Frame.foldlT
    | with_reducible assumption
    | (show (_ : Nat) = _; decide +kernel)
    | (show Nat.testBit _ _ = true; decide +kernel)
    | intro _
    | split)

theorem frame_sendByte {P G : Nat} {s₀ s : State} (h₀ : Frame P G s₀ s) (p : PortId) (hP : 0x3f044 &&& P = 0x3f044) (hG : 0xffffffffffffffff &&& G = 0xffffffffffffffff) : Frame P G s₀ (State.sendByte p s) := by
  refine h₀.step (Q := 0x3f044) (H := 0xffffffffffffffff) ?_ hP hG
  unfold State.sendByte
  try dsimp only
  iterate 50 all_goals try (first
    | with_reducible apply Frame.ite
    | with_reducible exact Frame.refl _ _ _
    | (refine frame_readByte_of ‹_› ?_ ?_ ?_)
    | with_reducible apply frame_readByte
    | (refine frame_mailShown_of ‹_› ?_ ?_ ?_)
    | with_reducible apply frame_mailShown
    | with_reducible apply frame_sendOut
    | with_reducible apply frame_stretched
    | with_reducible apply Frame.foldlT
    | with_reducible assumption
    | (show (_ : Nat) = _; decide +kernel)
    | (show Nat.testBit _ _ = true; decide +kernel)
    | intro _
    | split)

theorem frame_sendBytes {P G : Nat} {s₀ s : State} (h₀ : Frame P G s₀ s) (p : PortId) (n : Nat) (hP : 0x3f044 &&& P = 0x3f044) (hG : 0xffffffffffffffff &&& G = 0xffffffffffffffff) :
    Frame P G s₀ (State.sendBytes p n s) := by
  induction n generalizing s with
  | zero => exact h₀
  | succ n ih => exact ih (frame_sendByte h₀ p hP hG)

theorem frame_registerRead {P G : Nat} {s₀ s : State} (h₀ : Frame P G s₀ s) (p : PortId) (off : Option Nat) (n : Nat) (hP : 0xde7ffff7c &&& P = 0xde7ffff7c) (hG : 0xffffffffffffffff &&& G = 0xffffffffffffffff) : Frame P G s₀ (State.registerRead s p off n) := by
  refine h₀.step (Q := 0xde7ffff7c) (H := 0xffffffffffffffff) ?_ hP hG
  unfold State.registerRead
  try dsimp only
  iterate 50 all_goals try (first
    | with_reducible apply Frame.ite
    | with_reducible exact Frame.refl _ _ _
    | with_reducible apply frame_portBegin
    | with_reducible apply frame_pointer
    | with_reducible apply frame_sendBytes
    | with_reducible apply Frame.foldlT
    | with_reducible assumption
    | (show (_ : Nat) = _; decide +kernel)
    | (show Nat.testBit _ _ = true; decide +kernel)
    | intro _
    | split)

theorem frame_abortTrace {P G : Nat} {s₀ s : State} (h₀ : Frame P G s₀ s) (p : PortId) (code idx addr : Nat) (hP : 0x1d040 &&& P = 0x1d040) (hG : 0x10000c000000020 &&& G = 0x10000c000000020) : Frame P G s₀ (State.abortTrace s p code idx addr) := by
  refine h₀.step (Q := 0x1d040) (H := 0x10000c000000020) ?_ hP hG
  unfold State.abortTrace
  try dsimp only
  iterate 50 all_goals try (first
    | (simp only [Frame.mk_iff]; with_reducible apply FrameC.upd <;> first | with_reducible exact fun _ => rfl | exact fun h => absurd h (by decide +kernel) | with_reducible exact fun _ h => ⟨h, rfl, rfl⟩ | with_reducible exact fun _ _ _ => rfl | with_reducible exact id | with_reducible exact fun h _ => h | with_reducible exact fun _ h => h | skip)
    | with_reducible apply Frame.ite
    | with_reducible exact Frame.refl _ _ _
    | with_reducible apply frame_put
    | with_reducible apply frame_putSat
    | with_reducible apply frame_bump
    | (with_reducible apply frame_raise_low; case hs => decide)
    | with_reducible apply frame_portFlag
    | with_reducible apply frame_onPort
    | with_reducible apply Frame.foldlT
    | with_reducible assumption
    | (show (_ : Nat) = _; decide +kernel)
    | (show Nat.testBit _ _ = true; decide +kernel)
    | intro _
    | split)

theorem frame_abort {P G : Nat} {s₀ s : State} (h₀ : Frame P G s₀ s) (p : PortId) (code idx addr : Nat) (hP : 0xde7ffff7c &&& P = 0xde7ffff7c) (hG : 0xffffffffffffffff &&& G = 0xffffffffffffffff) : Frame P G s₀ (State.abort s p code idx addr) := by
  refine h₀.step (Q := 0xde7ffff7c) (H := 0xffffffffffffffff) ?_ hP hG
  unfold State.abort
  try dsimp only
  iterate 50 all_goals try (first
    | with_reducible apply Frame.ite
    | with_reducible exact Frame.refl _ _ _
    | with_reducible apply frame_portClose
    | with_reducible apply frame_portEnd
    | with_reducible apply frame_abortTrace
    | with_reducible apply Frame.foldlT
    | with_reducible assumption
    | (show (_ : Nat) = _; decide +kernel)
    | (show Nat.testBit _ _ = true; decide +kernel)
    | intro _
    | split)

theorem frame_transactionAbort {P G : Nat} {s₀ s : State} (h₀ : Frame P G s₀ s) (p : PortId) (cond : AbortCond) (idx addr : Nat) (hP : 0xde7ffff7c &&& P = 0xde7ffff7c) (hG : 0xffffffffffffffff &&& G = 0xffffffffffffffff) : Frame P G s₀ (State.transactionAbort s p cond idx addr) := by
  refine h₀.step (Q := 0xde7ffff7c) (H := 0xffffffffffffffff) ?_ hP hG
  unfold State.transactionAbort
  try dsimp only
  iterate 50 all_goals try (first
    | with_reducible apply Frame.ite
    | with_reducible exact Frame.refl _ _ _
    | with_reducible apply frame_abort
    | with_reducible apply Frame.foldlT
    | with_reducible assumption
    | (show (_ : Nat) = _; decide +kernel)
    | (show Nat.testBit _ _ = true; decide +kernel)
    | intro _
    | split)

theorem frame_sclTimeout {P G : Nat} {s₀ s : State} (h₀ : Frame P G s₀ s) (p : PortId) (idx : Nat) (hP : 0xde7ffff7c &&& P = 0xde7ffff7c) (hG : 0xffffffffffffffff &&& G = 0xffffffffffffffff) : Frame P G s₀ (State.sclTimeout s p idx) := by
  refine h₀.step (Q := 0xde7ffff7c) (H := 0xffffffffffffffff) ?_ hP hG
  unfold State.sclTimeout
  try dsimp only
  iterate 50 all_goals try (first
    | with_reducible apply Frame.ite
    | with_reducible exact Frame.refl _ _ _
    | with_reducible apply frame_bump
    | (with_reducible apply frame_raise_low; case hs => decide)
    | with_reducible apply frame_portFlag
    | with_reducible apply frame_abort
    | with_reducible apply Frame.foldlT
    | with_reducible assumption
    | (show (_ : Nat) = _; decide +kernel)
    | (show Nat.testBit _ _ = true; decide +kernel)
    | intro _
    | split)

theorem frame_stretchLimit {P G : Nat} {s₀ s : State} (h₀ : Frame P G s₀ s) (p : PortId) (read : Bool) (hP : 0x1d040 &&& P = 0x1d040) (hG : 0x10000c000000020 &&& G = 0x10000c000000020) : Frame P G s₀ (State.stretchLimit s p read) := by
  refine h₀.step (Q := 0x1d040) (H := 0x10000c000000020) ?_ hP hG
  unfold State.stretchLimit
  try dsimp only
  iterate 50 all_goals try (first
    | with_reducible apply Frame.ite
    | with_reducible exact Frame.refl _ _ _
    | with_reducible apply frame_sendOut
    | with_reducible apply frame_stretched
    | with_reducible apply Frame.foldlT
    | with_reducible assumption
    | (show (_ : Nat) = _; decide +kernel)
    | (show Nat.testBit _ _ = true; decide +kernel)
    | intro _
    | split)

theorem frame_araRead {P G : Nat} {s₀ s : State} (h₀ : Frame P G s₀ s) (won : Bool) (hP : 0x1c000 &&& P = 0x1c000) (hG : 0x0 &&& G = 0x0) : Frame P G s₀ (State.araRead s won) := by
  refine h₀.step (Q := 0x1c000) (H := 0x0) ?_ hP hG
  unfold State.araRead
  try dsimp only
  iterate 50 all_goals try (first
    | (simp only [Frame.mk_iff]; with_reducible apply FrameC.upd <;> first | with_reducible exact fun _ => rfl | exact fun h => absurd h (by decide +kernel) | with_reducible exact fun _ h => ⟨h, rfl, rfl⟩ | with_reducible exact fun _ _ _ => rfl | with_reducible exact id | with_reducible exact fun h _ => h | with_reducible exact fun _ h => h | skip)
    | with_reducible apply Frame.ite
    | with_reducible exact Frame.refl _ _ _
    | with_reducible apply frame_onPort
    | with_reducible apply Frame.foldlT
    | with_reducible assumption
    | (show (_ : Nat) = _; decide +kernel)
    | (show Nat.testBit _ _ = true; decide +kernel)
    | intro _
    | split)

theorem frame_notifyNack {P G : Nat} {s₀ s : State} (h₀ : Frame P G s₀ s) (byte : Nat) (hP : 0x3040 &&& P = 0x3040) (hG : 0x10000c000000020 &&& G = 0x10000c000000020) : Frame P G s₀ (State.notifyNack s byte) := by
  refine h₀.step (Q := 0x3040) (H := 0x10000c000000020) ?_ hP hG
  unfold State.notifyNack
  try dsimp only
  iterate 50 all_goals try (first
    | (simp only [Frame.mk_iff]; with_reducible apply FrameC.upd <;> first | with_reducible exact fun _ => rfl | exact fun h => absurd h (by decide +kernel) | with_reducible exact fun _ h => ⟨h, rfl, rfl⟩ | with_reducible exact fun _ _ _ => rfl | with_reducible exact id | with_reducible exact fun h _ => h | with_reducible exact fun _ h => h | skip)
    | with_reducible apply Frame.ite
    | with_reducible exact Frame.refl _ _ _
    | (with_reducible apply frame_raise_low; case hs => decide)
    | with_reducible apply frame_portFlag
    | with_reducible apply Frame.foldlT
    | with_reducible assumption
    | (show (_ : Nat) = _; decide +kernel)
    | (show Nat.testBit _ _ = true; decide +kernel)
    | intro _
    | split)

theorem frame_hostNotify {P G : Nat} {s₀ s : State} (h₀ : Frame P G s₀ s) (res : BusResult) (hP : 0x1f044 &&& P = 0x1f044) (hG : 0x10000c000000020 &&& G = 0x10000c000000020) : Frame P G s₀ (State.hostNotify s res) := by
  refine h₀.step (Q := 0x1f044) (H := 0x10000c000000020) ?_ hP hG
  unfold State.hostNotify
  try dsimp only
  iterate 50 all_goals try (first
    | (simp only [Frame.mk_iff]; with_reducible apply FrameC.upd <;> first | with_reducible exact fun _ => rfl | exact fun h => absurd h (by decide +kernel) | with_reducible exact fun _ h => ⟨h, rfl, rfl⟩ | with_reducible exact fun _ _ _ => rfl | with_reducible exact id | with_reducible exact fun h _ => h | with_reducible exact fun _ h => h | skip)
    | with_reducible apply Frame.ite
    | with_reducible exact Frame.refl _ _ _
    | with_reducible apply frame_bump
    | (refine frame_takeFree_of ‹_› ?_ ?_ ?_)
    | with_reducible apply frame_takeFree
    | (with_reducible apply frame_raise_low; case hs => decide)
    | with_reducible apply frame_croakDone
    | with_reducible apply frame_notifyNack
    | with_reducible apply Frame.foldlT
    | with_reducible assumption
    | (show (_ : Nat) = _; decide +kernel)
    | (show Nat.testBit _ _ = true; decide +kernel)
    | intro _
    | split)

theorem frame_busStuck {P G : Nat} {s₀ s : State} (h₀ : Frame P G s₀ s) (p : PortId) (what : Nat) (hP : 0x40001d040 &&& P = 0x40001d040) (hG : 0x10000c003000020 &&& G = 0x10000c003000020) : Frame P G s₀ (State.busStuck s p what) := by
  refine h₀.step (Q := 0x40001d040) (H := 0x10000c003000020) ?_ hP hG
  unfold State.busStuck
  try dsimp only
  iterate 50 all_goals try (first
    | (simp only [Frame.mk_iff]; with_reducible apply FrameC.upd <;> first | with_reducible exact fun _ => rfl | exact fun h => absurd h (by decide +kernel) | with_reducible exact fun _ h => ⟨h, rfl, rfl⟩ | with_reducible exact fun _ _ _ => rfl | with_reducible exact id | with_reducible exact fun h _ => h | with_reducible exact fun _ h => h | skip)
    | with_reducible apply Frame.ite
    | with_reducible exact Frame.refl _ _ _
    | (with_reducible apply frame_raise_low; case hs => decide)
    | with_reducible apply frame_portFlag
    | with_reducible apply frame_grantFailed
    | with_reducible apply frame_onPort
    | with_reducible apply Frame.foldlT
    | with_reducible assumption
    | (show (_ : Nat) = _; decide +kernel)
    | (show Nat.testBit _ _ = true; decide +kernel)
    | intro _
    | split)

theorem frame_busRecovery {P G : Nat} {s₀ s : State} (h₀ : Frame P G s₀ s) (p : PortId) (r : Recovery) (hP : 0x40001d040 &&& P = 0x40001d040) (hG : 0x10000c003000020 &&& G = 0x10000c003000020) : Frame P G s₀ (State.busRecovery s p r) := by
  refine h₀.step (Q := 0x40001d040) (H := 0x10000c003000020) ?_ hP hG
  unfold State.busRecovery
  try dsimp only
  iterate 50 all_goals try (first
    | with_reducible apply Frame.ite
    | with_reducible exact Frame.refl _ _ _
    | with_reducible apply frame_busStuck
    | with_reducible apply Frame.foldlT
    | with_reducible assumption
    | (show (_ : Nat) = _; decide +kernel)
    | (show Nat.testBit _ _ = true; decide +kernel)
    | intro _
    | split)

theorem frame_backoffEnd {P G : Nat} {s₀ s : State} (h₀ : Frame P G s₀ s) (p : PortId) (hP : 0x1c000 &&& P = 0x1c000) (hG : 0x0 &&& G = 0x0) : Frame P G s₀ (State.backoffEnd s p) := by
  refine h₀.step (Q := 0x1c000) (H := 0x0) ?_ hP hG
  unfold State.backoffEnd
  try dsimp only
  iterate 50 all_goals try (first
    | (simp only [Frame.mk_iff]; with_reducible apply FrameC.upd <;> first | with_reducible exact fun _ => rfl | exact fun h => absurd h (by decide +kernel) | with_reducible exact fun _ h => ⟨h, rfl, rfl⟩ | with_reducible exact fun _ _ _ => rfl | with_reducible exact id | with_reducible exact fun h _ => h | with_reducible exact fun _ h => h | skip)
    | with_reducible apply Frame.ite
    | with_reducible exact Frame.refl _ _ _
    | with_reducible apply frame_onPort
    | with_reducible apply Frame.foldlT
    | with_reducible assumption
    | (show (_ : Nat) = _; decide +kernel)
    | (show Nat.testBit _ _ = true; decide +kernel)
    | intro _
    | split)

theorem frame_captureDone {P G : Nat} {s₀ s : State} (h₀ : Frame P G s₀ s) (k : Fin 2) (samples : List Code) (hP : 0x1000 &&& P = 0x1000) (hG : 0x0 &&& G = 0x0) : Frame P G s₀ (State.captureDone s k samples) := by
  refine h₀.step (Q := 0x1000) (H := 0x0) ?_ hP hG
  unfold State.captureDone
  try dsimp only
  iterate 50 all_goals try (first
    | (simp only [Frame.mk_iff]; with_reducible apply FrameC.upd <;> first | with_reducible exact fun _ => rfl | exact fun h => absurd h (by decide +kernel) | with_reducible exact fun _ h => ⟨h, rfl, rfl⟩ | with_reducible exact fun _ _ _ => rfl | with_reducible exact id | with_reducible exact fun h _ => h | with_reducible exact fun _ h => h | skip)
    | with_reducible apply Frame.ite
    | with_reducible exact Frame.refl _ _ _
    | with_reducible apply frame_setCap
    | with_reducible apply Frame.foldlT
    | with_reducible assumption
    | (show (_ : Nat) = _; decide +kernel)
    | (show Nat.testBit _ _ = true; decide +kernel)
    | intro _
    | split)

theorem frame_setBroken {P G : Nat} {s₀ s : State} (h₀ : Frame P G s₀ s) (i : Nat) (b : Bool) (hP : 0x0 &&& P = 0x0) (hG : 0x400000000 &&& G = 0x400000000) : Frame P G s₀ (State.setBroken s i b) := by
  refine h₀.step (Q := 0x0) (H := 0x400000000) ?_ hP hG
  unfold State.setBroken
  try dsimp only
  iterate 50 all_goals try (first
    | with_reducible apply Frame.ite
    | with_reducible exact Frame.refl _ _ _
    | with_reducible apply frame_putBit
    | with_reducible apply Frame.foldlT
    | with_reducible assumption
    | (show (_ : Nat) = _; decide +kernel)
    | (show Nat.testBit _ _ = true; decide +kernel)
    | intro _
    | split)

theorem frame_judgeSensor {P G : Nat} {s₀ s : State} (h₀ : Frame P G s₀ s) (i : Nat) (covered : Bool) (hP : 0x8001040 &&& P = 0x8001040) (hG : 0xc400000020 &&& G = 0xc400000020) : Frame P G s₀ (State.judgeSensor s i covered) := by
  refine h₀.step (Q := 0x8001040) (H := 0xc400000020) ?_ hP hG
  unfold State.judgeSensor
  try dsimp only
  iterate 50 all_goals try (first
    | (simp only [Frame.mk_iff]; with_reducible apply FrameC.upd <;> first | with_reducible exact fun _ => rfl | exact fun h => absurd h (by decide +kernel) | with_reducible exact fun _ h => ⟨h, rfl, rfl⟩ | with_reducible exact fun _ _ _ => rfl | with_reducible exact id | with_reducible exact fun h _ => h | with_reducible exact fun _ h => h | skip)
    | with_reducible apply Frame.ite
    | with_reducible exact Frame.refl _ _ _
    | with_reducible apply frame_flag
    | (with_reducible apply frame_raise_low; case hs => decide)
    | with_reducible apply frame_setSensor
    | with_reducible apply frame_setBroken
    | with_reducible apply Frame.foldlT
    | with_reducible assumption
    | (show (_ : Nat) = _; decide +kernel)
    | (show Nat.testBit _ _ = true; decide +kernel)
    | intro _
    | split)

theorem frame_rateSensor {P G : Nat} {s₀ s : State} (h₀ : Frame P G s₀ s) (i : Nat) (hP : 0x8000000 &&& P = 0x8000000) (hG : 0x400000000 &&& G = 0x400000000) : Frame P G s₀ (State.rateSensor s i) := by
  refine h₀.step (Q := 0x8000000) (H := 0x400000000) ?_ hP hG
  unfold State.rateSensor
  try dsimp only
  iterate 50 all_goals try (first
    | (simp only [Frame.mk_iff]; with_reducible apply FrameC.upd <;> first | with_reducible exact fun _ => rfl | exact fun h => absurd h (by decide +kernel) | with_reducible exact fun _ h => ⟨h, rfl, rfl⟩ | with_reducible exact fun _ _ _ => rfl | with_reducible exact id | with_reducible exact fun h _ => h | with_reducible exact fun _ h => h | skip)
    | with_reducible apply Frame.ite
    | with_reducible exact Frame.refl _ _ _
    | with_reducible apply frame_putBit
    | with_reducible apply frame_setSensor
    | with_reducible apply Frame.foldlT
    | with_reducible assumption
    | (show (_ : Nat) = _; decide +kernel)
    | (show Nat.testBit _ _ = true; decide +kernel)
    | intro _
    | split)

theorem frame_crossings {P G : Nat} {s₀ s : State} (h₀ : Frame P G s₀ s) (i : Nat) (hP : 0x18001040 &&& P = 0x18001040) (hG : 0xc400000020 &&& G = 0xc400000020) : Frame P G s₀ (State.crossings s i) := by
  refine h₀.step (Q := 0x18001040) (H := 0xc400000020) ?_ hP hG
  unfold State.crossings
  try dsimp only
  iterate 50 all_goals try (first
    | (simp only [Frame.mk_iff]; with_reducible apply FrameC.upd <;> first | with_reducible exact fun _ => rfl | exact fun h => absurd h (by decide +kernel) | with_reducible exact fun _ h => ⟨h, rfl, rfl⟩ | with_reducible exact fun _ _ _ => rfl | with_reducible exact id | with_reducible exact fun h _ => h | with_reducible exact fun _ h => h | skip)
    | with_reducible apply Frame.ite
    | with_reducible exact Frame.refl _ _ _
    | with_reducible apply frame_flag
    | (with_reducible apply frame_raise_low; case hs => decide)
    | with_reducible apply frame_setSensor
    | with_reducible apply Frame.foldlT
    | with_reducible assumption
    | (show (_ : Nat) = _; decide +kernel)
    | (show Nat.testBit _ _ = true; decide +kernel)
    | intro _
    | split)

theorem frame_compensate {P G : Nat} {s₀ s : State} (h₀ : Frame P G s₀ s) (i : Nat) (hP : 0x10001040 &&& P = 0x10001040) (hG : 0xc400000020 &&& G = 0xc400000020) : Frame P G s₀ (State.compensate s i) := by
  refine h₀.step (Q := 0x10001040) (H := 0xc400000020) ?_ hP hG
  unfold State.compensate
  try dsimp only
  iterate 50 all_goals try (first
    | (simp only [Frame.mk_iff]; with_reducible apply FrameC.upd <;> first | with_reducible exact fun _ => rfl | exact fun h => absurd h (by decide +kernel) | with_reducible exact fun _ h => ⟨h, rfl, rfl⟩ | with_reducible exact fun _ _ _ => rfl | with_reducible exact id | with_reducible exact fun h _ => h | with_reducible exact fun _ h => h | skip)
    | with_reducible apply Frame.ite
    | with_reducible exact Frame.refl _ _ _
    | with_reducible apply frame_put
    | with_reducible apply frame_flag
    | (with_reducible apply frame_raise_low; case hs => decide)
    | with_reducible apply Frame.foldlT
    | with_reducible assumption
    | (show (_ : Nat) = _; decide +kernel)
    | (show Nat.testBit _ _ = true; decide +kernel)
    | intro _
    | split)

theorem frame_throttle {P G : Nat} {s₀ s : State} (h₀ : Frame P G s₀ s) (i : Nat) (hP : 0x1040 &&& P = 0x1040) (hG : 0xc400000020 &&& G = 0xc400000020) : Frame P G s₀ (State.throttle s i) := by
  refine h₀.step (Q := 0x1040) (H := 0xc400000020) ?_ hP hG
  unfold State.throttle
  try dsimp only
  iterate 50 all_goals try (first
    | with_reducible apply Frame.ite
    | with_reducible exact Frame.refl _ _ _
    | with_reducible apply frame_put
    | with_reducible apply frame_flag
    | (with_reducible apply frame_raise_low; case hs => decide)
    | with_reducible apply Frame.foldlT
    | with_reducible assumption
    | (show (_ : Nat) = _; decide +kernel)
    | (show Nat.testBit _ _ = true; decide +kernel)
    | intro _
    | split)

theorem frame_dieDone {P G : Nat} {s₀ s : State} (h₀ : Frame P G s₀ s) (i : Nat) (hP : 0x10001040 &&& P = 0x10001040) (hG : 0xc400000020 &&& G = 0xc400000020) : Frame P G s₀ (State.dieDone s i) := by
  refine h₀.step (Q := 0x10001040) (H := 0xc400000020) ?_ hP hG
  unfold State.dieDone
  try dsimp only
  iterate 50 all_goals try (first
    | with_reducible apply Frame.ite
    | with_reducible exact Frame.refl _ _ _
    | with_reducible apply frame_sput
    | with_reducible apply frame_compensate
    | with_reducible apply frame_throttle
    | with_reducible apply Frame.foldlT
    | with_reducible assumption
    | (show (_ : Nat) = _; decide +kernel)
    | (show Nat.testBit _ _ = true; decide +kernel)
    | intro _
    | split)

theorem frame_setGecko {P G : Nat} {s₀ s : State} (h₀ : Frame P G s₀ s) (src : Nat) (temp : Int) (hP : 0xc64161d78 &&& P = 0xc64161d78) (hG : 0x401500c409800024 &&& G = 0x401500c409800024) : Frame P G s₀ (State.setGecko s src temp) := by
  refine h₀.step (Q := 0xc64161d78) (H := 0x401500c409800024) ?_ hP hG
  unfold State.setGecko
  try dsimp only
  iterate 50 all_goals try (first
    | (simp only [Frame.mk_iff]; with_reducible apply FrameC.upd <;> first | with_reducible exact fun _ => rfl | exact fun h => absurd h (by decide +kernel) | with_reducible exact fun _ h => ⟨h, rfl, rfl⟩ | with_reducible exact fun _ _ _ => rfl | with_reducible exact id | with_reducible exact fun h _ => h | with_reducible exact fun _ h => h | skip)
    | with_reducible apply Frame.ite
    | with_reducible exact Frame.refl _ _ _
    | with_reducible apply frame_put
    | with_reducible apply frame_sput
    | (with_reducible apply frame_raise_low; case hs => decide)
    | with_reducible apply frame_raise
    | with_reducible apply frame_enterLockout
    | with_reducible apply Frame.foldlT
    | with_reducible assumption
    | (show (_ : Nat) = _; decide +kernel)
    | (show Nat.testBit _ _ = true; decide +kernel)
    | intro _
    | split)

theorem frame_geckoTest {P G : Nat} {s₀ s : State} (h₀ : Frame P G s₀ s) (i : Nat) (hP : 0xc64161d7c &&& P = 0xc64161d7c) (hG : 0x401500c409800024 &&& G = 0x401500c409800024) : Frame P G s₀ (State.geckoTest s i) := by
  refine h₀.step (Q := 0xc64161d7c) (H := 0x401500c409800024) ?_ hP hG
  unfold State.geckoTest
  try dsimp only
  iterate 50 all_goals try (first
    | with_reducible apply Frame.ite
    | with_reducible exact Frame.refl _ _ _
    | (refine frame_takeFree_of ‹_› ?_ ?_ ?_)
    | with_reducible apply frame_takeFree
    | with_reducible apply frame_setGecko
    | with_reducible apply Frame.foldlT
    | with_reducible assumption
    | (show (_ : Nat) = _; decide +kernel)
    | (show Nat.testBit _ _ = true; decide +kernel)
    | intro _
    | split)

theorem frame_takeSensor {P G : Nat} {s₀ s : State} (h₀ : Frame P G s₀ s) (i code : Nat) (t : Int) (hP : 0x8000000 &&& P = 0x8000000) (hG : 0x0 &&& G = 0x0) : Frame P G s₀ (State.takeSensor s i code t) := by
  refine h₀.step (Q := 0x8000000) (H := 0x0) ?_ hP hG
  unfold State.takeSensor
  try dsimp only
  iterate 50 all_goals try (first
    | (simp only [Frame.mk_iff]; with_reducible apply FrameC.upd <;> first | with_reducible exact fun _ => rfl | exact fun h => absurd h (by decide +kernel) | with_reducible exact fun _ h => ⟨h, rfl, rfl⟩ | with_reducible exact fun _ _ _ => rfl | with_reducible exact id | with_reducible exact fun h _ => h | with_reducible exact fun _ h => h | skip)
    | with_reducible apply Frame.ite
    | with_reducible exact Frame.refl _ _ _
    | with_reducible apply frame_setSensor
    | with_reducible apply Frame.foldlT
    | with_reducible assumption
    | (show (_ : Nat) = _; decide +kernel)
    | (show Nat.testBit _ _ = true; decide +kernel)
    | intro _
    | split)

theorem frame_showSensor {P G : Nat} {s₀ s : State} (h₀ : Frame P G s₀ s) (i : Nat) (hP : 0x8000000 &&& P = 0x8000000) (hG : 0x400000000 &&& G = 0x400000000) : Frame P G s₀ (State.showSensor s i) := by
  refine h₀.step (Q := 0x8000000) (H := 0x400000000) ?_ hP hG
  unfold State.showSensor
  try dsimp only
  iterate 50 all_goals try (first
    | (simp only [Frame.mk_iff]; with_reducible apply FrameC.upd <;> first | with_reducible exact fun _ => rfl | exact fun h => absurd h (by decide +kernel) | with_reducible exact fun _ h => ⟨h, rfl, rfl⟩ | with_reducible exact fun _ _ _ => rfl | with_reducible exact id | with_reducible exact fun h _ => h | with_reducible exact fun _ h => h | skip)
    | with_reducible apply Frame.ite
    | with_reducible exact Frame.refl _ _ _
    | with_reducible apply frame_putAt
    | with_reducible apply frame_sputAt
    | with_reducible apply frame_setSensor
    | with_reducible apply Frame.foldlT
    | with_reducible assumption
    | (show (_ : Nat) = _; decide +kernel)
    | (show Nat.testBit _ _ = true; decide +kernel)
    | intro _
    | split)

theorem frame_evaluate {P G : Nat} {s₀ s : State} (h₀ : Frame P G s₀ s) (i code : Nat) (die : Int) (hP : 0xc7c161d7c &&& P = 0xc7c161d7c) (hG : 0x401500c409800024 &&& G = 0x401500c409800024) : Frame P G s₀ (State.evaluate s i code die) := by
  refine h₀.step (Q := 0xc7c161d7c) (H := 0x401500c409800024) ?_ hP hG
  unfold State.evaluate
  try dsimp only
  iterate 50 all_goals try (first
    | with_reducible apply Frame.ite
    | with_reducible exact Frame.refl _ _ _
    | with_reducible apply frame_judgeSensor
    | with_reducible apply frame_rateSensor
    | with_reducible apply frame_crossings
    | with_reducible apply frame_dieDone
    | with_reducible apply frame_geckoTest
    | with_reducible apply frame_takeSensor
    | with_reducible apply frame_showSensor
    | with_reducible apply Frame.foldlT
    | with_reducible assumption
    | (show (_ : Nat) = _; decide +kernel)
    | (show Nat.testBit _ _ = true; decide +kernel)
    | intro _
    | split)

theorem frame_rawThermal {P G : Nat} {s₀ s : State} (h₀ : Frame P G s₀ s) (i code : Nat) (hP : 0x0 &&& P = 0x0) (hG : 0x100 &&& G = 0x100) : Frame P G s₀ (State.rawThermal s i code) := by
  refine h₀.step (Q := 0x0) (H := 0x100) ?_ hP hG
  unfold State.rawThermal
  try dsimp only
  iterate 50 all_goals try (first
    | with_reducible apply Frame.ite
    | with_reducible exact Frame.refl _ _ _
    | with_reducible apply frame_putAt
    | with_reducible apply Frame.foldlT
    | with_reducible assumption
    | (show (_ : Nat) = _; decide +kernel)
    | (show Nat.testBit _ _ = true; decide +kernel)
    | intro _
    | split)

theorem frame_derTick {P G : Nat} {s₀ s : State} (h₀ : Frame P G s₀ s)  (hP : 0x0 &&& P = 0x0) (hG : 0x1000000 &&& G = 0x1000000) : Frame P G s₀ (State.derTick s) := by
  refine h₀.step (Q := 0x0) (H := 0x1000000) ?_ hP hG
  unfold State.derTick
  try dsimp only
  iterate 50 all_goals try (first
    | with_reducible apply Frame.ite
    | with_reducible exact Frame.refl _ _ _
    | with_reducible apply frame_put
    | with_reducible apply Frame.foldlT
    | with_reducible assumption
    | (show (_ : Nat) = _; decide +kernel)
    | (show Nat.testBit _ _ = true; decide +kernel)
    | intro _
    | split)

theorem frame_thermalCommit {P G : Nat} {s₀ s : State} (h₀ : Frame P G s₀ s)  (hP : 0x1048 &&& P = 0x1048) (hG : 0xffffffffffffffff &&& G = 0xffffffffffffffff) : Frame P G s₀ (State.thermalCommit s) := by
  refine h₀.step (Q := 0x1048) (H := 0xffffffffffffffff) ?_ hP hG
  unfold State.thermalCommit
  try dsimp only
  iterate 70 all_goals try (first
    | (simp only [Frame.mk_iff]; with_reducible apply FrameC.upd <;> first | with_reducible exact fun _ => rfl | exact fun h => absurd h (by decide +kernel) | with_reducible exact fun _ h => ⟨h, rfl, rfl⟩ | with_reducible exact fun _ _ _ => rfl | with_reducible exact id | with_reducible exact fun h _ => h | with_reducible exact fun _ h => h | (with_reducible show (Nat.testBit _ _ = false → _); exact fun _ => rfl) | skip)
    | ((with_reducible show (_ → twinRest _ = twinRest _)); intro _; exact rfl)
    | ((with_reducible show (_ → posKept _ _)); intro _; split <;> split <;> exact fun h => ⟨h, rfl, rfl⟩)
    | ((with_reducible show (_ → posKept _ _)); intro _ h; exact ⟨h, rfl, rfl⟩)
    | ((with_reducible show (_ → posKept _ _)); intro _ h; exact absurd h ‹_›)
    | ((with_reducible show (_ → coreRest _ = coreRest _)); intro _; exact rfl)
    | with_reducible apply Frame.ite
    | with_reducible exact Frame.refl _ _ _
    | with_reducible apply frame_flag
    | (with_reducible apply frame_raise_low; case hs => decide)
    | with_reducible apply Frame.foldlT
    | with_reducible assumption
    | (show (_ : Nat) = _; decide +kernel)
    | (show Nat.testBit _ _ = true; first | decide +kernel | exact allPages _)
    | with_reducible exact fun _ _ _ => rfl
    | (with_reducible show ∀ (_ : Field) (_ : Nat), _ → _; exact fun _ _ h => absurd (h.symm.trans (allPages _)) (by decide))
    | with_reducible apply fieldPut_wf
    | with_reducible apply copyFields_wf
    | with_reducible apply copyInsts_wf
    | with_reducible apply copyBay_wf
    | with_reducible apply copyAll_wf
    | with_reducible apply offered_wf
    | with_reducible refine foldl_wf (fun _ _ h => copyBay_wf h) ?_
    | (intro _ _; dsimp only)
    | intro _
    | split)

end Sys2Proof.Laws
end

