-- ==== Sys2Proof/Laws/Frame6.lean ====
section
/-! SUPPORT. Frame laws: what each operation of these files of Machine/ can touch: Wheel, WheelPoint. -/

namespace Sys2Proof.Laws

open Sys2Proof Sys2Proof.Machine

set_option Elab.async false
set_option linter.all false

theorem frame_whlTo {P G : Nat} {s₀ s : State} (h₀ : Frame P G s₀ s) (st : Nat) (hP : 0x100000000 &&& P = 0x100000000) (hG : 0x10 &&& G = 0x10) : Frame P G s₀ (State.whlTo s st) := by
  refine h₀.step (Q := 0x100000000) (H := 0x10) ?_ hP hG
  unfold State.whlTo
  try dsimp only
  iterate 50 all_goals try (first
    | with_reducible apply Frame.ite
    | with_reducible exact Frame.refl _ _ _
    | with_reducible apply frame_put
    | with_reducible apply frame_putSat
    | with_reducible apply frame_crestSpoil
    | with_reducible apply Frame.foldlT
    | with_reducible assumption
    | (show (_ : Nat) = _; decide +kernel)
    | (show Nat.testBit _ _ = true; decide +kernel)
    | intro _
    | split)

theorem frame_acquire {P G : Nat} {s₀ s : State} (h₀ : Frame P G s₀ s) (freq : Nat) (hP : 0x100080000 &&& P = 0x100080000) (hG : 0x10 &&& G = 0x10) : Frame P G s₀ (State.acquire s freq) := by
  refine h₀.step (Q := 0x100080000) (H := 0x10) ?_ hP hG
  unfold State.acquire
  try dsimp only
  iterate 50 all_goals try (first
    | (simp only [Frame.mk_iff]; with_reducible apply FrameC.upd <;> first | with_reducible exact fun _ => rfl | exact fun h => absurd h (by decide +kernel) | with_reducible exact fun _ h => ⟨h, rfl, rfl⟩ | with_reducible exact fun _ _ _ => rfl | with_reducible exact id | with_reducible exact fun h _ => h | with_reducible exact fun _ h => h | skip)
    | with_reducible apply Frame.ite
    | with_reducible exact Frame.refl _ _ _
    | with_reducible apply frame_whlTo
    | with_reducible apply Frame.foldlT
    | with_reducible assumption
    | (show (_ : Nat) = _; decide +kernel)
    | (show Nat.testBit _ _ = true; decide +kernel)
    | intro _
    | split)

theorem frame_whlDrop {P G : Nat} {s₀ s : State} (h₀ : Frame P G s₀ s)  (hP : 0x100080000 &&& P = 0x100080000) (hG : 0x10 &&& G = 0x10) : Frame P G s₀ (State.whlDrop s) := by
  refine h₀.step (Q := 0x100080000) (H := 0x10) ?_ hP hG
  unfold State.whlDrop
  try dsimp only
  iterate 50 all_goals try (first
    | (simp only [Frame.mk_iff]; with_reducible apply FrameC.upd <;> first | with_reducible exact fun _ => rfl | exact fun h => absurd h (by decide +kernel) | with_reducible exact fun _ h => ⟨h, rfl, rfl⟩ | with_reducible exact fun _ _ _ => rfl | with_reducible exact id | with_reducible exact fun h _ => h | with_reducible exact fun _ h => h | skip)
    | with_reducible apply Frame.ite
    | with_reducible exact Frame.refl _ _ _
    | with_reducible apply frame_put
    | with_reducible apply frame_whlTo
    | with_reducible apply Frame.foldlT
    | with_reducible assumption
    | (show (_ : Nat) = _; decide +kernel)
    | (show Nat.testBit _ _ = true; decide +kernel)
    | intro _
    | split)

theorem frame_carry {P G : Nat} {s₀ s : State} (h₀ : Frame P G s₀ s)  (hP : 0x1040 &&& P = 0x1040) (hG : 0xc000000030 &&& G = 0xc000000030) : Frame P G s₀ (State.carry s) := by
  refine h₀.step (Q := 0x1040) (H := 0xc000000030) ?_ hP hG
  unfold State.carry
  try dsimp only
  iterate 50 all_goals try (first
    | with_reducible apply Frame.ite
    | with_reducible exact Frame.refl _ _ _
    | with_reducible apply frame_put
    | (with_reducible apply frame_raise_low; case hs => decide)
    | with_reducible apply Frame.foldlT
    | with_reducible assumption
    | (show (_ : Nat) = _; decide +kernel)
    | (show Nat.testBit _ _ = true; decide +kernel)
    | intro _
    | split)

theorem frame_lossEvent {P G : Nat} {s₀ s : State} (h₀ : Frame P G s₀ s) (why : LossReason) (hP : 0x1040 &&& P = 0x1040) (hG : 0xc000000020 &&& G = 0xc000000020) : Frame P G s₀ (State.lossEvent s why) := by
  refine h₀.step (Q := 0x1040) (H := 0xc000000020) ?_ hP hG
  unfold State.lossEvent
  try dsimp only
  iterate 50 all_goals try (first
    | with_reducible apply Frame.ite
    | with_reducible exact Frame.refl _ _ _
    | (with_reducible apply frame_raise_low; case hs => decide)
    | with_reducible apply Frame.foldlT
    | with_reducible assumption
    | (show (_ : Nat) = _; decide +kernel)
    | (show Nat.testBit _ _ = true; decide +kernel)
    | intro _
    | split)

theorem frame_refLost {P G : Nat} {s₀ s : State} (h₀ : Frame P G s₀ s) (why : LossReason) (bValid : Bool) (hP : 0x100081040 &&& P = 0x100081040) (hG : 0xc000000030 &&& G = 0xc000000030) : Frame P G s₀ (State.refLost s why bValid) := by
  refine h₀.step (Q := 0x100081040) (H := 0xc000000030) ?_ hP hG
  unfold State.refLost
  try dsimp only
  iterate 50 all_goals try (first
    | with_reducible apply Frame.ite
    | with_reducible exact Frame.refl _ _ _
    | with_reducible apply frame_flag
    | with_reducible apply frame_bump
    | with_reducible apply frame_whlDrop
    | with_reducible apply frame_carry
    | with_reducible apply frame_lossEvent
    | with_reducible apply Frame.foldlT
    | with_reducible assumption
    | (show (_ : Nat) = _; decide +kernel)
    | (show Nat.testBit _ _ = true; decide +kernel)
    | intro _
    | split)

theorem frame_ofsStep {P G : Nat} {s₀ s : State} (h₀ : Frame P G s₀ s)  (hP : 0x80000 &&& P = 0x80000) (hG : 0x10 &&& G = 0x10) : Frame P G s₀ (State.ofsStep s) := by
  refine h₀.step (Q := 0x80000) (H := 0x10) ?_ hP hG
  unfold State.ofsStep
  try dsimp only
  iterate 50 all_goals try (first
    | (simp only [Frame.mk_iff]; with_reducible apply FrameC.upd <;> first | with_reducible exact fun _ => rfl | exact fun h => absurd h (by decide +kernel) | with_reducible exact fun _ h => ⟨h, rfl, rfl⟩ | with_reducible exact fun _ _ _ => rfl | with_reducible exact id | with_reducible exact fun h _ => h | with_reducible exact fun _ h => h | skip)
    | with_reducible apply Frame.ite
    | with_reducible exact Frame.refl _ _ _
    | with_reducible apply frame_put
    | with_reducible apply frame_flag
    | with_reducible apply Frame.foldlT
    | with_reducible assumption
    | (show (_ : Nat) = _; decide +kernel)
    | (show Nat.testBit _ _ = true; decide +kernel)
    | intro _
    | split)

theorem frame_skewNow {P G : Nat} {s₀ s : State} (h₀ : Frame P G s₀ s)  (hP : 0x80000 &&& P = 0x80000) (hG : 0x10 &&& G = 0x10) : Frame P G s₀ (State.skewNow s) := by
  refine h₀.step (Q := 0x80000) (H := 0x10) ?_ hP hG
  unfold State.skewNow
  try dsimp only
  iterate 50 all_goals try (first
    | (simp only [Frame.mk_iff]; with_reducible apply FrameC.upd <;> first | with_reducible exact fun _ => rfl | exact fun h => absurd h (by decide +kernel) | with_reducible exact fun _ h => ⟨h, rfl, rfl⟩ | with_reducible exact fun _ _ _ => rfl | with_reducible exact id | with_reducible exact fun h _ => h | with_reducible exact fun _ h => h | skip)
    | with_reducible apply Frame.ite
    | with_reducible exact Frame.refl _ _ _
    | with_reducible apply frame_flag
    | with_reducible apply Frame.foldlT
    | with_reducible assumption
    | (show (_ : Nat) = _; decide +kernel)
    | (show Nat.testBit _ _ = true; decide +kernel)
    | intro _
    | split)

theorem frame_lockedCycle {P G : Nat} {s₀ s : State} (h₀ : Frame P G s₀ s) (zero : Bool) (hP : 0x80000 &&& P = 0x80000) (hG : 0x0 &&& G = 0x0) : Frame P G s₀ (State.lockedCycle s zero) := by
  refine h₀.step (Q := 0x80000) (H := 0x0) ?_ hP hG
  unfold State.lockedCycle
  dsimp only
  constructor
  case f_pos => intro _ h; dsimp only; split <;> split <;> exact ⟨h, rfl, rfl⟩
  all_goals first
    | (intro hx; exact absurd hx (by decide +kernel))
    | (intros; first | rfl | assumption)

theorem frame_wheelMove {P G : Nat} {s₀ s : State} (h₀ : Frame P G s₀ s) (m : WheelMeas) (hP : 0x1000080000 &&& P = 0x1000080000) (hG : 0x10 &&& G = 0x10) : Frame P G s₀ (State.wheelMove s m) := by
  refine h₀.step (Q := 0x1000080000) (H := 0x10) ?_ hP hG
  unfold State.wheelMove
  try dsimp only
  iterate 50 all_goals try (first
    | (simp only [Frame.mk_iff]; with_reducible apply FrameC.upd <;> first | with_reducible exact fun _ => rfl | exact fun h => absurd h (by decide +kernel) | with_reducible exact fun _ h => ⟨h, rfl, rfl⟩ | with_reducible exact fun _ _ _ => rfl | with_reducible exact id | with_reducible exact fun h _ => h | with_reducible exact fun _ h => h | skip)
    | with_reducible apply Frame.ite
    | with_reducible exact Frame.refl _ _ _
    | with_reducible apply frame_put
    | with_reducible apply frame_sput
    | with_reducible apply frame_putSat
    | with_reducible apply frame_ofsStep
    | with_reducible apply frame_skewNow
    | with_reducible apply frame_lockedCycle
    | with_reducible apply Frame.foldlT
    | with_reducible assumption
    | (show (_ : Nat) = _; decide +kernel)
    | (show Nat.testBit _ _ = true; decide +kernel)
    | intro _
    | split)

theorem frame_refill {P G : Nat} {s₀ s : State} (h₀ : Frame P G s₀ s) (pages : List Nat) (hP : 0x8 &&& P = 0x8) (hG : 0x0 &&& G = 0x0) : Frame P G s₀ (State.refill s pages) := by
  refine h₀.step (Q := 0x8) (H := 0x0) ?_ hP hG
  unfold State.refill
  try dsimp only
  iterate 70 all_goals try (first
    | (simp only [Frame.mk_iff]; with_reducible apply FrameC.upd <;> first | with_reducible exact fun _ => rfl | exact fun h => absurd h (by decide +kernel) | with_reducible exact fun _ h => ⟨h, rfl, rfl⟩ | with_reducible exact fun _ _ _ => rfl | with_reducible exact id | with_reducible exact fun h _ => h | with_reducible exact fun _ h => h | (with_reducible show (Nat.testBit _ _ = false → _); exact fun _ => rfl) | skip)
    | ((with_reducible show (_ → twinRest _ = twinRest _)); intro _; exact rfl)
    | ((with_reducible show (_ → posKept _ _)); intro _; split <;> split <;> exact fun h => ⟨h, rfl, rfl⟩)
    | ((with_reducible show (_ → posKept _ _)); intro _ h; exact ⟨h, rfl, rfl⟩)
    | ((with_reducible show (_ → posKept _ _)); intro _ h; exact absurd h ‹_›)
    | ((with_reducible show (_ → coreRest _ = coreRest _)); intro _; exact rfl)
    | with_reducible apply Frame.ite
    | with_reducible exact Frame.refl _ _ _
    | with_reducible apply Frame.foldlT
    | with_reducible assumption
    | (show (_ : Nat) = _; decide +kernel)
    | (show Nat.testBit _ _ = true; first | decide +kernel | exact allPages _)
    | with_reducible exact fun _ _ _ => rfl
    | (with_reducible show ∀ (_ : Field) (_ : Nat), _ → _; exact fun _ _ h => absurd (h.symm.trans (allPages _)) (by decide))
    | with_reducible apply fieldPut_wf
    | with_reducible apply copyFields_wf
    | with_reducible apply copyInsts_wf
    | with_reducible apply copyBay_wf
    | with_reducible apply copyAll_wf
    | with_reducible apply offered_wf
    | with_reducible refine foldl_wf (fun _ _ h => copyBay_wf h) ?_
    | (intro _ _; dsimp only)
    | intro _
    | split)

theorem frame_stepsCommit {P G : Nat} {s₀ s : State} (h₀ : Frame P G s₀ s)  (hP : 0x1048 &&& P = 0x1048) (hG : 0xffffffffffffffff &&& G = 0xffffffffffffffff) : Frame P G s₀ (State.stepsCommit s) := by
  refine h₀.step (Q := 0x1048) (H := 0xffffffffffffffff) ?_ hP hG
  unfold State.stepsCommit
  try dsimp only
  iterate 70 all_goals try (first
    | (simp only [Frame.mk_iff]; with_reducible apply FrameC.upd <;> first | with_reducible exact fun _ => rfl | exact fun h => absurd h (by decide +kernel) | with_reducible exact fun _ h => ⟨h, rfl, rfl⟩ | with_reducible exact fun _ _ _ => rfl | with_reducible exact id | with_reducible exact fun h _ => h | with_reducible exact fun _ h => h | (with_reducible show (Nat.testBit _ _ = false → _); exact fun _ => rfl) | skip)
    | ((with_reducible show (_ → twinRest _ = twinRest _)); intro _; exact rfl)
    | ((with_reducible show (_ → posKept _ _)); intro _; split <;> split <;> exact fun h => ⟨h, rfl, rfl⟩)
    | ((with_reducible show (_ → posKept _ _)); intro _ h; exact ⟨h, rfl, rfl⟩)
    | ((with_reducible show (_ → posKept _ _)); intro _ h; exact absurd h ‹_›)
    | ((with_reducible show (_ → coreRest _ = coreRest _)); intro _; exact rfl)
    | with_reducible apply Frame.ite
    | with_reducible exact Frame.refl _ _ _
    | with_reducible apply frame_flag
    | (with_reducible apply frame_raise_low; case hs => decide)
    | with_reducible apply frame_refill
    | with_reducible apply Frame.foldlT
    | with_reducible assumption
    | (show (_ : Nat) = _; decide +kernel)
    | (show Nat.testBit _ _ = true; first | decide +kernel | exact allPages _)
    | with_reducible exact fun _ _ _ => rfl
    | (with_reducible show ∀ (_ : Field) (_ : Nat), _ → _; exact fun _ _ h => absurd (h.symm.trans (allPages _)) (by decide))
    | with_reducible apply fieldPut_wf
    | with_reducible apply copyFields_wf
    | with_reducible apply copyInsts_wf
    | with_reducible apply copyBay_wf
    | with_reducible apply copyAll_wf
    | with_reducible apply offered_wf
    | with_reducible refine foldl_wf (fun _ _ h => copyBay_wf h) ?_
    | (intro _ _; dsimp only)
    | intro _
    | split)

theorem frame_holdupCommit {P G : Nat} {s₀ s : State} (h₀ : Frame P G s₀ s)  (hP : 0x1048 &&& P = 0x1048) (hG : 0xffffffffffffffff &&& G = 0xffffffffffffffff) : Frame P G s₀ (State.holdupCommit s) := by
  refine h₀.step (Q := 0x1048) (H := 0xffffffffffffffff) ?_ hP hG
  unfold State.holdupCommit
  try dsimp only
  iterate 70 all_goals try (first
    | (simp only [Frame.mk_iff]; with_reducible apply FrameC.upd <;> first | with_reducible exact fun _ => rfl | exact fun h => absurd h (by decide +kernel) | with_reducible exact fun _ h => ⟨h, rfl, rfl⟩ | with_reducible exact fun _ _ _ => rfl | with_reducible exact id | with_reducible exact fun h _ => h | with_reducible exact fun _ h => h | (with_reducible show (Nat.testBit _ _ = false → _); exact fun _ => rfl) | skip)
    | ((with_reducible show (_ → twinRest _ = twinRest _)); intro _; exact rfl)
    | ((with_reducible show (_ → posKept _ _)); intro _; split <;> split <;> exact fun h => ⟨h, rfl, rfl⟩)
    | ((with_reducible show (_ → posKept _ _)); intro _ h; exact ⟨h, rfl, rfl⟩)
    | ((with_reducible show (_ → posKept _ _)); intro _ h; exact absurd h ‹_›)
    | ((with_reducible show (_ → coreRest _ = coreRest _)); intro _; exact rfl)
    | with_reducible apply Frame.ite
    | with_reducible exact Frame.refl _ _ _
    | with_reducible apply frame_flag
    | (with_reducible apply frame_raise_low; case hs => decide)
    | with_reducible apply frame_refill
    | with_reducible apply Frame.foldlT
    | with_reducible assumption
    | (show (_ : Nat) = _; decide +kernel)
    | (show Nat.testBit _ _ = true; first | decide +kernel | exact allPages _)
    | with_reducible exact fun _ _ _ => rfl
    | (with_reducible show ∀ (_ : Field) (_ : Nat), _ → _; exact fun _ _ h => absurd (h.symm.trans (allPages _)) (by decide))
    | with_reducible apply fieldPut_wf
    | with_reducible apply copyFields_wf
    | with_reducible apply copyInsts_wf
    | with_reducible apply copyBay_wf
    | with_reducible apply copyAll_wf
    | with_reducible apply offered_wf
    | with_reducible refine foldl_wf (fun _ _ h => copyBay_wf h) ?_
    | (intro _ _; dsimp only)
    | intro _
    | split)

theorem frame_stringsCommit {P G : Nat} {s₀ s : State} (h₀ : Frame P G s₀ s)  (hP : 0x1048 &&& P = 0x1048) (hG : 0xffffffffffffffff &&& G = 0xffffffffffffffff) : Frame P G s₀ (State.stringsCommit s) := by
  refine h₀.step (Q := 0x1048) (H := 0xffffffffffffffff) ?_ hP hG
  unfold State.stringsCommit
  try dsimp only
  iterate 70 all_goals try (first
    | (simp only [Frame.mk_iff]; with_reducible apply FrameC.upd <;> first | with_reducible exact fun _ => rfl | exact fun h => absurd h (by decide +kernel) | with_reducible exact fun _ h => ⟨h, rfl, rfl⟩ | with_reducible exact fun _ _ _ => rfl | with_reducible exact id | with_reducible exact fun h _ => h | with_reducible exact fun _ h => h | (with_reducible show (Nat.testBit _ _ = false → _); exact fun _ => rfl) | skip)
    | ((with_reducible show (_ → twinRest _ = twinRest _)); intro _; exact rfl)
    | ((with_reducible show (_ → posKept _ _)); intro _; split <;> split <;> exact fun h => ⟨h, rfl, rfl⟩)
    | ((with_reducible show (_ → posKept _ _)); intro _ h; exact ⟨h, rfl, rfl⟩)
    | ((with_reducible show (_ → posKept _ _)); intro _ h; exact absurd h ‹_›)
    | ((with_reducible show (_ → coreRest _ = coreRest _)); intro _; exact rfl)
    | with_reducible apply Frame.ite
    | with_reducible exact Frame.refl _ _ _
    | with_reducible apply frame_flag
    | (with_reducible apply frame_raise_low; case hs => decide)
    | with_reducible apply frame_refill
    | with_reducible apply Frame.foldlT
    | with_reducible assumption
    | (show (_ : Nat) = _; decide +kernel)
    | (show Nat.testBit _ _ = true; first | decide +kernel | exact allPages _)
    | with_reducible exact fun _ _ _ => rfl
    | (with_reducible show ∀ (_ : Field) (_ : Nat), _ → _; exact fun _ _ h => absurd (h.symm.trans (allPages _)) (by decide))
    | with_reducible apply fieldPut_wf
    | with_reducible apply copyFields_wf
    | with_reducible apply copyInsts_wf
    | with_reducible apply copyBay_wf
    | with_reducible apply copyAll_wf
    | with_reducible apply offered_wf
    | with_reducible refine foldl_wf (fun _ _ h => copyBay_wf h) ?_
    | (intro _ _; dsimp only)
    | intro _
    | split)

theorem frame_estimatorCommit {P G : Nat} {s₀ s : State} (h₀ : Frame P G s₀ s)  (hP : 0x104c &&& P = 0x104c) (hG : 0xffffffffffffffff &&& G = 0xffffffffffffffff) : Frame P G s₀ (State.estimatorCommit s) := by
  refine h₀.step (Q := 0x104c) (H := 0xffffffffffffffff) ?_ hP hG
  unfold State.estimatorCommit
  try dsimp only
  iterate 70 all_goals try (first
    | (simp only [Frame.mk_iff]; with_reducible apply FrameC.upd <;> first | with_reducible exact fun _ => rfl | exact fun h => absurd h (by decide +kernel) | with_reducible exact fun _ h => ⟨h, rfl, rfl⟩ | with_reducible exact fun _ _ _ => rfl | with_reducible exact id | with_reducible exact fun h _ => h | with_reducible exact fun _ h => h | (with_reducible show (Nat.testBit _ _ = false → _); exact fun _ => rfl) | skip)
    | ((with_reducible show (_ → twinRest _ = twinRest _)); intro _; exact rfl)
    | ((with_reducible show (_ → posKept _ _)); intro _; split <;> split <;> exact fun h => ⟨h, rfl, rfl⟩)
    | ((with_reducible show (_ → posKept _ _)); intro _ h; exact ⟨h, rfl, rfl⟩)
    | ((with_reducible show (_ → posKept _ _)); intro _ h; exact absurd h ‹_›)
    | ((with_reducible show (_ → coreRest _ = coreRest _)); intro _; exact rfl)
    | with_reducible apply Frame.ite
    | with_reducible exact Frame.refl _ _ _
    | with_reducible apply frame_flag
    | (with_reducible apply frame_raiseP1_low; case hs => decide)
    | with_reducible apply frame_refill
    | with_reducible apply Frame.foldlT
    | with_reducible assumption
    | (show (_ : Nat) = _; decide +kernel)
    | (show Nat.testBit _ _ = true; first | decide +kernel | exact allPages _)
    | with_reducible exact fun _ _ _ => rfl
    | (with_reducible show ∀ (_ : Field) (_ : Nat), _ → _; exact fun _ _ h => absurd (h.symm.trans (allPages _)) (by decide))
    | with_reducible apply fieldPut_wf
    | with_reducible apply copyFields_wf
    | with_reducible apply copyInsts_wf
    | with_reducible apply copyBay_wf
    | with_reducible apply copyAll_wf
    | with_reducible apply offered_wf
    | with_reducible refine foldl_wf (fun _ _ h => copyBay_wf h) ?_
    | (intro _ _; dsimp only)
    | intro _
    | split)

theorem frame_fuseCommit {P G : Nat} {s₀ s : State} (h₀ : Frame P G s₀ s)  (hP : 0x1048 &&& P = 0x1048) (hG : 0xffffffffffffffff &&& G = 0xffffffffffffffff) : Frame P G s₀ (State.fuseCommit s) := by
  refine h₀.step (Q := 0x1048) (H := 0xffffffffffffffff) ?_ hP hG
  unfold State.fuseCommit
  try dsimp only
  iterate 70 all_goals try (first
    | (simp only [Frame.mk_iff]; with_reducible apply FrameC.upd <;> first | with_reducible exact fun _ => rfl | exact fun h => absurd h (by decide +kernel) | with_reducible exact fun _ h => ⟨h, rfl, rfl⟩ | with_reducible exact fun _ _ _ => rfl | with_reducible exact id | with_reducible exact fun h _ => h | with_reducible exact fun _ h => h | (with_reducible show (Nat.testBit _ _ = false → _); exact fun _ => rfl) | skip)
    | ((with_reducible show (_ → twinRest _ = twinRest _)); intro _; exact rfl)
    | ((with_reducible show (_ → posKept _ _)); intro _; split <;> split <;> exact fun h => ⟨h, rfl, rfl⟩)
    | ((with_reducible show (_ → posKept _ _)); intro _ h; exact ⟨h, rfl, rfl⟩)
    | ((with_reducible show (_ → posKept _ _)); intro _ h; exact absurd h ‹_›)
    | ((with_reducible show (_ → coreRest _ = coreRest _)); intro _; exact rfl)
    | with_reducible apply Frame.ite
    | with_reducible exact Frame.refl _ _ _
    | with_reducible apply frame_flag
    | (with_reducible apply frame_raise_low; case hs => decide)
    | with_reducible apply frame_refill
    | with_reducible apply Frame.foldlT
    | with_reducible assumption
    | (show (_ : Nat) = _; decide +kernel)
    | (show Nat.testBit _ _ = true; first | decide +kernel | exact allPages _)
    | with_reducible exact fun _ _ _ => rfl
    | (with_reducible show ∀ (_ : Field) (_ : Nat), _ → _; exact fun _ _ h => absurd (h.symm.trans (allPages _)) (by decide))
    | with_reducible apply fieldPut_wf
    | with_reducible apply copyFields_wf
    | with_reducible apply copyInsts_wf
    | with_reducible apply copyBay_wf
    | with_reducible apply copyAll_wf
    | with_reducible apply offered_wf
    | with_reducible refine foldl_wf (fun _ _ h => copyBay_wf h) ?_
    | (intro _ _; dsimp only)
    | intro _
    | split)

theorem frame_recorderCommit {P G : Nat} {s₀ s : State} (h₀ : Frame P G s₀ s)  (hP : 0x1048 &&& P = 0x1048) (hG : 0xffffffffffffffff &&& G = 0xffffffffffffffff) : Frame P G s₀ (State.recorderCommit s) := by
  refine h₀.step (Q := 0x1048) (H := 0xffffffffffffffff) ?_ hP hG
  unfold State.recorderCommit
  try dsimp only
  iterate 70 all_goals try (first
    | (simp only [Frame.mk_iff]; with_reducible apply FrameC.upd <;> first | with_reducible exact fun _ => rfl | exact fun h => absurd h (by decide +kernel) | with_reducible exact fun _ h => ⟨h, rfl, rfl⟩ | with_reducible exact fun _ _ _ => rfl | with_reducible exact id | with_reducible exact fun h _ => h | with_reducible exact fun _ h => h | (with_reducible show (Nat.testBit _ _ = false → _); exact fun _ => rfl) | skip)
    | ((with_reducible show (_ → twinRest _ = twinRest _)); intro _; exact rfl)
    | ((with_reducible show (_ → posKept _ _)); intro _; split <;> split <;> exact fun h => ⟨h, rfl, rfl⟩)
    | ((with_reducible show (_ → posKept _ _)); intro _ h; exact ⟨h, rfl, rfl⟩)
    | ((with_reducible show (_ → posKept _ _)); intro _ h; exact absurd h ‹_›)
    | ((with_reducible show (_ → coreRest _ = coreRest _)); intro _; exact rfl)
    | with_reducible apply Frame.ite
    | with_reducible exact Frame.refl _ _ _
    | with_reducible apply frame_flag
    | (with_reducible apply frame_raise_low; case hs => decide)
    | with_reducible apply frame_refill
    | with_reducible apply Frame.foldlT
    | with_reducible assumption
    | (show (_ : Nat) = _; decide +kernel)
    | (show Nat.testBit _ _ = true; first | decide +kernel | exact allPages _)
    | with_reducible exact fun _ _ _ => rfl
    | (with_reducible show ∀ (_ : Field) (_ : Nat), _ → _; exact fun _ _ h => absurd (h.symm.trans (allPages _)) (by decide))
    | with_reducible apply fieldPut_wf
    | with_reducible apply copyFields_wf
    | with_reducible apply copyInsts_wf
    | with_reducible apply copyBay_wf
    | with_reducible apply copyAll_wf
    | with_reducible apply offered_wf
    | with_reducible refine foldl_wf (fun _ _ h => copyBay_wf h) ?_
    | (intro _ _; dsimp only)
    | intro _
    | split)

theorem frame_twinCommit {P G : Nat} {s₀ s : State} (h₀ : Frame P G s₀ s)  (hP : 0x0 &&& P = 0x0) (hG : 0xffffffffffffffff &&& G = 0xffffffffffffffff) : Frame P G s₀ (State.twinCommit s) := by
  refine h₀.step (Q := 0x0) (H := 0xffffffffffffffff) ?_ hP hG
  unfold State.twinCommit
  try dsimp only
  iterate 70 all_goals try (first
    | (simp only [Frame.mk_iff]; with_reducible apply FrameC.upd <;> first | with_reducible exact fun _ => rfl | exact fun h => absurd h (by decide +kernel) | with_reducible exact fun _ h => ⟨h, rfl, rfl⟩ | with_reducible exact fun _ _ _ => rfl | with_reducible exact id | with_reducible exact fun h _ => h | with_reducible exact fun _ h => h | (with_reducible show (Nat.testBit _ _ = false → _); exact fun _ => rfl) | skip)
    | ((with_reducible show (_ → twinRest _ = twinRest _)); intro _; exact rfl)
    | ((with_reducible show (_ → posKept _ _)); intro _; split <;> split <;> exact fun h => ⟨h, rfl, rfl⟩)
    | ((with_reducible show (_ → posKept _ _)); intro _ h; exact ⟨h, rfl, rfl⟩)
    | ((with_reducible show (_ → posKept _ _)); intro _ h; exact absurd h ‹_›)
    | ((with_reducible show (_ → coreRest _ = coreRest _)); intro _; exact rfl)
    | with_reducible apply Frame.ite
    | with_reducible exact Frame.refl _ _ _
    | with_reducible apply Frame.foldlT
    | with_reducible assumption
    | (show (_ : Nat) = _; decide +kernel)
    | (show Nat.testBit _ _ = true; first | decide +kernel | exact allPages _)
    | with_reducible exact fun _ _ _ => rfl
    | (with_reducible show ∀ (_ : Field) (_ : Nat), _ → _; exact fun _ _ h => absurd (h.symm.trans (allPages _)) (by decide))
    | with_reducible apply fieldPut_wf
    | with_reducible apply copyFields_wf
    | with_reducible apply copyInsts_wf
    | with_reducible apply copyBay_wf
    | with_reducible apply copyAll_wf
    | with_reducible apply offered_wf
    | with_reducible refine foldl_wf (fun _ _ h => copyBay_wf h) ?_
    | (intro _ _; dsimp only)
    | intro _
    | split)

theorem frame_angle0Commits {P G : Nat} {s₀ s : State} (h₀ : Frame P G s₀ s)  (hP : 0x40020105c &&& P = 0x40020105c) (hG : 0xffffffffffffffff &&& G = 0xffffffffffffffff) : Frame P G s₀ (State.angle0Commits s) := by
  refine h₀.step (Q := 0x40020105c) (H := 0xffffffffffffffff) ?_ hP hG
  unfold State.angle0Commits
  try dsimp only
  iterate 50 all_goals try (first
    | with_reducible apply Frame.ite
    | with_reducible exact Frame.refl _ _ _
    | with_reducible apply frame_boundary
    | with_reducible apply frame_trackerCommit
    | with_reducible apply frame_contractsCommit
    | with_reducible apply frame_capCommit
    | with_reducible apply frame_thermalCommit
    | with_reducible apply frame_stepsCommit
    | with_reducible apply frame_holdupCommit
    | with_reducible apply frame_stringsCommit
    | with_reducible apply frame_estimatorCommit
    | with_reducible apply frame_fuseCommit
    | with_reducible apply frame_recorderCommit
    | with_reducible apply frame_twinCommit
    | with_reducible apply Frame.foldlT
    | with_reducible assumption
    | (show (_ : Nat) = _; decide +kernel)
    | (show Nat.testBit _ _ = true; decide +kernel)
    | intro _
    | split)

theorem frame_baySecond {P G : Nat} {s₀ s : State} (h₀ : Frame P G s₀ s) (dt : Nat) (b : Nat) (hP : 0x800000 &&& P = 0x800000) (hG : 0x200000 &&& G = 0x200000) : Frame P G s₀ (State.baySecond dt s b) := by
  refine h₀.step (Q := 0x800000) (H := 0x200000) ?_ hP hG
  unfold State.baySecond
  try dsimp only
  iterate 50 all_goals try (first
    | (simp only [Frame.mk_iff]; with_reducible apply FrameC.upd <;> first | with_reducible exact fun _ => rfl | exact fun h => absurd h (by decide +kernel) | with_reducible exact fun _ h => ⟨h, rfl, rfl⟩ | with_reducible exact fun _ _ _ => rfl | with_reducible exact id | with_reducible exact fun h _ => h | with_reducible exact fun _ h => h | skip)
    | with_reducible apply Frame.ite
    | with_reducible exact Frame.refl _ _ _
    | with_reducible apply frame_putAtSat
    | with_reducible apply frame_setBay
    | with_reducible apply Frame.foldlT
    | with_reducible assumption
    | (show (_ : Nat) = _; decide +kernel)
    | (show Nat.testBit _ _ = true; decide +kernel)
    | intro _
    | split)

theorem frame_globalAverages {P G : Nat} {s₀ s : State} (h₀ : Frame P G s₀ s)  (hP : 0x0 &&& P = 0x0) (hG : 0x2 &&& G = 0x2) : Frame P G s₀ (State.globalAverages s) := by
  refine h₀.step (Q := 0x0) (H := 0x2) ?_ hP hG
  unfold State.globalAverages
  try dsimp only
  iterate 50 all_goals try (first
    | with_reducible apply Frame.ite
    | with_reducible exact Frame.refl _ _ _
    | with_reducible apply frame_put
    | with_reducible apply Frame.foldlT
    | with_reducible assumption
    | (show (_ : Nat) = _; decide +kernel)
    | (show Nat.testBit _ _ = true; decide +kernel)
    | intro _
    | split)

theorem frame_tickLoad {P G : Nat} {s₀ s : State} (h₀ : Frame P G s₀ s)  (hP : 0x100000000 &&& P = 0x100000000) (hG : 0x0 &&& G = 0x0) : Frame P G s₀ (State.tickLoad s) := by
  refine h₀.step (Q := 0x100000000) (H := 0x0) ?_ hP hG
  unfold State.tickLoad
  try dsimp only
  iterate 50 all_goals try (first
    | (simp only [Frame.mk_iff]; with_reducible apply FrameC.upd <;> first | with_reducible exact fun _ => rfl | exact fun h => absurd h (by decide +kernel) | with_reducible exact fun _ h => ⟨h, rfl, rfl⟩ | with_reducible exact fun _ _ _ => rfl | with_reducible exact id | with_reducible exact fun h _ => h | with_reducible exact fun _ h => h | skip)
    | with_reducible apply Frame.ite
    | with_reducible exact Frame.refl _ _ _
    | with_reducible apply Frame.foldlT
    | with_reducible assumption
    | (show (_ : Nat) = _; decide +kernel)
    | (show Nat.testBit _ _ = true; decide +kernel)
    | intro _
    | split)

theorem frame_closeWindows {P G : Nat} {s₀ s : State} (h₀ : Frame P G s₀ s) (dt : Nat) (zero : Bool) (m : WheelMeas) (hP : 0x722c81c44 &&& P = 0x722c81c44) (hG : 0xffffffffffffffff &&& G = 0xffffffffffffffff) : Frame P G s₀ (State.closeWindows s dt zero m) := by
  refine h₀.step (Q := 0x722c81c44) (H := 0xffffffffffffffff) ?_ hP hG
  unfold State.closeWindows
  try dsimp only
  iterate 50 all_goals try (first
    | (simp only [Frame.mk_iff]; with_reducible apply FrameC.upd <;> first | with_reducible exact fun _ => rfl | exact fun h => absurd h (by decide +kernel) | with_reducible exact fun _ h => ⟨h, rfl, rfl⟩ | with_reducible exact fun _ _ _ => rfl | with_reducible exact id | with_reducible exact fun h _ => h | with_reducible exact fun _ h => h | skip)
    | with_reducible apply Frame.ite
    | with_reducible exact Frame.refl _ _ _
    | with_reducible apply frame_bayLearn
    | with_reducible apply frame_crestCycle
    | with_reducible apply frame_closeBay
    | with_reducible apply frame_closeShelf
    | with_reducible apply frame_closePower
    | with_reducible apply frame_telemetryTick
    | with_reducible apply frame_baySecond
    | with_reducible apply frame_globalAverages
    | with_reducible apply frame_tickLoad
    | with_reducible apply Frame.foldlT
    | with_reducible assumption
    | (show (_ : Nat) = _; decide +kernel)
    | (show Nat.testBit _ _ = true; decide +kernel)
    | intro _
    | split)

theorem frame_angle0Modes {P G : Nat} {s₀ s : State} (h₀ : Frame P G s₀ s)  (hP : 0xde7ce1c78 &&& P = 0xde7ce1c78) (hG : 0xffffffffffffffff &&& G = 0xffffffffffffffff) : Frame P G s₀ (State.angle0Modes s) := by
  refine h₀.step (Q := 0xde7ce1c78) (H := 0xffffffffffffffff) ?_ hP hG
  unfold State.angle0Modes
  try dsimp only
  iterate 50 all_goals try (first
    | with_reducible apply Frame.ite
    | with_reducible exact Frame.refl _ _ _
    | with_reducible apply frame_exitTest
    | with_reducible apply frame_loadEnd
    | with_reducible apply Frame.foldlT
    | with_reducible assumption
    | (show (_ : Nat) = _; decide +kernel)
    | (show Nat.testBit _ _ = true; decide +kernel)
    | intro _
    | split)

theorem frame_angle0Decisions {P G : Nat} {s₀ s : State} (h₀ : Frame P G s₀ s) (est zero : Bool) (hP : 0x4e3e01044 &&& P = 0x4e3e01044) (hG : 0xc179330020 &&& G = 0xc179330020) : Frame P G s₀ (State.angle0Decisions s est zero) := by
  refine h₀.step (Q := 0x4e3e01044) (H := 0xc179330020) ?_ hP hG
  unfold State.angle0Decisions
  try dsimp only
  iterate 50 all_goals try (first
    | (simp only [Frame.mk_iff]; with_reducible apply FrameC.upd <;> first | with_reducible exact fun _ => rfl | exact fun h => absurd h (by decide +kernel) | with_reducible exact fun _ h => ⟨h, rfl, rfl⟩ | with_reducible exact fun _ _ _ => rfl | with_reducible exact id | with_reducible exact fun h _ => h | with_reducible exact fun _ h => h | skip)
    | with_reducible apply Frame.ite
    | with_reducible exact Frame.refl _ _ _
    | with_reducible apply frame_estimatorRun
    | with_reducible apply frame_chargeTargets
    | with_reducible apply frame_trackerRun
    | with_reducible apply frame_capCount
    | with_reducible apply frame_capShow
    | with_reducible apply frame_closeCharge
    | with_reducible apply frame_cappingStep
    | with_reducible apply Frame.foldlT
    | with_reducible assumption
    | (show (_ : Nat) = _; decide +kernel)
    | (show Nat.testBit _ _ = true; decide +kernel)
    | intro _
    | split)

theorem frame_quadrantModes {P G : Nat} {s₀ s : State} (h₀ : Frame P G s₀ s)  (hP : 0xd67ce1d78 &&& P = 0xd67ce1d78) (hG : 0x400500c10db30024 &&& G = 0x400500c10db30024) : Frame P G s₀ (State.quadrantModes s) := by
  refine h₀.step (Q := 0xd67ce1d78) (H := 0x400500c10db30024) ?_ hP hG
  unfold State.quadrantModes
  try dsimp only
  iterate 50 all_goals try (first
    | with_reducible apply Frame.ite
    | with_reducible exact Frame.refl _ _ _
    | with_reducible apply frame_enterTadpole
    | with_reducible apply frame_shipSeal
    | with_reducible apply Frame.foldlT
    | with_reducible assumption
    | (show (_ : Nat) = _; decide +kernel)
    | (show Nat.testBit _ _ = true; decide +kernel)
    | intro _
    | split)

theorem frame_quadrantWork {P G : Nat} {s₀ s : State} (h₀ : Frame P G s₀ s) (due : List Nat × Option Nat) (hP : 0xd67ce1d78 &&& P = 0xd67ce1d78) (hG : 0xffffffffffffffff &&& G = 0xffffffffffffffff) : Frame P G s₀ (State.quadrantWork s due) := by
  refine h₀.step (Q := 0xd67ce1d78) (H := 0xffffffffffffffff) ?_ hP hG
  unfold State.quadrantWork
  try dsimp only
  iterate 50 all_goals try (first
    | with_reducible apply Frame.ite
    | with_reducible exact Frame.refl _ _ _
    | with_reducible apply frame_boundary
    | with_reducible apply frame_phaseCommit
    | with_reducible apply frame_shedStep
    | with_reducible apply frame_quadrantModes
    | with_reducible apply Frame.foldlT
    | with_reducible assumption
    | (show (_ : Nat) = _; decide +kernel)
    | (show Nat.testBit _ _ = true; decide +kernel)
    | intro _
    | split)

theorem frame_tickWork {P G : Nat} {s₀ s : State} (h₀ : Frame P G s₀ s) (dt : Nat) (hP : 0x503c01044 &&& P = 0x503c01044) (hG : 0xc105330020 &&& G = 0xc105330020) : Frame P G s₀ (State.tickWork s dt) := by
  refine h₀.step (Q := 0x503c01044) (H := 0xc105330020) ?_ hP hG
  unfold State.tickWork
  try dsimp only
  iterate 50 all_goals try (first
    | with_reducible apply Frame.ite
    | with_reducible exact Frame.refl _ _ _
    | with_reducible apply frame_shedDecide
    | with_reducible apply frame_energyTick
    | with_reducible apply frame_holdupTick
    | with_reducible apply frame_sharingStep
    | with_reducible apply frame_enforce
    | with_reducible apply frame_derTick
    | with_reducible apply Frame.foldlT
    | with_reducible assumption
    | (show (_ : Nat) = _; decide +kernel)
    | (show Nat.testBit _ _ = true; decide +kernel)
    | intro _
    | split)

theorem frame_supervisorWork {P G : Nat} {s₀ s : State} (h₀ : Frame P G s₀ s) (dt idx : Nat) (hP : 0xde7ee1d7c &&& P = 0xde7ee1d7c) (hG : 0xffffffffffffffff &&& G = 0xffffffffffffffff) : Frame P G s₀ (State.supervisorWork s dt idx) := by
  refine h₀.step (Q := 0xde7ee1d7c) (H := 0xffffffffffffffff) ?_ hP hG
  unfold State.supervisorWork
  try dsimp only
  iterate 50 all_goals try (first
    | with_reducible apply Frame.ite
    | with_reducible exact Frame.refl _ _ _
    | with_reducible apply frame_boundary
    | with_reducible apply frame_publish
    | with_reducible apply frame_calGather
    | with_reducible apply frame_calCommit
    | with_reducible apply frame_angle0Commits
    | with_reducible apply frame_angle0Modes
    | with_reducible apply frame_angle0Decisions
    | with_reducible apply frame_quadrantWork
    | with_reducible apply frame_tickWork
    | with_reducible apply Frame.foldlT
    | with_reducible assumption
    | (show (_ : Nat) = _; decide +kernel)
    | (show Nat.testBit _ _ = true; decide +kernel)
    | intro _
    | split)

theorem frame_wheelPoint {P G : Nat} {s₀ s : State} (h₀ : Frame P G s₀ s) (m : WheelMeas) (hP : 0x1fe7ee1d7c &&& P = 0x1fe7ee1d7c) (hG : 0xffffffffffffffff &&& G = 0xffffffffffffffff) : Frame P G s₀ (State.wheelPoint s m) := by
  refine h₀.step (Q := 0x1fe7ee1d7c) (H := 0xffffffffffffffff) ?_ hP hG
  unfold State.wheelPoint
  try dsimp only
  iterate 50 all_goals try (first
    | with_reducible apply Frame.ite
    | with_reducible exact Frame.refl _ _ _
    | with_reducible apply frame_paceTick
    | with_reducible apply frame_calGather
    | with_reducible apply frame_wheelMove
    | with_reducible apply frame_closeWindows
    | with_reducible apply frame_supervisorWork
    | with_reducible apply Frame.foldlT
    | with_reducible assumption
    | (show (_ : Nat) = _; decide +kernel)
    | (show Nat.testBit _ _ = true; decide +kernel)
    | intro _
    | split)

end Sys2Proof.Laws
end

