-- ==== Sys2Proof/Laws/FrameExec1.lean ====
section
/-! SUPPORT. Frame laws of the meanings: what each command can touch when it answers a next state. -/

namespace Sys2Proof.Laws

open Sys2Proof Sys2Proof.Machine

set_option Elab.async false
set_option linter.all false

/-- The passage of time is no more than that. -/
theorem frame_at {P G : Nat} {s₀ s : State} (h₀ : Frame P G s₀ s) (t : Edges) (hN : P.testBit 1 = true) : Frame P G s₀ (s.at t) := by
  exact h₀.trans ⟨fun _ => rfl, fun x => absurd x (by rw [hN]; decide), fun _ => rfl, fun _ => rfl, fun _ => rfl, fun _ => rfl, fun _ => rfl, fun _ => rfl, fun _ => rfl, fun _ => rfl, fun _ => rfl, fun _ => rfl, fun _ => rfl, fun _ => rfl, fun _ => rfl, fun _ => rfl, fun _ => rfl, fun _ => rfl, fun _ => rfl, fun _ => rfl, fun _ => rfl, fun _ => rfl, fun _ => rfl, fun _ => rfl, fun _ => rfl, fun _ => rfl, fun _ => rfl, fun _ => rfl, fun _ => rfl, fun _ => rfl, fun _ => rfl, fun _ => rfl, fun _ => rfl, fun _ => rfl, fun _ => rfl, fun _ => rfl, fun _ h => ⟨h, rfl, rfl⟩, fun _ _ _ => rfl, id⟩

/-- The shared form of the meanings touches what its effect touches, the time, the records for the partner and the controller. -/
theorem frame_live {P G : Nat} {t : Edges} {s u : State} {f : State → State} (h : live t s f = .next u) (hf : ∀ z, Frame P G z (f z))
    (hP : 0x202002 &&& P = 0x202002) (hG : 0x0 &&& G = 0x0) : Frame P G s u := by
  have ha : Frame P G s (s.at t) := frame_at (Frame.refl P G s) t (bit_mono hP (by decide +kernel))
  unfold live at h
  injection h with h
  rw [← h]
  split
  · exact frame_finish (frame_decided (ha.trans (hf _)) _ (land_trans hP (by decide +kernel)) (land_trans hG (by decide +kernel)))
      (land_trans hP (by decide +kernel)) (land_trans hG (by decide +kernel))
  · exact ha

theorem frame_hostWrite {P G : Nat} {t : Edges} {s u : State} {f : State → State} (h : hostWrite t s f = .next u)
    (hf : ∀ z, Frame P G z (f z)) (hP : 0x202002 &&& P = 0x202002) (hG : 0x0 &&& G = 0x0) : Frame P G s u := by
  refine frame_live h (fun z => ?_) hP hG
  split
  · exact hf z
  · exact Frame.refl P G z

theorem frame_execEstimatorNaiveTimeout {s u : State} {t : Edges} {k : Str} (h : execEstimatorNaiveTimeout t k s = .next u) : Frame 0x203042 0xc010000020 s u := by
  refine frame_live h (fun s => ?_) (by decide +kernel) (by decide +kernel)
  clear h
  try dsimp only
  iterate 50 all_goals try (first
    | with_reducible apply Frame.ite
    | with_reducible exact Frame.refl _ _ _
    | with_reducible apply frame_flag
    | (with_reducible apply frame_raise_low; case hs => decide)
    | with_reducible apply frame_setEst0
    | with_reducible apply Frame.foldlT
    | with_reducible assumption
    | (show (_ : Nat) = _; decide +kernel)
    | (show Nat.testBit _ _ = true; decide +kernel)
    | intro _
    | split)

theorem frame_execRestCorrection {s u : State} {t : Edges} {k : Str} (h : execRestCorrection t k s = .next u) : Frame 0x40203042 0xc010000020 s u := by
  refine frame_live h (fun s => ?_) (by decide +kernel) (by decide +kernel)
  clear h
  try dsimp only
  iterate 50 all_goals try (first
    | with_reducible apply Frame.ite
    | with_reducible exact Frame.refl _ _ _
    | with_reducible apply frame_restCorrect
    | with_reducible apply Frame.foldlT
    | with_reducible assumption
    | (show (_ : Nat) = _; decide +kernel)
    | (show Nat.testBit _ _ = true; decide +kernel)
    | intro _
    | split)

theorem frame_execEstimatorHibernate {s u : State} {t : Edges} (h : execEstimatorHibernate t s = .next u) : Frame 0x202002 0x10000000 s u := by
  refine frame_live h (fun s => ?_) (by decide +kernel) (by decide +kernel)
  clear h
  try dsimp only
  iterate 50 all_goals try (first
    | with_reducible apply Frame.ite
    | with_reducible exact Frame.refl _ _ _
    | with_reducible apply frame_put
    | with_reducible apply Frame.foldlT
    | with_reducible assumption
    | (show (_ : Nat) = _; decide +kernel)
    | (show Nat.testBit _ _ = true; decide +kernel)
    | intro _
    | split)

theorem frame_execEstimatorWake {s u : State} {t : Edges} {byPage : Bool} (h : execEstimatorWake t byPage s = .next u) : Frame 0xe0203046 0xc078000020 s u := by
  refine frame_live h (fun s => ?_) (by decide +kernel) (by decide +kernel)
  clear h
  try dsimp only
  iterate 50 all_goals try (first
    | with_reducible apply Frame.ite
    | with_reducible exact Frame.refl _ _ _
    | with_reducible apply frame_estWake
    | with_reducible apply frame_estPage
    | with_reducible apply Frame.foldlT
    | with_reducible assumption
    | (show (_ : Nat) = _; decide +kernel)
    | (show Nat.testBit _ _ = true; decide +kernel)
    | intro _
    | split)

theorem frame_execCapsulePeriodicExport {s u : State} {t : Edges} {k : Str} (h : execCapsulePeriodicExport t k s = .next u) : Frame 0x40202002 0x0 s u := by
  refine frame_live h (fun s => ?_) (by decide +kernel) (by decide +kernel)
  clear h
  try dsimp only
  iterate 50 all_goals try (first
    | with_reducible apply Frame.ite
    | with_reducible exact Frame.refl _ _ _
    | with_reducible apply frame_learning
    | with_reducible apply Frame.foldlT
    | with_reducible assumption
    | (show (_ : Nat) = _; decide +kernel)
    | (show Nat.testBit _ _ = true; decide +kernel)
    | intro _
    | split)

theorem frame_execEstRidx {s u : State} {t : Edges} {v : Byte} (h : execEstRidx t v s = .next u) : Frame 0x80203042 0xc050000020 s u := by
  refine frame_hostWrite h (fun s => ?_) (by decide +kernel) (by decide +kernel)
  clear h
  try dsimp only
  iterate 50 all_goals try (first
    | with_reducible apply Frame.ite
    | with_reducible exact Frame.refl _ _ _
    | with_reducible apply frame_ridxWrite
    | with_reducible apply Frame.foldlT
    | with_reducible assumption
    | (show (_ : Nat) = _; decide +kernel)
    | (show Nat.testBit _ _ = true; decide +kernel)
    | intro _
    | split)

theorem frame_execCapsuleCommit {s u : State} {t : Edges} {byte127 : Bool} (h : execCapsuleCommit t byte127 s = .next u) : Frame 0x40203046 0xc050000020 s u := by
  refine frame_live h (fun s => ?_) (by decide +kernel) (by decide +kernel)
  clear h
  try dsimp only
  iterate 50 all_goals try (first
    | with_reducible apply Frame.ite
    | with_reducible exact Frame.refl _ _ _
    | with_reducible apply frame_capsuleCommit
    | with_reducible apply Frame.foldlT
    | with_reducible assumption
    | (show (_ : Nat) = _; decide +kernel)
    | (show Nat.testBit _ _ = true; decide +kernel)
    | intro _
    | split)

theorem frame_execStagingTimeout {s u : State} {t : Edges} (h : execStagingTimeout t s = .next u) : Frame 0x80203042 0xc050000020 s u := by
  refine frame_live h (fun s => ?_) (by decide +kernel) (by decide +kernel)
  clear h
  try dsimp only
  iterate 50 all_goals try (first
    | with_reducible apply Frame.ite
    | with_reducible exact Frame.refl _ _ _
    | with_reducible apply frame_stagingReset
    | with_reducible apply Frame.foldlT
    | with_reducible assumption
    | (show (_ : Nat) = _; decide +kernel)
    | (show Nat.testBit _ _ = true; decide +kernel)
    | intro _
    | split)

theorem frame_execSagEpisodeClose {s u : State} {t : Edges} {k : Str} (h : execSagEpisodeClose t k s = .next u) : Frame 0x64203042 0xc008800020 s u := by
  refine frame_live h (fun s => ?_) (by decide +kernel) (by decide +kernel)
  clear h
  try dsimp only
  iterate 50 all_goals try (first
    | (simp only [Frame.mk_iff]; with_reducible apply FrameC.upd <;> first | with_reducible exact fun _ => rfl | exact fun h => absurd h (by decide +kernel) | with_reducible exact fun _ h => ⟨h, rfl, rfl⟩ | with_reducible exact fun _ _ _ => rfl | with_reducible exact id | with_reducible exact fun h _ => h | with_reducible exact fun _ h => h | skip)
    | with_reducible apply Frame.ite
    | with_reducible exact Frame.refl _ _ _
    | with_reducible apply frame_put
    | with_reducible apply frame_sagClose
    | with_reducible apply Frame.foldlT
    | with_reducible assumption
    | (show (_ : Nat) = _; decide +kernel)
    | (show Nat.testBit _ _ = true; decide +kernel)
    | intro _
    | split)

theorem frame_execChargeSecond {s u : State} {t : Edges} {k : Str} (h : execChargeSecond t k s = .next u) : Frame 0x60203042 0xc008000020 s u := by
  refine frame_live h (fun s => ?_) (by decide +kernel) (by decide +kernel)
  clear h
  try dsimp only
  iterate 50 all_goals try (first
    | with_reducible apply Frame.ite
    | with_reducible exact Frame.refl _ _ _
    | with_reducible apply frame_strRules
    | with_reducible apply frame_closeWindow
    | with_reducible apply Frame.foldlT
    | with_reducible assumption
    | (show (_ : Nat) = _; decide +kernel)
    | (show Nat.testBit _ _ = true; decide +kernel)
    | intro _
    | split)

theorem frame_execChargePhaseTimeout {s u : State} {t : Edges} {k : Str} (h : execChargePhaseTimeout t k s = .next u) : Frame 0x20203042 0xc008000020 s u := by
  refine frame_live h (fun s => ?_) (by decide +kernel) (by decide +kernel)
  clear h
  try dsimp only
  iterate 50 all_goals try (first
    | with_reducible apply Frame.ite
    | with_reducible exact Frame.refl _ _ _
    | with_reducible apply frame_phaseTimeout
    | with_reducible apply Frame.foldlT
    | with_reducible assumption
    | (show (_ : Nat) = _; decide +kernel)
    | (show Nat.testBit _ _ = true; decide +kernel)
    | intro _
    | split)

theorem frame_execChargeEligible {s u : State} {t : Edges} {k : Str} (h : execChargeEligible t k s = .next u) : Frame 0x20203042 0xc008000020 s u := by
  refine frame_live h (fun s => ?_) (by decide +kernel) (by decide +kernel)
  clear h
  try dsimp only
  iterate 50 all_goals try (first
    | with_reducible apply Frame.ite
    | with_reducible exact Frame.refl _ _ _
    | with_reducible apply frame_tryStart
    | with_reducible apply Frame.foldlT
    | with_reducible assumption
    | (show (_ : Nat) = _; decide +kernel)
    | (show Nat.testBit _ _ = true; decide +kernel)
    | intro _
    | split)

theorem frame_execStringSample {s u : State} {t : Edges} {k : Str} {q : StrCodes} (h : execStringSample t k q s = .next u) : Frame 0x1e8203042 0xd008000120 s u := by
  refine frame_live h (fun s => ?_) (by decide +kernel) (by decide +kernel)
  clear h
  try dsimp only
  iterate 50 all_goals try (first
    | with_reducible apply Frame.ite
    | with_reducible exact Frame.refl _ _ _
    | with_reducible apply frame_stringSample
    | with_reducible apply Frame.foldlT
    | with_reducible assumption
    | (show (_ : Nat) = _; decide +kernel)
    | (show Nat.testBit _ _ = true; decide +kernel)
    | intro _
    | split)

theorem frame_execChargePeriodStart {s u : State} {t : Edges} {k : Str} (h : execChargePeriodStart t k s = .next u) : Frame 0x20302002 0x10000000000000 s u := by
  refine frame_live h (fun s => ?_) (by decide +kernel) (by decide +kernel)
  clear h
  try dsimp only
  iterate 50 all_goals try (first
    | with_reducible apply Frame.ite
    | with_reducible exact Frame.refl _ _ _
    | with_reducible apply frame_outResumed
    | with_reducible apply frame_chargePeriod
    | with_reducible apply Frame.foldlT
    | with_reducible assumption
    | (show (_ : Nat) = _; decide +kernel)
    | (show Nat.testBit _ _ = true; decide +kernel)
    | intro _
    | split)

theorem frame_execChargeCurrentLimit {s u : State} {t : Edges} {k : Str} (h : execChargeCurrentLimit t k s = .next u) : Frame 0x20202002 0x0 s u := by
  refine frame_live h (fun s => ?_) (by decide +kernel) (by decide +kernel)
  clear h
  try dsimp only
  iterate 50 all_goals try (first
    | (simp only [Frame.mk_iff]; with_reducible apply FrameC.upd <;> first | with_reducible exact fun _ => rfl | exact fun h => absurd h (by decide +kernel) | with_reducible exact fun _ h => ⟨h, rfl, rfl⟩ | with_reducible exact fun _ _ _ => rfl | with_reducible exact id | with_reducible exact fun h _ => h | with_reducible exact fun _ h => h | skip)
    | with_reducible apply Frame.ite
    | with_reducible exact Frame.refl _ _ _
    | with_reducible apply frame_setStr
    | with_reducible apply Frame.foldlT
    | with_reducible assumption
    | (show (_ : Nat) = _; decide +kernel)
    | (show Nat.testBit _ _ = true; decide +kernel)
    | intro _
    | split)

theorem frame_execStringPresenceChange {s u : State} {t : Edges} {k : Str} (h : execStringPresenceChange t k s = .next u) : Frame 0x21203042 0xc100000020 s u := by
  refine frame_live h (fun s => ?_) (by decide +kernel) (by decide +kernel)
  clear h
  try dsimp only
  iterate 50 all_goals try (first
    | (simp only [Frame.mk_iff]; with_reducible apply FrameC.upd <;> first | with_reducible exact fun _ => rfl | exact fun h => absurd h (by decide +kernel) | with_reducible exact fun _ h => ⟨h, rfl, rfl⟩ | with_reducible exact fun _ _ _ => rfl | with_reducible exact id | with_reducible exact fun h _ => h | with_reducible exact fun _ h => h | skip)
    | with_reducible apply Frame.ite
    | with_reducible exact Frame.refl _ _ _
    | with_reducible apply frame_setFuse
    | with_reducible apply frame_fusCleared
    | with_reducible apply frame_setStr
    | with_reducible apply Frame.foldlT
    | with_reducible assumption
    | (show (_ : Nat) = _; decide +kernel)
    | (show Nat.testBit _ _ = true; decide +kernel)
    | intro _
    | split)

theorem frame_execStringPresenceDebounce {s u : State} {t : Edges} {k : Str} (h : execStringPresenceDebounce t k s = .next u) : Frame 0x20202002 0x8000000 s u := by
  refine frame_live h (fun s => ?_) (by decide +kernel) (by decide +kernel)
  clear h
  try dsimp only
  iterate 50 all_goals try (first
    | with_reducible apply Frame.ite
    | with_reducible exact Frame.refl _ _ _
    | with_reducible apply frame_putBit
    | with_reducible apply frame_insertBegin
    | with_reducible apply Frame.foldlT
    | with_reducible assumption
    | (show (_ : Nat) = _; decide +kernel)
    | (show Nat.testBit _ _ = true; decide +kernel)
    | intro _
    | split)

theorem frame_execStringInsertCheck {s u : State} {t : Edges} {k : Str} (h : execStringInsertCheck t k s = .next u) : Frame 0x21203042 0xc108000020 s u := by
  refine frame_live h (fun s => ?_) (by decide +kernel) (by decide +kernel)
  clear h
  try dsimp only
  iterate 50 all_goals try (first
    | with_reducible apply Frame.ite
    | with_reducible exact Frame.refl _ _ _
    | with_reducible apply frame_insertCheck
    | with_reducible apply Frame.foldlT
    | with_reducible assumption
    | (show (_ : Nat) = _; decide +kernel)
    | (show Nat.testBit _ _ = true; decide +kernel)
    | intro _
    | split)

theorem frame_execStringRemoval {s u : State} {t : Edges} {k : Str} {kind : RemovalKind} (h : execStringRemoval t k kind s = .next u) : Frame 0xe5203042 0xc178800020 s u := by
  refine frame_live h (fun s => ?_) (by decide +kernel) (by decide +kernel)
  clear h
  try dsimp only
  iterate 50 all_goals try (first
    | (simp only [Frame.mk_iff]; with_reducible apply FrameC.upd <;> first | with_reducible exact fun _ => rfl | exact fun h => absurd h (by decide +kernel) | with_reducible exact fun _ h => ⟨h, rfl, rfl⟩ | with_reducible exact fun _ _ _ => rfl | with_reducible exact id | with_reducible exact fun h _ => h | with_reducible exact fun _ h => h | skip)
    | with_reducible apply Frame.ite
    | with_reducible exact Frame.refl _ _ _
    | with_reducible apply frame_setStr
    | with_reducible apply frame_stringRemoved
    | with_reducible apply Frame.foldlT
    | with_reducible assumption
    | (show (_ : Nat) = _; decide +kernel)
    | (show Nat.testBit _ _ = true; decide +kernel)
    | intro _
    | split)

theorem frame_execBokChange {s u : State} {t : Edges} {k : Str} {level : Bool} (h : execBokChange t k level s = .next u) : Frame 0x20203042 0xc008000020 s u := by
  refine frame_live h (fun s => ?_) (by decide +kernel) (by decide +kernel)
  clear h
  try dsimp only
  iterate 50 all_goals try (first
    | (simp only [Frame.mk_iff]; with_reducible apply FrameC.upd <;> first | with_reducible exact fun _ => rfl | exact fun h => absurd h (by decide +kernel) | with_reducible exact fun _ h => ⟨h, rfl, rfl⟩ | with_reducible exact fun _ _ _ => rfl | with_reducible exact id | with_reducible exact fun h _ => h | with_reducible exact fun _ h => h | skip)
    | with_reducible apply Frame.ite
    | with_reducible exact Frame.refl _ _ _
    | with_reducible apply frame_flag
    | with_reducible apply frame_putBit
    | (with_reducible apply frame_raise_low; case hs => decide)
    | with_reducible apply frame_setStr
    | with_reducible apply frame_chargeStop
    | with_reducible apply Frame.foldlT
    | with_reducible assumption
    | (show (_ : Nat) = _; decide +kernel)
    | (show Nat.testBit _ _ = true; decide +kernel)
    | intro _
    | split)

theorem frame_execStart {s u : State} {t : Edges} {k : Str} {key : Byte} (h : execStart t k key s = .next u) : Frame 0x20203042 0xc008000020 s u := by
  refine frame_hostWrite h (fun s => ?_) (by decide +kernel) (by decide +kernel)
  clear h
  try dsimp only
  iterate 50 all_goals try (first
    | with_reducible apply Frame.ite
    | with_reducible exact Frame.refl _ _ _
    | with_reducible apply frame_strStart
    | with_reducible apply Frame.foldlT
    | with_reducible assumption
    | (show (_ : Nat) = _; decide +kernel)
    | (show Nat.testBit _ _ = true; decide +kernel)
    | intro _
    | split)

theorem frame_execStop {s u : State} {t : Edges} {k : Str} {key : Byte} (h : execStop t k key s = .next u) : Frame 0x20203042 0xc008000020 s u := by
  refine frame_hostWrite h (fun s => ?_) (by decide +kernel) (by decide +kernel)
  clear h
  try dsimp only
  iterate 50 all_goals try (first
    | with_reducible apply Frame.ite
    | with_reducible exact Frame.refl _ _ _
    | with_reducible apply frame_strStop
    | with_reducible apply Frame.foldlT
    | with_reducible assumption
    | (show (_ : Nat) = _; decide +kernel)
    | (show Nat.testBit _ _ = true; decide +kernel)
    | intro _
    | split)

theorem frame_execClear {s u : State} {t : Edges} {k : Str} {key : Byte} (h : execClear t k key s = .next u) : Frame 0x20202002 0x8000000 s u := by
  refine frame_hostWrite h (fun s => ?_) (by decide +kernel) (by decide +kernel)
  clear h
  try dsimp only
  iterate 50 all_goals try (first
    | with_reducible apply Frame.ite
    | with_reducible exact Frame.refl _ _ _
    | with_reducible apply frame_strClear
    | with_reducible apply Frame.foldlT
    | with_reducible assumption
    | (show (_ : Nat) = _; decide +kernel)
    | (show Nat.testBit _ _ = true; decide +kernel)
    | intro _
    | split)

theorem frame_execSetpointCommand {s u : State} {t : Edges} {target rate : Code} {seq : Byte} (h : execSetpointCommand t target rate seq s = .next u) : Frame 0x2203042 0xc000100020 s u := by
  refine frame_hostWrite h (fun s => ?_) (by decide +kernel) (by decide +kernel)
  clear h
  try dsimp only
  iterate 50 all_goals try (first
    | with_reducible apply Frame.ite
    | with_reducible exact Frame.refl _ _ _
    | with_reducible apply frame_spCommand
    | with_reducible apply Frame.foldlT
    | with_reducible assumption
    | (show (_ : Nat) = _; decide +kernel)
    | (show Nat.testBit _ _ = true; decide +kernel)
    | intro _
    | split)

theorem frame_execWarnPulse {s u : State} {t : Edges} {i : Fin 16} {fall rise : Edges} (h : execWarnPulse t i fall rise s = .next u) : Frame 0x6e03042 0xc000830020 s u := by
  refine frame_live h (fun s => ?_) (by decide +kernel) (by decide +kernel)
  clear h
  try dsimp only
  iterate 50 all_goals try (first
    | with_reducible apply Frame.ite
    | with_reducible exact Frame.refl _ _ _
    | with_reducible apply frame_putBit
    | with_reducible apply frame_warnPulse
    | with_reducible apply Frame.foldlT
    | with_reducible assumption
    | (show (_ : Nat) = _; decide +kernel)
    | (show Nat.testBit _ _ = true; decide +kernel)
    | intro _
    | split)

theorem frame_execWarnStuck {s u : State} {t : Edges} {i : Fin 16} {fall : Edges} (h : execWarnStuck t i fall s = .next u) : Frame 0x4203042 0xc000800020 s u := by
  refine frame_live h (fun s => ?_) (by decide +kernel) (by decide +kernel)
  clear h
  try dsimp only
  iterate 50 all_goals try (first
    | (simp only [Frame.mk_iff]; with_reducible apply FrameC.upd <;> first | with_reducible exact fun _ => rfl | exact fun h => absurd h (by decide +kernel) | with_reducible exact fun _ h => ⟨h, rfl, rfl⟩ | with_reducible exact fun _ _ _ => rfl | with_reducible exact id | with_reducible exact fun h _ => h | with_reducible exact fun _ h => h | skip)
    | with_reducible apply Frame.ite
    | with_reducible exact Frame.refl _ _ _
    | with_reducible apply frame_flag
    | with_reducible apply frame_putBit
    | with_reducible apply frame_bumpAt
    | (with_reducible apply frame_raise_low; case hs => decide)
    | with_reducible apply frame_setWarn
    | with_reducible apply Frame.foldlT
    | with_reducible assumption
    | (show (_ : Nat) = _; decide +kernel)
    | (show Nat.testBit _ _ = true; decide +kernel)
    | intro _
    | split)

theorem frame_execWarnReleased {s u : State} {t : Edges} {i : Fin 16} (h : execWarnReleased t i s = .next u) : Frame 0x203042 0xc000800020 s u := by
  refine frame_live h (fun s => ?_) (by decide +kernel) (by decide +kernel)
  clear h
  try dsimp only
  iterate 50 all_goals try (first
    | with_reducible apply Frame.ite
    | with_reducible exact Frame.refl _ _ _
    | with_reducible apply frame_flag
    | with_reducible apply frame_putBit
    | (with_reducible apply frame_raise_low; case hs => decide)
    | with_reducible apply Frame.foldlT
    | with_reducible assumption
    | (show (_ : Nat) = _; decide +kernel)
    | (show Nat.testBit _ _ = true; decide +kernel)
    | intro _
    | split)

theorem frame_execFfInjection {s u : State} {t : Edges} {c : Fin 4} (h : execFfInjection t c s = .next u) : Frame 0x4202002 0x800000 s u := by
  refine frame_live h (fun s => ?_) (by decide +kernel) (by decide +kernel)
  clear h
  try dsimp only
  iterate 50 all_goals try (first
    | (simp only [Frame.mk_iff]; with_reducible apply FrameC.upd <;> first | with_reducible exact fun _ => rfl | exact fun h => absurd h (by decide +kernel) | with_reducible exact fun _ h => ⟨h, rfl, rfl⟩ | with_reducible exact fun _ _ _ => rfl | with_reducible exact id | with_reducible exact fun h _ => h | with_reducible exact fun _ h => h | skip)
    | with_reducible apply Frame.ite
    | with_reducible exact Frame.refl _ _ _
    | with_reducible apply frame_setFf
    | with_reducible apply frame_inject
    | with_reducible apply Frame.foldlT
    | with_reducible assumption
    | (show (_ : Nat) = _; decide +kernel)
    | (show Nat.testBit _ _ = true; decide +kernel)
    | intro _
    | split)

theorem frame_execFfHoldExpiry {s u : State} {t : Edges} {c : Fin 4} (h : execFfHoldExpiry t c s = .next u) : Frame 0x4202002 0x800000 s u := by
  refine frame_live h (fun s => ?_) (by decide +kernel) (by decide +kernel)
  clear h
  try dsimp only
  iterate 50 all_goals try (first
    | (simp only [Frame.mk_iff]; with_reducible apply FrameC.upd <;> first | with_reducible exact fun _ => rfl | exact fun h => absurd h (by decide +kernel) | with_reducible exact fun _ h => ⟨h, rfl, rfl⟩ | with_reducible exact fun _ _ _ => rfl | with_reducible exact id | with_reducible exact fun h _ => h | with_reducible exact fun _ h => h | skip)
    | with_reducible apply Frame.ite
    | with_reducible exact Frame.refl _ _ _
    | with_reducible apply frame_bumpAt
    | with_reducible apply frame_setFf
    | with_reducible apply frame_ffShow
    | with_reducible apply Frame.foldlT
    | with_reducible assumption
    | (show (_ : Nat) = _; decide +kernel)
    | (show Nat.testBit _ _ = true; decide +kernel)
    | intro _
    | split)

theorem frame_execFfDecayStep {s u : State} {t : Edges} (h : execFfDecayStep t s = .next u) : Frame 0x4202002 0x800000 s u := by
  refine frame_live h (fun s => ?_) (by decide +kernel) (by decide +kernel)
  clear h
  try dsimp only
  iterate 50 all_goals try (first
    | with_reducible apply Frame.ite
    | with_reducible exact Frame.refl _ _ _
    | with_reducible apply frame_ffDecay
    | with_reducible apply Frame.foldlT
    | with_reducible assumption
    | (show (_ : Nat) = _; decide +kernel)
    | (show Nat.testBit _ _ = true; decide +kernel)
    | intro _
    | split)

theorem frame_execRegulationPointSample {s u : State} {t : Edges} {codes : Codes4} (h : execRegulationPointSample t codes s = .next u) : Frame 0x206203042 0xd000800060 s u := by
  refine frame_live h (fun s => ?_) (by decide +kernel) (by decide +kernel)
  clear h
  try dsimp only
  iterate 50 all_goals try (first
    | (simp only [Frame.mk_iff]; with_reducible apply FrameC.upd <;> first | with_reducible exact fun _ => rfl | exact fun h => absurd h (by decide +kernel) | with_reducible exact fun _ h => ⟨h, rfl, rfl⟩ | with_reducible exact fun _ _ _ => rfl | with_reducible exact id | with_reducible exact fun h _ => h | with_reducible exact fun _ h => h | skip)
    | with_reducible apply Frame.ite
    | with_reducible exact Frame.refl _ _ _
    | with_reducible apply frame_put
    | with_reducible apply frame_putAt
    | with_reducible apply frame_shelfSample
    | with_reducible apply frame_deepSag
    | with_reducible apply Frame.foldlT
    | with_reducible assumption
    | (show (_ : Nat) = _; decide +kernel)
    | (show Nat.testBit _ _ = true; decide +kernel)
    | intro _
    | split)

theorem frame_execImonSample {s u : State} {t : Edges} {n : Chan} {code : Code} (h : execImonSample t n code s = .next u) : Frame 0x6e03042 0xd000830060 s u := by
  refine frame_live h (fun s => ?_) (by decide +kernel) (by decide +kernel)
  clear h
  try dsimp only
  iterate 50 all_goals try (first
    | (simp only [Frame.mk_iff]; with_reducible apply FrameC.upd <;> first | with_reducible exact fun _ => rfl | exact fun h => absurd h (by decide +kernel) | with_reducible exact fun _ h => ⟨h, rfl, rfl⟩ | with_reducible exact fun _ _ _ => rfl | with_reducible exact id | with_reducible exact fun h _ => h | with_reducible exact fun _ h => h | skip)
    | with_reducible apply Frame.ite
    | with_reducible exact Frame.refl _ _ _
    | with_reducible apply frame_putAt
    | with_reducible apply frame_setPh
    | with_reducible apply frame_imonCurrent
    | with_reducible apply frame_imonOffset
    | with_reducible apply Frame.foldlT
    | with_reducible assumption
    | (show (_ : Nat) = _; decide +kernel)
    | (show Nat.testBit _ _ = true; decide +kernel)
    | intro _
    | split)

theorem frame_execPhaseOffsetTaken {s u : State} {t : Edges} {n : Chan} (h : execPhaseOffsetTaken t n s = .next u) : Frame 0x2e03042 0xc000130020 s u := by
  refine frame_live h (fun s => ?_) (by decide +kernel) (by decide +kernel)
  clear h
  try dsimp only
  iterate 50 all_goals try (first
    | with_reducible apply Frame.ite
    | with_reducible exact Frame.refl _ _ _
    | with_reducible apply frame_offsetTaken
    | with_reducible apply Frame.foldlT
    | with_reducible assumption
    | (show (_ : Nat) = _; decide +kernel)
    | (show Nat.testBit _ _ = true; decide +kernel)
    | intro _
    | split)

theorem frame_execPhTrimrst {s u : State} {t : Edges} {n : Chan} {key : Byte} (h : execPhTrimrst t n key s = .next u) : Frame 0x2e03c02 0x400c000030020 s u := by
  refine frame_hostWrite h (fun s => ?_) (by decide +kernel) (by decide +kernel)
  clear h
  try dsimp only
  iterate 50 all_goals try (first
    | with_reducible apply Frame.ite
    | with_reducible exact Frame.refl _ _ _
    | with_reducible apply frame_trimReset
    | with_reducible apply Frame.foldlT
    | with_reducible assumption
    | (show (_ : Nat) = _; decide +kernel)
    | (show Nat.testBit _ _ = true; decide +kernel)
    | intro _
    | split)

theorem frame_execShedDwellExpiry {s u : State} {t : Edges} {b : Bay} (h : execShedDwellExpiry t b s = .next u) : Frame 0xa02002 0x0 s u := by
  refine frame_live h (fun s => ?_) (by decide +kernel) (by decide +kernel)
  clear h
  try dsimp only
  iterate 50 all_goals try (first
    | (simp only [Frame.mk_iff]; with_reducible apply FrameC.upd <;> first | with_reducible exact fun _ => rfl | exact fun h => absurd h (by decide +kernel) | with_reducible exact fun _ h => ⟨h, rfl, rfl⟩ | with_reducible exact fun _ _ _ => rfl | with_reducible exact id | with_reducible exact fun h _ => h | with_reducible exact fun _ h => h | skip)
    | with_reducible apply Frame.ite
    | with_reducible exact Frame.refl _ _ _
    | with_reducible apply frame_setBay
    | with_reducible apply Frame.foldlT
    | with_reducible assumption
    | (show (_ : Nat) = _; decide +kernel)
    | (show Nat.testBit _ _ = true; decide +kernel)
    | intro _
    | split)

theorem frame_execLeShctl {s u : State} {t : Edges} {mask : Byte} (h : execLeShctl t mask s = .next u) : Frame 0x202002 0x40000 s u := by
  refine frame_hostWrite h (fun s => ?_) (by decide +kernel) (by decide +kernel)
  clear h
  try dsimp only
  iterate 50 all_goals try (first
    | with_reducible apply Frame.ite
    | with_reducible exact Frame.refl _ _ _
    | with_reducible apply frame_leShctl
    | with_reducible apply Frame.foldlT
    | with_reducible assumption
    | (show (_ : Nat) = _; decide +kernel)
    | (show Nat.testBit _ _ = true; decide +kernel)
    | intro _
    | split)

theorem frame_execRegionDwellExpiry {s u : State} {t : Edges} {b : Bay} (h : execRegionDwellExpiry t b s = .next u) : Frame 0xa02002 0x40000 s u := by
  refine frame_live h (fun s => ?_) (by decide +kernel) (by decide +kernel)
  clear h
  try dsimp only
  iterate 50 all_goals try (first
    | with_reducible apply Frame.ite
    | with_reducible exact Frame.refl _ _ _
    | with_reducible apply frame_regionDrop
    | with_reducible apply frame_selectIndex
    | with_reducible apply Frame.foldlT
    | with_reducible assumption
    | (show (_ : Nat) = _; decide +kernel)
    | (show Nat.testBit _ _ = true; decide +kernel)
    | intro _
    | split)

theorem frame_execLoopTrigger {s u : State} {t : Edges} {b : Bay} {code vlink : Code} (h : execLoopTrigger t b code vlink s = .next u) : Frame 0xa03042 0xffffffffffffffff s u := by
  refine frame_live h (fun s => ?_) (by decide +kernel) (by decide +kernel)
  clear h
  try dsimp only
  iterate 50 all_goals try (first
    | with_reducible apply Frame.ite
    | with_reducible exact Frame.refl _ _ _
    | with_reducible apply frame_putAt
    | with_reducible apply frame_loopTrigger
    | with_reducible apply Frame.foldlT
    | with_reducible assumption
    | (show (_ : Nat) = _; decide +kernel)
    | (show Nat.testBit _ _ = true; decide +kernel)
    | intro _
    | split)

theorem frame_execBayOutputConversion {s u : State} {t : Edges} {b : Bay} {code : Code} (h : execBayOutputConversion t b code s = .next u) : Frame 0x6e03042 0xc000830060 s u := by
  refine frame_live h (fun s => ?_) (by decide +kernel) (by decide +kernel)
  clear h
  try dsimp only
  iterate 50 all_goals try (first
    | with_reducible apply Frame.ite
    | with_reducible exact Frame.refl _ _ _
    | with_reducible apply frame_outputConversion
    | with_reducible apply Frame.foldlT
    | with_reducible assumption
    | (show (_ : Nat) = _; decide +kernel)
    | (show Nat.testBit _ _ = true; decide +kernel)
    | intro _
    | split)

theorem frame_execDutySaturated {s u : State} {t : Edges} {b : Bay} (h : execDutySaturated t b s = .next u) : Frame 0xa03042 0xc000040020 s u := by
  refine frame_live h (fun s => ?_) (by decide +kernel) (by decide +kernel)
  clear h
  try dsimp only
  iterate 50 all_goals try (first
    | (simp only [Frame.mk_iff]; with_reducible apply FrameC.upd <;> first | with_reducible exact fun _ => rfl | exact fun h => absurd h (by decide +kernel) | with_reducible exact fun _ h => ⟨h, rfl, rfl⟩ | with_reducible exact fun _ _ _ => rfl | with_reducible exact id | with_reducible exact fun h _ => h | with_reducible exact fun _ h => h | skip)
    | with_reducible apply Frame.ite
    | with_reducible exact Frame.refl _ _ _
    | with_reducible apply frame_flag
    | (with_reducible apply frame_raise_low; case hs => decide)
    | with_reducible apply frame_setLane
    | with_reducible apply Frame.foldlT
    | with_reducible assumption
    | (show (_ : Nat) = _; decide +kernel)
    | (show Nat.testBit _ _ = true; decide +kernel)
    | intro _
    | split)

theorem frame_execFollowingError {s u : State} {t : Edges} {b : Bay} (h : execFollowingError t b s = .next u) : Frame 0x3e03046 0xc100370020 s u := by
  refine frame_live h (fun s => ?_) (by decide +kernel) (by decide +kernel)
  clear h
  try dsimp only
  iterate 50 all_goals try (first
    | with_reducible apply Frame.ite
    | with_reducible exact Frame.refl _ _ _
    | with_reducible apply frame_followingError
    | with_reducible apply Frame.foldlT
    | with_reducible assumption
    | (show (_ : Nat) = _; decide +kernel)
    | (show Nat.testBit _ _ = true; decide +kernel)
    | intro _
    | split)

theorem frame_execFeRecovered {s u : State} {t : Edges} {b : Bay} (h : execFeRecovered t b s = .next u) : Frame 0xa03042 0xc000040020 s u := by
  refine frame_live h (fun s => ?_) (by decide +kernel) (by decide +kernel)
  clear h
  try dsimp only
  iterate 50 all_goals try (first
    | with_reducible apply Frame.ite
    | with_reducible exact Frame.refl _ _ _
    | with_reducible apply frame_feEnd
    | with_reducible apply Frame.foldlT
    | with_reducible assumption
    | (show (_ : Nat) = _; decide +kernel)
    | (show Nat.testBit _ _ = true; decide +kernel)
    | intro _
    | split)

theorem frame_execLeFeclr {s u : State} {t : Edges} {b : Bay} {key : Byte} (h : execLeFeclr t b key s = .next u) : Frame 0x3e03042 0xc100170020 s u := by
  refine frame_hostWrite h (fun s => ?_) (by decide +kernel) (by decide +kernel)
  clear h
  try dsimp only
  iterate 50 all_goals try (first
    | with_reducible apply Frame.ite
    | with_reducible exact Frame.refl _ _ _
    | with_reducible apply frame_feClear
    | with_reducible apply Frame.foldlT
    | with_reducible assumption
    | (show (_ : Nat) = _; decide +kernel)
    | (show Nat.testBit _ _ = true; decide +kernel)
    | intro _
    | split)

theorem frame_execCrestCheck {s u : State} {t : Edges} {x : Feed} {p : Fin 3} {k : Fin 8} {codes : Codes5} (h : execCrestCheck t x p k codes s = .next u) : Frame 0xd67e63c7a 0x400500c10cb30064 s u := by
  refine frame_live h (fun s => ?_) (by decide +kernel) (by decide +kernel)
  clear h
  try dsimp only
  iterate 50 all_goals try (first
    | with_reducible apply Frame.ite
    | with_reducible exact Frame.refl _ _ _
    | with_reducible apply frame_putAt
    | with_reducible apply frame_crestCheck
    | with_reducible apply Frame.foldlT
    | with_reducible assumption
    | (show (_ : Nat) = _; decide +kernel)
    | (show Nat.testBit _ _ = true; decide +kernel)
    | intro _
    | split)

theorem frame_execAcZeroCrossing {s u : State} {t : Edges} {x : Feed} {p : Fin 3} {rising : Bool} {rms : Nat} {leads : Bool} (h : execAcZeroCrossing t x p rising rms leads s = .next u) : Frame 0xd67e63c7e 0x400500c10cb30024 s u := by
  refine frame_live h (fun s => ?_) (by decide +kernel) (by decide +kernel)
  clear h
  try dsimp only
  iterate 50 all_goals try (first
    | with_reducible apply Frame.ite
    | with_reducible exact Frame.refl _ _ _
    | with_reducible apply frame_rmsWindow
    | with_reducible apply frame_cycleEnd
    | with_reducible apply Frame.foldlT
    | with_reducible assumption
    | (show (_ : Nat) = _; decide +kernel)
    | (show Nat.testBit _ _ = true; decide +kernel)
    | intro _
    | split)

theorem frame_execRmsWindowDeadline {s u : State} {t : Edges} {x : Feed} {p : Fin 3} {rms : Nat} (h : execRmsWindowDeadline t x p rms s = .next u) : Frame 0xd67e63c7a 0x400500c10cb30024 s u := by
  refine frame_live h (fun s => ?_) (by decide +kernel) (by decide +kernel)
  clear h
  try dsimp only
  iterate 50 all_goals try (first
    | with_reducible apply Frame.ite
    | with_reducible exact Frame.refl _ _ _
    | with_reducible apply frame_rmsWindow
    | with_reducible apply Frame.foldlT
    | with_reducible assumption
    | (show (_ : Nat) = _; decide +kernel)
    | (show Nat.testBit _ _ = true; decide +kernel)
    | intro _
    | split)

theorem frame_execFrequencyDeadline {s u : State} {t : Edges} {x : Feed} (h : execFrequencyDeadline t x s = .next u) : Frame 0xd67e63c7a 0x400500c10cb30024 s u := by
  refine frame_live h (fun s => ?_) (by decide +kernel) (by decide +kernel)
  clear h
  try dsimp only
  iterate 50 all_goals try (first
    | with_reducible apply Frame.ite
    | with_reducible exact Frame.refl _ _ _
    | with_reducible apply frame_feedLose
    | with_reducible apply Frame.foldlT
    | with_reducible assumption
    | (show (_ : Nat) = _; decide +kernel)
    | (show Nat.testBit _ _ = true; decide +kernel)
    | intro _
    | split)

theorem frame_execRideThroughWindowEnd {s u : State} {t : Edges} (h : execRideThroughWindowEnd t s = .next u) : Frame 0x202002 0x4000000 s u := by
  refine frame_live h (fun s => ?_) (by decide +kernel) (by decide +kernel)
  clear h
  try dsimp only
  iterate 50 all_goals try (first
    | with_reducible apply Frame.ite
    | with_reducible exact Frame.refl _ _ _
    | with_reducible apply frame_rtOff
    | with_reducible apply Frame.foldlT
    | with_reducible assumption
    | (show (_ : Nat) = _; decide +kernel)
    | (show Nat.testBit _ _ = true; decide +kernel)
    | intro _
    | split)

theorem frame_execRestartStagger {s u : State} {t : Edges} (h : execRestartStagger t s = .next u) : Frame 0x103e03042 0xc100330020 s u := by
  refine frame_live h (fun s => ?_) (by decide +kernel) (by decide +kernel)
  clear h
  try dsimp only
  iterate 50 all_goals try (first
    | with_reducible apply Frame.ite
    | with_reducible exact Frame.refl _ _ _
    | with_reducible apply frame_staggerNext
    | with_reducible apply Frame.foldlT
    | with_reducible assumption
    | (show (_ : Nat) = _; decide +kernel)
    | (show Nat.testBit _ _ = true; decide +kernel)
    | intro _
    | split)

theorem frame_execRestartTimeout {s u : State} {t : Edges} (h : execRestartTimeout t s = .next u) : Frame 0x102203042 0xc004100020 s u := by
  refine frame_live h (fun s => ?_) (by decide +kernel) (by decide +kernel)
  clear h
  try dsimp only
  iterate 50 all_goals try (first
    | (simp only [Frame.mk_iff]; with_reducible apply FrameC.upd <;> first | with_reducible exact fun _ => rfl | exact fun h => absurd h (by decide +kernel) | with_reducible exact fun _ h => ⟨h, rfl, rfl⟩ | with_reducible exact fun _ _ _ => rfl | with_reducible exact id | with_reducible exact fun h _ => h | with_reducible exact fun _ h => h | skip)
    | with_reducible apply Frame.ite
    | with_reducible exact Frame.refl _ _ _
    | with_reducible apply frame_flag
    | (with_reducible apply frame_raise_low; case hs => decide)
    | with_reducible apply frame_toWalkup
    | with_reducible apply Frame.foldlT
    | with_reducible assumption
    | (show (_ : Nat) = _; decide +kernel)
    | (show Nat.testBit _ _ = true; decide +kernel)
    | intro _
    | split)

theorem frame_execHandbackQuiet {s u : State} {t : Edges} (h : execHandbackQuiet t s = .next u) : Frame 0xc22a63c7a 0x400500c004100024 s u := by
  refine frame_live h (fun s => ?_) (by decide +kernel) (by decide +kernel)
  clear h
  try dsimp only
  iterate 50 all_goals try (first
    | with_reducible apply Frame.ite
    | with_reducible exact Frame.refl _ _ _
    | with_reducible apply frame_handbackDone
    | with_reducible apply Frame.foldlT
    | with_reducible assumption
    | (show (_ : Nat) = _; decide +kernel)
    | (show Nat.testBit _ _ = true; decide +kernel)
    | intro _
    | split)

theorem frame_execHandbackTimeout {s u : State} {t : Edges} (h : execHandbackTimeout t s = .next u) : Frame 0xc22a63c7a 0x400500c004100024 s u := by
  refine frame_live h (fun s => ?_) (by decide +kernel) (by decide +kernel)
  clear h
  try dsimp only
  iterate 50 all_goals try (first
    | with_reducible apply Frame.ite
    | with_reducible exact Frame.refl _ _ _
    | with_reducible apply frame_flag
    | (with_reducible apply frame_raise_low; case hs => decide)
    | with_reducible apply frame_handbackDone
    | with_reducible apply Frame.foldlT
    | with_reducible assumption
    | (show (_ : Nat) = _; decide +kernel)
    | (show Nat.testBit _ _ = true; decide +kernel)
    | intro _
    | split)

theorem frame_execChatterHoldEnd {s u : State} {t : Edges} (h : execChatterHoldEnd t s = .next u) : Frame 0x103e03042 0xc104330020 s u := by
  refine frame_live h (fun s => ?_) (by decide +kernel) (by decide +kernel)
  clear h
  try dsimp only
  iterate 50 all_goals try (first
    | with_reducible apply Frame.ite
    | with_reducible exact Frame.refl _ _ _
    | (with_reducible apply frame_raise_low; case hs => decide)
    | with_reducible apply frame_holdOver
    | with_reducible apply Frame.foldlT
    | with_reducible assumption
    | (show (_ : Nat) = _; decide +kernel)
    | (show Nat.testBit _ _ = true; decide +kernel)
    | intro _
    | split)

theorem frame_execSetpointSlewStep {s u : State} {t : Edges} (h : execSetpointSlewStep t s = .next u) : Frame 0x102203042 0xc004100020 s u := by
  refine frame_live h (fun s => ?_) (by decide +kernel) (by decide +kernel)
  clear h
  try dsimp only
  iterate 50 all_goals try (first
    | with_reducible apply Frame.ite
    | with_reducible exact Frame.refl _ _ _
    | with_reducible apply frame_slewStep
    | with_reducible apply Frame.foldlT
    | with_reducible assumption
    | (show (_ : Nat) = _; decide +kernel)
    | (show Nat.testBit _ _ = true; decide +kernel)
    | intro _
    | split)

theorem frame_execFuseSample {s u : State} {t : Edges} {c : Fuse} {fi fv fgs : Code} (h : execFuseSample t c fi fv fgs s = .next u) : Frame 0x27e03046 0xc108b300a0 s u := by
  refine frame_live h (fun s => ?_) (by decide +kernel) (by decide +kernel)
  clear h
  try dsimp only
  iterate 50 all_goals try (first
    | with_reducible apply Frame.ite
    | with_reducible exact Frame.refl _ _ _
    | with_reducible apply frame_fuseSample
    | with_reducible apply Frame.foldlT
    | with_reducible assumption
    | (show (_ : Nat) = _; decide +kernel)
    | (show Nat.testBit _ _ = true; decide +kernel)
    | intro _
    | split)

theorem frame_execFuseRampWindow {s u : State} {t : Edges} {c : Fuse} (h : execFuseRampWindow t c s = .next u) : Frame 0x23e03046 0xc108330020 s u := by
  refine frame_live h (fun s => ?_) (by decide +kernel) (by decide +kernel)
  clear h
  try dsimp only
  iterate 50 all_goals try (first
    | with_reducible apply Frame.ite
    | with_reducible exact Frame.refl _ _ _
    | with_reducible apply frame_rampWindow
    | with_reducible apply Frame.foldlT
    | with_reducible assumption
    | (show (_ : Nat) = _; decide +kernel)
    | (show Nat.testBit _ _ = true; decide +kernel)
    | intro _
    | split)

theorem frame_execFuseRampTimeout {s u : State} {t : Edges} {c : Fuse} (h : execFuseRampTimeout t c s = .next u) : Frame 0x23e03046 0xc108330020 s u := by
  refine frame_live h (fun s => ?_) (by decide +kernel) (by decide +kernel)
  clear h
  try dsimp only
  iterate 50 all_goals try (first
    | with_reducible apply Frame.ite
    | with_reducible exact Frame.refl _ _ _
    | with_reducible apply frame_inrushTrip
    | with_reducible apply Frame.foldlT
    | with_reducible assumption
    | (show (_ : Nat) = _; decide +kernel)
    | (show Nat.testBit _ _ = true; decide +kernel)
    | intro _
    | split)

theorem frame_execFuseHardTrip {s u : State} {t : Edges} {c : Fuse} {rev : Bool} {fi : Code} (h : execFuseHardTrip t c rev fi s = .next u) : Frame 0x23e03046 0xc1083300a0 s u := by
  refine frame_live h (fun s => ?_) (by decide +kernel) (by decide +kernel)
  clear h
  try dsimp only
  iterate 50 all_goals try (first
    | with_reducible apply Frame.ite
    | with_reducible exact Frame.refl _ _ _
    | with_reducible apply frame_putAt
    | (with_reducible apply frame_raise_low; case hs => decide)
    | with_reducible apply frame_fusMeasure
    | with_reducible apply frame_fusTrip
    | with_reducible apply Frame.foldlT
    | with_reducible assumption
    | (show (_ : Nat) = _; decide +kernel)
    | (show Nat.testBit _ _ = true; decide +kernel)
    | intro _
    | split)

theorem frame_execFuseSettleDone {s u : State} {t : Edges} {c : Fuse} (h : execFuseSettleDone t c s = .next u) : Frame 0x63e03042 0xc11c130020 s u := by
  refine frame_live h (fun s => ?_) (by decide +kernel) (by decide +kernel)
  clear h
  try dsimp only
  iterate 50 all_goals try (first
    | with_reducible apply Frame.ite
    | with_reducible exact Frame.refl _ _ _
    | with_reducible apply frame_fusOnNow
    | with_reducible apply Frame.foldlT
    | with_reducible assumption
    | (show (_ : Nat) = _; decide +kernel)
    | (show Nat.testBit _ _ = true; decide +kernel)
    | intro _
    | split)

theorem frame_execFuseGateRiseTimeout {s u : State} {t : Edges} {c : Fuse} (h : execFuseGateRiseTimeout t c s = .next u) : Frame 0x23e03046 0xc108330020 s u := by
  refine frame_live h (fun s => ?_) (by decide +kernel) (by decide +kernel)
  clear h
  try dsimp only
  iterate 50 all_goals try (first
    | with_reducible apply Frame.ite
    | with_reducible exact Frame.refl _ _ _
    | with_reducible apply frame_flag
    | (with_reducible apply frame_raise_low; case hs => decide)
    | with_reducible apply frame_fusTrip
    | with_reducible apply Frame.foldlT
    | with_reducible assumption
    | (show (_ : Nat) = _; decide +kernel)
    | (show Nat.testBit _ _ = true; decide +kernel)
    | intro _
    | split)

theorem frame_execFuseGateOff {s u : State} {t : Edges} {c : Fuse} (h : execFuseGateOff t c s = .next u) : Frame 0x1203042 0xc100000020 s u := by
  refine frame_live h (fun s => ?_) (by decide +kernel) (by decide +kernel)
  clear h
  try dsimp only
  iterate 50 all_goals try (first
    | with_reducible apply Frame.ite
    | with_reducible exact Frame.refl _ _ _
    | with_reducible apply frame_fusOpened
    | with_reducible apply Frame.foldlT
    | with_reducible assumption
    | (show (_ : Nat) = _; decide +kernel)
    | (show Nat.testBit _ _ = true; decide +kernel)
    | intro _
    | split)

theorem frame_execFuseGateFallTimeout {s u : State} {t : Edges} {c : Fuse} (h : execFuseGateFallTimeout t c s = .next u) : Frame 0x403e43c7a 0x500c100130024 s u := by
  refine frame_live h (fun s => ?_) (by decide +kernel) (by decide +kernel)
  clear h
  try dsimp only
  iterate 50 all_goals try (first
    | with_reducible apply Frame.ite
    | with_reducible exact Frame.refl _ _ _
    | with_reducible apply frame_putAt
    | with_reducible apply frame_flag
    | with_reducible apply frame_bumpAt
    | (with_reducible apply frame_raise_low; case hs => decide)
    | with_reducible apply frame_raise
    | with_reducible apply frame_bayToFault
    | with_reducible apply frame_fusLatch
    | with_reducible apply Frame.foldlT
    | with_reducible assumption
    | (show (_ : Nat) = _; decide +kernel)
    | (show Nat.testBit _ _ = true; decide +kernel)
    | intro _
    | split)

theorem frame_execFuseRetry {s u : State} {t : Edges} {c : Fuse} (h : execFuseRetry t c s = .next u) : Frame 0x1a03042 0xc100100020 s u := by
  refine frame_live h (fun s => ?_) (by decide +kernel) (by decide +kernel)
  clear h
  try dsimp only
  iterate 50 all_goals try (first
    | with_reducible apply Frame.ite
    | with_reducible exact Frame.refl _ _ _
    | with_reducible apply frame_fusRetryNow
    | with_reducible apply Frame.foldlT
    | with_reducible assumption
    | (show (_ : Nat) = _; decide +kernel)
    | (show Nat.testBit _ _ = true; decide +kernel)
    | intro _
    | split)

theorem frame_execFusClr {s u : State} {t : Edges} {c : Fuse} {key : Byte} (h : execFusClr t c key s = .next u) : Frame 0x3e03042 0xc100130020 s u := by
  refine frame_hostWrite h (fun s => ?_) (by decide +kernel) (by decide +kernel)
  clear h
  try dsimp only
  iterate 50 all_goals try (first
    | with_reducible apply Frame.ite
    | with_reducible exact Frame.refl _ _ _
    | with_reducible apply frame_fusClr
    | with_reducible apply Frame.foldlT
    | with_reducible assumption
    | (show (_ : Nat) = _; decide +kernel)
    | (show Nat.testBit _ _ = true; decide +kernel)
    | intro _
    | split)

theorem frame_execBayPresenceChange {s u : State} {t : Edges} {b : Bay} {level : Bool} (h : execBayPresenceChange t b level s = .next u) : Frame 0x3e03042 0xc100130020 s u := by
  refine frame_live h (fun s => ?_) (by decide +kernel) (by decide +kernel)
  clear h
  try dsimp only
  iterate 50 all_goals try (first
    | with_reducible apply Frame.ite
    | with_reducible exact Frame.refl _ _ _
    | with_reducible apply frame_presRise
    | with_reducible apply frame_presFall
    | with_reducible apply Frame.foldlT
    | with_reducible assumption
    | (show (_ : Nat) = _; decide +kernel)
    | (show Nat.testBit _ _ = true; decide +kernel)
    | intro _
    | split)

theorem frame_execPresenceDebounce {s u : State} {t : Edges} {b : Bay} (h : execPresenceDebounce t b s = .next u) : Frame 0x3e03042 0xc100130020 s u := by
  refine frame_live h (fun s => ?_) (by decide +kernel) (by decide +kernel)
  clear h
  try dsimp only
  iterate 50 all_goals try (first
    | (simp only [Frame.mk_iff]; with_reducible apply FrameC.upd <;> first | with_reducible exact fun _ => rfl | exact fun h => absurd h (by decide +kernel) | with_reducible exact fun _ h => ⟨h, rfl, rfl⟩ | with_reducible exact fun _ _ _ => rfl | with_reducible exact id | with_reducible exact fun h _ => h | with_reducible exact fun _ h => h | skip)
    | with_reducible apply Frame.ite
    | with_reducible exact Frame.refl _ _ _
    | with_reducible apply frame_setBay
    | with_reducible apply frame_bayInserted
    | with_reducible apply Frame.foldlT
    | with_reducible assumption
    | (show (_ : Nat) = _; decide +kernel)
    | (show Nat.testBit _ _ = true; decide +kernel)
    | intro _
    | split)

theorem frame_execBayokRise {s u : State} {t : Edges} {b : Bay} (h : execBayokRise t b s = .next u) : Frame 0x3e03042 0xc100130020 s u := by
  refine frame_live h (fun s => ?_) (by decide +kernel) (by decide +kernel)
  clear h
  try dsimp only
  iterate 50 all_goals try (first
    | (simp only [Frame.mk_iff]; with_reducible apply FrameC.upd <;> first | with_reducible exact fun _ => rfl | exact fun h => absurd h (by decide +kernel) | with_reducible exact fun _ h => ⟨h, rfl, rfl⟩ | with_reducible exact fun _ _ _ => rfl | with_reducible exact id | with_reducible exact fun h _ => h | with_reducible exact fun _ h => h | skip)
    | with_reducible apply Frame.ite
    | with_reducible exact Frame.refl _ _ _
    | with_reducible apply frame_setBay
    | with_reducible apply frame_bayReady
    | with_reducible apply Frame.foldlT
    | with_reducible assumption
    | (show (_ : Nat) = _; decide +kernel)
    | (show Nat.testBit _ _ = true; decide +kernel)
    | intro _
    | split)

theorem frame_execBayOkTimeout {s u : State} {t : Edges} {b : Bay} (h : execBayOkTimeout t b s = .next u) : Frame 0x3e03046 0xc100330020 s u := by
  refine frame_live h (fun s => ?_) (by decide +kernel) (by decide +kernel)
  clear h
  try dsimp only
  iterate 50 all_goals try (first
    | with_reducible apply Frame.ite
    | with_reducible exact Frame.refl _ _ _
    | (with_reducible apply frame_raise_low; case hs => decide)
    | with_reducible apply frame_openReq
    | with_reducible apply frame_bayToFault
    | with_reducible apply frame_restoreReserves
    | with_reducible apply Frame.foldlT
    | with_reducible assumption
    | (show (_ : Nat) = _; decide +kernel)
    | (show Nat.testBit _ _ = true; decide +kernel)
    | intro _
    | split)

theorem frame_execBayEjectChange {s u : State} {t : Edges} {b : Bay} {level : Bool} (h : execBayEjectChange t b level s = .next u) : Frame 0x3e03042 0xc100130020 s u := by
  refine frame_live h (fun s => ?_) (by decide +kernel) (by decide +kernel)
  clear h
  try dsimp only
  iterate 50 all_goals try (first
    | (simp only [Frame.mk_iff]; with_reducible apply FrameC.upd <;> first | with_reducible exact fun _ => rfl | exact fun h => absurd h (by decide +kernel) | with_reducible exact fun _ h => ⟨h, rfl, rfl⟩ | with_reducible exact fun _ _ _ => rfl | with_reducible exact id | with_reducible exact fun h _ => h | with_reducible exact fun _ h => h | skip)
    | with_reducible apply Frame.ite
    | with_reducible exact Frame.refl _ _ _
    | with_reducible apply frame_setBay
    | with_reducible apply frame_ejectRise
    | with_reducible apply frame_ejectFall
    | with_reducible apply Frame.foldlT
    | with_reducible assumption
    | (show (_ : Nat) = _; decide +kernel)
    | (show Nat.testBit _ _ = true; decide +kernel)
    | intro _
    | split)

theorem frame_execBayLost {s u : State} {t : Edges} {b : Bay} (h : execBayLost t b s = .next u) : Frame 0x3e03046 0xc100330020 s u := by
  refine frame_live h (fun s => ?_) (by decide +kernel) (by decide +kernel)
  clear h
  try dsimp only
  iterate 50 all_goals try (first
    | with_reducible apply Frame.ite
    | with_reducible exact Frame.refl _ _ _
    | with_reducible apply frame_bump
    | (with_reducible apply frame_raise_low; case hs => decide)
    | with_reducible apply frame_restoreReserves
    | with_reducible apply frame_bayGone
    | with_reducible apply Frame.foldlT
    | with_reducible assumption
    | (show (_ : Nat) = _; decide +kernel)
    | (show Nat.testBit _ _ = true; decide +kernel)
    | intro _
    | split)

theorem frame_execBayPfcLost {s u : State} {t : Edges} {b : Bay} (h : execBayPfcLost t b s = .next u) : Frame 0x3e03046 0xc100330020 s u := by
  refine frame_live h (fun s => ?_) (by decide +kernel) (by decide +kernel)
  clear h
  try dsimp only
  iterate 50 all_goals try (first
    | (simp only [Frame.mk_iff]; with_reducible apply FrameC.upd <;> first | with_reducible exact fun _ => rfl | exact fun h => absurd h (by decide +kernel) | with_reducible exact fun _ h => ⟨h, rfl, rfl⟩ | with_reducible exact fun _ _ _ => rfl | with_reducible exact id | with_reducible exact fun h _ => h | with_reducible exact fun _ h => h | skip)
    | with_reducible apply Frame.ite
    | with_reducible exact Frame.refl _ _ _
    | (with_reducible apply frame_raise_low; case hs => decide)
    | with_reducible apply frame_setBay
    | with_reducible apply frame_restoreReserves
    | with_reducible apply frame_pfcLost
    | with_reducible apply Frame.foldlT
    | with_reducible assumption
    | (show (_ : Nat) = _; decide +kernel)
    | (show Nat.testBit _ _ = true; decide +kernel)
    | intro _
    | split)

theorem frame_execBayLeaveForced {s u : State} {t : Edges} {b : Bay} (h : execBayLeaveForced t b s = .next u) : Frame 0x3e03042 0xc100130020 s u := by
  refine frame_live h (fun s => ?_) (by decide +kernel) (by decide +kernel)
  clear h
  try dsimp only
  iterate 50 all_goals try (first
    | with_reducible apply Frame.ite
    | with_reducible exact Frame.refl _ _ _
    | (with_reducible apply frame_raise_low; case hs => decide)
    | with_reducible apply frame_leaveDone
    | with_reducible apply Frame.foldlT
    | with_reducible assumption
    | (show (_ : Nat) = _; decide +kernel)
    | (show Nat.testBit _ _ = true; decide +kernel)
    | intro _
    | split)

theorem frame_execDeepTimeout {s u : State} {t : Edges} {b : Bay} (h : execDeepTimeout t b s = .next u) : Frame 0xa02002 0x100000 s u := by
  refine frame_live h (fun s => ?_) (by decide +kernel) (by decide +kernel)
  clear h
  try dsimp only
  iterate 50 all_goals try (first
    | with_reducible apply Frame.ite
    | with_reducible exact Frame.refl _ _ _
    | with_reducible apply frame_setBst
    | with_reducible apply Frame.foldlT
    | with_reducible assumption
    | (show (_ : Nat) = _; decide +kernel)
    | (show Nat.testBit _ _ = true; decide +kernel)
    | intro _
    | split)

theorem frame_execPresenceLoss100ms {s u : State} {t : Edges} {x : Fin 16} (h : execPresenceLoss100ms t x s = .next u) : Frame 0x3e03c02 0x400c000030020 s u := by
  refine frame_live h (fun s => ?_) (by decide +kernel) (by decide +kernel)
  clear h
  try dsimp only
  iterate 50 all_goals try (first
    | (simp only [Frame.mk_iff]; with_reducible apply FrameC.upd <;> first | with_reducible exact fun _ => rfl | exact fun h => absurd h (by decide +kernel) | with_reducible exact fun _ h => ⟨h, rfl, rfl⟩ | with_reducible exact fun _ _ _ => rfl | with_reducible exact id | with_reducible exact fun h _ => h | with_reducible exact fun _ h => h | skip)
    | with_reducible apply Frame.ite
    | with_reducible exact Frame.refl _ _ _
    | with_reducible apply frame_setFuse
    | with_reducible apply frame_discardTrim
    | with_reducible apply Frame.foldlT
    | with_reducible assumption
    | (show (_ : Nat) = _; decide +kernel)
    | (show Nat.testBit _ _ = true; decide +kernel)
    | intro _
    | split)

theorem frame_execMailboxRecord {s u : State} {t : Edges} {r : List Byte} (h : execMailboxRecord t r s = .next u) : Frame 0x40020305a 0xc001000020 s u := by
  refine frame_live h (fun s => ?_) (by decide +kernel) (by decide +kernel)
  clear h
  try dsimp only
  iterate 50 all_goals try (first
    | with_reducible apply Frame.ite
    | with_reducible exact Frame.refl _ _ _
    | with_reducible apply frame_mailbox
    | with_reducible apply Frame.foldlT
    | with_reducible assumption
    | (show (_ : Nat) = _; decide +kernel)
    | (show Nat.testBit _ _ = true; decide +kernel)
    | intro _
    | split)

theorem frame_execContractWrite {s u : State} {t : Edges} {r : List Byte} (h : execContractWrite t r s = .next u) : Frame 0x40020305a 0xc003000020 s u := by
  refine frame_hostWrite h (fun s => ?_) (by decide +kernel) (by decide +kernel)
  clear h
  try dsimp only
  iterate 50 all_goals try (first
    | with_reducible apply Frame.ite
    | with_reducible exact Frame.refl _ _ _
    | with_reducible apply frame_contractWrite
    | with_reducible apply Frame.foldlT
    | with_reducible assumption
    | (show (_ : Nat) = _; decide +kernel)
    | (show Nat.testBit _ _ = true; decide +kernel)
    | intro _
    | split)

theorem frame_execGrantReadback {s u : State} {t : Edges} {id : Byte} (h : execGrantReadback t id s = .next u) : Frame 0x40020a002 0x0 s u := by
  refine frame_hostWrite h (fun s => ?_) (by decide +kernel) (by decide +kernel)
  clear h
  try dsimp only
  iterate 50 all_goals try (first
    | with_reducible apply Frame.ite
    | with_reducible exact Frame.refl _ _ _
    | with_reducible apply frame_grantReadback
    | with_reducible apply Frame.foldlT
    | with_reducible assumption
    | (show (_ : Nat) = _; decide +kernel)
    | (show Nat.testBit _ _ = true; decide +kernel)
    | intro _
    | split)

theorem frame_execGrantWrite {s u : State} {t : Edges} {res : BusResult} (h : execGrantWrite t res s = .next u) : Frame 0x40021f042 0x10000c003000020 s u := by
  refine frame_live h (fun s => ?_) (by decide +kernel) (by decide +kernel)
  clear h
  try dsimp only
  iterate 50 all_goals try (first
    | with_reducible apply Frame.ite
    | with_reducible exact Frame.refl _ _ _
    | with_reducible apply frame_grantWrite
    | with_reducible apply Frame.foldlT
    | with_reducible assumption
    | (show (_ : Nat) = _; decide +kernel)
    | (show Nat.testBit _ _ = true; decide +kernel)
    | intro _
    | split)

theorem frame_execPaceReturnAcceptance {s u : State} {t : Edges} {g : Fin 16} (h : execPaceReturnAcceptance t g s = .next u) : Frame 0x6e03042 0xc000030020 s u := by
  refine frame_live h (fun s => ?_) (by decide +kernel) (by decide +kernel)
  clear h
  try dsimp only
  iterate 50 all_goals try (first
    | with_reducible apply Frame.ite
    | with_reducible exact Frame.refl _ _ _
    | with_reducible apply frame_warnActs
    | with_reducible apply Frame.foldlT
    | with_reducible assumption
    | (show (_ : Nat) = _; decide +kernel)
    | (show Nat.testBit _ _ = true; decide +kernel)
    | intro _
    | split)

theorem frame_execJournalCounters {s u : State} {t : Edges} (h : execJournalCounters t s = .next u) : Frame 0x203c02 0x400c000000020 s u := by
  refine frame_live h (fun s => ?_) (by decide +kernel) (by decide +kernel)
  clear h
  try dsimp only
  iterate 50 all_goals try (first
    | (simp only [Frame.mk_iff]; with_reducible apply FrameC.upd <;> first | with_reducible exact fun _ => rfl | exact fun h => absurd h (by decide +kernel) | with_reducible exact fun _ h => ⟨h, rfl, rfl⟩ | with_reducible exact fun _ _ _ => rfl | with_reducible exact id | with_reducible exact fun h _ => h | with_reducible exact fun _ h => h | skip)
    | with_reducible apply Frame.ite
    | with_reducible exact Frame.refl _ _ _
    | with_reducible apply frame_jAppend
    | with_reducible apply Frame.foldlT
    | with_reducible assumption
    | (show (_ : Nat) = _; decide +kernel)
    | (show Nat.testBit _ _ = true; decide +kernel)
    | intro _
    | split)

theorem frame_execJournalHourly {s u : State} {t : Edges} (h : execJournalHourly t s = .next u) : Frame 0x203c02 0x400c000000020 s u := by
  refine frame_live h (fun s => ?_) (by decide +kernel) (by decide +kernel)
  clear h
  try dsimp only
  iterate 50 all_goals try (first
    | (simp only [Frame.mk_iff]; with_reducible apply FrameC.upd <;> first | with_reducible exact fun _ => rfl | exact fun h => absurd h (by decide +kernel) | with_reducible exact fun _ h => ⟨h, rfl, rfl⟩ | with_reducible exact fun _ _ _ => rfl | with_reducible exact id | with_reducible exact fun h _ => h | with_reducible exact fun _ h => h | skip)
    | with_reducible apply Frame.ite
    | with_reducible exact Frame.refl _ _ _
    | with_reducible apply frame_jAppendAll
    | with_reducible apply Frame.foldlT
    | with_reducible assumption
    | (show (_ : Nat) = _; decide +kernel)
    | (show Nat.testBit _ _ = true; decide +kernel)
    | intro _
    | split)

theorem frame_execCompactionDone {s u : State} {t : Edges} {eraseOk : Bool} (h : execCompactionDone t eraseOk s = .next u) : Frame 0x203c42 0x400c000000020 s u := by
  refine frame_live h (fun s => ?_) (by decide +kernel) (by decide +kernel)
  clear h
  try dsimp only
  iterate 50 all_goals try (first
    | with_reducible apply Frame.ite
    | with_reducible exact Frame.refl _ _ _
    | with_reducible apply frame_compactDone
    | with_reducible apply frame_compactFailed
    | with_reducible apply Frame.foldlT
    | with_reducible assumption
    | (show (_ : Nat) = _; decide +kernel)
    | (show Nat.testBit _ _ = true; decide +kernel)
    | intro _
    | split)

theorem frame_execCompactionRetry {s u : State} {t : Edges} (h : execCompactionRetry t s = .next u) : Frame 0x203c02 0x400c000000020 s u := by
  refine frame_live h (fun s => ?_) (by decide +kernel) (by decide +kernel)
  clear h
  try dsimp only
  iterate 50 all_goals try (first
    | with_reducible apply Frame.ite
    | with_reducible exact Frame.refl _ _ _
    | with_reducible apply frame_compactStart
    | with_reducible apply Frame.foldlT
    | with_reducible assumption
    | (show (_ : Nat) = _; decide +kernel)
    | (show Nat.testBit _ _ = true; decide +kernel)
    | intro _
    | split)

theorem frame_tryslots {P G : Nat} {s₀ s : State} (h₀ : Frame P G s₀ s) (atStart : Bool) (n : Nat) (l : List Bool) (hP : 0xd67ce1c78 &&& P = 0xd67ce1c78) (hG : 0xffffffffffffffff &&& G = 0xffffffffffffffff) :
    Frame P G s₀ (s.tryslots atStart n l) := by
  induction l generalizing s n with
  | nil => exact frame_loadFailed h₀ _ _ (land_trans hP (by decide +kernel)) (land_trans hG (by decide +kernel))
  | cons b l ih =>
    unfold State.tryslots
    split
    · exact frame_imageIn h₀ _ _ (land_trans hP (by decide +kernel)) (land_trans hG (by decide +kernel))
    · exact ih (frame_slotRejected h₀ _ _ _ (land_trans hP (by decide +kernel)) (land_trans hG (by decide +kernel))) _

theorem frame_execImageCheckDone {s u : State} {t : Edges} (h : execImageCheckDone t s = .next u) : Frame 0xd67ee3c7a 0xffffffffffffffff s u := by
  refine frame_live h (fun s => ?_) (by decide +kernel) (by decide +kernel)
  clear h
  try dsimp only
  iterate 50 all_goals try (first
    | with_reducible apply Frame.ite
    | with_reducible exact Frame.refl _ _ _
    | with_reducible apply frame_tryslots
    | with_reducible apply Frame.foldlT
    | with_reducible assumption
    | (show (_ : Nat) = _; decide +kernel)
    | (show Nat.testBit _ _ = true; decide +kernel)
    | intro _
    | split)

theorem frame_execProbationPassed {s u : State} {t : Edges} (h : execProbationPassed t s = .next u) : Frame 0x203e42 0x500c000000024 s u := by
  refine frame_live h (fun s => ?_) (by decide +kernel) (by decide +kernel)
  clear h
  try dsimp only
  iterate 50 all_goals try (first
    | with_reducible apply Frame.ite
    | with_reducible exact Frame.refl _ _ _
    | with_reducible apply frame_probationPassed
    | with_reducible apply Frame.foldlT
    | with_reducible assumption
    | (show (_ : Nat) = _; decide +kernel)
    | (show Nat.testBit _ _ = true; decide +kernel)
    | intro _
    | split)

theorem frame_execUploadOpen {s u : State} {t : Edges} {key : Byte} (h : execUploadOpen t key s = .next u) : Frame 0x243c02 0x500c000000020 s u := by
  refine frame_live h (fun s => ?_) (by decide +kernel) (by decide +kernel)
  clear h
  try dsimp only
  iterate 50 all_goals try (first
    | with_reducible apply Frame.ite
    | with_reducible exact Frame.refl _ _ _
    | with_reducible apply frame_upCommand
    | with_reducible apply frame_uploadOpen
    | with_reducible apply Frame.foldlT
    | with_reducible assumption
    | (show (_ : Nat) = _; decide +kernel)
    | (show Nat.testBit _ _ = true; decide +kernel)
    | intro _
    | split)

theorem frame_slotWf {s : State} (h : s.storesWf = true) (b : Bool) : Memory.wf (s.flash.slot b) = true := by
  simp only [State.storesWf, Bool.and_eq_true] at h
  cases b
  · exact h.1.2
  · exact h.2

theorem frame_setSlot {P G : Nat} {s₀ s : State} (h₀ : Frame P G s₀ s) (b : Bool) (m : Memory) (hP : 0x400 &&& P = 0x400) (hm : s.storesWf = true → Memory.wf m = true) :
    Frame P G s₀ (s.setSlot b m) := by
  have hF : P.testBit 10 = true := bit_mono hP (by decide +kernel)
  unfold State.setSlot; split
  · refine h₀.trans ⟨fun _ => rfl, fun _ => rfl, fun _ => rfl, fun _ => rfl, fun _ => rfl, fun _ => rfl, fun _ => rfl, fun _ => rfl, fun _ => rfl, fun _ => rfl, fun x => absurd x (by rw [hF]; decide), fun _ => rfl, fun _ => rfl, fun _ => rfl, fun _ => rfl, fun _ => rfl, fun _ => rfl, fun _ => rfl, fun _ => rfl, fun _ => rfl, fun _ => rfl, fun _ => rfl, fun _ => rfl, fun _ => rfl, fun _ => rfl, fun _ => rfl, fun _ => rfl, fun _ => rfl, fun _ => rfl, fun _ => rfl, fun _ => rfl, fun _ => rfl, fun _ => rfl, fun _ => rfl, fun _ => rfl, fun _ => rfl, fun _ h => ⟨h, rfl, rfl⟩, fun _ _ _ => rfl, fun y => ?_⟩
    have hy := hm y
    simp only [State.storesWf, Bool.and_eq_true] at y ⊢
    exact ⟨⟨y.1.1, y.1.2⟩, hy⟩
  · refine h₀.trans ⟨fun _ => rfl, fun _ => rfl, fun _ => rfl, fun _ => rfl, fun _ => rfl, fun _ => rfl, fun _ => rfl, fun _ => rfl, fun _ => rfl, fun _ => rfl, fun x => absurd x (by rw [hF]; decide), fun _ => rfl, fun _ => rfl, fun _ => rfl, fun _ => rfl, fun _ => rfl, fun _ => rfl, fun _ => rfl, fun _ => rfl, fun _ => rfl, fun _ => rfl, fun _ => rfl, fun _ => rfl, fun _ => rfl, fun _ => rfl, fun _ => rfl, fun _ => rfl, fun _ => rfl, fun _ => rfl, fun _ => rfl, fun _ => rfl, fun _ => rfl, fun _ => rfl, fun _ => rfl, fun _ => rfl, fun _ => rfl, fun _ h => ⟨h, rfl, rfl⟩, fun _ _ _ => rfl, fun y => ?_⟩
    have hy := hm y
    simp only [State.storesWf, Bool.and_eq_true] at y ⊢
    exact ⟨⟨y.1.1, hy⟩, y.2⟩

theorem frame_execUploadEraseDone {s u : State} {t : Edges} (h : execUploadEraseDone t s = .next u) : Frame 0x203c02 0x500c000000020 s u := by
  refine frame_live h (fun s => ?_) (by decide +kernel) (by decide +kernel)
  clear h
  try dsimp only
  iterate 50 all_goals try (first
    | with_reducible apply Frame.ite
    | with_reducible exact Frame.refl _ _ _
    | with_reducible apply frame_put
    | with_reducible apply frame_eraseSectors
    | with_reducible apply frame_jDrain
    | (refine frame_setSlot ?_ _ _ ?_ (fun y => by first | rfl | exact memWriteBytes_wf (frame_slotWf y _)))
    | with_reducible apply Frame.foldlT
    | with_reducible assumption
    | (show (_ : Nat) = _; decide +kernel)
    | (show Nat.testBit _ _ = true; decide +kernel)
    | intro _
    | split)

theorem frame_execUploadChunk {s u : State} {t : Edges} {d : List Byte} (h : execUploadChunk t d s = .next u) : Frame 0x242002 0x1000000000000 s u := by
  refine frame_live h (fun s => ?_) (by decide +kernel) (by decide +kernel)
  clear h
  try dsimp only
  iterate 50 all_goals try (first
    | with_reducible apply Frame.ite
    | with_reducible exact Frame.refl _ _ _
    | with_reducible apply frame_uploadChunk
    | with_reducible apply Frame.foldlT
    | with_reducible assumption
    | (show (_ : Nat) = _; decide +kernel)
    | (show Nat.testBit _ _ = true; decide +kernel)
    | intro _
    | split)

theorem frame_execChunkProgrammed {s u : State} {t : Edges} {ok : Bool} (h : execChunkProgrammed t ok s = .next u) : Frame 0x243442 0x500c000000020 s u := by
  refine frame_live h (fun s => ?_) (by decide +kernel) (by decide +kernel)
  clear h
  try dsimp only
  iterate 50 all_goals try (first
    | (simp only [Frame.mk_iff]; with_reducible apply FrameC.upd <;> first | with_reducible exact fun _ => rfl | exact fun h => absurd h (by decide +kernel) | with_reducible exact fun _ h => ⟨h, rfl, rfl⟩ | with_reducible exact fun _ _ _ => rfl | with_reducible exact id | with_reducible exact fun h _ => h | with_reducible exact fun _ h => h | skip)
    | with_reducible apply Frame.ite
    | with_reducible exact Frame.refl _ _ _
    | with_reducible apply frame_put
    | with_reducible apply frame_flag
    | with_reducible apply frame_bump
    | (refine frame_setSlot ?_ _ _ ?_ (fun y => by first | rfl | exact memWriteBytes_wf (frame_slotWf y _)))
    | with_reducible apply frame_uploadFailed
    | with_reducible apply Frame.foldlT
    | with_reducible assumption
    | (show (_ : Nat) = _; decide +kernel)
    | (show Nat.testBit _ _ = true; decide +kernel)
    | intro _
    | split)

theorem frame_execUploadClose {s u : State} {t : Edges} {key : Byte} (h : execUploadClose t key s = .next u) : Frame 0x203c42 0x500c000000020 s u := by
  refine frame_live h (fun s => ?_) (by decide +kernel) (by decide +kernel)
  clear h
  try dsimp only
  iterate 50 all_goals try (first
    | with_reducible apply Frame.ite
    | with_reducible exact Frame.refl _ _ _
    | with_reducible apply frame_upCommand
    | with_reducible apply frame_uploadClose
    | with_reducible apply Frame.foldlT
    | with_reducible assumption
    | (show (_ : Nat) = _; decide +kernel)
    | (show Nat.testBit _ _ = true; decide +kernel)
    | intro _
    | split)

theorem frame_execUploadAbort {s u : State} {t : Edges} {key : Byte} (h : execUploadAbort t key s = .next u) : Frame 0x243c02 0x500c000000020 s u := by
  refine frame_live h (fun s => ?_) (by decide +kernel) (by decide +kernel)
  clear h
  try dsimp only
  iterate 50 all_goals try (first
    | with_reducible apply Frame.ite
    | with_reducible exact Frame.refl _ _ _
    | with_reducible apply frame_upCommand
    | with_reducible apply frame_uploadAbort
    | with_reducible apply Frame.foldlT
    | with_reducible assumption
    | (show (_ : Nat) = _; decide +kernel)
    | (show Nat.testBit _ _ = true; decide +kernel)
    | intro _
    | split)

theorem frame_execPin {s u : State} {t : Edges} {key : Byte} (h : execPin t key s = .next u) : Frame 0x203c42 0x500c000000020 s u := by
  refine frame_live h (fun s => ?_) (by decide +kernel) (by decide +kernel)
  clear h
  try dsimp only
  iterate 50 all_goals try (first
    | with_reducible apply Frame.ite
    | with_reducible exact Frame.refl _ _ _
    | with_reducible apply frame_pinSet
    | with_reducible apply frame_pinCommand
    | with_reducible apply Frame.foldlT
    | with_reducible assumption
    | (show (_ : Nat) = _; decide +kernel)
    | (show Nat.testBit _ _ = true; decide +kernel)
    | intro _
    | split)

theorem frame_execUnpin {s u : State} {t : Edges} {key : Byte} (h : execUnpin t key s = .next u) : Frame 0x203c02 0x500c000000020 s u := by
  refine frame_live h (fun s => ?_) (by decide +kernel) (by decide +kernel)
  clear h
  try dsimp only
  iterate 50 all_goals try (first
    | with_reducible apply Frame.ite
    | with_reducible exact Frame.refl _ _ _
    | with_reducible apply frame_pinClear
    | with_reducible apply frame_pinCommand
    | with_reducible apply Frame.foldlT
    | with_reducible assumption
    | (show (_ : Nat) = _; decide +kernel)
    | (show Nat.testBit _ _ = true; decide +kernel)
    | intro _
    | split)

theorem frame_execUnpinAll {s u : State} {t : Edges} {key : Byte} (h : execUnpinAll t key s = .next u) : Frame 0x203c02 0x500c000000020 s u := by
  refine frame_live h (fun s => ?_) (by decide +kernel) (by decide +kernel)
  clear h
  try dsimp only
  iterate 50 all_goals try (first
    | with_reducible apply Frame.ite
    | with_reducible exact Frame.refl _ _ _
    | with_reducible apply frame_pinClearAll
    | with_reducible apply frame_pinCommand
    | with_reducible apply Frame.foldlT
    | with_reducible assumption
    | (show (_ : Nat) = _; decide +kernel)
    | (show Nat.testBit _ _ = true; decide +kernel)
    | intro _
    | split)

end Sys2Proof.Laws
end

