-- ==== Sys2Proof/Laws/FrameExec2.lean ====
section
/-! SUPPORT. Frame laws of the meanings: what each command can touch when it answers a next state. -/

namespace Sys2Proof.Laws

open Sys2Proof Sys2Proof.Machine

set_option Elab.async false
set_option linter.all false

theorem frame_execJournalScanDone {s u : State} {t : Edges} (h : execJournalScanDone t s = .next u) : Frame 0x400243c7a 0x500c000200024 s u := by
  refine frame_live h (fun s => ?_) (by decide +kernel) (by decide +kernel)
  clear h
  try dsimp only
  iterate 50 all_goals try (first
    | with_reducible apply Frame.ite
    | with_reducible exact Frame.refl _ _ _
    | with_reducible apply frame_scanDone
    | with_reducible apply Frame.foldlT
    | with_reducible assumption
    | (show (_ : Nat) = _; decide +kernel)
    | (show Nat.testBit _ _ = true; decide +kernel)
    | intro _
    | split)

theorem frame_execBayPeriodStart {s u : State} {t : Edges} {b : Bay} (h : execBayPeriodStart t b s = .next u) : Frame 0x3f0304e 0xffffffffffffffff s u := by
  refine frame_live h (fun s => ?_) (by decide +kernel) (by decide +kernel)
  clear h
  try dsimp only
  iterate 50 all_goals try (first
    | with_reducible apply Frame.ite
    | with_reducible exact Frame.refl _ _ _
    | with_reducible apply frame_periodStart
    | with_reducible apply Frame.foldlT
    | with_reducible assumption
    | (show (_ : Nat) = _; decide +kernel)
    | (show Nat.testBit _ _ = true; decide +kernel)
    | intro _
    | split)

theorem frame_execIcClaim {s u : State} {t : Edges} (h : execIcClaim t s = .next u) : Frame 0x202002 0x0 s u := by
  refine frame_live h (fun s => ?_) (by decide +kernel) (by decide +kernel)
  clear h
  try dsimp only
  iterate 50 all_goals try (first
    | with_reducible apply Frame.ite
    | with_reducible exact Frame.refl _ _ _
    | with_reducible apply frame_icClaim
    | with_reducible apply Frame.foldlT
    | with_reducible assumption
    | (show (_ : Nat) = _; decide +kernel)
    | (show Nat.testBit _ _ = true; decide +kernel)
    | intro _
    | split)

theorem frame_execIcComplete {s u : State} {t : Edges} {id : Byte} (h : execIcComplete t id s = .next u) : Frame 0x203042 0x100000c000000020 s u := by
  refine frame_live h (fun s => ?_) (by decide +kernel) (by decide +kernel)
  clear h
  try dsimp only
  iterate 50 all_goals try (first
    | with_reducible apply Frame.ite
    | with_reducible exact Frame.refl _ _ _
    | with_reducible apply frame_icComplete
    | with_reducible apply Frame.foldlT
    | with_reducible assumption
    | (show (_ : Nat) = _; decide +kernel)
    | (show Nat.testBit _ _ = true; decide +kernel)
    | intro _
    | split)

theorem frame_execHoldoffExpiry {s u : State} {t : Edges} {g : Fin 16} (h : execHoldoffExpiry t g s = .next u) : Frame 0x202002 0x0 s u := by
  refine frame_live h (fun s => ?_) (by decide +kernel) (by decide +kernel)
  clear h
  try dsimp only
  iterate 50 all_goals try (first
    | (simp only [Frame.mk_iff]; with_reducible apply FrameC.upd <;> first | with_reducible exact fun _ => rfl | exact fun h => absurd h (by decide +kernel) | with_reducible exact fun _ h => ⟨h, rfl, rfl⟩ | with_reducible exact fun _ _ _ => rfl | with_reducible exact id | with_reducible exact fun h _ => h | with_reducible exact fun _ h => h | skip)
    | with_reducible apply Frame.ite
    | with_reducible exact Frame.refl _ _ _
    | with_reducible apply frame_icRelease
    | with_reducible apply Frame.foldlT
    | with_reducible assumption
    | (show (_ : Nat) = _; decide +kernel)
    | (show Nat.testBit _ _ = true; decide +kernel)
    | intro _
    | split)

theorem frame_execRenotify {s u : State} {t : Edges} (h : execRenotify t s = .next u) : Frame 0x202002 0x0 s u := by
  refine frame_live h (fun s => ?_) (by decide +kernel) (by decide +kernel)
  clear h
  try dsimp only
  iterate 50 all_goals try (first
    | (simp only [Frame.mk_iff]; with_reducible apply FrameC.upd <;> first | with_reducible exact fun _ => rfl | exact fun h => absurd h (by decide +kernel) | with_reducible exact fun _ h => ⟨h, rfl, rfl⟩ | with_reducible exact fun _ _ _ => rfl | with_reducible exact id | with_reducible exact fun h _ => h | with_reducible exact fun _ h => h | skip)
    | with_reducible apply Frame.ite
    | with_reducible exact Frame.refl _ _ _
    | with_reducible apply Frame.foldlT
    | with_reducible assumption
    | (show (_ : Nat) = _; decide +kernel)
    | (show Nat.testBit _ _ = true; decide +kernel)
    | intro _
    | split)

theorem frame_execIrqOverdue {s u : State} {t : Edges} {id : Fin 128} (h : execIrqOverdue t id s = .next u) : Frame 0x203042 0xc000000020 s u := by
  refine frame_live h (fun s => ?_) (by decide +kernel) (by decide +kernel)
  clear h
  try dsimp only
  iterate 50 all_goals try (first
    | (simp only [Frame.mk_iff]; with_reducible apply FrameC.upd <;> first | with_reducible exact fun _ => rfl | exact fun h => absurd h (by decide +kernel) | with_reducible exact fun _ h => ⟨h, rfl, rfl⟩ | with_reducible exact fun _ _ _ => rfl | with_reducible exact id | with_reducible exact fun h _ => h | with_reducible exact fun _ h => h | skip)
    | with_reducible apply Frame.ite
    | with_reducible exact Frame.refl _ _ _
    | (with_reducible apply frame_raise_low; case hs => decide)
    | with_reducible apply Frame.foldlT
    | with_reducible assumption
    | (show (_ : Nat) = _; decide +kernel)
    | (show Nat.testBit _ _ = true; decide +kernel)
    | intro _
    | split)

theorem frame_execTwinFrameSlot {s u : State} {t : Edges} (h : execTwinFrameSlot t s = .next u) : Frame 0x303042 0x1000c000000020 s u := by
  refine frame_live h (fun s => ?_) (by decide +kernel) (by decide +kernel)
  clear h
  try dsimp only
  iterate 50 all_goals try (first
    | with_reducible apply Frame.ite
    | with_reducible exact Frame.refl _ _ _
    | with_reducible apply frame_frameSlot
    | with_reducible apply Frame.foldlT
    | with_reducible assumption
    | (show (_ : Nat) = _; decide +kernel)
    | (show Nat.testBit _ _ = true; decide +kernel)
    | intro _
    | split)

theorem frame_execKatDone {s u : State} {t : Edges} {failing : Byte} {injOk : Bool} (h : execKatDone t failing injOk s = .next u) : Frame 0xcc0363c7e 0x401500c010000024 s u := by
  refine frame_live h (fun s => ?_) (by decide +kernel) (by decide +kernel)
  clear h
  try dsimp only
  iterate 50 all_goals try (first
    | (simp only [Frame.mk_iff]; with_reducible apply FrameC.upd <;> first | with_reducible exact fun _ => rfl | exact fun h => absurd h (by decide +kernel) | with_reducible exact fun _ h => ⟨h, rfl, rfl⟩ | with_reducible exact fun _ _ _ => rfl | with_reducible exact id | with_reducible exact fun h _ => h | with_reducible exact fun _ h => h | skip)
    | with_reducible apply Frame.ite
    | with_reducible exact Frame.refl _ _ _
    | with_reducible apply frame_healthRefresh
    | with_reducible apply frame_katResolve
    | with_reducible apply Frame.foldlT
    | with_reducible assumption
    | (show (_ : Nat) = _; decide +kernel)
    | (show Nat.testBit _ _ = true; decide +kernel)
    | intro _
    | split)

theorem frame_execDecisionRecordTick {s u : State} {t : Edges} (h : execDecisionRecordTick t s = .next u) : Frame 0x421b03042 0xc10d330020 s u := by
  refine frame_live h (fun s => ?_) (by decide +kernel) (by decide +kernel)
  clear h
  try dsimp only
  iterate 50 all_goals try (first
    | with_reducible apply Frame.ite
    | with_reducible exact Frame.refl _ _ _
    | with_reducible apply frame_decisionTick
    | with_reducible apply Frame.foldlT
    | with_reducible assumption
    | (show (_ : Nat) = _; decide +kernel)
    | (show Nat.testBit _ _ = true; decide +kernel)
    | intro _
    | split)

theorem frame_execTwinFrameReceive {s u : State} {t : Edges} {f : TwinFrame} (h : execTwinFrameReceive t f s = .next u) : Frame 0xce1b63c7e 0xffffffffffffffff s u := by
  refine frame_live h (fun s => ?_) (by decide +kernel) (by decide +kernel)
  clear h
  try dsimp only
  iterate 50 all_goals try (first
    | with_reducible apply Frame.ite
    | with_reducible exact Frame.refl _ _ _
    | with_reducible apply frame_frameReceive
    | with_reducible apply Frame.foldlT
    | with_reducible assumption
    | (show (_ : Nat) = _; decide +kernel)
    | (show Nat.testBit _ _ = true; decide +kernel)
    | intro _
    | split)

theorem frame_execTwinSlotMissing {s u : State} {t : Edges} (h : execTwinSlotMissing t s = .next u) : Frame 0x303042 0x3000c000000020 s u := by
  refine frame_live h (fun s => ?_) (by decide +kernel) (by decide +kernel)
  clear h
  try dsimp only
  iterate 50 all_goals try (first
    | (simp only [Frame.mk_iff]; with_reducible apply FrameC.upd <;> first | with_reducible exact fun _ => rfl | exact fun h => absurd h (by decide +kernel) | with_reducible exact fun _ h => ⟨h, rfl, rfl⟩ | with_reducible exact fun _ _ _ => rfl | with_reducible exact id | with_reducible exact fun h _ => h | with_reducible exact fun _ h => h | skip)
    | with_reducible apply Frame.ite
    | with_reducible exact Frame.refl _ _ _
    | with_reducible apply frame_put
    | with_reducible apply frame_bump
    | with_reducible apply frame_healthRefresh
    | with_reducible apply frame_linkFault
    | with_reducible apply Frame.foldlT
    | with_reducible assumption
    | (show (_ : Nat) = _; decide +kernel)
    | (show Nat.testBit _ _ = true; decide +kernel)
    | intro _
    | split)

theorem frame_execDeadManRelease {s u : State} {t : Edges} (h : execDeadManRelease t s = .next u) : Frame 0xcc0363c7a 0x401500c010000024 s u := by
  refine frame_live h (fun s => ?_) (by decide +kernel) (by decide +kernel)
  clear h
  try dsimp only
  iterate 50 all_goals try (first
    | with_reducible apply Frame.ite
    | with_reducible exact Frame.refl _ _ _
    | with_reducible apply frame_yield
    | with_reducible apply Frame.foldlT
    | with_reducible assumption
    | (show (_ : Nat) = _; decide +kernel)
    | (show Nat.testBit _ _ = true; decide +kernel)
    | intro _
    | split)

theorem frame_execActinChange {s u : State} {t : Edges} {level : Bool} (h : execActinChange t level s = .next u) : Frame 0x302002 0x0 s u := by
  refine frame_live h (fun s => ?_) (by decide +kernel) (by decide +kernel)
  clear h
  try dsimp only
  iterate 50 all_goals try (first
    | (simp only [Frame.mk_iff]; with_reducible apply FrameC.upd <;> first | with_reducible exact fun _ => rfl | exact fun h => absurd h (by decide +kernel) | with_reducible exact fun _ h => ⟨h, rfl, rfl⟩ | with_reducible exact fun _ _ _ => rfl | with_reducible exact id | with_reducible exact fun h _ => h | with_reducible exact fun _ h => h | skip)
    | with_reducible apply Frame.ite
    | with_reducible exact Frame.refl _ _ _
    | with_reducible apply Frame.foldlT
    | with_reducible assumption
    | (show (_ : Nat) = _; decide +kernel)
    | (show Nat.testBit _ _ = true; decide +kernel)
    | intro _
    | split)

theorem frame_execTakeoverGapExpiry {s u : State} {t : Edges} (h : execTakeoverGapExpiry t s = .next u) : Frame 0xd67fe3c7e 0x401500c10db30024 s u := by
  refine frame_live h (fun s => ?_) (by decide +kernel) (by decide +kernel)
  clear h
  try dsimp only
  iterate 50 all_goals try (first
    | (simp only [Frame.mk_iff]; with_reducible apply FrameC.upd <;> first | with_reducible exact fun _ => rfl | exact fun h => absurd h (by decide +kernel) | with_reducible exact fun _ h => ⟨h, rfl, rfl⟩ | with_reducible exact fun _ _ _ => rfl | with_reducible exact id | with_reducible exact fun h _ => h | with_reducible exact fun _ h => h | skip)
    | with_reducible apply Frame.ite
    | with_reducible exact Frame.refl _ _ _
    | (with_reducible apply frame_raise_low; case hs => decide)
    | with_reducible apply frame_raise
    | with_reducible apply frame_roleShow
    | with_reducible apply frame_takeOver
    | with_reducible apply Frame.foldlT
    | with_reducible assumption
    | (show (_ : Nat) = _; decide +kernel)
    | (show Nat.testBit _ _ = true; decide +kernel)
    | intro _
    | split)

theorem frame_execTakeback {s u : State} {t : Edges} (h : execTakeback t s = .next u) : Frame 0xd67fe3c7e 0x401500c10db30024 s u := by
  refine frame_live h (fun s => ?_) (by decide +kernel) (by decide +kernel)
  clear h
  try dsimp only
  iterate 50 all_goals try (first
    | with_reducible apply Frame.ite
    | with_reducible exact Frame.refl _ _ _
    | with_reducible apply frame_takeOver
    | with_reducible apply Frame.foldlT
    | with_reducible assumption
    | (show (_ : Nat) = _; decide +kernel)
    | (show Nat.testBit _ _ = true; decide +kernel)
    | intro _
    | split)

theorem frame_execOwnershipContestSample {s u : State} {t : Edges} {level : Bool} (h : execOwnershipContestSample t level s = .next u) : Frame 0xc00363c7a 0x401500c000000024 s u := by
  refine frame_live h (fun s => ?_) (by decide +kernel) (by decide +kernel)
  clear h
  try dsimp only
  iterate 50 all_goals try (first
    | (simp only [Frame.mk_iff]; with_reducible apply FrameC.upd <;> first | with_reducible exact fun _ => rfl | exact fun h => absurd h (by decide +kernel) | with_reducible exact fun _ h => ⟨h, rfl, rfl⟩ | with_reducible exact fun _ _ _ => rfl | with_reducible exact id | with_reducible exact fun h _ => h | with_reducible exact fun _ h => h | skip)
    | with_reducible apply Frame.ite
    | with_reducible exact Frame.refl _ _ _
    | with_reducible apply frame_put
    | (with_reducible apply frame_raise_low; case hs => decide)
    | with_reducible apply frame_changeMode
    | with_reducible apply frame_roleShow
    | with_reducible apply Frame.foldlT
    | with_reducible assumption
    | (show (_ : Nat) = _; decide +kernel)
    | (show Nat.testBit _ _ = true; decide +kernel)
    | intro _
    | split)

theorem frame_execDualOwner {s u : State} {t : Edges} (h : execDualOwner t s = .next u) : Frame 0xcc0363c7a 0x401500c010000024 s u := by
  refine frame_live h (fun s => ?_) (by decide +kernel) (by decide +kernel)
  clear h
  try dsimp only
  iterate 50 all_goals try (first
    | (simp only [Frame.mk_iff]; with_reducible apply FrameC.upd <;> first | with_reducible exact fun _ => rfl | exact fun h => absurd h (by decide +kernel) | with_reducible exact fun _ h => ⟨h, rfl, rfl⟩ | with_reducible exact fun _ _ _ => rfl | with_reducible exact id | with_reducible exact fun h _ => h | with_reducible exact fun _ h => h | skip)
    | with_reducible apply Frame.ite
    | with_reducible exact Frame.refl _ _ _
    | (with_reducible apply frame_raise_low; case hs => decide)
    | with_reducible apply frame_yield
    | with_reducible apply Frame.foldlT
    | with_reducible assumption
    | (show (_ : Nat) = _; decide +kernel)
    | (show Nat.testBit _ _ = true; decide +kernel)
    | intro _
    | split)

theorem frame_execStateTransferDone {s u : State} {t : Edges} (h : execStateTransferDone t s = .next u) : Frame 0x303042 0x1000c000000020 s u := by
  refine frame_live h (fun s => ?_) (by decide +kernel) (by decide +kernel)
  clear h
  try dsimp only
  iterate 50 all_goals try (first
    | (simp only [Frame.mk_iff]; with_reducible apply FrameC.upd <;> first | with_reducible exact fun _ => rfl | exact fun h => absurd h (by decide +kernel) | with_reducible exact fun _ h => ⟨h, rfl, rfl⟩ | with_reducible exact fun _ _ _ => rfl | with_reducible exact id | with_reducible exact fun h _ => h | with_reducible exact fun _ h => h | skip)
    | with_reducible apply Frame.ite
    | with_reducible exact Frame.refl _ _ _
    | with_reducible apply frame_put
    | with_reducible apply frame_healthRefresh
    | with_reducible apply Frame.foldlT
    | with_reducible assumption
    | (show (_ : Nat) = _; decide +kernel)
    | (show Nat.testBit _ _ = true; decide +kernel)
    | intro _
    | split)

theorem frame_execStandbyFit {s u : State} {t : Edges} (h : execStandbyFit t s = .next u) : Frame 0x303042 0x1000c000000020 s u := by
  refine frame_live h (fun s => ?_) (by decide +kernel) (by decide +kernel)
  clear h
  try dsimp only
  iterate 50 all_goals try (first
    | with_reducible apply Frame.ite
    | with_reducible exact Frame.refl _ _ _
    | with_reducible apply frame_put
    | with_reducible apply frame_flag
    | (with_reducible apply frame_raise_low; case hs => decide)
    | with_reducible apply frame_healthRefresh
    | with_reducible apply Frame.foldlT
    | with_reducible assumption
    | (show (_ : Nat) = _; decide +kernel)
    | (show Nat.testBit _ _ = true; decide +kernel)
    | intro _
    | split)

theorem frame_execSwitchover {s u : State} {t : Edges} {key : Byte} (h : execSwitchover t key s = .next u) : Frame 0xcc0363c7a 0x401500c010000024 s u := by
  refine frame_hostWrite h (fun s => ?_) (by decide +kernel) (by decide +kernel)
  clear h
  try dsimp only
  iterate 50 all_goals try (first
    | with_reducible apply Frame.ite
    | with_reducible exact Frame.refl _ _ _
    | with_reducible apply frame_twinCommand
    | with_reducible apply frame_switchover
    | with_reducible apply Frame.foldlT
    | with_reducible assumption
    | (show (_ : Nat) = _; decide +kernel)
    | (show Nat.testBit _ _ = true; decide +kernel)
    | intro _
    | split)

theorem frame_execResync {s u : State} {t : Edges} {key : Byte} (h : execResync t key s = .next u) : Frame 0x202002 0x10000000000000 s u := by
  refine frame_hostWrite h (fun s => ?_) (by decide +kernel) (by decide +kernel)
  clear h
  try dsimp only
  iterate 50 all_goals try (first
    | with_reducible apply Frame.ite
    | with_reducible exact Frame.refl _ _ _
    | with_reducible apply frame_twinCommand
    | with_reducible apply frame_resync
    | with_reducible apply Frame.foldlT
    | with_reducible assumption
    | (show (_ : Nat) = _; decide +kernel)
    | (show Nat.testBit _ _ = true; decide +kernel)
    | intro _
    | split)

theorem frame_execPeriodicKat {s u : State} {t : Edges} {failing : Byte} (h : execPeriodicKat t failing s = .next u) : Frame 0x303042 0x1000c000000020 s u := by
  refine frame_live h (fun s => ?_) (by decide +kernel) (by decide +kernel)
  clear h
  try dsimp only
  iterate 50 all_goals try (first
    | (simp only [Frame.mk_iff]; with_reducible apply FrameC.upd <;> first | with_reducible exact fun _ => rfl | exact fun h => absurd h (by decide +kernel) | with_reducible exact fun _ h => ⟨h, rfl, rfl⟩ | with_reducible exact fun _ _ _ => rfl | with_reducible exact id | with_reducible exact fun h _ => h | with_reducible exact fun _ h => h | skip)
    | with_reducible apply Frame.ite
    | with_reducible exact Frame.refl _ _ _
    | with_reducible apply frame_healthRefresh
    | with_reducible apply Frame.foldlT
    | with_reducible assumption
    | (show (_ : Nat) = _; decide +kernel)
    | (show Nat.testBit _ _ = true; decide +kernel)
    | intro _
    | split)

theorem frame_execReferenceInjection {s u : State} {t : Edges} {ch : Nat} {err : Int} (h : execReferenceInjection t ch err s = .next u) : Frame 0x303042 0x3000c000000020 s u := by
  refine frame_live h (fun s => ?_) (by decide +kernel) (by decide +kernel)
  clear h
  try dsimp only
  iterate 50 all_goals try (first
    | (simp only [Frame.mk_iff]; with_reducible apply FrameC.upd <;> first | with_reducible exact fun _ => rfl | exact fun h => absurd h (by decide +kernel) | with_reducible exact fun _ h => ⟨h, rfl, rfl⟩ | with_reducible exact fun _ _ _ => rfl | with_reducible exact id | with_reducible exact fun h _ => h | with_reducible exact fun _ h => h | skip)
    | with_reducible apply Frame.ite
    | with_reducible exact Frame.refl _ _ _
    | with_reducible apply frame_bump
    | with_reducible apply frame_healthRefresh
    | with_reducible apply Frame.foldlT
    | with_reducible assumption
    | (show (_ : Nat) = _; decide +kernel)
    | (show Nat.testBit _ _ = true; decide +kernel)
    | intro _
    | split)

theorem frame_execEccScrub {s u : State} {t : Edges} {corrected : Nat} {uncorrectable : Bool} (h : execEccScrub t corrected uncorrectable s = .next u) : Frame 0x303042 0x3000c000000020 s u := by
  refine frame_live h (fun s => ?_) (by decide +kernel) (by decide +kernel)
  clear h
  try dsimp only
  iterate 50 all_goals try (first
    | (simp only [Frame.mk_iff]; with_reducible apply FrameC.upd <;> first | with_reducible exact fun _ => rfl | exact fun h => absurd h (by decide +kernel) | with_reducible exact fun _ h => ⟨h, rfl, rfl⟩ | with_reducible exact fun _ _ _ => rfl | with_reducible exact id | with_reducible exact fun h _ => h | with_reducible exact fun _ h => h | skip)
    | with_reducible apply Frame.ite
    | with_reducible exact Frame.refl _ _ _
    | with_reducible apply frame_addTo
    | with_reducible apply frame_healthRefresh
    | with_reducible apply Frame.foldlT
    | with_reducible assumption
    | (show (_ : Nat) = _; decide +kernel)
    | (show Nat.testBit _ _ = true; decide +kernel)
    | intro _
    | split)

theorem frame_execHealthRecord {s u : State} {t : Edges} (h : execHealthRecord t s = .next u) : Frame 0x302002 0x0 s u := by
  refine frame_live h (fun s => ?_) (by decide +kernel) (by decide +kernel)
  clear h
  try dsimp only
  iterate 50 all_goals try (first
    | (simp only [Frame.mk_iff]; with_reducible apply FrameC.upd <;> first | with_reducible exact fun _ => rfl | exact fun h => absurd h (by decide +kernel) | with_reducible exact fun _ h => ⟨h, rfl, rfl⟩ | with_reducible exact fun _ _ _ => rfl | with_reducible exact id | with_reducible exact fun h _ => h | with_reducible exact fun _ h => h | skip)
    | with_reducible apply Frame.ite
    | with_reducible exact Frame.refl _ _ _
    | with_reducible apply Frame.foldlT
    | with_reducible assumption
    | (show (_ : Nat) = _; decide +kernel)
    | (show Nat.testBit _ _ = true; decide +kernel)
    | intro _
    | split)

theorem frame_execFlushBatchDone {s u : State} {t : Edges} (h : execFlushBatchDone t s = .next u) : Frame 0x203c42 0x400c000000020 s u := by
  refine frame_live h (fun s => ?_) (by decide +kernel) (by decide +kernel)
  clear h
  try dsimp only
  iterate 50 all_goals try (first
    | with_reducible apply Frame.ite
    | with_reducible exact Frame.refl _ _ _
    | with_reducible apply frame_batchDone
    | with_reducible apply Frame.foldlT
    | with_reducible assumption
    | (show (_ : Nat) = _; decide +kernel)
    | (show Nat.testBit _ _ = true; decide +kernel)
    | intro _
    | split)

theorem frame_execFlushAge {s u : State} {t : Edges} (h : execFlushAge t s = .next u) : Frame 0x203002 0x4000000000 s u := by
  refine frame_live h (fun s => ?_) (by decide +kernel) (by decide +kernel)
  clear h
  try dsimp only
  iterate 50 all_goals try (first
    | (simp only [Frame.mk_iff]; with_reducible apply FrameC.upd <;> first | with_reducible exact fun _ => rfl | exact fun h => absurd h (by decide +kernel) | with_reducible exact fun _ h => ⟨h, rfl, rfl⟩ | with_reducible exact fun _ _ _ => rfl | with_reducible exact id | with_reducible exact fun h _ => h | with_reducible exact fun _ h => h | skip)
    | with_reducible apply Frame.ite
    | with_reducible exact Frame.refl _ _ _
    | with_reducible apply frame_flushKick
    | with_reducible apply Frame.foldlT
    | with_reducible assumption
    | (show (_ : Nat) = _; decide +kernel)
    | (show Nat.testBit _ _ = true; decide +kernel)
    | intro _
    | split)

theorem frame_execFlush {s u : State} {t : Edges} {key : Byte} (h : execFlush t key s = .next u) : Frame 0x203002 0x4000000000 s u := by
  refine frame_live h (fun s => ?_) (by decide +kernel) (by decide +kernel)
  clear h
  try dsimp only
  iterate 50 all_goals try (first
    | with_reducible apply Frame.ite
    | with_reducible exact Frame.refl _ _ _
    | with_reducible apply frame_recFlush
    | with_reducible apply Frame.foldlT
    | with_reducible assumption
    | (show (_ : Nat) = _; decide +kernel)
    | (show Nat.testBit _ _ = true; decide +kernel)
    | intro _
    | split)

theorem frame_execClearLog {s u : State} {t : Edges} {key : Byte} (h : execClearLog t key s = .next u) : Frame 0x203c42 0x400c000000020 s u := by
  refine frame_live h (fun s => ?_) (by decide +kernel) (by decide +kernel)
  clear h
  try dsimp only
  iterate 50 all_goals try (first
    | with_reducible apply Frame.ite
    | with_reducible exact Frame.refl _ _ _
    | with_reducible apply frame_recClear
    | with_reducible apply Frame.foldlT
    | with_reducible assumption
    | (show (_ : Nat) = _; decide +kernel)
    | (show Nat.testBit _ _ = true; decide +kernel)
    | intro _
    | split)

theorem frame_execClearAll {s u : State} {t : Edges} {key : Byte} (h : execClearAll t key s = .next u) : Frame 0x203c42 0x400c000000020 s u := by
  refine frame_live h (fun s => ?_) (by decide +kernel) (by decide +kernel)
  clear h
  try dsimp only
  iterate 50 all_goals try (first
    | with_reducible apply Frame.ite
    | with_reducible exact Frame.refl _ _ _
    | with_reducible apply frame_recClear
    | with_reducible apply Frame.foldlT
    | with_reducible assumption
    | (show (_ : Nat) = _; decide +kernel)
    | (show Nat.testBit _ _ = true; decide +kernel)
    | intro _
    | split)

theorem frame_execClearEraseDone {s u : State} {t : Edges} (h : execClearEraseDone t s = .next u) : Frame 0x203c42 0x400c000000020 s u := by
  refine frame_live h (fun s => ?_) (by decide +kernel) (by decide +kernel)
  clear h
  try dsimp only
  iterate 50 all_goals try (first
    | with_reducible apply Frame.ite
    | with_reducible exact Frame.refl _ _ _
    | with_reducible apply frame_clearDone
    | with_reducible apply Frame.foldlT
    | with_reducible assumption
    | (show (_ : Nat) = _; decide +kernel)
    | (show Nat.testBit _ _ = true; decide +kernel)
    | intro _
    | split)

theorem frame_execSnapshot {s u : State} {t : Edges} {key : Byte} (h : execSnapshot t key s = .next u) : Frame 0x203002 0xc000000020 s u := by
  refine frame_live h (fun s => ?_) (by decide +kernel) (by decide +kernel)
  clear h
  try dsimp only
  iterate 50 all_goals try (first
    | with_reducible apply Frame.ite
    | with_reducible exact Frame.refl _ _ _
    | with_reducible apply frame_recSnapshot
    | with_reducible apply Frame.foldlT
    | with_reducible assumption
    | (show (_ : Nat) = _; decide +kernel)
    | (show Nat.testBit _ _ = true; decide +kernel)
    | intro _
    | split)

theorem frame_execSnapshotWritten {s u : State} {t : Edges} {k : Fin 2} (h : execSnapshotWritten t k s = .next u) : Frame 0x203c42 0x400c000000020 s u := by
  refine frame_live h (fun s => ?_) (by decide +kernel) (by decide +kernel)
  clear h
  try dsimp only
  iterate 50 all_goals try (first
    | with_reducible apply Frame.ite
    | with_reducible exact Frame.refl _ _ _
    | with_reducible apply frame_snapWritten
    | with_reducible apply Frame.foldlT
    | with_reducible assumption
    | (show (_ : Nat) = _; decide +kernel)
    | (show Nat.testBit _ _ = true; decide +kernel)
    | intro _
    | split)

theorem frame_execLogScanDone {s u : State} {t : Edges} (h : execLogScanDone t s = .next u) : Frame 0x203042 0xc000000020 s u := by
  refine frame_live h (fun s => ?_) (by decide +kernel) (by decide +kernel)
  clear h
  try dsimp only
  iterate 50 all_goals try (first
    | with_reducible apply Frame.ite
    | with_reducible exact Frame.refl _ _ _
    | with_reducible apply frame_flushTrigger
    | with_reducible apply frame_logScan
    | with_reducible apply Frame.foldlT
    | with_reducible assumption
    | (show (_ : Nat) = _; decide +kernel)
    | (show Nat.testBit _ _ = true; decide +kernel)
    | intro _
    | split)

theorem frame_execLogCursorChange {s u : State} {t : Edges} {region : Fin 4} {auto : Bool} {seq : BitVec 32} (h : execLogCursorChange t region auto seq s = .next u) : Frame 0x203002 0x4000000000 s u := by
  refine frame_hostWrite h (fun s => ?_) (by decide +kernel) (by decide +kernel)
  clear h
  try dsimp only
  iterate 50 all_goals try (first
    | with_reducible apply Frame.ite
    | with_reducible exact Frame.refl _ _ _
    | with_reducible apply frame_put
    | with_reducible apply frame_putB
    | with_reducible apply frame_logFetch
    | with_reducible apply Frame.foldlT
    | with_reducible assumption
    | (show (_ : Nat) = _; decide +kernel)
    | (show Nat.testBit _ _ = true; decide +kernel)
    | intro _
    | split)

theorem frame_execLogFetchDone {s u : State} {t : Edges} (h : execLogFetchDone t s = .next u) : Frame 0x203002 0x4000000000 s u := by
  refine frame_live h (fun s => ?_) (by decide +kernel) (by decide +kernel)
  clear h
  try dsimp only
  iterate 50 all_goals try (first
    | with_reducible apply Frame.ite
    | with_reducible exact Frame.refl _ _ _
    | with_reducible apply frame_logFetched
    | with_reducible apply Frame.foldlT
    | with_reducible assumption
    | (show (_ : Nat) = _; decide +kernel)
    | (show Nat.testBit _ _ = true; decide +kernel)
    | intro _
    | split)

theorem frame_execLogWindowRead {s u : State} {t : Edges} (h : execLogWindowRead t s = .next u) : Frame 0x203002 0x0 s u := by
  refine frame_live h (fun s => ?_) (by decide +kernel) (by decide +kernel)
  clear h
  try dsimp only
  iterate 50 all_goals try (first
    | (simp only [Frame.mk_iff]; with_reducible apply FrameC.upd <;> first | with_reducible exact fun _ => rfl | exact fun h => absurd h (by decide +kernel) | with_reducible exact fun _ h => ⟨h, rfl, rfl⟩ | with_reducible exact fun _ _ _ => rfl | with_reducible exact id | with_reducible exact fun h _ => h | with_reducible exact fun _ h => h | skip)
    | with_reducible apply Frame.ite
    | with_reducible exact Frame.refl _ _ _
    | with_reducible apply Frame.foldlT
    | with_reducible assumption
    | (show (_ : Nat) = _; decide +kernel)
    | (show Nat.testBit _ _ = true; decide +kernel)
    | intro _
    | split)

theorem frame_execSnapshotWindowChange {s u : State} {t : Edges} {slot : Fin 32} {ofs : Code} (h : execSnapshotWindowChange t slot ofs s = .next u) : Frame 0x203002 0x8000000000 s u := by
  refine frame_hostWrite h (fun s => ?_) (by decide +kernel) (by decide +kernel)
  clear h
  try dsimp only
  iterate 50 all_goals try (first
    | (simp only [Frame.mk_iff]; with_reducible apply FrameC.upd <;> first | with_reducible exact fun _ => rfl | exact fun h => absurd h (by decide +kernel) | with_reducible exact fun _ h => ⟨h, rfl, rfl⟩ | with_reducible exact fun _ _ _ => rfl | with_reducible exact id | with_reducible exact fun h _ => h | with_reducible exact fun _ h => h | skip)
    | with_reducible apply Frame.ite
    | with_reducible exact Frame.refl _ _ _
    | with_reducible apply frame_put
    | with_reducible apply Frame.foldlT
    | with_reducible assumption
    | (show (_ : Nat) = _; decide +kernel)
    | (show Nat.testBit _ _ = true; decide +kernel)
    | intro _
    | split)

theorem frame_execSnapshotFetchDone {s u : State} {t : Edges} (h : execSnapshotFetchDone t s = .next u) : Frame 0x203002 0x0 s u := by
  refine frame_live h (fun s => ?_) (by decide +kernel) (by decide +kernel)
  clear h
  try dsimp only
  iterate 50 all_goals try (first
    | with_reducible apply Frame.ite
    | with_reducible exact Frame.refl _ _ _
    | with_reducible apply frame_snapFetched
    | with_reducible apply Frame.foldlT
    | with_reducible assumption
    | (show (_ : Nat) = _; decide +kernel)
    | (show Nat.testBit _ _ = true; decide +kernel)
    | intro _
    | split)

theorem frame_execProvision {s u : State} {t : Edges} {c : SecCmd} (h : execProvision t c s = .next u) : Frame 0xc00263e7a 0x400500c000000024 s u := by
  refine frame_live h (fun s => ?_) (by decide +kernel) (by decide +kernel)
  clear h
  try dsimp only
  iterate 50 all_goals try (first
    | with_reducible apply Frame.ite
    | with_reducible exact Frame.refl _ _ _
    | with_reducible apply frame_secProvision
    | with_reducible apply Frame.foldlT
    | with_reducible assumption
    | (show (_ : Nat) = _; decide +kernel)
    | (show Nat.testBit _ _ = true; decide +kernel)
    | intro _
    | split)

theorem frame_execDeploy {s u : State} {t : Edges} {c : SecCmd} (h : execDeploy t c s = .next u) : Frame 0xc00263e7a 0x400500c000000024 s u := by
  refine frame_live h (fun s => ?_) (by decide +kernel) (by decide +kernel)
  clear h
  try dsimp only
  iterate 50 all_goals try (first
    | with_reducible apply Frame.ite
    | with_reducible exact Frame.refl _ _ _
    | with_reducible apply frame_secDeploy
    | with_reducible apply Frame.foldlT
    | with_reducible assumption
    | (show (_ : Nat) = _; decide +kernel)
    | (show Nat.testBit _ _ = true; decide +kernel)
    | intro _
    | split)

theorem frame_execRma {s u : State} {t : Edges} {c : SecCmd} (h : execRma t c s = .next u) : Frame 0xc00263e7a 0x400500c000000024 s u := by
  refine frame_live h (fun s => ?_) (by decide +kernel) (by decide +kernel)
  clear h
  try dsimp only
  iterate 50 all_goals try (first
    | with_reducible apply Frame.ite
    | with_reducible exact Frame.refl _ _ _
    | with_reducible apply frame_secRma
    | with_reducible apply Frame.foldlT
    | with_reducible assumption
    | (show (_ : Nat) = _; decide +kernel)
    | (show Nat.testBit _ _ = true; decide +kernel)
    | intro _
    | split)

theorem frame_execKeyprog {s u : State} {t : Edges} {c : SecCmd} (h : execKeyprog t c s = .next u) : Frame 0x203242 0x400000c000000020 s u := by
  refine frame_live h (fun s => ?_) (by decide +kernel) (by decide +kernel)
  clear h
  try dsimp only
  iterate 50 all_goals try (first
    | with_reducible apply Frame.ite
    | with_reducible exact Frame.refl _ _ _
    | with_reducible apply frame_secKeyprog
    | with_reducible apply Frame.foldlT
    | with_reducible assumption
    | (show (_ : Nat) = _; decide +kernel)
    | (show Nat.testBit _ _ = true; decide +kernel)
    | intro _
    | split)

theorem frame_execRevoke {s u : State} {t : Edges} {c : SecCmd} (h : execRevoke t c s = .next u) : Frame 0xc00263e7a 0x400500c000000024 s u := by
  refine frame_live h (fun s => ?_) (by decide +kernel) (by decide +kernel)
  clear h
  try dsimp only
  iterate 50 all_goals try (first
    | with_reducible apply Frame.ite
    | with_reducible exact Frame.refl _ _ _
    | with_reducible apply frame_secRevoke
    | with_reducible apply Frame.foldlT
    | with_reducible assumption
    | (show (_ : Nat) = _; decide +kernel)
    | (show Nat.testBit _ _ = true; decide +kernel)
    | intro _
    | split)

theorem frame_execHalt {s u : State} {t : Edges} {c : SecCmd} (h : execHalt t c s = .next u) : Frame 0x800203042 0x400000c000000020 s u := by
  refine frame_live h (fun s => ?_) (by decide +kernel) (by decide +kernel)
  clear h
  try dsimp only
  iterate 50 all_goals try (first
    | with_reducible apply Frame.ite
    | with_reducible exact Frame.refl _ _ _
    | with_reducible apply frame_secHalt
    | with_reducible apply Frame.foldlT
    | with_reducible assumption
    | (show (_ : Nat) = _; decide +kernel)
    | (show Nat.testBit _ _ = true; decide +kernel)
    | intro _
    | split)

theorem frame_execDebugResume {s u : State} {t : Edges} {c : SecCmd} (h : execDebugResume t c s = .next u) : Frame 0xc00243c7a 0x400500c000000024 s u := by
  refine frame_live h (fun s => ?_) (by decide +kernel) (by decide +kernel)
  clear h
  try dsimp only
  iterate 50 all_goals try (first
    | with_reducible apply Frame.ite
    | with_reducible exact Frame.refl _ _ _
    | with_reducible apply frame_secDebugResume
    | with_reducible apply Frame.foldlT
    | with_reducible assumption
    | (show (_ : Nat) = _; decide +kernel)
    | (show Nat.testBit _ _ = true; decide +kernel)
    | intro _
    | split)

theorem frame_execTpOn {s u : State} {t : Edges} {c : SecCmd} (h : execTpOn t c s = .next u) : Frame 0x223042 0x400000c000000020 s u := by
  refine frame_live h (fun s => ?_) (by decide +kernel) (by decide +kernel)
  clear h
  try dsimp only
  iterate 50 all_goals try (first
    | with_reducible apply Frame.ite
    | with_reducible exact Frame.refl _ _ _
    | with_reducible apply frame_secTpOn
    | with_reducible apply Frame.foldlT
    | with_reducible assumption
    | (show (_ : Nat) = _; decide +kernel)
    | (show Nat.testBit _ _ = true; decide +kernel)
    | intro _
    | split)

theorem frame_execTpOff {s u : State} {t : Edges} {c : SecCmd} (h : execTpOff t c s = .next u) : Frame 0x223042 0x400000c000000020 s u := by
  refine frame_live h (fun s => ?_) (by decide +kernel) (by decide +kernel)
  clear h
  try dsimp only
  iterate 50 all_goals try (first
    | with_reducible apply Frame.ite
    | with_reducible exact Frame.refl _ _ _
    | with_reducible apply frame_secTpOff
    | with_reducible apply Frame.foldlT
    | with_reducible assumption
    | (show (_ : Nat) = _; decide +kernel)
    | (show Nat.testBit _ _ = true; decide +kernel)
    | intro _
    | split)

theorem frame_execDropToken {s u : State} {t : Edges} {c : SecCmd} (h : execDropToken t c s = .next u) : Frame 0xc00263c7a 0x400500c000000024 s u := by
  refine frame_live h (fun s => ?_) (by decide +kernel) (by decide +kernel)
  clear h
  try dsimp only
  iterate 50 all_goals try (first
    | with_reducible apply Frame.ite
    | with_reducible exact Frame.refl _ _ _
    | with_reducible apply frame_secDropToken
    | with_reducible apply Frame.foldlT
    | with_reducible assumption
    | (show (_ : Nat) = _; decide +kernel)
    | (show Nat.testBit _ _ = true; decide +kernel)
    | intro _
    | split)

theorem frame_execNonceDraw {s u : State} {t : Edges} {p : PortId} {v : BitVec 128} (h : execNonceDraw t p v s = .next u) : Frame 0x222002 0x4000000000000000 s u := by
  refine frame_live h (fun s => ?_) (by decide +kernel) (by decide +kernel)
  clear h
  try dsimp only
  iterate 50 all_goals try (first
    | (simp only [Frame.mk_iff]; with_reducible apply FrameC.upd <;> first | with_reducible exact fun _ => rfl | exact fun h => absurd h (by decide +kernel) | with_reducible exact fun _ h => ⟨h, rfl, rfl⟩ | with_reducible exact fun _ _ _ => rfl | with_reducible exact id | with_reducible exact fun h _ => h | with_reducible exact fun _ h => h | skip)
    | with_reducible apply Frame.ite
    | with_reducible exact Frame.refl _ _ _
    | with_reducible apply frame_put
    | with_reducible apply Frame.foldlT
    | with_reducible assumption
    | (show (_ : Nat) = _; decide +kernel)
    | (show Nat.testBit _ _ = true; decide +kernel)
    | intro _
    | split)

theorem frame_execNonceExpiry {s u : State} {t : Edges} (h : execNonceExpiry t s = .next u) : Frame 0x222002 0x0 s u := by
  refine frame_live h (fun s => ?_) (by decide +kernel) (by decide +kernel)
  clear h
  try dsimp only
  iterate 50 all_goals try (first
    | (simp only [Frame.mk_iff]; with_reducible apply FrameC.upd <;> first | with_reducible exact fun _ => rfl | exact fun h => absurd h (by decide +kernel) | with_reducible exact fun _ h => ⟨h, rfl, rfl⟩ | with_reducible exact fun _ _ _ => rfl | with_reducible exact id | with_reducible exact fun h _ => h | with_reducible exact fun _ h => h | skip)
    | with_reducible apply Frame.ite
    | with_reducible exact Frame.refl _ _ _
    | with_reducible apply Frame.foldlT
    | with_reducible assumption
    | (show (_ : Nat) = _; decide +kernel)
    | (show Nat.testBit _ _ = true; decide +kernel)
    | intro _
    | split)

theorem frame_execTokenSubmit {s u : State} {t : Edges} {p : PortId} {d : List Byte} (h : execTokenSubmit t p d s = .next u) : Frame 0x222002 0x4000000000000000 s u := by
  refine frame_live h (fun s => ?_) (by decide +kernel) (by decide +kernel)
  clear h
  try dsimp only
  iterate 50 all_goals try (first
    | with_reducible apply Frame.ite
    | with_reducible exact Frame.refl _ _ _
    | with_reducible apply frame_tokenSubmit
    | with_reducible apply Frame.foldlT
    | with_reducible assumption
    | (show (_ : Nat) = _; decide +kernel)
    | (show Nat.testBit _ _ = true; decide +kernel)
    | intro _
    | split)

theorem frame_execTokenVerified {s u : State} {t : Edges} (h : execTokenVerified t s = .next u) : Frame 0xc00263c7a 0x400500c000000024 s u := by
  refine frame_live h (fun s => ?_) (by decide +kernel) (by decide +kernel)
  clear h
  try dsimp only
  iterate 50 all_goals try (first
    | with_reducible apply Frame.ite
    | with_reducible exact Frame.refl _ _ _
    | with_reducible apply frame_tokenVerified
    | with_reducible apply Frame.foldlT
    | with_reducible assumption
    | (show (_ : Nat) = _; decide +kernel)
    | (show Nat.testBit _ _ = true; decide +kernel)
    | intro _
    | split)

theorem frame_execTokenExpiry {s u : State} {t : Edges} (h : execTokenExpiry t s = .next u) : Frame 0xc00263c7a 0x400500c000000024 s u := by
  refine frame_live h (fun s => ?_) (by decide +kernel) (by decide +kernel)
  clear h
  try dsimp only
  iterate 50 all_goals try (first
    | with_reducible apply Frame.ite
    | with_reducible exact Frame.refl _ _ _
    | with_reducible apply frame_endToken
    | with_reducible apply Frame.foldlT
    | with_reducible assumption
    | (show (_ : Nat) = _; decide +kernel)
    | (show Nat.testBit _ _ = true; decide +kernel)
    | intro _
    | split)

theorem frame_execDebugRequest {s u : State} {t : Edges} {level : Fin 4} (h : execDebugRequest t level s = .next u) : Frame 0xc00263c7a 0x400500c000000024 s u := by
  refine frame_live h (fun s => ?_) (by decide +kernel) (by decide +kernel)
  clear h
  try dsimp only
  iterate 50 all_goals try (first
    | with_reducible apply Frame.ite
    | with_reducible exact Frame.refl _ _ _
    | with_reducible apply frame_debugRequest
    | with_reducible apply Frame.foldlT
    | with_reducible assumption
    | (show (_ : Nat) = _; decide +kernel)
    | (show Nat.testBit _ _ = true; decide +kernel)
    | intro _
    | split)

theorem frame_execBoundaryScan {s u : State} {t : Edges} {tms tdi : Bool} (h : execBoundaryScan t tms tdi s = .next u) : Frame 0x222006 0x0 s u := by
  refine frame_live h (fun s => ?_) (by decide +kernel) (by decide +kernel)
  clear h
  try dsimp only
  iterate 50 all_goals try (first
    | (simp only [Frame.mk_iff]; with_reducible apply FrameC.upd <;> first | with_reducible exact fun _ => rfl | exact fun h => absurd h (by decide +kernel) | with_reducible exact fun _ h => ⟨h, rfl, rfl⟩ | with_reducible exact fun _ _ _ => rfl | with_reducible exact id | with_reducible exact fun h _ => h | with_reducible exact fun _ h => h | skip)
    | with_reducible apply Frame.ite
    | with_reducible exact Frame.refl _ _ _
    | (refine frame_takeFree_of ‹_› ?_ ?_ ?_)
    | with_reducible apply frame_takeFree
    | with_reducible apply Frame.foldlT
    | with_reducible assumption
    | (show (_ : Nat) = _; decide +kernel)
    | (show Nat.testBit _ _ = true; decide +kernel)
    | intro _
    | split)

theorem frame_execCrystalFault {s u : State} {t : Edges} {kind : XtalFault} (h : execCrystalFault t kind s = .next u) : Frame 0xde7fe3c7a 0x401500c11db30034 s u := by
  refine frame_live h (fun s => ?_) (by decide +kernel) (by decide +kernel)
  clear h
  try dsimp only
  iterate 50 all_goals try (first
    | (simp only [Frame.mk_iff]; with_reducible apply FrameC.upd <;> first | with_reducible exact fun _ => rfl | exact fun h => absurd h (by decide +kernel) | with_reducible exact fun _ h => ⟨h, rfl, rfl⟩ | with_reducible exact fun _ _ _ => rfl | with_reducible exact id | with_reducible exact fun h _ => h | with_reducible exact fun _ h => h | skip)
    | with_reducible apply Frame.ite
    | with_reducible exact Frame.refl _ _ _
    | with_reducible apply frame_put
    | (with_reducible apply frame_raise_low; case hs => decide)
    | with_reducible apply frame_raise
    | with_reducible apply frame_healthRefresh
    | with_reducible apply frame_crystalActs
    | with_reducible apply Frame.foldlT
    | with_reducible assumption
    | (show (_ : Nat) = _; decide +kernel)
    | (show Nat.testBit _ _ = true; decide +kernel)
    | intro _
    | split)

theorem frame_execPllLock {s u : State} {t : Edges} (h : execPllLock t s = .next u) : Frame 0x202022 0x0 s u := by
  refine frame_live h (fun s => ?_) (by decide +kernel) (by decide +kernel)
  clear h
  try dsimp only
  iterate 50 all_goals try (first
    | (simp only [Frame.mk_iff]; with_reducible apply FrameC.upd <;> first | with_reducible exact fun _ => rfl | exact fun h => absurd h (by decide +kernel) | with_reducible exact fun _ h => ⟨h, rfl, rfl⟩ | with_reducible exact fun _ _ _ => rfl | with_reducible exact id | with_reducible exact fun h _ => h | with_reducible exact fun _ h => h | skip)
    | with_reducible apply Frame.ite
    | with_reducible exact Frame.refl _ _ _
    | with_reducible apply Frame.foldlT
    | with_reducible assumption
    | (show (_ : Nat) = _; decide +kernel)
    | (show Nat.testBit _ _ = true; decide +kernel)
    | intro _
    | split)

theorem frame_execClockHandover {s u : State} {t : Edges} (h : execClockHandover t s = .next u) : Frame 0x303042 0x1400c000000034 s u := by
  refine frame_live h (fun s => ?_) (by decide +kernel) (by decide +kernel)
  clear h
  try dsimp only
  iterate 50 all_goals try (first
    | with_reducible apply Frame.ite
    | with_reducible exact Frame.refl _ _ _
    | with_reducible apply frame_put
    | with_reducible apply frame_healthRefresh
    | with_reducible apply Frame.foldlT
    | with_reducible assumption
    | (show (_ : Nat) = _; decide +kernel)
    | (show Nat.testBit _ _ = true; decide +kernel)
    | intro _
    | split)

theorem frame_execSupervisorRestart {s u : State} {t : Edges} (h : execSupervisorRestart t s = .next u) : Frame 0xc00363c7a 0x401500c000000024 s u := by
  refine frame_live h (fun s => ?_) (by decide +kernel) (by decide +kernel)
  clear h
  try dsimp only
  iterate 50 all_goals try (first
    | (simp only [Frame.mk_iff]; with_reducible apply FrameC.upd <;> first | with_reducible exact fun _ => rfl | exact fun h => absurd h (by decide +kernel) | with_reducible exact fun _ h => ⟨h, rfl, rfl⟩ | with_reducible exact fun _ _ _ => rfl | with_reducible exact id | with_reducible exact fun h _ => h | with_reducible exact fun _ h => h | skip)
    | with_reducible apply Frame.ite
    | with_reducible exact Frame.refl _ _ _
    | with_reducible apply frame_endSession
    | with_reducible apply frame_endToken
    | with_reducible apply frame_healthRefresh
    | with_reducible apply Frame.foldlT
    | with_reducible assumption
    | (show (_ : Nat) = _; decide +kernel)
    | (show Nat.testBit _ _ = true; decide +kernel)
    | intro _
    | split)

theorem frame_execSupervisorRestartEnd {s u : State} {t : Edges} {digestOk : Bool} (h : execSupervisorRestartEnd t digestOk s = .next u) : Frame 0xc00343c7a 0x1500c000000024 s u := by
  refine frame_live h (fun s => ?_) (by decide +kernel) (by decide +kernel)
  clear h
  try dsimp only
  iterate 50 all_goals try (first
    | with_reducible apply Frame.ite
    | with_reducible exact Frame.refl _ _ _
    | with_reducible apply frame_restartEnd
    | with_reducible apply Frame.foldlT
    | with_reducible assumption
    | (show (_ : Nat) = _; decide +kernel)
    | (show Nat.testBit _ _ = true; decide +kernel)
    | intro _
    | split)

theorem frame_execOperatingSecond {s u : State} {t : Edges} (h : execOperatingSecond t s = .next u) : Frame 0x243c22 0x500c000000020 s u := by
  refine frame_live h (fun s => ?_) (by decide +kernel) (by decide +kernel)
  clear h
  try dsimp only
  iterate 50 all_goals try (first
    | (simp only [Frame.mk_iff]; with_reducible apply FrameC.upd <;> first | with_reducible exact fun _ => rfl | exact fun h => absurd h (by decide +kernel) | with_reducible exact fun _ h => ⟨h, rfl, rfl⟩ | with_reducible exact fun _ _ _ => rfl | with_reducible exact id | with_reducible exact fun h _ => h | with_reducible exact fun _ h => h | skip)
    | with_reducible apply Frame.ite
    | with_reducible exact Frame.refl _ _ _
    | with_reducible apply frame_bump
    | with_reducible apply frame_probationSecond
    | with_reducible apply Frame.foldlT
    | with_reducible assumption
    | (show (_ : Nat) = _; decide +kernel)
    | (show Nat.testBit _ _ = true; decide +kernel)
    | intro _
    | split)

theorem frame_execPowerFailWarning {s u : State} {t : Edges} (h : execPowerFailWarning t s = .next u) : Frame 0x80203c46 0x400c050000020 s u := by
  refine frame_live h (fun s => ?_) (by decide +kernel) (by decide +kernel)
  clear h
  try dsimp only
  iterate 50 all_goals try (first
    | with_reducible apply Frame.ite
    | with_reducible exact Frame.refl _ _ _
    | with_reducible apply frame_stagingReset
    | with_reducible apply frame_urgentFlush
    | with_reducible apply frame_powerFailWrites
    | with_reducible apply Frame.foldlT
    | with_reducible assumption
    | (show (_ : Nat) = _; decide +kernel)
    | (show Nat.testBit _ _ = true; decide +kernel)
    | intro _
    | split)

theorem frame_execReload {s u : State} {t : Edges} {key : Byte} (h : execReload t key s = .next u) : Frame 0x40024307a 0x100c000000024 s u := by
  refine frame_live h (fun s => ?_) (by decide +kernel) (by decide +kernel)
  clear h
  try dsimp only
  iterate 50 all_goals try (first
    | with_reducible apply Frame.ite
    | with_reducible exact Frame.refl _ _ _
    | with_reducible apply frame_modeCommand
    | with_reducible apply frame_reload
    | with_reducible apply Frame.foldlT
    | with_reducible assumption
    | (show (_ : Nat) = _; decide +kernel)
    | (show Nat.testBit _ _ = true; decide +kernel)
    | intro _
    | split)

theorem frame_execRevert {s u : State} {t : Edges} {key : Byte} (h : execRevert t key s = .next u) : Frame 0x400243c7a 0x500c000000024 s u := by
  refine frame_live h (fun s => ?_) (by decide +kernel) (by decide +kernel)
  clear h
  try dsimp only
  iterate 50 all_goals try (first
    | with_reducible apply Frame.ite
    | with_reducible exact Frame.refl _ _ _
    | with_reducible apply frame_modeCommand
    | with_reducible apply frame_revert
    | with_reducible apply Frame.foldlT
    | with_reducible assumption
    | (show (_ : Nat) = _; decide +kernel)
    | (show Nat.testBit _ _ = true; decide +kernel)
    | intro _
    | split)

theorem frame_execLockout {s u : State} {t : Edges} {key : Byte} (h : execLockout t key s = .next u) : Frame 0xc64363c7a 0x401500c009800024 s u := by
  refine frame_live h (fun s => ?_) (by decide +kernel) (by decide +kernel)
  clear h
  try dsimp only
  iterate 50 all_goals try (first
    | with_reducible apply Frame.ite
    | with_reducible exact Frame.refl _ _ _
    | with_reducible apply frame_modeCommand
    | with_reducible apply frame_lockoutCommand
    | with_reducible apply Frame.foldlT
    | with_reducible assumption
    | (show (_ : Nat) = _; decide +kernel)
    | (show Nat.testBit _ _ = true; decide +kernel)
    | intro _
    | split)

theorem frame_execResume {s u : State} {t : Edges} {key : Byte} (h : execResume t key s = .next u) : Frame 0xd67ee3c7a 0x400500c10db30024 s u := by
  refine frame_live h (fun s => ?_) (by decide +kernel) (by decide +kernel)
  clear h
  try dsimp only
  iterate 50 all_goals try (first
    | with_reducible apply Frame.ite
    | with_reducible exact Frame.refl _ _ _
    | with_reducible apply frame_modeCommand
    | with_reducible apply frame_resumeCommand
    | with_reducible apply Frame.foldlT
    | with_reducible assumption
    | (show (_ : Nat) = _; decide +kernel)
    | (show Nat.testBit _ _ = true; decide +kernel)
    | intro _
    | split)

theorem frame_execShip {s u : State} {t : Edges} {key : Byte} (h : execShip t key s = .next u) : Frame 0xc00263c7a 0x400500c000000024 s u := by
  refine frame_live h (fun s => ?_) (by decide +kernel) (by decide +kernel)
  clear h
  try dsimp only
  iterate 50 all_goals try (first
    | with_reducible apply Frame.ite
    | with_reducible exact Frame.refl _ _ _
    | with_reducible apply frame_modeCommand
    | with_reducible apply frame_shipCommand
    | with_reducible apply Frame.foldlT
    | with_reducible assumption
    | (show (_ : Nat) = _; decide +kernel)
    | (show Nat.testBit _ _ = true; decide +kernel)
    | intro _
    | split)

theorem frame_execShipFlushDone {s u : State} {t : Edges} (h : execShipFlushDone t s = .next u) : Frame 0x23e03d62 0x400c108030020 s u := by
  refine frame_live h (fun s => ?_) (by decide +kernel) (by decide +kernel)
  clear h
  try dsimp only
  iterate 50 all_goals try (first
    | (simp only [Frame.mk_iff]; with_reducible apply FrameC.upd <;> first | with_reducible exact fun _ => rfl | exact fun h => absurd h (by decide +kernel) | with_reducible exact fun _ h => ⟨h, rfl, rfl⟩ | with_reducible exact fun _ _ _ => rfl | with_reducible exact id | with_reducible exact fun h _ => h | with_reducible exact fun _ h => h | skip)
    | with_reducible apply Frame.ite
    | with_reducible exact Frame.refl _ _ _
    | with_reducible apply frame_jAppend
    | with_reducible apply frame_batchDone
    | with_reducible apply frame_shipSeal
    | with_reducible apply Frame.foldlT
    | with_reducible assumption
    | (show (_ : Nat) = _; decide +kernel)
    | (show Nat.testBit _ _ = true; decide +kernel)
    | intro _
    | split)

theorem frame_execShipNotEntered {s u : State} {t : Edges} (h : execShipNotEntered t s = .next u) : Frame 0xc64363d7a 0x401500c009800024 s u := by
  refine frame_live h (fun s => ?_) (by decide +kernel) (by decide +kernel)
  clear h
  try dsimp only
  iterate 50 all_goals try (first
    | (simp only [Frame.mk_iff]; with_reducible apply FrameC.upd <;> first | with_reducible exact fun _ => rfl | exact fun h => absurd h (by decide +kernel) | with_reducible exact fun _ h => ⟨h, rfl, rfl⟩ | with_reducible exact fun _ _ _ => rfl | with_reducible exact id | with_reducible exact fun h _ => h | with_reducible exact fun _ h => h | skip)
    | with_reducible apply Frame.ite
    | with_reducible exact Frame.refl _ _ _
    | (with_reducible apply frame_raise_low; case hs => decide)
    | with_reducible apply frame_enterLockout
    | with_reducible apply Frame.foldlT
    | with_reducible assumption
    | (show (_ : Nat) = _; decide +kernel)
    | (show Nat.testBit _ _ = true; decide +kernel)
    | intro _
    | split)

theorem frame_execRegisterWrite {s u : State} {t : Edges} {p : PortId} {off : Byte} {d : List Byte} (h : execRegisterWrite t p off d s = .next u) : Frame 0xde7ffff7e 0xffffffffffffffff s u := by
  refine frame_live h (fun s => ?_) (by decide +kernel) (by decide +kernel)
  clear h
  try dsimp only
  iterate 50 all_goals try (first
    | with_reducible apply Frame.ite
    | with_reducible exact Frame.refl _ _ _
    | with_reducible apply frame_registerWrite
    | with_reducible apply Frame.foldlT
    | with_reducible assumption
    | (show (_ : Nat) = _; decide +kernel)
    | (show Nat.testBit _ _ = true; decide +kernel)
    | intro _
    | split)

theorem frame_execTransactionStop {s u : State} {t : Edges} {p : PortId} {last : Option Byte} (h : execTransactionStop t p last s = .next u) : Frame 0xde7ffff7e 0xffffffffffffffff s u := by
  refine frame_live h (fun s => ?_) (by decide +kernel) (by decide +kernel)
  clear h
  try dsimp only
  iterate 50 all_goals try (first
    | with_reducible apply Frame.ite
    | with_reducible exact Frame.refl _ _ _
    | with_reducible apply frame_transactionStop
    | with_reducible apply Frame.foldlT
    | with_reducible assumption
    | (show (_ : Nat) = _; decide +kernel)
    | (show Nat.testBit _ _ = true; decide +kernel)
    | intro _
    | split)

theorem frame_execCalendarEntry {s u : State} {t : Edges} {e : Fin 256} (h : execCalendarEntry t e s = .next u) : Frame 0xde7fe3f7e 0xffffffffffffffff s u := by
  refine frame_live h (fun s => ?_) (by decide +kernel) (by decide +kernel)
  clear h
  try dsimp only
  iterate 50 all_goals try (first
    | with_reducible apply Frame.ite
    | with_reducible exact Frame.refl _ _ _
    | with_reducible apply frame_calRun
    | with_reducible apply Frame.foldlT
    | with_reducible assumption
    | (show (_ : Nat) = _; decide +kernel)
    | (show Nat.testBit _ _ = true; decide +kernel)
    | intro _
    | split)

theorem frame_execRegisterRead {s u : State} {t : Edges} {p : PortId} {off : Option Byte} {n : Nat} (h : execRegisterRead t p off n s = .next u) : Frame 0xde7ffff7e 0xffffffffffffffff s u := by
  refine frame_live h (fun s => ?_) (by decide +kernel) (by decide +kernel)
  clear h
  try dsimp only
  iterate 50 all_goals try (first
    | with_reducible apply Frame.ite
    | with_reducible exact Frame.refl _ _ _
    | with_reducible apply frame_registerRead
    | with_reducible apply Frame.foldlT
    | with_reducible assumption
    | (show (_ : Nat) = _; decide +kernel)
    | (show Nat.testBit _ _ = true; decide +kernel)
    | intro _
    | split)

theorem frame_execTransactionAbort {s u : State} {t : Edges} {p : PortId} {cond : AbortCond} {idx : Nat} {addr : Byte} (h : execTransactionAbort t p cond idx addr s = .next u) : Frame 0xde7ffff7e 0xffffffffffffffff s u := by
  refine frame_live h (fun s => ?_) (by decide +kernel) (by decide +kernel)
  clear h
  try dsimp only
  iterate 50 all_goals try (first
    | with_reducible apply Frame.ite
    | with_reducible exact Frame.refl _ _ _
    | with_reducible apply frame_transactionAbort
    | with_reducible apply Frame.foldlT
    | with_reducible assumption
    | (show (_ : Nat) = _; decide +kernel)
    | (show Nat.testBit _ _ = true; decide +kernel)
    | intro _
    | split)

theorem frame_execSclTimeout {s u : State} {t : Edges} {p : PortId} {idx : Nat} (h : execSclTimeout t p idx s = .next u) : Frame 0xde7ffff7e 0xffffffffffffffff s u := by
  refine frame_live h (fun s => ?_) (by decide +kernel) (by decide +kernel)
  clear h
  try dsimp only
  iterate 50 all_goals try (first
    | with_reducible apply Frame.ite
    | with_reducible exact Frame.refl _ _ _
    | with_reducible apply frame_sclTimeout
    | with_reducible apply Frame.foldlT
    | with_reducible assumption
    | (show (_ : Nat) = _; decide +kernel)
    | (show Nat.testBit _ _ = true; decide +kernel)
    | intro _
    | split)

theorem frame_execStretchLimit {s u : State} {t : Edges} {p : PortId} {read : Bool} (h : execStretchLimit t p read s = .next u) : Frame 0x21f042 0x10000c000000020 s u := by
  refine frame_live h (fun s => ?_) (by decide +kernel) (by decide +kernel)
  clear h
  try dsimp only
  iterate 50 all_goals try (first
    | with_reducible apply Frame.ite
    | with_reducible exact Frame.refl _ _ _
    | with_reducible apply frame_stretchLimit
    | with_reducible apply Frame.foldlT
    | with_reducible assumption
    | (show (_ : Nat) = _; decide +kernel)
    | (show Nat.testBit _ _ = true; decide +kernel)
    | intro _
    | split)

theorem frame_execAraRead {s u : State} {t : Edges} {won : Bool} (h : execAraRead t won s = .next u) : Frame 0x21e002 0x0 s u := by
  refine frame_live h (fun s => ?_) (by decide +kernel) (by decide +kernel)
  clear h
  try dsimp only
  iterate 50 all_goals try (first
    | with_reducible apply Frame.ite
    | with_reducible exact Frame.refl _ _ _
    | with_reducible apply frame_araRead
    | with_reducible apply Frame.foldlT
    | with_reducible assumption
    | (show (_ : Nat) = _; decide +kernel)
    | (show Nat.testBit _ _ = true; decide +kernel)
    | intro _
    | split)

theorem frame_execHostNotify {s u : State} {t : Edges} {res : BusResult} (h : execHostNotify t res s = .next u) : Frame 0x21f046 0x10000c000000020 s u := by
  refine frame_live h (fun s => ?_) (by decide +kernel) (by decide +kernel)
  clear h
  try dsimp only
  iterate 50 all_goals try (first
    | with_reducible apply Frame.ite
    | with_reducible exact Frame.refl _ _ _
    | with_reducible apply frame_hostNotify
    | with_reducible apply Frame.foldlT
    | with_reducible assumption
    | (show (_ : Nat) = _; decide +kernel)
    | (show Nat.testBit _ _ = true; decide +kernel)
    | intro _
    | split)

theorem frame_execBusRecovery {s u : State} {t : Edges} {p : PortId} {r : Recovery} (h : execBusRecovery t p r s = .next u) : Frame 0x40021f042 0x10000c003000020 s u := by
  refine frame_live h (fun s => ?_) (by decide +kernel) (by decide +kernel)
  clear h
  try dsimp only
  iterate 50 all_goals try (first
    | with_reducible apply Frame.ite
    | with_reducible exact Frame.refl _ _ _
    | with_reducible apply frame_busRecovery
    | with_reducible apply Frame.foldlT
    | with_reducible assumption
    | (show (_ : Nat) = _; decide +kernel)
    | (show Nat.testBit _ _ = true; decide +kernel)
    | intro _
    | split)

theorem frame_execBusStuckBackoff {s u : State} {t : Edges} {p : PortId} (h : execBusStuckBackoff t p s = .next u) : Frame 0x21e002 0x0 s u := by
  refine frame_live h (fun s => ?_) (by decide +kernel) (by decide +kernel)
  clear h
  try dsimp only
  iterate 50 all_goals try (first
    | with_reducible apply Frame.ite
    | with_reducible exact Frame.refl _ _ _
    | with_reducible apply frame_backoffEnd
    | with_reducible apply Frame.foldlT
    | with_reducible assumption
    | (show (_ : Nat) = _; decide +kernel)
    | (show Nat.testBit _ _ = true; decide +kernel)
    | intro _
    | split)

theorem frame_execSnapshotCaptureDone {s u : State} {t : Edges} {k : Fin 2} {samples : List Code} (h : execSnapshotCaptureDone t k samples s = .next u) : Frame 0x203002 0x0 s u := by
  refine frame_live h (fun s => ?_) (by decide +kernel) (by decide +kernel)
  clear h
  try dsimp only
  iterate 50 all_goals try (first
    | with_reducible apply Frame.ite
    | with_reducible exact Frame.refl _ _ _
    | with_reducible apply frame_captureDone
    | with_reducible apply Frame.foldlT
    | with_reducible assumption
    | (show (_ : Nat) = _; decide +kernel)
    | (show Nat.testBit _ _ = true; decide +kernel)
    | intro _
    | split)

theorem frame_execThermalEvaluation {s u : State} {t : Edges} {k : Fin 52} {code : Code} {die : Int} (h : execThermalEvaluation t k code die s = .next u) : Frame 0xc7c363d7e 0x401500c409800124 s u := by
  refine frame_live h (fun s => ?_) (by decide +kernel) (by decide +kernel)
  clear h
  try dsimp only
  iterate 50 all_goals try (first
    | with_reducible apply Frame.ite
    | with_reducible exact Frame.refl _ _ _
    | with_reducible apply frame_evaluate
    | with_reducible apply frame_rawThermal
    | with_reducible apply Frame.foldlT
    | with_reducible assumption
    | (show (_ : Nat) = _; decide +kernel)
    | (show Nat.testBit _ _ = true; decide +kernel)
    | intro _
    | split)

theorem frame_execDieComparator {s u : State} {t : Edges} (h : execDieComparator t s = .next u) : Frame 0xc64363d7e 0x401500c409800024 s u := by
  refine frame_live h (fun s => ?_) (by decide +kernel) (by decide +kernel)
  clear h
  try dsimp only
  iterate 50 all_goals try (first
    | with_reducible apply Frame.ite
    | with_reducible exact Frame.refl _ _ _
    | (refine frame_takeFree_of ‹_› ?_ ?_ ?_)
    | with_reducible apply frame_takeFree
    | with_reducible apply frame_setGecko
    | with_reducible apply Frame.foldlT
    | with_reducible assumption
    | (show (_ : Nat) = _; decide +kernel)
    | (show Nat.testBit _ _ = true; decide +kernel)
    | intro _
    | split)

theorem frame_execReferenceValid {s u : State} {t : Edges} {freq : Nat} (h : execReferenceValid t freq s = .next u) : Frame 0x100282002 0x10 s u := by
  refine frame_live h (fun s => ?_) (by decide +kernel) (by decide +kernel)
  clear h
  try dsimp only
  iterate 50 all_goals try (first
    | with_reducible apply Frame.ite
    | with_reducible exact Frame.refl _ _ _
    | with_reducible apply frame_acquire
    | with_reducible apply Frame.foldlT
    | with_reducible assumption
    | (show (_ : Nat) = _; decide +kernel)
    | (show Nat.testBit _ _ = true; decide +kernel)
    | intro _
    | split)

theorem frame_execReferenceLost {s u : State} {t : Edges} {why : LossReason} {bValid : Bool} (h : execReferenceLost t why bValid s = .next u) : Frame 0x100283042 0xc000000030 s u := by
  refine frame_live h (fun s => ?_) (by decide +kernel) (by decide +kernel)
  clear h
  try dsimp only
  iterate 50 all_goals try (first
    | with_reducible apply Frame.ite
    | with_reducible exact Frame.refl _ _ _
    | with_reducible apply frame_refLost
    | with_reducible apply Frame.foldlT
    | with_reducible assumption
    | (show (_ : Nat) = _; decide +kernel)
    | (show Nat.testBit _ _ = true; decide +kernel)
    | intro _
    | split)

theorem frame_execWheelLock {s u : State} {t : Edges} (h : execWheelLock t s = .next u) : Frame 0x100283042 0xc000000030 s u := by
  refine frame_live h (fun s => ?_) (by decide +kernel) (by decide +kernel)
  clear h
  try dsimp only
  iterate 50 all_goals try (first
    | (simp only [Frame.mk_iff]; with_reducible apply FrameC.upd <;> first | with_reducible exact fun _ => rfl | exact fun h => absurd h (by decide +kernel) | with_reducible exact fun _ h => ⟨h, rfl, rfl⟩ | with_reducible exact fun _ _ _ => rfl | with_reducible exact id | with_reducible exact fun h _ => h | with_reducible exact fun _ h => h | skip)
    | with_reducible apply Frame.ite
    | with_reducible exact Frame.refl _ _ _
    | with_reducible apply frame_put
    | (with_reducible apply frame_raise_low; case hs => decide)
    | with_reducible apply frame_whlTo
    | with_reducible apply Frame.foldlT
    | with_reducible assumption
    | (show (_ : Nat) = _; decide +kernel)
    | (show Nat.testBit _ _ = true; decide +kernel)
    | intro _
    | split)

theorem frame_execAcquireTimeout {s u : State} {t : Edges} (h : execAcquireTimeout t s = .next u) : Frame 0x100283042 0xc000000030 s u := by
  refine frame_live h (fun s => ?_) (by decide +kernel) (by decide +kernel)
  clear h
  try dsimp only
  iterate 50 all_goals try (first
    | with_reducible apply Frame.ite
    | with_reducible exact Frame.refl _ _ _
    | (with_reducible apply frame_raise_low; case hs => decide)
    | with_reducible apply frame_whlDrop
    | with_reducible apply Frame.foldlT
    | with_reducible assumption
    | (show (_ : Nat) = _; decide +kernel)
    | (show Nat.testBit _ _ = true; decide +kernel)
    | intro _
    | split)

theorem frame_execPhaseErrorCycle {s u : State} {t : Edges} (h : execPhaseErrorCycle t s = .next u) : Frame 0x100283042 0xc000000030 s u := by
  refine frame_live h (fun s => ?_) (by decide +kernel) (by decide +kernel)
  clear h
  try dsimp only
  iterate 50 all_goals try (first
    | with_reducible apply Frame.ite
    | with_reducible exact Frame.refl _ _ _
    | with_reducible apply frame_flag
    | with_reducible apply frame_bump
    | (with_reducible apply frame_raise_low; case hs => decide)
    | with_reducible apply frame_acquire
    | with_reducible apply Frame.foldlT
    | with_reducible assumption
    | (show (_ : Nat) = _; decide +kernel)
    | (show Nat.testBit _ _ = true; decide +kernel)
    | intro _
    | split)

theorem frame_execFeedAReturn {s u : State} {t : Edges} {diff : Int} (h : execFeedAReturn t diff s = .next u) : Frame 0x100283042 0xc000000030 s u := by
  refine frame_live h (fun s => ?_) (by decide +kernel) (by decide +kernel)
  clear h
  try dsimp only
  iterate 50 all_goals try (first
    | with_reducible apply Frame.ite
    | with_reducible exact Frame.refl _ _ _
    | with_reducible apply frame_put
    | (with_reducible apply frame_raise_low; case hs => decide)
    | with_reducible apply frame_acquire
    | with_reducible apply Frame.foldlT
    | with_reducible assumption
    | (show (_ : Nat) = _; decide +kernel)
    | (show Nat.testBit _ _ = true; decide +kernel)
    | intro _
    | split)

theorem frame_execWheelPoint {s u : State} {t : Edges} {m : WheelMeas} (h : execWheelPoint t m s = .next u) : Frame 0x1fe7ee3d7e 0xffffffffffffffff s u := by
  refine frame_live h (fun s => ?_) (by decide +kernel) (by decide +kernel)
  clear h
  try dsimp only
  iterate 50 all_goals try (first
    | with_reducible apply Frame.ite
    | with_reducible exact Frame.refl _ _ _
    | with_reducible apply frame_wheelPoint
    | with_reducible apply Frame.foldlT
    | with_reducible assumption
    | (show (_ : Nat) = _; decide +kernel)
    | (show Nat.testBit _ _ = true; decide +kernel)
    | intro _
    | split)

/-- What a reset takes, and what it leaves. -/
theorem frame_unpower (s : State) : Frame 0x1ffffff8f8 0xffffffffffffffff s s.unpower := by
  refine ⟨fun _ => rfl, fun _ => rfl, fun _ => rfl, fun x => absurd x (by decide), fun x => absurd x (by decide), fun x => absurd x (by decide), fun x => absurd x (by decide), fun x => absurd x (by decide), fun _ => rfl, fun _ => rfl, fun _ => rfl, fun x => absurd x (by decide), fun x => absurd x (by decide), fun x => absurd x (by decide), fun x => absurd x (by decide), fun x => absurd x (by decide), fun x => absurd x (by decide), fun x => absurd x (by decide), fun x => absurd x (by decide), fun x => absurd x (by decide), fun x => absurd x (by decide), fun x => absurd x (by decide), fun x => absurd x (by decide), fun x => absurd x (by decide), fun x => absurd x (by decide), fun x => absurd x (by decide), fun x => absurd x (by decide), fun x => absurd x (by decide), fun x => absurd x (by decide), fun x => absurd x (by decide), fun x => absurd x (by decide), fun x => absurd x (by decide), fun x => absurd x (by decide), fun x => absurd x (by decide), fun x => absurd x (by decide), fun x => absurd x (by decide), fun x => absurd x (by decide), fun f _ x => absurd x (by rw [allPages f]; decide), fun y => ?_⟩
  simp only [State.storesWf, Bool.and_eq_true] at y ⊢
  exact ⟨⟨⟨rfl, rfl⟩, y.1.2⟩, y.2⟩

theorem frame_boot (s : State) (b : BootIn) : Frame 0x1ffffffffa 0xffffffffffffffff s (s.boot b) := by
  exact frame_roleShow (frame_firstMode (frame_bootPins (frame_bootRead (frame_bootWake ((frame_unpower s).mono (by decide +kernel) (by decide +kernel)) _
    (by decide +kernel) (by decide +kernel)) _ (by decide +kernel) (by decide +kernel)) _ (by decide +kernel) (by decide +kernel))
    (by decide +kernel) (by decide +kernel)) (by decide +kernel) (by decide +kernel)

theorem frame_execPowerOnReset {s u : State} {t : Edges} {b : BootIn} (h : execPowerOnReset t b s = .next u) : Frame 0x1ffffffffa 0xffffffffffffffff s u := by
  unfold execPowerOnReset at h
  injection h with h
  rw [← h]
  have ha := frame_at (Frame.refl 0x1ffffffffa 0xffffffffffffffff s) t (by decide +kernel)
  refine Frame.ite (fun _ => ha) (fun _ => frame_finish (ha.trans (frame_boot _ b)) (by decide +kernel) (by decide +kernel))

theorem frame_execRstNAsserted {s u : State} {t : Edges} (h : execRstNAsserted t s = .next u) : Frame 0x1ffffff8fa 0xffffffffffffffff s u := by
  unfold execRstNAsserted at h
  injection h with h
  rw [← h]
  exact (frame_at (Frame.refl _ _ s) t (by decide +kernel)).step (frame_unpower _) (by decide +kernel) (by decide +kernel)

theorem frame_execSupplyLoss {s u : State} {t : Edges} {v : Supply} (h : execSupplyLoss t v s = .next u) : Frame 0x1ffffff8fa 0xffffffffffffffff s u := by
  unfold execSupplyLoss at h
  injection h with h
  rw [← h]
  exact (frame_at (Frame.refl _ _ s) t (by decide +kernel)).step (frame_unpower _) (by decide +kernel) (by decide +kernel)

theorem frame_execVkaLost {s u : State} {t : Edges} (h : execVkaLost t s = .next u) : Frame 0x102 0x400000004 s u := by
  unfold execVkaLost at h
  injection h with h
  rw [← h]
  refine frame_put (frame_put ?_ _ _ (by decide)) _ _ (by decide)
  exact ⟨fun _ => rfl, fun x => absurd x (by decide), fun _ => rfl, fun _ => rfl, fun _ => rfl, fun _ => rfl, fun _ => rfl, fun _ => rfl, fun x => absurd x (by decide), fun _ => rfl, fun _ => rfl, fun _ => rfl, fun _ => rfl, fun _ => rfl, fun _ => rfl, fun _ => rfl, fun _ => rfl, fun _ => rfl, fun _ => rfl, fun _ => rfl, fun _ => rfl, fun _ => rfl, fun _ => rfl, fun _ => rfl, fun _ => rfl, fun _ => rfl, fun _ => rfl, fun _ => rfl, fun _ => rfl, fun _ => rfl, fun _ => rfl, fun _ => rfl, fun _ => rfl, fun _ => rfl, fun _ => rfl, fun _ => rfl, fun _ h => ⟨h, rfl, rfl⟩, fun _ _ _ => rfl, id⟩

theorem frame_execShipWake {s u : State} {t : Edges} {c : WakeCause} (h : execShipWake t c s = .next u) : Frame 0x102 0x0 s u := by
  unfold execShipWake at h
  injection h with h
  rw [← h]
  refine Frame.ite (fun _ => ?_) (fun _ => ?_) <;> exact ⟨fun _ => rfl, fun x => absurd x (by decide), fun _ => rfl, fun _ => rfl, fun _ => rfl, fun _ => rfl, fun _ => rfl, fun _ => rfl, fun x => absurd x (by decide), fun _ => rfl, fun _ => rfl, fun _ => rfl, fun _ => rfl, fun _ => rfl, fun _ => rfl, fun _ => rfl, fun _ => rfl, fun _ => rfl, fun _ => rfl, fun _ => rfl, fun _ => rfl, fun _ => rfl, fun _ => rfl, fun _ => rfl, fun _ => rfl, fun _ => rfl, fun _ => rfl, fun _ => rfl, fun _ => rfl, fun _ => rfl, fun _ => rfl, fun _ => rfl, fun _ => rfl, fun _ => rfl, fun _ => rfl, fun _ => rfl, fun _ h => ⟨h, rfl, rfl⟩, fun _ _ _ => rfl, id⟩

theorem frame_execShipSecond {s u : State} {t : Edges} (h : execShipSecond t s = .next u) : Frame 0x102 0x0 s u := by
  unfold execShipSecond at h
  injection h with h
  rw [← h]
  refine Frame.ite (fun _ => ?_) (fun _ => ?_) <;> exact ⟨fun _ => rfl, fun x => absurd x (by decide), fun _ => rfl, fun _ => rfl, fun _ => rfl, fun _ => rfl, fun _ => rfl, fun _ => rfl, fun x => absurd x (by decide), fun _ => rfl, fun _ => rfl, fun _ => rfl, fun _ => rfl, fun _ => rfl, fun _ => rfl, fun _ => rfl, fun _ => rfl, fun _ => rfl, fun _ => rfl, fun _ => rfl, fun _ => rfl, fun _ => rfl, fun _ => rfl, fun _ => rfl, fun _ => rfl, fun _ => rfl, fun _ => rfl, fun _ => rfl, fun _ => rfl, fun _ => rfl, fun _ => rfl, fun _ => rfl, fun _ => rfl, fun _ => rfl, fun _ => rfl, fun _ => rfl, fun _ h => ⟨h, rfl, rfl⟩, fun _ _ _ => rfl, id⟩

end Sys2Proof.Laws
end

