-- ==== Sys2Proof/Laws/Does.lean ====
section
/-! SUPPORT. From the shared form of the meanings and the frame laws to the terms claims use. -/

namespace Sys2Proof.Laws

open Sys2Proof Sys2Proof.Machine

/-- The state in which a command of the shared form ends, on a powered chip. -/
def ended (t : Edges) (s : State) (f : State → State) : State := ((s.at t).decided (f (s.at t))).finish

/-- A command of the shared form on a powered chip does what its effect does. -/
theorem does_live {c : Instr} {t : Edges} {s : State} {f : State → State} {P : State → Prop} (hp : s.core.powered = true)
    (hc : exec c s = live t s f) (h : P (ended t s f)) : Does c s P := by
  refine ⟨_, hc.trans ?_, h⟩
  unfold live ended
  rw [if_pos hp]

/-- A write on a port while the supervisor runs. -/
theorem does_hostWrite {c : Instr} {t : Edges} {s : State} {f : State → State} {P : State → Prop} (hs : s.up)
    (hc : exec c s = hostWrite t s f) (h : P (ended t s f)) : Does c s P := by
  refine does_live (f := fun s => if s.supUp then f s else s) hs.1 hc ?_
  have : (s.at t).supUp = true := hs.2
  unfold ended at h ⊢
  dsimp only
  rwa [if_pos this]

/-- What the end of a command leaves: all but the controller, the time and the records for the partner. -/
theorem ended_regAt (t : Edges) (s : State) (f : State → State) (r : Field) (i : Nat) :
    (ended t s f).regAt r i = (f (s.at t)).regAt r i := by simp [ended]
theorem ended_reg (t : Edges) (s : State) (f : State → State) (r : Field) : (ended t s f).reg r = (f (s.at t)).reg r := by simp [ended]

/-- The bit of a part in the sets of the frame laws. -/
def partBit : Part → Nat
  | .pending => 0 | .now => 1 | .free => 2 | .shad => 3 | .touched => 4 | .core => 5 | .held => 6 | .powered => 7 | .vka => 8 | .otp => 9
  | .flash => 10 | .jrn => 11 | .log => 12 | .ic => 13 | .portH => 14 | .portS => 15 | .portD => 16 | .sec => 17 | .img => 18
  | .wheel => 19 | .twin => 20 | .sendQ => 21 | .phases => 22 | .bays => 23 | .fuses => 24 | .sup => 25 | .step => 26 | .sensors => 27
  | .thm => 28 | .strs => 29 | .ests => 30 | .est => 31 | .hup => 32 | .tlm => 33 | .cap => 34 | .supervisor => 35

theorem same_core {s u : State} (h : coreRest u.core = coreRest s.core) : Part.same s u .core := by
  have : { coreRest u.core with heldEvents := s.core.heldEvents, powered := s.core.powered, sup := s.core.sup } =
    { coreRest s.core with heldEvents := s.core.heldEvents, powered := s.core.powered, sup := s.core.sup } := by rw [h]
  exact this

theorem same_twin {s u : State} (h : twinRest u.twin = twinRest s.twin) : Part.same s u .twin := by
  have : { twinRest u.twin with sendQ := s.twin.sendQ, recSeq := s.twin.recSeq } =
    { twinRest s.twin with sendQ := s.twin.sendQ, recSeq := s.twin.recSeq } := by rw [h]
  exact this

/-- A frame says of each part outside its set that the two states agree in it. -/
theorem same_of_frame {P G : Nat} {s u : State} (h : Frame P G s u) (p : Part) (hp : P.testBit (partBit p) = false) : p.same s u := by
  cases p
  case core => exact same_core (h.f_core hp)
  case twin => exact same_twin (h.f_twin hp)
  case sendQ => exact Prod.mk.inj (h.f_sendQ hp)
  all_goals first
    | exact h.f_pending hp | exact h.f_now hp | exact h.f_free hp | exact h.f_shad hp | exact h.f_touched hp | exact h.f_held hp
    | exact h.f_powered hp | exact h.f_vka hp | exact h.f_otp hp | exact h.f_flash hp | exact h.f_jrn hp | exact h.f_log hp
    | exact h.f_ic hp | exact h.f_portH hp | exact h.f_portS hp | exact h.f_portD hp | exact h.f_sec hp | exact h.f_img hp
    | exact h.f_wheel hp | exact h.f_phases hp | exact h.f_bays hp | exact h.f_fuses hp | exact h.f_sup hp | exact h.f_step hp
    | exact h.f_sensors hp | exact h.f_thm hp | exact h.f_strs hp | exact h.f_ests hp | exact h.f_est hp | exact h.f_hup hp
    | exact h.f_tlm hp | exact h.f_cap hp | exact h.f_supv hp

/-- From a frame by sets of bits to a frame by lists. -/
theorem leaves_of_frame {P G : Nat} {parts : List Part} {pages : List Nat} {s u : State} (h : Frame P G s u)
    (hP : ∀ p : Part, p ∉ parts → P.testBit (partBit p) = false) (hG : ∀ k : Fin 64, k.val ∉ pages → G.testBit k.val = false) :
    LeavesAllBut parts pages s u :=
  ⟨fun p hp => same_of_frame h p (hP p hp),
   fun f i hf => h.f_regs f i (hG ⟨f.onPage, Nat.mod_lt _ (by decide)⟩ hf)⟩

end Sys2Proof.Laws
end

