-- ==== Sys2Proof/Laws/Claims.lean ====
section
/-! SUPPORT. The laws of the terms of Safety/Claims.lean: what the end of a command does to the sources of the interrupt controller,
that an event raised last is the last one raised, and which registers writes and events leave. -/


namespace Sys2Proof.Laws
open Sys2Proof Sys2Proof.Machine

/-- One source's move leaves every other source, every timer and every register. -/
theorem icMove_src (s : State) (i j : Fin 128) : (s.icMove i).ic.src[j] = if i = j then s.follows j else s.ic.src[j] := by
  unfold State.icMove State.follows
  by_cases h : i = j
  · subst h; simp <;> rfl
  · have : i.val ≠ j.val := fun e => h (Fin.ext e)
    simp [h, this]

theorem icMove_timer (s : State) (i : Fin 128) : (s.icMove i).ic.timer = s.ic.timer := rfl

theorem icMove_follows (s : State) (i j : Fin 128) (h : i ≠ j) : (s.icMove i).follows j = s.follows j := by
  have e : (s.icMove i).ic.src[j] = s.ic.src[j] := by rw [icMove_src, if_neg h]
  unfold State.follows
  rw [e]; rfl

/-- The moves of a list without repeats: each source in it follows its level once, the others stay. -/
theorem icMoves_src (l : List (Fin 128)) (hl : l.Nodup) (s : State) (j : Fin 128) :
    (l.foldl State.icMove s).ic.src[j] = if j ∈ l then s.follows j else s.ic.src[j] := by
  induction l generalizing s with
  | nil => simp
  | cons i l ih =>
    rw [List.foldl_cons, ih hl.of_cons]
    have hi : i ∉ l := (List.nodup_cons.mp hl).1
    by_cases hj : j ∈ l
    · have : i ≠ j := fun e => hi (e ▸ hj)
      simp [hj, icMove_follows s i j this]
    · by_cases e : i = j
      · subst e; rw [if_neg hj, icMove_src, if_pos rfl, if_pos (List.mem_cons_self)]
      · have : j ≠ i := fun x => e x.symm
        rw [if_neg hj, icMove_src, if_neg e, if_neg (by simp [hj, this])]

theorem icNotice_src (s : State) : s.icNotice.ic.src = s.ic.src := by unfold State.icNotice; dsimp only; split <;> rfl
theorem icNotice_timer (s : State) : s.icNotice.ic.timer = s.ic.timer := by unfold State.icNotice; dsimp only; split <;> rfl
theorem icNotice_overdue (s : State) : s.icNotice.ic.overdue = s.ic.overdue := by unfold State.icNotice; dsimp only; split <;> rfl

/-- R415: after a command every source in use has followed its level. -/
theorem finish_src (s : State) (j : Fin 128) : s.finish.ic.src[j] = if j ∈ icIds then s.follows j else s.ic.src[j] := by
  unfold State.finish State.icRefresh
  dsimp only
  rw [icNotice_src, foldl_keeps (fun u : State => u.ic.src) State.icAge (fun _ _ => rfl)]
  exact icMoves_src icIds (by decide) s j

theorem finish_timer (s : State) : s.finish.ic.timer = s.ic.timer := by
  unfold State.finish State.icRefresh
  dsimp only
  rw [icNotice_timer, foldl_keeps (fun u : State => u.ic.timer) State.icAge (fun _ _ => rfl)]
  exact foldl_keeps (fun u : State => u.ic.timer) State.icMove (fun _ _ => rfl) _ _

end Sys2Proof.Laws

namespace Sys2Proof.Laws
open Sys2Proof Sys2Proof.Machine

theorem noteDrop_last (s : State) (v : Nat) : (s.noteDrop v).log.last = s.log.last := rfl

theorem enqueue_last (s : State) (r : EventRec) : (s.enqueue r).log.last = s.log.last := by
  unfold State.enqueue
  split
  · rfl
  · split
    · exact noteDrop_last _ _
    · rfl

theorem flushKick_last (s : State) : s.flushKick.log.last = s.log.last := by
  unfold State.flushKick; split <;> rfl

theorem flushTrigger_last (s : State) (v : Nat) : (s.flushTrigger v).log.last = s.log.last := by
  unfold State.flushTrigger; split
  · exact flushKick_last _
  · rfl

/-- R345, R455: the record raised last. -/
theorem record_last (s : State) (code sev unit p0 p1 p2 p3 : Nat) : ∃ r, (s.record code sev unit p0 p1 p2 p3).log.last = some r ∧
    r.code = code ∧ r.sev = sev ∧ r.p0 = p0 % 2 ^ 32 ∧ r.p1 = p1 % 2 ^ 32 ∧ r.tm = s.now := by
  unfold State.record
  dsimp only
  exact ⟨_, (flushTrigger_last _ _).trans (enqueue_last _ _), rfl, rfl, rfl, rfl, rfl⟩

theorem recordEvent_reg (s : State) (code sev unit p0 p1 p2 p3 : Nat) (f : Field) (hf : onRecPages f = false) :
    (s.recordEvent code sev unit p0 p1 p2 p3).reg f = s.reg f :=
  (recordEvent_rec s code sev unit p0 p1 p2 p3).cells f hf 0

/-- R345: an event raised at the end of an effect is the last one raised, or is held. -/
theorem raised_raise4 {s z : State} (code sev unit p0 p1 p2 p3 : Nat) (h : sev < 6 ∨ z.reg Reg.IMG_STAT_PROB ≠ 1)
    (hs : z.supUp = s.supUp) (hr : z.reg Reg.REC_SNSEV = s.reg Reg.REC_SNSEV) :
    Raised code sev p0 p1 s (z.raise4 code sev unit p0 p1 p2 p3) := by
  unfold Raised
  split
  · rename_i hup
    intro hq
    have hup' : z.supUp = true := hs.trans hup
    obtain ⟨r, h1, h2, h3, h4, h5, h6⟩ := record_last z code sev unit p0 p1 p2 p3
    have hrec : (z.recordEvent code sev unit p0 p1 p2 p3) = z.record code sev unit p0 p1 p2 p3 := by
      unfold State.recordEvent
      have : (z.record code sev unit p0 p1 p2 p3).reg Reg.REC_SNSEV = s.reg Reg.REC_SNSEV :=
        ((record_rec z code sev unit p0 p1 p2 p3).cells Reg.REC_SNSEV (by decide) 0).trans hr
      dsimp only
      rw [this, if_neg (by omega)]
    have hp : (z.recordEvent code sev unit p0 p1 p2 p3).reg Reg.IMG_STAT_PROB = z.reg Reg.IMG_STAT_PROB :=
      recordEvent_reg _ _ _ _ _ _ _ _ _ (by decide)
    have : z.raise4 code sev unit p0 p1 p2 p3 = z.record code sev unit p0 p1 p2 p3 := by
      unfold State.raise4
      dsimp only
      rw [if_pos hup', hp, if_neg (by omega), hrec]
    rw [this]
    refine ⟨r, h1, h2, h3, h4, h5, h6.trans ?_⟩
    rw [(record_rec z code sev unit p0 p1 p2 p3).rest]
  · rename_i hup
    have hup' : ¬ z.supUp = true := fun e => hup (hs ▸ e)
    unfold State.raise4
    rw [if_neg hup']
    exact ⟨_, List.mem_append_right _ (List.mem_singleton.mpr rfl), rfl, rfl, rfl, rfl⟩

theorem raised_raise {s z : State} (code sev unit p0 p1 : Nat) (h : sev < 6 ∨ z.reg Reg.IMG_STAT_PROB ≠ 1)
    (hs : z.supUp = s.supUp) (hr : z.reg Reg.REC_SNSEV = s.reg Reg.REC_SNSEV) :
    Raised code sev p0 p1 s (z.raise code sev unit p0 p1) := raised_raise4 code sev unit p0 p1 _ _ h hs hr

/-- What ends a command leaves the events as they are. -/
theorem raised_ended {code sev p0 p1 : Nat} {t : Edges} {s : State} {f : State → State} (h : Raised code sev p0 p1 s (f (s.at t))) :
    Raised code sev p0 p1 s (ended t s f) := by
  unfold Raised ended at *
  simpa using h

theorem onlyRegs_ended {l : List Field} {t : Edges} {s : State} {f : State → State} (h : OnlyRegs l s (f (s.at t))) : OnlyRegs l s (ended t s f) := by
  intro g i a b
  rw [ended_regAt]; exact h g i a b

theorem onlyRegsQuiet_ended {l : List Field} {t : Edges} {s : State} {f : State → State} (h : OnlyRegsQuiet l s (f (s.at t))) :
    OnlyRegsQuiet l s (ended t s f) := by
  intro g i a
  rw [ended_regAt]; exact h g i a

theorem onlyRegsQuiet_of_regs {s u : State} (l : List Field) (h : u.regs = s.regs) : OnlyRegsQuiet l s u :=
  fun f i _ => by unfold State.regAt; rw [h]

theorem onlyRegs_of_regs {s u : State} (l : List Field) (h : u.regs = s.regs) : OnlyRegs l s u :=
  fun f i _ _ => by unfold State.regAt; rw [h]

theorem onRecPages_of_not {f : Field} (h : f.place ∉ recorderFields.map Field.place) : onRecPages f = false := by
  unfold onRecPages
  rw [Bool.eq_false_iff]
  intro e
  exact h (by simpa [recorderFields] using e)

theorem onlyRegs_raise4 {l : List Field} {s u : State} (h : OnlyRegs l s u) (code sev unit p0 p1 p2 p3 : Nat)
    (k : sev < 6 ∨ u.reg Reg.IMG_STAT_PROB ≠ 1) : OnlyRegs l s (u.raise4 code sev unit p0 p1 p2 p3) := by
  intro f i a b
  refine Eq.trans ?_ (h f i a b)
  rcases k with k | k
  · exact (raise4_rec u code sev unit p0 p1 p2 p3 k).cells f (onRecPages_of_not b) i
  · exact (raise4_rec_high u code sev unit p0 p1 p2 p3 k).cells f (onRecPages_of_not b) i

theorem onlyRegs_raise {l : List Field} {s u : State} (h : OnlyRegs l s u) (code sev unit p0 p1 : Nat)
    (k : sev < 6 ∨ u.reg Reg.IMG_STAT_PROB ≠ 1) : OnlyRegs l s (u.raise code sev unit p0 p1) := onlyRegs_raise4 h _ _ _ _ _ _ _ k

theorem onlyRegs_putAt {l : List Field} {s u : State} (h : OnlyRegs l s u) (f : Field) (i v : Nat) (hf : f.place ∈ l.map Field.place) :
    OnlyRegs l s (u.putAt f i v) := by
  intro g j a b
  exact (regAt_putAt_other u f g i j v (fun e => a (by rw [e]; exact hf))).trans (h g j a b)

theorem onlyRegs_put {l : List Field} {s u : State} (h : OnlyRegs l s u) (f : Field) (v : Nat) (hf : f.place ∈ l.map Field.place) :
    OnlyRegs l s (u.put f v) := onlyRegs_putAt h f 0 v hf

theorem onlyRegsQuiet_putAt {l : List Field} {s u : State} (h : OnlyRegsQuiet l s u) (f : Field) (i v : Nat) (hf : f.place ∈ l.map Field.place) :
    OnlyRegsQuiet l s (u.putAt f i v) := by
  intro g j a
  exact (regAt_putAt_other u f g i j v (fun e => a (by rw [e]; exact hf))).trans (h g j a)

theorem onlyRegsQuiet_put {l : List Field} {s u : State} (h : OnlyRegsQuiet l s u) (f : Field) (v : Nat) (hf : f.place ∈ l.map Field.place) :
    OnlyRegsQuiet l s (u.put f v) := onlyRegsQuiet_putAt h f 0 v hf

end Sys2Proof.Laws
end

