-- ==== Sys2Proof/Tests/Slice0.lean ====
section
/-! SUPPORT. Tests: the check of a command's form refuses what it should, the spec's own check values and worked examples, and for every
statement states and operands that meet its hypotheses, clause by clause. Where a clause reaches an opaque constant of Config (a signature,
a point on the curve, the partner's firmware), the witness is given for every value of it that lets the clause apply. -/

namespace Sys2Proof.Tests

open Sys2Proof.Machine

set_option Elab.async false

/-! States to test on: the chip powered, then changed step by step. -/

/-- The chip powered, every register at its reset value. -/
def up : State := { State.reset with core.powered := true }
/-- `up` with some changes made in order. -/
def st (l : List (State → State)) : State := l.foldl (fun s f => f s) up
def wr (f : Field) (v : Nat) (s : State) : State := s.put f v
def wrAt (f : Field) (i v : Nat) (s : State) : State := s.putAt f i v
/-- Source `i` in a state; and pending, enabled and above the threshold. -/
def icState (i : Fin 128) (x : SrcState) (s : State) : State := { s with ic.src := s.ic.src.set i x }
def icPend (i : Fin 128) (s : State) : State :=
  (icState i .pending (s.put (match i.val with | 0 => Reg.FUS_FLAGS_TRIP | _ => Reg.SEC_FLAGS_OTP) 1)).put Reg.IC_THRESH 0
    |>.putAt Reg.IC_EN (i.val / 8) 0xFF |>.putAt Reg.IC_PRIO (i.val / 2) 0x77

/-- WARN input 15 is listened to, with the longest pulse 100 us. -/
def warnEar (s : State) : State := ((s.put Reg.STP_WEN 0x8000).put Reg.STP_WSTUCK 0).put Reg.STP_STUCKT 100
/-- Feed B's crest is checked: a locked wheel, a fresh offset and four peaks known. -/
def crestFed (s : State) : State :=
  ({ s with wheel.bofsAt := some 0 }.put Reg.WHL_STAT_STATE 2).setFeed .b { s.feed .b with apk := [1, 1, 1, 1] }

/-- A lithium-free string of 13 cells at rest, 1,200 mV a cell, on a table of two points. -/
def estRest (s : State) : State :=
  let s := ((s.put Reg.GL_MODE modeRun).putAt Reg.BST_CELLS 7 13).putAt Reg.EST_STATE 7 1
  ((s.putAt Reg.EST_OCVN 0 0).putAt Reg.EST_OCVN 1 (20000 * 65536 + 10000)).setStr 7 { s.str 7 with bvAvg := 15600 }

/-- A capsule of 13 nickel cells and 100 Ah-tenths, its CRC by R257, staged whole. -/
def capBytes : List Nat := [1, 0, 13] ++ List.replicate 21 0 ++ [0xE8, 3] ++ List.replicate 97 0
def capSt : State := st [wr Reg.EST_RIDX 7, wr Reg.EST_RFILL 127, wr Reg.GL_STAT_OWNER 1, wrAt Reg.BST_CELLS 7 13, wrAt Reg.BST_CFG_CHEM 7 0,
  wrAt Reg.BST_CAP 7 100, wrAt Reg.EST_STATE 7 1,
  fun s => { s with est.staged := (List.range 128).zip (capBytes ++ [0x87, 0xD0, 0x16, 0xDB, 0xC3]) }]
theorem cap_crc0 : ([1, 0, 13] ++ List.replicate 21 0 ++ [0xE8, 3]).foldl crc32Byte 0xFFFFFFFF = 2190346434 := by decide +kernel
theorem cap_crc1 : (List.replicate 22 0).foldl crc32Byte 2190346434 = 313358100 := by decide +kernel
theorem cap_crc2 : (List.replicate 32 0).foldl crc32Byte 313358100 = 3347553717 := by decide +kernel
theorem cap_crc3 : (List.replicate 32 0).foldl crc32Byte 3347553717 = 309142804 := by decide +kernel
theorem cap_crc4 : (List.replicate 11 0).foldl crc32Byte 309142804 = 619261816 := by decide +kernel
theorem cap_crc : crc32 capBytes = 0xDB16D087 := by
  have h : capBytes = ([1, 0, 13] ++ List.replicate 21 0 ++ [0xE8, 3]) ++ (List.replicate 22 0 ++ (List.replicate 32 0 ++
    (List.replicate 32 0 ++ List.replicate 11 0))) := by decide +kernel
  rw [crc32, h, List.foldl_append, cap_crc0, List.foldl_append, cap_crc1, List.foldl_append, cap_crc2, List.foldl_append, cap_crc3, cap_crc4]
  decide
theorem capSt_take : ((List.range 128).map capSt.stagedByte).take 123 = capBytes := by decide +kernel
theorem capSt_faults (l : Bool) : capSt.capsuleFaults ((List.range 128).map capSt.stagedByte) l = if l then [] else [5] := by
  unfold State.capsuleFaults
  rw [capSt_take, cap_crc]
  cases l <;> decide +kernel

/-- A whole image of 200 bytes in slot A: version 5, key slot 0, no phase fitted in any bay, r = s = 1 (R302-R305, R309). -/
def imgSec (b : Nat) : List Nat := [17, 0, 6, 0, 0, 0, 16, 1, 1, b, 42, 0]
def imgBody : List Nat := (List.range 8).flatMap imgSec
def imgOne : List Nat := List.replicate 31 0 ++ [1]
def imgImage : List Nat := [75, 89, 82, 78, 1, 0, 32, 0, 5, 0, 0, 0, 0, 0, 0, 0, 200, 0, 0, 0, 37, 135, 81, 251, 64, 150, 0, 0, 0, 0, 0, 0] ++ imgBody ++ imgOne ++ imgOne ++ List.replicate 8 0
def imgSt : State := st [fun s => { s with flash.slotA := memWriteBytes [] 0 (imgImage.map (BitVec.ofNat 8)) },
  fun s => { s with flash.bd0 := some ⟨1, true, false, 5, 0⟩, otp.keys := s.otp.keys.set 0 ⟨.active, List.replicate 64 1⟩ }]
theorem img_crc0 : ((imgBody.drop 0).take 24).foldl crc32Byte 4294967295 = 3133139529 := by decide +kernel
theorem img_crc1 : ((imgBody.drop 24).take 24).foldl crc32Byte 3133139529 = 1146457555 := by decide +kernel
theorem img_crc2 : ((imgBody.drop 48).take 24).foldl crc32Byte 1146457555 = 2043553518 := by decide +kernel
theorem img_crc3 : ((imgBody.drop 72).take 24).foldl crc32Byte 2043553518 = 78543066 := by decide +kernel
theorem img_crc : crc32 imgBody = 4216424229 := by
  have h : imgBody = imgBody.take 24 ++ ((imgBody.drop 24).take 24 ++ ((imgBody.drop 48).take 24 ++ (imgBody.drop 72).take 24)) := by decide +kernel
  rw [crc32, h, List.foldl_append, List.foldl_append, List.foldl_append]
  rw [show (imgBody.take 24) = (imgBody.drop 0).take 24 from rfl, img_crc0, img_crc1, img_crc2, img_crc3]
  decide
def imgCells : Cells := match imgSections imgSt.flash.slotA 128 201 32 [] with | .ok c => c | .error _ => []
def imgData : ImgData := ⟨5, 0, 0, 200, imgCells⟩
/-- The image passes every check of R309 where the signature does. -/
theorem imgSt_ok (hv : ∀ m x k, Config.ecdsaVerify m x k = true) (n : Bool) (s : State) (hf : s.flash.slotA = imgSt.flash.slotA)
    (hb : s.flash.bootDesc = imgSt.flash.bootDesc) (ho : s.otp = imgSt.otp) (hj : s.verdict 5 = 0) : s.checkSlot false n = .ok imgData := by
  have h1 : memReadBytes imgSt.flash.slotA 0 4 = [0x4B, 0x59, 0x52, 0x4E] := by decide +kernel
  have h2 : u16At imgSt.flash.slotA 4 = 1 := by decide +kernel
  have h3 : u16At imgSt.flash.slotA 6 = 32 := by decide +kernel
  have h4 : u32At imgSt.flash.slotA 24 = 0x9640 := by decide +kernel
  have h5 : imgLength imgSt.flash.slotA = 200 := by decide +kernel
  have h6 : imgVersion imgSt.flash.slotA = 5 := by decide +kernel
  have h7 : u32At imgSt.flash.slotA 12 = 0 := by decide +kernel
  have h8 : u32At imgSt.flash.slotA 20 = 4216424229 := by decide +kernel
  have h9 : (memReadBytes imgSt.flash.slotA 32 96).map BitVec.toNat = imgBody := by decide +kernel
  have h10 : (memRead imgSt.flash.slotA 192).toNat = 0 := by decide +kernel
  have h11 : imgSt.otp.floor = 0 := by decide +kernel
  have h12 : imgSt.otp.activeKey 0 = some (List.replicate 64 1) := by decide +kernel
  have h13 : beValue ((memReadBytes imgSt.flash.slotA 128 64).take 32) = 1 := by decide +kernel
  have h14 : beValue ((memReadBytes imgSt.flash.slotA 128 64).drop 32) = 1 := by decide +kernel
  have h15 : imgSections imgSt.flash.slotA 128 201 32 [] = .ok imgCells := by decide +kernel
  have h16 : badPage imgCells = none := by decide +kernel
  have h17 : s.flash.ready false = true := by
    unfold Flash.ready; rw [hb]; decide +kernel
  have h18 : s.flash.slot false = imgSt.flash.slotA := hf
  unfold State.checkSlot
  simp only [h18, h1, h2, h3, h4, h5, h6, h7, h8, h9, h10, ho, h11, h12, hj, img_crc, sigOk, h13, h14, hv, h15, h16, h17, Nat.reduceAdd, Nat.reduceSub]
  simp [p256Order, imgData]

def imgUp : State := [wr Reg.IMG_UPST 2, fun s => { s with img.chunkNow := none, img.upSlot := false }].foldl (fun s f => f s) imgSt
def imgLd : State := [wr Reg.IMG_STAT_SLOT 0, fun s => { s with core.load := some ⟨.digest, 0, false, 1⟩ }].foldl (fun s f => f s) imgSt
def imgRev : State := [wr Reg.GL_MODE modeRun, wr Reg.GL_STAT_IMGVALID 1, wr Reg.IMG_STAT_SLOT 1, wr Reg.IMG_VER 6].foldl (fun s f => f s) imgSt
/-- A token of 104 bytes, scope 0, key slot 0, expiring at second 1, with r = s = 1 (R432). -/
def tokVer : Verifying := ⟨false, ([1, 1, 0, 0] ++ List.replicate 32 0 ++ [1, 0, 0, 0] ++ imgOne ++ imgOne).map (BitVec.ofNat 8), 0, true⟩
def tokSt : State := [fun s => { s with sec.verifying := some tokVer }].foldl (fun s f => f s) imgSt
theorem tokSt_ok (hv : ∀ m x k, Config.ecdsaVerify m x k = true) : tokSt.tokenResult tokVer = 2 := by
  have h1 : tokVer.bytes.length = 104 := by decide +kernel
  have h2 : leValue ((tokVer.bytes.drop 4).take 16) = tokSt.otp.devId.toNat := by decide +kernel
  have h3 : leValue ((tokVer.bytes.drop 36).take 4) = 1 := by decide +kernel
  have h4 : tokSt.otp.activeKey 0 = some (List.replicate 64 1) := by decide +kernel
  have h5 : beValue ((tokVer.bytes.drop 40).take 32) = 1 := by decide +kernel
  have h6 : beValue ((tokVer.bytes.drop 40).drop 32) = 1 := by decide +kernel
  have b0 : tokVer.bytes[0]? = some 1 := by decide +kernel
  have b1 : tokVer.bytes[1]? = some 1 := by decide +kernel
  have b2 : tokVer.bytes[2]? = some 0 := by decide +kernel
  have b3 : tokVer.bytes[3]? = some 0 := by decide +kernel
  have h7 : tokSt.mode ≠ modeHoldup := by decide +kernel
  have h8 : tokSt.core.shipStep = 0 := by decide +kernel
  have h9 : tokSt.reg Reg.JRN_OPSEC = 0 := by decide +kernel
  have h10 : tokVer.nonceOk = true := rfl
  unfold State.tokenResult
  simp only [h1, h2, h3, h5, h6, b0, b1, b2, b3, h7, h8, h9, h10, sigOk, hv, Option.getD_some]
  simp [h4, p256Order]
/-- An event record of a severity at an instant, a capture and a frame of the partner. -/
def evr (sev tm : Nat) : EventRec := ⟨1, sev, 0, false, false, false, false, 0, 0, 0, 0, 0, 0, 0, tm⟩
def capt (m d : Bool) : Capture := ⟨m, 0, d, ⟨1, 1, 3, 2, 0, 0, 0, 0, 4, [], 0, 0, 0, [], []⟩⟩
def frm (ok : Bool) (l : List SyncRec) : TwinFrame :=
  ⟨ok, 1, 0, true, true, false, false, false, false, false, false, false, 0, 0, 0, 0, [], [], [], l⟩

theorem revert_some (s : State) (h1 : s.reg Reg.IMG_STAT_SLOT ≠ 3) (h2 : s.otherSlot = false) (h3 : s.checkSlot false true = .ok imgData)
    (h4 : imgData.ver < s.reg Reg.IMG_VER) : s.revertTarget.isSome = true := by
  unfold State.revertTarget
  rw [if_neg h1, h2, h3]
  simp [h4]

/-! The form of a command (WellFormed.lean): each check refuses a term that breaks it, and lets a good one pass. -/

def goodFrame : TwinFrame := { frm true (List.replicate 4 (.health 0 0 0 0 0)) with tags := List.replicate 8 0, duties := List.replicate 48 0, digest := List.replicate 28 0 }

theorem test_wf_warnPulse_edges_in_order : (Instr.warnPulse 9 0 5 4).wf = false ∧ (Instr.warnPulse 9 0 5 5).wf = true := by decide
theorem test_wf_warnPulse_not_ahead_of_time : (Instr.warnPulse 9 0 5 10).wf = false ∧ (Instr.warnPulse 9 0 5 9).wf = true := by decide
theorem test_wf_warnStuck : (Instr.warnStuck 9 0 10).wf = false ∧ (Instr.warnStuck 9 0 9).wf = true := by decide
theorem test_wf_mailboxRecord : (Instr.mailboxRecord 0 (List.replicate 15 0)).wf = false ∧ (Instr.mailboxRecord 0 (List.replicate 16 0)).wf = true := by decide
theorem test_wf_contractWrite : (Instr.contractWrite 0 (List.replicate 17 0)).wf = false ∧ (Instr.contractWrite 0 (List.replicate 16 0)).wf = true := by decide
theorem test_wf_uploadChunk : (Instr.uploadChunk 0 (List.replicate 127 0)).wf = false ∧ (Instr.uploadChunk 0 (List.replicate 128 0)).wf = true := by decide +kernel
theorem test_wf_frame_tags : (Instr.twinFrameReceive 0 { goodFrame with tags := [] }).wf = false ∧ (Instr.twinFrameReceive 0 goodFrame).wf = true := by decide +kernel
theorem test_wf_frame_duties : (Instr.twinFrameReceive 0 { goodFrame with duties := List.replicate 47 0 }).wf = false := by decide +kernel
theorem test_wf_frame_digest : (Instr.twinFrameReceive 0 { goodFrame with digest := List.replicate 29 0 }).wf = false := by decide +kernel
theorem test_wf_frame_records : (Instr.twinFrameReceive 0 { goodFrame with recs := [] }).wf = false := by decide +kernel
def meas : WheelMeas := ⟨50000, 50000, 0, none, 0, 0⟩
theorem test_wf_wheelPoint_rates : (Instr.wheelPoint 0 { meas with rate := 65536 }).wf = false ∧ (Instr.wheelPoint 0 { meas with fmains := 65536 }).wf = false ∧
    (Instr.wheelPoint 0 { meas with rate := 65535 }).wf = true := by decide
theorem test_wf_wheelPoint_error : (Instr.wheelPoint 0 { meas with perr := 32768 }).wf = false ∧ (Instr.wheelPoint 0 { meas with perr := -32769 }).wf = false ∧
    (Instr.wheelPoint 0 { meas with perr := 32767 }).wf = true := by decide
theorem test_wf_feedAReturn : (Instr.feedAReturn 0 32768).wf = false ∧ (Instr.feedAReturn 0 (-32769)).wf = false ∧ (Instr.feedAReturn 0 (-32768)).wf = true := by decide
theorem test_wf_registerWrite : (Instr.registerWrite 0 .h 0 []).wf = false ∧ (Instr.registerWrite 0 .h 0 [1]).wf = true := by decide
theorem test_wf_registerRead : (Instr.registerRead 0 .h none 0).wf = false ∧ (Instr.registerRead 0 .h none 1).wf = true := by decide
theorem test_wf_referenceInjection : (Instr.referenceInjection 0 256 0).wf = false ∧ (Instr.referenceInjection 0 255 0).wf = true := by decide

/-! The spec's check values and worked examples. -/

/-- R345: the check value of CRC-16 over the digits 1 to 9. -/
theorem test_crc16_check_value : crc16 ((List.range 9).map (fun i => 0x31 + i)) = 0x29B1 := by decide +kernel
/-- R402: the check value of the PEC over the same string. -/
theorem test_crc8_check_value : crc8 ((List.range 9).map (fun i => 0x31 + i)) = 0xF4 := by decide +kernel

/-- Bay 3 of Example A at 250 kHz: a period of 25,600 edges and an offset of 4,096. -/
def bay3 : State := st [wr Reg.GL_MODE modeRun, wrAt Reg.PH_BOFS 3 4096, fun s => s.setBay 3 { s.bay 3 with perLen := 25600 }]
/-- R82's worked example: the slots of six phases, in edge units: 250.00, 916.72, 1583.28, 2250.00, 2916.72 and 3583.28 ns. -/
theorem test_slots_of_six : (List.range 6).map (fun i => bay3.slotAt 3 i 6) = [1600, 5867, 10133, 14400, 18667, 22933] := by decide +kernel
/-- R82's worked example: the slots of the five phases left: 250, 1050, 1850, 2650 and 3450 ns. -/
theorem test_slots_of_five : (List.range 5).map (fun i => bay3.slotAt 3 i 5) = [1600, 6720, 11840, 16960, 22080] := by decide +kernel
/-- R82's worked example: the shifts of the five phases that stay, -400.00 ns the largest. -/
theorem test_respread_shifts : [(1600, 1600), (5867, 6720), (14400, 11840), (18667, 16960), (22933, 22080)].map
    (fun (p : Nat × Nat) => slotShift 0 25600 p.1 p.2) = [0, 853, -2560, -1707, -853] := by decide +kernel
/-- R170's worked example: 4,105 uA s, the last catching sample at 45 us. -/
theorem test_sag_books : let u := (st [wrAt Reg.FUS_ISCAL 10 1]).sagBook 2 ⟨0, 45 * edgeUs, 4105, 152000⟩
    u.regAt Reg.STP_SAGQ 2 = 4105 ∧ u.reg Reg.STP_SAGLAST = 50 := by decide +kernel
/-- No row of the command table gives bits, so no word spells a command. -/
theorem test_no_word_is_a_command : decodeTableWord 8 0 = none := by decide

/-! The hypotheses of the statements, clause by clause. -/

theorem test_hyps_StepTakesFront : ∃ s : State, s.pending = [] ∧ s.core.powered = true := ⟨up, by decide +kernel⟩
theorem test_hyps_StepKeepsForm : ∃ s u : State, step s = .next u ∧ s.storesWf = true ∧ s.vka.note.length = 64 :=
  ⟨{ up with pending := [.nonceExpiry 7] }, _, rfl, by decide +kernel, by decide +kernel⟩
theorem test_hyps_OtpIsPermanent : (∃ (s : State) (k : Fin 4), s.otp.keys[k].st = .revoked) ∧ (∃ (s : State) (k : Fin 4), s.otp.keys[k].st ≠ .empty) :=
  ⟨⟨st [fun s => { s with otp.keys := s.otp.keys.set 3 ⟨.revoked, []⟩ }], 3, by decide +kernel⟩,
   ⟨st [fun s => { s with otp.keys := s.otp.keys.set 0 ⟨.active, []⟩ }], 0, by decide +kernel⟩⟩
theorem test_hyps_CommandsAnswer : (∃ (c : Instr) (s : State), s.core.powered = false ∧ actsWithoutVdd c = false) ∧
    (∃ (c : Instr) (s : State), s.core.powered = true ∧ s.supUp = false ∧ hostWriteOf c = true) :=
  ⟨⟨.pin 0 0xA5, State.reset, by decide +kernel⟩, ⟨.pin 0 0xA5, st [fun s => { s with core.sup := .halted 0 }], by decide +kernel⟩⟩
theorem test_hyps_LockoutIsHeld :
    (∃ (c : Instr) (s : State), s.core.powered = true ∧ s.mode = modeLockout ∧ (∀ t, c ≠ .rstNAsserted t) ∧ (∀ t p, c ≠ .supplyLoss t p) ∧
      s.reg Reg.GL_MODE_CAUSE ∈ [0x0A, 0x0B, 0x10]) ∧
    (∃ (c : Instr) (s : State), s.core.powered = true ∧ s.mode = modeLockout ∧ (∀ t, c ≠ .rstNAsserted t) ∧ (∀ t p, c ≠ .supplyLoss t p) ∧
      ∀ t, c ≠ .resume t 0xA5) ∧
    (∃ (c : Instr) (s : State) (t : Edges), s.core.powered = true ∧ s.mode = modeLockout ∧ (∀ t, c ≠ .rstNAsserted t) ∧ (∀ t p, c ≠ .supplyLoss t p) ∧
      c = .resume t 0xA5) :=
  ⟨⟨.resume 0 0xA5, st [wr Reg.GL_MODE modeLockout, wr Reg.GL_MODE_CAUSE 0x10], by decide +kernel, by decide +kernel, fun _ => nofun, fun _ _ => nofun,
      by decide +kernel⟩,
   ⟨.resume 0 0xA4, st [wr Reg.GL_MODE modeLockout, wr Reg.GL_MODE_CAUSE 0x0C], by decide +kernel, by decide +kernel, fun _ => nofun, fun _ _ => nofun,
      fun _ h => absurd (Instr.resume.inj h).2 (by decide)⟩,
   ⟨.resume 0 0xA5, st [wr Reg.GL_MODE modeLockout, wr Reg.GL_MODE_CAUSE 0x0C], 0, by decide +kernel, by decide +kernel, fun _ => nofun, fun _ _ => nofun, rfl⟩⟩

theorem test_hyps_ClaimsAndCompletions :
    (∃ (s : State), ∃ i, s.core.powered = true ∧ icSource s.icTop = some i) ∧
    (∃ (s : State), s.core.powered = true ∧ s.icTop = 0) ∧
    (∃ (id : Byte) (s : State), ∃ i, s.up ∧ icSource id.toNat = some i ∧ s.ic.src[i] = .active ∧ s.icLevel i = false) ∧
    (∃ (id : Byte) (s : State), ∃ i, s.up ∧ icSource id.toNat = some i ∧ s.ic.src[i] = .active ∧ s.icLevel i = true ∧ s.regAt
      Reg.IC_HOLDOFF (icGroup i).val = 0) ∧
    (∃ (id : Byte) (s : State), ∃ i, s.up ∧ icSource id.toNat = some i ∧ s.ic.src[i] = .active ∧ s.icLevel i = true ∧ s.regAt
      Reg.IC_HOLDOFF (icGroup i).val ≠ 0) ∧
    (∃ (id : Byte) (s : State), s.up ∧ (∀ i, icSource id.toNat = some i → s.ic.src[i] ≠ .active)) :=
  ⟨⟨st [icPend 121], 121, by decide +kernel⟩,
   ⟨up, by decide +kernel⟩,
   ⟨122, st [icState 121 .active], 121, by unfold State.up; decide +kernel⟩,
   ⟨122, st [icState 121 .active, wr Reg.SEC_FLAGS_OTP 1], 121, by unfold State.up; decide +kernel⟩,
   ⟨1, st [icState 0 .active, wr Reg.FUS_FLAGS_TRIP 1, wrAt Reg.IC_HOLDOFF 0 1], 0, by unfold State.up; decide +kernel⟩,
   ⟨0x5A, up, by unfold State.up; decide +kernel⟩⟩
theorem test_hyps_ControllerTimers :
    (∃ (t : Edges) (s : State) (g : Fin 16) (due : Nat), s.core.powered = true ∧ s.ic.timer[g] = some due ∧ due ≤ max s.now t) ∧
    (∃ (t : Edges) (s : State), s.core.powered = true ∧ s.icSettled ∧ s.icTop ≠ 0 ∧ s.icTop = s.ic.top ∧ s.reg Reg.IC_RENOTIFY ≠ 0 ∧ s.reg
      Reg.H_CFG_HNEN ≠ 0 ∧ s.ic.topAt + s.reg Reg.IC_RENOTIFY * edgeMs ≤ max s.now t) ∧
    (∃ (t : Edges) (s : State) (id : Fin 128) (since : Nat), s.core.powered = true ∧ id ∈ icIds ∧ s.icSettled ∧ s.claimable id ∧
      s.ic.since[id] = some since ∧ s.ic.overdue[id] = false ∧ since + s.reg Reg.IC_AGEMAX * edgeMs ≤ max s.now t) ∧
    (∃ (s : State) (id : Fin 128), s.core.powered = true ∧ s.ic.overdue[id] = true) ∧
    (∃ (s : State), ∃ i, s.core.powered = true ∧ icSource s.icTop = some i) :=
  ⟨⟨7, st [fun s => { s with ic.timer := s.ic.timer.set 15 (some 7) }], 15, 7, by decide +kernel⟩,
   ⟨3 + 1 * edgeMs, st [wr Reg.IC_RENOTIFY 1, wr Reg.H_CFG_HNEN 1, fun s => { s with ic.topAt := 3 }, icPend 121, fun s =>
     { s with ic.top := s.icTop }], by unfold State.icSettled; decide +kernel⟩,
   ⟨7 + 2 * edgeMs, st [wr Reg.IC_AGEMAX 2, icPend 121, fun s => { s with ic.since := s.ic.since.set 121 (some 7) }], 121, 7,
     by unfold State.icSettled; decide +kernel⟩,
   ⟨st [fun s => { s with ic.overdue := s.ic.overdue.set 127 true }], 127, by decide +kernel⟩,
   ⟨st [icPend 0], 0, by decide +kernel⟩⟩
theorem test_hyps_FirstModeByTable :
    ∃ (s : State), s.core.powered = false ∧ s.otp.lifecycle < 4 :=
  ⟨st [fun s => { s with core.powered := false }], by decide +kernel⟩
theorem test_hyps_ShipMode :
    (∃ (s : State), s.vka.note.length = 64 ∧ s.inShip = true) ∧
    (∃ (s : State), s.vka.note.length = 64 ∧ s.inShip = false) ∧
    (∃ (s : State), s.up ∧ (s.mode = modeHoldup ∨ s.mode = modeShadow)) ∧
    (∃ (s : State), s.up ∧ (¬(s.mode = modeHoldup ∨ s.mode = modeShadow))) ∧
    (∃ (s : State), s.up ∧ s.core.shipStep = 2 ∧ s.wheel.running = true) ∧
    (∃ (s : State), s.up ∧ s.core.shipStep = 2 ∧ s.wheel.running = false) ∧
    (∃ (t : Edges) (s : State), s.up ∧ s.core.shipStep = 5 ∧ s.core.sealAt + 2 * edgeSec ≤ max s.now t ∧ s.mode ≠ modeLockout) :=
  ⟨⟨st [fun s => { s with core.powered := false, vka.armed := true }], by decide +kernel⟩,
   ⟨up, by decide +kernel⟩,
   ⟨st [wr Reg.GL_MODE modeHoldup], by unfold State.up; decide +kernel⟩,
   ⟨up, by unfold State.up; decide +kernel⟩,
   ⟨st [fun s => { s with core.shipStep := 2, wheel.running := true }], by unfold State.up; decide +kernel⟩,
   ⟨st [fun s => { s with core.shipStep := 2, wheel.running := false }], by unfold State.up; decide +kernel⟩,
   ⟨3 + 2 * edgeSec, st [wr Reg.GL_MODE modeRun, fun s => { s with core.shipStep := 5, core.sealAt := 3 }],
     by unfold State.up; decide +kernel⟩⟩
theorem test_hyps_ClocksAndTime :
    (∃ (s : State), s.core.powered = true ∧ (s.mode = modeRun ∨ s.mode = modeHoldup) ∧ s.paired = false ∧ s.reg Reg.IMG_STAT_PROB ≠ 1) ∧
    (∃ (s : State), s.core.powered = true ∧ s.reg Reg.GL_STAT_XTALOK = 0 ∧ s.core.xtalSince = none) ∧
    (∃ (t : Edges) (s : State), ∃ since, s.core.powered = true ∧ s.reg Reg.GL_STAT_XTALOK = 0 ∧ s.core.xtalSince = some since ∧ since + 100
      * edgeMs ≤ max s.now t) ∧
    (∃ (t : Edges) (s : State), ∃ since, s.core.powered = true ∧ s.core.xtalSince = some since ∧ max s.now t < since + 100 * edgeMs) ∧
    (∃ (t : Edges) (s : State), s.core.powered = true ∧ s.core.secAt + edgeSec ≤ max s.now t) ∧
    (∃ (t : Edges) (s : State), s.core.powered = true ∧ max s.now t < s.core.secAt + edgeSec) :=
  ⟨⟨st [wr Reg.GL_MODE modeRun, wr Reg.TWN_CFG_EN 0, wr Reg.IMG_STAT_PROB 0], by decide +kernel⟩,
   ⟨st [wr Reg.GL_STAT_XTALOK 0, fun s => { s with core.xtalSince := none }], by decide +kernel⟩,
   ⟨7 + 100 * edgeMs, st [wr Reg.GL_STAT_XTALOK 0, fun s => { s with core.xtalSince := some 7 }], 7, by decide +kernel⟩,
   ⟨(7 + 100 * edgeMs) - 1, st [fun s => { s with core.xtalSince := some 7 }], 7, by decide +kernel⟩,
   ⟨3 + edgeSec, st [fun s => { s with core.secAt := 3 }], by decide +kernel⟩,
   ⟨(3 + edgeSec) - 1, st [fun s => { s with core.secAt := 3 }], by decide +kernel⟩⟩
theorem test_hyps_SupervisorRestarts :
    (∃ (s : State), s.core.powered = true ∧ s.supUp = true) ∧
    (∃ (s : State), ∃ since, s.core.powered = true ∧ s.core.sup = .restarting since) :=
  ⟨⟨up, by decide +kernel⟩,
   ⟨st [fun s => { s with core.sup := .restarting 7 }], 7, by decide +kernel⟩⟩
theorem test_hyps_ModeCommands :
    (∃ (s : State) (k : Byte), s.up ∧ k ≠ 0xA5) ∧
    (∃ (s : State), s.up ∧ s.mode = modeLockout) ∧
    (∃ (s : State), s.up ∧ s.mode ≠ modeLockout ∧ s.core.load.isSome = true) ∧
    (∃ (s : State), s.up ∧ s.mode = modeHoldup ∧ s.core.load = none) ∧
    (∃ (s : State), s.up ∧ (s.mode = modeTadpole ∨ s.mode = modeShadow) ∧ s.core.load = none) ∧
    (∃ (s : State), s.up ∧ (s.mode = modeTadpole ∨ s.mode = modeRun ∨ s.mode = modeShadow) ∧ s.core.load = none ∧ s.imgValid = false) ∧
    ((∀ m x k, Config.ecdsaVerify m x k = true) → ∃ (s : State), s.up ∧ s.mode = modeRun ∧ s.core.load = none ∧ s.imgValid = true ∧
      s.revertTarget.isSome = true) ∧
    (∃ (s : State), s.up ∧ s.mode = modeLockout ∧ (s.reg Reg.GL_MODE_CAUSE = 0x0C ∨ s.reg Reg.GL_MODE_CAUSE = 0x11)) ∧
    (∃ (s : State), s.up ∧ (¬(s.mode = modeLockout ∧ (s.reg Reg.GL_MODE_CAUSE = 0x0C ∨ s.reg Reg.GL_MODE_CAUSE = 0x11)))) :=
  ⟨⟨up, 0x5A, by unfold State.up; decide +kernel⟩,
   ⟨st [wr Reg.GL_MODE modeLockout], by unfold State.up; decide +kernel⟩,
   ⟨st [wr Reg.GL_MODE modeRun, fun s => { s with core.load := some ⟨.reload, 0, true, 1⟩ }], by unfold State.up; decide +kernel⟩,
   ⟨st [wr Reg.GL_MODE modeHoldup, fun s => { s with core.load := none }], by unfold State.up; decide +kernel⟩,
   ⟨st [wr Reg.GL_MODE modeTadpole, fun s => { s with core.load := none }], by unfold State.up; decide +kernel⟩,
   ⟨st [wr Reg.GL_MODE modeTadpole, wr Reg.GL_STAT_IMGVALID 0, fun s => { s with core.load := none }], by unfold State.up; decide +kernel⟩,
   fun hv => ⟨imgRev, by unfold State.up; decide +kernel, by decide +kernel, by decide +kernel, by decide +kernel, revert_some imgRev
     (by decide +kernel) (by decide +kernel) (imgSt_ok hv true imgRev (by decide +kernel) (by decide +kernel) (by decide +kernel)
     (by decide +kernel)) (by decide +kernel)⟩,
   ⟨st [wr Reg.GL_MODE modeLockout, wr Reg.GL_MODE_CAUSE 12], by unfold State.up; decide +kernel⟩,
   ⟨up, by unfold State.up; decide +kernel⟩⟩
theorem test_hyps_WheelReference :
    (∃ (s : State), s.core.powered = true ∧ s.wheel.running = true ∧ (s.whl = whlFree ∨ s.whl = whlFly)) ∧
    (∃ (s : State), s.core.powered = true ∧ s.wheel.running = true ∧ (s.whl = whlAcquire ∨ s.whl = whlLocked)) ∧
    (∃ (s : State), s.core.powered = true ∧ s.wheel.running = true ∧ s.whl = whlAcquire) ∧
    (∃ (t : Edges) (s : State), ∃ b, s.core.powered = true ∧ s.wheel.running = true ∧ s.whl = whlLocked ∧ (s.at t).mayCarry b = true) ∧
    (∃ (t : Edges) (s : State), ∃ b, s.core.powered = true ∧ s.wheel.running = true ∧ s.whl = whlLocked ∧ (s.at t).mayCarry b = false) :=
  ⟨⟨st [wr Reg.WHL_STAT_STATE whlFree, fun s => { s with wheel.running := true }], by decide +kernel⟩,
   ⟨st [wr Reg.WHL_STAT_STATE whlAcquire, fun s => { s with wheel.running := true }], by decide +kernel⟩,
   ⟨st [wr Reg.WHL_STAT_STATE whlAcquire, fun s => { s with wheel.running := true }], by decide +kernel⟩,
   ⟨60 * edgeSec, st [wr Reg.WHL_STAT_STATE whlLocked, fun s => { s with wheel.running := true }, wr Reg.WHL_CFG_BCARRY 1, wr
     Reg.WHL_STAT_REF 0, fun s => { s with wheel.bofsAt := some 0 }], true, by decide +kernel⟩,
   ⟨0, st [wr Reg.WHL_STAT_STATE whlLocked, fun s => { s with wheel.running := true }], 0, by decide +kernel⟩⟩
theorem test_hyps_WheelLocks :
    (∃ (t : Edges) (s : State), s.core.powered = true ∧ s.wheel.running = true ∧ s.whl = whlAcquire ∧ s.reg Reg.WHL_FMAINS ≠ 0 ∧ 600 *
      edgeSec ≤ s.reg Reg.WHL_FMAINS * (max s.now t - s.wheel.acqAt)) ∧
    (∃ (s : State), s.core.powered = true ∧ s.wheel.running = true ∧ s.whl = whlLocked ∧ 1820 < (s.sreg Reg.WHL_PERR).natAbs) ∧
    (∃ (s : State), s.core.powered = true ∧ s.wheel.running = true ∧ (s.whl ≠ whlLocked ∨ (s.sreg Reg.WHL_PERR).natAbs ≤ 1820)) ∧
    (∃ (s : State), s.core.powered = true ∧ s.wheel.running = true ∧ s.whl = whlLocked ∧ s.reg Reg.WHL_STAT_REF ≠ 0) :=
  ⟨⟨600 * edgeSec / 50000, st [wr Reg.WHL_FMAINS 50000, wr Reg.WHL_STAT_STATE whlAcquire, fun s => { s with wheel.running := true }],
     by decide +kernel⟩,
   ⟨st [wr Reg.WHL_STAT_STATE whlLocked, fun s => { s with wheel.running := true }, wr Reg.WHL_PERR 1821], by decide +kernel⟩,
   ⟨st [fun s => { s with wheel.running := true }], by decide +kernel⟩,
   ⟨st [wr Reg.WHL_STAT_STATE whlLocked, wr Reg.WHL_STAT_REF 1, fun s => { s with wheel.running := true }], by decide +kernel⟩⟩
theorem test_hyps_WheelPoints :
    (∃ (s : State), s.core.powered = true ∧ s.wheel.running = false) ∧
    (∃ (s : State), s.core.powered = true ∧ s.wheel.running = true ∧ s.supUp = false) :=
  ⟨⟨st [fun s => { s with wheel.running := false }], by decide +kernel⟩,
   ⟨st [fun s => { s with wheel.running := true }, fun s => { s with core.sup := .restarting 0 }], by decide +kernel⟩⟩
theorem test_hyps_CalendarEntryRuns :
    (∃ (t : Edges) (e : Fin 256) (p : Nat) (s : State), s.core.powered = true ∧ s.wheel.running = true ∧ s.wheel.due = [(e.val, p)] ∧
      s.wheel.gathered = (s.at t).wheelPos ∧ s.supUp = false) ∧
    (∃ (t : Edges) (e : Fin 256) (p : Nat) (s : State), s.core.powered = true ∧ s.wheel.running = true ∧ s.wheel.due = [(e.val, p)] ∧
      s.wheel.gathered = (s.at t).wheelPos ∧ s.supUp = true ∧ (s.cal e.val).action = 2) ∧
    (∃ (t : Edges) (e : Fin 256) (p : Nat) (s : State), s.core.powered = true ∧ s.wheel.running = true ∧ s.wheel.due = [(e.val, p)] ∧
      s.wheel.gathered = (s.at t).wheelPos ∧ s.supUp = true ∧ (s.cal e.val).action = 4) :=
  ⟨⟨0, 255, 7, st [fun s => { s with wheel.running := true, wheel.due := [(255, 7)] }, fun s => { s with wheel.gathered := s.wheelPos },
     fun s => { s with core.sup := .restarting 0 }], by decide +kernel⟩,
   ⟨0, 255, 7, st [fun s => { s with wheel.running := true, wheel.due := [(255, 7)] }, wrAt Reg.WHL_CAL_ENT 255 (2 * 65536), fun s =>
     { s with wheel.gathered := s.wheelPos }], by decide +kernel⟩,
   ⟨0, 255, 7, st [fun s => { s with wheel.running := true, wheel.due := [(255, 7)] }, wrAt Reg.WHL_CAL_ENT 255 (4 * 65536), fun s =>
     { s with wheel.gathered := s.wheelPos }], by decide +kernel⟩⟩
theorem test_hyps_SamplesAndPeriods :
    (∃ (n : Chan) (code : Code) (s : State), s.core.powered = true ∧ s.conducts n = true ∧ code ≠ 0 ∧ code ≠ 0xFFFF ∧ s.reg Reg.PH_DIDT =
      0xFFFF) ∧
    (∃ (n : Chan) (s : State), s.core.powered = true ∧ (s.pst n = phAbsent ∨ s.pst n = phFault)) ∧
    (∃ (n : Chan) (s : State), s.core.powered = true ∧ s.pst n = phNew) ∧
    (∃ (n : Chan) (code : Code) (s : State), s.core.powered = true ∧ s.conducts n = true ∧ (code = 0 ∨ code = 0xFFFF) ∧ (s.ph n).rail = 7) ∧
    (∃ (b : Bay) (s : State), s.core.powered = true ∧ s.core.load = none ∧ s.mode = modeTadpole ∧ (s.bay b).frac = 0) ∧
    (∃ (b : Bay) (s : State), s.core.powered = true ∧ s.core.load = none ∧ s.mode ≠ modeTadpole ∧ s.regAt Reg.PH_FREQ b ≠ 0 ∧ (s.bay
      b).frac < s.regAt Reg.PH_FREQ b) ∧
    (∃ (s : State), s.core.powered = true ∧ s.core.load = none ∧ s.mode = modeLockout) :=
  ⟨⟨47, 0x8000, st [wrAt Reg.PH_PSTAT_STATE 47 phCond, wr Reg.PH_DIDT 65535], by decide +kernel⟩,
   ⟨47, st [wrAt Reg.PH_PSTAT_STATE 47 phAbsent], by decide +kernel⟩,
   ⟨47, st [wrAt Reg.PH_PSTAT_STATE 47 phNew], by decide +kernel⟩,
   ⟨47, 0, st [wrAt Reg.PH_PSTAT_STATE 47 phCond, fun s => s.setPh 47 { s.ph 47 with rail := 7 }], by decide +kernel⟩,
   ⟨7, st [wr Reg.GL_MODE modeTadpole, fun s => { s with core.load := none }, fun s => s.setBay 7 { s.bay 7 with frac := 0 }],
     by decide +kernel⟩,
   ⟨7, st [wr Reg.GL_MODE modeRun, wrAt Reg.PH_FREQ 7 1, fun s => { s with core.load := none }], by decide +kernel⟩,
   ⟨st [wr Reg.GL_MODE modeLockout, fun s => { s with core.load := none }], by decide +kernel⟩⟩
theorem test_hyps_NewPhasesAndTrims :
    (∃ (n : Chan) (s : State), s.core.powered = true ∧ s.pst n = phNew ∧ 256 ≤ (s.ph n).newN ∧ (s.ph n).discard = false ∧ s.bst (n / 6) ≠
      bayInrush ∧ s.bst (n / 6) ≠ bayPfc ∧ s.offsetBad ((s.ph n).newSum / 256) = false) ∧
    (∃ (n : Chan) (s : State), s.core.powered = true ∧ s.pst n = phNew ∧ 256 ≤ (s.ph n).newN ∧ (s.ph n).discard = false ∧ s.bst (n / 6) ≠
      bayInrush ∧ s.bst (n / 6) ≠ bayPfc ∧ s.offsetBad ((s.ph n).newSum / 256) = true) ∧
    (∃ (n : Chan) (s : State), s.core.powered = true ∧ (s.pst n ≠ phNew ∨ (s.ph n).newN < 256)) ∧
    (∃ (s : State) (k : Byte), s.core.powered = true ∧ s.supUp = true ∧ k ≠ 0xA5) ∧
    (∃ (n : Chan) (s : State), s.core.powered = true ∧ s.supUp = true ∧ (s.pst n = phWarm ∨ s.pst n = phFault)) ∧
    (∃ (n : Chan) (s : State), s.core.powered = true ∧ s.supUp = true ∧ s.conducts n = true) ∧
    (∃ (t : Edges) (s : State) (b : Bay) (d : Nat), s.core.powered = true ∧ (s.bay b).dwellAt = some d ∧ d + s.reg Reg.PH_DWELL * edgeMs ≤
      max s.now t) ∧
    (∃ (t : Edges) (s : State) (b : Bay) (d : Nat), s.core.powered = true ∧ (s.bay b).dwellAt = some d ∧ max s.now t < d + s.reg
      Reg.PH_DWELL * edgeMs) :=
  ⟨⟨47, st [wrAt Reg.PH_PSTAT_STATE 47 phNew, wrAt Reg.SHR_BAYST (47 / 6) bayActive, fun s => s.setPh 47
     { s.ph 47 with newN := 256, discard := false }, wr Reg.PH_IZNOM 1, wr Reg.PH_IZWIN 1], by decide +kernel⟩,
   ⟨47, st [wrAt Reg.PH_PSTAT_STATE 47 phNew, wrAt Reg.SHR_BAYST (47 / 6) bayActive, fun s => s.setPh 47
     { s.ph 47 with newN := 256, discard := false }], by decide +kernel⟩,
   ⟨47, st [wrAt Reg.PH_PSTAT_STATE 47 phWarm], by decide +kernel⟩,
   ⟨up, 0x5A, by decide +kernel⟩,
   ⟨47, st [wrAt Reg.PH_PSTAT_STATE 47 phWarm], by decide +kernel⟩,
   ⟨47, st [wrAt Reg.PH_PSTAT_STATE 47 phCond], by decide +kernel⟩,
   ⟨7 + 2 * edgeMs, st [wr Reg.PH_DWELL 2, fun s => s.setBay 7 { s.bay 7 with dwellAt := some 7 }], 7, 7, by decide +kernel⟩,
   ⟨(7 + 2 * edgeMs) - 1, st [wr Reg.PH_DWELL 2, fun s => s.setBay 7 { s.bay 7 with dwellAt := some 7 }], 7, 7, by decide +kernel⟩⟩
theorem test_hyps_LoopTriggerComputes :
    (∃ (b : Bay) (s : State), s.core.powered = true ∧ (s.regAt Reg.LE_STAT_OVR b = 1 ∨ s.overridden b = true)) ∧
    (∃ (b : Bay) (s : State), s.core.powered = true ∧ s.regAt Reg.LE_STAT_OVR b ≠ 1 ∧ s.overridden b = false) :=
  ⟨⟨7, st [wrAt Reg.LE_STAT_OVR 7 1], by decide +kernel⟩,
   ⟨7, st [wrAt Reg.LE_STAT_OVR 7 0, wr Reg.GL_MODE modeRun, wr Reg.GL_STAT_GECKO 0, wrAt Reg.PH_PSTAT_STATE 47 phCond, wrAt Reg.SHR_BAYST
     7 bayActive], by decide +kernel⟩⟩
theorem test_hyps_ErrorBand :
    (∃ (b : Bay) (code : Code) (s : State), s.core.powered = true ∧ (s.reg Reg.PH_EBAND = 0xFFFF ∨ s.regAt Reg.LE_STAT_OVR b = 1 ∨
      ((s.regAt Reg.LE_VREF b : Int) - s.voutMv b code.toNat).natAbs ≤ s.reg Reg.PH_EBAND)) ∧
    (∃ (b : Bay) (code : Code) (s : State), s.core.powered = true ∧ s.reg Reg.PH_EBAND ≠ 0xFFFF ∧ s.regAt Reg.LE_STAT_OVR b = 0 ∧ s.reg
      Reg.PH_EBAND < ((s.regAt Reg.LE_VREF b : Int) - s.voutMv b code.toNat).natAbs) :=
  ⟨⟨7, 0x8000, st [wr Reg.PH_EBAND 65535], by decide +kernel⟩,
   ⟨7, 0x8000, st [wr Reg.PH_EBAND 5, wrAt Reg.LE_STAT_OVR 7 0], by decide +kernel⟩⟩
theorem test_hyps_LoopCommitsAndRegions :
    (∃ (s : State), s.core.powered = true ∧ s.supUp = true) ∧
    (∃ (t : Edges) (b : Bay) (s : State), ∃ since, ∃ hi, s.core.powered = true ∧ (s.bay b).lane.satAt = some (since, hi) ∧ (s.bay
      b).lane.satTold = false ∧ since + edgeMs ≤ max s.now t) ∧
    (∃ (t : Edges) (b : Bay) (s : State), ∃ since, ∃ hi, s.core.powered = true ∧ (s.bay b).lane.satAt = some (since, hi) ∧ ((s.bay
      b).lane.satTold = true ∨ max s.now t < since + edgeMs)) ∧
    (∃ (b : Bay) (s : State), ∃ idx, ∃ n, s.core.powered = true ∧ (s.bay b).lane.down = some (idx, n) ∧ s.mode ≠ modeTadpole ∧ s.regAt
      Reg.LE_RDWELL b ≤ n ∧ idx < 64) ∧
    (∃ (b : Bay) (s : State), ∃ idx, ∃ n, s.core.powered = true ∧ (s.bay b).lane.down = some (idx, n) ∧ (s.mode = modeTadpole ∨ n < s.regAt
      Reg.LE_RDWELL b)) :=
  ⟨⟨up, by decide +kernel⟩,
   ⟨7 + edgeMs, 7, st [fun s => s.setBay 7 { s.bay 7 with lane.satAt := some (7, true), lane.satTold := false }], 7, true,
     by decide +kernel⟩,
   ⟨0, 7, st [fun s => s.setBay 7 { s.bay 7 with lane.satAt := some (7, true), lane.satTold := true }], 7, true, by decide +kernel⟩,
   ⟨7, st [wrAt Reg.LE_RDWELL 7 9, wr Reg.GL_MODE modeRun, fun s => s.setBay 7 { s.bay 7 with lane.down := some (63, 9) }], 63, 9,
     by decide +kernel⟩,
   ⟨7, st [wr Reg.GL_MODE modeTadpole, fun s => s.setBay 7 { s.bay 7 with lane.down := some (63, 9) }], 63, 9, by decide +kernel⟩⟩
theorem test_hyps_FollowingErrors :
    (∃ (b : Bay) (s : State), s.core.powered = true ∧ (s.regAt Reg.LE_STAT_FEACT b = 0 ∧ s.regAt Reg.LE_STAT_OVR b = 0 ∧ s.regAt
      Reg.LE_FECTL_EN b = 1 ∧ 0 < s.regAt Reg.LE_FECNT b ∧ s.regAt Reg.LE_FETIME b * 640000 ≤ s.regAt Reg.LE_FECNT b * max 1 (s.bay
      b).perLen) ∧ s.regAt Reg.LE_FECTL_ACTION b = 0) ∧
    (∃ (b : Bay) (s : State), s.core.powered = true ∧ (s.regAt Reg.LE_STAT_FEACT b = 0 ∧ s.regAt Reg.LE_STAT_OVR b = 0 ∧ s.regAt
      Reg.LE_FECTL_EN b = 1 ∧ 0 < s.regAt Reg.LE_FECNT b ∧ s.regAt Reg.LE_FETIME b * 640000 ≤ s.regAt Reg.LE_FECNT b * max 1 (s.bay
      b).perLen) ∧ s.regAt Reg.LE_FECTL_ACTION b = 1) ∧
    (∃ (b : Bay) (s : State), s.core.powered = true ∧ (¬(s.regAt Reg.LE_STAT_FEACT b = 0 ∧ s.regAt Reg.LE_STAT_OVR b = 0 ∧ s.regAt
      Reg.LE_FECTL_EN b = 1 ∧ 0 < s.regAt Reg.LE_FECNT b ∧ s.regAt Reg.LE_FETIME b * 640000 ≤ s.regAt Reg.LE_FECNT b * max 1 (s.bay
      b).perLen))) ∧
    (∃ (t : Edges) (b : Bay) (s : State), ∃ since, s.core.powered = true ∧ s.regAt Reg.LE_STAT_FEACT b = 1 ∧ (s.bay b).feFault = false ∧
      (s.bay b).lane.feOk = some since ∧ since + s.regAt Reg.LE_FETIME b * 640000 ≤ max s.now t) ∧
    (∃ (s : State) (k : Byte), s.core.powered = true ∧ s.supUp = true ∧ k ≠ 0xA5) ∧
    (∃ (b : Bay) (s : State), s.core.powered = true ∧ s.supUp = true ∧ (s.bay b).feFault = true ∧ (s.bst b ≠ bayFault ∨ s.mode =
      modeLockout)) ∧
    (∃ (b : Bay) (s : State), s.core.powered = true ∧ s.supUp = true ∧ (s.bay b).feFault = true ∧ s.bst b = bayFault ∧ s.mode ≠
      modeLockout) :=
  ⟨⟨7, st [wrAt Reg.LE_FECNT 7 2, wrAt Reg.LE_FETIME 7 0, wrAt Reg.LE_STAT_FEACT 7 0, wrAt Reg.LE_STAT_OVR 7 0, wrAt Reg.LE_FECTL_EN 7 1,
     wrAt Reg.LE_FECTL_ACTION 7 0], by decide +kernel⟩,
   ⟨7, st [wrAt Reg.LE_FECNT 7 2, wrAt Reg.LE_FETIME 7 0, wrAt Reg.LE_STAT_FEACT 7 0, wrAt Reg.LE_STAT_OVR 7 0, wrAt Reg.LE_FECTL_EN 7 1,
     wrAt Reg.LE_FECTL_ACTION 7 1], by decide +kernel⟩,
   ⟨7, up, by decide +kernel⟩,
   ⟨7 + 2 * 640000, 7, st [wrAt Reg.LE_STAT_FEACT 7 1, wrAt Reg.LE_FETIME 7 2, fun s => s.setBay 7
     { s.bay 7 with feFault := false, lane.feOk := some 7 }], 7, by decide +kernel⟩,
   ⟨up, 0x5A, by decide +kernel⟩,
   ⟨7, st [wrAt Reg.SHR_BAYST 7 bayActive, fun s => s.setBay 7 { s.bay 7 with feFault := true }], by decide +kernel⟩,
   ⟨7, st [wrAt Reg.SHR_BAYST 7 bayFault, wr Reg.GL_MODE modeRun, fun s => s.setBay 7 { s.bay 7 with feFault := true }], by decide +kernel⟩⟩
theorem test_hyps_SetPoint :
    (∃ (seq : Byte) (s : State), s.up ∧ seq = 0) ∧
    (∃ (seq : Byte) (s : State), s.up ∧ seq ≠ 0 ∧ ((s.mode = modeTadpole ∨ s.mode = modeShadow ∨ s.mode = modeLockout))) ∧
    (∃ (seq : Byte) (s : State), s.up ∧ seq ≠ 0 ∧ (¬(s.mode = modeTadpole ∨ s.mode = modeShadow ∨ s.mode = modeLockout)) ∧ s.reg
      Reg.TRK_CTL_VPOL = 1) ∧
    (∃ (target : Code) (seq : Byte) (s : State), s.up ∧ seq ≠ 0 ∧ (¬(s.mode = modeTadpole ∨ s.mode = modeShadow ∨ s.mode = modeLockout)) ∧
      s.reg Reg.TRK_CTL_VPOL ≠ 1 ∧ (target.toNat < 4400 ∨ 5800 < target.toNat)) ∧
    (∃ (target : Code) (rate : Code) (seq : Byte) (s : State), s.up ∧ seq ≠ 0 ∧ (¬(s.mode = modeTadpole ∨ s.mode = modeShadow ∨ s.mode =
      modeLockout)) ∧ s.reg Reg.TRK_CTL_VPOL ≠ 1 ∧ 4400 ≤ target.toNat ∧ target.toNat ≤ 5800 ∧ (rate.toNat < 10 ∨ 2000 < rate.toNat)) ∧
    (∃ (target : Code) (rate : Code) (seq : Byte) (s : State), s.up ∧ seq ≠ 0 ∧ (¬(s.mode = modeTadpole ∨ s.mode = modeShadow ∨ s.mode =
      modeLockout)) ∧ s.reg Reg.TRK_CTL_VPOL ≠ 1 ∧ 4400 ≤ target.toNat ∧ target.toNat ≤ 5800 ∧ 10 ≤ rate.toNat ∧ rate.toNat ≤ 2000 ∧
      seq.toNat = s.reg Reg.SHR_SPSEQ) ∧
    (∃ (target : Code) (rate : Code) (seq : Byte) (s : State), s.up ∧ seq ≠ 0 ∧ (¬(s.mode = modeTadpole ∨ s.mode = modeShadow ∨ s.mode =
      modeLockout)) ∧ s.reg Reg.TRK_CTL_VPOL ≠ 1 ∧ 4400 ≤ target.toNat ∧ target.toNat ≤ 5800 ∧ 10 ≤ rate.toNat ∧ rate.toNat ≤ 2000 ∧
      seq.toNat ≠ s.reg Reg.SHR_SPSEQ ∧ s.mode = modeHoldup) ∧
    (∃ (target : Code) (rate : Code) (seq : Byte) (s : State), s.up ∧ seq ≠ 0 ∧ (¬(s.mode = modeTadpole ∨ s.mode = modeShadow ∨ s.mode =
      modeLockout)) ∧ s.reg Reg.TRK_CTL_VPOL ≠ 1 ∧ 4400 ≤ target.toNat ∧ target.toNat ≤ 5800 ∧ 10 ≤ rate.toNat ∧ rate.toNat ≤ 2000 ∧
      seq.toNat ≠ s.reg Reg.SHR_SPSEQ ∧ s.mode ≠ modeHoldup) ∧
    (∃ (s : State), s.core.powered = true ∧ (s.supUp = false ∨ s.sup.mover = .none)) ∧
    (∃ (s : State), s.core.powered = true ∧ s.supUp = true ∧ (s.sup.mover = .host ∨ s.sup.mover = .own ∨ s.sup.mover = .walk)) :=
  ⟨⟨0, up, by unfold State.up; decide +kernel⟩,
   ⟨0x5A, st [wr Reg.GL_MODE modeTadpole], by unfold State.up; decide +kernel⟩,
   ⟨0x5A, st [wr Reg.TRK_CTL_VPOL 1, wr Reg.GL_MODE modeRun], by unfold State.up; decide +kernel⟩,
   ⟨5801, 0x5A, st [wr Reg.TRK_CTL_VPOL 0, wr Reg.GL_MODE modeRun], by unfold State.up; decide +kernel⟩,
   ⟨4400, 9, 0x5A, st [wr Reg.TRK_CTL_VPOL 0, wr Reg.GL_MODE modeRun], by unfold State.up; decide +kernel⟩,
   ⟨5800, 2000, 255, st [wr Reg.TRK_CTL_VPOL 0, wr Reg.GL_MODE modeRun, wr Reg.SHR_SPSEQ 255], by unfold State.up; decide +kernel⟩,
   ⟨5800, 2000, 255, st [wr Reg.TRK_CTL_VPOL 0, wr Reg.GL_MODE modeHoldup], by unfold State.up; decide +kernel⟩,
   ⟨4400, 10, 1, st [wr Reg.TRK_CTL_VPOL 0, wr Reg.GL_MODE modeRun], by unfold State.up; decide +kernel⟩,
   ⟨st [fun s => { s with core.sup := .restarting 0 }], by decide +kernel⟩,
   ⟨st [fun s => { s with sup.mover := .host }], by decide +kernel⟩⟩
theorem test_hyps_BayInsertion :
    (∃ (b : Bay) (s : State), ∃ l, s.core.powered = true ∧ (s.bay b).pres = l) ∧
    (∃ (b : Bay) (s : State), s.core.powered = true ∧ (s.bay b).pres = false ∧ s.fst b ≠ fusLatched) ∧
    (∃ (t : Edges) (b : Bay) (s : State), ∃ d, s.core.powered = true ∧ (s.bay b).pres = true ∧ s.bst b = bayAbsent ∧ (s.bay b).debAt = some
      d ∧ max s.now t < d + (s.at t).presDebounce) ∧
    (∃ (t : Edges) (b : Bay) (s : State), ∃ d, s.core.powered = true ∧ (s.bay b).pres = true ∧ s.bst b = bayAbsent ∧ (s.bay b).debAt = some
      d ∧ d + (s.at t).presDebounce ≤ max s.now t ∧ s.mode = modeLockout) ∧
    (∃ (t : Edges) (b : Bay) (s : State), ∃ d, s.core.powered = true ∧ (s.bay b).pres = true ∧ s.bst b = bayAbsent ∧ (s.bay b).debAt = some
      d ∧ d + (s.at t).presDebounce ≤ max s.now t ∧ s.mode ≠ modeLockout ∧ (s.bay b).ok = false) ∧
    (∃ (b : Bay) (s : State), s.core.powered = true ∧ s.bst b = bayPfc ∧ (s.bay b).enLow = false ∧ s.mode ≠ modeLockout ∧ s.fusFull b =
      false ∧ s.pg b = false) ∧
    (∃ (b : Bay) (s : State), s.core.powered = true ∧ (s.bst b ≠ bayPfc ∨ (s.bay b).enLow = true ∨ s.mode = modeLockout)) ∧
    (∃ (t : Edges) (b : Bay) (s : State), ∃ d, s.core.powered = true ∧ s.bst b = bayPfc ∧ (s.bay b).ok = false ∧ (s.bay b).okFrom = some d
      ∧ d + s.reg Reg.SHR_OKTIME * edgeMs ≤ max s.now t) ∧
    (∃ (t : Edges) (b : Bay) (s : State), ∃ d, s.core.powered = true ∧ s.bst b = bayPfc ∧ (s.bay b).ok = false ∧ (s.bay b).okFrom = some d
      ∧ max s.now t < d + s.reg Reg.SHR_OKTIME * edgeMs) :=
  ⟨⟨7, st [fun s => s.setBay 7 { s.bay 7 with pres := true }], true, by decide +kernel⟩,
   ⟨7, st [fun s => s.setBay 7 { s.bay 7 with pres := false }], by decide +kernel⟩,
   ⟨up.presDebounce + 6, 7, st [wrAt Reg.SHR_BAYST 7 bayAbsent, fun s => s.setBay 7 { s.bay 7 with pres := true, debAt := some 7 }], 7,
     by decide +kernel⟩,
   ⟨up.presDebounce + 7, 7, st [wrAt Reg.SHR_BAYST 7 bayAbsent, wr Reg.GL_MODE modeLockout, fun s => s.setBay 7
     { s.bay 7 with pres := true, debAt := some 7 }], 7, by decide +kernel⟩,
   ⟨up.presDebounce + 7, 7, st [wrAt Reg.SHR_BAYST 7 bayAbsent, wr Reg.GL_MODE modeRun, fun s => s.setBay 7
     { s.bay 7 with pres := true, debAt := some 7, ok := false }], 7, by decide +kernel⟩,
   ⟨7, st [wrAt Reg.SHR_BAYST 7 bayPfc, wr Reg.GL_MODE modeRun, wrAt Reg.FUS_ST 7 fusOff, fun s => s.setBay 7
     { s.bay 7 with enLow := false }], by decide +kernel⟩,
   ⟨7, st [wrAt Reg.SHR_BAYST 7 bayActive], by decide +kernel⟩,
   ⟨7 + 2 * edgeMs, 7, st [wrAt Reg.SHR_BAYST 7 bayPfc, wr Reg.SHR_OKTIME 2, fun s => s.setBay 7
     { s.bay 7 with ok := false, okFrom := some 7 }], 7, by decide +kernel⟩,
   ⟨(7 + 2 * edgeMs) - 1, 7, st [wrAt Reg.SHR_BAYST 7 bayPfc, wr Reg.SHR_OKTIME 2, fun s => s.setBay 7
     { s.bay 7 with ok := false, okFrom := some 7 }], 7, by decide +kernel⟩⟩
theorem test_hyps_BayRemoval :
    (∃ (b : Bay) (s : State), s.core.powered = true ∧ (s.bay b).pres = true ∧ s.bst b ≠ bayEjected) ∧
    (∃ (b : Bay) (s : State), s.core.powered = true ∧ (s.bay b).pres = true ∧ s.bst b = bayEjected) ∧
    (∃ (t : Edges) (b : Bay) (s : State), ∃ d, s.core.powered = true ∧ (s.bay b).pres = false ∧ (s.bay b).lostAt = some d ∧ s.bst b ≠
      bayAbsent ∧ s.bst b ≠ bayEjected ∧ d + edgeMs ≤ max s.now t) ∧
    (∃ (t : Edges) (b : Bay) (s : State), ∃ d, s.core.powered = true ∧ (s.bay b).pres = false ∧ (s.bay b).lostAt = some d ∧ s.bst b ≠
      bayAbsent ∧ s.bst b ≠ bayEjected ∧ max s.now t < d + edgeMs) ∧
    (∃ (b : Bay) (s : State), s.core.powered = true ∧ (s.bst b = bayJoin ∨ s.bst b = bayActive ∨ s.bst b = bayLeave ∨ s.bst b = bayStandby)
      ∧ (s.mode = modeRun ∨ s.mode = modeTadpole ∨ s.mode = modeShadow)) ∧
    (∃ (b : Bay) (s : State), s.core.powered = true ∧ (s.bst b = bayJoin ∨ s.bst b = bayActive ∨ s.bst b = bayLeave ∨ s.bst b = bayStandby)
      ∧ s.mode = modeLockout) ∧
    (∃ (b : Bay) (s : State), s.core.powered = true ∧ (s.bst b = bayJoin ∨ s.bst b = bayActive ∨ s.bst b = bayLeave ∨ s.bst b = bayStandby)
      ∧ s.mode = modeHoldup) :=
  ⟨⟨7, st [wrAt Reg.SHR_BAYST 7 bayActive, fun s => s.setBay 7 { s.bay 7 with pres := true }], by decide +kernel⟩,
   ⟨7, st [wrAt Reg.SHR_BAYST 7 bayEjected, fun s => s.setBay 7 { s.bay 7 with pres := true }], by decide +kernel⟩,
   ⟨7 + edgeMs, 7, st [wrAt Reg.SHR_BAYST 7 bayActive, fun s => s.setBay 7 { s.bay 7 with pres := false, lostAt := some 7 }], 7,
     by decide +kernel⟩,
   ⟨(7 + edgeMs) - 1, 7, st [wrAt Reg.SHR_BAYST 7 bayActive, fun s => s.setBay 7 { s.bay 7 with pres := false, lostAt := some 7 }], 7,
     by decide +kernel⟩,
   ⟨7, st [wrAt Reg.SHR_BAYST 7 bayJoin, wr Reg.GL_MODE modeRun], by decide +kernel⟩,
   ⟨7, st [wrAt Reg.SHR_BAYST 7 bayJoin, wr Reg.GL_MODE modeLockout], by decide +kernel⟩,
   ⟨7, st [wrAt Reg.SHR_BAYST 7 bayJoin, wr Reg.GL_MODE modeHoldup], by decide +kernel⟩⟩
theorem test_hyps_BayEjectsAndLeaves :
    (∃ (b : Bay) (s : State), ∃ l, s.core.powered = true ∧ (s.bay b).ej = l) ∧
    (∃ (b : Bay) (s : State), s.core.powered = true ∧ (s.bay b).ej = false ∧ (s.bst b = bayPfc ∨ s.bst b = bayInrush ∨ s.bst b = bayFault)) ∧
    (∃ (b : Bay) (s : State), s.core.powered = true ∧ (s.bay b).ej = false ∧ (s.bst b = bayJoin ∨ s.bst b = bayActive ∨ s.bst b =
      bayStandby ∨ s.bst b = bayDeep)) ∧
    (∃ (b : Bay) (s : State), s.core.powered = true ∧ (s.bay b).ej = false ∧ s.bst b = bayLeave) ∧
    (∃ (b : Bay) (s : State), s.core.powered = true ∧ (s.bay b).ej = true ∧ s.bst b = bayLeave ∧ (s.bay b).leaveEj = true ∧ (s.bay b).pres
      = true) ∧
    (∃ (b : Bay) (s : State), s.core.powered = true ∧ (s.bay b).ej = true ∧ s.bst b ≠ bayLeave ∧ (s.bay b).pendEj = true) ∧
    (∃ (t : Edges) (b : Bay) (s : State), ∃ d, s.core.powered = true ∧ s.bst b = bayLeave ∧ (s.bay b).zeroAt = some d ∧ d + s.reg
      Reg.SHR_LVTO * edgeMs ≤ max s.now t) ∧
    (∃ (t : Edges) (b : Bay) (s : State), ∃ d, s.core.powered = true ∧ s.bst b = bayLeave ∧ (s.bay b).zeroAt = some d ∧ max s.now t < d +
      s.reg Reg.SHR_LVTO * edgeMs) ∧
    (∃ (t : Edges) (b : Bay) (s : State), s.core.powered = true ∧ s.reg Reg.TRK_CTL_DEEP = 1 ∧ s.bst b = bayStandby ∧ (s.bay b).sbyAt +
      s.reg Reg.TRK_DEEPTIME * edgeSec ≤ max s.now t) ∧
    (∃ (t : Edges) (b : Bay) (s : State), s.core.powered = true ∧ (s.reg Reg.TRK_CTL_DEEP = 0 ∨ s.bst b ≠ bayStandby ∨ max s.now t < (s.bay
      b).sbyAt + s.reg Reg.TRK_DEEPTIME * edgeSec)) ∧
    (∃ (t : Edges) (b : Bay) (s : State), ∃ d, s.core.powered = true ∧ (s.bay b).pres = false ∧ (s.bay b).lostAt = some d ∧ d + 100 *
      edgeMs ≤ max s.now t) ∧
    (∃ (b : Bay) (s : State), s.core.powered = true ∧ (s.str b).pres = false) :=
  ⟨⟨7, st [fun s => s.setBay 7 { s.bay 7 with ej := true }], true, by decide +kernel⟩,
   ⟨7, st [wrAt Reg.SHR_BAYST 7 bayPfc, fun s => s.setBay 7 { s.bay 7 with ej := false }], by decide +kernel⟩,
   ⟨7, st [wrAt Reg.SHR_BAYST 7 bayJoin, fun s => s.setBay 7 { s.bay 7 with ej := false }], by decide +kernel⟩,
   ⟨7, st [wrAt Reg.SHR_BAYST 7 bayLeave, fun s => s.setBay 7 { s.bay 7 with ej := false }], by decide +kernel⟩,
   ⟨7, st [wrAt Reg.SHR_BAYST 7 bayLeave, fun s => s.setBay 7 { s.bay 7 with ej := true, leaveEj := true, pres := true }],
     by decide +kernel⟩,
   ⟨7, st [wrAt Reg.SHR_BAYST 7 bayActive, fun s => s.setBay 7 { s.bay 7 with ej := true, pendEj := true }], by decide +kernel⟩,
   ⟨7 + 2 * edgeMs, 7, st [wrAt Reg.SHR_BAYST 7 bayLeave, wr Reg.SHR_LVTO 2, fun s => s.setBay 7 { s.bay 7 with zeroAt := some 7 }], 7,
     by decide +kernel⟩,
   ⟨(7 + 2 * edgeMs) - 1, 7, st [wrAt Reg.SHR_BAYST 7 bayLeave, wr Reg.SHR_LVTO 2, fun s => s.setBay 7 { s.bay 7 with zeroAt := some 7 }],
     7, by decide +kernel⟩,
   ⟨3 + 2 * edgeSec, 7, st [wr Reg.TRK_CTL_DEEP 1, wrAt Reg.SHR_BAYST 7 bayStandby, wr Reg.TRK_DEEPTIME 2, fun s => s.setBay 7
     { s.bay 7 with sbyAt := 3 }], by decide +kernel⟩,
   ⟨0, 7, st [wr Reg.TRK_CTL_DEEP 0], by decide +kernel⟩,
   ⟨7 + 100 * edgeMs, 7, st [fun s => s.setBay 7 { s.bay 7 with pres := false, lostAt := some 7 }], 7, by decide +kernel⟩,
   ⟨7, st [fun s => s.setStr 7 { s.str 7 with pres := false }], by decide +kernel⟩⟩
theorem test_hyps_WarnPulses :
    (∃ (i : Fin 16) (s : State), s.core.powered = true ∧ bitOf (s.reg Reg.STP_WSTUCK) i = true) ∧
    (∃ (i : Fin 16) (w : Edges) (s : State), s.core.powered = true ∧ (s.warnHeard i = false ∨ s.reg Reg.STP_STUCKT * edgeUs < w)) ∧
    (∃ (i : Fin 16) (w : Edges) (s : State), s.core.powered = true ∧ (s.warnHeard i = true) ∧ w < 3200 ∧ w ≤ s.reg Reg.STP_STUCKT * edgeUs) ∧
    (∃ (i : Fin 16) (w : Edges) (s : State), s.core.powered = true ∧ (s.warnHeard i = true) ∧ 3200 ≤ w ∧ (¬(1 ≤ warnClass w ∧ warnClass w ≤
      4)) ∧ w ≤ s.reg Reg.STP_STUCKT * edgeUs) ∧
    (∃ (i : Fin 16) (fall : Edges) (w : Edges) (s : State), s.core.powered = true ∧ (s.warnHeard i = true) ∧ (1 ≤ warnClass w ∧ warnClass w
      ≤ 4) ∧ ((s.warnIn i).fall.any (fun f => decide (fall < f + 20 * edgeUs)) = true) ∧ w ≤ s.reg Reg.STP_STUCKT * edgeUs) ∧
    (∃ (i : Fin 16) (fall : Edges) (w : Edges) (s : State) (c : Fin 4), s.core.powered = true ∧ (s.warnHeard i = true) ∧ (¬((s.warnIn
      i).fall.any (fun f => decide (fall < f + 20 * edgeUs)) = true)) ∧ w ≤ s.reg Reg.STP_STUCKT * edgeUs ∧ warnClass w = c.val + 1) ∧
    (∃ (t : Edges) (i : Fin 16) (fall : Edges) (s : State), s.core.powered = true ∧ (s.warnHeard i = true) ∧ fall + s.reg Reg.STP_STUCKT *
      edgeUs < max s.now t) :=
  ⟨⟨15, st [fun s => s.putBit Reg.STP_WSTUCK 15 true], by decide +kernel⟩,
   ⟨15, 0, up, by decide +kernel⟩,
   ⟨15, 3199, st [warnEar], by decide +kernel⟩,
   ⟨15, 3200, st [warnEar], by decide +kernel⟩,
   ⟨15, 20 * edgeUs, 27200, st [warnEar, fun s => s.setWarn 15 { s.warnIn 15 with fall := some 1 }], by decide +kernel⟩,
   ⟨15, 20 * edgeUs, 24000, st [warnEar, fun s => s.setWarn 15 { s.warnIn 15 with fall := some 0 }], 3, by decide +kernel⟩,
   ⟨100 * edgeUs + 1, 15, 0, st [warnEar], by decide +kernel⟩⟩
theorem test_hyps_FeedForward :
    (∃ (t : Edges) (c : Fin 4) (s : State), ∃ a, ∃ rest, s.core.powered = true ∧ (s.ffOf c).wait = a :: rest ∧ a + s.regAt Reg.STP_FFDLY c
      * edgeUs ≤ max s.now t) ∧
    (∃ (t : Edges) (c : Fin 4) (s : State), ∃ a, ∃ rest, s.core.powered = true ∧ (s.ffOf c).wait = a :: rest ∧ max s.now t < a + s.regAt
      Reg.STP_FFDLY c * edgeUs) ∧
    (∃ (t : Edges) (c : Fin 4) (s : State), ∃ h, s.core.powered = true ∧ (s.ffOf c).hold = some h ∧ h + s.reg Reg.STP_HOLDT * edgeUs ≤ max
      s.now t) ∧
    (∃ (t : Edges) (c : Fin 4) (s : State), ∃ h, s.core.powered = true ∧ (s.ffOf c).hold = some h ∧ max s.now t < h + s.reg Reg.STP_HOLDT *
      edgeUs) ∧
    (∃ (c : Fin 4) (s : State), s.core.powered = true ∧ (s.ffOf c).hold = none ∧ s.reg Reg.STP_FFTAU ≠ 0) :=
  ⟨⟨7 + 2 * edgeUs, 3, st [wrAt Reg.STP_FFDLY 3 2, fun s => s.setFf 3 { s.ffOf 3 with wait := 7 :: [] }], 7, [], by decide +kernel⟩,
   ⟨(7 + 2 * edgeUs) - 1, 3, st [wrAt Reg.STP_FFDLY 3 2, fun s => s.setFf 3 { s.ffOf 3 with wait := 7 :: [] }], 7, [], by decide +kernel⟩,
   ⟨7 + 2 * edgeUs, 3, st [wr Reg.STP_HOLDT 2, fun s => s.setFf 3 { s.ffOf 3 with hold := some 7 }], 7, by decide +kernel⟩,
   ⟨(7 + 2 * edgeUs) - 1, 3, st [wr Reg.STP_HOLDT 2, fun s => s.setFf 3 { s.ffOf 3 with hold := some 7 }], 7, by decide +kernel⟩,
   ⟨3, st [wr Reg.STP_FFTAU 1, fun s => s.setFf 3 { s.ffOf 3 with hold := none }], by decide +kernel⟩⟩
theorem test_hyps_SagEpisodes :
    (∃ (t : Edges) (k : Str) (s : State), ∃ e, s.core.powered = true ∧ s.sagEp k = some e ∧ e.last + s.reg Reg.STP_SAGHOLD * edgeUs ≤ max
      s.now t ∧ s.regAt Reg.FUS_ISCAL (8 + k) ≠ 0 ∧ 0 ≤ e.sum) ∧
    (∃ (t : Edges) (k : Str) (s : State), ∃ e, s.core.powered = true ∧ s.sagEp k = some e ∧ max s.now t < e.last + s.reg Reg.STP_SAGHOLD *
      edgeUs) ∧
    (∃ (t : Edges) (s : State), ∃ a, s.core.powered = true ∧ s.step.sagAt = some a ∧ a + s.reg Reg.STP_SAGHOLD * edgeUs ≤ max s.now t) ∧
    (∃ (s : State), s.core.powered = true) :=
  ⟨⟨5 + 2 * edgeUs, 7, st [wrAt Reg.FUS_ISCAL (8 + 7) 1, wr Reg.STP_SAGHOLD 2, fun s => s.setSag 7 (some ⟨1, 5, 0, 0⟩)], ⟨1, 5, 0, 0⟩,
     by decide +kernel⟩,
   ⟨4 + 2 * edgeUs, 7, st [fun s => s.setSag 7 (some ⟨1, 5, 0, 0⟩)], ⟨1, 5, 0, 0⟩, by decide +kernel⟩,
   ⟨7 + 2 * edgeUs, st [wr Reg.STP_SAGHOLD 2, fun s => { s with step.sagAt := some 7 }], 7, by decide +kernel⟩,
   ⟨up, by decide +kernel⟩⟩
theorem test_hyps_ContractRecords :
    (∃ (r : List Byte) (s : State), s.core.powered = true ∧ r.length = 16 ∧ (s.owner = false ∨ s.supUp = false)) ∧
    (∃ (r : List Byte) (s : State), s.core.powered = true ∧ r.length = 16 ∧ s.owner = true ∧ s.supUp = true) ∧
    (∃ (r : List Byte) (s : State), s.core.powered = true ∧ r.length = 16 ∧ s.supUp = true ∧ s.mode = modeLockout) ∧
    (∃ (r : List Byte) (s : State), s.core.powered = true ∧ r.length = 16 ∧ s.supUp = true ∧ r.getD 0 0 ≠ 1 ∧ r.getD 0 0 ≠ 2) ∧
    (∃ (r : List Byte) (s : State), ∃ n, s.core.powered = true ∧ r.length = 16 ∧ s.supUp = true ∧ s.recResults (r.map BitVec.toNat) 2 =
      [n]) :=
  ⟨⟨List.replicate 16 3, st [wr Reg.GL_STAT_OWNER 0], by decide +kernel⟩,
   ⟨List.replicate 16 3, st [wr Reg.GL_STAT_OWNER 1], by decide +kernel⟩,
   ⟨List.replicate 16 3, st [wr Reg.GL_MODE modeLockout], by decide +kernel⟩,
   ⟨List.replicate 16 3, up, by decide +kernel⟩,
   ⟨2 :: 5 :: (List.replicate 13 0 ++ [1]), up, 5, by decide +kernel⟩⟩
theorem test_hyps_GrantsAndPacing :
    (∃ (s : State) (id : Byte), s.core.powered = true ∧ s.supUp = true ∧ s.owner = true ∧ s.mode ≠ modeShadow ∧ id.toNat < 128) ∧
    (∃ (s : State) (id : Byte), s.core.powered = true ∧ (s.supUp = false ∨ s.owner = false ∨ s.mode = modeShadow ∨ 128 ≤ id.toNat)) ∧
    (∃ (s : State) (i : Fin 128), s.core.powered = true ∧ s.cap.queue.head? = some i.val ∧ s.owner = true ∧ s.supUp = true ∧ s.cap.tries <
      2) ∧
    (∃ (s : State) (i : Fin 128), s.core.powered = true ∧ s.cap.queue.head? = some i.val ∧ s.owner = true ∧ s.supUp = true ∧ 2 ≤
      s.cap.tries) ∧
    (∃ (s : State) (i : Fin 128), s.core.powered = true ∧ s.cap.queue.head? = some i.val ∧ s.owner = true ∧ s.supUp = true ∧ s.cap.arb < 7) ∧
    (∃ (s : State) (g : Fin 16) (c : Fin 4), s.core.powered = true ∧ s.rcls g = c.val + 1 ∧ bitOf s.cap.pace g = true ∧ bitOf (s.paceNow
      ((s.wheel.idx + 1) % 64)) g = false ∧ s.phasesManaged = true ∧ s.reg Reg.PH_WARNMIN = 0 ∧ s.reg Reg.STP_CTL_FFEN = 1) :=
  ⟨⟨st [wr Reg.GL_STAT_OWNER 1, wr Reg.GL_MODE modeRun], 0x5A, by decide +kernel⟩,
   ⟨st [fun s => { s with core.sup := .restarting 0 }], 0x5A, by decide +kernel⟩,
   ⟨st [wr Reg.GL_STAT_OWNER 1, fun s => { s with cap.tries := 1 }, fun s => { s with cap.queue := [127] }], 127, by decide +kernel⟩,
   ⟨st [wr Reg.GL_STAT_OWNER 1, fun s => { s with cap.tries := 2 }, fun s => { s with cap.queue := [127] }], 127, by decide +kernel⟩,
   ⟨st [wr Reg.GL_STAT_OWNER 1, fun s => { s with cap.arb := 6 }, fun s => { s with cap.queue := [127] }], 127, by decide +kernel⟩,
   ⟨st [wr Reg.PH_WARNMIN 0, wr Reg.STP_CTL_FFEN 1, wr Reg.GL_MODE modeRun, wrAt Reg.CAP_RCLS 7 0x40, fun s =>
     { s with cap.pace := 32768 }, wr Reg.CAP_GMASK 0], 15, 3, by decide +kernel⟩⟩
theorem test_hyps_FeedChecks :
    (∃ (t : Edges) (x : Feed) (p : Fin 3) (s : State), s.core.powered = true ∧ (s.judged x p = false ∨ (s.at t).crestOn x = false)) ∧
    (∃ (t : Edges) (x : Feed) (p : Fin 3) (s : State) (k : Fin 8) (q : Codes5), s.core.powered = true ∧ s.judged x p = true ∧ (s.at
      t).crestOn x = true ∧ (crestSign (s.crestMean q) k || crestLow (s.crestMean q) (s.apk x) (s.reg Reg.HUP_CRLO) k) = false ∧ s.reg
      Reg.HUP_STAT_RTARM = 0) ∧
    (∃ (t : Edges) (x : Feed) (p : Fin 3) (s : State) (k : Fin 8) (q : Codes5), s.core.powered = true ∧ s.judged x p = true ∧ (s.at
      t).crestOn x = true ∧ (crestSign (s.crestMean q) k || crestLow (s.crestMean q) (s.apk x) (s.reg Reg.HUP_CRLO) k) = true ∧ s.feedSt x
      = feedQual ∧ s.reg Reg.HUP_CRN ≤ (s.feed x).crest + 1 ∧ (s.feedSt (match x with | .a => .b | .b => .a) = feedQual ∧ s.reg
      Reg.HUP_STAT_MAINS = 1)) ∧
    (∃ (t : Edges) (x : Feed) (p : Fin 3) (s : State) (k : Fin 8) (q : Codes5), s.core.powered = true ∧ s.judged x p = true ∧ (s.at
      t).crestOn x = true ∧ (crestSign (s.crestMean q) k || crestLow (s.crestMean q) (s.apk x) (s.reg Reg.HUP_CRLO) k) = true ∧ s.feedSt x
      = feedQual ∧ (s.feed x).crest + 1 < s.reg Reg.HUP_CRN) ∧
    (∃ (x : Feed) (p : Fin 3) (s : State), s.core.powered = true ∧ s.judged x p = false) ∧
    (∃ (x : Feed) (p : Fin 3) (s : State), s.core.powered = true ∧ s.judged x p = true) ∧
    (∃ (t : Edges) (x : Feed) (s : State), ∃ a, s.core.powered = true ∧ (s.feed x).posAt = some a ∧ s.judged x 0 = true ∧ edgeSec ≤ 45 *
      (max s.now t - a) ∧ ((s.feedSt x = feedQual ∨ s.feedSt x = feedReturn)) ∧ (s.feedSt (match x with | .a => .b | .b => .a) = feedQual ∧
      s.reg Reg.HUP_STAT_MAINS = 1)) ∧
    (∃ (t : Edges) (x : Feed) (s : State), ∃ a, s.core.powered = true ∧ (s.feed x).posAt = some a ∧ (s.judged x 0 = false ∨ 45 * (max s.now
      t - a) < edgeSec)) :=
  ⟨⟨0, .b, 2, st [wr Reg.HUP_FEEDST_B feedUnused], by decide +kernel⟩,
   ⟨0, .b, 2, st [wr Reg.HUP_FEEDST_B feedQual, wr Reg.HUP_STAT_RTARM 0, crestFed, wr Reg.HUP_APK_B 0], 7, ⟨0, 0, 0, 0, 0⟩,
     by decide +kernel⟩,
   ⟨0, .b, 2, st [wr Reg.HUP_FEEDST_B feedQual, wr Reg.HUP_FEEDST_A feedQual, wr Reg.HUP_STAT_MAINS 1, crestFed, wr Reg.HUP_ACSCAL 1, wr
     Reg.HUP_CRN 1], 7, ⟨0xFFFF, 0xFFFF, 0xFFFF, 0xFFFF, 0xFFFF⟩, by decide +kernel⟩,
   ⟨0, .b, 2, st [wr Reg.HUP_FEEDST_B feedQual, crestFed, wr Reg.HUP_ACSCAL 1, wr Reg.HUP_CRN 2], 7, ⟨0xFFFF, 0xFFFF, 0xFFFF, 0xFFFF,
     0xFFFF⟩, by decide +kernel⟩,
   ⟨.b, 2, st [wr Reg.HUP_FEEDST_B feedUnused], by decide +kernel⟩,
   ⟨.b, 2, st [wr Reg.HUP_FEEDST_B feedQual], by decide +kernel⟩,
   ⟨7 + edgeSec / 45 + 1, .b, st [wr Reg.HUP_FEEDST_B feedQual, wr Reg.HUP_FEEDST_A feedQual, wr Reg.HUP_STAT_MAINS 1, fun s => s.setFeed
     .b { s.feed .b with posAt := some 7 }], 7, by decide +kernel⟩,
   ⟨0, .b, st [wr Reg.HUP_FEEDST_B feedUnused, fun s => s.setFeed .b { s.feed .b with posAt := some 7 }], 7, by decide +kernel⟩⟩
theorem test_hyps_OutageAndReturn :
    (∃ (t : Edges) (x : Feed) (s : State), ∃ a, s.core.powered = true ∧ (s.feed x).posAt = some a ∧ s.judged x 0 = true ∧ edgeSec ≤ 45 *
      (max s.now t - a) ∧ s.feedSt x = feedQual ∧ s.feedSt (match x with | .a => .b | .b => .a) ≠ feedQual ∧ s.reg Reg.HUP_STAT_MAINS = 1 ∧
      s.mode = modeRun ∧ s.reg Reg.IMG_STAT_PROB ≠ 1) ∧
    (∃ (t : Edges) (x : Feed) (s : State), ∃ a, ∃ rms, s.core.powered = true ∧ (s.feed x).posAt = some a ∧ s.judged x 0 = true ∧ (s.feed
      x).counts = true ∧ (s.feed x).cycOk = true ∧ 45 * (max s.now t - a) ≤ edgeSec ∧ edgeSec ≤ 66 * (max s.now t - a) ∧ s.mode ≠
      modeHoldup ∧ ((s.reg Reg.HUP_RMSLO * s.reg Reg.HUP_VNOM : Nat)) * ((s.reg Reg.HUP_RMSLO * s.reg Reg.HUP_VNOM : Nat)) ≤ ((if s.reg
      Reg.WHL_CFG_SINGLE ≠ 0 then 1 else 3) * (100 * ((rms * s.reg Reg.HUP_ACSCAL : Nat) / 1000000)) * (100 * ((rms * s.reg Reg.HUP_ACSCAL
      : Nat) / 1000000))) ∧ ((if s.reg Reg.WHL_CFG_SINGLE ≠ 0 then 1 else 3) * (100 * ((rms * s.reg Reg.HUP_ACSCAL : Nat) / 1000000)) *
      (100 * ((rms * s.reg Reg.HUP_ACSCAL : Nat) / 1000000))) ≤ ((s.reg Reg.HUP_RMSHI * s.reg Reg.HUP_VNOM : Nat)) * ((s.reg Reg.HUP_RMSHI
      * s.reg Reg.HUP_VNOM : Nat)) ∧ (s.feedSt x = feedLost ∨ s.feedSt x = feedReturn) ∧ s.qcnt x + 1 < s.reg Reg.HUP_QCYC) ∧
    (∃ (t : Edges) (x : Feed) (s : State), ∃ a, ∃ rms, s.core.powered = true ∧ (s.feed x).posAt = some a ∧ s.judged x 0 = true ∧ (s.feed
      x).counts = true ∧ (s.feed x).cycOk = true ∧ 45 * (max s.now t - a) ≤ edgeSec ∧ edgeSec ≤ 66 * (max s.now t - a) ∧ s.mode ≠
      modeHoldup ∧ ((s.reg Reg.HUP_RMSLO * s.reg Reg.HUP_VNOM : Nat)) * ((s.reg Reg.HUP_RMSLO * s.reg Reg.HUP_VNOM : Nat)) ≤ ((if s.reg
      Reg.WHL_CFG_SINGLE ≠ 0 then 1 else 3) * (100 * ((rms * s.reg Reg.HUP_ACSCAL : Nat) / 1000000)) * (100 * ((rms * s.reg Reg.HUP_ACSCAL
      : Nat) / 1000000))) ∧ ((if s.reg Reg.WHL_CFG_SINGLE ≠ 0 then 1 else 3) * (100 * ((rms * s.reg Reg.HUP_ACSCAL : Nat) / 1000000)) *
      (100 * ((rms * s.reg Reg.HUP_ACSCAL : Nat) / 1000000))) ≤ ((s.reg Reg.HUP_RMSHI * s.reg Reg.HUP_VNOM : Nat)) * ((s.reg Reg.HUP_RMSHI
      * s.reg Reg.HUP_VNOM : Nat)) ∧ (s.feedSt x = feedLost ∨ s.feedSt x = feedReturn) ∧ s.reg Reg.HUP_QCYC ≤ s.qcnt x + 1) :=
  ⟨⟨7 + edgeSec / 45 + 1, .b, st [wr Reg.HUP_FEEDST_B feedQual, wr Reg.HUP_FEEDST_A feedLost, wr Reg.HUP_STAT_MAINS 1, wr Reg.GL_MODE
     modeRun, wr Reg.IMG_STAT_PROB 0, fun s => s.setFeed .b { s.feed .b with posAt := some 7 }], 7, by decide +kernel⟩,
   ⟨7 + edgeSec / 66 + 1, .b, st [wr Reg.HUP_RMSLO 0, wr Reg.HUP_VNOM 1, wr Reg.HUP_RMSHI 255, wr Reg.GL_MODE modeRun, wr Reg.HUP_FEEDST_B
     feedLost, fun s => s.setFeed .b { s.feed .b with posAt := some 7, counts := true, cycOk := true }, wr Reg.HUP_QCYC 2, wr
     Reg.HUP_FEEDST_B feedReturn], 7, 1, by decide +kernel⟩,
   ⟨7 + edgeSec / 66 + 1, .b, st [wr Reg.HUP_RMSLO 0, wr Reg.HUP_VNOM 1, wr Reg.HUP_RMSHI 255, wr Reg.GL_MODE modeRun, wr Reg.HUP_FEEDST_B
     feedLost, fun s => s.setFeed .b { s.feed .b with posAt := some 7, counts := true, cycOk := true }, wr Reg.HUP_QCYC 1, wr
     Reg.HUP_FEEDST_B feedReturn], 7, 1, by decide +kernel⟩⟩
theorem test_hyps_HoldupDeadlines :
    (∃ (t : Edges) (s : State), ∃ p, s.core.powered = true ∧ s.hup.outTick = some p ∧ p + 65536 * s.reg Reg.HUP_RTW ≤ (s.at t).wheelPos) ∧
    (∃ (t : Edges) (s : State), ∃ p, s.core.powered = true ∧ s.hup.outTick = some p ∧ (s.at t).wheelPos < p + 65536 * s.reg Reg.HUP_RTW) ∧
    (∃ (t : Edges) (s : State) (b : Bay), s.core.powered = true ∧ s.hup.waiting.head? = some b.val ∧ s.supUp = true ∧ s.hup.nextAt ≤ max
      s.now t) ∧
    (∃ (t : Edges) (s : State) (b : Bay), s.core.powered = true ∧ s.hup.waiting.head? = some b.val ∧ s.supUp = true ∧ max s.now t <
      s.hup.nextAt) ∧
    (∃ (t : Edges) (s : State), s.core.powered = true ∧ (s.mode = modeHoldup ∧ s.stage = stRestart ∧ s.supUp = true ∧ s.hup.rstTold = false
      ∧ s.hup.rstAt + s.reg Reg.HUP_RSTO * edgeMs ≤ max s.now t) ∧ s.joinedBays ≠ []) ∧
    (∃ (t : Edges) (s : State), s.core.powered = true ∧ (s.mode = modeHoldup ∧ s.stage = stRestart ∧ s.supUp = true ∧ s.hup.rstTold = false
      ∧ s.hup.rstAt + s.reg Reg.HUP_RSTO * edgeMs ≤ max s.now t) ∧ s.joinedBays = []) ∧
    (∃ (t : Edges) (s : State), s.core.powered = true ∧ (¬(s.mode = modeHoldup ∧ s.stage = stRestart ∧ s.supUp = true ∧ s.hup.rstTold =
      false ∧ s.hup.rstAt + s.reg Reg.HUP_RSTO * edgeMs ≤ max s.now t))) ∧
    (∃ (t : Edges) (s : State), ∃ q, s.core.powered = true ∧ s.hup.quietAt = some q ∧ (s.mode = modeHoldup ∧ s.stage = stHandback ∧ s.supUp
      = true ∧ s.reg Reg.IMG_STAT_PROB ≠ 1) ∧ max q s.hup.hbAt + s.reg Reg.HUP_HBT * edgeMs ≤ max s.now t) ∧
    (∃ (t : Edges) (s : State), ∃ q, s.core.powered = true ∧ s.hup.quietAt = some q ∧ max s.now t < max q s.hup.hbAt + s.reg Reg.HUP_HBT *
      edgeMs) ∧
    (∃ (t : Edges) (s : State), s.core.powered = true ∧ (s.mode = modeHoldup ∧ s.stage = stHandback ∧ s.supUp = true ∧ s.reg
      Reg.IMG_STAT_PROB ≠ 1) ∧ s.hup.hbAt + s.reg Reg.HUP_HBTO * edgeMs ≤ max s.now t) ∧
    (∃ (t : Edges) (s : State), s.core.powered = true ∧ max s.now t < s.hup.hbAt + s.reg Reg.HUP_HBTO * edgeMs) ∧
    (∃ (t : Edges) (s : State), ∃ e, s.core.powered = true ∧ s.hup.holdEnd = some e ∧ e ≤ max s.now t ∧ s.supUp = true) ∧
    (∃ (t : Edges) (s : State), ∃ e, s.core.powered = true ∧ s.hup.holdEnd = some e ∧ max s.now t < e) :=
  ⟨⟨0, st [wr Reg.HUP_RTW 0, fun s => { s with hup.outTick := some 0 }, fun s => { s with hup.outTick := some 0 }], 0, by decide +kernel⟩,
   ⟨0, st [fun s => { s with hup.outTick := some 7 }], 7, by decide +kernel⟩,
   ⟨3, st [fun s => { s with hup.nextAt := 3 }, fun s => { s with hup.waiting := [7] }], 7, by decide +kernel⟩,
   ⟨(3) - 1, st [fun s => { s with hup.nextAt := 3 }, fun s => { s with hup.waiting := [7] }], 7, by decide +kernel⟩,
   ⟨3 + 2 * edgeMs, st [wr Reg.GL_MODE modeHoldup, wr Reg.HUP_STAT_STAGE stRestart, wr Reg.HUP_RSTO 2, fun s =>
     { s with hup.rstTold := false, hup.rstAt := 3 }, wrAt Reg.SHR_BAYST 7 bayActive], by decide +kernel⟩,
   ⟨3 + 2 * edgeMs, st [wr Reg.GL_MODE modeHoldup, wr Reg.HUP_STAT_STAGE stRestart, wr Reg.HUP_RSTO 2, fun s =>
     { s with hup.rstTold := false, hup.rstAt := 3 }], by decide +kernel⟩,
   ⟨0, up, by decide +kernel⟩,
   ⟨max 7 3 + 2 * edgeMs, st [wr Reg.GL_MODE modeHoldup, wr Reg.HUP_STAT_STAGE stHandback, wr Reg.IMG_STAT_PROB 0, wr Reg.HUP_HBT 2, fun s
     => { s with hup.quietAt := some 7, hup.hbAt := 3 }], 7, by decide +kernel⟩,
   ⟨(max 7 3 + 2 * edgeMs) - 1, st [wr Reg.HUP_HBT 2, fun s => { s with hup.quietAt := some 7, hup.hbAt := 3 }], 7, by decide +kernel⟩,
   ⟨3 + 2 * edgeMs, st [wr Reg.GL_MODE modeHoldup, wr Reg.HUP_STAT_STAGE stHandback, wr Reg.IMG_STAT_PROB 0, wr Reg.HUP_HBTO 2, fun s =>
     { s with hup.hbAt := 3 }], by decide +kernel⟩,
   ⟨(3 + 2 * edgeMs) - 1, st [wr Reg.HUP_HBTO 2, fun s => { s with hup.hbAt := 3 }], by decide +kernel⟩,
   ⟨7, st [fun s => { s with hup.holdEnd := some 7 }], 7, by decide +kernel⟩,
   ⟨(7) - 1, st [fun s => { s with hup.holdEnd := some 7 }], 7, by decide +kernel⟩⟩
theorem test_hyps_StringsInAndOut :
    (∃ (k : Str) (s : State), s.core.powered = true ∧ (s.str k).pres = false ∧ s.fst (8 + k) ≠ fusLatched) ∧
    (∃ (k : Str) (s : State), s.core.powered = true ∧ (s.str k).pres = true) ∧
    (∃ (t : Edges) (k : Str) (s : State), ∃ d, s.core.powered = true ∧ (s.str k).pres = true ∧ (s.str k).debAt = some d ∧ d + (if
      s.imgValid then s.reg Reg.BST_PRESDB * edgeMs else 5 * edgeMs) ≤ max s.now t ∧ s.mode ≠ modeLockout) ∧
    (∃ (t : Edges) (k : Str) (s : State), ∃ d, s.core.powered = true ∧ (s.str k).pres = true ∧ (s.str k).debAt = some d ∧ (max s.now t < d
      + (if s.imgValid then s.reg Reg.BST_PRESDB * edgeMs else 5 * edgeMs) ∨ s.mode = modeLockout)) ∧
    (∃ (t : Edges) (k : Str) (s : State), ∃ c, s.core.powered = true ∧ (s.str k).chkAt = some c ∧ c + (if s.imgValid then edgeSec else 2 *
      edgeMs) ≤ max s.now t ∧ s.mode ≠ modeLockout ∧ 3 ≤ s.reg Reg.GL_BOOT_STEP ∧ (s.str k).chkN ≠ 0 ∧ (if s.imgValid then s.cellsOk k
      (((s.str k).chkSum / ((s.str k).chkN : Rat)) / (s.cells k : Rat)) = true else 30000 ≤ ((s.str k).chkSum / ((s.str k).chkN : Rat)) ∧
      ((s.str k).chkSum / ((s.str k).chkN : Rat)) ≤ 60000) ∧ s.fst (8 + k) = fusOff) ∧
    (∃ (t : Edges) (k : Str) (s : State), ∃ c, s.core.powered = true ∧ (s.str k).chkAt = some c ∧ c + (if s.imgValid then edgeSec else 2 *
      edgeMs) ≤ max s.now t ∧ s.mode ≠ modeLockout ∧ 3 ≤ s.reg Reg.GL_BOOT_STEP ∧ (s.str k).chkN ≠ 0 ∧ (¬(if s.imgValid then s.cellsOk k
      (((s.str k).chkSum / ((s.str k).chkN : Rat)) / (s.cells k : Rat)) = true else 30000 ≤ ((s.str k).chkSum / ((s.str k).chkN : Rat)) ∧
      ((s.str k).chkSum / ((s.str k).chkN : Rat)) ≤ 60000))) ∧
    (∃ (k : Str) (s : State), s.core.powered = true ∧ bitOf (s.reg Reg.BST_PRESENT) k = false) ∧
    (∃ (k : Str) (s : State), s.core.powered = true ∧ bitOf (s.reg Reg.BST_PRESENT) k = true) ∧
    (∃ (k : Str) (s : State), s.core.powered = true ∧ s.lithium k = true ∧ strTrickle ≤ s.cst k ∧ s.cst k ≤ strTempwait ∧ (s.str k).stopped
      = false ∧ s.mode = modeRun ∧ s.regAt Reg.BST_CFG_EN k = 1 ∧ s.cells k ≠ 0) ∧
    (∃ (k : Str) (s : State), s.core.powered = true ∧ (s.lithium k = false ∨ s.cst k < strTrickle ∨ strTempwait < s.cst k)) ∧
    (∃ (k : Str) (s : State), s.core.powered = true ∧ (s.str k).bokAt = none) :=
  ⟨⟨7, st [fun s => s.setStr 7 { s.str 7 with pres := false }], by decide +kernel⟩,
   ⟨7, st [fun s => s.setStr 7 { s.str 7 with pres := true }], by decide +kernel⟩,
   ⟨7 + 5 * edgeMs, 7, st [wr Reg.GL_MODE modeRun, fun s => s.setStr 7 { s.str 7 with pres := true, debAt := some 7 }], 7,
     by decide +kernel⟩,
   ⟨6 + 5 * edgeMs, 7, st [fun s => s.setStr 7 { s.str 7 with pres := true, debAt := some 7 }], 7, by decide +kernel⟩,
   ⟨7 + 2 * edgeMs, 7, st [wr Reg.GL_MODE modeRun, wr Reg.GL_BOOT_STEP 3, wrAt Reg.FUS_ST (8 + 7) fusOff, fun s => s.setStr 7
     { s.str 7 with chkAt := some 7 }, fun s => s.setStr 7 { s.str 7 with chkSum := 30000, chkN := 1 }], 7, by decide +kernel⟩,
   ⟨7 + 2 * edgeMs, 7, st [wr Reg.GL_MODE modeRun, wr Reg.GL_BOOT_STEP 3, fun s => s.setStr 7 { s.str 7 with chkAt := some 7 }, fun s =>
     s.setStr 7 { s.str 7 with chkSum := 29999, chkN := 1 }], 7, by decide +kernel⟩,
   ⟨7, st [fun s => s.putBit Reg.BST_PRESENT 7 false], by decide +kernel⟩,
   ⟨7, st [fun s => s.putBit Reg.BST_PRESENT 7 true], by decide +kernel⟩,
   ⟨7, st [wrAt Reg.BST_CST 7 strTrickle, wrAt Reg.BST_CFG_CHEM 7 1, wr Reg.GL_MODE modeRun, wrAt Reg.BST_CFG_EN 7 1, wrAt Reg.BST_CELLS 7
     13, fun s => s.setStr 7 { s.str 7 with stopped := false }], by decide +kernel⟩,
   ⟨7, st [wrAt Reg.BST_CFG_CHEM 7 0], by decide +kernel⟩,
   ⟨7, st [fun s => s.setStr 7 { s.str 7 with bokAt := none }], by decide +kernel⟩⟩
theorem test_hyps_ChargeStage :
    (∃ (k : Str) (s : State), s.core.powered = true ∧ s.regAt Reg.BST_FREQ k ≠ 0 ∧ (s.str k).frac < s.regAt Reg.BST_FREQ k) ∧
    (∃ (k : Str) (s : State), s.core.powered = true ∧ (s.str k).driving = true) ∧
    (∃ (k : Str) (s : State), s.core.powered = true ∧ (s.str k).driving = false) ∧
    (∃ (s : State), s.core.powered = true) :=
  ⟨⟨7, st [wrAt Reg.BST_FREQ 7 1], by decide +kernel⟩,
   ⟨7, st [fun s => s.setStr 7 { s.str 7 with driving := true }], by decide +kernel⟩,
   ⟨7, st [fun s => s.setStr 7 { s.str 7 with driving := false }], by decide +kernel⟩,
   ⟨up, by decide +kernel⟩⟩
theorem test_hyps_ChargeRules :
    (∃ (t : Edges) (k : Str) (s : State), s.core.powered = true ∧ (max s.now t) < (s.str k).winAt + edgeSec) ∧
    (∃ (t : Edges) (k : Str) (s : State), s.core.powered = true ∧ (s.str k).winAt + edgeSec ≤ (max s.now t) ∧ s.supUp = false) ∧
    (∃ (t : Edges) (k : Str) (s : State), s.core.powered = true ∧ (s.str k).winAt + edgeSec ≤ (max s.now t) ∧ s.supUp = true ∧ s.cells k ≠
      0 ∧ s.cst k ≠ strAbsent ∧ s.cst k ≠ strHalt ∧ s.sregAt Reg.BST_TCUT k ≤ s.strTemp k) ∧
    (∃ (t : Edges) (k : Str) (s : State), s.core.powered = true ∧ (s.str k).winAt + edgeSec ≤ (max s.now t) ∧ s.supUp = true ∧ s.cells k ≠
      0 ∧ s.cst k = strTrickle ∧ s.lithium k = false ∧ s.strTemp k < s.sregAt Reg.BST_TCUT k ∧ s.sregAt Reg.BST_TMINC k ≤ s.strTemp k ∧
      ((if (s.str k).winN = 0 then (s.str k).bvAvg else (s.str k).bvSum / ((s.str k).winN : Rat)) / (s.cells k : Rat)) ≤ (s.regAt
      Reg.BST_VCV k : Rat) / 10 + s.regAt Reg.BST_VOVM k ∧ 900 ≤ ((if (s.str k).winN = 0 then (s.str k).bvAvg else (s.str k).bvSum /
      ((s.str k).winN : Rat)) / (s.cells k : Rat))) ∧
    (∃ (t : Edges) (k : Str) (s : State), s.core.powered = true ∧ s.supUp = true ∧ s.cst k = strTrickle ∧ s.regAt Reg.BST_TTRK k * 60 *
      edgeSec ≤ ((s.str k).phRun + ((max s.now t) - (s.str k).phAt))) ∧
    (∃ (t : Edges) (k : Str) (s : State), s.core.powered = true ∧ s.supUp = true ∧ s.cst k = strTrickle ∧ ((s.str k).phRun + ((max s.now t)
      - (s.str k).phAt)) < s.regAt Reg.BST_TTRK k * 60 * edgeSec) ∧
    (∃ (t : Edges) (k : Str) (s : State), s.core.powered = true ∧ s.supUp = true ∧ s.cst k = strTerminate ∧ s.regAt Reg.BST_TRST k *
      edgeSec ≤ ((s.str k).phRun + ((max s.now t) - (s.str k).phAt))) ∧
    (∃ (k : Str) (s : State), s.core.powered = true ∧ (s.cst k ≠ strOff ∨ (s.chargeBar k).isSome = true ∨ (s.str k).eligAt = none)) ∧
    (∃ (t : Edges) (k : Str) (s : State), ∃ e, s.core.powered = true ∧ (s.str k).eligAt = some e ∧ e ≤ (max s.now t) ∧ s.cst k = strOff ∧
      s.chargeBar k = none ∧ (s.str k).tripped = false ∧ s.lithium k = false ∧ s.strTemp k < s.sregAt Reg.BST_TMINC k) ∧
    (∃ (t : Edges) (k : Str) (s : State), ∃ e, s.core.powered = true ∧ (s.str k).eligAt = some e ∧ e ≤ (max s.now t) ∧ s.cst k = strOff ∧
      s.chargeBar k = none ∧ (s.str k).tripped = false ∧ s.lithium k = false ∧ s.sregAt Reg.BST_TMINC k ≤ s.strTemp k ∧ s.strTemp k ≤
      s.sregAt Reg.BST_TMAXC k ∧ s.regAt Reg.BST_HIST_NORMAL k = 0 ∧ 1050 ≤ s.vCell k) :=
  ⟨⟨0, 7, up, by decide +kernel⟩,
   ⟨edgeSec, 7, st [fun s => { s with core.sup := .restarting 0 }], by decide +kernel⟩,
   ⟨edgeSec, 7, st [wrAt Reg.BST_CELLS 7 13, wrAt Reg.BST_CST 7 strFast, wrAt Reg.BST_TCUT 7 0], by decide +kernel⟩,
   ⟨edgeSec, 7, st [wrAt Reg.BST_CELLS 7 13, wrAt Reg.BST_CST 7 strTrickle, wrAt Reg.BST_CFG_CHEM 7 0, fun s => s.setStr 7
     { s.str 7 with winN := 1, bvSum := 11700 }], by decide +kernel⟩,
   ⟨0, 7, st [wrAt Reg.BST_CST 7 strTrickle, wrAt Reg.BST_TTRK 7 0], by decide +kernel⟩,
   ⟨0, 7, st [wrAt Reg.BST_CST 7 strTrickle], by decide +kernel⟩,
   ⟨0, 7, st [wrAt Reg.BST_CST 7 strTerminate, wrAt Reg.BST_TRST 7 0], by decide +kernel⟩,
   ⟨7, st [wrAt Reg.BST_CST 7 strFast], by decide +kernel⟩,
   ⟨7, 7, st [wrAt Reg.BST_CST 7 strOff, wrAt Reg.BST_CFG_CHEM 7 0, fun s => s.setStr 7
     { s.str 7 with eligAt := some 7, tripped := false }, wr Reg.GL_MODE modeRun, wrAt Reg.BST_CFG_EN 7 1, wrAt Reg.BST_CELLS 7 13, wrAt
     Reg.BST_TMINC 7 1], 7, by decide +kernel⟩,
   ⟨7, 7, st [wrAt Reg.BST_CST 7 strOff, wrAt Reg.BST_CFG_CHEM 7 0, wrAt Reg.BST_HIST_NORMAL 7 0, fun s => s.setStr 7
     { s.str 7 with eligAt := some 7, tripped := false }, wr Reg.GL_MODE modeRun, wrAt Reg.BST_CFG_EN 7 1, wrAt Reg.BST_CELLS 7 13, fun s
     => s.setStr 7 { s.str 7 with bvAvg := 13650 }], 7, by decide +kernel⟩⟩
theorem test_hyps_StringCommands :
    (∃ (s : State) (key : Byte), s.up ∧ key ≠ 0xA5) ∧
    (∃ (k : Str) (s : State), s.up ∧ (s.cst k = strAbsent ∨ s.cst k = strHalt)) ∧
    (∃ (k : Str) (s : State), s.up ∧ s.cst k ≠ strAbsent ∧ s.cst k ≠ strHalt) ∧
    (∃ (k : Str) (s : State), s.up ∧ (s.cst k ≠ strOff ∨ (s.str k).stopped = false)) ∧
    (∃ (k : Str) (s : State), s.up ∧ s.cst k = strOff ∧ (s.str k).stopped = true) ∧
    (∃ (k : Str) (s : State), s.up ∧ (s.cst k ≠ strHalt ∨ (s.str k).pres = false)) ∧
    (∃ (k : Str) (s : State), s.up ∧ s.cst k = strHalt ∧ (s.str k).pres = true) :=
  ⟨⟨up, 0x5A, by unfold State.up; decide +kernel⟩,
   ⟨7, st [wrAt Reg.BST_CST 7 strAbsent], by unfold State.up; decide +kernel⟩,
   ⟨7, st [wrAt Reg.BST_CST 7 strFast], by unfold State.up; decide +kernel⟩,
   ⟨7, st [wrAt Reg.BST_CST 7 strFast], by unfold State.up; decide +kernel⟩,
   ⟨7, st [wrAt Reg.BST_CST 7 strOff, fun s => s.setStr 7 { s.str 7 with stopped := true }], by unfold State.up; decide +kernel⟩,
   ⟨7, st [wrAt Reg.BST_CST 7 strFast], by unfold State.up; decide +kernel⟩,
   ⟨7, st [wrAt Reg.BST_CST 7 strHalt, fun s => s.setStr 7 { s.str 7 with pres := true }], by unfold State.up; decide +kernel⟩⟩
theorem test_hyps_EstimatorStates :
    (∃ (t : Edges) (k : Str) (s : State), s.core.powered = true ∧ s.est0 k = estWait ∧ (s.esti k).waitAt + 30 * edgeSec ≤ max s.now t) ∧
    (∃ (t : Edges) (k : Str) (s : State), s.core.powered = true ∧ (s.est0 k ≠ estWait ∨ max s.now t < (s.esti k).waitAt + 30 * edgeSec)) ∧
    (∃ (t : Edges) (k : Str) (s : State), ∃ a, s.core.powered = true ∧ (s.esti k).lowAt = some a ∧ (s.esti k).restAt = none ∧ a + s.reg
      Reg.EST_RESTT * edgeSec ≤ max s.now t ∧ s.est0 k ≠ estAbsent ∧ (s.esti k).vf + (s.esti k).vl < s.cells k ∧ s.sagOpen k = false ∧
      chargingSt (s.cst k) = false ∧ s.estRuns = true ∧ (max ((s.esti k).soc - (s.esti k).u) (s.socOcv k - (((if s.lithium k then s.reg
      Reg.EST_OCVU_L else s.reg Reg.EST_OCVU_N : Nat) : Rat) / 10000))) ≤ (min ((s.esti k).soc + (s.esti k).u) (s.socOcv k + (((if
      s.lithium k then s.reg Reg.EST_OCVU_L else s.reg Reg.EST_OCVU_N : Nat) : Rat) / 10000))) ∧ 5 / 100 < (((if s.lithium k then s.reg
      Reg.EST_OCVU_L else s.reg Reg.EST_OCVU_N : Nat) : Rat) / 10000)) ∧
    (∃ (t : Edges) (k : Str) (s : State), ∃ a, s.core.powered = true ∧ (s.esti k).lowAt = some a ∧ (s.esti k).restAt = none ∧ a + s.reg
      Reg.EST_RESTT * edgeSec ≤ max s.now t ∧ s.est0 k ≠ estAbsent ∧ (s.esti k).vf + (s.esti k).vl < s.cells k ∧ s.sagOpen k = false ∧
      chargingSt (s.cst k) = false ∧ s.estRuns = true ∧ (min ((s.esti k).soc + (s.esti k).u) (s.socOcv k + (((if s.lithium k then s.reg
      Reg.EST_OCVU_L else s.reg Reg.EST_OCVU_N : Nat) : Rat) / 10000))) < (max ((s.esti k).soc - (s.esti k).u) (s.socOcv k - (((if
      s.lithium k then s.reg Reg.EST_OCVU_L else s.reg Reg.EST_OCVU_N : Nat) : Rat) / 10000))) ∧ 5 / 100 < (((if s.lithium k then s.reg
      Reg.EST_OCVU_L else s.reg Reg.EST_OCVU_N : Nat) : Rat) / 10000)) ∧
    (∃ (s : State), s.core.powered = true ∧ s.estRuns = false) ∧
    (∃ (t : Edges) (s : State), ∃ q, s.core.powered = true ∧ s.est.quietAt = some q ∧ q + 10 * edgeSec ≤ max s.now t ∧ s.est.pageAt + 10 *
      edgeSec ≤ max s.now t) ∧
    (∃ (t : Edges) (s : State), ∃ q, s.core.powered = true ∧ s.est.quietAt = some q ∧ (max s.now t < q + 10 * edgeSec ∨ max s.now t <
      s.est.pageAt + 10 * edgeSec)) ∧
    (∃ (s : State), s.core.powered = true ∧ s.reg Reg.EST_STAT_HIB = 1) ∧
    (∃ (s : State), s.core.powered = true ∧ s.reg Reg.EST_STAT_HIB = 0) ∧
    (∃ (k : Str) (s : State), s.core.powered = true ∧ s.est0 k = estKnown ∧ s.reg Reg.EST_EXPINT ≠ 0 ∧ (s.esti k).expSec + 3600 * s.reg
      Reg.EST_EXPINT ≤ s.reg Reg.JRN_OPSEC) ∧
    (∃ (k : Str) (s : State), s.core.powered = true ∧ s.est0 k = estKnown ∧ s.reg Reg.EST_EXPINT ≠ 0 ∧ s.reg Reg.JRN_OPSEC < (s.esti
      k).expSec + 3600 * s.reg Reg.EST_EXPINT) :=
  ⟨⟨3 + 30 * edgeSec, 7, st [fun s => s.setEsti 7 { s.esti 7 with waitAt := 3 }, wrAt Reg.EST_STATE 7 1], by decide +kernel⟩,
   ⟨0, 7, up, by decide +kernel⟩,
   ⟨7 + 2 * edgeSec, 7, st [wr Reg.EST_RESTT 2, fun s => s.setEsti 7 { s.esti 7 with lowAt := some 7, restAt := none }, estRest, fun s =>
     s.setEsti 7 { s.esti 7 with soc := 6 / 10, u := 1 / 10 }], 7, by decide +kernel⟩,
   ⟨7 + 2 * edgeSec, 7, st [wr Reg.EST_RESTT 2, fun s => s.setEsti 7 { s.esti 7 with lowAt := some 7, restAt := none }, estRest, fun s =>
     s.setEsti 7 { s.esti 7 with soc := 1 / 10, u := 1 / 100 }], 7, by decide +kernel⟩,
   ⟨up, by decide +kernel⟩,
   ⟨max (7 + 10 * edgeSec) (3 + 10 * edgeSec), st [fun s => { s with est.quietAt := some 7, est.pageAt := 3 }], 7, by decide +kernel⟩,
   ⟨(7 + 10 * edgeSec) - 1, st [fun s => { s with est.quietAt := some 7 }], 7, by decide +kernel⟩,
   ⟨st [wr Reg.EST_STAT_HIB 1], by decide +kernel⟩,
   ⟨st [wr Reg.EST_STAT_HIB 0], by decide +kernel⟩,
   ⟨7, st [wr Reg.EST_EXPINT 1, wrAt Reg.EST_STATE 7 3, wr Reg.JRN_OPSEC 3600], by decide +kernel⟩,
   ⟨7, st [wr Reg.EST_EXPINT 1, wrAt Reg.EST_STATE 7 3, wr Reg.JRN_OPSEC 3599], by decide +kernel⟩⟩
theorem test_hyps_CapsuleRestore :
    (∃ (s : State), s.core.powered = true ∧ s.supUp = true) ∧
    (∃ (s : State) (last : Bool), s.core.powered = true ∧ s.supUp = true ∧ s.est.staged.any (fun p => p.1 == 127) = true ∧ s.capsuleFaults
      ((List.range 128).map s.stagedByte) last = [] ∧ s.reg Reg.EST_RIDX < 8) ∧
    (∃ (s : State) (last : Bool), ∃ f, s.core.powered = true ∧ s.supUp = true ∧ s.est.staged.any (fun p => p.1 == 127) = true ∧
      (s.capsuleFaults ((List.range 128).map s.stagedByte) last).head? = some f ∧ (s.capsuleFaults ((List.range 128).map s.stagedByte)
      last).tail = []) ∧
    (∃ (s : State) (last : Bool), s.core.powered = true ∧ s.supUp = true ∧ s.est.staged.any (fun p => p.1 == 127) = true ∧ s.capsuleFaults
      ((List.range 128).map s.stagedByte) last ≠ []) ∧
    (∃ (s : State), s.core.powered = true ∧ (s.supUp = false ∨ s.est.staged.any (fun p => p.1 == 127) = false)) ∧
    (∃ (t : Edges) (s : State), ∃ a, s.core.powered = true ∧ s.est.stagedAt = some a ∧ a + edgeSec ≤ max s.now t ∧ s.est.staged ≠ []) ∧
    (∃ (t : Edges) (s : State), ∃ a, s.core.powered = true ∧ s.est.stagedAt = some a ∧ (max s.now t < a + edgeSec ∨ s.est.staged = [])) :=
  ⟨⟨up, by decide +kernel⟩,
   ⟨capSt, true, by decide +kernel, by decide +kernel, by decide +kernel, capSt_faults true, by decide +kernel⟩,
   ⟨capSt, false, 5, by decide +kernel, by decide +kernel, by decide +kernel, by rw [capSt_faults false]; decide,
     by rw [capSt_faults false]; decide⟩,
   ⟨capSt, false, by decide +kernel, by decide +kernel, by decide +kernel, by rw [capSt_faults false]; decide⟩,
   ⟨st [fun s => { s with core.sup := .restarting 0 }], by decide +kernel⟩,
   ⟨7 + edgeSec, st [fun s => { s with est.stagedAt := some 7 }, fun s => { s with est.staged := [(0, 1)] }], 7, by decide +kernel⟩,
   ⟨(7 + edgeSec) - 1, st [fun s => { s with est.stagedAt := some 7 }], 7, by decide +kernel⟩⟩
theorem test_hyps_FuseTrips :
    (∃ (c : Fuse) (s : State) (fi : Code), s.core.powered = true ∧ s.mode ≠ modeLockout ∧ s.fusDriven c = true ∧ s.regAt Reg.FUS_IRATE c =
      0 ∧ (s.fuse c).acc = 1073741824 ∧ 1100 ≤ (s.putAt Reg.TLM_RAW_FI c fi.toNat).fusP c) ∧
    (∃ (t : Edges) (c : Fuse) (s : State), s.core.powered = true ∧ (s.fst c ≠ fusRamp ∨ s.mode = modeLockout ∨ max s.now t < (s.fuse
      c).stAt + s.regAt Reg.FUS_RBLANK c * edgeUs)) ∧
    (∃ (t : Edges) (c : Fuse) (s : State), s.core.powered = true ∧ s.fst c = fusRamp ∧ s.mode ≠ modeLockout ∧ (s.fuse c).stAt + s.regAt
      Reg.FUS_RBLANK c * edgeUs ≤ (s.fuse c).winAt ∧ (s.fuse c).winAt + 100 * edgeUs ≤ max s.now t ∧ (((s.fuse c).winV - s.vsw c) / 10) ≤
      s.regAt Reg.FUS_DVMAX c ∧ s.regAt Reg.FUS_DVMIN c ≤ (((s.fuse c).winV - s.vsw c) / 10)) ∧
    (∃ (t : Edges) (c : Fuse) (s : State), s.core.powered = true ∧ s.fst c = fusRamp ∧ s.mode ≠ modeLockout ∧ (s.fuse c).stAt + s.regAt
      Reg.FUS_RBLANK c * edgeUs ≤ (s.fuse c).winAt ∧ (s.fuse c).winAt + 100 * edgeUs ≤ max s.now t ∧ s.regAt Reg.FUS_DVMAX c < (((s.fuse
      c).winV - s.vsw c) / 10) ∧ (s.fuse c).winBad = 2) ∧
    (∃ (t : Edges) (c : Fuse) (s : State), s.core.powered = true ∧ s.fst c = fusRamp ∧ s.mode ≠ modeLockout ∧ (s.fuse c).stAt + s.regAt
      Reg.FUS_TRAMP c * edgeMs ≤ max s.now t) ∧
    (∃ (t : Edges) (c : Fuse) (s : State), s.core.powered = true ∧ (s.fst c ≠ fusRamp ∨ s.mode = modeLockout ∨ max s.now t < (s.fuse
      c).stAt + s.regAt Reg.FUS_TRAMP c * edgeMs)) ∧
    (∃ (c : Fuse) (s : State) (fi : Code), s.core.powered = true ∧ s.fusDriven c = true ∧ s.mode ≠ modeLockout ∧ (s.putAt Reg.TLM_RAW_FI c
      fi.toNat).fiPin c ≤ -150) ∧
    (∃ (c : Fuse) (s : State), s.core.powered = true ∧ (s.fusDriven c = false ∨ s.mode = modeLockout)) :=
  ⟨⟨15, st [wr Reg.GL_MODE modeRun, wrAt Reg.FUS_ST 15 fusOn, wrAt Reg.FUS_IRATE 15 0, fun s => s.setFuse 15
     { s.fuse 15 with acc := 1073741824 }], 0xFFFF, by decide +kernel⟩,
   ⟨0, 15, st [wrAt Reg.FUS_ST 15 fusOff], by decide +kernel⟩,
   ⟨3 + 100 * edgeUs, 15, st [wrAt Reg.FUS_ST 15 fusRamp, wr Reg.GL_MODE modeRun, fun s => s.setFuse 15 { s.fuse 15 with winAt := 3 }, wrAt
     Reg.FUS_RBLANK 15 0, wrAt Reg.TLM_RAW_FV 15 32768, wrAt Reg.FUS_DVMIN 15 2, wrAt Reg.FUS_DVMAX 15 2, fun s => s.setFuse 15
     { s.fuse 15 with winV := 20 }], by decide +kernel⟩,
   ⟨3 + 100 * edgeUs, 15, st [wrAt Reg.FUS_ST 15 fusRamp, wr Reg.GL_MODE modeRun, fun s => s.setFuse 15
     { s.fuse 15 with winAt := 3, winBad := 2 }, wrAt Reg.FUS_RBLANK 15 0, wrAt Reg.TLM_RAW_FV 15 32768, wrAt Reg.FUS_DVMAX 15 1, fun s =>
     s.setFuse 15 { s.fuse 15 with winV := 20 }], by decide +kernel⟩,
   ⟨3 + 2 * edgeMs, 15, st [wrAt Reg.FUS_ST 15 fusRamp, wr Reg.GL_MODE modeRun, wrAt Reg.FUS_TRAMP 15 2, fun s => s.setFuse 15
     { s.fuse 15 with stAt := 3 }], by decide +kernel⟩,
   ⟨0, 15, st [wrAt Reg.FUS_ST 15 fusOff], by decide +kernel⟩,
   ⟨15, st [wrAt Reg.FUS_ST 15 fusOn, wr Reg.GL_MODE modeRun], 0, by decide +kernel⟩,
   ⟨15, st [wrAt Reg.FUS_ST 15 fusOff], by decide +kernel⟩⟩
theorem test_hyps_FuseWay :
    (∃ (t : Edges) (c : Fuse) (s : State), ∃ g, s.core.powered = true ∧ s.fst c = fusSettle ∧ s.mode ≠ modeLockout ∧ (s.fuse c).goodAt =
      some g ∧ g + s.regAt Reg.FUS_SETTLE c * 640000 ≤ max s.now t) ∧
    (∃ (c : Fuse) (s : State), s.core.powered = true ∧ (s.fst c ≠ fusSettle ∨ s.mode = modeLockout ∨ (s.fuse c).goodAt = none)) ∧
    (∃ (t : Edges) (c : Fuse) (s : State), ∃ g, s.core.powered = true ∧ s.fusFull c = true ∧ s.mode ≠ modeLockout ∧ (s.fuse c).fgsAt = some
      g ∧ g + s.regAt Reg.FUS_TRISE c * edgeUs ≤ max s.now t ∧ s.lowCurrent c = true) ∧
    (∃ (t : Edges) (c : Fuse) (s : State), ∃ g, s.core.powered = true ∧ s.fusFull c = true ∧ s.mode ≠ modeLockout ∧ (s.fuse c).fgsAt = none
      ∧ (s.fuse c).vswAt = some g ∧ g + s.regAt Reg.FUS_TRISE c * edgeUs ≤ max s.now t) ∧
    (∃ (c : Fuse) (s : State), s.core.powered = true ∧ s.fst c = fusOpening ∧ s.mode ≠ modeLockout ∧ s.fgsMv c < s.regAt Reg.FUS_FGSOFF c ∧
      (s.fuse c).disable = false ∧ (s.fuse c).why = .owner ∧ (s.fuse c).want = false) ∧
    (∃ (c : Fuse) (s : State), s.core.powered = true ∧ s.fst c = fusOpening ∧ s.mode ≠ modeLockout ∧ s.fgsMv c < s.regAt Reg.FUS_FGSOFF c ∧
      (s.fuse c).disable = false ∧ (s.fuse c).why = .owner ∧ (s.fuse c).want = true) ∧
    (∃ (t : Edges) (c : Fuse) (s : State) (k : Fin 11), s.core.powered = true ∧ s.fst c = fusOpening ∧ s.mode ≠ modeLockout ∧ s.fgsMv c <
      s.regAt Reg.FUS_FGSOFF c ∧ (s.fuse c).disable = false ∧ (s.fuse c).why = .trip k.val ∧ (s.at t).mayRetry c k = true ∧ (s.fuse c).want
      = true) ∧
    (∃ (t : Edges) (c : Fuse) (s : State) (k : Fin 11), s.core.powered = true ∧ s.fst c = fusOpening ∧ s.mode ≠ modeLockout ∧ s.fgsMv c <
      s.regAt Reg.FUS_FGSOFF c ∧ (s.fuse c).disable = false ∧ (s.fuse c).why = .trip k.val ∧ (s.at t).mayRetry c k = false) ∧
    (∃ (c : Fuse) (s : State), s.core.powered = true ∧ (s.fst c ≠ fusOpening ∨ s.mode = modeLockout)) ∧
    (∃ (t : Edges) (c : Fuse) (s : State), s.core.powered = true ∧ s.fst c = fusOpening ∧ s.mode ≠ modeLockout ∧ s.regAt Reg.FUS_FGSOFF c ≤
      s.fgsMv c ∧ (s.fuse c).stAt + s.regAt Reg.FUS_TFALL c * edgeUs ≤ max s.now t) ∧
    (∃ (t : Edges) (c : Fuse) (s : State), s.core.powered = true ∧ s.fst c = fusRetryWait ∧ s.mode ≠ modeLockout ∧ (s.fuse c).want = true ∧
      ((s.at t).retriesNow c).length < s.regAt Reg.FUS_RETRYN c ∧ s.cooled c = true ∧ (s.fuse c).openAt + s.regAt Reg.FUS_RETRYT c * edgeMs
      ≤ max s.now t) ∧
    (∃ (c : Fuse) (s : State), s.core.powered = true ∧ (s.fst c ≠ fusRetryWait ∨ s.mode = modeLockout ∨ (s.fuse c).want = false ∨ s.cooled
      c = false)) ∧
    (∃ (c : Fuse) (s : State) (k : Byte), s.core.powered = true ∧ s.supUp = true ∧ (k ≠ 0xA5 ∨ s.fst c ≠ fusLatched)) ∧
    (∃ (c : Fuse) (s : State), s.core.powered = true ∧ s.supUp = true ∧ s.fst c = fusLatched ∧ (s.fuse c).disable = false ∧ (s.fuse c).want
      = false ∧ (c.val < 8 → s.bst c ≠ bayFault)) :=
  ⟨⟨7 + 2 * 640000, 15, st [wrAt Reg.FUS_ST 15 fusSettle, wr Reg.GL_MODE modeRun, wrAt Reg.FUS_SETTLE 15 2, fun s => s.setFuse 15
     { s.fuse 15 with goodAt := some 7 }], 7, by decide +kernel⟩,
   ⟨15, st [wrAt Reg.FUS_ST 15 fusOff], by decide +kernel⟩,
   ⟨7 + 2 * edgeUs, 15, st [wrAt Reg.FUS_ST 15 fusOn, wr Reg.GL_MODE modeRun, wrAt Reg.FUS_TRISE 15 2, fun s => s.setFuse 15
     { s.fuse 15 with fgsAt := some 7 }, wrAt Reg.TLM_RAW_FI 15 7282], 7, by decide +kernel⟩,
   ⟨7 + 2 * edgeUs, 15, st [wrAt Reg.FUS_ST 15 fusOn, wr Reg.GL_MODE modeRun, wrAt Reg.FUS_TRISE 15 2, fun s => s.setFuse 15
     { s.fuse 15 with fgsAt := none, vswAt := some 7 }], 7, by decide +kernel⟩,
   ⟨15, st [wrAt Reg.FUS_ST 15 fusOpening, wr Reg.GL_MODE modeRun, fun s => s.setFuse 15
     { s.fuse 15 with disable := false, why := .owner, want := false }], by decide +kernel⟩,
   ⟨15, st [wrAt Reg.FUS_ST 15 fusOpening, wr Reg.GL_MODE modeRun, fun s => s.setFuse 15
     { s.fuse 15 with disable := false, why := .owner, want := true }], by decide +kernel⟩,
   ⟨0, 15, st [wrAt Reg.FUS_ST 15 fusOpening, wr Reg.GL_MODE modeRun, fun s => s.setFuse 15
     { s.fuse 15 with disable := false, why := .trip 8, want := true }, wrAt Reg.FUS_RETRYMASK 15 31, wrAt Reg.FUS_RETRYN 15 1], 8,
     by decide +kernel⟩,
   ⟨0, 15, st [wrAt Reg.FUS_ST 15 fusOpening, wr Reg.GL_MODE modeRun, fun s => s.setFuse 15
     { s.fuse 15 with disable := false, why := .trip 10 }], 10, by decide +kernel⟩,
   ⟨15, st [wrAt Reg.FUS_ST 15 fusOff], by decide +kernel⟩,
   ⟨3 + 2 * edgeUs, 15, st [wrAt Reg.FUS_ST 15 fusOpening, wr Reg.GL_MODE modeRun, wrAt Reg.FUS_TFALL 15 2, fun s => s.setFuse 15
     { s.fuse 15 with stAt := 3 }, wrAt Reg.TLM_RAW_FGS 15 65535], by decide +kernel⟩,
   ⟨3 + 2 * edgeMs, 15, st [wrAt Reg.FUS_ST 15 fusRetryWait, wr Reg.GL_MODE modeRun, wrAt Reg.FUS_RETRYT 15 2, fun s => s.setFuse 15
     { s.fuse 15 with want := true, openAt := 3 }], by decide +kernel⟩,
   ⟨15, st [wrAt Reg.FUS_ST 15 fusOff], by decide +kernel⟩,
   ⟨15, up, 0x5A, by decide +kernel⟩,
   ⟨15, st [wrAt Reg.FUS_ST 15 fusLatched, fun s => s.setFuse 15 { s.fuse 15 with disable := false, want := false }], by decide +kernel⟩⟩
theorem test_hyps_ThermalManagement :
    (∃ (k : Fin 52) (s : State), s.core.powered = true ∧ (s.supUp = false ∨ s.evaluated k = false)) ∧
    (∃ (k : Fin 52) (code : Code) (s : State), s.core.powered = true ∧ s.supUp = true ∧ s.evaluated k = true ∧ 4 ≤ k.val ∧ k.val < 20 ∧
      (s.sensor k).openN = 2 ∧ 98 * 65536 ≤ 100 * code.toNat) ∧
    (∃ (k : Fin 52) (s : State), s.core.powered = true ∧ s.supUp = true ∧ s.evaluated k = true ∧ 4 ≤ k.val ∧ k.val < 20 ∧ s.regAt
      Reg.THM_CFG_GK k = 1 ∧ (s.sensor k).shutN = 2 ∧ s.vka.gecko = false ∧ s.mode ≠ modeLockout) ∧
    (∃ (c : Cells) (j : Nat), j < 16 ∧ (∀ i < 15, ntcRatio c i < ntcRatio c (i + 1))) ∧
    (∃ (s : State), s.core.powered = true ∧ s.vka.gecko = true) ∧
    (∃ (s : State), s.core.powered = true ∧ s.vka.gecko = false) :=
  ⟨⟨19, st [fun s => { s with core.sup := .restarting 0 }], by decide +kernel⟩,
   ⟨19, 64226, st [fun s => s.setSensor 19 { s.sensor 19 with openN := 2 }, wr Reg.GL_STAT_IMGVALID 1, wrAt Reg.THM_CFG_EN 19 1],
     by decide +kernel⟩,
   ⟨19, st [wrAt Reg.THM_CFG_GK 19 1, wr Reg.GL_MODE modeRun, fun s => s.setSensor 19 { s.sensor 19 with shutN := 2 }, fun s =>
     { s with vka.gecko := false }, wr Reg.GL_STAT_IMGVALID 1, wrAt Reg.THM_CFG_EN 19 1], by decide +kernel⟩,
   ⟨((List.range 16).foldl (fun s i => s.putAt Reg.THM_NTCT i i) up).regs, 15, by decide +kernel⟩,
   ⟨st [fun s => { s with vka.gecko := true }], by decide +kernel⟩,
   ⟨st [fun s => { s with vka.gecko := false }], by decide +kernel⟩⟩
theorem test_hyps_Uploads :
    (∃ (s : State) (k : Byte), s.up ∧ s.storesWf = true ∧ k ≠ 0xA5) ∧
    (∃ (s : State), s.up ∧ s.storesWf = true ∧ (s.reg Reg.IMG_UPST = 1 ∨ s.reg Reg.IMG_UPST = 2 ∨ s.reg Reg.IMG_STAT_PROB = 1)) ∧
    (∃ (s : State), s.up ∧ s.storesWf = true ∧ s.reg Reg.IMG_UPST = 0 ∧ s.reg Reg.IMG_STAT_LOADING = 0 ∧ s.reg Reg.IMG_STAT_PROB = 2 ∧
      s.reg Reg.JRN_STAT_NOFLASH = 0) ∧
    (∃ (s : State), s.up ∧ s.storesWf = true ∧ s.reg Reg.IMG_UPST = 1 ∧ s.jrn.powerFail = false) ∧
    (∃ (s : State), s.up ∧ s.storesWf = true ∧ s.reg Reg.IMG_UPST ≠ 1) ∧
    (∃ (s : State) (d : List Byte), s.up ∧ s.storesWf = true ∧ d.length = 128 ∧ s.reg Reg.IMG_UPST = 2 ∧ s.img.chunkNow = none ∧ (s.reg
      Reg.IMG_UPADDR % 128 ≠ 0 ∨ 262016 < s.reg Reg.IMG_UPADDR ∨ s.reg Reg.IMG_UPADDR ∈ s.img.chunks)) ∧
    (∃ (s : State) (d : List Byte), s.up ∧ s.storesWf = true ∧ d.length = 128 ∧ s.reg Reg.IMG_UPST = 2 ∧ s.img.chunkNow = none ∧ s.reg
      Reg.IMG_UPADDR % 128 = 0 ∧ s.reg Reg.IMG_UPADDR ≤ 262016 ∧ s.reg Reg.IMG_UPADDR ∉ s.img.chunks) ∧
    (∃ (s : State), s.up ∧ s.storesWf = true ∧ s.reg Reg.IMG_UPST ≠ 2) ∧
    (∃ (s : State) (a : Nat) (d : List Byte), s.up ∧ s.storesWf = true ∧ s.img.chunkNow = some (a, d) ∧ a ≤ 262016) ∧
    (∃ (s : State), s.up ∧ s.storesWf = true ∧ s.img.chunkNow = none) ∧
    (∃ (s : State), s.up ∧ s.storesWf = true ∧ (s.reg Reg.IMG_UPST ≠ 2 ∨ s.img.chunkNow.isSome = true)) ∧
    (∃ (s : State), ∃ r, ∃ p, s.up ∧ s.storesWf = true ∧ s.reg Reg.IMG_UPST = 2 ∧ s.img.chunkNow = none ∧ s.checkSlot s.img.upSlot false =
      .bad r p) ∧
    ((∀ m x k, Config.ecdsaVerify m x k = true) → ∃ (s : State), ∃ d, s.up ∧ s.storesWf = true ∧ s.reg Reg.IMG_UPST = 2 ∧ s.img.chunkNow =
      none ∧ s.checkSlot s.img.upSlot false = .ok d) ∧
    (∃ (s : State), s.up ∧ s.storesWf = true ∧ 1 ≤ s.reg Reg.IMG_UPST ∧ s.reg Reg.IMG_UPST ≤ 3) ∧
    (∃ (s : State), s.up ∧ s.storesWf = true ∧ (s.reg Reg.IMG_UPST = 0 ∨ s.reg Reg.IMG_UPST = 4 ∨ s.reg Reg.IMG_UPST = 5)) :=
  ⟨⟨up, 0x5A, by unfold State.up; decide +kernel⟩,
   ⟨st [wr Reg.IMG_UPST 1], by unfold State.up; decide +kernel⟩,
   ⟨st [wr Reg.IMG_UPST 0, wr Reg.IMG_STAT_LOADING 0, wr Reg.IMG_STAT_PROB 2, wr Reg.JRN_STAT_NOFLASH 0],
     by unfold State.up; decide +kernel⟩,
   ⟨st [wr Reg.IMG_UPST 1, fun s => { s with jrn.powerFail := false }], by unfold State.up; decide +kernel⟩,
   ⟨st [wr Reg.IMG_UPST 0], by unfold State.up; decide +kernel⟩,
   ⟨st [wr Reg.IMG_UPST 2, fun s => { s with img.chunkNow := none }, wr Reg.IMG_UPADDR 1], List.replicate 128 0,
     by unfold State.up; decide +kernel⟩,
   ⟨st [wr Reg.IMG_UPST 2, wr Reg.IMG_UPADDR 262016, fun s => { s with img.chunkNow := none }], List.replicate 128 0,
     by unfold State.up; decide +kernel⟩,
   ⟨st [wr Reg.IMG_UPST 5], by unfold State.up; decide +kernel⟩,
   ⟨st [fun s => { s with img.chunkNow := some (7, []) }], 7, [], by unfold State.up; decide +kernel⟩,
   ⟨st [fun s => { s with img.chunkNow := none }], by unfold State.up; decide +kernel⟩,
   ⟨st [wr Reg.IMG_UPST 5], by unfold State.up; decide +kernel⟩,
   ⟨st [wr Reg.IMG_UPST 2, fun s => { s with img.chunkNow := none }], 1, 0, by unfold State.up; decide +kernel⟩,
   fun hv => ⟨imgUp, imgData, by unfold State.up; decide +kernel, by decide +kernel, by decide +kernel, by decide +kernel, imgSt_ok hv
     false imgUp rfl rfl rfl (by decide +kernel)⟩,
   ⟨st [wr Reg.IMG_UPST 1], by unfold State.up; decide +kernel⟩,
   ⟨st [wr Reg.IMG_UPST 0], by unfold State.up; decide +kernel⟩⟩
theorem test_hyps_ImageLoad :
    ((∀ m x k, Config.ecdsaVerify m x k = true) → ∃ (s : State) (b : Bool) (n : Bool) (d : ImgData), s.checkSlot b n = .ok d) ∧
    (∃ (s : State), s.core.powered = true ∧ (s.core.load = none ∨ s.supUp = false)) ∧
    (∃ (s : State), ∃ l, s.core.powered = true ∧ s.core.load = some l ∧ s.supUp = true ∧ l.staged = false ∧ s.loadSlots l.kind = []) ∧
    ((∀ m x k, Config.ecdsaVerify m x k = true) → ∃ (s : State), ∃ l, ∃ b, ∃ bs, ∃ d, s.core.powered = true ∧ s.core.load = some l ∧
      s.supUp = true ∧ l.staged = false ∧ s.loadSlots l.kind = b :: bs ∧ s.checkSlot b true = .ok d) ∧
    (∃ (s : State), s.core.powered = true ∧ (s.reg Reg.IMG_STAT_PROB ≠ 1 ∨ s.img.probCount < s.reg Reg.IMG_PROBT ∨ s.supUp = false)) ∧
    (∃ (s : State), s.core.powered = true ∧ s.supUp = true ∧ s.reg Reg.IMG_STAT_PROB = 1 ∧ s.reg Reg.IMG_PROBT ≤ s.img.probCount) :=
  ⟨fun hv => ⟨imgSt, false, true, imgData, imgSt_ok hv true imgSt rfl rfl rfl (by decide +kernel)⟩,
   ⟨st [fun s => { s with core.load := none }], by decide +kernel⟩,
   ⟨st [fun s => { s with core.load := some ⟨.start, 0, false, 1⟩ }], ⟨.start, 0, false, 1⟩, by decide +kernel⟩,
   fun hv => ⟨imgLd, ⟨.digest, 0, false, 1⟩, false, [], imgData, rfl, rfl, by decide +kernel, rfl, by decide +kernel, imgSt_ok hv true
     imgLd rfl rfl rfl (by decide +kernel)⟩,
   ⟨st [wr Reg.IMG_STAT_PROB 0], by decide +kernel⟩,
   ⟨st [wr Reg.IMG_PROBT 1, wr Reg.IMG_STAT_PROB 1, fun s => { s with img.probCount := 1 }], by decide +kernel⟩⟩
theorem test_hyps_Pins :
    (∃ (s : State) (k : Byte), s.up ∧ k ≠ 0xA5) ∧
    (∃ (s : State), s.up ∧ pinnable (s.reg Reg.IMG_PINPAGE) (s.reg Reg.IMG_PINOFS) = none) ∧
    (∃ (s : State), ∃ w, s.up ∧ pinnable (s.reg Reg.IMG_PINPAGE) (s.reg Reg.IMG_PINOFS) = some w ∧ w ≤ 4 ∧ s.pinned (s.reg Reg.IMG_PINPAGE)
      (s.reg Reg.IMG_PINOFS) = false ∧ 24 ≤ s.jrn.pins.length) ∧
    (∃ (s : State), ∃ w, s.up ∧ pinnable (s.reg Reg.IMG_PINPAGE) (s.reg Reg.IMG_PINOFS) = some w ∧ w ≤ 4 ∧ s.jrn.pins.length < 24 ∧
      s.jrn.scanned = true) ∧
    (∃ (s : State), s.up ∧ s.pinned (s.reg Reg.IMG_PINPAGE) (s.reg Reg.IMG_PINOFS) = false) ∧
    (∃ (s : State), s.up ∧ s.pinned (s.reg Reg.IMG_PINPAGE) (s.reg Reg.IMG_PINOFS) = true ∧ s.jrn.scanned = true ∧ (¬((s.reg
      Reg.IMG_PINPAGE) = 0xFF ∧ (s.reg Reg.IMG_PINOFS) = 0xFF)) ∧ s.jrn.pins.length < 256) ∧
    (∃ (s : State), s.up ∧ s.jrn.scanned = true) :=
  ⟨⟨up, 0x5A, by unfold State.up; decide +kernel⟩,
   ⟨up, by unfold State.up; decide +kernel⟩,
   ⟨st [wr Reg.IMG_PINPAGE 38, wr Reg.IMG_PINOFS 36, fun s => { s with jrn.pins := (List.range 24).map (fun i => ⟨0, 38, i, 1, 0⟩) }], 4,
     by unfold State.up; decide +kernel⟩,
   ⟨st [fun s => { s with jrn.scanned := true }, wr Reg.IMG_PINPAGE 38, wr Reg.IMG_PINOFS 36, fun s =>
     { s with jrn.pins := (List.range 23).map (fun i => ⟨0, 38, i, 1, 0⟩) }], 4, by unfold State.up; decide +kernel⟩,
   ⟨up, by unfold State.up; decide +kernel⟩,
   ⟨st [fun s => { s with jrn.scanned := true }, wr Reg.IMG_PINPAGE 38, wr Reg.IMG_PINOFS 36, fun s =>
     { s with jrn.pins := [⟨0, 38, 36, 4, 0⟩] }], by unfold State.up; decide +kernel⟩,
   ⟨st [fun s => { s with jrn.scanned := true }], by unfold State.up; decide +kernel⟩⟩
theorem test_hyps_JournalRecords :
    (∃ len, len ≤ 256) ∧
    (∃ (s : State), s.core.powered = true ∧ s.reg Reg.JRN_OPSEC < s.jrn.cntSec + s.reg Reg.JRN_CNTINT) ∧
    (∃ (s : State), s.core.powered = true ∧ s.jrn.cntSec + s.reg Reg.JRN_CNTINT ≤ s.reg Reg.JRN_OPSEC ∧ (s.reg Reg.JRN_STAT_NOFLASH = 0 ∧
      s.jrn.scanned = true ∧ s.supUp = true ∧ s.reg Reg.IMG_UPST ≠ 1 ∧ (s.reg Reg.JRN_STAT_BANK) ≤ 1) ∧ (s.bank (s.reg
      Reg.JRN_STAT_BANK)).fits s.countersNow = true) ∧
    (∃ (s : State), s.core.powered = true ∧ s.jrn.cntSec + s.reg Reg.JRN_CNTINT ≤ s.reg Reg.JRN_OPSEC ∧ (s.reg Reg.JRN_STAT_NOFLASH = 0 ∧
      s.jrn.scanned = true ∧ s.supUp = true ∧ s.reg Reg.IMG_UPST ≠ 1 ∧ (s.reg Reg.JRN_STAT_BANK) ≤ 1) ∧ (s.bank (s.reg
      Reg.JRN_STAT_BANK)).fits s.countersNow = false) ∧
    (∃ (s : State), s.core.powered = true ∧ s.reg Reg.JRN_OPSEC < s.jrn.hourSec + 3600) ∧
    (∃ (s : State), s.core.powered = true ∧ s.jrn.hourSec + 3600 ≤ s.reg Reg.JRN_OPSEC ∧ (s.reg Reg.JRN_STAT_NOFLASH = 0 ∧ s.jrn.scanned =
      true ∧ s.supUp = true ∧ s.reg Reg.IMG_UPST ≠ 1 ∧ (s.reg Reg.JRN_STAT_BANK) ≤ 1) ∧ (s.bank (s.reg Reg.JRN_STAT_BANK)).next < 196000) ∧
    (∃ (s : State), s.core.powered = true ∧ (s.jrn.compacting = none ∨ s.supUp = false)) ∧
    (∃ (s : State), ∃ q, s.core.powered = true ∧ s.jrn.compacting = some q ∧ s.supUp = true ∧ (s.reg Reg.JRN_STAT_BANK) ≤ 1) ∧
    (∃ (t : Edges) (s : State), s.core.powered = true ∧ (s.jrn.retryAt = none ∨ ∃ due, s.jrn.retryAt = some due ∧ max s.now t < due)) ∧
    (∃ (t : Edges) (s : State), ∃ due, s.core.powered = true ∧ s.jrn.retryAt = some due ∧ due ≤ max s.now t ∧ (s.reg Reg.JRN_STAT_BANK) ≤
      1) ∧
    (∃ (s : State), s.core.powered = true ∧ (s.booted = false ∨ s.jrn.scanned = true ∨ s.reg Reg.JRN_STAT_NOFLASH ≠ 0 ∨ s.supUp = false)) ∧
    (∃ (s : State), s.core.powered = true ∧ s.booted = true ∧ s.jrn.scanned = false ∧ s.reg Reg.JRN_STAT_NOFLASH = 0 ∧ s.supUp = true ∧
      s.jrn.due = [] ∧ s.flash.activeBank = none) ∧
    (∃ (s : State), ∃ k, s.core.powered = true ∧ s.booted = true ∧ s.jrn.scanned = false ∧ s.reg Reg.JRN_STAT_NOFLASH = 0 ∧ s.supUp = true
      ∧ s.jrn.due = [] ∧ s.flash.activeBank = some k ∧ s.reg Reg.JRN_TORN = 0 ∧ (s.bank k).recs.length < 65536) :=
  ⟨⟨0, by decide +kernel⟩,
   ⟨up, by decide +kernel⟩,
   ⟨st [wr Reg.JRN_STAT_NOFLASH 0, wr Reg.IMG_UPST 0, fun s => { s with jrn.scanned := true }, wr Reg.JRN_OPSEC 1000000, wr
     Reg.JRN_STAT_BANK 0], by decide +kernel⟩,
   ⟨st [wr Reg.JRN_STAT_NOFLASH 0, wr Reg.IMG_UPST 0, fun s => { s with jrn.scanned := true }, wr Reg.JRN_OPSEC 1000000, wr
     Reg.JRN_STAT_BANK 1, fun s => { s with flash.bank1.next := 262144 }], by decide +kernel⟩,
   ⟨up, by decide +kernel⟩,
   ⟨st [wr Reg.JRN_STAT_NOFLASH 0, wr Reg.IMG_UPST 0, fun s => { s with jrn.scanned := true }, wr Reg.JRN_OPSEC 3600, wr Reg.JRN_STAT_BANK
     1, fun s => { s with flash.bank1.next := 195999 }], by decide +kernel⟩,
   ⟨st [fun s => { s with jrn.compacting := none }], by decide +kernel⟩,
   ⟨st [fun s => { s with jrn.compacting := some 7 }], 7, by decide +kernel⟩,
   ⟨0, st [fun s => { s with jrn.retryAt := none }], by decide +kernel⟩,
   ⟨7, st [fun s => { s with jrn.retryAt := some 7 }], 7, by decide +kernel⟩,
   ⟨st [wr Reg.GL_BOOT_STEP 2], by decide +kernel⟩,
   ⟨st [wr Reg.GL_BOOT_STEP 3, wr Reg.JRN_STAT_NOFLASH 0, fun s => { s with jrn.scanned := false, jrn.due := [] }, fun s =>
     { s with flash.bank0.committed := false, flash.bank1.committed := false }], by decide +kernel⟩,
   ⟨st [wr Reg.GL_BOOT_STEP 3, wr Reg.JRN_STAT_NOFLASH 0, wr Reg.JRN_TORN 0, fun s => { s with jrn.scanned := false, jrn.due := [] }, fun s
     => { s with flash.bank0.committed := false, flash.bank1.committed := true }], 1, by decide +kernel⟩⟩
theorem test_hyps_RecorderQueue :
    (∃ (s : State), s.log.queue.length < 64) ∧
    (∃ (s : State) (r : EventRec), 64 ≤ s.log.queue.length ∧ (∀ q ∈ s.log.queue, r.sev < q.sev)) ∧
    (∃ (s : State) (r : EventRec), ∃ a, ∃ d, ∃ c, s.log.queue = a ++ d :: c ∧ 64 ≤ s.log.queue.length ∧ (∀ q ∈ a, r.sev < q.sev) ∧ d.sev ≤
      r.sev) ∧
    (∃ (s : State) (k : Byte), s.core.powered = true ∧ k ≠ 0xA5 ∧ s.supUp = true) ∧
    (∃ (s : State), s.core.powered = true ∧ s.supUp = true) ∧
    (∃ (s : State), s.core.powered = true ∧ (s.log.scanned = true ∧ s.log.batch = none ∧ s.log.clear = none ∧ s.supUp = true ∧ s.reg
      Reg.JRN_STAT_NOFLASH = 0 ∧ s.log.queue ≠ [])) ∧
    (∃ (t : Edges) (s : State), ∃ r, ∃ q, s.core.powered = true ∧ s.log.queue = r :: q ∧ max s.now t < r.tm + s.reg Reg.REC_AGEMAX *
      edgeSec) ∧
    (∃ (t : Edges) (s : State), ∃ r, ∃ q, s.core.powered = true ∧ s.log.queue = r :: q ∧ r.tm + s.reg Reg.REC_AGEMAX * edgeSec ≤ max s.now
      t ∧ (s.log.scanned = true ∧ s.log.batch = none ∧ s.log.clear = none ∧ s.supUp = true ∧ s.reg Reg.JRN_STAT_NOFLASH = 0 ∧ s.log.queue ≠
      [])) ∧
    (∃ (s : State), s.core.powered = true ∧ (s.log.batch = none ∨ s.supUp = false)) ∧
    (∃ (s : State), ∃ n, s.core.powered = true ∧ s.log.batch = some n ∧ s.supUp = true ∧ s.log.queue.length ≤ 64 ∧ s.flash.roll.length + 64
      < 16384 ∧ s.flash.first.length + 64 < 4096) :=
  ⟨⟨up, by decide +kernel⟩,
   ⟨st [fun s => { s with log.queue := List.replicate 64 (evr 5 0) }], evr 4 0, by decide +kernel⟩,
   ⟨st [fun s => { s with log.queue := List.replicate 31 (evr 5 0) ++ evr 3 0 :: List.replicate 32 (evr 2 0) }], evr 3 0, List.replicate 31
     (evr 5 0), evr 3 0, List.replicate 32 (evr 2 0), by decide +kernel⟩,
   ⟨up, 0x5A, by decide +kernel⟩,
   ⟨up, by decide +kernel⟩,
   ⟨st [wr Reg.JRN_STAT_NOFLASH 0, fun s => { s with log.scanned := true, log.batch := none, log.clear := none }, fun s =>
     { s with log.queue := [evr 5 0] }], by decide +kernel⟩,
   ⟨6 + 2 * edgeSec, st [wr Reg.REC_AGEMAX 2, fun s => { s with log.queue := (evr 5 7) :: [] }], evr 5 7, [], by decide +kernel⟩,
   ⟨7 + 2 * edgeSec, st [wr Reg.REC_AGEMAX 2, wr Reg.JRN_STAT_NOFLASH 0, fun s =>
     { s with log.queue := (evr 5 7) :: [], log.scanned := true, log.batch := none, log.clear := none }], evr 5 7, [], by decide +kernel⟩,
   ⟨st [fun s => { s with log.batch := none }], by decide +kernel⟩,
   ⟨st [fun s => { s with log.batch := some 9 }], 9, by decide +kernel⟩⟩
theorem test_hyps_LogClears :
    (∃ (s : State) (k : Byte), s.up ∧ k ≠ 0xA5) ∧
    (∃ (s : State) (k : Byte), s.up ∧ k = 0xA5 ∧ s.log.clear.isSome = true) ∧
    (∃ (s : State) (k : Byte), s.up ∧ k = 0xA5 ∧ s.log.clear = none ∧ s.tokenScope 2 = false) ∧
    (∃ (s : State) (k : Byte), s.up ∧ k = 0xA5 ∧ s.log.clear = none ∧ s.tokenScope 2 = true) ∧
    (∃ (s : State), s.up ∧ s.log.clear = none) ∧
    (∃ (s : State), ∃ c, s.up ∧ s.log.clear = some c ∧ (s.reg Reg.REC_SNSEV = 0 ∨ 3 < s.reg Reg.REC_SNSEV) ∧ s.reg Reg.JRN_STAT_BANK ≤ 1 ∧
      (s.bank (s.reg Reg.JRN_STAT_BANK)).next < 190000) ∧
    (∃ (s : State), s.up ∧ (s.booted = false ∨ s.jrn.scanned = false ∨ s.log.scanned = true ∨ s.reg Reg.JRN_STAT_NOFLASH ≠ 0)) ∧
    (∃ (s : State), s.up ∧ s.booted = true ∧ s.jrn.scanned = true ∧ s.log.scanned = false ∧ s.reg Reg.JRN_STAT_NOFLASH = 0) :=
  ⟨⟨up, 0x5A, by unfold State.up; decide +kernel⟩,
   ⟨st [fun s => { s with log.clear := some ⟨true, 0, 0, 0⟩ }], 0xA5, by unfold State.up; decide +kernel⟩,
   ⟨st [fun s => { s with log.clear := none }], 0xA5, by unfold State.up; decide +kernel⟩,
   ⟨st [fun s => { s with log.clear := none }, fun s => { s with sec.token := some ⟨4, 0, 1⟩ }], 0xA5, by unfold State.up; decide +kernel⟩,
   ⟨st [fun s => { s with log.clear := none }], by unfold State.up; decide +kernel⟩,
   ⟨st [wr Reg.REC_SNSEV 0, wr Reg.JRN_STAT_BANK 1, fun s => { s with log.clear := some (⟨true, 0, 0, 0⟩) }], ⟨true, 0, 0, 0⟩,
     by unfold State.up; decide +kernel⟩,
   ⟨st [wr Reg.GL_BOOT_STEP 2], by unfold State.up; decide +kernel⟩,
   ⟨st [wr Reg.GL_BOOT_STEP 3, wr Reg.JRN_STAT_NOFLASH 0, fun s => { s with jrn.scanned := true, log.scanned := false }],
     by unfold State.up; decide +kernel⟩⟩
theorem test_hyps_SnapshotsAndWindows :
    (∃ (s : State) (k : Byte), s.core.powered = true ∧ k ≠ 0xA5 ∧ s.supUp = true) ∧
    (∃ (s : State), s.core.powered = true ∧ s.supUp = true ∧ (s.snapChannels true).all (fun c => c == 0xFF) = false ∧ s.log.cap0 = none ∧
      capturing s.log.cap1 true = false) ∧
    (∃ (s : State), ∃ c, s.core.powered = true ∧ s.supUp = true ∧ (s.snapChannels true).all (fun c => c == 0xFF) = false ∧ s.log.cap0 =
      some c ∧ c.done = false ∧ c.manual = true) ∧
    (∃ (s : State), ∃ c, ∃ d, s.core.powered = true ∧ s.supUp = true ∧ (s.snapChannels true).all (fun c => c == 0xFF) = false ∧ s.log.cap0
      = some c ∧ s.log.cap1 = some d ∧ (c.done = true ∨ c.manual = false) ∧ (d.done = true ∨ d.manual = false)) ∧
    (∃ (s : State) (k : Fin 2), s.core.powered = true ∧ s.log.cap k = none) ∧
    (∃ (t : Edges) (s : State) (k : Fin 2) (c : Capture), s.core.powered = true ∧ s.log.cap k = some c ∧ c.done = false ∧ c.tm + 6 * edgeMs
      ≤ max s.now t) ∧
    (∃ (t : Edges) (s : State) (k : Fin 2) (c : Capture), s.core.powered = true ∧ s.log.cap k = some c ∧ (c.done = true ∨ max s.now t <
      c.tm + 6 * edgeMs)) ∧
    (∃ (s : State) (k : Fin 2) (c : Capture) (i : Fin 32), s.core.powered = true ∧ s.log.cap k = some c ∧ c.done = true ∧ s.supUp = true ∧
      s.reg Reg.JRN_STAT_NOFLASH = 0 ∧ s.log.scanned = true ∧ s.jrn.powerFail = false ∧ (s.slotSev i = none ∨ ∃ v, s.slotSev i = some v ∧ v
      ≤ c.snap.sev) ∧ (∀ j : Fin 32, (j.val + 31 - s.reg Reg.REC_SNNEXT) % 32 < (i.val + 31 - s.reg Reg.REC_SNNEXT) % 32 → ∃ v, s.slotSev j
      = some v ∧ c.snap.sev < v) ∧ s.reg Reg.REC_SNNEXT < 32) ∧
    (∃ (s : State), s.core.powered = true ∧ s.supUp = true) ∧
    (∃ (s : State), s.core.powered = true ∧ s.log.fetchAt = none) ∧
    (∃ (s : State), s.core.powered = true ∧ s.log.fetchAt.isSome = true) ∧
    (∃ (s : State), s.core.powered = true ∧ s.log.snFetchAt.isSome = true) ∧
    (∃ (s : State), s.core.powered = true ∧ s.log.snFetchAt = none) :=
  ⟨⟨up, 0x5A, by decide +kernel⟩,
   ⟨st [fun s => { s with log.cap0 := none }, wrAt Reg.REC_SNCH_M 7 5], by decide +kernel⟩,
   ⟨st [wrAt Reg.REC_SNCH_M 7 5, fun s => { s with log.cap0 := some (capt true false) }], capt true false, by decide +kernel⟩,
   ⟨st [wrAt Reg.REC_SNCH_M 7 5, fun s => { s with log.cap0 := some (capt true true), log.cap1 := some (capt false false) }], capt true
     true, capt false false, by decide +kernel⟩,
   ⟨up, 1, by decide +kernel⟩,
   ⟨6 * edgeMs, st [fun s => { s with log.cap1 := some (capt true false) }], 1, capt true false, by decide +kernel⟩,
   ⟨0, st [fun s => { s with log.cap1 := some (capt true true) }], 1, capt true true, by decide +kernel⟩,
   ⟨st [wr Reg.JRN_STAT_NOFLASH 0, wr Reg.REC_SNNEXT 31, fun s => { s with log.scanned := true, jrn.powerFail := false }, fun s =>
     { s with log.cap1 := some (capt true true) }], 1, capt true true, 0, by decide +kernel, by decide +kernel, by decide +kernel,
     by decide +kernel, by decide +kernel, by decide +kernel, by decide +kernel, .inl (by decide +kernel), by decide +kernel,
     by decide +kernel⟩,
   ⟨up, by decide +kernel⟩,
   ⟨st [fun s => { s with log.fetchAt := none }], by decide +kernel⟩,
   ⟨st [fun s => { s with log.fetchAt := some 0 }], by decide +kernel⟩,
   ⟨st [fun s => { s with log.snFetchAt := some 0 }], by decide +kernel⟩,
   ⟨st [fun s => { s with log.snFetchAt := none }], by decide +kernel⟩⟩
theorem test_hyps_TwinLink :
    (∃ (s : State), s.core.powered = true ∧ s.paired = false) ∧
    (∃ (s : State) (f : TwinFrame), s.core.powered = true ∧ (s.paired = false ∨ f.crcOk = false)) ∧
    (∃ (s : State) (f : TwinFrame), s.core.powered = true ∧ s.paired = true ∧ f.crcOk = true ∧ f.recs = []) ∧
    (∃ (s : State) (f : TwinFrame) (q : Byte) (k : Byte) (v : Byte) (w : BitVec 32) (c : Code) (d : Code), s.core.powered = true ∧ s.paired
      = true ∧ f.crcOk = true ∧ f.recs = [.decision q k v w c d] ∧ s.owner = true) ∧
    (∃ (t : Edges) (s : State), s.core.powered = true ∧ (s.paired = false ∨ s.twin.rxAt = none ∨ ∃ r, s.twin.rxAt = some r ∧ max s.now t <
      r + 9 * edgeUs)) ∧
    (∃ (t : Edges) (s : State), ∃ r, s.core.powered = true ∧ s.twin.rxAt = some r ∧ s.paired = true ∧ r + 9 * edgeUs ≤ max s.now t) ∧
    (∃ (s : State), s.core.powered = true ∧ s.owner = true) ∧
    (∃ (t : Edges) (s : State) (q : Byte) (b : Bay) (w : BitVec 32) (c : Code) (d : Code), s.core.powered = true ∧ s.owner = false ∧
      s.twin.decisions = [.decision q (Config.decisionKind 0) (BitVec.ofNat 8 b) w c d] ∧ (s.at t).decisionDue c d = false) ∧
    (∃ (t : Edges) (s : State) (q : Byte) (b : Bay) (w : BitVec 32) (c : Code) (d : Code), s.core.powered = true ∧ s.owner = false ∧
      s.twin.decisions = [.decision q (Config.decisionKind 0) (BitVec.ofNat 8 b) w c d] ∧ (s.at t).decisionDue c d = true) ∧
    (∃ (s : State), s.core.powered = true ∧ (s.paired = false ∨ s.owner = true ∨ s.supUp = false)) ∧
    (∃ (s : State), s.core.powered = true ∧ s.paired = true ∧ s.owner = false ∧ s.supUp = true) :=
  ⟨⟨st [wr Reg.TWN_CFG_EN 0], by decide +kernel⟩,
   ⟨st [wr Reg.TWN_CFG_EN 0], frm false [], by decide +kernel⟩,
   ⟨st [wr Reg.TWN_CFG_EN 1], frm true [], by decide +kernel⟩,
   ⟨st [wr Reg.TWN_CFG_EN 1, wr Reg.GL_STAT_OWNER 1], frm true [.decision 0x5A 0x5A 0x5A 7 0x8000 0x8000], 0x5A, 0x5A, 0x5A, 7, 0x8000,
     0x8000, by decide +kernel⟩,
   ⟨0, st [wr Reg.TWN_CFG_EN 0], by decide +kernel⟩,
   ⟨7 + 9 * edgeUs, st [wr Reg.TWN_CFG_EN 1, fun s => { s with twin.rxAt := some 7 }], 7, by decide +kernel⟩,
   ⟨st [wr Reg.GL_STAT_OWNER 1], by decide +kernel⟩,
   ⟨0, st [wr Reg.GL_STAT_OWNER 0, fun s =>
     { s with twin.decisions := [.decision 0x5A (Config.decisionKind 0) (BitVec.ofNat 8 7) 7 1 0x8000] }], 0x5A, 7, 7, 1, 0x8000,
     by decide +kernel, by decide +kernel, rfl, by decide +kernel⟩,
   ⟨0, st [wr Reg.GL_STAT_OWNER 0, fun s =>
     { s with twin.decisions := [.decision 0x5A (Config.decisionKind 0) (BitVec.ofNat 8 7) 7 0 0] }], 0x5A, 7, 7, 0, 0, by decide +kernel,
     by decide +kernel, rfl, by decide +kernel⟩,
   ⟨st [wr Reg.TWN_CFG_EN 0], by decide +kernel⟩,
   ⟨st [wr Reg.TWN_CFG_EN 1, wr Reg.GL_STAT_OWNER 0], by decide +kernel⟩⟩
theorem test_hyps_TwinHealth :
    (∃ (s : State), s.core.powered = true ∧ s.paired = true) ∧
    (∃ (s : State), s.core.powered = true ∧ s.paired = false) ∧
    ((Config.partnerVersion = 1) → ∃ (t : Edges) (s : State), ∃ f, s.core.powered = true ∧ s.twin.fitSince = some f ∧ s.paired = true ∧
      s.owner = false ∧ s.supUp = true ∧ s.twin.unfit = false ∧ (s.at t).healthWord = 0x7FF ∧ s.reg Reg.TWN_STAT_FIT = 0 ∧ f + s.reg
      Reg.TWN_FITT * edgeSec ≤ max s.now t) ∧
    (∃ (s : State), s.core.powered = true ∧ s.paired = true ∧ s.reg Reg.TWN_STAT_XFER = 1 ∧ s.owner = false) ∧
    (∃ (s : State), s.core.powered = true ∧ s.reg Reg.TWN_STAT_XFER = 0) ∧
    (∃ (s : State), s.core.powered = true ∧ (s.twin.katAsked = false ∨ s.twin.katOwn.isSome = true ∨ s.twin.t0.isSome = true)) ∧
    (∃ (s : State), s.core.powered = true ∧ s.paired = true ∧ s.twin.katAsked = true ∧ s.twin.katOwn = none ∧ s.twin.t0 = none ∧
      s.twin.katPartner = none) ∧
    (∃ (s : State) (m : Byte), s.core.powered = true ∧ s.paired = true ∧ s.twin.katAsked = true ∧ s.twin.katOwn = none ∧ s.twin.t0 = none ∧
      s.twin.katPartner = some true ∧ m ≠ 0 ∧ s.owner = true) ∧
    (∃ (s : State) (m : Byte), s.core.powered = true ∧ s.paired = true ∧ s.twin.katAsked = true ∧ s.twin.katOwn = none ∧ s.twin.t0 = none ∧
      s.twin.katPartner = some true ∧ m ≠ 0 ∧ s.owner = false) ∧
    (∃ (s : State) (m : Byte), s.core.powered = true ∧ s.paired = true ∧ s.twin.katAsked = true ∧ s.twin.katOwn = none ∧ s.twin.t0 = none ∧
      s.twin.katPartner = some false ∧ m ≠ 0 ∧ s.reg Reg.IMG_STAT_PROB ≠ 1) ∧
    (∃ (t : Edges) (s : State), s.core.powered = true ∧ s.paired = true ∧ s.twin.katAsked = true ∧ s.twin.katOwn = none ∧ s.twin.t0 = none
      ∧ s.twin.katPartner = some true ∧ (s.at t).digestDiff = none) :=
  ⟨⟨st [wr Reg.TWN_CFG_EN 1], by decide +kernel⟩,
   ⟨st [wr Reg.TWN_CFG_EN 0], by decide +kernel⟩,
   fun hp => ⟨7 + 2 * edgeSec, st [wr Reg.TWN_FITT 2, wr Reg.TWN_CFG_EN 1, wr Reg.GL_STAT_OWNER 0, wr Reg.TWN_STAT_FIT 0, fun s =>
     { s with twin.fitSince := some 7, twin.unfit := false }, wr Reg.GL_MODE modeShadow, wr Reg.GL_STAT_XTALOK 1, wr Reg.IMG_VER 1, wr
     Reg.WHL_STAT_STATE 2, wr Reg.GL_STAT_GECKO 0, wr Reg.TWN_STAT_LINKUP 1, fun s =>
     { s with twin.near := true, twin.synced := true, twin.missAt := none, twin.eccAt := none, twin.padAt := none, twin.katFail := 0, twin.injBad := [], twin.partner := some { frm true [] with mode := 2 } }],
     7, by decide +kernel, by decide +kernel, by decide +kernel, by decide +kernel, by decide +kernel, by decide +kernel,
     by unfold State.healthWord; rw [hp]; decide +kernel, by decide +kernel, by decide +kernel⟩,
   ⟨st [wr Reg.TWN_CFG_EN 1, wr Reg.TWN_STAT_XFER 1, wr Reg.GL_STAT_OWNER 0], by decide +kernel⟩,
   ⟨st [wr Reg.TWN_STAT_XFER 0], by decide +kernel⟩,
   ⟨st [fun s => { s with twin.katAsked := false }], by decide +kernel⟩,
   ⟨st [wr Reg.TWN_CFG_EN 1, fun s => { s with twin.katAsked := true, twin.katOwn := none, twin.t0 := none, twin.katPartner := none }],
     by decide +kernel⟩,
   ⟨st [wr Reg.TWN_CFG_EN 1, wr Reg.GL_STAT_OWNER 1, fun s =>
     { s with twin.katAsked := true, twin.katOwn := none, twin.t0 := none, twin.katPartner := some true }], 0x5A, by decide +kernel⟩,
   ⟨st [wr Reg.TWN_CFG_EN 1, wr Reg.GL_STAT_OWNER 0, fun s =>
     { s with twin.katAsked := true, twin.katOwn := none, twin.t0 := none, twin.katPartner := some true }], 0x5A, by decide +kernel⟩,
   ⟨st [wr Reg.TWN_CFG_EN 1, wr Reg.IMG_STAT_PROB 0, fun s =>
     { s with twin.katAsked := true, twin.katOwn := none, twin.t0 := none, twin.katPartner := some false }], 0x5A, by decide +kernel⟩,
   ⟨0, st [wr Reg.TWN_CFG_EN 1, fun s =>
     { s with twin.katAsked := true, twin.katOwn := none, twin.t0 := none, twin.katPartner := some true }], by decide +kernel⟩⟩
theorem test_hyps_TwinOwnership :
    (∃ (s : State), s.core.powered = true ∧ (s.twin.gapSince = none ∨ s.twin.actIn = true)) ∧
    (∃ (t : Edges) (s : State), ∃ g, s.core.powered = true ∧ s.twin.gapSince = some g ∧ s.twin.actIn = false ∧ g + s.reg Reg.TWN_GAP * 64 /
      10 ≤ max s.now t ∧ s.twin.contest = none ∧ s.owner = false ∧ s.mayDrive = true) ∧
    (∃ (t : Edges) (s : State), ∃ g, s.core.powered = true ∧ s.twin.gapSince = some g ∧ s.twin.actIn = false ∧ g + s.reg Reg.TWN_GAP * 64 /
      10 ≤ max s.now t ∧ s.twin.contest = none ∧ s.owner = false ∧ s.mayDrive = false) ∧
    (∃ (t : Edges) (s : State), ∃ g, s.core.powered = true ∧ s.twin.gapSince = some g ∧ s.twin.actIn = false ∧ max s.now t < g + s.reg
      Reg.TWN_GAP * 64 / 10) ∧
    (∃ (t : Edges) (s : State), ∃ y, s.core.powered = true ∧ s.twin.yieldAt = some y ∧ s.twin.back = true ∧ s.twin.actIn = false ∧ s.owner
      = false ∧ s.mayDrive = true ∧ y + (s.reg Reg.TWN_GAP * 64 / 10 + 2 * edgeUs) ≤ max s.now t) ∧
    (∃ (s : State), s.core.powered = true ∧ (s.twin.yieldAt = none ∨ s.twin.back = false ∨ s.twin.actIn = true ∨ s.owner = true)) ∧
    (∃ (t : Edges) (s : State), ∃ g, s.core.powered = true ∧ s.twin.sentAt = some g ∧ s.paired = true ∧ s.owner = true ∧ s.twin.t0 = none ∧
      g + 24 * edgeUs ≤ max s.now t) ∧
    (∃ (s : State), s.core.powered = true ∧ (s.paired = false ∨ s.owner = false ∨ s.twin.sentAt = none)) ∧
    (∃ (t : Edges) (s : State), ∃ c, s.core.powered = true ∧ s.twin.contest = some c ∧ c + 50 * edgeUs ≤ max s.now t ∧ s.core.addr % 2 = 1) ∧
    (∃ (t : Edges) (s : State), ∃ c, s.core.powered = true ∧ s.twin.contest = some c ∧ c + 50 * edgeUs ≤ max s.now t ∧ s.core.addr % 2 = 0) ∧
    (∃ (t : Edges) (s : State), ∃ d, s.core.powered = true ∧ s.twin.dualAt = some d ∧ s.owner = true ∧ s.twin.actIn = true ∧ s.twin.contest
      = none ∧ s.twin.t0 = none ∧ d + edgeUs ≤ max s.now t ∧ s.core.addr % 2 = 1) ∧
    (∃ (t : Edges) (s : State), ∃ d, s.core.powered = true ∧ s.twin.dualAt = some d ∧ s.owner = true ∧ s.twin.actIn = true ∧ s.twin.contest
      = none ∧ s.twin.t0 = none ∧ d + edgeUs ≤ max s.now t ∧ s.core.addr % 2 = 0) ∧
    (∃ (s : State), s.core.powered = true ∧ (s.owner = false ∨ s.twin.dualAt = none)) ∧
    (∃ (s : State), s.core.powered = true ∧ s.supUp = true ∧ s.twin.t0.isSome = true) ∧
    (∃ (s : State) (k : Byte), s.core.powered = true ∧ s.supUp = true ∧ s.twin.t0 = none ∧ k ≠ 0xA5) ∧
    (∃ (s : State), s.core.powered = true ∧ s.supUp = true ∧ s.twin.t0 = none ∧ s.paired = true ∧ s.owner = true ∧ s.reg Reg.TWN_STAT_PFIT
      = 1) ∧
    (∃ (s : State), s.core.powered = true ∧ s.supUp = true ∧ s.twin.t0 = none ∧ (s.paired = false ∨ s.owner = true ∧ s.reg
      Reg.TWN_STAT_PFIT = 0 ∨ s.owner = false ∧ s.reg Reg.TWN_STAT_FIT = 0)) ∧
    (∃ (s : State), s.core.powered = true ∧ s.supUp = true ∧ s.twin.t0 = none ∧ s.paired = true ∧ s.owner = false ∧ s.reg Reg.TWN_STAT_FIT
      = 1) ∧
    (∃ (s : State), s.core.powered = true ∧ s.supUp = true ∧ s.twin.t0 = none ∧ (s.paired = false ∨ s.owner = false)) :=
  ⟨⟨st [fun s => { s with twin.gapSince := none }], by decide +kernel⟩,
   ⟨7 + 2 * 64 / 10, st [wr Reg.TWN_GAP 2, wr Reg.GL_STAT_OWNER 0, fun s =>
     { s with twin.gapSince := some 7, twin.actIn := false, twin.contest := none }, wr Reg.TWN_CFG_EN 1, wr Reg.GL_STAT_IMGVALID 1, wr
     Reg.GL_MODE modeShadow], 7, by decide +kernel⟩,
   ⟨7 + 2 * 64 / 10, st [wr Reg.TWN_GAP 2, wr Reg.GL_STAT_OWNER 0, fun s =>
     { s with twin.gapSince := some 7, twin.actIn := false, twin.contest := none }], 7, by decide +kernel⟩,
   ⟨(7 + 2 * 64 / 10) - 1, st [wr Reg.TWN_GAP 2, fun s => { s with twin.gapSince := some 7, twin.actIn := false }], 7, by decide +kernel⟩,
   ⟨7 + (2 * 64 / 10 + 2 * edgeUs), st [wr Reg.GL_STAT_OWNER 0, wr Reg.TWN_GAP 2, fun s =>
     { s with twin.yieldAt := some 7, twin.back := true, twin.actIn := false }, wr Reg.TWN_CFG_EN 1, wr Reg.GL_STAT_IMGVALID 1, wr
     Reg.GL_MODE modeShadow], 7, by decide +kernel⟩,
   ⟨st [fun s => { s with twin.yieldAt := none }], by decide +kernel⟩,
   ⟨7 + 24 * edgeUs, st [wr Reg.TWN_CFG_EN 1, wr Reg.GL_STAT_OWNER 1, fun s => { s with twin.sentAt := some 7, twin.t0 := none }], 7,
     by decide +kernel⟩,
   ⟨st [wr Reg.TWN_CFG_EN 0], by decide +kernel⟩,
   ⟨7 + 50 * edgeUs, st [fun s => { s with twin.contest := some 7 }, fun s => { s with core.addr := 1 }], 7, by decide +kernel⟩,
   ⟨7 + 50 * edgeUs, st [fun s => { s with twin.contest := some 7 }], 7, by decide +kernel⟩,
   ⟨7 + edgeUs, st [wr Reg.GL_STAT_OWNER 1, fun s =>
     { s with twin.dualAt := some 7, twin.actIn := true, twin.contest := none, twin.t0 := none }, fun s => { s with core.addr := 1 }], 7,
     by decide +kernel⟩,
   ⟨7 + edgeUs, st [wr Reg.GL_STAT_OWNER 1, fun s =>
     { s with twin.dualAt := some 7, twin.actIn := true, twin.contest := none, twin.t0 := none }], 7, by decide +kernel⟩,
   ⟨st [wr Reg.GL_STAT_OWNER 0], by decide +kernel⟩,
   ⟨st [fun s => { s with twin.t0 := some 0 }], by decide +kernel⟩,
   ⟨st [fun s => { s with twin.t0 := none }], 0x5A, by decide +kernel⟩,
   ⟨st [wr Reg.TWN_CFG_EN 1, wr Reg.GL_STAT_OWNER 1, wr Reg.TWN_STAT_PFIT 1, fun s => { s with twin.t0 := none }], by decide +kernel⟩,
   ⟨st [wr Reg.TWN_CFG_EN 0, fun s => { s with twin.t0 := none }], by decide +kernel⟩,
   ⟨st [wr Reg.TWN_CFG_EN 1, wr Reg.GL_STAT_OWNER 0, wr Reg.TWN_STAT_FIT 1, fun s => { s with twin.t0 := none }], by decide +kernel⟩,
   ⟨st [wr Reg.TWN_CFG_EN 0, fun s => { s with twin.t0 := none }], by decide +kernel⟩⟩
theorem test_hyps_PortTransactions :
    (∃ (s : State) (p : PortId), s.core.powered = true ∧ s.answers p = false) ∧
    (∃ (s : State) (p : PortId), s.core.powered = true ∧ (s.port p).open_ = false) ∧
    (∃ (s : State) (p : PortId), s.core.powered = true ∧ (s.port p).open_ = true ∧ (s.port p).heldWrites = [] ∧ (s.port p).buf = [] ∧
      (s.port p).late = [] ∧ (s.port p).area = none ∧ (s.port p).commit127 = none ∧ s.log.advance = false) ∧
    (∃ (s : State) (v : Nat) (i : Fin 8), s.core.powered = true ∧ s.portH.open_ = true ∧ s.portH.heldWrites = [] ∧ s.portH.buf =
      [⟨Reg.BST_CAP.place, i.val, v⟩] ∧ s.portH.late = [] ∧ s.portH.area = none ∧ s.portH.commit127 = none ∧ s.log.advance = false ∧
      s.supUp = true) ∧
    (∃ (s : State), s.core.powered = true ∧ s.booted = true ∧ s.portH.open_ = false) ∧
    (∃ (s : State), s.core.powered = true ∧ s.booted = true ∧ s.portH.open_ = false ∧ s.portH.part = none ∧ s.portH.buf = [] ∧ s.supUp =
      false) ∧
    (∃ (s : State), s.core.powered = true ∧ s.booted = true ∧ s.portH.open_ = false ∧ s.portH.part = none ∧ s.portH.buf = [] ∧ s.supUp =
      true ∧ s.mode ≠ modeShadow ∧ s.reg Reg.H_CFG_PECWR = 0) ∧
    (∃ (s : State), s.core.powered = true ∧ s.booted = true ∧ s.portH.open_ = false ∧ s.portH.part = none ∧ s.portH.buf = [] ∧ s.supUp =
      true ∧ s.mode ≠ modeShadow ∧ s.reg Reg.H_CFG_PECWR = 0 ∧ s.portH.page = 0x30) ∧
    (∃ (s : State), s.core.powered = true ∧ s.booted = true ∧ s.portH.open_ = false ∧ s.portH.latches = [] ∧ s.reg Reg.H_CFG_PECRD = 0 ∧
      s.portH.page = 0x30) :=
  ⟨⟨up, .s, by decide +kernel⟩,
   ⟨st [fun s => s.setPort .s { s.port .s with open_ := false }], .s, by decide +kernel⟩,
   ⟨st [fun s => s.setPort .s { s.port .s with open_ := true, heldWrites := [], buf := [], late := [], area := none, commit127 := none },
     fun s => { s with log.advance := false }], .s, by decide +kernel⟩,
   ⟨st [fun s =>
     { s with portH.open_ := true, portH.heldWrites := [], portH.buf := [⟨Reg.BST_CAP.place, 7, 7⟩], portH.late := [], portH.area := none, portH.commit127 := none, log.advance := false }],
     7, 7, by decide +kernel⟩,
   ⟨st [wr Reg.GL_BOOT_STEP 3, fun s => { s with portH.open_ := false }], by decide +kernel⟩,
   ⟨st [wr Reg.GL_BOOT_STEP 3, fun s => { s with portH.open_ := false, portH.part := none, portH.buf := [] }, fun s =>
     { s with core.sup := .restarting 0 }], by decide +kernel⟩,
   ⟨st [wr Reg.GL_BOOT_STEP 3, wr Reg.GL_MODE modeRun, wr Reg.H_CFG_PECWR 0, fun s =>
     { s with portH.open_ := false, portH.part := none, portH.buf := [] }], by decide +kernel⟩,
   ⟨st [wr Reg.GL_BOOT_STEP 3, wr Reg.GL_MODE modeRun, wr Reg.H_CFG_PECWR 0, fun s =>
     { s with portH.open_ := false, portH.part := none, portH.buf := [], portH.page := 0x30 }], by decide +kernel⟩,
   ⟨st [wr Reg.GL_BOOT_STEP 3, wr Reg.H_CFG_PECRD 0, fun s => { s with portH.open_ := false, portH.latches := [], portH.page := 0x30 }],
     by decide +kernel⟩⟩
theorem test_hyps_PortEvents :
    (∃ (s : State), s.core.powered = true ∧ s.booted = true ∧ s.reg Reg.H_CFG_TOUT = 1 ∧ s.portH.open_ = false) ∧
    (∃ (s : State) (p : PortId), s.core.powered = true ∧ (p = .d ∨ p = .h ∧ s.reg Reg.H_CFG_TOUT = 0 ∨ p = .s ∧ s.reg Reg.S_CFG_TOUT = 0)) ∧
    (∃ (s : State) (p : PortId), s.core.powered = true ∧ (s.port p).open_ = false) ∧
    (∃ (s : State), s.core.powered = true ∧ s.portH.open_ = true) ∧
    (∃ (s : State), s.core.powered = true) ∧
    (∃ (s : State), s.core.powered = true ∧ (s.ic.notify = false ∨ s.supUp = false ∨ s.reg Reg.H_CFG_HNEN = 0 ∨ s.portH.open_ = true ∨
      s.portH.backoff.isSome = true)) ∧
    (∃ (s : State), s.core.powered = true ∧ s.ic.notify = true ∧ s.supUp = true ∧ s.reg Reg.H_CFG_HNEN = 1 ∧ s.portH.open_ = false ∧
      s.portH.backoff = none ∧ s.icTop ≠ 0 ∧ s.portH.stuckAt = none) ∧
    (∃ (s : State), s.core.powered = true ∧ s.ic.notify = true ∧ s.supUp = true ∧ s.reg Reg.H_CFG_HNEN = 1 ∧ s.portH.open_ = false ∧
      s.portH.backoff = none ∧ s.icTop ≠ 0 ∧ s.ic.attempts < 2) ∧
    (∃ (s : State), s.core.powered = true ∧ s.ic.notify = true ∧ s.supUp = true ∧ s.reg Reg.H_CFG_HNEN = 1 ∧ s.portH.open_ = false ∧
      s.portH.backoff = none ∧ s.icTop ≠ 0 ∧ 2 ≤ s.ic.attempts) ∧
    (∃ (s : State), s.core.powered = true ∧ s.ic.notify = true ∧ s.supUp = true ∧ s.reg Reg.H_CFG_HNEN = 1 ∧ s.portH.open_ = false ∧
      s.portH.backoff = none ∧ s.icTop ≠ 0 ∧ s.ic.arb < 7) ∧
    (∃ (s : State), s.core.powered = true ∧ s.croakDue .h = false) ∧
    (∃ (s : State), s.core.powered = true ∧ s.croakDue .h = true ∧ s.supUp = true ∧ s.portH.open_ = false ∧ s.portH.backoff = none) :=
  ⟨⟨st [wr Reg.GL_BOOT_STEP 3, wr Reg.H_CFG_TOUT 1, fun s => { s with portH.open_ := false }], by decide +kernel⟩,
   ⟨up, .d, by decide +kernel⟩,
   ⟨st [fun s => s.setPort .s { s.port .s with open_ := false }], .s, by decide +kernel⟩,
   ⟨st [fun s => { s with portH.open_ := true }], by decide +kernel⟩,
   ⟨up, by decide +kernel⟩,
   ⟨st [fun s => { s with ic.notify := false }], by decide +kernel⟩,
   ⟨st [wr Reg.H_CFG_HNEN 1, fun s => { s with ic.notify := true, portH.open_ := false, portH.backoff := none, portH.stuckAt := none },
     icPend 121], by decide +kernel⟩,
   ⟨st [wr Reg.H_CFG_HNEN 1, fun s => { s with ic.notify := true, portH.open_ := false, portH.backoff := none, ic.attempts := 1 }, icPend
     121], by decide +kernel⟩,
   ⟨st [wr Reg.H_CFG_HNEN 1, fun s => { s with ic.notify := true, portH.open_ := false, portH.backoff := none, ic.attempts := 2 }, icPend
     121], by decide +kernel⟩,
   ⟨st [wr Reg.H_CFG_HNEN 1, fun s => { s with ic.notify := true, portH.open_ := false, portH.backoff := none, ic.arb := 6 }, icPend 121],
     by decide +kernel⟩,
   ⟨up, by decide +kernel⟩,
   ⟨st [fun s => { s with portH.open_ := false, portH.backoff := none }, fun s => { s with ic.notify := true }], by decide +kernel⟩⟩
theorem test_hyps_SecurityCommands :
    (∃ (s : State) (c : SecCmd), s.up ∧ c.port = .h ∧ c.key ≠ 0xA5) ∧
    (∃ (s : State), s.up ∧ (s.lifecycle ≠ 0 ∨ s.mode ≠ modeLockout ∨ s.otp.hasActive = false)) ∧
    (∃ (s : State), s.up ∧ s.lifecycle = 0 ∧ s.mode = modeLockout ∧ s.otp.hasActive = true) ∧
    (∃ (s : State), s.up ∧ (s.lifecycle ≠ 1 ∨ s.mode = modeHoldup)) ∧
    (∃ (s : State), s.up ∧ s.lifecycle = 1 ∧ s.mode ≠ modeHoldup ∧ s.tokenScope 4 = false) ∧
    (∃ (s : State), s.up ∧ s.lifecycle = 1 ∧ s.mode ≠ modeHoldup ∧ s.tokenScope 4 = true) ∧
    (∃ (s : State), s.up ∧ (s.lifecycle ≠ 1 ∧ s.lifecycle ≠ 2 ∨ s.mode ≠ modeLockout)) ∧
    (∃ (s : State), s.up ∧ (s.lifecycle = 1 ∨ s.lifecycle = 2) ∧ s.mode = modeLockout ∧ s.tokenScope 3 = false) ∧
    (∃ (s : State), s.up ∧ (s.lifecycle = 1 ∨ s.lifecycle = 2) ∧ s.mode = modeLockout ∧ s.tokenScope 3 = true) ∧
    (∃ (s : State), s.up ∧ (1 < s.lifecycle ∨ s.mode ≠ modeLockout ∧ s.mode ≠ modeTadpole)) ∧
    (∃ (s : State), s.up ∧ s.lifecycle = 1 ∧ (s.mode = modeLockout ∨ s.mode = modeTadpole) ∧ s.tokenScope 5 = false) ∧
    (∃ (s : State) (arg : Byte), s.up ∧ s.lifecycle = 0 ∧ (s.mode = modeLockout ∨ s.mode = modeTadpole) ∧ (4 ≤ arg.toNat ∨ ∃ (k : Fin 4),
      k.val = arg.toNat ∧ s.otp.keys[k].st ≠ .empty)) ∧
    ((∀ k, Config.onCurve k = true) → ∃ (s : State) (arg : Byte) (k : Fin 4), s.up ∧ k.val = arg.toNat ∧ s.lifecycle = 0 ∧ (s.mode =
      modeLockout ∨ s.mode = modeTadpole) ∧ s.otp.keys[k].st = .empty ∧ Config.onCurve s.keyStaged = true) ∧
    (∃ (s : State), s.up ∧ s.mode = modeHoldup) ∧
    (∃ (s : State) (arg : Byte), s.up ∧ s.lifecycle = 0 ∧ s.mode ≠ modeHoldup ∧ (4 ≤ arg.toNat ∨ arg.toNat = s.reg Reg.IMG_KEYSLOT ∨
      s.otp.otherActive arg.toNat = false)) ∧
    (∃ (s : State) (arg : Byte) (k : Fin 4), s.up ∧ k.val = arg.toNat ∧ s.lifecycle = 0 ∧ s.mode ≠ modeHoldup ∧ k.val ≠ s.reg
      Reg.IMG_KEYSLOT ∧ s.otp.otherActive k = true ∧ s.sec.token = none) ∧
    (∃ (s : State), s.up ∧ (s.mode = modeTadpole ∨ s.mode = modeShadow ∨ s.mode = modeLockout)) ∧
    (∃ (s : State), s.up ∧ s.reg Reg.SEC_DBGLVL_LEVEL = 2 ∧ (s.mode = modeTadpole ∨ s.mode = modeShadow ∨ s.mode = modeLockout) ∧
      s.core.sup = .running) ∧
    (∃ (s : State), s.up ∧ s.reg Reg.SEC_DBGLVL_LEVEL = 2 ∧ (s.mode = modeRun ∨ s.mode = modeHoldup)) ∧
    (∃ (s : State) (arg : Byte), s.up ∧ s.reg Reg.SEC_DBGLVL_LEVEL = 2 ∧ (s.lifecycle = 1 ∨ s.lifecycle = 2) ∧ s.mode = modeTadpole ∧
      s.owner = true ∧ 48 ≤ arg.toNat) ∧
    (∃ (s : State) (arg : Byte), s.up ∧ s.reg Reg.SEC_DBGLVL_LEVEL = 2 ∧ (s.lifecycle = 1 ∨ s.lifecycle = 2) ∧ s.mode = modeTadpole ∧
      s.owner = true ∧ arg.toNat < 48) ∧
    (∃ (s : State), s.up ∧ s.reg Reg.SEC_DBGLVL_LEVEL = 2 ∧ (s.lifecycle = 0 ∨ s.lifecycle = 3 ∨ s.mode ≠ modeTadpole ∨ s.owner = false)) :=
  ⟨⟨up, ⟨.h, 0xA4, 0, 0⟩, by unfold State.up; decide +kernel⟩,
   ⟨st [wr Reg.SEC_LC 2], by unfold State.up; decide +kernel⟩,
   ⟨st [wr Reg.SEC_LC 0, wr Reg.GL_MODE modeLockout, fun s => { s with otp.keys := s.otp.keys.set 3 ⟨.active, []⟩ }],
     by unfold State.up; decide +kernel⟩,
   ⟨st [wr Reg.SEC_LC 2], by unfold State.up; decide +kernel⟩,
   ⟨st [wr Reg.SEC_LC 1, wr Reg.GL_MODE modeRun], by unfold State.up; decide +kernel⟩,
   ⟨st [wr Reg.SEC_LC 1, wr Reg.GL_MODE modeRun, fun s => { s with sec.token := some ⟨16, 0, 1⟩ }], by unfold State.up; decide +kernel⟩,
   ⟨st [wr Reg.SEC_LC 2], by unfold State.up; decide +kernel⟩,
   ⟨st [wr Reg.SEC_LC 1, wr Reg.GL_MODE modeLockout], by unfold State.up; decide +kernel⟩,
   ⟨st [wr Reg.SEC_LC 1, wr Reg.GL_MODE modeLockout, fun s => { s with sec.token := some ⟨8, 0, 1⟩ }], by unfold State.up; decide +kernel⟩,
   ⟨st [wr Reg.SEC_LC 2], by unfold State.up; decide +kernel⟩,
   ⟨st [wr Reg.SEC_LC 1, wr Reg.GL_MODE modeLockout], by unfold State.up; decide +kernel⟩,
   ⟨st [wr Reg.SEC_LC 0, wr Reg.GL_MODE modeLockout], 0x5A, by unfold State.up; decide +kernel⟩,
   fun hc => ⟨st [wr Reg.SEC_LC 0, wr Reg.GL_MODE modeLockout], 3, 3, by unfold State.up State.supUp; decide +kernel, by decide +kernel,
     by decide +kernel, by decide +kernel, by decide +kernel, hc _⟩,
   ⟨st [wr Reg.GL_MODE modeHoldup], by unfold State.up; decide +kernel⟩,
   ⟨st [wr Reg.SEC_LC 0, wr Reg.GL_MODE modeRun], 0x5A, by unfold State.up; decide +kernel⟩,
   ⟨st [wr Reg.SEC_LC 0, wr Reg.GL_MODE modeRun, fun s => { s with sec.token := none }, wr Reg.IMG_KEYSLOT 0, fun s =>
     { s with otp.keys := s.otp.keys.set 0 ⟨.active, []⟩ }], 3, 3, by unfold State.up; decide +kernel⟩,
   ⟨st [wr Reg.GL_MODE modeTadpole], by unfold State.up; decide +kernel⟩,
   ⟨st [wr Reg.SEC_DBGLVL_LEVEL 2, wr Reg.GL_MODE modeTadpole], by unfold State.up; decide +kernel⟩,
   ⟨st [wr Reg.SEC_DBGLVL_LEVEL 2, wr Reg.GL_MODE modeRun], by unfold State.up; decide +kernel⟩,
   ⟨st [wr Reg.SEC_DBGLVL_LEVEL 2, wr Reg.SEC_LC 1, wr Reg.GL_MODE modeTadpole, wr Reg.GL_STAT_OWNER 1], 0x5A,
     by unfold State.up; decide +kernel⟩,
   ⟨st [wr Reg.SEC_DBGLVL_LEVEL 2, wr Reg.SEC_LC 1, wr Reg.GL_MODE modeTadpole, wr Reg.GL_STAT_OWNER 1], 47,
     by unfold State.up; decide +kernel⟩,
   ⟨st [wr Reg.SEC_DBGLVL_LEVEL 2, wr Reg.SEC_LC 0], by unfold State.up; decide +kernel⟩⟩
theorem test_hyps_TokensAndDebug :
    (∃ (s : State) (h : Nat), s.core.powered = true ∧ s.core.sup = .halted h ∧ s.reg Reg.SEC_DBGLVL_HALT = 1 ∧ s.reg Reg.SEC_DBGLVL_LEVEL =
      2 ∧ s.core.heldEvents = []) ∧
    (∃ (s : State), s.core.powered = true) ∧
    (∃ (s : State) (p : PortId), s.core.powered = true ∧ s.supUp = true ∧ p ≠ .s ∧ s.sec.verifying = none) ∧
    (∃ (s : State) (p : PortId), s.core.powered = true ∧ s.supUp = true ∧ p ≠ .s ∧ s.sec.verifying.isSome = true) ∧
    (∃ (s : State), s.core.powered = true ∧ (s.sec.verifying = none ∨ s.supUp = false)) ∧
    (∃ (s : State), ∃ v, s.core.powered = true ∧ s.sec.verifying = some v ∧ s.supUp = true ∧ s.tokenResult v ≠ 2) ∧
    ((∀ m x k, Config.ecdsaVerify m x k = true) → ∃ (s : State), ∃ v, s.core.powered = true ∧ s.sec.verifying = some v ∧ s.supUp = true ∧
      s.tokenResult v = 2) ∧
    (∃ (s : State), ∃ v, ∃ (b : List Byte), s.core.powered = true ∧ s.sec.verifying = some v ∧ s.supUp = true ∧ v.bytes = b ∧ b.length ≠
      104) ∧
    (∃ (s : State), ∃ k, s.core.powered = true ∧ s.sec.token = some k ∧ s.reg Reg.JRN_OPSEC < k.expiry) ∧
    (∃ (s : State), ∃ k, s.core.powered = true ∧ s.sec.token = some k ∧ k.expiry ≤ s.reg Reg.JRN_OPSEC) ∧
    (∃ (s : State), s.core.powered = true ∧ s.sec.token = none) ∧
    (∃ (s : State) (l : Fin 4), s.core.powered = true ∧ s.debugAllowed l s.mode = false) ∧
    (∃ (s : State) (l : Fin 4), s.core.powered = true ∧ s.debugAllowed l s.mode = true ∧ s.supUp = true) ∧
    (∃ (s : State), s.core.powered = true ∧ s.lifecycle = 2 ∧ s.sec.token = none) ∧
    (∃ (s : State), ∃ m, s.core.powered = true ∧ m ≠ modeLockout ∧ (s.lifecycle = 0 ∨ s.lifecycle = 3)) ∧
    (∃ (s : State), s.core.powered = true ∧ s.lifecycle ≠ 0 ∧ s.lifecycle ≠ 3) ∧
    (∃ (s : State), s.core.powered = true ∧ (s.lifecycle = 0 ∨ s.lifecycle = 3)) :=
  ⟨⟨st [wr Reg.SEC_DBGLVL_HALT 1, wr Reg.SEC_DBGLVL_LEVEL 2, fun s => { s with core.sup := .halted 7, core.heldEvents := [] }], 7,
     by decide +kernel⟩,
   ⟨up, by decide +kernel⟩,
   ⟨st [fun s => { s with sec.verifying := none }], .d, by decide +kernel⟩,
   ⟨st [fun s => { s with sec.verifying := some ⟨false, [], 0, true⟩ }], .d, by decide +kernel⟩,
   ⟨st [fun s => { s with sec.verifying := none }], by decide +kernel⟩,
   ⟨st [fun s => { s with sec.verifying := some (⟨false, [], 0, true⟩) }], ⟨false, [], 0, true⟩, by decide +kernel⟩,
   fun hv => ⟨tokSt, tokVer, rfl, rfl, by decide +kernel, tokSt_ok hv⟩,
   ⟨st [fun s => { s with sec.verifying := some (⟨false, [], 0, true⟩) }], ⟨false, [], 0, true⟩, [], by decide +kernel⟩,
   ⟨st [fun s => { s with sec.token := some (⟨1, 0, 1⟩) }], ⟨1, 0, 1⟩, by decide +kernel⟩,
   ⟨st [fun s => { s with sec.token := some (⟨1, 0, 0⟩) }], ⟨1, 0, 0⟩, by decide +kernel⟩,
   ⟨st [fun s => { s with sec.token := none }], by decide +kernel⟩,
   ⟨up, 3, by decide +kernel⟩,
   ⟨st [wr Reg.SEC_LC 0, wr Reg.GL_MODE modeLockout], 2, by decide +kernel⟩,
   ⟨st [wr Reg.SEC_LC 2, fun s => { s with sec.token := none }], by decide +kernel⟩,
   ⟨st [wr Reg.SEC_LC 0], 0, by decide +kernel⟩,
   ⟨st [wr Reg.SEC_LC 2], by decide +kernel⟩,
   ⟨st [wr Reg.SEC_LC 0], by decide +kernel⟩⟩

end Sys2Proof.Tests
end

/-! Load steps (R158-R161): what WARN_PULSE, WARN_STUCK and WARN_RELEASED do. First the reading rules of the
operations they use, then one equation per branch of a pulse's judgement, then the statement clause by clause. -/

namespace Sys2Proof.LoadSteps

open Sys2Proof Sys2Proof.Machine Sys2Proof.Laws

/-! Bits and counters as a register shows them. -/

theorem bitOf_setBit_same (v k : Nat) (b : Bool) : bitOf (setBit v k b) k = b := by
  have hk : k < max 64 (k + 1) := by omega
  cases b <;> simp [bitOf, setBit, Nat.testBit_two_pow_sub_one, hk]

theorem bitOf_reg_put_setBit (s : State) (f : Field) (v k : Nat) (b : Bool) (hk : k < f.width) :
    bitOf ((s.put f (setBit v k b)).reg f) k = b := by
  rw [reg_put_same, bitOf, Nat.testBit_mod_two_pow, decide_eq_true hk, Bool.true_and]
  exact bitOf_setBit_same v k b

/-- A saturated count fits its field. -/
theorem satNat_mod (w v : Nat) : satNat w v % 2 ^ w = min (2 ^ w - 1) v := by
  have := Nat.two_pow_pos w
  rw [satNat, Nat.min_comm, Nat.mod_eq_of_lt (by omega)]

/-! The WARN inputs and the feed-forward classes: what their updates write, and what they leave. -/

@[simp] theorem setWarn_regAt (s : State) (i : Nat) (v : WarnSt) (f : Field) (j : Nat) : (s.setWarn i v).regAt f j = s.regAt f j := rfl
@[simp] theorem setWarn_reg (s : State) (i : Nat) (v : WarnSt) (f : Field) : (s.setWarn i v).reg f = s.reg f := rfl
@[simp] theorem setWarn_ff (s : State) (i : Nat) (v : WarnSt) : (s.setWarn i v).step.ff = s.step.ff := rfl

theorem warnIn_setWarn_same (s : State) (i : Nat) (v : WarnSt) (hi : i < 16) : (s.setWarn i v).warnIn i = v := by
  simp [State.warnIn, State.setWarn, hi]

theorem ffOf_setFf_same (s : State) (k : Nat) (v : FfSt) (hk : k < 4) : (s.setFf k v).ffOf k = v := by
  simp [State.ffOf, State.setFf, hk]

@[simp] theorem warnIn_setFf (s : State) (k : Nat) (v : FfSt) (i : Nat) : (s.setFf k v).warnIn i = s.warnIn i := rfl

theorem warnIn_of_step {s u : State} (h : u.step = s.step) (i : Nat) : u.warnIn i = s.warnIn i := by
  unfold State.warnIn; rw [h]

theorem ffOf_of_ff {s u : State} (h : u.step.ff = s.step.ff) (k : Nat) : u.ffOf k = s.ffOf k := by
  unfold State.ffOf; rw [h]

/-! How a command ends. -/

@[simp] theorem ended_step (t : Edges) (s : State) (f : State → State) : (ended t s f).step = (f (s.at t)).step := by simp [ended]
@[simp] theorem ended_phases (t : Edges) (s : State) (f : State → State) : (ended t s f).phases = (f (s.at t)).phases := by
  simp [ended]
theorem ended_warnIn (t : Edges) (s : State) (f : State → State) (i : Nat) : (ended t s f).warnIn i = (f (s.at t)).warnIn i :=
  warnIn_of_step (by simp) i
theorem ended_ffOf (t : Edges) (s : State) (f : State → State) (k : Nat) : (ended t s f).ffOf k = (f (s.at t)).ffOf k :=
  ffOf_of_ff (by simp) k

/-- A command of the shared form whose effect at its instant is `m` does what is true after `m`. -/
theorem does_of_effect {c : Instr} {t : Edges} {s m : State} {f : State → State} {P : State → Prop} (hp : s.core.powered = true)
    (hc : exec c s = live t s f) (hm : f (s.at t) = m) (h : P (ended t s fun _ => m)) : Does c s P := by
  subst hm
  exact does_live hp hc h

/-! A WARN command at its instant, with the input's level noted in STP_WLEVEL. -/

/-- The level of input `i` noted. -/
def levelNoted (i : Nat) (low : Bool) (s : State) : State := s.putBit Reg.STP_WLEVEL i low

section
variable (t : Edges) (i : Nat) (low : Bool) (s : State)

@[simp] theorem levelNoted_step : (levelNoted i low (s.at t)).step = s.step := rfl
@[simp] theorem levelNoted_warnIn (j : Nat) : (levelNoted i low (s.at t)).warnIn j = s.warnIn j := rfl

theorem levelNoted_regAt (f : Field) (j : Nat) (hf : f.place ≠ Reg.STP_WLEVEL.place) :
    (levelNoted i low (s.at t)).regAt f j = s.regAt f j := regAt_put_other (s.at t) _ _ _ _ hf

theorem levelNoted_reg (f : Field) (hf : f.place ≠ Reg.STP_WLEVEL.place) : (levelNoted i low (s.at t)).reg f = s.reg f :=
  levelNoted_regAt t i low s f 0 hf

theorem levelNoted_wlevel (hi : i < 16) : bitOf ((levelNoted i low (s.at t)).reg Reg.STP_WLEVEL) i = low :=
  bitOf_reg_put_setBit _ _ _ _ _ hi

theorem levelNoted_warnHeard : (levelNoted i low (s.at t)).warnHeard i = s.warnHeard i := by
  unfold State.warnHeard
  rw [levelNoted_reg _ _ _ _ _ (by decide), levelNoted_reg _ _ _ _ _ (by decide)]

theorem levelNoted_onlyRegsQuiet (fs : List Field) (hf : Reg.STP_WLEVEL.place ∈ fs.map Field.place) :
    OnlyRegsQuiet fs s (levelNoted i low (s.at t)) :=
  onlyRegsQuiet_put (onlyRegsQuiet_of_regs fs rfl) _ _ hf

end

/-! The judgement of a pulse (R159, R160): the class of its width, and one equation per branch. -/

theorem warnClass_runt {w : Nat} (h : w < 3200) : warnClass w = 5 := if_pos h

/-- R159: a width that is no runt and in no class is malformed. -/
theorem warnClass_malformed {w : Nat} (h : 3200 ≤ w) (hc : ¬(1 ≤ warnClass w ∧ warnClass w ≤ 4)) : warnClass w = 0 := by
  unfold warnClass at hc ⊢
  rw [if_neg (by omega)] at hc ⊢
  split_ifs at hc ⊢ <;> omega

/-- A pulse of input `i` that is not accepted: counted in `f` and flagged in `g`, and, where the second since the last event has
passed, told in event `code` with the instant noted in `v` (R159, R160). -/
def warnRefused (f g : Field) (due : Bool) (i : Nat) (v : WarnSt) (code p1 : Nat) (s : State) : State :=
  if due then (((s.bumpAt f i).flag g).setWarn i v).raise code 2 0x07 i p1 else (s.bumpAt f i).flag g

/-- The state an accepted pulse of class `c` leaves before it acts: noted, counted and shown. -/
def warnNoted (i fall c : Nat) (s : State) : State :=
  ((s.setWarn i { s.warnIn i with fall := some fall }).bumpAt Reg.STP_WACC i).setWlast i c

theorem warnPulse_runt {s : State} {i fall rise : Nat} (hc : warnClass (rise - fall) = 5) :
    s.warnPulse i fall rise = s.bump Reg.STP_WRUNT := by
  unfold State.warnPulse
  exact if_pos hc

theorem warnPulse_malformed {s : State} {i fall rise : Nat} (hc : warnClass (rise - fall) = 0) :
    s.warnPulse i fall rise = warnRefused Reg.STP_WBAD Reg.STP_FLAGS_MALFORMED (s.secondPassed (s.warnIn i).badAt) i
      { s.warnIn i with badAt := some s.now } 0x2140 ((rise - fall) / 16) s := by
  unfold State.warnPulse
  dsimp only
  rw [if_neg (by omega), if_pos hc]
  rfl

theorem warnPulse_close {s : State} {i fall rise f : Nat} (hc : 1 ≤ warnClass (rise - fall) ∧ warnClass (rise - fall) ≤ 4)
    (hf : (s.warnIn i).fall = some f) (hclose : fall < f + 20 * edgeUs) :
    s.warnPulse i fall rise = warnRefused Reg.STP_WRATE Reg.STP_FLAGS_RATE (s.secondPassed (s.warnIn i).rateAt) i
      { s.warnIn i with rateAt := some s.now } 0x2142 ((fall - f) / 16) s := by
  unfold State.warnPulse
  dsimp only
  rw [if_neg (by omega), if_neg (by omega), hf]
  dsimp only
  rw [if_pos hclose]
  rfl

theorem warnPulse_accepted {s : State} {i fall rise : Nat} (hc : 1 ≤ warnClass (rise - fall) ∧ warnClass (rise - fall) ≤ 4)
    (hclose : ¬(s.warnIn i).fall.any (fun f => decide (fall < f + 20 * edgeUs)) = true) :
    s.warnPulse i fall rise = (warnNoted i fall (warnClass (rise - fall)) s).warnActs (warnClass (rise - fall)) := by
  unfold State.warnPulse
  dsimp only
  rw [if_neg (by omega), if_neg (by omega)]
  cases hf : (s.warnIn i).fall with
  | none => rfl
  | some f =>
    have hgap : ¬fall < f + 20 * edgeUs := by simpa [hf] using hclose
    dsimp only
    rw [if_neg hgap]
    rfl

/-! What a pulse that is not accepted does. -/

section
variable (f g : Field) (due : Bool) (i : Nat) (v : WarnSt) (code p1 : Nat) (s : State)

/-- Outside the recorder the event changes no register. -/
theorem warnRefused_regAt (r : Field) (hr : onRecPages r = false) (j : Nat) :
    (warnRefused f g due i v code p1 s).regAt r j = ((s.bumpAt f i).flag g).regAt r j := by
  unfold warnRefused
  split
  · exact raise_regAt _ _ _ _ _ _ (by decide) r hr j
  · rfl

theorem warnRefused_count (hf : onRecPages f = false) (hfg : f.place ≠ g.place) :
    (warnRefused f g due i v code p1 s).regAt f i = min (2 ^ f.width - 1) (s.regAt f i + 1) := by
  rw [warnRefused_regAt _ _ _ _ _ _ _ _ _ hf, flag_eq, regAt_put_other _ _ _ _ _ hfg, bumpAt_eq, regAt_putAt_same, satNat_mod]

theorem warnRefused_flag (hg : onRecPages g = false) (hw : 0 < g.width) : (warnRefused f g due i v code p1 s).reg g = 1 := by
  rw [reg_regAt, warnRefused_regAt _ _ _ _ _ _ _ _ _ hg, flag_eq, regAt_put_same, Nat.one_mod_two_pow hw]

/-- The feed-forward stays. -/
theorem warnRefused_ff : (warnRefused f g due i v code p1 s).step.ff = s.step.ff := by
  unfold warnRefused
  split
  · rw [raise_step _ _ _ _ _ _ (by decide), setWarn_ff]; rfl
  · rfl

/-- The last accepted pulse stays. -/
theorem warnRefused_fall {x : Option Nat} (hi : i < 16) (hv : v.fall = x) (hs : (s.warnIn i).fall = x) :
    ((warnRefused f g due i v code p1 s).warnIn i).fall = x := by
  unfold warnRefused
  split
  · rw [warnIn_of_step (raise_step _ _ _ _ _ _ (by decide)), warnIn_setWarn_same _ _ _ hi, hv]
  · exact hs

end

/-! What an accepted pulse does (R164). -/

/-- The leap of the phases that an accepted pulse of class `c` asks for (R90, R164). -/
def warnLeap (c : Nat) (s : State) : State :=
  if s.reg Reg.PH_WARNMIN ≠ 0 ∧ s.reg Reg.PH_WARNMIN ≤ c then bayIds.foldl (fun s b => s.phaseStep b 2) s else s

theorem frame_warnLeap (c : Nat) (s : State) : Frame 0x2c01040 0xc000030020 s (warnLeap c s) :=
  Frame.ite (fun _ => (Frame.refl _ _ s).foldlT fun a b => frame_phaseStep (Frame.refl _ _ a) b 2 (by decide) (by decide))
    (fun _ => Frame.refl _ _ s)

theorem warnLeap_step (c : Nat) (s : State) : (warnLeap c s).step = s.step := (frame_warnLeap c s).f_step (by decide)
theorem warnLeap_now (c : Nat) (s : State) : (warnLeap c s).now = s.now := (frame_warnLeap c s).f_now (by decide)
theorem warnLeap_ffen (c : Nat) (s : State) : (warnLeap c s).reg Reg.STP_CTL_FFEN = s.reg Reg.STP_CTL_FFEN :=
  (frame_warnLeap c s).f_regs _ 0 (by decide)

/-- The state in which an accepted pulse has armed its class and the phases have leapt. -/
def warnArmed (c : Nat) (s : State) : State :=
  warnLeap c { s with sup.arm := s.sup.arm.setIfInBounds (c - 1) (some (s.reg Reg.WHL_CYC)) }

theorem warnArmed_step (c : Nat) (s : State) : (warnArmed c s).step = s.step := warnLeap_step c _
theorem warnArmed_now (c : Nat) (s : State) : (warnArmed c s).now = s.now := warnLeap_now c _
theorem warnArmed_ffen (c : Nat) (s : State) : (warnArmed c s).reg Reg.STP_CTL_FFEN = s.reg Reg.STP_CTL_FFEN := warnLeap_ffen c _

theorem warnActs_unmanaged {s : State} (c : Nat) (h : s.phasesManaged = false) : s.warnActs c = s := by
  unfold State.warnActs
  rw [h]; rfl

theorem warnActs_managed {s : State} (c : Nat) (h : s.phasesManaged = true) :
    s.warnActs c = if (warnArmed c s).isSet Reg.STP_CTL_FFEN then
      (warnArmed c s).setFf (c - 1) { (warnArmed c s).ffOf (c - 1) with
        wait := ((warnArmed c s).ffOf (c - 1)).wait ++ [(warnArmed c s).now] } else warnArmed c s := by
  unfold State.warnActs
  rw [if_pos h]; rfl

/-- An accepted pulse's class leaves the inputs as they are. -/
theorem warnActs_warnIn (s : State) (c i : Nat) : (s.warnActs c).warnIn i = s.warnIn i := by
  cases h : s.phasesManaged with
  | false => rw [warnActs_unmanaged c h]
  | true =>
    rw [warnActs_managed c h]
    split
    · rw [warnIn_setFf, warnIn_of_step (warnArmed_step c s)]
    · exact warnIn_of_step (warnArmed_step c s) i

/-- The registers of the step page are not an accepted pulse's class to write. -/
theorem warnActs_regAt (s : State) (c : Nat) (f : Field) (j : Nat) (hf : Nat.testBit 0xc000030020 f.onPage = false) :
    (s.warnActs c).regAt f j = s.regAt f j :=
  (frame_warnActs (P := 0x6c01040) (G := 0xc000030020) (Frame.refl _ _ s) c (by decide) (by decide)).f_regs f j hf

/-- R164, R165: with STP_CTL.FFEN an injection of the pulse's class waits from this instant. -/
theorem warnActs_wait {s : State} (c : Nat) (hc : c < 4) (h : s.phasesManaged = true) (hff : s.reg Reg.STP_CTL_FFEN = 1) :
    ((s.warnActs (c + 1)).ffOf c).wait = (s.ffOf c).wait ++ [s.now] := by
  have hset : (warnArmed (c + 1) s).isSet Reg.STP_CTL_FFEN = true := by rw [isSet_eq, warnArmed_ffen, hff]; rfl
  rw [warnActs_managed _ h, if_pos hset, Nat.add_sub_cancel, ffOf_setFf_same _ _ _ hc, warnArmed_now,
    ffOf_of_ff (congrArg StepSt.ff (warnArmed_step _ s))]

/-- R160: STP_WLAST shows in the input's half byte the class of its last accepted pulse. -/
theorem setWlast_shows (s : State) (i c : Nat) (hc : c < 16) :
    (s.setWlast i c).regAt Reg.STP_WLAST (i / 2) / 16 ^ (i % 2) % 16 = c := by
  have hw : Reg.STP_WLAST.width = 8 := rfl
  unfold State.setWlast
  rw [regAt_putAt_same, hw]
  rcases Nat.mod_two_eq_zero_or_one i with h | h
  · rw [if_pos h, h]; omega
  · rw [if_neg (by omega), h]; omega

section
variable (i fall c : Nat) (s : State)

theorem warnNoted_warnIn (hi : i < 16) : (warnNoted i fall c s).warnIn i = { s.warnIn i with fall := some fall } :=
  warnIn_setWarn_same s i _ hi

theorem warnNoted_wacc : (warnNoted i fall c s).regAt Reg.STP_WACC i =
    min (2 ^ Reg.STP_WACC.width - 1) (s.regAt Reg.STP_WACC i + 1) := by
  unfold warnNoted State.setWlast
  dsimp only
  rw [regAt_putAt_other _ _ _ _ _ _ (by decide), bumpAt_eq, regAt_putAt_same, satNat_mod, setWarn_regAt]

theorem warnNoted_onlyRegsQuiet {s₀ : State} {fs : List Field} (h : OnlyRegsQuiet fs s₀ s)
    (hacc : Reg.STP_WACC.place ∈ fs.map Field.place) (hlast : Reg.STP_WLAST.place ∈ fs.map Field.place) :
    OnlyRegsQuiet fs s₀ (warnNoted i fall c s) :=
  onlyRegsQuiet_putAt (onlyRegsQuiet_putAt (fun f j hf => h f j hf) _ _ _ hacc) _ _ _ hlast

theorem warnNoted_reg (f : Field) (hacc : f.place ≠ Reg.STP_WACC.place) (hlast : f.place ≠ Reg.STP_WLAST.place) :
    (warnNoted i fall c s).reg f = s.reg f :=
  (reg_putAt_other _ _ _ _ _ hlast).trans (reg_putAt_other _ _ _ _ _ hacc)

end

theorem phasesManaged_of_mode {s u : State} (h : u.mode = s.mode) : u.phasesManaged = s.phasesManaged := by
  unfold State.phasesManaged; rw [h]

/-! An input found stuck (R161). -/

/-- The state in which input `i`, low since `fall`, is marked stuck and counted. -/
def stuckNoted (i fall : Nat) (s : State) : State :=
  ((s.setWarn i { s.warnIn i with stuckAt := fall }).putBit Reg.STP_WSTUCK i true).bumpAt Reg.STP_WBAD i

section
variable (i fall : Nat) (s : State)

theorem stuckNoted_regAt (f : Field) (j : Nat) (hs : f.place ≠ Reg.STP_WSTUCK.place) (hb : f.place ≠ Reg.STP_WBAD.place) :
    (stuckNoted i fall s).regAt f j = s.regAt f j :=
  (regAt_putAt_other _ _ _ _ _ _ hb).trans (regAt_put_other _ _ _ _ _ hs)

theorem stuckNoted_wstuck (hi : i < 16) : bitOf ((stuckNoted i fall s).reg Reg.STP_WSTUCK) i = true := by
  unfold stuckNoted
  rw [bumpAt_eq, reg_putAt_other _ _ _ _ _ (by decide)]
  exact bitOf_reg_put_setBit _ _ _ _ _ hi

theorem stuckNoted_wbad : (stuckNoted i fall s).regAt Reg.STP_WBAD i =
    min (2 ^ Reg.STP_WBAD.width - 1) (s.regAt Reg.STP_WBAD i + 1) := by
  unfold stuckNoted
  rw [bumpAt_eq, regAt_putAt_same, satNat_mod, putBit_eq, regAt_put_other _ _ _ _ _ (by decide), setWarn_regAt]

end

/-! The commands, clause by clause. -/

theorem exec_warnPulse (t : Edges) (i : Fin 16) (fall rise : Edges) (s : State) :
    exec (.warnPulse t i fall rise) s = live t s fun a =>
      if (levelNoted i false a).warnHeard i ∧
          rise - fall ≤ (levelNoted i false a).reg Reg.STP_STUCKT * edgeUs then
        (levelNoted i false a).warnPulse i fall rise
      else levelNoted i false a := rfl

theorem exec_warnStuck (t : Edges) (i : Fin 16) (fall : Edges) (s : State) :
    exec (.warnStuck t i fall) s = live t s fun a =>
      if (levelNoted i true a).warnHeard i ∧
          fall + (levelNoted i true a).reg Reg.STP_STUCKT * edgeUs < (levelNoted i true a).now then
        ((stuckNoted i fall (levelNoted i true a)).flag Reg.STP_FLAGS_STUCK).raise 0x2141 4 0x07 i
          (stuckNoted i fall (levelNoted i true a)).mode
      else levelNoted i true a := rfl

theorem exec_warnReleased (t : Edges) (i : Fin 16) (s : State) :
    exec (.warnReleased t i) s = live t s fun a =>
      if bitOf (a.reg Reg.STP_WSTUCK) i then
        (((a.putBit Reg.STP_WSTUCK i false).putBit Reg.STP_WLEVEL i false).flag Reg.STP_FLAGS_RELEASED).raise 0x2143 1 0x07 i
          ((a.now - edgeMs - (a.warnIn i).stuckAt) / edgeMs)
      else a := rfl

/-- What WARN_PULSE asks before it judges a pulse, read before the level is noted (R158, R161). -/
theorem levelNoted_judges (t : Edges) (i : Fin 16) (fall w : Edges) (s : State) :
    ((levelNoted i false (s.at t)).warnHeard i = true ∧ fall + w - fall ≤ (levelNoted i false (s.at t)).reg Reg.STP_STUCKT * edgeUs) ↔
      s.warnHeard i = true ∧ w ≤ s.reg Reg.STP_STUCKT * edgeUs := by
  rw [levelNoted_warnHeard, levelNoted_reg _ _ _ _ _ (by decide), Nat.add_sub_cancel_left]

section
variable {t fall w : Edges} {i : Fin 16} {s : State} {P : State → Prop} (hp : s.core.powered = true)
include hp

/-- A pulse of an input that is heard, no wider than STP_STUCKT, is judged. -/
theorem does_warnPulse_heard (hh : s.warnHeard i = true) (hw : w ≤ s.reg Reg.STP_STUCKT * edgeUs)
    (h : P (ended t s fun _ => (levelNoted i false (s.at t)).warnPulse i fall (fall + w))) : Does (.warnPulse t i fall (fall + w)) s P :=
  does_of_effect hp (exec_warnPulse t i fall _ s) (if_pos ((levelNoted_judges t i fall w s).mpr ⟨hh, hw⟩)) h

/-- R158, R161: an input that is not heard, or a width beyond STP_STUCKT, is no pulse: the level alone is noted. -/
theorem does_warnPulse_unheard (hn : s.warnHeard i = false ∨ s.reg Reg.STP_STUCKT * edgeUs < w) :
    Does (.warnPulse t i fall (fall + w)) s fun u => u.step = s.step ∧ OnlyRegsQuiet [Reg.STP_WLEVEL] s u := by
  have hno : ¬(s.warnHeard i = true ∧ w ≤ s.reg Reg.STP_STUCKT * edgeUs) := by
    rintro ⟨hh, hw⟩
    rcases hn with hn | hn
    · exact absurd hh (by simp [hn])
    · exact absurd hw (Nat.not_le.mpr hn)
  exact does_of_effect hp (exec_warnPulse t i fall _ s) (if_neg (mt (levelNoted_judges t i fall w s).mp hno))
    ⟨ended_step t s _, onlyRegsQuiet_ended (levelNoted_onlyRegsQuiet t i false s _ (by decide))⟩

/-- R159: a runt is counted. -/
theorem does_warnPulse_runt (hh : s.warnHeard i = true) (hr : w < 3200) (hw : w ≤ s.reg Reg.STP_STUCKT * edgeUs) :
    Does (.warnPulse t i fall (fall + w)) s fun u =>
      u.reg Reg.STP_WRUNT = min (2 ^ Reg.STP_WRUNT.width - 1) (s.reg Reg.STP_WRUNT + 1) ∧ u.step = s.step ∧
      OnlyRegsQuiet [Reg.STP_WLEVEL, Reg.STP_WRUNT] s u := by
  refine does_warnPulse_heard hp hh hw ?_
  rw [warnPulse_runt (by rw [Nat.add_sub_cancel_left]; exact warnClass_runt hr)]
  refine ⟨?_, by simp, onlyRegsQuiet_ended (onlyRegsQuiet_put (levelNoted_onlyRegsQuiet t i false s _ (by decide)) _ _ (by decide))⟩
  rw [ended_reg, bump_eq, reg_put_same, satNat_mod, levelNoted_reg _ _ _ _ _ (by decide)]

/-- R159: a malformed pulse is counted and flagged; where its input has told of none before, the event is raised. -/
theorem does_warnPulse_malformed (hh : s.warnHeard i = true) (hr : 3200 ≤ w) (hc : ¬(1 ≤ warnClass w ∧ warnClass w ≤ 4))
    (hw : w ≤ s.reg Reg.STP_STUCKT * edgeUs) :
    Does (.warnPulse t i fall (fall + w)) s fun u =>
      u.regAt Reg.STP_WBAD i = min (2 ^ Reg.STP_WBAD.width - 1) (s.regAt Reg.STP_WBAD i + 1) ∧ u.reg Reg.STP_FLAGS_MALFORMED = 1 ∧
      (u.warnIn i).fall = (s.warnIn i).fall ∧ u.step.ff = s.step.ff ∧
      ((s.warnIn i).badAt = none → Raised 0x2140 2 i (w / 16) s u) := by
  refine does_warnPulse_heard hp hh hw ?_
  rw [warnPulse_malformed (by rw [Nat.add_sub_cancel_left]; exact warnClass_malformed hr hc), Nat.add_sub_cancel_left]
  refine ⟨?_, ?_, ?_, ?_, fun hb => raised_ended ?_⟩
  · rw [ended_regAt, warnRefused_count _ _ _ _ _ _ _ _ (by decide) (by decide), levelNoted_regAt _ _ _ _ _ _ (by decide)]
  · rw [ended_reg, warnRefused_flag _ _ _ _ _ _ _ _ (by decide) (by decide)]
  · rw [ended_warnIn]
    exact warnRefused_fall _ _ _ _ _ _ _ _ i.isLt rfl rfl
  · rw [ended_step, warnRefused_ff, levelNoted_step]
  · have hdue : (levelNoted i false (s.at t)).secondPassed ((levelNoted i false (s.at t)).warnIn i).badAt = true := by
      rw [levelNoted_warnIn, hb]; rfl
    rw [warnRefused, if_pos hdue]
    refine raised_raise _ _ _ _ _ (.inl (by decide)) rfl ?_
    rw [setWarn_reg, flag_eq, reg_put_other _ _ _ _ (by decide), bumpAt_eq, reg_putAt_other _ _ _ _ _ (by decide),
      levelNoted_reg _ _ _ _ _ (by decide)]

/-- R160: a pulse within 20 us of the last accepted is counted and flagged, and not accepted. -/
theorem does_warnPulse_close (hh : s.warnHeard i = true) (hc : 1 ≤ warnClass w ∧ warnClass w ≤ 4)
    (hclose : (s.warnIn i).fall.any (fun f => decide (fall < f + 20 * edgeUs)) = true) (hw : w ≤ s.reg Reg.STP_STUCKT * edgeUs) :
    Does (.warnPulse t i fall (fall + w)) s fun u =>
      u.regAt Reg.STP_WRATE i = min (2 ^ Reg.STP_WRATE.width - 1) (s.regAt Reg.STP_WRATE i + 1) ∧ u.reg Reg.STP_FLAGS_RATE = 1 ∧
      (u.warnIn i).fall = (s.warnIn i).fall ∧ u.step.ff = s.step.ff := by
  obtain ⟨f, hf, hgap⟩ := (Option.any_eq_true _ _).mp hclose
  refine does_warnPulse_heard hp hh hw ?_
  rw [warnPulse_close (s := levelNoted i false (s.at t)) (by rwa [Nat.add_sub_cancel_left]) hf (of_decide_eq_true hgap)]
  refine ⟨?_, ?_, ?_, ?_⟩
  · rw [ended_regAt, warnRefused_count _ _ _ _ _ _ _ _ (by decide) (by decide), levelNoted_regAt _ _ _ _ _ _ (by decide)]
  · rw [ended_reg, warnRefused_flag _ _ _ _ _ _ _ _ (by decide) (by decide)]
  · rw [ended_warnIn]
    exact warnRefused_fall _ _ _ _ _ _ _ _ i.isLt rfl rfl
  · rw [ended_step, warnRefused_ff, levelNoted_step]

/-- R160, R164: any other pulse of class `c + 1` is accepted. -/
theorem does_warnPulse_accepted (hh : s.warnHeard i = true)
    (hclose : ¬(s.warnIn i).fall.any (fun f => decide (fall < f + 20 * edgeUs)) = true) (hw : w ≤ s.reg Reg.STP_STUCKT * edgeUs)
    (c : Fin 4) (hc : warnClass w = c.val + 1) :
    Does (.warnPulse t i fall (fall + w)) s fun u =>
      u.regAt Reg.STP_WACC i = min (2 ^ Reg.STP_WACC.width - 1) (s.regAt Reg.STP_WACC i + 1) ∧
      u.regAt Reg.STP_WLAST (i / 2) / 16 ^ (i.val % 2) % 16 = c.val + 1 ∧ (u.warnIn i).fall = some fall ∧
      (s.mode = modeRun → s.reg Reg.STP_CTL_FFEN = 1 → (u.ffOf c).wait = (s.ffOf c).wait ++ [max s.now t]) ∧
      ((s.mode = modeTadpole ∨ s.mode = modeLockout) → u.step.ff = s.step.ff ∧ u.phases = s.phases ∧
        OnlyRegsQuiet [Reg.STP_WLEVEL, Reg.STP_WACC, Reg.STP_WLAST] s u) := by
  have hcl : 1 ≤ warnClass (fall + w - fall) ∧ warnClass (fall + w - fall) ≤ 4 := by rw [Nat.add_sub_cancel_left]; omega
  refine does_warnPulse_heard hp hh hw ?_
  rw [warnPulse_accepted (s := levelNoted i false (s.at t)) hcl hclose, Nat.add_sub_cancel_left, hc]
  set n := warnNoted i fall (c.val + 1) (levelNoted i false (s.at t))
  have hreg : ∀ f : Field, f.place ≠ Reg.STP_WACC.place → f.place ≠ Reg.STP_WLAST.place → f.place ≠ Reg.STP_WLEVEL.place →
      n.reg f = s.reg f := fun f ha hl hv => (warnNoted_reg _ _ _ _ f ha hl).trans (levelNoted_reg _ _ _ _ f hv)
  have hmode : n.mode = s.mode := hreg Reg.GL_MODE (by decide) (by decide) (by decide)
  refine ⟨?_, ?_, ?_, fun hm hff => ?_, fun hm => ?_⟩
  · rw [ended_regAt, warnActs_regAt _ _ _ _ (by decide), warnNoted_wacc, levelNoted_regAt _ _ _ _ _ _ (by decide)]
  · rw [ended_regAt, warnActs_regAt _ _ _ _ (by decide)]
    exact setWlast_shows _ i _ (by omega)
  · rw [ended_warnIn, warnActs_warnIn]
    exact congrArg WarnSt.fall (warnNoted_warnIn _ _ _ _ i.isLt)
  · have hman : n.phasesManaged = true := by rw [phasesManaged_of_mode hmode, State.phasesManaged, hm]; rfl
    rw [ended_ffOf]
    exact warnActs_wait c.val c.isLt hman ((hreg _ (by decide) (by decide) (by decide)).trans hff)
  · have hman : n.phasesManaged = false := by
      rw [phasesManaged_of_mode hmode, State.phasesManaged]
      rcases hm with hm | hm <;> rw [hm] <;> rfl
    rw [warnActs_unmanaged _ hman]
    refine ⟨?_, ?_, onlyRegsQuiet_ended ?_⟩
    · rw [ended_step]; rfl
    · rw [ended_phases]; rfl
    · exact warnNoted_onlyRegsQuiet _ _ _ _ (levelNoted_onlyRegsQuiet t i false s _ (by decide)) (by decide) (by decide)

/-- R161: an input low beyond STP_STUCKT is stuck. -/
theorem does_warnStuck (hh : s.warnHeard i = true) (hlow : fall + s.reg Reg.STP_STUCKT * edgeUs < max s.now t) :
    Does (.warnStuck t i fall) s fun u =>
      bitOf (u.reg Reg.STP_WSTUCK) i = true ∧ bitOf (u.reg Reg.STP_WLEVEL) i = true ∧ u.reg Reg.STP_FLAGS_STUCK = 1 ∧
      u.regAt Reg.STP_WBAD i = min (2 ^ Reg.STP_WBAD.width - 1) (s.regAt Reg.STP_WBAD i + 1) ∧ Raised 0x2141 4 i s.mode s u := by
  have hstuck : (levelNoted i true (s.at t)).warnHeard i = true ∧
      fall + (levelNoted i true (s.at t)).reg Reg.STP_STUCKT * edgeUs < (levelNoted i true (s.at t)).now := by
    rw [levelNoted_warnHeard, levelNoted_reg _ _ _ _ _ (by decide)]
    exact ⟨hh, hlow⟩
  have hmode : (stuckNoted i fall (levelNoted i true (s.at t))).mode = s.mode :=
    (stuckNoted_regAt _ _ _ _ 0 (by decide) (by decide)).trans (levelNoted_reg _ _ _ _ _ (by decide))
  refine does_of_effect hp (exec_warnStuck t i fall s) (if_pos hstuck) ⟨?_, ?_, ?_, ?_, raised_ended ?_⟩
  · rw [ended_reg, raise_reg _ _ _ _ _ _ (by decide) _ (by decide), flag_eq, reg_put_other _ _ _ _ (by decide)]
    exact stuckNoted_wstuck _ _ _ i.isLt
  · rw [ended_reg, raise_reg _ _ _ _ _ _ (by decide) _ (by decide), flag_eq, reg_put_other _ _ _ _ (by decide), reg_regAt,
      stuckNoted_regAt _ _ _ _ _ (by decide) (by decide)]
    exact levelNoted_wlevel t i true s i.isLt
  · rw [ended_reg, raise_reg _ _ _ _ _ _ (by decide) _ (by decide), flag_eq, reg_put_same]; rfl
  · rw [ended_regAt, raise_regAt _ _ _ _ _ _ (by decide) _ (by decide), flag_eq, regAt_put_other _ _ _ _ _ (by decide),
      stuckNoted_wbad, levelNoted_regAt _ _ _ _ _ _ (by decide)]
  · rw [← hmode]
    refine raised_raise _ _ _ _ _ (.inl (by decide)) rfl ?_
    rw [flag_eq, reg_put_other _ _ _ _ (by decide), reg_regAt, stuckNoted_regAt _ _ _ _ _ (by decide) (by decide)]
    exact levelNoted_reg _ _ _ _ _ (by decide)

/-- R161: a stuck input high for 1 ms is released. -/
theorem does_warnReleased (hs : bitOf (s.reg Reg.STP_WSTUCK) i = true) :
    Does (.warnReleased t i) s fun u =>
      bitOf (u.reg Reg.STP_WSTUCK) i = false ∧ u.reg Reg.STP_FLAGS_RELEASED = 1 ∧ u.step = s.step ∧
      Raised 0x2143 1 i ((max s.now t - edgeMs - (s.warnIn i).stuckAt) / edgeMs) s u := by
  refine does_of_effect hp (exec_warnReleased t i s) (if_pos hs) ⟨?_, ?_, ?_, raised_ended ?_⟩
  · rw [ended_reg, raise_reg _ _ _ _ _ _ (by decide) _ (by decide), flag_eq, reg_put_other _ _ _ _ (by decide), putBit_eq,
      reg_put_other _ _ _ _ (by decide)]
    exact bitOf_reg_put_setBit _ _ _ _ _ i.isLt
  · rw [ended_reg, raise_reg _ _ _ _ _ _ (by decide) _ (by decide), flag_eq, reg_put_same]; rfl
  · rw [ended_step, raise_step _ _ _ _ _ _ (by decide)]; rfl
  · refine raised_raise _ _ _ _ _ (.inl (by decide)) rfl ?_
    rw [flag_eq, reg_put_other _ _ _ _ (by decide), putBit_eq, reg_put_other _ _ _ _ (by decide), putBit_eq,
      reg_put_other _ _ _ _ (by decide), at_reg]

end

/-- Settles O30: each clause is one of the commands' lemmas above. -/
theorem warnPulses : Obligations.WarnPulses := by
  unfold Obligations.WarnPulses
  intro t i fall w s hp
  refine ⟨fun hs => ?_, does_warnPulse_unheard hp, does_warnPulse_runt hp, does_warnPulse_malformed hp, does_warnPulse_close hp,
    does_warnPulse_accepted hp, does_warnStuck hp, does_warnReleased hp⟩
  rw [State.warnHeard, hs, Bool.not_true, Bool.and_false]

end Sys2Proof.LoadSteps

/-! A load that finds no slot to try, on probation (R63, R308, R313): its event 0x7020 of severity 6 fails the probation in SHADOW, so
that the probation's own events stand last. First what those events leave as the last record, then one state in which this happens. -/

namespace Sys2Proof.ImageLoads

open Sys2Proof Sys2Proof.Machine Sys2Proof.Laws

/-! The last record after an event, and after a probation that fails. -/

theorem snapDropped_last (s : State) (code : Nat) : ∃ r, (s.snapDropped code).log.last = some r ∧ r.code = 0x7056 := by
  obtain ⟨r, hlast, hcode, -⟩ := record_last _ 0x7056 _ _ _ _ _ _
  exact ⟨r, hlast, hcode⟩

/-- R354: a snapshot's trigger raises nothing but the event of a dropped snapshot. -/
theorem snapTrigger_last (s : State) (m : Bool) (seq code sev kind p0 : Nat) :
    (s.snapTrigger m seq code sev kind p0).log.last = s.log.last ∨
      ∃ r, (s.snapTrigger m seq code sev kind p0).log.last = some r ∧ r.code = 0x7056 := by
  unfold State.snapTrigger
  dsimp only
  split_ifs
  case neg => exact .inr (snapDropped_last _ _)
  all_goals exact .inl rfl

/-- R345, R354: the last record is the event's own, or tells of the snapshot it lost. -/
theorem recordEvent_last (s : State) (code sev unit p0 p1 p2 p3 : Nat) :
    ∃ r, (s.recordEvent code sev unit p0 p1 p2 p3).log.last = some r ∧ (r.code = code ∨ r.code = 0x7056) := by
  obtain ⟨r, hlast, hcode, -⟩ := record_last s code sev unit p0 p1 p2 p3
  unfold State.recordEvent
  dsimp only
  split
  · rcases snapTrigger_last (s.record code sev unit p0 p1 p2 p3) false _ code sev 0 p0 with hkept | ⟨q, hq, hqc⟩
    · exact ⟨r, hkept.trans hlast, .inl hcode⟩
    · exact ⟨q, hq, .inr hqc⟩
  · exact ⟨r, hlast, .inl hcode⟩

theorem scheduleLoad_log (s : State) (k : LoadKind) (cause : Nat) : (s.scheduleLoad k cause).log = s.log :=
  (frame_scheduleLoad (P := 0x400040038) (G := 0x1000000000004) (Frame.refl _ _ s) k cause (by decide) (by decide)).f_log (by decide)

/-- The events a failed probation can leave as the last one: that of the failure, that of the refused revert, that of a lost snapshot. -/
def probationFailCodes : List Nat := [0x7005, 0x7007, 0x7056]

/-- R313, R315: after a probation that fails the last record is one of the probation's own. -/
theorem failProbation_last (s : State) (code : Nat) :
    ∃ r, (s.failProbation code).log.last = some r ∧ r.code ∈ probationFailCodes := by
  unfold State.failProbation
  dsimp only
  split
  · obtain ⟨r, hlast, hcode⟩ := recordEvent_last _ _ _ _ _ _ _ _
    exact ⟨r, hlast, by rcases hcode with h | h <;> simp [h, probationFailCodes]⟩
  · obtain ⟨r, hlast, hcode⟩ := recordEvent_last _ _ _ _ _ _ _ _
    exact ⟨r, (congrArg LogSt.last (scheduleLoad_log _ _ _)).trans hlast,
      by rcases hcode with h | h <;> simp [h, probationFailCodes]⟩

/-- R313: an event of severity 6 or 7 in SHADOW on probation fails it. -/
theorem raise_failsProbation {s : State} {code sev unit p0 p1 : Nat} (hup : s.supUp = true) (hsev : 6 ≤ sev)
    (hprob : s.reg Reg.IMG_STAT_PROB = 1) (hmode : s.mode = modeShadow) :
    s.raise code sev unit p0 p1 =
      (s.recordEvent code sev unit p0 p1 s.angle (s.reg Reg.WHL_CYC)).failProbation code := by
  have hprob' := (recordEvent_reg s code sev unit p0 p1 s.angle (s.reg Reg.WHL_CYC) Reg.IMG_STAT_PROB (by decide)).trans hprob
  have hmode' := (recordEvent_reg s code sev unit p0 p1 s.angle (s.reg Reg.WHL_CYC) Reg.GL_MODE (by decide)).trans hmode
  unfold State.raise State.raise4
  dsimp only
  rw [if_pos hup, if_pos ⟨hsev, hprob', .inr (.inr hmode')⟩]

/-! The state in which a load that failed raises its event. -/

/-- A load given up. -/
def loadCleared (s : State) : State :=
  { s with core.load := none, img.staged := none, img.revertFrom := none }.put Reg.IMG_STAT_LOADING 0

/-- R63: what a load that failed leaves before its event: the outgoing image in force again, or none in force. -/
def loadUndone (s : State) : State :=
  (if (loadCleared s).imgValid then
      ((loadCleared s).jrn.pins.foldl State.writePin ((loadCleared s).applyCells (loadCleared s).img.cfg)).imageDerive
    else (loadCleared s).put Reg.GL_BOOT_STEP 7).refreshOther

theorem loadFailed_eq (s : State) (last : Nat) (atStart : Bool) :
    s.loadFailed last atStart = (loadUndone s).raise 0x7020 6 0x02 (if atStart then 0 else 1) last := rfl

/-! What a load that failed keeps of the registers that no image sets, where no feed is judged yet. -/

theorem fieldGet_copyInsts_other (f g : Field) (src dst : Cells) (n j : Nat) (h : g.place ≠ f.place) :
    fieldGet (copyInsts f src dst n) g j = fieldGet dst g j := by
  induction n with
  | zero => rfl
  | succ n ih => exact (fieldGet_fieldPut_other _ _ _ _ _ _ (key_ne_of_place h _ _)).trans ih

theorem fieldGet_copyAll_other (g : Field) (src dst : Cells) (fs : List Field) (j : Nat) (h : g.place ∉ fs.map Field.place) :
    fieldGet (copyAll src dst fs) g j = fieldGet dst g j := by
  induction fs generalizing dst with
  | nil => rfl
  | cons f fs ih =>
    rw [List.map_cons, List.mem_cons, not_or] at h
    exact (ih _ h.2).trans (fieldGet_copyInsts_other f g src dst f.insts j h.1)

theorem calAdopt_reg (s : State) (f : Field) (hpage : Nat.testBit 0xc000000030 f.onPage = false) : s.calAdopt.reg f = s.reg f :=
  (frame_calAdopt (P := 0x81048) (Frame.refl _ _ s) (by decide) (by decide)).f_regs f 0 hpage

/-- R47, R304: an image's values leave every register but the configuration fields and those of the calendar's and the recorder's pages. -/
theorem applyCells_reg (s : State) (c : Cells) (f : Field) (hcfg : f.place ∉ configFields.map Field.place)
    (hpage : Nat.testBit 0xc000000030 f.onPage = false) : (s.applyCells c).reg f = s.reg f := by
  unfold State.applyCells
  refine (calAdopt_reg _ f hpage).trans ?_
  unfold State.reg
  dsimp only
  exact fieldGet_copyAll_other f c s.regs configFields 0 hcfg

/-- R201: feed `x` as HUP_CFG selects it. -/
def feedConfigured (s : State) (x : Feed) : State :=
  if s.feedCfg x then (if s.feedSt x = feedUnused then s.setFeedSt x feedLost else s)
  else if s.feedSt x = feedUnused then s else ((s.setFeedSt x feedUnused).setQcnt x 0).mainsChange x

theorem feedsConfigured_eq (s : State) : s.feedsConfigured = feedConfigured (feedConfigured s .a) .b := rfl

/-- R201: a feed not judged yet is LOST where HUP_CFG selects it, and that is all. -/
theorem feedConfigured_of_unused {s : State} {x : Feed} (h : s.feedSt x = feedUnused) :
    feedConfigured s x = if s.feedCfg x then s.setFeedSt x feedLost else s := by
  rw [feedConfigured, if_pos h, if_pos h]

theorem frame_feedConfigured_of_unused {s : State} {x : Feed} (h : s.feedSt x = feedUnused) :
    Frame 0x0 0x4000000 s (feedConfigured s x) := by
  rw [feedConfigured_of_unused h]
  exact Frame.ite (fun _ => frame_setFeedSt (Frame.refl _ _ s) _ _ (by decide) (by decide)) (fun _ => Frame.refl _ _ s)

theorem feedSt_b_feedConfigured_a {s : State} (h : s.feedSt .a = feedUnused) : (feedConfigured s .a).feedSt .b = s.feedSt .b := by
  rw [feedConfigured_of_unused h]
  split
  · exact reg_put_other _ _ _ _ (by decide)
  · rfl

theorem frame_feedsConfigured_of_unused {s : State} (ha : s.feedSt .a = feedUnused) (hb : s.feedSt .b = feedUnused) :
    Frame 0x0 0x4000000 s s.feedsConfigured := by
  rw [feedsConfigured_eq]
  exact (frame_feedConfigured_of_unused ha).trans (frame_feedConfigured_of_unused ((feedSt_b_feedConfigured_a ha).trans hb))

/-- What the blocks derive from a configuration, where no feed is judged yet: neither the mode nor the image's registers. -/
theorem frame_imageDerive_of_unused {s : State} (ha : s.feedSt .a = feedUnused) (hb : s.feedSt .b = feedUnused) :
    Frame 0x23c01c40 0x400c10c1b0020 s s.imageDerive := by
  have hbays : Frame 0x23c01c40 0x400c1081b0020 s (bayIds.foldl State.deriveBay s.trimsInForce) :=
    (frame_trimsInForce (Frame.refl _ _ s) (by decide) (by decide)).foldlT
      fun a b => frame_deriveBay (Frame.refl _ _ a) b (by decide) (by decide)
  have hblocks : Frame 0x23c01c40 0x400c1081b0020 s (bayIds.foldl State.deriveBay s.trimsInForce).fusesImage.stringsImage :=
    frame_stringsImage (frame_fusesImage hbays (by decide) (by decide)) (by decide) (by decide)
  exact (hblocks.mono (by decide) (by decide)).step
    (frame_feedsConfigured_of_unused ((hblocks.f_regs Reg.HUP_FEEDST_A 0 (by decide)).trans ha)
      ((hblocks.f_regs Reg.HUP_FEEDST_B 0 (by decide)).trans hb)) (by decide) (by decide)

/-- The registers read here are not the image's to set. -/
theorem not_configFields : Reg.IMG_STAT_PROB.place ∉ configFields.map Field.place ∧
    Reg.GL_MODE.place ∉ configFields.map Field.place ∧
    Reg.HUP_FEEDST_A.place ∉ configFields.map Field.place ∧ Reg.HUP_FEEDST_B.place ∉ configFields.map Field.place := by
  decide +kernel

theorem supUp_of_sup {s u : State} (h : u.core.sup = s.core.sup) : u.supUp = s.supUp := by
  unfold State.supUp; rw [h]

theorem loadCleared_reg (s : State) (f : Field) (hf : f.place ≠ Reg.IMG_STAT_LOADING.place) : (loadCleared s).reg f = s.reg f :=
  reg_put_other _ _ _ _ hf

theorem refreshOther_reg (s : State) (f : Field) (hver : f.place ≠ Reg.IMG_OTHVER.place) (hres : f.place ≠ Reg.IMG_OTHRES.place) :
    s.refreshOther.reg f = s.reg f :=
  (reg_put_other _ _ _ _ hres).trans (reg_put_other _ _ _ _ hver)

/-- R63, R321: without pins the outgoing image comes back into force as it came. -/
theorem loadUndone_eq {s : State} (hv : s.imgValid = true) (hpins : s.jrn.pins = []) :
    loadUndone s = ((loadCleared s).applyCells s.img.cfg).imageDerive.refreshOther := by
  have hv' : (loadCleared s).imgValid = true := by
    rw [State.imgValid, isSet_eq, loadCleared_reg _ _ (by decide)]; exact hv
  have hpins' : (loadCleared s).jrn.pins = [] := hpins
  rw [loadUndone, if_pos hv', hpins']
  rfl

/-- R63: with the outgoing image back in force the supervisor, its probation and the mode are as they were. -/
theorem loadUndone_keeps {s : State} (hv : s.imgValid = true) (hpins : s.jrn.pins = []) (ha : s.feedSt .a = feedUnused)
    (hb : s.feedSt .b = feedUnused) : (loadUndone s).supUp = s.supUp ∧
      (loadUndone s).reg Reg.IMG_STAT_PROB = s.reg Reg.IMG_STAT_PROB ∧ (loadUndone s).mode = s.mode := by
  obtain ⟨cProb, cMode, cA, cB⟩ := not_configFields
  have happ : ∀ f : Field, f.place ∉ configFields.map Field.place → Nat.testBit 0xc000000030 f.onPage = false →
      f.place ≠ Reg.IMG_STAT_LOADING.place → ((loadCleared s).applyCells s.img.cfg).reg f = s.reg f :=
    fun f hcfg hpage hload => (applyCells_reg _ _ f hcfg hpage).trans (loadCleared_reg s f hload)
  have hderive := frame_imageDerive_of_unused ((happ _ cA (by decide) (by decide)).trans ha) ((happ _ cB (by decide) (by decide)).trans hb)
  have happlySup := (frame_applyCells (P := 0x81048) (G := 0xffffffffffffffff) (Frame.refl _ _ (loadCleared s)) s.img.cfg
    (by decide) (by decide)).f_supv (by decide)
  rw [loadUndone_eq hv hpins]
  refine ⟨supUp_of_sup ((hderive.f_supv (by decide)).trans happlySup), ?_, ?_⟩
  · exact (refreshOther_reg _ _ (by decide) (by decide)).trans
      ((hderive.f_regs _ 0 (by decide)).trans (happ _ cProb (by decide) (by decide)))
  · exact (refreshOther_reg _ _ (by decide) (by decide)).trans
      ((hderive.f_regs _ 0 (by decide)).trans (happ _ cMode (by decide) (by decide)))

/-! IMAGE_CHECK_DONE where no slot is to be tried. -/

theorem loadSlots_at (s : State) (t : Edges) (k : LoadKind) : (s.at t).loadSlots k = s.loadSlots k := by cases k <;> rfl

/-- What IMAGE_CHECK_DONE does to a state at its instant (R310). -/
def imageChecked (s : State) : State :=
  match s.core.load with
  | none => s
  | some l => if l.staged || !s.supUp then s else s.tryslots (l.kind == .start) 3 (s.loadSlots l.kind)

theorem exec_imageCheckDone (t : Edges) (s : State) : exec (.imageCheckDone t) s = live t s imageChecked := rfl

/-- R308: with no slot to try the load fails. -/
theorem imageChecked_noSlot {t : Edges} {s : State} {l : Load} (hl : s.core.load = some l) (hup : s.supUp = true)
    (hst : l.staged = false) (hslots : s.loadSlots l.kind = []) :
    imageChecked (s.at t) = (s.at t).loadFailed 3 (l.kind == .start) := by
  have hup' : (s.at t).supUp = true := hup
  unfold imageChecked
  rw [at_core, hl]
  dsimp only
  rw [hst, hup', loadSlots_at, hslots]
  rfl

/-- What a command of the shared form does holds of the state it ends in. -/
theorem of_does_live {c : Instr} {t : Edges} {s : State} {f : State → State} {P : State → Prop} (hp : s.core.powered = true)
    (hc : exec c s = live t s f) (h : Does c s P) : P (ended t s f) := by
  obtain ⟨u, hu, hP⟩ := h
  have hend : ended t s f = u := Host.Outcome.next.inj ((live_powered hp).symm.trans (hc.symm.trans hu))
  rwa [hend]

theorem ended_last (t : Edges) (s : State) (f : State → State) : (ended t s f).log.last = (f (s.at t)).log.last := by simp [ended]

/-! The state of the refutation. -/

/-- A standby in SHADOW with version 1 of slot A in force and on probation, in a RELOAD that finds no slot READY because neither boot
descriptor reads. No event triggers a snapshot: REC_SNSEV is 0, in the image too. -/
def shadowReload : State :=
  let s := { State.reset with
    core.powered := true, core.load := some ⟨.reload, 0, false, 1⟩, img.cfg := fieldPut [] Reg.REC_SNSEV 0 0 }
  let s := ((s.put Reg.GL_MODE modeShadow).put Reg.GL_STAT_IMGVALID 1).put Reg.REC_SNSEV 0
  (((s.put Reg.IMG_STAT_SLOT 0).put Reg.IMG_VER 1).put Reg.IMG_STAT_PROB 1).put Reg.IMG_STAT_LOADING 1

/-- The state meets the premises of the load that finds no slot to try. -/
theorem shadowReload_premises : shadowReload.core.powered = true ∧ shadowReload.supUp = true ∧
    shadowReload.loadSlots .reload = [] ∧ shadowReload.reg Reg.REC_SNSEV = 0 := by
  decide +kernel

/-- At the instant of the check an image without pins is in force, and no feed is judged yet. -/
theorem shadowReload_image : (shadowReload.at 0).imgValid = true ∧ (shadowReload.at 0).jrn.pins = [] ∧
    (shadowReload.at 0).feedSt .a = feedUnused ∧ (shadowReload.at 0).feedSt .b = feedUnused := by
  decide +kernel

/-- At the instant of the check the image is on probation, in SHADOW. -/
theorem shadowReload_probation : (shadowReload.at 0).supUp = true ∧ (shadowReload.at 0).reg Reg.IMG_STAT_PROB = 1 ∧
    (shadowReload.at 0).mode = modeShadow := by
  decide +kernel

/-- After the failed load the last record is the probation's, not event 0x7020. -/
theorem shadowReload_last : ∃ r, (ended 0 shadowReload imageChecked).log.last = some r ∧ r.code ∈ probationFailCodes := by
  obtain ⟨-, hup, hslots, -⟩ := shadowReload_premises
  obtain ⟨hv, hpins, ha, hb⟩ := shadowReload_image
  obtain ⟨hup', hprob, hmode⟩ := shadowReload_probation
  obtain ⟨kup, kprob, kmode⟩ := loadUndone_keeps hv hpins ha hb
  rw [ended_last, imageChecked_noSlot (l := ⟨.reload, 0, false, 1⟩) rfl hup rfl hslots, loadFailed_eq,
    raise_failsProbation (kup.trans hup') (by decide) (kprob.trans hprob) (kmode.trans hmode)]
  exact failProbation_last _ _

/-- Refutes O48: the statement has event 0x7020 last of all after every load that finds no slot to try, also while the image in force
is on probation. In SHADOW, where a RELOAD runs at once (R61), that event of severity 6 fails the probation (R313), whose event 0x7005
and, with no slot to revert to, 0x7007 follow it. `shadowReload` is such a state. -/
theorem not_imageLoad : ¬ Obligations.ImageLoad := by
  unfold Obligations.ImageLoad
  rintro ⟨-, h⟩
  obtain ⟨hp, hup, hslots, hsnsev⟩ := shadowReload_premises
  obtain ⟨-, noSlot, -⟩ := h 0 shadowReload hp
  obtain ⟨-, -, -, -, -, hraised⟩ :=
    of_does_live hp (exec_imageCheckDone 0 shadowReload) (noSlot ⟨.reload, 0, false, 1⟩ rfl hup rfl hslots)
  have hlast := hraised (.inl hsnsev)
  rw [Raised, if_pos hup] at hlast
  obtain ⟨r, hr, hcode, -⟩ := hlast (.inl hsnsev)
  obtain ⟨q, hq, hmem⟩ := shadowReload_last
  obtain rfl : r = q := Option.some.inj (hr.symm.trans hq)
  rw [hcode] at hmem
  exact absurd hmem (by decide)

end Sys2Proof.ImageLoads

/-! Nonces, tokens, debug levels and the boundary scan (R430-R442). First how a halt, a session and a token end, and what they leave as
it was; then one equation per branch of a token's verification; then the statement command by command. -/

namespace Sys2Proof.DebugAccess

open Sys2Proof Sys2Proof.Machine Sys2Proof.Laws Sys2Proof.LoadSteps Sys2Proof.ImageLoads

/-! What the end of a command, and an event below severity 6, leave of the security block and of the supervisor. -/

@[simp] theorem ended_sec (t : Edges) (s : State) (f : State → State) : (ended t s f).sec = (f (s.at t)).sec := by simp [ended]
@[simp] theorem ended_core (t : Edges) (s : State) (f : State → State) : (ended t s f).core = (f (s.at t)).core := by simp [ended]

theorem supUp_iff (s : State) : s.supUp = true ↔ s.core.sup = .running := decide_eq_true_iff

theorem supUp_raise (s : State) (code sev unit p0 p1 : Nat) (h : sev < 6) : (s.raise code sev unit p0 p1).supUp = s.supUp :=
  supUp_of_sup (raise_core_sup s code sev unit p0 p1 h)

/-- An event below severity 6 is recorded at once by a supervisor that runs. -/
theorem raise_of_up {s : State} {code sev unit p0 p1 : Nat} (hup : s.supUp = true) (hsev : sev < 6) :
    s.raise code sev unit p0 p1 = s.recordEvent code sev unit p0 p1 s.angle (s.reg Reg.WHL_CYC) := by
  unfold State.raise State.raise4
  dsimp only
  rw [if_pos hup, if_neg (by omega)]

/-- R345, R354: the last record is the event's own with its parameters, or tells of the snapshot it lost. -/
theorem recordEvent_last_params (s : State) (code sev unit p0 p1 p2 p3 : Nat) :
    ∃ r, (s.recordEvent code sev unit p0 p1 p2 p3).log.last = some r ∧
      (r.code = code ∧ r.p0 = p0 % 2 ^ 32 ∧ r.p1 = p1 % 2 ^ 32 ∨ r.code = 0x7056) := by
  obtain ⟨r, hlast, hcode, -, hp0, hp1, -⟩ := record_last s code sev unit p0 p1 p2 p3
  unfold State.recordEvent
  dsimp only
  split
  · rcases snapTrigger_last (s.record code sev unit p0 p1 p2 p3) false _ code sev 0 p0 with hkept | ⟨q, hq, hqc⟩
    · exact ⟨r, hkept.trans hlast, .inl ⟨hcode, hp0, hp1⟩⟩
    · exact ⟨q, hq, .inr hqc⟩
  · exact ⟨r, hlast, .inl ⟨hcode, hp0, hp1⟩⟩

/-! The end of a halt (R441, R442). -/

/-- The pages an event can write whatever its severity, which the supervisor's return writes too. -/
def eventPages : Nat := 0x500c000000024

theorem frame_supResume_eventPages (s : State) : Frame 0xc00041c78 eventPages s s.supResume :=
  frame_supResume (Frame.refl _ _ s) (by decide) (by decide)

theorem supResume_sup (s : State) : s.supResume.core.sup = .running := by
  have hraise : ∀ (a : State) (e : HeldEvent), (a.raise4 e.code e.sev e.unit e.p0 e.p1 e.p2 e.p3).core.sup = a.core.sup := fun a e =>
    (frame_raise4 (P := 0x400041c78) (G := eventPages) (Frame.refl _ _ a) _ _ _ _ _ _ _ (by decide) (by decide)).f_supv (by decide)
  have hflush : ∀ a : State, a.jDrain.flushKick.core.sup = a.core.sup := fun a =>
    (frame_flushKick (P := 0x1c00) (G := 0x400c000000020) (frame_jDrain (Frame.refl _ _ a) (by decide) (by decide))
      (by decide) (by decide)).f_supv (by decide)
  unfold State.supResume
  exact (hflush _).trans (foldl_keeps (fun a : State => a.core.sup) _ hraise _ _)

/-- The state of a supervisor back from its halt, before it says so. -/
def haltLeft (s : State) : State := ((s.put Reg.SEC_DBGLVL_HALT 0).supResume).flag Reg.SEC_FLAGS_HALT

theorem endHalt_of_halted {s : State} {since : Nat} (h : s.core.sup = .halted since) (why : Nat) :
    s.endHalt why = (haltLeft s).raise 0x8141 1 0x13 ((haltLeft s).msSince since) why := by
  unfold State.endHalt
  rw [h]
  rfl

theorem endHalt_of_up {s : State} (h : s.supUp = true) (why : Nat) : s.endHalt why = s := by
  unfold State.endHalt
  rw [(supUp_iff s).mp h]

theorem haltLeft_reg (s : State) (f : Field) (hpage : eventPages.testBit f.onPage = false)
    (hhalt : f.place ≠ Reg.SEC_DBGLVL_HALT.place) (hflag : f.place ≠ Reg.SEC_FLAGS_HALT.place) : (haltLeft s).reg f = s.reg f :=
  (reg_put_other _ _ _ _ hflag).trans (((frame_supResume_eventPages _).f_regs f 0 hpage).trans (reg_put_other _ _ _ _ hhalt))

theorem haltLeft_halt (s : State) : (haltLeft s).reg Reg.SEC_DBGLVL_HALT = 0 := by
  rw [haltLeft, flag_eq, reg_put_other _ _ _ _ (by decide)]
  exact ((frame_supResume_eventPages _).f_regs _ 0 (by decide)).trans (reg_put_same s _ 0)

theorem haltLeft_sup (s : State) : (haltLeft s).core.sup = .running := supResume_sup _

theorem haltLeft_now (s : State) : (haltLeft s).now = s.now := (frame_supResume_eventPages _).f_now (by decide)

theorem endHalt_sec (s : State) (why : Nat) : (s.endHalt why).sec = s.sec :=
  (frame_endHalt (P := 0xc00041c78) (G := 0x400500c000000024) (Frame.refl _ _ s) why (by decide) (by decide)).f_sec (by decide)

/-- The registers that the end of a session writes, besides those of its events. -/
def sessionFields : List Field :=
  [Reg.SEC_DBGLVL_HALT, Reg.SEC_FLAGS_HALT, Reg.SEC_DBGLVL_TP, Reg.SEC_DBGLVL_LEVEL, Reg.SEC_FLAGS_SESSION]

theorem endHalt_reg (s : State) (why : Nat) (f : Field) (hpage : eventPages.testBit f.onPage = false) (hrec : onRecPages f = false)
    (hf : f.place ∉ sessionFields.map Field.place) : (s.endHalt why).reg f = s.reg f := by
  simp only [sessionFields, List.map_cons, List.mem_cons, not_or] at hf
  obtain ⟨hhalt, hflag, -⟩ := hf
  unfold State.endHalt
  split
  · exact (raise_reg _ _ _ _ _ _ (by decide) f hrec).trans (haltLeft_reg s f hpage hhalt hflag)
  · rfl

/-! The end of a session (R439, R441). -/

/-- A session's halt and test pattern ended, where it is a CONTROL session. -/
def controlLeft (s : State) : State := if s.reg Reg.SEC_DBGLVL_LEVEL = 2 then (s.endHalt 1).endPattern else s

theorem endSession_eq (s : State) (why : Nat) : s.endSession why = if s.reg Reg.SEC_DBGLVL_LEVEL = 0 then s else
    (((controlLeft s).put Reg.SEC_DBGLVL_LEVEL 0).flag Reg.SEC_FLAGS_SESSION).raise 0x8111 1 0x13 (s.reg Reg.SEC_DBGLVL_LEVEL) why := rfl

/-- The end of a session leaves the security block all but its test pattern. -/
theorem endSession_sec (s : State) (why : Nat) : { (s.endSession why).sec with pattern := s.sec.pattern } = s.sec := by
  have hleft : { (controlLeft s).sec with pattern := s.sec.pattern } = s.sec := by
    unfold controlLeft
    split
    · exact congrArg (fun c : SecSt => { c with pattern := s.sec.pattern }) (endHalt_sec s 1)
    · rfl
  rw [endSession_eq]
  split
  · rfl
  · rw [raise_sec _ _ _ _ _ _ (by decide)]
    exact hleft

theorem endSession_reg (s : State) (why : Nat) (f : Field) (hpage : eventPages.testBit f.onPage = false)
    (hrec : onRecPages f = false) (hf : f.place ∉ sessionFields.map Field.place) : (s.endSession why).reg f = s.reg f := by
  have hleft : (controlLeft s).reg f = s.reg f := by
    unfold controlLeft
    split
    · exact (reg_put_other _ _ _ _ fun e => hf (by rw [e]; decide)).trans (endHalt_reg s 1 f hpage hrec hf)
    · rfl
  rw [endSession_eq]
  split
  · rfl
  · rw [raise_reg _ _ _ _ _ _ (by decide) f hrec, flag_eq, reg_put_other _ _ _ _ fun e => hf (by rw [e]; decide),
      reg_put_other _ _ _ _ fun e => hf (by rw [e]; decide), hleft]

/-- Where the supervisor runs there is no halt to end. -/
theorem controlLeft_of_up {s : State} (h : s.supUp = true) :
    controlLeft s = if s.reg Reg.SEC_DBGLVL_LEVEL = 2 then s.endPattern else s := by
  rw [controlLeft, endHalt_of_up h]

theorem endSession_supUp {s : State} (h : s.supUp = true) (why : Nat) : (s.endSession why).supUp = true := by
  rw [endSession_eq, controlLeft_of_up h]
  split
  · exact h
  · rw [supUp_raise _ _ _ _ _ _ (by decide)]
    split <;> exact h

theorem endSession_onlyRegs {s : State} (h : s.supUp = true) (why : Nat) : OnlyRegs sessionFields s (s.endSession why) := by
  have hleft : OnlyRegs sessionFields s (controlLeft s) := by
    rw [controlLeft_of_up h]
    split
    · exact onlyRegs_put (onlyRegs_of_regs _ rfl) _ _ (by decide)
    · exact onlyRegs_of_regs _ rfl
  rw [endSession_eq]
  split
  · exact onlyRegs_of_regs _ rfl
  · exact onlyRegs_raise (onlyRegs_put (onlyRegs_put hleft _ _ (by decide)) _ _ (by decide)) _ _ _ _ _ (.inl (by decide))

/-! The session judged again (R439). -/

theorem judgeSession_sec (s : State) (mode why : Nat) : { (s.judgeSession mode why).sec with pattern := s.sec.pattern } = s.sec := by
  unfold State.judgeSession
  dsimp only
  split
  · rfl
  · exact endSession_sec s why

theorem judgeSession_reg (s : State) (mode why : Nat) (f : Field) (hpage : eventPages.testBit f.onPage = false)
    (hrec : onRecPages f = false) (hf : f.place ∉ sessionFields.map Field.place) : (s.judgeSession mode why).reg f = s.reg f := by
  unfold State.judgeSession
  dsimp only
  split
  · rfl
  · exact endSession_reg s why f hpage hrec hf

/-- R436: without a session nothing is judged, since level 0 is allowed everywhere. -/
theorem debugAllowed_zero (s : State) (mode : Nat) : s.debugAllowed 0 mode = true := rfl

theorem judgeSession_of_none {s : State} (h : s.reg Reg.SEC_DBGLVL_LEVEL = 0) (mode why : Nat) : s.judgeSession mode why = s := by
  unfold State.judgeSession
  dsimp only
  rw [h, debugAllowed_zero]
  rfl

/-! What R436 never allows. -/

theorem tokenScope_of_none {s : State} (h : s.sec.token = none) (k : Nat) : s.tokenScope k = false := by
  unfold State.tokenScope
  rw [h]

/-- R436: in DEPLOYED no level but 0 without a token. -/
theorem debugAllowed_deployed {s : State} (hlc : s.lifecycle = 2) (ht : s.sec.token = none) (mode : Nat) :
    s.debugAllowed 1 mode = false ∧ s.debugAllowed 2 mode = false := by
  unfold State.debugAllowed
  simp [hlc, tokenScope_of_none ht]

/-- R436: in BLANK and RMA no level but 0 outside LOCKOUT. -/
theorem debugAllowed_outside_lockout {s : State} {mode : Nat} (hm : mode ≠ modeLockout) (hlc : s.lifecycle = 0 ∨ s.lifecycle = 3) :
    s.debugAllowed 1 mode = false ∧ s.debugAllowed 2 mode = false := by
  unfold State.debugAllowed
  rcases hlc with hlc | hlc <;> simp [hlc, hm]

/-! The end of a token (R432). -/

/-- The token taken out of force. -/
def tokenCleared (s : State) : State :=
  ((({ s with sec.token := none }).put Reg.SEC_SCOPE 0).put Reg.SEC_EXPIRY 0).flag Reg.SEC_FLAGS_TOKEN

/-- The token ended, with its event. -/
def tokenDropped (why scope : Nat) (s : State) : State := (tokenCleared s).raise 0x8102 1 0x13 why scope

theorem endToken_of_some {s : State} {k : Token} (h : s.sec.token = some k) (why : Nat) :
    s.endToken why = (tokenDropped why k.scope s).judgeSession (tokenDropped why k.scope s).mode (if why = 4 then 4 else 1) := by
  unfold State.endToken
  rw [h]
  rfl

theorem tokenDropped_reg (why scope : Nat) (s : State) (f : Field) (hrec : onRecPages f = false) :
    (tokenDropped why scope s).reg f = (tokenCleared s).reg f := raise_reg _ _ _ _ _ _ (by decide) f hrec

theorem tokenCleared_regs (s : State) : (tokenCleared s).reg Reg.SEC_SCOPE = 0 ∧ (tokenCleared s).reg Reg.SEC_EXPIRY = 0 ∧
    (tokenCleared s).reg Reg.SEC_FLAGS_TOKEN = 1 := by
  simp only [tokenCleared, flag_eq]
  refine ⟨?_, ?_, reg_put_same _ _ _⟩
  · rw [reg_put_other _ _ _ _ (by decide), reg_put_other _ _ _ _ (by decide)]
    exact reg_put_same _ _ _
  · rw [reg_put_other _ _ _ _ (by decide)]
    exact reg_put_same _ _ _

theorem tokenCleared_reg (s : State) (f : Field) (hscope : f.place ≠ Reg.SEC_SCOPE.place) (hexpiry : f.place ≠ Reg.SEC_EXPIRY.place)
    (hflag : f.place ≠ Reg.SEC_FLAGS_TOKEN.place) : (tokenCleared s).reg f = s.reg f :=
  (reg_put_other _ _ _ _ hflag).trans ((reg_put_other _ _ _ _ hexpiry).trans (reg_put_other _ _ _ _ hscope))

theorem endToken_token {s : State} {k : Token} (h : s.sec.token = some k) (why : Nat) : (s.endToken why).sec.token = none := by
  have hdropped : (tokenDropped why k.scope s).sec.token = none := by
    rw [tokenDropped, raise_sec _ _ _ _ _ _ (by decide)]; rfl
  rw [endToken_of_some h]
  exact (congrArg SecSt.token (judgeSession_sec _ _ _)).trans hdropped

theorem endToken_reg {s : State} {k : Token} (h : s.sec.token = some k) (why : Nat) (f : Field)
    (hpage : eventPages.testBit f.onPage = false) (hrec : onRecPages f = false) (hf : f.place ∉ sessionFields.map Field.place) :
    (s.endToken why).reg f = (tokenCleared s).reg f := by
  rw [endToken_of_some h, judgeSession_reg _ _ _ f hpage hrec hf, tokenDropped_reg _ _ _ f hrec]

/-- R432: without a session the event of the token's end is the last one. -/
theorem endToken_of_no_session {s : State} {k : Token} (h : s.sec.token = some k) (why : Nat)
    (hlevel : s.reg Reg.SEC_DBGLVL_LEVEL = 0) : s.endToken why = tokenDropped why k.scope s := by
  rw [endToken_of_some h]
  refine judgeSession_of_none ?_ _ _
  rw [tokenDropped_reg _ _ _ _ (by decide), tokenCleared_reg _ _ (by decide) (by decide) (by decide), hlevel]

/-! The verification of a token (R431). -/

theorem tokenResult_of_length {s : State} {v : Verifying} (h : v.bytes.length ≠ 104) : s.tokenResult v = 3 := by
  unfold State.tokenResult
  exact if_pos (.inl h)

/-- The token a submission asks for. -/
def tokenOf (v : Verifying) : Token :=
  ⟨(v.bytes.getD 1 0).toNat, (v.bytes.getD 2 0).toNat, leValue ((v.bytes.drop 36).take 4)⟩

/-- R431: what a token that passes every check has shown. -/
theorem tokenResult_accepted {s : State} {v : Verifying} (h : s.tokenResult v = 2) :
    v.bytes.length = 104 ∧ s.mode ≠ modeHoldup ∧ leValue ((v.bytes.drop 4).take 16) = s.otp.devId.toNat ∧ v.nonceOk = true ∧
      s.reg Reg.JRN_OPSEC < (tokenOf v).expiry ∧ s.otp.activeKey (tokenOf v).slot ≠ none := by
  unfold State.tokenResult at h
  dsimp only at h
  split_ifs at h with hform hmode hdev hnonce hexp
  case neg =>
    obtain ⟨hlen, -⟩ := not_or.mp hform
    obtain ⟨hholdup, -⟩ := not_or.mp hmode
    refine ⟨not_not.mp hlen, hholdup, not_not.mp hdev, by simpa using hnonce, not_le.mp hexp, fun hkey => ?_⟩
    have hkey' : s.otp.activeKey ((v.bytes[2]?).getD 0).toNat = none := hkey
    rw [hkey'] at h
    exact absurd (show 7 = 2 from h) (by decide)
  all_goals exact absurd h (by decide)

/-- The verification ended with its result told in the registers. -/
def resultShown (r : Nat) (s : State) : State :=
  ({ s with sec.verifying := none }.put Reg.SEC_TOKRES r).flag Reg.SEC_FLAGS_TOKEN

/-- The event of a token replaced. -/
def replacedTold (s : State) : State :=
  match s.sec.token with
  | none => s
  | some old => s.raise 0x8102 1 0x13 2 old.scope

/-- The token `k` put in force, with its event. -/
def tokenPut (k : Token) (s : State) : State :=
  (({ s with sec.token := some k }.put Reg.SEC_SCOPE k.scope).put Reg.SEC_EXPIRY k.expiry).raise 0x8100 1 0x13 k.scope k.expiry

theorem tokenVerified_rejected {s : State} {v : Verifying} (h : s.tokenResult v ≠ 2) :
    s.tokenVerified v = (resultShown (s.tokenResult v) s).raise 0x8101 3 0x13 (s.tokenResult v) (if v.debug then 1 else 0) := by
  unfold State.tokenVerified
  exact if_pos h

theorem tokenVerified_accepted {s : State} {v : Verifying} (h : s.tokenResult v = 2) :
    s.tokenVerified v = (tokenPut (tokenOf v) (replacedTold (resultShown 2 s))).judgeSession
      (tokenPut (tokenOf v) (replacedTold (resultShown 2 s))).mode 1 := by
  unfold State.tokenVerified
  dsimp only
  rw [if_neg (not_not.mpr h), h]
  rfl

/-- A token's result fits SEC_TOKRES. -/
theorem tokenResult_lt (s : State) (v : Verifying) : s.tokenResult v < 16 := by
  unfold State.tokenResult
  dsimp only
  split_ifs
  case neg =>
    split
    · decide
    · split <;> decide
  all_goals decide

theorem resultShown_tokres {r : Nat} (hr : r < 16) (s : State) : (resultShown r s).reg Reg.SEC_TOKRES = r := by
  rw [resultShown, flag_eq, reg_put_other _ _ _ _ (by decide), reg_put_same]
  exact Nat.mod_eq_of_lt hr

theorem replacedTold_sec (s : State) : (replacedTold s).sec = s.sec := by
  unfold replacedTold
  split
  · rfl
  · exact raise_sec _ _ _ _ _ _ (by decide)

theorem replacedTold_reg (s : State) (f : Field) (hrec : onRecPages f = false) : (replacedTold s).reg f = s.reg f := by
  unfold replacedTold
  split
  · rfl
  · exact raise_reg _ _ _ _ _ _ (by decide) f hrec

theorem tokenPut_sec (k : Token) (s : State) : (tokenPut k s).sec = { s.sec with token := some k } := by
  rw [tokenPut, raise_sec _ _ _ _ _ _ (by decide)]
  rfl

theorem tokenPut_tokres (k : Token) (s : State) : (tokenPut k s).reg Reg.SEC_TOKRES = s.reg Reg.SEC_TOKRES := by
  rw [tokenPut, raise_reg _ _ _ _ _ _ (by decide) _ (by decide), reg_put_other _ _ _ _ (by decide),
    reg_put_other _ _ _ _ (by decide)]
  rfl

theorem tokenVerified_accepted_sec {s : State} {v : Verifying} (h : s.tokenResult v = 2) :
    { (s.tokenVerified v).sec with pattern := s.sec.pattern } = { s.sec with verifying := none, token := some (tokenOf v) } := by
  have hput : (tokenPut (tokenOf v) (replacedTold (resultShown 2 s))).sec =
      { s.sec with verifying := none, token := some (tokenOf v) } := by
    rw [tokenPut_sec, replacedTold_sec]; rfl
  have hjudged := judgeSession_sec (tokenPut (tokenOf v) (replacedTold (resultShown 2 s)))
    (tokenPut (tokenOf v) (replacedTold (resultShown 2 s))).mode 1
  rwa [← tokenVerified_accepted h, hput] at hjudged

theorem tokenVerified_accepted_tokres {s : State} {v : Verifying} (h : s.tokenResult v = 2) :
    (s.tokenVerified v).reg Reg.SEC_TOKRES = 2 := by
  rw [tokenVerified_accepted h, judgeSession_reg _ _ _ _ (by decide) (by decide) (by decide), tokenPut_tokres,
    replacedTold_reg _ _ (by decide), resultShown_tokres (by decide)]

/-! The commands, clause by clause. -/

/-- R426: a command of the debug port's own range, under CONTROL with a halt, is carried out. -/
theorem secCommand_halted {s : State} {c : SecCmd} {cmd : Nat} {f : State → State} (hport : c.port = .d) (hkey : c.key = 0xA5)
    (hhalt : s.reg Reg.SEC_DBGLVL_HALT = 1) (hlevel : s.reg Reg.SEC_DBGLVL_LEVEL = 2) (hcmd : 0x20 ≤ cmd ∧ cmd ≤ 0x23) :
    s.secCommand c cmd true (s.control c) f = f s := by
  simp [State.secCommand, State.control, hport, hkey, hhalt, hlevel, hcmd]

/-- What NONCE_DRAW does at its instant (R430). -/
def nonceDrawn (p : PortId) (v : BitVec 128) (s : State) : State :=
  if p = .s then s else { s with sec.nonce := some (v, s.now) }.put Reg.SEC_NONCE v.toNat

/-- What NONCE_EXPIRY does at its instant, for a nonce that lives `life` edges (R430). The life is a variable, so that no proof counts
its edges. -/
def nonceLapsed (life : Nat) (s : State) : State :=
  match s.sec.nonce with
  | none => s
  | some (_, drawn) => if drawn + life ≤ s.now then { s with sec.nonce := none } else s

/-- What TOKEN_VERIFIED does at its instant (R431). -/
def verificationEnded (s : State) : State :=
  match s.sec.verifying with
  | none => s
  | some v => if s.supUp then s.tokenVerified v else s

/-- What TOKEN_EXPIRY does at its instant (R432). -/
def tokenLapsed (s : State) : State :=
  match s.sec.token with
  | none => s
  | some k => if k.expiry ≤ s.reg Reg.JRN_OPSEC then s.endToken 0 else s

/-- What BOUNDARY_SCAN does at its instant (R437). -/
def tapClocked (tms tdi : Bool) (s : State) : State :=
  if s.lifecycle = 0 ∨ s.lifecycle = 3 then
    { s with free := s.free + 1, sec.tap := s.sec.tap.clock tms tdi (Config.freeValue s.free) }
  else { s with sec.tap := ⟨.reset, 1, 0, [], []⟩ }

section
variable (t : Edges) (s : State)

theorem exec_nonceDraw (p : PortId) (v : BitVec 128) : exec (.nonceDraw t p v) s = live t s (nonceDrawn p v) := rfl
theorem exec_nonceExpiry : exec (.nonceExpiry t) s = live t s (nonceLapsed (60 * edgeSec)) := rfl
theorem exec_tokenSubmit (p : PortId) (d : List Byte) :
    exec (.tokenSubmit t p d) s = live t s fun s => if p = .s ∨ s.supUp = false then s else s.tokenSubmit p d := rfl
theorem exec_tokenVerified : exec (.tokenVerified t) s = live t s verificationEnded := rfl
theorem exec_tokenExpiry : exec (.tokenExpiry t) s = live t s tokenLapsed := rfl
theorem exec_debugRequest (l : Fin 4) : exec (.debugRequest t l) s = live t s fun s => s.debugRequest l.val := rfl
theorem exec_debugResume (c : SecCmd) : exec (.debugResume t c) s = live t s fun s => s.secDebugResume c := rfl
theorem exec_boundaryScan (a b : Bool) : exec (.boundaryScan t a b) s = live t s (tapClocked a b) := rfl

end

/-- R437: a clock moves the TAP as the standard has it, whatever the state it leaves does. -/
theorem clock_st (p : Tap) (tms tdi : Bool) (free : Nat) : (p.clock tms tdi free).st = p.st.next tms := by
  have hmoved : ∀ q : Tap, (if q.st.next tms = TapState.reset then { q with st := q.st.next tms, ir := 1 }
      else { q with st := q.st.next tms }).st = q.st.next tms := fun q => by split <;> rfl
  obtain ⟨st, ir, irShift, dr, bsr⟩ := p
  unfold Tap.clock
  refine (hmoved _).trans (congrArg (TapState.next · tms) ?_)
  cases st
  case updDr => dsimp only; split <;> rfl
  all_goals rfl

theorem nonceLapsed_regs (life : Nat) (s : State) : (nonceLapsed life s).regs = s.regs := by
  unfold nonceLapsed
  split
  · rfl
  · split <;> rfl

theorem nonceLapsed_token (life : Nat) (s : State) : (nonceLapsed life s).sec.token = s.sec.token := by
  unfold nonceLapsed
  split
  · rfl
  · split <;> rfl

theorem nonceLapsed_nonce (life : Nat) (s : State) : (nonceLapsed life s).sec.nonce =
    if s.sec.nonce.any (fun n => n.2 + life ≤ s.now) then none else s.sec.nonce := by
  unfold nonceLapsed
  split
  · rename_i hnone
    rw [hnone]; rfl
  · rename_i v drawn hsome
    by_cases hdue : drawn + life ≤ s.now <;> simp [hsome, hdue]

theorem verificationEnded_of_some {s : State} {v : Verifying} (hv : s.sec.verifying = some v) (hup : s.supUp = true) :
    verificationEnded s = s.tokenVerified v := by
  unfold verificationEnded
  rw [hv]
  exact if_pos hup

/-- The state in which a debug request is granted: a higher session has ended (R435). -/
def higherLeft (level : Nat) (s : State) : State := if level < s.reg Reg.SEC_DBGLVL_LEVEL then s.endSession 0 else s

theorem higherLeft_supUp {s : State} (hup : s.supUp = true) (level : Nat) : (higherLeft level s).supUp = true := by
  unfold higherLeft
  split
  · exact endSession_supUp hup 0
  · exact hup

theorem higherLeft_onlyRegs {s : State} (hup : s.supUp = true) (level : Nat) : OnlyRegs sessionFields s (higherLeft level s) := by
  unfold higherLeft
  split
  · exact endSession_onlyRegs hup 0
  · exact onlyRegs_of_regs _ rfl

section
variable {t : Edges} {s : State} (hp : s.core.powered = true)
include hp

/-- A command that does nothing at its instant. -/
theorem does_nothing {c : Instr} {f : State → State} (hc : exec c s = live t s f) (hf : f (s.at t) = s.at t) :
    Does c s fun u => u.sec = s.sec ∧ OnlyRegsQuiet [] s u :=
  does_of_effect hp hc hf ⟨ended_sec t s _, onlyRegsQuiet_ended (onlyRegsQuiet_of_regs _ rfl)⟩

/-- R442: RESUME on the debug port ends the halt. -/
theorem does_debugResume (a : Byte) (d : Code) (h : Nat) (hsup : s.core.sup = .halted h) (hhalt : s.reg Reg.SEC_DBGLVL_HALT = 1)
    (hlevel : s.reg Reg.SEC_DBGLVL_LEVEL = 2) : Does (.debugResume t ⟨.d, 0xA5, a, d⟩) s fun u =>
      u.core.sup = .running ∧ u.reg Reg.SEC_DBGLVL_HALT = 0 ∧ u.reg Reg.SEC_CMDRES = 1 ∧
      ∃ r, u.log.last = some r ∧ (r.code = 0x8141 ∧ r.p0 = (max s.now t - h) / edgeMs % 2 ^ 32 ∧ r.p1 = 0 ∨ r.code = 0x7056) := by
  have heffect : (s.at t).secDebugResume ⟨.d, 0xA5, a, d⟩ =
      (haltLeft (s.at t).secAccept).raise 0x8141 1 0x13 ((haltLeft (s.at t).secAccept).msSince h) 0 :=
    (secCommand_halted (s := s.at t) (c := ⟨.d, 0xA5, a, d⟩) (cmd := 0x21) (f := fun s => s.secAccept.endHalt 0) rfl rfl hhalt hlevel
      (by decide)).trans (endHalt_of_halted (s := (s.at t).secAccept) hsup 0)
  have hms : (haltLeft (s.at t).secAccept).msSince h = (max s.now t - h) / edgeMs := by
    rw [State.msSince, haltLeft_now]; rfl
  refine does_of_effect hp (exec_debugResume t s _) heffect ⟨?_, ?_, ?_, ?_⟩
  · rw [ended_core, raise_core_sup _ _ _ _ _ _ (by decide), haltLeft_sup]
  · rw [ended_reg, raise_reg _ _ _ _ _ _ (by decide) _ (by decide), haltLeft_halt]
  · rw [ended_reg, raise_reg _ _ _ _ _ _ (by decide) _ (by decide), haltLeft_reg _ _ (by decide) (by decide) (by decide)]
    exact reg_put_same _ _ _
  · rw [ended_last, raise_of_up ((supUp_iff _).mpr (haltLeft_sup _)) (by decide), hms]
    exact recordEvent_last_params _ _ _ _ _ _ _ _

/-- R430: a nonce read on port H or the debug port replaces the earlier one. -/
theorem does_nonceDraw (v : BitVec 128) (p : PortId) (hport : p ≠ .s) : Does (.nonceDraw t p v) s fun u =>
    u.sec.nonce = some (v, max s.now t) ∧ u.reg Reg.SEC_NONCE = v.toNat ∧ u.sec.token = s.sec.token ∧
      OnlyRegsQuiet [Reg.SEC_NONCE] s u := by
  refine does_of_effect hp (exec_nonceDraw t s p v) (if_neg hport) ⟨?_, ?_, ?_, ?_⟩
  · rw [ended_sec]; rfl
  · rw [ended_reg, reg_put_same]
    exact Nat.mod_eq_of_lt v.isLt
  · rw [ended_sec]; rfl
  · exact onlyRegsQuiet_ended (onlyRegsQuiet_put (onlyRegsQuiet_of_regs _ rfl) _ _ (by decide))

/-- R430: a nonce lapses 60 s after its draw. -/
theorem does_nonceExpiry : Does (.nonceExpiry t) s fun u => OnlyRegsQuiet [] s u ∧ u.sec.token = s.sec.token ∧
    u.sec.nonce = if s.sec.nonce.any (fun n => n.2 + 60 * edgeSec ≤ max s.now t) then none else s.sec.nonce := by
  refine does_live hp (exec_nonceExpiry t s) ⟨onlyRegsQuiet_ended (onlyRegsQuiet_of_regs _ (nonceLapsed_regs _ (s.at t))), ?_, ?_⟩
  · rw [ended_sec, nonceLapsed_token, at_sec]
  · rw [ended_sec, nonceLapsed_nonce, at_sec, at_now]

/-- R431: a token submitted uses up the nonce and is being verified. -/
theorem does_tokenSubmit (p : PortId) (d : List Byte) (hup : s.supUp = true) (hport : p ≠ .s) (hv : s.sec.verifying = none) :
    Does (.tokenSubmit t p d) s fun u => u.sec.nonce = none ∧ u.reg Reg.SEC_TOKRES = 1 ∧ u.sec.token = s.sec.token ∧
      OnlyRegsQuiet [Reg.SEC_TOKRES] s u ∧
      ∃ v, u.sec.verifying = some v ∧ v.bytes = d ∧ v.debug = (p == .d) ∧ v.nonceOk = s.nonceMatches d := by
  have htaken : ¬(p = .s ∨ (s.at t).supUp = false) := fun h => h.elim hport fun h => absurd (hup.symm.trans h) (by decide)
  have hfree : ¬(s.at t).sec.verifying.isSome = true := by rw [at_sec, hv]; decide
  refine does_of_effect hp (exec_tokenSubmit t s p d) ((if_neg htaken).trans (if_neg hfree)) ⟨?_, ?_, ?_, ?_, ?_⟩
  · rw [ended_sec]; rfl
  · rw [ended_reg]; exact reg_put_same _ _ _
  · rw [ended_sec]; rfl
  · exact onlyRegsQuiet_ended (onlyRegsQuiet_put (onlyRegsQuiet_of_regs _ rfl) _ _ (by decide))
  · rw [ended_sec]; exact ⟨_, rfl, rfl, rfl, rfl⟩

/-- R443: while one token is being verified another is discarded. -/
theorem does_tokenSubmit_busy (p : PortId) (d : List Byte) (hv : s.sec.verifying.isSome = true) :
    Does (.tokenSubmit t p d) s fun u => u.sec = s.sec ∧ OnlyRegsQuiet [] s u := by
  have hbusy : (s.at t).tokenSubmit p d = s.at t := if_pos hv
  exact does_nothing hp (exec_tokenSubmit t s p d) ((congrArg (ite _ (s.at t)) hbusy).trans (ite_self _))

/-- R431: without a verification, or with the supervisor down, none ends. -/
theorem does_tokenVerified_idle (h : s.sec.verifying = none ∨ s.supUp = false) :
    Does (.tokenVerified t) s fun u => u.sec = s.sec ∧ OnlyRegsQuiet [] s u := by
  refine does_nothing hp (exec_tokenVerified t s) ?_
  unfold verificationEnded
  split
  · rfl
  · rename_i v hv
    have hdown : (s.at t).supUp = false := h.resolve_left fun hn => by simp [hn] at hv
    rw [hdown]; rfl

/-- R431: a token that fails a check leaves the token in force. -/
theorem does_tokenVerified_rejected {v : Verifying} (hv : s.sec.verifying = some v) (hup : s.supUp = true) (h : s.tokenResult v ≠ 2) :
    Does (.tokenVerified t) s fun u => u.sec.token = s.sec.token ∧ u.sec.verifying = none ∧
      u.reg Reg.SEC_TOKRES = s.tokenResult v ∧ Raised 0x8101 3 (s.tokenResult v) (if v.debug then 1 else 0) s u := by
  have heffect : verificationEnded (s.at t) =
      (resultShown (s.tokenResult v) (s.at t)).raise 0x8101 3 0x13 (s.tokenResult v) (if v.debug then 1 else 0) :=
    (verificationEnded_of_some (s := s.at t) hv hup).trans (tokenVerified_rejected (s := s.at t) h)
  refine does_of_effect hp (exec_tokenVerified t s) heffect ⟨?_, ?_, ?_, raised_ended ?_⟩
  · rw [ended_sec, raise_sec _ _ _ _ _ _ (by decide)]; rfl
  · rw [ended_sec, raise_sec _ _ _ _ _ _ (by decide)]; rfl
  · rw [ended_reg, raise_reg _ _ _ _ _ _ (by decide) _ (by decide), resultShown_tokres (tokenResult_lt s v)]
  · refine raised_raise _ _ _ _ _ (.inl (by decide)) rfl ?_
    rw [resultShown, flag_eq, reg_put_other _ _ _ _ (by decide), reg_put_other _ _ _ _ (by decide)]
    rfl

/-- R431: a token that passes every check is in force. -/
theorem does_tokenVerified_accepted {v : Verifying} (hv : s.sec.verifying = some v) (hup : s.supUp = true) (h : s.tokenResult v = 2) :
    Does (.tokenVerified t) s fun u => u.reg Reg.SEC_TOKRES = 2 ∧ u.sec.verifying = none ∧ u.sec.token = some (tokenOf v) := by
  have h' : (s.at t).tokenResult v = 2 := h
  have hsec := tokenVerified_accepted_sec h'
  refine does_of_effect hp (exec_tokenVerified t s) (verificationEnded_of_some hv hup) ⟨?_, ?_, ?_⟩
  · rw [ended_reg]; exact tokenVerified_accepted_tokres h'
  · rw [ended_sec]; exact congrArg SecSt.verifying hsec
  · rw [ended_sec]; exact congrArg SecSt.token hsec

/-- R432: before its expiry, or without a token, none ends. -/
theorem does_tokenExpiry_early (h : ∀ k, s.sec.token = some k → s.reg Reg.JRN_OPSEC < k.expiry) :
    Does (.tokenExpiry t) s fun u => u.sec = s.sec ∧ OnlyRegsQuiet [] s u := by
  refine does_nothing hp (exec_tokenExpiry t s) ?_
  unfold tokenLapsed
  split
  · rfl
  · rename_i k hk
    exact if_neg (Nat.not_le.mpr (h k hk))

/-- R432: an expired token ends. -/
theorem does_tokenExpiry {k : Token} (hk : s.sec.token = some k) (hexp : k.expiry ≤ s.reg Reg.JRN_OPSEC) :
    Does (.tokenExpiry t) s fun u => u.sec.token = none ∧ u.reg Reg.SEC_SCOPE = 0 ∧ u.reg Reg.SEC_EXPIRY = 0 ∧
      u.reg Reg.SEC_FLAGS_TOKEN = 1 ∧ (s.reg Reg.SEC_DBGLVL_LEVEL = 0 → Raised 0x8102 1 0 k.scope s u) := by
  have hk' : (s.at t).sec.token = some k := hk
  have heffect : tokenLapsed (s.at t) = (s.at t).endToken 0 := by
    unfold tokenLapsed
    rw [hk']
    exact if_pos hexp
  obtain ⟨hscope, hexpiry, hflag⟩ := tokenCleared_regs (s.at t)
  refine does_of_effect hp (exec_tokenExpiry t s) heffect ⟨?_, ?_, ?_, ?_, fun hlevel => raised_ended ?_⟩
  · rw [ended_sec]; exact endToken_token hk' 0
  · rw [ended_reg, endToken_reg hk' 0 _ (by decide) (by decide) (by decide), hscope]
  · rw [ended_reg, endToken_reg hk' 0 _ (by decide) (by decide) (by decide), hexpiry]
  · rw [ended_reg, endToken_reg hk' 0 _ (by decide) (by decide) (by decide), hflag]
  · rw [endToken_of_no_session hk' 0 hlevel]
    exact raised_raise _ _ _ _ _ (.inl (by decide)) rfl (tokenCleared_reg _ _ (by decide) (by decide) (by decide))

/-- R435: a debug request that R436 does not allow leaves the level. -/
theorem does_debugRequest_refused (l : Fin 4) (h : s.debugAllowed l s.mode = false) : Does (.debugRequest t l) s fun u =>
    u.reg Reg.SEC_DBGLVL_LEVEL = s.reg Reg.SEC_DBGLVL_LEVEL ∧ u.reg Reg.SEC_FLAGS_SESSION = 1 ∧ Raised 0x8112 2 l s.mode s u := by
  have hno : ¬(s.at t).debugAllowed l (s.at t).mode = true := Bool.eq_false_iff.mp h
  refine does_of_effect hp (exec_debugRequest t s l) (if_neg hno) ⟨?_, ?_, raised_ended ?_⟩
  · rw [ended_reg, raise_reg _ _ _ _ _ _ (by decide) _ (by decide), flag_eq, reg_put_other _ _ _ _ (by decide), at_reg]
  · rw [ended_reg, raise_reg _ _ _ _ _ _ (by decide) _ (by decide), flag_eq, reg_put_same]; rfl
  · exact raised_raise _ _ _ _ _ (.inl (by decide)) rfl (reg_put_other _ _ _ _ (by decide))

/-- R435: a debug request that R436 allows is granted. -/
theorem does_debugRequest_granted (l : Fin 4) (h : s.debugAllowed l s.mode = true) (hup : s.supUp = true) :
    Does (.debugRequest t l) s fun u =>
      u.reg Reg.SEC_DBGLVL_LEVEL = l.val ∧ u.reg Reg.SEC_FLAGS_SESSION = 1 ∧ Raised 0x8110 1 l s.mode s u := by
  have hup' : (s.at t).supUp = true := hup
  have hregs := higherLeft_onlyRegs hup' l
  have hmode : (higherLeft l (s.at t)).mode = s.mode := hregs Reg.GL_MODE 0 (by decide) (by decide)
  have heffect : (s.at t).debugRequest l =
      (((higherLeft l (s.at t)).put Reg.SEC_DBGLVL_LEVEL l).flag Reg.SEC_FLAGS_SESSION).raise 0x8110 1 0x13 l s.mode := by
    rw [← hmode]
    exact if_pos h
  refine does_of_effect hp (exec_debugRequest t s l) heffect ⟨?_, ?_, raised_ended ?_⟩
  · rw [ended_reg, raise_reg _ _ _ _ _ _ (by decide) _ (by decide), flag_eq, reg_put_other _ _ _ _ (by decide), reg_put_same]
    exact Nat.mod_eq_of_lt l.isLt
  · rw [ended_reg, raise_reg _ _ _ _ _ _ (by decide) _ (by decide), flag_eq, reg_put_same]; rfl
  · refine raised_raise _ _ _ _ _ (.inl (by decide)) ((higherLeft_supUp hup' l).trans hup.symm) ?_
    rw [flag_eq, reg_put_other _ _ _ _ (by decide), reg_put_other _ _ _ _ (by decide)]
    exact hregs Reg.REC_SNSEV 0 (by decide) (by decide)

/-- R437: outside BLANK and RMA the TAP is held in reset. -/
theorem does_boundaryScan_held (a b : Bool) (h0 : s.lifecycle ≠ 0) (h3 : s.lifecycle ≠ 3) : Does (.boundaryScan t a b) s fun u =>
    u.sec.tap.st = .reset ∧ u.sec.tap.ir = 1 ∧ OnlyRegsQuiet [] s u := by
  have hheld : ¬((s.at t).lifecycle = 0 ∨ (s.at t).lifecycle = 3) := not_or.mpr ⟨h0, h3⟩
  refine does_of_effect hp (exec_boundaryScan t s a b) (if_neg hheld) ⟨?_, ?_, onlyRegsQuiet_ended (onlyRegsQuiet_of_regs _ rfl)⟩
  · rw [ended_sec]
  · rw [ended_sec]

/-- R437: in BLANK and RMA the TAP is clocked. -/
theorem does_boundaryScan_live (a b : Bool) (h : s.lifecycle = 0 ∨ s.lifecycle = 3) : Does (.boundaryScan t a b) s fun u =>
    u.sec.tap.st = s.sec.tap.st.next a ∧ OnlyRegsQuiet [] s u := by
  refine does_of_effect hp (exec_boundaryScan t s a b) (if_pos h) ⟨?_, onlyRegsQuiet_ended (onlyRegsQuiet_of_regs _ rfl)⟩
  rw [ended_sec]
  exact clock_st _ _ _ _

end

/-- Settles O60: each clause is what one command does, and the clauses on levels are R436 read off. Where a token ends in a session of a
halted supervisor, the held events raised then are on other pages than the token's registers. -/
theorem tokensAndDebug : Obligations.TokensAndDebug := by
  unfold Obligations.TokensAndDebug
  intro t s hp
  refine ⟨fun a d h hsup hhalt hlevel _ => does_debugResume hp a d h hsup hhalt hlevel,
    fun v => ⟨fun p hport => does_nonceDraw hp v p (by rintro rfl; exact absurd hport (by decide)),
      does_nothing hp (exec_nonceDraw t s .s v) rfl⟩,
    does_nonceExpiry hp,
    fun p d hup hport => ⟨does_tokenSubmit hp p d hup hport, does_tokenSubmit_busy hp p d⟩,
    does_tokenVerified_idle hp,
    fun v hv hup => ⟨does_tokenVerified_rejected hp hv hup, fun h => ?_, fun b hb hlen => tokenResult_of_length (hb ▸ hlen)⟩,
    fun k hk hexp => does_tokenExpiry_early hp fun k' hk' => ?_,
    fun k => does_tokenExpiry hp,
    fun hnone => does_tokenExpiry_early hp fun k hk => absurd (hnone.symm.trans hk) (by simp),
    fun l => ⟨does_debugRequest_refused hp l, does_debugRequest_granted hp l⟩,
    debugAllowed_zero s,
    fun hlc ht m => debugAllowed_deployed hlc ht m,
    fun m hm hlc => debugAllowed_outside_lockout hm hlc,
    fun a b => ⟨does_boundaryScan_held hp a b, does_boundaryScan_live hp a b⟩⟩
  · obtain ⟨hlen, hmode, hdev, hnonce, hexp, hkey⟩ := tokenResult_accepted h
    obtain ⟨u, hu, htokres, hver, htok⟩ := does_tokenVerified_accepted (t := t) hp hv hup h
    exact ⟨hnonce, hlen, hdev, hmode, u, hu, htokres, hver, tokenOf v, htok, rfl, rfl, hexp, hkey⟩
  · obtain rfl : k = k' := Option.some.inj (hk.symm.trans hk')
    exact hexp

end Sys2Proof.DebugAccess

namespace Sys2Proof.StoreForm

-- The kernel's evaluations of this file run one after another: side by side they need more memory than the check allows.
set_option Elab.async false

open Sys2Proof Sys2Proof.Machine Sys2Proof.Laws Sys2Proof.LoadSteps

/-- A powered chip at the stop of a write on port H, with one write to a 101st byte of the ship note waiting. -/
def lateNote : State :=
  { State.reset with
    core := { State.reset.core with powered := true }
    pending := [.transactionStop 0 .h none]
    portH := { State.reset.portH with open_ := true, late := [⟨Reg.GL_SHIPNOTE.place, 100, 0⟩] } }

/-- The stop's effect on it, up to the end of the command. -/
theorem lateNote_stopped : (({ lateNote with pending := [] }.at 0).transactionStop .h none).vka.note.length = 65 := by
  decide +kernel
/-- Refutes O3: a write to a byte past the 64 of the ship note that waits for the stop lengthens the note. -/
theorem not_stepKeepsForm : ¬ Obligations.StepKeepsForm := by
  unfold Obligations.StepKeepsForm
  intro h
  have hstep : step lateNote = .next (ended 0 { lateNote with pending := [] } fun a => a.transactionStop .h none) := rfl
  have hlen : lateNote.vka.note.length = 64 := rfl
  have hkept := (h _ _ hstep).2 hlen
  have hvka : (ended 0 { lateNote with pending := [] } fun a => a.transactionStop .h none).vka =
      (({ lateNote with pending := [] }.at 0).transactionStop .h none).vka := by simp [ended]
  rw [hvka, lateNote_stopped] at hkept
  exact absurd hkept (by decide)

end Sys2Proof.StoreForm


/-! What every command leaves: the frame laws of the meanings read against the sets of Safety/Frames.lean, and what
follows from them for every command at once. -/

namespace Sys2Proof.CommandFrames

-- The kernel's evaluations of this file run one after another: side by side they need more memory than the check allows.
set_option Elab.async false

open Sys2Proof Sys2Proof.Machine Sys2Proof.Laws

/-! The sets of Safety/Frames.lean as sets of bits. -/

/-- A list of bits as a number. -/
def bitsOf (l : List Nat) : Nat := l.foldr (fun k n => 2 ^ k ||| n) 0

theorem testBit_bitsOf (l : List Nat) (k : Nat) : (bitsOf l).testBit k = decide (k ∈ l) := by
  induction l with
  | nil => simp [bitsOf]
  | cons a l ih =>
    have hcons : bitsOf (a :: l) = 2 ^ a ||| bitsOf l := rfl
    rw [hcons, Nat.testBit_or, ih, Nat.testBit_two_pow]
    simp [eq_comm (a := a)]

/-- The bits of the parts a command may change; the wheel's place (bit 36) is no part of its own. -/
def partMask (c : Instr) : Nat := bitsOf (36 :: (mayChange c).1.map partBit)

/-- The bits of the pages a command may change. -/
def pageMask (c : Instr) : Nat := bitsOf (mayChange c).2

theorem partBit_inj {p q : Part} (h : partBit p = partBit q) : p = q := by
  cases p <;> cases q <;> first | rfl | exact absurd h (by decide)

theorem partBit_ne_place (p : Part) : partBit p ≠ 36 := by
  cases p <;> decide

theorem partMask_of_not_mem {c : Instr} {p : Part} (h : p ∉ (mayChange c).1) : (partMask c).testBit (partBit p) = false := by
  rw [partMask, testBit_bitsOf, decide_eq_false_iff_not, List.mem_cons, not_or]
  refine ⟨partBit_ne_place p, fun hmem => ?_⟩
  obtain ⟨q, hq, hbit⟩ := List.mem_map.mp hmem
  exact h (partBit_inj hbit ▸ hq)

theorem pageMask_of_not_mem {c : Instr} {k : Nat} (h : k ∉ (mayChange c).2) : (pageMask c).testBit k = false := by
  rw [pageMask, testBit_bitsOf]
  exact decide_eq_false h

/-- Every command stays within its frame: the frame law of each meaning lies within the sets `mayChange` names. -/
theorem frame_exec {c : Instr} {s u : State} (h : exec c s = .next u) : Frame (partMask c) (pageMask c) s u := by
  cases c
  all_goals dsimp only [partMask, pageMask, mayChange]
  case powerOnReset => exact (frame_execPowerOnReset h).mono (by decide +kernel) (by decide +kernel)
  case rstNAsserted => exact (frame_execRstNAsserted h).mono (by decide +kernel) (by decide +kernel)
  case supplyLoss t sup => exact (frame_execSupplyLoss (v := sup) h).mono (by decide +kernel) (by decide +kernel)
  case vkaLost => exact (frame_execVkaLost h).mono (by decide +kernel) (by decide +kernel)
  case powerFailWarning => exact (frame_execPowerFailWarning h).mono (by decide +kernel) (by decide +kernel)
  case shipWake => exact (frame_execShipWake h).mono (by decide +kernel) (by decide +kernel)
  case crystalFault => exact (frame_execCrystalFault h).mono (by decide +kernel) (by decide +kernel)
  case clockHandover => exact (frame_execClockHandover h).mono (by decide +kernel) (by decide +kernel)
  case supervisorRestart => exact (frame_execSupervisorRestart h).mono (by decide +kernel) (by decide +kernel)
  case supervisorRestartEnd => exact (frame_execSupervisorRestartEnd h).mono (by decide +kernel) (by decide +kernel)
  case operatingSecond => exact (frame_execOperatingSecond h).mono (by decide +kernel) (by decide +kernel)
  case wheelPoint => exact (frame_execWheelPoint h).mono (by decide +kernel) (by decide +kernel)
  case calendarEntry => exact (frame_execCalendarEntry h).mono (by decide +kernel) (by decide +kernel)
  case referenceValid => exact (frame_execReferenceValid h).mono (by decide +kernel) (by decide +kernel)
  case referenceLost => exact (frame_execReferenceLost h).mono (by decide +kernel) (by decide +kernel)
  case wheelLock => exact (frame_execWheelLock h).mono (by decide +kernel) (by decide +kernel)
  case acquireTimeout => exact (frame_execAcquireTimeout h).mono (by decide +kernel) (by decide +kernel)
  case phaseErrorCycle => exact (frame_execPhaseErrorCycle h).mono (by decide +kernel) (by decide +kernel)
  case feedAReturn => exact (frame_execFeedAReturn h).mono (by decide +kernel) (by decide +kernel)
  case crestCheck => exact (frame_execCrestCheck h).mono (by decide +kernel) (by decide +kernel)
  case acZeroCrossing => exact (frame_execAcZeroCrossing h).mono (by decide +kernel) (by decide +kernel)
  case rmsWindowDeadline => exact (frame_execRmsWindowDeadline h).mono (by decide +kernel) (by decide +kernel)
  case frequencyDeadline => exact (frame_execFrequencyDeadline h).mono (by decide +kernel) (by decide +kernel)
  case bayPeriodStart => exact (frame_execBayPeriodStart h).mono (by decide +kernel) (by decide +kernel)
  case loopTrigger => exact (frame_execLoopTrigger h).mono (by decide +kernel) (by decide +kernel)
  case bayOutputConversion => exact (frame_execBayOutputConversion h).mono (by decide +kernel) (by decide +kernel)
  case imonSample => exact (frame_execImonSample h).mono (by decide +kernel) (by decide +kernel)
  case shedDwellExpiry => exact (frame_execShedDwellExpiry h).mono (by decide +kernel) (by decide +kernel)
  case phaseOffsetTaken => exact (frame_execPhaseOffsetTaken h).mono (by decide +kernel) (by decide +kernel)
  case phTrimrst => exact (frame_execPhTrimrst h).mono (by decide +kernel) (by decide +kernel)
  case leShctl => exact (frame_execLeShctl h).mono (by decide +kernel) (by decide +kernel)
  case leFeclr => exact (frame_execLeFeclr h).mono (by decide +kernel) (by decide +kernel)
  case followingError => exact (frame_execFollowingError h).mono (by decide +kernel) (by decide +kernel)
  case feRecovered => exact (frame_execFeRecovered h).mono (by decide +kernel) (by decide +kernel)
  case dutySaturated => exact (frame_execDutySaturated h).mono (by decide +kernel) (by decide +kernel)
  case regionDwellExpiry => exact (frame_execRegionDwellExpiry h).mono (by decide +kernel) (by decide +kernel)
  case setpointCommand => exact (frame_execSetpointCommand h).mono (by decide +kernel) (by decide +kernel)
  case setpointSlewStep => exact (frame_execSetpointSlewStep h).mono (by decide +kernel) (by decide +kernel)
  case bayPresenceChange => exact (frame_execBayPresenceChange h).mono (by decide +kernel) (by decide +kernel)
  case presenceDebounce => exact (frame_execPresenceDebounce h).mono (by decide +kernel) (by decide +kernel)
  case bayokRise => exact (frame_execBayokRise h).mono (by decide +kernel) (by decide +kernel)
  case bayOkTimeout => exact (frame_execBayOkTimeout h).mono (by decide +kernel) (by decide +kernel)
  case bayEjectChange => exact (frame_execBayEjectChange h).mono (by decide +kernel) (by decide +kernel)
  case bayLost => exact (frame_execBayLost h).mono (by decide +kernel) (by decide +kernel)
  case bayPfcLost => exact (frame_execBayPfcLost h).mono (by decide +kernel) (by decide +kernel)
  case bayLeaveForced => exact (frame_execBayLeaveForced h).mono (by decide +kernel) (by decide +kernel)
  case deepTimeout => exact (frame_execDeepTimeout h).mono (by decide +kernel) (by decide +kernel)
  case presenceLoss100ms => exact (frame_execPresenceLoss100ms h).mono (by decide +kernel) (by decide +kernel)
  case warnPulse => exact (frame_execWarnPulse h).mono (by decide +kernel) (by decide +kernel)
  case warnStuck => exact (frame_execWarnStuck h).mono (by decide +kernel) (by decide +kernel)
  case warnReleased => exact (frame_execWarnReleased h).mono (by decide +kernel) (by decide +kernel)
  case ffInjection => exact (frame_execFfInjection h).mono (by decide +kernel) (by decide +kernel)
  case ffHoldExpiry => exact (frame_execFfHoldExpiry h).mono (by decide +kernel) (by decide +kernel)
  case ffDecayStep => exact (frame_execFfDecayStep h).mono (by decide +kernel) (by decide +kernel)
  case sagEpisodeClose => exact (frame_execSagEpisodeClose h).mono (by decide +kernel) (by decide +kernel)
  case regulationPointSample => exact (frame_execRegulationPointSample h).mono (by decide +kernel) (by decide +kernel)
  case mailboxRecord => exact (frame_execMailboxRecord h).mono (by decide +kernel) (by decide +kernel)
  case contractWrite => exact (frame_execContractWrite h).mono (by decide +kernel) (by decide +kernel)
  case grantReadback => exact (frame_execGrantReadback h).mono (by decide +kernel) (by decide +kernel)
  case grantWrite => exact (frame_execGrantWrite h).mono (by decide +kernel) (by decide +kernel)
  case paceReturnAcceptance => exact (frame_execPaceReturnAcceptance h).mono (by decide +kernel) (by decide +kernel)
  case rideThroughWindowEnd => exact (frame_execRideThroughWindowEnd h).mono (by decide +kernel) (by decide +kernel)
  case restartStagger => exact (frame_execRestartStagger h).mono (by decide +kernel) (by decide +kernel)
  case restartTimeout => exact (frame_execRestartTimeout h).mono (by decide +kernel) (by decide +kernel)
  case handbackQuiet => exact (frame_execHandbackQuiet h).mono (by decide +kernel) (by decide +kernel)
  case handbackTimeout => exact (frame_execHandbackTimeout h).mono (by decide +kernel) (by decide +kernel)
  case chatterHoldEnd => exact (frame_execChatterHoldEnd h).mono (by decide +kernel) (by decide +kernel)
  case chargeEligible => exact (frame_execChargeEligible h).mono (by decide +kernel) (by decide +kernel)
  case stringPresenceChange => exact (frame_execStringPresenceChange h).mono (by decide +kernel) (by decide +kernel)
  case stringPresenceDebounce => exact (frame_execStringPresenceDebounce h).mono (by decide +kernel) (by decide +kernel)
  case stringInsertCheck => exact (frame_execStringInsertCheck h).mono (by decide +kernel) (by decide +kernel)
  case stringRemoval => exact (frame_execStringRemoval h).mono (by decide +kernel) (by decide +kernel)
  case bokChange => exact (frame_execBokChange h).mono (by decide +kernel) (by decide +kernel)
  case stringSample => exact (frame_execStringSample h).mono (by decide +kernel) (by decide +kernel)
  case chargePeriodStart => exact (frame_execChargePeriodStart h).mono (by decide +kernel) (by decide +kernel)
  case chargeCurrentLimit => exact (frame_execChargeCurrentLimit h).mono (by decide +kernel) (by decide +kernel)
  case chargeSecond => exact (frame_execChargeSecond h).mono (by decide +kernel) (by decide +kernel)
  case chargePhaseTimeout => exact (frame_execChargePhaseTimeout h).mono (by decide +kernel) (by decide +kernel)
  case start => exact (frame_execStart h).mono (by decide +kernel) (by decide +kernel)
  case stop => exact (frame_execStop h).mono (by decide +kernel) (by decide +kernel)
  case clear => exact (frame_execClear h).mono (by decide +kernel) (by decide +kernel)
  case estimatorNaiveTimeout => exact (frame_execEstimatorNaiveTimeout h).mono (by decide +kernel) (by decide +kernel)
  case restCorrection => exact (frame_execRestCorrection h).mono (by decide +kernel) (by decide +kernel)
  case estimatorHibernate => exact (frame_execEstimatorHibernate h).mono (by decide +kernel) (by decide +kernel)
  case estimatorWake => exact (frame_execEstimatorWake h).mono (by decide +kernel) (by decide +kernel)
  case capsulePeriodicExport => exact (frame_execCapsulePeriodicExport h).mono (by decide +kernel) (by decide +kernel)
  case estRidx => exact (frame_execEstRidx h).mono (by decide +kernel) (by decide +kernel)
  case capsuleCommit => exact (frame_execCapsuleCommit h).mono (by decide +kernel) (by decide +kernel)
  case stagingTimeout => exact (frame_execStagingTimeout h).mono (by decide +kernel) (by decide +kernel)
  case fuseSample => exact (frame_execFuseSample h).mono (by decide +kernel) (by decide +kernel)
  case fuseRampWindow => exact (frame_execFuseRampWindow h).mono (by decide +kernel) (by decide +kernel)
  case fuseRampTimeout => exact (frame_execFuseRampTimeout h).mono (by decide +kernel) (by decide +kernel)
  case fuseHardTrip => exact (frame_execFuseHardTrip h).mono (by decide +kernel) (by decide +kernel)
  case fuseSettleDone => exact (frame_execFuseSettleDone h).mono (by decide +kernel) (by decide +kernel)
  case fuseGateRiseTimeout => exact (frame_execFuseGateRiseTimeout h).mono (by decide +kernel) (by decide +kernel)
  case fuseGateOff => exact (frame_execFuseGateOff h).mono (by decide +kernel) (by decide +kernel)
  case fuseGateFallTimeout => exact (frame_execFuseGateFallTimeout h).mono (by decide +kernel) (by decide +kernel)
  case fuseRetry => exact (frame_execFuseRetry h).mono (by decide +kernel) (by decide +kernel)
  case fusClr => exact (frame_execFusClr h).mono (by decide +kernel) (by decide +kernel)
  case thermalEvaluation => exact (frame_execThermalEvaluation h).mono (by decide +kernel) (by decide +kernel)
  case dieComparator => exact (frame_execDieComparator h).mono (by decide +kernel) (by decide +kernel)
  case reload => exact (frame_execReload h).mono (by decide +kernel) (by decide +kernel)
  case revert => exact (frame_execRevert h).mono (by decide +kernel) (by decide +kernel)
  case lockout => exact (frame_execLockout h).mono (by decide +kernel) (by decide +kernel)
  case resume => exact (frame_execResume h).mono (by decide +kernel) (by decide +kernel)
  case ship => exact (frame_execShip h).mono (by decide +kernel) (by decide +kernel)
  case shipFlushDone => exact (frame_execShipFlushDone h).mono (by decide +kernel) (by decide +kernel)
  case shipNotEntered => exact (frame_execShipNotEntered h).mono (by decide +kernel) (by decide +kernel)
  case uploadOpen => exact (frame_execUploadOpen h).mono (by decide +kernel) (by decide +kernel)
  case uploadClose => exact (frame_execUploadClose h).mono (by decide +kernel) (by decide +kernel)
  case uploadAbort => exact (frame_execUploadAbort h).mono (by decide +kernel) (by decide +kernel)
  case uploadEraseDone => exact (frame_execUploadEraseDone h).mono (by decide +kernel) (by decide +kernel)
  case uploadChunk => exact (frame_execUploadChunk h).mono (by decide +kernel) (by decide +kernel)
  case chunkProgrammed => exact (frame_execChunkProgrammed h).mono (by decide +kernel) (by decide +kernel)
  case imageCheckDone => exact (frame_execImageCheckDone h).mono (by decide +kernel) (by decide +kernel)
  case probationPassed => exact (frame_execProbationPassed h).mono (by decide +kernel) (by decide +kernel)
  case pin => exact (frame_execPin h).mono (by decide +kernel) (by decide +kernel)
  case unpin => exact (frame_execUnpin h).mono (by decide +kernel) (by decide +kernel)
  case unpinAll => exact (frame_execUnpinAll h).mono (by decide +kernel) (by decide +kernel)
  case journalScanDone => exact (frame_execJournalScanDone h).mono (by decide +kernel) (by decide +kernel)
  case journalCounters => exact (frame_execJournalCounters h).mono (by decide +kernel) (by decide +kernel)
  case journalHourly => exact (frame_execJournalHourly h).mono (by decide +kernel) (by decide +kernel)
  case compactionDone => exact (frame_execCompactionDone h).mono (by decide +kernel) (by decide +kernel)
  case compactionRetry => exact (frame_execCompactionRetry h).mono (by decide +kernel) (by decide +kernel)
  case flushAge => exact (frame_execFlushAge h).mono (by decide +kernel) (by decide +kernel)
  case flush => exact (frame_execFlush h).mono (by decide +kernel) (by decide +kernel)
  case flushBatchDone => exact (frame_execFlushBatchDone h).mono (by decide +kernel) (by decide +kernel)
  case clearLog => exact (frame_execClearLog h).mono (by decide +kernel) (by decide +kernel)
  case clearAll => exact (frame_execClearAll h).mono (by decide +kernel) (by decide +kernel)
  case clearEraseDone => exact (frame_execClearEraseDone h).mono (by decide +kernel) (by decide +kernel)
  case snapshot => exact (frame_execSnapshot h).mono (by decide +kernel) (by decide +kernel)
  case snapshotCaptureDone => exact (frame_execSnapshotCaptureDone h).mono (by decide +kernel) (by decide +kernel)
  case snapshotWritten => exact (frame_execSnapshotWritten h).mono (by decide +kernel) (by decide +kernel)
  case logScanDone => exact (frame_execLogScanDone h).mono (by decide +kernel) (by decide +kernel)
  case logCursorChange => exact (frame_execLogCursorChange h).mono (by decide +kernel) (by decide +kernel)
  case logWindowRead => exact (frame_execLogWindowRead h).mono (by decide +kernel) (by decide +kernel)
  case snapshotWindowChange => exact (frame_execSnapshotWindowChange h).mono (by decide +kernel) (by decide +kernel)
  case twinFrameSlot => exact (frame_execTwinFrameSlot h).mono (by decide +kernel) (by decide +kernel)
  case twinFrameReceive => exact (frame_execTwinFrameReceive h).mono (by decide +kernel) (by decide +kernel)
  case twinSlotMissing => exact (frame_execTwinSlotMissing h).mono (by decide +kernel) (by decide +kernel)
  case deadManRelease => exact (frame_execDeadManRelease h).mono (by decide +kernel) (by decide +kernel)
  case actinChange => exact (frame_execActinChange h).mono (by decide +kernel) (by decide +kernel)
  case takeoverGapExpiry => exact (frame_execTakeoverGapExpiry h).mono (by decide +kernel) (by decide +kernel)
  case ownershipContestSample => exact (frame_execOwnershipContestSample h).mono (by decide +kernel) (by decide +kernel)
  case dualOwner => exact (frame_execDualOwner h).mono (by decide +kernel) (by decide +kernel)
  case katDone => exact (frame_execKatDone h).mono (by decide +kernel) (by decide +kernel)
  case stateTransferDone => exact (frame_execStateTransferDone h).mono (by decide +kernel) (by decide +kernel)
  case standbyFit => exact (frame_execStandbyFit h).mono (by decide +kernel) (by decide +kernel)
  case switchover => exact (frame_execSwitchover h).mono (by decide +kernel) (by decide +kernel)
  case resync => exact (frame_execResync h).mono (by decide +kernel) (by decide +kernel)
  case takeback => exact (frame_execTakeback h).mono (by decide +kernel) (by decide +kernel)
  case periodicKat => exact (frame_execPeriodicKat h).mono (by decide +kernel) (by decide +kernel)
  case referenceInjection => exact (frame_execReferenceInjection h).mono (by decide +kernel) (by decide +kernel)
  case eccScrub => exact (frame_execEccScrub h).mono (by decide +kernel) (by decide +kernel)
  case healthRecord => exact (frame_execHealthRecord h).mono (by decide +kernel) (by decide +kernel)
  case transactionStop => exact (frame_execTransactionStop h).mono (by decide +kernel) (by decide +kernel)
  case transactionAbort => exact (frame_execTransactionAbort h).mono (by decide +kernel) (by decide +kernel)
  case sclTimeout => exact (frame_execSclTimeout h).mono (by decide +kernel) (by decide +kernel)
  case stretchLimit => exact (frame_execStretchLimit h).mono (by decide +kernel) (by decide +kernel)
  case araRead => exact (frame_execAraRead h).mono (by decide +kernel) (by decide +kernel)
  case registerWrite => exact (frame_execRegisterWrite h).mono (by decide +kernel) (by decide +kernel)
  case hostNotify => exact (frame_execHostNotify h).mono (by decide +kernel) (by decide +kernel)
  case busRecovery => exact (frame_execBusRecovery h).mono (by decide +kernel) (by decide +kernel)
  case busStuckBackoff => exact (frame_execBusStuckBackoff h).mono (by decide +kernel) (by decide +kernel)
  case icClaim => exact (frame_execIcClaim h).mono (by decide +kernel) (by decide +kernel)
  case icComplete => exact (frame_execIcComplete h).mono (by decide +kernel) (by decide +kernel)
  case holdoffExpiry => exact (frame_execHoldoffExpiry h).mono (by decide +kernel) (by decide +kernel)
  case renotify => exact (frame_execRenotify h).mono (by decide +kernel) (by decide +kernel)
  case irqOverdue => exact (frame_execIrqOverdue h).mono (by decide +kernel) (by decide +kernel)
  case provision => exact (frame_execProvision h).mono (by decide +kernel) (by decide +kernel)
  case deploy => exact (frame_execDeploy h).mono (by decide +kernel) (by decide +kernel)
  case rma => exact (frame_execRma h).mono (by decide +kernel) (by decide +kernel)
  case keyprog => exact (frame_execKeyprog h).mono (by decide +kernel) (by decide +kernel)
  case revoke => exact (frame_execRevoke h).mono (by decide +kernel) (by decide +kernel)
  case halt => exact (frame_execHalt h).mono (by decide +kernel) (by decide +kernel)
  case debugResume => exact (frame_execDebugResume h).mono (by decide +kernel) (by decide +kernel)
  case tpOn => exact (frame_execTpOn h).mono (by decide +kernel) (by decide +kernel)
  case tpOff => exact (frame_execTpOff h).mono (by decide +kernel) (by decide +kernel)
  case dropToken => exact (frame_execDropToken h).mono (by decide +kernel) (by decide +kernel)
  case nonceDraw => exact (frame_execNonceDraw h).mono (by decide +kernel) (by decide +kernel)
  case nonceExpiry => exact (frame_execNonceExpiry h).mono (by decide +kernel) (by decide +kernel)
  case tokenSubmit => exact (frame_execTokenSubmit h).mono (by decide +kernel) (by decide +kernel)
  case tokenVerified => exact (frame_execTokenVerified h).mono (by decide +kernel) (by decide +kernel)
  case tokenExpiry => exact (frame_execTokenExpiry h).mono (by decide +kernel) (by decide +kernel)
  case debugRequest => exact (frame_execDebugRequest h).mono (by decide +kernel) (by decide +kernel)
  case registerRead => exact (frame_execRegisterRead h).mono (by decide +kernel) (by decide +kernel)
  case shipSecond => exact (frame_execShipSecond h).mono (by decide +kernel) (by decide +kernel)
  case pllLock => exact (frame_execPllLock h).mono (by decide +kernel) (by decide +kernel)
  case decisionRecordTick => exact (frame_execDecisionRecordTick h).mono (by decide +kernel) (by decide +kernel)
  case logFetchDone => exact (frame_execLogFetchDone h).mono (by decide +kernel) (by decide +kernel)
  case snapshotFetchDone => exact (frame_execSnapshotFetchDone h).mono (by decide +kernel) (by decide +kernel)
  case boundaryScan => exact (frame_execBoundaryScan h).mono (by decide +kernel) (by decide +kernel)

/-- Every command completes. -/
theorem exec_completes (c : Instr) (s : State) : ∃ u, exec c s = .next u := by
  cases c <;> exact ⟨_, rfl⟩

/-- What every command leaves, in the terms of claims. -/
theorem leaves_exec {c : Instr} {s u : State} (h : exec c s = .next u) : LeavesAllBut (mayChange c).1 (mayChange c).2 s u :=
  ⟨fun p hp => same_of_frame (frame_exec h) p (partMask_of_not_mem hp),
   fun f i hf => (frame_exec h).f_regs f i (pageMask_of_not_mem hf)⟩

/-- Settles O6: every command completes within its frame. -/
theorem framesOfCommands : Obligations.FramesOfCommands := by
  unfold Obligations.FramesOfCommands
  intro c s
  obtain ⟨u, hu⟩ := exec_completes c s
  exact ⟨u, hu, leaves_exec hu⟩

/-- Settles O1: both clauses are the definition of a step. -/
theorem stepTakesFront : Obligations.StepTakesFront := by
  unfold Obligations.StepTakesFront
  refine ⟨fun c q s => rfl, fun s h => ?_⟩
  unfold step
  rw [h]

/-- R8: an empty store reads the Reset column. -/
theorem fieldGet_nil (f : Field) (i : Nat) : fieldGet [] f i = f.reset i := by
  unfold fieldGet cellGet
  exact Nat.zero_xor _

/-- Settles O2: the stores are empty after a reset, so that every register reads its Reset column; the rest is the reset state read off. -/
theorem resetState : Obligations.ResetState := by
  unfold Obligations.ResetState
  refine ⟨fun f i => fieldGet_nil f i, fun f i => fieldGet_nil f i, rfl, rfl, rfl, rfl, ?_, ?_, ?_, rfl, rfl, ?_, fun b => ?_⟩
  · exact fieldGet_nil _ _
  · exact fieldGet_nil _ _
  · exact fieldGet_nil _ _
  · exact fun i => Vector.getElem_replicate _
  · exact fieldGet_nil _ _

end Sys2Proof.CommandFrames


/-! What the OTP holds is permanent (R316, R426, R427): floor words are only added, a spent key slot stays spent, and a slot that is not
EMPTY keeps its key. First the relation between two OTP contents, then the operations that program the OTP, then the commands that
reach one of them; every other command has a frame without the OTP. -/

namespace Sys2Proof.OtpContents

open Sys2Proof Sys2Proof.Machine Sys2Proof.Laws Sys2Proof.CommandFrames

/-- A key slot that will never be ACTIVE again. -/
def KeyState.spent (k : KeyState) : Prop := k = .revoked ∨ k = .fault

/-- What a slot becomes: a slot that is not EMPTY keeps its key and stays so, and a spent one stays spent. -/
structure SlotGrows (k l : KeySlot) : Prop where
  key : k.st ≠ .empty → l.key = k.key
  used : k.st ≠ .empty → l.st ≠ .empty
  spent : KeyState.spent k.st → KeyState.spent l.st

/-- What an OTP becomes: floors are added on top, slots grow, and the device ID stays. -/
structure OtpGrows (o p : Otp) : Prop where
  floors : o.floors <+: p.floors
  floor : o.floor ≤ p.floor
  devId : p.devId = o.devId
  slot : ∀ k : Fin 4, SlotGrows o.keys[k] p.keys[k]

theorem SlotGrows.refl (k : KeySlot) : SlotGrows k k := ⟨fun _ => rfl, id, id⟩

theorem SlotGrows.trans {k l m : KeySlot} (h : SlotGrows k l) (g : SlotGrows l m) : SlotGrows k m :=
  ⟨fun hk => (g.key (h.used hk)).trans (h.key hk), fun hk => g.used (h.used hk), fun hk => g.spent (h.spent hk)⟩

theorem OtpGrows.refl (o : Otp) : OtpGrows o o := ⟨List.prefix_refl _, Nat.le_refl _, rfl, fun _ => SlotGrows.refl _⟩

theorem OtpGrows.trans {o p q : Otp} (h : OtpGrows o p) (g : OtpGrows p q) : OtpGrows o q :=
  ⟨h.floors.trans g.floors, h.floor.trans g.floor, g.devId.trans h.devId, fun k => (h.slot k).trans (g.slot k)⟩

/-- The OTP of `u` is what that of `s` has become. -/
def Grows (s u : State) : Prop := OtpGrows s.otp u.otp

theorem Grows.refl (s : State) : Grows s s := OtpGrows.refl _

theorem Grows.trans {s m u : State} (h : Grows s m) (g : Grows m u) : Grows s u := OtpGrows.trans h g

theorem Grows.same {s u : State} (h : u.otp = s.otp) : Grows s u := by
  unfold Grows; rw [h]; exact OtpGrows.refl _

/-- Everything but the OTP, and every page. -/
abbrev allButOtp : Nat := 0x1ffffffdff
abbrev everyPage : Nat := 0xffffffffffffffff

/-- An operation whose frame leaves the OTP out leaves it as it was. -/
theorem Grows.frame {s u : State} (h : Frame allButOtp everyPage s u) : Grows s u := .same (h.f_otp (by decide))

theorem Grows.ite {s a b : State} {c : Prop} [Decidable c] (h : c → Grows s a) (g : ¬c → Grows s b) : Grows s (if c then a else b) := by
  split
  · exact h ‹_›
  · exact g ‹_›

theorem Grows.foldl {β : Type} {f : State → β → State} (hf : ∀ a b, Grows a (f a b)) (l : List β) (s : State) : Grows s (l.foldl f s) := by
  induction l generalizing s with
  | nil => exact .refl s
  | cons b l ih => exact (hf s b).trans (ih _)

/-! The operations that program the OTP. -/

theorem grows_setSlot {o : Otp} {k : Nat} {v : KeySlot} (h : ∀ hk : k < 4, SlotGrows o.keys[k] v) :
    OtpGrows o { o with keys := o.keys.setIfInBounds k v } := by
  refine ⟨List.prefix_refl _, Nat.le_refl _, rfl, fun j => ?_⟩
  by_cases hj : k = j.val
  · subst hj
    simpa using h j.isLt
  · simpa [Vector.getElem_setIfInBounds_ne, hj] using SlotGrows.refl _

theorem grows_setKey (s : State) (k : Nat) (v : KeySlot) (h : ∀ hk : k < 4, SlotGrows s.otp.keys[k] v) : Grows s (s.setKey k v) :=
  grows_setSlot h

/-- The slot read before it is programmed. -/
theorem key_of_getElem? {o : Otp} {k : Nat} {v : KeySlot} (h : o.keys.toList[k]? = some v) (hk : k < 4) : o.keys[k] = v := by
  simpa [hk] using h

/-- R426: KEYPROG fills an EMPTY slot. -/
theorem grows_keyProg (s : State) (k : Nat) : Grows s (s.keyProg k) := by
  unfold State.keyProg
  split
  next key heq =>
    refine .ite (fun _ => ?_) fun _ => .frame (frame_secRefuse (.refl _ _ _) _ _ (by decide) (by decide))
    refine (grows_setKey s k _ fun hk => ?_).trans (.frame (frame_raise (frame_flag (frame_secAccept (.refl _ _ _) (by decide) (by decide)) _
      (by decide)) _ _ _ _ _ (by decide) (by decide)))
    rw [key_of_getElem? heq hk]
    exact ⟨fun h => absurd rfl h, fun _ h => (nomatch h), fun h => (nomatch h)⟩
  next => exact .frame (frame_secRefuse (.refl _ _ _) _ _ (by decide) (by decide))

/-- R426: REVOKE spends a slot. -/
theorem grows_keyRevoke (s : State) (k : Nat) : Grows s (s.keyRevoke k) := by
  unfold State.keyRevoke
  split
  next => exact .frame (frame_secRefuse (.refl _ _ _) _ _ (by decide) (by decide))
  next old heq =>
    refine .ite (fun _ => .frame (frame_secRefuse (.refl _ _ _) _ _ (by decide) (by decide))) fun _ => ?_
    refine (grows_setKey s k ⟨.revoked, old.key⟩ fun hk => ?_).trans (.frame ?_)
    · rw [key_of_getElem? heq hk]
      exact ⟨fun _ => rfl, fun _ h => (nomatch h), fun _ => .inl rfl⟩
    · have hsaid := fun p1 => frame_raise (frame_flag (frame_secAccept (.refl allButOtp everyPage (s.setKey k ⟨.revoked, old.key⟩))
        (by decide) (by decide)) Reg.SEC_FLAGS_KEY (by decide)) 0x8121 3 0x13 k p1 (by decide) (by decide)
      dsimp only
      split
      · exact hsaid _
      · exact .ite (fun _ => frame_endToken (hsaid _) _ (by decide) (by decide)) fun _ => hsaid _

/-- R425: the lifecycle words are no key and no floor. -/
theorem grows_setLifecycle (s : State) (lc : Nat) (b : Bool) : Grows s (s.setLifecycle lc b) := by
  have hword : Grows s { s with otp.lifecycle := lc } := ⟨List.prefix_refl _, Nat.le_refl _, rfl, fun _ => SlotGrows.refl _⟩
  have hshown : Frame allButOtp everyPage { s with otp.lifecycle := lc }
      (if b then ({ s with otp.lifecycle := lc } : State).put Reg.SEC_LC lc else { s with otp.lifecycle := lc }) :=
    .ite (fun _ => frame_put (.refl _ _ _) _ _ (by decide)) fun _ => .refl _ _ _
  have hsaid := frame_raise (frame_flag (frame_secAccept hshown (by decide) (by decide)) Reg.SEC_FLAGS_LIFECYCLE (by decide)) 0x8130 3 0x13
    s.lifecycle (lc + if b then 0 else 256) (by decide) (by decide)
  exact hword.trans (.frame (.ite (fun _ => frame_judgeSession hsaid _ _ (by decide) (by decide)) fun _ => hsaid))

/-- R316: a floor is programmed on top of the others, where it is higher. -/
theorem grows_raiseFloor (s : State) : Grows s s.raiseFloor := by
  unfold State.raiseFloor
  dsimp only
  refine .ite (fun _ => .refl s) fun hwant => .ite (fun _ => ?_) fun _ => ?_
  · have hword : Grows s { s with otp.floors := s.otp.floors ++ [s.reg Reg.IMG_IFLOOR] } := by
      refine ⟨List.prefix_append _ _, ?_, rfl, fun _ => SlotGrows.refl _⟩
      rw [show Otp.floor { s.otp with floors := s.otp.floors ++ [s.reg Reg.IMG_IFLOOR] } = s.reg Reg.IMG_IFLOOR by simp [Otp.floor]]
      exact Nat.le_of_not_le hwant
    exact hword.trans (.frame (frame_raise (frame_flag (frame_put (frame_put (.refl _ _ _) _ _ (by decide)) _ _ (by decide)) _ (by decide))
      _ _ _ _ _ (by decide) (by decide)))
  · exact .frame (frame_raise (frame_flag (.refl _ _ _) _ (by decide)) _ _ _ _ _ (by decide) (by decide))

theorem grows_probationPassed (s : State) : Grows s s.probationPassed := by
  unfold State.probationPassed
  exact (Grows.frame (frame_raise (frame_flag (frame_put (frame_put (frame_jAppend (.refl _ _ _) _ (by decide) (by decide)) _ _ (by decide))
    _ _ (by decide)) _ (by decide)) _ _ _ _ _ (by decide) (by decide))).trans (grows_raiseFloor _)

/-- R427: a slot found unreadable at a start is spent, and keeps its bytes. -/
theorem grows_keyFaults (s : State) (mask : Nat) : Grows s (s.keyFaults mask) := by
  unfold State.keyFaults
  refine .foldl (fun a k => .ite (fun _ => ?_) fun _ => .refl a) _ _
  refine (grows_setKey a k _ fun hk => ⟨fun _ => ?_, fun _ => by simp, fun _ => .inr rfl⟩).trans
    (.frame (frame_raise (.refl _ _ _) _ _ _ _ _ (by decide) (by decide)))
  simp [hk]

/-! The commands of the security block. -/

theorem grows_secCommand (s : State) (c : SecCmd) (cmd : Nat) (st auth : Bool) {f : State → State} (hf : ∀ a, Grows a (f a)) :
    Grows s (s.secCommand c cmd st auth f) := by
  unfold State.secCommand
  exact .ite (fun _ => .refl s) fun _ => .ite (fun _ => .refl s) fun _ =>
    .ite (fun _ => .frame (frame_put (.refl _ _ _) _ _ (by decide))) fun _ =>
    .ite (fun _ => .frame (frame_secRefuse (.refl _ _ _) _ _ (by decide) (by decide))) fun _ =>
    .ite (fun _ => .frame (frame_secRefuse (.refl _ _ _) _ _ (by decide) (by decide))) fun _ => hf s

theorem grows_secProvision (s : State) (c : SecCmd) : Grows s (s.secProvision c) :=
  grows_secCommand _ _ _ _ _ fun _ => grows_setLifecycle _ _ _
theorem grows_secDeploy (s : State) (c : SecCmd) : Grows s (s.secDeploy c) :=
  grows_secCommand _ _ _ _ _ fun _ => grows_setLifecycle _ _ _
theorem grows_secRma (s : State) (c : SecCmd) : Grows s (s.secRma c) :=
  grows_secCommand _ _ _ _ _ fun _ => grows_setLifecycle _ _ _
theorem grows_secKeyprog (s : State) (c : SecCmd) : Grows s (s.secKeyprog c) :=
  grows_secCommand _ _ _ _ _ fun _ => grows_keyProg _ _
theorem grows_secRevoke (s : State) (c : SecCmd) : Grows s (s.secRevoke c) :=
  grows_secCommand _ _ _ _ _ fun _ => grows_keyRevoke _ _

/-! The way of a byte written on a port to SEC_CMD. -/

theorem grows_secWrite (s : State) (p : PortId) (v : Nat) : Grows s (s.secWrite p v) := by
  unfold State.secWrite
  dsimp only
  split
  · exact grows_secProvision _ _
  · exact grows_secDeploy _ _
  · exact grows_secRma _ _
  · exact grows_secKeyprog _ _
  · exact grows_secRevoke _ _
  · exact .frame (frame_secHalt (.refl _ _ _) _ (by decide) (by decide))
  · exact .frame (frame_secDebugResume (.refl _ _ _) _ (by decide) (by decide))
  · exact .frame (frame_secTpOn (.refl _ _ _) _ (by decide) (by decide))
  · exact .frame (frame_secTpOff (.refl _ _ _) _ (by decide) (by decide))
  · exact .frame (frame_secDropToken (.refl _ _ _) _ (by decide) (by decide))
  · exact .ite (fun _ => .frame (frame_put (.refl _ _ _) _ _ (by decide))) fun _ => .refl s

theorem grows_woWrite (s : State) (p : PortId) (f : Field) (i v : Nat) : Grows s (s.woWrite p f i v) := by
  unfold State.woWrite
  exact .ite (fun _ => .frame (frame_glCommand (.refl _ _ _) _ (by decide) (by decide))) fun _ =>
    .ite (fun _ => .frame (frame_trimReset (.refl _ _ _) _ _ (by decide) (by decide))) fun _ =>
    .ite (fun _ => .frame (frame_leShctl (.refl _ _ _) _ (by decide) (by decide))) fun _ =>
    .ite (fun _ => .frame (frame_feClear (.refl _ _ _) _ _ (by decide) (by decide))) fun _ =>
    .ite (fun _ => .frame (frame_spCommand (.refl _ _ _) _ _ _ (by decide) (by decide))) fun _ =>
    .ite (fun _ => .frame (frame_bstCommand (.refl _ _ _) _ _ (by decide) (by decide))) fun _ =>
    .ite (fun _ => .frame (frame_stageByte (.refl _ _ _) _ _ (by decide) (by decide))) fun _ =>
    .ite (fun _ => .frame (frame_fusClr (.refl _ _ _) _ _ (by decide) (by decide))) fun _ =>
    .ite (fun _ => .frame (frame_recCommand (.refl _ _ _) _ (by decide) (by decide))) fun _ =>
    .ite (fun _ => .frame (frame_imgCommand (.refl _ _ _) _ (by decide) (by decide))) fun _ =>
    .ite (fun _ => .frame (frame_pinCmd (.refl _ _ _) _ (by decide) (by decide))) fun _ =>
    .ite (fun _ => .frame (frame_twnCommand (.refl _ _ _) _ (by decide) (by decide))) fun _ =>
    .ite (fun _ => .frame (frame_icComplete (.refl _ _ _) _ (by decide) (by decide))) fun _ =>
    .ite (fun _ => .ite (fun _ => .frame (frame_debugRequest (.refl _ _ _) _ (by decide) (by decide))) fun _ => .refl s) fun _ =>
    .ite (fun _ => grows_secWrite _ _ _) fun _ =>
    .ite (fun _ => .frame (frame_putAt (.refl _ _ _) _ _ _ (allPages f))) fun _ =>
    .ite (fun _ => .ite (fun _ => .frame (frame_put (.refl _ _ _) _ _ (allPages f))) fun _ => .refl s) fun _ => .refl s

theorem grows_liveWrite (s : State) (p : PortId) (f : Field) (i v : Nat) : Grows s (s.liveWrite p f i v) :=
  .frame (frame_liveWrite (.refl _ _ _) _ _ _ _ (by decide) (by decide))

theorem grows_onPort (s : State) (p : PortId) (g : Port → Port) : Grows s (s.onPort p g) :=
  .frame (frame_onPort (.refl _ _ _) _ _ (by decide) (by decide))

theorem grows_delayed (p : PortId) (s : State) (w : Buffered) : Grows s (s.delayed p w) := by
  unfold State.delayed
  split
  · exact .refl s
  · exact .ite (fun _ => .frame (frame_shadowWrite (.refl _ _ _) _ _ _ (by decide) (by decide))) fun _ =>
      .ite (fun _ => grows_woWrite _ _ _ _ _) fun _ => grows_liveWrite _ _ _ _ _

theorem grows_fieldWrite (s : State) (p : PortId) (f : Field) (i v : Nat) : Grows s (s.fieldWrite p f i v) := by
  unfold State.fieldWrite
  split
  · exact .frame (frame_putAt (.refl _ _ _) _ _ _ (allPages f))
  · exact .ite (fun _ => grows_onPort _ _ _) fun _ => grows_woWrite _ _ _ _ _
  · exact .ite (fun _ => grows_onPort _ _ _) fun _ => .ite (fun _ => grows_onPort _ _ _) fun _ => grows_liveWrite _ _ _ _ _
  · exact .refl s

theorem grows_fieldByte (p : PortId) (b : Nat) (s : State) (x : Field × Nat × Nat) : Grows s (s.fieldByte p b x) := by
  obtain ⟨f, i, k⟩ := x
  unfold State.fieldByte
  dsimp only
  refine .ite (fun _ => grows_onPort _ _ _) fun _ =>
    .ite (fun _ => (grows_onPort s p _).trans (.ite (fun _ => .frame (frame_uploadChunk (.refl _ _ _) _ (by decide) (by decide))) fun _ => .refl _))
      fun _ => .ite (fun _ => (Grows.frame (frame_stageByte (.refl _ _ _) _ _ (by decide) (by decide))).trans (grows_onPort _ _ _)) fun _ =>
    .ite (fun _ => (grows_onPort s p _).trans (.ite (fun _ => grows_onPort _ _ _) fun _ => .refl _)) fun _ =>
    .ite (fun _ => grows_fieldWrite _ _ _ _ _) fun _ => ?_
  have hport : Grows s (s.setPort p ((s.port p).gather f i k b).1) := .frame (frame_setPort (.refl _ _ _) _ _ (by decide) (by decide))
  split
  · exact hport
  · exact hport.trans (grows_fieldWrite _ _ _ _ _)

theorem grows_takeByte (p : PortId) (s : State) (w : Nat × Nat) : Grows s (s.takeByte p w) := by
  obtain ⟨off, b⟩ := w
  unfold State.takeByte
  dsimp only
  refine (grows_onPort s p _).trans (.ite (fun _ => .frame (frame_pageWrite (.refl _ _ _) _ _ (by decide) (by decide))) fun _ => ?_)
  refine Grows.trans ?_ (.foldl (fun a x => grows_fieldByte p b a x) _ _)
  have hpart : ∀ (a : State) (c : Prop) [Decidable c] (g : Port → Port), Grows a (if c then a.onPort p g else a) := fun a c _ g =>
    .ite (fun _ => grows_onPort _ _ _) fun _ => .refl a
  exact .ite (fun _ => hpart _ _ _) fun _ => (hpart _ _ _).trans (.frame (frame_refuseWrite (.refl _ _ _) _ _ _ (by decide) (by decide)))

theorem grows_portByte (s : State) (p : PortId) (b : Nat) : Grows s (s.portByte p b).1 := by
  unfold State.portByte
  dsimp only
  split
  · exact .refl s
  · generalize hq : s.onPort p _ = a
    refine (hq ▸ grows_onPort s p _ : Grows s a).trans ?_
    split
    · exact grows_onPort _ _ _
    · split
      · exact Grows.frame (u := a.mailByte _) (frame_mailByte (.refl _ _ _) _ (by decide) (by decide))
      · exact grows_takeByte _ _ _

theorem grows_portBytes (p : PortId) (l : List Nat) (s : State) : Grows s (s.portBytes p l) := by
  induction l generalizing s with
  | nil => exact .refl s
  | cons b l ih =>
    have hbyte := grows_portByte s p b
    rw [State.portBytes]
    split
    · exact Grows.trans (by simpa [*] using hbyte) (ih _)
    · simpa [*] using hbyte

theorem grows_heldAct (s : State) (p : PortId) : Grows s (s.heldAct p) := by
  unfold State.heldAct
  dsimp only
  split
  · generalize hq : s.onPort p _ = a
    refine (hq ▸ grows_onPort s p _ : Grows s a).trans (.ite (fun _ => .ite (fun _ => ?_) fun _ => ?_) fun _ => ?_)
    · exact .foldl (fun a w => .frame (frame_mailByte (.refl _ _ _) _ (by decide) (by decide))) _ _
    · exact .foldl (fun a w => grows_takeByte _ _ _) _ _
    · exact .frame (frame_pecBad (.refl _ _ _) _ _ _ (by decide) (by decide))
  · exact .refl s

theorem grows_stopActs (s : State) (p : PortId) : Grows s (s.stopActs p) := by
  have hacts : ∀ (a : State) (l k : List Buffered), Grows a (l.foldl (State.delayed p) (k.foldl (State.delayed p) a)) := fun a l k =>
    (Grows.foldl (fun a w => grows_delayed p a w) k a).trans (.foldl (fun a w => grows_delayed p a w) l _)
  have htoken : ∀ (a : State) (r : Option Partial), Grows a (match r with
      | some r => if r.page = 0x3E then a.tokenSubmit p (r.bytes.map (BitVec.ofNat 8)) else a
      | none => a) := fun a r => by
    cases r with
    | none => exact .refl a
    | some r => exact .ite (fun _ => .frame (frame_tokenSubmit (.refl _ _ _) _ _ (by decide) (by decide))) fun _ => .refl a
  have hcommit : ∀ (a : State) (c : Option Bool), Grows a (match c with | some last => a.capsuleCommit last | none => a) := fun a c => by
    cases c with
    | none => exact .refl a
    | some l => exact .frame (frame_capsuleCommit (.refl _ _ _) _ (by decide) (by decide))
  unfold State.stopActs
  exact ((((grows_heldAct s p).trans (grows_onPort _ _ _)).trans (hacts _ _ _)).trans (htoken _ _)).trans
    ((hcommit _ _).trans (.frame (frame_logAdvance (.refl _ _ _) (by decide) (by decide))))

theorem grows_portEnd (s : State) (p : PortId) : Grows s (s.portEnd p) := by
  unfold State.portEnd
  exact .ite (fun _ => (grows_stopActs s p).trans (.frame (frame_portClose (.refl _ _ _) _ (by decide) (by decide)))) fun _ => .refl s

theorem grows_portBegin (s : State) (p : PortId) (w : Bool) (kept : List Nat) : Grows s (s.portBegin p w kept) := by
  unfold State.portBegin
  exact ((grows_portEnd s p).trans (grows_onPort _ _ _)).trans
    (.ite (fun _ => .frame (frame_put (.refl _ _ _) _ _ (by decide))) fun _ => .refl _)

theorem grows_pointed (s : State) (p : PortId) (off : Nat) : Grows s ((s.portBegin p true []).pointer p off) :=
  (grows_portBegin s p true []).trans (.frame (frame_pointer (.refl _ _ _) _ _ (by decide) (by decide)))

theorem grows_registerWrite (s : State) (p : PortId) (off : Nat) (d : List Nat) : Grows s (s.registerWrite p off d) := by
  unfold State.registerWrite
  exact .ite (fun _ => (grows_pointed s p off).trans (grows_portBytes _ _ _)) fun _ => .refl s

theorem grows_registerRead (s : State) (p : PortId) (off : Option Nat) (n : Nat) : Grows s (s.registerRead p off n) := by
  have hread : ∀ (a : State) (kept : List Nat), Grows a (State.sendBytes p n (a.portBegin p false kept)) := fun a kept =>
    (grows_portBegin a p false kept).trans (.frame (frame_sendBytes (.refl _ _ _) _ _ (by decide) (by decide)))
  unfold State.registerRead
  refine .ite (fun _ => ?_) fun _ => .refl s
  cases off with
  | none => exact hread _ _
  | some o => exact (grows_pointed s p o).trans (hread _ _)

theorem grows_transactionStop (s : State) (p : PortId) (last : Option Byte) : Grows s (s.transactionStop p last) := by
  unfold State.transactionStop
  cases last with
  | none => exact grows_portEnd s p
  | some b => exact (Grows.ite (fun _ => grows_portBytes _ _ _) fun _ => .refl s).trans (grows_portEnd _ _)

theorem grows_abort (s : State) (p : PortId) (code idx addr : Nat) : Grows s (s.abort p code idx addr) := by
  unfold State.abort
  exact (Grows.ite (fun _ => grows_portEnd s p) fun _ => .frame (frame_portClose (.refl _ _ _) _ (by decide) (by decide))).trans
    (.frame (frame_abortTrace (.refl _ _ _) _ _ _ _ (by decide) (by decide)))

theorem grows_sclTimeout (s : State) (p : PortId) (idx : Nat) : Grows s (s.sclTimeout p idx) := by
  unfold State.sclTimeout
  dsimp only
  refine .ite (fun _ => ?_) fun _ => .refl s
  exact (Grows.frame (frame_raise (frame_bump (frame_portFlag (.refl _ _ _) _ _ (by decide) (by decide)) _ (allPages _)) _ _ _ _ _
    (by decide) (by decide))).trans (grows_abort _ _ _ _ _)

/-! The calendar's writes. -/

theorem grows_calWrite (s : State) (arg : Nat) : Grows s (s.calWrite arg) := by
  unfold State.calWrite
  refine .ite (fun _ => .refl s) fun _ => .foldl (fun a x => ?_) _ _
  obtain ⟨f, i, k⟩ := x
  exact .ite (fun _ => .refl a) fun _ => .ite (fun _ => grows_woWrite _ _ _ _ _) fun _ => grows_liveWrite _ _ _ _ _

theorem grows_calAct (s : State) (x : CalEntry) : Grows s (s.calAct x) := by
  unfold State.calAct
  split
  · exact grows_calWrite _ _
  · exact .frame (frame_putBit (.refl _ _ _) _ _ _ (by decide))
  · exact .frame (frame_snapTrigger (.refl _ _ _) _ _ _ _ _ _ (by decide) (by decide))
  · exact .frame (frame_raise (.refl _ _ _) _ _ _ _ _ (by decide) (by decide))
  · exact .refl s

theorem grows_calRun (s : State) (e : Nat) : Grows s (s.calRun e) := by
  unfold State.calRun
  dsimp only
  refine (Grows.frame (frame_calGather (.refl _ _ s) s.wheelPos (by decide) (by decide))).trans ?_
  split
  · exact .refl _
  · refine .ite (fun _ => .refl _) fun _ => Grows.trans ?_ (grows_calAct _ _)
    exact .same rfl

/-! The start-up. -/

/-- R53, steps 2 and 3: what the start shows of the chip before it reads the key slots. -/
def identityShown (s : State) : State :=
  let s := ((s.put Reg.SEC_LC s.otp.lifecycle).put Reg.SEC_DEVID s.otp.devId.toNat).put Reg.GL_DEVID s.otp.devId.toNat
  let s := (s.put Reg.IMG_FLOOR s.otp.floor).put Reg.IMG_FLOORLEFT (16 - s.otp.floors.length)
  let s := (s.put Reg.GL_FWVER Config.fwVersion.toNat).put Reg.GL_TRIMREV Config.trimRev.toNat
  let s := (s.put Reg.GL_SILREV_MAJOR (Config.siliconRev.toNat / 16)).put Reg.GL_SILREV_MINOR Config.siliconRev.toNat
  (s.put Reg.GL_PAGEMAP (((List.range 256).filter populated).foldl (fun (v : Nat) p => v + 2 ^ p) 0)).keyRefresh

/-- R53, step 4: the flash found, or not. -/
def flashFound (b : BootIn) (s : State) : State :=
  match b.flashUnmet with
  | some r => (s.put Reg.JRN_STAT_NOFLASH 1).raise 0x7040 6 0x0F r.val b.jedec.toNat
  | none => { (s.put Reg.JRN_FCLK (min 50 b.fclk.toNat)).bdRefresh with jrn.fclk := b.fclk.toNat }

/-- R53, step 5: the role the pins name. -/
def roleFound (b : BootIn) (s : State) : State :=
  let s := (s.put Reg.JRN_JEDEC b.jedec.toNat).put Reg.JRN_DENS b.dens.toNat
  let s := { s with twin.actIn := b.actin, twin.actOut := !b.actin, twin.contest := if b.actin then none else some s.now }
  (s.putB Reg.GL_STAT_OWNER (!b.actin)).put Reg.GL_BOOT_STEP 3

theorem bootRead_eq (s : State) (b : BootIn) :
    s.bootRead b = roleFound b (flashFound b (((identityShown s).keyFaults b.keyFault.val).put Reg.GL_BOOT_STEP 2)) := by
  unfold State.bootRead flashFound
  cases b.flashUnmet <;> rfl

theorem grows_flashFound (b : BootIn) (s : State) : Grows s (flashFound b s) := by
  unfold flashFound
  split
  · exact .frame (frame_raise (frame_put (.refl _ _ _) _ _ (by decide)) _ _ _ _ _ (by decide) (by decide))
  · exact .same rfl

theorem identityShown_otp (s : State) : (identityShown s).otp = s.otp := by simp [identityShown, State.keyRefresh]
theorem roleFound_otp (b : BootIn) (s : State) : (roleFound b s).otp = s.otp := rfl

theorem grows_bootRead (s : State) (b : BootIn) : Grows s (s.bootRead b) := by
  have hshown : Grows s ((identityShown s).keyFaults b.keyFault.val) :=
    Grows.trans (.same (identityShown_otp s)) (grows_keyFaults (identityShown s) _)
  have hfound : Grows ((identityShown s).keyFaults b.keyFault.val) (s.bootRead b) := by
    rw [bootRead_eq]
    exact (Grows.trans (.same (put_otp _ _ _)) (grows_flashFound b _)).trans (.same (roleFound_otp b _))
  exact hshown.trans hfound

theorem grows_boot (s : State) (b : BootIn) : Grows s (s.boot b) := by
  have hreset : Grows s s.unpower := .same rfl
  have hwake : ∀ a : State, Grows a (a.bootWake b) := fun a => .frame (frame_bootWake (.refl _ _ a) b (by decide) (by decide))
  have hrest : ∀ a : State, Grows a (a.bootPins b).firstMode.roleShow := fun a =>
    .frame (frame_roleShow (frame_firstMode (frame_bootPins (.refl _ _ a) b (by decide) (by decide)) (by decide) (by decide)) (by decide)
      (by decide))
  exact ((hreset.trans (hwake _)).trans (grows_bootRead _ b)).trans (hrest _)

/-! Every command. -/

theorem grows_finish (s : State) : Grows s s.finish := .same (finish_otp s)

/-- A command of the shared form. -/
theorem grows_live {t : Edges} {s u : State} {f : State → State} (h : live t s f = .next u) (hf : ∀ a, Grows a (f a)) : Grows s u := by
  unfold live at h
  injection h with h
  rw [← h]
  refine .ite (fun _ => ?_) fun _ => .same rfl
  exact (hf (s.at t)).trans ((Grows.same (decided_otp _ _)).trans (grows_finish _))

theorem grows_execPowerOnReset {t : Edges} {b : BootIn} {s u : State} (h : execPowerOnReset t b s = .next u) : Grows s u := by
  have hnext : execPowerOnReset t b s = .next (if (s.at t).core.powered then s.at t else ((s.at t).boot b).finish) := rfl
  rw [hnext] at h
  have hu := Host.Outcome.next.inj h
  subst hu
  have hat : Grows s (s.at t) := .same rfl
  exact .ite (fun _ => hat) fun _ => hat.trans ((grows_boot (s.at t) b).trans (grows_finish _))

section
variable {t : Edges} {s u : State}

theorem grows_execProbationPassed (h : execProbationPassed t s = .next u) : Grows s u :=
  grows_live h fun a => .ite (fun _ => grows_probationPassed a) fun _ => .refl a
theorem grows_execProvision {c : SecCmd} (h : execProvision t c s = .next u) : Grows s u := grows_live h fun a => grows_secProvision a c
theorem grows_execDeploy {c : SecCmd} (h : execDeploy t c s = .next u) : Grows s u := grows_live h fun a => grows_secDeploy a c
theorem grows_execRma {c : SecCmd} (h : execRma t c s = .next u) : Grows s u := grows_live h fun a => grows_secRma a c
theorem grows_execKeyprog {c : SecCmd} (h : execKeyprog t c s = .next u) : Grows s u := grows_live h fun a => grows_secKeyprog a c
theorem grows_execRevoke {c : SecCmd} (h : execRevoke t c s = .next u) : Grows s u := grows_live h fun a => grows_secRevoke a c
theorem grows_execRegisterWrite {p : PortId} {off : Byte} {d : List Byte} (h : execRegisterWrite t p off d s = .next u) : Grows s u :=
  grows_live h fun a => grows_registerWrite a _ _ _
theorem grows_execRegisterRead {p : PortId} {off : Option Byte} {n : Nat} (h : execRegisterRead t p off n s = .next u) : Grows s u :=
  grows_live h fun a => grows_registerRead a _ _ _
theorem grows_execTransactionStop {p : PortId} {last : Option Byte} (h : execTransactionStop t p last s = .next u) : Grows s u :=
  grows_live h fun a => grows_transactionStop a p last
theorem grows_execTransactionAbort {p : PortId} {cond : AbortCond} {idx : Nat} {addr : Byte}
    (h : execTransactionAbort t p cond idx addr s = .next u) : Grows s u :=
  grows_live h fun a => .ite (fun _ => grows_abort a _ _ _ _) fun _ => .refl a
theorem grows_execSclTimeout {p : PortId} {idx : Nat} (h : execSclTimeout t p idx s = .next u) : Grows s u :=
  grows_live h fun a => grows_sclTimeout a p idx
theorem grows_execCalendarEntry {e : Fin 256} (h : execCalendarEntry t e s = .next u) : Grows s u :=
  grows_live h fun a => .ite (fun _ => grows_calRun a e.val) fun _ => .refl a

end

/-- The commands that can reach the OTP. -/
def reachesOtp : Instr → Bool
  | .powerOnReset .. | .probationPassed .. | .provision .. | .deploy .. | .rma .. | .keyprog .. | .revoke .. | .registerWrite ..
  | .registerRead .. | .transactionStop .. | .transactionAbort .. | .sclTimeout .. | .calendarEntry .. => true
  | _ => false

/-- The frame of every other command is without the OTP. -/
theorem otp_not_mem_of_not_reaches {c : Instr} (h : reachesOtp c = false) : Part.otp ∉ (mayChange c).1 := by
  cases c <;> simp_all [reachesOtp, mayChange, eventParts]

/-- Whatever the command, the OTP only grows. -/
theorem grows_exec {c : Instr} {s u : State} (h : exec c s = .next u) : Grows s u := by
  by_cases hc : reachesOtp c = true
  case neg => exact .same ((leaves_exec h).1 .otp (otp_not_mem_of_not_reaches (by simpa using hc)))
  case pos =>
    unfold reachesOtp at hc
    split at hc
    · exact grows_execPowerOnReset h
    · exact grows_execProbationPassed h
    · exact grows_execProvision h
    · exact grows_execDeploy h
    · exact grows_execRma h
    · exact grows_execKeyprog h
    · exact grows_execRevoke h
    · exact grows_execRegisterWrite h
    · exact grows_execRegisterRead h
    · exact grows_execTransactionStop h
    · exact grows_execTransactionAbort h
    · exact grows_execSclTimeout h
    · exact grows_execCalendarEntry h
    · exact absurd hc (by decide)

/-- Settles O4: what the OTP of the next state has become of the OTP before keeps each of the four promises. -/
theorem otpIsPermanent : Obligations.OtpIsPermanent := by
  unfold Obligations.OtpIsPermanent
  intro c s
  obtain ⟨u, hu⟩ := exec_completes c s
  obtain ⟨hfloors, hfloor, hdev, hslot⟩ := grows_exec hu
  refine ⟨u, hu, hfloors, hfloor, hdev, fun k hk => ?_, fun k => (hslot k).key⟩
  rcases (hslot k).spent (.inl hk) with h | h <;> rw [h] <;> exact ⟨by decide, by decide⟩

end Sys2Proof.OtpContents

namespace Sys2Proof.JunkCells

open Sys2Proof Sys2Proof.Machine Sys2Proof.Laws Sys2Proof.LoadSteps

/-- A store in canonical form whose listed registers read the listed values, also past their widths: the obligations quantify
over every state, and no field's cell is bounded by its type. -/
def cellsReading (l : List (Field × Nat × Nat)) : Cells :=
  l.foldl (fun c x => cellSet c (x.1.key x.2.1) (x.2.2 ^^^ x.1.reset x.2.1)) []

/-- A powered chip with the supervisor running and these registers, everything else as at reset. -/
def poweredWith (l : List (Field × Nat × Nat)) : State :=
  { State.reset with regs := cellsReading l, core := { State.reset.core with powered := true } }

/-- What `g` shows of the next state of a command. -/
def shown {α : Type} (c : Instr) (s : State) (g : State → α) : Option α :=
  match exec c s with
  | .next u => some (g u)
  | _ => none

/-- A command whose next state shows `v` does nothing that would show another value. -/
theorem not_does {α : Type} {c : Instr} {s : State} {P : State → Prop} {g : State → α} {v : α} (hv : shown c s g = some v)
    (hP : ∀ u, P u → g u ≠ v) : ¬ Does c s P := by
  rintro ⟨u, hu, hPu⟩
  rw [shown, hu] at hv
  exact hP u hPu (Option.some.inj hv)

end Sys2Proof.JunkCells

namespace Sys2Proof.ModeAnswers

-- The kernel's evaluations of this file run one after another: side by side they need more memory than the check allows.
set_option Elab.async false

open Sys2Proof Sys2Proof.Machine Sys2Proof.Laws Sys2Proof.LoadSteps Sys2Proof.JunkCells

/-- A chip whose GL_MODE cell holds 300, no mode's code. -/
def oddMode : State := poweredWith [(Reg.GL_MODE, 0, 300)]

/-- LOCKOUT entered from it shows the low three bits of the old mode. -/
theorem oddMode_lockout : shown (.lockout 0 0xA5) oddMode (fun u => u.reg Reg.GL_MODE_PREV) = some 4 := by
  decide +kernel

/-- Refutes O14: GL_MODE_PREV holds three bits, the GL_MODE cell of an arbitrary state may hold more. -/
theorem not_modeCommands : ¬ Obligations.ModeCommands := by
  unfold Obligations.ModeCommands
  intro h
  obtain ⟨hlockout, -⟩ := h.2 0 oddMode ⟨rfl, rfl⟩
  refine not_does oddMode_lockout (fun u hu => ?_) (hlockout (by decide +kernel))
  obtain ⟨-, -, hprev, -⟩ := hu
  rw [hprev]
  decide +kernel

/-- A chip sealed at instant 0 whose GL_MODE cell holds 300. -/
def oddModeSealed : State := { oddMode with core := { oddMode.core with shipStep := 5 } }

/-- Its LOCKOUT two seconds after the seal shows the low three bits of the old mode. -/
theorem oddModeSealed_lockout :
    shown (.shipNotEntered (2 * edgeSec)) oddModeSealed (fun u => u.reg Reg.GL_MODE_PREV) = some 4 := by
  decide +kernel

/-- Refutes O11: the LOCKOUT of a chip still good 2 s after its seal shows three bits of GL_MODE, whose cell may hold more. -/
theorem not_shipMode : ¬ Obligations.ShipMode := by
  unfold Obligations.ShipMode
  intro h
  obtain ⟨-, -, -, -, hshut⟩ := h.2 (2 * edgeSec) oddModeSealed ⟨rfl, rfl⟩
  refine not_does oddModeSealed_lockout (fun u hu => ?_) (hshut rfl (by decide) (by decide +kernel))
  obtain ⟨-, -, hprev, -⟩ := hu
  rw [hprev]
  decide +kernel

end Sys2Proof.ModeAnswers

namespace Sys2Proof.LaneAnswers

-- The kernel's evaluations of this file run one after another: side by side they need more memory than the check allows.
set_option Elab.async false

open Sys2Proof Sys2Proof.Machine Sys2Proof.Laws Sys2Proof.LoadSteps Sys2Proof.JunkCells

/-- A chip whose LE_SHPEND cell holds 300, more than the eight bits of the field. -/
def widePending : State := poweredWith [(Reg.LE_SHPEND, 0, 300)]

/-- The offer of bay 0 leaves the low eight bits of the old value. -/
theorem widePending_leShctl : shown (.leShctl 0 1) widePending (fun u => u.reg Reg.LE_SHPEND) = some 45 := by
  decide +kernel

/-- Refutes O24: LE_SHPEND keeps eight bits of the OR, and the LE_SHPEND cell of an arbitrary state may hold more. -/
theorem not_loopCommitsAndRegions : ¬ Obligations.LoopCommitsAndRegions := by
  unfold Obligations.LoopCommitsAndRegions
  intro h
  obtain ⟨hoffer, -⟩ := h 0 0 widePending rfl
  refine not_does widePending_leShctl (fun u hu => ?_) (hoffer 1 rfl)
  obtain ⟨hpend, -⟩ := hu
  rw [hpend]
  decide +kernel

/-- A chip in RUN with bay 0 conducting on its active set, whose duty clamps are both 65,536. -/
def clampedHigh : State :=
  let s := poweredWith [(Reg.GL_MODE, 0, 2), (Reg.SHR_BAYST, 0, 4), (Reg.PH_PSTAT_STATE, 0, 2), (Reg.LE_STAT_OVR, 0, 0),
    (Reg.CS_DMIN, 0, 65536), (Reg.CS_DMAX, 0, 65536)]
  { s with bays := s.bays.set 0 { s.bay 0 with lane := { (s.bay 0).lane with builtin := false } } }

/-- Its loop trigger computes the duty 65,536, which LE_DUTY shows as 0. -/
theorem clampedHigh_loopTrigger : shown (.loopTrigger 0 0 0 0) clampedHigh (fun u => u.regAt Reg.LE_DUTY 0) = some 0 := by
  decide +kernel

/-- Refutes O22: with both clamps at 65,536, values no CS_DMIN or CS_DMAX of 16 bits holds but an arbitrary state's cells may, the duty wraps in
LE_DUTY to 0 and lies below DMIN. -/
theorem not_loopTriggerComputes : ¬ Obligations.LoopTriggerComputes := by
  unfold Obligations.LoopTriggerComputes
  intro h
  obtain ⟨-, hfree⟩ := h 0 0 0 0 clampedHigh rfl
  refine not_does clampedHigh_loopTrigger (fun u hu => ?_) (hfree (by decide +kernel) (by decide +kernel))
  obtain ⟨-, -, hclamp, -⟩ := hu
  have hmin : (clampedHigh.coef (0 : Bay)).dmin = 65536 := by decide +kernel
  have hmax : (clampedHigh.coef (0 : Bay)).dmax = 65536 := by decide +kernel
  have hduty : 65536 ≤ u.regAt Reg.LE_DUTY (0 : Bay) := hmin ▸ (hclamp (by rw [hmin, hmax])).1
  exact fun hzero => absurd (hduty.trans_eq hzero) (by decide)

/-- A chip in RUN with a host's move under way, whose SHR_SPSEQ cell holds 300, more than the eight bits of a sequence. -/
def wideSequence : State :=
  { poweredWith [(Reg.GL_MODE, 0, 2), (Reg.SHR_SPSEQ, 0, 300)] with sup := { State.reset.sup with mover := .host } }

/-- A command that supersedes the move shows the low eight bits of its sequence. -/
theorem wideSequence_setpoint :
    shown (.setpointCommand 0 4500 100 1) wideSequence (fun u => u.reg Reg.SHR_SPSUP) = some 44 := by
  decide +kernel

/-- Refutes O26: SHR_SPSUP takes eight bits of SHR_SPSEQ, and the SHR_SPSEQ cell of an arbitrary state may hold more. -/
theorem not_setPoint : ¬ Obligations.SetPoint := by
  unfold Obligations.SetPoint
  intro h
  obtain ⟨-, -, -, hpass⟩ := h.1 0 4500 100 1 wideSequence ⟨rfl, rfl⟩
  obtain ⟨-, -, htaken⟩ := hpass (by decide) (by decide +kernel) (by decide +kernel)
  obtain ⟨-, -, hbegins⟩ := htaken (by decide) (by decide) (by decide) (by decide)
  refine not_does wideSequence_setpoint (fun u hu => ?_) (hbegins (by decide +kernel) (by decide +kernel))
  obtain ⟨-, -, -, -, hsup, -⟩ := hu
  rw [(hsup rfl).1]
  decide +kernel

/-- A chip in RUN whose feed A returns with its cycle counter full, and 1000 good cycles to come by the HUP_QCYC cell. -/
def fullCount : State :=
  let s := poweredWith [(Reg.GL_MODE, 0, 2), (Reg.HUP_FEEDST_A, 0, 2), (Reg.HUP_QCNT_A, 0, 255), (Reg.HUP_QCYC, 0, 1000),
    (Reg.HUP_RMSLO, 0, 0)]
  { s with hup := { s.hup with feedA := { s.hup.feedA with posAt := some 0, counts := true, cycOk := true } } }

/-- A good cycle of 20 ms leaves the counter at its largest value. -/
theorem fullCount_crossing :
    shown (.acZeroCrossing (edgeSec / 50) .a 0 true 0 false) fullCount (fun u => u.qcnt .a) = some 255 := by
  decide +kernel

/-- Refutes O36: HUP_QCNT_A saturates at 255, and the HUP_QCYC cell of an arbitrary state may ask for more cycles. -/
theorem not_outageAndReturn : ¬ Obligations.OutageAndReturn := by
  unfold Obligations.OutageAndReturn
  intro h
  obtain ⟨-, hcycle⟩ := h (edgeSec / 50) .a fullCount rfl
  obtain ⟨hcounts, -⟩ := hcycle 0 0 rfl (by decide +kernel) rfl rfl (by decide) (by decide) (by decide +kernel) (by decide +kernel)
    (by decide +kernel) (.inl (by decide +kernel))
  refine not_does fullCount_crossing (fun u hu => ?_) (hcounts (by decide +kernel))
  obtain ⟨-, hcnt, -⟩ := hu
  rw [hcnt]
  decide +kernel

end Sys2Proof.LaneAnswers

namespace Sys2Proof.JournalAnswers

-- The kernel's evaluations of this file run one after another: side by side they need more memory than the check allows.
set_option Elab.async false

open Sys2Proof Sys2Proof.Machine Sys2Proof.Laws Sys2Proof.LoadSteps Sys2Proof.JunkCells

/-- A chip whose scanned journal has its active bank past the start of a compaction; a JRN_ENDUR of 1 keeps the wear's division short. -/
def longBank : State :=
  { poweredWith [(Reg.JRN_ENDUR, 0, 1)] with
    flash := { State.reset.flash with bank0 := { State.reset.flash.bank0 with next := 200000 } }
    jrn := { State.reset.jrn with scanned := true } }

/-- The records of its power-fail warning begin a compaction. -/
theorem longBank_powerFail : shown (.powerFailWarning 0) longBank (fun u => u.jrn.compacting.isSome) = some true := by
  decide +kernel

/-- Refutes O12: the warning ends the compaction under way before it writes its records, and a record written into a bank of 196,608 bytes or more
begins one. -/
theorem not_clocksAndTime : ¬ Obligations.ClocksAndTime := by
  unfold Obligations.ClocksAndTime
  intro h
  obtain ⟨-, -, hwarn⟩ := h.2 0 longBank rfl
  refine not_does longBank_powerFail (fun u hu => ?_) hwarn
  obtain ⟨-, hcomp, -⟩ := hu
  rw [hcomp]
  decide

/-- A chip with a full active bank and counters due, whose JRN_STAT_FULL cell holds 2. -/
def fullBank : State :=
  { poweredWith [(Reg.JRN_STAT_FULL, 0, 2), (Reg.JRN_OPSEC, 0, 100000000)] with
    flash := { State.reset.flash with bank0 := { State.reset.flash.bank0 with next := 262140 } }
    jrn := { State.reset.jrn with scanned := true } }

/-- JRN_STAT_FULL is set already, and stays as it is. -/
theorem fullBank_counters : shown (.journalCounters 0) fullBank (fun u => u.reg Reg.JRN_STAT_FULL) = some 2 := by
  decide +kernel

/-- Refutes O50: JRN_STAT_FULL is put to 1 where it reads 0, and stays where the cell of an arbitrary state holds another value. -/
theorem not_journalRecords : ¬ Obligations.JournalRecords := by
  unfold Obligations.JournalRecords
  intro h
  obtain ⟨-, hdue, -⟩ := h.2 0 fullBank rfl
  obtain ⟨-, hfull⟩ := hdue (by decide +kernel)
    ⟨by decide +kernel, rfl, rfl, by decide +kernel, by decide +kernel⟩
  refine not_does fullBank_counters (fun u hu => ?_) (hfull (by decide +kernel))
  obtain ⟨-, hset, -⟩ := hu
  rw [hset]
  decide

end Sys2Proof.JournalAnswers

namespace Sys2Proof.WheelAnswers

-- The kernel's evaluations of this file run one after another: side by side they need more memory than the check allows.
set_option Elab.async false

open Sys2Proof Sys2Proof.Machine Sys2Proof.Laws Sys2Proof.LoadSteps Sys2Proof.JunkCells

/-- A chip whose wheel stands before angle 0, where a staged load ends that writes 77 into WHL_CYC by a pin. -/
def pinnedCycle : State :=
  { poweredWith [] with
    core := { (poweredWith []).core with load := some ⟨.reload, 0, true, 0⟩ }
    img := { State.reset.img with staged := some (0, []) }
    wheel := { State.reset.wheel with running := true, idx := 63 }
    jrn := { State.reset.jrn with pins := [⟨0, 4, 0x0C, 4, 77⟩] } }

/-- Nothing measured at a point. -/
def noMeasure : WheelMeas := { rate := 0, fmains := 0, perr := 0, bofs := none, crestA := 0, crestB := 0 }

set_option maxRecDepth 100000 in
/-- The pin is written after the cycle is counted. -/
theorem pinnedCycle_wheelPoint :
    shown (.wheelPoint 0 noMeasure) pinnedCycle (fun u => u.reg Reg.WHL_CYC) = some 77 := by
  decide +kernel

/-- Refutes O18: at angle 0 a load may end, whose pins are written into whatever fields they name, in an arbitrary state WHL_CYC too. -/
theorem not_wheelPoints : ¬ Obligations.WheelPoints := by
  unfold Obligations.WheelPoints
  intro h
  obtain ⟨hmoves, -⟩ := h.1 0 noMeasure pinnedCycle rfl
  refine not_does pinnedCycle_wheelPoint (fun u hu => ?_) (hmoves rfl)
  obtain ⟨-, -, -, hcyc⟩ := hu
  rw [hcyc]
  decide +kernel

end Sys2Proof.WheelAnswers

namespace Sys2Proof.RecorderAnswers

-- The kernel's evaluations of this file run one after another: side by side they need more memory than the check allows.
set_option Elab.async false

open Sys2Proof Sys2Proof.Machine Sys2Proof.Laws Sys2Proof.LoadSteps Sys2Proof.JunkCells

/-- A record of severity 0 queued with sequence 1. -/
def quietRec : EventRec :=
  { code := 0, sev := 0, unit := 0, epoch := false, lost := false, held := false, standby := false, opsec := 0, pcc := 0, p0 := 0,
    p1 := 0, p2 := 0, p3 := 0, seq := 1, tm := 0 }

/-- A chip with a full queue of younger records than its batch writes, and a full journal bank. -/
def fullQueue : State :=
  let s := poweredWith []
  { s with
    log := { s.log with queue := List.replicate 64 quietRec, batch := some 0 }
    flash := { s.flash with bank0 := { s.flash.bank0 with next := 262140 } }
    jrn := { s.jrn with scanned := true } }

/-- The LOGPTR that follows the batch finds no room, and event 0x7044 displaces the oldest record. -/
theorem fullQueue_batchDone :
    shown (.flushBatchDone 0) fullQueue (fun u => ((u.log.queue.take 64).getLast?).map EventRec.code) = some (some 0x7044) := by
  decide +kernel

/-- Refutes O51: the events of the batch's own end (here 0x7044, a LOGPTR that does not fit) enter the queue, and displace from a full one
a record the batch was to leave. -/
theorem not_recorderQueue : ¬ Obligations.RecorderQueue := by
  unfold Obligations.RecorderQueue
  intro h
  obtain ⟨-, -, -, -, -, hbatch⟩ := h.2 0 fullQueue rfl
  refine not_does fullQueue_batchDone (fun u hu => ?_)
    (hbatch 0 rfl rfl (by decide +kernel) (by decide +kernel) (by decide +kernel))
  obtain ⟨-, -, -, -, hrest⟩ := hu
  have hlen : (fullQueue.log.queue.filter (fun r => 0 < r.seq)).length = 64 := by decide +kernel
  have hlast : ((fullQueue.log.queue.filter (fun r => 0 < r.seq)).getLast?).map EventRec.code = some 0 := by decide +kernel
  rw [hlen] at hrest
  rw [hrest, hlast]
  decide

/-- A complete capture that a host's command began. -/
def doneCapture : Capture :=
  { manual := true, tm := 0, done := true,
    snap := { seq := 0, code := 0, sev := 0, kind := 2, opsec := 0, pcc := 0, angle := 0, cyc := 0, per := 0, chans := [], ver := 0,
              folded := 0, param0 := 0, pages := [], samples := [] } }

/-- A chip with that capture to write, whose snapshot sectors are one erase below 80 % of their endurance and whose events of severity 1
take snapshots. -/
def wornSlots : State :=
  let s := poweredWith [(Reg.JRN_ENDUR, 0, 1), (Reg.JRN_ERS_SNAP, 0, 80), (Reg.REC_SNSEV, 0, 1)]
  { s with log := { s.log with scanned := true, cap0 := some doneCapture } }

/-- The erase of the slot raises event 0x7046, whose snapshot takes the buffer that has just been freed. -/
theorem wornSlots_written :
    shown (.snapshotWritten 0 0) wornSlots (fun u => (u.log.cap 0).isSome) = some true := by
  decide +kernel

/-- Refutes O53: the capture buffer of a snapshot that has been written is free only where the erase of its slot raises no event that takes
another snapshot. -/
theorem not_snapshotsAndWindows : ¬ Obligations.SnapshotsAndWindows := by
  unfold Obligations.SnapshotsAndWindows
  intro h
  obtain ⟨-, -, -, hcap, -⟩ := h 0 wornSlots rfl
  obtain ⟨-, -, -, hwritten⟩ := hcap 0 [] doneCapture rfl
  refine not_does wornSlots_written (fun u hu => ?_)
    (hwritten 1 rfl rfl (by decide +kernel) rfl rfl (.inl (by decide +kernel)) (by decide +kernel) (by decide +kernel))
  obtain ⟨hfree, -⟩ := hu
  rw [hfree]
  decide

end Sys2Proof.RecorderAnswers

namespace Sys2Proof.Readings

open Sys2Proof Sys2Proof.Machine Sys2Proof.Laws Sys2Proof.LoadSteps Sys2Proof.ImageLoads Sys2Proof.DebugAccess

/-! What the end of a command leaves, part by part: all but the interrupt controller and the records for the partner. -/

section
variable (t : Edges) (s : State) (f : State → State)

@[simp] theorem ended_pending : (ended t s f).pending = (f (s.at t)).pending := by simp [ended]
@[simp] theorem ended_now : (ended t s f).now = (f (s.at t)).now := by simp [ended]
@[simp] theorem ended_regs : (ended t s f).regs = (f (s.at t)).regs := by simp [ended]
@[simp] theorem ended_shad : (ended t s f).shad = (f (s.at t)).shad := by simp [ended]
@[simp] theorem ended_vka : (ended t s f).vka = (f (s.at t)).vka := by simp [ended]
@[simp] theorem ended_otp : (ended t s f).otp = (f (s.at t)).otp := by simp [ended]
@[simp] theorem ended_flash : (ended t s f).flash = (f (s.at t)).flash := by simp [ended]
@[simp] theorem ended_jrn : (ended t s f).jrn = (f (s.at t)).jrn := by simp [ended]
@[simp] theorem ended_log : (ended t s f).log = (f (s.at t)).log := by simp [ended]
@[simp] theorem ended_portH : (ended t s f).portH = (f (s.at t)).portH := by simp [ended]
@[simp] theorem ended_portS : (ended t s f).portS = (f (s.at t)).portS := by simp [ended]
@[simp] theorem ended_img : (ended t s f).img = (f (s.at t)).img := by simp [ended]
@[simp] theorem ended_wheel : (ended t s f).wheel = (f (s.at t)).wheel := by simp [ended]
@[simp] theorem ended_bays : (ended t s f).bays = (f (s.at t)).bays := by simp [ended]
@[simp] theorem ended_fuses : (ended t s f).fuses = (f (s.at t)).fuses := by simp [ended]
@[simp] theorem ended_sup : (ended t s f).sup = (f (s.at t)).sup := by simp [ended]
@[simp] theorem ended_strs : (ended t s f).strs = (f (s.at t)).strs := by simp [ended]
@[simp] theorem ended_ests : (ended t s f).ests = (f (s.at t)).ests := by simp [ended]
@[simp] theorem ended_est : (ended t s f).est = (f (s.at t)).est := by simp [ended]
@[simp] theorem ended_hup : (ended t s f).hup = (f (s.at t)).hup := by simp [ended]
@[simp] theorem ended_tlm : (ended t s f).tlm = (f (s.at t)).tlm := by simp [ended]
@[simp] theorem ended_cap : (ended t s f).cap = (f (s.at t)).cap := by simp [ended]
@[simp] theorem ended_ph (n : Nat) : (ended t s f).ph n = (f (s.at t)).ph n := ph_of_phases (by simp) n
@[simp] theorem ended_bay (b : Nat) : (ended t s f).bay b = (f (s.at t)).bay b := bay_of_bays (by simp) b
@[simp] theorem ended_fuse (c : Nat) : (ended t s f).fuse c = (f (s.at t)).fuse c := fuse_of_fuses (by simp) c
@[simp] theorem ended_str (k : Nat) : (ended t s f).str k = (f (s.at t)).str k := str_of_strs (by simp) k
@[simp] theorem ended_esti (k : Nat) : (ended t s f).esti k = (f (s.at t)).esti k := esti_of_ests (by simp) k

end

/-! What follows an event without raising another. -/

/-- The event of a command is still its last where the log, the time and the held events stay. -/
theorem raised_of_eq {code sev p0 p1 : Nat} {s u v : State} (h : Raised code sev p0 p1 s u) (hlog : v.log.last = u.log.last)
    (hnow : v.now = u.now) (hheld : v.core.heldEvents = u.core.heldEvents) : Raised code sev p0 p1 s v := by
  unfold Raised at h ⊢
  rw [hlog, hnow, hheld]
  exact h

/-- An operation whose frame holds neither the log nor the time nor the held events leaves the last event. -/
theorem raised_of_frame {code sev p0 p1 P G : Nat} {s u v : State} (h : Raised code sev p0 p1 s u) (hf : Frame P G u v)
    (hnow : P.testBit 1 = false) (hheld : P.testBit 6 = false) (hlog : P.testBit 12 = false) : Raised code sev p0 p1 s v :=
  raised_of_eq h (congrArg LogSt.last (hf.f_log hlog)) (hf.f_now hnow) (hf.f_held hheld)

/-- A register written after an event. -/
theorem raised_put {code sev p0 p1 : Nat} {s u : State} (h : Raised code sev p0 p1 s u) (f : Field) (v : Nat) :
    Raised code sev p0 p1 s (u.put f v) := raised_of_eq h rfl rfl rfl

/-- An event raised at the end of an effect that has left the supervisor and REC_SNSEV. -/
theorem raised_now {z s : State} {code sev unit p0 p1 : Nat} (h : sev < 6) (hsup : z.core.sup = s.core.sup)
    (hsn : z.reg Reg.REC_SNSEV = s.reg Reg.REC_SNSEV) : Raised code sev p0 p1 s (z.raise code sev unit p0 p1) :=
  raised_raise _ _ _ _ _ (.inl h) (supUp_of_sup hsup) hsn

end Sys2Proof.Readings

namespace Sys2Proof.SupplyLosses

open Sys2Proof Sys2Proof.Machine Sys2Proof.Laws Sys2Proof.LoadSteps Sys2Proof.CommandFrames

/-- Without its supplies a chip reads every register's Reset column. -/
theorem unpower_regAt (s : State) (f : Field) (i : Nat) : s.unpower.regAt f i = f.reset i := fieldGet_nil f i

/-- A state whose registers are written and whose VKA domain is lost. -/
def vkaGone (t : Edges) (s : State) : State :=
  ({ s.at t with vka := { Vka.reset with lost := true } }.put Reg.GL_STAT_GECKO 0).put Reg.THM_STAT_GECKO 0

theorem exec_vkaLost (t : Edges) (s : State) : exec (.vkaLost t) s = .next (vkaGone t s) := rfl

/-- Settles O10: each of the three commands is a state written out; what the loss of VKA leaves is its frame. -/
theorem resetsAndSupplies : Obligations.ResetsAndSupplies := by
  unfold Obligations.ResetsAndSupplies
  refine fun t s => ⟨?_, fun sup => ?_, ?_⟩
  · exact ⟨(s.at t).unpower, rfl, rfl, rfl, rfl, rfl, rfl, unpower_regAt _⟩
  · exact ⟨(s.at t).unpower, rfl, rfl, rfl, rfl, rfl, rfl, unpower_regAt _⟩
  · refine ⟨_, exec_vkaLost t s, rfl, rfl, rfl, rfl, ?_, reg_put_same _ _ _, ?_, leaves_exec (exec_vkaLost t s)⟩
    · exact (reg_put_other _ _ _ _ (by decide)).trans (reg_put_same _ _ _)
    · exact onlyRegsQuiet_put (onlyRegsQuiet_put (onlyRegsQuiet_of_regs _ rfl) _ _ (by decide)) _ _ (by decide)

end Sys2Proof.SupplyLosses

namespace Sys2Proof.SecurityAnswers

open Sys2Proof Sys2Proof.Machine Sys2Proof.Laws Sys2Proof.LoadSteps Sys2Proof.ImageLoads Sys2Proof.DebugAccess Sys2Proof.Readings

section
variable (t : Edges) (s : State) (c : SecCmd)

theorem exec_provision : exec (.provision t c) s = live t s fun s => s.secProvision c := rfl
theorem exec_deploy : exec (.deploy t c) s = live t s fun s => s.secDeploy c := rfl
theorem exec_rma : exec (.rma t c) s = live t s fun s => s.secRma c := rfl
theorem exec_keyprog : exec (.keyprog t c) s = live t s fun s => s.secKeyprog c := rfl
theorem exec_revoke : exec (.revoke t c) s = live t s fun s => s.secRevoke c := rfl
theorem exec_halt : exec (.halt t c) s = live t s fun s => s.secHalt c := rfl
theorem exec_tpOn : exec (.tpOn t c) s = live t s fun s => s.secTpOn c := rfl
theorem exec_tpOff : exec (.tpOff t c) s = live t s fun s => s.secTpOff c := rfl
theorem exec_dropToken : exec (.dropToken t c) s = live t s fun s => s.secDropToken c := rfl

end

/-! The frame of every command (R426): its key, then its row, then its authority, then its effect. -/

/-- The port may give the command: port H any, the debug port 0x20 to 0x23 under CONTROL. -/
def Taken (s : State) (c : SecCmd) (cmd : Nat) : Prop :=
  c.port = .h ∨ c.port = .d ∧ s.reg Reg.SEC_DBGLVL_LEVEL = 2 ∧ 0x20 ≤ cmd ∧ cmd ≤ 0x23

section
variable {s : State} {c : SecCmd} {cmd : Nat} {state auth : Bool} {f : State → State} (hup : s.supUp = true)
include hup

theorem secCommand_taken (ht : Taken s c cmd) : s.secCommand c cmd state auth f =
    if c.key ≠ 0xA5 then s.put Reg.SEC_CMDRES 3 else if !state then s.secRefuse cmd 2 else if !auth then s.secRefuse cmd 4 else f s := by
  unfold State.secCommand
  rw [if_neg (by simp [hup])]
  rcases ht with hport | ⟨hport, hlevel⟩
  · rw [if_neg (by simp [hport])]
  · rw [if_neg (by simp [hport, hlevel])]

theorem secCommand_wrong (ht : Taken s c cmd) (hkey : c.key ≠ 0xA5) : s.secCommand c cmd state auth f = s.put Reg.SEC_CMDRES 3 := by
  rw [secCommand_taken hup ht, if_pos hkey]

theorem secCommand_state (ht : Taken s c cmd) (hkey : c.key = 0xA5) (h : state = false) :
    s.secCommand c cmd state auth f = s.secRefuse cmd 2 := by
  rw [secCommand_taken hup ht, if_neg (by simp [hkey]), if_pos (by simp [h])]

theorem secCommand_auth (ht : Taken s c cmd) (hkey : c.key = 0xA5) (h : state = true) (ha : auth = false) :
    s.secCommand c cmd state auth f = s.secRefuse cmd 4 := by
  rw [secCommand_taken hup ht, if_neg (by simp [hkey]), if_neg (by simp [h]), if_pos (by simp [ha])]

theorem secCommand_done (ht : Taken s c cmd) (hkey : c.key = 0xA5) (h : state = true) (ha : auth = true) :
    s.secCommand c cmd state auth f = f s := by
  rw [secCommand_taken hup ht, if_neg (by simp [hkey]), if_neg (by simp [h]), if_neg (by simp [ha])]

end

/-! The two ways a command does nothing else than answer. -/

/-- The answer to a wrong key. -/
def WrongKey (s u : State) : Prop :=
  u.reg Reg.SEC_CMDRES = 3 ∧ u.otp = s.otp ∧ u.sec = s.sec ∧ OnlyRegsQuiet [Reg.SEC_CMDRES] s u

/-- The answer to a refused command. -/
def Refused (s : State) (cmd res : Nat) (u : State) : Prop :=
  u.reg Reg.SEC_CMDRES = res ∧ u.otp = s.otp ∧ u.sec.token = s.sec.token ∧ u.core.sup = s.core.sup ∧
    OnlyRegs [Reg.SEC_CMDRES] s u ∧ Raised 0x8122 2 cmd res s u

section
variable {t : Edges} {s : State} {c : Instr} {f : State → State} (hs : s.up) (hc : exec c s = live t s f)
include hs hc

theorem does_wrongKey (hf : f (s.at t) = (s.at t).put Reg.SEC_CMDRES 3) : Does c s (WrongKey s) := by
  refine does_of_effect hs.1 hc hf ⟨?_, by simp, by simp, ?_⟩
  · rw [ended_reg, reg_put_same]
    decide
  · exact onlyRegsQuiet_ended (onlyRegsQuiet_put (onlyRegsQuiet_of_regs _ rfl) _ _ (by decide))

theorem does_refused {cmd res : Nat} (hres : res < 8) (hf : f (s.at t) = (s.at t).secRefuse cmd res) : Does c s (Refused s cmd res) := by
  unfold State.secRefuse at hf
  refine does_of_effect hs.1 hc hf ⟨?_, ?_, ?_, ?_, ?_, ?_⟩
  · rw [ended_reg, raise_reg _ _ _ _ _ _ (by decide) _ (by decide), reg_put_same]
    exact Nat.mod_eq_of_lt hres
  · simp
  · simp
  · simp
  · have hput : OnlyRegs [Reg.SEC_CMDRES] s ((s.at t).put Reg.SEC_CMDRES res) :=
      onlyRegs_put (onlyRegs_of_regs _ rfl) _ _ (by decide)
    exact onlyRegs_ended (onlyRegs_raise hput _ _ _ _ _ (.inl (by decide)))
  · exact raised_ended (raised_now (by decide) rfl (reg_put_other _ _ _ _ (by decide)))

end

end Sys2Proof.SecurityAnswers

namespace Sys2Proof.SecurityAnswers

open Sys2Proof Sys2Proof.Machine Sys2Proof.Laws Sys2Proof.LoadSteps Sys2Proof.ImageLoads Sys2Proof.DebugAccess Sys2Proof.Readings

/-! The effects of the accepted commands. -/

/-- The OTP's next lifecycle written, the answer given and the flag set. -/
def lifecycleNext (lc : Nat) (s : State) : State := ({ s with otp.lifecycle := lc }.put Reg.SEC_CMDRES 1).put Reg.SEC_FLAGS_LIFECYCLE 1

theorem setLifecycle_later (s : State) (lc : Nat) :
    s.setLifecycle lc false = (lifecycleNext lc s).raise 0x8130 3 0x13 s.lifecycle (lc + 256) := rfl

theorem lifecycleNext_reg (lc : Nat) (s : State) (f : Field) (hres : f.place ≠ Reg.SEC_CMDRES.place)
    (hflag : f.place ≠ Reg.SEC_FLAGS_LIFECYCLE.place) : (lifecycleNext lc s).reg f = s.reg f :=
  (reg_put_other _ _ _ _ hflag).trans (reg_put_other _ _ _ _ hres)

/-- A lifecycle taken for the next power-on. -/
theorem does_lifecycle_later {t : Edges} {s : State} {c : Instr} {f : State → State} (hs : s.up) (hc : exec c s = live t s f) {lc : Nat}
    (hf : f (s.at t) = (s.at t).setLifecycle lc false) : Does c s fun u => u.reg Reg.SEC_CMDRES = 1 ∧ u.otp.lifecycle = lc ∧
      u.lifecycle = s.lifecycle ∧ u.otp.keys = s.otp.keys ∧ u.reg Reg.SEC_FLAGS_LIFECYCLE = 1 ∧
      Raised 0x8130 3 s.lifecycle (lc + 256) s u := by
  rw [setLifecycle_later] at hf
  refine does_of_effect hs.1 hc hf ⟨?_, ?_, ?_, ?_, ?_, ?_⟩
  · simp (disch := decide) [ended_reg, raise_reg, lifecycleNext, reg_put_other]
  · simp [lifecycleNext]
  · simp (disch := decide) [State.lifecycle, ended_reg, raise_reg, lifecycleNext_reg]
  · simp [lifecycleNext]
  · simp (disch := decide) [ended_reg, raise_reg, lifecycleNext]
  · exact raised_ended (raised_now (by decide) rfl (lifecycleNext_reg _ _ _ (by decide) (by decide)))


/-- DEPLOY's effect: in force at once, and the session judged again. -/
theorem setLifecycle_atOnce (s : State) (lc : Nat) : s.setLifecycle lc true =
    ((lifecycleNext lc (s.put Reg.SEC_LC lc)).raise 0x8130 3 0x13 s.lifecycle lc).judgeSession
      ((lifecycleNext lc (s.put Reg.SEC_LC lc)).raise 0x8130 3 0x13 s.lifecycle lc).mode 3 := rfl

/-- The end of a session leaves the OTP. -/
theorem judgeSession_otp (s : State) (mode why : Nat) : (s.judgeSession mode why).otp = s.otp :=
  (frame_judgeSession (P := 0xffffffffffffffff ^^^ 2 ^ 9) (G := 0xffffffffffffffff) (Frame.refl _ _ s) mode why (by decide)
    (by decide)).f_otp (by decide)

/-- A lifecycle in force at once. -/
theorem does_lifecycle_atOnce {t : Edges} {s : State} {c : Instr} {f : State → State} (hs : s.up) (hc : exec c s = live t s f) {lc : Nat}
    (hlc : lc < 4) (hf : f (s.at t) = (s.at t).setLifecycle lc true) : Does c s fun u => u.reg Reg.SEC_CMDRES = 1 ∧
      u.otp.lifecycle = lc ∧ u.lifecycle = lc ∧ (s.reg Reg.SEC_DBGLVL_LEVEL = 0 → Raised 0x8130 3 s.lifecycle lc s u) := by
  rw [setLifecycle_atOnce] at hf
  refine does_of_effect hs.1 hc hf ⟨?_, ?_, ?_, fun hlevel => ?_⟩
  · rw [ended_reg, judgeSession_reg _ _ _ _ (by decide) (by decide) (by decide)]
    simp (disch := decide) [raise_reg, lifecycleNext, reg_put_other]
  · rw [ended_otp, judgeSession_otp]
    simp [lifecycleNext]
  · rw [State.lifecycle, ended_reg, judgeSession_reg _ _ _ _ (by decide) (by decide) (by decide)]
    simp (disch := decide) [raise_reg, lifecycleNext_reg]
    exact Nat.mod_eq_of_lt hlc
  · refine raised_ended ?_
    rw [judgeSession_of_none]
    · exact raised_now (by decide) rfl
        ((lifecycleNext_reg _ _ _ (by decide) (by decide)).trans (reg_put_other _ _ _ _ (by decide)))
    · rw [raise_reg _ _ _ _ _ _ (by decide) _ (by decide), lifecycleNext_reg _ _ _ (by decide) (by decide),
        reg_put_other _ _ _ _ (by decide)]
      exact hlevel

/-! Keys (R426, R427). -/

/-- The answer and the flag of an accepted key command. -/
def keyTold (s : State) : State := (s.put Reg.SEC_CMDRES 1).put Reg.SEC_FLAGS_KEY 1

theorem keyTold_reg (s : State) (f : Field) (hres : f.place ≠ Reg.SEC_CMDRES.place) (hflag : f.place ≠ Reg.SEC_FLAGS_KEY.place) :
    (keyTold s).reg f = s.reg f := (reg_put_other _ _ _ _ hflag).trans (reg_put_other _ _ _ _ hres)

theorem setKey_reg (s : State) (k : Nat) (v : KeySlot) (f : Field) (h : f.place ≠ Reg.SEC_KEYST.place) :
    (s.setKey k v).reg f = s.reg f := reg_put_other _ _ _ _ h

theorem setKey_keys (s : State) (k : Nat) (v : KeySlot) : (s.setKey k v).otp.keys = s.otp.keys.setIfInBounds k v := rfl

theorem keys_toList_get (s : State) (k : Fin 4) : s.otp.keys.toList[k.val]? = some s.otp.keys[k] := by
  simp

theorem keys_toList_none (s : State) {k : Nat} (h : 4 ≤ k) : s.otp.keys.toList[k]? = none := by
  simpa using h

theorem keyProg_empty {s : State} {k : Fin 4} (h : s.otp.keys[k].st = .empty) (hc : Config.onCurve s.keyStaged = true) :
    s.keyProg k = (keyTold (s.setKey k ⟨.active, s.keyStaged⟩)).raise 0x8120 2 0x13 k s.lifecycle := by
  have hlc : (s.setKey k ⟨.active, s.keyStaged⟩).lifecycle = s.lifecycle := setKey_reg _ _ _ _ (by decide)
  rw [← hlc]
  unfold State.keyProg
  rw [keys_toList_get]
  split
  · exact if_pos hc
  · rename_i hst
    exact absurd (congrArg some (show s.otp.keys[k] = ⟨.empty, s.otp.keys[k].key⟩ by rw [← h])) (hst _)

theorem keyProg_refused {s : State} {k : Nat} (h : 4 ≤ k ∨ ∃ j : Fin 4, j.val = k ∧ s.otp.keys[j].st ≠ .empty) :
    s.keyProg k = s.secRefuse 0x10 5 := by
  unfold State.keyProg
  rcases h with hk | ⟨j, rfl, hj⟩
  · rw [keys_toList_none s hk]
  · rw [keys_toList_get]
    split
    · rename_i key heq
      exact absurd (congrArg KeySlot.st (Option.some.inj heq)) hj
    · rfl

theorem keyRevoke_refused {s : State} {k : Nat} (h : 4 ≤ k ∨ k = s.reg Reg.IMG_KEYSLOT ∨ s.otp.otherActive k = false) :
    s.keyRevoke k = s.secRefuse 0x11 5 := by
  unfold State.keyRevoke
  split
  · rfl
  · rename_i old hold
    refine if_pos (h.resolve_left fun hk => ?_)
    rw [keys_toList_none s hk] at hold
    exact absurd hold (by simp)

theorem keyRevoke_done {s : State} {k : Fin 4} (hslot : k.val ≠ s.reg Reg.IMG_KEYSLOT) (hother : s.otp.otherActive k = true)
    (ht : s.sec.token = none) : s.keyRevoke k = (keyTold (s.setKey k ⟨.revoked, s.otp.keys[k].key⟩)).raise 0x8121 3 0x13 k
      (s.reg Reg.IMG_KEYSLOT) := by
  have hslot' : (s.setKey k ⟨.revoked, s.otp.keys[k].key⟩).reg Reg.IMG_KEYSLOT = s.reg Reg.IMG_KEYSLOT :=
    setKey_reg _ _ _ _ (by decide)
  unfold State.keyRevoke
  rw [keys_toList_get]
  dsimp only
  rw [if_neg (by simp [hslot, hother])]
  split
  · rw [← hslot']; rfl
  · rename_i tok htok
    rw [raise_sec _ _ _ _ _ _ (by decide)] at htok
    exact absurd (ht.symm.trans htok) (by simp)

/-- A key slot written, and the command's answer and event. -/
theorem does_keyWritten {t : Edges} {s : State} {c : Instr} {f : State → State} (hs : s.up) (hc : exec c s = live t s f) (k : Fin 4)
    (v : KeySlot) {code sev p1 : Nat} (hsev : sev < 6)
    (hf : f (s.at t) = (keyTold ((s.at t).setKey k v)).raise code sev 0x13 k p1) : Does c s fun u =>
      u.reg Reg.SEC_CMDRES = 1 ∧ u.otp.keys[k] = v ∧ (∀ j : Fin 4, j ≠ k → u.otp.keys[j] = s.otp.keys[j]) ∧
        u.otp.lifecycle = s.otp.lifecycle ∧ u.reg Reg.SEC_FLAGS_KEY = 1 ∧ Raised code sev k p1 s u := by
  refine does_of_effect hs.1 hc hf ⟨?_, ?_, fun j hj => ?_, ?_, ?_, ?_⟩
  · simp (disch := decide) [ended_reg, raise_reg _ _ _ _ _ _ hsev, keyTold, reg_put_other]
  · simp [keyTold, setKey_keys, hsev]
  · have : k.val ≠ j.val := fun e => hj (Fin.ext e.symm)
    simp [keyTold, setKey_keys, hsev, this]
  · simp [keyTold, hsev, State.setKey, State.keyRefresh]
  · simp (disch := decide) [ended_reg, raise_reg _ _ _ _ _ _ hsev, keyTold]
  · exact raised_ended (raised_now hsev rfl
      ((keyTold_reg _ _ (by decide) (by decide)).trans (setKey_reg _ _ _ _ (by decide))))

/-! Tokens, halts and test patterns. -/

theorem endToken_otp (s : State) (why : Nat) : (s.endToken why).otp = s.otp :=
  (frame_endToken (P := 0xffffffffffffffff ^^^ 2 ^ 9) (G := 0xffffffffffffffff) (Frame.refl _ _ s) why (by decide) (by decide)).f_otp
    (by decide)

theorem endToken_of_none {s : State} (h : s.sec.token = none) (why : Nat) : s.endToken why = s := by
  unfold State.endToken
  rw [h]

/-- The event of a halt, raised before the supervisor stops. -/
def haltTold (s : State) : State := ((s.put Reg.SEC_CMDRES 1).put Reg.SEC_FLAGS_HALT 1).raise 0x8140 4 0x13 s.mode 0

/-- The supervisor halted after its event. -/
def haltDone (s : State) : State := { s with core.sup := .halted s.now }.put Reg.SEC_DBGLVL_HALT 1

theorem doHalt_of_up {s : State} (hup : s.supUp = true) : s.doHalt = haltDone (haltTold s) := by
  have hmode : (s.put Reg.SEC_CMDRES 1).mode = s.mode := reg_put_other _ _ _ _ (by decide)
  unfold haltTold
  rw [← hmode]
  exact if_pos (show s.secAccept.supUp = true from hup)

theorem haltDone_reg (s : State) (f : Field) (h : f.place ≠ Reg.SEC_DBGLVL_HALT.place) : (haltDone s).reg f = s.reg f :=
  reg_put_other { s with core.sup := .halted s.now } _ _ _ h

/-- The pattern of TP_ON begun. -/
def patternBegun (ch duty : Nat) (s : State) : State := { s.secAccept with sec.pattern := some (ch, duty) }.put Reg.SEC_DBGLVL_TP 1

theorem patternOn_eq (s : State) (ch duty : Nat) : s.patternOn ch duty = if 47 < ch then s.secRefuse 0x22 2
    else (patternBegun ch (min duty 52429) s).raise 0x8142 4 0x13 ch (min duty 52429) := rfl

theorem patternBegun_reg (ch duty : Nat) (s : State) (f : Field) (h : f.place ≠ Reg.SEC_DBGLVL_TP.place) :
    (patternBegun ch duty s).reg f = s.secAccept.reg f := reg_put_other { s.secAccept with sec.pattern := some (ch, duty) } _ _ _ h

theorem endPattern_reg (s : State) (f : Field) (h : f.place ≠ Reg.SEC_DBGLVL_TP.place) : s.endPattern.reg f = s.reg f :=
  reg_put_other { s with sec.pattern := none } _ _ _ h

theorem endPattern_onlyRegsQuiet {l : List Field} {s u : State} (h : OnlyRegsQuiet l s u) (hl : Reg.SEC_DBGLVL_TP.place ∈ l.map Field.place) :
    OnlyRegsQuiet l s u.endPattern :=
  onlyRegsQuiet_put (u := { u with sec.pattern := none }) h _ _ hl

/-- A debug port's command of the control row, to a supervisor that runs. -/
theorem secCommand_control {s : State} {c : SecCmd} {cmd : Nat} {state : Bool} {f : State → State} (hup : s.supUp = true)
    (hport : c.port = .d) (hkey : c.key = 0xA5) (hlevel : s.reg Reg.SEC_DBGLVL_LEVEL = 2) (hcmd : 0x20 ≤ cmd ∧ cmd ≤ 0x23)
    (h : state = true) : s.secCommand c cmd state (s.control c) f = f s :=
  secCommand_done hup (.inr ⟨hport, hlevel, hcmd⟩) hkey h (by simp [State.control, hport, hlevel])

section
variable {t : Edges} {s : State} (hs : s.up)
include hs

/-- R432: DROP_TOKEN ends the token in force. -/
theorem does_dropToken (c : SecCmd) (hport : c.port = .h) (hkey : c.key = 0xA5) : Does (.dropToken t c) s fun u =>
    u.reg Reg.SEC_CMDRES = 1 ∧ u.sec.token = none ∧ u.otp = s.otp ∧
      (s.sec.token.isSome = true → u.reg Reg.SEC_SCOPE = 0 ∧ u.reg Reg.SEC_EXPIRY = 0 ∧ u.reg Reg.SEC_FLAGS_TOKEN = 1) := by
  have heffect : (s.at t).secDropToken c = (s.at t).secAccept.endToken 1 :=
    secCommand_done (s := s.at t) hs.2 (.inl hport) hkey rfl rfl
  refine does_of_effect hs.1 (exec_dropToken t s c) heffect ?_
  rw [ended_reg, ended_sec, ended_otp, endToken_otp]
  refine ⟨?_, ?_, rfl, fun hsome => ?_⟩
  · cases htok : s.sec.token with
    | none => rw [endToken_of_none (s := (s.at t).secAccept) htok]; exact reg_put_same _ _ _
    | some k =>
      rw [endToken_reg (s := (s.at t).secAccept) htok _ _ (by decide) (by decide) (by decide),
        tokenCleared_reg _ _ (by decide) (by decide) (by decide)]
      exact reg_put_same _ _ _
  · cases htok : s.sec.token with
    | none => rw [endToken_of_none (s := (s.at t).secAccept) htok]; exact htok
    | some k => exact endToken_token (s := (s.at t).secAccept) htok 1
  · obtain ⟨k, htok⟩ := Option.isSome_iff_exists.mp hsome
    obtain ⟨hscope, hexpiry, hflag⟩ := tokenCleared_regs (s.at t).secAccept
    simp only [ended_reg]
    rw [endToken_reg (s := (s.at t).secAccept) htok _ _ (by decide) (by decide) (by decide),
      endToken_reg (s := (s.at t).secAccept) htok _ _ (by decide) (by decide) (by decide),
      endToken_reg (s := (s.at t).secAccept) htok _ _ (by decide) (by decide) (by decide)]
    exact ⟨hscope, hexpiry, hflag⟩

/-- R442: HALT stops a supervisor that runs. -/
theorem does_halt (c : SecCmd) (hport : c.port = .d) (hkey : c.key = 0xA5) (hlevel : s.reg Reg.SEC_DBGLVL_LEVEL = 2)
    (hmode : s.mode = modeTadpole ∨ s.mode = modeShadow ∨ s.mode = modeLockout) : Does (.halt t c) s fun u =>
      u.reg Reg.SEC_CMDRES = 1 ∧ u.core.sup = .halted (max s.now t) ∧ u.reg Reg.SEC_DBGLVL_HALT = 1 ∧ u.reg Reg.SEC_FLAGS_HALT = 1 ∧
        Raised 0x8140 4 s.mode 0 s u := by
  have heffect : (s.at t).secHalt c = haltDone (haltTold (s.at t)) :=
    (secCommand_control (s := s.at t) hs.2 hport hkey hlevel (by decide) (by simpa [or_assoc] using hmode)).trans
      (doHalt_of_up (s := s.at t) hs.2)
  have hnow : (haltTold (s.at t)).now = max s.now t := by simp [haltTold]
  refine does_of_effect hs.1 (exec_halt t s c) heffect ⟨?_, ?_, ?_, ?_, raised_ended ?_⟩
  · rw [ended_reg, haltDone_reg _ _ (by decide)]
    exact (raise_reg _ _ _ _ _ _ (by decide) _ (by decide)).trans ((reg_put_other _ _ _ _ (by decide)).trans (reg_put_same _ _ _))
  · rw [ended_core, ← hnow]
    rfl
  · rw [ended_reg]
    exact reg_put_same { haltTold (s.at t) with core.sup := .halted (haltTold (s.at t)).now } _ _
  · rw [ended_reg, haltDone_reg _ _ (by decide)]
    exact (raise_reg _ _ _ _ _ _ (by decide) _ (by decide)).trans (reg_put_same _ _ _)
  · have hraised : Raised 0x8140 4 s.mode 0 s (haltTold (s.at t)) :=
      raised_now (by decide) rfl ((reg_put_other _ _ _ _ (by decide)).trans (reg_put_other _ _ _ _ (by decide)))
    unfold Raised at hraised ⊢
    rw [if_pos hs.2] at hraised ⊢
    exact hraised

/-- R442: TP_ON drives a pattern on a channel. -/
theorem does_tpOn (c : SecCmd) (hport : c.port = .d) (hkey : c.key = 0xA5) (hlevel : s.reg Reg.SEC_DBGLVL_LEVEL = 2)
    (hlc : s.lifecycle = 1 ∨ s.lifecycle = 2) (hmode : s.mode = modeTadpole) (how : s.owner = true) :
    (48 ≤ c.arg.toNat → Does (.tpOn t c) s (Refused s 0x22 2)) ∧
    (c.arg.toNat < 48 → Does (.tpOn t c) s fun u => u.reg Reg.SEC_CMDRES = 1 ∧
      u.sec.pattern = some (c.arg.toNat, min c.duty.toNat 52429) ∧ u.reg Reg.SEC_DBGLVL_TP = 1 ∧
      Raised 0x8142 4 c.arg.toNat (min c.duty.toNat 52429) s u) := by
  have hrow : ((s.lifecycle == 1 || s.lifecycle == 2) && s.mode == modeTadpole && s.owner) = true := by
    rw [hmode, how]
    rcases hlc with h | h <;> rw [h] <;> rfl
  have heffect : (s.at t).secTpOn c = (s.at t).patternOn c.arg.toNat c.duty.toNat :=
    secCommand_control (s := s.at t) hs.2 hport hkey hlevel (by decide) hrow
  rw [patternOn_eq] at heffect
  refine ⟨fun harg => does_refused hs (exec_tpOn t s c) (by decide) (heffect.trans (if_pos harg)), fun harg => ?_⟩
  rw [if_neg (by omega)] at heffect
  refine does_of_effect hs.1 (exec_tpOn t s c) heffect ⟨?_, ?_, ?_, ?_⟩
  · rw [ended_reg, raise_reg _ _ _ _ _ _ (by decide) _ (by decide), patternBegun_reg _ _ _ _ (by decide)]
    exact reg_put_same _ _ _
  · rw [ended_sec, raise_sec _ _ _ _ _ _ (by decide)]
    rfl
  · rw [ended_reg, raise_reg _ _ _ _ _ _ (by decide) _ (by decide)]
    exact reg_put_same { (s.at t).secAccept with sec.pattern := some (c.arg.toNat, min c.duty.toNat 52429) } _ _
  · exact raised_ended (raised_now (by decide) rfl
      ((patternBegun_reg _ _ _ _ (by decide)).trans (reg_put_other (s.at t) _ _ _ (by decide))))

/-- R442: TP_OFF ends the pattern. -/
theorem does_tpOff (c : SecCmd) (hport : c.port = .d) (hkey : c.key = 0xA5) (hlevel : s.reg Reg.SEC_DBGLVL_LEVEL = 2) :
    Does (.tpOff t c) s fun u => u.reg Reg.SEC_CMDRES = 1 ∧ u.sec.pattern = none ∧ u.reg Reg.SEC_DBGLVL_TP = 0 ∧
      OnlyRegsQuiet [Reg.SEC_CMDRES, Reg.SEC_DBGLVL_TP] s u := by
  have heffect : (s.at t).secTpOff c = (s.at t).secAccept.endPattern :=
    secCommand_control (s := s.at t) hs.2 hport hkey hlevel (by decide) rfl
  refine does_of_effect hs.1 (exec_tpOff t s c) heffect ⟨?_, ?_, ?_, onlyRegsQuiet_ended ?_⟩
  · rw [ended_reg, endPattern_reg _ _ (by decide)]
    exact reg_put_same _ _ _
  · rw [ended_sec]
    rfl
  · rw [ended_reg]
    exact reg_put_same { (s.at t).secAccept with sec.pattern := none } _ _
  · exact endPattern_onlyRegsQuiet (onlyRegsQuiet_put (onlyRegsQuiet_of_regs (u := s.at t) _ rfl) _ _ (by decide)) (by decide)

/-- R442: RESUME leaves a supervisor that runs as it is. -/
theorem does_resume_of_up (c : SecCmd) (hport : c.port = .d) (hkey : c.key = 0xA5) (hlevel : s.reg Reg.SEC_DBGLVL_LEVEL = 2) :
    Does (.debugResume t c) s fun u => u.reg Reg.SEC_CMDRES = 1 ∧ (s.core.sup = .running → u.core.sup = .running) := by
  have heffect : (s.at t).secDebugResume c = (s.at t).secAccept := by
    refine Eq.trans (secCommand_control (s := s.at t) hs.2 hport hkey hlevel (by decide) rfl) ?_
    exact endHalt_of_up (s := (s.at t).secAccept) hs.2 0
  refine does_of_effect hs.1 (exec_debugResume t s c) heffect ⟨?_, fun h => ?_⟩
  · rw [ended_reg]
    exact reg_put_same _ _ _
  · rw [ended_core]
    exact h

end


/-! The rows of R442's table that several clauses name. -/

theorem rmaRow {s : State} (hlc : s.lifecycle = 1 ∨ s.lifecycle = 2) (hmode : s.mode = modeLockout) :
    ((s.lifecycle == 1 || s.lifecycle == 2) && s.mode == modeLockout) = true := by
  rw [hmode]
  rcases hlc with h | h <;> rw [h] <;> rfl

theorem keyprogRow {s : State} (hlc : s.lifecycle = 0 ∨ s.lifecycle = 1) (hmode : s.mode = modeLockout ∨ s.mode = modeTadpole) :
    ((s.lifecycle == 0 || s.lifecycle == 1) && (s.mode == modeLockout || s.mode == modeTadpole)) = true := by
  rcases hlc with h | h <;> rcases hmode with m | m <;> rw [h, m] <;> rfl

theorem blankMay {s : State} (hlc : s.lifecycle = 0) : (s.lifecycle == 0 || s.tokenScope 5) = true := by
  rw [hlc]; rfl

/-- Settles O59: the frame of a command refuses or takes it; each effect is one of the lemmas above. -/
theorem securityCommands : Obligations.SecurityCommands := by
  unfold Obligations.SecurityCommands
  intro t s hs
  have hup : (s.at t).supUp = true := hs.2
  have hhost : ∀ (arg : Byte) (duty : Code) (cmd : Nat), Taken (s.at t) ⟨.h, 0xA5, arg, duty⟩ cmd := fun _ _ _ => .inl rfl
  have hdebug : s.reg Reg.SEC_DBGLVL_LEVEL = 2 → ∀ (arg : Byte) (duty : Code) {cmd : Nat}, 0x20 ≤ cmd ∧ cmd ≤ 0x23 →
      Taken (s.at t) ⟨.d, 0xA5, arg, duty⟩ cmd := fun h _ _ _ hc => .inr ⟨rfl, h, hc⟩
  refine ⟨fun c hport hkey => ?_, fun arg duty => ?_, fun hlevel arg duty => ?_⟩
  · have hwrong : ∀ (cmd : Nat) (state auth : Bool) (f : State → State),
        (s.at t).secCommand c cmd state auth f = (s.at t).put Reg.SEC_CMDRES 3 :=
      fun _ _ _ _ => secCommand_wrong hup (.inl hport) hkey
    exact ⟨does_wrongKey hs (exec_provision t s c) (hwrong _ _ _ _), does_wrongKey hs (exec_deploy t s c) (hwrong _ _ _ _),
      does_wrongKey hs (exec_rma t s c) (hwrong _ _ _ _), does_wrongKey hs (exec_keyprog t s c) (hwrong _ _ _ _),
      does_wrongKey hs (exec_revoke t s c) (hwrong _ _ _ _), does_wrongKey hs (exec_halt t s c) (hwrong _ _ _ _),
      does_wrongKey hs (exec_debugResume t s c) (hwrong _ _ _ _), does_wrongKey hs (exec_tpOn t s c) (hwrong _ _ _ _),
      does_wrongKey hs (exec_tpOff t s c) (hwrong _ _ _ _), does_wrongKey hs (exec_dropToken t s c) (hwrong _ _ _ _)⟩
  · refine ⟨fun h => ?_, fun hlc hmode hact => ?_, fun h => ?_, fun hlc hmode hsc => ?_, fun hlc hmode hsc => ?_, fun h => ?_,
      fun hlc hmode hsc => ?_, fun hlc hmode hsc => ?_, fun h => ?_, fun hlc hmode hsc => ?_, fun hlc hmode hk => ?_,
      fun k hk hlc hmode hst hcurve => ?_, fun hmode => ?_, fun hlc hmode hk => ?_, fun k hk hlc hmode hslot hother htok => ?_,
      does_dropToken hs _ rfl rfl, fun hmode => ?_, ?_, ?_⟩
    · refine does_refused hs (exec_provision t s _) (by decide) (secCommand_state hup (hhost _ _ _) rfl ?_)
      show (s.lifecycle == 0 && s.mode == modeLockout && s.otp.hasActive) = false
      simp only [Bool.and_eq_false_iff, beq_eq_false_iff_ne]
      tauto
    · have hrow : (s.lifecycle == 0 && s.mode == modeLockout && s.otp.hasActive) = true := by rw [hlc, hmode, hact]; rfl
      obtain ⟨u, hu, hres, hnext, hcur, hkeys, hflag, hraised⟩ :=
        does_lifecycle_later hs (exec_provision t s _) (secCommand_done hup (hhost arg duty _) rfl hrow rfl)
      exact ⟨u, hu, hres, hnext, hcur.trans hlc, hkeys, hflag, hlc ▸ hraised⟩
    · refine does_refused hs (exec_deploy t s _) (by decide) (secCommand_state hup (hhost _ _ _) rfl ?_)
      show (s.lifecycle == 1 && s.mode != modeHoldup) = false
      simp only [Bool.and_eq_false_iff, beq_eq_false_iff_ne, bne_eq_false_iff_eq]
      exact h
    · have hrow : (s.lifecycle == 1 && s.mode != modeHoldup) = true := by rw [hlc, bne_iff_ne.mpr hmode]; rfl
      exact does_refused hs (exec_deploy t s _) (by decide) (secCommand_auth hup (hhost _ _ _) rfl hrow hsc)
    · have hrow : (s.lifecycle == 1 && s.mode != modeHoldup) = true := by rw [hlc, bne_iff_ne.mpr hmode]; rfl
      obtain ⟨u, hu, hres, hnext, hcur, hraised⟩ :=
        does_lifecycle_atOnce hs (exec_deploy t s _) (by decide) (secCommand_done hup (hhost arg duty _) rfl hrow hsc)
      exact ⟨u, hu, hres, hnext, hcur, fun hl => hlc ▸ hraised hl⟩
    · refine does_refused hs (exec_rma t s _) (by decide) (secCommand_state hup (hhost _ _ _) rfl ?_)
      show ((s.lifecycle == 1 || s.lifecycle == 2) && s.mode == modeLockout) = false
      simp only [Bool.and_eq_false_iff, Bool.or_eq_false_iff, beq_eq_false_iff_ne]
      exact h
    · exact does_refused hs (exec_rma t s _) (by decide) (secCommand_auth hup (hhost _ _ _) rfl (rmaRow hlc hmode) hsc)
    · obtain ⟨u, hu, hres, hnext, hcur, -, -, hraised⟩ :=
        does_lifecycle_later hs (exec_rma t s _) (secCommand_done hup (hhost arg duty _) rfl (rmaRow hlc hmode) hsc)
      exact ⟨u, hu, hres, hnext, hcur, hraised⟩
    · refine does_refused hs (exec_keyprog t s _) (by decide) (secCommand_state hup (hhost _ _ _) rfl ?_)
      show ((s.lifecycle == 0 || s.lifecycle == 1) && (s.mode == modeLockout || s.mode == modeTadpole)) = false
      simp only [Bool.and_eq_false_iff, Bool.or_eq_false_iff, beq_eq_false_iff_ne]
      exact h.imp_left fun h1 => ⟨by omega, by omega⟩
    · refine does_refused hs (exec_keyprog t s _) (by decide)
        (secCommand_auth hup (hhost _ _ _) rfl (keyprogRow (.inr hlc) hmode) ?_)
      show (s.lifecycle == 0 || s.tokenScope 5) = false
      rw [hlc, hsc]; rfl
    · refine does_refused hs (exec_keyprog t s _) (by decide) ((secCommand_done hup (hhost arg duty _) rfl
        (keyprogRow (.inl hlc) hmode) ?_).trans (keyProg_refused hk))
      exact blankMay hlc
    · obtain ⟨u, hu, hres, hkey, hothers, hlife, hflag, hraised⟩ := does_keyWritten hs (exec_keyprog t s _) k _ (sev := 2) (by decide)
        ((secCommand_done hup (hhost arg duty _) rfl (keyprogRow (.inl hlc) hmode) (blankMay hlc)).trans
          (by dsimp only; rw [← hk]; exact keyProg_empty (s := s.at t) hst hcurve))
      exact ⟨u, hu, hres, congrArg KeySlot.st hkey, congrArg KeySlot.key hkey, hothers, hlife, hflag, hraised⟩
    · refine does_refused hs (exec_revoke t s _) (by decide) (secCommand_state hup (hhost _ _ _) rfl ?_)
      exact bne_eq_false_iff_eq.mpr hmode
    · exact does_refused hs (exec_revoke t s _) (by decide) ((secCommand_done hup (hhost arg duty _) rfl
        (bne_iff_ne.mpr hmode) (blankMay hlc)).trans (keyRevoke_refused hk))
    · obtain ⟨u, hu, hres, hkey, hothers, -, -, hraised⟩ := does_keyWritten hs (exec_revoke t s _) k _ (sev := 3) (by decide)
        ((secCommand_done hup (hhost arg duty _) rfl (bne_iff_ne.mpr hmode) (blankMay hlc)).trans
          (by dsimp only; rw [← hk]; exact keyRevoke_done (s := s.at t) hslot hother htok))
      exact ⟨u, hu, hres, congrArg KeySlot.st hkey, hothers, hraised⟩
    · exact does_refused hs (exec_halt t s _) (by decide) (secCommand_auth hup (hhost _ _ _) rfl
        (by simpa [or_assoc] using hmode) rfl)
    · exact does_refused hs (exec_debugResume t s _) (by decide) (secCommand_auth hup (hhost _ _ _) rfl rfl rfl)
    · exact does_refused hs (exec_tpOff t s _) (by decide) (secCommand_auth hup (hhost _ _ _) rfl rfl rfl)
  · refine ⟨fun hmode _ => does_halt hs _ rfl rfl hlevel hmode, fun hmode => ?_, fun hlc hmode how => does_tpOn hs ⟨.d, 0xA5, arg, duty⟩ rfl rfl hlevel hlc hmode how,
      fun h => ?_, does_tpOff hs _ rfl rfl hlevel, does_resume_of_up hs _ rfl rfl hlevel⟩
    · refine does_refused hs (exec_halt t s _) (by decide) (secCommand_state hup (hdebug hlevel _ _ (by decide)) rfl ?_)
      show (s.mode == modeTadpole || s.mode == modeShadow || s.mode == modeLockout) = false
      rcases hmode with h | h <;> rw [h] <;> rfl
    · refine does_refused hs (exec_tpOn t s _) (by decide) (secCommand_state hup (hdebug hlevel _ _ (by decide)) rfl ?_)
      show ((s.lifecycle == 1 || s.lifecycle == 2) && s.mode == modeTadpole && s.owner) = false
      simp only [Bool.and_eq_false_iff, Bool.or_eq_false_iff, beq_eq_false_iff_ne]
      rcases h with h | h | h | h
      · exact .inl (.inl ⟨by omega, by omega⟩)
      · exact .inl (.inl ⟨by omega, by omega⟩)
      · exact .inl (.inr h)
      · exact .inr h

end Sys2Proof.SecurityAnswers

namespace Sys2Proof.WheelStates

open Sys2Proof Sys2Proof.Machine Sys2Proof.Laws Sys2Proof.LoadSteps Sys2Proof.ImageLoads Sys2Proof.Readings

/-! What a change of the wheel's state and a drop of its reference write (R37). -/

theorem whlTo_reg (s : State) (st : Nat) (f : Field) (hfly : f.place ≠ Reg.WHL_FLYTIME.place) (href : f.place ≠ Reg.WHL_STAT_REF.place)
    (hstate : f.place ≠ Reg.WHL_STAT_STATE.place) : (s.whlTo st).reg f = s.reg f := by
  unfold State.whlTo
  dsimp only
  rw [reg_put_other _ _ _ _ hstate]
  have hspoil : ∀ a : State, a.crestSpoil.reg f = a.reg f := fun _ => rfl
  have hflown : ∀ (a : State) (v : Nat), (a.putSat Reg.WHL_FLYTIME v).reg f = a.reg f := fun a v => reg_put_other _ _ _ _ hfly
  have hreffed : ∀ a : State, (a.put Reg.WHL_STAT_REF 0).reg f = a.reg f := fun a => reg_put_other _ _ _ _ href
  split <;> split <;> split <;> simp only [hspoil, hflown, hreffed]

theorem whlTo_whl (s : State) (st : Nat) (h : st < 4) : (s.whlTo st).whl = st :=
  (reg_put_same _ _ _).trans (Nat.mod_eq_of_lt h)

/-- A change of state writes page 04 and the feeds' crests alone. -/
theorem frame_whlTo_self (s : State) (st : Nat) : Frame 0x100000000 0x10 s (s.whlTo st) := frame_whlTo (Frame.refl _ _ s) st (by decide) (by decide)

theorem whlTo_wheel (s : State) (st : Nat) : (s.whlTo st).wheel = s.wheel := (frame_whlTo_self s st).f_wheel (by decide)

theorem acquire_whl (s : State) (freq : Nat) : (s.acquire freq).whl = whlAcquire := whlTo_whl _ _ (by decide)

theorem acquire_wheel (s : State) (freq : Nat) : (s.acquire freq).wheel = { s.wheel with acqAt := s.now, acqFreq := freq } :=
  whlTo_wheel _ _

theorem acquire_reg (s : State) (freq : Nat) (f : Field) (hfly : f.place ≠ Reg.WHL_FLYTIME.place) (href : f.place ≠ Reg.WHL_STAT_REF.place)
    (hstate : f.place ≠ Reg.WHL_STAT_STATE.place) : (s.acquire freq).reg f = s.reg f :=
  whlTo_reg { s with wheel := { s.wheel with acqAt := s.now, acqFreq := freq } } _ f hfly href hstate

/-- An event stays the last one when the wheel goes to ACQUIRE. -/
theorem raised_acquire {code sev p0 p1 : Nat} {s u : State} (h : Raised code sev p0 p1 s u) (freq : Nat) :
    Raised code sev p0 p1 s (u.acquire freq) :=
  raised_of_frame h (frame_acquire (P := 0x100080000) (G := 0x10) (Frame.refl _ _ u) freq (by decide) (by decide)) (by decide) (by decide)
    (by decide)

theorem raised_whlDrop {code sev p0 p1 : Nat} {s u : State} (h : Raised code sev p0 p1 s u) : Raised code sev p0 p1 s u.whlDrop :=
  raised_of_frame h (frame_whlDrop (P := 0x100080000) (G := 0x10) (Frame.refl _ _ u) (by decide) (by decide)) (by decide) (by decide)
    (by decide)

theorem whlDrop_whl (s : State) : s.whlDrop.whl = if s.reg Reg.WHL_STAT_EVERLOCK ≠ 0 then whlFly else whlFree := by
  have hset : s.isSet Reg.WHL_STAT_EVERLOCK = true ↔ s.reg Reg.WHL_STAT_EVERLOCK ≠ 0 := by simp [State.isSet]
  unfold State.whlDrop
  by_cases h : s.isSet Reg.WHL_STAT_EVERLOCK = true
  · rw [if_pos h, if_pos (hset.mp h)]
    exact (reg_put_other _ _ _ _ (by decide)).trans ((reg_put_other _ _ _ _ (by decide)).trans (whlTo_whl _ _ (by decide)))
  · rw [if_neg h, if_neg (fun e => h (hset.mpr e))]
    exact (reg_put_other _ _ _ _ (by decide)).trans (whlTo_whl _ _ (by decide))

/-- The registers a drop of the reference writes. -/
def dropFields : List Field := [Reg.WHL_FLYTIME, Reg.WHL_STAT_REF, Reg.WHL_STAT_STATE, Reg.WHL_FREQ]

theorem whlDrop_reg (s : State) (f : Field) (h : f.place ∉ dropFields.map Field.place) : s.whlDrop.reg f = s.reg f := by
  simp only [dropFields, List.map_cons, List.map_nil, List.mem_cons, List.not_mem_nil, or_false, not_or] at h
  obtain ⟨hfly, href, hstate, hfreq⟩ := h
  unfold State.whlDrop
  split
  · rw [reg_put_other _ _ _ _ hfly, reg_put_other _ _ _ _ hfreq]
    exact whlTo_reg _ _ f hfly href hstate
  · rw [reg_put_other _ _ _ _ hfreq]
    exact whlTo_reg _ _ f hfly href hstate

/-! The events of a loss (R37). -/

/-- The parameter of a loss: the frequency, or the reason. -/
def lossParam (why : LossReason) : Nat := match why with | .frequency f => f | .magnitude => 0 | .noCrossing => 1

theorem lossEvent_eq (s : State) (why : LossReason) :
    s.lossEvent why = s.raise (if lossByFreq why then 0x2042 else 0x2041) 3 0x01 (lossParam why) s.whlStat := by
  cases why <;> rfl

theorem whlStat_put (s : State) (f : Field) (v : Nat) (hstate : f.place ≠ Reg.WHL_STAT_STATE.place) (href : f.place ≠ Reg.WHL_STAT_REF.place)
    (hever : f.place ≠ Reg.WHL_STAT_EVERLOCK.place) (hclk : f.place ≠ Reg.WHL_STAT_CLKSRC.place) : (s.put f v).whlStat = s.whlStat := by
  unfold State.whlStat State.whl
  rw [reg_put_other _ _ _ _ hstate.symm, reg_put_other _ _ _ _ href.symm, reg_put_other _ _ _ _ hever.symm, reg_put_other _ _ _ _ hclk.symm]

/-- The loss flagged, where it is by frequency. -/
def lossFlagged (why : LossReason) (s : State) : State := if lossByFreq why then s.flag Reg.WHL_FLAGS_FRANGE else s

theorem lossFlagged_reg (why : LossReason) (s : State) (f : Field) (h : f.place ≠ Reg.WHL_FLAGS_FRANGE.place) :
    (lossFlagged why s).reg f = s.reg f := by
  unfold lossFlagged
  split
  · exact reg_put_other _ _ _ _ h
  · rfl

theorem lossFlagged_core (why : LossReason) (s : State) : (lossFlagged why s).core = s.core := by
  unfold lossFlagged; split <;> rfl

theorem lossFlagged_whlStat (why : LossReason) (s : State) : (lossFlagged why s).whlStat = s.whlStat := by
  unfold lossFlagged
  split
  · exact whlStat_put _ _ _ (by decide) (by decide) (by decide) (by decide)
  · rfl

/-- A loss told: its flag and its event. -/
def lossTold (why : LossReason) (s : State) : State := (lossFlagged why s).lossEvent why

theorem lossTold_reg (why : LossReason) (s : State) (f : Field) (h : f.place ≠ Reg.WHL_FLAGS_FRANGE.place) (hrec : onRecPages f = false) :
    (lossTold why s).reg f = s.reg f := by
  rw [lossTold, lossEvent_eq, raise_reg _ _ _ _ _ _ (by decide) _ hrec, lossFlagged_reg _ _ _ h]

theorem raised_lossTold (why : LossReason) {s z : State} (hsup : z.core.sup = s.core.sup) (hsn : z.reg Reg.REC_SNSEV = s.reg Reg.REC_SNSEV)
    (hstat : z.whlStat = s.whlStat) :
    Raised (if lossByFreq why then 0x2042 else 0x2041) 3 (lossParam why) s.whlStat s (lossTold why z) := by
  rw [lossTold, lossEvent_eq, lossFlagged_whlStat, hstat]
  exact raised_now (by decide) ((congrArg CoreSt.sup (lossFlagged_core _ _)).trans hsup) ((lossFlagged_reg _ _ _ (by decide)).trans hsn)

/-! One equation per branch of the loss of the reference. -/

theorem refLost_idle {s : State} (h : s.whl = whlFree ∨ s.whl = whlFly) (why : LossReason) (b : Bool) :
    s.refLost why b = if lossByFreq why then s.lossEvent why else s := if_pos h

theorem refLost_carry {s : State} (h : s.whl = whlLocked) (why : LossReason) {b : Bool} (hc : s.mayCarry b = true) :
    s.refLost why b = s.carry := by
  unfold State.refLost
  dsimp only
  rw [if_neg (by rw [h]; decide), if_pos ⟨h, hc⟩]

theorem refLost_acquire {s : State} (h : s.whl = whlAcquire) (why : LossReason) (b : Bool) :
    s.refLost why b = (lossTold why s).whlDrop := by
  unfold State.refLost
  dsimp only
  rw [if_neg (by rw [h]; decide), if_neg (fun e => absurd (h.symm.trans e.1) (by decide)), if_neg (by rw [h]; decide)]
  rfl

theorem refLost_locked {s : State} (h : s.whl = whlLocked) (why : LossReason) {b : Bool} (hc : s.mayCarry b = false) :
    s.refLost why b = (((lossTold why s).put Reg.WHL_FLAGS_LOCKLOST 1).bump Reg.WHL_LOSSCNT).whlDrop := by
  unfold State.refLost
  dsimp only
  rw [if_neg (by rw [h]; decide), if_neg (by simp [hc]), if_pos h]
  rfl

/-! The commands (R35-R42). -/

section
variable (t : Edges) (s : State)

theorem exec_referenceValid (freq : Nat) : exec (.referenceValid t freq) s =
    live t s fun s => if s.wheel.running ∧ (s.whl = whlFree ∨ s.whl = whlFly) then s.acquire freq else s := rfl
theorem exec_referenceLost (why : LossReason) (b : Bool) : exec (.referenceLost t why b) s =
    live t s fun s => if s.wheel.running then s.refLost why b else s := rfl

end

section
variable {t : Edges} {s : State} (hp : s.core.powered = true) (hrun : s.wheel.running = true)
include hp

/-- A command that finds nothing to do. -/
theorem does_idle {c : Instr} {f : State → State} (hc : exec c s = live t s f) (hf : f (s.at t) = s.at t) :
    Does c s fun u => u.wheel = s.wheel ∧ OnlyRegsQuiet [] s u :=
  does_of_effect hp hc hf ⟨by simp, onlyRegsQuiet_ended (onlyRegsQuiet_of_regs _ rfl)⟩

include hrun

theorem does_referenceValid (freq : Nat) (h : s.whl = whlFree ∨ s.whl = whlFly) : Does (.referenceValid t freq) s fun u =>
    u.whl = whlAcquire ∧ u.wheel.acqAt = max s.now t ∧ u.wheel.acqFreq = freq := by
  refine does_of_effect hp (exec_referenceValid t s freq) (if_pos ⟨hrun, h⟩) ?_
  rw [ended_wheel, acquire_wheel]
  exact ⟨(ended_reg _ _ _ _).trans (acquire_whl _ _), rfl, rfl⟩

theorem does_referenceLost {m : State} {P : State → Prop} (why : LossReason) (b : Bool) (hm : (s.at t).refLost why b = m)
    (h : P (ended t s fun _ => m)) : Does (.referenceLost t why b) s P :=
  does_of_effect hp (exec_referenceLost t s why b) ((if_pos hrun).trans hm) h

/-- A loss that the wheel in FREE or FLYWHEEL tells only where it is by frequency. -/
theorem does_lost_idle (why : LossReason) (b : Bool) (h : s.whl = whlFree ∨ s.whl = whlFly) :
    Does (.referenceLost t why b) s fun u => u.wheel = s.wheel ∧ OnlyRegs [] s u := by
  refine does_referenceLost hp hrun why b (refLost_idle (s := s.at t) h why b) ?_
  have hquiet : OnlyRegs [] s (s.at t) := onlyRegs_of_regs _ rfl
  split
  · rw [lossEvent_eq, ended_wheel, raise_wheel _ _ _ _ _ _ (by decide)]
    exact ⟨rfl, onlyRegs_ended (onlyRegs_raise hquiet _ _ _ _ _ (.inl (by decide)))⟩
  · exact ⟨ended_wheel _ _ _, onlyRegs_ended hquiet⟩

theorem does_lost_frequency (b : Bool) (f : Nat) (h : s.whl = whlFree ∨ s.whl = whlFly) :
    Does (.referenceLost t (.frequency f) b) s fun u => Raised 0x2042 3 f s.whlStat s u :=
  does_referenceLost hp hrun _ b ((refLost_idle (s := s.at t) h _ b).trans (if_pos rfl))
    (raised_ended (raised_now (by decide) rfl rfl))

theorem does_lost_acquire (why : LossReason) (b : Bool) (h : s.whl = whlAcquire) : Does (.referenceLost t why b) s fun u =>
    u.whl = (if s.reg Reg.WHL_STAT_EVERLOCK ≠ 0 then whlFly else whlFree) ∧ u.reg Reg.WHL_LOSSCNT = s.reg Reg.WHL_LOSSCNT ∧
      Raised (if lossByFreq why then 0x2042 else 0x2041) 3 (lossParam why) s.whlStat s u := by
  refine does_referenceLost hp hrun why b (refLost_acquire (s := s.at t) h why b) ⟨?_, ?_, raised_ended ?_⟩
  · rw [State.whl, ended_reg, ← State.whl, whlDrop_whl, lossTold_reg _ _ _ (by decide) (by decide)]
    rfl
  · rw [ended_reg, whlDrop_reg _ _ (by decide), lossTold_reg _ _ _ (by decide) (by decide)]
    rfl
  · exact raised_whlDrop (raised_lossTold why rfl rfl rfl)

theorem does_lost_carried (why : LossReason) (b : Bool) (h : s.whl = whlLocked) (hc : (s.at t).mayCarry b = true) :
    Does (.referenceLost t why b) s fun u => u.whl = whlLocked ∧ u.reg Reg.WHL_STAT_REF = 1 ∧ u.wheel = s.wheel ∧
      OnlyRegs [Reg.WHL_STAT_REF] s u := by
  refine does_referenceLost hp hrun why b (refLost_carry (s := s.at t) h why hc) ?_
  unfold State.carry
  have hput : OnlyRegs [Reg.WHL_STAT_REF] s ((s.at t).put Reg.WHL_STAT_REF 1) := onlyRegs_put (onlyRegs_of_regs _ rfl) _ _ (by decide)
  refine ⟨?_, ?_, ?_, onlyRegs_ended (onlyRegs_raise hput _ _ _ _ _ (.inl (by decide)))⟩
  · rw [State.whl, ended_reg, raise_reg _ _ _ _ _ _ (by decide) _ (by decide), reg_put_other _ _ _ _ (by decide)]
    exact h
  · rw [ended_reg, raise_reg _ _ _ _ _ _ (by decide) _ (by decide)]
    exact reg_put_same _ _ _
  · rw [ended_wheel, raise_wheel _ _ _ _ _ _ (by decide)]
    rfl

theorem does_lost_locked (why : LossReason) (b : Bool) (h : s.whl = whlLocked) (hc : (s.at t).mayCarry b = false) :
    Does (.referenceLost t why b) s fun u =>
      u.whl = (if s.reg Reg.WHL_STAT_EVERLOCK ≠ 0 then whlFly else whlFree) ∧ u.reg Reg.WHL_FLAGS_LOCKLOST = 1 ∧
        u.reg Reg.WHL_LOSSCNT = min 65535 (s.reg Reg.WHL_LOSSCNT + 1) ∧
        Raised (if lossByFreq why then 0x2042 else 0x2041) 3 (lossParam why) s.whlStat s u := by
  refine does_referenceLost hp hrun why b (refLost_locked (s := s.at t) h why hc) ⟨?_, ?_, ?_, raised_ended ?_⟩
  · rw [State.whl, ended_reg, ← State.whl, whlDrop_whl, State.bump, reg_put_other _ _ _ _ (by decide),
      reg_put_other _ _ _ _ (by decide), lossTold_reg _ _ _ (by decide) (by decide)]
    rfl
  · rw [ended_reg, whlDrop_reg _ _ (by decide), State.bump, reg_put_other _ _ _ _ (by decide)]
    exact reg_put_same _ _ _
  · rw [ended_reg, whlDrop_reg _ _ (by decide), State.bump, reg_put_same, satNat_mod, reg_put_other _ _ _ _ (by decide),
      lossTold_reg _ _ _ (by decide) (by decide)]
    rfl
  · exact raised_whlDrop (raised_put (raised_put (raised_lossTold (s := s) (z := s.at t) why rfl rfl rfl) _ _) _ _)

end

/-- Settles O16: the wheel's state and the reason of the loss decide which branch is taken. -/
theorem wheelReference : Obligations.WheelReference := by
  unfold Obligations.WheelReference
  intro t s hp hrun
  refine ⟨fun freq => does_referenceValid hp hrun freq, fun freq h => does_idle hp (exec_referenceValid t s freq) (if_neg ?_),
    does_lost_idle hp hrun, does_lost_frequency hp hrun, fun why b h => ?_, does_lost_carried hp hrun, fun why b h hc => ?_⟩
  · rintro ⟨-, hst⟩
    rcases h with h | h <;> rcases hst with hst | hst <;> exact absurd (h.symm.trans hst) (by decide)
  · exact does_lost_acquire hp hrun why b h
  · exact does_lost_locked hp hrun why b h hc

/-! Lock, the acquisition timeout, a phase error and the return of feed A (R37, R38, R42). -/

/-- The measures of a lock taken anew. -/
def lockMeasured (s : State) : State :=
  { s with wheel := { s.wheel with
      acqFreq := if s.reg Reg.WHL_FMAINS = 0 then s.wheel.acqFreq else s.reg Reg.WHL_FMAINS, locked := [], cycN := 0, cycSum := 0 } }

/-- The wheel LOCKED, before its event. -/
def lockTaken (s : State) : State := ((lockMeasured s).whlTo whlLocked).put Reg.WHL_STAT_EVERLOCK 1

/-- The time of a lock, in 0.01 reference cycles; `sec` is a second's edges, as a variable so that no proof counts them. -/
def lockTime (sec : Nat) (s : State) : Nat := toUnitNat (((s.now - s.wheel.acqAt) * s.reg Reg.WHL_FMAINS : Nat) / (sec : Nat))

/-- The frequency an acquisition's timeout counts by. -/
def timeoutFreq (s : State) : Nat := if s.isSet Reg.WHL_FMAINS then s.reg Reg.WHL_FMAINS else s.wheel.acqFreq

/-- The phase error of a cycle told and counted. -/
def errorTold (s : State) : State := ((s.raise 0x2041 3 0x01 2 s.whlStat).put Reg.WHL_FLAGS_LOCKLOST 1).bump Reg.WHL_LOSSCNT

/-- The wheel back on feed A. -/
def backOnA (d : Int) (s : State) : State :=
  if d.natAbs ≤ 1820 then s.put Reg.WHL_STAT_REF 0 else (s.put Reg.WHL_STAT_REF 0).acquire ((s.put Reg.WHL_STAT_REF 0).reg Reg.WHL_FMAINS)

section
variable (t : Edges) (s : State)

theorem exec_wheelLock : exec (.wheelLock t) s = live t s fun s => if s.wheel.running ∧ s.whl = whlAcquire then
    (lockTaken s).raise 0x2040 0 0x01 (s.reg Reg.WHL_FMAINS) (lockTime edgeSec s) else s := rfl
theorem exec_acquireTimeout : exec (.acquireTimeout t) s = live t s fun s =>
    if s.wheel.running ∧ s.whl = whlAcquire ∧ 600 * edgeSec ≤ timeoutFreq s * (s.now - s.wheel.acqAt) then
      (s.raise 0x2043 4 0x01 (par (s.sreg Reg.WHL_PERR)) (s.reg Reg.WHL_FMAINS)).whlDrop else s := rfl
theorem exec_phaseErrorCycle : exec (.phaseErrorCycle t) s = live t s fun s =>
    if s.wheel.running ∧ s.whl = whlLocked ∧ 1820 < (s.sreg Reg.WHL_PERR).natAbs then
      (errorTold s).acquire (((s.raise 0x2041 3 0x01 2 s.whlStat).flag Reg.WHL_FLAGS_LOCKLOST).reg Reg.WHL_FMAINS) else s := rfl
theorem exec_feedAReturn (d : Int) : exec (.feedAReturn t d) s = live t s fun s =>
    if s.wheel.running ∧ s.whl = whlLocked ∧ s.isSet Reg.WHL_STAT_REF then
      (backOnA d s).raise 0x2045 1 0x01 (par d) (backOnA d s).whl else s := rfl

end

theorem lockTaken_wheel (s : State) : (lockTaken s).wheel = (lockMeasured s).wheel := whlTo_wheel (lockMeasured s) _

theorem lockTaken_whl (s : State) : (lockTaken s).whl = whlLocked :=
  (reg_put_other _ _ _ _ (by decide)).trans (whlTo_whl (lockMeasured s) _ (by decide))

theorem lockTaken_core (s : State) : (lockTaken s).core.sup = s.core.sup := (frame_whlTo_self (lockMeasured s) _).f_supv (by decide)

theorem lockTaken_snsev (s : State) : (lockTaken s).reg Reg.REC_SNSEV = s.reg Reg.REC_SNSEV :=
  (reg_put_other _ _ _ _ (by decide)).trans (whlTo_reg (lockMeasured s) _ _ (by decide) (by decide) (by decide))

theorem errorTold_reg (s : State) (f : Field) (hlost : f.place ≠ Reg.WHL_FLAGS_LOCKLOST.place) (hcnt : f.place ≠ Reg.WHL_LOSSCNT.place)
    (hrec : onRecPages f = false) : (errorTold s).reg f = s.reg f := by
  rw [errorTold, State.bump, reg_put_other _ _ _ _ hcnt, reg_put_other _ _ _ _ hlost, raise_reg _ _ _ _ _ _ (by decide) _ hrec]

theorem backOnA_whl {s : State} (h : s.whl = whlLocked) (d : Int) : (backOnA d s).whl = if d.natAbs ≤ 1820 then whlLocked else whlAcquire := by
  unfold backOnA
  split
  · exact (reg_put_other _ _ _ _ (by decide)).trans h
  · exact acquire_whl _ _

/-- A change to a state other than LOCKED leaves feed A the reference. -/
theorem acquire_ref (s : State) (freq : Nat) : (s.acquire freq).reg Reg.WHL_STAT_REF = 0 := by
  unfold State.acquire State.whlTo
  dsimp only
  rw [reg_put_other _ _ _ _ (by decide), if_neg (by decide)]
  exact reg_put_same _ _ _

theorem backOnA_ref (d : Int) (s : State) : (backOnA d s).reg Reg.WHL_STAT_REF = 0 := by
  unfold backOnA
  split
  · exact reg_put_same _ _ _
  · exact acquire_ref _ _

theorem backOnA_snsev (d : Int) (s : State) : (backOnA d s).reg Reg.REC_SNSEV = s.reg Reg.REC_SNSEV := by
  unfold backOnA
  split
  · exact reg_put_other _ _ _ _ (by decide)
  · exact (acquire_reg _ _ _ (by decide) (by decide) (by decide)).trans (reg_put_other _ _ _ _ (by decide))

theorem backOnA_sup (d : Int) (s : State) : (backOnA d s).core.sup = s.core.sup := by
  unfold backOnA
  split
  · rfl
  · exact (frame_acquire (P := 0x100080000) (G := 0x10) (Frame.refl _ _ (s.put Reg.WHL_STAT_REF 0)) _ (by decide) (by decide)).f_supv
      (by decide)

section
variable {t : Edges} {s : State} (hp : s.core.powered = true) (hrun : s.wheel.running = true)
include hp hrun

theorem does_wheelLock (h : s.whl = whlAcquire) : Does (.wheelLock t) s fun u => u.whl = whlLocked ∧ u.reg Reg.WHL_STAT_EVERLOCK = 1 ∧
    u.wheel.locked = [] ∧ (s.supUp = true → s.reg Reg.REC_SNSEV = 0 →
      ∃ r, u.log.last = some r ∧ r.code = 0x2040 ∧ r.p0 = s.reg Reg.WHL_FMAINS % 2 ^ 32) := by
  refine does_of_effect hp (exec_wheelLock t s) (if_pos ⟨hrun, h⟩) ⟨?_, ?_, ?_, fun hup hsn => ?_⟩
  · rw [State.whl, ended_reg, raise_reg _ _ _ _ _ _ (by decide) _ (by decide)]
    exact lockTaken_whl _
  · rw [ended_reg, raise_reg _ _ _ _ _ _ (by decide) _ (by decide)]
    exact reg_put_same _ _ _
  · rw [ended_wheel, raise_wheel _ _ _ _ _ _ (by decide), lockTaken_wheel]
    rfl
  · have hraised : Raised 0x2040 0 (s.reg Reg.WHL_FMAINS) (lockTime edgeSec (s.at t)) s
        ((lockTaken (s.at t)).raise 0x2040 0 0x01 (s.reg Reg.WHL_FMAINS) (lockTime edgeSec (s.at t))) :=
      raised_now (by decide) (lockTaken_core _) (lockTaken_snsev _)
    unfold Raised at hraised
    rw [if_pos hup] at hraised
    obtain ⟨r, hlast, hcode, -, hp0, -⟩ := hraised (.inl hsn)
    exact ⟨r, (ended_last _ _ _).trans hlast, hcode, hp0⟩

theorem does_acquireTimeout (h : s.whl = whlAcquire) (hf : s.reg Reg.WHL_FMAINS ≠ 0)
    (hdue : 600 * edgeSec ≤ s.reg Reg.WHL_FMAINS * (max s.now t - s.wheel.acqAt)) : Does (.acquireTimeout t) s fun u =>
      u.whl = (if s.reg Reg.WHL_STAT_EVERLOCK ≠ 0 then whlFly else whlFree) ∧
        Raised 0x2043 4 (par (s.sreg Reg.WHL_PERR)) (s.reg Reg.WHL_FMAINS) s u := by
  have hfreq : timeoutFreq (s.at t) = s.reg Reg.WHL_FMAINS := if_pos (by simpa [State.isSet] using hf)
  refine does_of_effect hp (exec_acquireTimeout t s) (if_pos ⟨hrun, h, by rw [hfreq]; exact hdue⟩) ⟨?_, raised_ended ?_⟩
  · rw [State.whl, ended_reg, ← State.whl, whlDrop_whl, raise_reg _ _ _ _ _ _ (by decide) _ (by decide)]
    rfl
  · exact raised_whlDrop (raised_now (z := s.at t) (by decide) rfl rfl)

theorem does_phaseError (h : s.whl = whlLocked) (herr : 1820 < (s.sreg Reg.WHL_PERR).natAbs) : Does (.phaseErrorCycle t) s fun u =>
    u.whl = whlAcquire ∧ u.reg Reg.WHL_FLAGS_LOCKLOST = 1 ∧ u.reg Reg.WHL_LOSSCNT = min 65535 (s.reg Reg.WHL_LOSSCNT + 1) ∧
      u.wheel.acqAt = max s.now t ∧ Raised 0x2041 3 2 s.whlStat s u := by
  refine does_of_effect hp (exec_phaseErrorCycle t s) (if_pos ⟨hrun, h, herr⟩) ⟨?_, ?_, ?_, ?_, raised_ended ?_⟩
  · rw [State.whl, ended_reg]
    exact acquire_whl _ _
  · rw [ended_reg, acquire_reg _ _ _ (by decide) (by decide) (by decide), errorTold, State.bump, reg_put_other _ _ _ _ (by decide)]
    exact reg_put_same _ _ _
  · rw [ended_reg, acquire_reg _ _ _ (by decide) (by decide) (by decide), errorTold, State.bump, reg_put_same, satNat_mod,
      reg_put_other _ _ _ _ (by decide), raise_reg _ _ _ _ _ _ (by decide) _ (by decide)]
    rfl
  · rw [ended_wheel, acquire_wheel]
    show ((s.at t).raise _ _ _ _ _).now = _
    rw [raise_now _ _ _ _ _ _ (by decide)]
    rfl
  · have htold : Raised 0x2041 3 2 s.whlStat s ((s.at t).raise 0x2041 3 0x01 2 s.whlStat) := raised_now (by decide) rfl rfl
    exact raised_acquire (raised_put (raised_put htold _ _) _ _) _

theorem does_feedAReturn (d : Int) (h : s.whl = whlLocked) (href : s.reg Reg.WHL_STAT_REF ≠ 0) : Does (.feedAReturn t d) s fun u =>
    u.reg Reg.WHL_STAT_REF = 0 ∧ u.whl = (if d.natAbs ≤ 1820 then whlLocked else whlAcquire) ∧ Raised 0x2045 1 (par d) u.whl s u := by
  refine does_of_effect hp (exec_feedAReturn t s d) (if_pos ⟨hrun, h, by simpa [State.isSet] using href⟩) ?_
  have hwhl : (ended t s fun _ => (backOnA d (s.at t)).raise 0x2045 1 0x01 (par d) (backOnA d (s.at t)).whl).whl =
      (backOnA d (s.at t)).whl := (ended_reg _ _ _ _).trans (raise_reg _ _ _ _ _ _ (by decide) _ (by decide))
  rw [hwhl]
  refine ⟨?_, backOnA_whl (s := s.at t) h d, raised_ended ?_⟩
  · rw [ended_reg, raise_reg _ _ _ _ _ _ (by decide) _ (by decide), backOnA_ref]
  · exact raised_now (by decide) (backOnA_sup _ _) (backOnA_snsev _ _)

end

/-- Settles O17: each command's effect is one state written out. -/
theorem wheelLocks : Obligations.WheelLocks := by
  unfold Obligations.WheelLocks
  intro t s hp hrun
  refine ⟨does_wheelLock hp hrun, does_acquireTimeout hp hrun, does_phaseError hp hrun, fun h => ?_, does_feedAReturn hp hrun⟩
  refine does_idle hp (exec_phaseErrorCycle t s) (if_neg ?_)
  rintro ⟨-, hlocked, herr⟩
  rcases h with h | h
  · exact h hlocked
  · exact absurd herr (Nat.not_lt.mpr h)

/-! A calendar entry that is due (R45, R46). -/

theorem exec_calendarEntry (t : Edges) (e : Fin 256) (s : State) :
    exec (.calendarEntry t e) s = live t s fun s => if s.wheel.running then s.calRun e.val else s := rfl

/-- The entries the wheel has passed already are not gathered again. -/
theorem calGather_gathered {s : State} {p : Nat} (h : s.wheel.gathered = p) : s.calGather p = s := by
  unfold State.calGather
  dsimp only
  rw [h, if_neg (Nat.lt_irrefl p), if_neg (by omega)]

/-- Nothing is due any more, and the lateness is shown. -/
def entryTaken (p : Nat) (s : State) : State :=
  { s with wheel.due := [] }.putSat Reg.WHL_CAL_LATE (max (s.reg Reg.WHL_CAL_LATE) (s.calLateness p))

section
variable {s : State} {e p : Nat} (hdue : s.wheel.due = [(e, p)]) (hgath : s.wheel.gathered = s.wheelPos)
include hdue hgath

theorem calRun_waits (hup : s.supUp = false) : s.calRun e = s := by
  unfold State.calRun
  dsimp only
  rw [calGather_gathered hgath, hdue]
  simp [hup]

theorem calRun_runs (hup : s.supUp = true) : s.calRun e = (entryTaken p s).calAct (s.cal e) := by
  unfold State.calRun
  dsimp only
  rw [calGather_gathered hgath, hdue]
  simp [hup, entryTaken, State.calLateness, State.cal]
  rfl

end

theorem entryTaken_reg (p : Nat) (s : State) (f : Field) (h : f.place ≠ Reg.WHL_CAL_LATE.place) : (entryTaken p s).reg f = s.reg f :=
  reg_put_other { s with wheel.due := [] } _ _ _ h

theorem entryTaken_late (p : Nat) (s : State) :
    (entryTaken p s).reg Reg.WHL_CAL_LATE = min 65535 (max (s.reg Reg.WHL_CAL_LATE) (s.calLateness p)) :=
  (reg_put_same { s with wheel.due := [] } _ _).trans (satNat_mod _ _)

theorem entryTaken_onlyRegs {l : List Field} {s u : State} (h : OnlyRegsQuiet l s u) (p : Nat)
    (hl : Reg.WHL_CAL_LATE.place ∈ l.map Field.place) : OnlyRegsQuiet l s (entryTaken p u) :=
  onlyRegsQuiet_put (u := { u with wheel.due := [] }) h _ _ hl

/-- Fewer registers are named where the recorder's are left out. -/
theorem onlyRegs_of_quiet {l : List Field} {s u : State} (h : OnlyRegsQuiet l s u) : OnlyRegs l s u := fun f i hf _ => h f i hf

theorem calAct_irq {s : State} {x : CalEntry} (h : x.action = 2) : s.calAct x = s.putBit Reg.WHL_CAL_FLAG (x.arg % 8) true := by
  unfold State.calAct
  rw [h]
  rfl

theorem calAct_mark {s : State} {x : CalEntry} (h : x.action = 4) :
    s.calAct x = s.raise 0x2048 0 0x01 x.arg (s.reg Reg.WHL_CYC) := by
  unfold State.calAct
  rw [h]
  rfl

/-- Settles O19: an entry alone in the list of those due is taken out of it, and its action follows. -/
theorem calendarEntryRuns : Obligations.CalendarEntryRuns := by
  unfold Obligations.CalendarEntryRuns
  intro t e p s hp hrun hdue hgath
  refine ⟨fun hup => ?_, fun hup hact => ?_, fun hup hact => ?_⟩
  · exact does_idle hp (exec_calendarEntry t e s) ((if_pos hrun).trans (calRun_waits (s := s.at t) hdue hgath hup))
  · have heffect := (calRun_runs (s := s.at t) hdue hgath hup).trans (calAct_irq (x := (s.at t).cal e) hact)
    refine does_of_effect hp (exec_calendarEntry t e s) ((if_pos hrun).trans heffect) ⟨?_, ?_, ?_, onlyRegsQuiet_ended ?_⟩
    · rw [ended_wheel]
      rfl
    · rw [ended_reg, State.putBit]
      exact bitOf_reg_put_setBit _ _ _ _ _ (Nat.mod_lt _ (by decide))
    · rw [ended_reg, State.putBit, reg_put_other _ _ _ _ (by decide), entryTaken_late]
      rfl
    · exact onlyRegsQuiet_put (entryTaken_onlyRegs (onlyRegsQuiet_of_regs _ rfl) _ (by decide)) _ _ (by decide)
  · have heffect := (calRun_runs (s := s.at t) hdue hgath hup).trans (calAct_mark (x := (s.at t).cal e) hact)
    rw [entryTaken_reg _ _ _ (by decide)] at heffect
    refine does_of_effect hp (exec_calendarEntry t e s) ((if_pos hrun).trans heffect) ⟨?_, raised_ended ?_, onlyRegs_ended ?_⟩
    · rw [ended_wheel, raise_wheel _ _ _ _ _ _ (by decide)]
      rfl
    · exact raised_now (by decide) rfl (entryTaken_reg _ _ _ (by decide))
    · have htaken : OnlyRegsQuiet [Reg.WHL_CAL_LATE] s (entryTaken p (s.at t)) :=
        entryTaken_onlyRegs (onlyRegsQuiet_of_regs _ rfl) _ (by decide)
      exact onlyRegs_raise (onlyRegs_of_quiet htaken) _ _ _ _ _ (.inl (by decide))

end Sys2Proof.WheelStates

namespace Sys2Proof.StringStates

open Sys2Proof Sys2Proof.Machine Sys2Proof.Laws Sys2Proof.LoadSteps Sys2Proof.ImageLoads Sys2Proof.Readings Sys2Proof.WheelStates

/-! A change of state of a string (R232): what it writes, and its event. -/

/-- A string's record at its change to another state. -/
def strTurned (k new : Nat) (s : State) : StrSt :=
  let old := s.cst k
  let y := s.str k
  let y := { y with phRun := s.phTime k, phase := if new = strTempwait ∧ chargingSt old then some old else if new = strTempwait then none else y.phase }
  let y := if new = strTempwait then { y with coolAt := none } else { y with phRun := 0, phAt := s.now, phase := none }
  let y := { y with cvAt := none, taperN := 0 }
  let y := if new = strFast then { y with qfast := 0, vpk := none, temps := [], dtN := 0 } else y
  if chargingSt new then y else { y with iset := 0, target := 0 }

/-- The state, its window byte and its reason written. -/
def strWritten (k new reason : Nat) (s : State) : State :=
  ((((s.setStr k (strTurned k new s)).putAt Reg.BST_CST k new).putAt Reg.BST_WST_STATE k new).putAt Reg.BST_WST_REASON k reason).putBit
    Reg.BST_CHARGING k (chargingSt new)

/-- What a change of state does before its event. -/
def strMoved (k new reason : Nat) (s : State) : State :=
  let u := strWritten k new reason s
  let u := if chargingSt new then (u.stagePreset k (chargingSt (s.cst k))).newWindow k else u
  let u := if new = strFast then u.putAt Reg.BST_DVCNT k 0 else u
  let u := if new = strHalt then u.flag Reg.BST_FLAGS_HALT else u
  u.strShow k

theorem strTo_eq (s : State) (k new reason : Nat) : s.strTo k new reason =
    (strMoved k new reason s).raise 0x3100 0 0x0A k (s.cst k + 256 * new + 65536 * reason) := rfl

/-- The registers a change of state writes after the state itself. -/
def strDetailFields : List Field :=
  [Reg.BST_DVCNT, Reg.BST_FLAGS_HALT, Reg.BST_PHTIME, Reg.BST_ISET, Reg.BST_QFAST, Reg.BST_M, Reg.BST_VPK]

/-- The registers a change of state writes. -/
def strFields : List Field := [Reg.BST_CST, Reg.BST_WST_STATE, Reg.BST_WST_REASON, Reg.BST_CHARGING] ++ strDetailFields

theorem strShow_onlyRegs {l : List Field} {s u : State} (h : OnlyRegsQuiet l s u) (k : Nat)
    (hl : ∀ f ∈ strDetailFields, f.place ∈ l.map Field.place) : OnlyRegsQuiet l s (u.strShow k) := by
  unfold State.strShow
  exact onlyRegsQuiet_putAt (onlyRegsQuiet_putAt (onlyRegsQuiet_putAt (onlyRegsQuiet_putAt (onlyRegsQuiet_putAt h _ _ _ (hl _ (by decide)))
    _ _ _ (hl _ (by decide))) _ _ _ (hl _ (by decide))) _ _ _ (hl _ (by decide))) _ _ _ (hl _ (by decide))

/-- What follows the state itself. -/
theorem strMoved_after {l : List Field} (k new reason : Nat) (s : State) (hl : ∀ f ∈ strDetailFields, f.place ∈ l.map Field.place) :
    OnlyRegsQuiet l (strWritten k new reason s) (strMoved k new reason s) := by
  have h0 : OnlyRegsQuiet l (strWritten k new reason s) (strWritten k new reason s) := onlyRegsQuiet_of_regs _ rfl
  unfold strMoved
  refine strShow_onlyRegs ?_ k hl
  have h1 : OnlyRegsQuiet l (strWritten k new reason s) (if chargingSt new then
      ((strWritten k new reason s).stagePreset k (chargingSt (s.cst k))).newWindow k else strWritten k new reason s) := by
    split
    · exact onlyRegsQuiet_of_regs _ rfl
    · exact h0
  have h2 : ∀ {u : State}, OnlyRegsQuiet l (strWritten k new reason s) u →
      OnlyRegsQuiet l (strWritten k new reason s) (if new = strFast then u.putAt Reg.BST_DVCNT k 0 else u) := fun h => by
    split
    · exact onlyRegsQuiet_putAt h _ _ _ (hl _ (by decide))
    · exact h
  split
  · exact onlyRegsQuiet_put (h2 h1) _ _ (hl _ (by decide))
  · exact h2 h1

theorem strWritten_onlyRegs {l : List Field} {s u : State} (h : OnlyRegsQuiet l s u) (k new reason : Nat)
    (hl : ∀ f ∈ strFields, f.place ∈ l.map Field.place) : OnlyRegsQuiet l s (strWritten k new reason u) :=
  onlyRegsQuiet_put (onlyRegsQuiet_putAt (onlyRegsQuiet_putAt (onlyRegsQuiet_putAt (u := u.setStr k _) h _ _ _ (hl _ (by decide)))
    _ _ _ (hl _ (by decide))) _ _ _ (hl _ (by decide))) _ _ (hl _ (by decide))

theorem strMoved_onlyRegs {l : List Field} {s u : State} (h : OnlyRegsQuiet l s u) (k new reason : Nat)
    (hl : ∀ f ∈ strFields, f.place ∈ l.map Field.place) : OnlyRegsQuiet l s (strMoved k new reason u) := fun f i hf =>
  (strMoved_after k new reason u (fun g hg => hl g (List.mem_append_right _ hg)) f i hf).trans (strWritten_onlyRegs h k new reason hl f i hf)

/-- The registers of the state itself. -/
theorem strMoved_cst (k new reason : Nat) (s : State) : (strMoved k new reason s).cst k = new % 16 ∧
    (strMoved k new reason s).regAt Reg.BST_WST_REASON k = reason % 256 := by
  have hafter := strMoved_after (l := strDetailFields) k new reason s (fun f hf => List.mem_map_of_mem hf)
  refine ⟨(hafter Reg.BST_CST k (by decide)).trans ?_, (hafter Reg.BST_WST_REASON k (by decide)).trans ?_⟩
  · unfold strWritten State.putBit
    rw [regAt_put_other _ _ _ _ _ (by decide), regAt_putAt_other _ _ _ _ _ _ (by decide), regAt_putAt_other _ _ _ _ _ _ (by decide),
      regAt_putAt_same]
    rfl
  · unfold strWritten State.putBit
    rw [regAt_put_other _ _ _ _ _ (by decide), regAt_putAt_same]
    rfl

theorem strTurned_stopped (k new : Nat) (s : State) : (strTurned k new s).stopped = (s.str k).stopped := by
  unfold strTurned
  split <;> split <;> split <;> rfl

theorem strShow_strs (s : State) (k : Nat) : (s.strShow k).strs = s.strs := rfl

theorem strMoved_stopped {k : Nat} (hk : k < 8) (new reason : Nat) (s : State) :
    ((strMoved k new reason s).str k).stopped = (s.str k).stopped := by
  have hw : ((strWritten k new reason s).str k).stopped = (s.str k).stopped := by
    have : (strWritten k new reason s).str k = strTurned k new s := str_setStr_same s k _ hk
    rw [this, strTurned_stopped]
  have hpre : ∀ (a : State) (w : Bool), (((a.stagePreset k w).newWindow k).str k).stopped = (a.str k).stopped := fun a w => by
    unfold State.newWindow State.stagePreset
    simp [hk]
  unfold strMoved
  rw [str_of_strs (strShow_strs _ k)]
  have hdv : ∀ a : State, (if new = strFast then a.putAt Reg.BST_DVCNT k 0 else a).strs = a.strs := fun a => by split <;> rfl
  have hfl : ∀ a : State, (if new = strHalt then a.flag Reg.BST_FLAGS_HALT else a).strs = a.strs := fun a => by split <;> rfl
  rw [str_of_strs (hfl _), str_of_strs (hdv _)]
  split
  · rw [hpre, hw]
  · exact hw

theorem strMoved_core (k new reason : Nat) (s : State) : (strMoved k new reason s).core = s.core := by
  have hshow : ∀ a : State, (a.strShow k).core = a.core := fun _ => rfl
  have hpre : ∀ (a : State) (w : Bool), (if chargingSt new then (a.stagePreset k w).newWindow k else a).core = a.core := fun a w => by
    split <;> rfl
  have hdv : ∀ a : State, (if new = strFast then a.putAt Reg.BST_DVCNT k 0 else a).core = a.core := fun a => by split <;> rfl
  have hfl : ∀ a : State, (if new = strHalt then a.flag Reg.BST_FLAGS_HALT else a).core = a.core := fun a => by split <;> rfl
  unfold strMoved
  rw [hshow, hfl, hdv, hpre]
  rfl

/-- What a change of state leaves of everything else. -/
theorem strTo_onlyRegs {l : List Field} {s u : State} (h : OnlyRegs l s u) (k new reason : Nat)
    (hl : ∀ f ∈ strFields, f.place ∈ l.map Field.place) : OnlyRegs l s (u.strTo k new reason) := by
  rw [strTo_eq]
  refine onlyRegs_raise (fun f i hf hrec => ?_) _ _ _ _ _ (.inl (by decide))
  exact (strMoved_onlyRegs (l := l) (onlyRegsQuiet_of_regs (s := u) l rfl) k new reason hl f i hf).trans (h f i hf hrec)

theorem strTo_stopped {k : Nat} (hk : k < 8) (new reason : Nat) (s : State) :
    ((s.strTo k new reason).str k).stopped = (s.str k).stopped := by
  rw [strTo_eq, raise_str _ _ _ _ _ _ (by decide), strMoved_stopped hk]

/-! Start selection (R233) is a change of state, to a state and for a reason of its table. -/

theorem startSelect_eq (s : State) (k reason : Nat) : ∃ new why, s.startSelect k reason = s.strTo k new why := by
  unfold State.startSelect
  dsimp only
  repeat' split
  all_goals exact ⟨_, _, rfl⟩

theorem tryStart_eq (s : State) (k : Nat) : s.tryStart k = s ∨ ∃ new why, s.tryStart k = s.strTo k new why := by
  unfold State.tryStart
  split
  · exact .inr (startSelect_eq s k 1)
  · exact .inl rfl

/-! The commands (R240). -/

section
variable (t : Edges) (s : State) (k : Str) (key : Byte)

theorem exec_start : exec (.start t k key) s = hostWrite t s fun s => s.strStart k.val key := rfl
theorem exec_stop : exec (.stop t k key) s = hostWrite t s fun s => s.strStop k.val key := rfl
theorem exec_clear : exec (.clear t k key) s = hostWrite t s fun s => s.strClear k.val key := rfl

end

/-- A write on a port whose effect at its instant is `m`. -/
theorem does_of_write {c : Instr} {t : Edges} {s m : State} {f : State → State} {P : State → Prop} (hs : s.up)
    (hc : exec c s = hostWrite t s f) (hm : f (s.at t) = m) (h : P (ended t s fun _ => m)) : Does c s P := by
  subst hm
  exact does_hostWrite hs hc h

section
variable {t : Edges} {s : State} {k : Str} (hs : s.up)
include hs

/-- A command whose one effect is its answer. -/
theorem does_answer {c : Instr} {f : State → State} {v : Nat} (hc : exec c s = hostWrite t s f) (hv : v < 256)
    (hf : f (s.at t) = (s.at t).putAt Reg.BST_CMDRES k v) : Does c s fun u =>
      u.regAt Reg.BST_CMDRES k = v ∧ u.strs = s.strs ∧ OnlyRegsQuiet [Reg.BST_CMDRES] s u := by
  refine does_of_write hs hc hf ⟨?_, by simp, onlyRegsQuiet_ended (onlyRegsQuiet_putAt (onlyRegsQuiet_of_regs _ rfl) _ _ _ (by decide))⟩
  rw [ended_regAt, regAt_putAt_same]
  exact Nat.mod_eq_of_lt hv

theorem does_stop (habs : s.cst k ≠ strAbsent) (hhalt : s.cst k ≠ strHalt) : Does (.stop t k 0xA5) s fun u =>
    u.regAt Reg.BST_CMDRES k = 1 ∧ u.cst k = strOff ∧ u.regAt Reg.BST_WST_REASON k = 16 ∧ (u.str k).stopped = true ∧
      Raised 0x3100 0 k (s.cst k + 256 + 65536 * 16) s u := by
  let y : StrSt := { s.str k with stopped := true, vpk := none, temps := [], dtN := 0 }
  let m : State := ((s.at t).putAt Reg.BST_CMDRES k 1).setStr k y
  have hrow : ((s.at t).cst k != strAbsent && (s.at t).cst k != strHalt) = true := by
    rw [Bool.and_eq_true, bne_iff_ne, bne_iff_ne]
    exact ⟨habs, hhalt⟩
  have heffect : (s.at t).strStop k 0xA5 = m.strTo k strOff 16 := by
    unfold State.strStop State.strCommand
    rw [if_neg (by decide), if_pos hrow]
    rfl
  have hcst : m.cst k = s.cst k := regAt_putAt_other _ _ _ _ _ _ (by decide)
  have hres : m.regAt Reg.BST_CMDRES k = 1 := regAt_putAt_same _ _ _ _
  have honly := strTo_onlyRegs (l := strFields) (s := m) (onlyRegs_of_regs _ rfl) k strOff 16 (fun f hf => List.mem_map_of_mem hf)
  refine does_of_write hs (exec_stop t s k 0xA5) heffect ⟨?_, ?_, ?_, ?_, raised_ended ?_⟩
  · rw [ended_regAt, honly _ _ (by decide) (by decide), hres]
  · rw [State.cst, ended_regAt, strTo_eq, raise_regAt _ _ _ _ _ _ (by decide) _ (by decide)]
    exact (strMoved_cst _ _ _ _).1
  · rw [ended_regAt, strTo_eq, raise_regAt _ _ _ _ _ _ (by decide) _ (by decide)]
    exact (strMoved_cst _ _ _ _).2
  · rw [ended_str, strTo_stopped k.isLt]
    exact congrArg StrSt.stopped (str_setStr_same _ k.val y k.isLt)
  · rw [strTo_eq, hcst]
    refine raised_now (by decide) (congrArg CoreSt.sup (strMoved_core _ _ _ _)) ?_
    exact (strMoved_onlyRegs (l := strFields) (onlyRegsQuiet_of_regs (s := m) _ rfl) k strOff 16 (fun f hf => List.mem_map_of_mem hf)
      Reg.REC_SNSEV 0 (by decide)).trans (regAt_putAt_other _ _ _ _ _ _ (by decide))

theorem does_start (hoff : s.cst k = strOff) (hstopped : (s.str k).stopped = true) : Does (.start t k 0xA5) s fun u =>
    u.regAt Reg.BST_CMDRES k = 1 ∧ (u.str k).stopped = false := by
  let m : State := ((s.at t).putAt Reg.BST_CMDRES k 1).setStr k { s.str k with stopped := false }
  have hrow : ((s.at t).cst k == strOff && ((s.at t).str k).stopped) = true := by
    rw [Bool.and_eq_true, beq_iff_eq]
    exact ⟨hoff, hstopped⟩
  have heffect : (s.at t).strStart k 0xA5 = m.tryStart k := by
    unfold State.strStart State.strCommand
    rw [if_neg (by decide), if_pos hrow]
    rfl
  have hres : m.regAt Reg.BST_CMDRES k = 1 := regAt_putAt_same _ _ _ _
  have hm : (m.str k).stopped = false := congrArg StrSt.stopped (str_setStr_same _ k.val _ k.isLt)
  refine does_of_write hs (exec_start t s k 0xA5) heffect ?_
  rw [ended_regAt, ended_str]
  rcases tryStart_eq m k with h | ⟨new, why, h⟩
  · rw [h]
    exact ⟨hres, hm⟩
  · rw [h, strTo_stopped k.isLt]
    exact ⟨(strTo_onlyRegs (l := strFields) (s := m) (onlyRegs_of_regs _ rfl) k new why (fun f hf => List.mem_map_of_mem hf)
      _ _ (by decide) (by decide)).trans hres, hm⟩

theorem does_clear (hhalt : s.cst k = strHalt) (hpres : (s.str k).pres = true) : Does (.clear t k 0xA5) s fun u =>
    u.regAt Reg.BST_CMDRES k = 1 ∧ (u.str k).chkAt = some (max s.now t) ∧ (u.str k).chkN = 0 ∧ OnlyRegsQuiet [Reg.BST_CMDRES] s u := by
  have hrow : ((s.at t).cst k == strHalt && ((s.at t).str k).pres) = true := by
    rw [Bool.and_eq_true, beq_iff_eq]
    exact ⟨hhalt, hpres⟩
  have heffect : (s.at t).strClear k 0xA5 = ((s.at t).putAt Reg.BST_CMDRES k 1).insertBegin k := by
    unfold State.strClear State.strCommand
    rw [if_neg (by decide), if_pos hrow]
  have hstr : (((s.at t).putAt Reg.BST_CMDRES k 1).insertBegin k).str k =
      { s.str k with debAt := none, chkAt := some (max s.now t), chkSum := 0, chkN := 0 } := str_setStr_same _ k.val _ k.isLt
  refine does_of_write hs (exec_clear t s k 0xA5) heffect ?_
  rw [ended_regAt, ended_str, hstr]
  refine ⟨regAt_putAt_same _ _ _ _, rfl, rfl, onlyRegsQuiet_ended ?_⟩
  exact onlyRegsQuiet_putAt (onlyRegsQuiet_of_regs (u := s.at t) _ rfl) _ _ _ (by decide)

end

/-- Settles O41: the key and the state's row decide whether a command answers or acts. -/
theorem stringCommands : Obligations.StringCommands := by
  unfold Obligations.StringCommands
  intro t k s hs
  have hwrong : ∀ {key : Byte}, key ≠ 0xA5 → ∀ (ok : Bool) (f : State → State),
      (s.at t).strCommand k key ok f = (s.at t).putAt Reg.BST_CMDRES k 3 := fun h ok f => if_pos h
  have hrefused : ∀ {ok : Bool} (f : State → State), ok = false →
      (s.at t).strCommand k 0xA5 ok f = (s.at t).putAt Reg.BST_CMDRES k 2 := fun f h => by
    unfold State.strCommand
    rw [if_neg (by decide), if_neg (by simp [h])]
  refine ⟨fun key hkey c hc => ?_, fun h => ?_, does_stop hs, fun h => ?_, does_start hs, fun h => ?_, does_clear hs⟩
  · simp only [List.mem_cons, List.not_mem_nil, or_false] at hc
    rcases hc with rfl | rfl | rfl
    · exact does_answer hs (exec_start t s k key) (by decide) (hwrong hkey _ _)
    · exact does_answer hs (exec_stop t s k key) (by decide) (hwrong hkey _ _)
    · exact does_answer hs (exec_clear t s k key) (by decide) (hwrong hkey _ _)
  · refine does_answer hs (exec_stop t s k 0xA5) (by decide) (hrefused _ ?_)
    rw [Bool.and_eq_false_iff, bne_eq_false_iff_eq, bne_eq_false_iff_eq]
    exact h
  · refine does_answer hs (exec_start t s k 0xA5) (by decide) (hrefused _ ?_)
    rw [Bool.and_eq_false_iff, beq_eq_false_iff_ne]
    exact h
  · refine does_answer hs (exec_clear t s k 0xA5) (by decide) (hrefused _ ?_)
    rw [Bool.and_eq_false_iff, beq_eq_false_iff_ne]
    exact h

end Sys2Proof.StringStates

namespace Sys2Proof.Capsules

open Sys2Proof Sys2Proof.Machine Sys2Proof.Laws Sys2Proof.LoadSteps Sys2Proof.ImageLoads Sys2Proof.Readings Sys2Proof.WheelStates
  Sys2Proof.StringStates

/-! Capsules for a restore: the staging, the check and the refusal (R259-R261). -/

/-- The registers of the staging. -/
def stagingFields : List Field := [Reg.EST_RIDX, Reg.EST_ROFFLINE, Reg.EST_RFILL]

/-- A staging emptied without a word. -/
def stagingEmptied (s : State) : State :=
  ({ s with est.staged := [], est.stagedAt := none }.put Reg.EST_ROFFLINE 0xFFFFFFFF).put Reg.EST_RFILL 0

/-- A refusal is told: its code, its flag and its event. -/
def restoreTold (code : Nat) (s : State) : State :=
  ((s.put Reg.EST_RRES code).flag Reg.EST_FLAGS_REJECT).raise 0x3154 2 0x0B (s.reg Reg.EST_RIDX) code

theorem stagingReset_empty {s : State} (h : s.est.staged = []) (why : Nat) : s.stagingReset why = s := if_pos h

theorem stagingReset_quiet {s : State} (h : s.est.staged ≠ []) : s.stagingReset 0 = stagingEmptied s := if_neg h

theorem stagingEmptied_ridx (s : State) : (stagingEmptied s).reg Reg.EST_RIDX = s.reg Reg.EST_RIDX :=
  (reg_put_other _ _ _ _ (by decide)).trans (reg_put_other _ _ _ _ (by decide))

theorem stagingReset_told {s : State} (h : s.est.staged ≠ []) : s.stagingReset 10 = restoreTold 10 (stagingEmptied s) := by
  rw [State.stagingReset, if_neg h]
  rfl

theorem stagingReset_staged (s : State) : (s.stagingReset 0).est.staged = [] := by
  by_cases h : s.est.staged = []
  · rw [stagingReset_empty h, h]
  · rw [stagingReset_quiet h]
    rfl

theorem stagingReset_onlyRegs (s : State) : OnlyRegsQuiet stagingFields s (s.stagingReset 0) := by
  by_cases h : s.est.staged = []
  · rw [stagingReset_empty h]
    exact onlyRegsQuiet_of_regs _ rfl
  · rw [stagingReset_quiet h]
    exact onlyRegsQuiet_put (onlyRegsQuiet_put (onlyRegsQuiet_of_regs _ rfl) _ _ (by decide)) _ _ (by decide)

/-! What a refusal told shows. -/

theorem restoreTold_res (s : State) {code : Nat} (h : code < 16) : (restoreTold code s).reg Reg.EST_RRES = code := by
  rw [restoreTold, raise_reg _ _ _ _ _ _ (by decide) _ (by decide), flag_eq, reg_put_other _ _ _ _ (by decide)]
  exact (reg_put_same _ _ _).trans (Nat.mod_eq_of_lt h)

theorem restoreTold_reject (s : State) (code : Nat) : (restoreTold code s).reg Reg.EST_FLAGS_REJECT = 1 := by
  rw [restoreTold, raise_reg _ _ _ _ _ _ (by decide) _ (by decide)]
  exact reg_put_same _ _ _

theorem restoreTold_ests (s : State) (code : Nat) : (restoreTold code s).ests = s.ests := raise_ests _ _ _ _ _ _ (by decide)

theorem restoreTold_est (s : State) (code : Nat) : (restoreTold code s).est = s.est := raise_est _ _ _ _ _ _ (by decide)

theorem restoreTold_onlyRegs {s u : State} (h : OnlyRegs [Reg.EST_RRES, Reg.EST_FLAGS_REJECT] s u) (code : Nat) :
    OnlyRegs [Reg.EST_RRES, Reg.EST_FLAGS_REJECT] s (restoreTold code u) := by
  have hput : OnlyRegs [Reg.EST_RRES, Reg.EST_FLAGS_REJECT] s ((u.put Reg.EST_RRES code).flag Reg.EST_FLAGS_REJECT) :=
    onlyRegs_put (onlyRegs_put h _ _ (by decide)) _ _ (by decide)
  exact onlyRegs_raise hput _ _ _ _ _ (.inl (by decide))

theorem raised_restoreTold {s z : State} (code : Nat) (hsup : z.core.sup = s.core.sup) (hsn : z.reg Reg.REC_SNSEV = s.reg Reg.REC_SNSEV) :
    Raised 0x3154 2 (z.reg Reg.EST_RIDX) code s (restoreTold code z) :=
  raised_now (by decide) hsup (((reg_put_other _ _ _ _ (by decide)).trans (reg_put_other _ _ _ _ (by decide))).trans hsn)

/-- The codes of the conditions (R260) fit the register. -/
theorem capsuleFaults_lt {s : State} {c : List Nat} {last : Bool} {f : Nat} (h : f ∈ s.capsuleFaults c last) : f < 16 := by
  have hcode : ∀ {b : Bool} {n : Nat}, f ∈ (if b then [n] else []) → f = n := fun {b n} h => by
    split at h
    · exact List.mem_singleton.mp h
    · cases h
  unfold State.capsuleFaults at h
  simp only [List.mem_append] at h
  rcases h with ((((((h | h) | h) | h) | h) | h) | h) | h <;> rw [hcode h] <;> decide

/-- One fault is told as it is. -/
theorem restoreRefused_single (s : State) (f : Nat) : s.restoreRefused [f] = restoreTold f s := by
  unfold State.restoreRefused
  rw [if_pos (show [f].length ≤ 1 from Nat.le_refl 1)]
  rfl

/-- Of several faults the one told is one of them. -/
theorem restoreRefused_mem (s : State) {fs : List Nat} (h : fs ≠ []) : ∃ f ∈ fs, ∃ z, s.restoreRefused fs = restoreTold f z ∧
    z.regs = s.regs ∧ z.ests = s.ests := by
  have hpick : ∀ n, (fs[n % (max 1 fs.length)]?).getD 0 ∈ fs := fun n => by
    have hlen : 0 < fs.length := List.length_pos_iff.mpr h
    have hn : n % (max 1 fs.length) < fs.length := by
      rw [Nat.max_eq_right hlen]
      exact Nat.mod_lt _ hlen
    rw [List.getElem?_eq_getElem hn]
    exact List.getElem_mem hn
  unfold State.restoreRefused
  by_cases hl : fs.length ≤ 1
  · rw [if_pos hl]
    exact ⟨_, hpick 0, s, rfl, rfl, rfl⟩
  · rw [if_neg hl]
    exact ⟨_, hpick _, s.takeFree.2, rfl, rfl, rfl⟩

/-! The commands. -/

section
variable (t : Edges) (s : State)

theorem exec_estRidx (v : Byte) : exec (.estRidx t v) s = hostWrite t s fun s => s.ridxWrite v.toNat := rfl
theorem exec_capsuleCommit (last : Bool) :
    exec (.capsuleCommit t last) s = live t s fun s => if s.supUp then s.capsuleCommit last else s := rfl
theorem exec_stagingTimeout :
    exec (.stagingTimeout t) s = live t s fun s => if s.ran s.est.stagedAt edgeSec then s.stagingReset 10 else s := rfl

end

section
variable {t : Edges} {s : State}

theorem does_estRidx (hs : s.up) (v : Byte) : Does (.estRidx t v) s fun u =>
    u.reg Reg.EST_RIDX = v.toNat % 8 ∧ u.reg Reg.EST_ROFFLINE = 0xFFFFFFFF ∧ u.reg Reg.EST_RFILL = 0 ∧ u.est.staged = [] ∧
    OnlyRegsQuiet [Reg.EST_RIDX, Reg.EST_ROFFLINE, Reg.EST_RFILL] s u := by
  have hquiet : OnlyRegsQuiet stagingFields s ((s.at t).stagingReset 0) := stagingReset_onlyRegs (s.at t)
  refine does_of_write hs (exec_estRidx t s v) (m := ((((s.at t).stagingReset 0).put Reg.EST_RIDX v.toNat).put Reg.EST_ROFFLINE 0xFFFFFFFF).put
    Reg.EST_RFILL 0) rfl ⟨?_, ?_, ?_, ?_, onlyRegsQuiet_ended ?_⟩
  · rw [ended_reg, reg_put_other _ _ _ _ (by decide), reg_put_other _ _ _ _ (by decide)]
    exact reg_put_same _ _ _
  · rw [ended_reg, reg_put_other _ _ _ _ (by decide)]
    exact reg_put_same _ _ _
  · rw [ended_reg]
    exact reg_put_same _ _ _
  · rw [ended_est]
    exact stagingReset_staged _
  · exact onlyRegsQuiet_put (onlyRegsQuiet_put (onlyRegsQuiet_put hquiet _ _ (by decide)) _ _ (by decide)) _ _ (by decide)

variable (hp : s.core.powered = true)
include hp

/-- A command of the estimator that finds nothing to do. -/
theorem does_est_idle {c : Instr} {f : State → State} (hc : exec c s = live t s f) (hf : f (s.at t) = s.at t) :
    Does c s fun u => u.est = s.est ∧ u.ests = s.ests ∧ OnlyRegsQuiet [] s u :=
  does_of_effect hp hc hf ⟨by simp, by simp, onlyRegsQuiet_ended (onlyRegsQuiet_of_regs _ rfl)⟩

theorem does_capsuleCommit_idle (last : Bool) (h : s.supUp = false ∨ s.est.staged.any (fun p => p.1 == 127) = false) :
    Does (.capsuleCommit t last) s fun u => u.est = s.est ∧ u.ests = s.ests ∧ OnlyRegsQuiet [] s u := by
  refine does_est_idle hp (exec_capsuleCommit t s last) ?_
  rcases h with h | h
  · exact if_neg (by rw [show (s.at t).supUp = false from h]; decide)
  · have hidle : (s.at t).capsuleCommit last = s.at t := if_neg (by rw [at_est, h]; decide)
    rw [hidle, ite_self]

section
variable (hup : s.supUp = true) (last : Bool) (h127 : s.est.staged.any (fun p => p.1 == 127) = true)
include hup h127

theorem does_capsuleCommit_accepted {c : List Nat} (hcap : c = (List.range 128).map s.stagedByte) (hok : s.capsuleFaults c last = [])
    (hk : s.reg Reg.EST_RIDX < 8) : Does (.capsuleCommit t last) s fun u =>
      u.reg Reg.EST_RRES = 1 ∧ (u.esti (s.reg Reg.EST_RIDX)).capsule = some c ∧ OnlyRegsQuiet [Reg.EST_RRES] s u := by
  subst hcap
  have hok' : (s.at t).capsuleFaults ((List.range 128).map (s.at t).stagedByte) last = [] := hok
  refine does_of_effect hp (exec_capsuleCommit t s last) (m := ((s.at t).setEsti (s.reg Reg.EST_RIDX)
      { s.esti (s.reg Reg.EST_RIDX) with capsule := some ((List.range 128).map s.stagedByte) }).put Reg.EST_RRES 1) ?_ ⟨?_, ?_, onlyRegsQuiet_ended ?_⟩
  · rw [if_pos (show (s.at t).supUp = true from hup)]
    unfold State.capsuleCommit
    rw [if_pos (show (s.at t).est.staged.any (fun p => p.1 == 127) = true from h127)]
    dsimp only
    rw [hok']
    rfl
  · rw [ended_reg]
    exact reg_put_same _ _ _
  · rw [ended_esti, put_esti, esti_setEsti_same _ _ _ hk]
  · exact onlyRegsQuiet_put (onlyRegsQuiet_of_regs (u := (s.at t).setEsti _ _) _ rfl) _ _ (by decide)

omit hp in
/-- A refusal: what the check finds is what `restoreRefused` is given. -/
theorem capsuleCommit_refused (hbad : s.capsuleFaults ((List.range 128).map s.stagedByte) last ≠ []) :
    (if (s.at t).supUp then (s.at t).capsuleCommit last else s.at t) =
      (s.at t).restoreRefused (s.capsuleFaults ((List.range 128).map s.stagedByte) last) := by
  have hbad' : (s.at t).capsuleFaults ((List.range 128).map (s.at t).stagedByte) last ≠ [] := hbad
  rw [if_pos (show (s.at t).supUp = true from hup)]
  unfold State.capsuleCommit
  rw [if_pos (show (s.at t).est.staged.any (fun p => p.1 == 127) = true from h127)]
  dsimp only
  split
  case h_1 h => exact absurd h hbad'
  case h_2 => rfl

theorem does_capsuleCommit_single {f : Nat} (hf : s.capsuleFaults ((List.range 128).map s.stagedByte) last = [f]) :
    Does (.capsuleCommit t last) s fun u =>
      u.reg Reg.EST_RRES = f ∧ u.ests = s.ests ∧ u.reg Reg.EST_FLAGS_REJECT = 1 ∧ Raised 0x3154 2 (s.reg Reg.EST_RIDX) f s u ∧
      OnlyRegs [Reg.EST_RRES, Reg.EST_FLAGS_REJECT] s u := by
  have heffect := capsuleCommit_refused (t := t) hup last h127 (by rw [hf]; exact List.cons_ne_nil _ _)
  rw [hf, restoreRefused_single] at heffect
  refine does_of_effect hp (exec_capsuleCommit t s last) heffect ⟨?_, ?_, ?_, raised_ended ?_, onlyRegs_ended ?_⟩
  · rw [ended_reg]
    exact restoreTold_res _ (capsuleFaults_lt (s := s) (last := last) (by rw [hf]; exact List.mem_singleton_self f))
  · rw [ended_ests]
    exact restoreTold_ests _ _
  · rw [ended_reg]
    exact restoreTold_reject _ _
  · exact raised_restoreTold (s := s) (z := s.at t) f rfl rfl
  · exact restoreTold_onlyRegs (onlyRegs_of_regs (u := s.at t) _ rfl) f

theorem does_capsuleCommit_refused (hbad : s.capsuleFaults ((List.range 128).map s.stagedByte) last ≠ []) :
    Does (.capsuleCommit t last) s fun u =>
      u.reg Reg.EST_RRES ∈ s.capsuleFaults ((List.range 128).map s.stagedByte) last ∧ u.ests = s.ests ∧ u.reg Reg.EST_FLAGS_REJECT = 1 := by
  obtain ⟨f, hf, z, hz, -, hests⟩ := restoreRefused_mem (s.at t) hbad
  refine does_of_effect hp (exec_capsuleCommit t s last) ((capsuleCommit_refused hup last h127 hbad).trans hz) ⟨?_, ?_, ?_⟩
  · rw [ended_reg, restoreTold_res _ (capsuleFaults_lt hf)]
    exact hf
  · rw [ended_ests, restoreTold_ests, hests, at_ests]
  · rw [ended_reg]
    exact restoreTold_reject _ _

end

section
variable {a : Edges} (ha : s.est.stagedAt = some a)
include ha

theorem does_stagingTimeout (hdue : a + edgeSec ≤ max s.now t) (hst : s.est.staged ≠ []) : Does (.stagingTimeout t) s fun u =>
    u.est.staged = [] ∧ u.reg Reg.EST_RRES = 10 ∧ u.reg Reg.EST_RFILL = 0 ∧ u.reg Reg.EST_FLAGS_REJECT = 1 ∧
    Raised 0x3154 2 (s.reg Reg.EST_RIDX) 10 s u := by
  have hran : (s.at t).ran s.est.stagedAt edgeSec = true := by
    rw [ha]
    exact decide_eq_true hdue
  have heffect : (if (s.at t).ran (s.at t).est.stagedAt edgeSec then (s.at t).stagingReset 10 else s.at t) =
      restoreTold 10 (stagingEmptied (s.at t)) := by
    rw [at_est, if_pos hran, stagingReset_told (s := s.at t) hst]
  refine does_of_effect hp (exec_stagingTimeout t s) heffect ⟨?_, ?_, ?_, ?_, raised_ended ?_⟩
  · rw [ended_est, restoreTold_est]
    rfl
  · rw [ended_reg]
    exact restoreTold_res _ (by decide)
  · rw [ended_reg, restoreTold, raise_reg _ _ _ _ _ _ (by decide) _ (by decide), flag_eq, reg_put_other _ _ _ _ (by decide),
      reg_put_other _ _ _ _ (by decide)]
    exact reg_put_same _ _ _
  · rw [ended_reg]
    exact restoreTold_reject _ _
  · have hsn : (stagingEmptied (s.at t)).reg Reg.REC_SNSEV = s.reg Reg.REC_SNSEV :=
      (reg_put_other _ _ _ _ (by decide)).trans (reg_put_other _ _ _ _ (by decide))
    have hraised := raised_restoreTold (s := s) (z := stagingEmptied (s.at t)) 10 rfl hsn
    rw [stagingEmptied_ridx] at hraised
    exact hraised

theorem does_stagingTimeout_idle (h : max s.now t < a + edgeSec ∨ s.est.staged = []) : Does (.stagingTimeout t) s fun u =>
    u.est = s.est ∧ u.ests = s.ests ∧ OnlyRegsQuiet [] s u := by
  refine does_est_idle hp (exec_stagingTimeout t s) ?_
  rcases h with h | h
  · refine if_neg ?_
    rw [at_est, ha, Bool.not_eq_true]
    exact decide_eq_false (Nat.not_le.mpr h)
  · rw [stagingReset_empty (s := s.at t) h, ite_self]

end

end

/-- Settles O43: the staging, the check of a complete capsule and the second of the staging. -/
theorem capsuleRestore : Obligations.CapsuleRestore := by
  unfold Obligations.CapsuleRestore
  intro t s hp
  refine ⟨fun v hup => does_estRidx ⟨hp, hup⟩ v, fun last hup h127 => ⟨fun hok hk => ?_, fun f hf htail => ?_, fun hbad => ?_⟩,
    does_capsuleCommit_idle hp, fun a ha => ⟨does_stagingTimeout hp ha, fun h => ?_⟩⟩
  · exact does_capsuleCommit_accepted hp hup last h127 rfl hok hk
  · refine does_capsuleCommit_single hp hup last h127 ?_
    rw [← List.cons_head?_tail hf, htail]
  · exact does_capsuleCommit_refused hp hup last h127 hbad
  · exact (does_stagingTimeout_idle hp ha h).imp fun u ⟨hu, hest, _, honly⟩ => ⟨hu, hest, honly⟩

end Sys2Proof.Capsules

namespace Sys2Proof.JournalFrame

open Sys2Proof Sys2Proof.Machine Sys2Proof.Laws

/-! What the journal's operations can write (R334-R341): the banks, the counts of erases, the mirror, page 0x32's registers of use and
wear, and the recorder, where a record of theirs tells of a full bank or of wear. -/

/-- The registers the journal writes. -/
def jrnFields : List Field :=
  [Reg.JRN_ERS_J, Reg.JRN_ERS_LOG, Reg.JRN_ERS_SNAP, Reg.JRN_WEAR, Reg.JRN_FLAGS_WEAR, Reg.JRN_STAT_COMPACT, Reg.JRN_USED, Reg.JRN_STAT_FULL,
    Reg.JRN_FLAGS_FULL]

/-- A flash that differs from another in the journal's banks and the counts of erases alone. -/
def jrnFlash (f g : Flash) : Flash := { f with bank0 := g.bank0, bank1 := g.bank1, erases := g.erases }

/-- Two states that differ in the journal and the recorder alone. -/
structure SameButJournal (s u : State) : Prop where
  rest : u = { s with regs := u.regs, flash := jrnFlash s.flash u.flash, jrn := u.jrn, log := recLog s.log u.log, core.heldEvents := u.core.heldEvents }
  cells : ∀ f : Field, onRecPages f = false → f.place ∉ jrnFields.map Field.place → ∀ i, u.regAt f i = s.regAt f i

namespace SameButJournal

theorem refl (s : State) : SameButJournal s s := ⟨rfl, fun _ _ _ _ => rfl⟩

theorem trans {s u w : State} (h : SameButJournal s u) (k : SameButJournal u w) : SameButJournal s w := by
  refine ⟨?_, fun f hf hj i => (k.cells f hf hj i).trans (h.cells f hf hj i)⟩
  have h1 := k.rest
  rw [h.rest] at h1
  exact h1

theorem of_recorder {s u : State} (h : SameButRecorder s u) : SameButJournal s u := by
  refine ⟨?_, fun f hf _ i => h.cells f hf i⟩
  have hflash : u.flash = s.flash := by rw [h.rest]
  have hjrn : u.jrn = s.jrn := by rw [h.rest]
  rw [hflash, hjrn]
  exact h.rest

theorem put {s u : State} (h : SameButJournal s u) (f : Field) (v : Nat) (hf : f.place ∈ jrnFields.map Field.place) :
    SameButJournal s (u.put f v) := by
  refine h.trans ⟨rfl, fun g _ hg i => regAt_put_other _ _ _ _ _ fun e => hg ?_⟩
  rw [e]
  exact hf

theorem mirror {s u : State} (h : SameButJournal s u) (j : JrnSt) : SameButJournal s { u with jrn := j } :=
  h.trans ⟨rfl, fun _ _ _ _ => rfl⟩

theorem erased {s u : State} (h : SameButJournal s u) (c : Cells) : SameButJournal s { u with flash.erases := c } :=
  h.trans ⟨rfl, fun _ _ _ _ => rfl⟩

theorem setBank {s u : State} (h : SameButJournal s u) (b : Nat) (v : Bank) : SameButJournal s (u.setBank b v) := by
  refine h.trans ?_
  unfold State.setBank
  split <;> exact ⟨rfl, fun _ _ _ _ => rfl⟩

theorem recordEvent {s u : State} (h : SameButJournal s u) (code sev unit p0 p1 p2 p3 : Nat) :
    SameButJournal s (u.recordEvent code sev unit p0 p1 p2 p3) := h.trans (of_recorder (recordEvent_rec _ _ _ _ _ _ _ _))

theorem wearRefresh {s u : State} (h : SameButJournal s u) : SameButJournal s u.wearRefresh := by
  have hput : ∀ a b c d : Nat, SameButJournal s ((((u.put Reg.JRN_ERS_J a).put Reg.JRN_ERS_LOG b).put Reg.JRN_ERS_SNAP c).putSat Reg.JRN_WEAR d) :=
    fun a b c d => (((h.put _ _ (by decide)).put _ _ (by decide)).put _ _ (by decide)).put _ _ (by decide)
  unfold State.wearRefresh
  dsimp only
  split
  · exact (((hput _ _ _ _).mirror _).put Reg.JRN_FLAGS_WEAR 1 (by decide)).recordEvent _ _ _ _ _ _ _
  · exact hput _ _ _ _

theorem eraseSectors {s u : State} (h : SameButJournal s u) (k n : Nat) : SameButJournal s (u.eraseSectors k n) :=
  (h.erased _).wearRefresh

theorem compactStart {s u : State} (h : SameButJournal s u) : SameButJournal s u.compactStart :=
  (((h.setBank _ _).mirror _).put Reg.JRN_STAT_COMPACT 1 (by decide)).eraseSectors _ _

theorem jWrite {s u : State} (h : SameButJournal s u) (p : JPayload) : SameButJournal s (u.jWrite p) := by
  unfold State.jWrite
  dsimp only
  split
  · have hw := ((h.mirror { u.jrn.absorb p with seq := u.jrn.seq + 1 }).setBank (u.reg Reg.JRN_STAT_BANK)
      ((u.bank (u.reg Reg.JRN_STAT_BANK)).append (u.jrn.seq + 1) p)).put Reg.JRN_USED
      ((u.bank (u.reg Reg.JRN_STAT_BANK)).append (u.jrn.seq + 1) p).next (by decide)
    split
    · exact hw.compactStart
    · exact hw
  · split
    · exact h.mirror _
    · exact (((h.mirror _).put Reg.JRN_STAT_FULL 1 (by decide)).put Reg.JRN_FLAGS_FULL 1 (by decide)).recordEvent _ _ _ _ _ _ _

theorem jAppend {s u : State} (h : SameButJournal s u) (p : JPayload) : SameButJournal s (u.jAppend p) := by
  unfold State.jAppend
  split
  · exact h.mirror _
  · split
    · exact h.mirror _
    · exact h.jWrite p

theorem foldl_jWrite {s : State} (l : List JPayload) {u : State} (h : SameButJournal s u) : SameButJournal s (l.foldl State.jWrite u) := by
  induction l generalizing u with
  | nil => exact h
  | cons p l ih => exact ih (h.jWrite p)

theorem jDrain {s u : State} (h : SameButJournal s u) : SameButJournal s u.jDrain := by
  unfold State.jDrain
  split
  · exact h
  · exact foldl_jWrite _ (h.mirror _)

/-! What such a difference leaves. -/

variable {s u : State} (h : SameButJournal s u)
include h

theorem reg (f : Field) (hf : onRecPages f = false) (hj : f.place ∉ jrnFields.map Field.place) : u.reg f = s.reg f := h.cells f hf hj 0
theorem now : u.now = s.now := by rw [h.rest]
theorem img : u.img = s.img := by rw [h.rest]
theorem sup : u.core.sup = s.core.sup := by rw [h.rest]
theorem first : u.flash.first = s.flash.first := by rw [h.rest]; rfl
theorem roll : u.flash.roll = s.flash.roll := by rw [h.rest]; rfl
theorem snaps : u.flash.snaps = s.flash.snaps := by rw [h.rest]; rfl
theorem slotA : u.flash.slotA = s.flash.slotA := by rw [h.rest]; rfl
theorem slotB : u.flash.slotB = s.flash.slotB := by rw [h.rest]; rfl
theorem bd0 : u.flash.bd0 = s.flash.bd0 := by rw [h.rest]; rfl
theorem bd1 : u.flash.bd1 = s.flash.bd1 := by rw [h.rest]; rfl
theorem clear : u.log.clear = s.log.clear := by rw [h.rest]; rfl

theorem onlyRegs : OnlyRegs jrnFields s u := fun f i hj hf => h.cells f (onRecPages_of_not hf) hj i

end SameButJournal

/-! The mirror's LOGPTR (R335, R336). -/

theorem recordEvent_jrn (s : State) (code sev unit p0 p1 p2 p3 : Nat) : (s.recordEvent code sev unit p0 p1 p2 p3).jrn = s.jrn := by
  rw [(recordEvent_rec s code sev unit p0 p1 p2 p3).rest]

theorem wearRefresh_logptr (s : State) : s.wearRefresh.jrn.logptr = s.jrn.logptr := by
  unfold State.wearRefresh
  dsimp only
  split
  · rw [recordEvent_jrn]
    rfl
  · rfl

theorem setBank_logptr (s : State) (b : Nat) (v : Bank) : (s.setBank b v).jrn.logptr = s.jrn.logptr := by
  unfold State.setBank
  split <;> rfl

theorem compactStart_logptr (s : State) : s.compactStart.jrn.logptr = s.jrn.logptr := by
  unfold State.compactStart State.eraseSectors
  rw [wearRefresh_logptr]
  exact setBank_logptr s _ _

theorem jWrite_logptr (s : State) (p : JPayload) : (s.jWrite p).jrn.logptr = (s.jrn.absorb p).logptr := by
  have hset : ∀ (b : Nat) (v : Bank) (n : Nat), ((State.setBank { s with jrn := { s.jrn.absorb p with seq := s.jrn.seq + 1 } } b v).put
      Reg.JRN_USED n).jrn.logptr = (s.jrn.absorb p).logptr := fun b v n => setBank_logptr _ b v
  unfold State.jWrite
  dsimp only
  split
  · split
    · rw [compactStart_logptr, hset]
    · exact hset _ _ _
  · split
    · rfl
    · rw [recordEvent_jrn]
      rfl

/-- R335, R336: once the scan is complete a LOGPTR is in force in the mirror as soon as it is due. -/
theorem jAppend_logptr {s : State} (h : s.jrn.scanned = true) (l : LogPtr) : (s.jAppend (.logptr l)).jrn.logptr = some l := by
  unfold State.jAppend
  split
  · rfl
  · split
    · rfl
    · exact jWrite_logptr _ _

/-! A LOGPTR into a bank with room raises nothing. -/

theorem placeRec_le (next len : Nat) : placeRec next len ≤ next + 256 := by
  unfold placeRec
  split <;> omega

theorem jWrite_logptr_quiet {s : State} (l : LogPtr) (h : (s.bank (s.reg Reg.JRN_STAT_BANK)).next < 190000) :
    (s.jWrite (.logptr l)).log = s.log ∧ OnlyRegsQuiet [Reg.JRN_USED] s (s.jWrite (.logptr l)) := by
  have hplace := placeRec_le (s.bank (s.reg Reg.JRN_STAT_BANK)).next (JPayload.logptr l).len
  have hlen : (JPayload.logptr l).len = 32 := rfl
  have hfits : (s.bank (s.reg Reg.JRN_STAT_BANK)).fits (.logptr l) = true := by
    unfold Bank.fits
    rw [decide_eq_true_eq]
    omega
  have hnext : ((s.bank (s.reg Reg.JRN_STAT_BANK)).append (s.jrn.seq + 1) (.logptr l)).next < 196608 := by
    show placeRec _ _ + _ < _
    omega
  have hset : ∀ (a : State) (b : Nat) (v : Bank), (a.setBank b v).log = a.log ∧ (a.setBank b v).regs = a.regs := fun a b v => by
    unfold State.setBank
    split <;> exact ⟨rfl, rfl⟩
  unfold State.jWrite
  dsimp only
  rw [if_pos hfits, if_neg fun e => absurd e.1 (Nat.not_le.mpr hnext)]
  exact ⟨(hset _ _ _).1, onlyRegsQuiet_put (onlyRegsQuiet_of_regs _ (hset _ _ _).2) _ _ (by decide)⟩

theorem jAppend_logptr_quiet {s : State} (l : LogPtr) (h : (s.bank (s.reg Reg.JRN_STAT_BANK)).next < 190000) :
    (s.jAppend (.logptr l)).log = s.log ∧ OnlyRegsQuiet [Reg.JRN_USED] s (s.jAppend (.logptr l)) := by
  unfold State.jAppend
  split
  · exact ⟨rfl, onlyRegsQuiet_of_regs _ rfl⟩
  · split
    · exact ⟨rfl, onlyRegsQuiet_of_regs _ rfl⟩
    · exact jWrite_logptr_quiet l h

end Sys2Proof.JournalFrame

namespace Sys2Proof.LogClearing

open Sys2Proof Sys2Proof.Machine Sys2Proof.Laws Sys2Proof.LoadSteps Sys2Proof.ImageLoads Sys2Proof.DebugAccess Sys2Proof.Readings
  Sys2Proof.JournalFrame

/-! The record an event leaves, with its sequence (R345). -/

theorem flushKick_lastSeq (s : State) : s.flushKick.reg Reg.REC_LASTSEQ = s.reg Reg.REC_LASTSEQ := by
  unfold State.flushKick
  split
  · exact reg_put_other _ _ _ _ (by decide)
  · rfl

theorem flushTrigger_lastSeq (s : State) (sev : Nat) : (s.flushTrigger sev).reg Reg.REC_LASTSEQ = s.reg Reg.REC_LASTSEQ := by
  unfold State.flushTrigger
  split
  · exact flushKick_lastSeq _
  · rfl

theorem enqueue_lastSeq (s : State) (r : EventRec) : (s.enqueue r).reg Reg.REC_LASTSEQ = s.reg Reg.REC_LASTSEQ := by
  have hdrop : ∀ (a : State) (v : Nat), (a.noteDrop v).reg Reg.REC_LASTSEQ = a.reg Reg.REC_LASTSEQ := fun a v =>
    (reg_put_other (a.bump Reg.REC_QDROP) Reg.REC_FLAGS_QDROP Reg.REC_LASTSEQ 1 (by decide)).trans
      (reg_put_other a Reg.REC_QDROP Reg.REC_LASTSEQ _ (by decide))
  unfold State.enqueue
  split
  · rfl
  · split
    · exact hdrop _ _
    next d q _ => exact hdrop { s with log.queue := q } d.sev

/-- The sequence and the count of a record's severity. -/
def seqCounted (sev : Nat) (s : State) : State := (s.put Reg.REC_LASTSEQ (s.reg Reg.REC_LASTSEQ + 1)).bumpAt Reg.REC_SEVCNT sev

/-- R345: the record takes the next sequence; the first of an epoch carries EPOCH. -/
theorem record_seq (s : State) (code sev unit p0 p1 p2 p3 : Nat) :
    (s.record code sev unit p0 p1 p2 p3).reg Reg.REC_LASTSEQ = (s.reg Reg.REC_LASTSEQ + 1) % 2 ^ 32 ∧
    ∃ r, (s.record code sev unit p0 p1 p2 p3).log.last = some r ∧ r.code = code ∧ r.sev = sev ∧ r.seq = s.reg Reg.REC_LASTSEQ + 1 ∧
      r.epoch = (s.reg Reg.REC_LASTSEQ + 1 == 1) ∧ r.p0 = p0 % 2 ^ 32 := by
  have hcount : (((seqCounted sev s).put Reg.REC_MAXSEV_SEV (max ((seqCounted sev s).reg Reg.REC_MAXSEV_SEV) sev)).put Reg.REC_MAXSEV_ANY 1).reg
      Reg.REC_LASTSEQ = (s.reg Reg.REC_LASTSEQ + 1) % 2 ^ 32 := by
    unfold seqCounted
    rw [reg_put_other _ _ _ _ (by decide), reg_put_other _ _ _ _ (by decide), State.bumpAt, reg_putAt_other _ _ _ _ _ (by decide), reg_put_same]
    rfl
  unfold State.record
  dsimp only
  refine ⟨?_, _, (flushTrigger_last _ _).trans (enqueue_last _ _), rfl, rfl, rfl, rfl, rfl⟩
  rw [flushTrigger_lastSeq, enqueue_lastSeq]
  exact hcount

theorem record_flash (s : State) (code sev unit p0 p1 p2 p3 : Nat) : (s.record code sev unit p0 p1 p2 p3).flash = s.flash := by
  rw [(record_rec s code sev unit p0 p1 p2 p3).rest]

theorem record_clear (s : State) (code sev unit p0 p1 p2 p3 : Nat) : (s.record code sev unit p0 p1 p2 p3).log.clear = s.log.clear := by
  rw [(record_rec s code sev unit p0 p1 p2 p3).rest]
  rfl

/-- R354: below REC_SNSEV an event takes no snapshot. -/
theorem recordEvent_eq_record {s : State} {sev : Nat} (h : s.reg Reg.REC_SNSEV = 0 ∨ sev < s.reg Reg.REC_SNSEV)
    (code unit p0 p1 p2 p3 : Nat) : s.recordEvent code sev unit p0 p1 p2 p3 = s.record code sev unit p0 p1 p2 p3 := by
  have hsn : (s.record code sev unit p0 p1 p2 p3).reg Reg.REC_SNSEV = s.reg Reg.REC_SNSEV :=
    (record_rec s code sev unit p0 p1 p2 p3).cells Reg.REC_SNSEV (by decide) 0
  unfold State.recordEvent
  dsimp only
  rw [hsn, if_neg (by omega)]

/-! The clear commands (R353). -/

section
variable (t : Edges) (s : State)

theorem exec_clear (all : Bool) (k : Byte) :
    exec (if all then .clearAll t k else .clearLog t k) s = live t s fun s => s.recClear all k := by cases all <;> rfl

/-- What the end of the erase does where a clear is in progress. -/
def clearEnded (s : State) : State :=
  match s.log.clear with
  | none => s
  | some c => if s.supUp then s.clearDone c else s

theorem exec_clearEraseDone : exec (.clearEraseDone t) s = live t s clearEnded := rfl

theorem exec_logScanDone : exec (.logScanDone t) s = live t s fun s =>
    if s.booted && s.jrn.scanned && !s.log.scanned && !s.isSet Reg.JRN_STAT_NOFLASH then s.logScan.flushTrigger 0 else s := rfl

end

/-- An accepted clear begins: what it notes and shows, before the journal's record of the new epoch. -/
def clearBegun (all : Bool) (s : State) : State :=
  ((({ s with log.clear := some ⟨all, s.reg Reg.REC_EPOCH, s.reg Reg.REC_FIRSTCNT, s.reg Reg.REC_ROLLCNT⟩, log.batch := none }.put
    Reg.REC_CMDRES 1).put Reg.REC_STAT_CLEARING 1).put Reg.REC_STAT_FLUSHING 0)

/-- The command's number in its refusal. -/
def clearNo (all : Bool) : Nat := if all then 2 else 1

section
variable {s : State} (hup : s.supUp = true) (all : Bool)
include hup

theorem recClear_wrongKey {k : Byte} (h : k ≠ 0xA5) : s.recClear all k = s.clearRefused (clearNo all) 3 := by
  unfold State.recClear recKeyOk
  rw [hup, beq_eq_false_iff_ne.mpr h]
  rfl

theorem recClear_busy (h : s.log.clear.isSome = true) : s.recClear all 0xA5 = s.clearRefused (clearNo all) 2 := by
  unfold State.recClear
  rw [hup, h]
  rfl

theorem recClear_noToken (h : s.log.clear = none) (htok : s.tokenScope 2 = false) :
    s.recClear all 0xA5 = s.clearRefused (clearNo all) 4 := by
  unfold State.recClear
  rw [hup, h, htok]
  rfl

theorem recClear_accepted (h : s.log.clear = none) (htok : s.tokenScope 2 = true) :
    s.recClear all 0xA5 = (clearBegun all s).jAppend (.logptr ⟨s.reg Reg.REC_EPOCH + 1, 0, 0, 0, 0, 0⟩) := by
  unfold State.recClear
  rw [hup, h, htok]
  rfl

end

section
variable {t : Edges} {s : State}

/-- What a refusal shows. -/
theorem does_clearRefused {c : Instr} {f : State → State} {cmd res : Nat} (hp : s.core.powered = true) (hc : exec c s = live t s f)
    (hres : res < 8) (hf : f (s.at t) = (s.at t).clearRefused cmd res) : Does c s fun u =>
      u.reg Reg.REC_CMDRES = res ∧ u.log.clear = s.log.clear ∧ Raised 0x7057 2 cmd res s u ∧ OnlyRegs [Reg.REC_CMDRES] s u := by
  have hput : OnlyRegs [Reg.REC_CMDRES] s ((s.at t).put Reg.REC_CMDRES res) := onlyRegs_put (onlyRegs_of_regs _ rfl) _ _ (by decide)
  refine does_of_effect hp hc hf ⟨?_, ?_, raised_ended ?_, onlyRegs_ended (onlyRegs_raise hput _ _ _ _ _ (.inl (by decide)))⟩
  · rw [ended_reg, State.clearRefused, raise_reg _ _ _ _ _ _ (by decide) _ (by decide), reg_put_same]
    exact Nat.mod_eq_of_lt (Nat.lt_of_lt_of_le hres (by decide))
  · rw [ended_log, State.clearRefused, raise_log_clear _ _ _ _ _ _ (by decide)]
    rfl
  · exact raised_now (z := (s.at t).put Reg.REC_CMDRES res) (by decide) rfl (reg_put_other _ _ _ _ (by decide))

theorem does_clear_accepted (hs : s.up) (all : Bool) (hclear : s.log.clear = none) (htok : s.tokenScope 2 = true) :
    Does (if all then .clearAll t 0xA5 else .clearLog t 0xA5) s fun u => u.reg Reg.REC_CMDRES = 1 ∧ u.reg Reg.REC_STAT_CLEARING = 1 ∧
      u.log.clear = some ⟨all, s.reg Reg.REC_EPOCH, s.reg Reg.REC_FIRSTCNT, s.reg Reg.REC_ROLLCNT⟩ ∧ u.flash.first = s.flash.first ∧
      u.flash.roll = s.flash.roll ∧ (s.jrn.scanned = true → u.jrn.logptr = some ⟨s.reg Reg.REC_EPOCH + 1, 0, 0, 0, 0, 0⟩) := by
  obtain ⟨hp, hup⟩ := hs
  have hj := (SameButJournal.refl (clearBegun all (s.at t))).jAppend (.logptr ⟨s.reg Reg.REC_EPOCH + 1, 0, 0, 0, 0, 0⟩)
  refine does_of_effect hp (exec_clear t s all 0xA5) (recClear_accepted (s := s.at t) hup all hclear htok) ⟨?_, ?_, ?_, ?_, ?_, fun h => ?_⟩
  · rw [ended_reg]
    refine (hj.reg Reg.REC_CMDRES (by decide) (by decide)).trans ?_
    exact (reg_put_other _ _ _ _ (by decide)).trans ((reg_put_other _ _ _ _ (by decide)).trans (reg_put_same _ _ _))
  · rw [ended_reg]
    refine (hj.reg Reg.REC_STAT_CLEARING (by decide) (by decide)).trans ?_
    exact (reg_put_other _ _ _ _ (by decide)).trans (reg_put_same _ _ _)
  · rw [ended_log]
    exact hj.clear
  · rw [ended_flash]
    exact hj.first
  · rw [ended_flash]
    exact hj.roll
  · rw [ended_jrn]
    exact jAppend_logptr (s := clearBegun all (s.at t)) h _

/-! The erase is complete (R353, steps 2 to 4). -/

/-- FIRST and ROLL are empty. -/
def clearEmptied (s : State) : State := { s with flash.first := [], flash.roll := [], log.clear := none, log.firstFullRaised := false }

/-- The snapshots are empty. -/
def snapsEmptied (s : State) : State := { s with flash.snaps := [] }.put Reg.REC_SNVALID 0

/-- The regions empty, the erases counted. -/
def clearErased (c : ClearSt) (s : State) : State :=
  let s := (clearEmptied s).eraseSectors 0x110 160
  if c.all then (snapsEmptied s).eraseSectors 0x1B0 128 else s

/-- The counts of the new epoch. -/
def clearZeroed (c : ClearSt) (s : State) : State :=
  ((((((s.put Reg.REC_EPOCH (c.oldEpoch + 1)).put Reg.REC_LASTSEQ 0).put Reg.REC_FIRSTCNT 0).put Reg.REC_ROLLCNT 0).put Reg.REC_ROLLDROP 0).put
    Reg.REC_STAT_FIRSTFULL 0).put Reg.REC_SNNEXT 0

/-- Event 0x7050, and the end of the clear shown. -/
def clearTold (c : ClearSt) (s : State) : State :=
  ((s.raise 0x7050 3 0x10 c.oldEpoch (c.firstCount % 65536 + 65536 * (c.rollCount % 65536))).put Reg.REC_STAT_CLEARING 0).flag
    Reg.REC_FLAGS_CLEARED

theorem clearDone_eq (s : State) (c : ClearSt) :
    s.clearDone c = ((clearTold c (clearZeroed c (clearErased c s))).jAppend
      (clearTold c (clearZeroed c (clearErased c s))).logptrNow).flushKick := by
  unfold State.clearDone clearErased
  dsimp only
  split <;> rfl

/-- What the erase leaves: all but the counts of erases and of wear, and SNVALID where the snapshots go too. -/
theorem clearErased_reg (c : ClearSt) (s : State) (f : Field) (hf : onRecPages f = false) (hj : f.place ∉ jrnFields.map Field.place)
    (hv : f.place ≠ Reg.REC_SNVALID.place) : (clearErased c s).reg f = s.reg f := by
  have he : ((clearEmptied s).eraseSectors 0x110 160).reg f = s.reg f := ((SameButJournal.refl _).eraseSectors _ _).reg f hf hj
  have hs : ∀ a, ((snapsEmptied a).eraseSectors 0x1B0 128).reg f = a.reg f := fun a =>
    (((SameButJournal.refl (snapsEmptied a)).eraseSectors _ _).reg f hf hj).trans (reg_put_other { a with flash.snaps := [] } _ _ _ hv)
  unfold clearErased
  dsimp only
  split
  · rw [hs, he]
  · exact he

theorem clearErased_flash (c : ClearSt) (s : State) : (clearErased c s).flash.first = [] ∧ (clearErased c s).flash.roll = [] ∧
    (clearErased c s).flash.snaps = if c.all then [] else s.flash.snaps := by
  have he := (SameButJournal.refl (clearEmptied s)).eraseSectors 0x110 160
  have hs := (SameButJournal.refl (snapsEmptied ((clearEmptied s).eraseSectors 0x110 160))).eraseSectors 0x1B0 128
  unfold clearErased
  dsimp only
  split
  · exact ⟨hs.first.trans he.first, hs.roll.trans he.roll, hs.snaps⟩
  · exact ⟨he.first, he.roll, he.snaps⟩

theorem wearRefresh_flash (s : State) : s.wearRefresh.flash = s.flash := by
  have hev : ∀ (a : State) (code sev unit p0 p1 p2 p3 : Nat), (a.recordEvent code sev unit p0 p1 p2 p3).flash = a.flash :=
    fun a code sev unit p0 p1 p2 p3 => by rw [(recordEvent_rec a code sev unit p0 p1 p2 p3).rest]
  unfold State.wearRefresh
  dsimp only
  split
  · rw [hev]
    rfl
  · rfl

theorem eraseSectors_bank (s : State) (k n b : Nat) : (s.eraseSectors k n).bank b = s.bank b := by
  unfold State.bank State.eraseSectors
  rw [wearRefresh_flash]

theorem clearErased_bank (c : ClearSt) (s : State) (b : Nat) : (clearErased c s).bank b = s.bank b := by
  unfold clearErased
  dsimp only
  split
  · rw [eraseSectors_bank]
    exact eraseSectors_bank (clearEmptied s) _ _ _
  · exact eraseSectors_bank (clearEmptied s) _ _ _

theorem clearErased_clear (c : ClearSt) (s : State) : (clearErased c s).log.clear = none ∧ (clearErased c s).core.sup = s.core.sup := by
  have he := (SameButJournal.refl (clearEmptied s)).eraseSectors 0x110 160
  have hs := (SameButJournal.refl (snapsEmptied ((clearEmptied s).eraseSectors 0x110 160))).eraseSectors 0x1B0 128
  unfold clearErased
  dsimp only
  split
  · exact ⟨hs.clear.trans he.clear, hs.sup.trans he.sup⟩
  · exact ⟨he.clear, he.sup⟩

theorem clearErased_snvalid {c : ClearSt} (h : c.all = true) (s : State) : (clearErased c s).reg Reg.REC_SNVALID = 0 := by
  have hs := (SameButJournal.refl (snapsEmptied ((clearEmptied s).eraseSectors 0x110 160))).eraseSectors 0x1B0 128
  unfold clearErased
  dsimp only
  rw [if_pos h, hs.reg _ (by decide) (by decide)]
  exact reg_put_same _ _ _

/-- The registers of the new epoch. -/
def epochFields : List Field :=
  [Reg.REC_EPOCH, Reg.REC_LASTSEQ, Reg.REC_FIRSTCNT, Reg.REC_ROLLCNT, Reg.REC_ROLLDROP, Reg.REC_STAT_FIRSTFULL, Reg.REC_SNNEXT]

theorem clearZeroed_onlyRegs (c : ClearSt) (s : State) : OnlyRegsQuiet epochFields s (clearZeroed c s) := by
  unfold clearZeroed
  exact onlyRegsQuiet_put (onlyRegsQuiet_put (onlyRegsQuiet_put (onlyRegsQuiet_put (onlyRegsQuiet_put (onlyRegsQuiet_put (onlyRegsQuiet_put
    (onlyRegsQuiet_of_regs _ rfl) _ _ (by decide)) _ _ (by decide)) _ _ (by decide)) _ _ (by decide)) _ _ (by decide)) _ _ (by decide)) _ _ (by decide)

theorem clearZeroed_flash (c : ClearSt) (s : State) : (clearZeroed c s).flash = s.flash := by simp only [clearZeroed, put_flash]
theorem clearZeroed_log (c : ClearSt) (s : State) : (clearZeroed c s).log = s.log := by simp only [clearZeroed, put_log]

theorem clearZeroed_reg (c : ClearSt) (s : State) : (clearZeroed c s).reg Reg.REC_EPOCH = (c.oldEpoch + 1) % 2 ^ 32 ∧
    (clearZeroed c s).reg Reg.REC_LASTSEQ = 0 ∧ (clearZeroed c s).reg Reg.REC_FIRSTCNT = 0 ∧ (clearZeroed c s).reg Reg.REC_ROLLCNT = 0 := by
  unfold clearZeroed
  refine ⟨?_, ?_, ?_, ?_⟩ <;> simp (disch := decide) only [reg_put_other, reg_put_same] <;> rfl

section
variable {c : ClearSt} {s : State} (hup : s.supUp = true) (hsn : s.reg Reg.REC_SNSEV = 0 ∨ 3 < s.reg Reg.REC_SNSEV)
include hup hsn

/-- The event of a clear, as the record alone. -/
theorem clearTold_eq : clearTold c (clearZeroed c (clearErased c s)) =
    (((clearZeroed c (clearErased c s)).record 0x7050 3 0x10 c.oldEpoch (c.firstCount % 65536 + 65536 * (c.rollCount % 65536))
      (clearZeroed c (clearErased c s)).angle ((clearZeroed c (clearErased c s)).reg Reg.WHL_CYC)).put Reg.REC_STAT_CLEARING 0).flag
        Reg.REC_FLAGS_CLEARED := by
  have hsup : (clearZeroed c (clearErased c s)).supUp = true :=
    (supUp_of_sup (u := clearZeroed c (clearErased c s)) (clearErased_clear c s).2).trans hup
  have hsev : (clearZeroed c (clearErased c s)).reg Reg.REC_SNSEV = s.reg Reg.REC_SNSEV :=
    (clearZeroed_onlyRegs c _ Reg.REC_SNSEV 0 (by decide)).trans (clearErased_reg c s _ (by decide) (by decide) (by decide))
  unfold clearTold
  rw [raise_of_up hsup (by decide), recordEvent_eq_record (by rw [hsev]; exact hsn)]

/-- What the event leaves of the registers. -/
theorem clearTold_reg (f : Field) (hf : onRecPages f = false) (h1 : f.place ≠ Reg.REC_STAT_CLEARING.place)
    (h2 : f.place ≠ Reg.REC_FLAGS_CLEARED.place) :
    (clearTold c (clearZeroed c (clearErased c s))).reg f = (clearZeroed c (clearErased c s)).reg f := by
  rw [clearTold_eq hup hsn, flag_eq, reg_put_other _ _ _ _ h2, reg_put_other _ _ _ _ h1]
  exact (record_rec _ _ _ _ _ _ _ _).cells f hf 0

theorem clearTold_rest : (clearTold c (clearZeroed c (clearErased c s))).flash = (clearErased c s).flash ∧
    (clearTold c (clearZeroed c (clearErased c s))).log.clear = none ∧
    (clearTold c (clearZeroed c (clearErased c s))).reg Reg.REC_STAT_CLEARING = 0 ∧
    (clearTold c (clearZeroed c (clearErased c s))).reg Reg.REC_FLAGS_CLEARED = 1 := by
  rw [clearTold_eq hup hsn, flag_eq]
  refine ⟨?_, ?_, (reg_put_other _ _ _ _ (by decide)).trans (reg_put_same _ _ _), reg_put_same _ _ _⟩
  · rw [put_flash, put_flash, record_flash, clearZeroed_flash]
  · rw [put_log, put_log, record_clear, clearZeroed_log, (clearErased_clear c s).1]

theorem clearTold_record : (clearTold c (clearZeroed c (clearErased c s))).reg Reg.REC_LASTSEQ = 1 ∧
    ∃ r, (clearTold c (clearZeroed c (clearErased c s))).log.last = some r ∧ r.code = 0x7050 ∧ r.sev = 3 ∧ r.seq = 1 ∧ r.epoch = true ∧
      r.p0 = c.oldEpoch % 2 ^ 32 := by
  obtain ⟨-, hzero, -, -⟩ := clearZeroed_reg c (clearErased c s)
  obtain ⟨hseq, r, hr, hcode, hsev, hrs, hep, hp0⟩ := record_seq (clearZeroed c (clearErased c s)) 0x7050 3 0x10 c.oldEpoch
    (c.firstCount % 65536 + 65536 * (c.rollCount % 65536)) (clearZeroed c (clearErased c s)).angle
    ((clearZeroed c (clearErased c s)).reg Reg.WHL_CYC)
  rw [hzero] at hseq hrs hep
  rw [clearTold_eq hup hsn]
  refine ⟨?_, r, hr, hcode, hsev, hrs, hep, hp0⟩
  rw [flag_eq, reg_put_other _ _ _ _ (by decide), reg_put_other _ _ _ _ (by decide), hseq]
  rfl

variable (hnext : (s.bank (s.reg Reg.JRN_STAT_BANK)).next < 190000)
include hnext

/-- The LOGPTR that follows the event raises nothing. -/
theorem clearTold_logptr_quiet :
    ((clearTold c (clearZeroed c (clearErased c s))).jAppend (clearTold c (clearZeroed c (clearErased c s))).logptrNow).log =
      (clearTold c (clearZeroed c (clearErased c s))).log ∧
    OnlyRegsQuiet [Reg.JRN_USED] (clearTold c (clearZeroed c (clearErased c s)))
      ((clearTold c (clearZeroed c (clearErased c s))).jAppend (clearTold c (clearZeroed c (clearErased c s))).logptrNow) := by
  refine jAppend_logptr_quiet _ ?_
  have hbank : ∀ b, (clearTold c (clearZeroed c (clearErased c s))).bank b = s.bank b := fun b => by
    unfold State.bank
    rw [(clearTold_rest hup hsn).1]
    exact clearErased_bank c s b
  rw [hbank, clearTold_reg hup hsn _ (by decide) (by decide) (by decide), (show (clearZeroed c (clearErased c s)).reg Reg.JRN_STAT_BANK = _ from
    clearZeroed_onlyRegs c _ Reg.JRN_STAT_BANK 0 (by decide)), show (clearErased c s).regAt Reg.JRN_STAT_BANK 0 = _ from
    clearErased_reg c s Reg.JRN_STAT_BANK (by decide) (by decide) (by decide)]
  exact hnext

end

theorem does_clearEraseDone (hs : s.up) {c : ClearSt} (hc : s.log.clear = some c) (hsn : s.reg Reg.REC_SNSEV = 0 ∨ 3 < s.reg Reg.REC_SNSEV)
    (hnext : (s.bank (s.reg Reg.JRN_STAT_BANK)).next < 190000) :
    Does (.clearEraseDone t) s fun u => u.flash.first = [] ∧ u.flash.roll = [] ∧ u.flash.snaps = (if c.all then [] else s.flash.snaps) ∧
      u.log.clear = none ∧ u.reg Reg.REC_STAT_CLEARING = 0 ∧ u.reg Reg.REC_FLAGS_CLEARED = 1 ∧ u.reg Reg.REC_EPOCH = (c.oldEpoch + 1) % 2 ^ 32 ∧
      u.reg Reg.REC_FIRSTCNT = 0 ∧ u.reg Reg.REC_ROLLCNT = 0 ∧ u.reg Reg.REC_LASTSEQ = 1 ∧ (c.all = true → u.reg Reg.REC_SNVALID = 0) ∧
      ∃ r, u.log.last = some r ∧ r.code = 0x7050 ∧ r.sev = 3 ∧ r.seq = 1 ∧ r.epoch = true ∧ r.p0 = c.oldEpoch % 2 ^ 32 := by
  obtain ⟨hp, hup⟩ := hs
  have heffect : clearEnded (s.at t) = (s.at t).clearDone c := by
    unfold clearEnded
    rw [show (s.at t).log.clear = some c from hc]
    exact if_pos hup
  refine does_of_effect hp (exec_clearEraseDone t s) (heffect.trans (clearDone_eq _ _)) ?_
  have hup' : (s.at t).supUp = true := hup
  have hsn' : (s.at t).reg Reg.REC_SNSEV = 0 ∨ 3 < (s.at t).reg Reg.REC_SNSEV := hsn
  obtain ⟨hflash, hclear, hshown, hflag⟩ := clearTold_rest (c := c) hup' hsn'
  obtain ⟨hseq, r, hr, hfacts⟩ := clearTold_record (c := c) hup' hsn'
  obtain ⟨hlog, hregs⟩ := clearTold_logptr_quiet (c := c) hup' hsn' hnext
  obtain ⟨hfirst, hroll, hsnaps⟩ := clearErased_flash c (s.at t)
  obtain ⟨hepoch, -, hfc, hrc⟩ := clearZeroed_reg c (clearErased c (s.at t))
  have htold := fun f => clearTold_reg (c := c) (s := s.at t) hup' hsn' f
  generalize clearTold c (clearZeroed c (clearErased c (s.at t))) = a at *
  have hj := (SameButJournal.refl a).jAppend a.logptrNow
  have hk := SameButJournal.of_recorder (flushKick_rec (a.jAppend a.logptrNow))
  have hreg : ∀ f : Field, f.place ≠ Reg.JRN_USED.place → f.place ≠ Reg.REC_STAT_FLUSHING.place → (a.jAppend a.logptrNow).flushKick.reg f = a.reg f :=
    fun f h1 h2 => by
      refine Eq.trans ?_ (hregs f 0 (by simpa using h1))
      unfold State.flushKick
      split
      · exact reg_put_other _ _ _ _ h2
      · rfl
  rw [ended_flash, ended_log]
  simp only [ended_reg]
  refine ⟨?_, ?_, ?_, ?_, ?_, ?_, ?_, ?_, ?_, ?_, fun hall => ?_, r, ?_, hfacts⟩
  · rw [hk.first, hj.first, hflash, hfirst]
  · rw [hk.roll, hj.roll, hflash, hroll]
  · rw [hk.snaps, hj.snaps, hflash, hsnaps]
    rfl
  · rw [hk.clear, hlog, hclear]
  · rw [hreg _ (by decide) (by decide), hshown]
  · rw [hreg _ (by decide) (by decide), hflag]
  · rw [hreg _ (by decide) (by decide), htold _ (by decide) (by decide) (by decide), hepoch]
  · rw [hreg _ (by decide) (by decide), htold _ (by decide) (by decide) (by decide), hfc]
  · rw [hreg _ (by decide) (by decide), htold _ (by decide) (by decide) (by decide), hrc]
  · rw [hreg _ (by decide) (by decide), hseq]
  · rw [hreg _ (by decide) (by decide), htold _ (by decide) (by decide) (by decide)]
    exact (clearZeroed_onlyRegs c _ Reg.REC_SNVALID 0 (by decide)).trans (clearErased_snvalid hall _)
  · rw [flushKick_last, hlog, hr]

end

/-! The start scan (R351). -/

/-- The counts the scan shows. -/
def scanCounted (s : State) : State :=
  (((({ s with log.scanned := true }.put Reg.REC_FIRSTCNT s.flash.first.length).put Reg.REC_ROLLCNT (rollLive s.flash.roll)).putB
    Reg.REC_STAT_FIRSTFULL (decide (4096 ≤ s.flash.first.length))).put Reg.REC_SNVALID
      ((s.flash.snaps.filter SnapSlot.committed).foldl (fun v (x : SnapSlot) => setBit v x.ix true) 0))

/-- The counts of the LOGPTR in force taken up. -/
def scanTaken (l : LogPtr) (s : State) : State :=
  (({ s with log.firstFullRaised := decide (4096 ≤ s.flash.first.length) }.put Reg.REC_EPOCH l.epoch).put Reg.REC_ROLLDROP l.rollDropped).put
    Reg.REC_SNNEXT l.snNext

/-- The clear that was under way when VDD went. -/
def scanClear (l : LogPtr) (s : State) : ClearSt := ⟨Config.pick 0 % 2 == 1, l.epoch - 1, s.reg Reg.REC_FIRSTCNT, s.reg Reg.REC_ROLLCNT⟩

/-- The LOGPTR in force taken up, with the clear it tells of. -/
def scanResumed (l : LogPtr) (s : State) : State :=
  if l.lastSeq = 0 then { scanTaken l s with log.clear := some (scanClear l (scanTaken l s)) }.put Reg.REC_STAT_CLEARING 1 else scanTaken l s

/-- A new log. -/
def scanBlank (s : State) : State :=
  (s.put Reg.REC_EPOCH 1).raise 0x7051 3 0x10 (if s.flash.first.isEmpty && s.flash.roll.isEmpty then 0 else 1) (s.reg Reg.REC_ROLLCNT)

/-- What the scan makes of the journal's LOGPTR. -/
def scanDecided (s : State) : State :=
  match s.jrn.logptr with
  | none => scanBlank s
  | some l => scanResumed l s

theorem logScan_eq (s : State) : s.logScan = scanDecided (scanCounted s).tornSnaps := rfl

theorem raise_rec (s : State) (code sev unit p0 p1 : Nat) (h : sev < 6) : SameButRecorder s (s.raise code sev unit p0 p1) :=
  raise4_rec _ _ _ _ _ _ _ _ h

/-- R351: the events of torn snapshots touch the recorder alone. -/
theorem tornSnaps_rec (s : State) : SameButRecorder s s.tornSnaps := by
  have hfold : ∀ (l : List SnapSlot) (a : State), SameButRecorder s a →
      SameButRecorder s (l.foldl (fun s x => s.raise 0x7059 2 0x10 x.ix 0) a) := fun l => by
    induction l with
    | nil => exact fun a h => h
    | cons x l ih => exact fun a h => ih _ (h.trans (raise_rec _ _ _ _ _ _ (by decide)))
  exact hfold _ s (SameButRecorder.refl s)

/-- SNVALID shows a bit for each slot of a list. -/
theorem bitOf_foldl_setBit (l : List SnapSlot) (v i : Nat) :
    bitOf (l.foldl (fun v (x : SnapSlot) => setBit v x.ix true) v) i = (bitOf v i || l.any (fun x => x.ix = i)) := by
  induction l generalizing v with
  | nil => simp
  | cons x l ih =>
    have hset : bitOf (setBit v x.ix true) i = (bitOf v i || decide (x.ix = i)) := by
      simp [bitOf, setBit, Nat.shiftLeft_eq, Nat.testBit_two_pow]
    rw [List.foldl_cons, ih, hset, List.any_cons, Bool.or_assoc]

theorem scanCounted_snvalid (s : State) {i : Nat} (hi : i < 32) :
    bitOf ((scanCounted s).reg Reg.REC_SNVALID) i = s.flash.snaps.any (fun x => x.ix = i && x.committed) := by
  rw [scanCounted, reg_put_same, bitOf, Nat.testBit_mod_two_pow, decide_eq_true (show i < Reg.REC_SNVALID.width from hi), Bool.true_and]
  have hfold := bitOf_foldl_setBit (s.flash.snaps.filter SnapSlot.committed) 0 i
  rw [bitOf, bitOf, Nat.zero_testBit, Bool.false_or, List.any_filter] at hfold
  refine hfold.trans (congrArg (fun p => s.flash.snaps.any p) (funext fun x => Bool.and_comm _ _))

theorem scanCounted_firstcnt (s : State) : (scanCounted s).reg Reg.REC_FIRSTCNT = s.flash.first.length % 2 ^ Reg.REC_FIRSTCNT.width := by
  unfold scanCounted State.putB
  rw [reg_put_other _ _ _ _ (by decide), reg_put_other _ _ _ _ (by decide), reg_put_other _ _ _ _ (by decide), reg_put_same]

/-- The registers the LOGPTR's decision writes. -/
def decideFields : List Field := [Reg.REC_EPOCH, Reg.REC_ROLLDROP, Reg.REC_SNNEXT, Reg.REC_STAT_CLEARING]

theorem scanResumed_onlyRegs (l : LogPtr) (s : State) : OnlyRegs decideFields s (scanResumed l s) := by
  have htaken : OnlyRegs decideFields s (scanTaken l s) :=
    onlyRegs_put (onlyRegs_put (onlyRegs_put (onlyRegs_of_regs _ rfl) _ _ (by decide)) _ _ (by decide)) _ _ (by decide)
  unfold scanResumed
  split
  · exact onlyRegs_put (u := { scanTaken l s with log.clear := _ }) htaken _ _ (by decide)
  · exact htaken

theorem scanBlank_onlyRegs (s : State) : OnlyRegs decideFields s (scanBlank s) := by
  have hput : OnlyRegs decideFields s (s.put Reg.REC_EPOCH 1) := onlyRegs_put (onlyRegs_of_regs _ rfl) _ _ (by decide)
  exact onlyRegs_raise hput _ _ _ _ _ (.inl (by decide))

theorem scanResumed_epoch (l : LogPtr) (s : State) : (scanResumed l s).reg Reg.REC_EPOCH = l.epoch % 2 ^ 32 := by
  have htaken : (scanTaken l s).reg Reg.REC_EPOCH = l.epoch % 2 ^ 32 := by
    unfold scanTaken
    rw [reg_put_other _ _ _ _ (by decide), reg_put_other _ _ _ _ (by decide)]
    exact reg_put_same _ _ _
  unfold scanResumed
  split
  · exact (reg_put_other _ Reg.REC_STAT_CLEARING Reg.REC_EPOCH 1 (by decide)).trans htaken
  · exact htaken

theorem scanResumed_rest (l : LogPtr) (s : State) : (scanResumed l s).log.scanned = s.log.scanned ∧ (scanResumed l s).flash = s.flash ∧
    ((scanResumed l s).log.clear.isSome = true ↔ l.lastSeq = 0 ∨ s.log.clear.isSome = true) := by
  unfold scanResumed
  split
  next h => exact ⟨rfl, rfl, fun _ => .inl h, fun _ => rfl⟩
  next h => exact ⟨rfl, rfl, fun hc => .inr hc, fun hc => hc.resolve_left h⟩

section
variable {t : Edges} {s : State} (hs : s.up)
include hs

/-- The scan finds a log, or makes a new one. -/
theorem does_logScanDone (hboot : s.booted = true) (hjrn : s.jrn.scanned = true) (hlog : s.log.scanned = false)
    (hfl : s.reg Reg.JRN_STAT_NOFLASH = 0) : Does (.logScanDone t) s fun u =>
    u.log.scanned = true ∧ u.flash = s.flash ∧ u.reg Reg.REC_FIRSTCNT = s.flash.first.length % 2 ^ Reg.REC_FIRSTCNT.width ∧
    (∀ i < 32, bitOf (u.reg Reg.REC_SNVALID) i = s.flash.snaps.any (fun x => x.ix = i && x.committed)) ∧
    u.reg Reg.REC_EPOCH = (match s.jrn.logptr with | none => 1 | some l => l.epoch % 2 ^ 32) ∧
    (s.jrn.logptr = none → Raised 0x7051 3 (if s.flash.first = [] ∧ s.flash.roll = [] then 0 else 1) (u.reg Reg.REC_ROLLCNT) s u) ∧
    (∀ l, s.jrn.logptr = some l → (u.log.clear.isSome = true ↔ l.lastSeq = 0 ∨ s.log.clear.isSome = true)) := by
  obtain ⟨hp, hup⟩ := hs
  have hdue : ((s.at t).booted && (s.at t).jrn.scanned && !(s.at t).log.scanned && !(s.at t).isSet Reg.JRN_STAT_NOFLASH) = true := by
    rw [show (s.at t).booted = true from hboot, show (s.at t).jrn.scanned = true from hjrn, show (s.at t).log.scanned = false from hlog,
      State.isSet, show (s.at t).reg Reg.JRN_STAT_NOFLASH = 0 from hfl]
    rfl
  refine does_of_effect hp (exec_logScanDone t s) (if_pos hdue) ?_
  rw [logScan_eq]
  have htorn := tornSnaps_rec (scanCounted (s.at t))
  have hsup : (scanCounted (s.at t)).tornSnaps.core.sup = s.core.sup := by rw [htorn.rest]; rfl
  have hflash : (scanCounted (s.at t)).tornSnaps.flash = s.flash := by rw [htorn.rest]; rfl
  have hptr : (scanCounted (s.at t)).tornSnaps.jrn.logptr = s.jrn.logptr := by rw [htorn.rest]; rfl
  have hscanned : (scanCounted (s.at t)).tornSnaps.log.scanned = true := by rw [htorn.rest]; rfl
  have hclear : (scanCounted (s.at t)).tornSnaps.log.clear = s.log.clear := by rw [htorn.rest]; rfl
  have hfirst := (htorn.cells Reg.REC_FIRSTCNT (by decide) 0).trans (scanCounted_firstcnt (s.at t))
  have hvalid : ∀ i < 32, bitOf ((scanCounted (s.at t)).tornSnaps.reg Reg.REC_SNVALID) i = s.flash.snaps.any (fun x => x.ix = i && x.committed) :=
    fun i hi => (congrArg (bitOf · i) (htorn.cells Reg.REC_SNVALID (by decide) 0)).trans (scanCounted_snvalid (s.at t) hi)
  have hsn : (scanCounted (s.at t)).tornSnaps.reg Reg.REC_SNSEV = s.reg Reg.REC_SNSEV := by
    refine (htorn.cells Reg.REC_SNSEV (by decide) 0).trans ?_
    exact (reg_put_other _ _ _ _ (by decide)).trans ((reg_put_other _ _ _ _ (by decide)).trans ((reg_put_other _ _ _ _ (by decide)).trans
      (reg_put_other _ _ _ _ (by decide))))
  generalize (scanCounted (s.at t)).tornSnaps = z at *
  have hfin := flushTrigger_rec (scanDecided z) 0
  have hreg : ∀ f : Field, onRecPages f = false → ((scanDecided z).flushTrigger 0).reg f = (scanDecided z).reg f := fun f hf => hfin.cells f hf 0
  have hflash' : ((scanDecided z).flushTrigger 0).flash = (scanDecided z).flash := by rw [hfin.rest]
  have hscanned' : ((scanDecided z).flushTrigger 0).log.scanned = (scanDecided z).log.scanned := by rw [hfin.rest]; rfl
  have hclear' : ((scanDecided z).flushTrigger 0).log.clear = (scanDecided z).log.clear := by rw [hfin.rest]; rfl
  have hkept : OnlyRegs decideFields z (scanDecided z) := by
    unfold scanDecided
    split
    · exact scanBlank_onlyRegs z
    · exact scanResumed_onlyRegs _ z
  simp only [ended_reg, ended_log, ended_flash, hscanned', hflash', hclear', hreg Reg.REC_FIRSTCNT (by decide), hreg Reg.REC_SNVALID (by decide),
    hreg Reg.REC_EPOCH (by decide), hreg Reg.REC_ROLLCNT (by decide)]
  refine ⟨?_, ?_, (hkept Reg.REC_FIRSTCNT 0 (by decide) (by decide)).trans hfirst,
    fun i hi => (congrArg (bitOf · i) (hkept Reg.REC_SNVALID 0 (by decide) (by decide))).trans (hvalid i hi), ?_, fun hnone => raised_ended ?_,
    fun l hl => ?_⟩
  · unfold scanDecided
    split
    · exact (raise_log_scanned _ _ _ _ _ _ (by decide)).trans hscanned
    · exact (scanResumed_rest _ z).1.trans hscanned
  · unfold scanDecided
    split
    · exact (raise_flash _ _ _ _ _ _ (by decide)).trans hflash
    · exact (scanResumed_rest _ z).2.1.trans hflash
  · rw [← hptr]
    unfold scanDecided
    split
    · rw [scanBlank, raise_reg _ _ _ _ _ _ (by decide) _ (by decide)]
      exact reg_put_same _ _ _
    · exact scanResumed_epoch _ z
  · have hdec : scanDecided z = scanBlank z := by
      unfold scanDecided
      rw [hptr, hnone]
    have hroll : (scanDecided z).reg Reg.REC_ROLLCNT = z.reg Reg.REC_ROLLCNT := hkept Reg.REC_ROLLCNT 0 (by decide) (by decide)
    have hblank : (if z.flash.first.isEmpty && z.flash.roll.isEmpty then 0 else 1) = if s.flash.first = [] ∧ s.flash.roll = [] then 0 else 1 := by
      rw [hflash]
      simp only [Bool.and_eq_true, List.isEmpty_iff]
    rw [hroll]
    rw [hdec] at hfin ⊢
    have hraised : Raised 0x7051 3 (if z.flash.first.isEmpty && z.flash.roll.isEmpty then 0 else 1) (z.reg Reg.REC_ROLLCNT) s (scanBlank z) :=
      raised_now (z := z.put Reg.REC_EPOCH 1) (by decide) hsup ((reg_put_other _ _ _ _ (by decide)).trans hsn)
    rw [hblank] at hraised
    refine raised_of_eq hraised (flushTrigger_last _ _) (by rw [hfin.rest]) ?_
    exact (frame_flushTrigger (P := 0x1000) (G := 0x4000000000) (Frame.refl _ _ _) 0 (by decide) (by decide)).f_held (by decide)
  · have hdec : scanDecided z = scanResumed l z := by
      unfold scanDecided
      rw [hptr, hl]
    rw [hdec, (scanResumed_rest l z).2.2, hclear]

end

/-- A command of the log that finds nothing to do. -/
theorem does_log_idle {c : Instr} {t : Edges} {s : State} {f : State → State} (hp : s.core.powered = true) (hc : exec c s = live t s f)
    (hf : f (s.at t) = s.at t) : Does c s fun u => u.log = s.log ∧ u.flash = s.flash ∧ OnlyRegsQuiet [] s u :=
  does_of_effect hp hc hf ⟨by simp, by simp, onlyRegsQuiet_ended (onlyRegsQuiet_of_regs _ rfl)⟩

/-- Settles O52: the refusals in their order, the clear and its end, and the start scan. -/
theorem logClears : Obligations.LogClears := by
  unfold Obligations.LogClears
  intro t s hs
  have hup : (s.at t).supUp = true := hs.2
  refine ⟨fun all k => ⟨fun hk => ?_, ?_, ?_, ?_⟩, fun hc => ?_, fun c hc hsn _ hnext => does_clearEraseDone hs hc hsn hnext, fun h => ?_,
    does_logScanDone hs⟩
  · exact does_clearRefused hs.1 (exec_clear t s all k) (by decide) (recClear_wrongKey hup all hk)
  · rintro rfl hc
    exact does_clearRefused hs.1 (exec_clear t s all 0xA5) (by decide) (recClear_busy (s := s.at t) hup all hc)
  · rintro rfl hc htok
    refine (does_clearRefused hs.1 (exec_clear t s all 0xA5) (by decide) (recClear_noToken (s := s.at t) hup all hc htok)).imp ?_
    rintro u ⟨hu, hres, hclear, hrest⟩
    exact ⟨hu, hres, hclear.trans hc, hrest⟩
  · rintro rfl hc htok
    exact does_clear_accepted hs all hc htok
  · refine does_log_idle hs.1 (exec_clearEraseDone t s) ?_
    unfold clearEnded
    rw [show (s.at t).log.clear = none from hc]
  · refine does_log_idle hs.1 (exec_logScanDone t s) (if_neg ?_)
    have hno : ∀ a b c d : Bool, (a = false ∨ b = false ∨ c = true ∨ d = true) → ¬(a && b && !c && !d) = true := by decide
    refine hno _ _ _ _ ?_
    have hset : (s.at t).isSet Reg.JRN_STAT_NOFLASH = true ↔ s.reg Reg.JRN_STAT_NOFLASH ≠ 0 := by simp [State.isSet]
    rw [hset]
    exact h

end Sys2Proof.LogClearing

namespace Sys2Proof.UploadSteps

open Sys2Proof Sys2Proof.Machine Sys2Proof.Laws Sys2Proof.LoadSteps Sys2Proof.ImageLoads Sys2Proof.Readings Sys2Proof.JournalFrame
  Sys2Proof.WheelStates

/-! A slot's bytes. -/

/-- Bytes written read back, the others are left. -/
theorem memRead_memWriteBytes (m : Memory) (k : Nat) (d : List Byte) (j : Nat) :
    memRead (memWriteBytes m k d) j = if k ≤ j ∧ j < k + d.length then d.getD (j - k) 0 else memRead m j := by
  induction d generalizing m k with
  | nil => rw [if_neg (by simp only [List.length_nil]; omega)]; rfl
  | cons b d ih =>
    rw [memWriteBytes, ih]
    simp only [List.length_cons]
    by_cases hk : j = k
    · subst hk
      rw [if_neg (by omega), if_pos (by omega), memRead_memWrite_same, Nat.sub_self]
      rfl
    · rw [memRead_memWrite_other hk]
      by_cases hin : k + 1 ≤ j ∧ j < k + 1 + d.length
      · rw [if_pos hin, if_pos (by omega), show j - k = (j - (k + 1)) + 1 by omega]
        rfl
      · rw [if_neg hin, if_neg (by omega)]

theorem slot_setSlot_same (s : State) (b : Bool) (m : Memory) : (s.setSlot b m).flash.slot b = m := by cases b <;> rfl
theorem slot_setSlot_other (s : State) (b : Bool) (m : Memory) : (s.setSlot b m).flash.slot (!b) = s.flash.slot (!b) := by cases b <;> rfl
theorem setSlot_regs (s : State) (b : Bool) (m : Memory) : (s.setSlot b m).regs = s.regs := by cases b <;> rfl
theorem setSlot_img (s : State) (b : Bool) (m : Memory) : (s.setSlot b m).img = s.img := by cases b <;> rfl

/-- The journal leaves the slots' bytes. -/
theorem slot_of_journal {s u : State} (h : SameButJournal s u) (b : Bool) : u.flash.slot b = s.flash.slot b := by
  unfold Flash.slot
  rw [h.slotA, h.slotB]

/-- The journal leaves the boot descriptor. -/
theorem bootDesc_of_journal {s u : State} (h : SameButJournal s u) : u.flash.bootDesc = s.flash.bootDesc := by
  unfold Flash.bootDesc
  rw [h.bd0, h.bd1]

/-! The READY mark of a slot (R306, R332). -/

/-- The descriptor in the copy that does not govern. -/
def bdPlaced (d : BootDesc) (s : State) : State :=
  if s.flash.zeroGoverns then { s with flash.bd1 := some d } else { s with flash.bd0 := some d }

/-- The sector of that copy. -/
def bdSector (s : State) : Nat := if s.flash.zeroGoverns then 1 else 0

theorem bdWrite_eq (s : State) (d : BootDesc) : s.bdWrite d = ((bdPlaced d s).eraseSectors (bdSector s) 1).bdRefresh := by
  unfold State.bdWrite bdPlaced bdSector
  split <;> rfl

theorem bdPlaced_regs (d : BootDesc) (s : State) : (bdPlaced d s).regs = s.regs := by unfold bdPlaced; split <;> rfl
theorem bdPlaced_img (d : BootDesc) (s : State) : (bdPlaced d s).img = s.img := by unfold bdPlaced; split <;> rfl
theorem bdPlaced_sup (d : BootDesc) (s : State) : (bdPlaced d s).core.sup = s.core.sup := by unfold bdPlaced; split <;> rfl

/-- R331, R332: a descriptor of a higher sequence governs. -/
theorem bdPlaced_bootDesc {d : BootDesc} {s : State} (h : ∀ e, s.flash.bootDesc = some e → e.seq < d.seq) :
    (bdPlaced d s).flash.bootDesc = some d := by
  unfold bdPlaced Flash.zeroGoverns
  unfold Flash.bootDesc at h ⊢
  rcases ha : s.flash.bd0 with _ | a <;> rcases hb : s.flash.bd1 with _ | b <;> simp only [ha, hb, Option.some.injEq] at h ⊢
  case none.none => rfl
  case none.some =>
    have := h b rfl
    exact if_neg (by omega)
  case some.none =>
    have := h a rfl
    simp only [if_true]
    exact if_pos this
  case some.some =>
    by_cases hle : b.seq ≤ a.seq
    · have := h a (if_neg (by omega))
      rw [if_pos (decide_eq_true hle)]
      exact if_pos this
    · have := h b (if_pos (by omega))
      rw [if_neg (by simpa using hle)]
      exact if_neg (by omega)

/-- The registers of the descriptor. -/
def bdFields : List Field := [Reg.JRN_BDCOPY_C0, Reg.JRN_BDCOPY_C1, Reg.JRN_BDSEQ] ++ jrnFields

theorem bdRefresh_flash (s : State) : s.bdRefresh.flash = s.flash := rfl
theorem bdRefresh_img (s : State) : s.bdRefresh.img = s.img := rfl
theorem bdRefresh_sup (s : State) : s.bdRefresh.core.sup = s.core.sup := rfl

/-- What the mark changes: the descriptor alone of the slots' state. -/
structure Marked (s u : State) : Prop where
  img : u.img = s.img
  sup : u.core.sup = s.core.sup
  regs : OnlyRegs bdFields s u

theorem bdWrite_marked (s : State) (d : BootDesc) : Marked s (s.bdWrite d) := by
  have hj := (SameButJournal.refl (bdPlaced d s)).eraseSectors (bdSector s) 1
  rw [bdWrite_eq]
  refine ⟨(bdRefresh_img _).trans (hj.img.trans (bdPlaced_img d s)), (bdRefresh_sup _).trans (hj.sup.trans (bdPlaced_sup d s)), ?_⟩
  have hregs : OnlyRegs bdFields s ((bdPlaced d s).eraseSectors (bdSector s) 1) := fun f i hf hrec =>
    (hj.onlyRegs f i (fun e => hf (List.map_append ▸ List.mem_append_right _ e)) hrec).trans
      (onlyRegs_of_regs bdFields (bdPlaced_regs d s) f i hf hrec)
  exact onlyRegs_put (onlyRegs_put (onlyRegs_put hregs _ _ (by decide)) _ _ (by decide)) _ _ (by decide)

theorem bdWrite_bootDesc {d : BootDesc} {s : State} (h : ∀ e, s.flash.bootDesc = some e → e.seq < d.seq) :
    (s.bdWrite d).flash.bootDesc = some d := by
  rw [bdWrite_eq, bdRefresh_flash, bootDesc_of_journal ((SameButJournal.refl (bdPlaced d s)).eraseSectors _ _), bdPlaced_bootDesc h]

/-- The descriptor a mark writes. -/
def markDesc (s : State) (b ready : Bool) (ver : Option Nat) : BootDesc :=
  let d := (s.flash.bootDesc).getD ⟨0, false, false, 0, 0⟩
  if b then { d with seq := d.seq + 1, readyB := ready, verB := ver.getD d.verB } else { d with seq := d.seq + 1, readyA := ready, verA := ver.getD d.verA }

theorem markReady_eq (s : State) (b ready : Bool) (ver : Option Nat) : s.markReady b ready ver = s.bdWrite (markDesc s b ready ver) := by
  cases b <;> rfl

theorem markReady_bootDesc (s : State) (b ready : Bool) (ver : Option Nat) :
    (s.markReady b ready ver).flash.bootDesc = some (markDesc s b ready ver) := by
  rw [markReady_eq]
  refine bdWrite_bootDesc fun e he => ?_
  have hseq : (markDesc s b ready ver).seq = e.seq + 1 := by
    unfold markDesc
    rw [he]
    cases b <;> rfl
  omega

theorem markReady_marked (s : State) (b ready : Bool) (ver : Option Nat) : Marked s (s.markReady b ready ver) := by
  rw [markReady_eq]
  exact bdWrite_marked _ _

/-- The slot marked reads as marked. -/
theorem markReady_same (s : State) (b ready : Bool) (ver : Option Nat) : (s.markReady b ready ver).flash.ready b = ready := by
  unfold Flash.ready
  rw [markReady_bootDesc]
  cases b <;> rfl

/-- The other slot keeps its mark. -/
theorem markReady_other (s : State) (b ready : Bool) (ver : Option Nat) :
    (s.markReady b ready ver).flash.ready (!b) = s.flash.ready (!b) := by
  unfold Flash.ready
  rw [markReady_bootDesc]
  unfold markDesc
  cases s.flash.bootDesc <;> cases b <;> rfl

/-! The commands (R306, R307). -/

/-- The slot's erase is complete. -/
def eraseEnded (s : State) : State :=
  if s.reg Reg.IMG_UPST = 1 ∧ s.supUp ∧ s.jrn.powerFail = false then
    (((s.setSlot s.img.upSlot []).eraseSectors (if s.img.upSlot then 0x50 else 0x10) 64).put Reg.IMG_UPST 2).jDrain
  else s

/-- A chunk programmed: its bytes in the slot, and the address of the next. -/
def chunkTaken (a : Nat) (d : List Byte) (s : State) : State :=
  let s := { s with img.chunkNow := none }
  let s := s.setSlot s.img.upSlot (memWriteBytes (s.flash.slot s.img.upSlot) a d)
  { s with img.chunks := a :: s.img.chunks }.put Reg.IMG_UPADDR (a + 128)

/-- A program error. -/
def chunkFailed (s : State) : State := (({ s with img.chunkNow := none }.bump Reg.JRN_FLERR).flag Reg.JRN_FLAGS_FLASHERR).uploadFailed 6

/-- The program of the chunk under way has ended. -/
def chunkEnded (ok : Bool) (s : State) : State :=
  match s.img.chunkNow with
  | none => s
  | some (a, d) => if ok then chunkTaken a d s else chunkFailed s

section
variable (t : Edges) (s : State)

theorem exec_uploadOpen (k : Byte) : exec (.uploadOpen t k) s = live t s fun s => s.upCommand k State.uploadOpen := rfl
theorem exec_uploadClose (k : Byte) : exec (.uploadClose t k) s = live t s fun s => s.upCommand k State.uploadClose := rfl
theorem exec_uploadAbort (k : Byte) : exec (.uploadAbort t k) s = live t s fun s => s.upCommand k State.uploadAbort := rfl
theorem exec_uploadEraseDone : exec (.uploadEraseDone t) s = live t s eraseEnded := rfl
theorem exec_uploadChunk (d : List Byte) : exec (.uploadChunk t d) s = live t s fun s => s.uploadChunk d := rfl
theorem exec_chunkProgrammed (ok : Bool) : exec (.chunkProgrammed t ok) s = live t s (chunkEnded ok) := rfl

end

theorem upCommand_wrong {s : State} (hup : s.supUp = true) {k : Byte} (h : k ≠ 0xA5) (f : State → State) :
    s.upCommand k f = s.put Reg.IMG_UPRES 3 := by
  unfold State.upCommand
  rw [hup, if_neg (by decide), if_neg h]

theorem upCommand_right {s : State} (hup : s.supUp = true) (f : State → State) : s.upCommand 0xA5 f = f s := by
  unfold State.upCommand
  rw [hup, if_neg (by decide), if_pos rfl]

/-- What a failed upload shows. -/
def failShown (res : Nat) (s : State) : State :=
  (((s.put Reg.IMG_UPST 5).put Reg.IMG_UPRES res).put Reg.IMG_STAT_UPOPEN 0).flag Reg.IMG_FLAGS_UPLOAD

/-- The registers of a failed upload. -/
def failFields : List Field := [Reg.IMG_UPST, Reg.IMG_UPRES, Reg.IMG_STAT_UPOPEN, Reg.IMG_FLAGS_UPLOAD]

theorem failShown_onlyRegs (res : Nat) (s : State) : OnlyRegsQuiet failFields s (failShown res s) := by
  unfold failShown
  exact onlyRegsQuiet_put (onlyRegsQuiet_put (onlyRegsQuiet_put (onlyRegsQuiet_put (onlyRegsQuiet_of_regs _ rfl) _ _ (by decide)) _ _ (by decide))
    _ _ (by decide)) _ _ (by decide)

theorem uploadFailed_eq (s : State) (res : Nat) :
    s.uploadFailed res = (failShown res s).raise 0x7031 3 0x0E (slotNo s.img.upSlot) (res + 256 * s.reg Reg.IMG_OTHRES) := by
  have hoth : (failShown res s).reg Reg.IMG_OTHRES = s.reg Reg.IMG_OTHRES := failShown_onlyRegs res s Reg.IMG_OTHRES 0 (by decide)
  rw [← hoth]
  rfl

theorem uploadFailed_reg (s : State) {res : Nat} (hres : res < 8) : (s.uploadFailed res).reg Reg.IMG_UPST = 5 ∧
    (s.uploadFailed res).reg Reg.IMG_UPRES = res ∧ (s.uploadFailed res).reg Reg.IMG_STAT_UPOPEN = 0 ∧
    (s.uploadFailed res).reg Reg.IMG_FLAGS_UPLOAD = 1 := by
  have hreg : ∀ f : Field, onRecPages f = false → (s.uploadFailed res).reg f = (failShown res s).reg f := fun f hf => by
    rw [uploadFailed_eq, raise_reg _ _ _ _ _ _ (by decide) _ hf]
  rw [hreg _ (by decide), hreg _ (by decide), hreg _ (by decide), hreg _ (by decide), failShown, flag_eq]
  refine ⟨?_, ?_, ?_, reg_put_same _ _ _⟩
  · rw [reg_put_other _ _ _ _ (by decide), reg_put_other _ _ _ _ (by decide), reg_put_other _ _ _ _ (by decide)]
    exact reg_put_same _ _ _
  · rw [reg_put_other _ _ _ _ (by decide), reg_put_other _ _ _ _ (by decide), reg_put_same]
    exact Nat.mod_eq_of_lt (Nat.lt_of_lt_of_le hres (by decide))
  · rw [reg_put_other _ _ _ _ (by decide)]
    exact reg_put_same _ _ _

theorem uploadFailed_other (s : State) (res : Nat) (f : Field) (hf : onRecPages f = false) (hff : f.place ∉ failFields.map Field.place) :
    (s.uploadFailed res).reg f = s.reg f := by
  rw [uploadFailed_eq, raise_reg _ _ _ _ _ _ (by decide) _ hf]
  exact failShown_onlyRegs res s f 0 hff

theorem uploadFailed_flash (s : State) (res : Nat) : (s.uploadFailed res).flash = s.flash := by
  rw [uploadFailed_eq, raise_flash _ _ _ _ _ _ (by decide)]
  rfl

theorem raised_uploadFailed {s z : State} (res : Nat) (hsup : z.core.sup = s.core.sup) (hsn : z.reg Reg.REC_SNSEV = s.reg Reg.REC_SNSEV) :
    Raised 0x7031 3 (slotNo z.img.upSlot) (res + 256 * z.reg Reg.IMG_OTHRES) s (z.uploadFailed res) := by
  rw [uploadFailed_eq]
  exact raised_now (z := failShown res z) (by decide) hsup ((failShown_onlyRegs res z Reg.REC_SNSEV 0 (by decide)).trans hsn)

section
variable {t : Edges} {s : State} (hs : s.up)
include hs

/-- A command whose one effect is its answer. -/
theorem does_upAnswer {c : Instr} {f : State → State} {v : Nat} (hc : exec c s = live t s f) (hv : v < 8)
    (hf : f (s.at t) = (s.at t).put Reg.IMG_UPRES v) : Does c s fun u =>
      u.reg Reg.IMG_UPRES = v ∧ u.img = s.img ∧ u.flash = s.flash ∧ OnlyRegsQuiet [Reg.IMG_UPRES] s u := by
  refine does_of_effect hs.1 hc hf ⟨?_, by simp, by simp, onlyRegsQuiet_ended (onlyRegsQuiet_put (onlyRegsQuiet_of_regs _ rfl) _ _ (by decide))⟩
  rw [ended_reg, reg_put_same]
  exact Nat.mod_eq_of_lt (Nat.lt_of_lt_of_le hv (by decide))

/-- A command that finds nothing to do. -/
theorem does_up_idle {c : Instr} {f : State → State} (hc : exec c s = live t s f) (hf : f (s.at t) = s.at t) :
    Does c s fun u => u.img = s.img ∧ u.flash = s.flash ∧ OnlyRegsQuiet [] s u :=
  does_of_effect hs.1 hc hf ⟨by simp, by simp, onlyRegsQuiet_ended (onlyRegsQuiet_of_regs _ rfl)⟩

/-- An answer, without the image's part. -/
theorem does_upRefused {c : Instr} {f : State → State} {v : Nat} (hc : exec c s = live t s f) (hv : v < 8)
    (hf : f (s.at t) = (s.at t).put Reg.IMG_UPRES v) : Does c s fun u =>
      u.reg Reg.IMG_UPRES = v ∧ u.flash = s.flash ∧ OnlyRegsQuiet [Reg.IMG_UPRES] s u :=
  (does_upAnswer hs hc hv hf).imp fun _ ⟨hu, hres, _, hrest⟩ => ⟨hu, hres, hrest⟩

theorem does_uploadOpen_refused (h : s.reg Reg.IMG_UPST = 1 ∨ s.reg Reg.IMG_UPST = 2 ∨ s.reg Reg.IMG_STAT_PROB = 1) :
    Does (.uploadOpen t 0xA5) s fun u => u.reg Reg.IMG_UPRES = 2 ∧ u.flash = s.flash ∧ OnlyRegsQuiet [Reg.IMG_UPRES] s u := by
  have hrow : (1 ≤ (s.at t).reg Reg.IMG_UPST ∧ (s.at t).reg Reg.IMG_UPST ≤ 3) ∨ (s.at t).isSet Reg.IMG_STAT_LOADING = true ∨
      (s.at t).reg Reg.IMG_STAT_PROB = 1 ∨ (s.at t).isSet Reg.JRN_STAT_NOFLASH = true := by
    rcases h with h | h | h
    · exact .inl (by rw [at_reg, h]; decide)
    · exact .inl (by rw [at_reg, h]; decide)
    · exact .inr (.inr (.inl h))
  exact does_upRefused hs (exec_uploadOpen t s 0xA5) (by decide) ((upCommand_right (s := s.at t) hs.2 _).trans (if_pos hrow))

/-- The upload opens on the slot not in force. -/
def openBegun (s : State) : State :=
  ((({ s with img.upSlot := s.otherSlot, img.chunks := [], img.chunkNow := none }.markReady s.otherSlot false none).put Reg.IMG_UPST 1).put
    Reg.IMG_UPRES 1).put Reg.IMG_STAT_UPOPEN 1

theorem does_uploadOpen (hst : s.reg Reg.IMG_UPST = 0) (hload : s.reg Reg.IMG_STAT_LOADING = 0) (hprob : s.reg Reg.IMG_STAT_PROB = 2)
    (hfl : s.reg Reg.JRN_STAT_NOFLASH = 0) :
    Does (.uploadOpen t 0xA5) s fun u => u.reg Reg.IMG_UPST = 1 ∧ u.reg Reg.IMG_UPRES = 1 ∧ u.reg Reg.IMG_STAT_UPOPEN = 1 ∧
      u.img.upSlot = (s.reg Reg.IMG_STAT_SLOT == 0) ∧ u.flash.ready (s.reg Reg.IMG_STAT_SLOT == 0) = false ∧
      u.flash.ready (s.reg Reg.IMG_STAT_SLOT != 0) = s.flash.ready (s.reg Reg.IMG_STAT_SLOT != 0) := by
  have hrow : ¬((1 ≤ (s.at t).reg Reg.IMG_UPST ∧ (s.at t).reg Reg.IMG_UPST ≤ 3) ∨ (s.at t).isSet Reg.IMG_STAT_LOADING = true ∨
      (s.at t).reg Reg.IMG_STAT_PROB = 1 ∨ (s.at t).isSet Reg.JRN_STAT_NOFLASH = true) := by
    simp only [State.isSet, at_reg, hst, hload, hprob, hfl]
    decide
  have heffect : (s.at t).upCommand 0xA5 State.uploadOpen = openBegun (s.at t) := (upCommand_right (s := s.at t) hs.2 _).trans (if_neg hrow)
  refine does_of_effect hs.1 (exec_uploadOpen t s 0xA5) heffect ⟨?_, ?_, ?_, ?_, ?_, ?_⟩
  · rw [ended_reg, openBegun, reg_put_other _ _ _ _ (by decide), reg_put_other _ _ _ _ (by decide)]
    exact reg_put_same _ _ _
  · rw [ended_reg, openBegun, reg_put_other _ _ _ _ (by decide)]
    exact reg_put_same _ _ _
  · rw [ended_reg]
    exact reg_put_same _ _ _
  · rw [ended_img, openBegun, put_img, put_img, put_img, (markReady_marked _ _ _ _).img]
    rfl
  · rw [ended_flash, openBegun, put_flash, put_flash, put_flash]
    exact markReady_same _ _ _ _
  · rw [ended_flash, openBegun, put_flash, put_flash, put_flash]
    exact markReady_other { s.at t with img.upSlot := (s.at t).otherSlot, img.chunks := [], img.chunkNow := none } (s.reg Reg.IMG_STAT_SLOT == 0)
      false none

theorem does_uploadEraseDone (hst : s.reg Reg.IMG_UPST = 1) (hpf : s.jrn.powerFail = false) : Does (.uploadEraseDone t) s fun u =>
    u.reg Reg.IMG_UPST = 2 ∧ (∀ a, memRead (u.flash.slot s.img.upSlot) a = 0xFF) ∧
      u.flash.slot (!s.img.upSlot) = s.flash.slot (!s.img.upSlot) := by
  let z : State := (s.at t).setSlot s.img.upSlot []
  let e : State := (z.eraseSectors (if s.img.upSlot then 0x50 else 0x10) 64).put Reg.IMG_UPST 2
  have heffect : eraseEnded (s.at t) = e.jDrain := if_pos ⟨hst, hs.2, hpf⟩
  have herase := (SameButJournal.refl z).eraseSectors (if s.img.upSlot then 0x50 else 0x10) 64
  have hdrain := (SameButJournal.refl e).jDrain
  have hslot : ∀ b, e.jDrain.flash.slot b = z.flash.slot b := fun b =>
    (slot_of_journal hdrain b).trans (slot_of_journal herase b)
  refine does_of_effect hs.1 (exec_uploadEraseDone t s) heffect ⟨?_, fun a => ?_, ?_⟩
  · rw [ended_reg]
    exact (hdrain.reg Reg.IMG_UPST (by decide) (by decide)).trans (reg_put_same _ _ _)
  · rw [ended_flash, hslot, slot_setSlot_same]
    rfl
  · rw [ended_flash, hslot, slot_setSlot_other]
    rfl

theorem does_uploadChunk_off {d : List Byte} (hd : d.length = 128) (hst : s.reg Reg.IMG_UPST = 2) (hnow : s.img.chunkNow = none)
    (h : s.reg Reg.IMG_UPADDR % 128 ≠ 0 ∨ 262016 < s.reg Reg.IMG_UPADDR ∨ s.reg Reg.IMG_UPADDR ∈ s.img.chunks) :
    Does (.uploadChunk t d) s fun u => u.reg Reg.IMG_UPRES = 4 ∧ u.img = s.img ∧ OnlyRegsQuiet [Reg.IMG_UPRES] s u := by
  have hopen : ¬((s.at t).reg Reg.IMG_UPST ≠ 2 ∨ (s.at t).img.chunkNow.isSome = true ∨ d.length ≠ 128 ∨ (s.at t).supUp = false) := by
    rw [at_reg, hst, at_img, hnow, hd, show (s.at t).supUp = true from hs.2]
    decide
  have heffect : (s.at t).uploadChunk d = (s.at t).put Reg.IMG_UPRES 4 := by
    unfold State.uploadChunk
    rw [if_neg hopen, if_pos]
    rw [at_reg, at_img, List.contains_iff_mem]
    exact h
  exact (does_upAnswer hs (exec_uploadChunk t s d) (by decide) heffect).imp fun _ ⟨hu, hres, himg, _, hregs⟩ => ⟨hu, hres, himg, hregs⟩

theorem does_uploadChunk {d : List Byte} (hd : d.length = 128) (hst : s.reg Reg.IMG_UPST = 2) (hnow : s.img.chunkNow = none)
    (hal : s.reg Reg.IMG_UPADDR % 128 = 0) (hle : s.reg Reg.IMG_UPADDR ≤ 262016) (hnew : s.reg Reg.IMG_UPADDR ∉ s.img.chunks) :
    Does (.uploadChunk t d) s fun u => u.img.chunkNow = some (s.reg Reg.IMG_UPADDR, d) ∧ u.flash = s.flash ∧ OnlyRegsQuiet [] s u := by
  have hopen : ¬((s.at t).reg Reg.IMG_UPST ≠ 2 ∨ (s.at t).img.chunkNow.isSome = true ∨ d.length ≠ 128 ∨ (s.at t).supUp = false) := by
    rw [at_reg, hst, at_img, hnow, hd, show (s.at t).supUp = true from hs.2]
    decide
  have heffect : (s.at t).uploadChunk d = { s.at t with img.chunkNow := some (s.reg Reg.IMG_UPADDR, d) } := by
    unfold State.uploadChunk
    rw [if_neg hopen, if_neg]
    · rfl
    · rw [at_reg, at_img, List.contains_iff_mem]
      rintro (h | h | h)
      · exact h hal
      · omega
      · exact hnew h
  exact does_of_effect hs.1 (exec_uploadChunk t s d) heffect ⟨by rw [ended_img], by rw [ended_flash]; rfl,
    onlyRegsQuiet_ended (onlyRegsQuiet_of_regs _ rfl)⟩

theorem does_uploadChunk_closed (d : List Byte) (hst : s.reg Reg.IMG_UPST ≠ 2) :
    Does (.uploadChunk t d) s fun u => u.img = s.img ∧ OnlyRegsQuiet [] s u :=
  (does_up_idle hs (exec_uploadChunk t s d) (if_pos (.inl hst))).imp fun _ ⟨hu, himg, _, hregs⟩ => ⟨hu, himg, hregs⟩

section
variable {a : Nat} {d : List Byte} (hnow : s.img.chunkNow = some (a, d))
include hnow

theorem does_chunkProgrammed (hle : a ≤ 262016) : Does (.chunkProgrammed t true) s fun u =>
    u.reg Reg.IMG_UPADDR = a + 128 ∧ u.img.chunkNow = none ∧ u.img.chunks = a :: s.img.chunks ∧
      (∀ i, memRead (u.flash.slot s.img.upSlot) i =
        if a ≤ i ∧ i < a + d.length then d.getD (i - a) 0 else memRead (s.flash.slot s.img.upSlot) i) ∧
      u.flash.slot (!s.img.upSlot) = s.flash.slot (!s.img.upSlot) ∧ OnlyRegsQuiet [Reg.IMG_UPADDR] s u := by
  have heffect : chunkEnded true (s.at t) = chunkTaken a d (s.at t) := by
    unfold chunkEnded
    rw [at_img, hnow]
    rfl
  let m := memWriteBytes (s.flash.slot s.img.upSlot) a d
  let z : State := State.setSlot { s.at t with img.chunkNow := none } s.img.upSlot m
  have himg : z.img = { s.img with chunkNow := none } := setSlot_img _ _ _
  have htaken : chunkTaken a d (s.at t) = { z with img.chunks := a :: z.img.chunks }.put Reg.IMG_UPADDR (a + 128) := rfl
  refine does_of_effect hs.1 (exec_chunkProgrammed t s true) (heffect.trans htaken) ⟨?_, ?_, ?_, fun i => ?_, ?_, onlyRegsQuiet_ended ?_⟩
  · rw [ended_reg, reg_put_same]
    exact Nat.mod_eq_of_lt (Nat.lt_of_le_of_lt (Nat.add_le_add_right hle 128) (by decide))
  · rw [ended_img, put_img]
    exact congrArg ImgSt.chunkNow himg
  · rw [ended_img, put_img]
    show a :: z.img.chunks = _
    rw [himg]
  · rw [ended_flash, put_flash]
    exact (congrArg (memRead · i) (slot_setSlot_same _ _ _)).trans (memRead_memWriteBytes _ _ _ _)
  · rw [ended_flash, put_flash]
    exact slot_setSlot_other _ _ _
  · exact onlyRegsQuiet_put (onlyRegsQuiet_of_regs (s := s) (u := { z with img.chunks := a :: z.img.chunks }) _ (setSlot_regs _ _ _)) _ _ (by decide)

theorem does_chunkProgrammed_failed : Does (.chunkProgrammed t false) s fun u =>
    u.reg Reg.IMG_UPST = 5 ∧ u.reg Reg.IMG_UPRES = 6 ∧ u.reg Reg.IMG_STAT_UPOPEN = 0 ∧ u.reg Reg.IMG_FLAGS_UPLOAD = 1 ∧ u.flash = s.flash ∧
      Raised 0x7031 3 (slotNo s.img.upSlot) (6 + 256 * s.reg Reg.IMG_OTHRES) s u := by
  let y : State := { s.at t with img.chunkNow := none }
  let z : State := (y.bump Reg.JRN_FLERR).flag Reg.JRN_FLAGS_FLASHERR
  have heffect : chunkEnded false (s.at t) = z.uploadFailed 6 := by
    unfold chunkEnded
    rw [at_img, hnow]
    rfl
  have hz : ∀ f : Field, f.place ≠ Reg.JRN_FLERR.place → f.place ≠ Reg.JRN_FLAGS_FLASHERR.place → z.reg f = s.reg f := fun f h1 h2 =>
    (reg_put_other (y.bump Reg.JRN_FLERR) _ _ _ h2).trans (reg_put_other y _ _ _ h1)
  obtain ⟨hst, hres, hop, hfl⟩ := uploadFailed_reg z (res := 6) (by decide)
  refine does_of_effect hs.1 (exec_chunkProgrammed t s false) heffect
    ⟨by rw [ended_reg, hst], by rw [ended_reg, hres], by rw [ended_reg, hop], by rw [ended_reg, hfl], ?_, raised_ended ?_⟩
  · rw [ended_flash, uploadFailed_flash]
    rfl
  · rw [← hz Reg.IMG_OTHRES (by decide) (by decide)]
    exact raised_uploadFailed (s := s) (z := z) 6 rfl (hz Reg.REC_SNSEV (by decide) (by decide))

end

theorem does_chunkProgrammed_idle (hnow : s.img.chunkNow = none) (ok : Bool) :
    Does (.chunkProgrammed t ok) s fun u => u.flash = s.flash ∧ OnlyRegsQuiet [] s u := by
  have heffect : chunkEnded ok (s.at t) = s.at t := by
    unfold chunkEnded
    rw [at_img, hnow]
  exact (does_up_idle hs (exec_chunkProgrammed t s ok) heffect).imp fun _ ⟨hu, _, hrest⟩ => ⟨hu, hrest⟩

/-- A CLOSE of a slot that passes: its mark and what is shown, before the event. -/
def closePassed (d : ImgData) (s : State) : State :=
  (((((((s.markReady s.img.upSlot true (some d.ver)).put Reg.IMG_UPST 4).put Reg.IMG_UPRES 1).put Reg.IMG_STAT_UPOPEN 0).put Reg.IMG_OTHVER
    d.ver).put Reg.IMG_OTHRES 0).flag Reg.IMG_FLAGS_UPLOAD)

section
variable (hst : s.reg Reg.IMG_UPST = 2) (hnow : s.img.chunkNow = none)
include hst hnow

omit hs in
theorem uploadClose_checked : ¬((s.at t).reg Reg.IMG_UPST ≠ 2 ∨ (s.at t).img.chunkNow.isSome = true) := by
  rw [at_reg, at_img, hst, hnow]
  decide

theorem does_uploadClose_bad {r p : Nat} (hbad : s.checkSlot s.img.upSlot false = .bad r p) : Does (.uploadClose t 0xA5) s fun u =>
    u.reg Reg.IMG_UPST = 5 ∧ u.reg Reg.IMG_UPRES = 5 ∧ u.reg Reg.IMG_OTHRES = r % 16 ∧ u.flash = s.flash ∧ u.reg Reg.IMG_FLAGS_INVALID = 1 ∧
      Raised 0x7031 3 (slotNo s.img.upSlot) (5 + 256 * (r % 16)) s u := by
  let z : State := ((s.at t).put Reg.IMG_OTHRES r).flag Reg.IMG_FLAGS_INVALID
  have heffect : (s.at t).uploadClose = z.uploadFailed 5 := by
    unfold State.uploadClose
    rw [if_neg (uploadClose_checked hst hnow)]
    dsimp only
    rw [show (s.at t).checkSlot (s.at t).img.upSlot false = .bad r p from hbad]
  have hoth : z.reg Reg.IMG_OTHRES = r % 16 := (reg_put_other _ _ _ _ (by decide)).trans (reg_put_same _ _ _)
  obtain ⟨hst', hres, -, -⟩ := uploadFailed_reg z (res := 5) (by decide)
  refine does_of_effect hs.1 (exec_uploadClose t s 0xA5) ((upCommand_right (s := s.at t) hs.2 _).trans heffect)
    ⟨by rw [ended_reg, hst'], by rw [ended_reg, hres], ?_, ?_, ?_, raised_ended ?_⟩
  · rw [ended_reg, uploadFailed_other _ _ _ (by decide) (by decide), hoth]
  · rw [ended_flash, uploadFailed_flash]
    rfl
  · rw [ended_reg, uploadFailed_other _ _ _ (by decide) (by decide)]
    exact reg_put_same _ _ _
  · rw [← hoth]
    exact raised_uploadFailed (s := s) (z := z) 5 rfl ((reg_put_other _ _ _ _ (by decide)).trans (reg_put_other _ _ _ _ (by decide)))

theorem does_uploadClose_ok {d : ImgData} (hok : s.checkSlot s.img.upSlot false = .ok d) : Does (.uploadClose t 0xA5) s fun u =>
    u.reg Reg.IMG_UPST = 4 ∧ u.reg Reg.IMG_UPRES = 1 ∧ u.reg Reg.IMG_OTHRES = 0 ∧ u.flash.ready s.img.upSlot = true ∧
      u.flash.ready (!s.img.upSlot) = s.flash.ready (!s.img.upSlot) ∧ Raised 0x7030 1 (slotNo s.img.upSlot) d.ver s u := by
  have heffect : (s.at t).uploadClose = (closePassed d (s.at t)).raise 0x7030 1 0x0E (slotNo s.img.upSlot) d.ver := by
    unfold State.uploadClose
    rw [if_neg (uploadClose_checked hst hnow)]
    dsimp only
    rw [show (s.at t).checkSlot (s.at t).img.upSlot false = .ok d from hok]
    rfl
  have hmark := markReady_marked (s.at t) s.img.upSlot true (some d.ver)
  have hflash : (closePassed d (s.at t)).flash = ((s.at t).markReady s.img.upSlot true (some d.ver)).flash := by
    simp only [closePassed, flag_eq, put_flash, at_img]
  refine does_of_effect hs.1 (exec_uploadClose t s 0xA5) ((upCommand_right (s := s.at t) hs.2 _).trans heffect) ⟨?_, ?_, ?_, ?_, ?_, raised_ended ?_⟩
  · rw [ended_reg, raise_reg _ _ _ _ _ _ (by decide) _ (by decide), closePassed, flag_eq]
    simp (disch := decide) only [reg_put_other, reg_put_same]
    rfl
  · rw [ended_reg, raise_reg _ _ _ _ _ _ (by decide) _ (by decide), closePassed, flag_eq]
    simp (disch := decide) only [reg_put_other, reg_put_same]
    rfl
  · rw [ended_reg, raise_reg _ _ _ _ _ _ (by decide) _ (by decide), closePassed, flag_eq]
    simp (disch := decide) only [reg_put_other, reg_put_same]
    rfl
  · rw [ended_flash, raise_flash _ _ _ _ _ _ (by decide), hflash, markReady_same]
  · rw [ended_flash, raise_flash _ _ _ _ _ _ (by decide), hflash]
    exact markReady_other (s.at t) _ _ _
  · refine raised_now (z := closePassed d (s.at t)) (by decide) ?_ ?_
    · simp only [closePassed, flag_eq, put_core, at_img]
      exact hmark.sup
    · rw [closePassed, flag_eq]
      simp (disch := decide) only [reg_put_other]
      exact hmark.regs Reg.REC_SNSEV 0 (by decide) (by decide)

end

/-- The upload ended by ABORT, before the journal's records that waited. -/
def abortShown (s : State) : State :=
  ((({ s with img.chunkNow := none }.put Reg.IMG_UPST 0).put Reg.IMG_UPRES 1).put Reg.IMG_STAT_UPOPEN 0).flag Reg.IMG_FLAGS_UPLOAD

theorem does_uploadAbort (h1 : 1 ≤ s.reg Reg.IMG_UPST) (h3 : s.reg Reg.IMG_UPST ≤ 3) : Does (.uploadAbort t 0xA5) s fun u =>
    u.reg Reg.IMG_UPST = 0 ∧ u.reg Reg.IMG_UPRES = 1 ∧ u.reg Reg.IMG_STAT_UPOPEN = 0 ∧ u.img.chunkNow = none ∧
      u.flash.bootDesc = s.flash.bootDesc := by
  have heffect : (s.at t).uploadAbort = (abortShown (s.at t)).jDrain := if_pos ⟨h1, h3⟩
  have hj := (SameButJournal.refl (abortShown (s.at t))).jDrain
  refine does_of_effect hs.1 (exec_uploadAbort t s 0xA5) ((upCommand_right (s := s.at t) hs.2 _).trans heffect) ⟨?_, ?_, ?_, ?_, ?_⟩
  · rw [ended_reg, hj.reg Reg.IMG_UPST (by decide) (by decide), abortShown, flag_eq]
    simp (disch := decide) only [reg_put_other, reg_put_same]
    rfl
  · rw [ended_reg, hj.reg Reg.IMG_UPRES (by decide) (by decide), abortShown, flag_eq]
    simp (disch := decide) only [reg_put_other, reg_put_same]
    rfl
  · rw [ended_reg, hj.reg Reg.IMG_STAT_UPOPEN (by decide) (by decide), abortShown, flag_eq]
    simp (disch := decide) only [reg_put_other, reg_put_same]
    rfl
  · rw [ended_img, hj.img]
    rfl
  · rw [ended_flash, bootDesc_of_journal hj]
    rfl

end

/-- Settles O47: each command of an upload, from OPEN to CLOSE or ABORT. -/
theorem uploads : Obligations.Uploads := by
  unfold Obligations.Uploads
  intro t s hs _
  have hup : (s.at t).supUp = true := hs.2
  refine ⟨fun k hk => ⟨?_, ?_, ?_⟩, does_uploadOpen_refused hs, does_uploadOpen hs, does_uploadEraseDone hs, fun hst => ?_,
    fun d hd hst hnow => ⟨does_uploadChunk_off hs hd hst hnow, does_uploadChunk hs hd hst hnow⟩, does_uploadChunk_closed hs,
    fun a d hnow hle => ⟨does_chunkProgrammed hs hnow hle, does_chunkProgrammed_failed hs hnow⟩, does_chunkProgrammed_idle hs, fun h => ?_,
    fun hst hnow => ⟨fun r p => does_uploadClose_bad hs hst hnow, fun d => does_uploadClose_ok hs hst hnow⟩, does_uploadAbort hs, fun h => ?_⟩
  · exact does_upRefused hs (exec_uploadOpen t s k) (by decide) (upCommand_wrong hup hk _)
  · exact does_upRefused hs (exec_uploadClose t s k) (by decide) (upCommand_wrong hup hk _)
  · exact does_upRefused hs (exec_uploadAbort t s k) (by decide) (upCommand_wrong hup hk _)
  · exact (does_up_idle hs (exec_uploadEraseDone t s) (if_neg fun e => hst e.1)).imp fun _ ⟨hu, _, hrest⟩ => ⟨hu, hrest⟩
  · exact does_upRefused hs (exec_uploadClose t s 0xA5) (by decide) ((upCommand_right hup _).trans (if_pos h))
  · have hrow : ¬(1 ≤ (s.at t).reg Reg.IMG_UPST ∧ (s.at t).reg Reg.IMG_UPST ≤ 3) := by
      rw [at_reg]
      omega
    exact (does_upAnswer hs (exec_uploadAbort t s 0xA5) (by decide) ((upCommand_right hup _).trans (if_neg hrow))).imp
      fun _ ⟨hu, hres, _, _, hregs⟩ => ⟨hu, hres, hregs⟩

end Sys2Proof.UploadSteps

namespace Sys2Proof.EventWrites

open Sys2Proof Sys2Proof.Machine Sys2Proof.Laws Sys2Proof.JournalFrame

/-! Which registers an event of any severity may write, with the probation it may fail (R313), and a change of mode with the session
it may end (R52, R439). -/

/-- The registers written where an event fails the probation. -/
def probFields : List Field :=
  [Reg.IMG_STAT_PROB, Reg.GL_STAT_PROBATION, Reg.IMG_FLAGS_PROBEND, Reg.IMG_FAILEV, Reg.IMG_OTHRES, Reg.IMG_FLAGS_REVERT, Reg.GL_STAT_RLDPEND,
    Reg.IMG_STAT_LOADING] ++ jrnFields

/-- The registers written where a session or a token ends. -/
def sessionEndFields : List Field :=
  [Reg.SEC_DBGLVL_HALT, Reg.SEC_FLAGS_HALT, Reg.SEC_DBGLVL_TP, Reg.SEC_DBGLVL_LEVEL, Reg.SEC_FLAGS_SESSION, Reg.SEC_SCOPE, Reg.SEC_EXPIRY,
    Reg.SEC_FLAGS_TOKEN, Reg.SEC_TOKRES] ++ probFields

/-- The registers written at a change of mode. -/
def modeFields : List Field := [Reg.GL_MODE_PREV, Reg.GL_MODE, Reg.GL_MODE_CAUSE] ++ sessionEndFields

variable {l : List Field} {s u w : State}

theorem onlyRegs_recorder (h : OnlyRegs l s u) (k : SameButRecorder u w) : OnlyRegs l s w := fun f i hf hrec =>
  (k.cells f (onRecPages_of_not hrec) i).trans (h f i hf hrec)

theorem onlyRegs_journal (h : OnlyRegs l s u) (hl : ∀ f ∈ jrnFields, f.place ∈ l.map Field.place) (k : SameButJournal u w) : OnlyRegs l s w :=
  fun f i hf hrec => by
    refine (k.cells f (onRecPages_of_not hrec) (fun e => hf ?_) i).trans (h f i hf hrec)
    obtain ⟨g, hg, hplace⟩ := List.mem_map.mp e
    rw [← hplace]
    exact hl g hg

section
variable (h : OnlyRegs l s u) (hl : ∀ f ∈ probFields, f.place ∈ l.map Field.place)
include h hl

theorem onlyRegs_scheduleLoad (k : LoadKind) (cause : Nat) : OnlyRegs l s (u.scheduleLoad k cause) := by
  have hstart : OnlyRegs l s (u.loadStart k) :=
    onlyRegs_put (u := { u.discardShadow with core.load := some ⟨k, u.now, false, u.reg Reg.IMG_VER⟩, core.loadNext := none, img.staged := none })
      h _ _ (hl _ (by decide))
  unfold State.scheduleLoad
  split
  · exact h
  · split
    · exact onlyRegs_put (u := { u with core.deferred := some k }) h _ _ (hl _ (by decide))
    · split
      · exact hstart
      · exact h

theorem onlyRegs_revertRefused : OnlyRegs l s u.revertRefused :=
  onlyRegs_recorder (onlyRegs_put (onlyRegs_put h _ _ (hl _ (by decide))) _ _ (hl _ (by decide))) (recordEvent_rec _ _ _ _ _ _ _ _)

theorem onlyRegs_failProbation (code : Nat) : OnlyRegs l s (u.failProbation code) := by
  have hj := onlyRegs_journal h (fun f hf => hl f (List.mem_append_right _ hf))
    ((SameButJournal.refl u).jAppend (.probation ⟨u.reg Reg.IMG_VER, 3, u.img.probCount⟩))
  have hput := onlyRegs_put (onlyRegs_put (onlyRegs_put (onlyRegs_put hj Reg.IMG_STAT_PROB 3 (hl _ (by decide))) Reg.GL_STAT_PROBATION 0
    (hl _ (by decide))) Reg.IMG_FLAGS_PROBEND 1 (hl _ (by decide))) Reg.IMG_FAILEV code (hl _ (by decide))
  have hev : ∀ p0 p1 p2 p3 : Nat, OnlyRegs l s _ := fun p0 p1 p2 p3 => onlyRegs_recorder hput (recordEvent_rec _ 0x7005 4 0x0E p0 p1 p2 p3)
  unfold State.failProbation
  dsimp only
  split
  · exact onlyRegs_revertRefused (hev _ _ _ _) hl
  · refine onlyRegs_scheduleLoad ?_ hl _ _
    exact hev _ _ _ _

/-- R13, R313: an event of any severity. -/
theorem onlyRegs_raise4_any (code sev unit p0 p1 p2 p3 : Nat) : OnlyRegs l s (u.raise4 code sev unit p0 p1 p2 p3) := by
  have hev := onlyRegs_recorder h (recordEvent_rec u code sev unit p0 p1 p2 p3)
  unfold State.raise4
  dsimp only
  split
  · split
    · exact onlyRegs_failProbation hev hl _
    · exact hev
  · exact h

theorem onlyRegs_raise_any (code sev unit p0 p1 : Nat) : OnlyRegs l s (u.raise code sev unit p0 p1) := onlyRegs_raise4_any h hl _ _ _ _ _ _ _

theorem onlyRegs_heldRaised (es : List HeldEvent) :
    OnlyRegs l s (es.foldl (fun s e => s.raise4 e.code e.sev e.unit e.p0 e.p1 e.p2 e.p3) u) := by
  induction es generalizing u with
  | nil => exact h
  | cons e es ih => exact ih (onlyRegs_raise4_any h hl _ _ _ _ _ _ _)

theorem onlyRegs_supResume : OnlyRegs l s u.supResume := by
  have hheld := onlyRegs_heldRaised (u := { u with core.sup := .running, core.heldEvents := [] }) h hl u.core.heldEvents
  have hdrain := onlyRegs_journal hheld (fun f hf => hl f (List.mem_append_right _ hf)) (SameButJournal.refl _).jDrain
  exact onlyRegs_recorder hdrain (flushKick_rec _)

end

section
variable (h : OnlyRegs l s u) (hl : ∀ f ∈ sessionEndFields, f.place ∈ l.map Field.place)
include h hl

theorem onlyRegs_endHalt (why : Nat) : OnlyRegs l s (u.endHalt why) := by
  have hprob : ∀ f ∈ probFields, f.place ∈ l.map Field.place := fun f hf => hl f (List.mem_append_right _ hf)
  unfold State.endHalt
  split
  · exact onlyRegs_raise_any (onlyRegs_put (onlyRegs_supResume (onlyRegs_put h _ _ (hl _ (by decide))) hprob) _ _ (hl _ (by decide))) hprob _ _ _ _ _
  · exact h

theorem onlyRegs_endSession (why : Nat) : OnlyRegs l s (u.endSession why) := by
  have hprob : ∀ f ∈ probFields, f.place ∈ l.map Field.place := fun f hf => hl f (List.mem_append_right _ hf)
  have hctl : OnlyRegs l s (if u.reg Reg.SEC_DBGLVL_LEVEL = 2 then (u.endHalt 1).endPattern else u) := by
    split
    · exact onlyRegs_put (u := { u.endHalt 1 with sec.pattern := none }) (onlyRegs_endHalt h hl 1) _ _ (hl _ (by decide))
    · exact h
  unfold State.endSession
  dsimp only
  split
  · exact h
  · exact onlyRegs_raise_any (onlyRegs_put (onlyRegs_put hctl _ _ (hl _ (by decide))) _ _ (hl _ (by decide))) hprob _ _ _ _ _

theorem onlyRegs_judgeSession (mode why : Nat) : OnlyRegs l s (u.judgeSession mode why) := by
  unfold State.judgeSession
  dsimp only
  split
  · exact h
  · exact onlyRegs_endSession h hl _

theorem onlyRegs_endToken (why : Nat) : OnlyRegs l s (u.endToken why) := by
  have hprob : ∀ f ∈ probFields, f.place ∈ l.map Field.place := fun f hf => hl f (List.mem_append_right _ hf)
  unfold State.endToken
  split
  · exact h
  · refine onlyRegs_judgeSession (onlyRegs_raise_any (onlyRegs_put (onlyRegs_put (onlyRegs_put (u := { u with sec.token := none }) h _ _ ?_) _ _ ?_)
      _ _ ?_) hprob _ _ _ _ _) hl _ _ <;> exact hl _ (by decide)

theorem onlyRegs_abandonToken : OnlyRegs l s u.abandonToken := by
  have hprob : ∀ f ∈ probFields, f.place ∈ l.map Field.place := fun f hf => hl f (List.mem_append_right _ hf)
  unfold State.abandonToken
  split
  · exact h
  · refine onlyRegs_raise_any (onlyRegs_put (onlyRegs_put (u := { u with sec.verifying := none }) h _ _ ?_) _ _ ?_) hprob _ _ _ _ _ <;>
      exact hl _ (by decide)

end

/-- R52: a change of mode. -/
theorem onlyRegs_changeMode (h : OnlyRegs l s u) (hl : ∀ f ∈ modeFields, f.place ∈ l.map Field.place) (new cause : Nat) :
    OnlyRegs l s (u.changeMode new cause) := by
  have hses : ∀ f ∈ sessionEndFields, f.place ∈ l.map Field.place := fun f hf => hl f (List.mem_append_right _ hf)
  have htok : OnlyRegs l s (if new = modeHoldup then u.abandonToken.endToken 3 else u) := by
    split
    · exact onlyRegs_endToken (onlyRegs_abandonToken h hses) hses 3
    · exact h
  have hjudged := onlyRegs_judgeSession htok hses new 2
  unfold State.changeMode
  dsimp only
  refine onlyRegs_raise4 (u := { (State.put _ _ _) with core.modeAt := _ }) ?_ _ _ _ _ _ _ _ (.inl (by decide))
  refine onlyRegs_put (onlyRegs_put (onlyRegs_put hjudged _ _ ?_) _ _ ?_) _ _ ?_ <;> exact hl _ (by decide)

/-- The mode a change leads to, and the one it leaves. -/
theorem changeMode_mode (s : State) {new : Nat} (hnew : new < 8) (cause : Nat) : (s.changeMode new cause).mode = new := by
  unfold State.changeMode State.mode
  dsimp only
  rw [raise4_reg _ _ _ _ _ _ _ _ (by decide) _ (by decide)]
  exact (reg_put_other _ _ _ _ (by decide)).trans ((reg_put_same _ _ _).trans (Nat.mod_eq_of_lt (Nat.lt_of_lt_of_le hnew (by decide))))

end Sys2Proof.EventWrites

namespace Sys2Proof.TwinRules

open Sys2Proof Sys2Proof.Machine Sys2Proof.Laws Sys2Proof.LoadSteps Sys2Proof.ImageLoads Sys2Proof.Readings Sys2Proof.JournalFrame
  Sys2Proof.EventWrites

/-! The twin part of a command's end (R375): the records a command has brought about join the queue to be sent, and nothing else of the
pair's part moves. -/

section
variable (t : Edges) (s : State) (f : State → State)

/-- A part of the pair's state other than the records to be sent. -/
theorem ended_twin_part {α : Type} (g : TwinSt → α) (hg : ∀ (w : TwinSt) (q : List SyncRec) (n : Nat), g { w with sendQ := q, recSeq := n } = g w) :
    g (ended t s f).twin = g (f (s.at t)).twin := by
  have hd : ((s.at t).decided (f (s.at t))).finish.twin = { (f (s.at t)).twin with
      sendQ := ((s.at t).decided (f (s.at t))).twin.sendQ, recSeq := ((s.at t).decided (f (s.at t))).twin.recSeq } := by
    rw [finish_twin]
    exact congrArg State.twin (decided_eq (s.at t) (f (s.at t)))
  exact (congrArg g hd).trans (hg _ _ _)

end

/-- The registers whose change is a decision. -/
def decisionFields : List Field := [Reg.TRK_NT, Reg.PH_SHEDST, Reg.SHR_BAYST, Reg.CAP_PQ, Reg.HUP_STAT_STAGE, Reg.BST_CST, Reg.FUS_LATCHED]

/-- A command that changes none of the decisions sends none. -/
theorem decided_of_same {o s : State} (hr : ∀ f ∈ decisionFields, ∀ i, s.regAt f i = o.regAt f i) (hc : s.cap = o.cap) : o.decided s = s := by
  have hsend : ∀ (f : Field), f ∈ decisionFields → ∀ kind unit i : Nat, sendChange o f kind unit i s = s := fun f hf kind unit i => by
    unfold sendChange
    rw [if_pos (hr f hf i)]
  have hfold : ∀ f : Field, f ∈ decisionFields → ∀ (kind : Nat) (unit : Nat → Nat) (n : Nat),
      (List.range n).foldl (fun a b => sendChange o f kind (unit b) b a) s = s := fun f hf kind unit n =>
    List.foldl_fixed' (fun b => hsend f hf kind (unit b) b) _
  have hshed : (List.range 8).foldl (fun a b => let st := a.regAt Reg.PH_SHEDST b
      if st = o.regAt Reg.PH_SHEDST b ∨ ¬(st = 1 ∨ st = 2) then a else a.sendDecision st b (a.regAt Reg.PH_SHEDPH b)) s = s :=
    List.foldl_fixed' (fun b => by dsimp only; exact if_pos (Or.inl (hr Reg.PH_SHEDST (by decide) b))) _
  have hgrant : (List.range 128).foldl (fun a i => let g := (a.cap.cts.toList.getD i CtSt.reset).grant
      if g = (o.cap.cts.toList.getD i CtSt.reset).grant then a else a.sendDecision 4 i g) s = s :=
    List.foldl_fixed' (fun i => by dsimp only; exact if_pos (by rw [hc])) _
  have hlatched : (List.range 16).foldl (fun a c => let now := bitOf (a.reg Reg.FUS_LATCHED) c
      if now = bitOf (o.reg Reg.FUS_LATCHED) c then a else a.sendDecision 7 c (if now then 1 else 0)) s = s :=
    List.foldl_fixed' (fun c => by dsimp only; exact if_pos (congrArg (bitOf · c) (hr Reg.FUS_LATCHED (by decide) 0))) _
  unfold State.decided
  split
  · rfl
  · show (List.range 16).foldl _ _ = s
    rw [hfold Reg.TRK_NT (by decide) 0 (fun b => b) 8, hshed, hfold Reg.SHR_BAYST (by decide) 3 (fun b => b) 8,
      hfold Reg.CAP_PQ (by decide) 4 (fun g => 128 + g) 16, hgrant, hsend Reg.HUP_STAT_STAGE (by decide) 5 0 0,
      hfold Reg.BST_CST (by decide) 6 (fun k => k) 8, hlatched]

/-- A chip that does not own the outputs sends no decision. -/
theorem decided_of_not_owner (o : State) {s : State} (h : s.owner = false) : o.decided s = s := by
  unfold State.decided State.active
  rw [h, Bool.and_false]
  rfl

/-! The health word (R381). -/

/-- The bits `p 0` to `p (n - 1)` as a number. -/
def bitSum (p : Nat → Bool) (n : Nat) : Nat := (List.range n).foldl (fun v k => if p k then v + 2 ^ k else v) 0

theorem bitSum_succ (p : Nat → Bool) (n : Nat) : bitSum p (n + 1) = if p n then bitSum p n + 2 ^ n else bitSum p n := by
  unfold bitSum
  rw [List.range_succ, List.foldl_append]
  rfl

theorem bitSum_lt (p : Nat → Bool) (n : Nat) : bitSum p n < 2 ^ n := by
  induction n with
  | zero => exact Nat.one_pos
  | succ n ih =>
    rw [bitSum_succ, Nat.pow_succ]
    split <;> omega

theorem testBit_bitSum (p : Nat → Bool) (n i : Nat) (h : i < n) : (bitSum p n).testBit i = p i := by
  induction n with
  | zero => exact absurd h (Nat.not_lt_zero i)
  | succ n ih =>
    have hlt := bitSum_lt p n
    rw [bitSum_succ]
    rcases Nat.lt_succ_iff_lt_or_eq.mp h with hi | rfl
    · split
      · rw [Nat.add_comm, Nat.testBit_two_pow_add_gt hi, ih hi]
      · exact ih hi
    · split
      next hp => rw [Nat.add_comm, Nat.testBit_two_pow_add_eq, Nat.testBit_lt_two_pow hlt, hp]; rfl
      next hp => rw [Nat.testBit_lt_two_pow hlt, Bool.eq_false_iff.mpr hp]

/-- The bits of the health word, in their order. -/
def healthBits (s : State) : List Bool :=
  [s.isSet Reg.GL_STAT_XTALOK, s.twin.katFail == 0, s.twin.injBad.isEmpty, !s.recent s.twin.eccAt, !s.recent s.twin.padAt,
    s.reg Reg.IMG_VER == Config.partnerVersion, s.twin.near && s.reg Reg.WHL_STAT_STATE == 2, !s.isSet Reg.GL_STAT_GECKO, s.twin.synced,
    s.isSet Reg.TWN_STAT_LINKUP && !s.recent s.twin.missAt, s.healthMode]

theorem healthWord_eq (s : State) : s.healthWord = bitSum (fun k => (healthBits s).getD k false) 11 := rfl

theorem bitOf_healthWord (s : State) {k : Nat} (h : k < 11) : bitOf s.healthWord k = (healthBits s).getD k false := by
  rw [bitOf, healthWord_eq, testBit_bitSum _ _ _ h]

theorem healthWord_lt (s : State) : s.healthWord < 2048 := by
  rw [healthWord_eq]
  exact bitSum_lt _ _

/-- A bit that is 0 keeps the word from being complete. -/
theorem healthWord_ne {s : State} {k : Nat} (h : k < 11) (hb : (healthBits s).getD k false = false) : s.healthWord ≠ 0x7FF := fun e => by
  have hbit := (bitOf_healthWord s h).trans hb
  rw [e] at hbit
  have hall : ∀ i < 11, bitOf 0x7FF i = true := by decide
  rw [hall k h] at hbit
  exact absurd hbit (by decide)

/-! FIT (R382). -/

/-- The registers of the health word and of FIT. -/
def healthFields : List Field := [Reg.TWN_HEALTH, Reg.TWN_STAT_FIT, Reg.TWN_FLAGS_FITCHG]

/-- Two states that differ in the health word, FIT and the recorder alone. -/
structure SameButHealth (s u : State) : Prop where
  rest : u = { s with regs := u.regs, twin.fitSince := u.twin.fitSince, log := recLog s.log u.log, core.heldEvents := u.core.heldEvents }
  cells : ∀ f : Field, onRecPages f = false → f.place ∉ healthFields.map Field.place → ∀ i, u.regAt f i = s.regAt f i

namespace SameButHealth

theorem trans {s u w : State} (h : SameButHealth s u) (k : SameButHealth u w) : SameButHealth s w := by
  refine ⟨?_, fun f hf hj i => (k.cells f hf hj i).trans (h.cells f hf hj i)⟩
  have h1 := k.rest
  rw [h.rest] at h1
  exact h1

theorem of_recorder {s u : State} (h : SameButRecorder s u) : SameButHealth s u := by
  refine ⟨?_, fun f hf _ i => h.cells f hf i⟩
  have htwin : u.twin = s.twin := by rw [h.rest]
  rw [htwin]
  exact h.rest

theorem put (s : State) (f : Field) (v : Nat) (hf : f.place ∈ healthFields.map Field.place) : SameButHealth s (s.put f v) :=
  ⟨rfl, fun g _ hg i => regAt_put_other _ _ _ _ _ fun e => hg (by rw [e]; exact hf)⟩

theorem since (s : State) (v : Option Nat) : SameButHealth s { s with twin.fitSince := v } := ⟨rfl, fun _ _ _ _ => rfl⟩

variable {s u : State} (h : SameButHealth s u)
include h

theorem reg (f : Field) (hf : onRecPages f = false) (hj : f.place ∉ healthFields.map Field.place) : u.reg f = s.reg f := h.cells f hf hj 0
theorem twin : u.twin = { s.twin with fitSince := u.twin.fitSince } := congrArg State.twin h.rest
theorem part {α : Type} (g : TwinSt → α) (hg : ∀ (w : TwinSt) (v : Option Nat), g { w with fitSince := v } = g w) : g u.twin = g s.twin :=
  (congrArg g h.twin).trans (hg _ _)
theorem now : u.now = s.now := by rw [h.rest]
theorem cap : u.cap = s.cap := by rw [h.rest]
theorem sup : u.core.sup = s.core.sup := by rw [h.rest]
theorem owner : u.owner = s.owner := congrArg (· != 0) (h.reg Reg.GL_STAT_OWNER (by decide) (by decide))
theorem mode : u.mode = s.mode := h.reg Reg.GL_MODE (by decide) (by decide)

end SameButHealth

theorem raise_health (s : State) (code sev unit p0 p1 : Nat) (h : sev < 6) : SameButHealth s (s.raise code sev unit p0 p1) :=
  .of_recorder (raise4_rec _ _ _ _ _ _ _ _ h)

theorem unfitNow_same (s : State) : SameButHealth s s.unfitNow := by
  unfold State.unfitNow
  split
  · exact ((SameButHealth.put s Reg.TWN_STAT_FIT 0 (by decide)).trans (SameButHealth.put _ Reg.TWN_FLAGS_FITCHG 1 (by decide))).trans
      (raise_health _ _ _ _ _ _ (by decide))
  · exact ⟨rfl, fun _ _ _ _ => rfl⟩

/-- Every condition of FIT holds (R382, R385). -/
def healthOk (s : State) : Bool := s.healthWord == 0x7FF && !s.twin.unfit && !s.owner && (s.supUp || s.recent s.twin.healthAt)

/-- The health word shown, and the instant since which all bits have held. -/
def healthShown (s : State) : State := s.put Reg.TWN_HEALTH s.healthWord

theorem healthRefresh_ok {s : State} (h : healthOk s = true) : s.healthRefresh =
    { healthShown s with twin.fitSince := if s.twin.fitSince.isNone then some s.now else s.twin.fitSince } := by
  have howner : (healthShown s).owner = s.owner := congrArg (· != 0) (reg_put_other _ _ _ _ (by decide))
  unfold State.healthRefresh
  dsimp only
  rw [if_pos]
  · rfl
  · rw [← h]
    show (s.healthWord == 0x7FF && !s.twin.unfit && !(healthShown s).owner && _) = _
    rw [howner]
    rfl

theorem healthRefresh_not_ok {s : State} (h : healthOk s = false) : s.healthRefresh =
    State.unfitNow { healthShown s with twin.fitSince := none } := by
  have howner : (healthShown s).owner = s.owner := congrArg (· != 0) (reg_put_other _ _ _ _ (by decide))
  unfold State.healthRefresh
  dsimp only
  rw [if_neg]
  · rfl
  · rw [Bool.not_eq_true, ← h]
    show (s.healthWord == 0x7FF && !s.twin.unfit && !(healthShown s).owner && _) = _
    rw [howner]
    rfl

theorem healthRefresh_same (s : State) : SameButHealth s s.healthRefresh := by
  have hshown := SameButHealth.put s Reg.TWN_HEALTH s.healthWord (by decide)
  rcases h : healthOk s
  · rw [healthRefresh_not_ok h]
    exact (hshown.trans (SameButHealth.since _ none)).trans (unfitNow_same _)
  · rw [healthRefresh_ok h]
    exact hshown.trans (SameButHealth.since _ _)

theorem unfitNow_reg_health (s : State) : s.unfitNow.reg Reg.TWN_HEALTH = s.reg Reg.TWN_HEALTH := by
  unfold State.unfitNow
  split
  · rw [raise_reg _ _ _ _ _ _ (by decide) _ (by decide), flag_eq, reg_put_other _ _ _ _ (by decide), reg_put_other _ _ _ _ (by decide)]
  · rfl

theorem unfitNow_reg_fit (s : State) : s.unfitNow.reg Reg.TWN_STAT_FIT = 0 := by
  unfold State.unfitNow
  split
  · rw [raise_reg _ _ _ _ _ _ (by decide) _ (by decide), flag_eq, reg_put_other _ _ _ _ (by decide)]
    exact reg_put_same _ _ _
  next h => simpa [State.isSet] using h

theorem unfitNow_since (s : State) : s.unfitNow.twin.fitSince = s.twin.fitSince := by
  unfold State.unfitNow
  split
  · rw [raise_twin _ _ _ _ _ _ (by decide)]
    rfl
  · rfl

theorem healthShown_word (s : State) : (healthShown s).reg Reg.TWN_HEALTH = s.healthWord :=
  (reg_put_same _ _ _).trans (Nat.mod_eq_of_lt (Nat.lt_trans (healthWord_lt s) (by decide)))

/-- R381: the word shown is the word formed. -/
theorem healthRefresh_word (s : State) : s.healthRefresh.reg Reg.TWN_HEALTH = s.healthWord := by
  rcases h : healthOk s
  · rw [healthRefresh_not_ok h, unfitNow_reg_health]
    exact healthShown_word s
  · rw [healthRefresh_ok h]
    exact healthShown_word s

theorem bitOf_healthRefresh (s : State) {k : Nat} (h : k < 11) : bitOf (s.healthRefresh.reg Reg.TWN_HEALTH) k = (healthBits s).getD k false := by
  rw [healthRefresh_word, bitOf_healthWord _ h]

/-- R382: a condition that falls takes FIT at once. -/
theorem healthRefresh_unfit {s : State} (h : healthOk s = false) : s.healthRefresh.reg Reg.TWN_STAT_FIT = 0 ∧ s.healthRefresh.twin.fitSince = none := by
  rw [healthRefresh_not_ok h]
  exact ⟨unfitNow_reg_fit _, unfitNow_since _⟩

/-- R382: FIT that falls is told. -/
theorem healthRefresh_told {s z : State} (h : healthOk s = false) (hfit : s.reg Reg.TWN_STAT_FIT = 1) (hsup : s.core.sup = z.core.sup)
    (hsn : s.reg Reg.REC_SNSEV = z.reg Reg.REC_SNSEV) : s.healthRefresh.reg Reg.TWN_FLAGS_FITCHG = 1 ∧
    Raised 0x9131 3 s.healthWord (s.reg Reg.TWN_LASTATT) z s.healthRefresh := by
  let y : State := { healthShown s with twin.fitSince := none }
  have hset : y.isSet Reg.TWN_STAT_FIT = true := by
    unfold State.isSet
    rw [show y.reg Reg.TWN_STAT_FIT = 1 from (reg_put_other _ _ _ _ (by decide)).trans hfit]
    rfl
  have hword : ((y.put Reg.TWN_STAT_FIT 0).flag Reg.TWN_FLAGS_FITCHG).reg Reg.TWN_HEALTH = s.healthWord := by
    rw [flag_eq, reg_put_other _ _ _ _ (by decide), reg_put_other _ _ _ _ (by decide)]
    exact healthShown_word s
  have hatt : ((y.put Reg.TWN_STAT_FIT 0).flag Reg.TWN_FLAGS_FITCHG).reg Reg.TWN_LASTATT = s.reg Reg.TWN_LASTATT := by
    rw [flag_eq, reg_put_other _ _ _ _ (by decide), reg_put_other _ _ _ _ (by decide)]
    exact reg_put_other s _ _ _ (by decide)
  have hsnsev : ((y.put Reg.TWN_STAT_FIT 0).flag Reg.TWN_FLAGS_FITCHG).reg Reg.REC_SNSEV = z.reg Reg.REC_SNSEV := by
    rw [flag_eq, reg_put_other _ _ _ _ (by decide), reg_put_other _ _ _ _ (by decide)]
    exact (reg_put_other s _ _ _ (by decide)).trans hsn
  have heq : y.unfitNow = ((y.put Reg.TWN_STAT_FIT 0).flag Reg.TWN_FLAGS_FITCHG).raise 0x9131 3 0x14 s.healthWord (s.reg Reg.TWN_LASTATT) := by
    rw [← hword, ← hatt]
    unfold State.unfitNow
    rw [if_pos hset, flag_eq]
    simp (disch := decide) only [reg_put_other]
  rw [healthRefresh_not_ok h, heq]
  refine ⟨?_, raised_now (by decide) hsup hsnsev⟩
  rw [raise_reg _ _ _ _ _ _ (by decide) _ (by decide)]
  exact reg_put_same _ _ _

end Sys2Proof.TwinRules

namespace Sys2Proof.TwinFrames

open Sys2Proof Sys2Proof.Machine Sys2Proof.Laws Sys2Proof.LoadSteps Sys2Proof.ImageLoads Sys2Proof.Readings Sys2Proof.JournalFrame
  Sys2Proof.EventWrites Sys2Proof.TwinRules

/-! The link and its frames (R373-R376, R383). -/

/-- The slot of the last frame is missing. -/
def slotMissed (r : Nat) (s : State) : State :=
  { s with twin := { s.twin with rxAt := some (r + 8 * edgeUs), missing := s.twin.missing + 1, missAt := some s.now } }.bump Reg.TW_RXMISS

/-- Three slots in a row take the link. -/
def linkDowned (s : State) : State := if 3 ≤ s.twin.missing then s.put Reg.TWN_STAT_LINKUP 0 else s

/-- What a missing slot does. -/
def slotMissing (s : State) : State :=
  match s.twin.rxAt with
  | none => s
  | some r => if s.paired && s.elapsed r (9 * edgeUs) then (linkDowned (slotMissed r s)).linkFault.healthRefresh else s

/-- The standby's report. -/
def healthReport (s : State) : SyncRec :=
  .health (BitVec.ofNat 8 s.twin.recSeq) (BitVec.ofNat 32 (s.reg Reg.TWN_HEALTH)) (BitVec.ofNat 16 (s.reg Reg.TW_ECCCOR))
    (BitVec.ofNat 16 (s.reg Reg.TW_PADERR)) (BitVec.ofNat 16 (s.reg Reg.TW_INJFAIL))

/-- The report joins the records to be sent. -/
def healthReported (s : State) : State :=
  { s with twin := { s.twin with sendQ := s.twin.sendQ ++ [healthReport s], recSeq := (s.twin.recSeq + 1) % 256, healthAt := some s.now } }

section
variable (t : Edges) (s : State)

theorem exec_twinFrameSlot : exec (.twinFrameSlot t) s = live t s State.frameSlot := rfl
theorem exec_twinFrameReceive (f : TwinFrame) : exec (.twinFrameReceive t f) s = live t s fun s => s.frameReceive f := rfl
theorem exec_twinSlotMissing : exec (.twinSlotMissing t) s = live t s slotMissing := rfl
theorem exec_decisionRecordTick : exec (.decisionRecordTick t) s = live t s State.decisionTick := rfl
theorem exec_healthRecord : exec (.healthRecord t) s =
    live t s fun s => if s.paired && !s.owner && s.supUp then healthReported s else s := rfl

end

section
variable {t : Edges} {s : State} (hp : s.core.powered = true)
include hp

omit hp in
/-- A command of the pair that changes none of the decisions leaves the records to be sent. -/
theorem ended_twin_same {f : State → State} (hr : ∀ g ∈ decisionFields, ∀ i, (f (s.at t)).regAt g i = s.regAt g i)
    (hc : (f (s.at t)).cap = s.cap) : (ended t s f).twin = (f (s.at t)).twin := by
  show (((s.at t).decided (f (s.at t))).finish).twin = _
  rw [finish_twin, decided_of_same (o := s.at t) hr hc]

/-- A command of the pair that finds nothing to do. -/
theorem does_twin_idle {c : Instr} {f : State → State} (hc : exec c s = live t s f) (hf : f (s.at t) = s.at t) :
    Does c s fun u => u.twin = s.twin ∧ OnlyRegsQuiet [] s u := by
  refine does_of_effect hp hc hf ⟨?_, onlyRegsQuiet_ended (onlyRegsQuiet_of_regs _ rfl)⟩
  rw [ended_twin_same (fun _ _ _ => rfl) rfl, at_twin]

end

/-! A frame sent. -/

/-- What a frame sent leaves of the pair's part. -/
def frameSent (s : State) : State :=
  { s with twin := { s.twin with txSeq := (s.twin.txSeq + 1) % 65536, sentAt := some s.now, own := (s.frameNow :: s.twin.own).take 16,
                                 sendQ := s.twin.sendQ.drop 4, swReq := false } }

theorem frameSlot_eq {s : State} (h : s.paired = true) : s.frameSlot = frameSent s.healthRefresh := by
  unfold State.frameSlot
  rw [h]
  rfl

theorem padded_take (q : List SyncRec) : ((q ++ List.replicate 4 (SyncRec.empty 0)).take 4).length = 4 ∧
    ((q ++ List.replicate 4 (SyncRec.empty 0)).take 4).take (min 4 q.length) = q.take 4 := by
  refine ⟨by simp, ?_⟩
  rw [List.take_take, Nat.min_eq_left (Nat.min_le_left _ _), List.take_append_of_le_length (Nat.min_le_right _ _)]
  rcases Nat.le_total 4 q.length with h | h
  · rw [Nat.min_eq_left h]
  · rw [Nat.min_eq_right h, List.take_of_length_le (Nat.le_refl _), List.take_of_length_le h]

theorem digest_length (s : State) : s.digest.length = 28 := by
  unfold State.digest
  simp only [List.length_append, List.length_map, List.length_range]
  rfl

theorem dutyVector_getD (s : State) (n : Chan) (d : Code) :
    s.dutyVector.getD n.val d = if s.conducts n then BitVec.ofNat 16 (s.regAt Reg.PH_DUTY n) else 0 := by
  unfold State.dutyVector
  rw [List.getD_eq_getElem?_getD, List.getElem?_map, List.getElem?_range n.isLt]
  rfl

theorem dutyVector_length (s : State) : s.dutyVector.length = 48 := by
  unfold State.dutyVector
  rw [List.length_map, List.length_range]

theorem does_twinFrameSlot {t : Edges} {s : State} (hp : s.core.powered = true) (hpair : s.paired = true) : Does (.twinFrameSlot t) s fun u =>
    u.twin.txSeq = (s.twin.txSeq + 1) % 65536 ∧ u.twin.sentAt = some (max s.now t) ∧
    u.twin.partner = s.twin.partner ∧ ∃ f, u.twin.own.head? = some f ∧ f.crcOk = true ∧ f.seq.toNat = (s.twin.txSeq + 1) % 65536 ∧ f.owner = s.owner ∧ f.mode.val = s.mode % 8 ∧
      f.health.toNat = u.reg Reg.TWN_HEALTH % 2 ^ 32 ∧ f.recs.length = 4 ∧ f.recs.take (min 4 s.twin.sendQ.length) = s.twin.sendQ.take 4 ∧ f.duties.length = 48 ∧ f.digest.length = 28 ∧
      (∀ n : Chan, s.conducts n = false → f.duties.getD n.val 1 = 0) ∧
      (∀ n : Chan, s.conducts n = true → (f.duties.getD n.val 0).toNat = s.regAt Reg.PH_DUTY n % 65536) := by
  have hsame := healthRefresh_same (s.at t)
  have hconducts : ∀ n : Nat, (s.at t).healthRefresh.conducts n = s.conducts n := fun n => by
    unfold State.conducts State.pst
    rw [hsame.cells Reg.PH_PSTAT_STATE (by decide) (by decide)]
    rfl
  refine does_of_effect hp (exec_twinFrameSlot t s) (frameSlot_eq (s := s.at t) hpair) ?_
  refine ⟨(ended_twin_part _ _ _ TwinSt.txSeq fun _ _ _ => rfl).trans ?_, (ended_twin_part _ _ _ TwinSt.sentAt fun _ _ _ => rfl).trans ?_,
    (ended_twin_part _ _ _ TwinSt.partner fun _ _ _ => rfl).trans ?_, (s.at t).healthRefresh.frameNow,
    (congrArg List.head? (ended_twin_part _ _ _ TwinSt.own fun _ _ _ => rfl)).trans rfl, rfl, ?_, hsame.owner, ?_, ?_, ?_, ?_,
    dutyVector_length _, digest_length _, fun n hn => ?_, fun n hn => ?_⟩
  · exact hsame.part (fun w => (w.txSeq + 1) % 65536) fun _ _ => rfl
  · exact congrArg some hsame.now
  · exact hsame.part TwinSt.partner fun _ _ => rfl
  · show (BitVec.ofNat 16 ((s.at t).healthRefresh.twin.txSeq + 1)).toNat = _
    rw [hsame.part TwinSt.txSeq fun _ _ => rfl]
    exact BitVec.toNat_ofNat _ _
  · show (s.at t).healthRefresh.mode % 8 = _
    rw [hsame.mode]
    rfl
  · rw [ended_reg]
    exact BitVec.toNat_ofNat _ _
  · exact (padded_take _).1
  · have hq : (s.at t).healthRefresh.twin.sendQ = s.twin.sendQ := hsame.part TwinSt.sendQ fun _ _ => rfl
    show (((s.at t).healthRefresh.twin.sendQ ++ List.replicate 4 (SyncRec.empty 0)).take 4).take _ = _
    rw [hq]
    exact (padded_take _).2
  · show (s.at t).healthRefresh.dutyVector.getD n.val 1 = 0
    rw [dutyVector_getD, hconducts, hn]
    rfl
  · show ((s.at t).healthRefresh.dutyVector.getD n.val 0).toNat = _
    rw [dutyVector_getD, hconducts, hn, hsame.cells Reg.PH_DUTY (by decide) (by decide)]
    exact BitVec.toNat_ofNat _ _

/-! A frame received: what the comparison, the resolution and a yield leave of what the frame has shown. -/

/-- The registers of what a frame shows, and of decisions that came late. -/
def linkFields : List Field := [Reg.TWN_STAT_LINKUP, Reg.TWN_STAT_PFIT, Reg.TWN_PHEALTH, Reg.TW_LATE]

/-- A frame without the pair's part leaves all of it but the records to be sent. -/
theorem twin_part_of_frame {P G : Nat} {s u : State} (h : Frame P G s u) (hP : P.testBit 20 = false) {α : Type} (g : TwinSt → α)
    (hg : ∀ w, g (twinRest w) = g w) : g u.twin = g s.twin :=
  (hg _).symm.trans ((congrArg g (h.f_twin hP)).trans (hg _))

/-- Two states that show the same of the partner's last frame and hold the same decisions. -/
structure SameLink (s u : State) : Prop where
  partner : u.twin.partner = s.twin.partner
  missing : u.twin.missing = s.twin.missing
  rxSeq : u.twin.rxSeq = s.twin.rxSeq
  decisions : u.twin.decisions = s.twin.decisions
  cells : ∀ f ∈ linkFields, u.reg f = s.reg f

namespace SameLink

theorem refl (s : State) : SameLink s s := ⟨rfl, rfl, rfl, rfl, fun _ _ => rfl⟩

theorem trans {s u w : State} (h : SameLink s u) (k : SameLink u w) : SameLink s w :=
  ⟨k.partner.trans h.partner, k.missing.trans h.missing, k.rxSeq.trans h.rxSeq, k.decisions.trans h.decisions,
    fun f hf => (k.cells f hf).trans (h.cells f hf)⟩

theorem of_frame {P G : Nat} {s u : State} (h : Frame P G s u) (hP : P.testBit 20 = false) (hG : ∀ f ∈ linkFields, G.testBit f.onPage = false) :
    SameLink s u := by
  exact ⟨twin_part_of_frame h hP TwinSt.partner fun _ => rfl, twin_part_of_frame h hP TwinSt.missing fun _ => rfl,
    twin_part_of_frame h hP TwinSt.rxSeq fun _ => rfl, twin_part_of_frame h hP TwinSt.decisions fun _ => rfl, fun f hf => h.f_regs f 0 (hG f hf)⟩

theorem put (s : State) (f : Field) (v : Nat) (hf : ∀ g ∈ linkFields, g.place ≠ f.place) : SameLink s (s.put f v) :=
  ⟨rfl, rfl, rfl, rfl, fun g hg => reg_put_other _ _ _ _ (hf g hg)⟩

theorem health {s u : State} (h : SameButHealth s u) (hp : ∀ f ∈ linkFields, onRecPages f = false ∧ f.place ∉ healthFields.map Field.place) :
    SameLink s u := by
  exact ⟨h.part TwinSt.partner fun _ _ => rfl, h.part TwinSt.missing fun _ _ => rfl, h.part TwinSt.rxSeq fun _ _ => rfl,
    h.part TwinSt.decisions fun _ _ => rfl, fun f hf => h.reg f (hp f hf).1 (hp f hf).2⟩

theorem healthRefresh (s : State) : SameLink s s.healthRefresh := .health (healthRefresh_same s) (by decide)

theorem raise (s : State) (code sev unit p0 p1 : Nat) : SameLink s (s.raise code sev unit p0 p1) :=
  .of_frame (frame_raise (Frame.refl 0x400041c78 0x500c000000024 s) code sev unit p0 p1 (by decide) (by decide)) (by decide) (by decide)

theorem roleShow (s : State) : SameLink s s.roleShow := .put _ _ _ (by decide)

theorem enterShadow (s : State) (cause : Nat) : SameLink s (s.enterShadow cause) :=
  .of_frame (frame_enterShadow (Frame.refl 0xcc0061c78 0x400500c010000024 s) cause (by decide) (by decide)) (by decide) (by decide)

theorem release (s : State) (trig : Nat) (back : Bool) : SameLink s (s.release trig back) := by
  unfold State.release
  refine SameLink.trans ?_ (roleShow _)
  refine SameLink.trans ?_ (put _ Reg.TWN_FLAGS_YIELD 1 (by decide))
  refine SameLink.trans ?_ (put _ Reg.TWN_LASTTRIG trig (by decide))
  refine SameLink.trans ?_ (put _ Reg.GL_STAT_OWNER 0 (by decide))
  exact ⟨rfl, rfl, rfl, rfl, fun _ _ => rfl⟩

theorem yield (s : State) (trig : Nat) (back : Bool) : SameLink s (s.yield trig back) := by
  unfold State.yield
  split
  · exact refl s
  · dsimp only
    refine SameLink.trans ((release s trig back).trans ?_) (raise _ _ _ _ _ _)
    split
    · exact enterShadow _ _
    · exact refl _

theorem yieldFit (s : State) : SameLink s s.yieldFit := by
  unfold State.yieldFit
  split
  · exact yield _ _ _
  · exact refl s

theorem becomeUnfit (s : State) : SameLink s s.becomeUnfit := by
  unfold State.becomeUnfit
  split
  · exact refl s
  · exact SameLink.trans (u := { s with twin.unfit := true, twin.fitSince := none }) ⟨rfl, rfl, rfl, rfl, fun _ _ => rfl⟩
      (.health (unfitNow_same _) (by decide))

theorem transferStart (s : State) : SameLink s s.transferStart := put _ _ _ (by decide)

/-- A row of R380's table noted, with its event. -/
theorem row (s : State) (n code sev p0 p1 : Nat) :
    SameLink s (((s.put Reg.TWN_LASTATT n).flag Reg.TWN_FLAGS_ATTRIB).raise code sev 0x14 p0 p1) :=
  ((put s Reg.TWN_LASTATT n (by decide)).trans (put _ Reg.TWN_FLAGS_ATTRIB 1 (by decide))).trans (raise _ _ _ _ _ _)

theorem takeFree (s : State) : SameLink s s.takeFree.2 := ⟨rfl, rfl, rfl, rfl, fun _ _ => rfl⟩

theorem resolveRow (s : State) (a b c d : Bool) (own partner mask : Nat) : SameLink s (s.resolveRow a b c d own partner mask) := by
  have hrow : ∀ n code sev p0 p1 : Nat, SameLink s (((s.takeFree.2.put Reg.TWN_LASTATT n).flag Reg.TWN_FLAGS_ATTRIB).raise code sev 0x14 p0 p1) :=
    fun n code sev p0 p1 => (takeFree s).trans (row _ n code sev p0 p1)
  unfold State.resolveRow
  show SameLink s (if !a && b then _ else _)
  split
  · exact (hrow _ _ _ _ _).trans (yieldFit _)
  split
  · exact (hrow _ _ _ _ _).trans (becomeUnfit _)
  split
  · exact (hrow _ _ _ _ _).trans (becomeUnfit _)
  split
  · exact ((hrow _ _ _ _ _).trans (transferStart _)).trans (becomeUnfit _)
  · split
    · exact (hrow _ _ _ _ _).trans (yieldFit _)
    split
    · exact (hrow _ _ _ _ _).trans (becomeUnfit _)
    split
    · exact (hrow _ _ _ _ _).trans (becomeUnfit _)
    · exact (hrow _ _ _ _ _).trans (becomeUnfit _)

theorem katResolve (s : State) : SameLink s s.katResolve := by
  unfold State.katResolve
  split
  · exact refl s
  split
  · dsimp only
    split
    · exact SameLink.trans (u := { s with twin.katAsked := false, twin.held := true, twin.mism := 0 }) ⟨rfl, rfl, rfl, rfl, fun _ _ => rfl⟩
        (resolveRow _ _ _ _ _ _ _ _)
    · exact SameLink.trans (u := { s with twin.katAsked := false, twin.held := true, twin.mism := 0 }) ⟨rfl, rfl, rfl, rfl, fun _ _ => rfl⟩
        (resolveRow _ _ _ _ _ _ _ _)
  · exact refl s

theorem compareFrame (s : State) (f : TwinFrame) : SameLink s (s.compareFrame f) := by
  unfold State.compareFrame
  split
  · split
    · exact ⟨rfl, rfl, rfl, rfl, fun _ _ => rfl⟩
    · exact refl s
  · split
    · exact ⟨rfl, rfl, rfl, rfl, fun _ _ => rfl⟩
    · dsimp only
      split
      · exact ⟨rfl, rfl, rfl, rfl, fun _ _ => rfl⟩
      · refine SameLink.trans (SameLink.trans ?_ (raise _ _ _ _ _ _)) ⟨rfl, rfl, rfl, rfl, fun _ _ => rfl⟩
        refine SameLink.trans ?_ (put _ Reg.TWN_FLAGS_MISMATCH 1 (by decide))
        refine SameLink.trans ?_ (put _ Reg.TWN_MMCH _ (by decide))
        refine SameLink.trans ?_ (put _ Reg.TWN_MMCNT _ (by decide))
        exact ⟨rfl, rfl, rfl, rfl, fun _ _ => rfl⟩

theorem switchRefused (s : State) : SameLink s s.switchRefused :=
  ((put s Reg.TWN_CMDRES 2 (by decide)).trans (put _ Reg.TWN_FLAGS_REFUSED 1 (by decide))).trans (raise _ _ _ _ _ _)

/-- A step that is taken or not. -/
theorem ite {s a b : State} {c : Prop} [Decidable c] (ha : SameLink s a) (hb : SameLink s b) : SameLink s (if c then a else b) := by
  split
  · exact ha
  · exact hb

/-- What an active makes of a request to switch over. -/
theorem switchAsked {s u : State} (h : SameLink s u) (f : TwinFrame) :
    SameLink s (if f.swReq ∧ u.owner ∧ u.twin.t0.isNone then (if f.fit then u.yield 4 true else u.switchRefused) else u) :=
  ite (ite (h.trans (yield _ _ _)) (h.trans (switchRefused _))) h

theorem activeFrame (s : State) (f : TwinFrame) : SameLink s (s.activeFrame f) := by
  have hcmp := compareFrame s f
  unfold State.activeFrame
  dsimp only
  have hkat : ∀ {a : State} {c : Prop} [Decidable c], SameLink s a →
      SameLink s (if c then { a with twin.katPartner := some f.katPass } else a) := fun ha =>
    ite (ha.trans ⟨rfl, rfl, rfl, rfl, fun _ _ => rfl⟩) ha
  have hxfer : ∀ {a : State} {c : Prop} [Decidable c], SameLink s a → SameLink s (if c then a.transferStart else a) := fun ha =>
    ite (ha.trans (transferStart _)) ha
  exact switchAsked (hxfer ((hkat hcmp).trans (katResolve _))) f

theorem standbyFrame (s : State) (f : TwinFrame) : SameLink s (s.standbyFrame f) := by
  unfold State.standbyFrame
  dsimp only
  refine SameLink.trans ?_ (katResolve _)
  have hxfer : ∀ {a : State} {c : Prop} [Decidable c], SameLink s a → SameLink s (if c then a.transferStart else a) := fun ha =>
    ite (ha.trans (transferStart _)) ha
  have hkat : ∀ {a : State} {c : Prop} [Decidable c], SameLink s a →
      SameLink s (if c then { a with twin.katPartner := some f.katPass } else a) := fun ha =>
    ite (ha.trans ⟨rfl, rfl, rfl, rfl, fun _ _ => rfl⟩) ha
  exact hxfer (hkat (ite ⟨rfl, rfl, rfl, rfl, fun _ _ => rfl⟩ (ite ⟨rfl, rfl, rfl, rfl, fun _ _ => rfl⟩ (refl s))))

end SameLink

/-- A frame of a good CRC noted, before its records. -/
def frameNoted (f : TwinFrame) (s : State) : State :=
  let near := decide (s.reg Reg.WHL_STAT_STATE = 2) &&
    (let d := (s.angle + 65536 - f.angle.toNat) % 65536; decide (min d (65536 - d) ≤ 182))
  let s := { s with twin := { s.twin with partner := some f, rxSeq := f.seq.toNat, rxAt := some (s.now - 31488), missing := 0, linkFault := false,
                                          near := near } }
  (((s.put Reg.TW_RXOK (s.reg Reg.TW_RXOK + 1)).put Reg.TWN_STAT_LINKUP 1).putB Reg.TWN_STAT_PFIT f.fit).put Reg.TWN_PHEALTH f.health.toNat

/-- The frame compared and resolved, by ownership. -/
def frameJudged (f : TwinFrame) (s : State) : State := (if s.owner then s.activeFrame f else s.standbyFrame f).healthRefresh

theorem frameReceive_eq {s : State} (h : s.paired = true) {f : TwinFrame} (hcrc : f.crcOk = true) :
    s.frameReceive f = frameJudged f (f.recs.foldl State.syncRec (frameNoted f s)) := by
  unfold State.frameReceive
  rw [h, hcrc]
  rfl

theorem frameJudged_link (f : TwinFrame) (s : State) : SameLink s (frameJudged f s) := by
  unfold frameJudged
  exact (SameLink.ite (.activeFrame s f) (.standbyFrame s f)).trans (.healthRefresh _)

theorem frameNoted_reg (f : TwinFrame) (s : State) : (frameNoted f s).reg Reg.TWN_STAT_LINKUP = 1 ∧
    (frameNoted f s).reg Reg.TWN_STAT_PFIT = (if f.fit then 1 else 0) ∧ (frameNoted f s).reg Reg.TWN_PHEALTH = f.health.toNat := by
  unfold frameNoted State.putB
  dsimp only
  refine ⟨?_, ?_, (reg_put_same _ _ _).trans (Nat.mod_eq_of_lt f.health.isLt)⟩
  · rw [reg_put_other _ _ _ _ (by decide), reg_put_other _ _ _ _ (by decide)]
    exact reg_put_same _ _ _
  · rw [reg_put_other _ _ _ _ (by decide), reg_put_same]
    cases f.fit <;> rfl

/-- The registers a frame noted writes. -/
def noteFields : List Field := [Reg.TW_RXOK, Reg.TWN_STAT_LINKUP, Reg.TWN_STAT_PFIT, Reg.TWN_PHEALTH]

theorem frameNoted_onlyRegs (f : TwinFrame) (s : State) : OnlyRegsQuiet noteFields s (frameNoted f s) := by
  unfold frameNoted
  dsimp only
  exact onlyRegsQuiet_put (onlyRegsQuiet_put (onlyRegsQuiet_put (onlyRegsQuiet_put (onlyRegsQuiet_of_regs _ rfl) _ _ (by decide)) _ _ (by decide))
    _ _ (by decide)) _ _ (by decide)

/-! A slot without a frame (R373, R383). -/

/-- A missing slot noted, and the link taken down with the third. -/
theorem linkDowned_reg (r : Nat) (s : State) (f : Field) (h1 : f.place ≠ Reg.TW_RXMISS.place) (h2 : f.place ≠ Reg.TWN_STAT_LINKUP.place) :
    (linkDowned (slotMissed r s)).reg f = s.reg f := by
  have hmiss : (slotMissed r s).reg f = s.reg f := reg_put_other { s with twin := { s.twin with rxAt := _, missing := _, missAt := _ } } _ _ _ h1
  unfold linkDowned
  split
  · exact (reg_put_other _ _ _ _ h2).trans hmiss
  · exact hmiss

theorem linkDowned_twin (r : Nat) (s : State) : (linkDowned (slotMissed r s)).twin =
    { s.twin with rxAt := some (r + 8 * edgeUs), missing := s.twin.missing + 1, missAt := some s.now } := by
  unfold linkDowned
  split <;> rfl

theorem linkDowned_core (r : Nat) (s : State) : (linkDowned (slotMissed r s)).core = s.core ∧ (linkDowned (slotMissed r s)).now = s.now := by
  unfold linkDowned
  split <;> exact ⟨rfl, rfl⟩

theorem linkDowned_miss (r : Nat) (s : State) :
    (linkDowned (slotMissed r s)).reg Reg.TW_RXMISS = min (2 ^ Reg.TW_RXMISS.width - 1) (s.reg Reg.TW_RXMISS + 1) := by
  have hmiss : (slotMissed r s).reg Reg.TW_RXMISS = min (2 ^ Reg.TW_RXMISS.width - 1) (s.reg Reg.TW_RXMISS + 1) := by
    rw [slotMissed, State.bump, reg_put_same, satNat_mod]
    rfl
  unfold linkDowned
  split
  · exact (reg_put_other _ _ _ _ (by decide)).trans hmiss
  · exact hmiss

theorem linkDowned_linkup {r : Nat} {s : State} (h : 2 ≤ s.twin.missing) : (linkDowned (slotMissed r s)).reg Reg.TWN_STAT_LINKUP = 0 := by
  unfold linkDowned
  rw [if_pos (show 3 ≤ (slotMissed r s).twin.missing from Nat.succ_le_succ h)]
  exact reg_put_same _ _ _

/-- The link fault told (R383). -/
def faultTold (s : State) : State := ({ s with twin.linkFault := true }.flag Reg.TWN_FLAGS_LINK).raise 0x9120 4 0x14 (s.reg Reg.TW_RXMISS) 1

theorem linkFault_cases (s : State) : s.linkFault = s ∨ s.linkFault = faultTold s := by
  unfold State.linkFault
  split
  · exact .inr rfl
  · exact .inl rfl

/-- What a link fault leaves of the registers and of the pair's part. -/
theorem linkFault_reg (s : State) (f : Field) (hf : onRecPages f = false) (hl : f.place ≠ Reg.TWN_FLAGS_LINK.place) :
    s.linkFault.reg f = s.reg f := by
  rcases linkFault_cases s with h | h
  · rw [h]
  · rw [h, faultTold, raise_reg _ _ _ _ _ _ (by decide) _ hf]
    exact reg_put_other { s with twin.linkFault := true } _ _ _ hl

theorem linkFault_twin (s : State) : s.linkFault.twin = { s.twin with linkFault := s.linkFault.twin.linkFault } := by
  rcases linkFault_cases s with h | h
  · rw [h]
  · rw [h, faultTold, raise_twin _ _ _ _ _ _ (by decide)]
    rfl

theorem linkFault_now (s : State) : s.linkFault.now = s.now := by
  rcases linkFault_cases s with h | h
  · rw [h]
  · rw [h, faultTold, raise_now _ _ _ _ _ _ (by decide)]
    rfl

/-- What happened now is recent. -/
theorem recent_now (s : State) : s.recent (some s.now) = true := decide_eq_true (Nat.lt_add_of_pos_right (by decide))

/-- A slot just missed takes a bit of the health word. -/
theorem healthOk_of_missed {s : State} (h : s.twin.missAt = some s.now) : healthOk s = false := by
  have hrecent : s.recent s.twin.missAt = true := by
    rw [h]
    exact recent_now s
  have hbit : (healthBits s).getD 9 false = false := by
    show (s.isSet Reg.TWN_STAT_LINKUP && !s.recent s.twin.missAt) = false
    rw [hrecent]
    exact Bool.and_false _
  unfold healthOk
  rw [beq_eq_false_iff_ne.mpr (healthWord_ne (k := 9) (by decide) hbit)]
  rfl

theorem healthRefresh_quiet {s : State} (h : healthOk s = false) (hfit : s.reg Reg.TWN_STAT_FIT = 0) :
    s.healthRefresh = { healthShown s with twin.fitSince := none } := by
  rw [healthRefresh_not_ok h]
  unfold State.unfitNow
  rw [if_neg]
  have : ({ healthShown s with twin.fitSince := none } : State).reg Reg.TWN_STAT_FIT = 0 := (reg_put_other _ _ _ _ (by decide)).trans hfit
  rw [State.isSet, this]
  decide


theorem decisionTick_eq {t : Edges} {s : State} (how : s.owner = false) : (s.at t).decisionTick =
    ((s.twin.decisions.filter fun r => match decisionOf r with | some (_, _, _, c, d) => (s.at t).decisionDue c d | none => true).foldl
      (fun s r => match decisionOf r with | some (k, u, v, _, _) => s.applyDecision k u v | none => s)
      { s.at t with twin.decisions := s.twin.decisions.filter fun r =>
        !match decisionOf r with | some (_, _, _, c, d) => (s.at t).decisionDue c d | none => true }) := by
  unfold State.decisionTick
  rw [if_neg (show ¬(s.at t).owner = true by rw [show (s.at t).owner = false from how]; decide)]
  rfl

theorem find_kind_zero : (List.range 8).find? (fun k => Config.decisionKind k == Config.decisionKind 0) = some 0 := by
  show (0 :: [1, 2, 3, 4, 5, 6, 7]).find? _ = _
  rw [List.find?_cons_of_pos]
  exact beq_self_eq_true _

section
variable {t : Edges} {s : State} (hp : s.core.powered = true)
include hp

theorem does_twinFrameReceive_bad (f : TwinFrame) (h : s.paired = false ∨ f.crcOk = false) : Does (.twinFrameReceive t f) s fun u =>
    u.twin = s.twin ∧ OnlyRegsQuiet [Reg.TW_RXCRC] s u ∧
    (s.paired = true → u.reg Reg.TW_RXCRC = min (2 ^ Reg.TW_RXCRC.width - 1) (s.reg Reg.TW_RXCRC + 1)) ∧
    (s.paired = false → u.reg Reg.TW_RXCRC = s.reg Reg.TW_RXCRC) := by
  rcases hpair : s.paired
  · have heffect : (s.at t).frameReceive f = s.at t := by
      unfold State.frameReceive
      rw [show (s.at t).paired = false from hpair]
      rfl
    refine (does_twin_idle hp (exec_twinFrameReceive t s f) heffect).imp fun u ⟨hu, htwin, honly⟩ => ⟨hu, htwin, ?_, ?_, ?_⟩
    · exact fun g i _ => honly g i (by simp)
    · exact fun e => absurd e (by decide)
    · exact fun _ => honly _ 0 (by simp)
  · have hcrc := h.resolve_left (by rw [hpair]; decide)
    have heffect : (s.at t).frameReceive f = (s.at t).bump Reg.TW_RXCRC := by
      unfold State.frameReceive
      rw [show (s.at t).paired = true from hpair, hcrc]
      rfl
    refine does_of_effect hp (exec_twinFrameReceive t s f) heffect ⟨?_, ?_, fun _ => ?_, fun e => absurd e (by decide)⟩
    · refine (ended_twin_same (fun g hg i => ?_) rfl).trans rfl
      have hne : ∀ g ∈ decisionFields, g.place ≠ Reg.TW_RXCRC.place := by decide
      exact regAt_put_other (s.at t) _ _ _ _ (hne g hg)
    · exact onlyRegsQuiet_ended (onlyRegsQuiet_put (onlyRegsQuiet_of_regs _ rfl) _ _ (by decide))
    · rw [ended_reg, State.bump, reg_put_same, satNat_mod, at_reg]

theorem does_twinFrameReceive_plain (f : TwinFrame) (hpair : s.paired = true) (hcrc : f.crcOk = true) (hrecs : f.recs = []) :
    Does (.twinFrameReceive t f) s fun u => u.twin.partner = some f ∧ u.twin.missing = 0 ∧
    u.twin.rxSeq = f.seq.toNat ∧ u.reg Reg.TWN_STAT_LINKUP = 1 ∧ u.reg Reg.TWN_STAT_PFIT = (if f.fit then 1 else 0) ∧
    u.reg Reg.TWN_PHEALTH = f.health.toNat := by
  have heffect := frameReceive_eq (s := s.at t) hpair hcrc
  rw [hrecs] at heffect
  have hlink := frameJudged_link f (frameNoted f (s.at t))
  obtain ⟨hup, hfit, hhealth⟩ := frameNoted_reg f (s.at t)
  refine does_of_effect hp (exec_twinFrameReceive t s f) heffect ⟨?_, ?_, ?_, ?_, ?_, ?_⟩
  · exact (ended_twin_part _ _ _ TwinSt.partner fun _ _ _ => rfl).trans (hlink.partner.trans rfl)
  · exact (ended_twin_part _ _ _ TwinSt.missing fun _ _ _ => rfl).trans (hlink.missing.trans rfl)
  · exact (ended_twin_part _ _ _ TwinSt.rxSeq fun _ _ _ => rfl).trans (hlink.rxSeq.trans rfl)
  · rw [ended_reg]
    exact (hlink.cells _ (by decide)).trans hup
  · rw [ended_reg]
    exact (hlink.cells _ (by decide)).trans hfit
  · rw [ended_reg]
    exact (hlink.cells _ (by decide)).trans hhealth

theorem does_twinFrameReceive_decision (f : TwinFrame) (q k v : Byte) (w : BitVec 32) (c d : Code) (hpair : s.paired = true)
    (hcrc : f.crcOk = true) (hrecs : f.recs = [.decision q k v w c d]) (how : s.owner = true) : Does (.twinFrameReceive t f) s fun u =>
    u.twin.decisions = s.twin.decisions ∧ u.reg Reg.TW_LATE = s.reg Reg.TW_LATE := by
  have hown : (frameNoted f (s.at t)).owner = true :=
    (congrArg (· != 0) (frameNoted_onlyRegs f (s.at t) Reg.GL_STAT_OWNER 0 (by decide))).trans how
  have hrec : [SyncRec.decision q k v w c d].foldl State.syncRec (frameNoted f (s.at t)) = frameNoted f (s.at t) := if_pos hown
  have heffect := frameReceive_eq (s := s.at t) hpair hcrc
  rw [hrecs, hrec] at heffect
  have hlink := frameJudged_link f (frameNoted f (s.at t))
  refine does_of_effect hp (exec_twinFrameReceive t s f) heffect ⟨?_, ?_⟩
  · exact (ended_twin_part _ _ _ TwinSt.decisions fun _ _ _ => rfl).trans (hlink.decisions.trans rfl)
  · rw [ended_reg]
    exact (hlink.cells _ (by decide)).trans (frameNoted_onlyRegs f (s.at t) Reg.TW_LATE 0 (by decide))

/-! A slot without a frame. -/

theorem does_twinSlotMissing_idle
    (h : s.paired = false ∨ s.twin.rxAt = none ∨ ∃ r, s.twin.rxAt = some r ∧ max s.now t < r + 9 * edgeUs) : Does (.twinSlotMissing t) s fun u =>
    u.twin = s.twin ∧ OnlyRegsQuiet [] s u := by
  refine does_twin_idle hp (exec_twinSlotMissing t s) ?_
  unfold slotMissing
  rcases hr : (s.at t).twin.rxAt with _ | r
  · rfl
  · refine if_neg ?_
    rw [Bool.and_eq_true, not_and_or]
    rcases h with h | h | ⟨q, hq, hlt⟩
    · exact .inl (by rw [show (s.at t).paired = false from h]; decide)
    · exact absurd (hr.symm.trans h) (Option.some_ne_none r)
    · obtain rfl : r = q := Option.some.inj (hr.symm.trans hq)
      refine .inr ?_
      rw [State.elapsed, decide_eq_true_eq]
      exact Nat.not_le.mpr hlt

theorem does_twinSlotMissing (r : Nat) (hr : s.twin.rxAt = some r) (hpair : s.paired = true) (hdue : r + 9 * edgeUs ≤ max s.now t) :
    Does (.twinSlotMissing t) s fun u =>
    u.twin.missing = s.twin.missing + 1 ∧ u.twin.rxAt = some (r + 8 * edgeUs) ∧ u.twin.missAt = some (max s.now t) ∧
    u.reg Reg.TW_RXMISS = min (2 ^ Reg.TW_RXMISS.width - 1) (s.reg Reg.TW_RXMISS + 1) ∧ u.reg Reg.TWN_STAT_FIT = 0 ∧ u.owner = s.owner ∧
    (2 ≤ s.twin.missing → u.reg Reg.TWN_STAT_LINKUP = 0) ∧
    (2 ≤ s.twin.missing → s.owner = false → s.twin.actIn = true → s.twin.linkFault = false → u.twin.linkFault = true ∧ u.reg Reg.TWN_FLAGS_LINK = 1 ∧
      (s.reg Reg.TWN_STAT_FIT = 0 → Raised 0x9120 4 (u.reg Reg.TW_RXMISS) 1 s u)) := by
  let z := linkDowned (slotMissed r (s.at t))
  have heffect : slotMissing (s.at t) = z.linkFault.healthRefresh := by
    have hrow : ((s.at t).paired && (s.at t).elapsed r (9 * edgeUs)) = true := by
      rw [show (s.at t).paired = true from hpair, State.elapsed, decide_eq_true (show r + 9 * edgeUs ≤ (s.at t).now from hdue)]
      rfl
    unfold slotMissing
    rw [at_twin, hr]
    exact if_pos hrow
  have hz : ∀ f : Field, f.place ≠ Reg.TW_RXMISS.place → f.place ≠ Reg.TWN_STAT_LINKUP.place → z.reg f = s.reg f := linkDowned_reg r (s.at t)
  have hztwin := linkDowned_twin r (s.at t)
  have hzmiss : z.reg Reg.TW_RXMISS = min (2 ^ Reg.TW_RXMISS.width - 1) (s.reg Reg.TW_RXMISS + 1) := linkDowned_miss r (s.at t)
  obtain ⟨hzcore, hznow⟩ := linkDowned_core r (s.at t)
  have hsame := healthRefresh_same z.linkFault
  have hltwin := linkFault_twin z
  have hmissed : z.linkFault.twin.missAt = some z.linkFault.now := by
    rw [hltwin, linkFault_now]
    show z.twin.missAt = _
    rw [hztwin, hznow]
  have hbad := healthOk_of_missed hmissed
  have hreg : ∀ f : Field, onRecPages f = false → f.place ∉ healthFields.map Field.place → f.place ≠ Reg.TWN_FLAGS_LINK.place →
      z.linkFault.healthRefresh.reg f = z.reg f := fun f hf hh hl => (hsame.reg f hf hh).trans (linkFault_reg z f hf hl)
  have hrx : z.linkFault.healthRefresh.reg Reg.TW_RXMISS = z.reg Reg.TW_RXMISS := hreg _ (by decide) (by decide) (by decide)
  refine does_of_effect hp (exec_twinSlotMissing t s) heffect ?_
  simp only [ended_reg]
  refine ⟨?_, ?_, ?_, hrx.trans hzmiss, (healthRefresh_unfit hbad).1, ?_, fun h => ?_, fun h2 hown hact hlf => ?_⟩
  · refine (ended_twin_part _ _ _ TwinSt.missing fun _ _ _ => rfl).trans ((hsame.part TwinSt.missing fun _ _ => rfl).trans ?_)
    rw [hltwin]
    exact congrArg TwinSt.missing hztwin
  · refine (ended_twin_part _ _ _ TwinSt.rxAt fun _ _ _ => rfl).trans ((hsame.part TwinSt.rxAt fun _ _ => rfl).trans ?_)
    rw [hltwin]
    exact congrArg TwinSt.rxAt hztwin
  · refine (ended_twin_part _ _ _ TwinSt.missAt fun _ _ _ => rfl).trans ((hsame.part TwinSt.missAt fun _ _ => rfl).trans ?_)
    rw [hmissed, linkFault_now, hznow]
    rfl
  · unfold State.owner State.isSet
    rw [ended_reg, hreg _ (by decide) (by decide) (by decide), hz _ (by decide) (by decide)]
  · exact (hreg _ (by decide) (by decide) (by decide)).trans (linkDowned_linkup (s := s.at t) h)
  · have hfault : z.linkFault = faultTold z := by
      have hrow : 3 ≤ z.twin.missing ∧ z.owner = false ∧ z.twin.actIn = true ∧ z.twin.linkFault = false := by
        rw [hztwin]
        refine ⟨Nat.succ_le_succ h2, ?_, hact, hlf⟩
        exact (congrArg (· != 0) (hz Reg.GL_STAT_OWNER (by decide) (by decide))).trans hown
      exact if_pos hrow
    refine ⟨?_, ?_, fun hfit => raised_ended ?_⟩
    · refine (ended_twin_part _ _ _ TwinSt.linkFault fun _ _ _ => rfl).trans ((hsame.part TwinSt.linkFault fun _ _ => rfl).trans ?_)
      rw [hfault, faultTold, raise_twin _ _ _ _ _ _ (by decide)]
      rfl
    · refine (hsame.reg Reg.TWN_FLAGS_LINK (by decide) (by decide)).trans ?_
      rw [hfault, faultTold, raise_reg _ _ _ _ _ _ (by decide) _ (by decide)]
      exact reg_put_same _ _ _
    · rw [hrx]
      have hquiet := healthRefresh_quiet hbad ((linkFault_reg z _ (by decide) (by decide)).trans ((hz _ (by decide) (by decide)).trans hfit))
      rw [hquiet, hfault]
      refine raised_of_eq (u := faultTold z) ?_ rfl rfl rfl
      unfold faultTold
      refine raised_now (z := { z with twin.linkFault := true }.flag Reg.TWN_FLAGS_LINK) (sev := 4) (by decide) (congrArg CoreSt.sup hzcore) ?_
      exact (reg_put_other { z with twin.linkFault := true } _ _ _ (by decide)).trans (hz _ (by decide) (by decide))

/-! Decisions and reports (R375, R376). -/

theorem does_healthRecord_idle (h : s.paired = false ∨ s.owner = true ∨ s.supUp = false) : Does (.healthRecord t) s fun u =>
    u.twin = s.twin ∧ OnlyRegsQuiet [] s u := by
  refine does_twin_idle hp (exec_healthRecord t s) (if_neg ?_)
  have hno : ∀ a b c : Bool, (a = false ∨ b = true ∨ c = false) → ¬(a && !b && c) = true := by decide
  exact hno _ _ _ h

theorem does_healthRecord (hpair : s.paired = true) (how : s.owner = false) (hup : s.supUp = true) : Does (.healthRecord t) s fun u =>
    OnlyRegsQuiet [] s u ∧
    u.twin.sendQ = s.twin.sendQ ++ [SyncRec.health (BitVec.ofNat 8 s.twin.recSeq) (BitVec.ofNat 32 (s.reg Reg.TWN_HEALTH)) (BitVec.ofNat 16 (s.reg Reg.TW_ECCCOR))
      (BitVec.ofNat 16 (s.reg Reg.TW_PADERR)) (BitVec.ofNat 16 (s.reg Reg.TW_INJFAIL))] ∧ u.twin.healthAt = some (max s.now t) ∧
    u.twin.recSeq = (s.twin.recSeq + 1) % 256 := by
  have hrow : ((s.at t).paired && !(s.at t).owner && (s.at t).supUp) = true := by
    rw [show (s.at t).paired = true from hpair, show (s.at t).owner = false from how, show (s.at t).supUp = true from hup]
    rfl
  have htwin : (ended t s fun _ => healthReported (s.at t)).twin = (healthReported (s.at t)).twin :=
    ended_twin_same (f := fun _ => healthReported (s.at t)) (fun _ _ _ => rfl) rfl
  refine does_of_effect hp (exec_healthRecord t s) (if_pos hrow) ⟨onlyRegsQuiet_ended (onlyRegsQuiet_of_regs _ rfl), ?_, ?_, ?_⟩ <;>
    rw [htwin] <;> rfl

theorem does_decisionRecordTick_wait (q : Byte) (b : Bay) (w : BitVec 32) (c d : Code) (how : s.owner = false)
    (hd : s.twin.decisions = [.decision q (Config.decisionKind 0) (BitVec.ofNat 8 b) w c d]) (hdue : (s.at t).decisionDue c d = false) :
    Does (.decisionRecordTick t) s fun u => u.twin.decisions = s.twin.decisions ∧ OnlyRegsQuiet [] s u := by
  have heffect : (s.at t).decisionTick = { s.at t with twin.decisions := s.twin.decisions } := by
    rw [decisionTick_eq how, hd]
    simp only [List.filter_cons, decisionOf, hdue]
    rfl
  refine does_of_effect hp (exec_decisionRecordTick t s) heffect ⟨?_, onlyRegsQuiet_ended (onlyRegsQuiet_of_regs _ rfl)⟩
  exact (ended_twin_part _ _ _ TwinSt.decisions fun _ _ _ => rfl).trans rfl

theorem does_decisionRecordTick_due (q : Byte) (b : Bay) (w : BitVec 32) (c d : Code) (how : s.owner = false)
    (hd : s.twin.decisions = [.decision q (Config.decisionKind 0) (BitVec.ofNat 8 b) w c d]) (hdue : (s.at t).decisionDue c d = true) :
    Does (.decisionRecordTick t) s fun u => u.twin.decisions = [] ∧ OnlyRegsQuiet [Reg.PH_NT, Reg.TRK_NT] s u ∧
      u.regAt Reg.PH_NT b = w.toNat % 2 ^ Reg.PH_NT.width := by
  let z : State := { s.at t with twin.decisions := [] }
  have hb : (BitVec.ofNat 8 b.val).toNat = b.val := by
    rw [BitVec.toNat_ofNat]
    exact Nat.mod_eq_of_lt (Nat.lt_trans b.isLt (by decide))
  have happly : z.applyDecision (Config.decisionKind 0) (BitVec.ofNat 8 b) w = (z.putAt Reg.PH_NT b w.toNat).putAt Reg.TRK_NT b w.toNat := by
    unfold State.applyDecision
    dsimp only
    rw [find_kind_zero, hb]
    exact if_pos b.isLt
  have heffect : (s.at t).decisionTick = (z.putAt Reg.PH_NT b w.toNat).putAt Reg.TRK_NT b w.toNat := by
    rw [← happly, decisionTick_eq how, hd]
    simp only [List.filter_cons, decisionOf, hdue]
    rfl
  refine does_of_effect hp (exec_decisionRecordTick t s) heffect ⟨?_, onlyRegsQuiet_ended ?_, ?_⟩
  · exact (ended_twin_part _ _ _ TwinSt.decisions fun _ _ _ => rfl).trans rfl
  · exact onlyRegsQuiet_putAt (onlyRegsQuiet_putAt (onlyRegsQuiet_of_regs (u := z) _ rfl) _ _ _ (by decide)) _ _ _ (by decide)
  · rw [ended_regAt, regAt_putAt_other _ _ _ _ _ _ (by decide)]
    exact regAt_putAt_same _ _ _ _

end

/-- Settles O54: a frame sent, received or missing, the decisions and the report. -/
theorem twinLink : Obligations.TwinLink := by
  unfold Obligations.TwinLink
  intro t s hp
  refine ⟨fun h => ?_, does_twinFrameSlot hp, does_twinFrameReceive_bad hp, does_twinFrameReceive_plain hp, does_twinFrameReceive_decision hp,
    does_twinSlotMissing_idle hp, does_twinSlotMissing hp, fun h => ?_, fun q b w c d how hd => ⟨?_, ?_⟩, does_healthRecord_idle hp,
    does_healthRecord hp⟩
  · refine does_twin_idle hp (exec_twinFrameSlot t s) (if_pos ?_)
    rw [show (s.at t).paired = false from h]
    rfl
  · exact does_twin_idle hp (exec_decisionRecordTick t s) (if_pos h)
  · exact does_decisionRecordTick_wait hp q b w c d how hd
  · exact does_decisionRecordTick_due hp q b w c d how hd

end Sys2Proof.TwinFrames

namespace Sys2Proof.TwinFitness

open Sys2Proof Sys2Proof.Machine Sys2Proof.Laws Sys2Proof.LoadSteps Sys2Proof.ImageLoads Sys2Proof.Readings Sys2Proof.JournalFrame
  Sys2Proof.EventWrites Sys2Proof.TwinRules Sys2Proof.TwinFrames

/-! The tests of the pair (R379-R382, R386). -/

/-- The error of one channel noted. -/
def injectionNoted (ch : Nat) (err : Int) (s : State) : State :=
  if s.reg Reg.TWN_RTOL < err.natAbs then
    { s with twin.injBad := ch :: s.twin.injBad.filter (fun c => c != ch) }.bump Reg.TW_INJFAIL
  else { s with twin.injBad := s.twin.injBad.filter (fun c => c != ch) }

/-- The scrub's corrected and uncorrectable errors noted. -/
def scrubNoted (n : Nat) (bad : Bool) (s : State) : State :=
  if bad then { s.addTo Reg.TW_ECCCOR n with twin.eccAt := some (s.addTo Reg.TW_ECCCOR n).now } else s.addTo Reg.TW_ECCCOR n

theorem scrubNoted_eccAt (n : Nat) (bad : Bool) (s : State) :
    (scrubNoted n bad s).twin.eccAt = if bad then some s.now else s.twin.eccAt := by
  unfold scrubNoted
  split <;> rfl

theorem scrubNoted_now (n : Nat) (bad : Bool) (s : State) : (scrubNoted n bad s).now = s.now := by
  unfold scrubNoted
  split <;> rfl

theorem scrubNoted_count (n : Nat) (bad : Bool) (s : State) :
    (scrubNoted n bad s).reg Reg.TW_ECCCOR = min (2 ^ Reg.TW_ECCCOR.width - 1) (s.reg Reg.TW_ECCCOR + n) := by
  have hcor : (s.addTo Reg.TW_ECCCOR n).reg Reg.TW_ECCCOR = min (2 ^ Reg.TW_ECCCOR.width - 1) (s.reg Reg.TW_ECCCOR + n) := by
    rw [State.addTo, reg_put_same, satNat_mod]
  unfold scrubNoted
  split
  · show fieldGet (s.addTo Reg.TW_ECCCOR n).regs Reg.TW_ECCCOR 0 = _
    exact hcor
  · exact hcor

theorem healthBits_ecc (s : State) : (healthBits s).getD 3 false = !s.recent s.twin.eccAt := rfl

/-- An uncorrectable error takes bit 3 of the health word. -/
theorem scrubNoted_bit (n : Nat) (s : State) : (healthBits (scrubNoted n true s)).getD 3 false = false := by
  have hrecent : (scrubNoted n true s).recent (scrubNoted n true s).twin.eccAt = true := by
    rw [scrubNoted_eccAt, if_pos rfl, ← scrubNoted_now n true s]
    exact recent_now _
  rw [healthBits_ecc, hrecent]
  rfl

/-- FIT after TWN_FITT of every bit. -/
def fitJudged (s : State) : State :=
  if s.paired && !s.isSet Reg.TWN_STAT_FIT && s.ran s.twin.fitSince (s.reg Reg.TWN_FITT * edgeSec) then
    ((s.put Reg.TWN_STAT_FIT 1).flag Reg.TWN_FLAGS_FITCHG).raise 0x9130 1 0x14 (s.reg Reg.TWN_HEALTH) 0
  else s

/-- The end of a transfer noted. -/
def transferEnded (s : State) : State :=
  if (s.put Reg.TWN_STAT_XFER 0).owner then s.put Reg.TWN_STAT_XFER 0
  else { s.put Reg.TWN_STAT_XFER 0 with twin.synced := true, twin.unfit := false }

/-- The result of the known-answer test noted. -/
def katNoted (m : Nat) (ok : Bool) (s : State) : State := { s with twin.katOwn := some (m, ok), twin.katFail := m }

section
variable (t : Edges) (s : State)

theorem exec_periodicKat (m : Byte) : exec (.periodicKat t m) s =
    live t s fun s => if s.paired then { s with twin.katFail := m.toNat }.healthRefresh else s := rfl

theorem exec_referenceInjection (ch : Nat) (e : Int) : exec (.referenceInjection t ch e) s = live t s fun s =>
    if !s.paired then s else
      if s.reg Reg.TWN_RTOL < e.natAbs then
        ({ s with twin.injBad := ch :: s.twin.injBad.filter (fun c => c != ch) }.bump Reg.TW_INJFAIL).healthRefresh
      else { s with twin.injBad := s.twin.injBad.filter (fun c => c != ch) }.healthRefresh := rfl

theorem exec_eccScrub (n : Nat) (bad : Bool) : exec (.eccScrub t n bad) s =
    live t s fun s => if s.paired then (scrubNoted n bad s).healthRefresh else s := rfl

theorem exec_standbyFit : exec (.standbyFit t) s = live t s fun s => fitJudged s.healthRefresh := rfl

theorem exec_stateTransferDone : exec (.stateTransferDone t) s =
    live t s fun s => if s.paired && s.isSet Reg.TWN_STAT_XFER then (transferEnded s).healthRefresh else s := rfl

theorem exec_katDone (m : Byte) (ok : Bool) : exec (.katDone t m ok) s = live t s fun s =>
    if s.paired && s.twin.katAsked && s.twin.katOwn.isNone && s.twin.t0.isNone then (katNoted m.toNat ok s).healthRefresh.katResolve else s := rfl

end

section
variable {t : Edges} {s : State} (hp : s.core.powered = true)
include hp

theorem does_periodicKat (hpair : s.paired = true) (m : Byte) : Does (.periodicKat t m) s fun u =>
    u.twin.katFail = m.toNat ∧ bitOf (u.reg Reg.TWN_HEALTH) 1 = (m == 0) ∧
    bitOf (u.reg Reg.TWN_HEALTH) 0 = s.isSet Reg.GL_STAT_XTALOK ∧ bitOf (u.reg Reg.TWN_HEALTH) 7 = !s.isSet Reg.GL_STAT_GECKO ∧
    bitOf (u.reg Reg.TWN_HEALTH) 8 = s.twin.synced ∧
    (u.reg Reg.TWN_HEALTH ≠ 0x7FF → u.reg Reg.TWN_STAT_FIT = 0 ∧ u.twin.fitSince = none ∧
      (s.reg Reg.TWN_STAT_FIT = 1 → u.reg Reg.TWN_FLAGS_FITCHG = 1 ∧ Raised 0x9131 3 (u.reg Reg.TWN_HEALTH) (s.reg Reg.TWN_LASTATT) s u)) := by
  let z : State := { s.at t with twin.katFail := m.toNat }
  have hsame := healthRefresh_same z
  refine does_of_effect hp (exec_periodicKat t s m) (m := z.healthRefresh) (if_pos hpair) ?_
  simp only [ended_reg]
  refine ⟨(ended_twin_part _ _ _ TwinSt.katFail fun _ _ _ => rfl).trans (hsame.part TwinSt.katFail fun _ _ => rfl),
    (bitOf_healthRefresh z (by decide)).trans ?_, bitOf_healthRefresh z (by decide), bitOf_healthRefresh z (by decide),
    bitOf_healthRefresh z (by decide), fun hne => ?_⟩
  · show (m.toNat == 0) = (m == 0)
    rw [Bool.eq_iff_iff, beq_iff_eq, beq_iff_eq]
    exact ⟨fun h => BitVec.eq_of_toNat_eq h, fun h => by rw [h]; rfl⟩
  · rw [healthRefresh_word] at hne ⊢
    have hbad : healthOk z = false := by
      unfold healthOk
      rw [beq_eq_false_iff_ne.mpr hne]
      rfl
    refine ⟨(healthRefresh_unfit hbad).1, (ended_twin_part _ _ _ TwinSt.fitSince fun _ _ _ => rfl).trans (healthRefresh_unfit hbad).2, fun hfit => ?_⟩
    obtain ⟨hflag, hraised⟩ := healthRefresh_told (s := z) (z := s) hbad hfit rfl rfl
    exact ⟨hflag, raised_ended hraised⟩

theorem does_referenceInjection (hpair : s.paired = true) (ch : Nat) (e : Int) : Does (.referenceInjection t ch e) s fun u =>
    (ch ∈ u.twin.injBad ↔ s.reg Reg.TWN_RTOL < e.natAbs) ∧
    bitOf (u.reg Reg.TWN_HEALTH) 2 = u.twin.injBad.isEmpty ∧ (s.reg Reg.TWN_RTOL < e.natAbs → u.reg Reg.TWN_STAT_FIT = 0 ∧
      u.reg Reg.TW_INJFAIL = min (2 ^ Reg.TW_INJFAIL.width - 1) (s.reg Reg.TW_INJFAIL + 1)) ∧
    (e.natAbs ≤ s.reg Reg.TWN_RTOL → u.twin.injBad = s.twin.injBad.filter (fun c => c != ch) ∧ u.reg Reg.TW_INJFAIL = s.reg Reg.TW_INJFAIL) := by
  let z := injectionNoted ch e (s.at t)
  have heffect : (if !(s.at t).paired then s.at t else
      if (s.at t).reg Reg.TWN_RTOL < e.natAbs then
        ({ s.at t with twin.injBad := ch :: (s.at t).twin.injBad.filter (fun c => c != ch) }.bump Reg.TW_INJFAIL).healthRefresh
      else { s.at t with twin.injBad := (s.at t).twin.injBad.filter (fun c => c != ch) }.healthRefresh) = z.healthRefresh := by
    rw [show (s.at t).paired = true from hpair]
    show (if (s.at t).reg Reg.TWN_RTOL < e.natAbs then _ else _) = (injectionNoted ch e (s.at t)).healthRefresh
    unfold injectionNoted
    split <;> rfl
  have hsame := healthRefresh_same z
  have hinj : (ended t s fun _ => z.healthRefresh).twin.injBad = z.twin.injBad :=
    (ended_twin_part _ _ _ TwinSt.injBad fun _ _ _ => rfl).trans (hsame.part TwinSt.injBad fun _ _ => rfl)
  have hcount : z.healthRefresh.reg Reg.TW_INJFAIL = z.reg Reg.TW_INJFAIL := hsame.reg _ (by decide) (by decide)
  refine does_of_effect hp (exec_referenceInjection t s ch e) heffect ?_
  simp only [ended_reg]
  rw [hinj, hcount]
  refine ⟨?_, bitOf_healthRefresh z (by decide), fun hbad => ?_, fun hok => ?_⟩
  · show ch ∈ (injectionNoted ch e (s.at t)).twin.injBad ↔ _
    unfold injectionNoted
    split
    next h => exact ⟨fun _ => h, fun _ => List.mem_cons_self⟩
    next h => exact ⟨fun hmem => absurd (List.mem_filter.mp hmem).2 (by simp), fun h' => absurd h' h⟩
  · have hz : z = { s.at t with twin.injBad := ch :: s.twin.injBad.filter (fun c => c != ch) }.bump Reg.TW_INJFAIL := if_pos hbad
    have hword : healthOk z = false := by
      unfold healthOk
      rw [beq_eq_false_iff_ne.mpr (healthWord_ne (k := 2) (by decide) (by rw [hz]; rfl))]
      rfl
    refine ⟨(healthRefresh_unfit hword).1, ?_⟩
    rw [hz, State.bump, reg_put_same, satNat_mod]
    rfl
  · have hz : z = { s.at t with twin.injBad := s.twin.injBad.filter (fun c => c != ch) } := if_neg (Nat.not_lt.mpr hok)
    rw [hz]
    exact ⟨rfl, rfl⟩

theorem does_eccScrub (hpair : s.paired = true) (n : Nat) (bad : Bool) : Does (.eccScrub t n bad) s fun u =>
    u.twin.eccAt = (if bad then some (max s.now t) else s.twin.eccAt) ∧
    u.reg Reg.TW_ECCCOR = min (2 ^ Reg.TW_ECCCOR.width - 1) (s.reg Reg.TW_ECCCOR + n) ∧
    (bad = true → bitOf (u.reg Reg.TWN_HEALTH) 3 = false ∧ u.reg Reg.TWN_STAT_FIT = 0) := by
  have hsame := healthRefresh_same (scrubNoted n bad (s.at t))
  refine does_of_effect hp (exec_eccScrub t s n bad) (if_pos hpair) ?_
  simp only [ended_reg]
  refine ⟨(ended_twin_part _ _ _ TwinSt.eccAt fun _ _ _ => rfl).trans
      ((hsame.part TwinSt.eccAt fun _ _ => rfl).trans (scrubNoted_eccAt n bad (s.at t))),
    (hsame.reg _ (by decide) (by decide)).trans (scrubNoted_count n bad (s.at t)), ?_⟩
  rintro rfl
  have hbit := scrubNoted_bit n (s.at t)
  have hword : healthOk (scrubNoted n true (s.at t)) = false := by
    unfold healthOk
    rw [beq_eq_false_iff_ne.mpr (healthWord_ne (k := 3) (by decide) hbit)]
    rfl
  exact ⟨(bitOf_healthRefresh _ (by decide)).trans hbit, (healthRefresh_unfit hword).1⟩

/-! FIT, and the end of a transfer. -/

theorem does_stateTransferDone (hpair : s.paired = true) (hx : s.reg Reg.TWN_STAT_XFER = 1) (how : s.owner = false) :
    Does (.stateTransferDone t) s fun u => u.reg Reg.TWN_STAT_XFER = 0 ∧ u.twin.synced = true ∧
    u.twin.unfit = false ∧ bitOf (u.reg Reg.TWN_HEALTH) 8 = true := by
  have hrow : ((s.at t).paired && (s.at t).isSet Reg.TWN_STAT_XFER) = true := by
    rw [show (s.at t).paired = true from hpair, State.isSet, show (s.at t).reg Reg.TWN_STAT_XFER = 1 from hx]
    rfl
  have hz : transferEnded (s.at t) = { (s.at t).put Reg.TWN_STAT_XFER 0 with twin.synced := true, twin.unfit := false } := by
    have hown : ((s.at t).put Reg.TWN_STAT_XFER 0).owner = false := (congrArg (· != 0) (reg_put_other _ _ _ _ (by decide))).trans how
    exact if_neg (by rw [hown]; decide)
  have hsame := healthRefresh_same (transferEnded (s.at t))
  refine does_of_effect hp (exec_stateTransferDone t s) (if_pos hrow) ?_
  simp only [ended_reg]
  refine ⟨(hsame.reg _ (by decide) (by decide)).trans ?_,
    (ended_twin_part _ _ _ TwinSt.synced fun _ _ _ => rfl).trans ((hsame.part TwinSt.synced fun _ _ => rfl).trans ?_),
    (ended_twin_part _ _ _ TwinSt.unfit fun _ _ _ => rfl).trans ((hsame.part TwinSt.unfit fun _ _ => rfl).trans ?_),
    (bitOf_healthRefresh _ (by decide)).trans ?_⟩
  · rw [hz]
    exact reg_put_same (s.at t) Reg.TWN_STAT_XFER 0
  · rw [hz]
  · rw [hz]
  · rw [hz]
    rfl

omit hp in
theorem ran_none (s : State) (n : Nat) : s.ran none n = false := rfl

/-- A FIT just found. -/
def fitFound (s : State) : State :=
  ((s.put Reg.TWN_STAT_FIT 1).flag Reg.TWN_FLAGS_FITCHG).raise 0x9130 1 0x14 (s.reg Reg.TWN_HEALTH) 0

omit hp in
theorem fitFound_reg (s : State) : (fitFound s).reg Reg.TWN_STAT_FIT = 1 ∧ (fitFound s).reg Reg.TWN_FLAGS_FITCHG = 1 ∧
    (fitFound s).reg Reg.TWN_HEALTH = s.reg Reg.TWN_HEALTH := by
  unfold fitFound
  rw [raise_reg _ _ _ _ _ _ (by decide) _ (by decide), raise_reg _ _ _ _ _ _ (by decide) _ (by decide),
    raise_reg _ _ _ _ _ _ (by decide) _ (by decide), flag_eq]
  refine ⟨(reg_put_other _ _ _ _ (by decide)).trans (reg_put_same _ _ _), reg_put_same _ _ _,
    (reg_put_other _ _ _ _ (by decide)).trans (reg_put_other _ _ _ _ (by decide))⟩

omit hp in
theorem fitFound_twin (s : State) : (fitFound s).twin = s.twin := raise_twin _ _ _ _ _ _ (by decide)

/-- What FIT rests on (R382): a chip whose FIT is shown had it, or has held every condition for TWN_FITT. -/
theorem does_standbyFit_only : Does (.standbyFit t) s fun u =>
    (u.reg Reg.TWN_STAT_FIT = 1 → s.reg Reg.TWN_STAT_FIT = 1 ∨ s.paired = true ∧ s.owner = false ∧ s.twin.unfit = false ∧
      u.reg Reg.TWN_HEALTH = 0x7FF ∧ ∃ f, u.twin.fitSince = some f ∧ f + s.reg Reg.TWN_FITT * edgeSec ≤ max s.now t ∧
        u.reg Reg.TWN_FLAGS_FITCHG = 1) := by
  let z := (s.at t).healthRefresh
  have hsame := healthRefresh_same (s.at t)
  refine does_live hp (exec_standbyFit t s) ?_
  simp only [ended_reg]
  show (fitJudged z).reg Reg.TWN_STAT_FIT = 1 → _
  intro hfit
  rcases hok : healthOk (s.at t)
  · obtain ⟨hz0, hzs⟩ := healthRefresh_unfit hok
    have hrow : (z.paired && !z.isSet Reg.TWN_STAT_FIT && z.ran z.twin.fitSince (z.reg Reg.TWN_FITT * edgeSec)) = false := by
      rw [show z.twin.fitSince = none from hzs, ran_none, Bool.and_false]
    have hidle : fitJudged z = z := if_neg (by rw [hrow]; exact Bool.false_ne_true)
    rw [hidle] at hfit
    exact absurd (hz0.symm.trans hfit) (by decide)
  · have hall := hok
    simp only [healthOk, Bool.and_eq_true, beq_iff_eq, Bool.not_eq_true'] at hall
    obtain ⟨⟨⟨hword, hunfit⟩, hown⟩, -⟩ := hall
    by_cases hrow : (z.paired && !z.isSet Reg.TWN_STAT_FIT && z.ran z.twin.fitSince (z.reg Reg.TWN_FITT * edgeSec)) = true
    · have hfound : fitJudged z = fitFound z := if_pos hrow
      simp only [Bool.and_eq_true] at hrow
      obtain ⟨⟨hpair, -⟩, hran⟩ := hrow
      rcases hsince : z.twin.fitSince with _ | f
      · rw [hsince] at hran
        exact absurd hran Bool.false_ne_true
      · rw [hsince] at hran
        have hle : f + z.reg Reg.TWN_FITT * edgeSec ≤ z.now := of_decide_eq_true hran
        rw [hsame.reg Reg.TWN_FITT (by decide) (by decide), hsame.now] at hle
        have hpair' : s.paired = true := (congrArg (· != 0) (hsame.reg Reg.TWN_CFG_EN (by decide) (by decide))).symm.trans hpair
        obtain ⟨-, hflag, hhealth⟩ := fitFound_reg z
        refine .inr ⟨hpair', hown, hunfit, ?_, f, ?_, hle, ?_⟩
        · show (fitJudged z).reg Reg.TWN_HEALTH = _
          rw [hfound, hhealth]
          exact (healthRefresh_word (s.at t)).trans hword
        · refine (ended_twin_part _ _ _ TwinSt.fitSince fun _ _ _ => rfl).trans ?_
          show (fitJudged z).twin.fitSince = _
          rw [hfound, fitFound_twin, hsince]
        · show (fitJudged z).reg Reg.TWN_FLAGS_FITCHG = 1
          rw [hfound, hflag]
    · have hidle : fitJudged z = z := if_neg hrow
      rw [hidle] at hfit
      refine .inl (Eq.trans ?_ hfit)
      show _ = (s.at t).healthRefresh.reg Reg.TWN_STAT_FIT
      rw [healthRefresh_ok hok]
      exact (reg_put_other (s.at t) _ _ _ (by decide)).symm

theorem does_standbyFit {f : Nat} (hsince : s.twin.fitSince = some f) (hpair : s.paired = true) (how : s.owner = false) (hup : s.supUp = true)
    (hunfit : s.twin.unfit = false) (hword : (s.at t).healthWord = 0x7FF) (hfit : s.reg Reg.TWN_STAT_FIT = 0)
    (hdue : f + s.reg Reg.TWN_FITT * edgeSec ≤ max s.now t) : Does (.standbyFit t) s fun u =>
    u.reg Reg.TWN_STAT_FIT = 1 ∧ Raised 0x9130 1 0x7FF 0 s u := by
  have hok : healthOk (s.at t) = true := by
    unfold healthOk
    rw [hword, at_twin, hunfit, show (s.at t).owner = false from how, show (s.at t).supUp = true from hup]
    rfl
  have heq := healthRefresh_ok hok
  rw [at_twin, hsince] at heq
  let z : State := { healthShown (s.at t) with twin.fitSince := some f }
  have hz : ∀ g : Field, g.place ≠ Reg.TWN_HEALTH.place → z.reg g = s.reg g := fun g hg => reg_put_other (s.at t) _ _ _ hg
  have hrow : (z.paired && !z.isSet Reg.TWN_STAT_FIT && z.ran z.twin.fitSince (z.reg Reg.TWN_FITT * edgeSec)) = true := by
    have hpair' : z.paired = true := (congrArg (· != 0) (hz Reg.TWN_CFG_EN (by decide))).trans hpair
    have hran : z.ran z.twin.fitSince (z.reg Reg.TWN_FITT * edgeSec) = true := by
      rw [hz Reg.TWN_FITT (by decide)]
      exact decide_eq_true hdue
    rw [hpair', State.isSet, hz Reg.TWN_STAT_FIT (by decide), hfit, hran]
    rfl
  have heffect : fitJudged (s.at t).healthRefresh = fitFound z := by
    rw [heq]
    exact if_pos hrow
  refine does_of_effect hp (exec_standbyFit t s) heffect ⟨?_, raised_ended ?_⟩
  · rw [ended_reg]
    exact (fitFound_reg z).1
  · have hzword : z.reg Reg.TWN_HEALTH = 0x7FF := (healthShown_word (s.at t)).trans hword
    unfold fitFound
    rw [hzword]
    refine raised_now (z := (z.put Reg.TWN_STAT_FIT 1).flag Reg.TWN_FLAGS_FITCHG) (by decide) rfl ?_
    exact (reg_put_other _ _ _ _ (by decide)).trans ((reg_put_other _ _ _ _ (by decide)).trans (hz _ (by decide)))

end

/-! The known-answer tests decide (R380, R384). -/

/-- A decision taken: the tests are no longer asked for, and comparison is held. -/
def decisionTaken (s : State) : State := { s with twin.katAsked := false, twin.held := true, twin.mism := 0 }

/-- A row of R380's table noted. -/
def rowNoted (n : Nat) (s : State) : State := ((decisionTaken s).takeFree.2.put Reg.TWN_LASTATT n).flag Reg.TWN_FLAGS_ATTRIB

theorem katResolve_waits {s : State} (h : s.twin.katPartner = none) : s.katResolve = s := by
  unfold State.katResolve
  rw [h]
  split
  · rfl
  · split <;> simp_all

/-- The active's own test and its partner's fall under the rows of the table as the active's and the standby's. -/
theorem katResolve_eq {s : State} {m : Nat} {ok pass : Bool} (hask : s.twin.katAsked = true) (hown : s.twin.katOwn = some (m, ok))
    (hpart : s.twin.katPartner = some pass) : ∃ a b : Bool, ∃ own partner : Nat, s.katResolve =
      if s.owner then (decisionTaken s).resolveRow (m == 0) pass a b own partner m
      else (decisionTaken s).resolveRow pass (m == 0) b a own partner m := by
  unfold State.katResolve
  rw [hask, hown, hpart]
  exact ⟨_, _, _, _, rfl⟩

section
variable (s : State) (a b : Bool) (own partner m : Nat)

theorem resolveRow_active : (decisionTaken s).resolveRow false true a b own partner m =
    ((rowNoted 1 s).raise 0x9111 4 0x14 (own + 256 * partner) m).yieldFit := rfl

theorem resolveRow_standby : (decisionTaken s).resolveRow true false a b own partner m =
    ((rowNoted 2 s).raise 0x9111 4 0x14 (own + 256 * partner) m).becomeUnfit := rfl

theorem resolveRow_both : (decisionTaken s).resolveRow false false a b own partner m =
    ((rowNoted 3 s).raise 0x9114 6 0x14 3 (Config.freeValue s.free)).becomeUnfit := rfl

theorem resolveRow_neither (h : s.digestDiff = none) : (decisionTaken s).resolveRow true true a b own partner m =
    ((rowNoted 4 s).raise 0x9113 4 0x14 0 (Config.freeValue s.free)).transferStart.becomeUnfit := by
  have hd : (decisionTaken s).takeFree.2.digestDiff = none := h
  show (match (decisionTaken s).takeFree.2.digestDiff with | none => _ | some _ => _) = _
  rw [hd]
  rfl

end

theorem rowNoted_other (n : Nat) (s : State) {f : Field} (h1 : f.place ≠ Reg.TWN_LASTATT.place) (h2 : f.place ≠ Reg.TWN_FLAGS_ATTRIB.place) :
    (rowNoted n s).reg f = s.reg f := (reg_put_other _ _ _ _ h2).trans (reg_put_other (decisionTaken s).takeFree.2 _ _ _ h1)

/-- What an event after a row of the table leaves. -/
theorem rowNoted_reg {n : Nat} (hn : n < 2 ^ Reg.TWN_LASTATT.width) {s u : State} (h : SameButRecorder (rowNoted n s) u) :
    u.reg Reg.TWN_LASTATT = n ∧ u.reg Reg.TWN_FLAGS_ATTRIB = 1 ∧ u.owner = s.owner ∧ u.mode = s.mode ∧
    u.reg Reg.TWN_STAT_PFIT = s.reg Reg.TWN_STAT_PFIT := by
  have hother : ∀ f : Field, onRecPages f = false → f.place ≠ Reg.TWN_LASTATT.place → f.place ≠ Reg.TWN_FLAGS_ATTRIB.place →
      u.reg f = s.reg f := fun f hf h1 h2 =>
    (h.cells f hf 0).trans (rowNoted_other n s h1 h2)
  refine ⟨?_, ?_, congrArg (· != 0) (hother Reg.GL_STAT_OWNER (by decide) (by decide) (by decide)), hother Reg.GL_MODE (by decide) (by decide) (by decide),
    hother _ (by decide) (by decide) (by decide)⟩
  · exact (h.cells Reg.TWN_LASTATT (by decide) 0).trans
      ((reg_put_other _ _ _ _ (by decide)).trans ((reg_put_same _ _ _).trans (Nat.mod_eq_of_lt hn)))
  · exact (h.cells Reg.TWN_FLAGS_ATTRIB (by decide) 0).trans (reg_put_same _ _ _)

theorem rowNoted_twin {n : Nat} {s u : State} (h : SameButRecorder (rowNoted n s) u) : u.twin = (decisionTaken s).twin := by
  rw [h.rest]
  rfl

/-- What UNFIT leaves and takes. -/
theorem becomeUnfit_facts (s : State) : s.becomeUnfit.reg Reg.TWN_LASTATT = s.reg Reg.TWN_LASTATT ∧
    s.becomeUnfit.reg Reg.TWN_STAT_XFER = s.reg Reg.TWN_STAT_XFER ∧ s.becomeUnfit.owner = s.owner ∧ s.becomeUnfit.mode = s.mode ∧
    (s.owner = false → s.becomeUnfit.twin.unfit = true ∧ s.becomeUnfit.reg Reg.TWN_STAT_FIT = 0) := by
  unfold State.becomeUnfit
  split
  next h => exact ⟨rfl, rfl, rfl, rfl, fun hno => absurd (h.symm.trans hno) (by decide)⟩
  next h =>
    have hsame := unfitNow_same { s with twin.unfit := true, twin.fitSince := none }
    exact ⟨hsame.reg _ (by decide) (by decide), hsame.reg _ (by decide) (by decide), hsame.owner, hsame.mode, fun _ =>
      ⟨hsame.part TwinSt.unfit fun _ _ => rfl, unfitNow_reg_fit _⟩⟩

/-- What the release of the outputs to SHADOW leaves. -/
theorem enterShadow_reg (s : State) (cause : Nat) {f : Field} (hpage : Nat.testBit 0x10000000 f.onPage = false)
    (hf : f.place ∉ modeFields.map Field.place) (hrec : f.place ∉ recorderFields.map Field.place) : (s.enterShadow cause).reg f = s.reg f :=
  ((frame_estFirst (P := 0xc0000000) (G := 0x10000000) (Frame.refl _ _ _) (by decide) (by decide)).f_regs f 0 hpage).trans
    (onlyRegs_changeMode (l := modeFields) (u := { s with core.toTadpole := none }) (fun _ _ _ _ => rfl) (fun g hg => List.mem_map_of_mem hg)
      modeShadow cause f 0 hf hrec)

theorem enterShadow_actOut (s : State) (cause : Nat) : (s.enterShadow cause).twin.actOut = s.twin.actOut :=
  twin_part_of_frame (frame_enterShadow (Frame.refl 0xcc0061c78 0x400500c010000024 s) cause (by decide) (by decide)) (by decide) TwinSt.actOut fun _ => rfl

theorem enterShadow_part (s : State) (cause : Nat) {α : Type} (g : TwinSt → α) (hg : ∀ w, g (twinRest w) = g w) :
    g (s.enterShadow cause).twin = g s.twin :=
  twin_part_of_frame (frame_enterShadow (Frame.refl 0xcc0061c78 0x400500c010000024 s) cause (by decide) (by decide)) (by decide) g hg

theorem release_facts (s : State) (trig : Nat) (back : Bool) : (s.release trig back).owner = false ∧
    (s.release trig back).reg Reg.TWN_LASTATT = s.reg Reg.TWN_LASTATT ∧ (s.release trig back).reg Reg.TWN_FLAGS_ATTRIB = s.reg Reg.TWN_FLAGS_ATTRIB ∧
    (s.release trig back).twin.actOut = false ∧ (s.release trig back).twin.katAsked = s.twin.katAsked ∧ (s.release trig back).twin.held = s.twin.held := by
  unfold State.release State.roleShow State.owner State.isSet
  dsimp only
  simp (disch := decide) only [flag_eq, reg_put_other, reg_put_same, put_twin]
  exact ⟨rfl, rfl, rfl, trivial, trivial, trivial⟩

/-- R384: the outputs given back. -/
theorem yield_facts {s : State} (h : s.owner = true) (trig : Nat) (back : Bool) : (s.yield trig back).owner = false ∧
    (s.yield trig back).reg Reg.TWN_LASTATT = s.reg Reg.TWN_LASTATT ∧ (s.yield trig back).reg Reg.TWN_FLAGS_ATTRIB = s.reg Reg.TWN_FLAGS_ATTRIB ∧
    (s.yield trig back).twin.actOut = false ∧ (s.yield trig back).twin.katAsked = s.twin.katAsked ∧ (s.yield trig back).twin.held = s.twin.held := by
  obtain ⟨hown, hatt, hflag, hact, hask, hheld⟩ := release_facts s trig back
  unfold State.yield
  rw [h]
  dsimp only
  rw [if_neg (by decide)]
  rw [raise_reg _ _ _ _ _ _ (by decide) _ (by decide), raise_reg _ _ _ _ _ _ (by decide) _ (by decide), raise_twin _ _ _ _ _ _ (by decide)]
  refine ⟨(congrArg (· != 0) (raise_reg _ _ _ _ _ _ (by decide) Reg.GL_STAT_OWNER (by decide))).trans ?_, ?_⟩
  · split
    · exact (congrArg (· != 0) (enterShadow_reg _ _ (by decide) (by decide) (by decide))).trans hown
    · exact hown
  · split
    · exact ⟨(enterShadow_reg _ _ (by decide) (by decide) (by decide)).trans hatt, (enterShadow_reg _ _ (by decide) (by decide) (by decide)).trans hflag,
        (enterShadow_part _ _ TwinSt.actOut fun _ => rfl).trans hact, (enterShadow_part _ _ TwinSt.katAsked fun _ => rfl).trans hask,
        (enterShadow_part _ _ TwinSt.held fun _ => rfl).trans hheld⟩
    · exact ⟨hatt, hflag, hact, hask, hheld⟩

/-! The chip's own test done. -/

/-- A mask other than 0 is a test that failed. -/
theorem mask_fails {m : Byte} (h : m ≠ 0) : (m.toNat == 0) = false := beq_eq_false_iff_ne.mpr fun e => h (BitVec.eq_of_toNat_eq e)

theorem ended_owner (t : Edges) (s : State) (f : State → State) : (ended t s f).owner = (f (s.at t)).owner :=
  congrArg (· != 0) (ended_reg t s f Reg.GL_STAT_OWNER)

theorem ended_mode (t : Edges) (s : State) (f : State → State) : (ended t s f).mode = (f (s.at t)).mode :=
  ended_reg t s f Reg.GL_MODE

section
variable {t : Edges} {s : State} (hp : s.core.powered = true) (hpair : s.paired = true) (hask : s.twin.katAsked = true)
  (hown : s.twin.katOwn = none) (ht0 : s.twin.t0 = none)
include hp hpair hask hown ht0

/-- What the test's result shows before the decision. -/
def katShown (m : Nat) (ok : Bool) (s : State) : State := (katNoted m ok s).healthRefresh

omit hp hpair hown ht0 in
theorem katShown_asked (m : Nat) (ok : Bool) : (katShown m ok (s.at t)).twin.katAsked = true :=
  ((healthRefresh_same _).part TwinSt.katAsked fun _ _ => rfl).trans hask

omit hp hpair hask hown ht0

theorem katShown_own (m : Nat) (ok : Bool) : (katShown m ok s).twin.katOwn = some (m, ok) :=
  (healthRefresh_same _).part TwinSt.katOwn fun _ _ => rfl

theorem katShown_partner (m : Nat) (ok : Bool) : (katShown m ok s).twin.katPartner = s.twin.katPartner :=
  (healthRefresh_same _).part TwinSt.katPartner fun _ _ => rfl

theorem katShown_actOut (m : Nat) (ok : Bool) : (katShown m ok s).twin.actOut = s.twin.actOut :=
  (healthRefresh_same _).part TwinSt.actOut fun _ _ => rfl

theorem katShown_owner (m : Nat) (ok : Bool) : (katShown m ok s).owner = s.owner := (healthRefresh_same _).owner

theorem katShown_mode (m : Nat) (ok : Bool) : (katShown m ok s).mode = s.mode := (healthRefresh_same _).mode

theorem katShown_reg (m : Nat) (ok : Bool) {f : Field} (hf : onRecPages f = false) (hj : f.place ∉ healthFields.map Field.place) :
    (katShown m ok s).reg f = s.reg f := (healthRefresh_same _).reg f hf hj

theorem katShown_digestDiff (m : Nat) (ok : Bool) : (katShown m ok s).digestDiff = s.digestDiff := by
  have hs := healthRefresh_same (katNoted m ok s)
  unfold State.digestDiff
  rw [katShown_reg m ok (by decide) (by decide), show (katShown m ok s).twin.own = s.twin.own from hs.part TwinSt.own fun _ _ => rfl,
    show (katShown m ok s).twin.partner = s.twin.partner from hs.part TwinSt.partner fun _ _ => rfl]

include hp hpair hask hown ht0

theorem does_katDone {m : Byte} {ok : Bool} {w : State} (hw : (katShown m.toNat ok (s.at t)).katResolve = w) {P : State → Prop}
    (hP : P (ended t s fun _ => w)) : Does (.katDone t m ok) s P := by
  refine does_of_effect hp (exec_katDone t s m ok) (Eq.trans (if_pos ?_) hw) hP
  rw [at_twin, hask, hown, ht0, show (s.at t).paired = true from hpair]
  rfl

theorem does_katDone_waits (m : Byte) (ok : Bool) (hpart : s.twin.katPartner = none) : Does (.katDone t m ok) s fun u =>
    u.twin.katOwn = some (m.toNat, ok) ∧ u.twin.katAsked = true ∧ u.owner = s.owner := by
  refine does_katDone hp hpair hask hown ht0 (katResolve_waits ((katShown_partner _ _).trans hpart)) ⟨?_, ?_, ?_⟩
  · exact (ended_twin_part _ _ _ TwinSt.katOwn fun _ _ _ => rfl).trans (katShown_own _ _)
  · exact (ended_twin_part _ _ _ TwinSt.katAsked fun _ _ _ => rfl).trans (katShown_asked hask _ _)
  · exact (ended_owner _ _ _).trans (katShown_owner _ _)

omit hp hpair hown ht0 in
/-- The row of the table a result falls under. -/
theorem katShown_resolve (m : Nat) (ok : Bool) {pass : Bool} (hpart : s.twin.katPartner = some pass) : ∃ a b : Bool, ∃ own partner : Nat,
    (katShown m ok (s.at t)).katResolve =
      if s.owner then (decisionTaken (katShown m ok (s.at t))).resolveRow (m == 0) pass a b own partner m
      else (decisionTaken (katShown m ok (s.at t))).resolveRow pass (m == 0) b a own partner m := by
  obtain ⟨a, b, own, partner, heq⟩ := katResolve_eq (katShown_asked (t := t) hask m ok) (katShown_own m ok) ((katShown_partner m ok).trans hpart)
  rw [katShown_owner] at heq
  exact ⟨a, b, own, partner, heq⟩

theorem does_katDone_active {m : Byte} (ok : Bool) (hpart : s.twin.katPartner = some true) (hm : m ≠ 0) (how : s.owner = true) :
    Does (.katDone t m ok) s fun u => u.reg Reg.TWN_LASTATT = 1 ∧ u.reg Reg.TWN_FLAGS_ATTRIB = 1 ∧
    u.twin.katAsked = false ∧ u.twin.held = true ∧ u.owner = (s.reg Reg.TWN_STAT_PFIT == 0) ∧ u.twin.actOut = (s.twin.actOut && s.reg Reg.TWN_STAT_PFIT == 0) := by
  obtain ⟨a, b, own, partner, heq⟩ := katShown_resolve hask (t := t) m.toNat ok hpart
  rw [how, if_pos rfl, mask_fails hm, resolveRow_active] at heq
  have hrec := raise4_rec (rowNoted 1 (katShown m.toNat ok (s.at t))) 0x9111 4 0x14 (own + 256 * partner) m.toNat
    (rowNoted 1 (katShown m.toNat ok (s.at t))).angle ((rowNoted 1 (katShown m.toNat ok (s.at t))).reg Reg.WHL_CYC) (by decide)
  change SameButRecorder _ ((rowNoted 1 (katShown m.toNat ok (s.at t))).raise 0x9111 4 0x14 (own + 256 * partner) m.toNat) at hrec
  obtain ⟨hatt, hflag, howner, -, hpfit⟩ := rowNoted_reg (by decide) hrec
  have htwin := rowNoted_twin hrec
  refine does_katDone hp hpair hask hown ht0 heq ?_
  generalize (rowNoted 1 (katShown m.toNat ok (s.at t))).raise 0x9111 4 0x14 (own + 256 * partner) m.toNat = z at *
  rw [katShown_owner] at howner
  rw [katShown_reg _ _ (by decide) (by decide)] at hpfit
  have hpart : ∀ {α : Type} (g : TwinSt → α), (∀ (w : TwinSt) (q : List SyncRec) (n : Nat), g { w with sendQ := q, recSeq := n } = g w) →
      g (ended t s fun _ => z.yieldFit).twin = g z.yieldFit.twin := fun g hg => ended_twin_part _ _ _ g hg
  rw [ended_reg, ended_reg, ended_owner, hpart TwinSt.katAsked fun _ _ _ => rfl, hpart TwinSt.held fun _ _ _ => rfl,
    hpart TwinSt.actOut fun _ _ _ => rfl]
  have hact : z.twin.actOut = s.twin.actOut := (congrArg TwinSt.actOut htwin).trans (katShown_actOut (s := s.at t) _ _)
  have hz : z.owner = true := howner.trans how
  by_cases hset : z.isSet Reg.TWN_STAT_PFIT = true
  · have hfit : (s.reg Reg.TWN_STAT_PFIT == 0) = false := by
      have hne : s.reg Reg.TWN_STAT_PFIT ≠ 0 := fun h0 => absurd hset (by rw [State.isSet, hpfit, at_reg, h0]; exact Bool.false_ne_true)
      exact beq_eq_false_iff_ne.mpr hne
    obtain ⟨hfree, hlast, hnote, hlow, hasked, hheld⟩ := yield_facts hz 1 true
    have hy : z.yieldFit = z.yield 1 true := if_pos ⟨hz, hset⟩
    rw [hy, hfree, hlast, hnote, hlow, hasked, hheld, hfit, htwin, Bool.and_false]
    exact ⟨hatt, hflag, rfl, rfl, rfl, rfl⟩
  · have hfit : (s.reg Reg.TWN_STAT_PFIT == 0) = true := by
      rw [State.isSet, hpfit, at_reg] at hset
      exact (Bool.not_eq_false _).mp fun h => hset (by rw [bne, h]; rfl)
    have hy : z.yieldFit = z := if_neg fun h => hset h.2
    rw [hy, hz, hact, hfit, htwin, Bool.and_true]
    exact ⟨hatt, hflag, rfl, rfl, rfl, rfl⟩

/-- The rows of the table that end with a standby that is not FIT. -/
theorem does_katDone_unfit {m : Byte} {ok : Bool} {n : Nat} {z : State} (heq : (katShown m.toNat ok (s.at t)).katResolve = z.becomeUnfit)
    (hatt : z.reg Reg.TWN_LASTATT = n) (howner : z.owner = (katShown m.toNat ok (s.at t)).owner)
    (hmode : z.mode = (katShown m.toNat ok (s.at t)).mode) : Does (.katDone t m ok) s fun u => u.reg Reg.TWN_LASTATT = n ∧
    u.owner = s.owner ∧ u.mode = s.mode ∧ u.reg Reg.TWN_STAT_XFER = z.reg Reg.TWN_STAT_XFER ∧
    (s.owner = false → u.twin.unfit = true ∧ u.reg Reg.TWN_STAT_FIT = 0) := by
  obtain ⟨hlast, hxfer, hown', hmode', hunfit⟩ := becomeUnfit_facts z
  rw [katShown_owner] at howner
  rw [katShown_mode] at hmode
  refine does_katDone hp hpair hask hown ht0 heq ⟨?_, ?_, ?_, ?_, fun hno => ?_⟩
  · exact (ended_reg _ _ _ _).trans (hlast.trans hatt)
  · exact (ended_owner _ _ _).trans (hown'.trans howner)
  · exact (ended_mode _ _ _).trans (hmode'.trans hmode)
  · exact (ended_reg _ _ _ _).trans hxfer
  · obtain ⟨hset, hfit⟩ := hunfit (howner.trans hno)
    exact ⟨(ended_twin_part _ _ _ TwinSt.unfit fun _ _ _ => rfl).trans hset, (ended_reg _ _ _ _).trans hfit⟩

theorem does_katDone_standby {m : Byte} (ok : Bool) (hpart : s.twin.katPartner = some true) (hm : m ≠ 0) (how : s.owner = false) :
    Does (.katDone t m ok) s fun u => u.reg Reg.TWN_LASTATT = 2 ∧ u.twin.unfit = true ∧ u.reg Reg.TWN_STAT_FIT = 0 ∧
    u.owner = false ∧ u.mode = s.mode := by
  obtain ⟨a, b, own, partner, heq⟩ := katShown_resolve hask (t := t) m.toNat ok hpart
  rw [how, if_neg Bool.false_ne_true, mask_fails hm, resolveRow_standby] at heq
  obtain ⟨hatt, -, howner, hmode, -⟩ := rowNoted_reg (n := 2) (s := katShown m.toNat ok (s.at t)) (by decide)
    (raise4_rec _ 0x9111 4 0x14 (own + 256 * partner) m.toNat _ _ (by decide))
  exact (does_katDone_unfit hp hpair hask hown ht0 heq hatt howner hmode).imp fun u ⟨hu, hlast, hown', hmode', _, hunfit⟩ =>
    ⟨hu, hlast, (hunfit how).1, (hunfit how).2, hown'.trans how, hmode'⟩

theorem does_katDone_both {m : Byte} (ok : Bool) (hpart : s.twin.katPartner = some false) (hm : m ≠ 0) (hprob : s.reg Reg.IMG_STAT_PROB ≠ 1) :
    Does (.katDone t m ok) s fun u => u.reg Reg.TWN_LASTATT = 3 ∧ u.owner = s.owner ∧ u.mode = s.mode ∧
    (s.owner = false → u.twin.unfit = true) := by
  obtain ⟨a, b, own, partner, heq⟩ := katShown_resolve hask (t := t) m.toNat ok hpart
  rw [mask_fails hm, resolveRow_both, resolveRow_both, ite_self] at heq
  have hprob' : (rowNoted 3 (katShown m.toNat ok (s.at t))).reg Reg.IMG_STAT_PROB ≠ 1 := by
    rw [rowNoted_other 3 _ (by decide) (by decide), katShown_reg _ _ (by decide) (by decide)]
    exact hprob
  obtain ⟨hatt, -, howner, hmode, -⟩ := rowNoted_reg (n := 3) (by decide) (raise4_rec_high _ 0x9114 6 0x14 3 _ _ _ hprob')
  exact (does_katDone_unfit hp hpair hask hown ht0 heq hatt howner hmode).imp fun u ⟨hu, hlast, hown', hmode', _, hunfit⟩ =>
    ⟨hu, hlast, hown', hmode', fun hno => (hunfit hno).1⟩

theorem does_katDone_neither (ok : Bool) (hpart : s.twin.katPartner = some true) (hdiff : (s.at t).digestDiff = none) :
    Does (.katDone t 0 ok) s fun u => u.reg Reg.TWN_LASTATT = 4 ∧ u.reg Reg.TWN_STAT_XFER = 1 ∧ u.owner = s.owner ∧
    (s.owner = false → u.twin.unfit = true) := by
  obtain ⟨a, b, own, partner, heq⟩ := katShown_resolve hask (t := t) 0 ok hpart
  have hdiff' := (katShown_digestDiff 0 ok).trans hdiff
  rw [show ((0 : Nat) == 0) = true from rfl, resolveRow_neither _ _ _ _ _ _ hdiff', resolveRow_neither _ _ _ _ _ _ hdiff', ite_self] at heq
  have hrec : SameButRecorder (rowNoted 4 (katShown 0 ok (s.at t)))
    ((rowNoted 4 (katShown 0 ok (s.at t))).raise 0x9113 4 0x14 0 (Config.freeValue (katShown 0 ok (s.at t)).free)) :=
    raise4_rec _ _ _ _ _ _ _ _ (by decide)
  obtain ⟨hatt, -, howner, hmode, -⟩ := rowNoted_reg (by decide) hrec
  generalize (rowNoted 4 (katShown 0 ok (s.at t))).raise 0x9113 4 0x14 0 (Config.freeValue (katShown 0 ok (s.at t)).free) = z at *
  have hother : ∀ f : Field, f.place ≠ Reg.TWN_STAT_XFER.place → z.transferStart.reg f = z.reg f := fun f hf => reg_put_other z _ _ _ hf
  have hset : z.transferStart.reg Reg.TWN_STAT_XFER = 1 := reg_put_same z _ _
  exact (does_katDone_unfit hp hpair hask hown ht0 (m := 0) heq ((hother _ (by decide)).trans hatt)
    ((congrArg (· != 0) (hother Reg.GL_STAT_OWNER (by decide))).trans howner) ((hother Reg.GL_MODE (by decide)).trans hmode)).imp
    fun u ⟨hu, hlast, hown', _, hxfer, hunfit⟩ => ⟨hu, hlast, hxfer.trans hset, hown', fun hno => (hunfit hno).1⟩

end

/-! The tests without a pair, and with nothing asked for. -/

theorem does_tests_unpaired {t : Edges} {s : State} (hp : s.core.powered = true) (hpair : s.paired = false) (m : Byte) (ch : Nat) (e : Int) (n : Nat) (bad : Bool) :
    let still := fun u : State => u.twin = s.twin ∧ OnlyRegsQuiet [] s u
    Does (.periodicKat t m) s still ∧ Does (.referenceInjection t ch e) s still ∧ Does (.eccScrub t n bad) s still ∧
    Does (.stateTransferDone t) s still ∧ Does (.katDone t m bad) s still := by
  have hno : (s.at t).paired = false := hpair
  have hne : ¬(s.at t).paired = true := by rw [hno]; exact Bool.false_ne_true
  refine ⟨does_twin_idle hp (exec_periodicKat t s m) (if_neg hne), does_twin_idle hp (exec_referenceInjection t s ch e) (if_pos ?_),
    does_twin_idle hp (exec_eccScrub t s n bad) (if_neg hne), does_twin_idle hp (exec_stateTransferDone t s) (if_neg ?_),
    does_twin_idle hp (exec_katDone t s m bad) (if_neg ?_)⟩
  · rw [hno]
    rfl
  · rw [hno, Bool.false_and]
    exact Bool.false_ne_true
  · rw [hno, Bool.false_and, Bool.false_and, Bool.false_and]
    exact Bool.false_ne_true

theorem does_stateTransferDone_idle {t : Edges} {s : State} (hp : s.core.powered = true) (hx : s.reg Reg.TWN_STAT_XFER = 0) :
    Does (.stateTransferDone t) s fun u => u.twin = s.twin ∧ OnlyRegsQuiet [] s u := by
  refine does_twin_idle hp (exec_stateTransferDone t s) (if_neg ?_)
  rw [State.isSet, at_reg, hx, show ((0 : Nat) != 0) = false from rfl, Bool.and_false]
  exact Bool.false_ne_true

theorem does_katDone_idle {t : Edges} {s : State} (hp : s.core.powered = true)
    (h : s.twin.katAsked = false ∨ s.twin.katOwn.isSome = true ∨ s.twin.t0.isSome = true) (m : Byte) (ok : Bool) :
    Does (.katDone t m ok) s fun u => u.twin = s.twin ∧ OnlyRegsQuiet [] s u := by
  refine does_twin_idle hp (exec_katDone t s m ok) (if_neg fun hall => ?_)
  simp only [Bool.and_eq_true, at_twin] at hall
  obtain ⟨⟨⟨-, hask⟩, hown⟩, ht0⟩ := hall
  rcases h with h | h | h
  · exact absurd (h.symm.trans hask) Bool.false_ne_true
  · rw [Option.isNone_iff_eq_none] at hown
    rw [hown] at h
    exact absurd h Bool.false_ne_true
  · rw [Option.isNone_iff_eq_none] at ht0
    rw [ht0] at h
    exact absurd h Bool.false_ne_true

/-- Settles O55: the tests set their bits of the health word, from which FIT and the decisions of the pair follow. -/
theorem twinHealth : Obligations.TwinHealth := by
  unfold Obligations.TwinHealth
  intro t s hp
  refine ⟨fun hpair => ⟨does_periodicKat hp hpair, does_referenceInjection hp hpair, does_eccScrub hp hpair⟩, does_tests_unpaired hp,
    does_standbyFit_only hp, fun f hsince hpair how hup hunfit hword hfit hdue => does_standbyFit hp hsince hpair how hup hunfit hword hfit hdue,
    does_stateTransferDone hp, does_stateTransferDone_idle hp, does_katDone_idle hp, fun hpair hask hown ht0 => ⟨?_, ?_, ?_, ?_, ?_⟩⟩
  · exact does_katDone_waits hp hpair hask hown ht0
  · exact fun hpart m ok hm how => does_katDone_active hp hpair hask hown ht0 ok hpart hm how
  · exact fun hpart m ok hm how => does_katDone_standby hp hpair hask hown ht0 ok hpart hm how
  · exact fun hpart m ok hm hprob => does_katDone_both hp hpair hask hown ht0 ok hpart hm hprob
  · exact fun hpart ok hdiff => does_katDone_neither hp hpair hask hown ht0 ok hpart hdiff

end Sys2Proof.TwinFitness

namespace Sys2Proof.SourceStates

open Sys2Proof Sys2Proof.Machine Sys2Proof.Laws Sys2Proof.LoadSteps Sys2Proof.Readings

/-! Claims and completions of interrupts (R415-R418). -/

section
variable (t : Edges) (s : State)

theorem exec_icClaim : exec (.icClaim t) s = live t s State.icClaim := rfl

theorem exec_icComplete (id : Byte) : exec (.icComplete t id) s = live t s fun s => if s.supUp then s.icComplete id.toNat else s := rfl

theorem follows_congr {s u : State} (j : Fin 128) (hsrc : u.ic.src[j] = s.ic.src[j]) (htimer : u.ic.timer = s.ic.timer)
    (hlevel : u.icLevel j = s.icLevel j) : u.follows j = s.follows j := by
  unfold State.follows
  rw [hsrc, htimer, hlevel]

/-- At the end of a command the sources in use follow their levels. -/
theorem ended_src (f : State → State) (j : Fin 128) :
    (ended t s f).ic.src[j] = if j ∈ icIds then (f (s.at t)).follows j else (f (s.at t)).ic.src[j] := by
  unfold ended
  rw [finish_src]
  have hic : ((s.at t).decided (f (s.at t))).ic = (f (s.at t)).ic := by simp
  have hlevel : ((s.at t).decided (f (s.at t))).icLevel j = (f (s.at t)).icLevel j := by
    unfold State.icLevel State.anyFlag State.isSet
    simp
  rw [hic, follows_congr j (by rw [hic]) (by rw [hic]) hlevel]

theorem ended_timer (f : State → State) : (ended t s f).ic.timer = (f (s.at t)).ic.timer := by
  unfold ended
  rw [finish_timer]
  simp

theorem icLevel_of_regs {s u : State} (h : u.regs = s.regs) (j : Fin 128) : u.icLevel j = s.icLevel j := by
  unfold State.icLevel State.anyFlag State.isSet State.reg
  rw [h]

/-- The state a source takes whose level is `l`. -/
theorem follows_eq {s : State} {i : Fin 128} : s.follows i = match s.ic.src[i], s.icLevel i with
    | .idle, true => if (s.ic.timer[icGroup i]).isSome then .held else .pending
    | .pending, true => .pending
    | .active, _ => .active
    | .held, true => .held
    | _, false => .idle := by
  unfold State.follows
  cases s.ic.src[i] <;> cases s.icLevel i <;> rfl

end

section
variable {t : Edges} {s : State}

theorem does_icClaim (hp : s.core.powered = true) {i : Fin 128} (hi : icSource s.icTop = some i) : Does (.icClaim t) s fun u =>
    u.ic.src[i] = .active ∧ (∀ j ∈ icIds, j ≠ i → u.ic.src[j] = s.follows j) ∧ OnlyRegsQuiet [] s u := by
  let z : State := { s.at t with ic.src := s.ic.src.set i .active, ic.overdue := s.ic.overdue.set i false }
  have heffect : (s.at t).icClaim = z := by
    unfold State.icClaim
    rw [show (s.at t).icTop = s.icTop from rfl, hi]
    rfl
  have hactive : z.ic.src[i] = .active := Vector.getElem_set_self _
  refine does_of_effect hp (exec_icClaim t s) heffect ⟨?_, fun j hj hne => ?_, onlyRegsQuiet_ended (onlyRegsQuiet_of_regs _ rfl)⟩
  · rw [ended_src]
    have hfollow : z.follows i = .active := by
      unfold State.follows
      rw [hactive]
    rw [hfollow, hactive, ite_self]
  · rw [ended_src, if_pos hj]
    exact follows_congr (s := s) j (Vector.getElem_set_ne i.isLt j.isLt (fun h => hne (Fin.ext h.symm))) rfl rfl

theorem does_icClaim_none (hp : s.core.powered = true) (h : s.icTop = 0) : Does (.icClaim t) s fun u =>
    (∀ j ∈ icIds, u.ic.src[j] = s.follows j) ∧ OnlyRegsQuiet [] s u := by
  have heffect : (s.at t).icClaim = s.at t := by
    unfold State.icClaim
    rw [show (s.at t).icTop = 0 from h]
    rfl
  refine does_of_effect hp (exec_icClaim t s) heffect ⟨fun j hj => ?_, onlyRegsQuiet_ended (onlyRegsQuiet_of_regs _ rfl)⟩
  rw [ended_src, if_pos hj]
  rfl

/-- A source completed: its new state, which its level confirms, and its group's timer. -/
theorem does_icDone (hs : s.up) {id : Byte} {i : Fin 128} (hi : icSource id.toNat = some i) (hactive : s.ic.src[i] = .active) {z : State}
    (hz : (s.at t).icDone i = z) {st : SrcState} (hst : z.ic.src[i] = st) (hkeep : z.follows i = st) (hregs : z.regs = s.regs) :
    Does (.icComplete t id) s fun u => u.ic.src[i] = st ∧ u.ic.timer = z.ic.timer ∧ OnlyRegsQuiet [] s u := by
  obtain ⟨hp, hup⟩ := hs
  have heffect : (if (s.at t).supUp then (s.at t).icComplete id.toNat else s.at t) = z := by
    rw [if_pos (show (s.at t).supUp = true from hup)]
    unfold State.icComplete
    rw [hi]
    show (if (s.at t).ic.src[i] = .active then (s.at t).icDone i else _) = z
    rw [if_pos (show (s.at t).ic.src[i] = .active from hactive)]
    exact hz
  refine does_of_effect hp (exec_icComplete t s id) heffect ⟨?_, ended_timer t s _, onlyRegsQuiet_ended (onlyRegsQuiet_of_regs _ hregs)⟩
  rw [ended_src, hkeep, hst, ite_self]

theorem does_icComplete_idle (hs : s.up) {id : Byte} {i : Fin 128} (hi : icSource id.toNat = some i) (hactive : s.ic.src[i] = .active)
    (hl : s.icLevel i = false) : Does (.icComplete t id) s fun u => u.ic.src[i] = .idle ∧ OnlyRegsQuiet [] s u := by
  let z : State := { s.at t with ic.src := s.ic.src.set i .idle }
  have hz : (s.at t).icDone i = z := if_pos (by rw [show (s.at t).icLevel i = s.icLevel i from rfl, hl]; rfl)
  have hst : z.ic.src[i] = .idle := Vector.getElem_set_self _
  have hkeep : z.follows i = .idle := by
    rw [follows_eq, hst, show z.icLevel i = false from hl]
  exact (does_icDone hs hi hactive hz hst hkeep rfl).imp fun u ⟨hu, hsrc, _, hregs⟩ => ⟨hu, hsrc, hregs⟩

theorem does_icComplete_pending (hs : s.up) {id : Byte} {i : Fin 128} (hi : icSource id.toNat = some i) (hactive : s.ic.src[i] = .active)
    (hl : s.icLevel i = true) (hh : s.regAt Reg.IC_HOLDOFF (icGroup i).val = 0) :
    Does (.icComplete t id) s fun u => u.ic.src[i] = .pending ∧ OnlyRegsQuiet [] s u := by
  let z : State := { s.at t with ic.src := s.ic.src.set i .pending }
  have hz : (s.at t).icDone i = z :=
    (if_neg (by rw [show (s.at t).icLevel i = s.icLevel i from rfl, hl]; exact Bool.false_ne_true)).trans (if_pos hh)
  have hst : z.ic.src[i] = .pending := Vector.getElem_set_self _
  have hkeep : z.follows i = .pending := by
    rw [follows_eq, hst, show z.icLevel i = true from hl]
  exact (does_icDone hs hi hactive hz hst hkeep rfl).imp fun u ⟨hu, hsrc, _, hregs⟩ => ⟨hu, hsrc, hregs⟩

theorem does_icComplete_held (hs : s.up) {id : Byte} {i : Fin 128} (hi : icSource id.toNat = some i) (hactive : s.ic.src[i] = .active)
    (hl : s.icLevel i = true) (hh : s.regAt Reg.IC_HOLDOFF (icGroup i).val ≠ 0) : Does (.icComplete t id) s fun u =>
    u.ic.src[i] = .held ∧ u.ic.timer[icGroup i] = some (max s.now t + s.regAt Reg.IC_HOLDOFF (icGroup i).val * edgeUs) ∧ OnlyRegsQuiet [] s u := by
  let z : State := { s.at t with ic.src := s.ic.src.set i .held,
                                 ic.timer := s.ic.timer.set (icGroup i) (some ((s.at t).now + s.regAt Reg.IC_HOLDOFF (icGroup i).val * edgeUs)) }
  have hz : (s.at t).icDone i = z :=
    (if_neg (by rw [show (s.at t).icLevel i = s.icLevel i from rfl, hl]; exact Bool.false_ne_true)).trans (if_neg hh)
  have hst : z.ic.src[i] = .held := Vector.getElem_set_self _
  have hkeep : z.follows i = .held := by
    rw [follows_eq, hst, show z.icLevel i = true from hl]
  refine (does_icDone hs hi hactive hz hst hkeep rfl).imp fun u ⟨hu, hsrc, htimer, hregs⟩ => ⟨hu, hsrc, ?_, hregs⟩
  rw [htimer]
  exact Vector.getElem_set_self _

/-! A completion that completes nothing. -/

/-- The sources but the recorder's: no event and no count of IC_BADCNT is among their flags. -/
theorem icFlags_quiet : ∀ j ∈ icIds, j.val + 1 ≠ 113 → ∀ f ∈ icFlags j.val, onRecPages f = false ∧ f.place ≠ Reg.IC_BADCNT.place := by
  decide

theorem icBad_facts {w : State} (id st : Nat) : OnlyRegs [Reg.IC_BADCNT] w (w.icBad id st) ∧
    (w.icBad id st).reg Reg.IC_BADCNT = min 65535 (w.reg Reg.IC_BADCNT + 1) ∧ (w.icBad id st).ic = w.ic ∧
    (∀ j ∈ icIds, j.val + 1 ≠ 113 → (w.icBad id st).icLevel j = w.icLevel j) := by
  have hreg : ∀ f : Field, onRecPages f = false → (w.icBad id st).reg f = (w.bump Reg.IC_BADCNT).reg f := fun f hf =>
    raise_reg _ _ _ _ _ _ (by decide) _ hf
  refine ⟨onlyRegs_raise (onlyRegs_put (fun _ _ _ _ => rfl) _ _ (by decide)) _ _ _ _ _ (.inl (by decide)), ?_, raise_ic _ _ _ _ _ _ (by decide), ?_⟩
  · rw [hreg _ (by decide), State.bump, reg_put_same, satNat_mod]
    rfl
  · intro j hj hne
    unfold State.icLevel State.anyFlag State.isSet
    rw [Bool.eq_iff_iff, List.any_eq_true, List.any_eq_true]
    refine exists_congr fun f => and_congr_right fun hf => ?_
    obtain ⟨hrec, hplace⟩ := icFlags_quiet j hj hne f hf
    rw [hreg f hrec, State.bump, reg_put_other _ _ _ _ hplace]

theorem does_icComplete_bad (hs : s.up) {id : Byte} (h : ∀ i, icSource id.toNat = some i → s.ic.src[i] ≠ .active) : Does (.icComplete t id) s fun u =>
    (∀ j ∈ icIds, j.val + 1 ≠ 113 → u.ic.src[j] = s.follows j) ∧ u.reg Reg.IC_BADCNT = min 65535 (s.reg Reg.IC_BADCNT + 1) ∧
    Raised 0x6300 2 id.toNat (match icSource id.toNat with | none => 0xFF | some i => SrcState.code s.ic.src[i]) s u ∧
    OnlyRegs [Reg.IC_BADCNT] s u := by
  obtain ⟨hp, hup⟩ := hs
  have heffect : (if (s.at t).supUp then (s.at t).icComplete id.toNat else s.at t) =
      (s.at t).icBad id.toNat (match icSource id.toNat with | none => 0xFF | some i => SrcState.code s.ic.src[i]) := by
    rw [if_pos (show (s.at t).supUp = true from hup)]
    unfold State.icComplete
    rcases hi : icSource id.toNat with _ | i
    · rfl
    · exact if_neg (h i hi)
  obtain ⟨honly, hcount, hic, hlevel⟩ := icBad_facts (w := s.at t) id.toNat (match icSource id.toNat with | none => 0xFF | some i => SrcState.code s.ic.src[i])
  refine does_of_effect hp (exec_icComplete t s id) heffect ⟨fun j hj hne => ?_, ?_, raised_ended ?_, onlyRegs_ended honly⟩
  · rw [ended_src, if_pos hj]
    exact follows_congr j (by rw [hic]; rfl) (by rw [hic]; rfl) (hlevel j hj hne)
  · rw [ended_reg]
    exact hcount
  · exact raised_now (by decide) rfl (reg_put_other _ _ _ _ (by decide))

/-- Settles O7: claims and completions by the source's state and level. -/
theorem claimsAndCompletions : Obligations.ClaimsAndCompletions := by
  unfold Obligations.ClaimsAndCompletions
  refine ⟨fun t s hp => ⟨fun i hi => does_icClaim hp hi, does_icClaim_none hp⟩, fun t id s hs => ⟨fun i hi hactive => ?_, does_icComplete_bad hs⟩⟩
  exact ⟨does_icComplete_idle hs hi hactive, does_icComplete_pending hs hi hactive, does_icComplete_held hs hi hactive⟩

end

end Sys2Proof.SourceStates

namespace Sys2Proof.ChargeStages

open Sys2Proof Sys2Proof.Machine Sys2Proof.Laws Sys2Proof.LoadSteps Sys2Proof.Readings Sys2Proof.StringStates

/-! The charge stage (R227, R228) and a string's samples (R18, R357). -/

section
variable (t : Edges) (s : State) (k : Str)

theorem exec_chargePeriodStart : exec (.chargePeriodStart t k) s = live t s fun s => (s.chargePeriod k.val).outResumed (8 + k.val) := rfl

theorem exec_chargeCurrentLimit : exec (.chargeCurrentLimit t k) s = live t s fun s =>
    if (s.str k.val).driving then s.setStr k.val { s.str k.val with
      limited := true, aFall := min (s.str k.val).aFall (s.now - (s.str k.val).perAt), bRise := min (s.str k.val).bRise (s.now - (s.str k.val).perAt) }
    else s := rfl

theorem exec_stringSample (q : StrCodes) : exec (.stringSample t k q) s = live t s fun s => s.stringSample k.val q := rfl

end

theorem outResumed_strs (s : State) (j : Nat) : (s.outResumed j).strs = s.strs := by
  unfold State.outResumed
  split
  · rfl
  · dsimp only
    split <;> rfl

theorem outResumed_onlyRegs (s : State) (j : Nat) : OnlyRegsQuiet [Reg.TWN_LASTTO] s (s.outResumed j) := by
  unfold State.outResumed
  split
  · exact onlyRegsQuiet_of_regs _ rfl
  · dsimp only
    split
    · exact onlyRegsQuiet_put (u := { s with twin.t0 := none, twin.resume := [] }) (onlyRegsQuiet_of_regs _ rfl) _ _ (by decide)
    · exact onlyRegsQuiet_of_regs _ rfl

theorem chargePeriod_regs (s : State) (k : Nat) : (s.chargePeriod k).regs = s.regs := rfl

/-- The record of a string at the start of a period. -/
def periodStarted (k : Nat) (s : State) : StrSt := (s.chargePeriod k).str k

theorem chargePeriod_eq (s : State) {k : Nat} (hk : k < 8) : (s.chargePeriod k).str k =
    let y := s.str k
    let len := (6400000 + y.frac) / max 1 (s.regAt Reg.BST_FREQ k)
    let dam : Rat := (s.regAt Reg.BST_DAMAX k : Rat) / 65536
    let db := if y.m ≤ dam then 0 else min ((s.regAt Reg.BST_DBMAX k : Rat) / 65536) (1 - dam / y.m)
    { y with
      perAt := s.now, perLen := len, frac := (6400000 + y.frac) % max 1 (s.regAt Reg.BST_FREQ k), driving := chargingSt (s.cst k), limited := false
      aFall := if chargingSt (s.cst k) then nearestNat (min y.m dam * (len : Nat)) else 0
      bRise := if chargingSt (s.cst k) then nearestNat (db * (len : Nat)) else 0 } :=
  str_setStr_same s k _ hk

section
variable {t : Edges} {s : State} {k : Str} (hp : s.core.powered = true)
include hp

theorem does_chargePeriodStart (hfreq : s.regAt Reg.BST_FREQ k ≠ 0) : Does (.chargePeriodStart t k) s fun u =>
    (u.str k).perAt = max s.now t ∧ (u.str k).perLen * s.regAt Reg.BST_FREQ k + (u.str k).frac = 6400000 + (s.str k).frac ∧
    (u.str k).frac < s.regAt Reg.BST_FREQ k ∧ (u.str k).limited = false ∧ (u.str k).driving = chargingSt (s.cst k) ∧
    (chargingSt (s.cst k) = false → (u.str k).aFall = 0 ∧ (u.str k).bRise = 0) ∧
    (chargingSt (s.cst k) = true → (s.str k).m ≤ (s.regAt Reg.BST_DAMAX k : Rat) / 65536 →
      (u.str k).aFall = nearestNat ((s.str k).m * (u.str k).perLen) ∧ (u.str k).bRise = nearestNat 0) ∧
    OnlyRegsQuiet [Reg.TWN_LASTTO] s u := by
  have hpos : 0 < s.regAt Reg.BST_FREQ k := Nat.pos_of_ne_zero hfreq
  have hmax : max 1 ((s.at t).regAt Reg.BST_FREQ k) = s.regAt Reg.BST_FREQ k := Nat.max_eq_right hpos
  refine does_live hp (exec_chargePeriodStart t s k) ?_
  have hstr : (ended t s fun s => (s.chargePeriod k.val).outResumed (8 + k.val)).str k = ((s.at t).chargePeriod k).str k := by
    rw [ended_str]
    exact str_of_strs (outResumed_strs _ _) _
  rw [hstr, chargePeriod_eq _ k.isLt]
  dsimp only
  rw [hmax]
  refine ⟨rfl, Nat.div_add_mod' _ _, Nat.mod_lt _ hpos, rfl, rfl, fun hno => ?_, fun hyes hbuck => ?_, ?_⟩
  · rw [show chargingSt ((s.at t).cst k) = false from hno]
    exact ⟨rfl, rfl⟩
  · have hm : ((s.at t).str k).m ≤ ((s.at t).regAt Reg.BST_DAMAX k : Rat) / 65536 := hbuck
    rw [show chargingSt ((s.at t).cst k) = true from hyes, min_eq_left hm, if_pos hm, zero_mul]
    exact ⟨rfl, rfl⟩
  · refine onlyRegsQuiet_ended fun f i hf => ?_
    exact (outResumed_onlyRegs ((s.at t).chargePeriod k) (8 + k.val) f i hf).trans (by unfold State.regAt; rw [chargePeriod_regs]; rfl)

theorem does_chargeCurrentLimit (h : (s.str k).driving = true) : Does (.chargeCurrentLimit t k) s fun u => (u.str k).limited = true ∧
    (u.str k).aFall = min (s.str k).aFall (max s.now t - (s.str k).perAt) ∧
    (u.str k).bRise = min (s.str k).bRise (max s.now t - (s.str k).perAt) ∧ OnlyRegsQuiet [] s u := by
  refine does_of_effect hp (exec_chargeCurrentLimit t s k) (if_pos (show ((s.at t).str k).driving = true from h)) ?_
  rw [ended_str, str_setStr_same _ _ _ k.isLt]
  exact ⟨rfl, rfl, rfl, onlyRegsQuiet_ended (onlyRegsQuiet_of_regs _ rfl)⟩

theorem does_chargeCurrentLimit_idle (h : (s.str k).driving = false) : Does (.chargeCurrentLimit t k) s fun u =>
    u.strs = s.strs ∧ OnlyRegsQuiet [] s u := by
  refine does_of_effect hp (exec_chargeCurrentLimit t s k)
    (if_neg (by rw [show ((s.at t).str k).driving = false from h]; exact Bool.false_ne_true)) ?_
  exact ⟨ended_strs _ _ _, onlyRegsQuiet_ended (onlyRegsQuiet_of_regs _ rfl)⟩

end

/-! A sample. -/

/-- The six raw codes shown. -/
def rawShown (k : Nat) (q : StrCodes) (s : State) : State :=
  (((((s.putAt Reg.TLM_RAW_STR (6 * k) q.bv.toNat).putAt Reg.TLM_RAW_STR (6 * k + 1) q.bi.toNat).putAt Reg.TLM_RAW_STR (6 * k + 2) q.bt0.toNat).putAt
    Reg.TLM_RAW_STR (6 * k + 3) q.bt1.toNat).putAt Reg.TLM_RAW_STR (6 * k + 4) q.bt2.toNat).putAt Reg.TLM_RAW_STR (6 * k + 5) q.bt3.toNat

theorem rawShown_reg {k : Nat} (hk : k < 8) (q : StrCodes) (s : State) :
    (rawShown k q s).regAt Reg.TLM_RAW_STR (6 * k) = q.bv.toNat ∧ (rawShown k q s).regAt Reg.TLM_RAW_STR (6 * k + 1) = q.bi.toNat ∧
    (rawShown k q s).regAt Reg.TLM_RAW_STR (6 * k + 2) = q.bt0.toNat ∧ (rawShown k q s).regAt Reg.TLM_RAW_STR (6 * k + 3) = q.bt1.toNat ∧
    (rawShown k q s).regAt Reg.TLM_RAW_STR (6 * k + 4) = q.bt2.toNat ∧ (rawShown k q s).regAt Reg.TLM_RAW_STR (6 * k + 5) = q.bt3.toNat := by
  have hcode : ∀ c : Code, c.toNat % 2 ^ Reg.TLM_RAW_STR.width = c.toNat := fun c => Nat.mod_eq_of_lt c.isLt
  unfold rawShown
  simp (disch := omega) only [regAt_putAt_same, regAt_putAt_inst, hcode, and_self]

/-- The temperature codes kept for their sensors, and the sample in the string's window and telemetry. -/
def sampleWindowed (k : Nat) (q : StrCodes) (s : State) : State :=
  ((((((rawShown k q s).btSample k 0 q.bt0.toNat).btSample k 1 q.bt1.toNat).btSample k 2 q.bt2.toNat).btSample k 3 q.bt3.toNat).windowSample k).strTlm k

/-- The sample booked by the estimator and the charger. -/
def sampleBooked (k : Nat) (s : State) : State :=
  let s := if s.est0 k = estAbsent then s else (s.bookSample k (s.bi k)).stepResistance k (s.bi k) (s.bv k)
  let s := if s.cst k = strAbsent then s else s.deficitSample k
  (if chargingSt (s.cst k) then s.averageLoop k else s).quietCheck

theorem stringSample_eq (s : State) (k : Nat) (q : StrCodes) : s.stringSample k q =
    let z := sampleBooked k (sampleWindowed k q s)
    if z.cst k = strFast ∧ z.lithium k ∧ z.ran (z.str k).cvAt edgeSec ∧ z.supUp then z.strTo k strTopoff 2 else z := rfl

/-- The registers a sample writes beside its raw codes. -/
def sampleFields : List Field := [Reg.TLM_PK_IDIS, Reg.BST_DEFICIT] ++ strDetailFields

theorem bookSample_regs (s : State) (k : Nat) (bi : Rat) : (s.bookSample k bi).regs = s.regs := by
  unfold State.bookSample
  dsimp only
  split <;> rfl

theorem bookSample_strs (s : State) (k : Nat) (bi : Rat) : (s.bookSample k bi).strs = s.strs := by
  unfold State.bookSample
  dsimp only
  split <;> rfl

/-- A sample counted in the charge of FAST. -/
def fastBooked (k : Nat) (s : State) : State :=
  if s.cst k = strFast then s.setStr k { s.str k with qfast := (s.str k).qfast - -(s.bi k) / 8000 } else s

theorem deficitSample_eq (s : State) (k : Nat) : s.deficitSample k =
    if (fastBooked k s).sagOpen k then
      (fastBooked k s).setStr k { (fastBooked k s).str k with defSide := ((fastBooked k s).str k).defSide + -(s.bi k) / 8000 }
    else (fastBooked k s).addDeficit k (-(s.bi k) / 8000) := rfl

section
variable {l : List Field} {s u : State} (h : OnlyRegsQuiet l s u) (k : Nat) (hl : ∀ f ∈ sampleFields, f.place ∈ l.map Field.place)
include h hl

theorem onlyRegs_strTlm : OnlyRegsQuiet l s (u.strTlm k) := by
  unfold State.strTlm
  dsimp only
  split
  · exact onlyRegsQuiet_putAt (u := u.setStr k _) h _ _ _ (hl _ (by decide))
  · exact h

theorem onlyRegs_addDeficit (q : Rat) : OnlyRegsQuiet l s (u.addDeficit k q) :=
  onlyRegsQuiet_putAt (u := u.setStr k _) h _ _ _ (hl _ (by decide))

theorem onlyRegs_deficitSample : OnlyRegsQuiet l s (u.deficitSample k) := by
  have hfast : OnlyRegsQuiet l s (fastBooked k u) := by
    unfold fastBooked
    split
    · exact h
    · exact h
  rw [deficitSample_eq]
  split
  · exact hfast
  · exact onlyRegs_addDeficit hfast k hl _

theorem onlyRegs_averageLoop : OnlyRegsQuiet l s (u.averageLoop k) :=
  strShow_onlyRegs (u := u.setStr k _) h k fun f hf => hl f (List.mem_append_right _ hf)

theorem onlyRegs_sampleBooked : OnlyRegsQuiet l s (sampleBooked k u) := by
  have hest : OnlyRegsQuiet l s (if u.est0 k = estAbsent then u else (u.bookSample k (u.bi k)).stepResistance k (u.bi k) (u.bv k)) := by
    split
    · exact h
    · intro f i hf
      refine Eq.trans ?_ (h f i hf)
      show (u.bookSample k (u.bi k)).regAt f i = _
      unfold State.regAt
      rw [bookSample_regs]
  have hdef : ∀ {z : State}, OnlyRegsQuiet l s z → OnlyRegsQuiet l s (if z.cst k = strAbsent then z else z.deficitSample k) := fun hz => by
    split
    · exact hz
    · exact onlyRegs_deficitSample hz k hl
  have hloop : ∀ {z : State}, OnlyRegsQuiet l s z → OnlyRegsQuiet l s (if chargingSt (z.cst k) then z.averageLoop k else z).quietCheck := fun hz => by
    split
    · exact onlyRegs_averageLoop hz k hl
    · exact hz
  exact hloop (hdef hest)

end

theorem btSample_regs (s : State) (k j code : Nat) : (s.btSample k j code).regs = s.regs := rfl

theorem windowSample_regs (s : State) (k : Nat) : (s.windowSample k).regs = s.regs := rfl

theorem windowed_regs (s : State) (k : Nat) (q : StrCodes) :
    (((((s.btSample k 0 q.bt0.toNat).btSample k 1 q.bt1.toNat).btSample k 2 q.bt2.toNat).btSample k 3 q.bt3.toNat).windowSample k).regs = s.regs := by
  rw [windowSample_regs, btSample_regs, btSample_regs, btSample_regs, btSample_regs]

/-- What a sample writes. -/
theorem onlyRegs_sampled (s : State) (k : Nat) (q : StrCodes) :
    OnlyRegsQuiet sampleFields (rawShown k q s) (sampleBooked k (sampleWindowed k q s)) := by
  have hl : ∀ f ∈ sampleFields, f.place ∈ sampleFields.map Field.place := fun f hf => List.mem_map_of_mem hf
  exact onlyRegs_sampleBooked (onlyRegs_strTlm (onlyRegsQuiet_of_regs _ (windowed_regs (rawShown k q s) k q)) k hl) k hl

/-! The samples of a window. -/

section
variable (s : State) {k : Nat} (hk : k < 8)
include hk

theorem setStr_part {α : Type} (g : StrSt → α) {z : State} {y : StrSt} (hz : z.strs = (s.setStr k y).strs) : g (z.str k) = g y :=
  congrArg g ((str_of_strs hz k).trans (str_setStr_same s k y hk))

theorem strTlm_winN : ((s.strTlm k).str k).winN = (s.str k).winN := by
  unfold State.strTlm
  dsimp only
  split
  · refine Eq.trans (setStr_part s hk StrSt.winN rfl) ?_
    rfl
  · refine Eq.trans (setStr_part s hk StrSt.winN rfl) ?_
    rfl

theorem deficitSample_winN : ((s.deficitSample k).str k).winN = (s.str k).winN := by
  have hfast : ((fastBooked k s).str k).winN = (s.str k).winN := by
    unfold fastBooked
    split
    · refine Eq.trans (setStr_part s hk StrSt.winN rfl) ?_
      rfl
    · rfl
  rw [deficitSample_eq]
  split
  · refine Eq.trans (setStr_part _ hk StrSt.winN rfl) ?_
    exact hfast
  · refine Eq.trans (setStr_part (fastBooked k s) hk StrSt.winN rfl) ?_
    exact hfast

omit hk in
/-- The loops' choice of what they keep leaves the window. -/
theorem loop_winN (p q : Prop) [Decidable p] [Decidable q] (y : StrSt) (m v i v' i' : Rat) :
    (if p then y else if q then { y with m := m, intV := v, intI := i } else { y with m := m, intI := i', intV := v' }).winN = y.winN := by
  split
  · rfl
  · split <;> rfl

theorem averageLoop_winN : ((s.averageLoop k).str k).winN = (s.str k).winN := by
  unfold State.averageLoop
  dsimp only
  rw [str_of_strs (strShow_strs _ k), str_setStr_same _ _ _ hk]
  exact loop_winN _ _ _ _ _ _ _ _

omit hk in
theorem quietCheck_str : s.quietCheck.str k = s.str k := str_of_strs rfl k

theorem sampleBooked_winN : ((sampleBooked k s).str k).winN = (s.str k).winN := by
  have hest : ((if s.est0 k = estAbsent then s else (s.bookSample k (s.bi k)).stepResistance k (s.bi k) (s.bv k)).str k) = s.str k := by
    split
    · rfl
    · exact str_of_strs (bookSample_strs s k (s.bi k)) k
  have hdef : ∀ z : State, ((if z.cst k = strAbsent then z else z.deficitSample k).str k).winN = (z.str k).winN := fun z => by
    split
    · rfl
    · exact deficitSample_winN z hk
  have hloop : ∀ z : State, ((if chargingSt (z.cst k) then z.averageLoop k else z).quietCheck.str k).winN = (z.str k).winN := fun z => by
    rw [quietCheck_str]
    split
    · exact averageLoop_winN z hk
    · rfl
  exact (hloop _).trans ((hdef _).trans (congrArg StrSt.winN hest))

theorem windowSample_winN : ((s.windowSample k).str k).winN = (s.str k).winN + 1 := by
  unfold State.windowSample
  dsimp only
  rw [str_setStr_same _ _ _ hk]

theorem newWindow_winN : ((s.newWindow k).str k).winN = 0 := by
  refine Eq.trans (setStr_part s hk StrSt.winN rfl) ?_
  rfl

omit hk in
theorem btSample_str (j code : Nat) : (s.btSample k j code).str k = s.str k := rfl

omit hk in
theorem rawShown_str (q : StrCodes) : (rawShown k q s).str k = s.str k := by
  unfold rawShown
  exact str_of_strs (by simp only [putAt_strs]) k

theorem sampled_winN (q : StrCodes) : ((sampleBooked k (sampleWindowed k q s)).str k).winN = (s.str k).winN + 1 := by
  rw [sampleBooked_winN _ hk]
  unfold sampleWindowed
  rw [strTlm_winN _ hk, windowSample_winN _ hk, btSample_str, btSample_str, btSample_str, btSample_str, rawShown_str]

/-- A string that enters a charging state begins a window. -/
theorem strTo_winN {new : Nat} (hnew : chargingSt new = true) (reason : Nat) : ((s.strTo k new reason).str k).winN = 0 := by
  have hdv : ∀ a : State, (if new = strFast then a.putAt Reg.BST_DVCNT k 0 else a).strs = a.strs := fun a => by split <;> rfl
  have hfl : ∀ a : State, (if new = strHalt then a.flag Reg.BST_FLAGS_HALT else a).strs = a.strs := fun a => by split <;> rfl
  rw [strTo_eq, raise_str _ _ _ _ _ _ (by decide)]
  unfold strMoved
  rw [str_of_strs (strShow_strs _ k), str_of_strs (hfl _), str_of_strs (hdv _), if_pos hnew]
  exact newWindow_winN _ hk

end

theorem does_stringSample {t : Edges} {s : State} (hp : s.core.powered = true) (k : Str) (q : StrCodes) : Does (.stringSample t k q) s fun u =>
    u.regAt Reg.TLM_RAW_STR (6 * k) = q.bv.toNat ∧ u.regAt Reg.TLM_RAW_STR (6 * k + 1) = q.bi.toNat ∧
    u.regAt Reg.TLM_RAW_STR (6 * k + 2) = q.bt0.toNat ∧ u.regAt Reg.TLM_RAW_STR (6 * k + 3) = q.bt1.toNat ∧
    u.regAt Reg.TLM_RAW_STR (6 * k + 4) = q.bt2.toNat ∧ u.regAt Reg.TLM_RAW_STR (6 * k + 5) = q.bt3.toNat ∧
    (u.str k).winN = (if s.cst k = strFast ∧ u.cst k = strTopoff then 0 else (s.str k).winN + 1) ∧
    (u.cst k ≠ s.cst k → s.cst k = strFast ∧ u.cst k = strTopoff ∧ s.lithium k = true) := by
  let z := sampleBooked k (sampleWindowed k q (s.at t))
  have honly : OnlyRegsQuiet sampleFields (rawShown k q (s.at t)) z := onlyRegs_sampled (s.at t) k q
  have hraw : ∀ f : Field, f.place ≠ Reg.TLM_RAW_STR.place → ∀ i, (rawShown k q (s.at t)).regAt f i = s.regAt f i := fun f hf i => by
    unfold rawShown
    simp only [regAt_putAt_other _ _ _ _ _ _ hf, at_regAt]
  have hcst : z.cst k = s.cst k := (honly Reg.BST_CST k (by decide)).trans (hraw _ (by decide) _)
  have hlith : z.lithium k = s.lithium k :=
    congrArg (· == 1) ((honly Reg.BST_CFG_CHEM k (by decide)).trans (hraw _ (by decide) _))
  have hwin : (z.str k).winN = (s.str k).winN + 1 := sampled_winN (s.at t) k.isLt q
  obtain ⟨h0, h1, h2, h3, h4, h5⟩ := rawShown_reg k.isLt q (s.at t)
  have hz : ∀ i, z.regAt Reg.TLM_RAW_STR i = (rawShown k q (s.at t)).regAt Reg.TLM_RAW_STR i := fun i => honly _ i (by decide)
  by_cases hrow : z.cst k = strFast ∧ z.lithium k ∧ z.ran (z.str k).cvAt edgeSec ∧ z.supUp
  · have heffect : (s.at t).stringSample k q = z.strTo k strTopoff 2 := (stringSample_eq _ _ _).trans (if_pos hrow)
    obtain ⟨hfast, hli, -, -⟩ := hrow
    have hto : OnlyRegs strFields z (z.strTo k strTopoff 2) :=
      strTo_onlyRegs (fun _ _ _ _ => rfl) _ _ _ fun f hf => List.mem_map_of_mem hf
    have hr : ∀ i, (z.strTo k strTopoff 2).regAt Reg.TLM_RAW_STR i = (rawShown k q (s.at t)).regAt Reg.TLM_RAW_STR i := fun i =>
      (hto _ i (by decide) (by decide)).trans (hz i)
    have hnew : (z.strTo k strTopoff 2).cst k = strTopoff := by
      rw [strTo_eq]
      exact (raise_regAt _ _ _ _ _ _ (by decide) _ (by decide) _).trans (strMoved_cst k strTopoff 2 z).1
    refine does_of_effect hp (exec_stringSample t s k q) heffect ?_
    have hcu : (ended t s fun _ => z.strTo k strTopoff 2).cst k = strTopoff := (ended_regAt _ _ _ _ _).trans hnew
    simp only [ended_regAt, ended_str, hr, hcu]
    refine ⟨h0, h1, h2, h3, h4, h5, ?_, fun _ => ⟨hcst.symm.trans hfast, trivial, hlith.symm.trans hli⟩⟩
    rw [if_pos ⟨hcst.symm.trans hfast, trivial⟩]
    exact strTo_winN z k.isLt rfl 2
  · have heffect : (s.at t).stringSample k q = z := (stringSample_eq _ _ _).trans (if_neg hrow)
    refine does_of_effect hp (exec_stringSample t s k q) heffect ?_
    have hcu : (ended t s fun _ => z).cst k = s.cst k := (ended_regAt _ _ _ _ _).trans hcst
    simp only [ended_regAt, ended_str, hz, hcu]
    refine ⟨h0, h1, h2, h3, h4, h5, ?_, fun hne => absurd rfl hne⟩
    rw [if_neg fun ⟨h1, h2⟩ => absurd (h1.symm.trans h2) (by decide)]
    exact hwin

/-- Settles O39: the legs of a charge period, the comparator's truncation and a string's sample. -/
theorem chargeStage : Obligations.ChargeStage := by
  unfold Obligations.ChargeStage
  intro t k s hp
  exact ⟨fun hfreq _ => does_chargePeriodStart hp hfreq, does_chargeCurrentLimit hp, does_chargeCurrentLimit_idle hp, does_stringSample hp k⟩

end Sys2Proof.ChargeStages

namespace Sys2Proof.BayPhases

open Sys2Proof Sys2Proof.Machine Sys2Proof.Laws Sys2Proof.LoadSteps Sys2Proof.Readings

/-! A bay's registers and record when its phases change (R80-R91). -/

/-- A bay's record with its dwell, its count's move and its abandon mark as in another. -/
def marked (y w : BaySt) : BaySt := { y with dwellAt := w.dwellAt, nMoved := w.nMoved, abandon := w.abandon }

/-- Two states whose bay records differ in those parts alone. -/
structure SameBays (s u : State) : Prop where
  rest : ∀ b, u.bay b = marked (s.bay b) (u.bay b)

namespace SameBays

theorem part {s u : State} (h : SameBays s u) {α : Type} (g : BaySt → α) (hg : ∀ y w, g (marked y w) = g y) (b : Nat) :
    g (u.bay b) = g (s.bay b) := (congrArg g (h.rest b)).trans (hg _ _)

theorem refl (s : State) : SameBays s s := ⟨fun _ => rfl⟩

theorem trans {s u w : State} (h : SameBays s u) (k : SameBays u w) : SameBays s w :=
  ⟨fun b => by
    have hb := congrArg (fun y => marked y (w.bay b)) (h.rest b)
    exact (k.rest b).trans hb⟩

theorem of_bays {s u : State} (h : u.bays = s.bays) : SameBays s u := ⟨fun b => by rw [bay_of_bays h b]; rfl⟩

/-- A record written with those parts alone changed. -/
theorem setBay (s : State) (b : Nat) (v : BaySt) (hv : v = marked (s.bay b) v) : SameBays s (s.setBay b v) := ⟨fun j => by
  by_cases hj : j = b
  · subst hj
    by_cases h8 : j < 8
    · rw [bay_setBay_same _ _ _ h8]
      exact hv
    · have hout : ∀ z : State, z.bay j = BaySt.reset := fun z => dif_neg h8
      rw [hout, hout]
      rfl
  · rw [bay_setBay_other _ _ _ _ hj]
    rfl⟩

theorem put {s u : State} (h : SameBays s u) (f : Field) (i v : Nat) : SameBays s (u.putAt f i v) := h.trans (of_bays rfl)

end SameBays

/-- The instant at which the count of a bay's phases has moved. -/
def countMoved (b : Nat) (s : State) : State := s.setBay b { s.bay b with dwellAt := some s.now, nMoved := true }

/-- What a new count does to the bay's record and its shed (R88). -/
def countNoted (b : Nat) (s : State) : State :=
  if (s.conds b).length = s.regAt Reg.PH_N b then s
  else if (countMoved b s).regAt Reg.PH_SHEDST b = 0 ∧ 1 ≤ (s.conds b).length ∧ 1 ≤ s.regAt Reg.PH_N b then
    (countMoved b s).putAt Reg.PH_SHEDST b 3
  else countMoved b s

/-- The registers of a bay's phases shown. -/
def phasesShown (b n : Nat) (s : State) : State :=
  let u := (s.putAt Reg.PH_N b n).putAt Reg.PH_COND b (phaseMask b s.conducts)
  let u := u.putAt Reg.PH_WARM b (phaseMask b (fun m => u.pst m == phWarm))
  u.putAt Reg.PH_NEXTSHED b (match u.longest (u.conds b) with | none => 0 | some m => m % 6)

theorem phRefresh_eq (s : State) (b : Nat) : s.phRefresh b = phasesShown b (s.conds b).length (countNoted b s) := rfl

theorem phasesShown_bays (b n : Nat) (s : State) : (phasesShown b n s).bays = s.bays := by
  unfold phasesShown
  simp only [putAt_bays]

theorem countNoted_bays (b : Nat) (s : State) : SameBays s (countNoted b s) := by
  have hset : SameBays s (countMoved b s) := .setBay s b _ rfl
  unfold countNoted
  split
  · exact .refl s
  · split
    · exact hset.put _ _ _
    · exact hset

theorem phRefresh_bays (s : State) (b : Nat) : SameBays s (s.phRefresh b) := by
  rw [phRefresh_eq]
  exact (countNoted_bays b s).trans (.of_bays (phasesShown_bays _ _ _))

/-- A phase put to work before its bay's count is taken again. -/
def leapStarted (n : Nat) (s : State) : State :=
  ((s.setPh n { s.ph n with bal := 0, first := true, ton := 0, rail := 0 }).putAt Reg.PH_BAL n 0).setPst n phCond

theorem leap_eq (s : State) (n mask : Nat) : s.leap n mask =
    ((((leapStarted n s).phRefresh (n / 6)).bumpAt Reg.PH_LEAPCNT (n / 6)).bumpAt Reg.PH_ADDCNT (n / 6)).raise 0x2081 0 0x03 n mask := rfl

theorem setPst_bays (s : State) (n st : Nat) : (s.setPst n st).bays = s.bays := rfl

theorem leapStarted_bays (n : Nat) (s : State) : (leapStarted n s).bays = s.bays := setPst_bays _ _ _

theorem leap_bays (s : State) (n mask : Nat) : SameBays s (s.leap n mask) := by
  have hstart : SameBays s (leapStarted n s) := .of_bays (leapStarted_bays n s)
  have hrefresh := hstart.trans (phRefresh_bays (leapStarted n s) (n / 6))
  rw [leap_eq]
  exact ((hrefresh.put _ _ _).put _ _ _).trans (.of_bays (raise_bays _ _ _ _ _ _ (by decide)))

theorem addOne_bays (s : State) (b mask : Nat) : SameBays s (s.addOne b mask) := by
  unfold State.addOne
  split
  · exact .refl s
  · exact leap_bays _ _ _

theorem addMany_bays (s : State) (b mask k : Nat) : SameBays s (s.addMany b mask k) := by
  induction k generalizing s with
  | zero => exact .refl s
  | succ k ih => exact (addOne_bays s b mask).trans (ih _)

theorem noteAbandon_bays (s : State) (b bit : Nat) : SameBays s (s.noteAbandon b bit) := by
  unfold State.noteAbandon
  dsimp only
  split
  · exact .setBay s b _ rfl
  · exact .setBay s b _ rfl

theorem phaseStep_bays (s : State) (b bit : Nat) : SameBays s (s.phaseStep b bit) := by
  unfold State.phaseStep
  split
  · exact .refl s
  split
  · exact noteAbandon_bays s b bit
  split
  · exact addOne_bays s b _
  · exact addMany_bays s b _ _

theorem ffHitClass_bays (s : State) (k : Nat) : (s.ffHitClass k).bays = s.bays :=
  (frame_ffHitClass (Frame.refl 0x4000000 0x800000 s) k (by decide) (by decide)).f_bays (by decide)

/-- What a step does beyond the phases. -/
theorem stepSeen_bay (s : State) (b bit j : Nat) : (s.stepSeen b bit).bay j = (s.phaseStep b bit).bay j := by
  unfold State.stepSeen
  dsimp only
  split
  · exact bay_of_bays (foldl_keeps (fun u : State => u.bays) State.ffHitClass ffHitClass_bays _ _) j
  · rfl

/-! An output conversion (R90, R91). -/

/-- The code shown, and the sample in the bay's telemetry. -/
def outputNoted (b code : Nat) (s : State) : State :=
  let s := s.putAt Reg.TLM_RAW_VSB b code
  s.setBay b { s.bay b with vAcc := (s.bay b).vAcc + (s.voutMv b code).toNat, vN := (s.bay b).vN + 1,
                            pAcc := (s.bay b).pAcc + (s.voutMv b code).toNat * s.imonSum b }

/-- The error band left: the trigger is disarmed. -/
def bandLeft (b : Nat) (s : State) : State := s.setBay b { s.bay b with ebArm := false, ebBad := true }

theorem outputConversion_eq (s : State) (b code : Nat) : s.outputConversion b code =
    let z := outputNoted b code s
    if z.reg Reg.PH_EBAND ≠ 0xFFFF ∧ z.regAt Reg.LE_STAT_OVR b = 0 ∧
        z.reg Reg.PH_EBAND < ((z.regAt Reg.LE_VREF b : Int) - (s.putAt Reg.TLM_RAW_VSB b code).voutMv b code).natAbs then
      if (z.bay b).ebArm then (bandLeft b z).stepSeen b 0 else bandLeft b z
    else z := rfl

section
variable (t : Edges) {s : State} (hp : s.core.powered = true) (b : Bay) (code : Code)

theorem exec_bayOutputConversion : exec (.bayOutputConversion t b code) s = live t s fun s => s.outputConversion b.val code.toNat := rfl

theorem outputNoted_other {f : Field} (hf : f.place ≠ Reg.TLM_RAW_VSB.place) (i : Nat) :
    (outputNoted b code.toNat (s.at t)).regAt f i = s.regAt f i := regAt_putAt_other _ _ _ _ _ _ hf

theorem outputNoted_reg : (outputNoted b code.toNat (s.at t)).regAt Reg.TLM_RAW_VSB b = code.toNat :=
  (regAt_putAt_same _ _ _ _).trans (Nat.mod_eq_of_lt code.isLt)

theorem outputNoted_bay : (outputNoted b code.toNat (s.at t)).bay b =
    { s.bay b with vAcc := (s.bay b).vAcc + (s.voutMv b code.toNat).toNat, vN := (s.bay b).vN + 1,
                   pAcc := (s.bay b).pAcc + (s.voutMv b code.toNat).toNat * ((s.at t).putAt Reg.TLM_RAW_VSB b code.toNat).imonSum b } := by
  refine (bay_setBay_same _ _ _ b.isLt).trans ?_
  have hv : ((s.at t).putAt Reg.TLM_RAW_VSB b code.toNat).voutMv b code.toNat = s.voutMv b code.toNat := by
    unfold State.voutMv
    rw [regAt_putAt_other _ _ _ _ _ _ (by decide), at_regAt]
  rw [hv]
  rfl

include hp

theorem does_conversion_within (h : s.reg Reg.PH_EBAND = 0xFFFF ∨ s.regAt Reg.LE_STAT_OVR b = 1 ∨
    ((s.regAt Reg.LE_VREF b : Int) - s.voutMv b code.toNat).natAbs ≤ s.reg Reg.PH_EBAND) : Does (.bayOutputConversion t b code) s fun u =>
      u.regAt Reg.TLM_RAW_VSB b = code.toNat ∧ (u.bay b).ebArm = (s.bay b).ebArm ∧ (u.bay b).vN = (s.bay b).vN + 1 ∧
      OnlyRegsQuiet [Reg.TLM_RAW_VSB] s u := by
  have hv : ((s.at t).putAt Reg.TLM_RAW_VSB b code.toNat).voutMv b code.toNat = s.voutMv b code.toNat := by
    unfold State.voutMv
    rw [regAt_putAt_other _ _ _ _ _ _ (by decide), at_regAt]
  have heffect : (s.at t).outputConversion b code.toNat = outputNoted b code.toNat (s.at t) := by
    refine (outputConversion_eq _ _ _).trans (if_neg ?_)
    rw [hv, outputNoted_other t b code (by decide), outputNoted_other t b code (by decide),
      show (outputNoted b code.toNat (s.at t)).reg Reg.PH_EBAND = s.reg Reg.PH_EBAND from outputNoted_other t b code (by decide) 0]
    rintro ⟨hband, hovr, hout⟩
    rcases h with h | h | h
    · exact hband h
    · rw [hovr] at h
      exact absurd h (by decide)
    · exact absurd hout (Nat.not_lt.mpr h)
  refine does_of_effect hp (exec_bayOutputConversion t b code) heffect ?_
  rw [ended_regAt, ended_bay, outputNoted_bay]
  exact ⟨outputNoted_reg t b code, rfl, rfl, onlyRegsQuiet_ended (onlyRegsQuiet_putAt (onlyRegsQuiet_of_regs _ rfl) _ _ _ (by decide))⟩

theorem does_conversion_outside (hband : s.reg Reg.PH_EBAND ≠ 0xFFFF) (hovr : s.regAt Reg.LE_STAT_OVR b = 0)
    (hout : s.reg Reg.PH_EBAND < ((s.regAt Reg.LE_VREF b : Int) - s.voutMv b code.toNat).natAbs) :
    Does (.bayOutputConversion t b code) s fun u =>
      u.regAt Reg.TLM_RAW_VSB b = code.toNat ∧ (u.bay b).ebArm = false ∧ (u.bay b).ebBad = true ∧
      ((s.bay b).ebArm = false → OnlyRegsQuiet [Reg.TLM_RAW_VSB] s u ∧ (u.bay b).abandon = (s.bay b).abandon) ∧
      ((s.bay b).ebArm = true → s.mode = modeRun → s.regAt Reg.PH_N b ≠ 0 → (s.bay b).abandon = none →
        (s.regAt Reg.PH_SHEDST b = 1 ∨ s.regAt Reg.PH_SHEDST b = 2) →
        (u.bay b).abandon.map (fun a => (a.1, a.2.1)) = some (s.regAt Reg.PH_SHEDST b, 1)) := by
  let z := outputNoted b code.toNat (s.at t)
  have hv : ((s.at t).putAt Reg.TLM_RAW_VSB b code.toNat).voutMv b code.toNat = s.voutMv b code.toNat := by
    unfold State.voutMv
    rw [regAt_putAt_other _ _ _ _ _ _ (by decide), at_regAt]
  have hbay := outputNoted_bay t (s := s) b code
  have heffect : (s.at t).outputConversion b code.toNat = if (s.bay b).ebArm then (bandLeft b z).stepSeen b 0 else bandLeft b z := by
    refine (outputConversion_eq _ _ _).trans ((if_pos ?_).trans ?_)
    · rw [hv, outputNoted_other t b code (by decide), outputNoted_other t b code (by decide),
        show (outputNoted b code.toNat (s.at t)).reg Reg.PH_EBAND = s.reg Reg.PH_EBAND from outputNoted_other t b code (by decide) 0]
      exact ⟨hband, hovr, hout⟩
    · rw [hbay]
  have hleft : (bandLeft b z).bay b = { z.bay b with ebArm := false, ebBad := true } := bay_setBay_same _ _ _ b.isLt
  have hz : ((outputNoted b code.toNat (s.at t)).bay b).abandon = (s.bay b).abandon := by rw [hbay]
  refine does_of_effect hp (exec_bayOutputConversion t b code) heffect ?_
  rw [ended_regAt, ended_bay]
  rcases harm : (s.bay b).ebArm
  · rw [if_neg Bool.false_ne_true, hleft]
    refine ⟨outputNoted_reg t b code, rfl, rfl, fun _ => ⟨?_, hz⟩, fun h => absurd h (by decide)⟩
    exact onlyRegsQuiet_ended (onlyRegsQuiet_putAt (onlyRegsQuiet_of_regs _ rfl) _ _ _ (by decide))
  · rw [if_pos rfl, stepSeen_bay]
    have hsame := phaseStep_bays (bandLeft b z) b 0
    refine ⟨?_, ?_, ?_, fun h => absurd h (by decide), fun _ hmode hn hab hshed => ?_⟩
    · have hframe := frame_stepSeen (Frame.refl 0x6c01040 0xc000830020 (bandLeft b z)) b 0 (by decide) (by decide)
      exact (hframe.f_regs _ _ (by decide)).trans (outputNoted_reg t b code)
    · rw [hsame.part BaySt.ebArm (fun _ _ => rfl), hleft]
    · rw [hsame.part BaySt.ebBad (fun _ _ => rfl), hleft]
    · have hreg : ∀ f : Field, f.place ≠ Reg.TLM_RAW_VSB.place → ∀ i, (bandLeft b z).regAt f i = s.regAt f i := fun f hf i =>
        outputNoted_other t b code hf i
      have hnote : (bandLeft b z).phaseStep b 0 = (bandLeft b z).noteAbandon b 0 := by
        unfold State.phaseStep
        rw [if_neg, if_pos]
        · rw [hreg _ (by decide)]
          exact hshed
        · have hmanaged : (bandLeft b z).phasesManaged = true := by
            unfold State.phasesManaged
            rw [show (bandLeft b z).mode = modeRun from (hreg Reg.GL_MODE (by decide) 0).trans hmode]
            rfl
          rw [hmanaged, hreg _ (by decide), beq_eq_false_iff_ne.mpr hn]
          exact Bool.false_ne_true
      have hnone : ((bandLeft b z).bay b).abandon = none := by
        rw [hleft]
        exact hz.trans hab
      rw [hnote]
      unfold State.noteAbandon
      dsimp only
      rw [hnone]
      dsimp only
      rw [bay_setBay_same _ _ _ b.isLt, hreg _ (by decide)]
      rfl

end

/-- Settles O23: a conversion within the error band, and one that leaves it. -/
theorem errorBand : Obligations.ErrorBand := by
  unfold Obligations.ErrorBand
  intro t b code s hp
  exact ⟨does_conversion_within t hp b code, does_conversion_outside t hp b code⟩

end Sys2Proof.BayPhases

namespace Sys2Proof.PhaseTrims

open Sys2Proof Sys2Proof.Machine Sys2Proof.Laws Sys2Proof.LoadSteps Sys2Proof.Readings Sys2Proof.JournalFrame Sys2Proof.TwinRules
  Sys2Proof.StringStates Sys2Proof.BayPhases

/-! A phase's changes of state (R80-R85, R92). -/

/-- The registers a bay's count writes. -/
def refreshFields : List Field := [Reg.PH_SHEDST, Reg.PH_N, Reg.PH_COND, Reg.PH_WARM, Reg.PH_NEXTSHED]

/-- The registers a phase's change of state writes. -/
def stateFields : List Field := [Reg.PH_BAL, Reg.PH_IPH, Reg.PH_PSTAT_STATE, Reg.PH_GAIN, Reg.PH_PSTAT_TRIMVALID]

section
variable {l : List Field} {s u : State} (h : OnlyRegsQuiet l s u)
include h

theorem onlyRegs_phRefresh (b : Nat) (hl : ∀ f ∈ refreshFields, f.place ∈ l.map Field.place) : OnlyRegsQuiet l s (u.phRefresh b) := by
  have hcount : OnlyRegsQuiet l s (countNoted b u) := by
    unfold countNoted
    split
    · exact h
    · split
      · exact onlyRegsQuiet_putAt (u := countMoved b u) h _ _ _ (hl _ (by decide))
      · exact h
  rw [phRefresh_eq]
  unfold phasesShown
  dsimp only
  refine onlyRegsQuiet_putAt (onlyRegsQuiet_putAt (onlyRegsQuiet_putAt (onlyRegsQuiet_putAt hcount _ _ _ ?_) _ _ _ ?_) _ _ _ ?_) _ _ _ ?_ <;>
    exact hl _ (by decide)

theorem onlyRegs_setPst (n st : Nat) (hl : Reg.PH_PSTAT_STATE.place ∈ l.map Field.place) : OnlyRegsQuiet l s (u.setPst n st) :=
  onlyRegsQuiet_putAt (u := u.setPh n _) h _ _ _ hl

theorem onlyRegs_toNew (n : Nat) (hl : ∀ f ∈ stateFields, f.place ∈ l.map Field.place) : OnlyRegsQuiet l s (u.toNew n) :=
  onlyRegs_setPst (onlyRegsQuiet_putAt (onlyRegsQuiet_putAt (onlyRegsQuiet_putAt (u := u.setPh n _) h _ _ _ (hl _ (by decide))) _ _ _ (hl _ (by decide)))
    _ _ _ (hl _ (by decide))) _ _ (hl _ (by decide))

theorem onlyRegs_toWarm (n : Nat) (hl : ∀ f ∈ stateFields, f.place ∈ l.map Field.place) : OnlyRegsQuiet l s (u.toWarm n) := by
  unfold State.toWarm
  split
  · exact onlyRegs_toNew h n hl
  · exact onlyRegs_setPst (onlyRegsQuiet_putAt (onlyRegsQuiet_putAt (u := u.setPh n _) h _ _ _ (hl _ (by decide))) _ _ _ (hl _ (by decide)))
      _ _ (hl _ (by decide))

end

theorem setPst_pst (s : State) (n st : Nat) : (s.setPst n st).pst n = st % 8 := regAt_putAt_same (s.setPh n _) Reg.PH_PSTAT_STATE n st

theorem toNew_pst (s : State) (n : Nat) : (s.toNew n).pst n = phNew := setPst_pst _ _ _

theorem toWarm_pst {s : State} {n : Nat} (h : (s.ph n).discard = false) : (s.toWarm n).pst n = phWarm := by
  unfold State.toWarm
  rw [h, if_neg Bool.false_ne_true]
  exact setPst_pst _ _ _

theorem phRefresh_pst (s : State) (b n : Nat) : (s.phRefresh b).pst n = s.pst n :=
  onlyRegs_phRefresh (l := refreshFields) (onlyRegsQuiet_of_regs _ rfl) b (fun _ hf => List.mem_map_of_mem hf) _ _ (by decide)

/-- A mask of six phases. -/
theorem bitOf_phaseMask (b : Nat) (p : Nat → Bool) {k : Nat} (hk : k < 6) : bitOf (phaseMask b p) k = p (6 * b + k) :=
  testBit_bitSum (fun k => p (6 * b + k)) 6 k hk

theorem phaseMask_lt (b : Nat) (p : Nat → Bool) : phaseMask b p < 64 := bitSum_lt (fun k => p (6 * b + k)) 6

/-- PH_WARM shows the phases that are warm. -/
theorem phRefresh_warm (s : State) (b : Nat) : (s.phRefresh b).regAt Reg.PH_WARM b = phaseMask b (fun m => s.pst m == phWarm) := by
  have hp : ∀ m, ((((countNoted b s).putAt Reg.PH_N b (s.conds b).length).putAt Reg.PH_COND b (phaseMask b (countNoted b s).conducts)).pst m) = s.pst m :=
    fun m => by
      unfold State.pst
      rw [regAt_putAt_other _ _ _ _ _ _ (by decide), regAt_putAt_other _ _ _ _ _ _ (by decide)]
      unfold countNoted
      split
      · rfl
      · split
        · exact regAt_putAt_other (countMoved b s) _ _ _ _ _ (by decide)
        · rfl
  rw [phRefresh_eq]
  unfold phasesShown
  dsimp only
  rw [regAt_putAt_other _ _ _ _ _ _ (by decide), regAt_putAt_same]
  simp only [hp]
  exact Nat.mod_eq_of_lt (Nat.lt_of_lt_of_le (phaseMask_lt _ _) (by decide))

theorem tryJoin_idle {s : State} {b : Nat} (h1 : s.bst b ≠ bayInrush) (h2 : s.bst b ≠ bayPfc) : s.tryJoin b = s := by
  unfold State.tryJoin
  dsimp only
  exact if_neg fun ⟨hst, _⟩ => hst.elim h1 fun h => h2 h.1

theorem toNew_ph (s : State) {n : Nat} (hn : n < 48) : ((s.toNew n).ph n).newN = 0 := by
  unfold State.toNew State.setPst
  dsimp only
  show (((State.putAt _ _ _ _).setPh n _).ph n).newN = 0
  rw [ph_setPh_same _ _ _ hn]
  show ((State.setPh s n _).ph n).newN = 0
  rw [ph_setPh_same _ _ _ hn]

/-! A NEW phase with its 256 samples (R94). -/

section
variable (t : Edges) (n : Chan) (s : State)

theorem exec_phaseOffsetTaken : exec (.phaseOffsetTaken t n) s = live t s fun s =>
    if s.pst n.val = phNew ∧ 256 ≤ (s.ph n.val).newN then s.offsetTaken n.val else s := rfl

theorem exec_phTrimrst (k : Byte) : exec (.phTrimrst t n k) s = hostWrite t s fun s => s.trimReset n.val k := rfl

theorem exec_shedDwellExpiry (b : Bay) : exec (.shedDwellExpiry t b) s = live t s fun s =>
    if s.ran (s.bay b.val).dwellAt (s.reg Reg.PH_DWELL * edgeMs) then s.setBay b.val { s.bay b.val with dwellAt := none } else s := rfl

end

/-- The mean of the samples shown. -/
def offsetShown (n : Nat) (s : State) : State :=
  (s.setPh n { s.ph n with avg := (s.ph n).newSum / 256 }).putAtSat Reg.PH_OFFSET n (toUnitNat ((s.ph n).newSum / 256))

theorem offsetTaken_eq (s : State) (n : Nat) : s.offsetTaken n =
    if (offsetShown n s).offsetBad ((s.ph n).newSum / 256) then ((offsetShown n s).phFaulted n 0 ((s.ph n).newSum / 256)).tryJoin (n / 6)
    else (((((offsetShown n s).toWarm n).phRefresh (n / 6)).flag Reg.PH_EVT_FLAGS_NEWPH).raise 0x2085 1 0x03 n
      ((((offsetShown n s).toWarm n).phRefresh (n / 6)).regAt Reg.PH_OFFSET n)).tryJoin (n / 6) := rfl

theorem offsetShown_reg (n : Nat) (s : State) : (offsetShown n s).regAt Reg.PH_OFFSET n = min 65535 (toUnitNat ((s.ph n).newSum / 256)) :=
  (regAt_putAt_same _ _ _ _).trans (satNat_mod _ _)

theorem offsetShown_onlyRegs (n : Nat) (s : State) : OnlyRegsQuiet [Reg.PH_OFFSET] s (offsetShown n s) :=
  onlyRegsQuiet_putAt (u := s.setPh n _) (onlyRegsQuiet_of_regs _ rfl) _ _ _ (by decide)

theorem offsetShown_bad (n : Nat) (s : State) (v : Rat) : (offsetShown n s).offsetBad v = s.offsetBad v := by
  unfold State.offsetBad
  rw [show (offsetShown n s).reg Reg.PH_IZNOM = s.reg Reg.PH_IZNOM from offsetShown_onlyRegs n s _ 0 (by decide),
    show (offsetShown n s).reg Reg.PH_IZWIN = s.reg Reg.PH_IZWIN from offsetShown_onlyRegs n s _ 0 (by decide)]

/-- The registers the end of a NEW phase writes. -/
def offsetFields : List Field := [Reg.PH_OFFSET] ++ stateFields ++ refreshFields

theorem offsetShown_only (t : Edges) (s : State) (n : Nat) : OnlyRegsQuiet offsetFields s (offsetShown n (s.at t)) := fun f i hf =>
  offsetShown_onlyRegs n (s.at t) f i fun h => hf (by
    rw [offsetFields, List.map_append, List.map_append]
    exact List.mem_append_left _ (List.mem_append_left _ h))

theorem offsetShown_ph (n : Chan) (s : State) : (offsetShown n s).ph n = { s.ph n with avg := (s.ph n).newSum / 256 } :=
  ph_setPh_same s n _ n.isLt

/-- A phase taken to FAULT, and its bay's count. -/
def faultTaken (n : Nat) (s : State) : State :=
  ((((s.setPh n { s.ph n with bal := 0, ton := 0, first := false, cur := 0, rail := 0, clamp := false }).putAt Reg.PH_IPH n 0).putAt Reg.PH_BAL n 0).setPst
    n phFault).phRefresh (n / 6)

theorem phFaulted_eq {s : State} {n : Nat} (h : ¬(s.pst n = phPend ∨ s.pst n = phRamp)) (reason : Nat) (v : Rat) : s.phFaulted n reason v =
    ((faultTaken n s).flag Reg.PH_EVT_FLAGS_PHFAULT).raise 0x2084 4 0x03 n (satNat 16 (toUnitNat v) + 65536 * reason) := by
  unfold State.phFaulted
  dsimp only
  rw [if_neg h]
  rfl

theorem phRefresh_phases (s : State) (b : Nat) : (s.phRefresh b).phases = s.phases :=
  (frame_phRefresh (Frame.refl 0x800000 0x10000 s) b (by decide) (by decide)).f_phases (by decide)

theorem phRefresh_core (s : State) (b : Nat) : (s.phRefresh b).core.sup = s.core.sup :=
  (frame_phRefresh (Frame.refl 0x800000 0x10000 s) b (by decide) (by decide)).f_supv (by decide)

theorem toWarm_core (s : State) (n : Nat) : (s.toWarm n).core = s.core := by
  unfold State.toWarm
  split <;> rfl

theorem warmed_sup (t : Edges) (s : State) (n : Nat) :
    (((offsetShown n (s.at t)).toWarm n).phRefresh (n / 6)).core.sup = s.core.sup :=
  by
  rw [phRefresh_core, toWarm_core]
  rfl

theorem faulted_sup (t : Edges) (s : State) (n : Nat) : (faultTaken n (offsetShown n (s.at t))).core.sup = s.core.sup := phRefresh_core _ _

section
variable {t : Edges} {s : State} (hp : s.core.powered = true) (n : Chan) (hnew : s.pst n = phNew) (hn : 256 ≤ (s.ph n).newN)
  (hin : s.bst (n / 6) ≠ bayInrush) (hpfc : s.bst (n / 6) ≠ bayPfc)
include hp hnew hn hin hpfc

theorem does_offsetTaken_warm (hdisc : (s.ph n).discard = false) (hok : s.offsetBad ((s.ph n).newSum / 256) = false) :
    Does (.phaseOffsetTaken t n) s fun u => u.pst n = phWarm ∧ u.regAt Reg.PH_OFFSET n = min 65535 (toUnitNat ((s.ph n).newSum / 256)) ∧
      u.reg Reg.PH_EVT_FLAGS_NEWPH = 1 ∧ bitOf (u.regAt Reg.PH_WARM (n / 6)) (n % 6) = true ∧
      Raised 0x2085 1 n (min 65535 (toUnitNat ((s.ph n).newSum / 256))) s u := by
  let z := ((offsetShown n (s.at t)).toWarm n).phRefresh (n / 6)
  have hz : OnlyRegsQuiet offsetFields s z := onlyRegs_phRefresh (onlyRegs_toWarm (offsetShown_only t s n) n (by decide)) (n / 6) (by decide)
  have hoff : z.regAt Reg.PH_OFFSET n = min 65535 (toUnitNat ((s.ph n).newSum / 256)) :=
    (onlyRegs_phRefresh (l := stateFields ++ refreshFields) (onlyRegs_toWarm (onlyRegsQuiet_of_regs _ rfl) n (by decide)) (n / 6) (by decide)
      Reg.PH_OFFSET n (by decide)).trans (offsetShown_reg n (s.at t))
  have hdisc' : ((offsetShown n (s.at t)).ph n).discard = false := by
    rw [offsetShown_ph]
    exact hdisc
  have hpst : ((offsetShown n (s.at t)).toWarm n).pst n = phWarm := toWarm_pst hdisc'
  let w := (z.flag Reg.PH_EVT_FLAGS_NEWPH).raise 0x2085 1 0x03 n (z.regAt Reg.PH_OFFSET n)
  have hreg : ∀ f : Field, onRecPages f = false → f.place ≠ Reg.PH_EVT_FLAGS_NEWPH.place → ∀ i, w.regAt f i = z.regAt f i := fun f hf hne i =>
    (raise_regAt _ _ _ _ _ _ (by decide) _ hf _).trans (regAt_put_other z _ _ _ _ hne)
  have hbst : w.bst (n / 6) = s.bst (n / 6) := (hreg _ (by decide) (by decide) _).trans (hz _ _ (by decide))
  have heffect : (if (s.at t).pst n = phNew ∧ 256 ≤ ((s.at t).ph n).newN then (s.at t).offsetTaken n else s.at t) = w := by
    rw [if_pos ⟨hnew, hn⟩, offsetTaken_eq, offsetShown_bad]
    refine (if_neg ?_).trans (tryJoin_idle (hbst.trans_ne hin) (hbst.trans_ne hpfc))
    rw [show (s.at t).offsetBad (((s.at t).ph n).newSum / 256) = false from hok]
    exact Bool.false_ne_true
  refine does_of_effect hp (exec_phaseOffsetTaken t n s) heffect ⟨?_, ?_, ?_, ?_, ?_⟩
  · refine (ended_regAt _ _ _ _ _).trans ((hreg Reg.PH_PSTAT_STATE (by decide) (by decide) _).trans ?_)
    exact (phRefresh_pst _ _ _).trans hpst
  · exact (ended_regAt _ _ _ _ _).trans ((hreg _ (by decide) (by decide) _).trans hoff)
  · rw [ended_reg]
    exact (raise_reg _ _ _ _ _ _ (by decide) _ (by decide)).trans (reg_put_same z _ _)
  · rw [ended_regAt, hreg _ (by decide) (by decide)]
    show bitOf (z.regAt Reg.PH_WARM (n / 6)) (n % 6) = true
    rw [phRefresh_warm, bitOf_phaseMask _ _ (Nat.mod_lt _ (by decide)), Nat.div_add_mod, hpst]
    rfl
  · rw [← hoff]
    exact raised_ended (raised_now (z := z.flag Reg.PH_EVT_FLAGS_NEWPH) (by decide) (warmed_sup t s n)
      ((reg_put_other z _ _ _ (by decide)).trans (hz _ 0 (by decide))))

theorem does_offsetTaken_fault (hbad : s.offsetBad ((s.ph n).newSum / 256) = true) :
    Does (.phaseOffsetTaken t n) s fun u => u.pst n = phFault ∧ u.reg Reg.PH_EVT_FLAGS_PHFAULT = 1 ∧
      Raised 0x2084 4 n (min 65535 (toUnitNat ((s.ph n).newSum / 256))) s u := by
  let v := (s.ph n).newSum / 256
  let z := faultTaken n (offsetShown n (s.at t))
  have hz : OnlyRegsQuiet offsetFields s z := onlyRegs_phRefresh (onlyRegs_setPst (onlyRegsQuiet_putAt (onlyRegsQuiet_putAt
    (u := (offsetShown n (s.at t)).setPh n _) (offsetShown_only t s n) _ _ _ (by decide)) _ _ _ (by decide)) n phFault (by decide)) (n / 6) (by decide)
  have hpst : z.pst n = phFault := (phRefresh_pst _ _ _).trans (setPst_pst _ _ _)
  let w := (z.flag Reg.PH_EVT_FLAGS_PHFAULT).raise 0x2084 4 0x03 n (satNat 16 (toUnitNat v) + 65536 * 0)
  have hreg : ∀ f : Field, onRecPages f = false → f.place ≠ Reg.PH_EVT_FLAGS_PHFAULT.place → ∀ i, w.regAt f i = z.regAt f i := fun f hf hne i =>
    (raise_regAt _ _ _ _ _ _ (by decide) _ hf _).trans (regAt_put_other z _ _ _ _ hne)
  have hbst : w.bst (n / 6) = s.bst (n / 6) := (hreg _ (by decide) (by decide) _).trans (hz _ _ (by decide))
  have hfault : (offsetShown n (s.at t)).phFaulted n 0 v = w := by
    have hshown : (offsetShown n (s.at t)).pst n = phNew := (offsetShown_onlyRegs n (s.at t) _ _ (by decide)).trans hnew
    exact phFaulted_eq (by rw [hshown]; decide) _ _
  have heffect : (if (s.at t).pst n = phNew ∧ 256 ≤ ((s.at t).ph n).newN then (s.at t).offsetTaken n else s.at t) = w := by
    rw [if_pos ⟨hnew, hn⟩, offsetTaken_eq, offsetShown_bad, if_pos (show (s.at t).offsetBad (((s.at t).ph n).newSum / 256) = true from hbad)]
    exact (congrArg (fun a : State => a.tryJoin (n / 6)) hfault).trans (tryJoin_idle (hbst.trans_ne hin) (hbst.trans_ne hpfc))
  refine does_of_effect hp (exec_phaseOffsetTaken t n s) heffect ⟨?_, ?_, ?_⟩
  · exact (ended_regAt _ _ _ _ _).trans ((hreg Reg.PH_PSTAT_STATE (by decide) (by decide) _).trans hpst)
  · rw [ended_reg]
    exact (raise_reg _ _ _ _ _ _ (by decide) _ (by decide)).trans (reg_put_same z _ _)
  · have hval : satNat 16 (toUnitNat v) + 65536 * 0 = min 65535 (toUnitNat v) := Nat.min_comm _ _
    rw [← hval]
    exact raised_ended (raised_now (z := z.flag Reg.PH_EVT_FLAGS_PHFAULT) (by decide) (faulted_sup t s n)
      ((reg_put_other z _ _ _ (by decide)).trans (hz _ 0 (by decide))))

end

theorem does_offsetTaken_idle {t : Edges} {s : State} (hp : s.core.powered = true) (n : Chan) (h : s.pst n ≠ phNew ∨ (s.ph n).newN < 256) :
    Does (.phaseOffsetTaken t n) s fun u => u.phases = s.phases ∧ OnlyRegsQuiet [] s u := by
  refine does_of_effect hp (exec_phaseOffsetTaken t n s) (if_neg fun ⟨hnew, hn⟩ => ?_)
    ⟨by simp [ended], onlyRegsQuiet_ended (onlyRegsQuiet_of_regs _ rfl)⟩
  rcases h with h | h
  · exact h hnew
  · exact absurd hn (Nat.not_le.mpr h)

/-! Trims reset by command (R92). -/

/-- The journal's trim dropped. -/
def trimDropped (n : Nat) (s : State) : State :=
  (if (s.trimOf n).isSome then s.jAppend (.trim ⟨n, s.regAt Reg.PH_BAYTYPE (n / 6), 0, 0⟩) else s).putAt Reg.PH_PSTAT_TRIMVALID n 0

theorem discardTrim_eq (s : State) (n : Nat) : s.discardTrim n =
    if (trimDropped n s).conducts n then (trimDropped n s).setPh n { (trimDropped n s).ph n with discard := true }
    else if (trimDropped n s).pst n = phWarm ∨ (trimDropped n s).pst n = phFault then ((trimDropped n s).toNew n).phRefresh (n / 6)
    else trimDropped n s := rfl

theorem trimDropped_pst (n : Nat) (s : State) : (trimDropped n s).pst n = s.pst n := by
  refine (regAt_putAt_other _ _ _ _ _ _ (by decide)).trans ?_
  split
  · exact ((SameButJournal.refl s).jAppend _).cells _ (by decide) (by decide) _
  · rfl

theorem toNew_reg (s : State) (n : Nat) : (s.toNew n).regAt Reg.PH_GAIN n = 0x8000 ∧ (s.toNew n).regAt Reg.PH_PSTAT_TRIMVALID n = 0 := by
  have hset : ∀ (z : State) (f : Field), f.place ≠ Reg.PH_PSTAT_STATE.place → (z.setPst n phNew).regAt f n = z.regAt f n := fun z f hf =>
    regAt_putAt_other (z.setPh n _) _ _ _ _ _ hf
  unfold State.toNew
  dsimp only
  rw [hset _ _ (by decide), hset _ _ (by decide)]
  simp (disch := decide) only [regAt_putAt_other, regAt_putAt_same]
  decide

section
variable {t : Edges} {s : State} (hp : s.core.powered = true) (hup : s.supUp = true) (n : Chan)
include hp hup

theorem does_phTrimrst_wrong {k : Byte} (h : k ≠ 0xA5) : Does (.phTrimrst t n k) s fun u => u.phases = s.phases ∧ u.jrn = s.jrn ∧ OnlyRegsQuiet [] s u :=
  does_of_write ⟨hp, hup⟩ (exec_phTrimrst t n s k) (if_neg h)
    ⟨by simp [ended], by simp [ended], onlyRegsQuiet_ended (onlyRegsQuiet_of_regs _ rfl)⟩

theorem does_phTrimrst_now (h : s.pst n = phWarm ∨ s.pst n = phFault) : Does (.phTrimrst t n 0xA5) s fun u =>
    u.pst n = phNew ∧ u.regAt Reg.PH_GAIN n = 0x8000 ∧ u.regAt Reg.PH_PSTAT_TRIMVALID n = 0 ∧ (u.ph n).newN = 0 := by
  let z := trimDropped n (s.at t)
  have hpst : z.pst n = s.pst n := trimDropped_pst n (s.at t)
  have hcond : z.conducts n = false := by
    unfold State.conducts
    rw [hpst]
    rcases h with h | h <;> rw [h] <;> rfl
  have heffect : (s.at t).trimReset n 0xA5 = (z.toNew n).phRefresh (n / 6) := by
    refine (discardTrim_eq _ _).trans ((if_neg (by rw [hcond]; exact Bool.false_ne_true)).trans (if_pos ?_))
    rw [hpst]
    exact h
  have honly : OnlyRegsQuiet refreshFields (z.toNew n) ((z.toNew n).phRefresh (n / 6)) :=
    onlyRegs_phRefresh (onlyRegsQuiet_of_regs _ rfl) _ (fun f hf => List.mem_map_of_mem hf)
  refine does_of_write ⟨hp, hup⟩ (exec_phTrimrst t n s 0xA5) heffect ⟨?_, ?_, ?_, ?_⟩
  · exact (ended_regAt _ _ _ _ _).trans ((phRefresh_pst _ _ _).trans (toNew_pst _ _))
  · exact (ended_regAt _ _ _ _ _).trans ((honly _ _ (by decide)).trans (toNew_reg z n).1)
  · exact (ended_regAt _ _ _ _ _).trans ((honly _ _ (by decide)).trans (toNew_reg z n).2)
  · rw [ended_ph]
    exact (congrArg PhaseSt.newN (ph_of_phases (phRefresh_phases _ _) n)).trans (toNew_ph z n.isLt)

theorem does_phTrimrst_later (h : s.conducts n = true) : Does (.phTrimrst t n 0xA5) s fun u =>
    u.pst n = s.pst n ∧ u.regAt Reg.PH_PSTAT_TRIMVALID n = 0 ∧ (u.ph n).discard = true := by
  let z := trimDropped n (s.at t)
  have hpst : z.pst n = s.pst n := trimDropped_pst n (s.at t)
  have hcond : z.conducts n = true := by
    unfold State.conducts at h ⊢
    rw [hpst]
    exact h
  have heffect : (s.at t).trimReset n 0xA5 = z.setPh n { z.ph n with discard := true } :=
    (discardTrim_eq _ _).trans (if_pos hcond)
  refine does_of_write ⟨hp, hup⟩ (exec_phTrimrst t n s 0xA5) heffect ⟨?_, ?_, ?_⟩
  · exact (ended_regAt _ _ _ _ _).trans hpst
  · exact (ended_regAt _ _ _ _ _).trans (regAt_putAt_same _ _ _ _)
  · rw [ended_ph, ph_setPh_same _ _ _ n.isLt]

end

/-! The dwell (R89). -/

theorem does_shedDwellExpiry {t : Edges} {s : State} (hp : s.core.powered = true) (b : Bay) {d : Nat} (hd : (s.bay b).dwellAt = some d) :
    (d + s.reg Reg.PH_DWELL * edgeMs ≤ max s.now t → Does (.shedDwellExpiry t b) s fun u => (u.bay b).dwellAt = none ∧ OnlyRegsQuiet [] s u) ∧
    (max s.now t < d + s.reg Reg.PH_DWELL * edgeMs → Does (.shedDwellExpiry t b) s fun u => u.bays = s.bays ∧ OnlyRegsQuiet [] s u) := by
  have hran : (s.at t).ran ((s.at t).bay b).dwellAt ((s.at t).reg Reg.PH_DWELL * edgeMs) = decide (d + s.reg Reg.PH_DWELL * edgeMs ≤ max s.now t) := by
    rw [show ((s.at t).bay b).dwellAt = some d from hd]
    rfl
  refine ⟨fun hdue => ?_, fun hearly => ?_⟩
  · refine does_of_effect hp (exec_shedDwellExpiry t s b) (if_pos (hran.trans (decide_eq_true hdue))) ?_
    rw [ended_bay, bay_setBay_same _ _ _ b.isLt]
    exact ⟨rfl, onlyRegsQuiet_ended (onlyRegsQuiet_of_regs _ rfl)⟩
  · have hno : (s.at t).ran ((s.at t).bay b).dwellAt ((s.at t).reg Reg.PH_DWELL * edgeMs) = false :=
      hran.trans (decide_eq_false (Nat.not_le.mpr hearly))
    refine does_of_effect hp (exec_shedDwellExpiry t s b) (if_neg (by rw [hno]; exact Bool.false_ne_true)) ?_
    exact ⟨ended_bays _ _ _, onlyRegsQuiet_ended (onlyRegsQuiet_of_regs _ rfl)⟩

/-- Settles O21: a NEW phase takes its offset, trims are reset by command, and the dwell ends. -/
theorem newPhasesAndTrims : Obligations.NewPhasesAndTrims := by
  unfold Obligations.NewPhasesAndTrims
  intro t n s hp
  refine ⟨fun hnew hn hdisc hin hpfc => ⟨does_offsetTaken_warm hp n hnew hn hin hpfc hdisc, does_offsetTaken_fault hp n hnew hn hin hpfc⟩,
    does_offsetTaken_idle hp n, fun hup => ⟨fun k hk => does_phTrimrst_wrong hp hup n hk, does_phTrimrst_now hp hup n, does_phTrimrst_later hp hup n⟩,
    fun b d hd => does_shedDwellExpiry hp b hd⟩

end Sys2Proof.PhaseTrims

namespace Sys2Proof.SagBooks

open Sys2Proof Sys2Proof.Machine Sys2Proof.Laws Sys2Proof.LoadSteps Sys2Proof.Readings

/-! Sag episodes and the deep dip (R169-R171). -/

section
variable (t : Edges) (s : State)

/-- The episode of a string closed once it has held. -/
def episodeClosed (k : Nat) (s : State) : State :=
  match s.sagEp k with
  | none => s
  | some e => if s.elapsed e.last (s.reg Reg.STP_SAGHOLD * edgeUs) then s.sagClose k true else s

/-- STP_STAT.SAG falls once the last catching sample is `hold` ago. -/
def sagFallen (hold : Nat) (s : State) : State :=
  if s.ran s.step.sagAt hold then { s with step.sagAt := none }.put Reg.STP_STAT_SAG 0 else s

theorem exec_sagEpisodeClose (k : Str) : exec (.sagEpisodeClose t k) s =
    live t s fun s => sagFallen (s.reg Reg.STP_SAGHOLD * edgeUs) (episodeClosed k.val s) := rfl

end

theorem sagFallen_facts (hold : Nat) (s : State) : (sagFallen hold s).bays = s.bays ∧ (sagFallen hold s).phases = s.phases ∧
    (∀ k, (sagFallen hold s).sagEp k = s.sagEp k) ∧ OnlyRegsQuiet [Reg.STP_STAT_SAG] s (sagFallen hold s) := by
  unfold sagFallen
  split
  · exact ⟨rfl, rfl, fun _ => rfl,
      onlyRegsQuiet_put (u := { s with step.sagAt := none }) (onlyRegsQuiet_of_regs _ rfl) _ _ (by decide)⟩
  · exact ⟨rfl, rfl, fun _ => rfl, onlyRegsQuiet_of_regs _ rfl⟩

theorem sagFallen_due {hold a : Nat} {s : State} (h : s.step.sagAt = some a) (hdue : a + hold ≤ s.now) :
    (sagFallen hold s).reg Reg.STP_STAT_SAG = 0 ∧ (sagFallen hold s).step.sagAt = none := by
  have hran : s.ran s.step.sagAt hold = true := by
    rw [h]
    exact decide_eq_true hdue
  unfold sagFallen
  rw [if_pos hran]
  exact ⟨reg_put_same _ _ _, rfl⟩

/-! The booking of an episode. -/

theorem sagHand_frame (s : State) (k : Nat) (q : Rat) : Frame 0x60000000 0x8000000 s (s.sagHand k q) :=
  frame_sagHand (Frame.refl _ _ s) k q (by decide) (by decide)

theorem sagBook_step (s : State) (k : Nat) (e : SagEp) : (s.sagBook k e).step = s.step :=
  (frame_sagBook (Frame.refl 0x1040 0xc000800020 s) k e (by decide) (by decide)).f_step (by decide)

theorem sagBook_facts {s : State} {k : Nat} (h : s.regAt Reg.FUS_ISCAL (8 + k) ≠ 0) (e : SagEp) :
    (s.sagBook k e).regAt Reg.STP_SAGQ k = min (2 ^ Reg.STP_SAGQ.width - 1) (s.regAt Reg.STP_SAGQ k + toUnitNat e.sum) ∧
    (s.sagBook k e).regAt Reg.STP_SAGN k = min (2 ^ Reg.STP_SAGN.width - 1) (s.regAt Reg.STP_SAGN k + 1) ∧
    (s.sagBook k e).reg Reg.STP_FLAGS_SAGEND = 1 := by
  unfold State.sagBook
  rw [if_neg h]
  dsimp only
  refine ⟨(raise_regAt _ _ _ _ _ _ (by decide) _ (by decide) _).trans ?_, (raise_regAt _ _ _ _ _ _ (by decide) _ (by decide) _).trans ?_,
    (raise_reg _ _ _ _ _ _ (by decide) _ (by decide)).trans (reg_put_same _ _ _)⟩
  · refine (regAt_put_other _ _ _ _ _ (by decide)).trans ((regAt_put_other _ _ _ _ _ (by decide)).trans
      ((regAt_putAt_other _ _ _ _ _ _ (by decide)).trans ?_))
    exact (regAt_putAt_same _ _ _ _).trans (satNat_mod _ _)
  · refine (regAt_put_other _ _ _ _ _ (by decide)).trans ((regAt_put_other _ _ _ _ _ (by decide)).trans ?_)
    refine (regAt_putAt_same _ _ _ _).trans ((satNat_mod _ _).trans ?_)
    rw [show (s.putAtSat Reg.STP_SAGQ k (s.regAt Reg.STP_SAGQ k + toUnitNat e.sum)).regAt Reg.STP_SAGN k = s.regAt Reg.STP_SAGN k from
      regAt_putAt_other _ _ _ _ _ _ (by decide)]

theorem sagClose_eq {s : State} {k : Nat} {e : SagEp} (h : s.sagEp k = some e) (hand : Bool) : ∃ q, s.sagClose k hand =
    ((s.setSag k none).sagBook k e).sagHand k q := by
  unfold State.sagClose
  rw [h]
  exact ⟨_, rfl⟩

theorem setSag_sagEp (s : State) (k : Nat) : (s.setSag k none).sagEp k = none := by
  unfold State.sagEp State.setSag
  by_cases h : k < 8
  · simp [h]
  · simp [h]

section
variable {t : Edges} {s : State} (hp : s.core.powered = true) (k : Str)
include hp

theorem does_sagEpisodeClose {e : SagEp} (he : s.sagEp k = some e) (hdue : e.last + s.reg Reg.STP_SAGHOLD * edgeUs ≤ max s.now t)
    (hscale : s.regAt Reg.FUS_ISCAL (8 + k) ≠ 0) : Does (.sagEpisodeClose t k) s fun u => u.sagEp k = none ∧
      u.regAt Reg.STP_SAGQ k = min (2 ^ Reg.STP_SAGQ.width - 1) (s.regAt Reg.STP_SAGQ k + toUnitNat e.sum) ∧
      u.regAt Reg.STP_SAGN k = min (2 ^ Reg.STP_SAGN.width - 1) (s.regAt Reg.STP_SAGN k + 1) ∧ u.reg Reg.STP_FLAGS_SAGEND = 1 ∧
      u.bays = s.bays ∧ u.phases = s.phases := by
  obtain ⟨q, hclose⟩ := sagClose_eq (s := s.at t) he true
  let w := ((s.at t).setSag k none).sagBook k e
  let z := w.sagHand k q
  have hclosed : episodeClosed k (s.at t) = z := by
    unfold episodeClosed
    rw [show (s.at t).sagEp k = some e from he]
    exact (if_pos (decide_eq_true hdue)).trans hclose
  have hhand := sagHand_frame w k q
  have hbook := frame_sagBook (Frame.refl 0x1040 0xc000800020 ((s.at t).setSag k none)) k e (by decide) (by decide)
  obtain ⟨hq, hn, hend⟩ := sagBook_facts (s := (s.at t).setSag k none) hscale e
  obtain ⟨hbays, hphases, hep, honly⟩ := sagFallen_facts (s.reg Reg.STP_SAGHOLD * edgeUs) z
  have hstep : z.step = ((s.at t).setSag k none).step := (hhand.f_step (by decide)).trans (sagBook_step _ _ _)
  refine does_of_effect hp (exec_sagEpisodeClose t s k)
    (congrArg (sagFallen (s.reg Reg.STP_SAGHOLD * edgeUs)) hclosed) ⟨?_, ?_, ?_, ?_, ?_, ?_⟩
  · have hend : (ended t s fun _ => sagFallen (s.reg Reg.STP_SAGHOLD * edgeUs) z).sagEp k = z.sagEp k := by
      unfold State.sagEp
      rw [ended_step]
      exact hep k
    rw [hend]
    unfold State.sagEp
    rw [hstep]
    exact setSag_sagEp (s.at t) k
  · rw [ended_regAt, honly _ _ (by decide)]
    exact (hhand.f_regs _ _ (by decide)).trans hq
  · rw [ended_regAt, honly _ _ (by decide)]
    exact (hhand.f_regs _ _ (by decide)).trans hn
  · rw [ended_reg]
    exact (honly _ 0 (by decide)).trans ((hhand.f_regs _ 0 (by decide)).trans hend)
  · rw [ended_bays, hbays]
    exact (hhand.f_bays (by decide)).trans (hbook.f_bays (by decide))
  · rw [ended_phases, hphases]
    exact (hhand.f_phases (by decide)).trans (hbook.f_phases (by decide))

theorem does_sagEpisodeClose_early {e : SagEp} (he : s.sagEp k = some e) (hearly : max s.now t < e.last + s.reg Reg.STP_SAGHOLD * edgeUs) :
    Does (.sagEpisodeClose t k) s fun u => u.sagEp k = some e ∧ OnlyRegsQuiet [Reg.STP_STAT_SAG] s u := by
  have hclosed : episodeClosed k (s.at t) = s.at t := by
    unfold episodeClosed
    rw [show (s.at t).sagEp k = some e from he]
    exact if_neg (by
      rw [show (s.at t).elapsed e.last ((s.at t).reg Reg.STP_SAGHOLD * edgeUs) = false from decide_eq_false (Nat.not_le.mpr hearly)]
      exact Bool.false_ne_true)
  obtain ⟨-, -, hep, honly⟩ := sagFallen_facts (s.reg Reg.STP_SAGHOLD * edgeUs) (s.at t)
  refine does_of_effect hp (exec_sagEpisodeClose t s k)
    (congrArg (sagFallen (s.reg Reg.STP_SAGHOLD * edgeUs)) hclosed) ⟨?_, onlyRegsQuiet_ended honly⟩
  unfold State.sagEp
  rw [ended_step]
  exact (hep k).trans he

theorem does_sagFall {a : Nat} (ha : s.step.sagAt = some a) (hdue : a + s.reg Reg.STP_SAGHOLD * edgeUs ≤ max s.now t) :
    Does (.sagEpisodeClose t k) s fun u => u.reg Reg.STP_STAT_SAG = 0 ∧ u.step.sagAt = none := by
  have hclosed : (episodeClosed k (s.at t)).step.sagAt = some a ∧ (episodeClosed k (s.at t)).now = max s.now t := by
    unfold episodeClosed
    split
    · exact ⟨ha, rfl⟩
    next e he =>
      split
      · obtain ⟨q, hclose⟩ := sagClose_eq he true
        rw [hclose]
        have hhand := sagHand_frame (((s.at t).setSag k none).sagBook k e) k q
        have hbook := frame_sagBook (Frame.refl 0x1040 0xc000800020 ((s.at t).setSag k none)) k e (by decide) (by decide)
        exact ⟨(congrArg StepSt.sagAt ((hhand.f_step (by decide)).trans (hbook.f_step (by decide)))).trans ha,
          (hhand.f_now (by decide)).trans (hbook.f_now (by decide))⟩
      · exact ⟨ha, rfl⟩
  obtain ⟨hat, hnow⟩ := hclosed
  obtain ⟨hfall, hnone⟩ := sagFallen_due (hold := s.reg Reg.STP_SAGHOLD * edgeUs) hat (hnow.symm ▸ hdue)
  refine does_of_effect hp (exec_sagEpisodeClose t s k) rfl ⟨?_, ?_⟩
  · rw [ended_reg]
    exact hfall
  · rw [ended_step]
    exact hnone

end

/-! A regulation point sample. -/

/-- The four codes of a sample shown. -/
def tapsShown (q : Codes4) (s : State) : State :=
  (((s.putAt Reg.TLM_RAW_VTAP 0 q.c0.toNat).putAt Reg.TLM_RAW_VTAP 1 q.c1.toNat).putAt Reg.TLM_RAW_VTAP 2 q.c2.toNat).putAt
    Reg.TLM_RAW_VTAP 3 q.c3.toNat

theorem tapsShown_reg (q : Codes4) (s : State) : (tapsShown q s).regAt Reg.TLM_RAW_VTAP 0 = q.c0.toNat ∧
    (tapsShown q s).regAt Reg.TLM_RAW_VTAP 1 = q.c1.toNat ∧ (tapsShown q s).regAt Reg.TLM_RAW_VTAP 2 = q.c2.toNat ∧
    (tapsShown q s).regAt Reg.TLM_RAW_VTAP 3 = q.c3.toNat := by
  have hcode : ∀ c : Code, c.toNat % 2 ^ Reg.TLM_RAW_VTAP.width = c.toNat := fun c => Nat.mod_eq_of_lt c.isLt
  unfold tapsShown
  simp (disch := omega) only [regAt_putAt_same, regAt_putAt_inst, hcode, and_self]

/-- The sample in the shelf's telemetry, and the lowest sample kept. -/
def pointShown (q : Codes4) (s : State) : State :=
  let z := tapsShown q s
  let w := { z with sup.rpAcc := z.sup.rpAcc + z.rpMv, sup.rpN := z.sup.rpN + 1 }.shelfSample z.rpMv
  w.put Reg.STP_VMIN (min (w.reg Reg.STP_VMIN) (toUnitNat z.rpMv))

theorem exec_regulationPointSample (t : Edges) (q : Codes4) (s : State) : exec (.regulationPointSample t q) s = live t s fun s =>
    if (tapsShown q s).rpMv < 10 * (pointShown q s).reg Reg.STP_VDEEP then (pointShown q s).deepSag else pointShown q s := rfl

/-- A mean of codes is no larger than a code. -/
theorem toUnitNat_le {q : Rat} {n : Nat} (h : q ≤ n) : toUnitNat q ≤ n := by
  have hz : toUnit q ≤ (n : Int) := by
    unfold toUnit
    split
    next hden =>
      have hq : (q.num : Rat) = q := Rat.coe_int_num_of_den_eq_one hden
      exact_mod_cast hq.le.trans h
    · split
      · rw [Rat.ceil_eq_neg_floor_neg, neg_le, Rat.le_floor_iff]
        push_cast
        exact neg_le_neg h
      · exact (Int.floor_le_floor h).trans (by rw [Int.floor_natCast])
  exact Int.toNat_le.mpr hz

/-- The mean of the taps' codes is no larger than the largest code. -/
theorem rpMv_le {s : State} {m : Nat} (h : ∀ k < 4, s.regAt Reg.TLM_RAW_VTAP k ≤ m) : s.rpMv ≤ m := by
  have hfold : ∀ (l : List Nat), (∀ k ∈ l, k < 4) → ∀ a : Nat, l.foldl (fun n k => n + s.regAt Reg.TLM_RAW_VTAP k) a ≤ a + m * l.length := by
    intro l
    induction l with
    | nil => exact fun _ a => Nat.le_refl _
    | cons k l ih =>
      intro hl a
      refine (ih (fun j hj => hl j (List.mem_cons_of_mem _ hj)) _).trans ?_
      have hk := h k (hl k List.mem_cons_self)
      show a + s.regAt Reg.TLM_RAW_VTAP k + m * l.length ≤ a + m * (l.length + 1)
      rw [Nat.mul_succ]
      omega
  have htaps : ∀ k ∈ s.taps, k < 4 := fun k hk => by
    unfold State.taps at hk
    exact List.mem_range.mp (List.mem_filter.mp hk).1
  have hsum := hfold s.taps htaps 0
  unfold State.rpMv
  have hpos : (0 : Rat) < (max 1 s.taps.length : Nat) := by exact_mod_cast Nat.lt_of_lt_of_le Nat.one_pos (Nat.le_max_left _ _)
  rw [div_le_iff₀ hpos]
  have hle : s.taps.foldl (fun n k => n + s.regAt Reg.TLM_RAW_VTAP k) 0 ≤ m * max 1 s.taps.length :=
    (Nat.zero_add _ ▸ hsum).trans (Nat.mul_le_mul_left _ (Nat.le_max_right _ _))
  exact_mod_cast hle

theorem rpMv_congr {s u : State} (htap : ∀ k, u.regAt Reg.TLM_RAW_VTAP k = s.regAt Reg.TLM_RAW_VTAP k)
    (hsel : u.reg Reg.SHR_CTL_TAPSEL = s.reg Reg.SHR_CTL_TAPSEL) : u.rpMv = s.rpMv := by
  unfold State.rpMv State.taps
  simp only [htap, hsel]

theorem tapsShown_le (q : Codes4) (s : State) : ∀ k < 4, (tapsShown q s).regAt Reg.TLM_RAW_VTAP k ≤ 65535 := by
  obtain ⟨h0, h1, h2, h3⟩ := tapsShown_reg q s
  have hcode : ∀ c : Code, c.toNat ≤ 65535 := fun c => Nat.le_of_lt_succ c.isLt
  intro k hk
  rcases k with _ | _ | _ | _ | k
  · rw [h0]; exact hcode _
  · rw [h1]; exact hcode _
  · rw [h2]; exact hcode _
  · rw [h3]; exact hcode _
  · omega

/-- What a sample's telemetry leaves. -/
theorem pointShown_facts (q : Codes4) (s : State) : (pointShown q s).step = s.step ∧ (pointShown q s).core.sup = s.core.sup ∧
    (∀ k, (pointShown q s).regAt Reg.TLM_RAW_VTAP k = (tapsShown q s).regAt Reg.TLM_RAW_VTAP k) ∧
    (pointShown q s).reg Reg.STP_VMIN = min (s.reg Reg.STP_VMIN) (toUnitNat (tapsShown q s).rpMv) ∧
    (∀ f : Field, Nat.testBit 0x1000000000 f.onPage = false → f.place ≠ Reg.TLM_RAW_VTAP.place → f.place ≠ Reg.STP_VMIN.place →
      (pointShown q s).reg f = s.reg f) := by
  let z := tapsShown q s
  let y : State := { z with sup.rpAcc := z.sup.rpAcc + z.rpMv, sup.rpN := z.sup.rpN + 1 }
  have hframe : Frame 0x200000000 0x1000000000 y (y.shelfSample z.rpMv) := frame_shelfSample (Frame.refl _ _ y) _ (by decide) (by decide)
  have htaps : ∀ f : Field, f.place ≠ Reg.TLM_RAW_VTAP.place → z.reg f = s.reg f := fun f hf => by
    show z.regAt f 0 = s.regAt f 0
    show (tapsShown q s).regAt f 0 = _
    unfold tapsShown
    simp only [regAt_putAt_other _ _ _ _ _ _ hf]
  refine ⟨hframe.f_step (by decide), hframe.f_supv (by decide), fun k => ?_, ?_, fun f hpage hne hne' => ?_⟩
  · exact (regAt_put_other _ _ _ _ _ (by decide)).trans (hframe.f_regs _ k (by decide))
  · have hv : (y.shelfSample z.rpMv).reg Reg.STP_VMIN = s.reg Reg.STP_VMIN := (hframe.f_regs _ 0 (by decide)).trans (htaps _ (by decide))
    have hmean : toUnitNat z.rpMv ≤ 65535 := toUnitNat_le (rpMv_le (tapsShown_le q s))
    refine (reg_put_same _ _ _).trans ?_
    rw [hv]
    exact Nat.mod_eq_of_lt (Nat.lt_of_le_of_lt (Nat.min_le_right _ _) (Nat.lt_succ_of_le hmean))
  · exact (reg_put_other _ _ _ _ hne').trans ((hframe.f_regs _ 0 hpage).trans (htaps f hne))

/-- What a command shows that leaves the taps' codes, their choice and STP_VMIN as the sample's telemetry has them. -/
theorem point_readings (t : Edges) (s : State) (q : Codes4) {w : State}
    (hw : ∀ k, w.regAt Reg.TLM_RAW_VTAP k = (pointShown q (s.at t)).regAt Reg.TLM_RAW_VTAP k)
    (hsel : w.reg Reg.SHR_CTL_TAPSEL = (pointShown q (s.at t)).reg Reg.SHR_CTL_TAPSEL)
    (hmin : w.reg Reg.STP_VMIN = (pointShown q (s.at t)).reg Reg.STP_VMIN) :
    let u := ended t s fun _ => w
    u.regAt Reg.TLM_RAW_VTAP 0 = q.c0.toNat ∧ u.regAt Reg.TLM_RAW_VTAP 1 = q.c1.toNat ∧ u.regAt Reg.TLM_RAW_VTAP 2 = q.c2.toNat ∧
    u.regAt Reg.TLM_RAW_VTAP 3 = q.c3.toNat ∧ u.reg Reg.STP_VMIN = min (s.reg Reg.STP_VMIN) (toUnitNat u.rpMv) ∧
    u.rpMv = (tapsShown q (s.at t)).rpMv := by
  obtain ⟨-, -, hcodes, hmin', hother⟩ := pointShown_facts q (s.at t)
  obtain ⟨h0, h1, h2, h3⟩ := tapsShown_reg q (s.at t)
  intro u
  have hu : ∀ k, u.regAt Reg.TLM_RAW_VTAP k = (tapsShown q (s.at t)).regAt Reg.TLM_RAW_VTAP k := fun k =>
    (ended_regAt _ _ _ _ _).trans ((hw k).trans (hcodes k))
  have hrp : u.rpMv = (tapsShown q (s.at t)).rpMv := by
    refine rpMv_congr hu ((ended_reg _ _ _ _).trans (hsel.trans ((hother _ (by decide) (by decide) (by decide)).trans ?_)))
    show (s.at t).regAt Reg.SHR_CTL_TAPSEL 0 = (tapsShown q (s.at t)).regAt Reg.SHR_CTL_TAPSEL 0
    unfold tapsShown
    simp (disch := decide) only [regAt_putAt_other]
  refine ⟨(hu 0).trans h0, (hu 1).trans h1, (hu 2).trans h2, (hu 3).trans h3, ?_, hrp⟩
  rw [hrp]
  exact (ended_reg _ _ _ _).trans (hmin.trans hmin')

/-- A deep dip told. -/
def deepNoted (s : State) : State :=
  { s with step.deepAt := some s.now, step.deepTold := s.step.catching != 0 }.flag Reg.STP_FLAGS_DEEP

theorem deepNoted_other (s : State) {f : Field} (hf : f.place ≠ Reg.STP_FLAGS_DEEP.place) : (deepNoted s).reg f = s.reg f :=
  reg_put_other { s with step.deepAt := some s.now, step.deepTold := s.step.catching != 0 } _ _ _ hf

theorem deepSag_onlyRegs (s : State) : OnlyRegs [Reg.STP_FLAGS_DEEP] s s.deepSag := by
  have hflag : OnlyRegs [Reg.STP_FLAGS_DEEP] s (deepNoted s) :=
    onlyRegs_put (u := { s with step.deepAt := some s.now, step.deepTold := s.step.catching != 0 }) (fun _ _ _ _ => rfl) _ _ (by decide)
  have hdeep : ∀ due : Bool, OnlyRegs [Reg.STP_FLAGS_DEEP] s
      (if due then (deepNoted s).raise 0x1161 4 0x07 ((deepNoted s).reg Reg.STP_VMIN) s.step.catching else s) := fun due => by
    split
    · exact onlyRegs_raise hflag _ _ _ _ _ (.inl (by decide))
    · exact fun _ _ _ _ => rfl
  exact hdeep _

/-- A sample below STP_VDEEP outside a sag that has told it. -/
theorem deepSag_eq {s : State} (hc : s.step.catching = 0) (hd : s.step.deepAt = none) :
    s.deepSag = (deepNoted s).raise 0x1161 4 0x07 (s.reg Reg.STP_VMIN) 0 := by
  rw [← deepNoted_other s (f := Reg.STP_VMIN) (by decide), ← hc]
  unfold State.deepSag
  dsimp only
  rw [if_neg (not_not_intro hc), hd]
  exact if_pos rfl

theorem does_regulationPointSample {t : Edges} {s : State} (hp : s.core.powered = true) (q : Codes4) : Does (.regulationPointSample t q) s fun u =>
    u.regAt Reg.TLM_RAW_VTAP 0 = q.c0.toNat ∧ u.regAt Reg.TLM_RAW_VTAP 1 = q.c1.toNat ∧ u.regAt Reg.TLM_RAW_VTAP 2 = q.c2.toNat ∧
    u.regAt Reg.TLM_RAW_VTAP 3 = q.c3.toNat ∧ u.reg Reg.STP_VMIN = min (s.reg Reg.STP_VMIN) (toUnitNat u.rpMv) ∧
    (10 * s.reg Reg.STP_VDEEP ≤ u.rpMv → u.reg Reg.STP_FLAGS_DEEP = s.reg Reg.STP_FLAGS_DEEP ∧ u.step = s.step) ∧
    (u.rpMv < 10 * s.reg Reg.STP_VDEEP → s.step.catching = 0 → s.step.deepAt = none →
      u.reg Reg.STP_FLAGS_DEEP = 1 ∧ Raised 0x1161 4 (u.reg Reg.STP_VMIN) 0 s u) := by
  obtain ⟨hstep, hsup, -, -, hother⟩ := pointShown_facts q (s.at t)
  have hdeep : (pointShown q (s.at t)).reg Reg.STP_VDEEP = s.reg Reg.STP_VDEEP := hother _ (by decide) (by decide) (by decide)
  by_cases hrow : (tapsShown q (s.at t)).rpMv < 10 * (pointShown q (s.at t)).reg Reg.STP_VDEEP
  · have honly := deepSag_onlyRegs (pointShown q (s.at t))
    have hv : (pointShown q (s.at t)).deepSag.reg Reg.STP_VMIN = (pointShown q (s.at t)).reg Reg.STP_VMIN := honly _ 0 (by decide) (by decide)
    obtain ⟨h0, h1, h2, h3, hmin, hrp⟩ := point_readings t s q (fun k => honly _ k (by decide) (by decide)) (honly _ 0 (by decide) (by decide)) hv
    rw [hdeep] at hrow
    refine does_of_effect hp (exec_regulationPointSample t q s) (if_pos (hdeep.symm ▸ hrow)) ⟨h0, h1, h2, h3, hmin, fun hle => ?_, fun _ hc hd => ?_⟩
    · rw [hrp] at hle
      exact absurd hrow (not_lt.mpr hle)
    · have heq := deepSag_eq ((congrArg StepSt.catching hstep).trans hc) ((congrArg StepSt.deepAt hstep).trans hd)
      rw [ended_reg, ended_reg, hv, heq]
      refine ⟨(raise_reg _ _ _ _ _ _ (by decide) _ (by decide)).trans (reg_put_same _ _ _), raised_ended ?_⟩
      exact raised_now (z := deepNoted (pointShown q (s.at t))) (by decide) hsup
        ((deepNoted_other _ (by decide)).trans (hother _ (by decide) (by decide) (by decide)))
  · obtain ⟨h0, h1, h2, h3, hmin, hrp⟩ := point_readings t s q (w := pointShown q (s.at t)) (fun _ => rfl) rfl rfl
    refine does_of_effect hp (exec_regulationPointSample t q s) (if_neg hrow) ⟨h0, h1, h2, h3, hmin, fun _ => ⟨?_, ?_⟩, fun hlt => ?_⟩
    · exact (ended_reg _ _ _ _).trans (hother _ (by decide) (by decide) (by decide))
    · exact (ended_step _ _ _).trans hstep
    · rw [hrp] at hlt
      rw [hdeep] at hrow
      exact absurd hlt hrow

/-- Settles O32: episodes close and book their charge, STP_STAT.SAG falls, and a deep dip is told. -/
theorem sagEpisodes : Obligations.SagEpisodes := by
  unfold Obligations.SagEpisodes
  intro t k s hp
  exact ⟨fun e he => ⟨fun hdue hscale _ => does_sagEpisodeClose hp k he hdue hscale, does_sagEpisodeClose_early hp k he⟩,
    fun a ha hdue => does_sagFall hp k ha hdue, does_regulationPointSample hp⟩

end Sys2Proof.SagBooks

namespace Sys2Proof.GrantWrites

open Sys2Proof Sys2Proof.Machine Sys2Proof.Laws Sys2Proof.LoadSteps Sys2Proof.Readings Sys2Proof.StringStates

/-! Grants read back and published, and the acceptance before PACE is released (R177, R183, R184, R189). -/

section
variable (t : Edges) (s : State)

theorem exec_grantReadback (id : Byte) : exec (.grantReadback t id) s = hostWrite t s fun s => s.grantReadback id.toNat := rfl
theorem exec_grantWrite (res : BusResult) : exec (.grantWrite t res) s = live t s fun s => s.grantWrite res := rfl

theorem exec_paceReturnAcceptance (g : Fin 16) : exec (.paceReturnAcceptance t g) s = live t s fun s =>
    if 1 ≤ s.rcls g.val ∧ s.rcls g.val ≤ 4 ∧ s.mode ≠ modeTadpole ∧ bitOf s.cap.pace g.val ∧
      bitOf (s.paceNow ((s.wheel.idx + 1) % 64)) g.val = false then s.warnActs (s.rcls g.val) else s := rfl

end

theorem grantBytes_length (s : State) (i : Nat) : (s.grantBytes i).length = 12 := by
  unfold State.grantBytes
  simp [natBytes]

theorem grantBytes_head (s : State) (i : Nat) : (s.grantBytes i).head? = some i := rfl

theorem does_grantReadback {t : Edges} {s : State} (hp : s.core.powered = true) (id : Byte) (hup : s.supUp = true) (how : s.owner = true)
    (hmode : s.mode ≠ modeShadow) (hid : id.toNat < 128) : Does (.grantReadback t id) s fun u =>
    u.cap.readId = id.toNat ∧ u.portS.sent.length = 12 ∧ u.portS.sent.head? = some id.toNat ∧ OnlyRegsQuiet [] s u := by
  refine does_of_write ⟨hp, hup⟩ (exec_grantReadback t s id) (if_pos ⟨how, hmode, hid⟩) ?_
  rw [ended_cap, ended_portS]
  exact ⟨rfl, grantBytes_length _ _, grantBytes_head _ _, onlyRegsQuiet_ended (onlyRegsQuiet_of_regs _ rfl)⟩

theorem does_grantReadback_none {t : Edges} {s : State} (hp : s.core.powered = true) (id : Byte)
    (h : s.supUp = false ∨ s.owner = false ∨ s.mode = modeShadow ∨ 128 ≤ id.toNat) : Does (.grantReadback t id) s fun u =>
    u.cap = s.cap ∧ u.portS = s.portS ∧ OnlyRegsQuiet [] s u := by
  have heffect : (if (s.at t).supUp then (s.at t).grantReadback id.toNat else s.at t) = s.at t := by
    rcases h with h | h
    · exact if_neg (by rw [show (s.at t).supUp = false from h]; exact Bool.false_ne_true)
    · have hread : (s.at t).grantReadback id.toNat = s.at t := if_neg fun ⟨how, hmode, hid⟩ => by
        rcases h with h | h | h
        · exact absurd (h.symm.trans how) Bool.false_ne_true
        · exact hmode h
        · exact absurd hid (Nat.not_lt.mpr h)
      rw [hread, ite_self]
  refine does_of_effect (f := fun s => if s.supUp then s.grantReadback id.toNat else s) hp (exec_grantReadback t s id) heffect ?_
  exact ⟨ended_cap _ _ _, ended_portS _ _ _, onlyRegsQuiet_ended (onlyRegsQuiet_of_regs _ rfl)⟩

/-! The front of the queue written. -/

/-- What a write of the front does, by its result. -/
theorem grantWrite_eq {s : State} {i : Nat} (hq : s.cap.queue.head? = some i) (how : s.owner = true) (hup : s.supUp = true) (res : BusResult) :
    s.grantWrite res = match res with
      | .acked => ({ s with cap.queue := s.cap.queue.tail, cap.tries := 0, cap.arb := 0 }.grantAcked i).queueEnd
      | .nack _ => s.grantNack i s.cap.queue.tail
      | .lostArb =>
        if s.cap.arb < 7 then { s.bump Reg.S_ARBCNT with cap.arb := s.cap.arb + 1 }
        else ((s.bump Reg.S_ARBCNT).raise 0x6240 3 0x11 1 ((s.bump Reg.S_ARBCNT).recByte i 2)).grantNack i s.cap.queue.tail := by
  obtain ⟨rest, hrest⟩ := List.head?_eq_some_iff.mp hq
  unfold State.grantWrite
  rw [hrest]
  dsimp only
  rw [if_neg (by rw [how, hup]; decide)]
  cases res <;> rfl

theorem queueEnd_facts (s : State) : s.queueEnd.cap = s.cap ∧ OnlyRegsQuiet [Reg.CAP_PUBLAG] s s.queueEnd := by
  unfold State.queueEnd
  split
  · exact ⟨rfl, onlyRegsQuiet_put (onlyRegsQuiet_of_regs _ rfl) _ _ (by decide)⟩
  · exact ⟨rfl, onlyRegsQuiet_of_regs _ rfl⟩

theorem ct_setCt_same (s : State) {i : Nat} (v : CtSt) (h : i < 128) : (s.setCt i v).ct i = v := by
  unfold State.ct State.setCt
  simp [h]

theorem ct_of_cap {s u : State} (h : u.cap = s.cap) (i : Nat) : u.ct i = s.ct i := by
  unfold State.ct
  rw [h]

theorem croakDone_facts (s : State) (p : PortId) : (s.croakDone p).cap = s.cap ∧ OnlyRegs [] s (s.croakDone p) := by
  have hframe := frame_croakDone (Frame.refl 0x1d040 0xc000000020 s) p (by decide) (by decide)
  refine ⟨hframe.f_cap (by decide), ?_⟩
  unfold State.croakDone
  split
  · exact fun _ _ _ _ => rfl
  · refine onlyRegs_raise (u := s.setPort p _) (fun f i _ _ => ?_) _ _ _ _ _ (.inl (by decide))
    unfold State.setPort
    cases p <;> rfl

/-- The registers an acknowledgement clears and counts. -/
def grantCleared (i : Nat) (s : State) : State :=
  ((s.putAt Reg.CAP_CT_NACKS i 0).putBit Reg.CAP_CT_UNREACH i false).bump Reg.S_GWCNT

theorem grantCleared_reg (i : Nat) (hi : i < 128) (s : State) : (grantCleared i s).regAt Reg.CAP_CT_NACKS i = 0 ∧
    bitOf ((grantCleared i s).reg Reg.CAP_CT_UNREACH) i = false ∧
    (grantCleared i s).reg Reg.S_GWCNT = min (2 ^ Reg.S_GWCNT.width - 1) (s.reg Reg.S_GWCNT + 1) := by
  unfold grantCleared State.putBit State.bump
  refine ⟨?_, ?_, ?_⟩
  · rw [regAt_put_other _ _ _ _ _ (by decide), regAt_put_other _ _ _ _ _ (by decide), regAt_putAt_same]
    rfl
  · rw [reg_put_other _ _ _ _ (by decide)]
    exact bitOf_reg_put_setBit _ _ _ _ _ hi
  · refine (reg_put_same _ _ _).trans ((satNat_mod _ _).trans ?_)
    rw [reg_put_other _ _ _ _ (by decide), show (s.putAt Reg.CAP_CT_NACKS i 0).reg Reg.S_GWCNT = s.reg Reg.S_GWCNT from
      regAt_putAt_other _ _ _ _ _ _ (by decide)]

/-- The record of a contract whose grant has been said. -/
def grantSaid (i : Nat) (s : State) : State :=
  s.setCt i { s.ct i with said := if s.ctOpen i then some ((s.ct i).grant, s.grantState i) else none, age := 0, closing := false }

theorem grantAcked_eq (s : State) (i : Nat) : s.grantAcked i = (grantCleared i (grantSaid i s)).croakDone .s := rfl

section
variable {t : Edges} {s : State} (hp : s.core.powered = true) (i : Fin 128) (hq : s.cap.queue.head? = some i.val) (how : s.owner = true)
  (hup : s.supUp = true)
include hp hq how hup

theorem does_grantWrite_acked : Does (.grantWrite t .acked) s fun u =>
    u.cap.queue = s.cap.queue.tail ∧ (u.ct i).age = 0 ∧ u.cap.tries = 0 ∧ u.regAt Reg.CAP_CT_NACKS i = 0 ∧
    bitOf (u.reg Reg.CAP_CT_UNREACH) i = false ∧ u.reg Reg.S_GWCNT = min (2 ^ Reg.S_GWCNT.width - 1) (s.reg Reg.S_GWCNT + 1) := by
  let y : State := { s.at t with cap.queue := s.cap.queue.tail, cap.tries := 0, cap.arb := 0 }
  let z := grantCleared i (grantSaid i y)
  obtain ⟨hnacks, hreach, hcount⟩ := grantCleared_reg i i.isLt (grantSaid i y)
  obtain ⟨hcap, honly⟩ := croakDone_facts z .s
  obtain ⟨hcap', honly'⟩ := queueEnd_facts (z.croakDone .s)
  have hz : z.cap = (grantSaid i y).cap := rfl
  have hall := hcap'.trans (hcap.trans hz)
  refine does_of_effect hp (exec_grantWrite t s .acked)
    ((grantWrite_eq (s := s.at t) hq how hup .acked).trans (congrArg State.queueEnd (grantAcked_eq y i))) ⟨?_, ?_, ?_, ?_, ?_, ?_⟩
  · rw [ended_cap]
    exact congrArg CapSt.queue hall
  · rw [ct_of_cap (ended_cap _ _ _), ct_of_cap hall]
    exact congrArg CtSt.age (ct_setCt_same y _ i.isLt)
  · rw [ended_cap]
    exact congrArg CapSt.tries hall
  · rw [ended_regAt]
    exact (honly' _ _ (by decide)).trans ((honly _ _ (by decide) (by decide)).trans hnacks)
  · rw [ended_reg]
    exact (congrArg (bitOf · i) ((honly' _ 0 (by decide)).trans (honly _ 0 (by decide) (by decide)))).trans hreach
  · rw [ended_reg]
    exact (honly' _ 0 (by decide)).trans ((honly _ 0 (by decide) (by decide)).trans hcount)

theorem does_grantWrite_again (k : Nat) (h : s.cap.tries < 2) : Does (.grantWrite t (.nack k)) s fun u =>
    u.cap.queue = s.cap.queue ∧ u.cap.tries = s.cap.tries + 1 ∧ OnlyRegsQuiet [] s u := by
  have hnack : (s.at t).grantNack i (s.at t).cap.queue.tail = { s.at t with cap.tries := s.cap.tries + 1, cap.arb := 0 } :=
    if_pos (show (s.at t).cap.tries < 2 from h)
  refine does_of_effect hp (exec_grantWrite t s _) ((grantWrite_eq (s := s.at t) hq how hup _).trans hnack) ?_
  rw [ended_cap]
  exact ⟨rfl, rfl, onlyRegsQuiet_ended (onlyRegsQuiet_of_regs _ rfl)⟩

theorem does_grantWrite_lost (h : s.cap.arb < 7) : Does (.grantWrite t .lostArb) s fun u =>
    u.cap.queue = s.cap.queue ∧ u.cap.arb = s.cap.arb + 1 ∧ u.reg Reg.S_ARBCNT = min (2 ^ Reg.S_ARBCNT.width - 1) (s.reg Reg.S_ARBCNT + 1) ∧
    OnlyRegsQuiet [Reg.S_ARBCNT] s u := by
  have hlost : (if (s.at t).cap.arb < 7 then { (s.at t).bump Reg.S_ARBCNT with cap.arb := (s.at t).cap.arb + 1 }
      else (((s.at t).bump Reg.S_ARBCNT).raise 0x6240 3 0x11 1 (((s.at t).bump Reg.S_ARBCNT).recByte i 2)).grantNack i (s.at t).cap.queue.tail) =
      { (s.at t).bump Reg.S_ARBCNT with cap.arb := s.cap.arb + 1 } := if_pos (show (s.at t).cap.arb < 7 from h)
  refine does_of_effect hp (exec_grantWrite t s _) ((grantWrite_eq (s := s.at t) hq how hup .lostArb).trans hlost) ⟨?_, ?_, ?_, ?_⟩
  · rw [ended_cap]
    rfl
  · rw [ended_cap]
  · rw [ended_reg]
    exact (reg_put_same (s.at t) _ _).trans (satNat_mod _ _)
  · exact onlyRegsQuiet_ended (onlyRegsQuiet_put (onlyRegsQuiet_of_regs (s := s) (u := s.at t) _ rfl) _ _ (by decide))

end

/-- A failed write counted for its contract. -/
def failureNoted (i : Nat) (s : State) : State :=
  let z := (s.bump Reg.CAP_NACKCNT).portFlag .s 4
  (z.setCt i { s.ct i with failed := true, age := if bitOf (z.reg Reg.CAP_CT_UNREACH) i then 0 else (s.ct i).age }).putAtSat Reg.CAP_CT_NACKS i
    (if (s.ct i).failed then z.regAt Reg.CAP_CT_NACKS i else z.regAt Reg.CAP_CT_NACKS i + 1)

/-- A contract that can no longer be reached. -/
def unreachNoted (i : Nat) (s : State) : State :=
  let z := (s.putBit Reg.CAP_CT_UNREACH i true).flag Reg.CAP_FLAGS_UNREACH
  z.setCt i { z.ct i with age := 0 }

theorem grantFailed_eq (s : State) (i : Nat) : ∃ (p : Prop) (_ : Decidable p) (v : Nat), s.grantFailed i =
    if p then (unreachNoted i (failureNoted i s)).raise 0x2165 3 0x08 i v else failureNoted i s := ⟨_, _, _, rfl⟩

theorem failureNoted_facts (s : State) {i : Nat} (hi : i < 128) : (failureNoted i s).cap.queue = s.cap.queue ∧
    (failureNoted i s).cap.tries = s.cap.tries ∧ ((failureNoted i s).ct i).failed = true ∧
    (failureNoted i s).reg Reg.CAP_NACKCNT = min (2 ^ Reg.CAP_NACKCNT.width - 1) (s.reg Reg.CAP_NACKCNT + 1) := by
  have hcount : (s.bump Reg.CAP_NACKCNT).reg Reg.CAP_NACKCNT = min (2 ^ Reg.CAP_NACKCNT.width - 1) (s.reg Reg.CAP_NACKCNT + 1) :=
    (reg_put_same _ _ _).trans (satNat_mod _ _)
  have hport : ((s.bump Reg.CAP_NACKCNT).portFlag .s 4).reg Reg.CAP_NACKCNT = (s.bump Reg.CAP_NACKCNT).reg Reg.CAP_NACKCNT :=
    reg_put_other _ _ _ _ (by decide)
  refine ⟨rfl, rfl, ?_, ?_⟩
  · exact congrArg CtSt.failed (ct_setCt_same ((s.bump Reg.CAP_NACKCNT).portFlag .s 4) _ hi)
  · exact (regAt_putAt_other (State.setCt _ i _) _ _ _ 0 _ (by decide)).trans (hport.trans hcount)

theorem unreachNoted_facts (s : State) {i : Nat} (hi : i < 128) : (unreachNoted i s).cap.queue = s.cap.queue ∧
    (unreachNoted i s).cap.tries = s.cap.tries ∧ ((unreachNoted i s).ct i).failed = (s.ct i).failed ∧
    (unreachNoted i s).reg Reg.CAP_NACKCNT = s.reg Reg.CAP_NACKCNT := by
  refine ⟨rfl, rfl, ?_, ?_⟩
  · refine Eq.trans (congrArg CtSt.failed (ct_setCt_same ((s.putBit Reg.CAP_CT_UNREACH i true).flag Reg.CAP_FLAGS_UNREACH) _ hi)) ?_
    rfl
  · show ((s.putBit Reg.CAP_CT_UNREACH i true).put Reg.CAP_FLAGS_UNREACH 1).reg Reg.CAP_NACKCNT = _
    rw [reg_put_other _ _ _ _ (by decide)]
    exact reg_put_other _ _ _ _ (by decide)

/-- A grant write that has failed for good (R184, R406). -/
theorem grantFailed_facts (s : State) {i : Nat} (hi : i < 128) : (s.grantFailed i).cap.queue = s.cap.queue ∧ (s.grantFailed i).cap.tries = s.cap.tries ∧
    ((s.grantFailed i).ct i).failed = true ∧
    (s.grantFailed i).reg Reg.CAP_NACKCNT = min (2 ^ Reg.CAP_NACKCNT.width - 1) (s.reg Reg.CAP_NACKCNT + 1) := by
  obtain ⟨p, _, v, heq⟩ := grantFailed_eq s i
  obtain ⟨hq, ht, hf, hn⟩ := failureNoted_facts s hi
  obtain ⟨hq', ht', hf', hn'⟩ := unreachNoted_facts (failureNoted i s) hi
  rw [heq]
  split
  · rw [ct_of_cap (raise_cap _ _ _ _ _ _ (by decide)), raise_cap _ _ _ _ _ _ (by decide), raise_reg _ _ _ _ _ _ (by decide) _ (by decide)]
    exact ⟨hq'.trans hq, ht'.trans ht, hf'.trans hf, hn'.trans hn⟩
  · exact ⟨hq, ht, hf, hn⟩

theorem does_grantWrite_failed {t : Edges} {s : State} (hp : s.core.powered = true) (i : Fin 128) (hq : s.cap.queue.head? = some i.val)
    (how : s.owner = true) (hup : s.supUp = true) (k : Nat) (h : 2 ≤ s.cap.tries) : Does (.grantWrite t (.nack k)) s fun u =>
    u.cap.queue = s.cap.queue.tail ∧ u.cap.tries = 0 ∧ (u.ct i).failed = true ∧
    u.reg Reg.CAP_NACKCNT = min (2 ^ Reg.CAP_NACKCNT.width - 1) (s.reg Reg.CAP_NACKCNT + 1) := by
  let y : State := { s.at t with cap.queue := s.cap.queue.tail, cap.tries := 0, cap.arb := 0 }
  have hnack : (s.at t).grantNack i (s.at t).cap.queue.tail = (y.grantFailed i).queueEnd :=
    if_neg (show ¬(s.at t).cap.tries < 2 from Nat.not_lt.mpr h)
  obtain ⟨hqueue, htries, hfailed, hcount⟩ := grantFailed_facts y i.isLt
  obtain ⟨hcap, honly⟩ := queueEnd_facts (y.grantFailed i)
  refine does_of_effect hp (exec_grantWrite t s _) ((grantWrite_eq (s := s.at t) hq how hup _).trans hnack) ⟨?_, ?_, ?_, ?_⟩
  · rw [ended_cap, hcap, hqueue]
  · rw [ended_cap, hcap, htries]
  · rw [ct_of_cap (ended_cap _ _ _), ct_of_cap hcap, hfailed]
  · rw [ended_reg]
    exact (honly _ 0 (by decide)).trans hcount

/-! The acceptance before PACE is released. -/

theorem warnActs_regs {s : State} (c : Nat) (hmanaged : s.phasesManaged = true) (hmin : s.reg Reg.PH_WARNMIN = 0) : (s.warnActs c).regs = s.regs := by
  have harm : (warnArmed c s).regs = s.regs := by
    unfold warnArmed warnLeap
    rw [if_neg fun h => h.1 hmin]
  rw [warnActs_managed c hmanaged]
  split
  · exact harm
  · exact harm

theorem does_paceReturnAcceptance {t : Edges} {s : State} (hp : s.core.powered = true) (g : Fin 16) (c : Fin 4) (hcls : s.rcls g = c.val + 1)
    (hpace : bitOf s.cap.pace g = true) (hnow : bitOf (s.paceNow ((s.wheel.idx + 1) % 64)) g = false) (hmanaged : s.phasesManaged = true)
    (hmin : s.reg Reg.PH_WARNMIN = 0) (hff : s.reg Reg.STP_CTL_FFEN = 1) : Does (.paceReturnAcceptance t g) s fun u =>
    (u.ffOf c).wait = (s.ffOf c).wait ++ [max s.now t] ∧ OnlyRegsQuiet [] s u := by
  have hmode : s.mode ≠ modeTadpole := fun h => by
    unfold State.phasesManaged at hmanaged
    rw [show s.mode = modeTadpole from h] at hmanaged
    exact absurd hmanaged (by decide)
  have hc : (s.at t).rcls g = c.val + 1 := hcls
  have heffect : (if 1 ≤ (s.at t).rcls g.val ∧ (s.at t).rcls g.val ≤ 4 ∧ (s.at t).mode ≠ modeTadpole ∧ bitOf (s.at t).cap.pace g.val ∧
      bitOf ((s.at t).paceNow (((s.at t).wheel.idx + 1) % 64)) g.val = false then (s.at t).warnActs ((s.at t).rcls g.val) else s.at t) =
      (s.at t).warnActs (c.val + 1) := by
    rw [hc]
    exact if_pos ⟨Nat.le_add_left _ _, Nat.succ_le_of_lt c.isLt, hmode, hpace, hnow⟩
  refine does_of_effect hp (exec_paceReturnAcceptance t s g) heffect ⟨?_, ?_⟩
  · rw [ffOf_of_ff (congrArg StepSt.ff (ended_step _ _ _))]
    exact warnActs_wait (s := s.at t) c c.isLt hmanaged hff
  · exact onlyRegsQuiet_ended (onlyRegsQuiet_of_regs _ (warnActs_regs (s := s.at t) (c + 1) hmanaged hmin))

/-- Settles O34: grants read back and published, and the acceptance before PACE is released. -/
theorem grantsAndPacing : Obligations.GrantsAndPacing := by
  unfold Obligations.GrantsAndPacing
  intro t s hp
  refine ⟨does_grantReadback hp, does_grantReadback_none hp, fun i hq how hup => ⟨does_grantWrite_acked hp i hq how hup,
    does_grantWrite_again hp i hq how hup, does_grantWrite_failed hp i hq how hup, does_grantWrite_lost hp i hq how hup⟩,
    does_paceReturnAcceptance hp⟩

end Sys2Proof.GrantWrites

namespace Sys2Proof.ContractChecks

open Sys2Proof Sys2Proof.Machine Sys2Proof.Laws Sys2Proof.LoadSteps Sys2Proof.Readings Sys2Proof.StringStates Sys2Proof.GrantWrites

/-! Contract records (R177, R178, R194). -/

section
variable (t : Edges) (s : State) (r : List Byte)

theorem exec_mailboxRecord : exec (.mailboxRecord t r) s = live t s fun s => s.mailbox (r.map BitVec.toNat) := rfl
theorem exec_contractWrite : exec (.contractWrite t r) s = hostWrite t s fun s => s.contractWrite (r.map BitVec.toNat) := rfl

end

theorem map_getD (r : List Byte) (j : Nat) : (r.map BitVec.toNat).getD j 0 = (r.getD j 0).toNat := List.getD_map r (0 : Byte) (n := j) BitVec.toNat

/-! The result of a check. -/

theorem recResults_le {s : State} {r : List Nat} {origin n : Nat} (h : n ∈ s.recResults r origin) : 1 ≤ n ∧ n ≤ 7 := by
  have hone : ∀ (p : Bool) (k : Nat), n ∈ (if p then [k] else []) → n = k := fun p k hk => by
    cases p
    · exact absurd hk List.not_mem_nil
    · exact List.mem_singleton.mp hk
  unfold State.recResults at h
  simp only [List.mem_append] at h
  rcases h with (((((h | h) | h) | h) | h) | h) | h
  all_goals
    rw [hone _ _ h]
    decide

theorem recResult_cases (s : State) (r : List Nat) (origin : Nat) :
    s.recResults r origin = [] ∧ s.recResult r origin = 0 ∨ s.recResult r origin ∈ s.recResults r origin := by
  unfold State.recResult
  rcases hl : s.recResults r origin with _ | ⟨n, _ | ⟨m, l⟩⟩
  · exact .inl ⟨rfl, rfl⟩
  · exact .inr List.mem_cons_self
  · have hlt : Config.pick (natOfBytes r) % ((m :: l).length + 1) < (n :: m :: l).length := Nat.mod_lt _ (Nat.succ_pos _)
    refine .inr ?_
    dsimp only
    rw [List.getElem?_eq_getElem hlt]
    exact List.getElem_mem hlt

theorem recResult_le (s : State) (r : List Nat) (origin : Nat) : s.recResult r origin ≤ 7 := by
  rcases recResult_cases s r origin with ⟨-, h⟩ | h
  · rw [h]
    exact Nat.zero_le _
  · exact (recResults_le h).2

theorem recResult_pos {s : State} {r : List Nat} {origin : Nat} (h : s.recResults r origin ≠ []) :
    1 ≤ s.recResult r origin ∧ s.recResult r origin ≤ 7 := by
  rcases recResult_cases s r origin with ⟨hnil, -⟩ | hmem
  · exact absurd hnil h
  · exact recResults_le hmem

/-- A record that passes is of a known kind, for a contract there is. -/
theorem recResults_nil {s : State} {r : List Nat} {origin : Nat} (h : s.recResults r origin = []) :
    (r.getD 0 0 = 1 ∨ r.getD 0 0 = 2) ∧ r.getD 1 0 < 128 := by
  have hone : ∀ {p : Bool} {k : Nat}, (if p then [k] else []) = [] → p = false := fun {p k} hp => by
    cases p
    · rfl
    · exact absurd hp (List.cons_ne_nil _ _)
  unfold State.recResults at h
  simp only [List.append_eq_nil_iff] at h
  obtain ⟨⟨⟨⟨⟨⟨-, hkind⟩, hrange⟩, -⟩, -⟩, -⟩, -⟩ := h
  have hk := of_decide_eq_false (hone hkind)
  have hr := hone hrange
  refine ⟨by omega, ?_⟩
  unfold State.recRange at hr
  dsimp only at hr
  split at hr
  · simp only [Bool.or_eq_false_iff, decide_eq_false_iff_not] at hr
    omega
  · simp only [Bool.or_eq_false_iff, decide_eq_false_iff_not] at hr
    omega

theorem recResult_zero {s : State} {r : List Nat} {origin : Nat} (h : s.recResult r origin = 0) : s.recResults r origin = [] := by
  rcases recResult_cases s r origin with ⟨hnil, -⟩ | hmem
  · exact hnil
  · exact absurd (recResults_le hmem).1 (by rw [h]; decide)

/-! A record staged. -/

theorem putShadows_shadAt (s : State) (i : Nat) (v : Nat → Nat) (l : List Nat) (hl : ∀ j ∈ l, j < 16) (hi : i < 128) {k : Nat} (hk : k < 16) :
    (l.foldl (fun s j => s.putShad Reg.CAP_CT_REC (16 * i + j) (v j)) s).shadAt Reg.CAP_CT_REC (16 * i + k) =
      if k ∈ l then v k % 256 else s.shadAt Reg.CAP_CT_REC (16 * i + k) := by
  induction l generalizing s with
  | nil => rfl
  | cons j l ih =>
    have hj := hl j List.mem_cons_self
    rw [List.foldl_cons, ih _ fun m hm => hl m (List.mem_cons_of_mem _ hm)]
    by_cases hkl : k ∈ l
    · rw [if_pos hkl, if_pos (List.mem_cons_of_mem _ hkl)]
    · rw [if_neg hkl]
      by_cases hkj : k = j
      · subst hkj
        rw [if_pos List.mem_cons_self]
        exact fieldGet_fieldPut_same _ _ _ _
      · rw [if_neg (by simp [hkj, hkl])]
        exact fieldGet_fieldPut_other _ _ _ _ _ _ (key_ne_of_inst (by omega) (by omega) (by omega))

theorem putShadow_shadAt (s : State) {i : Nat} (r : List Nat) (hi : i < 128) {k : Nat} (hk : k < 16) :
    (s.putShadow i r).shadAt Reg.CAP_CT_REC (16 * i + k) = r.getD k 0 % 256 :=
  (putShadows_shadAt s i (fun j => r.getD j 0) (List.range 16) (fun _ hj => List.mem_range.mp hj) hi hk).trans (if_pos (List.mem_range.mpr hk))

theorem putShadow_regs (s : State) (i : Nat) (r : List Nat) : (s.putShadow i r).regs = s.regs := by
  unfold State.putShadow
  exact foldl_keeps (fun u : State => u.regs) (fun (u : State) j => u.putShad Reg.CAP_CT_REC (16 * i + j) (r.getD j 0)) (fun _ _ => rfl) _ _

/-- The record staged for a contract: an update keeps the terms in the shadow, an opening takes its own. -/
def recordTaken (o r : List Nat) : List Nat :=
  if r.getD 0 0 = 2 then (o.set 0 2).set 15 (r.getD 15 0) else ((((r.set 2 (r.getD 2 0 % 128)).set 3 (r.getD 3 0 % 64)).set 5 0).set 14 0)

theorem recordTaken_getD (o r : List Nat) (v : Nat) (ho : o.length = 16) (hr : r.length = 16) :
    ((recordTaken o r).set 1 v).getD 15 0 = r.getD 15 0 ∧ ((recordTaken o r).set 1 v).getD 0 0 = r.getD 0 0 := by
  unfold recordTaken
  split
  next h => simp [List.getD_eq_getElem?_getD, ho, ← h]
  next h => simp [List.getD_eq_getElem?_getD, hr]

theorem recStage_eq (s : State) (r : List Nat) (origin : Nat) : s.recStage r origin =
    let z := s.putShadow (r.getD 1 0) ((recordTaken (s.recShadow (r.getD 1 0)) r).set 1 (r.getD 1 0))
    (z.setCt (r.getD 1 0) { z.ct (r.getD 1 0) with staged := some origin }).touch 0x19 := rfl

theorem recShadow_length (s : State) (i : Nat) : (s.recShadow i).length = 16 := by
  unfold State.recShadow
  rw [List.length_map, List.length_range]

theorem staged_facts (z : State) (i : Nat) (v : CtSt) (page : Nat) (hi : i < 128) : ((z.setCt i v).touch page).ct i = v ∧
    ((z.setCt i v).touch page).shad = z.shad ∧ ((z.setCt i v).touch page).regs = z.regs :=
  ⟨(ct_of_cap rfl i).trans (ct_setCt_same z v hi), rfl, rfl⟩

theorem recStage_facts (s : State) (r : List Nat) (origin : Nat) (hlen : r.length = 16) (h0 : r.getD 0 0 < 256) (h15 : r.getD 15 0 < 256)
    (hid : r.getD 1 0 < 128) :
    ((s.recStage r origin).ct (r.getD 1 0)).staged = some origin ∧
    (s.recStage r origin).shadAt Reg.CAP_CT_REC (16 * r.getD 1 0 + 15) = r.getD 15 0 ∧
    (s.recStage r origin).shadAt Reg.CAP_CT_REC (16 * r.getD 1 0) = r.getD 0 0 ∧ (s.recStage r origin).regs = s.regs := by
  obtain ⟨hlast, hfirst⟩ := recordTaken_getD _ r (r.getD 1 0) (recShadow_length s (r.getD 1 0)) hlen
  have heq := recStage_eq s r origin
  dsimp only at heq
  have hlast' := putShadow_shadAt s ((recordTaken (s.recShadow (r.getD 1 0)) r).set 1 (r.getD 1 0)) hid (k := 15) (by decide)
  have hfirst' := putShadow_shadAt s ((recordTaken (s.recShadow (r.getD 1 0)) r).set 1 (r.getD 1 0)) hid (k := 0) (by decide)
  have hregs := putShadow_regs s (r.getD 1 0) ((recordTaken (s.recShadow (r.getD 1 0)) r).set 1 (r.getD 1 0))
  rw [hlast, Nat.mod_eq_of_lt h15] at hlast'
  rw [hfirst, Nat.mod_eq_of_lt h0] at hfirst'
  generalize s.putShadow (r.getD 1 0) ((recordTaken (s.recShadow (r.getD 1 0)) r).set 1 (r.getD 1 0)) = z at *
  obtain ⟨hct, hshad, hz⟩ := staged_facts z (r.getD 1 0) { z.ct (r.getD 1 0) with staged := some origin } 0x19 hid
  rw [heq, hct, hz]
  unfold State.shadAt at hlast' hfirst' ⊢
  rw [hshad]
  exact ⟨rfl, hlast', hfirst', hregs⟩

/-! What a result leads to. -/

/-- The effect of a record of contract `id` with result `res` and its origin. -/
def Judged (r : List Byte) (s : State) (res origin : Nat) (u : State) : Prop :=
  (res = 0 → (u.ct (r.getD 1 0).toNat).staged = some origin ∧ u.shadAt Reg.CAP_CT_REC (16 * (r.getD 1 0).toNat + 15) = (r.getD 15 0).toNat ∧
    u.shadAt Reg.CAP_CT_REC (16 * (r.getD 1 0).toNat) = (r.getD 0 0).toNat) ∧
  (res = 7 → u.shad = s.shad ∧ u.cap = s.cap) ∧
  (1 ≤ res → res ≤ 6 → u.shad = s.shad ∧ u.cap = s.cap ∧ u.reg Reg.CAP_FLAGS_MBREF = 1 ∧ Raised 0x2166 2 ((r.getD 1 0).toNat % 128) res s u)

theorem Judged.congr {r : List Byte} {s u v : State} {res origin : Nat} (h : Judged r s res origin u) (hshad : v.shad = u.shad) (hcap : v.cap = u.cap)
    (hreg : v.reg Reg.CAP_FLAGS_MBREF = u.reg Reg.CAP_FLAGS_MBREF)
    (hraised : ∀ {code sev p0 p1 : Nat}, Raised code sev p0 p1 s u → Raised code sev p0 p1 s v) : Judged r s res origin v := by
  obtain ⟨h0, h7, h1⟩ := h
  have hat : ∀ f i, v.shadAt f i = u.shadAt f i := fun f i => by
    unfold State.shadAt
    rw [hshad]
  refine ⟨fun hz => ?_, fun hz => ?_, fun hz hz' => ?_⟩
  · rw [ct_of_cap hcap, hat, hat]
    exact h0 hz
  · rw [hshad, hcap]
    exact h7 hz
  · obtain ⟨ha, hb, hc, hd⟩ := h1 hz hz'
    exact ⟨hshad.trans ha, hcap.trans hb, hreg.trans hc, hraised hd⟩

theorem recWrite_result (s : State) (r : List Nat) (origin : Nat) : (s.recWrite r origin).2 = s.recResult r origin := by
  unfold State.recWrite
  dsimp only
  split
  next h => exact h.symm
  · split
    next h => exact h.symm
    · rfl

theorem recWrite_judged (t : Edges) (s : State) (r : List Byte) (origin : Nat) (hlen : r.length = 16) :
    Judged r s (s.recResult (r.map BitVec.toNat) origin) origin ((s.at t).recWrite (r.map BitVec.toNat) origin).1 ∧
    OnlyRegs [Reg.CAP_FLAGS_MBREF] s ((s.at t).recWrite (r.map BitVec.toNat) origin).1 := by
  have hbyte : ∀ j, (r.map BitVec.toNat).getD j 0 < 256 := fun j => by
    rw [map_getD]
    exact (r.getD j 0).isLt
  have hres : (s.at t).recResult (r.map BitVec.toNat) origin = s.recResult (r.map BitVec.toNat) origin := rfl
  unfold State.recWrite
  dsimp only
  rw [hres]
  split
  next h0 =>
    obtain ⟨-, hid⟩ := recResults_nil (recResult_zero h0)
    obtain ⟨hstaged, hlast, hfirst, hregs⟩ := recStage_facts (s.at t) (r.map BitVec.toNat) origin (by rw [List.length_map, hlen]) (hbyte 0) (hbyte 15) hid
    simp only [map_getD] at hstaged hlast hfirst
    exact ⟨⟨fun _ => ⟨hstaged, hlast, hfirst⟩, fun h7 => absurd (h0.symm.trans h7) (by decide), fun h1 _ => absurd h1 (by rw [h0]; decide)⟩,
      onlyRegs_of_regs _ hregs⟩
  next h0 =>
    split
    next h7 =>
      exact ⟨⟨fun h => absurd h h0, fun _ => ⟨rfl, rfl⟩, fun _ h6 => absurd h6 (by rw [h7]; decide)⟩, fun _ _ _ _ => rfl⟩
    next h7 =>
      refine ⟨⟨fun h => absurd h h0, fun h => absurd h h7, fun _ _ => ⟨?_, ?_, ?_, ?_⟩⟩, ?_⟩
      · rw [raise_shad _ _ _ _ _ _ (by decide)]
        rfl
      · rw [raise_cap _ _ _ _ _ _ (by decide)]
        rfl
      · exact (raise_reg _ _ _ _ _ _ (by decide) _ (by decide)).trans (reg_put_same _ _ _)
      · rw [← map_getD]
        exact raised_now (z := (s.at t).flag Reg.CAP_FLAGS_MBREF) (by decide) rfl (reg_put_other _ _ _ _ (by decide))
      · exact onlyRegs_raise (onlyRegs_put (u := s.at t) (fun _ _ _ _ => rfl) _ _ (by decide)) _ _ _ _ _ (.inl (by decide))

section
variable {t : Edges} {s : State} (hp : s.core.powered = true) {r : List Byte} (hlen : r.length = 16)

theorem ended_judged {f : State → State} {res origin : Nat} (h : Judged r s res origin (f (s.at t))) : Judged r s res origin (ended t s f) :=
  h.congr (ended_shad t s f) (ended_cap t s f) (ended_reg t s f _) fun hr => raised_ended hr

include hp

theorem does_mailbox_none (h : s.owner = false ∨ s.supUp = false) : Does (.mailboxRecord t r) s fun u =>
    u.shad = s.shad ∧ u.cap = s.cap ∧ OnlyRegsQuiet [] s u := by
  have hno : ¬((s.at t).owner ∧ (s.at t).supUp ∧ (r.map BitVec.toNat).length = 16) := fun ⟨how, hup, _⟩ => by
    rcases h with h | h
    · exact absurd (h.symm.trans how) Bool.false_ne_true
    · exact absurd (h.symm.trans hup) Bool.false_ne_true
  exact does_of_effect hp (exec_mailboxRecord t s r) (if_neg hno)
    ⟨ended_shad _ _ _, ended_cap _ _ _, onlyRegsQuiet_ended (onlyRegsQuiet_of_regs _ rfl)⟩

include hlen

theorem does_mailbox (how : s.owner = true) (hup : s.supUp = true) : Does (.mailboxRecord t r) s fun u =>
    u.reg Reg.CAP_MBID = (r.getD 1 0).toNat % 128 ∧ u.reg Reg.CAP_MBRES = s.recResult (r.map BitVec.toNat) 3 ∧
    u.reg Reg.CAP_MBSEQ = (r.getD 15 0).toNat ∧ Judged r s (s.recResult (r.map BitVec.toNat) 3) 3 u ∧
    OnlyRegs [Reg.CAP_MBID, Reg.CAP_MBRES, Reg.CAP_MBSEQ, Reg.CAP_FLAGS_MBREF] s u := by
  obtain ⟨hjudged, honly⟩ := recWrite_judged t s r 3 hlen
  have hres := recWrite_result (s.at t) (r.map BitVec.toNat) 3
  have heffect : (s.at t).mailbox (r.map BitVec.toNat) =
      (((((s.at t).recWrite (r.map BitVec.toNat) 3).1.put Reg.CAP_MBID ((r.map BitVec.toNat).getD 1 0)).put Reg.CAP_MBRES
        ((s.at t).recWrite (r.map BitVec.toNat) 3).2).put Reg.CAP_MBSEQ ((r.map BitVec.toNat).getD 15 0)) :=
    if_pos ⟨how, hup, by rw [List.length_map, hlen]⟩
  rw [hres, map_getD, map_getD] at heffect
  generalize ((s.at t).recWrite (r.map BitVec.toNat) 3).1 = w at *
  refine does_of_effect hp (exec_mailboxRecord t s r) heffect ⟨?_, ?_, ?_, ended_judged ?_, onlyRegs_ended ?_⟩
  · rw [ended_reg, reg_put_other _ _ _ _ (by decide), reg_put_other _ _ _ _ (by decide), reg_put_same]
    rfl
  · rw [ended_reg, reg_put_other _ _ _ _ (by decide), reg_put_same]
    exact Nat.mod_eq_of_lt (Nat.lt_succ_of_le (recResult_le _ _ _))
  · rw [ended_reg, reg_put_same]
    exact Nat.mod_eq_of_lt (r.getD 15 0).isLt
  · refine hjudged.congr rfl rfl ?_ fun hr => raised_put (raised_put (raised_put hr _ _) _ _) _ _
    rw [reg_put_other _ _ _ _ (by decide), reg_put_other _ _ _ _ (by decide), reg_put_other _ _ _ _ (by decide)]
  · have hw : OnlyRegs [Reg.CAP_MBID, Reg.CAP_MBRES, Reg.CAP_MBSEQ, Reg.CAP_FLAGS_MBREF] s w := fun f i hf hrec =>
      honly f i (fun h => hf (by
        rw [List.mem_singleton.mp h]
        decide)) hrec
    exact onlyRegs_put (onlyRegs_put (onlyRegs_put hw _ _ (by decide)) _ _ (by decide)) _ _ (by decide)

theorem does_contractWrite (hup : s.supUp = true) : Does (.contractWrite t r) s fun u =>
    u.reg Reg.CAP_CT_RES = s.recResult (r.map BitVec.toNat) 2 ∧ Judged r s (s.recResult (r.map BitVec.toNat) 2) 2 u ∧
    OnlyRegs [Reg.CAP_CT_RES, Reg.CAP_FLAGS_MBREF] s u := by
  obtain ⟨hjudged, honly⟩ := recWrite_judged t s r 2 hlen
  have hres := recWrite_result (s.at t) (r.map BitVec.toNat) 2
  have heffect : (s.at t).contractWrite (r.map BitVec.toNat) =
      ((s.at t).recWrite (r.map BitVec.toNat) 2).1.put Reg.CAP_CT_RES ((s.at t).recWrite (r.map BitVec.toNat) 2).2 :=
    if_pos (by rw [List.length_map, hlen])
  rw [hres] at heffect
  generalize ((s.at t).recWrite (r.map BitVec.toNat) 2).1 = w at *
  refine does_of_write ⟨hp, hup⟩ (exec_contractWrite t s r) heffect ⟨?_, ended_judged ?_, onlyRegs_ended ?_⟩
  · rw [ended_reg, reg_put_same]
    exact Nat.mod_eq_of_lt (Nat.lt_succ_of_le (recResult_le _ _ _))
  · exact hjudged.congr rfl rfl (reg_put_other _ _ _ _ (by decide)) fun hr => raised_put hr _ _
  · have hw : OnlyRegs [Reg.CAP_CT_RES, Reg.CAP_FLAGS_MBREF] s w := fun f i hf hrec =>
      honly f i (fun h => hf (by
        rw [List.mem_singleton.mp h]
        decide)) hrec
    exact onlyRegs_put hw _ _ (by decide)

/-- A record to which some result applies is not staged. -/
theorem does_contractWrite_refused (hup : s.supUp = true) (h : s.recResults (r.map BitVec.toNat) 2 ≠ []) : Does (.contractWrite t r) s fun u =>
    1 ≤ u.reg Reg.CAP_CT_RES ∧ u.reg Reg.CAP_CT_RES ≤ 7 ∧ u.shad = s.shad ∧ u.cap = s.cap := by
  obtain ⟨hpos, hle⟩ := recResult_pos h
  refine (does_contractWrite hp hlen hup).imp fun u ⟨hu, hres, ⟨_, h7, h1⟩, _⟩ => ⟨hu, ?_⟩
  dsimp only
  rw [hres]
  refine ⟨hpos, hle, ?_⟩
  rcases Nat.lt_or_ge (s.recResult (r.map BitVec.toNat) 2) 7 with hlt | hge
  · obtain ⟨hshad, hcap, -⟩ := h1 hpos (Nat.le_of_lt_succ hlt)
    exact ⟨hshad, hcap⟩
  · exact h7 (Nat.le_antisymm hle hge)

end

theorem recResults_lockout {s : State} (r : List Nat) (origin : Nat) (h : s.mode = modeLockout) : s.recResults r origin ≠ [] := fun hnil => by
  unfold State.recResults at hnil
  simp only [List.append_eq_nil_iff] at hnil
  obtain ⟨⟨⟨⟨⟨⟨hmode, -⟩, -⟩, -⟩, -⟩, -⟩, -⟩ := hnil
  rw [decide_eq_true (Or.inl h)] at hmode
  exact absurd hmode (List.cons_ne_nil _ _)

/-- Settles O33: a contract record is checked, its result shown, and staged or refused. -/
theorem contractRecords : Obligations.ContractRecords := by
  unfold Obligations.ContractRecords
  intro t r s hp hlen
  refine ⟨does_mailbox_none hp, fun how hup => does_mailbox hp hlen how hup, fun hup => does_contractWrite hp hlen hup,
    fun hup hmode => does_contractWrite_refused hp hlen hup (recResults_lockout _ _ hmode), fun hup h1 h2 => does_contractWrite_refused hp hlen hup ?_,
    fun hup n hn => ?_⟩
  · intro hnil
    obtain ⟨hkind, -⟩ := recResults_nil hnil
    rw [map_getD] at hkind
    rcases hkind with hkind | hkind
    · exact h1 (BitVec.eq_of_toNat_eq hkind)
    · exact h2 (BitVec.eq_of_toNat_eq hkind)
  · have hres : s.recResult (r.map BitVec.toNat) 2 = n := by
      unfold State.recResult
      rw [hn]
    exact (does_contractWrite hp hlen hup).imp fun u ⟨hu, hshown, _⟩ => ⟨hu, hshown.trans hres⟩

end Sys2Proof.ContractChecks

namespace Sys2Proof.FeedJudgements

open Sys2Proof Sys2Proof.Machine Sys2Proof.Laws Sys2Proof.LoadSteps Sys2Proof.Readings

/-! The checks of a feed (R199-R202). -/

/-- The other feed. -/
def otherFeed (x : Feed) : Feed := match x with | .a => .b | .b => .a

section
variable (s : State) (x : Feed)

@[simp] theorem setFeed_reg (f : FeedSt) (g : Field) : (s.setFeed x f).reg g = s.reg g := by cases x <;> rfl
@[simp] theorem setFeed_regs (f : FeedSt) : (s.setFeed x f).regs = s.regs := by cases x <;> rfl
@[simp] theorem setFeed_feed (f : FeedSt) : (s.setFeed x f).feed x = f := by cases x <;> rfl
@[simp] theorem setFeed_core (f : FeedSt) : (s.setFeed x f).core = s.core := by cases x <;> rfl
@[simp] theorem setQcnt_core (v : Nat) : (s.setQcnt x v).core = s.core := by cases x <;> rfl
@[simp] theorem setFeedSt_core (v : Nat) : (s.setFeedSt x v).core = s.core := by cases x <;> rfl

theorem feed_of_hup {s u : State} (h : u.hup = s.hup) (x : Feed) : u.feed x = s.feed x := by
  unfold State.feed
  rw [h]

end

/-- The registers of a feed's state. -/
def feedFields : List Field := [Reg.HUP_FEEDST_A, Reg.HUP_FEEDST_B, Reg.HUP_QCNT_A, Reg.HUP_QCNT_B]

theorem setQcnt_other (s : State) (x : Feed) (v : Nat) {f : Field} (hf : f.place ∉ feedFields.map Field.place) : (s.setQcnt x v).reg f = s.reg f := by
  cases x
  · exact reg_put_other _ _ _ _ fun e => hf (by rw [e]; decide)
  · exact reg_put_other _ _ _ _ fun e => hf (by rw [e]; decide)

theorem setFeedSt_other (s : State) (x : Feed) (v : Nat) {f : Field} (hf : f.place ∉ feedFields.map Field.place) : (s.setFeedSt x v).reg f = s.reg f := by
  cases x
  · exact reg_put_other _ _ _ _ fun e => hf (by rw [e]; decide)
  · exact reg_put_other _ _ _ _ fun e => hf (by rw [e]; decide)

/-- A feed's counters cleared at its loss. -/
def feedCleared (x : Feed) (s : State) : State :=
  (s.setFeed x { s.feed x with cycOk := false, apkOk := false, rt := 0, crest := 0 }).setQcnt x 0

/-- The loss of a feed and its reason noted. -/
def lossNoted (x : Feed) (why phase : Nat) (s : State) : State :=
  let z := feedCleared x s
  let z := (z.setFeed x { z.feed x with why := why }).setFeedSt x feedLost
  (((z.put Reg.HUP_REASON_CODE why).put Reg.HUP_REASON_FEED (feedNo x)).put Reg.HUP_REASON_PHASE phase).flag Reg.HUP_FLAGS_FEED

theorem feedLose_live {s : State} {x : Feed} (h : s.feedSt x = feedQual ∨ s.feedSt x = feedReturn) (why phase : Nat) :
    s.feedLose x why phase = ((lossNoted x why phase s).raise 0x1101 3 0x09 (feedNo x) (why + 256 * phase)).mainsChange x := if_pos h

/-- The registers a loss writes. -/
def lossFields : List Field :=
  [Reg.HUP_REASON_CODE, Reg.HUP_REASON_FEED, Reg.HUP_REASON_PHASE, Reg.HUP_FLAGS_FEED] ++ feedFields

theorem lossNoted_other (x : Feed) (why phase : Nat) (s : State) {f : Field} (hf : f.place ∉ lossFields.map Field.place) :
    (lossNoted x why phase s).reg f = s.reg f := by
  have hfeed : f.place ∉ feedFields.map Field.place := fun h => hf (by
    unfold lossFields
    rw [List.map_append]
    exact List.mem_append_right _ h)
  have hput : ∀ (z : State) (g : Field) (v : Nat), g ∈ lossFields → (z.put g v).reg f = z.reg f := fun z g v hg =>
    reg_put_other _ _ _ _ fun e => hf (by rw [e]; exact List.mem_map_of_mem hg)
  unfold lossNoted feedCleared
  dsimp only
  rw [flag_eq, hput _ _ _ (by decide), hput _ _ _ (by decide), hput _ _ _ (by decide), hput _ _ _ (by decide), setFeedSt_other _ _ _ hfeed,
    setFeed_reg, setQcnt_other _ _ _ hfeed, setFeed_reg]

theorem feedSt_put {f : Field} (hf : f.place ∉ feedFields.map Field.place) (s : State) (v : Nat) (x : Feed) :
    (s.put f v).feedSt x = s.feedSt x := by
  cases x
  · exact reg_put_other _ _ _ _ fun e => hf (by rw [← e]; decide)
  · exact reg_put_other _ _ _ _ fun e => hf (by rw [← e]; decide)

theorem setFeed_feedSt (s : State) (x y : Feed) (f : FeedSt) : (s.setFeed x f).feedSt y = s.feedSt y := by
  cases x <;> cases y <;> rfl

theorem setQcnt_feedSt (s : State) (x y : Feed) (v : Nat) : (s.setQcnt x v).feedSt y = s.feedSt y := by
  cases x <;> cases y <;> exact reg_put_other _ _ _ _ (by decide)

theorem setFeedSt_other_feed (s : State) (x : Feed) (v : Nat) : (s.setFeedSt x v).feedSt (otherFeed x) = s.feedSt (otherFeed x) := by
  cases x <;> exact reg_put_other _ _ _ _ (by decide)

theorem lossNoted_other_feed (x : Feed) (why phase : Nat) (s : State) :
    (lossNoted x why phase s).feedSt (otherFeed x) = s.feedSt (otherFeed x) := by
  unfold lossNoted feedCleared
  dsimp only
  rw [flag_eq, feedSt_put (by decide), feedSt_put (by decide), feedSt_put (by decide), feedSt_put (by decide), setFeedSt_other_feed,
    setFeed_feedSt, setQcnt_feedSt, setFeed_feedSt]

theorem qcnt_put {f : Field} (hf : f.place ∉ feedFields.map Field.place) (s : State) (v : Nat) (x : Feed) :
    (s.put f v).qcnt x = s.qcnt x := by
  cases x
  · exact reg_put_other _ _ _ _ fun e => hf (by rw [← e]; decide)
  · exact reg_put_other _ _ _ _ fun e => hf (by rw [← e]; decide)

theorem setFeed_qcnt (s : State) (x : Feed) (f : FeedSt) : (s.setFeed x f).qcnt x = s.qcnt x := by
  cases x <;> rfl

theorem setFeedSt_same (s : State) (x : Feed) {v : Nat} (hv : v < 4) : (s.setFeedSt x v).feedSt x = v := by
  cases x <;> exact (reg_put_same _ _ _).trans (Nat.mod_eq_of_lt (Nat.lt_of_lt_of_le hv (by decide)))

theorem setFeedSt_qcnt (s : State) (x : Feed) (v : Nat) : (s.setFeedSt x v).qcnt x = s.qcnt x := by
  cases x <;> exact reg_put_other _ _ _ _ (by decide)

theorem setQcnt_zero (s : State) (x : Feed) : (s.setQcnt x 0).qcnt x = 0 := by
  cases x <;> exact reg_put_same _ _ _

theorem feedNo_lt (x : Feed) : feedNo x < 2 := by cases x <;> decide

theorem lossNoted_facts (x : Feed) {why : Nat} (hwhy : why < 4) {phase : Nat} (hphase : phase < 4) (s : State) :
    (lossNoted x why phase s).feedSt x = feedLost ∧ (lossNoted x why phase s).qcnt x = 0 ∧ (lossNoted x why phase s).reg Reg.HUP_REASON_CODE = why ∧
    (lossNoted x why phase s).reg Reg.HUP_REASON_FEED = feedNo x ∧ (lossNoted x why phase s).reg Reg.HUP_REASON_PHASE = phase ∧
    (lossNoted x why phase s).reg Reg.HUP_FLAGS_FEED = 1 := by
  unfold lossNoted feedCleared
  dsimp only
  rw [flag_eq]
  refine ⟨?_, ?_, ?_, ?_, ?_, reg_put_same _ _ _⟩
  · rw [feedSt_put (by decide), feedSt_put (by decide), feedSt_put (by decide), feedSt_put (by decide), setFeedSt_same _ _ (by decide)]
  · rw [qcnt_put (by decide), qcnt_put (by decide), qcnt_put (by decide), qcnt_put (by decide), setFeedSt_qcnt, setFeed_qcnt, setQcnt_zero]
  · rw [reg_put_other _ _ _ _ (by decide), reg_put_other _ _ _ _ (by decide), reg_put_other _ _ _ _ (by decide), reg_put_same]
    exact Nat.mod_eq_of_lt (Nat.lt_of_lt_of_le hwhy (by decide))
  · rw [reg_put_other _ _ _ _ (by decide), reg_put_other _ _ _ _ (by decide), reg_put_same]
    exact Nat.mod_eq_of_lt (feedNo_lt x)
  · rw [reg_put_other _ _ _ _ (by decide), reg_put_same]
    exact Nat.mod_eq_of_lt hphase

theorem lossNoted_core (x : Feed) (why phase : Nat) (s : State) : (lossNoted x why phase s).core = s.core := by
  cases x <;> rfl

theorem anyQualified_of {s : State} (x : Feed) (h : s.feedSt x = feedQual) : s.anyQualified = true := by
  have hx : (s.feedSt x == feedQual) = true := beq_iff_eq.mpr h
  unfold State.anyQualified
  cases x
  · rw [hx, Bool.true_or]
  · rw [hx, Bool.or_true]

/-- Mains stays present while some feed is QUALIFIED. -/
theorem mainsChange_present {s : State} (hmains : s.reg Reg.HUP_STAT_MAINS = 1) (hq : s.anyQualified = true) (x : Feed) :
    s.mainsChange x = s.put Reg.HUP_STAT_MAINS 1 := by
  have hwas : s.isSet Reg.HUP_STAT_MAINS = true := by rw [isSet_eq, hmains]; rfl
  unfold State.mainsChange
  dsimp only
  rw [hwas, hq]
  rfl

theorem feedSt_raise {sev : Nat} (h : sev < 6) (s : State) (code unit p0 p1 : Nat) (x : Feed) :
    (s.raise code sev unit p0 p1).feedSt x = s.feedSt x := by
  cases x
  · exact raise_reg _ _ _ _ _ _ h _ (by decide)
  · exact raise_reg _ _ _ _ _ _ h _ (by decide)

theorem qcnt_raise {sev : Nat} (h : sev < 6) (s : State) (code unit p0 p1 : Nat) (x : Feed) :
    (s.raise code sev unit p0 p1).qcnt x = s.qcnt x := by
  cases x
  · exact raise_reg _ _ _ _ _ _ h _ (by decide)
  · exact raise_reg _ _ _ _ _ _ h _ (by decide)

/-- A feed lost for `why` in `phase` while mains stays present. -/
def LostWith (x : Feed) (why phase : Nat) (s u : State) : Prop :=
  u.feedSt x = feedLost ∧ u.qcnt x = 0 ∧ u.reg Reg.HUP_REASON_CODE = why ∧
    u.reg Reg.HUP_REASON_FEED = feedNo x ∧ u.reg Reg.HUP_REASON_PHASE = phase ∧ u.reg Reg.HUP_FLAGS_FEED = 1 ∧ u.mode = s.mode ∧
    u.reg Reg.HUP_STAT_MAINS = 1 ∧ Raised 0x1101 3 (feedNo x) (why + 256 * phase) s u

/-- What the loss of a feed needs of the state before the command and of the state it works on. -/
structure SameFeeds (s z : State) : Prop where
  reg : ∀ f ∈ [Reg.GL_MODE, Reg.HUP_STAT_MAINS, Reg.REC_SNSEV] ++ feedFields, z.reg f = s.reg f
  sup : z.core.sup = s.core.sup

theorem SameFeeds.feedSt {s z : State} (h : SameFeeds s z) (x : Feed) : z.feedSt x = s.feedSt x := by
  cases x
  · exact h.reg Reg.HUP_FEEDST_A (by decide)
  · exact h.reg Reg.HUP_FEEDST_B (by decide)

theorem feedLose_lost {s z : State} (same : SameFeeds s z) {x : Feed} (hlive : s.feedSt x = feedQual ∨ s.feedSt x = feedReturn)
    (hother : s.feedSt (otherFeed x) = feedQual) (hmains : s.reg Reg.HUP_STAT_MAINS = 1) {why : Nat} (hwhy : why < 4) {phase : Nat}
    (hphase : phase < 4) : LostWith x why phase s (z.feedLose x why phase) := by
  obtain ⟨hst, hcnt, hcode, hfeed, hph, hflag⟩ := lossNoted_facts x hwhy hphase z
  have hoth := lossNoted_other_feed x why phase z
  have hcore := lossNoted_core x why phase z
  have hmode := lossNoted_other x why phase z (f := Reg.GL_MODE) (by decide)
  have hstat := lossNoted_other x why phase z (f := Reg.HUP_STAT_MAINS) (by decide)
  have hsn := lossNoted_other x why phase z (f := Reg.REC_SNSEV) (by decide)
  rw [feedLose_live (by rw [same.feedSt x]; exact hlive)]
  generalize lossNoted x why phase z = w at *
  have hreg : ∀ f : Field, onRecPages f = false → (w.raise 0x1101 3 0x09 (feedNo x) (why + 256 * phase)).reg f = w.reg f :=
    fun f hf => raise_reg _ _ _ _ _ _ (by decide) _ hf
  have hfeedSt := feedSt_raise (sev := 3) (by decide) w 0x1101 0x09 (feedNo x) (why + 256 * phase)
  have hqcnt := qcnt_raise (sev := 3) (by decide) w 0x1101 0x09 (feedNo x) (why + 256 * phase)
  have hraised : Raised 0x1101 3 (feedNo x) (why + 256 * phase) s (w.raise 0x1101 3 0x09 (feedNo x) (why + 256 * phase)) :=
    raised_now (by decide) ((congrArg CoreSt.sup hcore).trans same.sup) (hsn.trans (same.reg _ (by decide)))
  generalize w.raise 0x1101 3 0x09 (feedNo x) (why + 256 * phase) = r at *
  rw [mainsChange_present ((hreg _ (by decide)).trans (hstat.trans ((same.reg _ (by decide)).trans hmains)))
    (anyQualified_of (otherFeed x) ((hfeedSt _).trans (hoth.trans ((same.feedSt _).trans hother))))]
  have hput : ∀ f : Field, f.place ≠ Field.place Reg.HUP_STAT_MAINS → onRecPages f = false →
      (r.put Reg.HUP_STAT_MAINS 1).reg f = w.reg f := fun f hf hp => (reg_put_other _ _ _ _ hf).trans (hreg f hp)
  exact ⟨(feedSt_put (by decide) _ _ _).trans ((hfeedSt _).trans hst), (qcnt_put (by decide) _ _ _).trans ((hqcnt _).trans hcnt),
    (hput _ (by decide) (by decide)).trans hcode, (hput _ (by decide) (by decide)).trans hfeed, (hput _ (by decide) (by decide)).trans hph,
    (hput _ (by decide) (by decide)).trans hflag, (hput Reg.GL_MODE (by decide) (by decide)).trans (hmode.trans (same.reg _ (by decide))),
    reg_put_same _ _ _, raised_put hraised _ _⟩

/-! The crest check (R199). -/

section
variable (t : Edges) (x : Feed) (p : Fin 3) (s : State)

/-- A crest check as it is seen: the raw value shown. -/
def crestShown (q : Codes5) (s : State) : State := s.putAt Reg.TLM_RAW_AC (3 * feedNo x + p.val) q.c4.toNat

theorem exec_crestCheck (k : Fin 8) (q : Codes5) : exec (.crestCheck t x p k q) s = live t s fun s =>
    if (crestShown x p q s).judged x p.val ∧ (crestShown x p q s).crestOn x then
      (crestShown x p q s).crestCheck x p.val k.val ((crestShown x p q s).crestMean q)
    else crestShown x p q s := rfl

theorem exec_acZeroCrossing (rising : Bool) (rms : Nat) (leads : Bool) : exec (.acZeroCrossing t x p rising rms leads) s = live t s fun s =>
    if s.judged x p.val then
      if p = 0 ∧ rising then (s.rmsWindow x p.val rms).cycleEnd x leads else s.rmsWindow x p.val rms
    else s := rfl

theorem exec_rmsWindowDeadline (rms : Nat) : exec (.rmsWindowDeadline t x p rms) s = live t s fun s =>
    if s.judged x p.val then s.rmsWindow x p.val rms else s := rfl

/-- The frequency of a feed judged at its deadline. -/
def frequencyJudged (x : Feed) (s : State) : State :=
  match (s.feed x).posAt with
  | none => s
  | some p => if s.judged x 0 ∧ edgeSec ≤ 45 * (s.now - p) then s.feedLose x 3 1 else s

theorem exec_frequencyDeadline : exec (.frequencyDeadline t x) s = live t s (frequencyJudged x) := rfl

end

theorem sameFeeds_at (t : Edges) (s : State) : SameFeeds s (s.at t) := ⟨fun _ _ => rfl, rfl⟩

theorem SameFeeds.putAt {s z : State} (h : SameFeeds s z) {f : Field}
    (hf : f.place ∉ ([Reg.GL_MODE, Reg.HUP_STAT_MAINS, Reg.REC_SNSEV] ++ feedFields).map Field.place) (i v : Nat) : SameFeeds s (z.putAt f i v) :=
  ⟨fun g hg => (reg_putAt_other _ _ _ _ _ fun e => hf (e ▸ List.mem_map_of_mem hg)).trans (h.reg g hg), h.sup⟩

theorem SameFeeds.setFeed {s z : State} (h : SameFeeds s z) (x : Feed) (f : FeedSt) : SameFeeds s (z.setFeed x f) :=
  ⟨fun g hg => (setFeed_reg _ _ _ _).trans (h.reg g hg), (congrArg CoreSt.sup (setFeed_core _ _ _)).trans h.sup⟩

theorem LostWith.ended {x : Feed} {why phase : Nat} {t : Edges} {s u : State} (h : LostWith x why phase s u) :
    LostWith x why phase s (ended t s fun _ => u) := by
  obtain ⟨hst, hcnt, hcode, hfeed, hph, hflag, hmode, hmains, hraised⟩ := h
  have hreg := ended_reg t s fun _ => u
  refine ⟨?_, ?_, (hreg _).trans hcode, (hreg _).trans hfeed, (hreg _).trans hph, (hreg _).trans hflag, (hreg _).trans hmode,
    (hreg _).trans hmains, raised_ended hraised⟩
  · rw [← hst]
    cases x <;> exact hreg _
  · rw [← hcnt]
    cases x <;> exact hreg _

/-- Whether a crest check finds the feed wanting. -/
def crestBad (x : Feed) (k : Fin 8) (q : Codes5) (s : State) : Bool :=
  crestSign (s.crestMean q) k || crestLow (s.crestMean q) (s.apk x) (s.reg Reg.HUP_CRLO) k

/-- A crest check that failed, noted. -/
def crestCounted (x : Feed) (s : State) : State :=
  s.setFeed x { s.feed x with crest := (s.feed x).crest + 1, apkOk := false, rt := 0 }

/-- A crest check that passed, noted. -/
def crestPassed (x : Feed) (s : State) : State :=
  (s.setFeed x { s.feed x with crest := 0, rt := (s.feed x).rt + 1 }).feedPass x

theorem crestCheck_eq (s : State) (x : Feed) (p k : Nat) (m : Rat) : s.crestCheck x p k m =
    if (crestSign m k || crestLow m (s.apk x) (s.reg Reg.HUP_CRLO) k) = true then
      if ((crestCounted x s).feedSt x = feedQual ∧ (crestCounted x s).reg Reg.HUP_CRN ≤ (s.feed x).crest + 1) ∨
          ((crestCounted x s).feedSt x = feedReturn ∧ (crestCounted x s).reg Reg.WHL_STAT_STATE = 2) then
        (crestCounted x s).feedLose x 0 (p + 1)
      else crestCounted x s
    else
      if (crestPassed x s).isSet Reg.HUP_STAT_RTARM = true ∧ (crestPassed x s).feedSt x ≠ feedQual ∧
          (crestPassed x s).reg Reg.HUP_RTCHK ≤ (s.feed x).rt + 1 then (crestPassed x s).feedQualify x 0xFF
      else crestPassed x s := rfl

theorem crestPassed_facts (x : Feed) (s : State) : ((crestPassed x s).feed x).crest = 0 ∧ ((crestPassed x s).feed x).passAt = s.now ∧
    (crestPassed x s).regs = s.regs := by
  cases x <;> exact ⟨rfl, rfl, rfl⟩

theorem crestShown_other (x : Feed) (p : Fin 3) (q : Codes5) (s : State) {f : Field} (hf : f.place ≠ Field.place Reg.TLM_RAW_AC) :
    (crestShown x p q s).reg f = s.reg f := reg_putAt_other _ _ _ _ _ hf

theorem crestShown_same (t : Edges) (x : Feed) (p : Fin 3) (q : Codes5) (s : State) : SameFeeds s (crestShown x p q (s.at t)) :=
  (sameFeeds_at t s).putAt (by decide) _ _

theorem crestShown_judged (t : Edges) (x : Feed) (p : Fin 3) (q : Codes5) (s : State) :
    (crestShown x p q (s.at t)).judged x p.val = s.judged x p.val := by
  unfold State.judged
  rw [isSet_eq, isSet_eq, crestShown_other _ _ _ _ (by decide), (crestShown_same t x p q s).feedSt x]
  rfl

theorem crestShown_on (x : Feed) (p : Fin 3) (q : Codes5) (s : State) : (crestShown x p q s).crestOn x = s.crestOn x := by
  have hstate := crestShown_other x p q s (f := Reg.WHL_STAT_STATE) (by decide)
  have hcyc := crestShown_other x p q s (f := Reg.WHL_CYC) (by decide)
  have hrtw := crestShown_other x p q s (f := Reg.HUP_RTW) (by decide)
  have hfreq := crestShown_other x p q s (f := Reg.WHL_FREQ) (by decide)
  have hwheel : (crestShown x p q s).wheel = s.wheel := rfl
  have hhup : (crestShown x p q s).hup = s.hup := rfl
  have hnow : (crestShown x p q s).now = s.now := rfl
  generalize crestShown x p q s = z at *
  have hangle : z.angle = s.angle := by
    unfold State.angle State.ticksSince
    rw [hwheel, hnow, hfreq]
  unfold State.crestOn State.wheelPos State.feed
  rw [hstate, hcyc, hrtw, hwheel, hhup, hnow, hangle]

theorem crestShown_mean (t : Edges) (x : Feed) (p : Fin 3) (q : Codes5) (s : State) :
    (crestShown x p q (s.at t)).crestMean q = s.crestMean q := by
  unfold State.crestMean
  rw [crestShown_other _ _ _ _ (by decide)]
  rfl

theorem crestShown_bad (t : Edges) (x : Feed) (p : Fin 3) (k : Fin 8) (q : Codes5) (s : State) :
    (crestSign ((crestShown x p q (s.at t)).crestMean q) k || crestLow ((crestShown x p q (s.at t)).crestMean q)
      ((crestShown x p q (s.at t)).apk x) ((crestShown x p q (s.at t)).reg Reg.HUP_CRLO) k) = crestBad x k q s := by
  have hapk : (crestShown x p q (s.at t)).apk x = s.apk x := by
    cases x <;> exact crestShown_other _ _ _ _ (by decide)
  rw [crestShown_mean, hapk, crestShown_other _ _ _ _ (by decide)]
  rfl

theorem crestShown_regs (t : Edges) (x : Feed) (p : Fin 3) (q : Codes5) (s : State) :
    OnlyRegsQuiet [Reg.TLM_RAW_AC] s (crestShown x p q (s.at t)) :=
  onlyRegsQuiet_putAt (onlyRegsQuiet_of_regs (u := s.at t) _ rfl) _ _ _ (by decide)

theorem crestCounted_facts (x : Feed) (s : State) : ((crestCounted x s).feed x).crest = (s.feed x).crest + 1 ∧ (crestCounted x s).regs = s.regs := by
  cases x <;> exact ⟨rfl, rfl⟩

section
variable {t : Edges} {x : Feed} {p : Fin 3} {s : State} (hp : s.core.powered = true) (k : Fin 8) (q : Codes5)
include hp

theorem does_crestCheck_idle (h : s.judged x p = false ∨ (s.at t).crestOn x = false) : Does (.crestCheck t x p k q) s fun u =>
    u.regAt Reg.TLM_RAW_AC (3 * feedNo x + p) = q.c4.toNat ∧ u.hup = s.hup ∧ OnlyRegsQuiet [Reg.TLM_RAW_AC] s u := by
  have hoff : ¬((crestShown x p q (s.at t)).judged x p.val = true ∧ (crestShown x p q (s.at t)).crestOn x = true) := by
    rw [crestShown_judged, crestShown_on]
    rintro ⟨hj, hon⟩
    obtain h | h := h
    · exact Bool.false_ne_true (h.symm.trans hj)
    · exact Bool.false_ne_true (h.symm.trans hon)
  refine does_of_effect hp (exec_crestCheck t x p s k q) (if_neg hoff) ⟨?_, ended_hup _ _ _, onlyRegsQuiet_ended (crestShown_regs t x p q s)⟩
  rw [ended_regAt]
  exact (regAt_putAt_same _ _ _ _).trans (Nat.mod_eq_of_lt q.c4.isLt)

variable (hj : s.judged x p = true) (hon : (s.at t).crestOn x = true)
include hj hon

/-- A crest check of a judged feed that has one now is the check of the sample shown. -/
theorem does_crestCheck {z : State} (hz : (crestShown x p q (s.at t)).crestCheck x p.val k.val ((crestShown x p q (s.at t)).crestMean q) = z)
    {P : State → Prop} (h : P (ended t s fun _ => z)) : Does (.crestCheck t x p k q) s P := by
  refine does_of_effect hp (exec_crestCheck t x p s k q) ((if_pos ⟨?_, ?_⟩).trans hz) h
  · rw [crestShown_judged]
    exact hj
  · rw [crestShown_on]
    exact hon

theorem does_crestCheck_pass (hgood : crestBad x k q s = false) (harm : s.reg Reg.HUP_STAT_RTARM = 0) : Does (.crestCheck t x p k q) s fun u =>
    (u.feed x).crest = 0 ∧ (u.feed x).passAt = max s.now t ∧ OnlyRegsQuiet [Reg.TLM_RAW_AC] s u := by
  obtain ⟨hcrest, hpass, hregs⟩ := crestPassed_facts x (crestShown x p q (s.at t))
  have hdone : (crestShown x p q (s.at t)).crestCheck x p.val k.val ((crestShown x p q (s.at t)).crestMean q) =
      crestPassed x (crestShown x p q (s.at t)) := by
    have harmed : (crestPassed x (crestShown x p q (s.at t))).isSet Reg.HUP_STAT_RTARM = false := by
      unfold State.isSet State.reg
      rw [hregs]
      have := crestShown_other x p q (s.at t) (f := Reg.HUP_STAT_RTARM) (by decide)
      exact bne_eq_false_iff_eq.mpr (this.trans harm)
    rw [crestCheck_eq, crestShown_bad, hgood, if_neg Bool.false_ne_true, harmed, if_neg fun h => Bool.false_ne_true h.1]
  have hfeed := feed_of_hup (ended_hup t s fun _ => crestPassed x (crestShown x p q (s.at t))) x
  refine does_crestCheck hp k q hj hon hdone ⟨?_, ?_, onlyRegsQuiet_ended fun f i hf => ?_⟩
  · rw [hfeed]
    exact hcrest
  · rw [hfeed]
    exact hpass
  · refine Eq.trans ?_ (crestShown_regs t x p q s f i hf)
    unfold State.regAt
    rw [hregs]

theorem does_crestCheck_lost (hbad : crestBad x k q s = true) (hqual : s.feedSt x = feedQual) (hlast : s.reg Reg.HUP_CRN ≤ (s.feed x).crest + 1)
    (hother : s.feedSt (otherFeed x) = feedQual) (hmains : s.reg Reg.HUP_STAT_MAINS = 1) :
    Does (.crestCheck t x p k q) s (LostWith x 0 (p + 1) s) := by
  have same := (crestShown_same t x p q s).setFeed x
    { (crestShown x p q (s.at t)).feed x with crest := ((crestShown x p q (s.at t)).feed x).crest + 1, apkOk := false, rt := 0 }
  have hlim : (crestCounted x (crestShown x p q (s.at t))).reg Reg.HUP_CRN = s.reg Reg.HUP_CRN :=
    (setFeed_reg _ _ _ _).trans (crestShown_other _ _ _ _ (by decide))
  have hn : ((crestShown x p q (s.at t)).feed x).crest = (s.feed x).crest := congrArg FeedSt.crest (feed_of_hup rfl x)
  refine does_crestCheck hp k q hj hon (z := (crestCounted x (crestShown x p q (s.at t))).feedLose x 0 (p + 1)) ?_
    (feedLose_lost same (.inl hqual) hother hmains (by decide) (by omega)).ended
  rw [crestCheck_eq, crestShown_bad, hbad, if_pos rfl, hlim, hn]
  exact if_pos (.inl ⟨(same.feedSt x).trans hqual, hlast⟩)

theorem does_crestCheck_counted (hbad : crestBad x k q s = true) (hqual : s.feedSt x = feedQual)
    (hmore : (s.feed x).crest + 1 < s.reg Reg.HUP_CRN) : Does (.crestCheck t x p k q) s fun u =>
      (u.feed x).crest = (s.feed x).crest + 1 ∧ u.feedSt x = feedQual ∧ OnlyRegsQuiet [Reg.TLM_RAW_AC] s u := by
  have same := (crestShown_same t x p q s).setFeed x
    { (crestShown x p q (s.at t)).feed x with crest := ((crestShown x p q (s.at t)).feed x).crest + 1, apkOk := false, rt := 0 }
  have hlim : (crestCounted x (crestShown x p q (s.at t))).reg Reg.HUP_CRN = s.reg Reg.HUP_CRN :=
    (setFeed_reg _ _ _ _).trans (crestShown_other _ _ _ _ (by decide))
  have hn : ((crestShown x p q (s.at t)).feed x).crest = (s.feed x).crest := congrArg FeedSt.crest (feed_of_hup rfl x)
  obtain ⟨hcrest, hregs⟩ := crestCounted_facts x (crestShown x p q (s.at t))
  have hst : (crestCounted x (crestShown x p q (s.at t))).feedSt x = feedQual := (same.feedSt x).trans hqual
  refine does_crestCheck hp k q hj hon (z := crestCounted x (crestShown x p q (s.at t))) ?_ ⟨?_, ?_, onlyRegsQuiet_ended fun f i hf => ?_⟩
  · rw [crestCheck_eq, crestShown_bad, hbad, if_pos rfl, hlim, hn, hst]
    refine if_neg ?_
    rintro (⟨-, h⟩ | ⟨h, -⟩)
    · omega
    · exact absurd h (by decide)
  · rw [feed_of_hup (ended_hup _ _ _) x, hcrest, hn]
  · rw [← hst]
    cases x <;> exact ended_reg _ _ _ _
  · refine Eq.trans ?_ (crestShown_regs t x p q s f i hf)
    unfold State.regAt
    rw [hregs]

end

/-! The RMS windows (R200). -/

/-- The RMS value in volts, and the square of the line voltage judged in 0.01 V. -/
def rmsVolts (rms : Nat) (s : State) : Rat := (rms * s.reg Reg.HUP_ACSCAL : Nat) / 1000000

/-- The square judged, of the RMS value `v`. -/
def rmsSquare (v : Rat) (s : State) : Rat := (if s.reg Reg.WHL_CFG_SINGLE ≠ 0 then 1 else 3) * (100 * v) * (100 * v)

/-- A limit of the RMS value. -/
def rmsLimit (f : Field) (s : State) : Rat := (s.reg f * s.reg Reg.HUP_VNOM : Nat)

/-- The RMS value shown. -/
def rmsShown (x : Feed) (p rms : Nat) (s : State) : State := s.putAtSat Reg.HUP_VRMS (3 * feedNo x + p) (toUnitNat (rmsVolts rms s))

theorem rmsShown_other (x : Feed) (p rms : Nat) (s : State) {f : Field} (hf : f.place ≠ Field.place Reg.HUP_VRMS) :
    (rmsShown x p rms s).reg f = s.reg f := reg_putAt_other _ _ _ _ _ hf

theorem rmsWindow_eq (s : State) (x : Feed) (p rms : Nat) : s.rmsWindow x p rms =
    if rmsSquare (rmsVolts rms s) s < rmsLimit Reg.HUP_RMSLO s * rmsLimit Reg.HUP_RMSLO s then (rmsShown x p rms s).feedLose x 1 (p + 1)
    else if rmsLimit Reg.HUP_RMSHI s * rmsLimit Reg.HUP_RMSHI s < rmsSquare (rmsVolts rms s) s then (rmsShown x p rms s).feedLose x 2 (p + 1)
    else (rmsShown x p rms s).feedPass x := by
  have hsingle := rmsShown_other x p rms s (f := Reg.WHL_CFG_SINGLE) (by decide)
  have hvnom := rmsShown_other x p rms s (f := Reg.HUP_VNOM) (by decide)
  have hlo := rmsShown_other x p rms s (f := Reg.HUP_RMSLO) (by decide)
  have hhi := rmsShown_other x p rms s (f := Reg.HUP_RMSHI) (by decide)
  unfold rmsSquare rmsLimit
  rw [← hsingle, ← hvnom, ← hlo, ← hhi]
  simp only [← bne_iff_ne]
  rfl

theorem rmsShown_same (t : Edges) (x : Feed) (p rms : Nat) (s : State) : SameFeeds s (rmsShown x p rms (s.at t)) :=
  (sameFeeds_at t s).putAt (by decide) _ _

theorem rmsShown_regs (t : Edges) (x : Feed) (p rms : Nat) (s : State) : OnlyRegsQuiet [Reg.HUP_VRMS] s (rmsShown x p rms (s.at t)) :=
  onlyRegsQuiet_putAt (onlyRegsQuiet_of_regs (u := s.at t) _ rfl) _ _ _ (by decide)

theorem feedPass_facts (s : State) (x : Feed) : ((s.feedPass x).feed x).passAt = s.now ∧ (s.feedPass x).regs = s.regs := by
  cases x <;> exact ⟨rfl, rfl⟩

section
variable {t : Edges} {x : Feed} {p : Fin 3} {s : State} {c : Instr} {f : State → State} {rms : Nat} (hp : s.core.powered = true)
  (hc : exec c s = live t s f) (hf : f (s.at t) = (s.at t).rmsWindow x p rms)
include hp hc hf

theorem does_rmsWindow_pass
    (hlo : rmsLimit Reg.HUP_RMSLO s * rmsLimit Reg.HUP_RMSLO s ≤ rmsSquare (rmsVolts rms s) s)
    (hhi : rmsSquare (rmsVolts rms s) s ≤ rmsLimit Reg.HUP_RMSHI s * rmsLimit Reg.HUP_RMSHI s) : Does c s fun u =>
      u.regAt Reg.HUP_VRMS (3 * feedNo x + p) = min 65535 (toUnitNat (rmsVolts rms s)) ∧ (u.feed x).passAt = max s.now t ∧
      OnlyRegsQuiet [Reg.HUP_VRMS] s u := by
  obtain ⟨hpass, hregs⟩ := feedPass_facts (rmsShown x p rms (s.at t)) x
  refine does_of_effect hp hc (hf.trans ((rmsWindow_eq _ _ _ _).trans ((if_neg (not_lt.mpr hlo)).trans (if_neg (not_lt.mpr hhi)))))
    ⟨?_, ?_, onlyRegsQuiet_ended fun g i hg => ?_⟩
  · rw [ended_regAt]
    unfold State.regAt
    rw [hregs]
    exact (regAt_putAt_same _ _ _ _).trans (satNat_mod _ _)
  · rw [feed_of_hup (ended_hup _ _ _) x]
    exact hpass
  · refine Eq.trans ?_ (rmsShown_regs t x p rms s g i hg)
    unfold State.regAt
    rw [hregs]

variable (hlive : s.feedSt x = feedQual ∨ s.feedSt x = feedReturn) (hother : s.feedSt (otherFeed x) = feedQual)
  (hmains : s.reg Reg.HUP_STAT_MAINS = 1)
include hlive hother hmains

theorem does_rmsWindow_low (hlow : rmsSquare (rmsVolts rms s) s < rmsLimit Reg.HUP_RMSLO s * rmsLimit Reg.HUP_RMSLO s) :
    Does c s (LostWith x 1 (p + 1) s) :=
  does_of_effect hp hc (hf.trans ((rmsWindow_eq _ _ _ _).trans (if_pos hlow)))
    (feedLose_lost (rmsShown_same t x p rms s) hlive hother hmains (by decide) (by omega)).ended

theorem does_rmsWindow_high (hlo : rmsLimit Reg.HUP_RMSLO s * rmsLimit Reg.HUP_RMSLO s ≤ rmsSquare (rmsVolts rms s) s)
    (hhigh : rmsLimit Reg.HUP_RMSHI s * rmsLimit Reg.HUP_RMSHI s < rmsSquare (rmsVolts rms s) s) :
    Does c s (LostWith x 2 (p + 1) s) :=
  does_of_effect hp hc (hf.trans ((rmsWindow_eq _ _ _ _).trans ((if_neg (not_lt.mpr hlo)).trans (if_pos hhigh))))
    (feedLose_lost (rmsShown_same t x p rms s) hlive hother hmains (by decide) (by omega)).ended

end

/-! What a command on a feed that is not judged does, and the deadline of the frequency (R200). -/

theorem does_nothing {t : Edges} {s : State} {c : Instr} {f : State → State} (hp : s.core.powered = true)
    (hc : exec c s = live t s f) (hf : f (s.at t) = s.at t) : Does c s fun u => u.hup = s.hup ∧ OnlyRegsQuiet [] s u :=
  does_of_effect hp hc hf ⟨ended_hup _ _ _, onlyRegsQuiet_ended (onlyRegsQuiet_of_regs _ rfl)⟩

section
variable {t : Edges} {x : Feed} {s : State} {a : Nat} (hpos : (s.feed x).posAt = some a)
include hpos

theorem frequencyJudged_at : frequencyJudged x (s.at t) =
    if s.judged x 0 ∧ edgeSec ≤ 45 * (max s.now t - a) then (s.at t).feedLose x 3 1 else s.at t := by
  have hat : ((s.at t).feed x).posAt = some a := hpos
  unfold frequencyJudged
  rw [hat]
  rfl

variable (hp : s.core.powered = true)
include hp

theorem does_frequencyDeadline_lost (hj : s.judged x 0 = true) (hdue : edgeSec ≤ 45 * (max s.now t - a))
    (hlive : s.feedSt x = feedQual ∨ s.feedSt x = feedReturn) (hother : s.feedSt (otherFeed x) = feedQual)
    (hmains : s.reg Reg.HUP_STAT_MAINS = 1) : Does (.frequencyDeadline t x) s (LostWith x 3 1 s) :=
  does_of_effect hp (exec_frequencyDeadline t x s) ((frequencyJudged_at hpos).trans (if_pos ⟨hj, hdue⟩))
    (feedLose_lost (sameFeeds_at t s) hlive hother hmains (by decide) (by decide)).ended

theorem does_frequencyDeadline_idle (h : s.judged x 0 = false ∨ 45 * (max s.now t - a) < edgeSec) :
    Does (.frequencyDeadline t x) s fun u => u.hup = s.hup ∧ OnlyRegsQuiet [] s u := by
  refine does_nothing hp (exec_frequencyDeadline t x s) ((frequencyJudged_at hpos).trans (if_neg ?_))
  rintro ⟨hj, hdue⟩
  obtain h | h := h
  · exact Bool.false_ne_true (h.symm.trans hj)
  · exact Nat.not_le.mpr h hdue

end

/-- Settles O35: every check is a write of its measure, and the loss it may end in keeps mains present for the other feed. -/
theorem feedChecks : Obligations.FeedChecks := by
  intro t x p s hp other live lost
  have hother : other → s.feedSt (otherFeed x) = feedQual ∧ s.reg Reg.HUP_STAT_MAINS = 1 := fun h => by
    cases x <;> exact h
  refine ⟨fun k q => ⟨does_crestCheck_idle hp k q, fun hj hon => ⟨fun hgood harm => does_crestCheck_pass hp k q hj hon hgood harm,
      fun hbad hqual hlast ho => does_crestCheck_lost hp k q hj hon hbad hqual hlast (hother ho).1 (hother ho).2,
      fun hbad hqual hmore => does_crestCheck_counted hp k q hj hon hbad hqual hmore⟩⟩,
    fun rms rising leads => ⟨fun hj => ⟨?_, ?_⟩, fun hj => ⟨?_, ?_⟩⟩, fun a ha =>
      ⟨fun hj hdue hlive ho => does_frequencyDeadline_lost ha hp hj hdue hlive (hother ho).1 (hother ho).2,
        does_frequencyDeadline_idle ha hp⟩⟩
  · exact does_nothing hp (exec_rmsWindowDeadline t x p s rms) (if_neg fun h => Bool.false_ne_true (hj.symm.trans h))
  · exact does_nothing hp (exec_acZeroCrossing t x p s rising rms leads) (if_neg fun h => Bool.false_ne_true (hj.symm.trans h))
  · have hrun : (if (s.at t).judged x p.val = true then (s.at t).rmsWindow x p.val rms else s.at t) = (s.at t).rmsWindow x p.val rms := if_pos hj
    have hc := exec_rmsWindowDeadline t x p s rms
    exact ⟨fun hlo hhi => does_rmsWindow_pass hp hc hrun hlo hhi,
      fun hlow hlive ho => does_rmsWindow_low hp hc hrun hlive (hother ho).1 (hother ho).2 hlow,
      fun hlo hhigh hlive ho => does_rmsWindow_high hp hc hrun hlive (hother ho).1 (hother ho).2 hlo hhigh⟩
  · have hrun : (if (s.at t).judged x p.val = true then
        if p = 0 ∧ false = true then ((s.at t).rmsWindow x p.val rms).cycleEnd x leads else (s.at t).rmsWindow x p.val rms
        else s.at t) = (s.at t).rmsWindow x p.val rms := (if_pos hj).trans (if_neg fun h => Bool.false_ne_true h.2)
    have hc := exec_acZeroCrossing t x p s false rms leads
    exact ⟨fun hlo hhi => does_rmsWindow_pass hp hc hrun hlo hhi,
      fun hlow hlive ho => does_rmsWindow_low hp hc hrun hlive (hother ho).1 (hother ho).2 hlow,
      fun hlo hhigh hlive ho => does_rmsWindow_high hp hc hrun hlive (hother ho).1 (hother ho).2 hlo hhigh⟩

end Sys2Proof.FeedJudgements

namespace Sys2Proof.EstimatorRests

open Sys2Proof Sys2Proof.Machine Sys2Proof.Laws Sys2Proof.LoadSteps Sys2Proof.Readings

/-! What a run of the estimator leaves of the hibernation (R256). -/

/-- The hibernation and the instants it is judged by stay. -/
structure HibKept (s u : State) : Prop where
  hib : u.reg Reg.EST_STAT_HIB = s.reg Reg.EST_STAT_HIB
  quiet : u.est.quietAt = s.est.quietAt
  page : u.est.pageAt = s.est.pageAt

namespace HibKept

variable {s u : State}

theorem refl (s : State) : HibKept s s := ⟨rfl, rfl, rfl⟩

theorem trans {v : State} (h : HibKept s u) (k : HibKept u v) : HibKept s v :=
  ⟨k.hib.trans h.hib, k.quiet.trans h.quiet, k.page.trans h.page⟩

/-- An operation that leaves the registers and the estimator's own part. -/
theorem of_eq (hr : u.regs = s.regs) (he : u.est = s.est) : HibKept s u := by
  refine ⟨?_, congrArg EstShelf.quietAt he, congrArg EstShelf.pageAt he⟩
  unfold State.reg
  rw [hr]

/-- An operation whose frame holds neither page 0x1C nor the estimator's own part. -/
theorem of_frame {P G : Nat} (h : Frame P G s u) (hG : G.testBit 28 = false) (hP : P.testBit 31 = false) : HibKept s u :=
  ⟨h.f_regs Reg.EST_STAT_HIB 0 hG, congrArg EstShelf.quietAt (h.f_est hP), congrArg EstShelf.pageAt (h.f_est hP)⟩

theorem putAt (s : State) {f : Field} (hf : f.place ≠ Field.place Reg.EST_STAT_HIB) (i v : Nat) : HibKept s (s.putAt f i v) :=
  ⟨reg_putAt_other _ _ _ _ _ hf.symm, rfl, rfl⟩

theorem put (s : State) {f : Field} (hf : f.place ≠ Field.place Reg.EST_STAT_HIB) (v : Nat) : HibKept s (s.put f v) := putAt s hf 0 v

theorem raise (s : State) (code : Nat) {sev : Nat} (h : sev < 6) (unit p0 p1 : Nat) : HibKept s (s.raise code sev unit p0 p1) :=
  ⟨raise_reg _ _ _ _ _ _ h _ (by decide), congrArg EstShelf.quietAt (raise_est _ _ _ _ _ _ h), congrArg EstShelf.pageAt (raise_est _ _ _ _ _ _ h)⟩

theorem setEsti (s : State) (k : Nat) (v : EstSt) : HibKept s (s.setEsti k v) := of_eq rfl rfl

theorem foldl {α : Type} {f : State → α → State} (h : ∀ s a, HibKept s (f s a)) (l : List α) (s : State) : HibKept s (l.foldl f s) := by
  induction l generalizing s with
  | nil => exact refl s
  | cons a l ih => exact (h s a).trans (ih _)

theorem ite {p : Prop} [Decidable p] {v : State} (hu : HibKept s u) (hv : HibKept s v) : HibKept s (if p then u else v) := by
  by_cases h : p
  · rw [if_pos h]; exact hu
  · rw [if_neg h]; exact hv

end HibKept

theorem hib_setEst0 (s : State) (k st : Nat) : HibKept s (s.setEst0 k st) := .putAt s (by decide) _ _

theorem hib_learning (s : State) (k : Nat) : HibKept s (s.learning k) := .setEsti s k _

theorem hib_inconsistent (s : State) (k why : Nat) : HibKept s (s.inconsistent k why) :=
  (HibKept.put s (by decide) 1).trans (.raise _ _ (by decide) _ _ _)

theorem hib_learnCapacity (s : State) (k : Nat) (qm q : Rat) : HibKept s (s.learnCapacity k qm q) :=
  (((HibKept.setEsti s k _).trans (hib_setEst0 _ _ _)).trans (.raise _ _ (by decide) _ _ _)).trans (hib_learning _ _)

theorem hib_reference (s : State) (k : Nat) (sb ub : Rat) : HibKept s (s.reference k sb ub) := by
  have hset := HibKept.setEsti s k { s.esti k with ref := some (sb, ub), refQ := 0 }
  unfold State.reference
  dsimp only
  split
  · exact hset
  · exact .ite hset (.ite (hset.trans (hib_learnCapacity _ _ _ _)) (hset.trans (hib_inconsistent _ _ _)))

theorem hib_anchorRun (s : State) (k : Nat) : HibKept s (s.anchorRun k) :=
  .ite (((HibKept.setEsti s k _).trans (hib_reference _ _ _ _)).trans (hib_learning _ _)) (.refl s)

theorem hib_lowRefRun (s : State) (k : Nat) : HibKept s (s.lowRefRun k) :=
  .ite ((HibKept.setEsti s k _).trans (hib_reference _ _ _ _)) (.refl s)

theorem hib_paramLimit (s : State) (k j : Nat) (lim : Bool) : HibKept s (s.paramLimit k j lim) :=
  (HibKept.setEsti s k _).trans (.ite ((HibKept.put _ (by decide) 1).trans (.raise _ _ (by decide) _ _ _)) (.refl _))

theorem hib_estShow (s : State) (k : Nat) : HibKept s (s.estShow k) := by
  unfold State.estShow
  dsimp only
  iterate 12 refine HibKept.trans ?_ (.putAt _ (by decide) _ _)
  exact .putAt _ (by decide) _ _

theorem hib_estPublish (s : State) (k : Nat) : HibKept s (s.estPublish k) := (HibKept.setEsti s k _).trans (hib_estShow _ _)

theorem hib_takeFree (s : State) : HibKept s s.takeFree.2 := .of_frame (frame_takeFree (Frame.refl 4 0 s) (by decide) (by decide)) (by decide) (by decide)

theorem hib_addDeficit (s : State) (k : Nat) (q : Rat) : HibKept s (s.addDeficit k q) :=
  .of_frame (frame_addDeficit (Frame.refl 0x20000000 0x8000000 s) k q (by decide) (by decide)) (by decide) (by decide)

theorem hib_sendCapsule (s : State) (k : Nat) (c : List Nat) : HibKept s (s.sendCapsule k c) :=
  .of_frame (frame_sendCapsule (Frame.refl 0x200000 0 s) k c (by decide) (by decide)) (by decide) (by decide)

theorem hib_modelRun (s : State) (k : Nat) (dt : Rat) : HibKept s (s.modelRun k dt) :=
  (((((hib_takeFree s).trans (hib_takeFree _)).trans (.setEsti _ k _)).trans (hib_paramLimit _ _ _ _)).trans (hib_paramLimit _ _ _ _)).trans
    (hib_paramLimit _ _ _ _)

theorem hib_stagingReset (s : State) : HibKept s (s.stagingReset 0) := by
  refine .ite (.refl s) ?_
  dsimp only
  rw [if_neg (by decide)]
  exact ⟨(HibKept.put (s.put Reg.EST_ROFFLINE 0xFFFFFFFF) (by decide) _).hib.trans (HibKept.put s (by decide) _).hib, rfl, rfl⟩

theorem hib_exportCapsule (s : State) (k : Nat) : HibKept s (s.exportCapsule k) := by
  unfold State.exportCapsule
  dsimp only
  refine .ite ?_ (.setEsti s k _)
  refine HibKept.trans ?_ (.raise _ _ (by decide) _ _ _)
  refine HibKept.trans ?_ (.put _ (by decide) _)
  refine HibKept.trans ?_ (.foldl (fun _ _ => .putAt _ (by decide) _ _) _ _)
  have hgen := ((HibKept.setEsti s k { s.esti k with export_ := false }).trans (.putAt _ (f := Reg.EST_GEN) (by decide) k
    ((s.setEsti k { s.esti k with export_ := false }).regAt Reg.EST_GEN k + 1)))
  exact .ite ((hgen.trans (.setEsti _ _ _)).trans (.put _ (by decide) _)) (hgen.trans (.setEsti _ _ _))

theorem hib_applyCapsule (s : State) (k : Nat) (c : List Nat) : HibKept s (s.applyCapsule k c) := by
  have hmost : ∀ (y : StrSt) (e : EstSt) (lost : Rat), HibKept s (((s.setStr k y).setEsti k e).addDeficit k lost) := fun y e lost =>
    ((HibKept.of_eq (s := s) (u := s.setStr k y) rfl rfl).trans (.setEsti _ k e)).trans (hib_addDeficit _ k lost)
  unfold State.applyCapsule
  dsimp only
  refine .ite (HibKept.trans ?_ (hib_stagingReset _)) ?_
  all_goals
    refine HibKept.trans ?_ (hib_sendCapsule _ _ _)
    refine HibKept.trans ?_ (.raise _ _ (by decide) _ _ _)
    refine HibKept.trans (HibKept.trans ?_ (.put _ (f := Reg.EST_FLAGS_RESTORED) (by decide) _)) (.put _ (by decide) _)
    refine HibKept.trans (HibKept.trans (HibKept.trans ?_ (.putAt _ (by decide) _ _)) (hib_setEst0 _ _ _)) (.put _ (by decide) _)
    refine HibKept.trans ?_ (.foldl (fun _ _ => .putAt _ (by decide) _ _) _ _)
    exact (hmost _ _ _).trans (.putAt _ (by decide) _ _)

theorem hib_capsuleRun (s : State) (k : Nat) : HibKept s (s.capsuleRun k) := by
  unfold State.capsuleRun
  split
  · exact .refl s
  · exact hib_applyCapsule s k _

theorem hib_estRunOne (s : State) (k : Nat) : HibKept s (s.estRunOne k) := by
  unfold State.estRunOne
  dsimp only
  refine .ite (.refl s) ?_
  have hrun := fun (z : State) (dt : Rat) => ((((hib_capsuleRun z k).trans (hib_anchorRun _ k)).trans (hib_lowRefRun _ k)).trans
    (hib_modelRun _ k dt)).trans (hib_estPublish _ k)
  have hbooked := fun (e : EstSt) (q : Rat) (dt : Rat) => ((HibKept.setEsti s k e).trans (hib_addDeficit _ k q)).trans (hrun _ dt)
  exact .ite ((hbooked _ _ _).trans (hib_exportCapsule _ _)) (hbooked _ _ _)

theorem hib_estimatorRun (s : State) : HibKept s s.estimatorRun := .ite (.foldl hib_estRunOne _ _) (.refl s)

/-! The wake of the estimator, and its hibernation (R256). -/

theorem estWake_hibernating {s : State} (h : s.reg Reg.EST_STAT_HIB = 1) :
    s.estWake.reg Reg.EST_STAT_HIB = 0 ∧ s.estWake.est.quietAt = none ∧ s.estWake.est.pageAt = s.est.pageAt := by
  have hrun := hib_estimatorRun { s.put Reg.EST_STAT_HIB 0 with est.quietAt := none }
  have hoff : (s.put Reg.EST_STAT_HIB 0).reg Reg.EST_STAT_HIB = 0 := reg_put_same _ _ _
  have hwake : s.estWake = { s.put Reg.EST_STAT_HIB 0 with est.quietAt := none }.estimatorRun := if_pos (by rw [isSet_eq, h]; rfl)
  rw [hwake]
  exact ⟨hrun.hib.trans hoff, hrun.quiet, hrun.page⟩

theorem estWake_awake {s : State} (h : s.reg Reg.EST_STAT_HIB = 0) : s.estWake = s := if_neg (by rw [isSet_eq, h]; decide)

section
variable (t : Edges) (s : State) (k : Str)

/-- The end of WAIT taken. -/
def naiveTaken (k : Nat) (s : State) : State :=
  ((s.setEst0 k estNaive).flag Reg.EST_FLAGS_NAIVE).raise 0x3151 3 0x0B k (s.regAt Reg.EST_SOC k)

theorem exec_estimatorNaiveTimeout : exec (.estimatorNaiveTimeout t k) s = live t s fun s =>
    if s.est0 k.val = estWait ∧ s.elapsed (s.esti k.val).waitAt (30 * edgeSec) then naiveTaken k.val s else s := rfl

theorem exec_restCorrection : exec (.restCorrection t k) s = live t s fun s =>
    if s.resting k.val ∧ s.estRuns then s.restCorrect k.val else s := rfl

theorem exec_estimatorHibernate : exec (.estimatorHibernate t) s = live t s fun s =>
    if s.ran s.est.quietAt (10 * edgeSec) ∧ s.elapsed s.est.pageAt (10 * edgeSec) then s.put Reg.EST_STAT_HIB 1 else s := rfl

theorem exec_estimatorWake (byPage : Bool) : exec (.estimatorWake t byPage) s = live t s fun s =>
    if byPage then { s with est.pageAt := s.now }.estWake else s.estWake := rfl

theorem exec_capsulePeriodicExport : exec (.capsulePeriodicExport t k) s = live t s fun s =>
    if s.exportDue k.val then s.learning k.val else s := rfl

end

section
variable {t : Edges} {s : State} (hp : s.core.powered = true) (k : Str)
include hp

theorem does_naiveTimeout (hwait : s.est0 k = estWait) (hdue : (s.esti k).waitAt + 30 * edgeSec ≤ max s.now t) :
    Does (.estimatorNaiveTimeout t k) s fun u => u.est0 k = estNaive ∧ u.regAt Reg.EST_STATE k = estNaive + 4 ∧
      u.reg Reg.EST_FLAGS_NAIVE = 1 ∧ Raised 0x3151 3 k (s.regAt Reg.EST_SOC k) s u ∧ OnlyRegs [Reg.EST_STATE, Reg.EST_FLAGS_NAIVE] s u := by
  let z := (s.at t).setEst0 k.val estNaive
  have hstate : (naiveTaken k.val (s.at t)).regAt Reg.EST_STATE k = estNaive + 4 :=
    (raise_regAt _ _ _ _ _ _ (by decide) _ (by decide) _).trans ((regAt_put_other z Reg.EST_FLAGS_NAIVE Reg.EST_STATE _ _ (by decide)).trans
      (regAt_putAt_same _ _ _ _))
  have honly : OnlyRegs [Reg.EST_STATE, Reg.EST_FLAGS_NAIVE] s (naiveTaken k.val (s.at t)) :=
    onlyRegs_raise (onlyRegs_put (onlyRegs_putAt (onlyRegs_of_regs (u := s.at t) _ rfl) _ _ _ (by decide)) _ _ (by decide)) _ _ _ _ _
      (.inl (by decide))
  refine does_of_effect hp (exec_estimatorNaiveTimeout t s k) (if_pos ⟨hwait, decide_eq_true hdue⟩)
    ⟨?_, (ended_regAt _ _ _ _ _).trans hstate, ?_, raised_ended ?_, onlyRegs_ended honly⟩
  · unfold State.est0
    rw [ended_regAt, hstate]
    rfl
  · rw [ended_reg]
    exact (raise_reg _ _ _ _ _ _ (by decide) _ (by decide)).trans (reg_put_same z _ _)
  · exact raised_now (by decide) rfl ((reg_put_other z _ _ _ (by decide)).trans (reg_putAt_other _ _ _ _ _ (by decide)))

theorem does_naiveTimeout_idle (h : s.est0 k ≠ estWait ∨ max s.now t < (s.esti k).waitAt + 30 * edgeSec) :
    Does (.estimatorNaiveTimeout t k) s fun u => u.ests = s.ests ∧ OnlyRegsQuiet [] s u := by
  refine does_of_effect hp (exec_estimatorNaiveTimeout t s k) (if_neg ?_)
    ⟨ended_ests _ _ _, onlyRegsQuiet_ended (onlyRegsQuiet_of_regs _ rfl)⟩
  rintro ⟨hwait, hdue⟩
  obtain h | h := h
  · exact h hwait
  · exact Nat.not_le.mpr h (of_decide_eq_true hdue)

theorem does_hibernate {q : Nat} (hq : s.est.quietAt = some q) (hdue : q + 10 * edgeSec ≤ max s.now t)
    (hpage : s.est.pageAt + 10 * edgeSec ≤ max s.now t) : Does (.estimatorHibernate t) s fun u =>
      u.reg Reg.EST_STAT_HIB = 1 ∧ OnlyRegsQuiet [Reg.EST_STAT_HIB] s u := by
  have hran : (s.at t).ran (s.at t).est.quietAt (10 * edgeSec) = true := by
    rw [show (s.at t).est.quietAt = some q from hq]
    exact decide_eq_true hdue
  exact does_of_effect hp (exec_estimatorHibernate t s) (if_pos ⟨hran, decide_eq_true hpage⟩)
    ⟨(ended_reg _ _ _ _).trans (reg_put_same _ _ _),
      onlyRegsQuiet_ended (onlyRegsQuiet_put (onlyRegsQuiet_of_regs (u := s.at t) _ rfl) _ _ (by decide))⟩

theorem does_hibernate_idle {q : Nat} (hq : s.est.quietAt = some q)
    (h : max s.now t < q + 10 * edgeSec ∨ max s.now t < s.est.pageAt + 10 * edgeSec) :
    Does (.estimatorHibernate t) s (OnlyRegsQuiet [] s) := by
  refine does_of_effect hp (exec_estimatorHibernate t s) (if_neg ?_) (onlyRegsQuiet_ended (onlyRegsQuiet_of_regs _ rfl))
  rw [show (s.at t).est.quietAt = some q from hq]
  rintro ⟨hdue, hpage⟩
  obtain h | h := h
  · exact Nat.not_le.mpr h (of_decide_eq_true hdue)
  · exact Nat.not_le.mpr h (of_decide_eq_true hpage)

theorem does_wake (hhib : s.reg Reg.EST_STAT_HIB = 1) (byPage : Bool) : Does (.estimatorWake t byPage) s fun u =>
    u.reg Reg.EST_STAT_HIB = 0 ∧ u.est.quietAt = none ∧ (byPage = true → u.est.pageAt = max s.now t) := by
  cases byPage with
  | false =>
    obtain ⟨hoff, hquiet, -⟩ := estWake_hibernating (s := s.at t) hhib
    exact does_of_effect hp (exec_estimatorWake t s false) (if_neg Bool.false_ne_true)
      ⟨(ended_reg _ _ _ _).trans hoff, (congrArg EstShelf.quietAt (ended_est _ _ _)).trans hquiet, fun h => absurd h Bool.false_ne_true⟩
  | true =>
    obtain ⟨hoff, hquiet, hpage⟩ := estWake_hibernating (s := { s.at t with est.pageAt := (s.at t).now }) hhib
    exact does_of_effect hp (exec_estimatorWake t s true) (if_pos rfl)
      ⟨(ended_reg _ _ _ _).trans hoff, (congrArg EstShelf.quietAt (ended_est _ _ _)).trans hquiet,
        fun _ => (congrArg EstShelf.pageAt (ended_est _ _ _)).trans hpage⟩

theorem does_wake_idle (hawake : s.reg Reg.EST_STAT_HIB = 0) : Does (.estimatorWake t false) s fun u =>
    u.est = s.est ∧ u.ests = s.ests ∧ OnlyRegsQuiet [] s u :=
  does_of_effect hp (exec_estimatorWake t s false) ((if_neg Bool.false_ne_true).trans (estWake_awake (s := s.at t) hawake))
    ⟨ended_est _ _ _, ended_ests _ _ _, onlyRegsQuiet_ended (onlyRegsQuiet_of_regs _ rfl)⟩

theorem does_periodicExport (hknown : s.est0 k = estKnown) (hint : s.reg Reg.EST_EXPINT ≠ 0)
    (hdue : (s.esti k).expSec + 3600 * s.reg Reg.EST_EXPINT ≤ s.reg Reg.JRN_OPSEC) : Does (.capsulePeriodicExport t k) s fun u =>
      (u.esti k).export_ = true ∧ OnlyRegsQuiet [] s u := by
  have hrow : (s.at t).exportDue k.val = true :=
    Bool.and_eq_true_iff.mpr ⟨Bool.and_eq_true_iff.mpr ⟨beq_iff_eq.mpr hknown, bne_iff_ne.mpr hint⟩, decide_eq_true hdue⟩
  refine does_of_effect hp (exec_capsulePeriodicExport t s k) (if_pos hrow) ⟨?_, onlyRegsQuiet_ended (onlyRegsQuiet_of_regs _ rfl)⟩
  rw [ended_esti]
  exact congrArg EstSt.export_ (esti_setEsti_same _ _ _ k.isLt)

theorem does_periodicExport_idle (hearly : s.reg Reg.JRN_OPSEC < (s.esti k).expSec + 3600 * s.reg Reg.EST_EXPINT) :
    Does (.capsulePeriodicExport t k) s fun u => u.ests = s.ests ∧ OnlyRegsQuiet [] s u := by
  refine does_of_effect hp (exec_capsulePeriodicExport t s k) (if_neg fun h => ?_)
    ⟨ended_ests _ _ _, onlyRegsQuiet_ended (onlyRegsQuiet_of_regs _ rfl)⟩
  exact Nat.not_le.mpr hearly (of_decide_eq_true (Bool.and_eq_true_iff.mp h).2)

end

/-! The correction of a rest (R252). -/

/-- The estimate corrected at a rest, taken over. -/
def restNoted (k : Nat) (now : Nat) (e e' : EstSt) (s : State) : State :=
  if 1 / 100 ≤ e.u - e'.u then (s.setEsti k { e' with restAt := some now }).learning k else s.setEsti k { e' with restAt := some now }

/-- What the OCV may be off by. -/
def ocvHalf (k : Nat) (s : State) : Rat := ((if s.lithium k then s.reg Reg.EST_OCVU_L else s.reg Reg.EST_OCVU_N : Nat) : Rat) / 10000

/-- The ends of what the estimate and the OCV agree on. -/
def restLo (k : Nat) (s : State) : Rat := max ((s.esti k).soc - (s.esti k).u) (s.socOcv k - ocvHalf k s)
def restHi (k : Nat) (s : State) : Rat := min ((s.esti k).soc + (s.esti k).u) (s.socOcv k + ocvHalf k s)

/-- The estimate where the two intervals meet, and where they do not. -/
def restMet (k : Nat) (s : State) : EstSt :=
  { s.esti k with soc := clampRat 0 1 ((restLo k s + restHi k s) / 2), u := min s.uMax ((restHi k s - restLo k s) / 2) }
def restApart (k : Nat) (s : State) : EstSt := { s.esti k with soc := clampRat 0 1 (s.socOcv k), u := min s.uMax (ocvHalf k s) }

/-- The outcome of a rest: the state and the estimate. -/
def restOutcome (k : Nat) (s : State) : State × EstSt :=
  if restLo k s ≤ restHi k s then (s, restMet k s) else (s.inconsistent k 0, restApart k s)

theorem restCorrect_wide {s : State} {k : Nat} (hwide : 5 / 100 < ocvHalf k s) :
    s.restCorrect k = (restNoted k s.now (s.esti k) (restOutcome k s).2 (restOutcome k s).1).estPublish k := by
  unfold restOutcome restMet restApart restNoted restLo restHi
  unfold State.restCorrect
  have hhalf : ((if s.lithium k then s.reg Reg.EST_OCVU_L else s.reg Reg.EST_OCVU_N : Nat) : Rat) / 10000 = ocvHalf k s := rfl
  dsimp only
  rw [hhalf]
  generalize ocvHalf k s = uo at *
  rw [if_neg (not_le.mpr hwide)]

theorem restNoted_facts {k : Nat} (hk : k < 8) (now : Nat) (e e' : EstSt) (s : State) :
    ((restNoted k now e e' s).esti k).soc = e'.soc ∧ ((restNoted k now e e' s).esti k).u = e'.u ∧
    ((restNoted k now e e' s).esti k).restAt = some now ∧ Frame 0x40000000 0 s (restNoted k now e e' s) := by
  have hset := frame_setEsti (Frame.refl 0x40000000 0 s) k { e' with restAt := some now } (by decide) (by decide)
  unfold restNoted
  split
  · unfold State.learning
    dsimp only
    rw [esti_setEsti_same _ _ _ hk, esti_setEsti_same _ _ _ hk]
    exact ⟨rfl, rfl, rfl, frame_setEsti hset _ _ (by decide) (by decide)⟩
  · rw [esti_setEsti_same _ _ _ hk]
    exact ⟨rfl, rfl, rfl, hset⟩

theorem estShow_esti (s : State) (k j : Nat) : (s.estShow k).esti j = s.esti j :=
  esti_of_ests ((frame_estShow (Frame.refl 0 0x10000000 s) k (by decide) (by decide)).f_ests (by decide)) j

theorem estPublish_facts {k : Nat} (hk : k < 8) (s : State) :
    ((s.estPublish k).esti k).soc = (s.esti k).soc ∧ ((s.estPublish k).esti k).u = (s.esti k).u ∧
    ((s.estPublish k).esti k).restAt = (s.esti k).restAt := by
  unfold State.estPublish
  dsimp only
  rw [estShow_esti, esti_setEsti_same _ _ _ hk]
  exact ⟨rfl, rfl, rfl⟩

theorem estPublish_flag (s : State) (k : Nat) : (s.estPublish k).reg Reg.EST_FLAGS_INCONS = s.reg Reg.EST_FLAGS_INCONS := by
  unfold State.estPublish State.estShow
  dsimp only
  simp (disch := decide) only [State.putAtSat, reg_putAt_other, setEsti_reg]

theorem rest_facts {s : State} {k : Nat} (hk : k < 8) (hwide : 5 / 100 < ocvHalf k s) :
    ((s.restCorrect k).esti k).soc = (restOutcome k s).2.soc ∧ ((s.restCorrect k).esti k).u = (restOutcome k s).2.u ∧
    ((s.restCorrect k).esti k).restAt = some s.now := by
  obtain ⟨hsoc, hu, hat, -⟩ := restNoted_facts hk s.now (s.esti k) (restOutcome k s).2 (restOutcome k s).1
  rw [restCorrect_wide hwide]
  obtain ⟨psoc, pu, pat⟩ := estPublish_facts hk (restNoted k s.now (s.esti k) (restOutcome k s).2 (restOutcome k s).1)
  exact ⟨psoc.trans hsoc, pu.trans hu, pat.trans hat⟩

/-- A rest whose intervals do not meet is told. -/
theorem rest_apart {s z : State} {k : Nat} (hapart : restHi k z < restLo k z) (hwide : 5 / 100 < ocvHalf k z)
    (hsup : z.core.sup = s.core.sup) (hsn : z.reg Reg.REC_SNSEV = s.reg Reg.REC_SNSEV) (hk : k < 8) :
    (z.restCorrect k).reg Reg.EST_FLAGS_INCONS = 1 ∧ Raised 0x3155 3 k 0 s (z.restCorrect k) := by
  have hout : (restOutcome k z).1 = z.inconsistent k 0 := congrArg Prod.fst (if_neg (not_le.mpr hapart))
  obtain ⟨-, -, -, hframe⟩ := restNoted_facts hk z.now (z.esti k) (restOutcome k z).2 (z.inconsistent k 0)
  have hflag : (z.inconsistent k 0).reg Reg.EST_FLAGS_INCONS = 1 :=
    (raise_reg _ _ _ _ _ _ (by decide) _ (by decide)).trans (reg_put_same z _ _)
  have hraised : Raised 0x3155 3 k 0 s (z.inconsistent k 0) :=
    raised_now (by decide) hsup ((reg_put_other z _ _ _ (by decide)).trans hsn)
  rw [restCorrect_wide hwide, hout]
  refine ⟨(estPublish_flag _ _).trans ((hframe.f_regs _ 0 (by decide)).trans hflag), ?_⟩
  exact raised_of_frame (raised_of_frame hraised hframe (by decide) (by decide) (by decide))
    (frame_estPublish (Frame.refl 0x40000000 0x10000000 _) k (by decide) (by decide)) (by decide) (by decide) (by decide)

section
variable {t : Edges} {s : State} (hp : s.core.powered = true) (k : Str)
include hp

theorem does_restCorrection {a : Nat} (hlow : (s.esti k).lowAt = some a) (hfresh : (s.esti k).restAt = none)
    (hdue : a + s.reg Reg.EST_RESTT * edgeSec ≤ max s.now t) (hpres : s.est0 k ≠ estAbsent)
    (hsmall : (s.esti k).vf + (s.esti k).vl < s.cells k) (hsag : s.sagOpen k = false) (hcharge : chargingSt (s.cst k) = false)
    (hruns : s.estRuns = true) {P : State → Prop} (h : P (ended t s fun _ => (s.at t).restCorrect k)) : Does (.restCorrection t k) s P := by
  have hran : (s.at t).ran (some a) ((s.at t).reg Reg.EST_RESTT * edgeSec) = true := decide_eq_true hdue
  have hrest : (s.at t).resting k.val = true := by
    have hle : (s.at t).est0 k.val ≠ estAbsent := hpres
    have hv : ((s.at t).esti k.val).vf + ((s.at t).esti k.val).vl < (s.at t).cells k.val := hsmall
    have hsag' : (s.at t).sagOpen k.val = false := hsag
    have hcharge' : chargingSt ((s.at t).cst k.val) = false := hcharge
    unfold State.resting
    dsimp only
    rw [show ((s.at t).esti k.val).lowAt = some a from hlow, show ((s.at t).esti k.val).restAt = none from hfresh]
    dsimp only
    rw [hran, decide_eq_true hv, hsag', hcharge', bne_iff_ne.mpr hle]
    rfl
  exact does_of_effect hp (exec_restCorrection t s k) (if_pos ⟨hrest, hruns⟩) h

theorem does_restCorrection_off (hoff : s.estRuns = false) : Does (.restCorrection t k) s fun u => u.ests = s.ests ∧ OnlyRegsQuiet [] s u :=
  does_of_effect hp (exec_restCorrection t s k) (if_neg fun h => Bool.false_ne_true (hoff.symm.trans h.2))
    ⟨ended_ests _ _ _, onlyRegsQuiet_ended (onlyRegsQuiet_of_regs _ rfl)⟩

end

/-- Settles O42: a run of the estimator leaves the hibernation and its instants, and a rest is one of two outcomes taken over. -/
theorem estimatorStates : Obligations.EstimatorStates := by
  intro t k s hp
  refine ⟨does_naiveTimeout hp k, does_naiveTimeout_idle hp k, ?_, does_restCorrection_off hp k,
    fun q hq => ⟨fun hdue hpage => does_hibernate hp hq hdue hpage, fun h => does_hibernate_idle hp hq h⟩,
    fun hhib by' => does_wake hp hhib by', fun hawake => does_wake_idle hp hawake,
    fun hknown hint => ⟨fun hdue => does_periodicExport hp k hknown hint hdue, fun hearly => does_periodicExport_idle hp k hearly⟩⟩
  intro a hlow hfresh hdue hpres hsmall hsag hcharge hruns uo lo hi
  refine ⟨fun hmeet hwide => does_restCorrection hp k hlow hfresh hdue hpres hsmall hsag hcharge hruns ?_,
    fun hapart hwide => does_restCorrection hp k hlow hfresh hdue hpres hsmall hsag hcharge hruns ?_⟩
  · obtain ⟨hsoc, hu, hat⟩ := rest_facts (s := s.at t) k.isLt hwide
    have hout : (restOutcome k (s.at t)).2 = restMet k (s.at t) := congrArg Prod.snd (if_pos hmeet)
    rw [hout] at hsoc hu
    rw [ended_esti]
    exact ⟨hsoc, hu, hat⟩
  · obtain ⟨hsoc, hu, -⟩ := rest_facts (s := s.at t) k.isLt hwide
    have hout : (restOutcome k (s.at t)).2 = restApart k (s.at t) := congrArg Prod.snd (if_neg (not_le.mpr hapart))
    rw [hout] at hsoc hu
    obtain ⟨hflag, hraised⟩ := rest_apart (s := s) (z := s.at t) hapart hwide rfl rfl k.isLt
    rw [ended_esti, ended_reg]
    exact ⟨hsoc, hu, hflag, raised_ended hraised⟩

end Sys2Proof.EstimatorRests

namespace Sys2Proof.BayLosses

open Sys2Proof Sys2Proof.Machine Sys2Proof.Laws Sys2Proof.LoadSteps Sys2Proof.Readings Sys2Proof.BayPhases Sys2Proof.PhaseTrims

/-! What an operation on another bay leaves of a bay (R138-R150). -/

/-- The registers of a bay that its loss is told by. -/
def bayRegs : List Field := [Reg.SHR_BAYST, Reg.SHR_W, Reg.PH_N, Reg.PH_COND]

/-- The registers of one bay, and the count of lost bays. -/
def lossRegs : List Field := [Reg.PH_PSTAT_STATE, Reg.SHR_LOSTCNT] ++ bayRegs

/-- The record of a bay, its registers, the states of its phases and the count of lost bays stay. -/
structure BayLeft (b : Nat) (s u : State) : Prop where
  bay : u.bay b = s.bay b
  regs : ∀ f ∈ bayRegs, u.regAt f b = s.regAt f b
  pst : ∀ n ∈ phaseIds b, u.pst n = s.pst n
  count : u.reg Reg.SHR_LOSTCNT = s.reg Reg.SHR_LOSTCNT

/-- Different instances are different places, whatever the fields. -/
theorem key_ne_of_place_inst {f g : Field} {i j : Nat} (hi : i < 65536) (hj : j < 65536) (h : i ≠ j) : f.key i ≠ g.key j := by
  unfold Field.key
  omega

theorem phaseIds_div {b n : Nat} (h : n ∈ phaseIds b) : n / 6 = b := by
  obtain ⟨k, hk, rfl⟩ := List.mem_map.mp h
  have := List.mem_range.mp hk
  omega

namespace BayLeft

variable {b : Nat} {s u : State}

theorem refl (s : State) : BayLeft b s s := ⟨rfl, fun _ _ => rfl, fun _ _ => rfl, rfl⟩

theorem trans {v : State} (h : BayLeft b s u) (k : BayLeft b u v) : BayLeft b s v :=
  ⟨k.bay.trans h.bay, fun f hf => (k.regs f hf).trans (h.regs f hf), fun n hn => (k.pst n hn).trans (h.pst n hn), k.count.trans h.count⟩

theorem ite {p : Prop} [Decidable p] {v : State} (hu : BayLeft b s u) (hv : BayLeft b s v) : BayLeft b s (if p then u else v) := by
  by_cases h : p
  · rw [if_pos h]; exact hu
  · rw [if_neg h]; exact hv

theorem bst (h : BayLeft b s u) : u.bst b = s.bst b := h.regs Reg.SHR_BAYST (by decide)

/-- An operation that leaves the bays' records and the registers. -/
theorem of_eq (hb : u.bays = s.bays) (hr : u.regs = s.regs) : BayLeft b s u := by
  have hreg : ∀ f i, u.regAt f i = s.regAt f i := fun f i => by unfold State.regAt; rw [hr]
  exact ⟨bay_of_bays hb b, fun f _ => hreg f b, fun n _ => hreg _ n, hreg _ 0⟩

/-- An operation whose frame holds neither the bays' records nor the pages of the registers. -/
theorem of_frame {P G : Nat} (h : Frame P G s u) (hb : P.testBit 23 = false) (hG : ∀ f ∈ lossRegs, G.testBit f.onPage = false) :
    BayLeft b s u :=
  ⟨bay_of_bays (h.f_bays hb) b, fun f hf => h.f_regs f b (hG f (List.mem_append_right _ hf)),
    fun n _ => h.f_regs _ n (hG Reg.PH_PSTAT_STATE (by decide)), h.f_regs _ 0 (hG Reg.SHR_LOSTCNT (by decide))⟩

/-- A register that is none of them. -/
theorem putAt_else (s : State) {f : Field} (hf : f.place ∉ lossRegs.map Field.place) (i v : Nat) : BayLeft b s (s.putAt f i v) := by
  have hne : ∀ g ∈ lossRegs, g.place ≠ f.place := fun g hg e => hf (by rw [← e]; exact List.mem_map_of_mem hg)
  exact ⟨rfl, fun g hg => regAt_putAt_other _ _ _ _ _ _ (hne g (List.mem_append_right _ hg)),
    fun n _ => regAt_putAt_other _ _ _ _ _ _ (hne _ (by decide)), reg_putAt_other _ _ _ _ _ (hne _ (by decide))⟩

/-- A register of another bay. -/
theorem putAt_bay (s : State) {f : Field} (hp : Field.place Reg.PH_PSTAT_STATE ≠ f.place) (hc : Field.place Reg.SHR_LOSTCNT ≠ f.place)
    {j : Nat} (hb : b < 8) (hj : j < 8) (hne : j ≠ b) (v : Nat) : BayLeft b s (s.putAt f j v) :=
  ⟨rfl, fun g _ => by
    by_cases e : g.place = f.place
    · exact fieldGet_fieldPut_other _ _ _ _ _ _ (key_ne_of_place_inst (Nat.lt_trans hb (by norm_num)) (Nat.lt_trans hj (by norm_num)) hne.symm)
    · exact regAt_putAt_other _ _ _ _ _ _ e,
    fun _ _ => regAt_putAt_other _ _ _ _ _ _ hp, reg_putAt_other _ _ _ _ _ hc⟩

/-- The state of a phase of another bay. -/
theorem putAt_pst (s : State) {n : Nat} (hb : b < 8) (hn : n < 48) (hne : n / 6 ≠ b) (v : Nat) :
    BayLeft b s (s.putAt Reg.PH_PSTAT_STATE n v) := by
  refine ⟨rfl, fun f hf => regAt_putAt_other _ _ _ _ _ _ ?_, fun m hm => ?_, reg_putAt_other _ _ _ _ _ (by decide)⟩
  · revert f
    decide
  · have hm6 := phaseIds_div hm
    have hlt : m < 48 := by omega
    exact regAt_putAt_inst _ _ _ _ _ (by omega) (by omega) fun e => hne (by rw [← e]; exact hm6)

theorem setBay (s : State) {j : Nat} (hne : j ≠ b) (v : BaySt) : BayLeft b s (s.setBay j v) :=
  ⟨bay_setBay_other _ _ _ _ hne.symm, fun _ _ => rfl, fun _ _ => rfl, rfl⟩

theorem raise (s : State) (code : Nat) {sev : Nat} (h : sev < 6) (unit p0 p1 : Nat) : BayLeft b s (s.raise code sev unit p0 p1) :=
  of_frame (frame_raise_low (Frame.refl 0x1040 0xc000000020 s) code sev unit p0 p1 h (by decide) (by decide)) (by decide) (by decide)

end BayLeft

theorem left_setPst {b : Nat} (hb : b < 8) {n : Nat} (hn : n < 48) (hne : n / 6 ≠ b) (s : State) (st : Nat) : BayLeft b s (s.setPst n st) := by
  have hput := BayLeft.trans (s := s) (u := s.setPh n { s.ph n with rank := s.sup.rank }) (.of_eq rfl rfl) (.putAt_pst _ hb hn hne st)
  exact hput.trans (.of_eq rfl rfl)

section
variable {b : Nat} (hb : b < 8) {j : Nat} (hj : j < 8) (hne : j ≠ b)
include hb hj hne

theorem left_setBst (s : State) (st : Nat) : BayLeft b s (s.setBst j st) :=
  ((BayLeft.setBay s hne _).trans (.putAt_bay _ (by decide) (by decide) hb hj hne _)).trans (.putAt_else _ (by decide) 0 _)

theorem left_shareRefresh (s : State) : BayLeft b s (s.shareRefresh j) :=
  (BayLeft.putAt_bay s (by decide) (by decide) hb hj hne _).trans (.putAt_bay _ (by decide) (by decide) hb hj hne _)

theorem left_phRefresh (s : State) : BayLeft b s (s.phRefresh j) := by
  rw [phRefresh_eq]
  unfold countNoted phasesShown
  have hmoved : BayLeft b s (countMoved j s) := .setBay s hne _
  refine BayLeft.trans ?_ (.putAt_bay _ (by decide) (by decide) hb hj hne _)
  refine BayLeft.trans ?_ (.putAt_bay _ (by decide) (by decide) hb hj hne _)
  refine BayLeft.trans ?_ (.putAt_bay _ (by decide) (by decide) hb hj hne _)
  refine BayLeft.trans ?_ (.putAt_bay _ (by decide) (by decide) hb hj hne _)
  exact .ite (.refl s) (.ite (hmoved.trans (.putAt_bay _ (by decide) (by decide) hb hj hne _)) hmoved)

theorem left_leap (s : State) {n : Nat} (hn : n / 6 = j) (mask : Nat) : BayLeft b s (s.leap n mask) := by
  have hn48 : n < 48 := by omega
  subst hn
  unfold State.leap
  dsimp only
  refine BayLeft.trans ?_ (.raise _ _ (by decide) _ _ _)
  refine BayLeft.trans (BayLeft.trans ?_ (.putAt_bay _ (by decide) (by decide) hb hj hne _)) (.putAt_bay _ (by decide) (by decide) hb hj hne _)
  refine BayLeft.trans ?_ (left_phRefresh hb hj hne _)
  refine BayLeft.trans ?_ (left_setPst hb hn48 hne _ phCond)
  exact BayLeft.trans (u := s.setPh n { s.ph n with bal := 0, first := true, ton := 0, rail := 0 }) (.of_eq rfl rfl)
    (.putAt_else _ (by decide) n 0)

theorem left_bayActivate (s : State) : BayLeft b s (s.bayActivate j) :=
  ((BayLeft.setBay s hne _).trans (left_setBst hb hj hne _ _)).trans (left_shareRefresh hb hj hne _)

theorem left_joined (s : State) : BayLeft b s (s.joined j) := (left_bayActivate hb hj hne s).trans (.raise _ _ (by decide) _ _ _)

theorem left_bayStart (s : State) {n : Nat} (hn : n / 6 = j) (full : Bool) : BayLeft b s (s.bayStart j n full) := by
  unfold State.bayStart
  dsimp only
  have hstart := fun v => (((BayLeft.setBay s hne v).trans (left_setBst hb hj hne _ bayJoin)).trans (left_leap hb hj hne _ hn 32)).trans
    (left_shareRefresh hb hj hne _)
  exact .ite ((hstart _).trans (left_joined hb hj hne _)) (hstart _)

omit hb hj hne in
theorem lead_div {s : State} {j n : Nat} (h : s.lead j = some n) : n / 6 = j := phaseIds_div (List.mem_of_find?_eq_some h)

theorem left_tryJoin (s : State) : BayLeft b s (s.tryJoin j) := by
  unfold State.tryJoin
  dsimp only
  refine .ite ?_ (.refl s)
  split
  · exact .refl s
  next n hlead => exact left_bayStart hb hj hne s (lead_div hlead) _

omit hb hj hne in
theorem left_closeReq (s : State) (c : Nat) : BayLeft b s (s.closeReq c) :=
  .of_frame (frame_closeReq (Frame.refl 0x1000000 0x100000000 s) c (by decide) (by decide)) (by decide) (by decide)

theorem left_bayReady (s : State) : BayLeft b s (s.bayReady j) := by
  unfold State.bayReady
  dsimp only
  have hset := BayLeft.setBay s hne { s.bay j with okFrom := none }
  exact .ite (.ite (hset.trans (left_tryJoin hb hj hne _))
    (((hset.trans (left_setBst hb hj hne _ _)).trans (left_closeReq _ _)).trans (left_tryJoin hb hj hne _))) (.refl s)

theorem left_toPfc (s : State) : BayLeft b s (s.toPfc j) :=
  ((BayLeft.setBay s hne _).trans (left_setBst hb hj hne _ _)).trans (left_bayReady hb hj hne _)

theorem left_bringIn (s : State) : BayLeft b s (s.bringIn j) := by
  unfold State.bringIn
  dsimp only
  have hset := BayLeft.setBay s hne { s.bay j with pendTrk := false, insAt := s.now }
  refine .ite ?_ (.ite (hset.trans (left_toPfc hb hj hne _)) (.ite (hset.trans (left_bayActivate hb hj hne _)) hset))
  split
  · exact hset
  next n hlead => exact .ite (hset.trans (left_bayStart hb hj hne _ (lead_div hlead) true)) hset

end

theorem ranked_lt {s : State} {i : Rat} {p : Nat → Bool} {j : Nat} (h : (s.ranked i).find? p = some j) : j < 8 ∧ p j = true := by
  have hmem : j ∈ s.ranked i := List.mem_of_find?_eq_some h
  have hids : j ∈ bayIds.filter s.avail := (List.mergeSort_perm _ _).mem_iff.mp hmem
  exact ⟨List.mem_range.mp (List.mem_filter.mp hids).1, List.find?_some h⟩

theorem left_reserveShort (b : Nat) (s : State) : BayLeft b s s.reserveShort :=
  .of_frame (frame_reserveShort (Frame.refl 0x1044 0xc000200020 s) (by decide) (by decide)) (by decide) (by decide)

/-- Reserves are restored by bays in STANDBY or DEEP alone. -/
theorem left_bringUntil {b : Nat} (hb : b < 8) (k : Nat) {s : State} (hsby : s.bst b ≠ bayStandby) (hdeep : s.bst b ≠ bayDeep) :
    BayLeft b s (s.bringUntil k) := by
  induction k generalizing s with
  | zero => exact .refl s
  | succ k ih =>
    unfold State.bringUntil
    dsimp only
    refine .ite (.refl s) ?_
    split
    · exact left_reserveShort b s
    next j hfind =>
      obtain ⟨hj, hst⟩ := ranked_lt hfind
      have hne : j ≠ b := fun e => by
        rw [e, Bool.or_eq_true] at hst
        exact hst.elim (fun h => hsby (beq_iff_eq.mp h)) fun h => hdeep (beq_iff_eq.mp h)
      have hstep := left_bringIn hb hj hne s
      exact hstep.trans (ih (by rw [hstep.bst]; exact hsby) (by rw [hstep.bst]; exact hdeep))

theorem left_restoreReserves {b : Nat} (hb : b < 8) {s : State} (hsby : s.bst b ≠ bayStandby) (hdeep : s.bst b ≠ bayDeep) :
    BayLeft b s s.restoreReserves := .ite (left_bringUntil hb 9 hsby hdeep) (.refl s)

/-! A bay's own way out: its phases low and its record out of sharing. -/

/-- What of a bay's record its loss is told by. -/
def shareRec (y : BaySt) : Rat × Rat × Bool × Bool := (y.w, y.t, y.ok, y.accepted)

/-- The weights, trims, supplies and presences of the bays stay. -/
def SameShare (s u : State) : Prop := ∀ b, shareRec (u.bay b) = shareRec (s.bay b)

namespace SameShare

variable {s u : State}

theorem trans {v : State} (h : SameShare s u) (k : SameShare u v) : SameShare s v := fun b => (k b).trans (h b)

theorem of_bays (h : u.bays = s.bays) : SameShare s u := fun b => by rw [bay_of_bays h b]

theorem of_same (h : SameBays s u) : SameShare s u := fun b => h.part shareRec (fun _ _ => rfl) b

theorem setBay (s : State) (b : Nat) (v : BaySt) (hv : shareRec v = shareRec (s.bay b)) : SameShare s (s.setBay b v) := fun j => by
  by_cases hj : j = b
  · subst hj
    by_cases h8 : j < 8
    · rw [bay_setBay_same _ _ _ h8, hv]
    · have hout : ∀ z : State, z.bay j = BaySt.reset := fun z => dif_neg h8
      rw [hout, hout]
  · rw [bay_setBay_other _ _ _ _ hj]

theorem facts (h : SameShare s u) (b : Nat) : (u.bay b).w = (s.bay b).w ∧ (u.bay b).t = (s.bay b).t ∧ (u.bay b).ok = (s.bay b).ok ∧
    (u.bay b).accepted = (s.bay b).accepted :=
  ⟨congrArg (·.1) (h b), congrArg (·.2.1) (h b), congrArg (·.2.2.1) (h b), congrArg (·.2.2.2) (h b)⟩

end SameShare

theorem bays_foldl {α : Type} {f : State → α → State} (h : ∀ s a, (f s a).bays = s.bays) (l : List α) (s : State) :
    (l.foldl f s).bays = s.bays := by
  induction l generalizing s with
  | nil => rfl
  | cons a l ih => exact (ih _).trans (h s a)

theorem toWarm_bays (s : State) (n : Nat) : (s.toWarm n).bays = s.bays :=
  (frame_toWarm (Frame.refl 0x2400000 0x20000 s) n (by decide) (by decide)).f_bays (by decide)

theorem openReq_bays (s : State) (c : Nat) : (s.openReq c).bays = s.bays :=
  (frame_openReq (Frame.refl 0x1000000 0x100000000 s) c (by decide) (by decide)).f_bays (by decide)

/-- The victims of a shed back in COND. -/
def victimsBack (b : Nat) (s : State) : State :=
  (phaseIds b).foldl (fun s n => if s.pst n = phPend ∨ s.pst n = phRamp then s.putAt Reg.PH_PSTAT_STATE n phCond else s) s

theorem clearShed_eq (s : State) (b : Nat) : s.clearShed b =
    (victimsBack b (s.setBay b { s.bay b with ramp := none, abandon := none })).putAt Reg.PH_SHEDST b 0 := rfl

theorem share_clearShed (s : State) (b : Nat) : SameShare s (s.clearShed b) := by
  rw [clearShed_eq]
  refine SameShare.trans (.setBay s b { s.bay b with ramp := none, abandon := none } rfl) (.of_bays ((putAt_bays _ _ _ _).trans (bays_foldl (fun s n => ?_) _ _)))
  split <;> rfl

theorem share_allWarm (s : State) (b : Nat) : SameShare s (s.allWarm b) :=
  ((share_clearShed s b).trans (.of_bays (bays_foldl toWarm_bays _ _))).trans (.of_same (phRefresh_bays _ _))

theorem share_setBst (s : State) (b st : Nat) : SameShare s (s.setBst b st) := by
  unfold State.setBst
  dsimp only
  refine SameShare.trans (.setBay s b _ ?_) (.of_bays rfl)
  split <;> split <;> rfl

/-! The phases. -/

theorem setPst_pst_other (s : State) {m n : Nat} (hm : m < 48) (hn : n < 48) (hne : m ≠ n) (st : Nat) : (s.setPst n st).pst m = s.pst m :=
  regAt_putAt_inst (s.setPh n { s.ph n with rank := s.sup.rank }) _ _ _ _ (Nat.lt_trans hn (by norm_num)) (Nat.lt_trans hm (by norm_num)) hne

theorem toWarm_pst_other (s : State) {m n : Nat} (hm : m < 48) (hn : n < 48) (hne : m ≠ n) : (s.toWarm n).pst m = s.pst m := by
  have hpst : ∀ (z : State) (f : Field), Field.place Reg.PH_PSTAT_STATE ≠ f.place → ∀ i v, (z.putAt f i v).pst m = z.pst m :=
    fun z f hf i v => regAt_putAt_other _ _ _ _ _ _ hf
  unfold State.toWarm State.toNew
  split
  · rw [setPst_pst_other _ hm hn hne, hpst _ _ (by decide), hpst _ _ (by decide), hpst _ _ (by decide)]
    rfl
  · rw [setPst_pst_other _ hm hn hne, hpst _ _ (by decide), hpst _ _ (by decide)]
    rfl

theorem conducts_of_pst {s u : State} {n : Nat} (h : u.pst n = s.pst n) : u.conducts n = s.conducts n := by
  unfold State.conducts
  rw [h]

theorem toWarm_conducts (s : State) (n : Nat) : (s.toWarm n).conducts n = false := by
  have hpst : (s.toWarm n).pst n = phWarm ∨ (s.toWarm n).pst n = phNew := by
    cases hd : (s.ph n).discard with
    | false => exact .inl (toWarm_pst hd)
    | true =>
      have hnew : s.toWarm n = s.toNew n := if_pos hd
      rw [hnew]
      exact .inr (toNew_pst s n)
  unfold State.conducts
  obtain h | h := hpst <;> rw [h] <;> rfl

/-- Phases sent to WARM one after another conduct no more. -/
theorem foldl_toWarm_conducts {l : List Nat} (hl : ∀ n ∈ l, n < 48) {m : Nat} (hm : m < 48) {s : State} (h : m ∈ l ∨ s.conducts m = false) :
    (l.foldl State.toWarm s).conducts m = false := by
  induction l generalizing s with
  | nil => exact h.resolve_left List.not_mem_nil
  | cons n l ih =>
    refine ih (fun k hk => hl k (List.mem_cons_of_mem _ hk)) ?_
    by_cases hmn : m = n
    · subst hmn
      exact .inr (toWarm_conducts s m)
    · refine h.imp (fun hmem => (List.mem_cons.mp hmem).resolve_left hmn) fun hoff => ?_
      exact (conducts_of_pst (toWarm_pst_other s hm (hl n List.mem_cons_self) hmn)).trans hoff

theorem phaseIds_lt {b : Nat} (hb : b < 8) {n : Nat} (h : n ∈ phaseIds b) : n < 48 := by
  have := phaseIds_div h
  omega

/-- No phase of the bay conducts. -/
def NoneConducts (b : Nat) (s : State) : Prop := ∀ n ∈ phaseIds b, s.conducts n = false

theorem NoneConducts.of_pst {b : Nat} {s u : State} (h : NoneConducts b s) (hp : ∀ n ∈ phaseIds b, u.pst n = s.pst n) : NoneConducts b u :=
  fun n hn => (conducts_of_pst (hp n hn)).trans (h n hn)

theorem conds_nil {b : Nat} {s : State} (h : NoneConducts b s) : s.conds b = [] :=
  List.filter_eq_nil_iff.mpr fun n hn => by rw [h n hn]; exact Bool.false_ne_true

theorem phaseMask_zero {b : Nat} {p : Nat → Bool} (h : ∀ n ∈ phaseIds b, p n = false) : phaseMask b p = 0 := by
  refine Nat.eq_of_testBit_eq fun k => ?_
  rw [Nat.zero_testBit]
  by_cases hk : k < 6
  · exact (bitOf_phaseMask b p hk).trans (h _ (List.mem_map_of_mem (List.mem_range.mpr hk)))
  · exact Nat.testBit_lt_two_pow (Nat.lt_of_lt_of_le (phaseMask_lt b p) (Nat.pow_le_pow_right (n := 2) (by decide) (Nat.not_lt.mp hk)))

theorem countNoted_pst (b : Nat) (s : State) (n : Nat) : (countNoted b s).pst n = s.pst n := by
  unfold countNoted
  split
  · rfl
  · split
    · exact regAt_putAt_other (countMoved b s) _ _ _ _ _ (by decide)
    · rfl

/-- A bay none of whose phases conducts shows none. -/
theorem phRefresh_none {b : Nat} {s : State} (h : NoneConducts b s) :
    (s.phRefresh b).regAt Reg.PH_N b = 0 ∧ (s.phRefresh b).regAt Reg.PH_COND b = 0 := by
  rw [phRefresh_eq, conds_nil h]
  unfold phasesShown
  dsimp only
  refine ⟨?_, ?_⟩
  · rw [regAt_putAt_other _ _ _ _ _ _ (by decide), regAt_putAt_other _ _ _ _ _ _ (by decide), regAt_putAt_other _ _ _ _ _ _ (by decide),
      regAt_putAt_same]
    rfl
  · rw [regAt_putAt_other _ _ _ _ _ _ (by decide), regAt_putAt_other _ _ _ _ _ _ (by decide), regAt_putAt_same]
    rw [phaseMask_zero (h.of_pst fun n _ => ?_)]
    · rfl
    · exact countNoted_pst b s n

theorem allWarm_none {b : Nat} (hb : b < 8) (s : State) : NoneConducts b (s.allWarm b) ∧
    (s.allWarm b).regAt Reg.PH_N b = 0 ∧ (s.allWarm b).regAt Reg.PH_COND b = 0 := by
  have hoff : NoneConducts b (((s.clearShed b).conds b).foldl State.toWarm (s.clearShed b)) := fun n hn => by
    refine foldl_toWarm_conducts (fun m hm => phaseIds_lt hb (List.mem_of_mem_filter hm)) (phaseIds_lt hb hn) ?_
    cases hc : (s.clearShed b).conducts n with
    | false => exact .inr rfl
    | true => exact .inl (List.mem_filter.mpr ⟨hn, hc⟩)
  exact ⟨hoff.of_pst fun n _ => phRefresh_pst _ _ _, phRefresh_none hoff⟩

/-- The phases of a bay made ABSENT. -/
def phasesAbsent (b : Nat) (s : State) : State := (phaseIds b).foldl (fun s n => s.putAt Reg.PH_PSTAT_STATE n phAbsent) s

theorem allAbsent_eq (s : State) (b : Nat) : s.allAbsent b = (phasesAbsent b (s.allWarm b)).phRefresh b := rfl

theorem foldl_absent {l : List Nat} (hl : ∀ n ∈ l, n < 48) {m : Nat} (hm : m < 48) {s : State} (h : m ∈ l ∨ s.pst m = phAbsent) :
    (l.foldl (fun s n => s.putAt Reg.PH_PSTAT_STATE n phAbsent) s).pst m = phAbsent := by
  induction l generalizing s with
  | nil => exact h.resolve_left List.not_mem_nil
  | cons n l ih =>
    refine ih (fun k hk => hl k (List.mem_cons_of_mem _ hk)) ?_
    by_cases hmn : m = n
    · subst hmn
      exact .inr (regAt_putAt_same _ _ _ _)
    · refine h.imp (fun hmem => (List.mem_cons.mp hmem).resolve_left hmn) fun hoff => ?_
      exact (regAt_putAt_inst _ _ _ _ _ (Nat.lt_trans (hl n List.mem_cons_self) (by norm_num)) (Nat.lt_trans hm (by norm_num)) hmn).trans hoff

theorem phasesAbsent_pst {b : Nat} (hb : b < 8) (s : State) : ∀ n ∈ phaseIds b, (phasesAbsent b s).pst n = phAbsent :=
  fun _ hn => foldl_absent (fun _ hm => phaseIds_lt hb hm) (phaseIds_lt hb hn) (.inl hn)

theorem phasesAbsent_bays (b : Nat) (s : State) : (phasesAbsent b s).bays = s.bays :=
  bays_foldl (f := fun s n => s.putAt Reg.PH_PSTAT_STATE n phAbsent) (fun _ _ => rfl) _ _

theorem allAbsent_facts {b : Nat} (hb : b < 8) (s : State) : (∀ n ∈ phaseIds b, (s.allAbsent b).pst n = phAbsent) ∧
    (s.allAbsent b).regAt Reg.PH_N b = 0 ∧ (s.allAbsent b).regAt Reg.PH_COND b = 0 ∧ SameShare s (s.allAbsent b) := by
  have habs := phasesAbsent_pst hb (s.allWarm b)
  have hoff : NoneConducts b (phasesAbsent b (s.allWarm b)) := fun n hn => by
    unfold State.conducts
    rw [habs n hn]
    rfl
  rw [allAbsent_eq]
  exact ⟨fun n hn => (phRefresh_pst _ _ _).trans (habs n hn), (phRefresh_none hoff).1, (phRefresh_none hoff).2,
    ((share_allWarm s b).trans (.of_bays (phasesAbsent_bays _ _))).trans (.of_same (phRefresh_bays _ _))⟩

/-! The records and registers of a bay on its way out. -/

theorem shareRefresh_zero {b : Nat} {s : State} (hw : (s.bay b).w = 0) : (s.shareRefresh b).regAt Reg.SHR_W b = 0 := by
  unfold State.shareRefresh
  dsimp only
  rw [hw, zero_mul, sputAt_eq, regAt_putAt_other _ _ _ _ _ _ (by decide)]
  exact regAt_putAt_same _ _ _ _

/-- A bay's record out of sharing. -/
def unshared (b : Nat) (s : State) : State :=
  s.setBay b { s.bay b with w := 0, t := 0, c := 0, trimN := 0, zeroAt := none, pendTrk := false }

theorem outOfShare_eq (s : State) (b : Nat) : s.outOfShare b = (unshared b s).shareRefresh b := rfl

theorem shareRefresh_bay (s : State) (b j : Nat) : (s.shareRefresh b).bay j = s.bay j :=
  bay_of_bays ((frame_shareRefresh (Frame.refl 0 0x100000 s) b (by decide) (by decide)).f_bays (by decide)) j

theorem outOfShare_facts {b : Nat} (hb : b < 8) (s : State) : ((s.outOfShare b).bay b).w = 0 ∧ ((s.outOfShare b).bay b).t = 0 ∧
    ((s.outOfShare b).bay b).ok = (s.bay b).ok ∧ ((s.outOfShare b).bay b).accepted = (s.bay b).accepted ∧
    (s.outOfShare b).regAt Reg.SHR_W b = 0 := by
  have hrec : (unshared b s).bay b = { s.bay b with w := 0, t := 0, c := 0, trimN := 0, zeroAt := none, pendTrk := false } :=
    bay_setBay_same _ _ _ hb
  have hzero := shareRefresh_zero (b := b) (s := unshared b s) (by rw [hrec])
  rw [outOfShare_eq, shareRefresh_bay, hrec]
  exact ⟨rfl, rfl, rfl, rfl, hzero⟩

/-- What a bay's stop cancels. -/
def stopNoted (b : Nat) (s : State) : State :=
  s.setBay b { s.bay b with strip := false, okFrom := none, pendTrk := false, pendEj := false, leaveEj := false }

theorem bayStop_eq (s : State) (b : Nat) : s.bayStop b = ((stopNoted b s).allWarm b).outOfShare b := rfl

/-- Out of sharing, with no phase conducting. -/
structure Stopped (b : Nat) (s u : State) : Prop where
  w : (u.bay b).w = 0
  t : (u.bay b).t = 0
  ok : (u.bay b).ok = (s.bay b).ok
  accepted : (u.bay b).accepted = (s.bay b).accepted
  share : u.regAt Reg.SHR_W b = 0
  n : u.regAt Reg.PH_N b = 0

theorem Stopped.of_share {b : Nat} {s u v : State} (h : Stopped b s u) (k : SameShare u v)
    (hr : ∀ f ∈ [Reg.SHR_W, Reg.PH_N], v.regAt f b = u.regAt f b) : Stopped b s v := by
  obtain ⟨hw, ht, hok, hacc⟩ := k.facts b
  exact ⟨hw.trans h.w, ht.trans h.t, hok.trans h.ok, hacc.trans h.accepted, (hr _ (by decide)).trans h.share, (hr _ (by decide)).trans h.n⟩

theorem bayStop_stopped {b : Nat} (hb : b < 8) (s : State) : Stopped b s (s.bayStop b) := by
  have hnoted : SameShare s (stopNoted b s) := .setBay s b _ rfl
  obtain ⟨-, -, hok, hacc⟩ := (hnoted.trans (share_allWarm _ b)).facts b
  obtain ⟨hw, ht, hok', hacc', hshare⟩ := outOfShare_facts hb ((stopNoted b s).allWarm b)
  obtain ⟨-, hn, -⟩ := allWarm_none hb (stopNoted b s)
  have hkeep := frame_outOfShare (Frame.refl 0x800000 0x100000 ((stopNoted b s).allWarm b)) b (by decide) (by decide)
  exact ⟨hw, ht, hok'.trans hok, hacc'.trans hacc, hshare, (hkeep.f_regs Reg.PH_N b (by decide)).trans hn⟩

theorem bayStop_openReq {b : Nat} (hb : b < 8) (s : State) : Stopped b s ((s.bayStop b).openReq b) := by
  have hopen := frame_openReq (Frame.refl 0x1000000 0x100000000 (s.bayStop b)) b (by decide) (by decide)
  exact (bayStop_stopped hb s).of_share (.of_bays (openReq_bays _ _)) fun f hf => hopen.f_regs f b (by revert f; decide)

/-- The record of a bay that is gone. -/
def goneNoted (b : Nat) (s : State) : State :=
  s.setBay b { s.bay b with accepted := false, ok := false, enLow := false, released := false, feFault := false }

theorem bayGone_eq (s : State) (b : Nat) : s.bayGone b = ((((goneNoted b s).bayStop b).openReq b).allAbsent b).setBst b bayAbsent := rfl

theorem setBst_reg (s : State) (b st : Nat) {f : Field} (hf : f.place ≠ Field.place Reg.SHR_BAYST) (hg : f.place ≠ Field.place Reg.SHR_FLAGS_BAYCHG)
    (i : Nat) : (s.setBst b st).regAt f i = s.regAt f i :=
  (regAt_put_other _ _ _ _ _ hg).trans (regAt_putAt_other _ _ _ _ _ _ hf)

theorem setBst_bst (s : State) (b st : Nat) : (s.setBst b st).bst b = st % 16 :=
  (regAt_put_other _ _ _ _ _ (by decide)).trans (regAt_putAt_same _ _ _ _)

/-- A bay that is gone (R142). -/
structure Gone (b : Nat) (s u : State) : Prop where
  bst : u.bst b = bayAbsent
  stopped : Stopped b (goneNoted b s) u
  cond : u.regAt Reg.PH_COND b = 0
  pst : ∀ n ∈ phaseIds b, u.pst n = phAbsent

theorem bayGone_gone {b : Nat} (hb : b < 8) (s : State) : Gone b s (s.bayGone b) := by
  obtain ⟨hpst, hn, hcond, hshare⟩ := allAbsent_facts hb (((goneNoted b s).bayStop b).openReq b)
  have habs := frame_allAbsent (Frame.refl 0x2c00000 0x30000 (((goneNoted b s).bayStop b).openReq b)) b (by decide) (by decide)
  have hstop := bayStop_openReq hb (goneNoted b s)
  have hgone : Stopped b (goneNoted b s) ((((goneNoted b s).bayStop b).openReq b).allAbsent b) := by
    refine hstop.of_share hshare fun f hf => ?_
    obtain rfl | hf := List.mem_cons.mp hf
    · exact habs.f_regs _ b (by decide)
    · obtain rfl := List.mem_singleton.mp hf
      exact hn.trans hstop.n.symm
  rw [bayGone_eq]
  generalize (((goneNoted b s).bayStop b).openReq b).allAbsent b = z at *
  have hreg : ∀ f ∈ lossRegs, f ≠ Reg.SHR_BAYST → ∀ i, (z.setBst b bayAbsent).regAt f i = z.regAt f i := fun f hf hne i =>
    setBst_reg z b bayAbsent (by revert f; decide) (by revert f; decide) i
  exact ⟨setBst_bst _ _ _, hgone.of_share (share_setBst _ _ _) fun f hf => hreg f (by revert f; decide) (by revert f; decide) b,
    (hreg _ (by decide) (by decide) b).trans hcond, fun n hn => (hreg _ (by decide) (by decide) n).trans (hpst n hn)⟩

theorem bayGone_count (s : State) (b : Nat) : (s.bayGone b).reg Reg.SHR_LOSTCNT = s.reg Reg.SHR_LOSTCNT := by
  have hstop : ((goneNoted b s).bayStop b).reg Reg.SHR_LOSTCNT = s.reg Reg.SHR_LOSTCNT := by
    rw [bayStop_eq, outOfShare_eq]
    unfold State.shareRefresh
    dsimp only
    rw [sputAt_eq, reg_putAt_other _ _ _ _ _ (by decide)]
    refine (reg_putAt_other _ _ _ _ _ (by decide)).trans ?_
    exact (frame_allWarm (Frame.refl 0x2c00000 0x30000 (stopNoted b (goneNoted b s))) b (by decide) (by decide)).f_regs _ 0 (by decide)
  have hopen := frame_openReq (Frame.refl 0x1000000 0x100000000 ((goneNoted b s).bayStop b)) b (by decide) (by decide)
  have habs := frame_allAbsent (Frame.refl 0x2c00000 0x30000 (((goneNoted b s).bayStop b).openReq b)) b (by decide) (by decide)
  rw [bayGone_eq]
  exact (setBst_reg _ _ _ (by decide) (by decide) 0).trans ((habs.f_regs _ 0 (by decide)).trans ((hopen.f_regs _ 0 (by decide)).trans hstop))

/-! The commands (R142-R144). -/

section
variable (t : Edges) (b : Bay) (s : State)

/-- The fall of a bay's presence noted. -/
def fallNoted (b : Nat) (s : State) : State :=
  s.setBay b { s.bay b with pres := false, debAt := none, lostAt := some s.now,
                            accepted := if s.bst b = bayAbsent then false else (s.bay b).accepted }

theorem presFall_eq (b : Nat) : s.presFall b =
    if (fallNoted b s).bst b = bayEjected then
      ((fallNoted b s).bayGone b).raise 0x1140 0 0x05 b ((fallNoted b s).reg Reg.SHR_EJCNT)
    else fallNoted b s := rfl

theorem exec_bayPresenceChange (level : Bool) : exec (.bayPresenceChange t b level) s = live t s fun s =>
    if (s.bay b.val).pres = level then s else if level then s.presRise b.val else s.presFall b.val := rfl

/-- A bay lost in service: withdrawn, counted and told. -/
def lossTold (b : Nat) (s : State) : State :=
  ((s.bayGone b).bump Reg.SHR_LOSTCNT).raise 0x1141 5 0x05 b (s.bst b + 65536 * (satInt 16 (toUnit ((s.bay b).iTick / 100))))

theorem exec_bayLost : exec (.bayLost t b) s = live t s fun s =>
    if (s.bay b.val).pres = false ∧ s.ran (s.bay b.val).lostAt edgeMs ∧ s.bst b.val ≠ bayAbsent ∧ s.bst b.val ≠ bayEjected then
      (lossTold b.val s).restoreReserves
    else s := rfl

/-- The supply of a bay lost, noted. -/
def supplyOff (b : Nat) (s : State) : State := s.setBay b { s.bay b with ok := false }

theorem exec_bayPfcLost : exec (.bayPfcLost t b) s = live t s fun s =>
    if (supplyOff b.val s).inService b.val || (supplyOff b.val s).bst b.val == bayStandby then
      if (supplyOff b.val s).mode = modeLockout then (supplyOff b.val s).raise 0x1142 4 0x05 b.val ((supplyOff b.val s).bst b.val)
      else if (supplyOff b.val s).mode = modeHoldup then supplyOff b.val s
      else ((supplyOff b.val s).pfcLost b.val).restoreReserves
    else supplyOff b.val s := rfl

end

theorem ended_bst (t : Edges) (s : State) (f : State → State) (b : Nat) : (ended t s f).bst b = (f (s.at t)).bst b := ended_regAt _ _ _ _ _

section
variable {t : Edges} {b : Bay} {s : State} (hp : s.core.powered = true)
include hp

theorem does_presenceFall (hpres : (s.bay b).pres = true) (hst : s.bst b ≠ bayEjected) : Does (.bayPresenceChange t b false) s fun u =>
    (u.bay b).pres = false ∧ (u.bay b).lostAt = some (max s.now t) ∧ (u.bay b).debAt = none ∧ u.bst b = s.bst b ∧ OnlyRegsQuiet [] s u ∧
    (s.bst b = bayAbsent → (u.bay b).accepted = false) := by
  have hbay : (fallNoted b (s.at t)).bay b = { s.bay b with
      pres := false, debAt := none, lostAt := some (max s.now t), accepted := if s.bst b = bayAbsent then false else (s.bay b).accepted } :=
    bay_setBay_same _ _ _ b.isLt
  have hfall : (s.at t).presFall b.val = fallNoted b (s.at t) := (presFall_eq _ _).trans (if_neg hst)
  refine does_of_effect hp (exec_bayPresenceChange t b s false)
    ((if_neg (by rw [show ((s.at t).bay b.val).pres = true from hpres]; decide)).trans ((if_neg Bool.false_ne_true).trans hfall))
    ⟨?_, ?_, ?_, ended_bst _ _ _ _, onlyRegsQuiet_ended (onlyRegsQuiet_of_regs _ rfl), fun habs => ?_⟩
  · rw [ended_bay, hbay]
  · rw [ended_bay, hbay]
  · rw [ended_bay, hbay]
  · rw [ended_bay, hbay]
    exact if_pos habs

theorem does_presenceFall_ejected (hpres : (s.bay b).pres = true) (hst : s.bst b = bayEjected) : Does (.bayPresenceChange t b false) s fun u =>
    u.bst b = bayAbsent ∧ (u.bay b).accepted = false ∧ Raised 0x1140 0 b (s.reg Reg.SHR_EJCNT) s u := by
  let z := (fallNoted b (s.at t)).bayGone b
  have hfall : (s.at t).presFall b.val = z.raise 0x1140 0 0x05 b (s.reg Reg.SHR_EJCNT) := (presFall_eq _ _).trans (if_pos hst)
  have hgone := bayGone_gone b.isLt (fallNoted b (s.at t))
  have hframe := frame_bayGone (Frame.refl 0x3c00000 0x100130000 (fallNoted b (s.at t))) b (by decide) (by decide)
  refine does_of_effect hp (exec_bayPresenceChange t b s false)
    ((if_neg (by rw [show ((s.at t).bay b.val).pres = true from hpres]; decide)).trans ((if_neg Bool.false_ne_true).trans hfall))
    ⟨?_, ?_, raised_ended (raised_now (by decide) (hframe.f_supv (by decide)) (hframe.f_regs _ 0 (by decide)))⟩
  · rw [ended_bst]
    exact (raise_regAt _ _ _ _ _ _ (by decide) _ (by decide) _).trans hgone.bst
  · rw [ended_bay, raise_bay _ _ _ _ _ _ (by decide), hgone.stopped.accepted]
    exact congrArg BaySt.accepted (bay_setBay_same _ _ _ b.isLt)

end

/-! A bay lost in service (R142). -/

theorem Gone.of_kept {b : Nat} {s u v : State} (h : Gone b s u) (hbay : v.bay b = u.bay b) (hr : ∀ f ∈ bayRegs, v.regAt f b = u.regAt f b)
    (hpst : ∀ n ∈ phaseIds b, v.pst n = u.pst n) : Gone b s v := by
  obtain ⟨hbst, ⟨hw, ht, hok, hacc, hshare, hn⟩, hcond, habs⟩ := h
  exact ⟨(hr Reg.SHR_BAYST (by decide)).trans hbst, ⟨by rw [hbay]; exact hw, by rw [hbay]; exact ht, by rw [hbay]; exact hok,
    by rw [hbay]; exact hacc, (hr _ (by decide)).trans hshare, (hr _ (by decide)).trans hn⟩, (hr _ (by decide)).trans hcond,
    fun n hm => (hpst n hm).trans (habs n hm)⟩

theorem Gone.left {b : Nat} {s u v : State} (h : Gone b s u) (k : BayLeft b u v) : Gone b s v := h.of_kept k.bay k.regs k.pst

theorem lossTold_facts {b : Nat} (hb : b < 8) (s : State) : Gone b s (lossTold b s) ∧
    (lossTold b s).reg Reg.SHR_LOSTCNT = min 65535 (s.reg Reg.SHR_LOSTCNT + 1) := by
  have hgone := bayGone_gone hb s
  have hcount := bayGone_count s b
  unfold lossTold
  rw [bump_eq, hcount]
  generalize s.bayGone b = z at *
  have hput : Gone b s (z.put Reg.SHR_LOSTCNT (satNat Reg.SHR_LOSTCNT.width (s.reg Reg.SHR_LOSTCNT + 1))) :=
    hgone.of_kept rfl (fun f hf => regAt_put_other _ _ _ _ _ (by revert f; decide)) fun n _ => regAt_put_other _ _ _ _ _ (by decide)
  exact ⟨hput.left (.raise _ _ (by decide) _ _ _),
    (raise_reg _ _ _ _ _ _ (by decide) _ (by decide)).trans ((reg_put_same _ _ _).trans (satNat_mod _ _))⟩

section
variable {t : Edges} {b : Bay} {s : State} (hp : s.core.powered = true)
include hp

theorem does_bayLost {d : Nat} (hpres : (s.bay b).pres = false) (hlost : (s.bay b).lostAt = some d) (habs : s.bst b ≠ bayAbsent)
    (hej : s.bst b ≠ bayEjected) (hdue : d + edgeMs ≤ max s.now t) : Does (.bayLost t b) s fun u =>
      u.bst b = bayAbsent ∧ u.regAt Reg.PH_N b = 0 ∧ u.regAt Reg.PH_COND b = 0 ∧ (u.bay b).w = 0 ∧ (u.bay b).t = 0 ∧
      (∀ n ∈ phaseIds b, u.pst n = phAbsent) ∧ u.reg Reg.SHR_LOSTCNT = min 65535 (s.reg Reg.SHR_LOSTCNT + 1) := by
  have hran : (s.at t).ran ((s.at t).bay b.val).lostAt edgeMs = true := by
    rw [show ((s.at t).bay b.val).lostAt = some d from hlost]
    exact decide_eq_true hdue
  obtain ⟨htold, hcount⟩ := lossTold_facts b.isLt (s.at t)
  have hleft := left_restoreReserves b.isLt (s := lossTold b (s.at t)) (by rw [htold.bst]; decide) (by rw [htold.bst]; decide)
  obtain ⟨hbst, hstop, hcond, hpst⟩ := htold.left hleft
  refine does_of_effect hp (exec_bayLost t b s) (if_pos ⟨hpres, hran, habs, hej⟩) ?_
  rw [ended_bst, ended_regAt, ended_regAt, ended_bay, ended_reg]
  exact ⟨hbst, hstop.n, hcond, hstop.w, hstop.t, fun n hn => (ended_regAt _ _ _ _ _).trans (hpst n hn), hleft.count.trans hcount⟩

theorem does_bayLost_early {d : Nat} (hlost : (s.bay b).lostAt = some d) (hearly : max s.now t < d + edgeMs) :
    Does (.bayLost t b) s fun u => u.bays = s.bays ∧ OnlyRegsQuiet [] s u := by
  have hran : (s.at t).ran ((s.at t).bay b.val).lostAt edgeMs = false := by
    rw [show ((s.at t).bay b.val).lostAt = some d from hlost]
    exact decide_eq_false (Nat.not_le.mpr hearly)
  exact does_of_effect hp (exec_bayLost t b s) (if_neg fun ⟨_, h, _⟩ => Bool.false_ne_true (hran.symm.trans h))
    ⟨ended_bays _ _ _, onlyRegsQuiet_ended (onlyRegsQuiet_of_regs _ rfl)⟩

end

/-! The loss of a bay's supply (R143). -/

/-- The record of a bay that starts again. -/
def pfcNoted (b : Nat) (s : State) : State :=
  s.setBay b { s.bay b with enLow := s.beforeRestart,
                            okFrom := if s.mode = modeRun ∨ s.mode = modeTadpole then some s.now else none, insAt := s.now }

/-- A bay without its supply waits in PFCSTART. -/
theorem toPfc_waiting {b : Nat} {s : State} (hok : (s.bay b).ok = false) : s.toPfc b = (pfcNoted b s).setBst b bayPfc := by
  have hwait : (((pfcNoted b s).setBst b bayPfc).bay b).ok = false := by
    have hnoted : SameShare s (pfcNoted b s) := .setBay s b _ rfl
    exact ((hnoted.trans (share_setBst _ _ _)).facts b).2.2.1.trans hok
  have hready : ((pfcNoted b s).setBst b bayPfc).bayReady b = (pfcNoted b s).setBst b bayPfc :=
    if_neg fun h => Bool.false_ne_true (hwait.symm.trans h.2.1)
  exact hready

theorem pfcLost_facts {b : Nat} (hb : b < 8) {s : State} (hok : (s.bay b).ok = false) :
    (s.pfcLost b).bst b = bayPfc ∧ Stopped b s (s.pfcLost b) := by
  have hstop := bayStop_openReq hb s
  have hpfc := toPfc_waiting (hstop.ok.trans hok)
  unfold State.pfcLost
  dsimp only
  rw [hpfc]
  generalize (s.bayStop b).openReq b = z at *
  have hnoted : SameShare z (pfcNoted b z) := .setBay z b _ rfl
  have hset : Stopped b s ((pfcNoted b z).setBst b bayPfc) :=
    hstop.of_share (hnoted.trans (share_setBst _ _ _)) fun f hf => setBst_reg _ _ _ (by revert f; decide) (by revert f; decide) b
  have hleft := BayLeft.raise (b := b) ((pfcNoted b z).setBst b bayPfc) 0x1142 (sev := 4) (by decide) 0x05 b (s.bst b)
  exact ⟨hleft.bst.trans (setBst_bst _ _ _), hset.of_share (fun j => congrArg shareRec (raise_bay _ _ _ _ _ _ (by decide) j))
    fun f hf => hleft.regs f (by revert f; decide)⟩

section
variable {t : Edges} {b : Bay} {s : State} (hp : s.core.powered = true)
  (hst : s.bst b = bayJoin ∨ s.bst b = bayActive ∨ s.bst b = bayLeave ∨ s.bst b = bayStandby)
include hst

theorem servesOrStandsBy : ((supplyOff b.val (s.at t)).inService b.val || (supplyOff b.val (s.at t)).bst b.val == bayStandby) = true := by
  have hbst : (supplyOff b.val (s.at t)).bst b.val = s.bst b := rfl
  unfold State.inService
  rw [hbst]
  obtain h | h | h | h := hst <;> rw [h] <;> rfl

omit hst in
theorem supplyOff_ok : ((supplyOff b.val (s.at t)).bay b.val).ok = false := congrArg BaySt.ok (bay_setBay_same _ _ _ b.isLt)

include hp

theorem does_pfcLost (hmode : s.mode = modeRun ∨ s.mode = modeTadpole ∨ s.mode = modeShadow) : Does (.bayPfcLost t b) s fun u =>
    u.bst b = bayPfc ∧ (u.bay b).ok = false ∧ (u.bay b).w = 0 ∧ u.regAt Reg.SHR_W b = 0 ∧ u.regAt Reg.PH_N b = 0 := by
  have hlock : (supplyOff b.val (s.at t)).mode ≠ modeLockout := by
    show s.mode ≠ modeLockout
    obtain h | h | h := hmode <;> rw [h] <;> decide
  have hhold : (supplyOff b.val (s.at t)).mode ≠ modeHoldup := by
    show s.mode ≠ modeHoldup
    obtain h | h | h := hmode <;> rw [h] <;> decide
  obtain ⟨hpfc, hstop⟩ := pfcLost_facts b.isLt (supplyOff_ok (t := t) (b := b) (s := s))
  have hleft := left_restoreReserves b.isLt (s := (supplyOff b.val (s.at t)).pfcLost b.val) (by rw [hpfc]; decide) (by rw [hpfc]; decide)
  refine does_of_effect hp (exec_bayPfcLost t b s) ((if_pos (servesOrStandsBy hst)).trans ((if_neg hlock).trans (if_neg hhold))) ?_
  rw [ended_bst, ended_bay, ended_regAt, ended_regAt, hleft.bst, hleft.bay, hleft.regs _ (by decide), hleft.regs _ (by decide)]
  exact ⟨hpfc, hstop.ok.trans supplyOff_ok, hstop.w, hstop.share, hstop.n⟩

theorem does_pfcLost_lockout (hmode : s.mode = modeLockout) : Does (.bayPfcLost t b) s fun u =>
    u.bst b = s.bst b ∧ (u.bay b).ok = false ∧ Raised 0x1142 4 b (s.bst b) s u ∧ OnlyRegs [] s u := by
  refine does_of_effect hp (exec_bayPfcLost t b s) ((if_pos (servesOrStandsBy hst)).trans (if_pos hmode))
    ⟨?_, ?_, raised_ended (raised_now (by decide) rfl rfl),
      onlyRegs_ended (onlyRegs_raise (onlyRegs_of_regs (u := supplyOff b.val (s.at t)) _ rfl) _ _ _ _ _ (.inl (by decide)))⟩
  · rw [ended_bst]
    exact raise_regAt _ _ _ _ _ _ (by decide) _ (by decide) _
  · rw [ended_bay, raise_bay _ _ _ _ _ _ (by decide)]
    exact supplyOff_ok

theorem does_pfcLost_holdup (hmode : s.mode = modeHoldup) : Does (.bayPfcLost t b) s fun u =>
    u.bst b = s.bst b ∧ (u.bay b).ok = false ∧ OnlyRegsQuiet [] s u := by
  have hlock : (supplyOff b.val (s.at t)).mode ≠ modeLockout := by
    show s.mode ≠ modeLockout
    rw [hmode]
    decide
  refine does_of_effect hp (exec_bayPfcLost t b s) ((if_pos (servesOrStandsBy hst)).trans ((if_neg hlock).trans (if_pos hmode)))
    ⟨ended_bst _ _ _ _, ?_, onlyRegsQuiet_ended (onlyRegsQuiet_of_regs _ rfl)⟩
  rw [ended_bay]
  exact supplyOff_ok

end

/-- Settles O28: a bay on its way out leaves sharing with its phases low, and the reserves it leaves short are made up by other bays. -/
theorem bayRemoval : Obligations.BayRemoval := by
  intro t b s hp
  exact ⟨fun hpres hst => does_presenceFall hp hpres hst, fun hpres hst => does_presenceFall_ejected hp hpres hst,
    fun d hpres hlost habs hej => ⟨fun hdue => does_bayLost hp hpres hlost habs hej hdue, fun hearly => does_bayLost_early hp hlost hearly⟩,
    fun hst => ⟨fun hmode => does_pfcLost hp hst hmode, fun hmode => does_pfcLost_lockout hp hst hmode,
      fun hmode => does_pfcLost_holdup hp hst hmode⟩⟩

end Sys2Proof.BayLosses

namespace Sys2Proof.FirstModes

open Sys2Proof Sys2Proof.Machine Sys2Proof.Laws Sys2Proof.LoadSteps Sys2Proof.Readings Sys2Proof.EventWrites

/-! The start-up sequence to the first mode (R53, R54). -/

/-- The registers the first mode is told by, and those it is chosen by. -/
def bootRegs : List Field :=
  [Reg.GL_MODE, Reg.GL_MODE_PREV, Reg.GL_MODE_CAUSE, Reg.H_ADDR, Reg.GL_STAT_OWNER, Reg.GL_STAT_GECKO, Reg.SEC_LC]

/-- Those registers and the supply stay. -/
structure BootKept (s u : State) : Prop where
  regs : ∀ f ∈ bootRegs, u.reg f = s.reg f
  powered : u.core.powered = s.core.powered

namespace BootKept

variable {s u : State}

theorem refl (s : State) : BootKept s s := ⟨fun _ _ => rfl, rfl⟩

theorem trans {v : State} (h : BootKept s u) (k : BootKept u v) : BootKept s v :=
  ⟨fun f hf => (k.regs f hf).trans (h.regs f hf), k.powered.trans h.powered⟩

theorem ite {p : Prop} [Decidable p] {v : State} (hu : BootKept s u) (hv : BootKept s v) : BootKept s (if p then u else v) := by
  by_cases h : p
  · rw [if_pos h]; exact hu
  · rw [if_neg h]; exact hv

theorem of_eq (hr : u.regs = s.regs) (hp : u.core.powered = s.core.powered) : BootKept s u :=
  ⟨fun f _ => by unfold State.reg; rw [hr], hp⟩

/-- An operation whose frame holds neither the supply nor the pages 0x02, 0x38 and 0x3E. -/
theorem of_frame {P G : Nat} (h : Frame P G s u) (hP : P.testBit 7 = false) (hG : ∀ f ∈ bootRegs, G.testBit f.onPage = false) : BootKept s u :=
  ⟨fun f hf => h.f_regs f 0 (hG f hf), h.f_powered hP⟩

theorem put (s : State) {f : Field} (hf : ∀ g ∈ bootRegs, g.place ≠ f.place) (v : Nat) : BootKept s (s.put f v) :=
  ⟨fun g hg => reg_put_other _ _ _ _ (hf g hg), rfl⟩

/-- An event of any severity. -/
theorem raise (s : State) (code sev unit p0 p1 : Nat) : BootKept s (s.raise code sev unit p0 p1) := by
  have honly := onlyRegs_raise_any (onlyRegs_of_regs (u := s) probFields rfl) (fun f hf => List.mem_map_of_mem hf) code sev unit p0 p1
  have hmem : ∀ f ∈ bootRegs, f.place ∉ probFields.map Field.place ∧ f.place ∉ recorderFields.map Field.place := by decide
  exact ⟨fun f hf => honly f 0 (hmem f hf).1 (hmem f hf).2,
    (frame_raise (Frame.refl 0x400041c78 0x500c000000024 s) code sev unit p0 p1 (by decide) (by decide)).f_powered (by decide)⟩

theorem foldl {α : Type} {f : State → α → State} (h : ∀ s a, BootKept s (f s a)) (l : List α) (s : State) : BootKept s (l.foldl f s) := by
  induction l generalizing s with
  | nil => exact refl s
  | cons a l ih => exact (h s a).trans (ih _)

end BootKept

/-! Waking (R53, step 1). -/

/-- The latch counts where VDD was absent for less than 1 s. -/
def latchCounts (b : BootIn) (v : Vka) : Bool := v.gecko && decide (b.vddAbsentMs < 1000)

/-- The strap shown. -/
def strapShown (b : BootIn) (s : State) : State :=
  { s with core := { s.core with powered := true, porAt := s.now, modeAt := s.now, secAt := s.now, addr := b.addr.val },
           vka := { s.vka.sealCrc with causes := 0, armed := false, gecko := latchCounts b s.vka, lost := false } }.put
    Reg.H_ADDR (0x20 + b.addr.val)

/-- The counters and the wake causes shown. -/
def causesShown (b : BootIn) (v : Vka) (s : State) : State :=
  let s := s.put Reg.JRN_OPSEC (if b.flashUnmet.isSome then 0 else s.flash.counters.1)
  let s := s.put Reg.JRN_PCC ((if b.flashUnmet.isSome then 0 else s.flash.counters.2) + 1)
  let s := s.put Reg.REC_LASTSEQ (if b.flashUnmet.isSome then 0 else s.flash.lastSeq)
  ((s.putB Reg.GL_WAKE_SRC_WAKE (bitOf v.causes 0)).putB Reg.GL_WAKE_SRC_AC (bitOf v.causes 1)).putB Reg.GL_WAKE_SRC_BI (bitOf v.causes 2)

/-- The rest of what the VKA domain tells. -/
def vkaTold (b : BootIn) (v : Vka) (s : State) : State :=
  let s := s.putB Reg.THM_STAT_GECKO (latchCounts b v)
  let s := ((s.put Reg.THM_GSRC v.geckoSrc).put Reg.THM_GTEMP v.geckoTemp).putB Reg.GL_WAKE_SRC_VKALOST v.lost
  let s := if v.armed then s.raise 0x2015 0 0x02 (v.field 54 1) (v.field 48 4) else s
  if v.lost then s.raise 0x2016 3 0x02 (s.reg Reg.JRN_PCC) 0 else s

theorem bootWake_eq (s : State) (b : BootIn) : s.bootWake b =
    vkaTold b s.vka ((causesShown b s.vka (strapShown b s)).putB Reg.GL_STAT_GECKO (latchCounts b s.vka)) := rfl

theorem kept_causesShown (b : BootIn) (v : Vka) (s : State) : BootKept s (causesShown b v s) := by
  unfold causesShown
  dsimp only
  iterate 5 refine BootKept.trans ?_ (.put _ (by decide) _)
  exact .put _ (by decide) _

theorem kept_vkaTold (b : BootIn) (v : Vka) (s : State) : BootKept s (vkaTold b v s) := by
  have hput : ∀ z : State, BootKept s z → BootKept s (z.raise 0x2016 3 0x02 (z.reg Reg.JRN_PCC) 0) := fun z h => h.trans (.raise _ _ _ _ _ _)
  have hshown : BootKept s ((((s.putB Reg.THM_STAT_GECKO (latchCounts b v)).put Reg.THM_GSRC v.geckoSrc).put Reg.THM_GTEMP v.geckoTemp).putB
      Reg.GL_WAKE_SRC_VKALOST v.lost) :=
    (((BootKept.put s (by decide) _).trans (.put _ (by decide) _)).trans (.put _ (by decide) _)).trans (.put _ (by decide) _)
  have harmed := BootKept.ite (p := v.armed = true) (hshown.trans (.raise _ 0x2015 0 0x02 (v.field 54 1) (v.field 48 4))) hshown
  exact .ite (hput _ harmed) harmed

/-- What waking shows. -/
theorem bootWake_facts (s : State) (b : BootIn) : (s.bootWake b).reg Reg.H_ADDR = 0x20 + b.addr.val ∧
    (s.bootWake b).reg Reg.GL_STAT_GECKO = (if latchCounts b s.vka then 1 else 0) ∧ (s.bootWake b).core.powered = true ∧
    (s.bootWake b).otp = s.otp := by
  have hotp := (frame_bootWake (Frame.refl 0x8000011e0 0x10400c400000024 s) b (by decide) (by decide)).f_otp (by decide)
  have hcauses := kept_causesShown b s.vka (strapShown b s)
  have haddr : (strapShown b s).reg Reg.H_ADDR = 0x20 + b.addr.val :=
    (reg_put_same _ _ _).trans (Nat.mod_eq_of_lt (show 0x20 + b.addr.val < 128 by omega))
  have hon : (causesShown b s.vka (strapShown b s)).core.powered = true := hcauses.powered
  have hstrap := (hcauses.regs Reg.H_ADDR (by decide)).trans haddr
  refine ⟨?_, ?_, ?_, hotp⟩ <;> rw [bootWake_eq]
  · rw [(kept_vkaTold b s.vka _).regs _ (by decide)]
    exact (reg_put_other _ _ _ _ (by decide)).trans hstrap
  · rw [(kept_vkaTold b s.vka _).regs _ (by decide), putB_eq, reg_put_same]
    cases latchCounts b s.vka <;> rfl
  · rw [(kept_vkaTold b s.vka _).powered]
    exact hon

/-! The identity, the flash and ownership (R53, steps 2 to 5). -/

theorem kept_keyFaults (s : State) (mask : Nat) : BootKept s (s.keyFaults mask) := by
  refine .foldl (fun z k => .ite ?_ (.refl z)) _ _
  refine BootKept.trans ?_ (.raise _ _ _ _ _ _)
  exact BootKept.trans (u := { z with otp.keys := z.otp.keys.setIfInBounds k ⟨.fault, ((z.otp.keys.toList.map KeySlot.key)[k]?).getD []⟩ })
    (.of_eq rfl rfl) (.put _ (by decide) _)

/-- The identity of the chip shown, after its lifecycle. -/
def identityShown (s : State) : State :=
  let s := (s.put Reg.SEC_DEVID s.otp.devId.toNat).put Reg.GL_DEVID s.otp.devId.toNat
  let s := (s.put Reg.IMG_FLOOR s.otp.floor).put Reg.IMG_FLOORLEFT (16 - s.otp.floors.length)
  let s := (s.put Reg.GL_FWVER Config.fwVersion.toNat).put Reg.GL_TRIMREV Config.trimRev.toNat
  let s := (s.put Reg.GL_SILREV_MAJOR (Config.siliconRev.toNat / 16)).put Reg.GL_SILREV_MINOR Config.siliconRev.toNat
  let s := s.put Reg.GL_PAGEMAP (((List.range 256).filter populated).foldl (fun (v : Nat) p => v + 2 ^ p) 0)
  s.keyRefresh

/-- The flash tried (R331). -/
def flashTried (b : BootIn) (s : State) : State :=
  match b.flashUnmet with
  | some r => (s.put Reg.JRN_STAT_NOFLASH 1).raise 0x7040 6 0x0F r.val b.jedec.toNat
  | none =>
    let s := (s.put Reg.JRN_FCLK (min 50 b.fclk.toNat)).bdRefresh
    { s with jrn.fclk := b.fclk.toNat }

/-- ACTIN read (R54). -/
def ownershipRead (b : BootIn) (s : State) : State :=
  { s with twin.actIn := b.actin, twin.actOut := !b.actin, twin.contest := if b.actin then none else some s.now }

theorem bootRead_eq (s : State) (b : BootIn) : s.bootRead b =
    ((ownershipRead b (((flashTried b (((identityShown (s.put Reg.SEC_LC s.otp.lifecycle)).keyFaults b.keyFault.val).put Reg.GL_BOOT_STEP 2)).put
      Reg.JRN_JEDEC b.jedec.toNat).put Reg.JRN_DENS b.dens.toNat)).putB Reg.GL_STAT_OWNER (!b.actin)).put Reg.GL_BOOT_STEP 3 := rfl

theorem kept_identityShown (s : State) : BootKept s (identityShown s) := by
  unfold identityShown State.keyRefresh
  dsimp only
  iterate 9 refine BootKept.trans ?_ (.put _ (by decide) _)
  exact .put _ (by decide) _

theorem kept_flashTried (b : BootIn) (s : State) : BootKept s (flashTried b s) := by
  unfold flashTried
  split
  · exact (BootKept.put s (by decide) _).trans (.raise _ _ _ _ _ _)
  · have hclock := (BootKept.put s (f := Reg.JRN_FCLK) (by decide) (min 50 b.fclk.toNat))
    have hbd := BootKept.of_frame (frame_bdRefresh (Frame.refl 0 0x4000000000000 (s.put Reg.JRN_FCLK (min 50 b.fclk.toNat))) (by decide) (by decide))
      (by decide) (by decide)
    exact (hclock.trans hbd).trans (.of_eq rfl rfl)

theorem kept_ownershipRead (b : BootIn) (s : State) : BootKept s (ownershipRead b s) := .of_eq rfl rfl

/-- What the identity and the flash show before ownership is. -/
theorem bootRead_facts {s : State} (hlc : s.otp.lifecycle < 4) (b : BootIn) : (s.bootRead b).reg Reg.SEC_LC = s.otp.lifecycle ∧
    (s.bootRead b).reg Reg.GL_STAT_OWNER = (if b.actin then 0 else 1) ∧ (s.bootRead b).core.powered = s.core.powered ∧
    ∀ f ∈ [Reg.H_ADDR, Reg.GL_STAT_GECKO], (s.bootRead b).reg f = s.reg f := by
  have hread := fun z => ((((kept_identityShown z).trans (kept_keyFaults _ b.keyFault.val)).trans
    (.put _ (f := Reg.GL_BOOT_STEP) (by decide) 2)).trans (kept_flashTried b _)).trans ((BootKept.put _ (f := Reg.JRN_JEDEC) (by decide) b.jedec.toNat).trans
      ((BootKept.put _ (f := Reg.JRN_DENS) (by decide) b.dens.toNat).trans (kept_ownershipRead b _)))
  have hlife := hread (s.put Reg.SEC_LC s.otp.lifecycle)
  rw [bootRead_eq]
  generalize ownershipRead b _ = z at *
  have hlast := BootKept.put (z.putB Reg.GL_STAT_OWNER (!b.actin)) (f := Reg.GL_BOOT_STEP) (by decide) 3
  refine ⟨?_, ?_, ?_, fun f hf => ?_⟩
  · rw [hlast.regs _ (by decide), putB_eq, reg_put_other _ _ _ _ (by decide), hlife.regs _ (by decide), reg_put_same]
    exact Nat.mod_eq_of_lt hlc
  · rw [hlast.regs _ (by decide), putB_eq, reg_put_same]
    cases b.actin <;> rfl
  · rw [hlast.powered]
    exact hlife.powered
  · have hboot : f ∈ bootRegs ∧ f.place ≠ Field.place Reg.GL_STAT_OWNER ∧ f.place ≠ Field.place Reg.SEC_LC := by
      revert f
      decide
    rw [hlast.regs _ hboot.1, putB_eq, reg_put_other _ _ _ _ hboot.2.1, hlife.regs _ hboot.1, reg_put_other _ _ _ _ hboot.2.2]

/-! The first mode (R54, R58). -/

theorem kept_bootPins (s : State) (b : BootIn) : BootKept s (s.bootPins b) :=
  .of_frame (frame_bootPins (Frame.refl 0x20800000 0x8000000 s) b (by decide) (by decide)) (by decide) (by decide)

/-- In the mode shown, entered from the old one for its cause; the strap, ownership and the supply are as they were. -/
structure EnteredFrom (old new cause : Nat) (s u : State) : Prop where
  mode : u.reg Reg.GL_MODE = new
  prev : u.reg Reg.GL_MODE_PREV = old
  cause : u.reg Reg.GL_MODE_CAUSE = cause
  addr : u.reg Reg.H_ADDR = s.reg Reg.H_ADDR
  owner : u.reg Reg.GL_STAT_OWNER = s.reg Reg.GL_STAT_OWNER
  powered : u.core.powered = s.core.powered

namespace EnteredFrom

variable {old new cause : Nat} {s u : State}

theorem kept {v : State} (h : EnteredFrom old new cause s u) (k : BootKept u v) : EnteredFrom old new cause s v :=
  ⟨(k.regs _ (by decide)).trans h.mode, (k.regs _ (by decide)).trans h.prev, (k.regs _ (by decide)).trans h.cause,
    (k.regs _ (by decide)).trans h.addr, (k.regs _ (by decide)).trans h.owner, k.powered.trans h.powered⟩

theorem of_kept {z : State} (k : BootKept s z) (h : EnteredFrom old new cause z u) : EnteredFrom old new cause s u :=
  ⟨h.mode, h.prev, h.cause, h.addr.trans (k.regs _ (by decide)), h.owner.trans (k.regs _ (by decide)), h.powered.trans k.powered⟩

end EnteredFrom

theorem kept_judgeSession (s : State) (mode why : Nat) : BootKept s (s.judgeSession mode why) := by
  have honly := onlyRegs_judgeSession (onlyRegs_of_regs (u := s) sessionEndFields rfl) (fun f hf => List.mem_map_of_mem hf) mode why
  have hmem : ∀ f ∈ bootRegs, f.place ∉ sessionEndFields.map Field.place ∧ f.place ∉ recorderFields.map Field.place := by decide
  exact ⟨fun f hf => honly f 0 (hmem f hf).1 (hmem f hf).2,
    (frame_judgeSession (Frame.refl 0xc00061c78 0x400500c000000024 s) mode why (by decide) (by decide)).f_powered (by decide)⟩

/-- A change of mode to another mode than HOLDUP. -/
theorem changeMode_entered (s : State) {new cause : Nat} (hnew : new < 8) (hcause : cause < 256) (hhold : new ≠ modeHoldup) (hold : s.mode < 8) :
    EnteredFrom s.mode new cause s (s.changeMode new cause) := by
  have hjudged := kept_judgeSession s new 2
  have hmode : (s.judgeSession new 2).mode = s.mode := hjudged.regs _ (by decide)
  unfold State.changeMode
  dsimp only
  rw [if_neg hhold, hmode]
  generalize s.judgeSession new 2 = z at *
  let w := ((z.put Reg.GL_MODE_PREV s.mode).put Reg.GL_MODE new).put Reg.GL_MODE_CAUSE cause
  have hev : ∀ f, onRecPages f = false → (State.raise4 { w with core.modeAt := w.now } 0x2010 1 0x02 s.mode new cause w.angle).reg f = w.reg f :=
    fun f hf => raise4_reg _ _ _ _ _ _ _ _ (by decide) _ hf
  refine .of_kept hjudged ⟨(hev _ (by decide)).trans ?_, (hev _ (by decide)).trans ?_, (hev _ (by decide)).trans ?_, (hev _ (by decide)).trans ?_,
    (hev _ (by decide)).trans ?_, (frame_raise4 (Frame.refl 0x400041c78 0x500c000000024 _) _ _ _ _ _ _ _ (by decide) (by decide)).f_powered (by decide)⟩
  · exact (reg_put_other _ _ _ _ (by decide)).trans ((reg_put_same _ _ _).trans (Nat.mod_eq_of_lt hnew))
  · exact (reg_put_other _ _ _ _ (by decide)).trans ((reg_put_other _ _ _ _ (by decide)).trans ((reg_put_same _ _ _).trans (Nat.mod_eq_of_lt hold)))
  · exact (reg_put_same _ _ _).trans (Nat.mod_eq_of_lt hcause)
  · exact (reg_put_other _ _ _ _ (by decide)).trans ((reg_put_other _ _ _ _ (by decide)).trans (reg_put_other _ _ _ _ (by decide)))
  · exact (reg_put_other _ _ _ _ (by decide)).trans ((reg_put_other _ _ _ _ (by decide)).trans (reg_put_other _ _ _ _ (by decide)))

/-! What TADPOLE does to the blocks leaves the modes. -/

theorem kept_declare {s : State} (hrun : s.mode ≠ modeRun) (hhold : s.mode ≠ modeHoldup) (x : Feed) : BootKept s (s.declare x) := by
  have hcount := BootKept.of_frame (frame_countTransition (Frame.refl 0x100001040 0xc004000020 s) (by decide) (by decide)) (by decide) (by decide)
  have hrec := fun z => BootKept.of_frame (frame_outageRecord (Frame.refl 0x100001040 0xc004000020 z) x (by decide) (by decide)) (by decide) (by decide)
  have hkept : BootKept s (s.countTransition.outageRecord x) := hcount.trans (hrec _)
  have hmode : (s.countTransition.outageRecord x).mode = s.mode := hkept.regs Reg.GL_MODE (by decide)
  unfold State.declare
  dsimp only
  rw [if_neg (fun h : s.mode = modeHoldup ∧ _ => hhold h.1), hmode, if_neg hrun, if_neg hhold]
  exact hkept

theorem kept_mainsChange {s : State} (hrun : s.mode ≠ modeRun) (hhold : s.mode ≠ modeHoldup) (x : Feed) : BootKept s (s.mainsChange x) := by
  have hput : ∀ v, BootKept s (s.put Reg.HUP_STAT_MAINS v) := BootKept.put s (by decide)
  have hmode : ∀ v, (s.put Reg.HUP_STAT_MAINS v).mode = s.mode := fun v => (hput v).regs Reg.GL_MODE (by decide)
  unfold State.mainsChange
  dsimp only
  rw [putB_eq, hmode]
  refine .ite ((hput _).trans (kept_declare (by rw [hmode]; exact hrun) (by rw [hmode]; exact hhold) x)) ?_
  rw [if_neg (by rw [beq_false_of_ne hhold, Bool.and_false]; exact Bool.false_ne_true)]
  exact hput _

theorem kept_setFeedSt (s : State) (x : Feed) (v : Nat) : BootKept s (s.setFeedSt x v) :=
  .of_frame (frame_setFeedSt (Frame.refl 0 0x4000000 s) x v (by decide) (by decide)) (by decide) (by decide)

/-- One feed as HUP_CFG selects it. -/
def feedConfigured (s : State) (x : Feed) : State :=
  if s.feedCfg x then (if s.feedSt x = feedUnused then s.setFeedSt x feedLost else s)
  else if s.feedSt x = feedUnused then s else ((s.setFeedSt x feedUnused).setQcnt x 0).mainsChange x

theorem kept_feedConfigured {s : State} (hrun : s.mode ≠ modeRun) (hhold : s.mode ≠ modeHoldup) (x : Feed) : BootKept s (feedConfigured s x) := by
  have hunused : BootKept s ((s.setFeedSt x feedUnused).setQcnt x 0) :=
    (kept_setFeedSt s x _).trans (.of_frame (frame_setQcnt (Frame.refl 0 0x4000000 _) x 0 (by decide) (by decide)) (by decide) (by decide))
  have hmode : ((s.setFeedSt x feedUnused).setQcnt x 0).mode = s.mode := hunused.regs Reg.GL_MODE (by decide)
  exact .ite (.ite (kept_setFeedSt s x _) (.refl s))
    (.ite (.refl s) (hunused.trans (kept_mainsChange (by rw [hmode]; exact hrun) (by rw [hmode]; exact hhold) x)))

theorem kept_feedsConfigured {s : State} (hrun : s.mode ≠ modeRun) (hhold : s.mode ≠ modeHoldup) : BootKept s s.feedsConfigured := by
  have ha := kept_feedConfigured hrun hhold .a
  have hmode : (feedConfigured s .a).mode = s.mode := ha.regs Reg.GL_MODE (by decide)
  exact ha.trans (kept_feedConfigured (by rw [hmode]; exact hrun) (by rw [hmode]; exact hhold) .b)

/-- What TADPOLE sets once its mode is shown. -/
def tadpoleBegun (k : Option LoadKind) (s : State) : State :=
  let s := s.tadpoleSet.holdupTadpole.feedsConfigured
  let s := (bayIds.foldl State.tadpoleBay s).chargeStops.paceClear.wheelStart
  match k with
  | none => s
  | some k => s.loadStart k

theorem enterTadpole_eq (s : State) (cause : Nat) : s.enterTadpole cause =
    tadpoleBegun s.core.loadNext
      { (s.ffClear.spTadpole).changeMode modeTadpole cause with
          core.toTadpole := none, core.loadNext := none } := rfl

theorem kept_tadpoleBegun {s : State} (hrun : s.mode ≠ modeRun) (hhold : s.mode ≠ modeHoldup) (k : Option LoadKind) :
    BootKept s (tadpoleBegun k s) := by
  have hset : BootKept s s.tadpoleSet :=
    .of_frame (frame_tadpoleSet (Frame.refl 0x2000020 0x100000 s) (by decide) (by decide)) (by decide) (by decide)
  have hhup := hset.trans (.of_frame (frame_holdupTadpole (Frame.refl 0x100000000 0x4000000 s.tadpoleSet) (by decide) (by decide)) (by decide) (by decide))
  have hmode : s.tadpoleSet.holdupTadpole.mode = s.mode := hhup.regs Reg.GL_MODE (by decide)
  have hfeeds := hhup.trans (kept_feedsConfigured (by rw [hmode]; exact hrun) (by rw [hmode]; exact hhold))
  have hbays := hfeeds.trans (.foldl (fun z b => .of_frame (frame_tadpoleBay (Frame.refl 0x3c01040 0xc100130020 z) b (by decide) (by decide))
    (by decide) (by decide)) bayIds _)
  have hstops := hbays.trans (.of_frame (frame_chargeStops (Frame.refl 0x20001040 0xc008000020 _) (by decide) (by decide)) (by decide) (by decide))
  have hpace := hstops.trans (.of_frame (frame_paceClear (Frame.refl 0x400000000 0x1000000 _) (by decide) (by decide)) (by decide) (by decide))
  have hwheel := hpace.trans (.of_frame (frame_wheelStart (Frame.refl 0x80000 0 _) (by decide) (by decide)) (by decide) (by decide))
  cases k with
  | none => exact hwheel
  | some k =>
    exact hwheel.trans (.of_frame (frame_loadStart (Frame.refl 0x400040038 0x1000000000000 _) k (by decide) (by decide)) (by decide) (by decide))

theorem enterTadpole_entered (s : State) {cause : Nat} (hcause : cause < 256) (hold : s.mode < 8) :
    EnteredFrom s.mode modeTadpole cause s (s.enterTadpole cause) := by
  have hclear : BootKept s s.ffClear.spTadpole :=
    (BootKept.of_frame (frame_ffClear (Frame.refl 0x4000000 0x800000 s) (by decide) (by decide)) (by decide) (by decide)).trans
      (.of_frame (frame_spTadpole (Frame.refl 0x2001040 0xc000100020 _) (by decide) (by decide)) (by decide) (by decide))
  have hmode : s.ffClear.spTadpole.mode = s.mode := hclear.regs Reg.GL_MODE (by decide)
  have hchange := changeMode_entered s.ffClear.spTadpole (new := modeTadpole) (by decide) hcause (by decide) (by rw [hmode]; exact hold)
  rw [hmode] at hchange
  have hset := hchange.kept (v := { (s.ffClear.spTadpole).changeMode modeTadpole cause with core.toTadpole := none, core.loadNext := none })
    (.of_eq rfl rfl)
  rw [enterTadpole_eq]
  generalize ({ (s.ffClear.spTadpole).changeMode modeTadpole cause with core.toTadpole := none, core.loadNext := none } : State) = z at *
  have hz : z.mode = modeTadpole := hset.mode
  exact .of_kept hclear (hset.kept (kept_tadpoleBegun (by rw [hz]; decide) (by rw [hz]; decide) _))

/-- The first mode and its cause, by the latch, the lifecycle and ownership. -/
def firstChoice (latch : Bool) (lifecycle : Nat) (actin : Bool) : Nat × Nat :=
  if latch then (modeLockout, 0x0A) else if lifecycle = 0 ∨ lifecycle = 3 then (modeLockout, 0x10)
  else if actin then (modeTadpole, 0x12) else (modeTadpole, 0x00)

theorem kept_bootStep {old new cause : Nat} {s u : State} (h : EnteredFrom old new cause s u) (v : Nat) :
    EnteredFrom old new cause s (u.put Reg.GL_BOOT_STEP v) := h.kept (.put u (by decide) v)

theorem firstMode_entered {s : State} {latch actin : Bool} {lc : Nat} (hlatch : s.reg Reg.GL_STAT_GECKO = if latch then 1 else 0)
    (hlc : s.reg Reg.SEC_LC = lc) (hown : s.reg Reg.GL_STAT_OWNER = if actin then 0 else 1) :
    EnteredFrom 0 (firstChoice latch lc actin).1 (firstChoice latch lc actin).2 (s.put Reg.GL_MODE 0) s.firstMode := by
  let z := s.put Reg.GL_MODE 0
  have hmode : z.mode = 0 := reg_put_same _ _ _
  have hlt : z.mode < 8 := by rw [hmode]; decide
  have hgecko : z.isSet Reg.GL_STAT_GECKO = latch := by
    rw [isSet_eq, reg_put_other _ _ _ _ (by decide), hlatch]
    cases latch <;> rfl
  have hlife : z.lifecycle = lc := (reg_put_other _ _ _ _ (by decide)).trans hlc
  have howner : z.owner = !actin := by
    unfold State.owner
    rw [isSet_eq, reg_put_other _ _ _ _ (by decide), hown]
    cases actin <;> rfl
  have hlock := fun cause (hc : cause < 256) => changeMode_entered z (new := modeLockout) (by decide) hc (by decide) hlt
  have htad := fun cause (hc : cause < 256) => kept_bootStep (enterTadpole_entered z hc hlt) 4
  rw [hmode] at hlock htad
  unfold State.firstMode firstChoice
  dsimp only
  rw [hgecko, hlife, howner]
  cases latch with
  | true => exact hlock 0x0A (by decide)
  | false =>
    rw [if_neg Bool.false_ne_true, if_neg Bool.false_ne_true]
    by_cases hrow : lc = 0 ∨ lc = 3
    · rw [if_pos hrow, if_pos hrow]
      exact hlock _ (by decide)
    · rw [if_neg hrow, if_neg hrow]
      cases actin
      · exact htad _ (by decide)
      · exact htad _ (by decide)

theorem kept_roleShow (s : State) : BootKept s s.roleShow := .put s (by decide) _

/-- The start-up sequence ends in the mode chosen, entered from 0. -/
theorem boot_facts {s : State} (hlc : s.otp.lifecycle < 4) (b : BootIn) (u : State) (hu : u = s.boot b) : u.core.powered = true ∧
    u.reg Reg.GL_MODE_PREV = 0 ∧ u.reg Reg.H_ADDR = 0x20 + b.addr.val ∧
    (u.reg Reg.GL_MODE, u.reg Reg.GL_MODE_CAUSE) = firstChoice (latchCounts b s.vka) s.otp.lifecycle b.actin ∧
    u.reg Reg.GL_STAT_OWNER = if b.actin then 0 else 1 := by
  obtain ⟨haddr, hgecko, hon, hotp⟩ := bootWake_facts s.unpower b
  have hotp : (s.unpower.bootWake b).otp = s.otp := hotp
  obtain ⟨hlife, hown, hpow, hkept⟩ := bootRead_facts (s := s.unpower.bootWake b) (by rw [hotp]; exact hlc) b
  have hpins := kept_bootPins ((s.unpower.bootWake b).bootRead b) b
  have hgecko' := (hpins.regs Reg.GL_STAT_GECKO (by decide)).trans ((hkept _ (by decide)).trans hgecko)
  have hlife' := (hpins.regs Reg.SEC_LC (by decide)).trans (hlife.trans (congrArg Otp.lifecycle hotp))
  have hown' := (hpins.regs Reg.GL_STAT_OWNER (by decide)).trans hown
  have haddr' := (hpins.regs Reg.H_ADDR (by decide)).trans ((hkept _ (by decide)).trans haddr)
  have hon' := hpins.powered.trans (hpow.trans hon)
  have hboot : u = (((s.unpower.bootWake b).bootRead b).bootPins b).firstMode.roleShow := hu
  clear hu
  generalize ((s.unpower.bootWake b).bootRead b).bootPins b = z at *
  obtain ⟨hmode, hprev, hcause, ha, ho, hp⟩ := (firstMode_entered hgecko' hlife' hown').kept (kept_roleShow _)
  subst hboot
  refine ⟨hp.trans hon', hprev, ha.trans ((reg_put_other _ _ _ _ (by decide)).trans haddr'), ?_,
    ho.trans ((reg_put_other _ _ _ _ (by decide)).trans hown')⟩
  rw [hmode, hcause]
  rfl

theorem exec_powerOnReset (t : Edges) (b : BootIn) (s : State) : exec (.powerOnReset t b) s =
    .next (if (s.at t).core.powered then s.at t else ((s.at t).boot b).finish) := rfl

/-- Settles O9: the latch, the lifecycle and ownership are shown before the first mode is chosen by them, and nothing after it changes the
modes. -/
theorem firstModeByTable : Obligations.FirstModeByTable := by
  intro t b s hoff hlc
  obtain ⟨hon, hprev, haddr, hmode, hown⟩ := boot_facts (s := s.at t) hlc b _ rfl
  have hrun : exec (.powerOnReset t b) s = .next ((s.at t).boot b).finish :=
    (exec_powerOnReset t b s).trans (congrArg _ (if_neg (by rw [show (s.at t).core.powered = false from hoff]; decide)))
  have hreg : ∀ f, ((s.at t).boot b).finish.reg f = ((s.at t).boot b).reg f := fun f => by
    unfold State.reg
    rw [finish_regs]
  refine ⟨_, hrun, by rw [finish_core]; exact hon, (hreg _).trans hprev, (hreg _).trans haddr, ?_, (hreg _).trans hown⟩
  rw [hreg, hreg, hmode]
  have hlatch : (latchCounts b (s.at t).vka = true) = (s.vka.gecko = true ∧ b.vddAbsentMs < 1000) := by
    unfold latchCounts
    rw [Bool.and_eq_true, decide_eq_true_eq]
    rfl
  unfold firstChoice
  simp only [hlatch]
  rfl

end Sys2Proof.FirstModes

namespace Sys2Proof.HoldupEnds

open Sys2Proof Sys2Proof.Machine Sys2Proof.Laws Sys2Proof.LoadSteps Sys2Proof.Readings Sys2Proof.JournalFrame Sys2Proof.EventWrites
  Sys2Proof.BayPhases Sys2Proof.PhaseTrims Sys2Proof.BayLosses Sys2Proof.FirstModes

/-! RUN is entered from HOLDUP (R211). -/

/-- The registers an entry to RUN is told by. -/
def runRegs : List Field :=
  [Reg.GL_MODE, Reg.GL_MODE_PREV, Reg.GL_MODE_CAUSE, Reg.HUP_STAT_STAGE, Reg.HUP_FLAGS_RETURN, Reg.HUP_FLAGS_FORCED]

/-- Those registers stay. -/
def RunKept (s u : State) : Prop := ∀ f ∈ runRegs, u.reg f = s.reg f

namespace RunKept

variable {s u : State}

theorem refl (s : State) : RunKept s s := fun _ _ => rfl

theorem trans {v : State} (h : RunKept s u) (k : RunKept u v) : RunKept s v := fun f hf => (k f hf).trans (h f hf)

theorem of_eq (hr : u.regs = s.regs) : RunKept s u := fun f _ => by unfold State.reg; rw [hr]

/-- An operation whose frame holds neither page 0x02 nor page 0x1A. -/
theorem of_frame {P G : Nat} (h : Frame P G s u) (hG : ∀ f ∈ runRegs, G.testBit f.onPage = false) : RunKept s u :=
  fun f hf => h.f_regs f 0 (hG f hf)

theorem put (s : State) {f : Field} (hf : ∀ g ∈ runRegs, g.place ≠ f.place) (v : Nat) : RunKept s (s.put f v) :=
  fun g hg => reg_put_other _ _ _ _ (hf g hg)

/-- An operation that writes what an event may and no more. -/
theorem of_only (h : OnlyRegs probFields s u) : RunKept s u := by
  have hmem : ∀ f ∈ runRegs, f.place ∉ probFields.map Field.place ∧ f.place ∉ recorderFields.map Field.place := by decide
  exact fun f hf => h f 0 (hmem f hf).1 (hmem f hf).2

end RunKept

theorem probFields_mem : ∀ f ∈ probFields, f.place ∈ probFields.map Field.place := fun _ hf => List.mem_map_of_mem hf

theorem onlyRegs_loadAtQuadrant {s u : State} (h : OnlyRegs probFields s u) (k : LoadKind) (cause : Nat) :
    OnlyRegs probFields s (u.loadAtQuadrant k cause) := fun f i a b => h f i a b

theorem onlyRegs_revertGo {s u : State} (h : OnlyRegs probFields s u) :
    OnlyRegs probFields s (u.revertGo fun s => s.loadAtQuadrant .revert 0x06) := by
  unfold State.revertGo
  split
  · exact onlyRegs_revertRefused h probFields_mem
  · have hj := onlyRegs_journal h (fun f hf => probFields_mem f (List.mem_append_right _ hf))
      ((SameButJournal.refl u).jAppend (.probation ⟨u.reg Reg.IMG_VER, 3, u.img.probCount⟩))
    have hput := onlyRegs_put (onlyRegs_put hj Reg.IMG_STAT_PROB 3 (by decide)) Reg.GL_STAT_PROBATION 0 (by decide)
    exact fun f i a b => hput f i a b

theorem onlyRegs_deferredNow (s : State) : OnlyRegs probFields s s.deferredNow := by
  have hput : OnlyRegs probFields s ({ s with core.deferred := none }.put Reg.GL_STAT_RLDPEND 0) :=
    onlyRegs_put (u := { s with core.deferred := none }) (onlyRegs_of_regs _ rfl) _ _ (by decide)
  unfold State.deferredNow
  split
  · exact onlyRegs_of_regs _ rfl
  · dsimp only
    split
    · exact onlyRegs_revertGo hput
    · exact onlyRegs_loadAtQuadrant hput _ _
    · exact onlyRegs_loadAtQuadrant hput _ _

theorem kept_runEntered (s : State) : RunKept s s.runEntered :=
  (RunKept.of_frame (frame_firstRun (Frame.refl 0x2800020 0x100000 s) (by decide) (by decide)) (by decide)).trans
    (.of_only (onlyRegs_deferredNow _))

/-- HOLDUP left behind, and its time shown. -/
def holdupLeft (s : State) : State := ((s.put Reg.HUP_STAT_STAGE stMains).rtOff).putSat Reg.HUP_HUPTIME
  ((((s.put Reg.HUP_STAT_STAGE stMains).rtOff)).msSince (((s.put Reg.HUP_STAT_STAGE stMains).rtOff)).hup.outAt)

/-- The return told. -/
def returnTold (s : State) : State :=
  { s with sup.mover := .none, sup.cycIn := true, sup.trkDone := false }.flag Reg.HUP_FLAGS_RETURN

/-- The return's event. -/
def returnRaised (s : State) : State := s.raise 0x1103 1 0x09 (s.reg Reg.HUP_HUPTIME) (s.reg Reg.HUP_HUPWH)

theorem handbackDone_eq (s : State) : s.handbackDone =
    ((returnRaised (returnTold ((holdupLeft s).changeMode modeRun 0x02))).parkedDone.eligRun true).runEntered := rfl

theorem kept_returnRaised (s : State) : RunKept s (returnRaised s) :=
  .of_frame (frame_raise_low (Frame.refl 0x1040 0xc000000020 s) _ _ _ _ _ (by decide) (by decide) (by decide)) (by decide)

theorem kept_afterReturn (s : State) : RunKept s (((returnRaised s).parkedDone.eligRun true).runEntered) :=
  (((kept_returnRaised s).trans (.of_frame (frame_parkedDone (Frame.refl 0x2001040 0xc000100020 _) (by decide) (by decide)) (by decide))).trans
    (.of_frame (frame_eligRun (Frame.refl 0x20000000 0 _) true (by decide) (by decide)) (by decide))).trans (kept_runEntered _)

/-- What shows RUN entered from HOLDUP. -/
structure InRun (u : State) : Prop where
  mode : u.reg Reg.GL_MODE = modeRun
  cause : u.reg Reg.GL_MODE_CAUSE = 0x02
  prev : u.reg Reg.GL_MODE_PREV = modeHoldup
  stage : u.reg Reg.HUP_STAT_STAGE = stMains
  told : u.reg Reg.HUP_FLAGS_RETURN = 1

theorem handbackDone_facts {s : State} (hmode : s.mode = modeHoldup) :
    InRun s.handbackDone ∧ s.handbackDone.reg Reg.HUP_FLAGS_FORCED = s.reg Reg.HUP_FLAGS_FORCED := by
  have hleft : (holdupLeft s).mode = modeHoldup := by
    refine Eq.trans ?_ hmode
    exact (reg_put_other _ _ _ _ (by decide)).trans ((reg_put_other _ _ _ _ (by decide)).trans (reg_put_other _ _ _ _ (by decide)))
  have hstage : (holdupLeft s).reg Reg.HUP_STAT_STAGE = stMains :=
    (reg_put_other _ _ _ _ (by decide)).trans ((reg_put_other _ _ _ _ (by decide)).trans (reg_put_same _ _ _))
  have hforced : (holdupLeft s).reg Reg.HUP_FLAGS_FORCED = s.reg Reg.HUP_FLAGS_FORCED :=
    (reg_put_other _ _ _ _ (by decide)).trans ((reg_put_other _ _ _ _ (by decide)).trans (reg_put_other _ _ _ _ (by decide)))
  obtain ⟨hrun, hprev, hcause, -, -, -⟩ := changeMode_entered (holdupLeft s) (new := modeRun) (cause := 0x02) (by decide) (by decide) (by decide)
    (by rw [hleft]; decide)
  rw [hleft] at hprev
  have honly := onlyRegs_changeMode (onlyRegs_of_regs (u := holdupLeft s) modeFields rfl) (fun f hf => List.mem_map_of_mem hf) modeRun 0x02
  have hstage' := (honly Reg.HUP_STAT_STAGE 0 (by decide) (by decide)).trans hstage
  have hforced' := (honly Reg.HUP_FLAGS_FORCED 0 (by decide) (by decide)).trans hforced
  rw [handbackDone_eq]
  generalize (holdupLeft s).changeMode modeRun 0x02 = c at *
  have hkept := kept_afterReturn (returnTold c)
  have hother : ∀ f : Field, f.place ≠ Field.place Reg.HUP_FLAGS_RETURN → (returnTold c).reg f = c.reg f := fun f hf =>
    reg_put_other { c with sup.mover := .none, sup.cycIn := true, sup.trkDone := false } _ _ _ hf
  exact ⟨⟨(hkept _ (by decide)).trans ((hother _ (by decide)).trans hrun), (hkept _ (by decide)).trans ((hother _ (by decide)).trans hcause),
    (hkept _ (by decide)).trans ((hother _ (by decide)).trans hprev), (hkept _ (by decide)).trans ((hother _ (by decide)).trans hstage'),
    (hkept _ (by decide)).trans (reg_put_same { c with sup.mover := .none, sup.cycIn := true, sup.trkDone := false } _ _)⟩,
    (hkept _ (by decide)).trans ((hother _ (by decide)).trans hforced')⟩

theorem InRun.ended {t : Edges} {s u : State} (h : InRun u) : InRun (ended t s fun _ => u) :=
  ⟨(ended_reg _ _ _ _).trans h.mode, (ended_reg _ _ _ _).trans h.cause, (ended_reg _ _ _ _).trans h.prev, (ended_reg _ _ _ _).trans h.stage,
    (ended_reg _ _ _ _).trans h.told⟩

/-! The bays brought back one by one (R210). -/

/-- BAYENb high and the phase target of a bay brought back. -/
structure Risen (b : Nat) (s : State) : Prop where
  low : (s.bay b).enLow = false
  released : (s.bay b).released = false
  target : s.regAt Reg.PH_NT b = 6

namespace Risen

variable {b : Nat} {s u : State}

theorem of_bays (h : Risen b s) (hb : SameBays s u) (hr : u.regAt Reg.PH_NT b = s.regAt Reg.PH_NT b) : Risen b u :=
  ⟨(hb.part BaySt.enLow (fun _ _ => rfl) b).trans h.low, (hb.part BaySt.released (fun _ _ => rfl) b).trans h.released, hr.trans h.target⟩

theorem of_frame {P G : Nat} (h : Risen b s) (hf : Frame P G s u) (hP : P.testBit 23 = false) (hG : G.testBit 16 = false) : Risen b u :=
  h.of_bays (.of_bays (hf.f_bays hP)) (hf.f_regs _ b hG)

theorem setBay (hb : b < 8) (h : Risen b s) {v : BaySt} (hlow : v.enLow = (s.bay b).enLow) (hrel : v.released = false) : Risen b (s.setBay b v) :=
  ⟨by rw [bay_setBay_same _ _ _ hb, hlow]; exact h.low, by rw [bay_setBay_same _ _ _ hb]; exact hrel, h.target⟩

theorem setBst (hb : b < 8) (h : Risen b s) (st : Nat) : Risen b (s.setBst b st) := by
  have hset : ∀ v : BaySt, v.enLow = (s.bay b).enLow → v.released = (s.bay b).released →
      Risen b (((s.setBay b v).putAt Reg.SHR_BAYST b st).flag Reg.SHR_FLAGS_BAYCHG) := fun v hlow hrel =>
    ((h.setBay hb hlow (hrel.trans h.released)).of_bays (u := (s.setBay b v).putAt Reg.SHR_BAYST b st) (.of_bays rfl)
      (regAt_putAt_other _ _ _ _ _ _ (by decide))).of_bays (u := ((s.setBay b v).putAt Reg.SHR_BAYST b st).put Reg.SHR_FLAGS_BAYCHG 1)
      (.of_bays rfl) (regAt_put_other _ _ _ _ _ (by decide))
  unfold State.setBst
  dsimp only
  refine hset _ ?_ ?_ <;> split <;> split <;> rfl

end Risen

/-- A LEAP leaves the phase targets. -/
theorem leap_target (s : State) (n mask j : Nat) : (s.leap n mask).regAt Reg.PH_NT j = s.regAt Reg.PH_NT j := by
  have hstart : OnlyRegsQuiet (refreshFields ++ stateFields) s (leapStarted n s) :=
    onlyRegs_setPst (onlyRegsQuiet_putAt (u := s.setPh n { s.ph n with bal := 0, first := true, ton := 0, rail := 0 })
      (onlyRegsQuiet_of_regs _ rfl) Reg.PH_BAL _ _ (by decide)) n phCond (by decide)
  have hrefresh := onlyRegs_phRefresh hstart (n / 6) (by decide)
  rw [leap_eq, raise_regAt _ _ _ _ _ _ (by decide) _ (by decide), bumpAt_eq, bumpAt_eq, regAt_putAt_other _ _ _ _ _ _ (by decide),
    regAt_putAt_other _ _ _ _ _ _ (by decide)]
  exact hrefresh _ j (by decide)

section
variable {b : Nat} (hb : b < 8) {s : State} (h : Risen b s)
include hb h

omit hb in
theorem risen_shareRefresh : Risen b (s.shareRefresh b) :=
  h.of_frame (frame_shareRefresh (Frame.refl 0 0x100000 s) b (by decide) (by decide)) (by decide) (by decide)

theorem risen_joined : Risen b (s.joined b) :=
  (risen_shareRefresh ((h.setBay hb (v := { s.bay b with w := 1, zeroAt := none, leaveEj := false }) rfl h.released).setBst hb bayActive)).of_frame
    (frame_raise_low (Frame.refl 0x1040 0xc000000020 _) _ _ _ _ _ (by decide) (by decide) (by decide)) (by decide) (by decide)

theorem risen_bayStart (n : Nat) (full : Bool) : Risen b (s.bayStart b n full) := by
  have hstart : ∀ v : BaySt, v.enLow = (s.bay b).enLow → v.released = false →
      Risen b ((((s.setBay b v).setBst b bayJoin).leap n 32).shareRefresh b) := fun v hlow hrel =>
    risen_shareRefresh (((h.setBay hb hlow hrel).setBst hb bayJoin).of_bays (leap_bays _ _ _) (leap_target _ _ _ _))
  unfold State.bayStart
  dsimp only
  split
  · exact risen_joined hb (hstart _ rfl rfl)
  · exact hstart _ rfl rfl

theorem risen_tryJoin : Risen b (s.tryJoin b) := by
  unfold State.tryJoin
  dsimp only
  split
  · split
    · exact h
    · exact risen_bayStart hb h _ _
  · exact h

theorem risen_bayReady : Risen b (s.bayReady b) := by
  have hset : Risen b (s.setBay b { s.bay b with okFrom := none }) := h.setBay hb rfl h.released
  unfold State.bayReady
  dsimp only
  split
  · split
    · exact risen_tryJoin hb hset
    · exact risen_tryJoin hb ((hset.setBst hb bayInrush).of_frame
        (frame_closeReq (Frame.refl 0x1000000 0x100000000 _) b (by decide) (by decide)) (by decide) (by decide))
  · exact h

omit h in
theorem restartBay_risen : Risen b (s.restartBay b) := by
  let v : BaySt := { s.bay b with enLow := false, released := false, okFrom := some s.now, insAt := s.now }
  have htarget : ((s.setBay b v).setNt b 6).regAt Reg.PH_NT b = 6 :=
    (regAt_putAt_other _ Reg.TRK_NT _ _ _ _ (by decide)).trans (regAt_putAt_same _ _ _ _)
  have hbay : ((s.setBay b v).setNt b 6).bay b = v := bay_setBay_same _ _ _ hb
  exact risen_bayReady hb ⟨by rw [hbay], by rw [hbay], htarget⟩

end

/-! The deadlines (R209-R212). -/

section
variable (t : Edges) (s : State)

/-- The window of the ride-through judged. -/
def windowJudged (s : State) : State :=
  match s.hup.outTick with
  | none => s
  | some p => if p + 65536 * s.reg Reg.HUP_RTW ≤ s.wheelPos then s.rtOff else s

theorem exec_rideThroughWindowEnd : exec (.rideThroughWindowEnd t) s = live t s windowJudged := rfl

theorem exec_restartStagger : exec (.restartStagger t) s = live t s fun s =>
    if s.hup.waiting ≠ [] ∧ s.hup.nextAt ≤ s.now ∧ s.supUp then s.staggerNext else s := rfl

/-- RESTART without a bay told. -/
def restartForced (s : State) : State :=
  { s.flag Reg.HUP_FLAGS_FORCED with hup.rstTold := true }.raise 0x1107 4 0x09 (maskOf s.joinedBays) (satNat 32 (toUnitNat (s.hup.iTick / 100)))

theorem exec_restartTimeout : exec (.restartTimeout t) s = live t s fun s =>
    if s.mode = modeHoldup ∧ s.stage = stRestart ∧ s.supUp ∧ s.hup.rstTold = false ∧ s.elapsed s.hup.rstAt (s.reg Reg.HUP_RSTO * edgeMs) then
      if s.joinedBays ≠ [] then s.toWalkup else restartForced s
    else s := rfl

/-- Since when every string has been quiet in HANDBACK. -/
def quietSince (s : State) : Option Nat :=
  match s.hup.quietAt with
  | none => none
  | some q => some (max q s.hup.hbAt)

theorem exec_handbackQuiet : exec (.handbackQuiet t) s = live t s fun s =>
    if s.mode = modeHoldup ∧ s.stage = stHandback ∧ s.supUp ∧ s.ran (quietSince s) (s.reg Reg.HUP_HBT * edgeMs) then s.handbackDone else s := rfl

/-- The return forced while some string still discharges. -/
def returnForced (s : State) : State :=
  (s.flag Reg.HUP_FLAGS_FORCED).raise 0x1108 3 0x09
    (maskOf (strIds.filter (fun k => decide (((s.reg Reg.STP_SAGI * 100 : Nat) : Rat) ≤ s.strDischarge k))))
    (satNat 32 (toUnitNat ((strIds.map s.strDischarge).foldl max 0 / 100)))

theorem exec_handbackTimeout : exec (.handbackTimeout t) s = live t s fun s =>
    if s.mode = modeHoldup ∧ s.stage = stHandback ∧ s.supUp ∧ s.elapsed s.hup.hbAt (s.reg Reg.HUP_HBTO * edgeMs) then
      (returnForced s).handbackDone
    else s := rfl

/-- The end of a hold judged. -/
def holdJudged (s : State) : State :=
  match s.hup.holdEnd with
  | none => s
  | some e => if e ≤ s.now ∧ s.supUp then (s.raise 0x1182 1 0x09 s.qualMask 0).holdOver else s

theorem exec_chatterHoldEnd : exec (.chatterHoldEnd t) s = live t s holdJudged := rfl

end

theorem ended_stage (t : Edges) (s : State) (f : State → State) : (ended t s f).stage = (f (s.at t)).stage := ended_reg _ _ _ _

theorem ended_modeOf (t : Edges) (s : State) (f : State → State) : (ended t s f).mode = (f (s.at t)).mode := ended_reg _ _ _ _

section
variable {t : Edges} {s : State} (hp : s.core.powered = true)
include hp

theorem does_windowEnd {p : Nat} (hout : s.hup.outTick = some p) (hdue : p + 65536 * s.reg Reg.HUP_RTW ≤ (s.at t).wheelPos) :
    Does (.rideThroughWindowEnd t) s fun u => u.reg Reg.HUP_STAT_RTARM = 0 ∧ OnlyRegsQuiet [Reg.HUP_STAT_RTARM] s u := by
  have hjudged : windowJudged (s.at t) = (s.at t).rtOff := by
    unfold windowJudged
    rw [show (s.at t).hup.outTick = some p from hout]
    exact if_pos hdue
  exact does_of_effect hp (exec_rideThroughWindowEnd t s) hjudged ⟨(ended_reg _ _ _ _).trans (reg_put_same _ _ _),
    onlyRegsQuiet_ended (onlyRegsQuiet_put (onlyRegsQuiet_of_regs (u := s.at t) _ rfl) _ _ (by decide))⟩

theorem does_windowEnd_early {p : Nat} (hout : s.hup.outTick = some p) (hearly : (s.at t).wheelPos < p + 65536 * s.reg Reg.HUP_RTW) :
    Does (.rideThroughWindowEnd t) s fun u => u.hup = s.hup ∧ OnlyRegsQuiet [] s u := by
  have hjudged : windowJudged (s.at t) = s.at t := by
    unfold windowJudged
    rw [show (s.at t).hup.outTick = some p from hout]
    exact if_neg (Nat.not_le.mpr hearly)
  exact does_of_effect hp (exec_rideThroughWindowEnd t s) hjudged ⟨ended_hup _ _ _, onlyRegsQuiet_ended (onlyRegsQuiet_of_regs _ rfl)⟩

omit hp in
/-- The next bay of the stagger taken off the list. -/
theorem staggerNext_cons {z : State} {b : Nat} {rest : List Nat} (hw : z.hup.waiting = b :: rest) :
    z.staggerNext = { z with hup.waiting := rest, hup.nextAt := z.now + z.reg Reg.HUP_STAG * edgeMs }.restartBay b := by
  unfold State.staggerNext
  rw [hw]

theorem does_stagger (b : Bay) (hhead : s.hup.waiting.head? = some b.val) (hup : s.supUp = true) (hdue : s.hup.nextAt ≤ max s.now t) :
    Does (.restartStagger t) s fun u => u.hup.waiting = s.hup.waiting.tail ∧ u.hup.nextAt = max s.now t + s.reg Reg.HUP_STAG * edgeMs ∧
      (u.bay b).enLow = false ∧ (u.bay b).released = false ∧ u.regAt Reg.PH_NT b = 6 := by
  obtain ⟨rest, hw⟩ : ∃ rest, s.hup.waiting = b.val :: rest := by
    cases hl : s.hup.waiting with
    | nil => rw [hl] at hhead; exact absurd hhead (by simp)
    | cons c rest =>
      rw [hl] at hhead
      exact ⟨rest, congrArg (· :: rest) (Option.some.inj hhead)⟩
  have hwait : (s.at t).hup.waiting = b.val :: rest := hw
  let z : State := { s.at t with hup.waiting := rest, hup.nextAt := (s.at t).now + (s.at t).reg Reg.HUP_STAG * edgeMs }
  obtain ⟨hlow, hrel, hnt⟩ := restartBay_risen b.isLt (s := z)
  have hkeep := (frame_restartBay (Frame.refl 0x3c01040 0xc100330020 z) b (by decide) (by decide)).f_hup (by decide)
  refine does_of_effect hp (exec_restartStagger t s) ((if_pos ⟨by rw [hwait]; exact List.cons_ne_nil _ _, hdue, hup⟩).trans (staggerNext_cons hwait)) ?_
  rw [ended_hup, ended_bay, ended_regAt, hw]
  exact ⟨congrArg HupSt.waiting hkeep, congrArg HupSt.nextAt hkeep, hlow, hrel, hnt⟩

theorem does_stagger_early (hearly : max s.now t < s.hup.nextAt) : Does (.restartStagger t) s fun u =>
    u.hup = s.hup ∧ u.bays = s.bays ∧ OnlyRegsQuiet [] s u :=
  does_of_effect hp (exec_restartStagger t s) (if_neg fun ⟨_, h, _⟩ => Nat.not_le.mpr hearly h)
    ⟨ended_hup _ _ _, ended_bays _ _ _, onlyRegsQuiet_ended (onlyRegsQuiet_of_regs _ rfl)⟩

section
variable (hdue : s.mode = modeHoldup ∧ s.stage = stRestart ∧ s.supUp = true ∧ s.hup.rstTold = false ∧
  s.hup.rstAt + s.reg Reg.HUP_RSTO * edgeMs ≤ max s.now t)
include hdue

omit hp in
theorem restartRow : (s.at t).mode = modeHoldup ∧ (s.at t).stage = stRestart ∧ (s.at t).supUp = true ∧ (s.at t).hup.rstTold = false ∧
    (s.at t).elapsed (s.at t).hup.rstAt ((s.at t).reg Reg.HUP_RSTO * edgeMs) = true := by
  obtain ⟨hmode, hstage, hup, htold, hran⟩ := hdue
  exact ⟨hmode, hstage, hup, htold, decide_eq_true hran⟩

theorem does_restart_walkup (hjoined : s.joinedBays ≠ []) : Does (.restartTimeout t) s fun u =>
    u.stage = stWalkup ∧ u.sup.mover = .walk ∧ u.mode = modeHoldup := by
  refine does_of_effect hp (exec_restartTimeout t s) ((if_pos (restartRow hdue)).trans (if_pos hjoined)) ?_
  rw [ended_stage, ended_sup, ended_modeOf]
  refine ⟨reg_put_same _ _ _, rfl, ?_⟩
  refine Eq.trans ?_ hdue.1
  exact (reg_put_other _ _ _ _ (by decide)).trans ((reg_put_other _ _ _ _ (by decide)).trans ((reg_put_other _ _ _ _ (by decide)).trans
    (reg_put_other _ _ _ _ (by decide))))

theorem does_restart_forced (hnone : s.joinedBays = []) : Does (.restartTimeout t) s fun u => u.stage = stRestart ∧ u.hup.rstTold = true ∧
    u.reg Reg.HUP_FLAGS_FORCED = 1 ∧ Raised 0x1107 4 0 (satNat 32 (toUnitNat (s.hup.iTick / 100))) s u := by
  let z : State := { (s.at t).flag Reg.HUP_FLAGS_FORCED with hup.rstTold := true }
  have hforced : restartForced (s.at t) = z.raise 0x1107 4 0x09 0 (satNat 32 (toUnitNat (s.hup.iTick / 100))) := by
    unfold restartForced
    rw [show (s.at t).joinedBays = [] from hnone]
    rfl
  refine does_of_effect hp (exec_restartTimeout t s) ((if_pos (restartRow hdue)).trans ((if_neg (not_not.mpr hnone)).trans hforced)) ?_
  rw [ended_stage, ended_hup, ended_reg]
  have hz : ∀ f, z.reg f = ((s.at t).put Reg.HUP_FLAGS_FORCED 1).reg f := fun _ => rfl
  have hother : ∀ f : Field, f.place ≠ Field.place Reg.HUP_FLAGS_FORCED → z.reg f = s.reg f := fun f hf =>
    (hz f).trans (reg_put_other _ _ _ _ hf)
  refine ⟨?_, ?_, ?_, raised_ended (raised_now (by decide) rfl (hother _ (by decide)))⟩
  · exact (raise_reg _ _ _ _ _ _ (by decide) _ (by decide)).trans ((hother _ (by decide)).trans hdue.2.1)
  · rw [raise_hup _ _ _ _ _ _ (by decide)]
  · exact (raise_reg _ _ _ _ _ _ (by decide) _ (by decide)).trans ((hz _).trans (reg_put_same _ _ _))

end

theorem does_restart_early (hnot : ¬(s.mode = modeHoldup ∧ s.stage = stRestart ∧ s.supUp = true ∧ s.hup.rstTold = false ∧
    s.hup.rstAt + s.reg Reg.HUP_RSTO * edgeMs ≤ max s.now t)) : Does (.restartTimeout t) s fun u =>
      u.hup = s.hup ∧ u.sup = s.sup ∧ OnlyRegsQuiet [] s u :=
  does_of_effect hp (exec_restartTimeout t s) (if_neg fun ⟨hmode, hstage, hup, htold, hran⟩ =>
      hnot ⟨hmode, hstage, hup, htold, of_decide_eq_true hran⟩)
    ⟨ended_hup _ _ _, ended_sup _ _ _, onlyRegsQuiet_ended (onlyRegsQuiet_of_regs _ rfl)⟩

end

section
variable {t : Edges} {s : State} (hp : s.core.powered = true)
include hp

section
variable (hready : s.mode = modeHoldup ∧ s.stage = stHandback ∧ s.supUp = true)
include hready

theorem does_handbackQuiet {q : Nat} (hq : s.hup.quietAt = some q) (hdue : max q s.hup.hbAt + s.reg Reg.HUP_HBT * edgeMs ≤ max s.now t) :
    Does (.handbackQuiet t) s InRun := by
  have hran : (s.at t).ran (quietSince (s.at t)) ((s.at t).reg Reg.HUP_HBT * edgeMs) = true := by
    unfold quietSince
    rw [show (s.at t).hup.quietAt = some q from hq]
    exact decide_eq_true hdue
  obtain ⟨hmode, hstage, hup⟩ := hready
  exact does_of_effect hp (exec_handbackQuiet t s) (if_pos ⟨hmode, hstage, hup, hran⟩) (handbackDone_facts (s := s.at t) hmode).1.ended

theorem does_handbackTimeout (hdue : s.hup.hbAt + s.reg Reg.HUP_HBTO * edgeMs ≤ max s.now t) :
    Does (.handbackTimeout t) s fun u => InRun u ∧ u.reg Reg.HUP_FLAGS_FORCED = 1 := by
  obtain ⟨hmode, hstage, hup⟩ := hready
  have hmode' : (returnForced (s.at t)).mode = modeHoldup :=
    (raise_reg _ _ _ _ _ _ (by decide) _ (by decide)).trans ((reg_put_other (s.at t) _ _ _ (by decide)).trans hmode)
  have hforced : (returnForced (s.at t)).reg Reg.HUP_FLAGS_FORCED = 1 :=
    (raise_reg _ _ _ _ _ _ (by decide) _ (by decide)).trans (reg_put_same (s.at t) _ _)
  obtain ⟨hrun, hkept⟩ := handbackDone_facts hmode'
  exact does_of_effect hp (exec_handbackTimeout t s) (if_pos ⟨hmode, hstage, hup, decide_eq_true hdue⟩)
    ⟨hrun.ended, (ended_reg _ _ _ _).trans (hkept.trans hforced)⟩

end

theorem does_handbackQuiet_early {q : Nat} (hq : s.hup.quietAt = some q)
    (hearly : max s.now t < max q s.hup.hbAt + s.reg Reg.HUP_HBT * edgeMs) : Does (.handbackQuiet t) s fun u =>
      u.hup = s.hup ∧ u.sup = s.sup ∧ OnlyRegsQuiet [] s u := by
  have hran : (s.at t).ran (quietSince (s.at t)) ((s.at t).reg Reg.HUP_HBT * edgeMs) = false := by
    unfold quietSince
    rw [show (s.at t).hup.quietAt = some q from hq]
    exact decide_eq_false (Nat.not_le.mpr hearly)
  exact does_of_effect hp (exec_handbackQuiet t s) (if_neg fun ⟨_, _, _, h⟩ => Bool.false_ne_true (hran.symm.trans h))
    ⟨ended_hup _ _ _, ended_sup _ _ _, onlyRegsQuiet_ended (onlyRegsQuiet_of_regs _ rfl)⟩

theorem does_handbackTimeout_early (hearly : max s.now t < s.hup.hbAt + s.reg Reg.HUP_HBTO * edgeMs) : Does (.handbackTimeout t) s fun u =>
    u.hup = s.hup ∧ u.sup = s.sup ∧ OnlyRegsQuiet [] s u :=
  does_of_effect hp (exec_handbackTimeout t s) (if_neg fun ⟨_, _, _, h⟩ => Nat.not_le.mpr hearly (of_decide_eq_true h))
    ⟨ended_hup _ _ _, ended_sup _ _ _, onlyRegsQuiet_ended (onlyRegsQuiet_of_regs _ rfl)⟩

end

/-! The end of a chatter hold (R212). -/

/-- The hold's end, its time left and the mode stay. -/
structure HoldKept (s u : State) : Prop where
  hold : u.hup.holdEnd = s.hup.holdEnd
  left : u.reg Reg.HUP_HOLDLEFT = s.reg Reg.HUP_HOLDLEFT
  mode : u.mode = s.mode

namespace HoldKept

variable {s u : State}

theorem refl (s : State) : HoldKept s s := ⟨rfl, rfl, rfl⟩

theorem trans {v : State} (h : HoldKept s u) (k : HoldKept u v) : HoldKept s v := ⟨k.hold.trans h.hold, k.left.trans h.left, k.mode.trans h.mode⟩

theorem of_frame {P G : Nat} (h : Frame P G s u) (hP : P.testBit 32 = false) (hG : G.testBit 26 = false) (hM : G.testBit 2 = false) : HoldKept s u :=
  ⟨congrArg HupSt.holdEnd (h.f_hup hP), h.f_regs Reg.HUP_HOLDLEFT 0 hG, h.f_regs Reg.GL_MODE 0 hM⟩

theorem put (s : State) {f : Field} (hf : ∀ g ∈ [Reg.HUP_HOLDLEFT, Reg.GL_MODE], g.place ≠ f.place) (v : Nat) : HoldKept s (s.put f v) :=
  ⟨rfl, reg_put_other _ _ _ _ (hf _ (by decide)), reg_put_other _ _ _ _ (hf _ (by decide))⟩

end HoldKept

/-- RESTART begun: the bays it brings back. -/
def restartBegun (s : State) : State :=
  { s with hup.waiting := s.restartSet, hup.rstAt := s.now, hup.rstTold := false, sup.mover := .none }.put Reg.HUP_STAT_STAGE stRestart

/-- A bay that waits for its turn. -/
def restartWaits (s : State) (b : Nat) : State :=
  if (s.setBay b { s.bay b with enLow := true }).bst b = bayDeep then (s.setBay b { s.bay b with enLow := true }).setBst b bayPfc
  else s.setBay b { s.bay b with enLow := true }

theorem toRestart_eq (s : State) : s.toRestart = (s.restartSet.foldl restartWaits (restartBegun s)).staggerNext := rfl

theorem frame_restartWaits (s : State) (b : Nat) : Frame 0x800000 0x100000 s (restartWaits s b) := by
  have hset := frame_setBay (Frame.refl 0x800000 0x100000 s) b { s.bay b with enLow := true } (by decide) (by decide)
  unfold restartWaits
  split
  · exact frame_setBst hset b bayPfc (by decide) (by decide)
  · exact hset

theorem frame_restartWaits_all (l : List Nat) (s : State) : Frame 0x800000 0x100000 s (l.foldl restartWaits s) := by
  induction l generalizing s with
  | nil => exact Frame.refl _ _ s
  | cons b l ih => exact (frame_restartWaits s b).trans (ih _)

theorem staggerNext_kept (s : State) : HoldKept s s.staggerNext ∧ s.staggerNext.stage = s.stage := by
  unfold State.staggerNext
  split
  · exact ⟨.refl s, rfl⟩
  next b rest _ =>
    let z : State := { s with hup.waiting := rest, hup.nextAt := s.now + s.reg Reg.HUP_STAG * edgeMs }
    have hrun := frame_restartBay (Frame.refl 0x3c01040 0xc100330020 z) b (by decide) (by decide)
    have hnoted : HoldKept s z := ⟨rfl, rfl, rfl⟩
    exact ⟨hnoted.trans (.of_frame hrun (by decide) (by decide) (by decide)), hrun.f_regs Reg.HUP_STAT_STAGE 0 (by decide)⟩

theorem toRestart_facts (s : State) : HoldKept s s.toRestart ∧ s.toRestart.stage = stRestart := by
  let z : State := { s with hup.waiting := s.restartSet, hup.rstAt := s.now, hup.rstTold := false, sup.mover := .none }
  have hput := HoldKept.put z (f := Reg.HUP_STAT_STAGE) (by decide) stRestart
  have hbegun : HoldKept s (restartBegun s) := ⟨hput.hold, hput.left, hput.mode⟩
  have hstage : (restartBegun s).stage = stRestart := reg_put_same z _ _
  have hwait := frame_restartWaits_all s.restartSet (restartBegun s)
  obtain ⟨hnext, hshown⟩ := staggerNext_kept (s.restartSet.foldl restartWaits (restartBegun s))
  rw [toRestart_eq]
  exact ⟨(hbegun.trans (.of_frame hwait (by decide) (by decide) (by decide))).trans hnext,
    hshown.trans ((hwait.f_regs Reg.HUP_STAT_STAGE 0 (by decide)).trans hstage)⟩

/-- The hold ended. -/
def holdEnded (s : State) : State := { s with hup.holdEnd := none }.put Reg.HUP_HOLDLEFT 0

theorem holdOver_eq (s : State) : s.holdOver =
    if (holdEnded s).mode ≠ modeHoldup then
      (if (holdEnded s).stage = stHeld then (holdEnded s).put Reg.HUP_STAT_STAGE stBattery else holdEnded s)
    else if (holdEnded s).anyQualified ∧ (holdEnded s).stage = stWalkdown then
      ({ holdEnded s with sup.mover := .none }.rejoinAll).toRestart
    else if (holdEnded s).anyQualified ∧ (holdEnded s).stage = stHeld then (holdEnded s).toRestart
    else if (holdEnded s).stage = stHeld then (holdEnded s).put Reg.HUP_STAT_STAGE stBattery
    else holdEnded s := rfl

theorem holdOver_kept (s : State) : HoldKept (holdEnded s) s.holdOver := by
  have hbattery : HoldKept (holdEnded s) ((holdEnded s).put Reg.HUP_STAT_STAGE stBattery) := .put _ (by decide) _
  have hjoin := frame_rejoinAll (Frame.refl 0x3c01040 0xc100130020 { holdEnded s with sup.mover := .none }) (by decide) (by decide)
  have hrejoined : HoldKept (holdEnded s) { holdEnded s with sup.mover := .none }.rejoinAll :=
    ⟨congrArg HupSt.holdEnd (hjoin.f_hup (by decide)), hjoin.f_regs Reg.HUP_HOLDLEFT 0 (by decide), hjoin.f_regs Reg.GL_MODE 0 (by decide)⟩
  rw [holdOver_eq]
  split
  · split
    · exact hbattery
    · exact .refl _
  · split
    · exact hrejoined.trans (toRestart_facts _).1
    · split
      · exact (toRestart_facts _).1
      · split
        · exact hbattery
        · exact .refl _

theorem holdOver_stage {s : State} (hmode : (holdEnded s).mode = modeHoldup) (hheld : (holdEnded s).stage = stHeld) :
    s.holdOver.stage = if (holdEnded s).anyQualified then stRestart else stBattery := by
  rw [holdOver_eq, if_neg (not_not.mpr hmode), hheld, if_neg fun h => absurd h.2 (by decide)]
  cases hq : (holdEnded s).anyQualified with
  | true =>
    rw [if_pos ⟨rfl, rfl⟩]
    exact (toRestart_facts _).2
  | false =>
    rw [if_neg fun h => Bool.false_ne_true h.1, if_pos rfl]
    exact reg_put_same _ _ _

section
variable {t : Edges} {s : State} (hp : s.core.powered = true) {e : Nat} (hhold : s.hup.holdEnd = some e)
include hp hhold

theorem does_chatterEnd (hdue : e ≤ max s.now t) (hup : s.supUp = true) : Does (.chatterHoldEnd t) s fun u =>
    u.hup.holdEnd = none ∧ u.reg Reg.HUP_HOLDLEFT = 0 ∧ u.mode = s.mode ∧
    (s.mode = modeHoldup → s.stage = stHeld → u.stage = if s.anyQualified then stRestart else stBattery) := by
  let z := (s.at t).raise 0x1182 1 0x09 (s.at t).qualMask 0
  have hjudged : holdJudged (s.at t) = z.holdOver := by
    unfold holdJudged
    rw [show (s.at t).hup.holdEnd = some e from hhold]
    exact if_pos ⟨hdue, hup⟩
  have hev : ∀ f : Field, onRecPages f = false → f.place ≠ Field.place Reg.HUP_HOLDLEFT → (holdEnded z).reg f = s.reg f := fun f hf hne =>
    (reg_put_other { z with hup.holdEnd := none } _ _ _ hne).trans (raise_reg _ _ _ _ _ _ (by decide) _ hf)
  have hmode : (holdEnded z).mode = s.mode := hev _ (by decide) (by decide)
  have hstage : (holdEnded z).stage = s.stage := hev _ (by decide) (by decide)
  have hqual : (holdEnded z).anyQualified = s.anyQualified := by
    unfold State.anyQualified State.feedSt
    dsimp only
    rw [hev _ (by decide) (by decide), hev _ (by decide) (by decide)]
  have hleft : (holdEnded z).reg Reg.HUP_HOLDLEFT = 0 := reg_put_same { z with hup.holdEnd := none } _ _
  have hnone : (holdEnded z).hup.holdEnd = none := rfl
  have hkept := holdOver_kept z
  have hshown := holdOver_stage (s := z)
  generalize holdEnded z = w at *
  refine does_of_effect hp (exec_chatterHoldEnd t s) hjudged ?_
  rw [ended_hup, ended_reg, ended_modeOf, ended_stage]
  refine ⟨hkept.hold.trans hnone, hkept.left.trans hleft, hkept.mode.trans hmode, fun hm hst => ?_⟩
  rw [← hqual]
  exact hshown (hmode.trans hm) (hstage.trans hst)

theorem does_chatterEnd_early (hearly : max s.now t < e) : Does (.chatterHoldEnd t) s fun u => u.hup = s.hup ∧ OnlyRegsQuiet [] s u := by
  have hjudged : holdJudged (s.at t) = s.at t := by
    unfold holdJudged
    rw [show (s.at t).hup.holdEnd = some e from hhold]
    exact if_neg fun h => Nat.not_le.mpr hearly h.1
  exact does_of_effect hp (exec_chatterHoldEnd t s) hjudged ⟨ended_hup _ _ _, onlyRegsQuiet_ended (onlyRegsQuiet_of_regs _ rfl)⟩

end

theorem InRun.shown {u : State} (h : InRun u) : u.mode = modeRun ∧ u.reg Reg.GL_MODE_CAUSE = 0x02 ∧ u.reg Reg.GL_MODE_PREV = modeHoldup ∧
    u.stage = stMains ∧ u.reg Reg.HUP_FLAGS_RETURN = 1 := ⟨h.mode, h.cause, h.prev, h.stage, h.told⟩

/-- Settles O37: each deadline is a row of its command, and what it brings about leaves the rest of HOLDUP's registers. -/
theorem holdupDeadlines : Obligations.HoldupDeadlines := by
  intro t s hp
  refine ⟨fun p hout => ⟨fun hdue => does_windowEnd hp hout hdue, fun hearly => does_windowEnd_early hp hout hearly⟩,
    fun b hhead hup => ⟨fun hdue => does_stagger hp b hhead hup hdue, fun hearly => does_stagger_early hp hearly⟩,
    ⟨fun hdue hjoined => does_restart_walkup hp hdue hjoined, fun hdue hnone => does_restart_forced hp hdue hnone,
      fun hnot => does_restart_early hp hnot⟩, ?_,
    fun e hhold => ⟨fun hdue hup => does_chatterEnd hp hhold hdue hup, fun hearly => does_chatterEnd_early hp hhold hearly⟩⟩
  refine ⟨fun q hq hready hdue => ?_, fun q hq hearly => does_handbackQuiet_early hp hq hearly, fun hready hdue => ?_,
    fun hearly => does_handbackTimeout_early hp hearly⟩
  · obtain ⟨hmode, hstage, hup, -⟩ := hready
    obtain ⟨u, hu, hrun⟩ := does_handbackQuiet hp ⟨hmode, hstage, hup⟩ hq hdue
    exact ⟨u, hu, hrun.shown⟩
  · obtain ⟨hmode, hstage, hup, -⟩ := hready
    obtain ⟨u, hu, hrun, hforced⟩ := does_handbackTimeout hp ⟨hmode, hstage, hup⟩ hdue
    exact ⟨u, hu, hrun.shown, hforced⟩

end Sys2Proof.HoldupEnds

namespace Sys2Proof.CommandTimes

open Sys2Proof Sys2Proof.Machine Sys2Proof.Laws Sys2Proof.CommandFrames

/-! The time of a state is its command's alone (assumption 1): `State.at` sets it, and no operation a command is made of moves it. -/

/-- Every part of the state but its time. -/
abbrev timeless : Nat := 0x1ffffffffd

abbrev everyPage : Nat := 0xffffffffffffffff

theorem still (s : State) : Frame timeless everyPage s s := Frame.refl _ _ s

/-! What a command's meaning is built with keeps the time where its parts keep it. -/

theorem ite_now {p : Prop} [Decidable p] {a b s : State} (ha : a.now = s.now) (hb : b.now = s.now) :
    (if p then a else b).now = s.now := by
  split <;> assumption

theorem foldl_now {α : Type} {f : State → α → State} (hf : ∀ s a, (f s a).now = s.now) (l : List α) (s : State) :
    (l.foldl f s).now = s.now := by
  induction l generalizing s with
  | nil => rfl
  | cons a l ih => exact (ih _).trans (hf s a)

theorem live_now {t : Edges} {s u : State} {f : State → State} (h : live t s f = .next u) (hf : ∀ z, (f z).now = z.now) :
    u.now = max s.now t := by
  obtain rfl := Host.Outcome.next.inj h
  split
  · rw [finish_now, decided_now, hf, at_now]
  · rfl

theorem hostWrite_now {t : Edges} {s u : State} {f : State → State} (h : hostWrite t s f = .next u) (hf : ∀ z, (f z).now = z.now) :
    u.now = max s.now t :=
  live_now h fun z => ite_now (hf z) rfl

section

variable {s : State} {key : Byte} {f : State → State}

@[simp] theorem modeCommand_now (hf : ∀ z, (f z).now = z.now) : (s.modeCommand key f).now = s.now :=
  ite_now rfl (ite_now (hf s) rfl)

@[simp] theorem pinCommand_now (hf : ∀ z, (f z).now = z.now) : (s.pinCommand key f).now = s.now :=
  ite_now rfl (ite_now (hf s) rfl)

@[simp] theorem twinCommand_now (hf : ∀ z, (f z).now = z.now) : (s.twinCommand key f).now = s.now :=
  ite_now rfl (ite_now (hf s) rfl)

@[simp] theorem upCommand_now (hf : ∀ z, (f z).now = z.now) : (s.upCommand key f).now = s.now :=
  ite_now rfl (ite_now (hf s) rfl)

end

/-! The writes of a register, of a slot and of the log. -/

@[simp] theorem putB_now (s : State) (f : Field) (b : Bool) : (s.putB f b).now = s.now := rfl

@[simp] theorem flag_now (s : State) (f : Field) : (s.flag f).now = s.now := rfl

@[simp] theorem bump_now (s : State) (f : Field) : (s.bump f).now = s.now := rfl

@[simp] theorem addTo_now (s : State) (f : Field) (n : Nat) : (s.addTo f n).now = s.now := rfl

@[simp] theorem putBit_now (s : State) (f : Field) (k : Nat) (b : Bool) : (s.putBit f k b).now = s.now := rfl

@[simp] theorem putAtB_now (s : State) (f : Field) (i : Nat) (b : Bool) : (s.putAtB f i b).now = s.now := rfl

@[simp] theorem putAtSat_now (s : State) (f : Field) (i v : Nat) : (s.putAtSat f i v).now = s.now := rfl

@[simp] theorem bumpAt_now (s : State) (f : Field) (i : Nat) : (s.bumpAt f i).now = s.now := rfl

@[simp] theorem takeFree_now (s : State) : s.takeFree.2.now = s.now := rfl

@[simp] theorem unpower_now (s : State) : s.unpower.now = s.now := rfl

@[simp] theorem setSlot_now (s : State) (b : Bool) (m : Memory) : (s.setSlot b m).now = s.now := by
  cases b <;> rfl

/-- Whatever its severity. -/
@[simp] theorem event_now (s : State) (code sev unit p0 p1 : Nat) : (s.raise code sev unit p0 p1).now = s.now :=
  (frame_raise (still s) code sev unit p0 p1 (by decide) (by decide)).f_now rfl

/-! The operations of the blocks: none has the time in its frame. -/

@[simp] theorem acquire_now (s : State) (freq : Nat) : (s.acquire freq).now = s.now :=
  (frame_acquire (still s) freq (by decide) (by decide)).f_now rfl

@[simp] theorem araRead_now (s : State) (won : Bool) : (s.araRead won).now = s.now :=
  (frame_araRead (still s) won (by decide) (by decide)).f_now rfl

@[simp] theorem backoffEnd_now (s : State) (p : PortId) : (s.backoffEnd p).now = s.now :=
  (frame_backoffEnd (still s) p (by decide) (by decide)).f_now rfl

@[simp] theorem batchDone_now (s : State) (upTo : Nat) : (s.batchDone upTo).now = s.now :=
  (frame_batchDone (still s) upTo (by decide) (by decide)).f_now rfl

@[simp] theorem bayGone_now (s : State) (b : Nat) : (s.bayGone b).now = s.now :=
  (frame_bayGone (still s) b (by decide) (by decide)).f_now rfl

@[simp] theorem bayInserted_now (s : State) (b : Nat) : (s.bayInserted b).now = s.now :=
  (frame_bayInserted (still s) b (by decide) (by decide)).f_now rfl

@[simp] theorem bayReady_now (s : State) (b : Nat) : (s.bayReady b).now = s.now :=
  (frame_bayReady (still s) b (by decide) (by decide)).f_now rfl

@[simp] theorem bayToFault_now (s : State) (b : Nat) : (s.bayToFault b).now = s.now :=
  (frame_bayToFault (still s) b (by decide) (by decide)).f_now rfl

@[simp] theorem bootPins_now (s : State) (b : BootIn) : (s.bootPins b).now = s.now :=
  (frame_bootPins (still s) b (by decide) (by decide)).f_now rfl

@[simp] theorem bootRead_now (s : State) (b : BootIn) : (s.bootRead b).now = s.now :=
  (frame_bootRead (still s) b (by decide) (by decide)).f_now rfl

@[simp] theorem bootWake_now (s : State) (b : BootIn) : (s.bootWake b).now = s.now :=
  (frame_bootWake (still s) b (by decide) (by decide)).f_now rfl

@[simp] theorem busRecovery_now (s : State) (p : PortId) (r : Recovery) : (s.busRecovery p r).now = s.now :=
  (frame_busRecovery (still s) p r (by decide) (by decide)).f_now rfl

@[simp] theorem calRun_now (s : State) (e : Nat) : (s.calRun e).now = s.now :=
  (frame_calRun (still s) e (by decide) (by decide)).f_now rfl

@[simp] theorem capsuleCommit_now (s : State) (last : Bool) : (s.capsuleCommit last).now = s.now :=
  (frame_capsuleCommit (still s) last (by decide) (by decide)).f_now rfl

@[simp] theorem captureDone_now (s : State) (k : Fin 2) (samples : List Code) : (s.captureDone k samples).now = s.now :=
  (frame_captureDone (still s) k samples (by decide) (by decide)).f_now rfl

@[simp] theorem changeMode_now (s : State) (new cause : Nat) : (s.changeMode new cause).now = s.now :=
  (frame_changeMode (still s) new cause (by decide) (by decide)).f_now rfl

@[simp] theorem chargePeriod_now (s : State) (k : Nat) : (s.chargePeriod k).now = s.now :=
  (frame_chargePeriod (still s) k (by decide) (by decide)).f_now rfl

@[simp] theorem chargeStop_now (s : State) (k : Nat) : (s.chargeStop k).now = s.now :=
  (frame_chargeStop (still s) k (by decide) (by decide)).f_now rfl

@[simp] theorem clearDone_now (s : State) (c : ClearSt) : (s.clearDone c).now = s.now :=
  (frame_clearDone (still s) c (by decide) (by decide)).f_now rfl

@[simp] theorem closeWindow_now (s : State) (k : Nat) : (s.closeWindow k).now = s.now :=
  (frame_closeWindow (still s) k (by decide) (by decide)).f_now rfl

@[simp] theorem compactDone_now (s : State) : (s.compactDone).now = s.now :=
  (frame_compactDone (still s) (by decide) (by decide)).f_now rfl

@[simp] theorem compactFailed_now (s : State) : (s.compactFailed).now = s.now :=
  (frame_compactFailed (still s) (by decide) (by decide)).f_now rfl

@[simp] theorem compactStart_now (s : State) : (s.compactStart).now = s.now :=
  (frame_compactStart (still s) (by decide) (by decide)).f_now rfl

@[simp] theorem contractWrite_now (s : State) (r : List Nat) : (s.contractWrite r).now = s.now :=
  (frame_contractWrite (still s) r (by decide) (by decide)).f_now rfl

@[simp] theorem crestCheck_now (s : State) (x : Feed) (p k : Nat) (m : Rat) : (s.crestCheck x p k m).now = s.now :=
  (frame_crestCheck (still s) x p k m (by decide) (by decide)).f_now rfl

@[simp] theorem crystalActs_now (s : State) : (s.crystalActs).now = s.now :=
  (frame_crystalActs (still s) (by decide) (by decide)).f_now rfl

@[simp] theorem cycleEnd_now (s : State) (x : Feed) (leads : Bool) : (s.cycleEnd x leads).now = s.now :=
  (frame_cycleEnd (still s) x leads (by decide) (by decide)).f_now rfl

@[simp] theorem debugRequest_now (s : State) (level : Nat) : (s.debugRequest level).now = s.now :=
  (frame_debugRequest (still s) level (by decide) (by decide)).f_now rfl

@[simp] theorem decisionTick_now (s : State) : (s.decisionTick).now = s.now :=
  (frame_decisionTick (still s) (by decide) (by decide)).f_now rfl

@[simp] theorem deepSag_now (s : State) : (s.deepSag).now = s.now :=
  (frame_deepSag (still s) (by decide) (by decide)).f_now rfl

@[simp] theorem discardTrim_now (s : State) (n : Nat) : (s.discardTrim n).now = s.now :=
  (frame_discardTrim (still s) n (by decide) (by decide)).f_now rfl

@[simp] theorem ejectFall_now (s : State) (b : Nat) : (s.ejectFall b).now = s.now :=
  (frame_ejectFall (still s) b (by decide) (by decide)).f_now rfl

@[simp] theorem ejectRise_now (s : State) (b : Nat) : (s.ejectRise b).now = s.now :=
  (frame_ejectRise (still s) b (by decide) (by decide)).f_now rfl

@[simp] theorem endSession_now (s : State) (why : Nat) : (s.endSession why).now = s.now :=
  (frame_endSession (still s) why (by decide) (by decide)).f_now rfl

@[simp] theorem endToken_now (s : State) (why : Nat) : (s.endToken why).now = s.now :=
  (frame_endToken (still s) why (by decide) (by decide)).f_now rfl

@[simp] theorem enterLockout_now (s : State) (cause : Nat) : (s.enterLockout cause).now = s.now :=
  (frame_enterLockout (still s) cause (by decide) (by decide)).f_now rfl

@[simp] theorem eraseSectors_now (s : State) (k n : Nat) : (s.eraseSectors k n).now = s.now :=
  (frame_eraseSectors (still s) k n (by decide) (by decide)).f_now rfl

@[simp] theorem estPage_now (s : State) : (s.estPage).now = s.now :=
  (frame_estPage (still s) (by decide) (by decide)).f_now rfl

@[simp] theorem estWake_now (s : State) : (s.estWake).now = s.now :=
  (frame_estWake (still s) (by decide) (by decide)).f_now rfl

@[simp] theorem evaluate_now (s : State) (i code : Nat) (die : Int) : (s.evaluate i code die).now = s.now :=
  (frame_evaluate (still s) i code die (by decide) (by decide)).f_now rfl

@[simp] theorem feClear_now (s : State) (b : Nat) (key : Byte) : (s.feClear b key).now = s.now :=
  (frame_feClear (still s) b key (by decide) (by decide)).f_now rfl

@[simp] theorem feedLose_now (s : State) (x : Feed) (why phase : Nat) : (s.feedLose x why phase).now = s.now :=
  (frame_feedLose (still s) x why phase (by decide) (by decide)).f_now rfl

@[simp] theorem feEnd_now (s : State) (b act : Nat) : (s.feEnd b act).now = s.now :=
  (frame_feEnd (still s) b act (by decide) (by decide)).f_now rfl

@[simp] theorem ffDecay_now (s : State) (k : Nat) : (s.ffDecay k).now = s.now :=
  (frame_ffDecay (still s) k (by decide) (by decide)).f_now rfl

@[simp] theorem ffShow_now (s : State) (k : Nat) : (s.ffShow k).now = s.now :=
  (frame_ffShow (still s) k (by decide) (by decide)).f_now rfl

@[simp] theorem firstMode_now (s : State) : (s.firstMode).now = s.now :=
  (frame_firstMode (still s) (by decide) (by decide)).f_now rfl

@[simp] theorem flushKick_now (s : State) : (s.flushKick).now = s.now :=
  (frame_flushKick (still s) (by decide) (by decide)).f_now rfl

@[simp] theorem flushTrigger_now (s : State) (sev : Nat) : (s.flushTrigger sev).now = s.now :=
  (frame_flushTrigger (still s) sev (by decide) (by decide)).f_now rfl

@[simp] theorem followingError_now (s : State) (b : Nat) : (s.followingError b).now = s.now :=
  (frame_followingError (still s) b (by decide) (by decide)).f_now rfl

@[simp] theorem frameReceive_now (s : State) (f : TwinFrame) : (s.frameReceive f).now = s.now :=
  (frame_frameReceive (still s) f (by decide) (by decide)).f_now rfl

@[simp] theorem frameSlot_now (s : State) : (s.frameSlot).now = s.now :=
  (frame_frameSlot (still s) (by decide) (by decide)).f_now rfl

@[simp] theorem fusCleared_now (s : State) (c how : Nat) : (s.fusCleared c how).now = s.now :=
  (frame_fusCleared (still s) c how (by decide) (by decide)).f_now rfl

@[simp] theorem fusClr_now (s : State) (c : Nat) (key : Byte) : (s.fusClr c key).now = s.now :=
  (frame_fusClr (still s) c key (by decide) (by decide)).f_now rfl

@[simp] theorem fuseSample_now (s : State) (c : Nat) (fi fv fgs : Code) : (s.fuseSample c fi fv fgs).now = s.now :=
  (frame_fuseSample (still s) c fi fv fgs (by decide) (by decide)).f_now rfl

@[simp] theorem fusLatch_now (s : State) (c : Nat) : (s.fusLatch c).now = s.now :=
  (frame_fusLatch (still s) c (by decide) (by decide)).f_now rfl

@[simp] theorem fusMeasure_now (s : State) (c : Nat) : (s.fusMeasure c).now = s.now :=
  (frame_fusMeasure (still s) c (by decide) (by decide)).f_now rfl

@[simp] theorem fusOnNow_now (s : State) (c : Nat) : (s.fusOnNow c).now = s.now :=
  (frame_fusOnNow (still s) c (by decide) (by decide)).f_now rfl

@[simp] theorem fusOpened_now (s : State) (c : Nat) : (s.fusOpened c).now = s.now :=
  (frame_fusOpened (still s) c (by decide) (by decide)).f_now rfl

@[simp] theorem fusRetryNow_now (s : State) (c : Nat) : (s.fusRetryNow c).now = s.now :=
  (frame_fusRetryNow (still s) c (by decide) (by decide)).f_now rfl

@[simp] theorem fusTrip_now (s : State) (c kind : Nat) : (s.fusTrip c kind).now = s.now :=
  (frame_fusTrip (still s) c kind (by decide) (by decide)).f_now rfl

@[simp] theorem grantReadback_now (s : State) (id : Nat) : (s.grantReadback id).now = s.now :=
  (frame_grantReadback (still s) id (by decide) (by decide)).f_now rfl

@[simp] theorem grantWrite_now (s : State) (res : BusResult) : (s.grantWrite res).now = s.now :=
  (frame_grantWrite (still s) res (by decide) (by decide)).f_now rfl

@[simp] theorem handbackDone_now (s : State) : (s.handbackDone).now = s.now :=
  (frame_handbackDone (still s) (by decide) (by decide)).f_now rfl

@[simp] theorem healthRefresh_now (s : State) : (s.healthRefresh).now = s.now :=
  (frame_healthRefresh (still s) (by decide) (by decide)).f_now rfl

@[simp] theorem holdOver_now (s : State) : (s.holdOver).now = s.now :=
  (frame_holdOver (still s) (by decide) (by decide)).f_now rfl

@[simp] theorem hostNotify_now (s : State) (res : BusResult) : (s.hostNotify res).now = s.now :=
  (frame_hostNotify (still s) res (by decide) (by decide)).f_now rfl

@[simp] theorem icClaim_now (s : State) : (s.icClaim).now = s.now :=
  (frame_icClaim (still s) (by decide) (by decide)).f_now rfl

@[simp] theorem icComplete_now (s : State) (id : Nat) : (s.icComplete id).now = s.now :=
  (frame_icComplete (still s) id (by decide) (by decide)).f_now rfl

@[simp] theorem icRelease_now (s : State) (g : Fin 16) (i : Fin 128) : (s.icRelease g i).now = s.now :=
  (frame_icRelease (still s) g i (by decide) (by decide)).f_now rfl

@[simp] theorem imonCurrent_now (s : State) (n code : Nat) : (s.imonCurrent n code).now = s.now :=
  (frame_imonCurrent (still s) n code (by decide) (by decide)).f_now rfl

@[simp] theorem imonOffset_now (s : State) (n code : Nat) : (s.imonOffset n code).now = s.now :=
  (frame_imonOffset (still s) n code (by decide) (by decide)).f_now rfl

@[simp] theorem inject_now (s : State) (k : Nat) : (s.inject k).now = s.now :=
  (frame_inject (still s) k (by decide) (by decide)).f_now rfl

@[simp] theorem inrushTrip_now (s : State) (c kind : Nat) : (s.inrushTrip c kind).now = s.now :=
  (frame_inrushTrip (still s) c kind (by decide) (by decide)).f_now rfl

@[simp] theorem insertBegin_now (s : State) (k : Nat) : (s.insertBegin k).now = s.now :=
  (frame_insertBegin (still s) k (by decide) (by decide)).f_now rfl

@[simp] theorem insertCheck_now (s : State) (k : Nat) : (s.insertCheck k).now = s.now :=
  (frame_insertCheck (still s) k (by decide) (by decide)).f_now rfl

@[simp] theorem jAppend_now (s : State) (p : JPayload) : (s.jAppend p).now = s.now :=
  (frame_jAppend (still s) p (by decide) (by decide)).f_now rfl

@[simp] theorem jAppendAll_now (s : State) (ps : List JPayload) : (s.jAppendAll ps).now = s.now :=
  (frame_jAppendAll (still s) ps (by decide) (by decide)).f_now rfl

@[simp] theorem jDrain_now (s : State) : (s.jDrain).now = s.now :=
  (frame_jDrain (still s) (by decide) (by decide)).f_now rfl

@[simp] theorem katResolve_now (s : State) : (s.katResolve).now = s.now :=
  (frame_katResolve (still s) (by decide) (by decide)).f_now rfl

@[simp] theorem learning_now (s : State) (k : Nat) : (s.learning k).now = s.now :=
  (frame_learning (still s) k (by decide) (by decide)).f_now rfl

@[simp] theorem leaveDone_now (s : State) (b : Nat) : (s.leaveDone b).now = s.now :=
  (frame_leaveDone (still s) b (by decide) (by decide)).f_now rfl

@[simp] theorem leShctl_now (s : State) (mask : Nat) : (s.leShctl mask).now = s.now :=
  (frame_leShctl (still s) mask (by decide) (by decide)).f_now rfl

@[simp] theorem linkFault_now (s : State) : (s.linkFault).now = s.now :=
  (frame_linkFault (still s) (by decide) (by decide)).f_now rfl

@[simp] theorem lockoutCommand_now (s : State) : (s.lockoutCommand).now = s.now :=
  (frame_lockoutCommand (still s) (by decide) (by decide)).f_now rfl

@[simp] theorem logFetch_now (s : State) : (s.logFetch).now = s.now :=
  (frame_logFetch (still s) (by decide) (by decide)).f_now rfl

@[simp] theorem logFetched_now (s : State) : (s.logFetched).now = s.now :=
  (frame_logFetched (still s) (by decide) (by decide)).f_now rfl

@[simp] theorem logScan_now (s : State) : (s.logScan).now = s.now :=
  (frame_logScan (still s) (by decide) (by decide)).f_now rfl

@[simp] theorem loopTrigger_now (s : State) (b code : Nat) : (s.loopTrigger b code).now = s.now :=
  (frame_loopTrigger (still s) b code (by decide) (by decide)).f_now rfl

@[simp] theorem mailbox_now (s : State) (r : List Nat) : (s.mailbox r).now = s.now :=
  (frame_mailbox (still s) r (by decide) (by decide)).f_now rfl

@[simp] theorem offsetTaken_now (s : State) (n : Nat) : (s.offsetTaken n).now = s.now :=
  (frame_offsetTaken (still s) n (by decide) (by decide)).f_now rfl

@[simp] theorem openReq_now (s : State) (c : Nat) : (s.openReq c).now = s.now :=
  (frame_openReq (still s) c (by decide) (by decide)).f_now rfl

@[simp] theorem outputConversion_now (s : State) (b code : Nat) : (s.outputConversion b code).now = s.now :=
  (frame_outputConversion (still s) b code (by decide) (by decide)).f_now rfl

@[simp] theorem outResumed_now (s : State) (k : Nat) : (s.outResumed k).now = s.now :=
  (frame_outResumed (still s) k (by decide) (by decide)).f_now rfl

@[simp] theorem pfcLost_now (s : State) (b : Nat) : (s.pfcLost b).now = s.now :=
  (frame_pfcLost (still s) b (by decide) (by decide)).f_now rfl

@[simp] theorem phaseTimeout_now (s : State) (k : Nat) : (s.phaseTimeout k).now = s.now :=
  (frame_phaseTimeout (still s) k (by decide) (by decide)).f_now rfl

@[simp] theorem pinClear_now (s : State) : (s.pinClear).now = s.now :=
  (frame_pinClear (still s) (by decide) (by decide)).f_now rfl

@[simp] theorem pinClearAll_now (s : State) : (s.pinClearAll).now = s.now :=
  (frame_pinClearAll (still s) (by decide) (by decide)).f_now rfl

@[simp] theorem pinSet_now (s : State) : (s.pinSet).now = s.now :=
  (frame_pinSet (still s) (by decide) (by decide)).f_now rfl

@[simp] theorem powerFailWrites_now (s : State) : (s.powerFailWrites).now = s.now :=
  (frame_powerFailWrites (still s) (by decide) (by decide)).f_now rfl

@[simp] theorem presFall_now (s : State) (b : Nat) : (s.presFall b).now = s.now :=
  (frame_presFall (still s) b (by decide) (by decide)).f_now rfl

@[simp] theorem presRise_now (s : State) (b : Nat) : (s.presRise b).now = s.now :=
  (frame_presRise (still s) b (by decide) (by decide)).f_now rfl

@[simp] theorem probationPassed_now (s : State) : (s.probationPassed).now = s.now :=
  (frame_probationPassed (still s) (by decide) (by decide)).f_now rfl

@[simp] theorem probationSecond_now (s : State) : (s.probationSecond).now = s.now :=
  (frame_probationSecond (still s) (by decide) (by decide)).f_now rfl

@[simp] theorem rampWindow_now (s : State) (c : Nat) : (s.rampWindow c).now = s.now :=
  (frame_rampWindow (still s) c (by decide) (by decide)).f_now rfl

@[simp] theorem rawThermal_now (s : State) (i code : Nat) : (s.rawThermal i code).now = s.now :=
  (frame_rawThermal (still s) i code (by decide) (by decide)).f_now rfl

@[simp] theorem recClear_now (s : State) (all : Bool) (key : Byte) : (s.recClear all key).now = s.now :=
  (frame_recClear (still s) all key (by decide) (by decide)).f_now rfl

@[simp] theorem recFlush_now (s : State) (key : Byte) : (s.recFlush key).now = s.now :=
  (frame_recFlush (still s) key (by decide) (by decide)).f_now rfl

@[simp] theorem recSnapshot_now (s : State) (key : Byte) : (s.recSnapshot key).now = s.now :=
  (frame_recSnapshot (still s) key (by decide) (by decide)).f_now rfl

@[simp] theorem refLost_now (s : State) (why : LossReason) (bValid : Bool) : (s.refLost why bValid).now = s.now :=
  (frame_refLost (still s) why bValid (by decide) (by decide)).f_now rfl

@[simp] theorem regionDrop_now (s : State) (b : Nat) : (s.regionDrop b).now = s.now :=
  (frame_regionDrop (still s) b (by decide) (by decide)).f_now rfl

@[simp] theorem registerRead_now (s : State) (p : PortId) (off : Option Nat) (n : Nat) : (s.registerRead p off n).now = s.now :=
  (frame_registerRead (still s) p off n (by decide) (by decide)).f_now rfl

@[simp] theorem registerWrite_now (s : State) (p : PortId) (off : Nat) (d : List Nat) : (s.registerWrite p off d).now = s.now :=
  (frame_registerWrite (still s) p off d (by decide) (by decide)).f_now rfl

@[simp] theorem reload_now (s : State) : (s.reload).now = s.now :=
  (frame_reload (still s) (by decide) (by decide)).f_now rfl

@[simp] theorem restartEnd_now (s : State) (digestOk : Bool) : (s.restartEnd digestOk).now = s.now :=
  (frame_restartEnd (still s) digestOk (by decide) (by decide)).f_now rfl

@[simp] theorem restCorrect_now (s : State) (k : Nat) : (s.restCorrect k).now = s.now :=
  (frame_restCorrect (still s) k (by decide) (by decide)).f_now rfl

@[simp] theorem restoreReserves_now (s : State) : (s.restoreReserves).now = s.now :=
  (frame_restoreReserves (still s) (by decide) (by decide)).f_now rfl

@[simp] theorem resumeCommand_now (s : State) : (s.resumeCommand).now = s.now :=
  (frame_resumeCommand (still s) (by decide) (by decide)).f_now rfl

@[simp] theorem resync_now (s : State) : (s.resync).now = s.now :=
  (frame_resync (still s) (by decide) (by decide)).f_now rfl

@[simp] theorem revert_now (s : State) : (s.revert).now = s.now :=
  (frame_revert (still s) (by decide) (by decide)).f_now rfl

@[simp] theorem ridxWrite_now (s : State) (v : Nat) : (s.ridxWrite v).now = s.now :=
  (frame_ridxWrite (still s) v (by decide) (by decide)).f_now rfl

@[simp] theorem rmsWindow_now (s : State) (x : Feed) (p rms : Nat) : (s.rmsWindow x p rms).now = s.now :=
  (frame_rmsWindow (still s) x p rms (by decide) (by decide)).f_now rfl

@[simp] theorem roleShow_now (s : State) : (s.roleShow).now = s.now :=
  (frame_roleShow (still s) (by decide) (by decide)).f_now rfl

@[simp] theorem rtOff_now (s : State) : (s.rtOff).now = s.now :=
  (frame_rtOff (still s) (by decide) (by decide)).f_now rfl

@[simp] theorem sagClose_now (s : State) (k : Nat) (hand : Bool) : (s.sagClose k hand).now = s.now :=
  (frame_sagClose (still s) k hand (by decide) (by decide)).f_now rfl

@[simp] theorem scanDone_now (s : State) : (s.scanDone).now = s.now :=
  (frame_scanDone (still s) (by decide) (by decide)).f_now rfl

@[simp] theorem sclTimeout_now (s : State) (p : PortId) (idx : Nat) : (s.sclTimeout p idx).now = s.now :=
  (frame_sclTimeout (still s) p idx (by decide) (by decide)).f_now rfl

@[simp] theorem secDebugResume_now (s : State) (c : SecCmd) : (s.secDebugResume c).now = s.now :=
  (frame_secDebugResume (still s) c (by decide) (by decide)).f_now rfl

@[simp] theorem secDeploy_now (s : State) (c : SecCmd) : (s.secDeploy c).now = s.now :=
  (frame_secDeploy (still s) c (by decide) (by decide)).f_now rfl

@[simp] theorem secDropToken_now (s : State) (c : SecCmd) : (s.secDropToken c).now = s.now :=
  (frame_secDropToken (still s) c (by decide) (by decide)).f_now rfl

@[simp] theorem secHalt_now (s : State) (c : SecCmd) : (s.secHalt c).now = s.now :=
  (frame_secHalt (still s) c (by decide) (by decide)).f_now rfl

@[simp] theorem secKeyprog_now (s : State) (c : SecCmd) : (s.secKeyprog c).now = s.now :=
  (frame_secKeyprog (still s) c (by decide) (by decide)).f_now rfl

@[simp] theorem secProvision_now (s : State) (c : SecCmd) : (s.secProvision c).now = s.now :=
  (frame_secProvision (still s) c (by decide) (by decide)).f_now rfl

@[simp] theorem secRevoke_now (s : State) (c : SecCmd) : (s.secRevoke c).now = s.now :=
  (frame_secRevoke (still s) c (by decide) (by decide)).f_now rfl

@[simp] theorem secRma_now (s : State) (c : SecCmd) : (s.secRma c).now = s.now :=
  (frame_secRma (still s) c (by decide) (by decide)).f_now rfl

@[simp] theorem secTpOff_now (s : State) (c : SecCmd) : (s.secTpOff c).now = s.now :=
  (frame_secTpOff (still s) c (by decide) (by decide)).f_now rfl

@[simp] theorem secTpOn_now (s : State) (c : SecCmd) : (s.secTpOn c).now = s.now :=
  (frame_secTpOn (still s) c (by decide) (by decide)).f_now rfl

@[simp] theorem selectIndex_now (s : State) (b : Nat) (before : Coef) : (s.selectIndex b before).now = s.now :=
  (frame_selectIndex (still s) b before (by decide) (by decide)).f_now rfl

@[simp] theorem setBst_now (s : State) (b st : Nat) : (s.setBst b st).now = s.now :=
  (frame_setBst (still s) b st (by decide) (by decide)).f_now rfl

@[simp] theorem setEst0_now (s : State) (k st : Nat) : (s.setEst0 k st).now = s.now :=
  (frame_setEst0 (still s) k st (by decide) (by decide)).f_now rfl

@[simp] theorem setFf_now (s : State) (k : Nat) (v : FfSt) : (s.setFf k v).now = s.now :=
  (frame_setFf (still s) k v (by decide) (by decide)).f_now rfl

@[simp] theorem setGecko_now (s : State) (src : Nat) (temp : Int) : (s.setGecko src temp).now = s.now :=
  (frame_setGecko (still s) src temp (by decide) (by decide)).f_now rfl

@[simp] theorem setLane_now (s : State) (b : Nat) (l : Lane) : (s.setLane b l).now = s.now :=
  (frame_setLane (still s) b l (by decide) (by decide)).f_now rfl

@[simp] theorem setWarn_now (s : State) (i : Nat) (v : WarnSt) : (s.setWarn i v).now = s.now :=
  (frame_setWarn (still s) i v (by decide) (by decide)).f_now rfl

@[simp] theorem shelfSample_now (s : State) (rp : Rat) : (s.shelfSample rp).now = s.now :=
  (frame_shelfSample (still s) rp (by decide) (by decide)).f_now rfl

@[simp] theorem shipCommand_now (s : State) : (s.shipCommand).now = s.now :=
  (frame_shipCommand (still s) (by decide) (by decide)).f_now rfl

@[simp] theorem shipSeal_now (s : State) : (s.shipSeal).now = s.now :=
  (frame_shipSeal (still s) (by decide) (by decide)).f_now rfl

@[simp] theorem slewStep_now (s : State) : (s.slewStep).now = s.now :=
  (frame_slewStep (still s) (by decide) (by decide)).f_now rfl

@[simp] theorem snapFetched_now (s : State) : (s.snapFetched).now = s.now :=
  (frame_snapFetched (still s) (by decide) (by decide)).f_now rfl

@[simp] theorem snapWritten_now (s : State) (k : Fin 2) (c : Capture) : (s.snapWritten k c).now = s.now :=
  (frame_snapWritten (still s) k c (by decide) (by decide)).f_now rfl

@[simp] theorem spCommand_now (s : State) (target rate seq : Nat) : (s.spCommand target rate seq).now = s.now :=
  (frame_spCommand (still s) target rate seq (by decide) (by decide)).f_now rfl

@[simp] theorem staggerNext_now (s : State) : (s.staggerNext).now = s.now :=
  (frame_staggerNext (still s) (by decide) (by decide)).f_now rfl

@[simp] theorem stagingReset_now (s : State) (why : Nat) : (s.stagingReset why).now = s.now :=
  (frame_stagingReset (still s) why (by decide) (by decide)).f_now rfl

@[simp] theorem strClear_now (s : State) (k : Nat) (key : Byte) : (s.strClear k key).now = s.now :=
  (frame_strClear (still s) k key (by decide) (by decide)).f_now rfl

@[simp] theorem stretchLimit_now (s : State) (p : PortId) (read : Bool) : (s.stretchLimit p read).now = s.now :=
  (frame_stretchLimit (still s) p read (by decide) (by decide)).f_now rfl

@[simp] theorem stringRemoved_now (s : State) (k : Nat) (kind : RemovalKind) : (s.stringRemoved k kind).now = s.now :=
  (frame_stringRemoved (still s) k kind (by decide) (by decide)).f_now rfl

@[simp] theorem stringSample_now (s : State) (k : Nat) (q : StrCodes) : (s.stringSample k q).now = s.now :=
  (frame_stringSample (still s) k q (by decide) (by decide)).f_now rfl

@[simp] theorem strRules_now (s : State) (k : Nat) : (s.strRules k).now = s.now :=
  (frame_strRules (still s) k (by decide) (by decide)).f_now rfl

@[simp] theorem strStart_now (s : State) (k : Nat) (key : Byte) : (s.strStart k key).now = s.now :=
  (frame_strStart (still s) k key (by decide) (by decide)).f_now rfl

@[simp] theorem strStop_now (s : State) (k : Nat) (key : Byte) : (s.strStop k key).now = s.now :=
  (frame_strStop (still s) k key (by decide) (by decide)).f_now rfl

@[simp] theorem switchover_now (s : State) : (s.switchover).now = s.now :=
  (frame_switchover (still s) (by decide) (by decide)).f_now rfl

@[simp] theorem takeOver_now (s : State) (fall trig : Nat) : (s.takeOver fall trig).now = s.now :=
  (frame_takeOver (still s) fall trig (by decide) (by decide)).f_now rfl

@[simp] theorem tokenSubmit_now (s : State) (p : PortId) (d : List Byte) : (s.tokenSubmit p d).now = s.now :=
  (frame_tokenSubmit (still s) p d (by decide) (by decide)).f_now rfl

@[simp] theorem tokenVerified_now (s : State) (v : Verifying) : (s.tokenVerified v).now = s.now :=
  (frame_tokenVerified (still s) v (by decide) (by decide)).f_now rfl

@[simp] theorem toWalkup_now (s : State) : (s.toWalkup).now = s.now :=
  (frame_toWalkup (still s) (by decide) (by decide)).f_now rfl

@[simp] theorem transactionAbort_now (s : State) (p : PortId) (cond : AbortCond) (idx addr : Nat) :
    (s.transactionAbort p cond idx addr).now = s.now :=
  (frame_transactionAbort (still s) p cond idx addr (by decide) (by decide)).f_now rfl

@[simp] theorem transactionStop_now (s : State) (p : PortId) (last : Option Byte) : (s.transactionStop p last).now = s.now :=
  (frame_transactionStop (still s) p last (by decide) (by decide)).f_now rfl

@[simp] theorem trimReset_now (s : State) (n : Nat) (key : Byte) : (s.trimReset n key).now = s.now :=
  (frame_trimReset (still s) n key (by decide) (by decide)).f_now rfl

@[simp] theorem tryslots_now (s : State) (atStart : Bool) (n : Nat) (l : List Bool) : (s.tryslots atStart n l).now = s.now :=
  (frame_tryslots (still s) atStart n l (by decide) (by decide)).f_now rfl

@[simp] theorem tryStart_now (s : State) (k : Nat) : (s.tryStart k).now = s.now :=
  (frame_tryStart (still s) k (by decide) (by decide)).f_now rfl

@[simp] theorem uploadAbort_now (s : State) : (s.uploadAbort).now = s.now :=
  (frame_uploadAbort (still s) (by decide) (by decide)).f_now rfl

@[simp] theorem uploadChunk_now (s : State) (d : List Byte) : (s.uploadChunk d).now = s.now :=
  (frame_uploadChunk (still s) d (by decide) (by decide)).f_now rfl

@[simp] theorem uploadClose_now (s : State) : (s.uploadClose).now = s.now :=
  (frame_uploadClose (still s) (by decide) (by decide)).f_now rfl

@[simp] theorem uploadFailed_now (s : State) (res : Nat) : (s.uploadFailed res).now = s.now :=
  (frame_uploadFailed (still s) res (by decide) (by decide)).f_now rfl

@[simp] theorem uploadOpen_now (s : State) : (s.uploadOpen).now = s.now :=
  (frame_uploadOpen (still s) (by decide) (by decide)).f_now rfl

@[simp] theorem urgentFlush_now (s : State) : (s.urgentFlush).now = s.now :=
  (frame_urgentFlush (still s) (by decide) (by decide)).f_now rfl

@[simp] theorem warnActs_now (s : State) (c : Nat) : (s.warnActs c).now = s.now :=
  (frame_warnActs (still s) c (by decide) (by decide)).f_now rfl

@[simp] theorem warnPulse_now (s : State) (i fall rise : Nat) : (s.warnPulse i fall rise).now = s.now :=
  (frame_warnPulse (still s) i fall rise (by decide) (by decide)).f_now rfl

@[simp] theorem wheelPoint_now (s : State) (m : WheelMeas) : (s.wheelPoint m).now = s.now :=
  (frame_wheelPoint (still s) m (by decide) (by decide)).f_now rfl

@[simp] theorem whlDrop_now (s : State) : (s.whlDrop).now = s.now :=
  (frame_whlDrop (still s) (by decide) (by decide)).f_now rfl

@[simp] theorem whlTo_now (s : State) (st : Nat) : (s.whlTo st).now = s.now :=
  (frame_whlTo (still s) st (by decide) (by decide)).f_now rfl

@[simp] theorem yield_now (s : State) (trig : Nat) (back : Bool) : (s.yield trig back).now = s.now :=
  (frame_yield (still s) trig back (by decide) (by decide)).f_now rfl

/-! A bay's period. The frame law of a lane's preset is wider than the preset, which writes a duty named like the time and not the time. -/

@[simp] theorem regionStep_now (s : State) (b : Nat) : (s.regionStep b).now = s.now :=
  (frame_regionStep (still s) b (by decide) (by decide)).f_now rfl

@[simp] theorem loopCommit_now (s : State) (b : Nat) : (s.loopCommit b).now = s.now :=
  (frame_loopCommit (still s) b (by decide) (by decide)).f_now rfl

@[simp] theorem showRegion_now (s : State) (b idx : Nat) : (s.showRegion b idx).now = s.now :=
  (frame_showRegion (still s) b idx (by decide) (by decide)).f_now rfl

@[simp] theorem switchSet_now (s : State) (b : Nat) (gOld : Rat) (new : Coef) : (s.switchSet b gOld new).now = s.now :=
  (frame_switchSet (still s) b gOld new (by decide) (by decide)).f_now rfl

@[simp] theorem takeImageBay_now (s : State) (b : Nat) : (s.takeImageBay b).now = s.now :=
  (frame_takeImageBay (still s) b (by decide) (by decide)).f_now rfl

@[simp] theorem newPeriod_now (s : State) (b : Nat) : (s.newPeriod b).now = s.now :=
  (frame_newPeriod (still s) b (by decide) (by decide)).f_now rfl

@[simp] theorem tadpoleRef_now (s : State) (b : Nat) : (s.tadpoleRef b).now = s.now :=
  (frame_tadpoleRef (still s) b (by decide) (by decide)).f_now rfl

@[simp] theorem balance_now (s : State) (b : Nat) : (s.balance b).now = s.now :=
  (frame_balance (still s) b (by decide) (by decide)).f_now rfl

@[simp] theorem stripBay_now (s : State) (b : Nat) : (s.stripBay b).now = s.now :=
  (frame_stripBay (still s) b (by decide) (by decide)).f_now rfl

@[simp] theorem leaveTest_now (s : State) (b : Nat) : (s.leaveTest b).now = s.now :=
  (frame_leaveTest (still s) b (by decide) (by decide)).f_now rfl

@[simp] theorem leadTest_now (s : State) (b : Nat) : (s.leadTest b).now = s.now :=
  (frame_leadTest (still s) b (by decide) (by decide)).f_now rfl

@[simp] theorem rampPeriod_now (s : State) (b : Nat) : (s.rampPeriod b).now = s.now :=
  (frame_rampPeriod (still s) b (by decide) (by decide)).f_now rfl

@[simp] theorem addTest_now (s : State) (b : Nat) : (s.addTest b).now = s.now :=
  (frame_addTest (still s) b (by decide) (by decide)).f_now rfl

@[simp] theorem tryJoin_now (s : State) (b : Nat) : (s.tryJoin b).now = s.now :=
  (frame_tryJoin (still s) b (by decide) (by decide)).f_now rfl

@[simp] theorem pulses_now (s : State) (b : Nat) (ds : List (Nat × Int)) : (s.pulses b ds).now = s.now :=
  (frame_pulses (still s) b ds (by decide) (by decide)).f_now rfl

@[simp] theorem holdupBay_now (s : State) (b : Nat) : (s.holdupBay b).now = s.now :=
  (frame_holdupBay (still s) b (by decide) (by decide)).f_now rfl

@[simp] theorem placeTrigger_now (s : State) (b : Nat) : (s.placeTrigger b).now = s.now :=
  (frame_placeTrigger (still s) b (by decide) (by decide)).f_now rfl

@[simp] theorem respread_now (s : State) (b : Nat) : (s.respread b).1.now = s.now :=
  (frame_respread (still s) b (by decide) (by decide)).f_now rfl

@[simp] theorem lanePreset_now (s : State) (b : Nat) (k : Coef) : (s.lanePreset b k).now = s.now := rfl

@[simp] theorem lanePeriod_now (s : State) (b : Nat) : (s.lanePeriod b).now = s.now := by
  unfold State.lanePeriod
  extract_lets before s₁ was ovr s₂ tad l s₃ k s₄ y s₅ l'
  have hstart : s₂.now = s.now := loopCommit_now s b
  have hregion : s₃.now = s₂.now := by simp [s₃]
  clear_value s₂ s₃
  have hset : s₄.now = s₂.now := by
    unfold s₄ tad
    split <;> split <;> simp [hregion]
  have hshown : s₅.now = s.now := hset.trans hstart
  clear_value s₅
  split
  · exact hshown
  · split
    · exact (lanePreset_now _ _ _).trans hshown
    · split <;> exact hshown

@[simp] theorem periodStart_now (s : State) (b : Nat) : (s.periodStart b).now = s.now := by
  simp [State.periodStart]

/-- A start from nothing takes no time of its own. -/
@[simp] theorem boot_now (s : State) (b : BootIn) : (s.boot b).now = s.now := by
  simp [State.boot]

/-! What OPERATING_SECOND and CHARGE_SECOND do, named: their tests hold 6.4 × 10⁹ edges, a number the kernel must not take apart. -/

def secondPassed (s : State) : State :=
  if s.elapsed s.core.secAt edgeSec then
    ({ s with core.secAt := s.core.secAt + edgeSec }.bump Reg.JRN_OPSEC).probationSecond
  else s

theorem secondPassed_now (s : State) : (secondPassed s).now = s.now := ite_now (probationSecond_now _) rfl

def chargeSecondPassed (k : Str) (s : State) : State :=
  if s.elapsed (s.str k.val).winAt edgeSec then
    let s := s.closeWindow k.val
    if s.supUp then s.strRules k.val else s
  else s

theorem chargeSecondPassed_now (k : Str) (s : State) : (chargeSecondPassed k s).now = s.now :=
  ite_now (ite_now (by simp) (by simp)) rfl

/-! Every command. -/

/-- A command sets the time to its own instant, or leaves it where that is past. The cases go by the tests that guard a meaning. -/
theorem exec_now {c : Instr} {s u : State} (h : exec c s = .next u) : u.now = max s.now c.time := by
  cases c <;> dsimp only [exec] at h
  case powerOnReset b =>
    obtain rfl := Host.Outcome.next.inj h
    exact (ite_now rfl ((finish_now _).trans (boot_now _ _))).trans (at_now _ _)
  case rstNAsserted | supplyLoss | vkaLost =>
    obtain rfl := Host.Outcome.next.inj h
    rfl
  case shipWake | shipSecond =>
    obtain rfl := Host.Outcome.next.inj h
    split <;> rfl
  case phTrimrst | leShctl | leFeclr | setpointCommand | contractWrite | grantReadback | start | stop | clear | estRidx | fusClr |
      logCursorChange | snapshotWindowChange | switchover | resync =>
    exact hostWrite_now h fun _ => by simp
  case crystalFault | bayPeriodStart | loopTrigger | bayOutputConversion | setpointSlewStep | bayokRise | mailboxRecord | grantWrite |
      chargeEligible | stringSample | chargePeriodStart | fuseSample | fuseRampWindow | dieComparator | reload | revert | lockout |
      resume | ship | uploadOpen | uploadClose | uploadAbort | uploadChunk | pin | unpin | unpinAll | flush | clearLog | clearAll |
      snapshot | snapshotCaptureDone | twinFrameSlot | twinFrameReceive | transactionStop | transactionAbort | sclTimeout |
      stretchLimit | araRead | registerWrite | hostNotify | busRecovery | busStuckBackoff | icClaim | provision | deploy | rma |
      keyprog | revoke | halt | debugResume | tpOn | tpOff | dropToken | debugRequest | registerRead | decisionRecordTick |
      logFetchDone | snapshotFetchDone =>
    exact live_now h fun _ => by simp
  case supervisorRestart | wheelPoint | calendarEntry | referenceValid | referenceLost | wheelLock | acquireTimeout | phaseErrorCycle |
      crestCheck | rmsWindowDeadline | shedDwellExpiry | phaseOffsetTaken | followingError | feRecovered | regionDwellExpiry |
      bayOkTimeout | bayLost | bayLeaveForced | deepTimeout | warnPulse | warnStuck | warnReleased | ffHoldExpiry |
      paceReturnAcceptance | restartStagger | handbackQuiet | handbackTimeout | stringPresenceDebounce | stringInsertCheck | bokChange |
      chargeCurrentLimit | chargePhaseTimeout | estimatorNaiveTimeout | restCorrection | estimatorHibernate | capsulePeriodicExport |
      capsuleCommit | stagingTimeout | fuseRampTimeout | fuseSettleDone | fuseGateOff | fuseRetry | shipNotEntered | uploadEraseDone |
      probationPassed | journalScanDone | journalCounters | journalHourly | logScanDone | logWindowRead | deadManRelease | actinChange |
      katDone | periodicKat | icComplete =>
    exact live_now h fun _ => ite_now (by simp) rfl
  case powerFailWarning | regulationPointSample | estimatorWake | thermalEvaluation | standbyFit =>
    exact live_now h fun _ => ite_now (by simp) (by simp)
  case acZeroCrossing | presenceDebounce | restartTimeout | fuseHardTrip | fuseGateFallTimeout | dualOwner =>
    exact live_now h fun _ => ite_now (ite_now (by simp) (by simp)) rfl
  case stringPresenceChange | stringRemoval | fuseGateRiseTimeout =>
    exact live_now h fun _ => ite_now (by simp) (ite_now (by simp) rfl)
  case frequencyDeadline | rideThroughWindowEnd | chatterHoldEnd | compactionRetry | flushAge | flushBatchDone | clearEraseDone |
      snapshotWritten | takeback | irqOverdue | nonceExpiry | tokenVerified | tokenExpiry =>
    exact live_now h fun _ => by split <;> [rfl; exact ite_now (by simp) rfl]
  case imageCheckDone =>
    exact live_now h fun _ => by split <;> [rfl; exact ite_now rfl (by simp)]
  case healthRecord | renotify | nonceDraw | pllLock | boundaryScan =>
    exact live_now h fun _ => ite_now rfl rfl
  case bayPresenceChange | bayEjectChange | compactionDone | referenceInjection | tokenSubmit =>
    exact live_now h fun _ => ite_now rfl (ite_now (by simp) (by simp))
  case supervisorRestartEnd =>
    exact live_now h fun _ => by split <;> simp
  case feedAReturn | eccScrub =>
    exact live_now h fun _ => ite_now (by split <;> simp) rfl
  case operatingSecond => exact live_now (f := secondPassed) h secondPassed_now
  case clockHandover => exact live_now h fun _ => ite_now (by simp [apply_ite State.now]) rfl
  case imonSample =>
    exact live_now h fun _ => ite_now (imonCurrent_now _ _ _) (ite_now (imonOffset_now _ _ _) (ite_now (ite_now rfl rfl) rfl))
  case bayPfcLost => exact live_now h fun _ => ite_now (ite_now (event_now ..) (ite_now rfl (by simp))) rfl
  case presenceLoss100ms =>
    exact live_now h fun _ =>
      ite_now (ite_now ((foldl_now discardTrim_now _ _).trans (setFuse_now _ _ _)) rfl) (ite_now (setFuse_now _ _ _) rfl)
  case dutySaturated | ffInjection =>
    refine live_now h fun _ => ?_
    dsimp only
    split <;> [rfl; exact ite_now (by simp) rfl]
  case ffDecayStep => exact live_now h fun _ => foldl_now ffDecay_now _ _
  case sagEpisodeClose =>
    refine live_now h fun _ => ?_
    dsimp only
    split <;> [exact ite_now rfl rfl; exact ite_now (ite_now (sagClose_now ..) rfl) (ite_now (sagClose_now ..) rfl)]
  case chargeSecond => exact live_now (f := chargeSecondPassed _) h (chargeSecondPassed_now _)
  case shipFlushDone =>
    exact live_now h fun _ =>
      ite_now ((ite_now rfl (shipSeal_now _)).trans ((jAppend_now _ _).trans (ite_now (batchDone_now _ _) rfl))) rfl
  case chunkProgrammed => exact live_now h fun _ => by split <;> [rfl; exact ite_now (setSlot_now _ _ _) (by simp)]
  case twinSlotMissing =>
    exact live_now h fun z => by
      split <;> [rfl; exact ite_now ((healthRefresh_now _).trans ((linkFault_now _).trans (ite_now (s := z) rfl rfl))) rfl]
  case takeoverGapExpiry =>
    exact live_now h fun _ => by
      split <;> [rfl; exact
        ite_now rfl (ite_now (roleShow_now _) (ite_now rfl (ite_now (takeOver_now _ _ _) (ite_now (event_now ..) rfl))))]
  case ownershipContestSample =>
    exact live_now h fun _ =>
      ite_now (ite_now (roleShow_now _) (ite_now ((event_now ..).trans (ite_now (roleShow_now _) (by simp))) rfl)) rfl
  case stateTransferDone => exact live_now h fun _ => ite_now ((healthRefresh_now _).trans (ite_now rfl rfl)) rfl
  case holdoffExpiry => exact live_now h fun _ => by split <;> [rfl; exact ite_now (foldl_now (icRelease_now · _) _ _) rfl]

/-! A command that is not taken. -/

/-- Nothing is decided where nothing changed, so nothing is told (R376). -/
theorem decided_self (z : State) : z.decided z = z := by
  have hsend : ∀ (f : Field) (k u i : Nat), sendChange z f k u i z = z := fun _ _ _ _ => if_pos rfl
  unfold State.decided
  split
  · rfl
  · simp only [List.foldl_fixed', hsend, true_or, if_true, implies_true]

/-- A command that finds nothing to do leaves the time and the interrupt controller's view. -/
theorem live_idle {t : Edges} {s : State} {f : State → State} (hp : s.core.powered = true) (hf : f (s.at t) = s.at t) :
    live t s f = .next (s.at t).finish := by
  rw [live, if_pos hp, hf, decided_self]

theorem hostWrite_down {t : Edges} {s : State} {f : State → State} (hp : s.core.powered = true) (hd : s.supUp = false) :
    hostWrite t s f = .next (s.at t).finish :=
  live_idle hp (if_neg (Bool.eq_false_iff.mp hd))

/-- Without VDD a command finds nothing to act on. -/
theorem exec_unpowered {c : Instr} {s : State} (hp : s.core.powered = false) (hc : actsWithoutVdd c = false) :
    exec c s = .next (s.at c.time) := by
  cases c <;> dsimp only [exec, Instr.time]
  case powerOnReset | rstNAsserted | supplyLoss | vkaLost | shipWake | shipSecond => cases hc
  all_goals exact live_unpowered hp

theorem leaves_at (s : State) (t : Edges) : LeavesAllBut [.now] [] s (s.at t) :=
  have hframe : Frame 0x2 0x0 s (s.at t) := frame_at (Frame.refl _ _ s) t (by decide)
  ⟨fun p hp => same_of_frame hframe p (by revert hp; cases p <;> decide), fun f i _ => hframe.f_regs f i (by simp)⟩

theorem leaves_idle (s : State) (t : Edges) : LeavesAllBut [.now, .ic] [] s (s.at t).finish :=
  have hframe : Frame 0x2002 0x0 s (s.at t).finish :=
    frame_finish (frame_at (Frame.refl _ _ s) t (by decide)) (by decide) (by decide)
  ⟨fun p hp => same_of_frame hframe p (by revert hp; cases p <;> decide), fun f i _ => hframe.f_regs f i (by simp)⟩

/-- Without the supervisor a write of the host is not acknowledged (R403). -/
theorem exec_down {c : Instr} {s : State} (hp : s.core.powered = true) (hd : s.supUp = false) (hc : hostWriteOf c = true) :
    exec c s = .next (s.at c.time).finish := by
  have hdown : ∀ t, (s.at t).supUp = false := fun _ => hd
  cases c <;> dsimp only [exec, Instr.time]
  case phTrimrst | leShctl | leFeclr | setpointCommand | contractWrite | grantReadback | start | stop | clear | estRidx | fusClr |
      logCursorChange | snapshotWindowChange | switchover | resync =>
    exact hostWrite_down hp hd
  case reload | revert | lockout | resume | ship => exact live_idle hp (by simp [State.modeCommand, hdown])
  case uploadOpen | uploadClose | uploadAbort => exact live_idle hp (by simp [State.upCommand, hdown])
  case pin | unpin | unpinAll => exact live_idle hp (by simp [State.pinCommand, hdown])
  case uploadChunk => exact live_idle hp (by simp [State.uploadChunk, hdown])
  case flush => exact live_idle hp (by simp [State.recFlush, hdown])
  case clearLog | clearAll => exact live_idle hp (by simp [State.recClear, hdown])
  case snapshot => exact live_idle hp (by simp [State.recSnapshot, hdown])
  case icComplete | tokenSubmit => exact live_idle hp (by simp [hdown])
  all_goals cases hc

theorem pending_not_mem_mayChange (c : Instr) : Part.pending ∉ (mayChange c).1 := by
  cases c <;> simp [mayChange, eventParts]

/-- Settles O5: no operation moves the time or the queue, and a command that is not taken does nothing else. -/
theorem commandsAnswer : Obligations.CommandsAnswer := by
  unfold Obligations.CommandsAnswer
  intro c s
  refine ⟨?_, fun hp hc => ⟨_, exec_unpowered hp hc, leaves_at s _⟩, fun hp hd hc => ⟨_, exec_down hp hd hc, leaves_idle s _⟩⟩
  obtain ⟨u, hu⟩ := exec_completes c s
  exact ⟨u, hu, (frame_exec hu).f_pending (partMask_of_not_mem (pending_not_mem_mayChange c)), exec_now hu⟩

end Sys2Proof.CommandTimes
